-- ==== Sys2Proof/Word.lean ====
section
/-! DEFINITION. The widths the spec numbers things in: bytes, 64-bit register words and 64-bit tick times. -/

namespace Sys2Proof

/-- One byte of memory or of an entry. -/
abbrev Byte := BitVec 8

/-- The contents of a 64-bit register (R13). -/
abbrev Word := BitVec 64

/-- A tick time (R322): bits [63:16] whole nanoseconds, bits [15:0] a fraction of 1/65,536 ns. -/
abbrev TT := BitVec 64

end Sys2Proof
end

