-- ==== Sys2Proof/Machine/Bits.lean ====
section
/-! DEFINITION. Plain helpers of the machine: sparse maps in canonical form, little-endian byte strings (R12),
signed fields, tick-time comparison (R324), saturating counters, the CRCs of R258, R311 and R71, and SHA-384. -/

namespace Sys2Proof.Machine

/-! ### Sparse maps: keys strictly rising, no entry equal to what an unlisted key reads as -/

/-- A map from addresses or instance numbers, listing only the keys that differ from the default. -/
abbrev Sparse (α : Type) := List (Nat × α)

/-- What key `k` reads as; `dflt` where it is not listed. -/
def Sparse.get {α : Type} (dflt : α) (k : Nat) : Sparse α → α
  | [] => dflt
  | (a, v) :: m => if a = k then v else Sparse.get dflt k m

/-- Insert or replace `k`, keeping the keys rising. -/
def Sparse.insert {α : Type} (k : Nat) (v : α) : Sparse α → Sparse α
  | [] => [(k, v)]
  | (a, w) :: m =>
    if k < a then (k, v) :: (a, w) :: m
    else if k = a then (k, v) :: m
    else (a, w) :: Sparse.insert k v m

/-- Take `k` out of the list. -/
def Sparse.erase {α : Type} (k : Nat) : Sparse α → Sparse α
  | [] => []
  | (a, w) :: m => if a = k then Sparse.erase k m else (a, w) :: Sparse.erase k m

/-- Write `v` at `k`; writing the default takes the entry out. -/
def Sparse.put {α : Type} [DecidableEq α] (dflt : α) (k : Nat) (v : α) (m : Sparse α) : Sparse α :=
  if v = dflt then Sparse.erase k m else Sparse.insert k v m

/-- The canonical form: keys strictly rising and no entry equal to the default. -/
def Sparse.wf {α : Type} [DecidableEq α] (dflt : α) : Sparse α → Bool
  | [] => true
  | (a, v) :: m => decide (v ≠ dflt) && m.all (fun e => decide (a < e.1)) && Sparse.wf dflt m

/-! ### Bytes -/

/-- The `n` low bytes of `v`, little-endian (R12). -/
def leBytes : Nat → Nat → List Byte
  | 0, _ => []
  | n + 1, v => BitVec.ofNat 8 v :: leBytes n (v / 256)

/-- The number a little-endian byte string spells (R12). -/
def ofLE : List Byte → Nat
  | [] => 0
  | b :: bs => b.toNat + 256 * ofLE bs

/-- The number a big-endian byte string spells. -/
def ofBE (bs : List Byte) : Nat := bs.foldl (fun a b => a * 256 + b.toNat) 0

/-- The `n` low bytes of `v`, big-endian. -/
def beBytes (n v : Nat) : List Byte := (leBytes n v).reverse

/-- `n` zero bytes. -/
def zeros (n : Nat) : List Byte := List.replicate n 0

/-- Exactly `n` bytes: cut, or filled with zeros. -/
def fit (n : Nat) (bs : List Byte) : List Byte := (bs ++ zeros (n - bs.length)).take n

/-- The little-endian field of `n` bytes at offset `off` of a byte string; absent bytes read 0. -/
def fieldAt (bs : List Byte) (off n : Nat) : Nat := ofLE (fit n (bs.drop off))

/-- Replace the bytes of `bs` from `off` on by `new`, keeping the length. -/
def patch (bs : List Byte) (off : Nat) (new : List Byte) : List Byte :=
  (bs.take off ++ new ++ bs.drop (off + new.length)).take bs.length

/-- Byte string laid out as consecutive little-endian fields (size, value). -/
def layout (fs : List (Nat × Nat)) : List Byte := fs.flatMap (fun f => leBytes f.1 f.2)

/-! ### Numbers -/

/-- Bit `n` of a number. -/
def bit (v n : Nat) : Bool := v.testBit n

/-- 1 for true. -/
def b2n (b : Bool) : Nat := if b then 1 else 0

/-- The `w`-bit field of `v` at bit `lo`. -/
def bits (v lo w : Nat) : Nat := v / 2 ^ lo % 2 ^ w

/-- The two's complement value of the low `w` bits. -/
def sgn (w v : Nat) : Int :=
  let u := v % 2 ^ w
  if 2 * u < 2 ^ w then (u : Int) else (u : Int) - (2 ^ w : Nat)

/-- The `w`-bit two's complement code of an integer. -/
def code (w : Nat) (i : Int) : Nat := (i % ((2 ^ w : Nat) : Int)).toNat

/-- `v + n`, held at the largest `w`-bit value. -/
def satAdd (w v n : Nat) : Nat := min (v + n) (2 ^ w - 1)

/-- `v` kept between `lo` and `hi`. -/
def clamp (lo hi v : Nat) : Nat := max lo (min hi v)

/-- `v` kept between `lo` and `hi`. -/
def clampI (lo hi v : Int) : Int := max lo (min hi v)

/-- The quotient rounded up. -/
def ceilDiv (a b : Nat) : Nat := (a + b - 1) / b

/-- The smallest multiple of `b` at or above `a`. -/
def roundUp (a b : Nat) : Nat := ceilDiv a b * b

/-! ### Tick time -/

/-- `a − b` as the signed 64-bit difference (R324). -/
def ttDiff (a b : TT) : Int := (a - b).toInt

/-- `a` has come to or passed `b` (R324). -/
def ttGe (a b : TT) : Bool := decide (0 ≤ ttDiff a b)

/-- A whole number of nanoseconds in TT format. -/
def ttNs (n : Nat) : TT := BitVec.ofNat 64 (n * 65536)

/-- The whole-nanosecond part. -/
def ttWhole (t : TT) : Nat := t.toNat / 65536

/-- The ranges `[a, a+n)` and `[b, b+m)` have a byte in common. -/
def overlaps (a n b m : Nat) : Bool := decide (a < b + m ∧ b < a + n ∧ 0 < n ∧ 0 < m)

/-! ### Check sums -/

/-- One bit of an unreflected CRC. -/
def crcBitMsb (w poly crc : Nat) (inBit : Bool) : Nat :=
  let top := xor (crc.testBit (w - 1)) inBit
  let sh := crc * 2 % 2 ^ w
  if top then sh ^^^ poly else sh

/-- One byte of an unreflected CRC, most significant bit first. -/
def crcByteMsb (w poly crc : Nat) (b : Byte) : Nat :=
  [7, 6, 5, 4, 3, 2, 1, 0].foldl (fun c i => crcBitMsb w poly c (b.toNat.testBit i)) crc

/-- CRC-64 in the ECMA-182 form (R258). -/
def crc64From (crc : Nat) (bs : List Byte) : Nat := bs.foldl (crcByteMsb 64 0x42F0E1EBA9EA3693) crc

/-- CRC-64 of a byte string, from initial value 0 (R258). -/
def crc64 (bs : List Byte) : Nat := crc64From 0 bs

/-- CRC-16 of R193, R198 and R200: polynomial 0x1021, initial value 0xFFFF (log entry 30). -/
def crc16 (bs : List Byte) : Nat := bs.foldl (crcByteMsb 16 0x1021) 0xFFFF

/-- One byte of a reflected CRC. -/
def crcByteLsb (rpoly crc : Nat) (b : Byte) : Nat :=
  [0, 1, 2, 3, 4, 5, 6, 7].foldl
    (fun c _ => if c.testBit 0 then (c / 2) ^^^ rpoly else c / 2) (crc ^^^ b.toNat)

/-- CRC-32C (R311): polynomial 0x1EDC_6F41 reflected, initial value and final XOR all ones. -/
def crc32c (bs : List Byte) : Nat :=
  (bs.foldl (crcByteLsb 0x82F63B78) 0xFFFFFFFF) ^^^ 0xFFFFFFFF

/-- The frame check sequence of IEEE 802.3 (R178, R179). -/
def crc32 (bs : List Byte) : Nat :=
  (bs.foldl (crcByteLsb 0xEDB88320) 0xFFFFFFFF) ^^^ 0xFFFFFFFF

/-! ### SHA-384 (FIPS 180-4) -/

/-- The primes the constants are drawn from. -/
def shaPrimes : List Nat :=
  (List.range 410).filter (fun n => decide (2 ≤ n) && (List.range n).all (fun q => decide (q < 2 ∨ n % q ≠ 0)))

/-- The first 64 fraction bits of the `k`-th root of `p`: the integer root of `p · 2^(64 k)`, found bit by bit. -/
def rootFraction (k p : Nat) : Word :=
  BitVec.ofNat 64 ((List.range 70).foldr (fun i r => if (r + 2 ^ i) ^ k ≤ p * 2 ^ (64 * k) then r + 2 ^ i else r) 0)

/-- Round constants: from the cube roots of the first 80 primes. -/
def shaKeys : List Word := shaPrimes.map (rootFraction 3)

/-- SHA-384's initial hash value: from the square roots of the ninth to sixteenth primes. -/
def shaStart : List Word := ((shaPrimes.drop 8).take 8).map (rootFraction 2)

/-- The message schedule, held newest first: one more word. -/
def shaExtend (w : List Word) : List Word :=
  let g := fun i => w.getD i 0
  let s0 := (g 14).rotateRight 1 ^^^ (g 14).rotateRight 8 ^^^ (g 14) >>> 7
  let s1 := (g 1).rotateRight 19 ^^^ (g 1).rotateRight 61 ^^^ (g 1) >>> 6
  (g 15 + s0 + g 6 + s1) :: w

/-- The eighty schedule words of one block, in order. -/
def shaSchedule (block : List Word) : List Word :=
  ((List.range 64).foldl (fun w _ => shaExtend w) block.reverse).reverse

/-- One round of the compression function on the working variables a to h. -/
def shaRound (v : List Word) (kw : Word × Word) : List Word :=
  let g := fun i => v.getD i 0
  let e := g 4
  let s1 := e.rotateRight 14 ^^^ e.rotateRight 18 ^^^ e.rotateRight 41
  let ch := (e &&& g 5) ^^^ (~~~e &&& g 6)
  let t1 := g 7 + s1 + ch + kw.1 + kw.2
  let a := g 0
  let s0 := a.rotateRight 28 ^^^ a.rotateRight 34 ^^^ a.rotateRight 39
  let mj := (a &&& g 1) ^^^ (a &&& g 2) ^^^ (g 1 &&& g 2)
  [t1 + (s0 + mj), a, g 1, g 2, g 3 + t1, e, g 5, g 6]

/-- One block. -/
def shaBlock (h : List Word) (block : List Word) : List Word :=
  let v := (shaKeys.zip (shaSchedule block)).foldl shaRound h
  List.zipWith (· + ·) h v

/-- Cut a byte string into pieces of `n` bytes, at most `fuel` of them. -/
def chunks {α : Type} (n : Nat) : Nat → List α → List (List α)
  | 0, _ => []
  | _ + 1, [] => []
  | fuel + 1, bs => bs.take n :: chunks n fuel (bs.drop n)

/-- The padded message of SHA-384. -/
def shaPad (bs : List Byte) : List Byte :=
  bs ++ [0x80] ++ zeros ((239 - bs.length % 128) % 128) ++ beBytes 16 (bs.length * 8)

/-- The SHA-384 digest, 48 bytes in the order the standard gives them (R12). -/
def sha384 (bs : List Byte) : List Byte :=
  let m := shaPad bs
  let blocks := (chunks 128 m.length m).map
    (fun b => (chunks 8 16 b).map (fun w => BitVec.ofNat 64 (ofBE w)))
  ((blocks.foldl shaBlock shaStart).flatMap (fun w => beBytes 8 w.toNat)).take 48

end Sys2Proof.Machine
end

