-- ==== Sys2Proof/Machine/Reg.lean ====
section
/-! DEFINITION. What a register table of the spec says of a register: its address, its fields, their access codes
(R17), apply points (R110, R111) and reset value (R16). -/

namespace Sys2Proof.Machine

/-- The access codes of R17. -/
inductive Acc where
  | rw | ro | w1c | w1s | wo | rc | cs
  deriving DecidableEq, Repr

/-- Whether a field can be staged into a Curtain transaction, and its apply point (R97, R110, R111). -/
inductive Stg where
  | none | instant | boundary
  deriving DecidableEq, Repr

/-- A register, or an array of registers: the address of the first, the (stride, count) of each index, and the
value after reset. -/
structure Reg where
  base : Nat
  strides : List (Nat × Nat)
  reset : Nat
  deriving DecidableEq, Repr

/-- A field of a register. -/
structure Fld where
  reg : Reg
  lo : Nat
  width : Nat
  acc : Acc
  stg : Stg
  deriving DecidableEq, Repr

/-- A register with its fields: a row of the address map. -/
structure RegRow where
  reg : Reg
  flds : List Fld
  deriving DecidableEq, Repr

/-- Add up index × stride. -/
def strideSum : List (Nat × Nat) → List Nat → Nat
  | (s, _) :: ss, i :: is => s * i + strideSum ss is
  | _, _ => 0

/-- The Ringmaster address of instance `ix` of a register (BAR0-only registers: 2^48 + the BAR0 offset). -/
def Reg.addr (r : Reg) (ix : List Nat) : Nat := r.base + strideSum r.strides ix

/-- The indices that reach offset `off`, if one does exactly. -/
def strideIndex : List (Nat × Nat) → Nat → Option (List Nat)
  | [], off => if off = 0 then some [] else none
  | (s, n) :: ss, off =>
    if off / s < n then (strideIndex ss (off % s)).map (fun is => off / s :: is) else none

/-- The instance of `r` that lies at `a`. -/
def Reg.index (r : Reg) (a : Nat) : Option (List Nat) :=
  if r.base ≤ a then strideIndex r.strides (a - r.base) else none

/-- A mask of the field's bits in the register. -/
def Fld.mask (f : Fld) : Word := BitVec.ofNat 64 ((2 ^ f.width - 1) * 2 ^ f.lo)

/-- The field's value in a register word. -/
def Fld.of (f : Fld) (w : Word) : Nat := bits w.toNat f.lo f.width

/-- The register word with the field replaced. -/
def Fld.into (f : Fld) (w : Word) (v : Nat) : Word :=
  (w &&& ~~~ f.mask) ||| (BitVec.ofNat 64 (v % 2 ^ f.width * 2 ^ f.lo))

end Sys2Proof.Machine
end

