-- ==== Sys2Proof/Machine/Symbols.lean ====
section
/-! DEFINITION. What a lane puts on the wire and reads from it: PAM4 symbols and precoding (R147, R148), the wake burst (R159),
test patterns (R162), and Voxent Link's Reed-Solomon code, block headers and scrambler (R194, R195). -/

namespace Sys2Proof.Machine

/-! ### Bits and symbols -/

/-- The bits of a value, the least significant first. -/
def valueBits (n v : Nat) : List Bool := (List.range n).map (bit v)

/-- The bits of bytes, bit 0 of byte 0 first (R191). -/
def byteBits (bs : List Byte) : List Bool := bs.flatMap (fun b => valueBits 8 b.toNat)

/-- The value of bits, the first the least significant. -/
def bitsValue : List Bool → Nat
  | [] => 0
  | b :: r => b2n b + 2 * bitsValue r

/-- The bytes of bits, the first bit in bit 0 of byte 0. -/
def bitBytes (bs : List Bool) : List Byte := (chunks 8 bs.length bs).map (fun c => BitVec.ofNat 8 (bitsValue c))

/-- The PAM4 symbol value of two bits, the first bit sent first (R147). -/
def grayValue (first second : Bool) : Nat :=
  match first, second with
  | false, false => 0
  | false, true => 1
  | true, true => 2
  | true, false => 3

/-- The two bits of a PAM4 symbol value (R147). -/
def grayBits (v : Nat) : List Bool :=
  match v with
  | 0 => [false, false]
  | 1 => [false, true]
  | 2 => [true, true]
  | _ => [true, false]

/-- The level of a PAM4 symbol value (R147). -/
def pamLevel (v : Nat) : Int := 2 * (v : Int) - 3

/-- The level of an NRZ bit (R147). -/
def nrzLevel (v : Nat) : Int := if v = 0 then -1 else 1

/-- Polarity inversion of a symbol (R147): `v` to `3 − v` in PAM4. -/
def invertSymbol (pam4 : Bool) (v : Nat) : Nat := if pam4 then 3 - v else 1 - v

/-- Bits as symbols, two to a symbol in PAM4. -/
def toSymbols (pam4 : Bool) : List Bool → List Nat
  | [] => []
  | [a] => if pam4 then [grayValue a false] else [b2n a]
  | a :: b :: r => if pam4 then grayValue a b :: toSymbols pam4 r else b2n a :: toSymbols pam4 (b :: r)

/-- Symbols as bits. -/
def ofSymbols (pam4 : Bool) (vs : List Nat) : List Bool :=
  if pam4 then vs.flatMap grayBits else vs.map (fun v => decide (v ≠ 0))

/-- The precoder (R148): `p(j) = (g(j) − p(j−1)) mod 4`, from the state `s`. -/
def precode (s : Nat) : List Nat → List Nat
  | [] => []
  | g :: r => (g + 4 - s % 4) % 4 :: precode ((g + 4 - s % 4) % 4) r

/-- The decoder (R148): `g(j) = (p(j) + p(j−1)) mod 4`. -/
def decodePre (s : Nat) : List Nat → List Nat
  | [] => []
  | p :: r => (p + s) % 4 :: decodePre p r

/-- The wake burst (R159): 4,096 symbols, 3 and 0 in turn in PAM4, 1 and 0 in NRZ. -/
def wakeBurst (pam4 : Bool) : List Nat :=
  (List.range 4096).map (fun i => if i % 2 = 1 then 0 else if pam4 then 3 else 1)

/-! ### Test patterns (R162) -/

/-- Length and feedback taps of LN_PRBS.POLY's patterns (PRESUMED, log entry 114). -/
def prbsTaps (poly : Nat) : Nat × List Nat :=
  match poly with
  | 1 => (7, [7, 6])
  | 2 => (9, [9, 5])
  | 3 => (13, [13, 12, 2, 1])
  | 4 => (15, [15, 14])
  | _ => (31, [31, 28])

/-- The next bit of a pattern from the bits before it, the newest first. -/
def prbsNext (poly : Nat) (past : List Bool) : Bool :=
  (prbsTaps poly).2.foldl (fun b t => xor b (past.getD (t - 1) false)) false

/-- `n` bits of a pattern after the given past. -/
def prbsBits (poly : Nat) : Nat → List Bool → List Bool
  | 0, _ => []
  | n + 1, past => prbsNext poly past :: prbsBits poly n (prbsNext poly past :: past.take 30)

/-- What the checker holds: the bits before, the newest first, how many error-free bits stand in a row, whether it has locked,
and the bits in error since (R162). -/
structure PrbsChk where
  past : List Bool := []
  run : Nat := 0
  locked : Bool := false
  errors : Nat := 0
  deriving DecidableEq, Repr

/-- One received bit: before lock the checker predicts from the bits received, and locks on 64 error-free ones; once locked it
runs on its own pattern and counts (R162). -/
def PrbsChk.step (poly : Nat) (c : PrbsChk) (b : Bool) : PrbsChk :=
  let n := (prbsTaps poly).1
  let want := prbsNext poly c.past
  if c.locked then { c with past := want :: c.past.take 30, errors := c.errors + b2n (b != want) }
  else
    let seen := decide (n ≤ c.past.length)
    let run := if seen && b == want && (b :: c.past.take (n - 1)).any id then c.run + 1 else 0
    { c with past := b :: c.past.take 30, run := run, locked := decide (64 ≤ run) }

/-! ### The Reed-Solomon code of a VXL codeword (R194) -/

/-- A product in GF(2¹⁰) with primitive polynomial x¹⁰ + x³ + 1. -/
def gfMul (a b : Nat) : Nat :=
  ((List.range 10).foldl (fun (s : Nat × Nat) i =>
    (if bit b i then s.1 ^^^ s.2 else s.1, if bit s.2 9 then (2 * s.2) ^^^ 0x409 else 2 * s.2)) (0, a)).1

/-- α to a power. -/
def gfAlpha (n : Nat) : Nat := (List.range (n % 1023)).foldl (fun a _ => gfMul a 2) 1

/-- A power in the field. -/
def gfPow (a : Nat) : Nat → Nat
  | 0 => 1
  | n + 1 => gfMul a (gfPow a n)

/-- The inverse of a non-zero element: its 1,022nd power. -/
def gfInv (a : Nat) : Nat :=
  ((List.range 9).foldl (fun (s : Nat × Nat) _ => let q := gfMul s.1 s.1; (q, gfMul s.2 q)) (a, 1)).2

/-- A polynomial, lowest power first, at a point. -/
def gfEval (p : List Nat) (x : Nat) : Nat := p.foldr (fun c s => c ^^^ gfMul s x) 0

/-- Sum and product of polynomials. -/
def gfAddP : List Nat → List Nat → List Nat
  | [], q => q
  | p, [] => p
  | a :: p, b :: q => (a ^^^ b) :: gfAddP p q

def gfMulP : List Nat → List Nat → List Nat
  | [], _ => []
  | a :: p, q => gfAddP (q.map (gfMul a)) (0 :: gfMulP p q)

/-- The generator's coefficients, highest power first, its leading 1 left out (R194). -/
def rsGenerator : List Nat :=
  (((List.range 14).foldl (fun g i => gfMulP g [gfAlpha i, 1]) [1]).reverse).drop 1

/-- The 14 parity symbols after a message, by division by the generator; symbol 0 is the highest power (log entry 115). -/
def rsParity (msg : List Nat) : List Nat :=
  msg.foldl (fun (r : List Nat) m =>
    let f := m ^^^ r.headD 0
    gfAddP (r.drop 1 ++ [0]) (rsGenerator.map (gfMul f))) (List.replicate 14 0)

/-- A codeword: 258 message symbols and their parity. -/
def rsEncode (msg : List Nat) : List Nat := msg ++ rsParity msg

/-- The 14 syndromes of a received word. -/
def rsSyndromes (r : List Nat) : List Nat :=
  (List.range 14).map (fun i => let x := gfAlpha i; r.foldl (fun s c => gfMul s x ^^^ c) 0)

/-- Berlekamp and Massey's locator: the present one, the one before, its discrepancy, the gap, and the length. -/
structure RsLoc where
  c : List Nat := [1]
  b : List Nat := [1]
  m : Nat := 1
  len : Nat := 0
  d : Nat := 1
  deriving DecidableEq, Repr

/-- One syndrome enters the locator. -/
def RsLoc.step (syn : List Nat) (s : RsLoc) (n : Nat) : RsLoc :=
  let d := (List.range (s.len + 1)).foldl (fun a i => a ^^^ gfMul (s.c.getD i 0) (syn.getD (n - i) 0)) 0
  if d = 0 then { s with m := s.m + 1 }
  else
    let t := gfAddP s.c (List.replicate s.m 0 ++ s.b.map (gfMul (gfMul d (gfInv s.d))))
    if 2 * s.len ≤ n then { c := t, b := s.c, m := 1, len := n + 1 - s.len, d := d } else { s with c := t, m := s.m + 1 }

/-- The error at each place of a received word of 272 symbols, by the locator and Forney's formula. -/
def rsErrors (syn : List Nat) (loc : List Nat) : List Nat :=
  let omega := (gfMulP syn loc).take 14
  let slope := (loc.zipIdx.map (fun e => if e.2 % 2 = 1 then e.1 else 0)).drop 1
  (List.range 272).map (fun j =>
    let x := gfAlpha (271 - j)
    let y := gfInv x
    if gfEval loc y = 0 then gfMul x (gfMul (gfEval omega y) (gfInv (gfEval slope y))) else 0)

/-- A received codeword decoded (R194): its message and how many symbols were in error, at most 7; none where it is
uncorrectable. -/
def rsDecode (r : List Nat) : Option (List Nat × Nat) :=
  let r := (r ++ List.replicate 272 0).take 272 |>.map (· % 1024)
  let syn := rsSyndromes r
  if syn.all (· = 0) then some (r.take 258, 0)
  else
    let loc := (List.range 14).foldl (RsLoc.step syn) {}
    let es := rsErrors syn loc.c
    let fixed := (r.zip es).map (fun e => e.1 ^^^ e.2)
    let n := (es.filter (fun e => decide (e ≠ 0))).length
    if 7 < loc.len ∨ n ≠ loc.len ∨ (rsSyndromes fixed).any (fun s => decide (s ≠ 0)) then none else some (fixed.take 258, n)

/-! ### Blocks (R195) -/

/-- The scrambler x⁵⁸ + x³⁹ + 1 over bits, and its state after them: the last 58 bits sent, the newest in bit 0. -/
def scramble (s : Nat) : List Bool → List Bool × Nat
  | [] => ([], s)
  | b :: r =>
    let o := xor b (xor (bit s 57) (bit s 38))
    let t := scramble ((2 * s + b2n o) % 2 ^ 58) r
    (o :: t.1, t.2)

/-- The descrambler: its state is the last 58 bits received. -/
def descramble (s : Nat) : List Bool → List Bool × Nat
  | [] => ([], s)
  | b :: r =>
    let t := descramble ((2 * s + b2n b) % 2 ^ 58) r
    (xor b (xor (bit s 57) (bit s 38)) :: t.1, t.2)

/-- A block on its lane: header (0, 1) for data and (1, 0) for control, and the scrambled payload, with the scrambler's state
after it (R195). -/
def sendBlock (s : Nat) (control : Bool) (payload : List Byte) : List Bool × Nat :=
  let t := scramble s (byteBits (fit 32 payload))
  (control :: (!control) :: t.1, t.2)

/-- What a received block of 258 bits is: data (false) or control (true) with its payload, or none for any other header; the
descrambler runs on either way (R195). -/
def readBlock (s : Nat) (bs : List Bool) : Option (Bool × List Byte) × Nat :=
  let h := (bs.getD 0 false, bs.getD 1 false)
  let t := descramble s (bs.drop 2)
  (if h.1 = h.2 then none else some (h.1, bitBytes t.1), t.2)

/-- The ten blocks of a decoded message, with the descrambler's state after them. -/
def readBlocks : List (List Bool) → Nat → List (Option (Bool × List Byte)) × Nat
  | [], s => ([], s)
  | b :: r, s =>
    let t := readBlock s b
    let u := readBlocks r t.2
    (t.1 :: u.1, u.2)

/-- The blocks of 258 message symbols (R194): bit `i` of the first-sent order is bit `i mod 10` of symbol `i / 10`. -/
def messageBlocks (msg : List Nat) : List (List Bool) :=
  let bs := msg.flatMap (valueBits 10)
  chunks 258 bs.length bs

/-- The message symbols of ten blocks (R194). -/
def blockSymbols (bs : List (List Bool)) : List Nat :=
  let all := bs.flatten
  (chunks 10 all.length all).map bitsValue

/-- The codeword that carries ten blocks. -/
def blockCodeword (bs : List (List Bool)) : List Nat := rsEncode (blockSymbols bs)

/-- Dealing (R196): block `i` goes to logical lane `i mod n`. -/
def dealLane (n i : Nat) : Nat := i % max 1 n

/-- The lanes' dealt blocks back in order (R196): block `i` is the `i / n`-th of lane `i mod n`. -/
def undeal {α : Type} (lanes : List (List α)) : List α :=
  let n := lanes.length
  let len := (lanes.map List.length).foldl min ((lanes.headD []).length)
  (List.range (len * n)).filterMap (fun i => (lanes.getD (i % max 1 n) [])[i / max 1 n]?)

end Sys2Proof.Machine
end

