-- ==== Sys2Proof/Machine/Device.lean ====
section
/-! DEFINITION. The block's own state beside its registers: what the spec gives each unit that no register
table shows (queue contexts, transaction slots, roll banks, logs, firings on their way, running work). Plain data. -/

namespace Sys2Proof.Machine

/-! ### Control booth -/

/-- What a mailbox's resources are counted by (R57). -/
inductive Res where
  | alloc (h : Nat) | queue (q : Nat) | txn (slot : Nat) | seq (n : Nat) | lane (l : Nat) | port (p : Nat)
  | stream (p k : Nat) | channel (c : Nat) | program (b : Nat) | pin (p : Nat) | axis (a : Nat) | fb (f : Nat)
  | dma (e c : Nat) | palette (p c : Nat) | context (p c : Nat) | consumer (i : Nat) | manifest | image
  deriving DecidableEq, Repr

/-- Where a command came from and where its responses go: bootstrap mailbox `n`, or the queue mailbox `k`. -/
inductive Via where
  | boot (n : Fin 8)
  | queue (k : Fin 256)
  deriving DecidableEq, Repr

/-- Who writes a register: the Ringmaster, a sequencer's roll, or the host through its window. -/
inductive Src where
  | ringmaster | calliope (n : Fin 16) | host
  deriving DecidableEq, Repr

/-- How much of a 64-bit register an access reaches (R13, R14). -/
inductive Half where
  | full | lo | hi
  deriving DecidableEq, Repr

/-- The function's configuration as the host sets it (R417 to R419, R425, R427, R335). -/
structure HostCfg where
  memSpace : Bool
  busMaster : Bool
  msixEnable : Bool
  functionMask : Bool
  ptmEnable : Bool
  mps : BitVec 13
  mrrs : BitVec 13
  /-- the base addresses written into BAR0, BAR2 and BAR4 (R418) -/
  bar0 : BitVec 64 := 0
  bar2 : BitVec 64 := 0
  bar4 : BitVec 64 := 0
  /-- Relaxed Ordering and 14-bit tags allowed, completion timeouts disabled (R417) -/
  relaxed : Bool := false
  tags14 : Bool := false
  noTimeout : Bool := false
  deriving DecidableEq, Repr

/-- What AER logs (R428). -/
inductive AerKind where
  | timeout | poisoned | abort | unsupported | ecrc | correctable | fatal
  deriving DecidableEq, Repr

/-- A read of the engine `engine` from host memory failed: a completion timeout, poisoned data, Completer Abort or Unsupported
Request (R428). -/
structure EngineRead where
  engine : Fin 32
  kind : AerKind
  deriving DecidableEq, Repr

/-- A read of the Carousel for queue `queue` failed (R428). -/
structure RingRead where
  queue : Fin 1048576
  kind : AerKind
  deriving DecidableEq, Repr

/-- What an open JTAG port does (R460): run control, register windows and memory. -/
inductive Jtag where
  | halt | resume | step
  | readReg (addr : Nat) (half : Half)
  | writeReg (addr : Nat) (v : BitVec 64)
  | readMem (addr len : Nat)
  | writeMem (addr : Nat) (bs : List Byte)
  deriving DecidableEq, Repr

/-- A command entry of R58 with the mailbox it stands in; the constructor of `Instr` that carries it gives the opcode.
`inbuf` is what the host has stored at IN_ADDR for it (log entry 6). -/
structure Entry where
  via : Via
  tag : BitVec 16
  length : BitVec 16
  flags : BitVec 16
  seq : BitVec 32
  payload : List Byte
  inbuf : List Byte
  deriving DecidableEq, Repr

/-- A command answered ACCEPTED whose final response is still to come (R62): its entry header, and what it waits for. -/
structure Work where
  via : Via
  opcode : Nat
  tag : Nat
  seq : Nat
  key : List Nat
  /-- the faulted scope its work lies in: port booth 0 to 7, engine 16 + e; 99 for none (R142) -/
  scope : Nat := 99
  /-- lost to a fault: firmware answers DISCARDED (R65, R142) -/
  dead : Bool := false
  /-- a command with a final answer only, whose hardware still runs (R64): the mailbox waits for it (R62) -/
  silent : Bool := false
  /-- the output buffer, where the command has one -/
  outAddr : Nat := 0
  outLen : Nat := 0
  deriving DecidableEq, Repr

/-- A queue mailbox (R55 to R65): whether it is open and the sequence number expected next (none: any). -/
structure Mailbox where
  isOpen : Bool := false
  expected : Option Nat := none
  deriving DecidableEq, Repr

/-- A response of a queue mailbox that its response queue has not taken yet (R63): it is written, with the epoch and the
time of that instant, when the queue takes it. -/
structure Response where
  box : Nat
  opcode : Nat
  tag : Nat
  seq : Nat
  status : Nat
  final : Bool
  payload : List Byte := []
  outWritten : Bool := false
  outLen : Nat := 0
  deriving DecidableEq, Repr

/-- A stretch of HBM given out by MEM_ALLOC. -/
structure Alloc where
  handle : Nat
  off : Nat
  size : Nat
  kind : Nat
  deriving DecidableEq, Repr

/-- A staged entry of a transaction, or a register write: address, mask, value (R96). -/
structure MaskedWrite where
  addr : Nat
  mask : Word
  value : Word
  deriving DecidableEq, Repr

/-- A transaction slot beside its registers (R96, R101 to R106). -/
structure TxSlot where
  entries : List MaskedWrite := []
  ttc : TT := 0
  fired : Bool := false
  sampled : Bool := false
  /-- who commits TX15: 1 the boot ROM, 2 the BAR0 port (R128, R130) -/
  src : Nat := 0
  epoch : Nat := 0
  /-- how many entries the check has passed so far, and the one it stopped at with its reason (R102, R105) -/
  passed : Nat := 0
  failed : Option (Nat × Nat) := none
  /-- adopted writes of it were discarded by a device fault: they will never be applied (R119) -/
  lost : Bool := false
  deriving DecidableEq, Repr

/-- An adopted BOUNDARY write not yet applied (R111, R112). -/
structure PendWrite where
  write : MaskedWrite
  ttc : TT
  epoch : Nat
  slot : Nat
  deriving DecidableEq, Repr

/-- A configuration change firmware 3.x commits by itself in TX14 for one command (chapter 4): the command that waits for
it, its payload, the resources it takes or gives back when adopted, and whether it waits for APPLIED. -/
structure AloneJob where
  opcode : Nat
  key : List Nat
  writes : List MaskedWrite
  payload : List Byte := []
  claims : List Res := []
  drops : List Res := []
  owner : Nat := 0
  deadline : Option TT := none
  /-- after the adoption the command waits on, under this key, for what it has set going -/
  next : List Nat := []
  started : Bool := false
  deriving DecidableEq, Repr

/-- A roll bank of a sequencer (R71): the checked image's parts. -/
structure Roll where
  efsel : List Nat := []
  csrc : List Nat := []
  words : List Nat := []
  steps : List Nat := []
  deriving DecidableEq, Repr

/-- A sequencer beside its registers (R77 to R90): how the present step's wait stands. -/
structure SeqX where
  bank0 : Roll := {}
  bank1 : Roll := {}
  entered : Bool := false
  count : Nat := 0
  late : Bool := false
  timedOut : Bool := false
  hostRoll : Bool := false
  deriving DecidableEq, Repr

/-- One record of the fault logger (R140), before it is laid out in 128-byte entries. -/
structure LogRec where
  kind : Nat
  reason : Nat
  booth : Nat
  index : Nat
  recno : Nat
  tt : TT
  epoch : Nat
  sdn : Nat
  motionCut : Bool
  dropcnt : Nat
  repeats : Nat
  /-- violation: ADDR, VALUE, SOURCE; fault: queue and S by turns; motion note: the four set-points -/
  body : List Nat
  deriving DecidableEq, Repr

/-- The fault logger, its on-chip log and what Q0 still holds unconsumed (R133, R139, R140, RECOVER). -/
structure LoggerX where
  log : List LogRec := []
  recno : Nat := 0
  drops : Nat := 0
  storm : List TT := []
  /-- the pairs of each contained scope's last record (R139): a port booth's number, or 16 and the engine's -/
  contained : Sparse (List Nat) := []
  /-- fault records Q0 has taken, each with the PROD value after its last part -/
  inQ0 : List (LogRec × BitVec 32) := []
  deriving DecidableEq, Repr

/-- The Ringmaster, its mailboxes and firmware 3.x's tables. -/
structure ControlX where
  /-- count of access-fault exceptions taken by the hart (R31) -/
  accessFaults : Nat := 0
  /-- 0x5A was the last write to the kick register (R48) -/
  kickHalf : Bool := false
  /-- nanoseconds the watchdog has counted since the last kick or the reset vector, and whether EARLY has come since (R48) -/
  wdtNs : Nat := 0
  wdtHalf : Bool := false
  /-- the boot-time table path of R98 is open -/
  bootPath : Bool := true
  /-- tightly coupled SRAM, wiped at every device fault (R50) -/
  sram : Sparse Byte := []
  /-- BMB_SLOTn (R51) -/
  slots : Sparse (List Byte) := []
  mailboxes : Sparse Mailbox := []
  works : List Work := []
  /-- responses of queue mailboxes still to be written, oldest first (R63) -/
  owed : List Response := []
  owners : List (Res × Nat) := []
  reserved : List (Nat × Nat × Nat) := []
  allocs : List Alloc := []
  nextHandle : Nat := 1
  txs : Sparse TxSlot := []
  /-- changes waiting for TX14, oldest first, and the next one's number -/
  alone : List AloneJob := []
  aloneNext : Nat := 0
  pend : List PendWrite := []
  /-- the lower half held by CUR_STG_DATA and by NET_PORT_DATA -/
  stageLow : Nat := 0
  netLow : Nat := 0
  seqs : Sparse SeqX := []
  /-- the load under way as it began: sequencer, address of the image, bank being filled (R84) -/
  load : Option (Nat × Nat × Bool) := none
  logger : LoggerX := {}
  /-- draws made from the random sources so far (free values) -/
  draws : Nat := 0
  deriving DecidableEq, Repr

/-! ### Delivery booth -/

/-- A queue context (R294). -/
structure QCtx where
  ring : Nat := 0
  wb : Nat := 0
  prod : BitVec 32 := 0
  cons : BitVec 32 := 0
  count : BitVec 32 := 0
  wmark : Nat := 0
  peak : Nat := 0
  drops : Nat := 0
  vector : Nat := 0
  coalN : Nat := 0
  log2 : Nat := 0
  kind : Nat := 0
  esize : Nat := 0
  pin : Bool := false
  irqArmed : Bool := false
  wmHit : Bool := false
  error : Bool := false
  err : Nat := 0
  owner : Nat := 0
  coalUs : Nat := 0
  unsig : Nat := 0
  oldest : TT := 0
  deriving DecidableEq, Repr

/-- A DMA channel beside its registers (R305 to R314): the active set's run. -/
structure DmaX where
  epoch : Nat := 0
  startTT : TT := 0
  status : Nat := 0
  rounded : Bool := false
  paused : Bool := false
  reverse : Bool := false
  /-- LEN, SRC and DST of the set as handed over -/
  fullLen : Nat := 0
  fullSrc : Nat := 0
  fullDst : Nat := 0
  /-- the check of the source, taken as the transfer began (R311) -/
  check : Nat := 0
  cq : Nat := 0
  /-- a completion record waiting for room: the channel is BLOCKED (R300) -/
  held : Option (List Byte) := none
  /-- token bucket of R309, in 1/1,024 byte, as it stood at `tokensAt` -/
  tokens : Nat := 4194304
  tokensAt : TT := 0
  deriving DecidableEq, Repr

/-- A DMA engine beside its registers: the channel last served, and the channels whose records are held, in the order their
transfers ended (R308). -/
structure EngineX where
  last : Nat := 15
  ended : List Nat := []
  deriving DecidableEq, Repr

/-- A source whose append waits (R300): the tags of a port's stream, or the record of an engine's channel. -/
inductive Waiter where
  | tags (p k : Nat)
  | record (e c : Nat)
  deriving DecidableEq, Repr

/-- The Carousel and the engines. -/
structure DeliveryX where
  /-- sources that wait for a queue, in the order they reached the Carousel (R299) -/
  waiters : List (Nat × Waiter) := []
  /-- an entry to be taken once Bus Master Enable lets the ring be read (R425) -/
  takeDue : Option Nat := none
  ctxs : Sparse QCtx := []
  /-- cached contexts, most recently used first (R295) -/
  cache : List Nat := []
  chans : Sparse DmaX := []
  engines : Sparse EngineX := []
  deriving DecidableEq, Repr

/-! ### Timing booth -/

/-- A step of the time base that waits for its tick (R326). -/
structure StepReq where
  load : Bool
  both : Bool
  atTT : Option TT
  amt : Int
  sec : Nat
  ns : Nat
  frac : Nat
  deriving DecidableEq, Repr

/-- The time base (R322, R325, R328): the 80-bit accumulator, wall time, a slew and a pending step. -/
structure TimeX where
  acc : BitVec 80 := 0
  ticks : Nat := 0
  /-- the tick domain runs (R338, R343) -/
  running : Bool := false
  wtSec : Nat := 0
  /-- nanoseconds within the second, in 2^-32 ns -/
  wtSub : Nat := 0
  step : Option StepReq := none
  /-- remaining slew, in 2^-32 ns, and whether it moves TT too -/
  slewRem : Int := 0
  slewBoth : Bool := false
  /-- RATE of the slew, as the last GO took it -/
  slewRate : Nat := 1
  slewing : Bool := false
  /-- levels of TIME_PPS_OUT and TIME_10M_OUT, and the fall due of a pulse in progress -/
  ppsOut : Bool := false
  ppsFall : TT := 0
  /-- wall time has passed a whole second plus PPS_OFFSET and the pulse has not started yet (R334) -/
  ppsDue : Bool := false
  /-- TIME_10M_OUT, and how far wall time has moved since its last edge, in 2^-32 ns (R334) -/
  m10Out : Bool := false
  m10Since : Nat := 100 * 2 ^ 32
  /-- the first 10 MHz edge after a PPS input edge has still to come (R333) -/
  m10Wait : Bool := false
  /-- a PTM dialogue is under way (R335); when the last one began -/
  ptmBusy : Bool := false
  ptmLast : TT := 0
  deriving DecidableEq, Repr

/-- The PTP instance and servo of firmware 3.x (R339, R340). -/
structure ServoX where
  /-- 0 OFF, 1 LISTENING, 2 STEPPED, 3 LOCKING, 4 LOCKED, 5 HOLDOVER, 6 MASTER -/
  state : Nat := 0
  port : Nat := 0
  domain : Nat := 127
  role : Nat := 0
  encaps : Nat := 0
  flags : Nat := 0
  priority1 : Nat := 128
  priority2 : Nat := 128
  syncLog : Int := -3
  announceLog : Int := -2
  delayLog : Int := -3
  samples : Nat := 0
  within : Nat := 0
  /-- last offset, and the first of the eight samples: offset and local time (R340) -/
  offset : Int := 0
  firstOffset : Int := 0
  firstAt : Int := 0
  integral : Int := 0
  stepsRemoved : Nat := 0
  /-- the chosen master: its port identity and its data set, as numbers (R339) -/
  parent : Option (Nat × Nat) := none
  /-- the last ST 2059-2 synchronization metadata TLV received (R339, log entry 124) -/
  metadata : List Byte := []
  gmPriority1 : Nat := 0
  gmClass : Nat := 0
  meanPath : Int := 0
  pathKnown : Bool := false
  /-- a Sync waiting for its Follow_Up: sequenceId, local receive time, correction; the last master-to-slave delay -/
  sync : Option (Nat × Int × Int) := none
  forward : Int := 0
  /-- a Delay_Req waiting for its answer: sequenceId and local send time -/
  delayReq : Option (Nat × Int) := none
  /-- when the last valid Sync came -/
  lastSync : TT := 0
  seqSync : Nat := 0
  seqAnnounce : Nat := 0
  seqDelay : Nat := 0
  /-- when the last Sync, Announce and Delay_Req were sent -/
  sentSync : TT := 0
  sentAnnounce : TT := 0
  sentDelay : TT := 0
  deriving DecidableEq, Repr

/-- A firing on its way through Midway to the consumers of its channel (R342 to R344). -/
structure Firing where
  ch : Nat
  tick : Nat
  tt : TT
  resync : Bool
  stamp : Option TT
  deriving DecidableEq, Repr

/-- Midway beside its registers. -/
structure MidwayX where
  flight : List Firing := []
  /-- tick in which each consumer input last accepted a firing (R347) -/
  accepted : Sparse (Option Nat) := []
  /-- tick in which each channel last fired (R342) -/
  lastTick : Sparse (Option Nat) := []
  deriving DecidableEq, Repr

/-- One target's share of a fire (R354, R355). -/
structure Act where
  kind : Nat := 0
  index : Nat := 0
  time : TT := 0
  /-- the fire instant it was computed from (SKEWED, R356) -/
  base : TT := 0
  committed : Bool := false
  done : Bool := false
  late : Bool := false
  deriving DecidableEq, Repr

/-- A fire of a Barker program whose acts are not yet complete (R350). -/
structure Fire where
  t : TT
  count : Nat
  index : Nat
  posCount : Nat
  posRev : Nat
  interp : Bool
  stamped : Bool
  skewed : Bool
  dropped : Bool
  crossed : Bool
  recorded : Bool
  acts : List Act
  deriving DecidableEq, Repr

/-- A Barker program beside its registers. -/
structure ProgramX where
  armed : Bool := false
  fires : List Fire := []
  /-- next index of a TIME schedule (R351) -/
  nextK : Nat := 0
  /-- POSITION: the target in force, whole counts, fraction and revolution (R353) -/
  tgtCnt : Int := 0
  tgtFrac : Nat := 0
  /-- adopted behind the count on a channel without wrap: it never fires (R353) -/
  behind : Bool := false
  /-- fire records as BK_HISTp_j shows them, newest first (R356) -/
  hist : List (List Byte) := []
  deriving DecidableEq, Repr

/-- A pulse assigned to an output pin (R358, R363): leading and trailing edge, the fire it belongs to. -/
structure Pulse where
  lead : TT
  trail : TT
  prog : Nat
  count : Nat
  started : Bool
  deriving DecidableEq, Repr

/-- A trigger pin beside its registers. -/
structure PinX where
  pulses : List Pulse := []
  lastLead : Option TT := none
  /-- the 16-entry stamp FIFO, oldest first: stamp and rising (R359) -/
  stamps : List (TT × Bool) := []
  level : Bool := false
  /-- the filtered input level (R346, R359, R367) -/
  filtered : Bool := false
  /-- held at NET_PINp.IDLE after a device fault until RECOVER (R365) -/
  heldIdle : Bool := false
  deriving DecidableEq, Repr

/-- A record of the action FIFO (R361). -/
structure ActionRec where
  tt : TT
  prog : Nat
  target : Nat
  fires : Nat
  deriving DecidableEq, Repr

/-- How BK_ACTION names a target's ACTION_CMD (R361). -/
structure ActionCmd where
  port : Nat := 0
  deviceKey : Nat := 0
  groupKey : Nat := 0
  groupMask : Nat := 0
  dst : Nat := 0
  reqId : Nat := 0
  deriving DecidableEq, Repr

structure TimingX where
  time : TimeX := {}
  servo : ServoX := {}
  midway : MidwayX := {}
  programs : Sparse ProgramX := []
  pins : Sparse PinX := []
  actions : List ActionRec := []
  /-- ACTION commands received by a port that acts as a camera, as handed to the Barker programs: port and body (R190) -/
  actionsIn : List (Nat × List Byte) := []
  actionCmds : Sparse ActionCmd := []
  /-- action records firmware has reported late (R361) -/
  lateActions : Nat := 0
  /-- channels firmware 3.x forwards to Q1 (MW_WATCH) -/
  forwarded : List Nat := []
  deriving DecidableEq, Repr

/-! ### Motion booth -/

/-- A feedback channel as it was configured before its last adoption, for the counts whose stamps lie before TT_c (R383, R384):
the words of its CS registers, the compare target, the Hall reference, and what the adoption wrote. -/
structure FbPrior where
  ttc : TT
  regs : List Word
  cmpTgt : Int
  cmpDead : Bool
  hall : Option Nat
  ssiLast : Option Nat
  mode : Bool
  size : Bool
  speed : Bool
  tgt : Bool
  setPos : Bool
  deriving DecidableEq, Repr

/-- A feedback channel beside its registers (R369 to R386). -/
structure FbX where
  /-- accepted levels of FBn_A, FBn_B, FBn_SW, FBn_Z -/
  a : Bool := false
  b : Bool := false
  sw : Bool := false
  z : Bool := false
  /-- counted edges since the last invalidation, newest first: stamp, counts moved -/
  edges : List (TT × Nat) := []
  /-- Hall reference: the last valid state (R372) -/
  hall : Option Nat := none
  /-- an SSI frame runs; the monoflop wait ends; the last accepted reading; a read is due on request; the last period -/
  ssiRun : Option TT := none
  ssiFree : TT := 0
  ssiLast : Option Nat := none
  ssiWant : Bool := false
  ssiSince : TT := 0
  /-- the compare target in force, and that it can never be crossed (R379) -/
  cmpTgt : Int := 0
  cmpDead : Bool := false
  prior : Option FbPrior := none
  /-- firmware totals (FB_COUNTERS) -/
  totQuad : Nat := 0
  totHall : Nat := 0
  totSsi : Nat := 0
  totRev : Nat := 0
  totHits : Nat := 0
  deriving DecidableEq, Repr

/-- An axis beside its registers (R387 to R413). Positions and speeds are in 1/65,536 microstep. -/
structure AxisX where
  /-- the profile: position, speed and acceleration at the last boundary's end -/
  q : Int := 0
  vel : Int := 0
  acc : Int := 0
  /-- the set-point before the one issued last, and the boundary that issued it -/
  prev : Int := 0
  bound : TT := 0
  /-- 0 at rest, 1 following MODE, 2 stopping, 3 stopping on a soft limit -/
  run : Nat := 0
  /-- the set-point issued last is the move's target: the next boundary completes it (R394) -/
  arrived : Bool := false
  /-- on the final ramp to TARGET; DEC, TARGET and V as they last acted (R392, R393) -/
  ramp : Bool := false
  decWas : Nat := 0
  tgtWas : Nat := 0
  velWas : Nat := 0
  /-- homing (R399): 0 none, 1 search, 2 stopping to search the other way, 3 latched, 4 approach -/
  home : Nat := 0
  homeBack : Bool := false
  homeTrips : Nat := 0
  homeL : Int := 0
  /-- set-points at the boundaries of a search, newest first, and an end limit tripped after the latch (R399, R412) -/
  trail : List (TT × Int) := []
  homeStop : Bool := false
  /-- edges of AXa_STEP counted and dropped (R395) -/
  lostSteps : Nat := 0
  /-- what the next boundary takes up: GO, STOP, SET_POS, home GO, a START firing -/
  goReq : Bool := false
  stopReq : Bool := false
  setReq : Bool := false
  homeReq : Bool := false
  startReq : Bool := false
  /-- the channel AX_MOVE binds to the START input (R410) -/
  startEv : Option Nat := none
  /-- step count of MODE 3 -/
  steps : Int := 0
  limP : Bool := false
  limN : Bool := false
  /-- AXa_FLT_N is active -/
  flt : Bool := false
  /-- EN is to fall at rest (R406) -/
  enFalling : Bool := false
  restSince : TT := 0
  /-- powered down (R406), and waking since -/
  pd : Bool := false
  wake : Option TT := none
  stallRun : Nat := 0
  /-- the two integrators of strong mode, in 1/65,536 µV, and the phase duties in 1/65,536 (R400, R401) -/
  intA : Int := 0
  intB : Int := 0
  dutyA : Int := 0
  dutyB : Int := 0
  /-- how the last motion ended: 0 target, 1 stop, 2 limit, 3 stall, 4 cut, 5 soft limit -/
  endCause : Nat := 0
  /-- firmware totals (AX_COUNTERS) -/
  totStalls : Nat := 0
  totLimits : Nat := 0
  deriving DecidableEq, Repr

/-- The motion booth. -/
structure MotionX where
  fbs : Sparse FbX := []
  axes : Sparse AxisX := []
  totCuts : Nat := 0
  deriving DecidableEq, Repr

/-! ### Host and memory booths -/

/-- An entry of the MSI-X table (R427). -/
structure MsixVec where
  addr : Nat := 0
  data : Nat := 0
  masked : Bool := true
  pending : Bool := false
  deriving DecidableEq, Repr

/-- The PCIe function's configuration (R414 to R430) and the memory booth's marks (R433). -/
structure HostX where
  /-- vendor ID and device ID of the configuration header, the same in every variant (R2, R415) -/
  vendorId : Nat := 0x1FA7
  deviceId : Nat := 0x8832
  linkUp : Bool := false
  configReady : Bool := false
  memSpace : Bool := false
  busMaster : Bool := false
  d3hot : Bool := false
  msixEnable : Bool := false
  functionMask : Bool := false
  ptmEnable : Bool := false
  mps : Nat := 128
  mrrs : Nat := 512
  /-- the BARs' base addresses (R418) -/
  bar0 : Nat := 0
  bar2 : Nat := 0
  bar4 : Nat := 0
  relaxed : Bool := false
  tags14 : Bool := false
  noTimeout : Bool := false
  /-- errors logged in AER, oldest first (R428) -/
  aer : List AerKind := []
  vectors : Sparse MsixVec := []
  /-- messages sent: none is kept, but the last one is (vector) -/
  lastMessage : Option Nat := none
  /-- the last completion of a BAR4 or doorbell read: 0 its bytes, 1 Unsupported Request, 2 bytes with the EP bit set (R421, R428) -/
  lastRead : Nat × List Byte := (0, [])
  /-- appends that wait for Bus Master Enable, oldest first (R425) -/
  stalled : List (Nat × List Byte) := []
  /-- 64-bit words of HBM marked uncorrectable until written again (R433) -/
  badWords : List Nat := []
  /-- firmware's totals since reset (MEM_QUERY) -/
  corrTotal : Nat := 0
  uncorrTotal : Nat := 0
  retrainTotal : Nat := 0
  deriving DecidableEq, Repr

/-! ### Port booths -/

/-- The firmware's marker search on a lane (R158, LANE_ALIGN). -/
structure Search where
  offset : Nat
  since : TT
  start : TT
  limitUs : Nat
  deriving DecidableEq, Repr

/-- A lane beside its registers (R153 to R164). -/
structure LaneX where
  /-- the receiver has been locked since RX_EN rose (R160) -/
  wasLocked : Bool := false
  /-- forced idle by the Net until SWING is rewritten within the limit (R149) -/
  cut : Bool := false
  losSince : Option TT := none
  lolSince : Option TT := none
  /-- FOUND has been clear since (R202) -/
  unfoundSince : Option TT := none
  trainStart : TT := 0
  /-- cut in DATA by a SWING_MAX below SWING, since (R169) -/
  cutSince : Option TT := none
  /-- when the wake burst began (R159) -/
  burstAt : TT := 0
  /-- the last valid word 2 of the far end's training frames (R200) -/
  word2 : Option Nat := none
  /-- when the training frame now being sent began, its COUNTDOWN where one runs, and which side has sent its last (R201) -/
  frameAt : Option TT := none
  countdown : Option Nat := none
  ownGone : Bool := false
  farGone : Bool := false
  /-- bits of PRBS13 sent since training began (R200) -/
  patBits : Nat := 0
  /-- the response word and the request word now being sent -/
  resp : Nat := 0
  req : Nat := 0
  /-- the word in LN_TRAIN_REQ has still to be sent (R155) -/
  manual : Bool := false
  /-- the twelve DFE taps (R156) -/
  dfe : List Byte := List.replicate 12 0
  /-- the last PAM4 symbol received, before decoding (R148) -/
  rxLast : Nat := 0
  prbs : PrbsChk := {}
  /-- state of the descrambler, and the blocks of the last codeword in order (R194, R195) -/
  scramRx : Nat := 0
  blocks : List (Option (Bool × List Byte)) := []
  /-- state of the scrambler (R195) -/
  scramTx : Nat := 0
  /-- eye estimates after accepted requests, newest first (R155) -/
  eyes : List Nat := []
  accepted : Nat := 0
  localDone : Bool := false
  /-- comparator: phase of the matches so far and how many in a row (R158) -/
  cmpPhase : Option Nat := none
  cmpCount : Nat := 0
  /-- number and time of the word that last matched at the phase, and the periods without one since (R158) -/
  cmpWord : Nat := 0
  cmpAt : TT := 0
  missed : Nat := 0
  /-- words received in RAW mode (R208) -/
  rxWords : Nat := 0
  search : Option Search := none
  /-- the last good marker: SUPERFRAME, the word it came in, LANE, LANE_COUNT (R193, R196) -/
  marker : Option (Nat × Nat × Nat × Nat) := none
  totCorr : Nat := 0
  totUncorr : Nat := 0
  totSym : Nat := 0
  losEvents : Nat := 0
  lolEvents : Nat := 0
  alignEvents : Nat := 0
  prbsTotal : Nat := 0
  deriving DecidableEq, Repr

/-- What the head of a line says (R198, R215). -/
structure LineHdr where
  frameStart : Bool := false
  frameEnd : Bool := false
  prevAborted : Bool := false
  wireFrame : Nat := 0
  lineNo : Option Nat := none
  pixfmt : Option Nat := none
  length : Nat := 0
  trigId : Nat := 0xFFFF
  field2 : Bool := false
  merged : Bool := false
  /-- a line of a kind whose frames begin only at a frame start (GVSP, R215) -/
  inside : Bool := false
  deriving DecidableEq, Repr

/-- A line arriving at a port: its place in the frame and what has come of it (R216 to R218). -/
structure LineX where
  hdr : LineHdr
  stamp : TT
  serial : Nat
  index : Nat
  /-- number of the frame it belongs to; none for a line that no frame takes -/
  frame : Option Nat
  /-- discarded at the line FIFO's input, or cut by CLOSE -/
  discard : Bool := false
  /-- its index is LINES or more: the frame is OVERSIZE and the line is not stored (R216) -/
  oversize : Bool := false
  /-- a first word already entered the FIFO -/
  begun : Bool := false
  /-- bytes of the word not yet entered, the last of the line so far, and the offset of the first -/
  buf : List Byte := []
  bufOff : Nat := 0
  /-- where the bytes that arrived end -/
  got : Nat := 0
  deriving DecidableEq, Repr

/-- A word in a line FIFO (R222): header fields, data, and the frame its line belongs to. -/
structure FifoWord where
  sol : Bool
  eol : Bool
  damaged : Bool := false
  lostEol : Bool := false
  offset : Nat
  line : Nat
  data : List Byte
  frame : Option Nat
  /-- of a line that is not stored, its index being LINES or more (R216) -/
  oversize : Bool := false
  serial : Nat
  stamp : TT
  length : Nat
  deriving DecidableEq, Repr

/-- A line as the store stage has it: the bytes that arrived, zero where none did (R259), and which arrived, as spans of
offsets in rising order. -/
structure LineRec where
  index : Nat
  serial : Nat
  stamp : TT
  length : Nat
  bytes : List Byte := []
  have_ : List (Nat × Nat) := []
  damaged : Bool := false
  /-- its last word has passed; the bytes of its reference line, none where they came too late or were refused (R246) -/
  passed : Bool := false
  ref : Option (List Byte) := none
  deriving DecidableEq, Repr

/-- The configuration of a Swatch context as a frame begins (R245, R257). -/
structure SwCfg where
  ctx : Nat
  cmpEn : Bool
  refValid : Bool
  mapEn : Bool
  histEn : Bool
  mapShift : Nat
  model : Nat
  roiEn : Nat
  /-- X0, Y0, W and H of the sixteen regions -/
  rois : List (List Nat)
  tol : List Nat
  refBase : Nat
  refStride : Nat
  refLines : Nat
  resBase : Nat
  resSize : Nat
  resCount : Nat
  tline : Nat
  tframe : Nat
  npkt : Nat
  cmax : Nat
  vrxFull : Nat
  lateLimit : Nat
  mmLimit : Nat
  deriving DecidableEq, Repr

/-- The configuration a frame runs under (R237). -/
structure CapCfg where
  framing : Nat := 0
  trigEn : Bool := false
  trigProg : Nat := 0
  fmtCheck : Bool := false
  pixfmt : Nat := 0
  lineLen : Nat := 0
  lines : Nat := 0
  stride : Nat := 0
  base : Nat := 0
  slotSize : Nat := 0
  queue : Nat := 0
  direct : Bool := false
  frameEvEn : Bool := false
  frameEv : Nat := 0
  sealed : Bool := false
  /-- the Swatch context that analyses the frame, as it stood -/
  sw : Option SwCfg := none
  deriving DecidableEq, Repr

/-- A frame from its first line to the handing over of its tag (R228 to R236). -/
structure FrameX where
  no : Nat
  epoch : Nat
  cfg : CapCfg
  slot : Option Nat
  gen : Bool
  /-- STATUS bits set so far (R234) -/
  status : Nat
  firstTT : TT
  wireFrame : Nat
  trigId : Nat
  /-- after which fire time the associated trigger must lie (R235) -/
  after : TT
  /-- distinct line indexes that began, and lines whose end-of-line mark entered the FIFO -/
  received : List Nat := []
  ended : Nat := 0
  nextIndex : Nat := 0
  lines : List LineRec := []
  /-- index of the first line received (R254) -/
  firstIndex : Option Nat := none
  /-- the mismatch map's bands already written (R251) -/
  bands : List Nat := []
  /-- a field of an interlaced or PsF stream: this frame or the one before was a second field -/
  interlaced : Bool := false
  lostWords : Nat := 0
  lostLines : List Nat := []
  /-- receive stamps of its packets (R254) -/
  stamps : List TT := []
  closed : Bool := false
  closeTT : TT := 0
  /-- table and tag are written -/
  tag : List Byte := []
  table : List Nat := []
  /-- 0 unsealed, 1 waits in the slice, 2 accepted, 3 dropped (R261) -/
  sealSt : Nat := 0
  /-- the frame event has fired (R232) -/
  evented : Bool := false
  /-- its tag has been handed to the ordered appending (R232, R314); release when appended -/
  handed : Bool := false
  release : Bool := false
  deriving DecidableEq, Repr

/-- A capture stream beside its registers (R214 to R244). -/
structure CapX where
  armed : Bool := false
  line : Option LineX := none
  fifo : List FifoWord := []
  /-- the next word to leave carries DAMAGED, and LOSTEOL (R224) -/
  owesDamaged : Bool := false
  owesLostEol : Bool := false
  frames : List FrameX := []
  /-- slots of the present and of the retiring ring: 0 FREE, 1 FILLING, 2 CLOSED (R228, R229) -/
  slots : Sparse Nat := []
  oldSlots : Sparse Nat := []
  /-- slots of the retiring ring -/
  oldCount : Nat := 0
  serial : Nat := 0
  /-- FIRST_TT of the previous frame, or the adoption of EN = 1 (R235) -/
  prevFirst : TT := 0
  /-- number of the last frame whose tag was appended (R141) -/
  lastTag : Option Nat := none
  gap : Bool := false
  /-- the frame of the line that ended last -/
  lastFrame : Option Nat := none
  /-- the last frame was a second field -/
  field2 : Bool := false
  totLost : Nat := 0
  totDamaged : Nat := 0
  totOrphan : Nat := 0
  totThrottled : Nat := 0
  totNoBuffer : Nat := 0
  deriving DecidableEq, Repr

/-- A packet that waits for its turn in sequence order: sequence number, frame (RTP time stamp or block), bytes, stamp,
and whether it came over the secondary path or is a GVSP leader, payload or trailer (R187, R190). -/
structure PktWait where
  seq : Nat
  frame : Nat
  bytes : List Byte
  stamp : TT
  kind : Nat
  deriving DecidableEq, Repr

/-- A stream entry's packet state: ST 2110-20, GVSP or raw UDP (R185 to R190, R215). -/
structure PktX where
  /-- RTP time stamp or GVSP block ID of the open frame, and of the last one that closed -/
  frameId : Option Nat := none
  closedId : Option Nat := none
  /-- the highest sequence number used, and where it stood when the last frame closed (R187) -/
  lastSeq : Option Nat := none
  closedSeq : Option Nat := none
  /-- highest sequence number seen, and the numbers used, newest first (R187) -/
  highest : Option Nat := none
  used : List Nat := []
  /-- the number next expected in sequence order -/
  next : Option Nat := none
  /-- payload bytes of a full data packet of the block, and of the frame so far -/
  pktSize : Nat := 0
  bytes : Nat := 0
  /-- the pixel format the block's leader names (R221) -/
  pixfmt : Option Nat := none
  waits : List PktWait := []
  /-- the marker packet of the open frame has been used -/
  marker : Bool := false
  /-- a held end of frame: when the hold began (R187) -/
  holdSince : Option TT := none
  deriving DecidableEq, Repr

/-- A trigger handed to a VXL port (R204): its target, identity and origin. -/
structure TrigOut where
  target : TT
  trigId : Nat
  width : Nat
  level : Bool
  prog : Nat
  tgt : Nat
  count : Nat
  deriving DecidableEq, Repr

/-- A control-channel request under way (R206). -/
structure CcReq where
  tag : Nat
  block : List Byte
  sent : TT
  tries : Nat
  /-- what it serves: 0 VXL_REG, 1 CAPS, 2 where the description lies, 3 the description -/
  purpose : Nat
  /-- its own number; TAG 255 waits for a free tag -/
  serial : Nat
  deriving DecidableEq, Repr

/-- A calibration under way (R205, VXL_CALIBRATE): the echoes still to make, lane by lane, and the delays found. -/
structure CalX where
  todo : List Nat
  results : List (Nat × Int) := []
  periodic : Bool := false
  deriving DecidableEq, Repr

/-- A PORT_LINK under way: 0 training, 1 alignment and UP, 2 CAPS, 3 where the description lies, 4 the description. -/
structure LinkX where
  start : TT
  limitMs : Nat
  phase : Nat := 0
  descAddr : Nat := 0
  descLeft : Nat := 0
  deriving DecidableEq, Repr

/-- A VXL line being received (R199): its stream, none where no entry takes it, and its length. -/
structure VLine where
  stream : Option Nat
  length : Nat
  deriving DecidableEq, Repr

/-- An echo under way (R205): lane, identity, the request's stamp, and whether it is a calibration's own. -/
structure EchoX where
  lane : Nat
  id : Nat
  t1 : TT
  own : Bool
  deriving DecidableEq, Repr

/-- A port protocol unit beside its registers. -/
structure PortX where
  isOpen : Bool := false
  /-- out of UP since (R135, R202), and in HELLO since -/
  downSince : TT := 0
  helloSince : TT := 0
  cur : Option VLine := none
  trigs : List TrigOut := []
  /-- trigger-receive events to come (R203): the instants and TRIG_IDs; the TRIG_ID of the last one -/
  fires : List (TT × Nat) := []
  lastTrig : Nat := 0
  echo : Option EchoX := none
  echoId : Nat := 0
  txts : List (Nat × Nat × TT) := []
  /-- control-channel blocks to send, and how many have gone in the present superframe (R206) -/
  ccTx : List (List Byte) := []
  ccSent : Nat := 0
  /-- when the present superframe began, its count, and the blocks dealt to the lanes so far (R192, R196) -/
  superAt : Option TT := none
  superNo : Nat := 0
  dealt : Nat := 0
  ccRx : List (List Byte) := []
  ccReqs : List CcReq := []
  ccSerial : Nat := 0
  /-- the last response kept for each TAG (R206): TAG, OP and ADDR of the request, the response block -/
  ccKept : List (Nat × Nat × Nat × List Byte) := []
  cal : Option CalX := none
  calibrated : TT := 0
  link : Option LinkX := none
  caps : Nat := 0
  /-- the blocks and packets handed to the wire in the tick `sentTT`: lane, bytes, and the payload bits of each that injection
  inverts in the lane bit stream after FEC encoding (R284) -/
  sent : List (Nat × List Byte × List Nat) := []
  sentTT : TT := 0
  /-- the slow-path ring, each packet with the receive stamp of a PTP event message (R181, R182), and the packets admitted in
  the present second -/
  slow : List (List Byte × Option TT) := []
  slowSince : TT := 0
  slowCount : Nat := 0
  /-- gaps reported to the slow path: entry, first and last missing packet (R190) -/
  resend : List (Nat × Nat × Nat) := []
  pkts : Sparse PktX := []
  totRx : Nat := 0
  totTx : Nat := 0
  totErr : Nat := 0
  totSlow : Nat := 0
  totCrc : Nat := 0
  totStray : Nat := 0
  deriving DecidableEq, Repr

/-- A seal waiting in a Mordant slice (R261). -/
structure SealX where
  stream : Nat
  frame : Nat
  epoch : Nat
  status : Nat
  hash : List Byte
  digest : List Byte
  /-- when the slice made it -/
  made : TT := 0
  deriving DecidableEq, Repr

/-- A frame being emitted (R275 to R277). -/
structure PalFrame where
  no : Nat
  s : TT
  epoch : Nat
  trigId : Nat
  /-- the RTP time stamp: the media clock at S (R277) -/
  rtp : Nat
  /-- PRBS31 state at its first line (R279) -/
  prbs : Nat
  /-- its GVSP leader has still to leave (R280) -/
  lead : Bool := false
  /-- the next line, or under PACE 2 to 4 the next packet -/
  next : Nat := 0
  /-- the line whose packets leave, and under PACE 1 the next of them -/
  cur : Option (List Byte) := none
  part : Nat := 0
  /-- until when an injected delay holds its next unit back (R284) -/
  hold : Option TT := none
  /-- when its last line left: the GVSP trailer is one line period away (R280) -/
  sentAt : TT := 0
  /-- the configuration registers it runs under, where the channel's have changed since: address and value (R286) -/
  cfg : List (Nat × Word) := []
  deriving DecidableEq, Repr

/-- A Palette channel beside its registers (R273 to R290). -/
structure PalX where
  /-- frames in progress, the oldest first -/
  frames : List PalFrame := []
  /-- index of the next scheduled frame (R277) -/
  k : Nat := 0
  /-- lines fetched ahead: frame number, line, bytes; none where the Net refused the read (R282) -/
  fetched : List (Nat × Nat × Option (List Byte)) := []
  /-- CRCs of the lines CRC_LINE as produced, by frame number (R281) -/
  crcs : List (Nat × Nat) := []
  /-- S of the frame, or the send time of the line, that an accepted firing has scheduled, and its TRIG_ID (R275, R280) -/
  due : Option TT := none
  dueId : Nat := 0
  trigs : Nat := 0
  /-- when the last line of a frame left (R288) -/
  leftAt : Option TT := none
  /-- PRBS31 state at the start of the next frame (R279) -/
  prbs : Nat := 1
  /-- units and payload bits since the channel's enable (R284) -/
  units : Nat := 0
  bits : Nat := 0
  /-- the injection PRBS, and with RANDOM the units to go to the next selected one, by kind (R284) -/
  inj : BitVec 31 := 0
  gaps : List Nat := []
  /-- units held by REORDER, with the bits TARGET 1 inverts -/
  held : List (List Byte × List Nat) := []
  /-- the next RTP sequence number, counted from the channel's first packet -/
  seq : Nat := 0
  /-- the GVCP register image (PAL_GVCP_IMAGE) -/
  image : List Byte := []
  /-- firmware totals (PAL_COUNTERS): LATE, SUPPRESSED, TRIG_BUSY, REFUSED, MAX_DEFER, INJECTED by kind -/
  totals : List Nat := []
  deriving DecidableEq, Repr

/-- A port booth's units. -/
structure BoothX where
  port : PortX := {}
  caps : Sparse CapX := []
  /-- the FIFO the store stage served last (R226) -/
  lastFifo : Nat := 63
  /-- firmware totals of CMD_BAD and REL_BAD (CAP_COUNTERS) -/
  totCmdBad : Nat := 0
  totRelBad : Nat := 0
  seals : List SealX := []
  /-- SW_CONFIG's delivery of records (context, host address, records) -/
  deliver : List (Nat × Nat × Nat) := []
  pals : Sparse PalX := []
  deriving DecidableEq, Repr

/-- A manifest of the builder (R263, R264). -/
structure ManX where
  seq : Nat := 0
  first : Nat := 0
  openTT : TT := 0
  closeTT : TT := 0
  closeEpoch : Nat := 0
  sdn : Nat := 0
  reason : Nat := 0
  deferred : Bool := false
  entries : List (List Byte) := []
  deriving DecidableEq, Repr

/-- The seal booth (R261 to R272). -/
structure SealBooth where
  open_ : ManX := {}
  /-- the reason a deferred close will carry (R263) -/
  deferred : Option Nat := none
  signing : Option ManX := none
  waiting : Option ManX := none
  /-- signed and not yet written: the manifest and its bytes -/
  held : Option (ManX × List Byte) := none
  /-- when the Net last refused its write (R268) -/
  refusedAt : Option TT := none
  /-- the builder is enabled; a manifest has been opened -/
  enabled : Bool := false
  opened : Bool := false
  /-- the tick in which the newest entries were accepted, and how many of them (R269) -/
  freshAt : TT := 0
  fresh : Nat := 0
  prevHash : List Byte := []
  /-- entry number next to be given -/
  entry : Nat := 0
  /-- ring slots not yet released -/
  busySlots : List Nat := []
  nextSlot : Nat := 0
  /-- the seal key statement (R267), 288 bytes -/
  stmt : List Byte := []
  /-- MD_CONFIG: host ring address, slots and notice queue -/
  hostAddr : Nat := 0
  hostCount : Nat := 0
  queue : Nat := 0
  /-- written to the HBM ring and not yet copied to the host: slot, seq, first, count, flags, length -/
  toHost : List (List Nat) := []
  deriving DecidableEq, Repr

/-- The eight port booths and the seal booth. -/
structure PortsX where
  lanes : Sparse LaneX := []
  booths : Sparse BoothX := []
  mordant : SealBooth := {}
  deriving DecidableEq, Repr

/-! ### Security unit and power -/

/-- A life-cycle change to be carried out in the reset that follows it (R451, R452): the vendor hashes and the seed that
PROVISION brings, the owner slot hash to program, and the new state (5 SCRAPPED sets the scrap fuse). -/
structure LcChange where
  vendor : List (List Byte) := []
  seed : List Byte := []
  slot : Option (Nat × List Byte) := none
  toState : Nat
  since : TT := 0
  deriving DecidableEq, Repr

/-- A flash range being erased, written and read back, or the boot select record (R438): where, and with what. -/
structure FlashJob where
  opcode : Nat
  key : Nat
  addr : Nat
  data : List Byte
  deriving DecidableEq, Repr

/-- The security and life-cycle unit beside its registers (R438 to R464). -/
structure SecX where
  /-- OTP (R444): hashes and revoke fuses of the vendor and owner slots, the identity seed, the anti-rollback floor,
  the life-cycle log and the scrap fuse; no address reaches any of it -/
  vHash : Sparse (List Byte) := []
  oHash : Sparse (List Byte) := []
  vRev : Nat := 0
  oRev : Nat := 0
  seed : List Byte := []
  floor : Nat := 0
  lcLog : Sparse Nat := []
  scrap : Bool := false
  dieId : Nat := 0
  /-- the external flash (R438); blank bytes read as all ones -/
  flash : Sparse Byte := []
  jobs : List FlashJob := []
  /-- the key cache: identity key and seal key (R453, R455) -/
  idKey : Option Nat := none
  sealKey : Option Nat := none
  bootNonce : List Byte := []
  /-- adoptions the configuration digest still has to cover, oldest first: epoch and entries (R456) -/
  extend : List (Nat × List MaskedWrite) := []
  /-- NET_HASHk is still to be updated (R122) -/
  netHashDue : Bool := false
  /-- when the live challenge was drawn (R460) -/
  chalTT : TT := 0
  /-- the signed request under check -/
  request : List Byte := []
  change : Option LcChange := none
  svnTarget : Nat := 0
  /-- the 256 bytes of the quote being signed (R459) -/
  quote : List Byte := []
  /-- HKEY_HASH of the board block (R128, R129): empty where there is none -/
  hkeyHash : List Byte := []
  /-- subsystem vendor (low half) and subsystem ID, the values of R415 where the board gives none, and the reference the board
  fits (R443) -/
  ids : Nat := 0x88321FA7
  refclk25 : Bool := false
  /-- FW_VERSION and entry point of the running image (R439) -/
  fwVersion : Nat := 0
  entry : Nat := 0
  /-- the boot ROM's stages: OTP sensed, SRAM wiped, HBM PHYs trained, HBM wiped (R472) -/
  sensed : Bool := false
  sramWiped : Bool := false
  phyTrained : Bool := false
  hbmWiped : Bool := false
  /-- a full reset is held: it has been entered and not released (R470, R471) -/
  inReset : Bool := true
  /-- the Ringmaster is halted over JTAG (R460) -/
  jtagHalted : Bool := false
  /-- what the last JTAG read returned -/
  jtagOut : List Byte := []
  deriving DecidableEq, Repr

/-- The pace loop and the health monitor beside their registers (R476 to R482). -/
structure PowerX where
  /-- bit b: SHORT of booth b was 1 during the present pace period -/
  shortSeen : Nat := 0
  /-- since when a booth's SHORT has held with VREQ at VMAX (R478) -/
  shortSince : Sparse (Option TT) := []
  /-- when VREQ last changed (R479) -/
  vreqTT : TT := 0
  /-- the AVS port is stopped by a device fault until READY (R137) -/
  holdMax : Bool := false
  /-- VOUT values commanded over the AVS port, as far as the last one (R477) -/
  vout : Nat := 0
  /-- since when each rail has lain within 1 % of its band's edge (R480) -/
  railSince : Sparse (Option TT) := []
  /-- since when each limit of R482 has been passed, by its key: sensor k, stack 32 + i, rail 40 + r, sensor k at 125 °C
  64 + k -/
  limitSince : Sparse (Option TT) := []
  /-- corrected HBM words: since when the present second of ECC_WARN runs, and how many (R480) -/
  corrTimes : List TT := []
  /-- PACE_CONFIG has set EN since the last full reset -/
  configured : Bool := false
  /-- firmware totals (HEALTH_COUNTERS) -/
  totWarn : Sparse Nat := []
  totThrottleUs : Nat := 0
  totShort : Nat := 0
  totNaks : Nat := 0
  /-- HM_RSTCAUSE.COUNT as the last CLEAR found it -/
  totResets : Nat := 0
  deriving DecidableEq, Repr

/-! ### The block -/

/-- Everything the spec gives the block but the queue of waiting commands: the registers, the two memories, and
what no register shows. -/
structure Device where
  regs : Sparse Word := []
  hbm : Sparse Byte := []
  hostMem : Sparse Byte := []
  ctl : ControlX := {}
  dlv : DeliveryX := {}
  tim : TimingX := {}
  prt : PortsX := {}
  mot : MotionX := {}
  hst : HostX := {}
  sec : SecX := {}
  pow : PowerX := {}
  deriving DecidableEq, Repr

end Sys2Proof.Machine
end

