-- ==== Sys2Proof/Syntax.lean ====
section
/-! DEFINITION. The commands of the block: one constructor per row of the command table, with the operands the row's event or
entry carries. -/

namespace Sys2Proof

open Sys2Proof.Machine

/-- A port's receiver has found block, FEC and marker lock, its two lanes this far apart (R178). -/
structure EthLock where
  port : Fin 8
  skewNs : Nat
  deriving DecidableEq, Repr

/-- A command from outside: a write or read of a register, a mailbox entry, an event on a lane, a pin, the link or inside
a unit that the table lists. -/
inductive Instr where
  /-- NOP: Echoes its inline payload as the response payload (R68) -/
  | nop (e : Entry)
  /-- IDENTIFY: Returns part, stepping, life cycle, firmware version, mode, SDN and related identity fields (R68) -/
  | identify (e : Entry)
  /-- SET_SDN: Sets the system device number, allowed only in STARTUP (R457) -/
  | setSdn (e : Entry)
  /-- MEM_ALLOC: Reserves contiguous HBM in the general region, answering ACCEPTED when zero-filling (R432) -/
  | memAlloc (e : Entry)
  /-- MEM_FREE: Frees an allocation unless anything still refers to it, in which case it answers BUSY (R432) -/
  | memFree (e : Entry)
  /-- OPEN_MAILBOX: Opens mailbox pair k on queues Q(2k) and Q(2k+1) with the given rings (R55) -/
  | openMailbox (e : Entry)
  /-- CLOSE_MAILBOX: Closes another mailbox, discarding its unstarted commands and passing its resources to the
  principal (R57) -/
  | closeMailbox (e : Entry)
  /-- RESERVE_QUEUES: Reserves or releases a range of general queues for the mailbox (R55) -/
  | reserveQueues (e : Entry)
  /-- SET_MODE: Changes the operating mode along the transitions firmware 3.x allows (R475) -/
  | setMode (e : Entry)
  /-- RECOVER: Starts recovery of a port booth, DMA engine or the device once its fault record has been consumed (R142)
  -/
  | recover (e : Entry)
  /-- OPEN_SYSTEM_QUEUE: Opens Q0 or Q1 from a principal mailbox, after which waiting fault records start to flow (R56)
  -/
  | openSystemQueue (e : Entry)
  /-- MEM_QUERY: Returns free HBM, largest free block, allocation count, ECC totals and stack temperatures (R432) -/
  | memQuery (e : Entry)
  /-- LINK_QUERY: Returns the trained link speed, width, payload settings and error counts (R414) -/
  | linkQuery (e : Entry)
  /-- CAL_QUERY: Returns a sequencer's state, PC, fault, roll IDs and attachment (R89) -/
  | calQuery (e : Entry)
  /-- CAL_LOAD: Copies a host roll image into the Ringmaster region and loads it into the standby bank (R84) -/
  | calLoad (e : Entry)
  /-- CAL_SWAP: Stages or commits a bank swap, entry jump or start of a sequencer (R87) -/
  | calSwap (e : Entry)
  /-- CAL_HALT: Halts a host-owned sequencer (R90) -/
  | calHalt (e : Entry)
  /-- CAL_RESUME: Resumes a halted host-owned sequencer (R90) -/
  | calResume (e : Entry)
  /-- CAL_CLEAR: Clears a halted or faulted sequencer to IDLE (R89) -/
  | calClear (e : Entry)
  /-- CAL_ATTACH: Sets the attachment mask and home booth of CAL15 (R69) -/
  | calAttach (e : Entry)
  /-- CAL_RELEASE: Halts and clears a host roll's sequencer and returns it to firmware (R95) -/
  | calRelease (e : Entry)
  /-- TXN_OPEN: Opens a free transaction slot TX0-TX13 for the mailbox (R96) -/
  | txnOpen (e : Entry)
  /-- TXN_STAGE: Stages up to COUNT entries into an open transaction, stopping at the first refusal (R99) -/
  | txnStage (e : Entry)
  /-- TXN_COMMIT: Commits a transaction in IMMEDIATE, TIME or EVENT mode and answers finally on adoption or abort (R101)
  -/
  | txnCommit (e : Entry)
  /-- TXN_CANCEL: Cancels a transaction under R117 or reports it too late (R117) -/
  | txnCancel (e : Entry)
  /-- TXN_QUERY: Returns a transaction's state, reason, count, epoch and adoption tick (R116) -/
  | txnQuery (e : Entry)
  /-- EPOCH_QUERY: Returns the device epoch and the Curtain status bits (R113) -/
  | epochQuery (e : Entry)
  /-- LANE_QUERY: Returns a lane's rate, status, training, alignment and equaliser settings (R144) -/
  | laneQuery (e : Entry)
  /-- LANE_CONFIG: Configures rate, enables, FFE, swing and LOS settings of a lane (R145) -/
  | laneConfig (e : Entry)
  /-- LANE_TRAIN: Runs lane training and answers finally at DATA or FAIL (R154) -/
  | laneTrain (e : Entry)
  /-- LANE_ALIGN: Runs the marker search over up to 64 offsets and answers with the offset found (R158) -/
  | laneAlign (e : Entry)
  /-- LANE_IDLE: Sets or clears TX_IDLE of a lane (R159) -/
  | laneIdle (e : Entry)
  /-- LANE_LOOP: Selects a lane loopback mode in TEST (R161) -/
  | laneLoop (e : Entry)
  /-- LANE_PRBS: Controls the PRBS generator and checker and returns lock and errors (R162) -/
  | lanePrbs (e : Entry)
  /-- LANE_HIST: Runs a histogram window and writes the bins and levels to the host (R165) -/
  | laneHist (e : Entry)
  /-- LANE_COUNTERS: Returns and optionally clears the firmware totals of lane counters (R166) -/
  | laneCounters (e : Entry)
  /-- PORT_QUERY: Returns a port's mode, state and counters (R202) -/
  | portQuery (e : Entry)
  /-- PORT_OPEN: Opens a port in a mode and role with its addresses (R213) -/
  | portOpen (e : Entry)
  /-- PORT_CLOSE: Clears ENABLE and MODE, ending any 4-lane borrow (R213) -/
  | portClose (e : Entry)
  /-- PORT_LINK: Trains and aligns the port's lanes and waits for UP (R202) -/
  | portLink (e : Entry)
  /-- STREAM_RX: Sets or clears a stream table entry and joins or leaves its multicast group (R183) -/
  | streamRx (e : Entry)
  /-- VXL_CALIBRATE: Runs echo rounds and writes each lane's one-way delay (R205) -/
  | vxlCalibrate (e : Entry)
  /-- VXL_REG: Reads or writes a camera register over the control channel (R206) -/
  | vxlReg (e : Entry)
  /-- PTP_CONFIG: Writes the PTP stamping settings of a port (R182) -/
  | ptpConfig (e : Entry)
  /-- PORT_COUNTERS: Returns and optionally clears firmware totals of port counters (R179) -/
  | portCounters (e : Entry)
  /-- CAP_QUERY: Returns a stream's flags, free slots, next frame and FIFO levels (R231) -/
  | capQuery (e : Entry)
  /-- CAP_STREAM: Configures a capture stream and its ring, and for COMMAND framing its roll (R214) -/
  | capStream (e : Entry)
  /-- CAP_ENABLE: Starts or stops a capture stream at its next frame boundary (R237) -/
  | capEnable (e : Entry)
  /-- CAP_RELEASE: Releases a CLOSED slot of a DIRECT stream (R229) -/
  | capRelease (e : Entry)
  /-- CAP_COUNTERS: Returns and optionally clears firmware totals of capture counters (R224) -/
  | capCounters (e : Entry)
  /-- SW_CONFIG: Configures a Swatch context and its result area (R257) -/
  | swConfig (e : Entry)
  /-- SW_REFERENCE: Stages a reference's base, stride, lines and REF_VALID together (R248) -/
  | swReference (e : Entry)
  /-- SW_REGION: Sets a Swatch region of interest (R252) -/
  | swRegion (e : Entry)
  /-- SW_RESULT: Copies a frame's Swatch result record to the host (R255) -/
  | swResult (e : Entry)
  /-- MD_CONFIG: Configures sealing masks and the manifest builder and its host delivery (R268) -/
  | mdConfig (e : Entry)
  /-- MD_FLUSH: Flushes the open manifest and answers when it is written (R263) -/
  | mdFlush (e : Entry)
  /-- MD_STATEMENT: Writes the seal key statement to the host (R267) -/
  | mdStatement (e : Entry)
  /-- MD_QUERY: Returns manifest sequence, next entry and builder state (R262) -/
  | mdQuery (e : Entry)
  /-- PAL_QUERY: Returns a channel's state, next frame and epoch (R277) -/
  | palQuery (e : Entry)
  /-- PAL_CONFIG: Loads a Palette channel's register image (R287) -/
  | palConfig (e : Entry)
  /-- PAL_ENABLE: Starts or stops a Palette channel (R277) -/
  | palEnable (e : Entry)
  /-- PAL_INJECT: Sets the fault-injection kinds and intervals of a channel (R284) -/
  | palInject (e : Entry)
  /-- PAL_SKEW: Sets the injected skew of a logical lane (R285) -/
  | palSkew (e : Entry)
  /-- PAL_GVCP_IMAGE: Loads the register image firmware uses to answer GVCP for a channel (R190) -/
  | palGvcpImage (e : Entry)
  /-- PAL_COUNTERS: Returns and optionally clears firmware totals of Palette counters (R282) -/
  | palCounters (e : Entry)
  /-- Q_OPEN: Opens a general queue with its ring, kind and interrupt settings (R291) -/
  | qOpen (e : Entry)
  /-- Q_CLOSE: Closes a queue not named by any stream or channel (R291) -/
  | qClose (e : Entry)
  /-- Q_QUERY: Returns a queue's indices, counts, kind and error (R294) -/
  | qQuery (e : Entry)
  /-- Q_RESET: Clears a queue's error and optionally empties it (R302) -/
  | qReset (e : Entry)
  /-- DMA_CHANNEL: Claims and configures or releases a DMA channel (R309) -/
  | dmaChannel (e : Entry)
  /-- DMA_SUBMIT: Writes or stages a channel's shadow set and ARM, optionally waiting for its record (R305) -/
  | dmaSubmit (e : Entry)
  /-- DMA_PAUSE: Pauses, resumes or disarms a DMA channel (R310) -/
  | dmaPause (e : Entry)
  /-- DMA_QUERY: Returns a channel's state, generation, remaining length and configuration (R305) -/
  | dmaQuery (e : Entry)
  /-- TIME_QUERY: Returns TT, ERA, WT and servo state (R331) -/
  | timeQuery (e : Entry)
  /-- TIME_STEP: Performs a time step and answers TT after it (R326) -/
  | timeStep (e : Entry)
  /-- TIME_SLEW: Runs a slew and answers when it ends or is aborted (R328) -/
  | timeSlew (e : Entry)
  /-- TIME_INCR: Writes INCR and answers the value adopted (R323) -/
  | timeIncr (e : Entry)
  /-- PTP_SERVO: Starts or stops the firmware PTP instance and servo (R339) -/
  | ptpServo (e : Entry)
  /-- PTP_STATUS: Returns servo state, grandmaster data, offset and path delay (R340) -/
  | ptpStatus (e : Entry)
  /-- TIMING_PINS: Configures the timing pins and returns the last input stamps (R334) -/
  | timingPins (e : Entry)
  /-- TIME_PTM: Runs or stops PTM dialogues and returns the latest record (R335) -/
  | timePtm (e : Entry)
  /-- MW_CHANNEL: Claims, configures or releases a Midway channel (R349) -/
  | mwChannel (e : Entry)
  /-- MW_FIRE: Fires a host-owned channel (R349) -/
  | mwFire (e : Entry)
  /-- MW_WATCH: Reads, clears or forwards a channel's watch bit (R349) -/
  | mwWatch (e : Entry)
  /-- MW_GATE: Sets Midway gates or a consumer input's gate and dead time (R346) -/
  | mwGate (e : Entry)
  /-- BK_PROGRAM: Configures a Barker program and its targets (R350) -/
  | bkProgram (e : Entry)
  /-- BK_ARM: Arms or disarms a Barker program (R362) -/
  | bkArm (e : Entry)
  /-- BK_QUERY: Returns a program's state and a fire record (R356) -/
  | bkQuery (e : Entry)
  /-- TRG_PIN: Configures a trigger pin (R359) -/
  | trgPin (e : Entry)
  /-- TRG_STAMPS: Pops input stamps of a pin to the host (R359) -/
  | trgStamps (e : Entry)
  /-- BK_ACTION: Sets the GigE Vision action parameters of a program's target (R361) -/
  | bkAction (e : Entry)
  /-- FB_QUERY: Returns a channel's count, revolution, speed and status (R374) -/
  | fbQuery (e : Entry)
  /-- FB_CONFIG: Configures a feedback channel (R369) -/
  | fbConfig (e : Entry)
  /-- FB_SET_POS: Sets a feedback channel's position (R375) -/
  | fbSetPos (e : Entry)
  /-- FB_LATCH: Arms or disarms a position latch, optionally waiting for it (R380) -/
  | fbLatch (e : Entry)
  /-- FB_COMPARE: Sets a channel's compare unit (R379) -/
  | fbCompare (e : Entry)
  /-- FB_COUNTERS: Returns and optionally clears firmware totals of feedback counters (R371) -/
  | fbCounters (e : Entry)
  /-- AX_QUERY: Returns an axis's position, velocity, state and drive values (R394) -/
  | axQuery (e : Entry)
  /-- AX_CONFIG: Configures an axis's profile, drive and homing parameters (R405) -/
  | axConfig (e : Entry)
  /-- AX_ENABLE: Enables or disables an axis (R406) -/
  | axEnable (e : Entry)
  /-- AX_MOVE: Starts a position, velocity or step move, optionally waiting for its end (R391) -/
  | axMove (e : Entry)
  /-- AX_STOP: Stops an axis, optionally waiting for rest (R404) -/
  | axStop (e : Entry)
  /-- AX_HOME: Arms the latch and starts homing, answering at its end (R399) -/
  | axHome (e : Entry)
  /-- AX_SET_POS: Sets an axis set-point at rest (R411) -/
  | axSetPos (e : Entry)
  /-- AX_COUNTERS: Returns and optionally clears firmware totals of axis counters (R403) -/
  | axCounters (e : Entry)
  /-- SEC_QUERY: Returns life cycle, slots, floor and firmware version (R444) -/
  | secQuery (e : Entry)
  /-- ATTEST: Obtains a signed quote for a host nonce (R458) -/
  | attest (e : Entry)
  /-- ID_CERT: Writes the identity certificate to the host (R454) -/
  | idCert (e : Entry)
  /-- SEC_REQUEST: Submits a signed request to the security unit (R447) -/
  | secRequest (e : Entry)
  /-- SVN_COMMIT: Advances the anti-rollback floor (R446) -/
  | svnCommit (e : Entry)
  /-- FW_STAGE: Writes image data into a flash slot and reads it back (R438) -/
  | fwStage (e : Entry)
  /-- FW_ACTIVATE: Checks a staged image and writes the boot select record to prefer it (R441) -/
  | fwActivate (e : Entry)
  /-- DEBUG_CHALLENGE: Returns a fresh debug challenge (R460) -/
  | debugChallenge (e : Entry)
  /-- DEBUG_OPEN: Submits a DEBUG request to open JTAG (R460) -/
  | debugOpen (e : Entry)
  /-- HEALTH_QUERY: Returns temperatures, warnings, VREQ, pace and mode (R479) -/
  | healthQuery (e : Entry)
  /-- HEALTH_LIMITS: Sets temperature and ECC warning limits (R480) -/
  | healthLimits (e : Entry)
  /-- PACE_CONFIG: Configures the AVS port and pace loop after confirming the regulator (R477) -/
  | paceConfig (e : Entry) (acked : Bool)
  /-- HEALTH_SENSORS: Writes all sensor and rail readings to the host (R479) -/
  | healthSensors (e : Entry)
  /-- HEALTH_COUNTERS: Returns and optionally clears firmware totals of health events (R478) -/
  | healthCounters (e : Entry)
  /-- REGISTER_WRITE: A write to a register that has no row of its own takes effect under its access code, passing the
  booth's Net checkpoint (R17) -/
  | registerWrite (host : Bool) (addr : Nat) (half : Half) (value : Word) (mismatch : Bool)
  /-- WDT_CTL_WRITE: A write of RM_WDT_CTL.TIMEOUT sets the watchdog timeout, clamped, unless LOCK is set (R48) -/
  | wdtCtlWrite (timeout : Nat)
  /-- WDT_KICK_WRITE: A write to RM_WDT_KICK advances the 0x5A/0xA5 kick pair, restarting the count on a valid kick or
  counting a bad kick (R48) -/
  | wdtKickWrite (key : Byte)
  /-- BMB_RING: A host write setting BMB_CTLn.RING submits the slot's command, unless RING or DONE is already set (R52)
  -/
  | bmbRing (n : Fin 8) (done : Bool)
  /-- BMB_DONE_CLEAR: A write of 1 to BMB_CTLn.DONE clears it, before any RING in the same access is accepted (R52) -/
  | bmbDoneClear (n : Fin 8)
  /-- BMB_COMPLETE: Firmware writing RM_BMB_DONE bit n copies status and tag into BMB_CTLn, clears RING and sets DONE in
  one update (R51) -/
  | bmbComplete (n : Fin 8)
  /-- MEM_ALLOC_FILL_DONE: The zero fill of an allocation ends and the final response of MEM_ALLOC is written (R432) -/
  | memAllocFillDone (handle : Nat)
  /-- RECOVER_DONE: The recovered scope has been wiped back to IDLE and RECOVER's final OK is written (R142) -/
  | recoverDone (scope : Nat) (index : Nat)
  /-- CAL_LOAD_GO: Writing CAL_LD_CTL.GO starts a roll load into the standby bank, or refuses it (R84) -/
  | calLoadGo (n : Fin 16)
  /-- CAL_HALT_WRITE: CAL_CMD.HALT finishes the current step's words, abandons the wait and halts the sequencer (R90) -/
  | calHaltWrite (n : Fin 16)
  /-- CAL_RESUME_WRITE: CAL_CMD.RESUME re-enters a halted sequencer's step at its wait, or at a new entry step (R90) -/
  | calResumeWrite (n : Fin 16)
  /-- CAL_CLEAR_WRITE: CAL_CMD.CLEAR returns a halted or faulted sequencer to IDLE and clears CAL_FAULT (R89) -/
  | calClearWrite (n : Fin 16)
  /-- CAL_ATTACH_WRITE: A write of CAL_ATTACH sets the mask and home booth of a spare sequencer when allowed (R69) -/
  | calAttachWrite (n : Fin 16) (booths : Nat) (home : Nat)
  /-- CAL_TREL_WRITE: A write to CAL_TRELk sets Tk to the TT of the write plus the written value (R81) -/
  | calTrelWrite (n : Fin 16) (k : Fin 4) (value : Word)
  /-- CALLIOPE_STEP_ENTRY: A running sequencer enters a step, adopts a pending swap, issues its words and begins its
  wait (R75) -/
  | calliopeStepEntry (n : Fin 16)
  /-- CAL_TIME_WAIT_EXPIRE: TT reaching a TIME wait's target ends the wait and the branch is evaluated (R77) -/
  | calTimeWaitExpire (n : Fin 16)
  /-- CAL_TIMEOUT: TT reaching a step's timeout ends the wait with TIMED_OUT set (R78) -/
  | calTimeout (n : Fin 16)
  /-- CURTAIN_STAGE: A write of CUR_STG_DATA stages an entry into a slot and returns the stage result (R99) -/
  | curtainStage (high : Bool) (value : Word)
  /-- STAGE_DATA_LOW_WRITE: A 32-bit write to the lower half of CUR_STG_DATA holds that half without staging (R99) -/
  | stageDataLowWrite (value : BitVec 32)
  /-- CUR_TX_OPEN: Setting CUR_TXn_CTL.OPEN clears a free slot's entries and enters OPEN (R96) -/
  | curTxOpen (n : Fin 16)
  /-- CUR_TX_COMMIT: Setting CUR_TXn_CTL.COMMIT starts the commit check of an open slot (R102) -/
  | curTxCommit (n : Fin 16)
  /-- CUR_TX_CANCEL: Setting CUR_TXn_CTL.CANCEL frees, aborts or is ignored according to the slot's state (R117) -/
  | curTxCancel (n : Fin 16)
  /-- CURTAIN_CHECK_DONE: The commit check finishes, either fixing the adoption tick and arming or aborting with a
  reason (R102) -/
  | curtainCheckDone (n : Fin 16)
  /-- CURTAIN_DEADLINE_PASS: TT passing an EVENT-mode deadline without a firing aborts the slot with DEADLINE (R116) -/
  | curtainDeadlinePass (n : Fin 16)
  /-- CURTAIN_FINAL_SAMPLE: At TT_c minus 64 ns every target samples readiness again and any unready target aborts the
  transaction (R106) -/
  | curtainFinalSample (n : Fin 16)
  /-- CURTAIN_ADOPT: At TT_c the transaction is adopted, the epoch incremented and INSTANT fields applied (R104) -/
  | curtainAdopt (n : Fin 16)
  /-- NET_PORT_STAGE: A write of NET_PORT_DATA stages a limits-table entry into TX15 while unlocked (R129) -/
  | netPortStage (high : Bool) (value : Word)
  /-- NET_PORT_DATA_LOW_WRITE: A 32-bit write to the lower half of NET_PORT_DATA holds that half without staging (R129)
  -/
  | netPortDataLowWrite (value : BitVec 32)
  /-- LANE_CTL_WRITE: A write of LN_CTL sets rate, enables, inversion, precoding and loop, ignoring RATE while the lane
  is on (R169) -/
  | laneCtlWrite (l : Fin 16) (value : Word)
  /-- LANE_TX_WRITE: A write of LN_TX sets swing and idle under the Net, clearing TX_IDLE starting a wake burst (R149)
  -/
  | laneTxWrite (l : Fin 16) (value : Word)
  /-- LANE_FFE_WRITE: A write of LN_FFE takes a valid tap set, or is ignored with CFG_BAD (R150) -/
  | laneFfeWrite (l : Fin 16) (value : Word)
  /-- LN_TRAIN_START: LN_TRAIN_CTL.START loads the local preset, wakes the transmitter and enters WAIT (R154) -/
  | lnTrainStart (l : Fin 16)
  /-- LN_TRAIN_ABORT: LN_TRAIN_CTL.ABORT returns the training engine to OFF (R154) -/
  | lnTrainAbort (l : Fin 16)
  /-- LN_TRAIN_REQ_WRITE: A manual request word written to LN_TRAIN_REQ is sent to the far transmitter (R155) -/
  | lnTrainReqWrite (l : Fin 16) (request : BitVec 16)
  /-- LN_TRAIN_DONE_WRITE: Writing LN_TRAIN_REQ.DONE declares the local receiver done in manual training (R155) -/
  | lnTrainDoneWrite (l : Fin 16)
  /-- TRAIN_FRAME_RX: A received training frame's request and response words drive the responder and the training state
  (R153) -/
  | trainFrameRx (l : Fin 16) (head : BitVec 128) (word2 copy : Word) (eye : Nat)
  /-- TXPLL_LOCK: The transmit PLL locks after TX_ON (R170) -/
  | txpllLock (l : Fin 16)
  /-- CDR_LOCK: The receive CDR locks to the incoming signal (R170) -/
  | cdrLock (l : Fin 16)
  /-- LOS_ASSERT: Received amplitude below threshold for ASSERT_NS asserts LOS and holds CDR state (R163) -/
  | losAssert (l : Fin 16) (mv : Nat) (ns : Nat)
  /-- LOS_DEASSERT: Amplitude above threshold plus hysteresis for 16 ns deasserts LOS (R163) -/
  | losDeassert (l : Fin 16) (mv : Nat) (ns : Nat)
  /-- LN_SLIP: Writing LN_ALIGN_CTL.SLIP requests a one-symbol delay of the receive stream (R157) -/
  | lnSlip (l : Fin 16)
  /-- LN_HIST_START: LN_HIST_CTL.START begins a histogram window (R165) -/
  | lnHistStart (l : Fin 16)
  /-- PORT_CTL_WRITE: A write of PP_CTL sets mode, role, enable and emit subject to the enable and Net rules (R175) -/
  | portCtlWrite (p : Fin 8) (value : Word)
  /-- ETH_BLOCK_LOCK: Block, FEC and marker lock are reached and an Ethernet port passes from SYNC to UP (R178) -/
  | ethBlockLock (e : EthLock)
  /-- ETH_FRAME_RX: A received Ethernet frame is filtered, parsed, stamped and classified into a stream or the slow path
  (R179) -/
  | ethFrameRx (p : Fin 8) (frame : List Byte) (stamp : TT) (fec : List (Nat × Option Nat))
  /-- PACKET_TRANSMIT: A packet leaves the port with a transmit stamp written to PP_TXTS where enabled (R182) -/
  | packetTransmit (p : Fin 8) (frame : List Byte) (t : TT)
  /-- TXTS_POP: A read of PP_TXTS pops the head transmit-stamp entry (R182) -/
  | txtsPop (p : Fin 8)
  /-- VXL_MARKER_RX: A received superframe marker is used for alignment, lane identity and deskew (R193) -/
  | vxlMarkerRx (l : Fin 16) (word : Nat) (w0 w1 : Word)
  /-- VXL_LINK_INFO_RX: A partner LINK_INFO in HELLO moves the port to UP or FAILED (R202) -/
  | vxlLinkInfoRx (p : Fin 8) (block : List Byte)
  /-- VXL_CODEWORD_RX: An RS(272,258) codeword is decoded, correcting errors or discarding its blocks (R194) -/
  | vxlCodewordRx (l : Fin 16) (message parity : List Nat)
  /-- VXL_LINE_START_RX: A LINE_START begins a line of its stream, ending any unfinished line as damaged (R199) -/
  | vxlLineStartRx (p : Fin 8) (block : List Byte) (stamp : TT)
  /-- VXL_DATA_BLOCK_RX: A data block carries line bytes into the line FIFO, or is counted STRAY (R199) -/
  | vxlDataBlockRx (p : Fin 8) (n : Nat) (data : List Byte)
  /-- VXL_TRIGGER_RX: A port in ROLE 1 receives a TRIGGER block and schedules its fire instant (R203) -/
  | vxlTriggerRx (p : Fin 8) (block : List Byte) (t : TT)
  /-- VXL_TRIGGER_FIRE: At t_rx plus TRIG_LAT plus OFFSET the camera-role port fires its trigger-receive event (R203) -/
  | vxlTriggerFire (p : Fin 8)
  /-- VXL_TRIGGER_TX: A TRIGGER block is sent in its chosen slot with its OFFSET, or late with TRIG_LATE (R204) -/
  | vxlTriggerTx (p : Fin 8) (slots : List (Nat × TT))
  /-- VXL_ECHO_GO: Setting PP_VXL_ECHO.GO sends an ECHO_REQ and stamps it (R205) -/
  | vxlEchoGo (p : Fin 8) (lane : Fin 4) (t1 : TT)
  /-- VXL_ECHO_REQ_RX: A camera-role port answers a received ECHO_REQ with an ECHO_RSP on the same lane (R205) -/
  | vxlEchoReqRx (p : Fin 8) (lane : Fin 4) (block : List Byte) (tIn : TT) (tOut : TT)
  /-- VXL_ECHO_RSP_RX: A received ECHO_RSP is stamped and the round-trip time stored with DONE (R205) -/
  | vxlEchoRspRx (p : Fin 8) (lane : Fin 4) (block : List Byte) (t4 : TT)
  /-- VXL_CTRL_RX: A received CTRL block is queued in PP_CC_RX and answered or matched under the control-channel rules
  (R206) -/
  | vxlCtrlRx (p : Fin 8) (block : List Byte)
  /-- CTRL_TX_QUEUE: Writing PP_CC_TX3 queues a CTRL block with TYPE and CRC added (R206) -/
  | ctrlTxQueue (p : Fin 8) (value : Word)
  /-- CTRL_RX_POP: Reading PP_CC_RX3 pops the head received CTRL block (R206) -/
  | ctrlRxPop (p : Fin 8)
  /-- LINE_WORD_ENTER: A line word enters its line FIFO, overwriting the oldest word if full (R222) -/
  | lineWordEnter (p : Fin 8) (k : Fin 64) (sol : Bool) (eol : Bool) (bytes : List Byte) (stamp : TT)
  /-- STORE_STAGE_TAKE: The store stage takes a word round-robin from the line FIFOs and writes it to the frame store
  (R226) -/
  | storeStageTake (p : Fin 8)
  /-- CAP_FRAME_START: A frame's first line takes the next slot and frame number, or ends as a NO_BUFFER or THROTTLED
  placeholder (R228) -/
  | capFrameStart (p : Fin 8) (k : Fin 64) (header : LineHdr) (stamp : TT)
  /-- CAP_OPEN: CAP_CMD OP OPEN arms a COMMAND-framing stream for a frame (R218) -/
  | capOpen (p : Fin 8) (k : Fin 64)
  /-- CAP_CLOSE: CAP_CMD OP CLOSE ends the open frame of a COMMAND-framing stream (R218) -/
  | capClose (p : Fin 8) (k : Fin 64)
  /-- CAP_TRUNCATE: CAP_CMD OP TRUNCATE ends the open frame with TRUNCATED set (R218) -/
  | capTruncate (p : Fin 8) (k : Fin 64)
  /-- CAP_REL_WRITE: A write to CAP_REL frees a CLOSED slot of the named generation or counts REL_BAD (R229) -/
  | capRelWrite (p : Fin 8) (k : Fin 64) (gen : Bool) (slot : Nat)
  /-- LINESCAN_TIME_CLOSE: TT reaching FIRST_TT plus BLOCK_NS closes a non-empty line-scan block (R219) -/
  | linescanTimeClose (p : Fin 8) (k : Fin 64)
  /-- CAP_FRAME_EVENT: Payload, table and tag become resident, FRAME_EV fires and a DIRECT tag goes to its queue (R232)
  -/
  | capFrameEvent (p : Fin 8) (k : Fin 64)
  /-- MB_REL_WRITE: A write to MB_REL frees a manifest ring slot, letting a held manifest be written (R268) -/
  | mbRelWrite (slot : Nat)
  /-- PAL_FRAME_START: At a channel's frame start S the frame number is taken and FRAME_EV fires (R275) -/
  | palFrameStart (p : Fin 8) (c : Fin 4)
  /-- PAL_LINE_PREFETCH: PREFETCH_NS before its send time a line is fetched or generated into the transmit queue (R282)
  -/
  | palLinePrefetch (p : Fin 8) (c : Fin 4) (line : Nat)
  /-- PAL_LINE_SEND: At its send time a ready line is released to the wire, or skipped whole as late (R276) -/
  | palLineSend (p : Fin 8) (c : Fin 4) (defer : Nat)
  /-- DOORBELL_PROD_WRITE: A DB_PROD write on a command queue is tested and adopted, submitting entries, or errors the
  queue (R298) -/
  | doorbellProdWrite (q : Fin 1048576) (prod : BitVec 32)
  /-- DOORBELL_CONS_WRITE: A DB_CONS write returns entries, rearms the interrupt and lets held appends proceed (R298) -/
  | doorbellConsWrite (q : Fin 1048576) (cons : BitVec 32)
  /-- DB_WM_READ: A read of DB_WM returns WM_HIT and PEAK, clears WM_HIT and resets PEAK to the level (R301) -/
  | dbWmRead (q : Fin 1048576)
  /-- DB_REARM: DB_CTL.REARM sets IRQ_ARMED and signals unconsumed entries at once (R301) -/
  | dbRearm (q : Fin 1048576)
  /-- CAR_APPEND: Writing an entry's last word to CAR_APP_DATA appends it to the target queue (R299) -/
  | carAppend (value : Word)
  /-- COALESCE_TIMEOUT: COAL_US elapsing since the oldest unsignalled entry requests a message (R301) -/
  | coalesceTimeout (q : Fin 1048576)
  /-- DMA_ARM_WRITE: Setting DMA_CHn_CTL.ARM arms the shadow set, or is ignored if already armed (R305) -/
  | dmaArmWrite (e : Fin 32) (c : Fin 16)
  /-- DMA_DISARM_WRITE: DMA_CHn_CTL.DISARM clears ARM unless a hand-over already took it (R306) -/
  | dmaDisarmWrite (e : Fin 32) (c : Fin 16)
  /-- DMA_PAUSE_WRITE: A write of DMA_CHn_CTL.PAUSE pauses or resumes a channel (R310) -/
  | dmaPauseWrite (e : Fin 32) (c : Fin 16) (on : Bool)
  /-- DMA_TRANSFER_END: A transfer's last write leaves the engine and its completion record is appended (R312) -/
  | dmaTransferEnd (e : Fin 32)
  /-- TB_INCR_WRITE: A write of TB_INCR takes effect at the next tick, clamped to ±1,000 ppm (R323) -/
  | tbIncrWrite (incr : BitVec 40)
  /-- TB_PLL_LOCK: The time-base PLL locks and TT starts counting (R338) -/
  | tbPllLock (ref25 : Bool)
  /-- PPS_IN_EDGE: An active TIME_PPS_IN edge is stamped and may fire PPS_IN_EV (R333) -/
  | ppsInEdge (t : TT) (rising : Bool)
  /-- TEN_MHZ_IN_EDGE: The first TIME_10M_IN rising edge after a PPS edge is stamped into TP_10M_PHASE (R333) -/
  | tenMhzInEdge (t : TT)
  /-- PTM_DIALOGUE_DONE: A PTM dialogue ends, recording T1, master time and delay, or setting FAILED (R335) -/
  | ptmDialogueDone (good : Bool) (t1 : TT) (master : Word) (prop : BitVec 32)
  /-- MW_FIRE_WRITE: A write of MW_FIRE fires a FIRE-mode channel from its owner, or is refused and counted (R349) -/
  | mwFireWrite (src : Src) (c : Fin 256)
  /-- BARKER_TIME_FIRE: A TIME program reaches a schedule index and produces a fire instant (R351) -/
  | barkerTimeFire (p : Fin 32)
  /-- BARKER_ACT_COMMIT: TT reaching an act time minus its advance commits the act (R355) -/
  | barkerActCommit (p : Fin 32) (t : Fin 4)
  /-- BARKER_ACT: At its act time a target fires its channel, posts an action or hands a time to its VXL port (R357) -/
  | barkerAct (p : Fin 32) (t : Fin 4)
  /-- BARKER_FIRE_RECORD: A fire record is written into the program's history (R356) -/
  | barkerFireRecord (p : Fin 32)
  /-- TRG_PULSE_LEAD: A pin pulse's leading edge is placed at the pad, or the pulse is dropped (R358) -/
  | trgPulseLead (n : Fin 16)
  /-- TRG_PULSE_TRAIL: A pin pulse's trailing edge is placed WIDTH after its leading edge (R358) -/
  | trgPulseTrail (n : Fin 16)
  /-- TRG_INPUT_EDGE: A filtered input pin edge is stamped into the FIFO and may fire IN_EV (R359) -/
  | trgInputEdge (n : Fin 16) (t : TT) (rising : Bool)
  /-- TRG_IN_POP: TRG_IN.POP pops the head input stamp (R359) -/
  | trgInPop (n : Fin 16)
  /-- ENCODER_EDGE: An accepted quadrature edge counts, stamps, updates direction and speed (R371) -/
  | encoderEdge (f : Fin 4) (a : Bool) (b : Bool) (stamp : TT)
  /-- HALL_STATE_CHANGE: A new Hall state counts up or down or records an invalid or jumped state (R372) -/
  | hallStateChange (f : Fin 4) (state : Fin 8) (stamp : TT)
  /-- SSI_READ_START: Each PERIOD_US an SSI read starts, or is refused and counted (R373) -/
  | ssiReadStart (f : Fin 4) (high : Bool) (t : TT)
  /-- SSI_READING_DONE: An SSI frame completes and its reading is accepted as an edge or discarded (R373) -/
  | ssiReadingDone (f : Fin 4) (reading : Nat)
  /-- SWITCH_EDGE: An accepted FBn_SW edge latches position when armed, or counts chatter (R380) -/
  | switchEdge (f : Fin 4) (rising : Bool) (t : TT) (since : Int)
  /-- INDEX_EDGE: An accepted FBn_Z edge latches position when armed (R380) -/
  | indexEdge (f : Fin 4) (rising : Bool) (t : TT) (since : Int)
  /-- FB_SET_POS_WRITE: FB_CMD.SET_POS sets the position to the preset and rejudges the compare (R375) -/
  | fbSetPosWrite (f : Fin 4)
  /-- FB_LATCH_ARM: FB_LATCH.ARM arms the latch and clears LATCHED and CHATTER_CNT (R380) -/
  | fbLatchArm (f : Fin 4)
  /-- SERVO_PERIOD_BOUNDARY: At a servo boundary the generator computes the next set-point and applies pending BOUNDARY
  writes (R390) -/
  | servoPeriodBoundary (a : Fin 4) (samples : List (Int × Int)) (load : Nat)
  /-- MP_GO_WRITE: MP_CTL.GO starts or arms a move at the next boundary (R392) -/
  | mpGoWrite (a : Fin 4)
  /-- MP_STOP_WRITE: MP_CTL.STOP brings the axis to rest and into HOLD (R404) -/
  | mpStopWrite (a : Fin 4)
  /-- MP_SET_POS_WRITE: MP_CTL.SET_POS sets the set-point to PRESET and HOMED when at rest (R411) -/
  | mpSetPosWrite (a : Fin 4)
  /-- MP_HOME_GO: MP_HOME.GO starts a homing run (R399) -/
  | mpHomeGo (a : Fin 4)
  /-- STEP_INPUT_EDGE: An accepted AXa_STEP edge adds STEP_RES microsteps in the sampled direction (R395) -/
  | stepInputEdge (a : Fin 4) (dir : Bool)
  /-- LIMIT_SWITCH: An end limit becoming active in the direction of travel stops the axis and fires LIMIT_EV (R397) -/
  | limitSwitch (a : Fin 4) (negative : Bool)
  /-- AXIS_FAULT_INPUT: An active AXa_FLT_N cuts the enable, stops set-points and puts the axis into FAULTED (R407) -/
  | axisFaultInput (a : Fin 4)
  /-- BAR4_READ: A BAR4 read is mapped and Net-checked, returning after earlier writes are resident (R422) -/
  | bar4Read (off : Nat) (len : Nat)
  /-- BAR4_WRITE: A BAR4 write is mapped and Net-checked and becomes resident within 2 µs, or is dropped (R421) -/
  | bar4Write (off : Nat) (bytes : List Byte) (poisoned : Bool)
  /-- HOST_AP_BASE_WRITE: A write of HOST_AP_BASE moves the aperture, or is ignored with CFG_BAD (R423) -/
  | hostApBaseWrite (base : Nat)
  /-- BUS_MASTER_CHANGE: Bus Master Enable falling stalls link requests, and rising resumes them in order (R425) -/
  | busMasterChange (cfg : HostCfg)
  /-- HBM_WIPE_DONE: The HBM wipe ends and the memory booth serves requests (R436) -/
  | hbmWipeDone (us : Nat)
  /-- CONFIG_READY: DL_Up is reached and configuration requests stop receiving retry status (R429) -/
  | configReady (speed : Nat) (width : Nat) (flit : Bool)
  /-- HM_MODE_WRITE: A write of HM_MODE changes the operating mode, refusing a return to STARTUP (R475) -/
  | hmModeWrite (mode : Fin 4)
  /-- SEC_SVN_REQ_WRITE: A write of SEC_SVN_REQ starts programming anti-rollback fuses up to the capped target (R446) -/
  | secSvnReqWrite (target : Nat)
  /-- SEC_SDN_WRITE: A write of SEC_SDN is taken only in STARTUP (R457) -/
  | secSdnWrite (sdn : Nat)
  /-- HEALTH_SAMPLE: Every 100 µs junction and stack temperatures are sampled and warnings or throttles raised (R479) -/
  | healthSample (temps : List (BitVec 16)) (hbmTemps : List Byte)
  /-- RAIL_SAMPLE: Every 10 µs each rail is measured and tested against its band (R479) -/
  | railSample (mv : List (BitVec 16))
  /-- RINGMASTER_ECC_ERROR: An ECC error in a Ringmaster cache or SRAM is corrected and counted, or if uncorrectable
  raises a device fault (R45) -/
  | ringmasterEccError (uncorrectable : Bool)
  /-- LINK_LOSS_TIMEOUT: A lane loss lasting 1 µs while a port frame is open raises a contained fault LINK_LOSS (R135)
  -/
  | linkLossTimeout (p : Fin 8)
  /-- FIFO_PARITY_ERROR: A line-FIFO or protocol-unit parity or sequencing error raises a contained fault of the port
  booth (R135) -/
  | fifoParityError (p : Fin 8)
  /-- BOOTH_SRAM_UECC: An uncorrectable ECC error in the SRAM of a non-port booth raises a device fault BOOTH_UECC
  (R135) -/
  | boothSramUecc (booth : Fin 16)
  /-- HBM_UNCORRECTABLE_ERROR: An uncorrectable HBM word is reported to its requester with the consequence for its class
  (R433) -/
  | hbmUncorrectableError (cls : Nat) (booth : Nat) (index : Nat) (off : Nat)
  /-- HBM_CORRECTED_ERROR: A single-bit HBM error is corrected, written back and counted (R433) -/
  | hbmCorrectedError (cls : Nat) (booth : Nat) (index : Nat) (off : Nat)
  /-- LANE_TRAIN_TIMEOUT: TIMEOUT ms after START without reaching DATA puts training into FAIL (R154) -/
  | laneTrainTimeout (l : Fin 16)
  /-- WAKE_BURST_DONE: The 4,096-symbol wake burst ends and the transmitter takes data (R159) -/
  | wakeBurstDone (l : Fin 16)
  /-- LANE_WAKE_RX: A received wake burst ends the receive hold and fires EV252 (R160) -/
  | laneWakeRx (l : Fin 16)
  /-- ADAPT_OK: The receive CTLE and DFE have settled (R156) -/
  | adaptOk (l : Fin 16) (ctle : Nat) (dfe : List Byte)
  /-- LOL_ASSERT: CDR frequency error or phase-detector failure asserts loss of lock (R164) -/
  | lolAssert (l : Fin 16) (ppm : Nat) (words : Nat)
  /-- LANE_SLIP_DONE: The slip takes effect, SLIP_BUSY clears and the comparator restarts (R157) -/
  | laneSlipDone (l : Fin 16)
  /-- ALIGN_LOST: LOSE consecutive periods without a match clear FOUND and restart the search (R158) -/
  | alignLost (l : Fin 16)
  /-- LANE_HIST_DONE: The histogram window ends and levels and spread are computed (R165) -/
  | laneHistDone (l : Fin 16) (low : List (BitVec 32)) (inner : List (List (BitVec 32))) (high : List (BitVec 32))
  /-- PRBS_CHECKER_LOCK: The PRBS checker locks on 64 error-free bits (R162) -/
  | prbsCheckerLock (l : Fin 16) (symbols : List Nat)
  /-- MERGE_HOLD_EXPIRE: The HOLD time of a held end of frame ends and the merged frame closes (R187) -/
  | mergeHoldExpire (p : Fin 8) (k : Fin 64)
  /-- PORT_ALIGN_LOSS_TIMEOUT: FOUND clear for 1 µs on a lane returns the VXL port to DOWN (R202) -/
  | portAlignLossTimeout (p : Fin 8)
  /-- PORT_HELLO_TIMEOUT: No valid partner LINK_INFO within 1 ms of HELLO fails the port with HELLO_TIMEOUT (R202) -/
  | portHelloTimeout (p : Fin 8)
  /-- VXL_ECHO_TIMEOUT: No ECHO_RSP within 10 µs sets DONE with TURNAROUND all ones (R205) -/
  | vxlEchoTimeout (p : Fin 8)
  /-- CTRL_RETRY_TIMEOUT: 2 ms without a response resends a CTRL request, up to 3 times, then reports a timeout (R206)
  -/
  | ctrlRetryTimeout (p : Fin 8) (tag : Nat)
  /-- VXL_CALIBRATE_PERIODIC: Every second firmware repeats a 4-round calibration of a UP port and writes D (R205) -/
  | vxlCalibratePeriodic (p : Fin 8)
  /-- LINE_FIFO_DIAG_POP: CAP_LF_DIAG.POP pops a word from a disabled stream's FIFO or sets DENIED (R225) -/
  | lineFifoDiagPop (p : Fin 8) (k : Fin 64)
  /-- PAL_PACKET_RELEASE: A paced ST 2110 packet is released at its own time with fault injection applied (R276) -/
  | palPacketRelease (p : Fin 8) (c : Fin 4) (defer : Nat)
  /-- GVCP_REQUEST_RX: Firmware answers a GVCP request received on the slow path (R190) -/
  | gvcpRequestRx (p : Fin 8)
  /-- DMA_PAUSE_DONE: A running transfer stops new reads, completes its writes and enters PAUSED (R310) -/
  | dmaPauseDone (e : Fin 32) (moved : Nat)
  /-- DMA_READ_COMPLETION_ERROR: A completion error, poison or timeout on a DMA read raises a contained fault of the
  engine (R428) -/
  | dmaReadCompletionError (r : EngineRead)
  /-- SPEED_TIMEOUT: TIMEOUT_US without a counted edge clears SPEED_VALID and sets SPEED_LOST (R378) -/
  | speedTimeout (f : Fin 4)
  /-- AXIS_POWER_DOWN: An axis at rest for PD_MS powers its driver down and applies its standstill mode (R406) -/
  | axisPowerDown (a : Fin 4)
  /-- AXIS_WAKE_HOLD_DONE: After 2 ms of I_HOLD at the kept angle a powered-down axis starts its move (R406) -/
  | axisWakeHoldDone (a : Fin 4)
  /-- PATROL_SCRUB: The patrol scrub reads a word, rewriting corrected and logging uncorrectable ones (R434) -/
  | patrolScrub (off : Nat) (found : Bool) (uncorrectable : Bool)
  /-- JTAG_DEBUG_REQUEST: A DEBUG request through JTAG is checked and opens JTAG, wiping the key cache (R460) -/
  | jtagDebugRequest (request : List Byte)
  /-- JTAG_PROVISION: PROVISION over JTAG draws the identity seed and programs vendor slots (R451) -/
  | jtagProvision (hashes : List (List Byte))
  /-- BOOTH_PACE_UPDATE: Every 1 µs a booth measures its pace, updating RATIO, SHORT and SHORT_SEEN (R33) -/
  | boothPaceUpdate (booth : Fin 16) (ratio : BitVec 16)
  /-- PACE_PERIOD: Each pace period the loop adjusts VREQ and commands it over the AVS port (R476) -/
  | pacePeriod (naks : Nat)
  /-- ETH_LOCK_LOSS: An Ethernet port loses block, FEC or marker lock and leaves UP for DOWN (R202) -/
  | ethLockLoss (p : Fin 8)
  /-- TRAINING_LOS_FAIL: LOS lasting 1 µs puts the lane training engine into FAIL with RESULT LOS (R154) -/
  | trainingLosFail (l : Fin 16)
  /-- CONTAINED_SRAM_UECC: An uncorrectable ECC error in a port booth's SRAM or FIFOs, or inside a DMA engine, raises a
  contained fault with reason UECC (R135) -/
  | containedSramUecc (engine : Bool) (n : Fin 32)
  /-- QUEUE_READ_COMPLETION_ERROR: A completion error, poisoned data or timeout on a Carousel ring or mailbox
  input-buffer read puts the queue in error HOST or discards the command (R428) -/
  | queueReadCompletionError (r : RingRead) (cmd : Option (Nat × Entry))
  /-- LINK_TLP_ERROR: An ECRC failure, malformed TLP, receiver overflow or flow-control error on a received TLP drops it
  and is logged in AER (R428) -/
  | linkTlpError (kind : AerKind)
  /-- END_LIMIT_RELEASE: An end-limit input returns inactive after its filter, so motion toward it is again allowed
  (R397) -/
  | endLimitRelease (a : Fin 4) (negative : Bool)
  /-- AXIS_FAULT_RELEASE: AXa_FLT_N returns inactive, clearing CD_STAT.FLT so that a write of CD_CTL.EN can leave
  FAULTED (R407) -/
  | axisFaultRelease (a : Fin 4)
  /-- ALIGN_SEARCH_TIMER: Firmware's wait of 4 + PERIOD words at an offset, or the LIMIT_US of LANE_ALIGN, runs out and
  the search slips on or reports ALIGN_FAILED (R158) -/
  | alignSearchTimer (l : Fin 16)
  /-- PORT_LINK_TIME_LIMIT: LIMIT_MS of PORT_LINK passes with the port short of UP and firmware answers LINK_FAILED
  (R202) -/
  | portLinkTimeLimit (p : Fin 8)
  /-- PTP_MESSAGE_TIMER: At each sync, announce or delay-request interval firmware sends the PTP message its role
  requires (R339) -/
  | ptpMessageTimer (kind : Nat) (t : TT)
  /-- SLOW_PATH_PACKET_RX: Firmware takes an ARP, ND, IGMP/MLD or RTCP packet from the slow-path ring and answers or
  consumes it (R181) -/
  | slowPathPacketRx (p : Fin 8)
  /-- JTAG_DEBUG_ACCESS: An open JTAG port halts, steps or accesses the Ringmaster and booth windows at its LEVEL (R460)
  -/
  | jtagDebugAccess (op : Jtag)
  /-- WDT_LOCK: Setting RM_WDT_CTL.LOCK makes TIMEOUT read-only until reset (R48) -/
  | wdtLock
  /-- WATCHDOG_EARLY: Half the timeout elapsing since the last kick sets EARLY and RM_IRQ_PEND.WDT_EARLY (R48) -/
  | watchdogEarly
  /-- WATCHDOG_EXPIRY: The watchdog count reaching TIMEOUT raises a device fault with reason WATCHDOG (R49) -/
  | watchdogExpiry
  /-- ROLL_LOAD_DONE: The roll loader finishes its checks, setting VALID and ROLL_ID or reporting the first failure
  (R85) -/
  | rollLoadDone
  /-- CONFIG_DIGEST_EXTEND: The security unit finishes extending the configuration digest with an adopted transaction
  (R456) -/
  | configDigestExtend
  /-- NET_HASH_UPDATE: NET_HASHk is updated with the digest of the table after a TX15 adoption (R122) -/
  | netHashUpdate
  /-- NET_PORT_UNLOCK: NET_PORT_CTL.UNLOCK compares the host key hash and sets UNLOCKED or counts a failure (R129) -/
  | netPortUnlock
  /-- NET_PORT_OPEN: NET_PORT_CTL.OPEN opens TX15 while the port is unlocked (R130) -/
  | netPortOpen
  /-- NET_PORT_COMMIT: NET_PORT_CTL.COMMIT commits TX15 in IMMEDIATE mode with exclusion (R130) -/
  | netPortCommit
  /-- NET_PORT_CANCEL: NET_PORT_CTL.CANCEL cancels TX15 under R117 whatever UNLOCKED says (R129) -/
  | netPortCancel
  /-- NET_PORT_LOCK: NET_PORT_CTL.LOCK clears UNLOCKED (R129) -/
  | netPortLock
  /-- FAULT_LOG_DRAIN: A waiting record leaves the on-chip log for Q0 in RECNO order once Q0 is open with room (R140) -/
  | faultLogDrain
  /-- FIRMWARE_COUNTER_SAMPLE: Every 10 ms firmware samples the RC counters of enabled units into its totals (R166) -/
  | firmwareCounterSample
  /-- PTP_ANNOUNCE_TIMEOUT: No valid Sync for announceReceiptTimeout intervals moves the servo to HOLDOVER (R340) -/
  | ptpAnnounceTimeout
  /-- SEAL_ACCEPT: The manifest builder accepts a seal, numbers it into the open manifest, or refuses it (R261) -/
  | sealAccept
  /-- MANIFEST_INTERVAL_CLOSE: INTERVAL elapsing since OPEN_TT closes the open manifest (R263) -/
  | manifestIntervalClose
  /-- MB_FLUSH: Writing MB_CTL.FLUSH closes the open manifest with reason FLUSH (R263) -/
  | mbFlush
  /-- MANIFEST_SIGNED: The signer finishes a manifest signature and a deferred close may proceed (R266) -/
  | manifestSigned
  /-- MANIFEST_WRITE_RETRY: Every 1 ms a held manifest whose write the Net refused is retried (R268) -/
  | manifestWriteRetry
  /-- CAR_CTX_LOAD: CAR_CTX_CMD.LOAD reads a queue context into the data registers (R294) -/
  | carCtxLoad
  /-- CAR_CTX_STORE: CAR_CTX_CMD.STORE writes a context in one update after its checks, or sets ERR (R294) -/
  | carCtxStore
  /-- CAR_TAKE: CAR_TAKE_CMD.TAKE reads the entry at CONS of a command queue and advances CONS (R298) -/
  | carTake
  /-- MSIX_PENDING_SEND: When a masking condition ends, one message is sent for a pending vector (R427) -/
  | msixPendingSend
  /-- TB_STEP_GO: TB_STEP_CTL.GO starts an ADD or LOAD step, at once or pending an AT target (R326) -/
  | tbStepGo
  /-- TB_STEP_APPLY: At the step tick the step changes WT and optionally TT and ERA (R326) -/
  | tbStepApply
  /-- TB_SLEW_GO: TB_SLEW_CTL.GO starts or extends a slew (R328) -/
  | tbSlewGo
  /-- TB_SLEW_ABORT: TB_SLEW_CTL.ABORT stops the slew and leaves its remainder (R328) -/
  | tbSlewAbort
  /-- SLEW_DONE: The slew's remainder reaches 0 and SLEWING clears (R328) -/
  | slewDone
  /-- TB_SNAP_GO: TB_SNAP_CTL.GO latches TT, ERA and WT into the snapshot registers (R331) -/
  | tbSnapGo
  /-- TT_WRAP: TT wraps and ERA increments (R324) -/
  | ttWrap
  /-- REFCLK_LOST: TB_REFCLK stopping or departing 1,000 ppm sets REF_LOST and the PLL holds frequency (R336) -/
  | refclkLost
  /-- REFCLK_RELOCK: The returned reference is relocked and REF_LOST clears (R336) -/
  | refclkRelock
  /-- PPS_OUT_EDGE: WT passing a whole second plus offset raises TIME_PPS_OUT and may fire PPS_OUT_EV (R334) -/
  | ppsOutEdge
  /-- PTM_GO: PTM_CTL.GO starts one PTM dialogue (R335) -/
  | ptmGo
  /-- PTM_AUTO_PERIOD: Each PERIOD_MS with AUTO set starts a PTM dialogue (R335) -/
  | ptmAutoPeriod
  /-- MIDWAY_DELIVER: A channel firing reaches a consumer input through its gate and dead time (R346) -/
  | midwayDeliver
  /-- BK_ACT_POP: BK_ACT_POP.POP pops the head action record (R361) -/
  | bkActPop
  /-- ACTION_CMD_SEND: Firmware turns an action record into a GigE Vision ACTION_CMD (R361) -/
  | actionCmdSend
  /-- MOTION_UECC: An uncorrectable ECC in the motion booth cuts every enable, sets SUSPECT and logs a motion note
  (R138) -/
  | motionUecc
  /-- BAR_BAD_ACCESS: A misaligned or unsupported BAR0 or BAR2 request completes with UR or is dropped and counted
  (R419) -/
  | barBadAccess
  /-- D3HOT_ENTRY: Entering D3hot stalls requests and makes BAR requests complete with UR (R426) -/
  | d3hotEntry
  /-- LINK_RESET: FLR, hot reset, DL_Down or D3hot to D0 causes a full device reset (R430) -/
  | linkReset
  /-- PERST_ASSERT: PERST# held low causes a full device reset (R470) -/
  | perstAssert
  /-- POWER_ON_RESET: Rails coming into band release the power-on reset after 2 ms (R468) -/
  | powerOnReset
  /-- BROWN_OUT: A rail below 85 % for 1 µs causes a power-on reset (R468) -/
  | brownOut
  /-- RESET_RELEASE: A full reset is released and OTP sensing and the boot ROM start (R472) -/
  | resetRelease
  /-- SRAM_WIPE_DONE: The SRAM wipe ends and the boot ROM starts (R462) -/
  | sramWipeDone
  /-- IDENTITY_KEY_READY: The identity key is derived and ID_READY set (R453) -/
  | identityKeyReady
  /-- BOOT_IMAGE_LOAD: The boot ROM verifies and copies an image, signs the seal statement and jumps to ENTRY, or stops
  (R440) -/
  | bootImageLoad
  /-- HM_READY_SET: Firmware writing HM_READY.SET raises DEV_STATUS.READY (R472) -/
  | hmReadySet
  /-- SVN_PROGRAM_DONE: Fuse programming ends and the floor is raised (R446) -/
  | svnProgramDone
  /-- SEC_REQUEST_GO: SEC_REQ_CTL.GO starts the check of a signed request (R448) -/
  | secRequestGo
  /-- SEC_REQUEST_CHECK_DONE: The signed request check ends with its result and executes or refuses the request (R448)
  -/
  | secRequestCheckDone
  /-- LIFECYCLE_RESET: 1 to 10 ms after an accepted transition the unit starts a full reset and programs the fuses
  (R452) -/
  | lifecycleReset
  /-- SEC_QUOTE_GO: SEC_Q_CTL.GO starts assembling a quote, or refuses it without the identity key (R459) -/
  | secQuoteGo
  /-- QUOTE_DONE: The signed quote is written to its destination and DONE set (R459) -/
  | quoteDone
  /-- SEC_NEW_CHALLENGE: SEC_DBG_CTL.NEW_CHAL draws a live debug challenge (R460) -/
  | secNewChallenge
  /-- DEBUG_CHALLENGE_EXPIRE: 60 s of TT after drawing the debug challenge ceases to be live (R460) -/
  | debugChallengeExpire
  /-- JTAG_NEW_CHALLENGE: A NEW_CHAL through the JTAG data register draws a live challenge (R460) -/
  | jtagNewChallenge
  /-- JTAG_SCRAP: A JTAG scrap in BLANK or PROVISIONED enters SCRAPPED (R451) -/
  | jtagScrap
  /-- PACE_CEILING: SHORT held for 10 ms at VMAX sets PACE_CEILING and raises a warning (R478) -/
  | paceCeiling
  /-- HEALTH_LIMIT_EXPIRE: A health limit held for its duration raises a device fault HEALTH, and may assert THERMTRIP_N
  (R482) -/
  | healthLimitExpire
  /-- TB_LOCK_TIMEOUT: If TB_REFCLK gives no lock within 10 ms of step 2, TT starts from the internal oscillator and
  REF_LOST is set (R474) -/
  | tbLockTimeout
  /-- HBM_PHY_TRAINED: The HBM PHYs finish training and the HBM wipe starts (R472) -/
  | hbmPhyTrained
  /-- FLASH_WRITE_DONE: Firmware's erase, write and read-back of a flash range (FW_STAGE) or the boot select record
  (FW_ACTIVATE) ends and the final response is written (R438) -/
  | flashWriteDone
  deriving DecidableEq, Repr

end Sys2Proof
end

