-- ==== Sys2Proof/Decode.lean ====
section
/-! DEFINITION. The command that a word spells by the table's bits: the command table of this block gives no row any bits
(its rows are events and entries, not encodings), so there is none. -/

namespace Sys2Proof

/-- No row of the table has an encoding. -/
def decodeTableWord (_nbits _w : Nat) : Option Instr := none

end Sys2Proof
end

