-- ==== Sys2Proof/Config.lean ====
section
/-! DEFINITION. What an implementation fixes or the spec leaves open: free values, opaque, so that nothing can be
proved of their values. The log entry beside each says where the spec leaves it open. -/

namespace Sys2Proof.Config

/-- The fixed receive latency of a lane at offset 0, by RATE and precoding (R167; log entry 20). -/
opaque rxLatency : Nat → Bool → BitVec 32

/-- The fixed transmit latency of a lane, by RATE and precoding (R167; log entry 20). -/
opaque txLatency : Nat → Bool → BitVec 32

/-- The n-th tap request the AUTO training algorithm chooses (R155; log entry 21). -/
opaque trainRequest : Nat → BitVec 10

/-- While a booth runs short of pace: this line's reference data came too late to compare it (R246; log entry 25), by
port, frame and line. -/
opaque refLate : Nat → Nat → Nat → Bool

/-- TRIG_LAT of an LN8832 in ROLE 1, in 1/64 ns (R203; log entry 28): a constant of the device. -/
opaque ownTrigLat : BitVec 32

/-- The bootstrap registers of an LN8832 in ROLE 1 beyond VXL_VERSION, byte by byte (R207; log entry 28). -/
opaque bootstrapByte : Nat → BitVec 8

/-- A byte the spec gives no value, by draw and place: of PORT_QUERY's response (log entry 29), of the destination MAC of a
message firmware sends (log entries 40, 46), of what a broken fuse or flash job leaves (log entry 79), of the CRC of a line
never produced (log entry 122). -/
opaque openByte : Nat → Nat → BitVec 8

/-- Whether a change counts under the reserved DECODE 3: whether A changed, its level, the direction (R371, log
entry 127). -/
opaque reservedDecode : Bool → Bool → Bool → Bool

/-- Wall time, in 2^-32 ns, after a step that asks for one that does not exist: below zero, or a second of more than 10^9 ns
(R326, log entry 123). -/
opaque wallOutside : Int → Nat

/-- INCR as the proportional-integral loop of R340 writes it (log entry 34): by INCR, offset and integral. -/
opaque servoIncr : List Int → BitVec 40

/-- The clock identity of the part's PTP port (R339, log entry 34), byte by byte. -/
opaque clockId : Nat → BitVec 8

/-- A byte of an ECDSA signature, a key or a random number the device makes (R266, R267, R272; log entry 39): by draw
and place. -/
opaque secretByte : Nat → Nat → BitVec 8

/-- A gap between randomly selected units (R284; log entry 43), by the state of the channel's PRBS31 and the range it is drawn from,
and that state after the draw: the spec does not say how the PRBS31 gives it. -/
opaque injGap : BitVec 31 → Nat → Nat
opaque injNext : BitVec 31 → BitVec 31

/-- BYTES of a line FIFO word that holds no byte, the end-of-line word of an empty line (R222; log entry 118). -/
opaque emptyWord : BitVec 6

/-- The Ringmaster address of the seal key statement (R267; log entry 119). -/
opaque statementAddr : BitVec 48

/-- The first RTP sequence number of a Palette channel (R280; log entry 44), by port and channel. -/
opaque rtpSeq : Nat → BitVec 32

/-- The length of the board configuration block's header: MAGIC, VERSION and body length, whose places the spec does not
give (R443; log entry 51). -/
opaque boardHeader : Nat

/-- A section of the board configuration block's body, by its kind: 0 the table image (bytes 0x0100 to 0x0B0F), 1
HKEY_HASH, 2 SDN, 3 IDS, 4 REFCLK; none where the body lacks it (R443; log entry 51). -/
opaque boardSection : List (BitVec 8) → Nat → Option (List (BitVec 8))

/-- A byte of the boot ROM, whose contents the spec does not give (R46; log entry 55), by address. -/
opaque bootRomByte : Nat → BitVec 8

/-- The channel that a consumer input of the motion booth selects, where no register or command of the spec names it: latch
source 2, SSI read request and STOP (R346, R381, R410; log entry 56), by input number. -/
opaque motionInput : Nat → Option Nat

/-- The state a pattern generator starts in, by draw (R162, R170; log entry 114). -/
opaque patternStart : Nat → BitVec 31

end Sys2Proof.Config
end

