-- ==== Sys2Proof/Machine/RegsControl.lean ====
section
/-! DEFINITION. Registers of the control booth, the Net port of BAR0 and the booth headers: one Reg per register table of the spec, one Fld per field,
with address, access code, apply point and reset value as the table states them. -/

namespace Sys2Proof.Machine.R

/-- `BOOTH_ID` (01_architecture.md). -/
def BOOTH_ID : Reg := ⟨0x1000000, [(0x1000000, 15)], 0x0⟩
def BOOTH_ID_NUM : Fld := ⟨BOOTH_ID, 0, 4, .ro, .none⟩
def BOOTH_ID_KIND : Fld := ⟨BOOTH_ID, 4, 4, .ro, .none⟩
def BOOTH_ID_PRESENT : Fld := ⟨BOOTH_ID, 8, 1, .ro, .none⟩
/-- `BOOTH_STATE` (01_architecture.md). -/
def BOOTH_STATE : Reg := ⟨0x1000008, [(0x1000000, 15)], 0x0⟩
def BOOTH_STATE_STATE : Fld := ⟨BOOTH_STATE, 0, 2, .ro, .none⟩
def BOOTH_STATE_WIPE_BUSY : Fld := ⟨BOOTH_STATE, 2, 1, .ro, .none⟩
def BOOTH_STATE_THROTTLE : Fld := ⟨BOOTH_STATE, 3, 1, .ro, .none⟩
def BOOTH_STATE_BORROWED : Fld := ⟨BOOTH_STATE, 4, 1, .ro, .none⟩
/-- `BOOTH_SEQ` (01_architecture.md). -/
def BOOTH_SEQ : Reg := ⟨0x1000010, [(0x1000000, 15)], 0x0⟩
def BOOTH_SEQ_ATTACHED : Fld := ⟨BOOTH_SEQ, 0, 16, .ro, .none⟩
/-- `BOOTH_PACE` (01_architecture.md). -/
def BOOTH_PACE : Reg := ⟨0x1000018, [(0x1000000, 15)], 0x0⟩
def BOOTH_PACE_RATIO : Fld := ⟨BOOTH_PACE, 0, 16, .ro, .none⟩
def BOOTH_PACE_SHORT : Fld := ⟨BOOTH_PACE, 16, 1, .ro, .none⟩
def BOOTH_PACE_SHORT_SEEN : Fld := ⟨BOOTH_PACE, 17, 1, .rc, .none⟩
/-- `RM_STATUS` (02_ringmaster_mailboxes.md). -/
def RM_STATUS : Reg := ⟨0xf100000, [], 0x0⟩
def RM_STATUS_STAGE : Fld := ⟨RM_STATUS, 0, 2, .ro, .none⟩
def RM_STATUS_OWNER_FW : Fld := ⟨RM_STATUS, 2, 1, .ro, .none⟩
/-- `RM_ECC` (02_ringmaster_mailboxes.md). -/
def RM_ECC : Reg := ⟨0xf100008, [], 0x0⟩
def RM_ECC_CORR : Fld := ⟨RM_ECC, 0, 16, .rc, .none⟩
/-- `RM_WDT_CTL` (02_ringmaster_mailboxes.md). -/
def RM_WDT_CTL : Reg := ⟨0xf100010, [], 0x7d0⟩
def RM_WDT_CTL_TIMEOUT : Fld := ⟨RM_WDT_CTL, 0, 14, .rw, .none⟩
def RM_WDT_CTL_LOCK : Fld := ⟨RM_WDT_CTL, 14, 1, .w1s, .none⟩
/-- `RM_WDT_KICK` (02_ringmaster_mailboxes.md). -/
def RM_WDT_KICK : Reg := ⟨0xf100018, [], 0x0⟩
def RM_WDT_KICK_KEY : Fld := ⟨RM_WDT_KICK, 0, 8, .wo, .none⟩
/-- `RM_WDT_STAT` (02_ringmaster_mailboxes.md). -/
def RM_WDT_STAT : Reg := ⟨0xf100020, [], 0x7d0⟩
def RM_WDT_STAT_REMAIN : Fld := ⟨RM_WDT_STAT, 0, 14, .ro, .none⟩
def RM_WDT_STAT_EARLY : Fld := ⟨RM_WDT_STAT, 14, 1, .w1c, .none⟩
def RM_WDT_STAT_BAD_KICK : Fld := ⟨RM_WDT_STAT, 16, 8, .rc, .none⟩
/-- `RM_IRQ_PEND` (02_ringmaster_mailboxes.md). -/
def RM_IRQ_PEND : Reg := ⟨0xf100028, [], 0x0⟩
def RM_IRQ_PEND_MBOX : Fld := ⟨RM_IRQ_PEND, 0, 1, .w1c, .none⟩
def RM_IRQ_PEND_BMB : Fld := ⟨RM_IRQ_PEND, 1, 1, .w1c, .none⟩
def RM_IRQ_PEND_WDT_EARLY : Fld := ⟨RM_IRQ_PEND, 2, 1, .w1c, .none⟩
def RM_IRQ_PEND_NET : Fld := ⟨RM_IRQ_PEND, 3, 1, .w1c, .none⟩
def RM_IRQ_PEND_CONTAINED : Fld := ⟨RM_IRQ_PEND, 4, 1, .w1c, .none⟩
def RM_IRQ_PEND_CURTAIN : Fld := ⟨RM_IRQ_PEND, 5, 1, .w1c, .none⟩
def RM_IRQ_PEND_EVENT : Fld := ⟨RM_IRQ_PEND, 6, 1, .w1c, .none⟩
def RM_IRQ_PEND_HEALTH : Fld := ⟨RM_IRQ_PEND, 7, 1, .w1c, .none⟩
/-- `RM_IRQ_EN` (02_ringmaster_mailboxes.md). -/
def RM_IRQ_EN : Reg := ⟨0xf100030, [], 0x0⟩
def RM_IRQ_EN_MBOX : Fld := ⟨RM_IRQ_EN, 0, 1, .rw, .none⟩
def RM_IRQ_EN_BMB : Fld := ⟨RM_IRQ_EN, 1, 1, .rw, .none⟩
def RM_IRQ_EN_WDT_EARLY : Fld := ⟨RM_IRQ_EN, 2, 1, .rw, .none⟩
def RM_IRQ_EN_NET : Fld := ⟨RM_IRQ_EN, 3, 1, .rw, .none⟩
def RM_IRQ_EN_CONTAINED : Fld := ⟨RM_IRQ_EN, 4, 1, .rw, .none⟩
def RM_IRQ_EN_CURTAIN : Fld := ⟨RM_IRQ_EN, 5, 1, .rw, .none⟩
def RM_IRQ_EN_EVENT : Fld := ⟨RM_IRQ_EN, 6, 1, .rw, .none⟩
def RM_IRQ_EN_HEALTH : Fld := ⟨RM_IRQ_EN, 7, 1, .rw, .none⟩
/-- `RM_BMB_PEND` (02_ringmaster_mailboxes.md). -/
def RM_BMB_PEND : Reg := ⟨0xf100038, [], 0x0⟩
def RM_BMB_PEND_PEND : Fld := ⟨RM_BMB_PEND, 0, 8, .ro, .none⟩
/-- `RM_BMB_DONE` (02_ringmaster_mailboxes.md). -/
def RM_BMB_DONE : Reg := ⟨0xf100040, [], 0x0⟩
def RM_BMB_DONE_DONE : Fld := ⟨RM_BMB_DONE, 0, 8, .wo, .none⟩
/-- `CAL_CTL` (03_calliope_sequencer.md). -/
def CAL_CTL : Reg := ⟨0xf200000, [(0x1000, 16)], 0x0⟩
def CAL_CTL_RUN : Fld := ⟨CAL_CTL, 0, 1, .cs, .instant⟩
def CAL_CTL_BANK : Fld := ⟨CAL_CTL, 1, 1, .cs, .boundary⟩
def CAL_CTL_ENTRY : Fld := ⟨CAL_CTL, 4, 12, .cs, .boundary⟩
def CAL_CTL_FAULT_EV : Fld := ⟨CAL_CTL, 16, 8, .rw, .none⟩
def CAL_CTL_FAULT_EV_EN : Fld := ⟨CAL_CTL, 24, 1, .rw, .none⟩
/-- `CAL_ATTACH` (03_calliope_sequencer.md). -/
def CAL_ATTACH : Reg := ⟨0xf200008, [(0x1000, 16)], 0x0⟩
def CAL_ATTACH_BOOTHS : Fld := ⟨CAL_ATTACH, 0, 15, .rw, .none⟩
def CAL_ATTACH_HOME : Fld := ⟨CAL_ATTACH, 16, 4, .rw, .none⟩
/-- `CAL_CMD` (03_calliope_sequencer.md). -/
def CAL_CMD : Reg := ⟨0xf200010, [(0x1000, 16)], 0x0⟩
def CAL_CMD_HALT : Fld := ⟨CAL_CMD, 0, 1, .wo, .none⟩
def CAL_CMD_RESUME : Fld := ⟨CAL_CMD, 1, 1, .wo, .none⟩
def CAL_CMD_CLEAR : Fld := ⟨CAL_CMD, 2, 1, .wo, .none⟩
/-- `CAL_STAT` (03_calliope_sequencer.md). -/
def CAL_STAT : Reg := ⟨0xf200018, [(0x1000, 16)], 0x0⟩
def CAL_STAT_STATE : Fld := ⟨CAL_STAT, 0, 3, .ro, .none⟩
def CAL_STAT_SWAP_PENDING : Fld := ⟨CAL_STAT, 3, 1, .ro, .none⟩
def CAL_STAT_VALID0 : Fld := ⟨CAL_STAT, 4, 1, .ro, .none⟩
def CAL_STAT_VALID1 : Fld := ⟨CAL_STAT, 5, 1, .ro, .none⟩
def CAL_STAT_LOADING : Fld := ⟨CAL_STAT, 6, 1, .ro, .none⟩
def CAL_STAT_PC : Fld := ⟨CAL_STAT, 8, 12, .ro, .none⟩
/-- `CAL_FAULT` (03_calliope_sequencer.md). -/
def CAL_FAULT : Reg := ⟨0xf200020, [(0x1000, 16)], 0x0⟩
def CAL_FAULT_CODE : Fld := ⟨CAL_FAULT, 0, 4, .ro, .none⟩
def CAL_FAULT_STEP : Fld := ⟨CAL_FAULT, 4, 12, .ro, .none⟩
def CAL_FAULT_WORD : Fld := ⟨CAL_FAULT, 16, 4, .ro, .none⟩
/-- `CAL_FLAGS` (03_calliope_sequencer.md). -/
def CAL_FLAGS : Reg := ⟨0xf200028, [(0x1000, 16)], 0x0⟩
def CAL_FLAGS_EF : Fld := ⟨CAL_FLAGS, 0, 64, .w1c, .none⟩
/-- `CAL_COLL` (03_calliope_sequencer.md). -/
def CAL_COLL : Reg := ⟨0xf200030, [(0x1000, 16)], 0x0⟩
def CAL_COLL_COUNT : Fld := ⟨CAL_COLL, 0, 16, .rc, .none⟩
/-- `CAL_CNT` (03_calliope_sequencer.md). -/
def CAL_CNT : Reg := ⟨0xf200040, [(0x1000, 16), (0x8, 8)], 0x0⟩
def CAL_CNT_VALUE : Fld := ⟨CAL_CNT, 0, 32, .rw, .none⟩
def CAL_CNT_UNDER : Fld := ⟨CAL_CNT, 32, 16, .rc, .none⟩
/-- `CAL_T` (03_calliope_sequencer.md). -/
def CAL_T : Reg := ⟨0xf200080, [(0x1000, 16), (0x8, 4)], 0x0⟩
def CAL_T_TIME : Fld := ⟨CAL_T, 0, 64, .rw, .none⟩
/-- `CAL_TREL` (03_calliope_sequencer.md). -/
def CAL_TREL : Reg := ⟨0xf2000a0, [(0x1000, 16), (0x8, 4)], 0x0⟩
def CAL_TREL_TIME : Fld := ⟨CAL_TREL, 0, 64, .wo, .none⟩
/-- `CAL_ROLLID` (03_calliope_sequencer.md). -/
def CAL_ROLLID : Reg := ⟨0xf2000c0, [(0x1000, 16)], 0x0⟩
def CAL_ROLLID_BANK0 : Fld := ⟨CAL_ROLLID, 0, 32, .ro, .none⟩
def CAL_ROLLID_BANK1 : Fld := ⟨CAL_ROLLID, 32, 32, .ro, .none⟩
/-- `CAL_LD_ADDR` (03_calliope_sequencer.md). -/
def CAL_LD_ADDR : Reg := ⟨0xf210000, [], 0x0⟩
def CAL_LD_ADDR_ADDR : Fld := ⟨CAL_LD_ADDR, 0, 48, .rw, .none⟩
/-- `CAL_LD_CTL` (03_calliope_sequencer.md). -/
def CAL_LD_CTL : Reg := ⟨0xf210008, [], 0x0⟩
def CAL_LD_CTL_SEQ : Fld := ⟨CAL_LD_CTL, 0, 4, .rw, .none⟩
def CAL_LD_CTL_GO : Fld := ⟨CAL_LD_CTL, 4, 1, .w1s, .none⟩
def CAL_LD_CTL_BUSY : Fld := ⟨CAL_LD_CTL, 5, 1, .ro, .none⟩
def CAL_LD_CTL_DONE : Fld := ⟨CAL_LD_CTL, 6, 1, .w1c, .none⟩
def CAL_LD_CTL_ERR : Fld := ⟨CAL_LD_CTL, 7, 1, .w1c, .none⟩
def CAL_LD_CTL_ERR_CODE : Fld := ⟨CAL_LD_CTL, 8, 4, .ro, .none⟩
def CAL_LD_CTL_ERR_INDEX : Fld := ⟨CAL_LD_CTL, 12, 12, .ro, .none⟩
def CAL_LD_CTL_ERR_IN_WORD : Fld := ⟨CAL_LD_CTL, 24, 1, .ro, .none⟩
/-- `CUR_EPOCH` (04_curtain_transactions.md). -/
def CUR_EPOCH : Reg := ⟨0xf300000, [], 0x0⟩
def CUR_EPOCH_EPOCH : Fld := ⟨CUR_EPOCH, 0, 32, .ro, .none⟩
/-- `CUR_STAT` (04_curtain_transactions.md). -/
def CUR_STAT : Reg := ⟨0xf300008, [], 0x0⟩
def CUR_STAT_OPEN : Fld := ⟨CUR_STAT, 0, 16, .ro, .none⟩
def CUR_STAT_ACTIVE : Fld := ⟨CUR_STAT, 16, 16, .ro, .none⟩
def CUR_STAT_PEND : Fld := ⟨CUR_STAT, 32, 15, .ro, .none⟩
def CUR_STAT_EXCL : Fld := ⟨CUR_STAT, 47, 1, .ro, .none⟩
/-- `CUR_BEPOCH` (04_curtain_transactions.md). -/
def CUR_BEPOCH : Reg := ⟨0xf300040, [(0x8, 15)], 0x0⟩
def CUR_BEPOCH_EPOCH : Fld := ⟨CUR_BEPOCH, 0, 32, .ro, .none⟩
/-- `CUR_STG_ADDR` (04_curtain_transactions.md). -/
def CUR_STG_ADDR : Reg := ⟨0xf300100, [], 0x0⟩
def CUR_STG_ADDR_ADDR : Fld := ⟨CUR_STG_ADDR, 0, 48, .rw, .none⟩
def CUR_STG_ADDR_TX : Fld := ⟨CUR_STG_ADDR, 48, 4, .rw, .none⟩
/-- `CUR_STG_MASK` (04_curtain_transactions.md). -/
def CUR_STG_MASK : Reg := ⟨0xf300108, [], 0x0⟩
def CUR_STG_MASK_MASK : Fld := ⟨CUR_STG_MASK, 0, 64, .rw, .none⟩
/-- `CUR_STG_DATA` (04_curtain_transactions.md). -/
def CUR_STG_DATA : Reg := ⟨0xf300110, [], 0x0⟩
def CUR_STG_DATA_DATA : Fld := ⟨CUR_STG_DATA, 0, 64, .wo, .none⟩
/-- `CUR_STG_RESP` (04_curtain_transactions.md). -/
def CUR_STG_RESP : Reg := ⟨0xf300118, [], 0x0⟩
def CUR_STG_RESP_RESULT : Fld := ⟨CUR_STG_RESP, 0, 3, .ro, .none⟩
def CUR_STG_RESP_COUNT : Fld := ⟨CUR_STG_RESP, 16, 13, .ro, .none⟩
/-- `CUR_TX_CTL` (04_curtain_transactions.md). -/
def CUR_TX_CTL : Reg := ⟨0xf301000, [(0x40, 16)], 0x0⟩
def CUR_TX_CTL_OPEN : Fld := ⟨CUR_TX_CTL, 0, 1, .w1s, .none⟩
def CUR_TX_CTL_COMMIT : Fld := ⟨CUR_TX_CTL, 1, 1, .w1s, .none⟩
def CUR_TX_CTL_CANCEL : Fld := ⟨CUR_TX_CTL, 2, 1, .w1s, .none⟩
def CUR_TX_CTL_MODE : Fld := ⟨CUR_TX_CTL, 3, 2, .rw, .none⟩
def CUR_TX_CTL_DL_EN : Fld := ⟨CUR_TX_CTL, 5, 1, .rw, .none⟩
def CUR_TX_CTL_ADOPT_EV_EN : Fld := ⟨CUR_TX_CTL, 6, 1, .rw, .none⟩
def CUR_TX_CTL_ABORT_EV_EN : Fld := ⟨CUR_TX_CTL, 7, 1, .rw, .none⟩
def CUR_TX_CTL_ADOPT_EV : Fld := ⟨CUR_TX_CTL, 8, 8, .rw, .none⟩
def CUR_TX_CTL_ABORT_EV : Fld := ⟨CUR_TX_CTL, 16, 8, .rw, .none⟩
def CUR_TX_CTL_TRIG : Fld := ⟨CUR_TX_CTL, 24, 8, .rw, .none⟩
/-- `CUR_TX_STAT` (04_curtain_transactions.md). -/
def CUR_TX_STAT : Reg := ⟨0xf301008, [(0x40, 16)], 0x0⟩
def CUR_TX_STAT_STATE : Fld := ⟨CUR_TX_STAT, 0, 3, .ro, .none⟩
def CUR_TX_STAT_LATE : Fld := ⟨CUR_TX_STAT, 3, 1, .ro, .none⟩
def CUR_TX_STAT_REASON : Fld := ⟨CUR_TX_STAT, 4, 4, .ro, .none⟩
def CUR_TX_STAT_COUNT : Fld := ⟨CUR_TX_STAT, 8, 13, .ro, .none⟩
def CUR_TX_STAT_ERR_INDEX : Fld := ⟨CUR_TX_STAT, 21, 12, .ro, .none⟩
def CUR_TX_STAT_ERR_BOOTH : Fld := ⟨CUR_TX_STAT, 33, 4, .ro, .none⟩
def CUR_TX_STAT_APPLIED : Fld := ⟨CUR_TX_STAT, 37, 1, .ro, .none⟩
def CUR_TX_STAT_CANCEL_LATE : Fld := ⟨CUR_TX_STAT, 38, 1, .w1c, .none⟩
/-- `CUR_TX_TIME` (04_curtain_transactions.md). -/
def CUR_TX_TIME : Reg := ⟨0xf301010, [(0x40, 16)], 0x0⟩
def CUR_TX_TIME_TIME : Fld := ⟨CUR_TX_TIME, 0, 64, .rw, .none⟩
/-- `CUR_TX_DEADLINE` (04_curtain_transactions.md). -/
def CUR_TX_DEADLINE : Reg := ⟨0xf301018, [(0x40, 16)], 0x0⟩
def CUR_TX_DEADLINE_DEADLINE : Fld := ⟨CUR_TX_DEADLINE, 0, 64, .rw, .none⟩
/-- `CUR_TX_RESULT` (04_curtain_transactions.md). -/
def CUR_TX_RESULT : Reg := ⟨0xf301020, [(0x40, 16)], 0x0⟩
def CUR_TX_RESULT_EPOCH : Fld := ⟨CUR_TX_RESULT, 0, 32, .ro, .none⟩
/-- `CUR_TX_ADOPT` (04_curtain_transactions.md). -/
def CUR_TX_ADOPT : Reg := ⟨0xf301028, [(0x40, 16)], 0x0⟩
def CUR_TX_ADOPT_TT : Fld := ⟨CUR_TX_ADOPT, 0, 64, .ro, .none⟩
/-- `NET_HDR` (05_net_and_faults.md). -/
def NET_HDR : Reg := ⟨0xf700000, [], 0x0⟩
def NET_HDR_GEN : Fld := ⟨NET_HDR, 0, 32, .ro, .none⟩
def NET_HDR_SRC : Fld := ⟨NET_HDR, 32, 2, .ro, .none⟩
/-- `NET_WIN_ATTR` (05_net_and_faults.md). -/
def NET_WIN_ATTR : Reg := ⟨0xf700110, [(0x20, 64)], 0x0⟩
def NET_WIN_ATTR_VALID : Fld := ⟨NET_WIN_ATTR, 0, 1, .cs, .instant⟩
def NET_WIN_ATTR_SPACE : Fld := ⟨NET_WIN_ATTR, 1, 1, .cs, .instant⟩
def NET_WIN_ATTR_RD : Fld := ⟨NET_WIN_ATTR, 2, 1, .cs, .instant⟩
def NET_WIN_ATTR_WR : Fld := ⟨NET_WIN_ATTR, 3, 1, .cs, .instant⟩
def NET_WIN_ATTR_DMA : Fld := ⟨NET_WIN_ATTR, 4, 1, .cs, .instant⟩
def NET_WIN_ATTR_PORT : Fld := ⟨NET_WIN_ATTR, 5, 1, .cs, .instant⟩
def NET_WIN_ATTR_BAR4 : Fld := ⟨NET_WIN_ATTR, 6, 1, .cs, .instant⟩
def NET_WIN_ATTR_QUEUE : Fld := ⟨NET_WIN_ATTR, 7, 1, .cs, .instant⟩
/-- `NET_AX_DRV` (05_net_and_faults.md). -/
def NET_AX_DRV : Reg := ⟨0xf700900, [(0x40, 4)], 0x0⟩
def NET_AX_DRV_I_MAX : Fld := ⟨NET_AX_DRV, 0, 16, .cs, .instant⟩
def NET_AX_DRV_DUTY_MAX : Fld := ⟨NET_AX_DRV, 16, 16, .cs, .instant⟩
def NET_AX_DRV_ENABLE_OK : Fld := ⟨NET_AX_DRV, 32, 1, .cs, .instant⟩
def NET_AX_DRV_FAULT_HOLD : Fld := ⟨NET_AX_DRV, 33, 1, .cs, .instant⟩
/-- `NET_AX_SPD` (05_net_and_faults.md). -/
def NET_AX_SPD : Reg := ⟨0xf700908, [(0x40, 4)], 0x0⟩
def NET_AX_SPD_V_MAX : Fld := ⟨NET_AX_SPD, 0, 32, .cs, .instant⟩
/-- `NET_AX_ACC` (05_net_and_faults.md). -/
def NET_AX_ACC : Reg := ⟨0xf700910, [(0x40, 4)], 0x0⟩
def NET_AX_ACC_A_MAX : Fld := ⟨NET_AX_ACC, 0, 32, .cs, .instant⟩
def NET_AX_ACC_DEC_STOP_MIN : Fld := ⟨NET_AX_ACC, 32, 32, .cs, .instant⟩
/-- `NET_AX_JERK` (05_net_and_faults.md). -/
def NET_AX_JERK : Reg := ⟨0xf700918, [(0x40, 4)], 0x0⟩
def NET_AX_JERK_J_MAX : Fld := ⟨NET_AX_JERK, 0, 40, .cs, .instant⟩
/-- `NET_AX_PMIN` (05_net_and_faults.md). -/
def NET_AX_PMIN : Reg := ⟨0xf700920, [(0x40, 4)], 0x0⟩
def NET_AX_PMIN_PMIN : Fld := ⟨NET_AX_PMIN, 0, 48, .cs, .instant⟩
/-- `NET_AX_PMAX` (05_net_and_faults.md). -/
def NET_AX_PMAX : Reg := ⟨0xf700928, [(0x40, 4)], 0x0⟩
def NET_AX_PMAX_PMAX : Fld := ⟨NET_AX_PMAX, 0, 48, .cs, .instant⟩
/-- `NET_LN` (05_net_and_faults.md). -/
def NET_LN : Reg := ⟨0xf700a00, [(0x8, 16)], 0x0⟩
def NET_LN_TX_EN : Fld := ⟨NET_LN, 0, 1, .cs, .instant⟩
def NET_LN_SWING_MAX : Fld := ⟨NET_LN, 4, 12, .cs, .instant⟩
/-- `NET_PIN` (05_net_and_faults.md). -/
def NET_PIN : Reg := ⟨0xf700a80, [(0x8, 16)], 0x0⟩
def NET_PIN_OUT_OK : Fld := ⟨NET_PIN, 0, 1, .cs, .instant⟩
def NET_PIN_IDLE : Fld := ⟨NET_PIN, 1, 1, .cs, .instant⟩
def NET_PIN_MIN_WIDTH : Fld := ⟨NET_PIN, 8, 24, .cs, .instant⟩
def NET_PIN_MIN_PERIOD : Fld := ⟨NET_PIN, 32, 32, .cs, .instant⟩
/-- `NET_VCORE` (05_net_and_faults.md). -/
def NET_VCORE : Reg := ⟨0xf700b08, [], 0x3520352⟩
def NET_VCORE_VMIN : Fld := ⟨NET_VCORE, 0, 16, .cs, .instant⟩
def NET_VCORE_VMAX : Fld := ⟨NET_VCORE, 16, 16, .cs, .instant⟩
/-- `NET_PORT_CTL` (05_net_and_faults.md). -/
def NET_PORT_CTL : Reg := ⟨0x1000000001000, [], 0x0⟩
def NET_PORT_CTL_OPEN : Fld := ⟨NET_PORT_CTL, 0, 1, .w1s, .none⟩
def NET_PORT_CTL_COMMIT : Fld := ⟨NET_PORT_CTL, 1, 1, .w1s, .none⟩
def NET_PORT_CTL_CANCEL : Fld := ⟨NET_PORT_CTL, 2, 1, .w1s, .none⟩
def NET_PORT_CTL_UNLOCK : Fld := ⟨NET_PORT_CTL, 3, 1, .w1s, .none⟩
def NET_PORT_CTL_LOCK : Fld := ⟨NET_PORT_CTL, 4, 1, .w1s, .none⟩
/-- `NET_PORT_STAT` (05_net_and_faults.md). -/
def NET_PORT_STAT : Reg := ⟨0x1000000001008, [], 0x1⟩
def NET_PORT_STAT_UNLOCKED : Fld := ⟨NET_PORT_STAT, 0, 1, .ro, .none⟩
def NET_PORT_STAT_STATE : Fld := ⟨NET_PORT_STAT, 1, 3, .ro, .none⟩
def NET_PORT_STAT_REASON : Fld := ⟨NET_PORT_STAT, 4, 4, .ro, .none⟩
def NET_PORT_STAT_COUNT : Fld := ⟨NET_PORT_STAT, 8, 13, .ro, .none⟩
def NET_PORT_STAT_ERR_INDEX : Fld := ⟨NET_PORT_STAT, 21, 12, .ro, .none⟩
def NET_PORT_STAT_STG_RESULT : Fld := ⟨NET_PORT_STAT, 33, 3, .ro, .none⟩
def NET_PORT_STAT_KEY_FAIL : Fld := ⟨NET_PORT_STAT, 36, 4, .ro, .none⟩
def NET_PORT_STAT_KEY_SET : Fld := ⟨NET_PORT_STAT, 40, 1, .ro, .none⟩
/-- `NET_PORT_ADDR` (05_net_and_faults.md). -/
def NET_PORT_ADDR : Reg := ⟨0x1000000001010, [], 0x0⟩
def NET_PORT_ADDR_OFFSET : Fld := ⟨NET_PORT_ADDR, 3, 9, .rw, .none⟩
/-- `NET_PORT_MASK` (05_net_and_faults.md). -/
def NET_PORT_MASK : Reg := ⟨0x1000000001018, [], 0x0⟩
def NET_PORT_MASK_MASK : Fld := ⟨NET_PORT_MASK, 0, 64, .rw, .none⟩
/-- `NET_PORT_DATA` (05_net_and_faults.md). -/
def NET_PORT_DATA : Reg := ⟨0x1000000001020, [], 0x0⟩
def NET_PORT_DATA_DATA : Fld := ⟨NET_PORT_DATA, 0, 64, .wo, .none⟩
/-- `NET_PORT_EPOCH` (05_net_and_faults.md). -/
def NET_PORT_EPOCH : Reg := ⟨0x1000000001028, [], 0x0⟩
def NET_PORT_EPOCH_EPOCH : Fld := ⟨NET_PORT_EPOCH, 0, 32, .ro, .none⟩
/-- `NET_HKEY` (05_net_and_faults.md). -/
def NET_HKEY : Reg := ⟨0x1000000001040, [(0x8, 4)], 0x0⟩
def NET_HKEY_KEY : Fld := ⟨NET_HKEY, 0, 64, .wo, .none⟩
/-- `NET_CP_CNT` (05_net_and_faults.md). -/
def NET_CP_CNT : Reg := ⟨0x1f00000, [(0x1000000, 15)], 0x0⟩
def NET_CP_CNT_COUNT : Fld := ⟨NET_CP_CNT, 0, 32, .rc, .none⟩
/-- `NET_CP_LAST` (05_net_and_faults.md). -/
def NET_CP_LAST : Reg := ⟨0x1f00008, [(0x1000000, 15)], 0x0⟩
def NET_CP_LAST_OFFSET : Fld := ⟨NET_CP_LAST, 0, 24, .ro, .none⟩
def NET_CP_LAST_SOURCE : Fld := ⟨NET_CP_LAST, 24, 16, .ro, .none⟩
/-- `NET_CP_STORM` (05_net_and_faults.md). -/
def NET_CP_STORM : Reg := ⟨0x1f00010, [(0x1000000, 15)], 0x0⟩
def NET_CP_STORM_RECENT : Fld := ⟨NET_CP_STORM, 0, 5, .ro, .none⟩
/-- `SEC_STAT` (17_security_lifecycle.md). -/
def SEC_STAT : Reg := ⟨0xf400000, [], 0x0⟩
def SEC_STAT_LC : Fld := ⟨SEC_STAT, 0, 3, .ro, .none⟩
def SEC_STAT_LC_COUNT : Fld := ⟨SEC_STAT, 3, 6, .ro, .none⟩
def SEC_STAT_ID_READY : Fld := ⟨SEC_STAT, 9, 1, .ro, .none⟩
def SEC_STAT_CERT_OK : Fld := ⟨SEC_STAT, 10, 1, .ro, .none⟩
def SEC_STAT_DEBUG_OPEN : Fld := ⟨SEC_STAT, 11, 1, .ro, .none⟩
def SEC_STAT_DEBUG_LEVEL : Fld := ⟨SEC_STAT, 12, 2, .ro, .none⟩
def SEC_STAT_BB_BAD : Fld := ⟨SEC_STAT, 14, 1, .ro, .none⟩
def SEC_STAT_OWNER_FW : Fld := ⟨SEC_STAT, 15, 1, .ro, .none⟩
/-- `SEC_BOOT` (17_security_lifecycle.md). -/
def SEC_BOOT : Reg := ⟨0xf400008, [], 0x0⟩
def SEC_BOOT_SLOT : Fld := ⟨SEC_BOOT, 0, 1, .ro, .none⟩
def SEC_BOOT_FALLBACK : Fld := ⟨SEC_BOOT, 1, 1, .ro, .none⟩
def SEC_BOOT_ERR_A : Fld := ⟨SEC_BOOT, 4, 4, .ro, .none⟩
def SEC_BOOT_ERR_B : Fld := ⟨SEC_BOOT, 8, 4, .ro, .none⟩
def SEC_BOOT_IMAGE_SVN : Fld := ⟨SEC_BOOT, 16, 12, .ro, .none⟩
/-- `SEC_SVN` (17_security_lifecycle.md). -/
def SEC_SVN : Reg := ⟨0xf400010, [], 0x0⟩
def SEC_SVN_FLOOR : Fld := ⟨SEC_SVN, 0, 13, .ro, .none⟩
/-- `SEC_SVN_REQ` (17_security_lifecycle.md). -/
def SEC_SVN_REQ : Reg := ⟨0xf400018, [], 0x0⟩
def SEC_SVN_REQ_TARGET : Fld := ⟨SEC_SVN_REQ, 0, 13, .wo, .none⟩
def SEC_SVN_REQ_BUSY : Fld := ⟨SEC_SVN_REQ, 16, 1, .ro, .none⟩
def SEC_SVN_REQ_CAPPED : Fld := ⟨SEC_SVN_REQ, 17, 1, .w1c, .none⟩
/-- `SEC_SLOTS` (17_security_lifecycle.md). -/
def SEC_SLOTS : Reg := ⟨0xf400020, [], 0x0⟩
def SEC_SLOTS_V_PROG : Fld := ⟨SEC_SLOTS, 0, 4, .ro, .none⟩
def SEC_SLOTS_V_REVOKED : Fld := ⟨SEC_SLOTS, 4, 4, .ro, .none⟩
def SEC_SLOTS_O_PROG : Fld := ⟨SEC_SLOTS, 8, 4, .ro, .none⟩
def SEC_SLOTS_O_REVOKED : Fld := ⟨SEC_SLOTS, 12, 4, .ro, .none⟩
def SEC_SLOTS_IMAGE_KEY : Fld := ⟨SEC_SLOTS, 16, 3, .ro, .none⟩
/-- `SEC_DIEID` (17_security_lifecycle.md). -/
def SEC_DIEID : Reg := ⟨0xf400028, [], 0x0⟩
def SEC_DIEID_DIE_ID : Fld := ⟨SEC_DIEID, 0, 64, .ro, .none⟩
/-- `SEC_SDN` (17_security_lifecycle.md). -/
def SEC_SDN : Reg := ⟨0xf400030, [], 0x0⟩
def SEC_SDN_SDN : Fld := ⟨SEC_SDN, 0, 16, .rw, .none⟩
/-- `SEC_FWHASH` (17_security_lifecycle.md). -/
def SEC_FWHASH : Reg := ⟨0xf400040, [(0x8, 6)], 0x0⟩
def SEC_FWHASH_HASH : Fld := ⟨SEC_FWHASH, 0, 64, .ro, .none⟩
/-- `SEC_CFG` (17_security_lifecycle.md). -/
def SEC_CFG : Reg := ⟨0xf400070, [(0x8, 6)], 0x0⟩
def SEC_CFG_DIGEST : Fld := ⟨SEC_CFG, 0, 64, .ro, .none⟩
/-- `SEC_CFG_EPOCH` (17_security_lifecycle.md). -/
def SEC_CFG_EPOCH : Reg := ⟨0xf4000a0, [], 0x0⟩
def SEC_CFG_EPOCH_EPOCH : Fld := ⟨SEC_CFG_EPOCH, 0, 32, .ro, .none⟩
/-- `SEC_REQ_ADDR` (17_security_lifecycle.md). -/
def SEC_REQ_ADDR : Reg := ⟨0xf4000a8, [], 0x0⟩
def SEC_REQ_ADDR_ADDR : Fld := ⟨SEC_REQ_ADDR, 0, 48, .rw, .none⟩
/-- `SEC_REQ_CTL` (17_security_lifecycle.md). -/
def SEC_REQ_CTL : Reg := ⟨0xf4000b0, [], 0x0⟩
def SEC_REQ_CTL_LEN : Fld := ⟨SEC_REQ_CTL, 0, 10, .rw, .none⟩
def SEC_REQ_CTL_GO : Fld := ⟨SEC_REQ_CTL, 16, 1, .w1s, .none⟩
def SEC_REQ_CTL_BUSY : Fld := ⟨SEC_REQ_CTL, 17, 1, .ro, .none⟩
def SEC_REQ_CTL_DONE : Fld := ⟨SEC_REQ_CTL, 18, 1, .w1c, .none⟩
def SEC_REQ_CTL_RESULT : Fld := ⟨SEC_REQ_CTL, 20, 4, .ro, .none⟩
/-- `SEC_Q_CTL` (17_security_lifecycle.md). -/
def SEC_Q_CTL : Reg := ⟨0xf4000b8, [], 0x0⟩
def SEC_Q_CTL_GO : Fld := ⟨SEC_Q_CTL, 0, 1, .w1s, .none⟩
def SEC_Q_CTL_BUSY : Fld := ⟨SEC_Q_CTL, 1, 1, .ro, .none⟩
def SEC_Q_CTL_DONE : Fld := ⟨SEC_Q_CTL, 2, 1, .w1c, .none⟩
def SEC_Q_CTL_REFUSED : Fld := ⟨SEC_Q_CTL, 3, 1, .w1c, .none⟩
/-- `SEC_Q_NONCE` (17_security_lifecycle.md). -/
def SEC_Q_NONCE : Reg := ⟨0xf4000c0, [(0x8, 4)], 0x0⟩
def SEC_Q_NONCE_NONCE : Fld := ⟨SEC_Q_NONCE, 0, 64, .rw, .none⟩
/-- `SEC_Q_ADDR` (17_security_lifecycle.md). -/
def SEC_Q_ADDR : Reg := ⟨0xf4000e0, [], 0x0⟩
def SEC_Q_ADDR_ADDR : Fld := ⟨SEC_Q_ADDR, 0, 48, .rw, .none⟩
/-- `SEC_DBG_CHAL` (17_security_lifecycle.md). -/
def SEC_DBG_CHAL : Reg := ⟨0xf400100, [(0x8, 4)], 0x0⟩
def SEC_DBG_CHAL_CHAL : Fld := ⟨SEC_DBG_CHAL, 0, 64, .ro, .none⟩
/-- `SEC_DBG_CTL` (17_security_lifecycle.md). -/
def SEC_DBG_CTL : Reg := ⟨0xf400120, [], 0x0⟩
def SEC_DBG_CTL_NEW_CHAL : Fld := ⟨SEC_DBG_CTL, 0, 1, .w1s, .none⟩
def SEC_DBG_CTL_CHAL_VALID : Fld := ⟨SEC_DBG_CTL, 1, 1, .ro, .none⟩
/-- `HM_TEMP` (18_power_reset_startup.md). -/
def HM_TEMP : Reg := ⟨0xf500000, [(0x8, 32)], 0x0⟩
def HM_TEMP_TEMP : Fld := ⟨HM_TEMP, 0, 16, .ro, .none⟩
def HM_TEMP_VALID : Fld := ⟨HM_TEMP, 16, 1, .ro, .none⟩
/-- `HM_TMAX` (18_power_reset_startup.md). -/
def HM_TMAX : Reg := ⟨0xf500100, [], 0x0⟩
def HM_TMAX_TEMP : Fld := ⟨HM_TMAX, 0, 16, .ro, .none⟩
def HM_TMAX_WHICH : Fld := ⟨HM_TMAX, 16, 5, .ro, .none⟩
def HM_TMAX_PEAK : Fld := ⟨HM_TMAX, 32, 16, .rc, .none⟩
/-- `HM_TLIM` (18_power_reset_startup.md). -/
def HM_TLIM : Reg := ⟨0xf500108, [], 0x5f006e00640⟩
def HM_TLIM_T_WARN : Fld := ⟨HM_TLIM, 0, 16, .rw, .none⟩
def HM_TLIM_T_LIMIT : Fld := ⟨HM_TLIM, 16, 16, .rw, .none⟩
def HM_TLIM_HBM_WARN : Fld := ⟨HM_TLIM, 32, 16, .rw, .none⟩
/-- `HM_CTL` (18_power_reset_startup.md). -/
def HM_CTL : Reg := ⟨0xf500110, [], 0x3e80001⟩
def HM_CTL_THROTTLE_EN : Fld := ⟨HM_CTL, 0, 1, .rw, .none⟩
def HM_CTL_ECC_WARN : Fld := ⟨HM_CTL, 16, 16, .rw, .none⟩
/-- `HM_VMON` (18_power_reset_startup.md). -/
def HM_VMON : Reg := ⟨0xf500140, [(0x8, 11)], 0x0⟩
def HM_VMON_MV : Fld := ⟨HM_VMON, 0, 16, .ro, .none⟩
/-- `HM_STAT` (18_power_reset_startup.md). -/
def HM_STAT : Reg := ⟨0xf500200, [], 0x0⟩
def HM_STAT_THROTTLE : Fld := ⟨HM_STAT, 0, 8, .ro, .none⟩
def HM_STAT_THERMTRIP : Fld := ⟨HM_STAT, 8, 1, .ro, .none⟩
def HM_STAT_CFG_BAD : Fld := ⟨HM_STAT, 9, 1, .w1c, .none⟩
/-- `HM_EVT` (18_power_reset_startup.md). -/
def HM_EVT : Reg := ⟨0xf500208, [], 0x0⟩
def HM_EVT_TEMP_WARN : Fld := ⟨HM_EVT, 0, 1, .w1c, .none⟩
def HM_EVT_HBM_WARN : Fld := ⟨HM_EVT, 1, 1, .w1c, .none⟩
def HM_EVT_RAIL_WARN : Fld := ⟨HM_EVT, 2, 1, .w1c, .none⟩
def HM_EVT_ECC_WARN : Fld := ⟨HM_EVT, 3, 1, .w1c, .none⟩
def HM_EVT_PACE_CEILING : Fld := ⟨HM_EVT, 4, 1, .w1c, .none⟩
def HM_EVT_AVS_FAIL : Fld := ⟨HM_EVT, 5, 1, .w1c, .none⟩
/-- `HM_EV_CTL` (18_power_reset_startup.md). -/
def HM_EV_CTL : Reg := ⟨0xf500210, [], 0x0⟩
def HM_EV_CTL_EV : Fld := ⟨HM_EV_CTL, 0, 8, .rw, .none⟩
def HM_EV_CTL_EN : Fld := ⟨HM_EV_CTL, 8, 1, .rw, .none⟩
/-- `HM_MODE` (18_power_reset_startup.md). -/
def HM_MODE : Reg := ⟨0xf500218, [], 0x0⟩
def HM_MODE_MODE : Fld := ⟨HM_MODE, 0, 2, .rw, .none⟩
/-- `HM_READY` (18_power_reset_startup.md). -/
def HM_READY : Reg := ⟨0xf500220, [], 0x0⟩
def HM_READY_SET : Fld := ⟨HM_READY, 0, 1, .w1s, .none⟩
/-- `HM_RSTCAUSE` (18_power_reset_startup.md). -/
def HM_RSTCAUSE : Reg := ⟨0xf500228, [], 0x0⟩
def HM_RSTCAUSE_CAUSE : Fld := ⟨HM_RSTCAUSE, 0, 3, .ro, .none⟩
def HM_RSTCAUSE_COUNT : Fld := ⟨HM_RSTCAUSE, 16, 16, .ro, .none⟩
/-- `PW_AVS_CFG` (18_power_reset_startup.md). -/
def PW_AVS_CFG : Reg := ⟨0xf600000, [], 0x17000040⟩
def PW_AVS_CFG_ADDR : Fld := ⟨PW_AVS_CFG, 0, 7, .rw, .none⟩
def PW_AVS_CFG_VALID : Fld := ⟨PW_AVS_CFG, 7, 1, .rw, .none⟩
def PW_AVS_CFG_PAGE : Fld := ⟨PW_AVS_CFG, 8, 8, .rw, .none⟩
def PW_AVS_CFG_PAGE_EN : Fld := ⟨PW_AVS_CFG, 16, 1, .rw, .none⟩
def PW_AVS_CFG_EXP : Fld := ⟨PW_AVS_CFG, 24, 5, .rw, .none⟩
/-- `PW_PACE_CTL` (18_power_reset_startup.md). -/
def PW_PACE_CTL : Reg := ⟨0xf600008, [], 0x64190512000000⟩
def PW_PACE_CTL_EN : Fld := ⟨PW_PACE_CTL, 0, 1, .rw, .none⟩
def PW_PACE_CTL_TARGET : Fld := ⟨PW_PACE_CTL, 16, 16, .rw, .none⟩
def PW_PACE_CTL_STEP_MV : Fld := ⟨PW_PACE_CTL, 32, 8, .rw, .none⟩
def PW_PACE_CTL_JUMP_MV : Fld := ⟨PW_PACE_CTL, 40, 8, .rw, .none⟩
def PW_PACE_CTL_PERIOD_US : Fld := ⟨PW_PACE_CTL, 48, 16, .rw, .none⟩
/-- `PW_PACE_HYST` (18_power_reset_startup.md). -/
def PW_PACE_HYST : Reg := ⟨0xf600010, [], 0x100⟩
def PW_PACE_HYST_HYST : Fld := ⟨PW_PACE_HYST, 0, 16, .rw, .none⟩
/-- `PW_PACE_STAT` (18_power_reset_startup.md). -/
def PW_PACE_STAT : Reg := ⟨0xf600018, [], 0x352⟩
def PW_PACE_STAT_VREQ : Fld := ⟨PW_PACE_STAT, 0, 16, .ro, .none⟩
def PW_PACE_STAT_MIN_RATIO : Fld := ⟨PW_PACE_STAT, 16, 16, .ro, .none⟩
def PW_PACE_STAT_MIN_BOOTH : Fld := ⟨PW_PACE_STAT, 32, 4, .ro, .none⟩
def PW_PACE_STAT_AVS_FAIL : Fld := ⟨PW_PACE_STAT, 36, 1, .w1c, .none⟩
def PW_PACE_STAT_NAKS : Fld := ⟨PW_PACE_STAT, 48, 16, .rc, .none⟩
/-- `NET_WIN_BASE` (05_net_and_faults.md). -/
def NET_WIN_BASE : Reg := ⟨0xf700100, [(0x20, 64)], 0x0⟩
def NET_WIN_BASE_BASE : Fld := ⟨NET_WIN_BASE, 0, 64, .cs, .instant⟩
/-- `NET_WIN_LIMIT` (05_net_and_faults.md). -/
def NET_WIN_LIMIT : Reg := ⟨0xf700108, [(0x20, 64)], 0x0⟩
def NET_WIN_LIMIT_LIMIT : Fld := ⟨NET_WIN_LIMIT, 0, 64, .cs, .instant⟩
/-- `NET_HASH` (05_net_and_faults.md). -/
def NET_HASH : Reg := ⟨0xf700008, [(0x8, 6)], 0x0⟩
def NET_HASH_HASH : Fld := ⟨NET_HASH, 0, 64, .ro, .none⟩
/-- `NET_PORTS` (05_net_and_faults.md). -/
def NET_PORTS : Reg := ⟨0xf700b00, [], 0x0⟩
def NET_PORTS_EMIT_OK : Fld := ⟨NET_PORTS, 0, 8, .cs, .instant⟩

def tabControl1 : List RegRow := [
  ⟨BOOTH_ID, [BOOTH_ID_NUM, BOOTH_ID_KIND, BOOTH_ID_PRESENT]⟩,
  ⟨BOOTH_STATE, [BOOTH_STATE_STATE, BOOTH_STATE_WIPE_BUSY, BOOTH_STATE_THROTTLE, BOOTH_STATE_BORROWED]⟩,
  ⟨BOOTH_SEQ, [BOOTH_SEQ_ATTACHED]⟩,
  ⟨BOOTH_PACE, [BOOTH_PACE_RATIO, BOOTH_PACE_SHORT, BOOTH_PACE_SHORT_SEEN]⟩,
  ⟨RM_STATUS, [RM_STATUS_STAGE, RM_STATUS_OWNER_FW]⟩,
  ⟨RM_ECC, [RM_ECC_CORR]⟩,
  ⟨RM_WDT_CTL, [RM_WDT_CTL_TIMEOUT, RM_WDT_CTL_LOCK]⟩,
  ⟨RM_WDT_KICK, [RM_WDT_KICK_KEY]⟩,
  ⟨RM_WDT_STAT, [RM_WDT_STAT_REMAIN, RM_WDT_STAT_EARLY, RM_WDT_STAT_BAD_KICK]⟩,
  ⟨RM_IRQ_PEND, [RM_IRQ_PEND_MBOX, RM_IRQ_PEND_BMB, RM_IRQ_PEND_WDT_EARLY, RM_IRQ_PEND_NET, RM_IRQ_PEND_CONTAINED, RM_IRQ_PEND_CURTAIN, RM_IRQ_PEND_EVENT, RM_IRQ_PEND_HEALTH]⟩,
  ⟨RM_IRQ_EN, [RM_IRQ_EN_MBOX, RM_IRQ_EN_BMB, RM_IRQ_EN_WDT_EARLY, RM_IRQ_EN_NET, RM_IRQ_EN_CONTAINED, RM_IRQ_EN_CURTAIN, RM_IRQ_EN_EVENT, RM_IRQ_EN_HEALTH]⟩,
  ⟨RM_BMB_PEND, [RM_BMB_PEND_PEND]⟩]
def tabControl2 : List RegRow := [
  ⟨RM_BMB_DONE, [RM_BMB_DONE_DONE]⟩,
  ⟨CAL_CTL, [CAL_CTL_RUN, CAL_CTL_BANK, CAL_CTL_ENTRY, CAL_CTL_FAULT_EV, CAL_CTL_FAULT_EV_EN]⟩,
  ⟨CAL_ATTACH, [CAL_ATTACH_BOOTHS, CAL_ATTACH_HOME]⟩,
  ⟨CAL_CMD, [CAL_CMD_HALT, CAL_CMD_RESUME, CAL_CMD_CLEAR]⟩,
  ⟨CAL_STAT, [CAL_STAT_STATE, CAL_STAT_SWAP_PENDING, CAL_STAT_VALID0, CAL_STAT_VALID1, CAL_STAT_LOADING, CAL_STAT_PC]⟩,
  ⟨CAL_FAULT, [CAL_FAULT_CODE, CAL_FAULT_STEP, CAL_FAULT_WORD]⟩,
  ⟨CAL_FLAGS, [CAL_FLAGS_EF]⟩,
  ⟨CAL_COLL, [CAL_COLL_COUNT]⟩,
  ⟨CAL_CNT, [CAL_CNT_VALUE, CAL_CNT_UNDER]⟩,
  ⟨CAL_T, [CAL_T_TIME]⟩,
  ⟨CAL_TREL, [CAL_TREL_TIME]⟩,
  ⟨CAL_ROLLID, [CAL_ROLLID_BANK0, CAL_ROLLID_BANK1]⟩]
def tabControl3 : List RegRow := [
  ⟨CAL_LD_ADDR, [CAL_LD_ADDR_ADDR]⟩,
  ⟨CAL_LD_CTL, [CAL_LD_CTL_SEQ, CAL_LD_CTL_GO, CAL_LD_CTL_BUSY, CAL_LD_CTL_DONE, CAL_LD_CTL_ERR, CAL_LD_CTL_ERR_CODE, CAL_LD_CTL_ERR_INDEX, CAL_LD_CTL_ERR_IN_WORD]⟩,
  ⟨CUR_EPOCH, [CUR_EPOCH_EPOCH]⟩,
  ⟨CUR_STAT, [CUR_STAT_OPEN, CUR_STAT_ACTIVE, CUR_STAT_PEND, CUR_STAT_EXCL]⟩,
  ⟨CUR_BEPOCH, [CUR_BEPOCH_EPOCH]⟩,
  ⟨CUR_STG_ADDR, [CUR_STG_ADDR_ADDR, CUR_STG_ADDR_TX]⟩,
  ⟨CUR_STG_MASK, [CUR_STG_MASK_MASK]⟩,
  ⟨CUR_STG_DATA, [CUR_STG_DATA_DATA]⟩,
  ⟨CUR_STG_RESP, [CUR_STG_RESP_RESULT, CUR_STG_RESP_COUNT]⟩,
  ⟨CUR_TX_CTL, [CUR_TX_CTL_OPEN, CUR_TX_CTL_COMMIT, CUR_TX_CTL_CANCEL, CUR_TX_CTL_MODE, CUR_TX_CTL_DL_EN, CUR_TX_CTL_ADOPT_EV_EN, CUR_TX_CTL_ABORT_EV_EN, CUR_TX_CTL_ADOPT_EV, CUR_TX_CTL_ABORT_EV, CUR_TX_CTL_TRIG]⟩,
  ⟨CUR_TX_STAT, [CUR_TX_STAT_STATE, CUR_TX_STAT_LATE, CUR_TX_STAT_REASON, CUR_TX_STAT_COUNT, CUR_TX_STAT_ERR_INDEX, CUR_TX_STAT_ERR_BOOTH, CUR_TX_STAT_APPLIED, CUR_TX_STAT_CANCEL_LATE]⟩,
  ⟨CUR_TX_TIME, [CUR_TX_TIME_TIME]⟩]
def tabControl4 : List RegRow := [
  ⟨CUR_TX_DEADLINE, [CUR_TX_DEADLINE_DEADLINE]⟩,
  ⟨CUR_TX_RESULT, [CUR_TX_RESULT_EPOCH]⟩,
  ⟨CUR_TX_ADOPT, [CUR_TX_ADOPT_TT]⟩,
  ⟨NET_HDR, [NET_HDR_GEN, NET_HDR_SRC]⟩,
  ⟨NET_WIN_ATTR, [NET_WIN_ATTR_VALID, NET_WIN_ATTR_SPACE, NET_WIN_ATTR_RD, NET_WIN_ATTR_WR, NET_WIN_ATTR_DMA, NET_WIN_ATTR_PORT, NET_WIN_ATTR_BAR4, NET_WIN_ATTR_QUEUE]⟩,
  ⟨NET_AX_DRV, [NET_AX_DRV_I_MAX, NET_AX_DRV_DUTY_MAX, NET_AX_DRV_ENABLE_OK, NET_AX_DRV_FAULT_HOLD]⟩,
  ⟨NET_AX_SPD, [NET_AX_SPD_V_MAX]⟩,
  ⟨NET_AX_ACC, [NET_AX_ACC_A_MAX, NET_AX_ACC_DEC_STOP_MIN]⟩,
  ⟨NET_AX_JERK, [NET_AX_JERK_J_MAX]⟩,
  ⟨NET_AX_PMIN, [NET_AX_PMIN_PMIN]⟩,
  ⟨NET_AX_PMAX, [NET_AX_PMAX_PMAX]⟩,
  ⟨NET_LN, [NET_LN_TX_EN, NET_LN_SWING_MAX]⟩]
def tabControl5 : List RegRow := [
  ⟨NET_PIN, [NET_PIN_OUT_OK, NET_PIN_IDLE, NET_PIN_MIN_WIDTH, NET_PIN_MIN_PERIOD]⟩,
  ⟨NET_VCORE, [NET_VCORE_VMIN, NET_VCORE_VMAX]⟩,
  ⟨NET_PORT_CTL, [NET_PORT_CTL_OPEN, NET_PORT_CTL_COMMIT, NET_PORT_CTL_CANCEL, NET_PORT_CTL_UNLOCK, NET_PORT_CTL_LOCK]⟩,
  ⟨NET_PORT_STAT, [NET_PORT_STAT_UNLOCKED, NET_PORT_STAT_STATE, NET_PORT_STAT_REASON, NET_PORT_STAT_COUNT, NET_PORT_STAT_ERR_INDEX, NET_PORT_STAT_STG_RESULT, NET_PORT_STAT_KEY_FAIL, NET_PORT_STAT_KEY_SET]⟩,
  ⟨NET_PORT_ADDR, [NET_PORT_ADDR_OFFSET]⟩,
  ⟨NET_PORT_MASK, [NET_PORT_MASK_MASK]⟩,
  ⟨NET_PORT_DATA, [NET_PORT_DATA_DATA]⟩,
  ⟨NET_PORT_EPOCH, [NET_PORT_EPOCH_EPOCH]⟩,
  ⟨NET_HKEY, [NET_HKEY_KEY]⟩,
  ⟨NET_CP_CNT, [NET_CP_CNT_COUNT]⟩,
  ⟨NET_CP_LAST, [NET_CP_LAST_OFFSET, NET_CP_LAST_SOURCE]⟩,
  ⟨NET_CP_STORM, [NET_CP_STORM_RECENT]⟩]
def tabControl6 : List RegRow := [
  ⟨SEC_STAT, [SEC_STAT_LC, SEC_STAT_LC_COUNT, SEC_STAT_ID_READY, SEC_STAT_CERT_OK, SEC_STAT_DEBUG_OPEN, SEC_STAT_DEBUG_LEVEL, SEC_STAT_BB_BAD, SEC_STAT_OWNER_FW]⟩,
  ⟨SEC_BOOT, [SEC_BOOT_SLOT, SEC_BOOT_FALLBACK, SEC_BOOT_ERR_A, SEC_BOOT_ERR_B, SEC_BOOT_IMAGE_SVN]⟩,
  ⟨SEC_SVN, [SEC_SVN_FLOOR]⟩,
  ⟨SEC_SVN_REQ, [SEC_SVN_REQ_TARGET, SEC_SVN_REQ_BUSY, SEC_SVN_REQ_CAPPED]⟩,
  ⟨SEC_SLOTS, [SEC_SLOTS_V_PROG, SEC_SLOTS_V_REVOKED, SEC_SLOTS_O_PROG, SEC_SLOTS_O_REVOKED, SEC_SLOTS_IMAGE_KEY]⟩,
  ⟨SEC_DIEID, [SEC_DIEID_DIE_ID]⟩,
  ⟨SEC_SDN, [SEC_SDN_SDN]⟩,
  ⟨SEC_FWHASH, [SEC_FWHASH_HASH]⟩,
  ⟨SEC_CFG, [SEC_CFG_DIGEST]⟩,
  ⟨SEC_CFG_EPOCH, [SEC_CFG_EPOCH_EPOCH]⟩,
  ⟨SEC_REQ_ADDR, [SEC_REQ_ADDR_ADDR]⟩,
  ⟨SEC_REQ_CTL, [SEC_REQ_CTL_LEN, SEC_REQ_CTL_GO, SEC_REQ_CTL_BUSY, SEC_REQ_CTL_DONE, SEC_REQ_CTL_RESULT]⟩]
def tabControl7 : List RegRow := [
  ⟨SEC_Q_CTL, [SEC_Q_CTL_GO, SEC_Q_CTL_BUSY, SEC_Q_CTL_DONE, SEC_Q_CTL_REFUSED]⟩,
  ⟨SEC_Q_NONCE, [SEC_Q_NONCE_NONCE]⟩,
  ⟨SEC_Q_ADDR, [SEC_Q_ADDR_ADDR]⟩,
  ⟨SEC_DBG_CHAL, [SEC_DBG_CHAL_CHAL]⟩,
  ⟨SEC_DBG_CTL, [SEC_DBG_CTL_NEW_CHAL, SEC_DBG_CTL_CHAL_VALID]⟩,
  ⟨HM_TEMP, [HM_TEMP_TEMP, HM_TEMP_VALID]⟩,
  ⟨HM_TMAX, [HM_TMAX_TEMP, HM_TMAX_WHICH, HM_TMAX_PEAK]⟩,
  ⟨HM_TLIM, [HM_TLIM_T_WARN, HM_TLIM_T_LIMIT, HM_TLIM_HBM_WARN]⟩,
  ⟨HM_CTL, [HM_CTL_THROTTLE_EN, HM_CTL_ECC_WARN]⟩,
  ⟨HM_VMON, [HM_VMON_MV]⟩,
  ⟨HM_STAT, [HM_STAT_THROTTLE, HM_STAT_THERMTRIP, HM_STAT_CFG_BAD]⟩,
  ⟨HM_EVT, [HM_EVT_TEMP_WARN, HM_EVT_HBM_WARN, HM_EVT_RAIL_WARN, HM_EVT_ECC_WARN, HM_EVT_PACE_CEILING, HM_EVT_AVS_FAIL]⟩]
def tabControl8 : List RegRow := [
  ⟨HM_EV_CTL, [HM_EV_CTL_EV, HM_EV_CTL_EN]⟩,
  ⟨HM_MODE, [HM_MODE_MODE]⟩,
  ⟨HM_READY, [HM_READY_SET]⟩,
  ⟨HM_RSTCAUSE, [HM_RSTCAUSE_CAUSE, HM_RSTCAUSE_COUNT]⟩,
  ⟨PW_AVS_CFG, [PW_AVS_CFG_ADDR, PW_AVS_CFG_VALID, PW_AVS_CFG_PAGE, PW_AVS_CFG_PAGE_EN, PW_AVS_CFG_EXP]⟩,
  ⟨PW_PACE_CTL, [PW_PACE_CTL_EN, PW_PACE_CTL_TARGET, PW_PACE_CTL_STEP_MV, PW_PACE_CTL_JUMP_MV, PW_PACE_CTL_PERIOD_US]⟩,
  ⟨PW_PACE_HYST, [PW_PACE_HYST_HYST]⟩,
  ⟨PW_PACE_STAT, [PW_PACE_STAT_VREQ, PW_PACE_STAT_MIN_RATIO, PW_PACE_STAT_MIN_BOOTH, PW_PACE_STAT_AVS_FAIL, PW_PACE_STAT_NAKS]⟩,
  ⟨NET_WIN_BASE, [NET_WIN_BASE_BASE]⟩,
  ⟨NET_WIN_LIMIT, [NET_WIN_LIMIT_LIMIT]⟩,
  ⟨NET_HASH, [NET_HASH_HASH]⟩,
  ⟨NET_PORTS, [NET_PORTS_EMIT_OK]⟩]
/-- Every register of this file. -/
def tabControl : List RegRow :=
  tabControl1 ++ tabControl2 ++ tabControl3 ++ tabControl4 ++ tabControl5 ++ tabControl6 ++ tabControl7 ++ tabControl8

end Sys2Proof.Machine.R
end

