-- ==== Sys2Proof/Machine/RegsDelivery.lean ====
section
/-! DEFINITION. Registers of the host, memory and delivery booths: one Reg per register table of the spec, one Fld per field,
with address, access code, apply point and reset value as the table states them. -/

namespace Sys2Proof.Machine.R

/-- `ID_DEVICE` (00_scope.md). -/
def ID_DEVICE : Reg := ⟨0xb200000, [], 0x188321fa7⟩
def ID_DEVICE_VENDOR : Fld := ⟨ID_DEVICE, 0, 16, .ro, .none⟩
def ID_DEVICE_PART : Fld := ⟨ID_DEVICE, 16, 16, .ro, .none⟩
def ID_DEVICE_STEP : Fld := ⟨ID_DEVICE, 32, 4, .ro, .none⟩
/-- `ID_PRESENT` (00_scope.md). -/
def ID_PRESENT : Reg := ⟨0xb200008, [], 0xffffffff⟩
def ID_PRESENT_PORT : Fld := ⟨ID_PRESENT, 0, 8, .ro, .none⟩
def ID_PRESENT_EMIT : Fld := ⟨ID_PRESENT, 8, 8, .ro, .none⟩
def ID_PRESENT_LANE : Fld := ⟨ID_PRESENT, 16, 16, .ro, .none⟩
/-- `BMB_CTL` (02_ringmaster_mailboxes.md). -/
def BMB_CTL : Reg := ⟨0xb200100, [(0x8, 8)], 0x0⟩
def BMB_CTL_RING : Fld := ⟨BMB_CTL, 0, 1, .w1s, .none⟩
def BMB_CTL_DONE : Fld := ⟨BMB_CTL, 1, 1, .w1c, .none⟩
def BMB_CTL_HELD : Fld := ⟨BMB_CTL, 2, 1, .ro, .none⟩
def BMB_CTL_STATUS : Fld := ⟨BMB_CTL, 16, 16, .ro, .none⟩
def BMB_CTL_TAG : Fld := ⟨BMB_CTL, 32, 16, .ro, .none⟩
/-- `CAR_STAT` (11_carousel_dma.md). -/
def CAR_STAT : Reg := ⟨0x9100000, [], 0x0⟩
def CAR_STAT_CACHED : Fld := ⟨CAR_STAT, 0, 14, .ro, .none⟩
def CAR_STAT_PINNED : Fld := ⟨CAR_STAT, 16, 13, .ro, .none⟩
/-- `CAR_CACHE` (11_carousel_dma.md). -/
def CAR_CACHE : Reg := ⟨0x9100008, [], 0x0⟩
def CAR_CACHE_HITS : Fld := ⟨CAR_CACHE, 0, 32, .rc, .none⟩
def CAR_CACHE_MISSES : Fld := ⟨CAR_CACHE, 32, 32, .rc, .none⟩
/-- `CAR_CTX_SEL` (11_carousel_dma.md). -/
def CAR_CTX_SEL : Reg := ⟨0x9100010, [], 0x0⟩
def CAR_CTX_SEL_QUEUE : Fld := ⟨CAR_CTX_SEL, 0, 20, .rw, .none⟩
/-- `CAR_CTX_CMD` (11_carousel_dma.md). -/
def CAR_CTX_CMD : Reg := ⟨0x9100018, [], 0x0⟩
def CAR_CTX_CMD_LOAD : Fld := ⟨CAR_CTX_CMD, 0, 1, .w1s, .none⟩
def CAR_CTX_CMD_STORE : Fld := ⟨CAR_CTX_CMD, 1, 1, .w1s, .none⟩
def CAR_CTX_CMD_BUSY : Fld := ⟨CAR_CTX_CMD, 2, 1, .ro, .none⟩
def CAR_CTX_CMD_ERR : Fld := ⟨CAR_CTX_CMD, 3, 1, .w1c, .none⟩
/-- `CAR_CTX_DATA` (11_carousel_dma.md). -/
def CAR_CTX_DATA : Reg := ⟨0x9100040, [(0x8, 8)], 0x0⟩
def CAR_CTX_DATA_DATA : Fld := ⟨CAR_CTX_DATA, 0, 64, .rw, .none⟩
/-- `CAR_APP_Q` (11_carousel_dma.md). -/
def CAR_APP_Q : Reg := ⟨0x9100080, [], 0x0⟩
def CAR_APP_Q_QUEUE : Fld := ⟨CAR_APP_Q, 0, 20, .rw, .none⟩
/-- `CAR_APP_STAT` (11_carousel_dma.md). -/
def CAR_APP_STAT : Reg := ⟨0x9100088, [], 0x0⟩
def CAR_APP_STAT_RESULT : Fld := ⟨CAR_APP_STAT, 0, 2, .ro, .none⟩
/-- `CAR_TAKE_Q` (11_carousel_dma.md). -/
def CAR_TAKE_Q : Reg := ⟨0x9100090, [], 0x0⟩
def CAR_TAKE_Q_QUEUE : Fld := ⟨CAR_TAKE_Q, 0, 20, .rw, .none⟩
/-- `CAR_TAKE_CMD` (11_carousel_dma.md). -/
def CAR_TAKE_CMD : Reg := ⟨0x9100098, [], 0x0⟩
def CAR_TAKE_CMD_TAKE : Fld := ⟨CAR_TAKE_CMD, 0, 1, .w1s, .none⟩
def CAR_TAKE_CMD_RESULT : Fld := ⟨CAR_TAKE_CMD, 1, 2, .ro, .none⟩
/-- `CAR_ERRQ` (11_carousel_dma.md). -/
def CAR_ERRQ : Reg := ⟨0x91000a0, [], 0x0⟩
def CAR_ERRQ_LAST : Fld := ⟨CAR_ERRQ, 0, 20, .ro, .none⟩
def CAR_ERRQ_COUNT : Fld := ⟨CAR_ERRQ, 32, 32, .rc, .none⟩
/-- `CAR_APP_DATA` (11_carousel_dma.md). -/
def CAR_APP_DATA : Reg := ⟨0x9100100, [(0x8, 16)], 0x0⟩
def CAR_APP_DATA_DATA : Fld := ⟨CAR_APP_DATA, 0, 64, .wo, .none⟩
/-- `CAR_TAKE_DATA` (11_carousel_dma.md). -/
def CAR_TAKE_DATA : Reg := ⟨0x9100180, [(0x8, 16)], 0x0⟩
def CAR_TAKE_DATA_DATA : Fld := ⟨CAR_TAKE_DATA, 0, 64, .ro, .none⟩
/-- `DMA_ENG_STAT` (11_carousel_dma.md). -/
def DMA_ENG_STAT : Reg := ⟨0x9200000, [(0x20000, 32)], 0x0⟩
def DMA_ENG_STAT_STATE : Fld := ⟨DMA_ENG_STAT, 0, 2, .ro, .none⟩
def DMA_ENG_STAT_CUR : Fld := ⟨DMA_ENG_STAT, 4, 4, .ro, .none⟩
def DMA_ENG_STAT_BUSY : Fld := ⟨DMA_ENG_STAT, 8, 1, .ro, .none⟩
def DMA_ENG_STAT_REASON : Fld := ⟨DMA_ENG_STAT, 12, 4, .ro, .none⟩
/-- `DMA_ENG_BYTES` (11_carousel_dma.md). -/
def DMA_ENG_BYTES : Reg := ⟨0x9200008, [(0x20000, 32)], 0x0⟩
def DMA_ENG_BYTES_BYTES : Fld := ⟨DMA_ENG_BYTES, 0, 64, .rc, .none⟩
/-- `DMA_CH_SRC` (11_carousel_dma.md). -/
def DMA_CH_SRC : Reg := ⟨0x9201000, [(0x20000, 32), (0x400, 16)], 0x0⟩
def DMA_CH_SRC_SRC : Fld := ⟨DMA_CH_SRC, 0, 64, .rw, .instant⟩
/-- `DMA_CH_DST` (11_carousel_dma.md). -/
def DMA_CH_DST : Reg := ⟨0x9201008, [(0x20000, 32), (0x400, 16)], 0x0⟩
def DMA_CH_DST_DST : Fld := ⟨DMA_CH_DST, 0, 64, .rw, .instant⟩
/-- `DMA_CH_LEN` (11_carousel_dma.md). -/
def DMA_CH_LEN : Reg := ⟨0x9201010, [(0x20000, 32), (0x400, 16)], 0x0⟩
def DMA_CH_LEN_LEN : Fld := ⟨DMA_CH_LEN, 0, 32, .rw, .instant⟩
/-- `DMA_CH_OPT` (11_carousel_dma.md). -/
def DMA_CH_OPT : Reg := ⟨0x9201018, [(0x20000, 32), (0x400, 16)], 0x0⟩
def DMA_CH_OPT_SRC_SPACE : Fld := ⟨DMA_CH_OPT, 0, 1, .rw, .instant⟩
def DMA_CH_OPT_DST_SPACE : Fld := ⟨DMA_CH_OPT, 1, 1, .rw, .instant⟩
def DMA_CH_OPT_CRC32C : Fld := ⟨DMA_CH_OPT, 2, 1, .rw, .instant⟩
def DMA_CH_OPT_BOUND : Fld := ⟨DMA_CH_OPT, 3, 1, .rw, .instant⟩
def DMA_CH_OPT_BPORT : Fld := ⟨DMA_CH_OPT, 4, 3, .rw, .instant⟩
def DMA_CH_OPT_TAG_EN : Fld := ⟨DMA_CH_OPT, 7, 1, .rw, .instant⟩
def DMA_CH_OPT_REL : Fld := ⟨DMA_CH_OPT, 8, 1, .rw, .instant⟩
/-- `DMA_CH_USER` (11_carousel_dma.md). -/
def DMA_CH_USER : Reg := ⟨0x9201020, [(0x20000, 32), (0x400, 16)], 0x0⟩
def DMA_CH_USER_USER : Fld := ⟨DMA_CH_USER, 0, 64, .rw, .instant⟩
/-- `DMA_CH_TAG` (11_carousel_dma.md). -/
def DMA_CH_TAG : Reg := ⟨0x9201028, [(0x20000, 32), (0x400, 16)], 0x0⟩
def DMA_CH_TAG_STREAM : Fld := ⟨DMA_CH_TAG, 0, 6, .rw, .instant⟩
def DMA_CH_TAG_SLOT : Fld := ⟨DMA_CH_TAG, 6, 10, .rw, .instant⟩
def DMA_CH_TAG_GEN : Fld := ⟨DMA_CH_TAG, 16, 1, .rw, .instant⟩
/-- `DMA_CH_TAGADDR` (11_carousel_dma.md). -/
def DMA_CH_TAGADDR : Reg := ⟨0x9201030, [(0x20000, 32), (0x400, 16)], 0x0⟩
def DMA_CH_TAGADDR_ADDR : Fld := ⟨DMA_CH_TAGADDR, 0, 64, .rw, .instant⟩
/-- `DMA_CH_CTL` (11_carousel_dma.md). -/
def DMA_CH_CTL : Reg := ⟨0x9201100, [(0x20000, 32), (0x400, 16)], 0x0⟩
def DMA_CH_CTL_ARM : Fld := ⟨DMA_CH_CTL, 0, 1, .w1s, .instant⟩
def DMA_CH_CTL_DISARM : Fld := ⟨DMA_CH_CTL, 1, 1, .w1s, .none⟩
def DMA_CH_CTL_PAUSE : Fld := ⟨DMA_CH_CTL, 2, 1, .rw, .none⟩
/-- `DMA_CH_CFG` (11_carousel_dma.md). -/
def DMA_CH_CFG : Reg := ⟨0x9201108, [(0x20000, 32), (0x400, 16)], 0x100000000⟩
def DMA_CH_CFG_CQ : Fld := ⟨DMA_CH_CFG, 0, 20, .cs, .boundary⟩
def DMA_CH_CFG_SHARE : Fld := ⟨DMA_CH_CFG, 20, 11, .cs, .boundary⟩
def DMA_CH_CFG_BURST : Fld := ⟨DMA_CH_CFG, 32, 8, .cs, .boundary⟩
/-- `DMA_CH_STAT` (11_carousel_dma.md). -/
def DMA_CH_STAT : Reg := ⟨0x9201110, [(0x20000, 32), (0x400, 16)], 0x0⟩
def DMA_CH_STAT_STATE : Fld := ⟨DMA_CH_STAT, 0, 3, .ro, .none⟩
def DMA_CH_STAT_SHADOW_BUSY : Fld := ⟨DMA_CH_STAT, 3, 1, .w1c, .none⟩
def DMA_CH_STAT_GEN : Fld := ⟨DMA_CH_STAT, 16, 16, .ro, .none⟩
def DMA_CH_STAT_ARM_IGNORED : Fld := ⟨DMA_CH_STAT, 32, 16, .rc, .none⟩
/-- `PTM_CTL` (12_time_base.md). -/
def PTM_CTL : Reg := ⟨0xb400000, [], 0x0⟩
def PTM_CTL_GO : Fld := ⟨PTM_CTL, 0, 1, .w1s, .none⟩
def PTM_CTL_AUTO : Fld := ⟨PTM_CTL, 1, 1, .rw, .none⟩
def PTM_CTL_PERIOD_MS : Fld := ⟨PTM_CTL, 2, 14, .rw, .none⟩
/-- `PTM_T1` (12_time_base.md). -/
def PTM_T1 : Reg := ⟨0xb400008, [], 0x0⟩
def PTM_T1_TT : Fld := ⟨PTM_T1, 0, 64, .ro, .none⟩
/-- `PTM_MASTER` (12_time_base.md). -/
def PTM_MASTER : Reg := ⟨0xb400010, [], 0x0⟩
def PTM_MASTER_NS : Fld := ⟨PTM_MASTER, 0, 64, .ro, .none⟩
/-- `PTM_PROP` (12_time_base.md). -/
def PTM_PROP : Reg := ⟨0xb400018, [], 0x0⟩
def PTM_PROP_NS : Fld := ⟨PTM_PROP, 0, 32, .ro, .none⟩
/-- `PTM_STAT` (12_time_base.md). -/
def PTM_STAT : Reg := ⟨0xb400020, [], 0x0⟩
def PTM_STAT_VALID : Fld := ⟨PTM_STAT, 0, 1, .ro, .none⟩
def PTM_STAT_FAILED : Fld := ⟨PTM_STAT, 1, 1, .w1c, .none⟩
def PTM_STAT_ENABLED : Fld := ⟨PTM_STAT, 2, 1, .ro, .none⟩
def PTM_STAT_SEQ : Fld := ⟨PTM_STAT, 16, 32, .ro, .none⟩
/-- `DEV_STATUS` (16_host_memory.md). -/
def DEV_STATUS : Reg := ⟨0xb200010, [], 0x0⟩
def DEV_STATUS_READY : Fld := ⟨DEV_STATUS, 0, 1, .ro, .none⟩
def DEV_STATUS_MODE : Fld := ⟨DEV_STATUS, 1, 2, .ro, .none⟩
def DEV_STATUS_LIFECYCLE : Fld := ⟨DEV_STATUS, 3, 3, .ro, .none⟩
def DEV_STATUS_HALTED : Fld := ⟨DEV_STATUS, 6, 1, .ro, .none⟩
def DEV_STATUS_CFG_BAD : Fld := ⟨DEV_STATUS, 7, 1, .w1c, .none⟩
/-- `HOST_AP_BASE` (16_host_memory.md). -/
def HOST_AP_BASE : Reg := ⟨0xb200018, [], 0x0⟩
def HOST_AP_BASE_BASE : Fld := ⟨HOST_AP_BASE, 0, 11, .rw, .none⟩
/-- `HOST_LINK` (16_host_memory.md). -/
def HOST_LINK : Reg := ⟨0xb200020, [], 0x0⟩
def HOST_LINK_SPEED : Fld := ⟨HOST_LINK, 0, 3, .ro, .none⟩
def HOST_LINK_WIDTH : Fld := ⟨HOST_LINK, 3, 5, .ro, .none⟩
def HOST_LINK_FLIT : Fld := ⟨HOST_LINK, 8, 1, .ro, .none⟩
def HOST_LINK_RETRAINS : Fld := ⟨HOST_LINK, 16, 16, .rc, .none⟩
def HOST_LINK_BAD_ACCESS : Fld := ⟨HOST_LINK, 32, 32, .rc, .none⟩
/-- `HBM_STAT` (16_host_memory.md). -/
def HBM_STAT : Reg := ⟨0xa100000, [(0x100000, 2)], 0x0⟩
def HBM_STAT_TRAINED : Fld := ⟨HBM_STAT, 0, 1, .ro, .none⟩
def HBM_STAT_TEMP : Fld := ⟨HBM_STAT, 8, 8, .ro, .none⟩
def HBM_STAT_REFRESH_2X : Fld := ⟨HBM_STAT, 16, 1, .ro, .none⟩
def HBM_STAT_CHAN_OK : Fld := ⟨HBM_STAT, 32, 16, .ro, .none⟩
/-- `ECC_CNT` (16_host_memory.md). -/
def ECC_CNT : Reg := ⟨0xa300000, [], 0x0⟩
def ECC_CNT_CORR : Fld := ⟨ECC_CNT, 0, 32, .rc, .none⟩
def ECC_CNT_UNCORR : Fld := ⟨ECC_CNT, 32, 32, .rc, .none⟩
/-- `ECC_LAST_ADDR` (16_host_memory.md). -/
def ECC_LAST_ADDR : Reg := ⟨0xa300008, [], 0x0⟩
def ECC_LAST_ADDR_ADDR : Fld := ⟨ECC_LAST_ADDR, 0, 35, .ro, .none⟩
/-- `ECC_LAST_INFO` (16_host_memory.md). -/
def ECC_LAST_INFO : Reg := ⟨0xa300010, [], 0x0⟩
def ECC_LAST_INFO_UNCORR : Fld := ⟨ECC_LAST_INFO, 0, 1, .ro, .none⟩
def ECC_LAST_INFO_CLASS : Fld := ⟨ECC_LAST_INFO, 1, 3, .ro, .none⟩
def ECC_LAST_INFO_BOOTH : Fld := ⟨ECC_LAST_INFO, 4, 4, .ro, .none⟩
def ECC_LAST_INFO_INDEX : Fld := ⟨ECC_LAST_INFO, 8, 5, .ro, .none⟩
/-- `ECC_LAST_TT` (16_host_memory.md). -/
def ECC_LAST_TT : Reg := ⟨0xa300018, [], 0x0⟩
def ECC_LAST_TT_TT : Fld := ⟨ECC_LAST_TT, 0, 64, .ro, .none⟩
/-- `MEM_SCRUB` (16_host_memory.md). -/
def MEM_SCRUB : Reg := ⟨0xa300020, [], 0x801⟩
def MEM_SCRUB_EN : Fld := ⟨MEM_SCRUB, 0, 1, .rw, .none⟩
def MEM_SCRUB_PERIOD_H : Fld := ⟨MEM_SCRUB, 8, 8, .rw, .none⟩
def MEM_SCRUB_PASSES : Fld := ⟨MEM_SCRUB, 32, 32, .ro, .none⟩
/-- `WIPE_STAT` (16_host_memory.md). -/
def WIPE_STAT : Reg := ⟨0xa400000, [], 0x1⟩
def WIPE_STAT_BUSY : Fld := ⟨WIPE_STAT, 0, 1, .ro, .none⟩
def WIPE_STAT_LAST_US : Fld := ⟨WIPE_STAT, 16, 16, .ro, .none⟩
/-- `REG_BOUNDS` (16_host_memory.md). -/
def REG_BOUNDS : Reg := ⟨0xa500000, [], 0x2000000024000000⟩
def REG_BOUNDS_GEN_BASE : Fld := ⟨REG_BOUNDS, 0, 32, .ro, .none⟩
def REG_BOUNDS_CTX_BASE : Fld := ⟨REG_BOUNDS, 32, 32, .ro, .none⟩
/-- `DMA_CH_A_SRC` (11_carousel_dma.md). -/
def DMA_CH_A_SRC : Reg := ⟨0x9201080, [(0x20000, 32), (0x400, 16)], 0x0⟩
def DMA_CH_A_SRC_SRC : Fld := ⟨DMA_CH_A_SRC, 0, 64, .ro, .none⟩
/-- `DMA_CH_A_DST` (11_carousel_dma.md). -/
def DMA_CH_A_DST : Reg := ⟨0x9201088, [(0x20000, 32), (0x400, 16)], 0x0⟩
def DMA_CH_A_DST_DST : Fld := ⟨DMA_CH_A_DST, 0, 64, .ro, .none⟩
/-- `DMA_CH_A_LEN` (11_carousel_dma.md). -/
def DMA_CH_A_LEN : Reg := ⟨0x9201090, [(0x20000, 32), (0x400, 16)], 0x0⟩
def DMA_CH_A_LEN_LEN : Fld := ⟨DMA_CH_A_LEN, 0, 32, .ro, .none⟩
/-- `DMA_CH_A_OPT` (11_carousel_dma.md). -/
def DMA_CH_A_OPT : Reg := ⟨0x9201098, [(0x20000, 32), (0x400, 16)], 0x0⟩
def DMA_CH_A_OPT_SRC_SPACE : Fld := ⟨DMA_CH_A_OPT, 0, 1, .ro, .none⟩
def DMA_CH_A_OPT_DST_SPACE : Fld := ⟨DMA_CH_A_OPT, 1, 1, .ro, .none⟩
def DMA_CH_A_OPT_CRC32C : Fld := ⟨DMA_CH_A_OPT, 2, 1, .ro, .none⟩
def DMA_CH_A_OPT_BOUND : Fld := ⟨DMA_CH_A_OPT, 3, 1, .ro, .none⟩
def DMA_CH_A_OPT_BPORT : Fld := ⟨DMA_CH_A_OPT, 4, 3, .ro, .none⟩
def DMA_CH_A_OPT_TAG_EN : Fld := ⟨DMA_CH_A_OPT, 7, 1, .ro, .none⟩
def DMA_CH_A_OPT_REL : Fld := ⟨DMA_CH_A_OPT, 8, 1, .ro, .none⟩
/-- `DMA_CH_A_USER` (11_carousel_dma.md). -/
def DMA_CH_A_USER : Reg := ⟨0x92010a0, [(0x20000, 32), (0x400, 16)], 0x0⟩
def DMA_CH_A_USER_USER : Fld := ⟨DMA_CH_A_USER, 0, 64, .ro, .none⟩
/-- `DMA_CH_A_TAG` (11_carousel_dma.md). -/
def DMA_CH_A_TAG : Reg := ⟨0x92010a8, [(0x20000, 32), (0x400, 16)], 0x0⟩
def DMA_CH_A_TAG_STREAM : Fld := ⟨DMA_CH_A_TAG, 0, 6, .ro, .none⟩
def DMA_CH_A_TAG_SLOT : Fld := ⟨DMA_CH_A_TAG, 6, 10, .ro, .none⟩
def DMA_CH_A_TAG_GEN : Fld := ⟨DMA_CH_A_TAG, 16, 1, .ro, .none⟩
/-- `DMA_CH_A_TAGADDR` (11_carousel_dma.md). -/
def DMA_CH_A_TAGADDR : Reg := ⟨0x92010b0, [(0x20000, 32), (0x400, 16)], 0x0⟩
def DMA_CH_A_TAGADDR_ADDR : Fld := ⟨DMA_CH_A_TAGADDR, 0, 64, .ro, .none⟩

def tabDelivery1 : List RegRow := [
  ⟨ID_DEVICE, [ID_DEVICE_VENDOR, ID_DEVICE_PART, ID_DEVICE_STEP]⟩,
  ⟨ID_PRESENT, [ID_PRESENT_PORT, ID_PRESENT_EMIT, ID_PRESENT_LANE]⟩,
  ⟨BMB_CTL, [BMB_CTL_RING, BMB_CTL_DONE, BMB_CTL_HELD, BMB_CTL_STATUS, BMB_CTL_TAG]⟩,
  ⟨CAR_STAT, [CAR_STAT_CACHED, CAR_STAT_PINNED]⟩,
  ⟨CAR_CACHE, [CAR_CACHE_HITS, CAR_CACHE_MISSES]⟩,
  ⟨CAR_CTX_SEL, [CAR_CTX_SEL_QUEUE]⟩,
  ⟨CAR_CTX_CMD, [CAR_CTX_CMD_LOAD, CAR_CTX_CMD_STORE, CAR_CTX_CMD_BUSY, CAR_CTX_CMD_ERR]⟩,
  ⟨CAR_CTX_DATA, [CAR_CTX_DATA_DATA]⟩,
  ⟨CAR_APP_Q, [CAR_APP_Q_QUEUE]⟩,
  ⟨CAR_APP_STAT, [CAR_APP_STAT_RESULT]⟩,
  ⟨CAR_TAKE_Q, [CAR_TAKE_Q_QUEUE]⟩,
  ⟨CAR_TAKE_CMD, [CAR_TAKE_CMD_TAKE, CAR_TAKE_CMD_RESULT]⟩]
def tabDelivery2 : List RegRow := [
  ⟨CAR_ERRQ, [CAR_ERRQ_LAST, CAR_ERRQ_COUNT]⟩,
  ⟨CAR_APP_DATA, [CAR_APP_DATA_DATA]⟩,
  ⟨CAR_TAKE_DATA, [CAR_TAKE_DATA_DATA]⟩,
  ⟨DMA_ENG_STAT, [DMA_ENG_STAT_STATE, DMA_ENG_STAT_CUR, DMA_ENG_STAT_BUSY, DMA_ENG_STAT_REASON]⟩,
  ⟨DMA_ENG_BYTES, [DMA_ENG_BYTES_BYTES]⟩,
  ⟨DMA_CH_SRC, [DMA_CH_SRC_SRC]⟩,
  ⟨DMA_CH_DST, [DMA_CH_DST_DST]⟩,
  ⟨DMA_CH_LEN, [DMA_CH_LEN_LEN]⟩,
  ⟨DMA_CH_OPT, [DMA_CH_OPT_SRC_SPACE, DMA_CH_OPT_DST_SPACE, DMA_CH_OPT_CRC32C, DMA_CH_OPT_BOUND, DMA_CH_OPT_BPORT, DMA_CH_OPT_TAG_EN, DMA_CH_OPT_REL]⟩,
  ⟨DMA_CH_USER, [DMA_CH_USER_USER]⟩,
  ⟨DMA_CH_TAG, [DMA_CH_TAG_STREAM, DMA_CH_TAG_SLOT, DMA_CH_TAG_GEN]⟩,
  ⟨DMA_CH_TAGADDR, [DMA_CH_TAGADDR_ADDR]⟩]
def tabDelivery3 : List RegRow := [
  ⟨DMA_CH_CTL, [DMA_CH_CTL_ARM, DMA_CH_CTL_DISARM, DMA_CH_CTL_PAUSE]⟩,
  ⟨DMA_CH_CFG, [DMA_CH_CFG_CQ, DMA_CH_CFG_SHARE, DMA_CH_CFG_BURST]⟩,
  ⟨DMA_CH_STAT, [DMA_CH_STAT_STATE, DMA_CH_STAT_SHADOW_BUSY, DMA_CH_STAT_GEN, DMA_CH_STAT_ARM_IGNORED]⟩,
  ⟨PTM_CTL, [PTM_CTL_GO, PTM_CTL_AUTO, PTM_CTL_PERIOD_MS]⟩,
  ⟨PTM_T1, [PTM_T1_TT]⟩,
  ⟨PTM_MASTER, [PTM_MASTER_NS]⟩,
  ⟨PTM_PROP, [PTM_PROP_NS]⟩,
  ⟨PTM_STAT, [PTM_STAT_VALID, PTM_STAT_FAILED, PTM_STAT_ENABLED, PTM_STAT_SEQ]⟩,
  ⟨DEV_STATUS, [DEV_STATUS_READY, DEV_STATUS_MODE, DEV_STATUS_LIFECYCLE, DEV_STATUS_HALTED, DEV_STATUS_CFG_BAD]⟩,
  ⟨HOST_AP_BASE, [HOST_AP_BASE_BASE]⟩,
  ⟨HOST_LINK, [HOST_LINK_SPEED, HOST_LINK_WIDTH, HOST_LINK_FLIT, HOST_LINK_RETRAINS, HOST_LINK_BAD_ACCESS]⟩,
  ⟨HBM_STAT, [HBM_STAT_TRAINED, HBM_STAT_TEMP, HBM_STAT_REFRESH_2X, HBM_STAT_CHAN_OK]⟩]
def tabDelivery4 : List RegRow := [
  ⟨ECC_CNT, [ECC_CNT_CORR, ECC_CNT_UNCORR]⟩,
  ⟨ECC_LAST_ADDR, [ECC_LAST_ADDR_ADDR]⟩,
  ⟨ECC_LAST_INFO, [ECC_LAST_INFO_UNCORR, ECC_LAST_INFO_CLASS, ECC_LAST_INFO_BOOTH, ECC_LAST_INFO_INDEX]⟩,
  ⟨ECC_LAST_TT, [ECC_LAST_TT_TT]⟩,
  ⟨MEM_SCRUB, [MEM_SCRUB_EN, MEM_SCRUB_PERIOD_H, MEM_SCRUB_PASSES]⟩,
  ⟨WIPE_STAT, [WIPE_STAT_BUSY, WIPE_STAT_LAST_US]⟩,
  ⟨REG_BOUNDS, [REG_BOUNDS_GEN_BASE, REG_BOUNDS_CTX_BASE]⟩,
  ⟨DMA_CH_A_SRC, [DMA_CH_A_SRC_SRC]⟩,
  ⟨DMA_CH_A_DST, [DMA_CH_A_DST_DST]⟩,
  ⟨DMA_CH_A_LEN, [DMA_CH_A_LEN_LEN]⟩,
  ⟨DMA_CH_A_OPT, [DMA_CH_A_OPT_SRC_SPACE, DMA_CH_A_OPT_DST_SPACE, DMA_CH_A_OPT_CRC32C, DMA_CH_A_OPT_BOUND, DMA_CH_A_OPT_BPORT, DMA_CH_A_OPT_TAG_EN, DMA_CH_A_OPT_REL]⟩,
  ⟨DMA_CH_A_USER, [DMA_CH_A_USER_USER]⟩]
def tabDelivery5 : List RegRow := [
  ⟨DMA_CH_A_TAG, [DMA_CH_A_TAG_STREAM, DMA_CH_A_TAG_SLOT, DMA_CH_A_TAG_GEN]⟩,
  ⟨DMA_CH_A_TAGADDR, [DMA_CH_A_TAGADDR_ADDR]⟩]
/-- Every register of this file. -/
def tabDelivery : List RegRow :=
  tabDelivery1 ++ tabDelivery2 ++ tabDelivery3 ++ tabDelivery4 ++ tabDelivery5

end Sys2Proof.Machine.R
end

