-- ==== Sys2Proof/Machine/RegsPort.lean ====
section
/-! DEFINITION. Registers of the port booths and the seal booth: one Reg per register table of the spec, one Fld per field,
with address, access code, apply point and reset value as the table states them. -/

namespace Sys2Proof.Machine.R

/-- `LN_CTL` (06_lanes.md). -/
def LN_CTL : Reg := ⟨0x1100000, [(0x1000000, 8), (0x100000, 2)], 0x0⟩
def LN_CTL_RATE : Fld := ⟨LN_CTL, 0, 3, .rw, .none⟩
def LN_CTL_RX_EN : Fld := ⟨LN_CTL, 3, 1, .rw, .none⟩
def LN_CTL_TX_ON : Fld := ⟨LN_CTL, 4, 1, .rw, .none⟩
def LN_CTL_RX_INV : Fld := ⟨LN_CTL, 5, 1, .rw, .none⟩
def LN_CTL_TX_INV : Fld := ⟨LN_CTL, 6, 1, .rw, .none⟩
def LN_CTL_PRE_TX : Fld := ⟨LN_CTL, 7, 1, .rw, .none⟩
def LN_CTL_PRE_RX : Fld := ⟨LN_CTL, 8, 1, .rw, .none⟩
def LN_CTL_LOOP : Fld := ⟨LN_CTL, 9, 3, .rw, .none⟩
/-- `LN_STAT` (06_lanes.md). -/
def LN_STAT : Reg := ⟨0x1100008, [(0x1000000, 8), (0x100000, 2)], 0x0⟩
def LN_STAT_TXPLL_LOCK : Fld := ⟨LN_STAT, 0, 1, .ro, .none⟩
def LN_STAT_CDR_LOCK : Fld := ⟨LN_STAT, 1, 1, .ro, .none⟩
def LN_STAT_LOS : Fld := ⟨LN_STAT, 2, 1, .ro, .none⟩
def LN_STAT_LOL : Fld := ⟨LN_STAT, 3, 1, .ro, .none⟩
def LN_STAT_TX_ACTIVE : Fld := ⟨LN_STAT, 4, 1, .ro, .none⟩
def LN_STAT_WAKE : Fld := ⟨LN_STAT, 5, 1, .ro, .none⟩
def LN_STAT_RX_HOLD : Fld := ⟨LN_STAT, 6, 1, .ro, .none⟩
/-- `LN_EVT` (06_lanes.md). -/
def LN_EVT : Reg := ⟨0x1100010, [(0x1000000, 8), (0x100000, 2)], 0x0⟩
def LN_EVT_LOS_SEEN : Fld := ⟨LN_EVT, 0, 1, .w1c, .none⟩
def LN_EVT_LOL_SEEN : Fld := ⟨LN_EVT, 1, 1, .w1c, .none⟩
def LN_EVT_WAKE_RX : Fld := ⟨LN_EVT, 2, 1, .w1c, .none⟩
def LN_EVT_TRAIN_END : Fld := ⟨LN_EVT, 3, 1, .w1c, .none⟩
def LN_EVT_ALIGN_FOUND : Fld := ⟨LN_EVT, 4, 1, .w1c, .none⟩
def LN_EVT_ALIGN_LOST : Fld := ⟨LN_EVT, 5, 1, .w1c, .none⟩
def LN_EVT_CFG_BAD : Fld := ⟨LN_EVT, 6, 1, .w1c, .none⟩
def LN_EVT_TX_CUT : Fld := ⟨LN_EVT, 7, 1, .w1c, .none⟩
/-- `LN_TX` (06_lanes.md). -/
def LN_TX : Reg := ⟨0x1100018, [(0x1000000, 8), (0x100000, 2)], 0x10000⟩
def LN_TX_SWING : Fld := ⟨LN_TX, 0, 12, .rw, .none⟩
def LN_TX_TX_IDLE : Fld := ⟨LN_TX, 16, 1, .rw, .none⟩
/-- `LN_FFE` (06_lanes.md). -/
def LN_FFE : Reg := ⟨0x1100020, [(0x1000000, 8), (0x100000, 2)], 0x400000⟩
def LN_FFE_C_M2 : Fld := ⟨LN_FFE, 0, 8, .rw, .none⟩
def LN_FFE_C_M1 : Fld := ⟨LN_FFE, 8, 8, .rw, .none⟩
def LN_FFE_C_0 : Fld := ⟨LN_FFE, 16, 8, .rw, .none⟩
def LN_FFE_C_P1 : Fld := ⟨LN_FFE, 24, 8, .rw, .none⟩
def LN_FFE_C_P2 : Fld := ⟨LN_FFE, 32, 8, .rw, .none⟩
/-- `LN_TRAIN_CTL` (06_lanes.md). -/
def LN_TRAIN_CTL : Reg := ⟨0x1100028, [(0x1000000, 8), (0x100000, 2)], 0x7d25c⟩
def LN_TRAIN_CTL_START : Fld := ⟨LN_TRAIN_CTL, 0, 1, .w1s, .none⟩
def LN_TRAIN_CTL_ABORT : Fld := ⟨LN_TRAIN_CTL, 1, 1, .w1s, .none⟩
def LN_TRAIN_CTL_AUTO : Fld := ⟨LN_TRAIN_CTL, 2, 1, .rw, .none⟩
def LN_TRAIN_CTL_FAR_PRESET : Fld := ⟨LN_TRAIN_CTL, 3, 3, .rw, .none⟩
def LN_TRAIN_CTL_LOCAL_PRESET : Fld := ⟨LN_TRAIN_CTL, 6, 3, .rw, .none⟩
def LN_TRAIN_CTL_PRECODE_REQ : Fld := ⟨LN_TRAIN_CTL, 9, 1, .rw, .none⟩
def LN_TRAIN_CTL_TIMEOUT : Fld := ⟨LN_TRAIN_CTL, 10, 16, .rw, .none⟩
/-- `LN_TRAIN_STAT` (06_lanes.md). -/
def LN_TRAIN_STAT : Reg := ⟨0x1100030, [(0x1000000, 8), (0x100000, 2)], 0x0⟩
def LN_TRAIN_STAT_STATE : Fld := ⟨LN_TRAIN_STAT, 0, 3, .ro, .none⟩
def LN_TRAIN_STAT_RESULT : Fld := ⟨LN_TRAIN_STAT, 3, 4, .ro, .none⟩
def LN_TRAIN_STAT_FAR_READY : Fld := ⟨LN_TRAIN_STAT, 7, 1, .ro, .none⟩
def LN_TRAIN_STAT_LAST_REQ : Fld := ⟨LN_TRAIN_STAT, 8, 16, .ro, .none⟩
def LN_TRAIN_STAT_LAST_RESP : Fld := ⟨LN_TRAIN_STAT, 24, 16, .ro, .none⟩
def LN_TRAIN_STAT_REQS : Fld := ⟨LN_TRAIN_STAT, 40, 16, .ro, .none⟩
/-- `LN_TRAIN_REQ` (06_lanes.md). -/
def LN_TRAIN_REQ : Reg := ⟨0x1100038, [(0x1000000, 8), (0x100000, 2)], 0x0⟩
def LN_TRAIN_REQ_REQ : Fld := ⟨LN_TRAIN_REQ, 0, 16, .wo, .none⟩
def LN_TRAIN_REQ_DONE : Fld := ⟨LN_TRAIN_REQ, 16, 1, .wo, .none⟩
/-- `LN_RX_EQ` (06_lanes.md). -/
def LN_RX_EQ : Reg := ⟨0x1100040, [(0x1000000, 8), (0x100000, 2)], 0xc⟩
def LN_RX_EQ_CTLE : Fld := ⟨LN_RX_EQ, 0, 5, .ro, .none⟩
def LN_RX_EQ_CTLE_FRZ : Fld := ⟨LN_RX_EQ, 5, 1, .rw, .none⟩
def LN_RX_EQ_DFE_FRZ : Fld := ⟨LN_RX_EQ, 6, 1, .rw, .none⟩
def LN_RX_EQ_ADAPT_OK : Fld := ⟨LN_RX_EQ, 7, 1, .ro, .none⟩
def LN_RX_EQ_DFE1 : Fld := ⟨LN_RX_EQ, 8, 8, .ro, .none⟩
/-- `LN_ALIGN_CTL` (06_lanes.md). -/
def LN_ALIGN_CTL : Reg := ⟨0x1100048, [(0x1000000, 8), (0x100000, 2)], 0x2180008⟩
def LN_ALIGN_CTL_SLIP : Fld := ⟨LN_ALIGN_CTL, 0, 1, .w1s, .none⟩
def LN_ALIGN_CTL_SLIP_BUSY : Fld := ⟨LN_ALIGN_CTL, 1, 1, .ro, .none⟩
def LN_ALIGN_CTL_ENABLE : Fld := ⟨LN_ALIGN_CTL, 2, 1, .rw, .none⟩
def LN_ALIGN_CTL_PERIOD : Fld := ⟨LN_ALIGN_CTL, 3, 16, .rw, .none⟩
def LN_ALIGN_CTL_CONFIRM : Fld := ⟨LN_ALIGN_CTL, 19, 4, .rw, .none⟩
def LN_ALIGN_CTL_LOSE : Fld := ⟨LN_ALIGN_CTL, 23, 4, .rw, .none⟩
/-- `LN_ALIGN_PAT` (06_lanes.md). -/
def LN_ALIGN_PAT : Reg := ⟨0x1100050, [(0x1000000, 8), (0x100000, 2)], 0x0⟩
def LN_ALIGN_PAT_PAT : Fld := ⟨LN_ALIGN_PAT, 0, 64, .rw, .none⟩
/-- `LN_ALIGN_MASK` (06_lanes.md). -/
def LN_ALIGN_MASK : Reg := ⟨0x1100058, [(0x1000000, 8), (0x100000, 2)], 0x0⟩
def LN_ALIGN_MASK_MASK : Fld := ⟨LN_ALIGN_MASK, 0, 64, .rw, .none⟩
/-- `LN_ALIGN_STAT` (06_lanes.md). -/
def LN_ALIGN_STAT : Reg := ⟨0x1100060, [(0x1000000, 8), (0x100000, 2)], 0x0⟩
def LN_ALIGN_STAT_FOUND : Fld := ⟨LN_ALIGN_STAT, 0, 1, .ro, .none⟩
def LN_ALIGN_STAT_PHASE : Fld := ⟨LN_ALIGN_STAT, 1, 16, .ro, .none⟩
def LN_ALIGN_STAT_OFFSET : Fld := ⟨LN_ALIGN_STAT, 17, 6, .ro, .none⟩
def LN_ALIGN_STAT_MISSES : Fld := ⟨LN_ALIGN_STAT, 32, 16, .rc, .none⟩
/-- `LN_LOS_CFG` (06_lanes.md). -/
def LN_LOS_CFG : Reg := ⟨0x1100068, [(0x1000000, 8), (0x100000, 2)], 0x4048⟩
def LN_LOS_CFG_THRESH : Fld := ⟨LN_LOS_CFG, 0, 5, .rw, .none⟩
def LN_LOS_CFG_HYST : Fld := ⟨LN_LOS_CFG, 5, 3, .rw, .none⟩
def LN_LOS_CFG_ASSERT_NS : Fld := ⟨LN_LOS_CFG, 8, 10, .rw, .none⟩
/-- `LN_FEC_CW` (06_lanes.md). -/
def LN_FEC_CW : Reg := ⟨0x1100070, [(0x1000000, 8), (0x100000, 2)], 0x0⟩
def LN_FEC_CW_CORR : Fld := ⟨LN_FEC_CW, 0, 32, .rc, .none⟩
def LN_FEC_CW_UNCORR : Fld := ⟨LN_FEC_CW, 32, 32, .rc, .none⟩
/-- `LN_FEC_SYM` (06_lanes.md). -/
def LN_FEC_SYM : Reg := ⟨0x1100078, [(0x1000000, 8), (0x100000, 2)], 0x0⟩
def LN_FEC_SYM_SYM : Fld := ⟨LN_FEC_SYM, 0, 48, .rc, .none⟩
/-- `LN_PRBS` (06_lanes.md). -/
def LN_PRBS : Reg := ⟨0x1100080, [(0x1000000, 8), (0x100000, 2)], 0x0⟩
def LN_PRBS_POLY : Fld := ⟨LN_PRBS, 0, 3, .rw, .none⟩
def LN_PRBS_GEN : Fld := ⟨LN_PRBS, 3, 1, .rw, .none⟩
def LN_PRBS_CHK : Fld := ⟨LN_PRBS, 4, 1, .rw, .none⟩
def LN_PRBS_LOCK : Fld := ⟨LN_PRBS, 5, 1, .ro, .none⟩
def LN_PRBS_ERR : Fld := ⟨LN_PRBS, 16, 32, .rc, .none⟩
/-- `LN_HIST_CTL` (06_lanes.md). -/
def LN_HIST_CTL : Reg := ⟨0x1100088, [(0x1000000, 8), (0x100000, 2)], 0x50⟩
def LN_HIST_CTL_START : Fld := ⟨LN_HIST_CTL, 0, 1, .w1s, .none⟩
def LN_HIST_CTL_BUSY : Fld := ⟨LN_HIST_CTL, 1, 1, .ro, .none⟩
def LN_HIST_CTL_WIN : Fld := ⟨LN_HIST_CTL, 2, 5, .rw, .none⟩
/-- `LN_LEVELS` (06_lanes.md). -/
def LN_LEVELS : Reg := ⟨0x1100090, [(0x1000000, 8), (0x100000, 2)], 0x0⟩
def LN_LEVELS_L0 : Fld := ⟨LN_LEVELS, 0, 32, .ro, .none⟩
def LN_LEVELS_SPREAD : Fld := ⟨LN_LEVELS, 32, 16, .ro, .none⟩
/-- `LN_LAT` (06_lanes.md). -/
def LN_LAT : Reg := ⟨0x1100098, [(0x1000000, 8), (0x100000, 2)], 0x0⟩
def LN_LAT_RX_LAT : Fld := ⟨LN_LAT, 0, 32, .ro, .none⟩
def LN_LAT_TX_LAT : Fld := ⟨LN_LAT, 32, 32, .ro, .none⟩
/-- `LN_HIST` (06_lanes.md). -/
def LN_HIST : Reg := ⟨0x1100100, [(0x1000000, 8), (0x100000, 2), (0x8, 32)], 0x0⟩
def LN_HIST_BIN_LO : Fld := ⟨LN_HIST, 0, 32, .ro, .none⟩
def LN_HIST_BIN_HI : Fld := ⟨LN_HIST, 32, 32, .ro, .none⟩
/-- `PP_CTL` (07_port_protocols.md). -/
def PP_CTL : Reg := ⟨0x1300000, [(0x1000000, 8)], 0x0⟩
def PP_CTL_MODE : Fld := ⟨PP_CTL, 0, 4, .rw, .none⟩
def PP_CTL_ENABLE : Fld := ⟨PP_CTL, 4, 1, .rw, .none⟩
def PP_CTL_ROLE : Fld := ⟨PP_CTL, 5, 1, .rw, .none⟩
def PP_CTL_EMIT : Fld := ⟨PP_CTL, 6, 1, .rw, .none⟩
/-- `PP_STAT` (07_port_protocols.md). -/
def PP_STAT : Reg := ⟨0x1300008, [(0x1000000, 8)], 0x0⟩
def PP_STAT_STATE : Fld := ⟨PP_STAT, 0, 3, .ro, .none⟩
def PP_STAT_FAIL : Fld := ⟨PP_STAT, 3, 4, .ro, .none⟩
def PP_STAT_SKEW : Fld := ⟨PP_STAT, 8, 8, .ro, .none⟩
def PP_STAT_EMITTING : Fld := ⟨PP_STAT, 16, 1, .ro, .none⟩
/-- `PP_EVT` (07_port_protocols.md). -/
def PP_EVT : Reg := ⟨0x1300010, [(0x1000000, 8)], 0x0⟩
def PP_EVT_UP_SEEN : Fld := ⟨PP_EVT, 0, 1, .w1c, .none⟩
def PP_EVT_DOWN_SEEN : Fld := ⟨PP_EVT, 1, 1, .w1c, .none⟩
def PP_EVT_CFG_BAD : Fld := ⟨PP_EVT, 2, 1, .w1c, .none⟩
def PP_EVT_SLOW_DROP : Fld := ⟨PP_EVT, 3, 1, .w1c, .none⟩
def PP_EVT_TXTS_OVF : Fld := ⟨PP_EVT, 4, 1, .w1c, .none⟩
def PP_EVT_TRIG_LATE : Fld := ⟨PP_EVT, 5, 1, .w1c, .none⟩
def PP_EVT_CC_RX : Fld := ⟨PP_EVT, 6, 1, .w1c, .none⟩
/-- `PP_MAC` (07_port_protocols.md). -/
def PP_MAC : Reg := ⟨0x1300018, [(0x1000000, 8)], 0x0⟩
def PP_MAC_MAC : Fld := ⟨PP_MAC, 0, 48, .rw, .none⟩
/-- `PP_VLAN` (07_port_protocols.md). -/
def PP_VLAN : Reg := ⟨0x1300020, [(0x1000000, 8)], 0x0⟩
def PP_VLAN_VID : Fld := ⟨PP_VLAN, 0, 12, .rw, .none⟩
def PP_VLAN_PCP : Fld := ⟨PP_VLAN, 12, 3, .rw, .none⟩
def PP_VLAN_TAG_EN : Fld := ⟨PP_VLAN, 15, 1, .rw, .none⟩
/-- `PP_IP4` (07_port_protocols.md). -/
def PP_IP4 : Reg := ⟨0x1300028, [(0x1000000, 8)], 0x0⟩
def PP_IP4_ADDR : Fld := ⟨PP_IP4, 0, 32, .rw, .none⟩
/-- `PP_IP6_LO` (07_port_protocols.md). -/
def PP_IP6_LO : Reg := ⟨0x1300030, [(0x1000000, 8)], 0x0⟩
def PP_IP6_LO_ADDR : Fld := ⟨PP_IP6_LO, 0, 64, .rw, .none⟩
/-- `PP_IP6_HI` (07_port_protocols.md). -/
def PP_IP6_HI : Reg := ⟨0x1300038, [(0x1000000, 8)], 0x0⟩
def PP_IP6_HI_ADDR : Fld := ⟨PP_IP6_HI, 0, 64, .rw, .none⟩
/-- `PP_PTP` (07_port_protocols.md). -/
def PP_PTP : Reg := ⟨0x1300040, [(0x1000000, 8)], 0x0⟩
def PP_PTP_RX_STAMP_EN : Fld := ⟨PP_PTP, 0, 1, .rw, .none⟩
def PP_PTP_TX_STAMP_EN : Fld := ⟨PP_PTP, 1, 1, .rw, .none⟩
def PP_PTP_ONE_STEP_EN : Fld := ⟨PP_PTP, 2, 1, .rw, .none⟩
def PP_PTP_ENCAPS : Fld := ⟨PP_PTP, 3, 3, .rw, .none⟩
/-- `PP_TXTS` (07_port_protocols.md). -/
def PP_TXTS : Reg := ⟨0x1300048, [(0x1000000, 8)], 0x0⟩
def PP_TXTS_SEQ_ID : Fld := ⟨PP_TXTS, 0, 16, .rc, .none⟩
def PP_TXTS_MSGTYPE : Fld := ⟨PP_TXTS, 16, 4, .rc, .none⟩
def PP_TXTS_VALID : Fld := ⟨PP_TXTS, 20, 1, .rc, .none⟩
/-- `PP_TXTS_TIME` (07_port_protocols.md). -/
def PP_TXTS_TIME : Reg := ⟨0x1300050, [(0x1000000, 8)], 0x0⟩
def PP_TXTS_TIME_TT : Fld := ⟨PP_TXTS_TIME, 0, 64, .ro, .none⟩
/-- `PP_SLOW` (07_port_protocols.md). -/
def PP_SLOW : Reg := ⟨0x1300058, [(0x1000000, 8)], 0x0⟩
def PP_SLOW_DROP : Fld := ⟨PP_SLOW, 0, 32, .rc, .none⟩
/-- `PP_CNT_RX` (07_port_protocols.md). -/
def PP_CNT_RX : Reg := ⟨0x1300060, [(0x1000000, 8)], 0x0⟩
def PP_CNT_RX_PKTS : Fld := ⟨PP_CNT_RX, 0, 48, .rc, .none⟩
/-- `PP_CNT_ERR` (07_port_protocols.md). -/
def PP_CNT_ERR : Reg := ⟨0x1300068, [(0x1000000, 8)], 0x0⟩
def PP_CNT_ERR_RX_ERR : Fld := ⟨PP_CNT_ERR, 0, 32, .rc, .none⟩
def PP_CNT_ERR_NO_ENTRY : Fld := ⟨PP_CNT_ERR, 32, 32, .rc, .none⟩
/-- `PP_CNT_TX` (07_port_protocols.md). -/
def PP_CNT_TX : Reg := ⟨0x1300070, [(0x1000000, 8)], 0x0⟩
def PP_CNT_TX_PKTS : Fld := ⟨PP_CNT_TX, 0, 48, .rc, .none⟩
/-- `PP_RAW` (07_port_protocols.md). -/
def PP_RAW : Reg := ⟨0x1300078, [(0x1000000, 8)], 0x0⟩
def PP_RAW_WORDS : Fld := ⟨PP_RAW, 0, 14, .rw, .none⟩
/-- `PP_VXL_INFO` (07_port_protocols.md). -/
def PP_VXL_INFO : Reg := ⟨0x1300080, [(0x1000000, 8)], 0x0⟩
def PP_VXL_INFO_TRIG_LAT : Fld := ⟨PP_VXL_INFO, 0, 32, .ro, .none⟩
def PP_VXL_INFO_ROLE : Fld := ⟨PP_VXL_INFO, 32, 1, .ro, .none⟩
def PP_VXL_INFO_LANES : Fld := ⟨PP_VXL_INFO, 33, 2, .ro, .none⟩
def PP_VXL_INFO_VERSION : Fld := ⟨PP_VXL_INFO, 40, 8, .ro, .none⟩
/-- `PP_VXL_ERR` (07_port_protocols.md). -/
def PP_VXL_ERR : Reg := ⟨0x1300088, [(0x1000000, 8)], 0x0⟩
def PP_VXL_ERR_HDR_ERR : Fld := ⟨PP_VXL_ERR, 0, 16, .rc, .none⟩
def PP_VXL_ERR_CRC_ERR : Fld := ⟨PP_VXL_ERR, 16, 16, .rc, .none⟩
def PP_VXL_ERR_STRAY : Fld := ⟨PP_VXL_ERR, 32, 16, .rc, .none⟩
def PP_VXL_ERR_UNKNOWN : Fld := ⟨PP_VXL_ERR, 48, 16, .rc, .none⟩
/-- `PP_VXL_ECHO` (07_port_protocols.md). -/
def PP_VXL_ECHO : Reg := ⟨0x1300090, [(0x1000000, 8)], 0x0⟩
def PP_VXL_ECHO_GO : Fld := ⟨PP_VXL_ECHO, 0, 1, .w1s, .none⟩
def PP_VXL_ECHO_LANE : Fld := ⟨PP_VXL_ECHO, 1, 2, .rw, .none⟩
def PP_VXL_ECHO_BUSY : Fld := ⟨PP_VXL_ECHO, 3, 1, .ro, .none⟩
def PP_VXL_ECHO_DONE : Fld := ⟨PP_VXL_ECHO, 4, 1, .w1c, .none⟩
def PP_VXL_ECHO_TURNAROUND : Fld := ⟨PP_VXL_ECHO, 32, 32, .ro, .none⟩
/-- `PP_VXL_ECHO_RTT` (07_port_protocols.md). -/
def PP_VXL_ECHO_RTT : Reg := ⟨0x1300098, [(0x1000000, 8)], 0x0⟩
def PP_VXL_ECHO_RTT_RTT : Fld := ⟨PP_VXL_ECHO_RTT, 0, 32, .ro, .none⟩
/-- `PP_VXL_DLY` (07_port_protocols.md). -/
def PP_VXL_DLY : Reg := ⟨0x13000a0, [(0x1000000, 8), (0x8, 4)], 0x0⟩
def PP_VXL_DLY_DELAY : Fld := ⟨PP_VXL_DLY, 0, 32, .rw, .none⟩
/-- `PP_CC_TX` (07_port_protocols.md). -/
def PP_CC_TX : Reg := ⟨0x13000c0, [(0x1000000, 8), (0x8, 4)], 0x0⟩
def PP_CC_TX_BYTES : Fld := ⟨PP_CC_TX, 0, 64, .wo, .none⟩
/-- `PP_CC_STAT` (07_port_protocols.md). -/
def PP_CC_STAT : Reg := ⟨0x13000e0, [(0x1000000, 8)], 0x10⟩
def PP_CC_STAT_TX_FREE : Fld := ⟨PP_CC_STAT, 0, 5, .ro, .none⟩
def PP_CC_STAT_RX_COUNT : Fld := ⟨PP_CC_STAT, 8, 5, .ro, .none⟩
/-- `PP_CC_RX` (07_port_protocols.md). -/
def PP_CC_RX : Reg := ⟨0x1300100, [(0x1000000, 8), (0x8, 4)], 0x0⟩
def PP_CC_RX_BYTES : Fld := ⟨PP_CC_RX, 0, 64, .ro, .none⟩
/-- `PP_SM_CTL` (07_port_protocols.md). -/
def PP_SM_CTL : Reg := ⟨0x1301000, [(0x1000000, 8), (0x40, 64)], 0x0⟩
def PP_SM_CTL_VALID : Fld := ⟨PP_SM_CTL, 0, 1, .cs, .boundary⟩
def PP_SM_CTL_KIND : Fld := ⟨PP_SM_CTL, 1, 2, .cs, .boundary⟩
def PP_SM_CTL_SRC_MATCH : Fld := ⟨PP_SM_CTL, 3, 1, .cs, .boundary⟩
def PP_SM_CTL_VLAN_MATCH : Fld := ⟨PP_SM_CTL, 4, 1, .cs, .boundary⟩
def PP_SM_CTL_VID : Fld := ⟨PP_SM_CTL, 5, 12, .cs, .boundary⟩
def PP_SM_CTL_IPV6 : Fld := ⟨PP_SM_CTL, 17, 1, .cs, .boundary⟩
def PP_SM_CTL_EXT_ID : Fld := ⟨PP_SM_CTL, 18, 1, .cs, .boundary⟩
def PP_SM_CTL_UDP_DST : Fld := ⟨PP_SM_CTL, 32, 16, .cs, .boundary⟩
/-- `PP_SM_DST_LO` (07_port_protocols.md). -/
def PP_SM_DST_LO : Reg := ⟨0x1301008, [(0x1000000, 8), (0x40, 64)], 0x0⟩
def PP_SM_DST_LO_DST : Fld := ⟨PP_SM_DST_LO, 0, 64, .cs, .boundary⟩
/-- `PP_SM_DST_HI` (07_port_protocols.md). -/
def PP_SM_DST_HI : Reg := ⟨0x1301010, [(0x1000000, 8), (0x40, 64)], 0x0⟩
def PP_SM_DST_HI_DST : Fld := ⟨PP_SM_DST_HI, 0, 64, .cs, .boundary⟩
/-- `PP_SM_SRC_LO` (07_port_protocols.md). -/
def PP_SM_SRC_LO : Reg := ⟨0x1301018, [(0x1000000, 8), (0x40, 64)], 0x0⟩
def PP_SM_SRC_LO_SRC : Fld := ⟨PP_SM_SRC_LO, 0, 64, .cs, .boundary⟩
/-- `PP_SM_SRC_HI` (07_port_protocols.md). -/
def PP_SM_SRC_HI : Reg := ⟨0x1301020, [(0x1000000, 8), (0x40, 64)], 0x0⟩
def PP_SM_SRC_HI_SRC : Fld := ⟨PP_SM_SRC_HI, 0, 64, .cs, .boundary⟩
/-- `PP_SM_MERGE` (07_port_protocols.md). -/
def PP_SM_MERGE : Reg := ⟨0x1301028, [(0x1000000, 8), (0x40, 64)], 0x0⟩
def PP_SM_MERGE_EN : Fld := ⟨PP_SM_MERGE, 0, 1, .cs, .boundary⟩
def PP_SM_MERGE_SECONDARY : Fld := ⟨PP_SM_MERGE, 1, 1, .cs, .boundary⟩
def PP_SM_MERGE_PAIR : Fld := ⟨PP_SM_MERGE, 2, 1, .cs, .boundary⟩
def PP_SM_MERGE_PARTNER : Fld := ⟨PP_SM_MERGE, 3, 6, .cs, .boundary⟩
def PP_SM_MERGE_HOLD : Fld := ⟨PP_SM_MERGE, 16, 16, .cs, .boundary⟩
/-- `PP_SM_CNT` (07_port_protocols.md). -/
def PP_SM_CNT : Reg := ⟨0x1301030, [(0x1000000, 8), (0x40, 64)], 0x0⟩
def PP_SM_CNT_DUP : Fld := ⟨PP_SM_CNT, 0, 32, .rc, .none⟩
def PP_SM_CNT_LATE : Fld := ⟨PP_SM_CNT, 32, 32, .rc, .none⟩
/-- `CAP_CMD` (08_capture_assembly.md). -/
def CAP_CMD : Reg := ⟨0x1400000, [(0x1000000, 8)], 0x0⟩
def CAP_CMD_STREAM : Fld := ⟨CAP_CMD, 0, 6, .wo, .none⟩
def CAP_CMD_OP : Fld := ⟨CAP_CMD, 8, 3, .wo, .none⟩
/-- `CAP_REL` (08_capture_assembly.md). -/
def CAP_REL : Reg := ⟨0x1400008, [(0x1000000, 8)], 0x0⟩
def CAP_REL_STREAM : Fld := ⟨CAP_REL, 0, 6, .wo, .none⟩
def CAP_REL_GEN : Fld := ⟨CAP_REL, 8, 1, .wo, .none⟩
def CAP_REL_SLOT : Fld := ⟨CAP_REL, 16, 10, .wo, .none⟩
/-- `CAP_STAT` (08_capture_assembly.md). -/
def CAP_STAT : Reg := ⟨0x1400010, [(0x1000000, 8)], 0x0⟩
def CAP_STAT_CMD_BAD : Fld := ⟨CAP_STAT, 0, 16, .rc, .none⟩
def CAP_STAT_REL_BAD : Fld := ⟨CAP_STAT, 16, 16, .rc, .none⟩
/-- `CAP_SEL` (08_capture_assembly.md). -/
def CAP_SEL : Reg := ⟨0x1400018, [(0x1000000, 8)], 0x0⟩
def CAP_SEL_STREAM : Fld := ⟨CAP_SEL, 0, 6, .rw, .none⟩
/-- `CAP_LF_DIAG` (08_capture_assembly.md). -/
def CAP_LF_DIAG : Reg := ⟨0x1400020, [(0x1000000, 8)], 0x0⟩
def CAP_LF_DIAG_FIFO : Fld := ⟨CAP_LF_DIAG, 0, 6, .rw, .none⟩
def CAP_LF_DIAG_POP : Fld := ⟨CAP_LF_DIAG, 8, 1, .w1s, .none⟩
def CAP_LF_DIAG_DENIED : Fld := ⟨CAP_LF_DIAG, 9, 1, .w1c, .none⟩
/-- `CAP_LF_HDR` (08_capture_assembly.md). -/
def CAP_LF_HDR : Reg := ⟨0x1400028, [(0x1000000, 8)], 0x0⟩
def CAP_LF_HDR_HDR : Fld := ⟨CAP_LF_HDR, 0, 54, .ro, .none⟩
/-- `CAP_LF_DATA` (08_capture_assembly.md). -/
def CAP_LF_DATA : Reg := ⟨0x1400040, [(0x1000000, 8), (0x8, 8)], 0x0⟩
def CAP_LF_DATA_DATA : Fld := ⟨CAP_LF_DATA, 0, 64, .ro, .none⟩
/-- `CAP_SC_CTL` (08_capture_assembly.md). -/
def CAP_SC_CTL : Reg := ⟨0x1401000, [(0x1000000, 8), (0x80, 64)], 0x0⟩
def CAP_SC_CTL_EN : Fld := ⟨CAP_SC_CTL, 0, 1, .cs, .boundary⟩
def CAP_SC_CTL_FRAMING : Fld := ⟨CAP_SC_CTL, 1, 2, .cs, .boundary⟩
def CAP_SC_CTL_FMT_CHECK : Fld := ⟨CAP_SC_CTL, 3, 1, .cs, .boundary⟩
def CAP_SC_CTL_TRIG_EN : Fld := ⟨CAP_SC_CTL, 4, 1, .cs, .boundary⟩
def CAP_SC_CTL_TRIG_PROG : Fld := ⟨CAP_SC_CTL, 5, 5, .cs, .boundary⟩
def CAP_SC_CTL_CLOSE_COUNT : Fld := ⟨CAP_SC_CTL, 10, 1, .cs, .boundary⟩
def CAP_SC_CTL_CLOSE_TIME : Fld := ⟨CAP_SC_CTL, 11, 1, .cs, .boundary⟩
def CAP_SC_CTL_CLOSE_EV_EN : Fld := ⟨CAP_SC_CTL, 12, 1, .cs, .boundary⟩
def CAP_SC_CTL_CLOSE_EV : Fld := ⟨CAP_SC_CTL, 13, 8, .cs, .boundary⟩
def CAP_SC_CTL_FRAME_EV_EN : Fld := ⟨CAP_SC_CTL, 21, 1, .cs, .boundary⟩
def CAP_SC_CTL_FRAME_EV : Fld := ⟨CAP_SC_CTL, 22, 8, .cs, .boundary⟩
/-- `CAP_SC_FMT` (08_capture_assembly.md). -/
def CAP_SC_FMT : Reg := ⟨0x1401008, [(0x1000000, 8), (0x80, 64)], 0x0⟩
def CAP_SC_FMT_PIXFMT : Fld := ⟨CAP_SC_FMT, 0, 32, .cs, .boundary⟩
def CAP_SC_FMT_LINE_LEN : Fld := ⟨CAP_SC_FMT, 32, 19, .cs, .boundary⟩
/-- `CAP_SC_GEOM` (08_capture_assembly.md). -/
def CAP_SC_GEOM : Reg := ⟨0x1401010, [(0x1000000, 8), (0x80, 64)], 0x0⟩
def CAP_SC_GEOM_LINES : Fld := ⟨CAP_SC_GEOM, 0, 21, .cs, .boundary⟩
def CAP_SC_GEOM_STRIDE : Fld := ⟨CAP_SC_GEOM, 32, 13, .cs, .boundary⟩
/-- `CAP_SC_RING` (08_capture_assembly.md). -/
def CAP_SC_RING : Reg := ⟨0x1401018, [(0x1000000, 8), (0x80, 64)], 0x0⟩
def CAP_SC_RING_BASE : Fld := ⟨CAP_SC_RING, 0, 64, .cs, .boundary⟩
/-- `CAP_SC_SLOT` (08_capture_assembly.md). -/
def CAP_SC_SLOT : Reg := ⟨0x1401020, [(0x1000000, 8), (0x80, 64)], 0x0⟩
def CAP_SC_SLOT_SLOT_SIZE : Fld := ⟨CAP_SC_SLOT, 0, 20, .cs, .boundary⟩
def CAP_SC_SLOT_SLOTS : Fld := ⟨CAP_SC_SLOT, 32, 10, .cs, .boundary⟩
/-- `CAP_SC_TIME` (08_capture_assembly.md). -/
def CAP_SC_TIME : Reg := ⟨0x1401028, [(0x1000000, 8), (0x80, 64)], 0x0⟩
def CAP_SC_TIME_BLOCK_NS : Fld := ⟨CAP_SC_TIME, 0, 32, .cs, .boundary⟩
/-- `CAP_SC_Q` (08_capture_assembly.md). -/
def CAP_SC_Q : Reg := ⟨0x1401030, [(0x1000000, 8), (0x80, 64)], 0x0⟩
def CAP_SC_Q_QUEUE : Fld := ⟨CAP_SC_Q, 0, 20, .cs, .boundary⟩
def CAP_SC_Q_DIRECT : Fld := ⟨CAP_SC_Q, 20, 1, .cs, .boundary⟩
/-- `CAP_SC_STAT` (08_capture_assembly.md). -/
def CAP_SC_STAT : Reg := ⟨0x1401038, [(0x1000000, 8), (0x80, 64)], 0x0⟩
def CAP_SC_STAT_FRAME_OPEN : Fld := ⟨CAP_SC_STAT, 0, 1, .ro, .none⟩
def CAP_SC_STAT_GEN : Fld := ⟨CAP_SC_STAT, 1, 1, .ro, .none⟩
def CAP_SC_STAT_RETIRING : Fld := ⟨CAP_SC_STAT, 2, 1, .ro, .none⟩
def CAP_SC_STAT_NEXT_SLOT : Fld := ⟨CAP_SC_STAT, 8, 10, .ro, .none⟩
def CAP_SC_STAT_FREE : Fld := ⟨CAP_SC_STAT, 18, 11, .ro, .none⟩
/-- `CAP_SC_FRAME` (08_capture_assembly.md). -/
def CAP_SC_FRAME : Reg := ⟨0x1401040, [(0x1000000, 8), (0x80, 64)], 0x0⟩
def CAP_SC_FRAME_NEXT : Fld := ⟨CAP_SC_FRAME, 0, 64, .ro, .none⟩
/-- `CAP_SC_LOST` (08_capture_assembly.md). -/
def CAP_SC_LOST : Reg := ⟨0x1401048, [(0x1000000, 8), (0x80, 64)], 0x0⟩
def CAP_SC_LOST_LOST_WORDS : Fld := ⟨CAP_SC_LOST, 0, 32, .rc, .none⟩
def CAP_SC_LOST_DAMAGED_LINES : Fld := ⟨CAP_SC_LOST, 32, 32, .rc, .none⟩
/-- `CAP_SC_DROP` (08_capture_assembly.md). -/
def CAP_SC_DROP : Reg := ⟨0x1401050, [(0x1000000, 8), (0x80, 64)], 0x0⟩
def CAP_SC_DROP_THROTTLED : Fld := ⟨CAP_SC_DROP, 0, 16, .rc, .none⟩
def CAP_SC_DROP_NO_BUFFER : Fld := ⟨CAP_SC_DROP, 16, 16, .rc, .none⟩
def CAP_SC_DROP_ORPHAN : Fld := ⟨CAP_SC_DROP, 32, 32, .rc, .none⟩
/-- `CAP_LF` (08_capture_assembly.md). -/
def CAP_LF : Reg := ⟨0x1401058, [(0x1000000, 8), (0x80, 64)], 0x0⟩
def CAP_LF_WORDS : Fld := ⟨CAP_LF, 0, 7, .ro, .none⟩
def CAP_LF_LINES : Fld := ⟨CAP_LF, 8, 7, .ro, .none⟩
def CAP_LF_FULL : Fld := ⟨CAP_LF, 15, 1, .ro, .none⟩
/-- `SW_STAT` (09_swatch_mordant.md). -/
def SW_STAT : Reg := ⟨0x1500000, [(0x1000000, 8)], 0x0⟩
def SW_STAT_REF_LATE : Fld := ⟨SW_STAT, 0, 32, .rc, .none⟩
/-- `SW_CX_CTL` (09_swatch_mordant.md). -/
def SW_CX_CTL : Reg := ⟨0x1501000, [(0x1000000, 8), (0x100, 8)], 0x0⟩
def SW_CX_CTL_EN : Fld := ⟨SW_CX_CTL, 0, 1, .cs, .boundary⟩
def SW_CX_CTL_STREAM : Fld := ⟨SW_CX_CTL, 1, 6, .cs, .boundary⟩
def SW_CX_CTL_CMP_EN : Fld := ⟨SW_CX_CTL, 7, 1, .cs, .boundary⟩
def SW_CX_CTL_HIST_EN : Fld := ⟨SW_CX_CTL, 8, 1, .cs, .boundary⟩
def SW_CX_CTL_MAP_EN : Fld := ⟨SW_CX_CTL, 9, 1, .cs, .boundary⟩
def SW_CX_CTL_MAP_SHIFT : Fld := ⟨SW_CX_CTL, 10, 2, .cs, .boundary⟩
def SW_CX_CTL_MODEL : Fld := ⟨SW_CX_CTL, 12, 3, .cs, .boundary⟩
def SW_CX_CTL_REF_VALID : Fld := ⟨SW_CX_CTL, 15, 1, .cs, .boundary⟩
def SW_CX_CTL_ROI_EN : Fld := ⟨SW_CX_CTL, 16, 16, .cs, .boundary⟩
/-- `SW_CX_TOL` (09_swatch_mordant.md). -/
def SW_CX_TOL : Reg := ⟨0x1501008, [(0x1000000, 8), (0x100, 8)], 0x0⟩
def SW_CX_TOL_TOL0 : Fld := ⟨SW_CX_TOL, 0, 48, .cs, .boundary⟩
/-- `SW_CX_REF` (09_swatch_mordant.md). -/
def SW_CX_REF : Reg := ⟨0x1501010, [(0x1000000, 8), (0x100, 8)], 0x0⟩
def SW_CX_REF_REF_BASE : Fld := ⟨SW_CX_REF, 0, 64, .cs, .boundary⟩
/-- `SW_CX_REFG` (09_swatch_mordant.md). -/
def SW_CX_REFG : Reg := ⟨0x1501018, [(0x1000000, 8), (0x100, 8)], 0x0⟩
def SW_CX_REFG_REF_STRIDE : Fld := ⟨SW_CX_REFG, 0, 13, .cs, .boundary⟩
def SW_CX_REFG_REF_LINES : Fld := ⟨SW_CX_REFG, 32, 21, .cs, .boundary⟩
/-- `SW_CX_RES` (09_swatch_mordant.md). -/
def SW_CX_RES : Reg := ⟨0x1501020, [(0x1000000, 8), (0x100, 8)], 0x0⟩
def SW_CX_RES_RES_BASE : Fld := ⟨SW_CX_RES, 0, 64, .cs, .boundary⟩
/-- `SW_CX_RESG` (09_swatch_mordant.md). -/
def SW_CX_RESG : Reg := ⟨0x1501028, [(0x1000000, 8), (0x100, 8)], 0x0⟩
def SW_CX_RESG_RES_SIZE : Fld := ⟨SW_CX_RESG, 0, 12, .cs, .boundary⟩
def SW_CX_RESG_RES_COUNT : Fld := ⟨SW_CX_RESG, 32, 11, .cs, .boundary⟩
/-- `SW_CX_TLINE` (09_swatch_mordant.md). -/
def SW_CX_TLINE : Reg := ⟨0x1501030, [(0x1000000, 8), (0x100, 8)], 0x0⟩
def SW_CX_TLINE_TLINE : Fld := ⟨SW_CX_TLINE, 0, 48, .cs, .boundary⟩
/-- `SW_CX_2110` (09_swatch_mordant.md). -/
def SW_CX_2110 : Reg := ⟨0x1501038, [(0x1000000, 8), (0x100, 8)], 0x0⟩
def SW_CX_2110_NPKT : Fld := ⟨SW_CX_2110, 0, 24, .cs, .boundary⟩
def SW_CX_2110_CMAX : Fld := ⟨SW_CX_2110, 24, 8, .cs, .boundary⟩
def SW_CX_2110_VRX_FULL : Fld := ⟨SW_CX_2110, 32, 16, .cs, .boundary⟩
/-- `SW_CX_TFRM` (09_swatch_mordant.md). -/
def SW_CX_TFRM : Reg := ⟨0x1501040, [(0x1000000, 8), (0x100, 8)], 0x0⟩
def SW_CX_TFRM_TFRAME : Fld := ⟨SW_CX_TFRM, 0, 48, .cs, .boundary⟩
/-- `SW_CX_LIM` (09_swatch_mordant.md). -/
def SW_CX_LIM : Reg := ⟨0x1501048, [(0x1000000, 8), (0x100, 8)], 0x0⟩
def SW_CX_LIM_LATE_LIMIT : Fld := ⟨SW_CX_LIM, 0, 32, .cs, .boundary⟩
def SW_CX_LIM_MM_LIMIT : Fld := ⟨SW_CX_LIM, 32, 32, .cs, .boundary⟩
/-- `SW_CX_CNT` (09_swatch_mordant.md). -/
def SW_CX_CNT : Reg := ⟨0x1501050, [(0x1000000, 8), (0x100, 8)], 0x0⟩
def SW_CX_CNT_COMPARED : Fld := ⟨SW_CX_CNT, 0, 32, .rc, .none⟩
def SW_CX_CNT_MISMATCHED : Fld := ⟨SW_CX_CNT, 32, 32, .rc, .none⟩
/-- `SW_CX_ROI` (09_swatch_mordant.md). -/
def SW_CX_ROI : Reg := ⟨0x1501080, [(0x1000000, 8), (0x100, 8), (0x8, 16)], 0x0⟩
def SW_CX_ROI_X0 : Fld := ⟨SW_CX_ROI, 0, 16, .cs, .boundary⟩
def SW_CX_ROI_Y0 : Fld := ⟨SW_CX_ROI, 16, 16, .cs, .boundary⟩
def SW_CX_ROI_W : Fld := ⟨SW_CX_ROI, 32, 16, .cs, .boundary⟩
def SW_CX_ROI_H : Fld := ⟨SW_CX_ROI, 48, 16, .cs, .boundary⟩
/-- `MS_SEAL_EN` (09_swatch_mordant.md). -/
def MS_SEAL_EN : Reg := ⟨0x1600000, [(0x1000000, 8)], 0x0⟩
def MS_SEAL_EN_EN : Fld := ⟨MS_SEAL_EN, 0, 64, .cs, .boundary⟩
/-- `MS_STAT` (09_swatch_mordant.md). -/
def MS_STAT : Reg := ⟨0x1600008, [(0x1000000, 8)], 0x0⟩
def MS_STAT_WAITING : Fld := ⟨MS_STAT, 0, 5, .ro, .none⟩
def MS_STAT_DROP : Fld := ⟨MS_STAT, 16, 32, .rc, .none⟩
/-- `MB_CTL` (09_swatch_mordant.md). -/
def MB_CTL : Reg := ⟨0xe100000, [], 0x800⟩
def MB_CTL_EN : Fld := ⟨MB_CTL, 0, 1, .cs, .instant⟩
def MB_CTL_MAX_ENTRIES : Fld := ⟨MB_CTL, 1, 14, .cs, .instant⟩
def MB_CTL_EMPTY_SKIP : Fld := ⟨MB_CTL, 15, 1, .cs, .instant⟩
def MB_CTL_FLUSH : Fld := ⟨MB_CTL, 16, 1, .w1s, .instant⟩
/-- `MB_INTERVAL` (09_swatch_mordant.md). -/
def MB_INTERVAL : Reg := ⟨0xe100008, [], 0x2710⟩
def MB_INTERVAL_US : Fld := ⟨MB_INTERVAL, 0, 32, .cs, .instant⟩
/-- `MB_RING` (09_swatch_mordant.md). -/
def MB_RING : Reg := ⟨0xe100010, [], 0x0⟩
def MB_RING_BASE : Fld := ⟨MB_RING, 0, 64, .cs, .instant⟩
/-- `MB_RINGN` (09_swatch_mordant.md). -/
def MB_RINGN : Reg := ⟨0xe100018, [], 0x0⟩
def MB_RINGN_SLOTS : Fld := ⟨MB_RINGN, 0, 7, .cs, .instant⟩
/-- `MB_REL` (09_swatch_mordant.md). -/
def MB_REL : Reg := ⟨0xe100020, [], 0x0⟩
def MB_REL_SLOT : Fld := ⟨MB_REL, 0, 6, .wo, .none⟩
/-- `MB_STAT` (09_swatch_mordant.md). -/
def MB_STAT : Reg := ⟨0xe100028, [], 0x0⟩
def MB_STAT_OPEN_COUNT : Fld := ⟨MB_STAT, 0, 14, .ro, .none⟩
def MB_STAT_FREE : Fld := ⟨MB_STAT, 16, 7, .ro, .none⟩
def MB_STAT_HELD : Fld := ⟨MB_STAT, 23, 1, .ro, .none⟩
def MB_STAT_SIGNING : Fld := ⟨MB_STAT, 24, 1, .ro, .none⟩
def MB_STAT_WAITING : Fld := ⟨MB_STAT, 25, 1, .ro, .none⟩
def MB_STAT_KEY_READY : Fld := ⟨MB_STAT, 26, 1, .ro, .none⟩
def MB_STAT_LAST : Fld := ⟨MB_STAT, 32, 6, .ro, .none⟩
/-- `MB_SEQ` (09_swatch_mordant.md). -/
def MB_SEQ : Reg := ⟨0xe100030, [], 0x0⟩
def MB_SEQ_SEQ : Fld := ⟨MB_SEQ, 0, 64, .ro, .none⟩
/-- `MB_ENTRY` (09_swatch_mordant.md). -/
def MB_ENTRY : Reg := ⟨0xe100038, [], 0x0⟩
def MB_ENTRY_NEXT : Fld := ⟨MB_ENTRY, 0, 64, .ro, .none⟩
/-- `MB_NONCE` (09_swatch_mordant.md). -/
def MB_NONCE : Reg := ⟨0xe100040, [(0x8, 4)], 0x0⟩
def MB_NONCE_NONCE : Fld := ⟨MB_NONCE, 0, 64, .ro, .none⟩
/-- `MB_EV` (09_swatch_mordant.md). -/
def MB_EV : Reg := ⟨0xe100060, [], 0x0⟩
def MB_EV_EV : Fld := ⟨MB_EV, 0, 8, .rw, .none⟩
def MB_EV_EN : Fld := ⟨MB_EV, 8, 1, .rw, .none⟩
/-- `MB_CNT` (09_swatch_mordant.md). -/
def MB_CNT : Reg := ⟨0xe100068, [], 0x0⟩
def MB_CNT_REFUSED : Fld := ⟨MB_CNT, 0, 32, .rc, .none⟩
/-- `MSG_STMT` (09_swatch_mordant.md). -/
def MSG_STMT : Reg := ⟨0xe200000, [], 0x0⟩
def MSG_STMT_ADDR : Fld := ⟨MSG_STMT, 0, 48, .ro, .none⟩
def MSG_STMT_VALID : Fld := ⟨MSG_STMT, 48, 1, .ro, .none⟩
/-- `PAL_STAT` (10_palette_emitter.md). -/
def PAL_STAT : Reg := ⟨0x1700000, [(0x1000000, 8)], 0x0⟩
def PAL_STAT_ACTIVE : Fld := ⟨PAL_STAT, 0, 4, .ro, .none⟩
/-- `PAL_SKEW` (10_palette_emitter.md). -/
def PAL_SKEW : Reg := ⟨0x1700008, [(0x1000000, 8), (0x8, 4)], 0x0⟩
def PAL_SKEW_WORDS : Fld := ⟨PAL_SKEW, 0, 7, .cs, .boundary⟩
/-- `PAL_CH_CTL` (10_palette_emitter.md). -/
def PAL_CH_CTL : Reg := ⟨0x1701000, [(0x1000000, 8), (0x200, 4)], 0x200⟩
def PAL_CH_CTL_EN : Fld := ⟨PAL_CH_CTL, 0, 1, .cs, .boundary⟩
def PAL_CH_CTL_SRC : Fld := ⟨PAL_CH_CTL, 1, 3, .cs, .boundary⟩
def PAL_CH_CTL_KIND : Fld := ⟨PAL_CH_CTL, 4, 3, .cs, .boundary⟩
def PAL_CH_CTL_TIMING : Fld := ⟨PAL_CH_CTL, 7, 2, .cs, .boundary⟩
def PAL_CH_CTL_PACE : Fld := ⟨PAL_CH_CTL, 9, 3, .cs, .boundary⟩
def PAL_CH_CTL_STREAM : Fld := ⟨PAL_CH_CTL, 12, 6, .cs, .boundary⟩
def PAL_CH_CTL_LINE_SCAN : Fld := ⟨PAL_CH_CTL, 18, 1, .cs, .boundary⟩
def PAL_CH_CTL_STAMP_EN : Fld := ⟨PAL_CH_CTL, 19, 3, .cs, .boundary⟩
def PAL_CH_CTL_REPEAT : Fld := ⟨PAL_CH_CTL, 22, 1, .cs, .boundary⟩
def PAL_CH_CTL_FRAME_EV_EN : Fld := ⟨PAL_CH_CTL, 23, 1, .cs, .boundary⟩
def PAL_CH_CTL_FRAME_EV : Fld := ⟨PAL_CH_CTL, 24, 8, .cs, .boundary⟩
def PAL_CH_CTL_TRIG_EV : Fld := ⟨PAL_CH_CTL, 32, 8, .cs, .boundary⟩
def PAL_CH_CTL_EXT_ID : Fld := ⟨PAL_CH_CTL, 40, 1, .cs, .boundary⟩
/-- `PAL_CH_FMT` (10_palette_emitter.md). -/
def PAL_CH_FMT : Reg := ⟨0x1701008, [(0x1000000, 8), (0x200, 4)], 0x0⟩
def PAL_CH_FMT_PIXFMT : Fld := ⟨PAL_CH_FMT, 0, 32, .cs, .boundary⟩
def PAL_CH_FMT_LINE_LEN : Fld := ⟨PAL_CH_FMT, 32, 19, .cs, .boundary⟩
/-- `PAL_CH_GEOM` (10_palette_emitter.md). -/
def PAL_CH_GEOM : Reg := ⟨0x1701010, [(0x1000000, 8), (0x200, 4)], 0x0⟩
def PAL_CH_GEOM_LINES : Fld := ⟨PAL_CH_GEOM, 0, 17, .cs, .boundary⟩
def PAL_CH_GEOM_LTOTAL : Fld := ⟨PAL_CH_GEOM, 32, 17, .cs, .boundary⟩
/-- `PAL_CH_LOFF` (10_palette_emitter.md). -/
def PAL_CH_LOFF : Reg := ⟨0x1701018, [(0x1000000, 8), (0x200, 4)], 0x0⟩
def PAL_CH_LOFF_LOFF : Fld := ⟨PAL_CH_LOFF, 0, 17, .cs, .boundary⟩
def PAL_CH_LOFF_STRIDE : Fld := ⟨PAL_CH_LOFF, 32, 13, .cs, .boundary⟩
/-- `PAL_CH_RATE` (10_palette_emitter.md). -/
def PAL_CH_RATE : Reg := ⟨0x1701020, [(0x1000000, 8), (0x200, 4)], 0x0⟩
def PAL_CH_RATE_NUM : Fld := ⟨PAL_CH_RATE, 0, 32, .cs, .boundary⟩
def PAL_CH_RATE_DEN : Fld := ⟨PAL_CH_RATE, 32, 32, .cs, .boundary⟩
/-- `PAL_CH_START` (10_palette_emitter.md). -/
def PAL_CH_START : Reg := ⟨0x1701028, [(0x1000000, 8), (0x200, 4)], 0x0⟩
def PAL_CH_START_START : Fld := ⟨PAL_CH_START, 0, 64, .cs, .boundary⟩
/-- `PAL_CH_SRC` (10_palette_emitter.md). -/
def PAL_CH_SRC : Reg := ⟨0x1701030, [(0x1000000, 8), (0x200, 4)], 0x0⟩
def PAL_CH_SRC_SRC_BASE : Fld := ⟨PAL_CH_SRC, 0, 64, .cs, .boundary⟩
/-- `PAL_CH_SRCG` (10_palette_emitter.md). -/
def PAL_CH_SRCG : Reg := ⟨0x1701038, [(0x1000000, 8), (0x200, 4)], 0x0⟩
def PAL_CH_SRCG_FSIZE : Fld := ⟨PAL_CH_SRCG, 0, 20, .cs, .boundary⟩
def PAL_CH_SRCG_SRC_FRAMES : Fld := ⟨PAL_CH_SRCG, 32, 10, .cs, .boundary⟩
/-- `PAL_CH_TRO` (10_palette_emitter.md). -/
def PAL_CH_TRO : Reg := ⟨0x1701040, [(0x1000000, 8), (0x200, 4)], 0x0⟩
def PAL_CH_TRO_TRO : Fld := ⟨PAL_CH_TRO, 0, 48, .cs, .boundary⟩
/-- `PAL_CH_PKT` (10_palette_emitter.md). -/
def PAL_CH_PKT : Reg := ⟨0x1701048, [(0x1000000, 8), (0x200, 4)], 0x10000000000⟩
def PAL_CH_PKT_NPKT : Fld := ⟨PAL_CH_PKT, 0, 24, .cs, .boundary⟩
def PAL_CH_PKT_PKT_LEN : Fld := ⟨PAL_CH_PKT, 24, 14, .cs, .boundary⟩
def PAL_CH_PKT_BURST : Fld := ⟨PAL_CH_PKT, 40, 4, .cs, .boundary⟩
/-- `PAL_CH_EV` (10_palette_emitter.md). -/
def PAL_CH_EV : Reg := ⟨0x1701050, [(0x1000000, 8), (0x200, 4)], 0x80000000000⟩
def PAL_CH_EV_EV_DELAY : Fld := ⟨PAL_CH_EV, 0, 32, .cs, .boundary⟩
def PAL_CH_EV_PREFETCH_NS : Fld := ⟨PAL_CH_EV, 32, 16, .cs, .boundary⟩
/-- `PAL_CH_STAMP` (10_palette_emitter.md). -/
def PAL_CH_STAMP : Reg := ⟨0x1701058, [(0x1000000, 8), (0x200, 4)], 0x0⟩
def PAL_CH_STAMP_STAMP_LINE : Fld := ⟨PAL_CH_STAMP, 0, 16, .cs, .boundary⟩
def PAL_CH_STAMP_STAMP_OFF : Fld := ⟨PAL_CH_STAMP, 16, 18, .cs, .boundary⟩
def PAL_CH_STAMP_CRC_LINE : Fld := ⟨PAL_CH_STAMP, 48, 16, .cs, .boundary⟩
/-- `PAL_CH_DMAC` (10_palette_emitter.md). -/
def PAL_CH_DMAC : Reg := ⟨0x1701060, [(0x1000000, 8), (0x200, 4)], 0x0⟩
def PAL_CH_DMAC_DMAC : Fld := ⟨PAL_CH_DMAC, 0, 48, .cs, .boundary⟩
/-- `PAL_CH_DST_LO` (10_palette_emitter.md). -/
def PAL_CH_DST_LO : Reg := ⟨0x1701068, [(0x1000000, 8), (0x200, 4)], 0x0⟩
def PAL_CH_DST_LO_DST : Fld := ⟨PAL_CH_DST_LO, 0, 64, .cs, .boundary⟩
/-- `PAL_CH_DST_HI` (10_palette_emitter.md). -/
def PAL_CH_DST_HI : Reg := ⟨0x1701070, [(0x1000000, 8), (0x200, 4)], 0x0⟩
def PAL_CH_DST_HI_DST : Fld := ⟨PAL_CH_DST_HI, 0, 64, .cs, .boundary⟩
/-- `PAL_CH_UDP` (10_palette_emitter.md). -/
def PAL_CH_UDP : Reg := ⟨0x1701078, [(0x1000000, 8), (0x200, 4)], 0x400000000000⟩
def PAL_CH_UDP_SRC_PORT : Fld := ⟨PAL_CH_UDP, 0, 16, .cs, .boundary⟩
def PAL_CH_UDP_DST_PORT : Fld := ⟨PAL_CH_UDP, 16, 16, .cs, .boundary⟩
def PAL_CH_UDP_DSCP : Fld := ⟨PAL_CH_UDP, 32, 6, .cs, .boundary⟩
def PAL_CH_UDP_TTL : Fld := ⟨PAL_CH_UDP, 40, 8, .cs, .boundary⟩
def PAL_CH_UDP_IPV6 : Fld := ⟨PAL_CH_UDP, 48, 1, .cs, .boundary⟩
/-- `PAL_CH_RTP` (10_palette_emitter.md). -/
def PAL_CH_RTP : Reg := ⟨0x1701080, [(0x1000000, 8), (0x200, 4)], 0x6000000000⟩
def PAL_CH_RTP_SSRC : Fld := ⟨PAL_CH_RTP, 0, 32, .cs, .boundary⟩
def PAL_CH_RTP_PT : Fld := ⟨PAL_CH_RTP, 32, 7, .cs, .boundary⟩
/-- `PAL_CH_GEN0` (10_palette_emitter.md). -/
def PAL_CH_GEN0 : Reg := ⟨0x1701088, [(0x1000000, 8), (0x200, 4)], 0x0⟩
def PAL_CH_GEN0_P0 : Fld := ⟨PAL_CH_GEN0, 0, 64, .cs, .boundary⟩
/-- `PAL_CH_GEN1` (10_palette_emitter.md). -/
def PAL_CH_GEN1 : Reg := ⟨0x1701090, [(0x1000000, 8), (0x200, 4)], 0x0⟩
def PAL_CH_GEN1_P1 : Fld := ⟨PAL_CH_GEN1, 0, 64, .cs, .boundary⟩
/-- `PAL_CH_GEN2` (10_palette_emitter.md). -/
def PAL_CH_GEN2 : Reg := ⟨0x1701098, [(0x1000000, 8), (0x200, 4)], 0x0⟩
def PAL_CH_GEN2_P2 : Fld := ⟨PAL_CH_GEN2, 0, 64, .cs, .boundary⟩
/-- `PAL_CH_GEN3` (10_palette_emitter.md). -/
def PAL_CH_GEN3 : Reg := ⟨0x17010a0, [(0x1000000, 8), (0x200, 4)], 0x0⟩
def PAL_CH_GEN3_P3 : Fld := ⟨PAL_CH_GEN3, 0, 64, .cs, .boundary⟩
/-- `PAL_CH_COL` (10_palette_emitter.md). -/
def PAL_CH_COL : Reg := ⟨0x17010a8, [(0x1000000, 8), (0x200, 4), (0x8, 8)], 0x0⟩
def PAL_CH_COL_COL : Fld := ⟨PAL_CH_COL, 0, 48, .cs, .boundary⟩
/-- `PAL_CH_INJ_CTL` (10_palette_emitter.md). -/
def PAL_CH_INJ_CTL : Reg := ⟨0x17010f0, [(0x1000000, 8), (0x200, 4)], 0x0⟩
def PAL_CH_INJ_CTL_KINDS : Fld := ⟨PAL_CH_INJ_CTL, 0, 6, .cs, .boundary⟩
def PAL_CH_INJ_CTL_RANDOM : Fld := ⟨PAL_CH_INJ_CTL, 8, 6, .cs, .boundary⟩
def PAL_CH_INJ_CTL_TARGET : Fld := ⟨PAL_CH_INJ_CTL, 16, 1, .cs, .boundary⟩
def PAL_CH_INJ_CTL_INJ_SEED : Fld := ⟨PAL_CH_INJ_CTL, 32, 31, .cs, .boundary⟩
/-- `PAL_CH_INJ` (10_palette_emitter.md). -/
def PAL_CH_INJ : Reg := ⟨0x1701100, [(0x1000000, 8), (0x200, 4), (0x8, 6)], 0x0⟩
def PAL_CH_INJ_INTERVAL : Fld := ⟨PAL_CH_INJ, 0, 40, .cs, .boundary⟩
def PAL_CH_INJ_LATE_NS : Fld := ⟨PAL_CH_INJ, 48, 16, .cs, .boundary⟩
/-- `PAL_CH_STAT` (10_palette_emitter.md). -/
def PAL_CH_STAT : Reg := ⟨0x1701140, [(0x1000000, 8), (0x200, 4)], 0x0⟩
def PAL_CH_STAT_EMITTING : Fld := ⟨PAL_CH_STAT, 0, 1, .ro, .none⟩
def PAL_CH_STAT_EPOCH : Fld := ⟨PAL_CH_STAT, 32, 32, .ro, .none⟩
/-- `PAL_CH_FRAME` (10_palette_emitter.md). -/
def PAL_CH_FRAME : Reg := ⟨0x1701148, [(0x1000000, 8), (0x200, 4)], 0x0⟩
def PAL_CH_FRAME_NEXT : Fld := ⟨PAL_CH_FRAME, 0, 64, .ro, .none⟩
/-- `PAL_CH_NEXT_TT` (10_palette_emitter.md). -/
def PAL_CH_NEXT_TT : Reg := ⟨0x1701150, [(0x1000000, 8), (0x200, 4)], 0x0⟩
def PAL_CH_NEXT_TT_S : Fld := ⟨PAL_CH_NEXT_TT, 0, 64, .ro, .none⟩
/-- `PAL_CH_CNT` (10_palette_emitter.md). -/
def PAL_CH_CNT : Reg := ⟨0x1701158, [(0x1000000, 8), (0x200, 4)], 0x0⟩
def PAL_CH_CNT_LATE : Fld := ⟨PAL_CH_CNT, 0, 32, .rc, .none⟩
def PAL_CH_CNT_SUPPRESSED : Fld := ⟨PAL_CH_CNT, 32, 32, .rc, .none⟩
/-- `PAL_CH_CNT2` (10_palette_emitter.md). -/
def PAL_CH_CNT2 : Reg := ⟨0x1701160, [(0x1000000, 8), (0x200, 4)], 0x0⟩
def PAL_CH_CNT2_TRIG_BUSY : Fld := ⟨PAL_CH_CNT2, 0, 16, .rc, .none⟩
def PAL_CH_CNT2_REFUSED : Fld := ⟨PAL_CH_CNT2, 16, 16, .rc, .none⟩
def PAL_CH_CNT2_MAX_DEFER : Fld := ⟨PAL_CH_CNT2, 32, 32, .rc, .none⟩
/-- `PAL_CH_INJCNT` (10_palette_emitter.md). -/
def PAL_CH_INJCNT : Reg := ⟨0x1701168, [(0x1000000, 8), (0x200, 4)], 0x0⟩
def PAL_CH_INJCNT_COUNT : Fld := ⟨PAL_CH_INJCNT, 0, 60, .rc, .none⟩

def tabPort1 : List RegRow := [
  ⟨LN_CTL, [LN_CTL_RATE, LN_CTL_RX_EN, LN_CTL_TX_ON, LN_CTL_RX_INV, LN_CTL_TX_INV, LN_CTL_PRE_TX, LN_CTL_PRE_RX, LN_CTL_LOOP]⟩,
  ⟨LN_STAT, [LN_STAT_TXPLL_LOCK, LN_STAT_CDR_LOCK, LN_STAT_LOS, LN_STAT_LOL, LN_STAT_TX_ACTIVE, LN_STAT_WAKE, LN_STAT_RX_HOLD]⟩,
  ⟨LN_EVT, [LN_EVT_LOS_SEEN, LN_EVT_LOL_SEEN, LN_EVT_WAKE_RX, LN_EVT_TRAIN_END, LN_EVT_ALIGN_FOUND, LN_EVT_ALIGN_LOST, LN_EVT_CFG_BAD, LN_EVT_TX_CUT]⟩,
  ⟨LN_TX, [LN_TX_SWING, LN_TX_TX_IDLE]⟩,
  ⟨LN_FFE, [LN_FFE_C_M2, LN_FFE_C_M1, LN_FFE_C_0, LN_FFE_C_P1, LN_FFE_C_P2]⟩,
  ⟨LN_TRAIN_CTL, [LN_TRAIN_CTL_START, LN_TRAIN_CTL_ABORT, LN_TRAIN_CTL_AUTO, LN_TRAIN_CTL_FAR_PRESET, LN_TRAIN_CTL_LOCAL_PRESET, LN_TRAIN_CTL_PRECODE_REQ, LN_TRAIN_CTL_TIMEOUT]⟩,
  ⟨LN_TRAIN_STAT, [LN_TRAIN_STAT_STATE, LN_TRAIN_STAT_RESULT, LN_TRAIN_STAT_FAR_READY, LN_TRAIN_STAT_LAST_REQ, LN_TRAIN_STAT_LAST_RESP, LN_TRAIN_STAT_REQS]⟩,
  ⟨LN_TRAIN_REQ, [LN_TRAIN_REQ_REQ, LN_TRAIN_REQ_DONE]⟩,
  ⟨LN_RX_EQ, [LN_RX_EQ_CTLE, LN_RX_EQ_CTLE_FRZ, LN_RX_EQ_DFE_FRZ, LN_RX_EQ_ADAPT_OK, LN_RX_EQ_DFE1]⟩,
  ⟨LN_ALIGN_CTL, [LN_ALIGN_CTL_SLIP, LN_ALIGN_CTL_SLIP_BUSY, LN_ALIGN_CTL_ENABLE, LN_ALIGN_CTL_PERIOD, LN_ALIGN_CTL_CONFIRM, LN_ALIGN_CTL_LOSE]⟩,
  ⟨LN_ALIGN_PAT, [LN_ALIGN_PAT_PAT]⟩,
  ⟨LN_ALIGN_MASK, [LN_ALIGN_MASK_MASK]⟩]
def tabPort2 : List RegRow := [
  ⟨LN_ALIGN_STAT, [LN_ALIGN_STAT_FOUND, LN_ALIGN_STAT_PHASE, LN_ALIGN_STAT_OFFSET, LN_ALIGN_STAT_MISSES]⟩,
  ⟨LN_LOS_CFG, [LN_LOS_CFG_THRESH, LN_LOS_CFG_HYST, LN_LOS_CFG_ASSERT_NS]⟩,
  ⟨LN_FEC_CW, [LN_FEC_CW_CORR, LN_FEC_CW_UNCORR]⟩,
  ⟨LN_FEC_SYM, [LN_FEC_SYM_SYM]⟩,
  ⟨LN_PRBS, [LN_PRBS_POLY, LN_PRBS_GEN, LN_PRBS_CHK, LN_PRBS_LOCK, LN_PRBS_ERR]⟩,
  ⟨LN_HIST_CTL, [LN_HIST_CTL_START, LN_HIST_CTL_BUSY, LN_HIST_CTL_WIN]⟩,
  ⟨LN_LEVELS, [LN_LEVELS_L0, LN_LEVELS_SPREAD]⟩,
  ⟨LN_LAT, [LN_LAT_RX_LAT, LN_LAT_TX_LAT]⟩,
  ⟨LN_HIST, [LN_HIST_BIN_LO, LN_HIST_BIN_HI]⟩,
  ⟨PP_CTL, [PP_CTL_MODE, PP_CTL_ENABLE, PP_CTL_ROLE, PP_CTL_EMIT]⟩,
  ⟨PP_STAT, [PP_STAT_STATE, PP_STAT_FAIL, PP_STAT_SKEW, PP_STAT_EMITTING]⟩,
  ⟨PP_EVT, [PP_EVT_UP_SEEN, PP_EVT_DOWN_SEEN, PP_EVT_CFG_BAD, PP_EVT_SLOW_DROP, PP_EVT_TXTS_OVF, PP_EVT_TRIG_LATE, PP_EVT_CC_RX]⟩]
def tabPort3 : List RegRow := [
  ⟨PP_MAC, [PP_MAC_MAC]⟩,
  ⟨PP_VLAN, [PP_VLAN_VID, PP_VLAN_PCP, PP_VLAN_TAG_EN]⟩,
  ⟨PP_IP4, [PP_IP4_ADDR]⟩,
  ⟨PP_IP6_LO, [PP_IP6_LO_ADDR]⟩,
  ⟨PP_IP6_HI, [PP_IP6_HI_ADDR]⟩,
  ⟨PP_PTP, [PP_PTP_RX_STAMP_EN, PP_PTP_TX_STAMP_EN, PP_PTP_ONE_STEP_EN, PP_PTP_ENCAPS]⟩,
  ⟨PP_TXTS, [PP_TXTS_SEQ_ID, PP_TXTS_MSGTYPE, PP_TXTS_VALID]⟩,
  ⟨PP_TXTS_TIME, [PP_TXTS_TIME_TT]⟩,
  ⟨PP_SLOW, [PP_SLOW_DROP]⟩,
  ⟨PP_CNT_RX, [PP_CNT_RX_PKTS]⟩,
  ⟨PP_CNT_ERR, [PP_CNT_ERR_RX_ERR, PP_CNT_ERR_NO_ENTRY]⟩,
  ⟨PP_CNT_TX, [PP_CNT_TX_PKTS]⟩]
def tabPort4 : List RegRow := [
  ⟨PP_RAW, [PP_RAW_WORDS]⟩,
  ⟨PP_VXL_INFO, [PP_VXL_INFO_TRIG_LAT, PP_VXL_INFO_ROLE, PP_VXL_INFO_LANES, PP_VXL_INFO_VERSION]⟩,
  ⟨PP_VXL_ERR, [PP_VXL_ERR_HDR_ERR, PP_VXL_ERR_CRC_ERR, PP_VXL_ERR_STRAY, PP_VXL_ERR_UNKNOWN]⟩,
  ⟨PP_VXL_ECHO, [PP_VXL_ECHO_GO, PP_VXL_ECHO_LANE, PP_VXL_ECHO_BUSY, PP_VXL_ECHO_DONE, PP_VXL_ECHO_TURNAROUND]⟩,
  ⟨PP_VXL_ECHO_RTT, [PP_VXL_ECHO_RTT_RTT]⟩,
  ⟨PP_VXL_DLY, [PP_VXL_DLY_DELAY]⟩,
  ⟨PP_CC_TX, [PP_CC_TX_BYTES]⟩,
  ⟨PP_CC_STAT, [PP_CC_STAT_TX_FREE, PP_CC_STAT_RX_COUNT]⟩,
  ⟨PP_CC_RX, [PP_CC_RX_BYTES]⟩,
  ⟨PP_SM_CTL, [PP_SM_CTL_VALID, PP_SM_CTL_KIND, PP_SM_CTL_SRC_MATCH, PP_SM_CTL_VLAN_MATCH, PP_SM_CTL_VID, PP_SM_CTL_IPV6, PP_SM_CTL_EXT_ID, PP_SM_CTL_UDP_DST]⟩,
  ⟨PP_SM_DST_LO, [PP_SM_DST_LO_DST]⟩,
  ⟨PP_SM_DST_HI, [PP_SM_DST_HI_DST]⟩]
def tabPort5 : List RegRow := [
  ⟨PP_SM_SRC_LO, [PP_SM_SRC_LO_SRC]⟩,
  ⟨PP_SM_SRC_HI, [PP_SM_SRC_HI_SRC]⟩,
  ⟨PP_SM_MERGE, [PP_SM_MERGE_EN, PP_SM_MERGE_SECONDARY, PP_SM_MERGE_PAIR, PP_SM_MERGE_PARTNER, PP_SM_MERGE_HOLD]⟩,
  ⟨PP_SM_CNT, [PP_SM_CNT_DUP, PP_SM_CNT_LATE]⟩,
  ⟨CAP_CMD, [CAP_CMD_STREAM, CAP_CMD_OP]⟩,
  ⟨CAP_REL, [CAP_REL_STREAM, CAP_REL_GEN, CAP_REL_SLOT]⟩,
  ⟨CAP_STAT, [CAP_STAT_CMD_BAD, CAP_STAT_REL_BAD]⟩,
  ⟨CAP_SEL, [CAP_SEL_STREAM]⟩,
  ⟨CAP_LF_DIAG, [CAP_LF_DIAG_FIFO, CAP_LF_DIAG_POP, CAP_LF_DIAG_DENIED]⟩,
  ⟨CAP_LF_HDR, [CAP_LF_HDR_HDR]⟩,
  ⟨CAP_LF_DATA, [CAP_LF_DATA_DATA]⟩,
  ⟨CAP_SC_CTL, [CAP_SC_CTL_EN, CAP_SC_CTL_FRAMING, CAP_SC_CTL_FMT_CHECK, CAP_SC_CTL_TRIG_EN, CAP_SC_CTL_TRIG_PROG, CAP_SC_CTL_CLOSE_COUNT, CAP_SC_CTL_CLOSE_TIME, CAP_SC_CTL_CLOSE_EV_EN, CAP_SC_CTL_CLOSE_EV, CAP_SC_CTL_FRAME_EV_EN, CAP_SC_CTL_FRAME_EV]⟩]
def tabPort6 : List RegRow := [
  ⟨CAP_SC_FMT, [CAP_SC_FMT_PIXFMT, CAP_SC_FMT_LINE_LEN]⟩,
  ⟨CAP_SC_GEOM, [CAP_SC_GEOM_LINES, CAP_SC_GEOM_STRIDE]⟩,
  ⟨CAP_SC_RING, [CAP_SC_RING_BASE]⟩,
  ⟨CAP_SC_SLOT, [CAP_SC_SLOT_SLOT_SIZE, CAP_SC_SLOT_SLOTS]⟩,
  ⟨CAP_SC_TIME, [CAP_SC_TIME_BLOCK_NS]⟩,
  ⟨CAP_SC_Q, [CAP_SC_Q_QUEUE, CAP_SC_Q_DIRECT]⟩,
  ⟨CAP_SC_STAT, [CAP_SC_STAT_FRAME_OPEN, CAP_SC_STAT_GEN, CAP_SC_STAT_RETIRING, CAP_SC_STAT_NEXT_SLOT, CAP_SC_STAT_FREE]⟩,
  ⟨CAP_SC_FRAME, [CAP_SC_FRAME_NEXT]⟩,
  ⟨CAP_SC_LOST, [CAP_SC_LOST_LOST_WORDS, CAP_SC_LOST_DAMAGED_LINES]⟩,
  ⟨CAP_SC_DROP, [CAP_SC_DROP_THROTTLED, CAP_SC_DROP_NO_BUFFER, CAP_SC_DROP_ORPHAN]⟩,
  ⟨CAP_LF, [CAP_LF_WORDS, CAP_LF_LINES, CAP_LF_FULL]⟩,
  ⟨SW_STAT, [SW_STAT_REF_LATE]⟩]
def tabPort7 : List RegRow := [
  ⟨SW_CX_CTL, [SW_CX_CTL_EN, SW_CX_CTL_STREAM, SW_CX_CTL_CMP_EN, SW_CX_CTL_HIST_EN, SW_CX_CTL_MAP_EN, SW_CX_CTL_MAP_SHIFT, SW_CX_CTL_MODEL, SW_CX_CTL_REF_VALID, SW_CX_CTL_ROI_EN]⟩,
  ⟨SW_CX_TOL, [SW_CX_TOL_TOL0]⟩,
  ⟨SW_CX_REF, [SW_CX_REF_REF_BASE]⟩,
  ⟨SW_CX_REFG, [SW_CX_REFG_REF_STRIDE, SW_CX_REFG_REF_LINES]⟩,
  ⟨SW_CX_RES, [SW_CX_RES_RES_BASE]⟩,
  ⟨SW_CX_RESG, [SW_CX_RESG_RES_SIZE, SW_CX_RESG_RES_COUNT]⟩,
  ⟨SW_CX_TLINE, [SW_CX_TLINE_TLINE]⟩,
  ⟨SW_CX_2110, [SW_CX_2110_NPKT, SW_CX_2110_CMAX, SW_CX_2110_VRX_FULL]⟩,
  ⟨SW_CX_TFRM, [SW_CX_TFRM_TFRAME]⟩,
  ⟨SW_CX_LIM, [SW_CX_LIM_LATE_LIMIT, SW_CX_LIM_MM_LIMIT]⟩,
  ⟨SW_CX_CNT, [SW_CX_CNT_COMPARED, SW_CX_CNT_MISMATCHED]⟩,
  ⟨SW_CX_ROI, [SW_CX_ROI_X0, SW_CX_ROI_Y0, SW_CX_ROI_W, SW_CX_ROI_H]⟩]
def tabPort8 : List RegRow := [
  ⟨MS_SEAL_EN, [MS_SEAL_EN_EN]⟩,
  ⟨MS_STAT, [MS_STAT_WAITING, MS_STAT_DROP]⟩,
  ⟨MB_CTL, [MB_CTL_EN, MB_CTL_MAX_ENTRIES, MB_CTL_EMPTY_SKIP, MB_CTL_FLUSH]⟩,
  ⟨MB_INTERVAL, [MB_INTERVAL_US]⟩,
  ⟨MB_RING, [MB_RING_BASE]⟩,
  ⟨MB_RINGN, [MB_RINGN_SLOTS]⟩,
  ⟨MB_REL, [MB_REL_SLOT]⟩,
  ⟨MB_STAT, [MB_STAT_OPEN_COUNT, MB_STAT_FREE, MB_STAT_HELD, MB_STAT_SIGNING, MB_STAT_WAITING, MB_STAT_KEY_READY, MB_STAT_LAST]⟩,
  ⟨MB_SEQ, [MB_SEQ_SEQ]⟩,
  ⟨MB_ENTRY, [MB_ENTRY_NEXT]⟩,
  ⟨MB_NONCE, [MB_NONCE_NONCE]⟩,
  ⟨MB_EV, [MB_EV_EV, MB_EV_EN]⟩]
def tabPort9 : List RegRow := [
  ⟨MB_CNT, [MB_CNT_REFUSED]⟩,
  ⟨MSG_STMT, [MSG_STMT_ADDR, MSG_STMT_VALID]⟩,
  ⟨PAL_STAT, [PAL_STAT_ACTIVE]⟩,
  ⟨PAL_SKEW, [PAL_SKEW_WORDS]⟩,
  ⟨PAL_CH_CTL, [PAL_CH_CTL_EN, PAL_CH_CTL_SRC, PAL_CH_CTL_KIND, PAL_CH_CTL_TIMING, PAL_CH_CTL_PACE, PAL_CH_CTL_STREAM, PAL_CH_CTL_LINE_SCAN, PAL_CH_CTL_STAMP_EN, PAL_CH_CTL_REPEAT, PAL_CH_CTL_FRAME_EV_EN, PAL_CH_CTL_FRAME_EV, PAL_CH_CTL_TRIG_EV, PAL_CH_CTL_EXT_ID]⟩,
  ⟨PAL_CH_FMT, [PAL_CH_FMT_PIXFMT, PAL_CH_FMT_LINE_LEN]⟩,
  ⟨PAL_CH_GEOM, [PAL_CH_GEOM_LINES, PAL_CH_GEOM_LTOTAL]⟩,
  ⟨PAL_CH_LOFF, [PAL_CH_LOFF_LOFF, PAL_CH_LOFF_STRIDE]⟩,
  ⟨PAL_CH_RATE, [PAL_CH_RATE_NUM, PAL_CH_RATE_DEN]⟩,
  ⟨PAL_CH_START, [PAL_CH_START_START]⟩,
  ⟨PAL_CH_SRC, [PAL_CH_SRC_SRC_BASE]⟩,
  ⟨PAL_CH_SRCG, [PAL_CH_SRCG_FSIZE, PAL_CH_SRCG_SRC_FRAMES]⟩]
def tabPort10 : List RegRow := [
  ⟨PAL_CH_TRO, [PAL_CH_TRO_TRO]⟩,
  ⟨PAL_CH_PKT, [PAL_CH_PKT_NPKT, PAL_CH_PKT_PKT_LEN, PAL_CH_PKT_BURST]⟩,
  ⟨PAL_CH_EV, [PAL_CH_EV_EV_DELAY, PAL_CH_EV_PREFETCH_NS]⟩,
  ⟨PAL_CH_STAMP, [PAL_CH_STAMP_STAMP_LINE, PAL_CH_STAMP_STAMP_OFF, PAL_CH_STAMP_CRC_LINE]⟩,
  ⟨PAL_CH_DMAC, [PAL_CH_DMAC_DMAC]⟩,
  ⟨PAL_CH_DST_LO, [PAL_CH_DST_LO_DST]⟩,
  ⟨PAL_CH_DST_HI, [PAL_CH_DST_HI_DST]⟩,
  ⟨PAL_CH_UDP, [PAL_CH_UDP_SRC_PORT, PAL_CH_UDP_DST_PORT, PAL_CH_UDP_DSCP, PAL_CH_UDP_TTL, PAL_CH_UDP_IPV6]⟩,
  ⟨PAL_CH_RTP, [PAL_CH_RTP_SSRC, PAL_CH_RTP_PT]⟩,
  ⟨PAL_CH_GEN0, [PAL_CH_GEN0_P0]⟩,
  ⟨PAL_CH_GEN1, [PAL_CH_GEN1_P1]⟩,
  ⟨PAL_CH_GEN2, [PAL_CH_GEN2_P2]⟩]
def tabPort11 : List RegRow := [
  ⟨PAL_CH_GEN3, [PAL_CH_GEN3_P3]⟩,
  ⟨PAL_CH_COL, [PAL_CH_COL_COL]⟩,
  ⟨PAL_CH_INJ_CTL, [PAL_CH_INJ_CTL_KINDS, PAL_CH_INJ_CTL_RANDOM, PAL_CH_INJ_CTL_TARGET, PAL_CH_INJ_CTL_INJ_SEED]⟩,
  ⟨PAL_CH_INJ, [PAL_CH_INJ_INTERVAL, PAL_CH_INJ_LATE_NS]⟩,
  ⟨PAL_CH_STAT, [PAL_CH_STAT_EMITTING, PAL_CH_STAT_EPOCH]⟩,
  ⟨PAL_CH_FRAME, [PAL_CH_FRAME_NEXT]⟩,
  ⟨PAL_CH_NEXT_TT, [PAL_CH_NEXT_TT_S]⟩,
  ⟨PAL_CH_CNT, [PAL_CH_CNT_LATE, PAL_CH_CNT_SUPPRESSED]⟩,
  ⟨PAL_CH_CNT2, [PAL_CH_CNT2_TRIG_BUSY, PAL_CH_CNT2_REFUSED, PAL_CH_CNT2_MAX_DEFER]⟩,
  ⟨PAL_CH_INJCNT, [PAL_CH_INJCNT_COUNT]⟩]
/-- Every register of this file. -/
def tabPort : List RegRow :=
  tabPort1 ++ tabPort2 ++ tabPort3 ++ tabPort4 ++ tabPort5 ++ tabPort6 ++ tabPort7 ++ tabPort8 ++ tabPort9 ++ tabPort10 ++ tabPort11

end Sys2Proof.Machine.R
end

