-- ==== Sys2Proof/Machine/RegsTiming.lean ====
section
/-! DEFINITION. Registers of the timing and motion booths: one Reg per register table of the spec, one Fld per field,
with address, access code, apply point and reset value as the table states them. -/

namespace Sys2Proof.Machine.R

/-- `TB_TT` (12_time_base.md). -/
def TB_TT : Reg := ⟨0xc100000, [], 0x0⟩
def TB_TT_TT : Fld := ⟨TB_TT, 0, 64, .ro, .none⟩
/-- `TB_ERA` (12_time_base.md). -/
def TB_ERA : Reg := ⟨0xc100008, [], 0x0⟩
def TB_ERA_ERA : Fld := ⟨TB_ERA, 0, 32, .ro, .none⟩
/-- `TB_INCR` (12_time_base.md). -/
def TB_INCR : Reg := ⟨0xc100010, [], 0x100000000⟩
def TB_INCR_INCR : Fld := ⟨TB_INCR, 0, 40, .rw, .none⟩
/-- `TB_STEP_AMT` (12_time_base.md). -/
def TB_STEP_AMT : Reg := ⟨0xc100018, [], 0x0⟩
def TB_STEP_AMT_AMT : Fld := ⟨TB_STEP_AMT, 0, 64, .rw, .none⟩
/-- `TB_STEP_SEC` (12_time_base.md). -/
def TB_STEP_SEC : Reg := ⟨0xc100020, [], 0x0⟩
def TB_STEP_SEC_SEC : Fld := ⟨TB_STEP_SEC, 0, 48, .rw, .none⟩
/-- `TB_STEP_NS` (12_time_base.md). -/
def TB_STEP_NS : Reg := ⟨0xc100028, [], 0x0⟩
def TB_STEP_NS_NS : Fld := ⟨TB_STEP_NS, 0, 32, .rw, .none⟩
def TB_STEP_NS_FRAC : Fld := ⟨TB_STEP_NS, 32, 16, .rw, .none⟩
/-- `TB_STEP_AT` (12_time_base.md). -/
def TB_STEP_AT : Reg := ⟨0xc100030, [], 0x0⟩
def TB_STEP_AT_AT_TT : Fld := ⟨TB_STEP_AT, 0, 64, .rw, .none⟩
/-- `TB_STEP_CTL` (12_time_base.md). -/
def TB_STEP_CTL : Reg := ⟨0xc100038, [], 0x0⟩
def TB_STEP_CTL_GO : Fld := ⟨TB_STEP_CTL, 0, 1, .w1s, .none⟩
def TB_STEP_CTL_BOTH : Fld := ⟨TB_STEP_CTL, 1, 1, .rw, .none⟩
def TB_STEP_CTL_LOAD : Fld := ⟨TB_STEP_CTL, 2, 1, .rw, .none⟩
def TB_STEP_CTL_AT : Fld := ⟨TB_STEP_CTL, 3, 1, .rw, .none⟩
def TB_STEP_CTL_BUSY : Fld := ⟨TB_STEP_CTL, 4, 1, .ro, .none⟩
/-- `TB_STEP_TT` (12_time_base.md). -/
def TB_STEP_TT : Reg := ⟨0xc100040, [], 0x0⟩
def TB_STEP_TT_TT : Fld := ⟨TB_STEP_TT, 0, 64, .ro, .none⟩
/-- `TB_SLEW_AMT` (12_time_base.md). -/
def TB_SLEW_AMT : Reg := ⟨0xc100048, [], 0x0⟩
def TB_SLEW_AMT_AMT : Fld := ⟨TB_SLEW_AMT, 0, 64, .rw, .none⟩
/-- `TB_SLEW_CTL` (12_time_base.md). -/
def TB_SLEW_CTL : Reg := ⟨0xc100050, [], 0x0⟩
def TB_SLEW_CTL_RATE : Fld := ⟨TB_SLEW_CTL, 0, 32, .rw, .none⟩
def TB_SLEW_CTL_GO : Fld := ⟨TB_SLEW_CTL, 32, 1, .w1s, .none⟩
def TB_SLEW_CTL_BOTH : Fld := ⟨TB_SLEW_CTL, 33, 1, .rw, .none⟩
def TB_SLEW_CTL_ABORT : Fld := ⟨TB_SLEW_CTL, 34, 1, .w1s, .none⟩
/-- `TB_SLEW_REM` (12_time_base.md). -/
def TB_SLEW_REM : Reg := ⟨0xc100058, [], 0x0⟩
def TB_SLEW_REM_REM : Fld := ⟨TB_SLEW_REM, 0, 64, .ro, .none⟩
/-- `TB_SNAP_CTL` (12_time_base.md). -/
def TB_SNAP_CTL : Reg := ⟨0xc100060, [], 0x0⟩
def TB_SNAP_CTL_GO : Fld := ⟨TB_SNAP_CTL, 0, 1, .w1s, .none⟩
def TB_SNAP_CTL_DONE : Fld := ⟨TB_SNAP_CTL, 1, 1, .w1c, .none⟩
def TB_SNAP_CTL_EV : Fld := ⟨TB_SNAP_CTL, 8, 8, .rw, .none⟩
def TB_SNAP_CTL_EV_EN : Fld := ⟨TB_SNAP_CTL, 16, 1, .rw, .none⟩
/-- `TB_SNAP_TT` (12_time_base.md). -/
def TB_SNAP_TT : Reg := ⟨0xc100068, [], 0x0⟩
def TB_SNAP_TT_TT : Fld := ⟨TB_SNAP_TT, 0, 64, .ro, .none⟩
/-- `TB_SNAP_ERA` (12_time_base.md). -/
def TB_SNAP_ERA : Reg := ⟨0xc100070, [], 0x0⟩
def TB_SNAP_ERA_ERA : Fld := ⟨TB_SNAP_ERA, 0, 32, .ro, .none⟩
/-- `TB_SNAP_SEC` (12_time_base.md). -/
def TB_SNAP_SEC : Reg := ⟨0xc100078, [], 0x0⟩
def TB_SNAP_SEC_SEC : Fld := ⟨TB_SNAP_SEC, 0, 48, .ro, .none⟩
/-- `TB_SNAP_NS` (12_time_base.md). -/
def TB_SNAP_NS : Reg := ⟨0xc100080, [], 0x0⟩
def TB_SNAP_NS_NS : Fld := ⟨TB_SNAP_NS, 0, 32, .ro, .none⟩
def TB_SNAP_NS_FRAC : Fld := ⟨TB_SNAP_NS, 32, 16, .ro, .none⟩
/-- `TB_STAT` (12_time_base.md). -/
def TB_STAT : Reg := ⟨0xc100088, [], 0x40⟩
def TB_STAT_PLL_LOCK : Fld := ⟨TB_STAT, 0, 1, .ro, .none⟩
def TB_STAT_REF_LOST : Fld := ⟨TB_STAT, 1, 1, .ro, .none⟩
def TB_STAT_REF_LOST_SEEN : Fld := ⟨TB_STAT, 2, 1, .w1c, .none⟩
def TB_STAT_SLEWING : Fld := ⟨TB_STAT, 3, 1, .ro, .none⟩
def TB_STAT_STEP_PEND : Fld := ⟨TB_STAT, 4, 1, .ro, .none⟩
def TB_STAT_CLAMPED : Fld := ⟨TB_STAT, 5, 1, .w1c, .none⟩
def TB_STAT_ALIGNED : Fld := ⟨TB_STAT, 6, 1, .ro, .none⟩
def TB_STAT_REF_SEL : Fld := ⟨TB_STAT, 7, 1, .ro, .none⟩
def TB_STAT_CFG_BAD : Fld := ⟨TB_STAT, 8, 1, .w1c, .none⟩
/-- `TP_CTL` (12_time_base.md). -/
def TP_CTL : Reg := ⟨0xc200000, [], 0x0⟩
def TP_CTL_PPS_OUT_EN : Fld := ⟨TP_CTL, 0, 1, .rw, .none⟩
def TP_CTL_M10_OUT_EN : Fld := ⟨TP_CTL, 1, 1, .rw, .none⟩
def TP_CTL_PPS_IN_EN : Fld := ⟨TP_CTL, 2, 1, .rw, .none⟩
def TP_CTL_M10_IN_EN : Fld := ⟨TP_CTL, 3, 1, .rw, .none⟩
def TP_CTL_PPS_IN_FALL : Fld := ⟨TP_CTL, 4, 1, .rw, .none⟩
/-- `TP_WIDTH` (12_time_base.md). -/
def TP_WIDTH : Reg := ⟨0xc200008, [], 0x64⟩
def TP_WIDTH_PPS_WIDTH : Fld := ⟨TP_WIDTH, 0, 30, .rw, .none⟩
def TP_WIDTH_PPS_OFFSET : Fld := ⟨TP_WIDTH, 32, 32, .rw, .none⟩
/-- `TP_PPS_IN` (12_time_base.md). -/
def TP_PPS_IN : Reg := ⟨0xc200010, [], 0x0⟩
def TP_PPS_IN_TT : Fld := ⟨TP_PPS_IN, 0, 64, .ro, .none⟩
/-- `TP_PPS_CNT` (12_time_base.md). -/
def TP_PPS_CNT : Reg := ⟨0xc200018, [], 0x0⟩
def TP_PPS_CNT_EDGES : Fld := ⟨TP_PPS_CNT, 0, 32, .ro, .none⟩
def TP_PPS_CNT_NEW : Fld := ⟨TP_PPS_CNT, 32, 1, .rc, .none⟩
def TP_PPS_CNT_OVERRUN : Fld := ⟨TP_PPS_CNT, 48, 16, .rc, .none⟩
/-- `TP_10M_PHASE` (12_time_base.md). -/
def TP_10M_PHASE : Reg := ⟨0xc200020, [], 0x0⟩
def TP_10M_PHASE_TT : Fld := ⟨TP_10M_PHASE, 0, 64, .ro, .none⟩
/-- `TP_EV` (12_time_base.md). -/
def TP_EV : Reg := ⟨0xc200028, [], 0x0⟩
def TP_EV_PPS_IN_EV : Fld := ⟨TP_EV, 0, 8, .rw, .none⟩
def TP_EV_PPS_IN_EV_EN : Fld := ⟨TP_EV, 8, 1, .rw, .none⟩
def TP_EV_PPS_OUT_EV : Fld := ⟨TP_EV, 16, 8, .rw, .none⟩
def TP_EV_PPS_OUT_EV_EN : Fld := ⟨TP_EV, 24, 1, .rw, .none⟩
/-- `MW_CH_CFG` (13_midway_barker.md). -/
def MW_CH_CFG : Reg := ⟨0xc300000, [(0x8, 256)], 0x0⟩
def MW_CH_CFG_ASYNC : Fld := ⟨MW_CH_CFG, 0, 1, .cs, .instant⟩
def MW_CH_CFG_OWNER : Fld := ⟨MW_CH_CFG, 1, 5, .cs, .instant⟩
def MW_CH_CFG_SECURE : Fld := ⟨MW_CH_CFG, 6, 1, .cs, .instant⟩
def MW_CH_CFG_SWMODE : Fld := ⟨MW_CH_CFG, 7, 2, .cs, .instant⟩
/-- `MW_FIRE` (13_midway_barker.md). -/
def MW_FIRE : Reg := ⟨0xc300800, [], 0x0⟩
def MW_FIRE_CH : Fld := ⟨MW_FIRE, 0, 8, .wo, .none⟩
/-- `MW_GATE` (13_midway_barker.md). -/
def MW_GATE : Reg := ⟨0xc300808, [], 0x0⟩
def MW_GATE_GATE : Fld := ⟨MW_GATE, 0, 8, .rw, .instant⟩
/-- `MW_WATCH` (13_midway_barker.md). -/
def MW_WATCH : Reg := ⟨0xc300810, [(0x8, 4)], 0x0⟩
def MW_WATCH_FLAG : Fld := ⟨MW_WATCH, 0, 64, .w1c, .none⟩
/-- `MW_STAT` (13_midway_barker.md). -/
def MW_STAT : Reg := ⟨0xc300830, [], 0x0⟩
def MW_STAT_REFUSED : Fld := ⟨MW_STAT, 0, 32, .rc, .none⟩
/-- `MW_VXLRX` (13_midway_barker.md). -/
def MW_VXLRX : Reg := ⟨0xc300840, [(0x8, 8)], 0x0⟩
def MW_VXLRX_CH : Fld := ⟨MW_VXLRX, 0, 8, .rw, .none⟩
def MW_VXLRX_EN : Fld := ⟨MW_VXLRX, 8, 1, .rw, .none⟩
/-- `MW_CH_CNT` (13_midway_barker.md). -/
def MW_CH_CNT : Reg := ⟨0xc301000, [(0x8, 256)], 0x0⟩
def MW_CH_CNT_FIRES : Fld := ⟨MW_CH_CNT, 0, 32, .rc, .none⟩
def MW_CH_CNT_COLL : Fld := ⟨MW_CH_CNT, 32, 16, .rc, .none⟩
/-- `MW_CON` (13_midway_barker.md). -/
def MW_CON : Reg := ⟨0xc302000, [(0x8, 2048)], 0x0⟩
def MW_CON_GATE : Fld := ⟨MW_CON, 0, 6, .cs, .instant⟩
def MW_CON_GATE_INV : Fld := ⟨MW_CON, 6, 1, .cs, .instant⟩
def MW_CON_DEAD : Fld := ⟨MW_CON, 8, 8, .cs, .instant⟩
def MW_CON_GATED : Fld := ⟨MW_CON, 16, 16, .rc, .none⟩
def MW_CON_COLL : Fld := ⟨MW_CON, 32, 16, .rc, .none⟩
/-- `BK_CTL` (13_midway_barker.md). -/
def BK_CTL : Reg := ⟨0xc400000, [(0x100, 32)], 0x0⟩
def BK_CTL_EN : Fld := ⟨BK_CTL, 0, 1, .cs, .instant⟩
def BK_CTL_SRC : Fld := ⟨BK_CTL, 1, 2, .cs, .instant⟩
def BK_CTL_DIR : Fld := ⟨BK_CTL, 3, 1, .cs, .instant⟩
def BK_CTL_INTERP : Fld := ⟨BK_CTL, 4, 1, .cs, .instant⟩
def BK_CTL_POS_CH : Fld := ⟨BK_CTL, 5, 2, .cs, .instant⟩
def BK_CTL_EV : Fld := ⟨BK_CTL, 8, 8, .cs, .instant⟩
/-- `BK_START` (13_midway_barker.md). -/
def BK_START : Reg := ⟨0xc400008, [(0x100, 32)], 0x0⟩
def BK_START_START : Fld := ⟨BK_START, 0, 64, .cs, .instant⟩
/-- `BK_PERIOD` (13_midway_barker.md). -/
def BK_PERIOD : Reg := ⟨0xc400010, [(0x100, 32)], 0x0⟩
def BK_PERIOD_PERIOD : Fld := ⟨BK_PERIOD, 0, 64, .cs, .instant⟩
/-- `BK_COUNT` (13_midway_barker.md). -/
def BK_COUNT : Reg := ⟨0xc400018, [(0x100, 32)], 0x0⟩
def BK_COUNT_COUNT : Fld := ⟨BK_COUNT, 0, 32, .cs, .instant⟩
def BK_COUNT_DELAY : Fld := ⟨BK_COUNT, 32, 32, .cs, .instant⟩
/-- `BK_POS` (13_midway_barker.md). -/
def BK_POS : Reg := ⟨0xc400020, [(0x100, 32)], 0x0⟩
def BK_POS_TARGET_CNT : Fld := ⟨BK_POS, 0, 32, .cs, .instant⟩
def BK_POS_TARGET_REV : Fld := ⟨BK_POS, 32, 32, .cs, .instant⟩
/-- `BK_POSF` (13_midway_barker.md). -/
def BK_POSF : Reg := ⟨0xc400028, [(0x100, 32)], 0x0⟩
def BK_POSF_FRAC : Fld := ⟨BK_POSF, 0, 16, .cs, .instant⟩
def BK_POSF_SPACING : Fld := ⟨BK_POSF, 16, 48, .cs, .instant⟩
/-- `BK_WIDTH` (13_midway_barker.md). -/
def BK_WIDTH : Reg := ⟨0xc400030, [(0x100, 32)], 0x0⟩
def BK_WIDTH_WIDTH : Fld := ⟨BK_WIDTH, 0, 32, .cs, .instant⟩
/-- `BK_TGT` (13_midway_barker.md). -/
def BK_TGT : Reg := ⟨0xc400040, [(0x100, 32), (0x8, 4)], 0x0⟩
def BK_TGT_KIND : Fld := ⟨BK_TGT, 0, 3, .cs, .instant⟩
def BK_TGT_LEVEL : Fld := ⟨BK_TGT, 3, 1, .cs, .instant⟩
def BK_TGT_INDEX : Fld := ⟨BK_TGT, 8, 8, .cs, .instant⟩
def BK_TGT_LEAD : Fld := ⟨BK_TGT, 16, 32, .cs, .instant⟩
/-- `BK_STAT` (13_midway_barker.md). -/
def BK_STAT : Reg := ⟨0xc400060, [(0x100, 32)], 0x0⟩
def BK_STAT_STATE : Fld := ⟨BK_STAT, 0, 2, .ro, .none⟩
def BK_STAT_COMPARE_BEHIND : Fld := ⟨BK_STAT, 2, 1, .w1c, .none⟩
def BK_STAT_PREDICTING : Fld := ⟨BK_STAT, 3, 1, .ro, .none⟩
def BK_STAT_OVER : Fld := ⟨BK_STAT, 8, 8, .rc, .none⟩
def BK_STAT_UNCROSSED : Fld := ⟨BK_STAT, 16, 16, .rc, .none⟩
def BK_STAT_LATE : Fld := ⟨BK_STAT, 32, 16, .rc, .none⟩
/-- `BK_FIRES` (13_midway_barker.md). -/
def BK_FIRES : Reg := ⟨0xc400068, [(0x100, 32)], 0x0⟩
def BK_FIRES_FIRES : Fld := ⟨BK_FIRES, 0, 64, .ro, .none⟩
/-- `BK_NEXT` (13_midway_barker.md). -/
def BK_NEXT : Reg := ⟨0xc400070, [(0x100, 32)], 0x0⟩
def BK_NEXT_T : Fld := ⟨BK_NEXT, 0, 64, .ro, .none⟩
/-- `BK_ACT_ADV` (13_midway_barker.md). -/
def BK_ACT_ADV : Reg := ⟨0xc404000, [], 0x0⟩
def BK_ACT_ADV_NS : Fld := ⟨BK_ACT_ADV, 0, 32, .rw, .none⟩
/-- `BK_ACT_POP` (13_midway_barker.md). -/
def BK_ACT_POP : Reg := ⟨0xc404008, [], 0x0⟩
def BK_ACT_POP_POP : Fld := ⟨BK_ACT_POP, 0, 1, .w1s, .none⟩
def BK_ACT_POP_COUNT : Fld := ⟨BK_ACT_POP, 1, 6, .ro, .none⟩
def BK_ACT_POP_OVF : Fld := ⟨BK_ACT_POP, 7, 1, .w1c, .none⟩
/-- `BK_ACT_HEAD` (13_midway_barker.md). -/
def BK_ACT_HEAD : Reg := ⟨0xc404010, [], 0x0⟩
def BK_ACT_HEAD_TT : Fld := ⟨BK_ACT_HEAD, 0, 64, .ro, .none⟩
/-- `BK_ACT_INFO` (13_midway_barker.md). -/
def BK_ACT_INFO : Reg := ⟨0xc404018, [], 0x0⟩
def BK_ACT_INFO_PROG : Fld := ⟨BK_ACT_INFO, 0, 5, .ro, .none⟩
def BK_ACT_INFO_TARGET : Fld := ⟨BK_ACT_INFO, 8, 2, .ro, .none⟩
def BK_ACT_INFO_FIRES : Fld := ⟨BK_ACT_INFO, 32, 32, .ro, .none⟩
/-- `TRG_CTL` (13_midway_barker.md). -/
def TRG_CTL : Reg := ⟨0xc500000, [(0x40, 16)], 0x0⟩
def TRG_CTL_DIR : Fld := ⟨TRG_CTL, 0, 1, .cs, .instant⟩
def TRG_CTL_POL : Fld := ⟨TRG_CTL, 1, 1, .cs, .instant⟩
def TRG_CTL_IN_EDGE : Fld := ⟨TRG_CTL, 2, 2, .cs, .instant⟩
def TRG_CTL_IN_EV_EN : Fld := ⟨TRG_CTL, 4, 1, .cs, .instant⟩
def TRG_CTL_IN_EV : Fld := ⟨TRG_CTL, 8, 8, .cs, .instant⟩
def TRG_CTL_FILT : Fld := ⟨TRG_CTL, 16, 8, .cs, .instant⟩
/-- `TRG_ADJ` (13_midway_barker.md). -/
def TRG_ADJ : Reg := ⟨0xc500008, [(0x40, 16)], 0x0⟩
def TRG_ADJ_OUT_ADJ : Fld := ⟨TRG_ADJ, 0, 16, .cs, .instant⟩
def TRG_ADJ_IN_ADJ : Fld := ⟨TRG_ADJ, 16, 16, .cs, .instant⟩
/-- `TRG_IN` (13_midway_barker.md). -/
def TRG_IN : Reg := ⟨0xc500010, [(0x40, 16)], 0x0⟩
def TRG_IN_COUNT : Fld := ⟨TRG_IN, 0, 5, .ro, .none⟩
def TRG_IN_POP : Fld := ⟨TRG_IN, 8, 1, .w1s, .none⟩
def TRG_IN_HEAD_RISE : Fld := ⟨TRG_IN, 9, 1, .ro, .none⟩
def TRG_IN_OVERRUN : Fld := ⟨TRG_IN, 16, 16, .rc, .none⟩
/-- `TRG_INTT` (13_midway_barker.md). -/
def TRG_INTT : Reg := ⟨0xc500018, [(0x40, 16)], 0x0⟩
def TRG_INTT_TT : Fld := ⟨TRG_INTT, 0, 64, .ro, .none⟩
/-- `TRG_STAT` (13_midway_barker.md). -/
def TRG_STAT : Reg := ⟨0xc500020, [(0x40, 16)], 0x0⟩
def TRG_STAT_LEVEL : Fld := ⟨TRG_STAT, 0, 1, .ro, .none⟩
def TRG_STAT_DRIVING : Fld := ⟨TRG_STAT, 1, 1, .ro, .none⟩
def TRG_STAT_DROP : Fld := ⟨TRG_STAT, 16, 16, .rc, .none⟩
/-- `FB_CTL` (14_position_feedback.md). -/
def FB_CTL : Reg := ⟨0xd100000, [(0x40000, 4)], 0x0⟩
def FB_CTL_MODE : Fld := ⟨FB_CTL, 0, 2, .cs, .instant⟩
def FB_CTL_DECODE : Fld := ⟨FB_CTL, 2, 2, .cs, .instant⟩
def FB_CTL_INVERT : Fld := ⟨FB_CTL, 4, 1, .cs, .instant⟩
def FB_CTL_WRAP : Fld := ⟨FB_CTL, 5, 1, .cs, .instant⟩
def FB_CTL_FILT : Fld := ⟨FB_CTL, 16, 16, .cs, .instant⟩
def FB_CTL_SW_FILT : Fld := ⟨FB_CTL, 32, 16, .cs, .instant⟩
/-- `FB_CPR` (14_position_feedback.md). -/
def FB_CPR : Reg := ⟨0xd100008, [(0x40000, 4)], 0x0⟩
def FB_CPR_CPR : Fld := ⟨FB_CPR, 0, 33, .cs, .instant⟩
/-- `FB_POS` (14_position_feedback.md). -/
def FB_POS : Reg := ⟨0xd100010, [(0x40000, 4)], 0x0⟩
def FB_POS_COUNT : Fld := ⟨FB_POS, 0, 32, .ro, .none⟩
def FB_POS_REV : Fld := ⟨FB_POS, 32, 32, .ro, .none⟩
/-- `FB_PRESET` (14_position_feedback.md). -/
def FB_PRESET : Reg := ⟨0xd100018, [(0x40000, 4)], 0x0⟩
def FB_PRESET_COUNT : Fld := ⟨FB_PRESET, 0, 32, .cs, .instant⟩
def FB_PRESET_REV : Fld := ⟨FB_PRESET, 32, 32, .cs, .instant⟩
/-- `FB_CMD` (14_position_feedback.md). -/
def FB_CMD : Reg := ⟨0xd100020, [(0x40000, 4)], 0x0⟩
def FB_CMD_SET_POS : Fld := ⟨FB_CMD, 0, 1, .w1s, .instant⟩
/-- `FB_STAT` (14_position_feedback.md). -/
def FB_STAT : Reg := ⟨0xd100028, [(0x40000, 4)], 0x0⟩
def FB_STAT_DIR : Fld := ⟨FB_STAT, 0, 1, .ro, .none⟩
def FB_STAT_DIR_KNOWN : Fld := ⟨FB_STAT, 1, 1, .ro, .none⟩
def FB_STAT_SPEED_VALID : Fld := ⟨FB_STAT, 2, 1, .ro, .none⟩
def FB_STAT_ARMED : Fld := ⟨FB_STAT, 3, 1, .ro, .none⟩
def FB_STAT_LATCHED : Fld := ⟨FB_STAT, 4, 1, .ro, .none⟩
def FB_STAT_HALL : Fld := ⟨FB_STAT, 5, 3, .ro, .none⟩
def FB_STAT_SUSPECT : Fld := ⟨FB_STAT, 8, 1, .ro, .none⟩
/-- `FB_EVT` (14_position_feedback.md). -/
def FB_EVT : Reg := ⟨0xd100030, [(0x40000, 4)], 0x0⟩
def FB_EVT_REVERSED : Fld := ⟨FB_EVT, 0, 1, .w1c, .none⟩
def FB_EVT_HALL_INVALID : Fld := ⟨FB_EVT, 1, 1, .w1c, .none⟩
def FB_EVT_HALL_JUMP : Fld := ⟨FB_EVT, 2, 1, .w1c, .none⟩
def FB_EVT_COMPARE_BEHIND : Fld := ⟨FB_EVT, 3, 1, .w1c, .none⟩
def FB_EVT_SPEED_LOST : Fld := ⟨FB_EVT, 4, 1, .w1c, .none⟩
/-- `FB_SPEED` (14_position_feedback.md). -/
def FB_SPEED : Reg := ⟨0xd100038, [(0x40000, 4)], 0x0⟩
def FB_SPEED_SPEED : Fld := ⟨FB_SPEED, 0, 48, .ro, .none⟩
/-- `FB_PERIOD` (14_position_feedback.md). -/
def FB_PERIOD : Reg := ⟨0xd100040, [(0x40000, 4)], 0x0⟩
def FB_PERIOD_PERIOD : Fld := ⟨FB_PERIOD, 0, 48, .ro, .none⟩
/-- `FB_EDGE_TT` (14_position_feedback.md). -/
def FB_EDGE_TT : Reg := ⟨0xd100048, [(0x40000, 4)], 0x0⟩
def FB_EDGE_TT_TT : Fld := ⟨FB_EDGE_TT, 0, 64, .ro, .none⟩
/-- `FB_SPD_CFG` (14_position_feedback.md). -/
def FB_SPD_CFG : Reg := ⟨0xd100050, [(0x40000, 4)], 0x3e8⟩
def FB_SPD_CFG_TIMEOUT_US : Fld := ⟨FB_SPD_CFG, 0, 20, .cs, .instant⟩
def FB_SPD_CFG_AVG_SHIFT : Fld := ⟨FB_SPD_CFG, 20, 4, .cs, .instant⟩
/-- `FB_LATCH` (14_position_feedback.md). -/
def FB_LATCH : Reg := ⟨0xd100058, [(0x40000, 4)], 0x0⟩
def FB_LATCH_LATCH_SRC : Fld := ⟨FB_LATCH, 0, 2, .cs, .instant⟩
def FB_LATCH_LATCH_EDGE : Fld := ⟨FB_LATCH, 2, 2, .cs, .instant⟩
def FB_LATCH_ARM : Fld := ⟨FB_LATCH, 4, 1, .w1s, .instant⟩
def FB_LATCH_CHATTER_CNT : Fld := ⟨FB_LATCH, 16, 16, .ro, .none⟩
/-- `FB_LATCH_POS` (14_position_feedback.md). -/
def FB_LATCH_POS : Reg := ⟨0xd100060, [(0x40000, 4)], 0x0⟩
def FB_LATCH_POS_COUNT : Fld := ⟨FB_LATCH_POS, 0, 32, .ro, .none⟩
def FB_LATCH_POS_REV : Fld := ⟨FB_LATCH_POS, 32, 32, .ro, .none⟩
/-- `FB_LATCH_TT` (14_position_feedback.md). -/
def FB_LATCH_TT : Reg := ⟨0xd100068, [(0x40000, 4)], 0x0⟩
def FB_LATCH_TT_TT : Fld := ⟨FB_LATCH_TT, 0, 64, .ro, .none⟩
/-- `FB_CMP_CTL` (14_position_feedback.md). -/
def FB_CMP_CTL : Reg := ⟨0xd100070, [(0x40000, 4)], 0x0⟩
def FB_CMP_CTL_CMP_EN : Fld := ⟨FB_CMP_CTL, 0, 1, .cs, .instant⟩
def FB_CMP_CTL_CMP_DIR : Fld := ⟨FB_CMP_CTL, 1, 1, .cs, .instant⟩
def FB_CMP_CTL_SPACING : Fld := ⟨FB_CMP_CTL, 32, 32, .cs, .instant⟩
/-- `FB_CMP_TGT` (14_position_feedback.md). -/
def FB_CMP_TGT : Reg := ⟨0xd100078, [(0x40000, 4)], 0x0⟩
def FB_CMP_TGT_TGT_COUNT : Fld := ⟨FB_CMP_TGT, 0, 32, .cs, .instant⟩
def FB_CMP_TGT_TGT_REV : Fld := ⟨FB_CMP_TGT, 32, 32, .cs, .instant⟩
/-- `FB_CMP_TT` (14_position_feedback.md). -/
def FB_CMP_TT : Reg := ⟨0xd100080, [(0x40000, 4)], 0x0⟩
def FB_CMP_TT_TT : Fld := ⟨FB_CMP_TT, 0, 64, .ro, .none⟩
/-- `FB_CMP_HITS` (14_position_feedback.md). -/
def FB_CMP_HITS : Reg := ⟨0xd100088, [(0x40000, 4)], 0x0⟩
def FB_CMP_HITS_HITS : Fld := ⟨FB_CMP_HITS, 0, 32, .rc, .none⟩
/-- `FB_EV` (14_position_feedback.md). -/
def FB_EV : Reg := ⟨0xd100090, [(0x40000, 4)], 0x0⟩
def FB_EV_DIR_EV : Fld := ⟨FB_EV, 0, 8, .rw, .none⟩
def FB_EV_DIR_EV_EN : Fld := ⟨FB_EV, 8, 1, .rw, .none⟩
def FB_EV_CMP_EV : Fld := ⟨FB_EV, 16, 8, .rw, .none⟩
def FB_EV_CMP_EV_EN : Fld := ⟨FB_EV, 24, 1, .rw, .none⟩
def FB_EV_LATCH_EV : Fld := ⟨FB_EV, 32, 8, .rw, .none⟩
def FB_EV_LATCH_EV_EN : Fld := ⟨FB_EV, 40, 1, .rw, .none⟩
def FB_EV_ERR_EV : Fld := ⟨FB_EV, 48, 8, .rw, .none⟩
def FB_EV_ERR_EV_EN : Fld := ⟨FB_EV, 56, 1, .rw, .none⟩
/-- `FB_ERR` (14_position_feedback.md). -/
def FB_ERR : Reg := ⟨0xd100098, [(0x40000, 4)], 0x0⟩
def FB_ERR_QUAD : Fld := ⟨FB_ERR, 0, 16, .rc, .none⟩
def FB_ERR_HALL : Fld := ⟨FB_ERR, 16, 16, .rc, .none⟩
def FB_ERR_SSI : Fld := ⟨FB_ERR, 32, 16, .rc, .none⟩
def FB_ERR_REVERSALS : Fld := ⟨FB_ERR, 48, 16, .rc, .none⟩
/-- `FB_SSI` (14_position_feedback.md). -/
def FB_SSI : Reg := ⟨0xd1000a0, [(0x40000, 4)], 0x14000000000000⟩
def FB_SSI_BITS : Fld := ⟨FB_SSI, 0, 6, .cs, .instant⟩
def FB_SSI_TURN_BITS : Fld := ⟨FB_SSI, 6, 6, .cs, .instant⟩
def FB_SSI_GRAY : Fld := ⟨FB_SSI, 12, 1, .cs, .instant⟩
def FB_SSI_DIV : Fld := ⟨FB_SSI, 16, 8, .cs, .instant⟩
def FB_SSI_PERIOD_US : Fld := ⟨FB_SSI, 32, 16, .cs, .instant⟩
def FB_SSI_MONO_US : Fld := ⟨FB_SSI, 48, 16, .cs, .instant⟩
/-- `FB_SSI2` (14_position_feedback.md). -/
def FB_SSI2 : Reg := ⟨0xd1000a8, [(0x40000, 4)], 0x0⟩
def FB_SSI2_MAX_JUMP : Fld := ⟨FB_SSI2, 0, 32, .cs, .instant⟩
/-- `FB_SSI_OFS` (14_position_feedback.md). -/
def FB_SSI_OFS : Reg := ⟨0xd1000b0, [(0x40000, 4)], 0x0⟩
def FB_SSI_OFS_OFS : Fld := ⟨FB_SSI_OFS, 0, 32, .ro, .none⟩
def FB_SSI_OFS_ROFS : Fld := ⟨FB_SSI_OFS, 32, 32, .ro, .none⟩
/-- `FB_SSI_RAW` (14_position_feedback.md). -/
def FB_SSI_RAW : Reg := ⟨0xd1000b8, [(0x40000, 4)], 0x0⟩
def FB_SSI_RAW_RAW : Fld := ⟨FB_SSI_RAW, 0, 32, .ro, .none⟩
/-- `MP_CTL` (15_motion_drive.md). -/
def MP_CTL : Reg := ⟨0xd200000, [(0x40000, 4)], 0x0⟩
def MP_CTL_MODE : Fld := ⟨MP_CTL, 0, 2, .cs, .boundary⟩
def MP_CTL_SCURVE : Fld := ⟨MP_CTL, 2, 1, .cs, .boundary⟩
def MP_CTL_START_EV_EN : Fld := ⟨MP_CTL, 3, 1, .cs, .boundary⟩
def MP_CTL_GO : Fld := ⟨MP_CTL, 4, 1, .w1s, .boundary⟩
def MP_CTL_STOP : Fld := ⟨MP_CTL, 5, 1, .w1s, .boundary⟩
def MP_CTL_SET_POS : Fld := ⟨MP_CTL, 6, 1, .w1s, .boundary⟩
/-- `MP_TARGET` (15_motion_drive.md). -/
def MP_TARGET : Reg := ⟨0xd200008, [(0x40000, 4)], 0x0⟩
def MP_TARGET_TARGET : Fld := ⟨MP_TARGET, 0, 48, .cs, .boundary⟩
/-- `MP_VEL` (15_motion_drive.md). -/
def MP_VEL : Reg := ⟨0xd200010, [(0x40000, 4)], 0x0⟩
def MP_VEL_V : Fld := ⟨MP_VEL, 0, 32, .cs, .boundary⟩
/-- `MP_ACC` (15_motion_drive.md). -/
def MP_ACC : Reg := ⟨0xd200018, [(0x40000, 4)], 0x0⟩
def MP_ACC_ACC : Fld := ⟨MP_ACC, 0, 32, .cs, .boundary⟩
def MP_ACC_DEC : Fld := ⟨MP_ACC, 32, 32, .cs, .boundary⟩
/-- `MP_JERK` (15_motion_drive.md). -/
def MP_JERK : Reg := ⟨0xd200020, [(0x40000, 4)], 0x0⟩
def MP_JERK_JERK : Fld := ⟨MP_JERK, 0, 40, .cs, .boundary⟩
/-- `MP_SERVO` (15_motion_drive.md). -/
def MP_SERVO : Reg := ⟨0xd200028, [(0x40000, 4)], 0xf424⟩
def MP_SERVO_SERVO_NS : Fld := ⟨MP_SERVO, 0, 20, .cs, .boundary⟩
/-- `MP_STEPIN` (15_motion_drive.md). -/
def MP_STEPIN : Reg := ⟨0xd200030, [(0x40000, 4)], 0x1⟩
def MP_STEPIN_STEP_RES : Fld := ⟨MP_STEPIN, 0, 11, .cs, .boundary⟩
def MP_STEPIN_DIR_INV : Fld := ⟨MP_STEPIN, 11, 1, .cs, .boundary⟩
def MP_STEPIN_STEP_FILT : Fld := ⟨MP_STEPIN, 16, 16, .cs, .boundary⟩
/-- `MP_HOME` (15_motion_drive.md). -/
def MP_HOME : Reg := ⟨0xd200038, [(0x40000, 4)], 0x0⟩
def MP_HOME_GO : Fld := ⟨MP_HOME, 0, 1, .w1s, .boundary⟩
def MP_HOME_HOME_DIR : Fld := ⟨MP_HOME, 1, 1, .cs, .boundary⟩
/-- `MP_HOME_V` (15_motion_drive.md). -/
def MP_HOME_V : Reg := ⟨0xd200040, [(0x40000, 4)], 0x0⟩
def MP_HOME_V_HOME_V : Fld := ⟨MP_HOME_V, 0, 32, .cs, .boundary⟩
/-- `MP_HOME_OFS` (15_motion_drive.md). -/
def MP_HOME_OFS : Reg := ⟨0xd200048, [(0x40000, 4)], 0x0⟩
def MP_HOME_OFS_HOME_OFS : Fld := ⟨MP_HOME_OFS, 0, 48, .cs, .boundary⟩
/-- `MP_HOME_POS` (15_motion_drive.md). -/
def MP_HOME_POS : Reg := ⟨0xd200050, [(0x40000, 4)], 0x0⟩
def MP_HOME_POS_HOME_POS : Fld := ⟨MP_HOME_POS, 0, 48, .cs, .boundary⟩
/-- `MP_POS` (15_motion_drive.md). -/
def MP_POS : Reg := ⟨0xd200058, [(0x40000, 4)], 0x0⟩
def MP_POS_POS : Fld := ⟨MP_POS, 0, 48, .ro, .none⟩
/-- `MP_VNOW` (15_motion_drive.md). -/
def MP_VNOW : Reg := ⟨0xd200060, [(0x40000, 4)], 0x0⟩
def MP_VNOW_V : Fld := ⟨MP_VNOW, 0, 32, .ro, .none⟩
/-- `MP_STAT` (15_motion_drive.md). -/
def MP_STAT : Reg := ⟨0xd200068, [(0x40000, 4)], 0x0⟩
def MP_STAT_STATE : Fld := ⟨MP_STAT, 0, 3, .ro, .none⟩
def MP_STAT_HOMED : Fld := ⟨MP_STAT, 3, 1, .ro, .none⟩
def MP_STAT_MOVING : Fld := ⟨MP_STAT, 4, 1, .ro, .none⟩
def MP_STAT_AT_TARGET : Fld := ⟨MP_STAT, 5, 1, .ro, .none⟩
def MP_STAT_ARMED : Fld := ⟨MP_STAT, 6, 1, .ro, .none⟩
/-- `MP_EVT` (15_motion_drive.md). -/
def MP_EVT : Reg := ⟨0xd200070, [(0x40000, 4)], 0x0⟩
def MP_EVT_DECEL_CLAMPED : Fld := ⟨MP_EVT, 0, 1, .w1c, .none⟩
def MP_EVT_STALL : Fld := ⟨MP_EVT, 1, 1, .w1c, .none⟩
def MP_EVT_LIMIT_HIT : Fld := ⟨MP_EVT, 2, 1, .w1c, .none⟩
def MP_EVT_SOFT_LIMIT : Fld := ⟨MP_EVT, 3, 1, .w1c, .none⟩
def MP_EVT_HOME_DONE : Fld := ⟨MP_EVT, 4, 1, .w1c, .none⟩
def MP_EVT_HOME_LIMIT : Fld := ⟨MP_EVT, 5, 1, .w1c, .none⟩
def MP_EVT_STEP_OVERRUN : Fld := ⟨MP_EVT, 6, 1, .w1c, .none⟩
def MP_EVT_CUT : Fld := ⟨MP_EVT, 7, 1, .w1c, .none⟩
/-- `MP_CFG` (15_motion_drive.md). -/
def MP_CFG : Reg := ⟨0xd200078, [(0x40000, 4)], 0x3e800000004⟩
def MP_CFG_FB_CH : Fld := ⟨MP_CFG, 0, 2, .cs, .boundary⟩
def MP_CFG_HOME_REQ : Fld := ⟨MP_CFG, 2, 1, .cs, .boundary⟩
def MP_CFG_STANDSTILL : Fld := ⟨MP_CFG, 3, 1, .cs, .boundary⟩
def MP_CFG_LIM_POL : Fld := ⟨MP_CFG, 4, 1, .cs, .boundary⟩
def MP_CFG_PD_EN : Fld := ⟨MP_CFG, 5, 1, .cs, .boundary⟩
def MP_CFG_LIM_FILT : Fld := ⟨MP_CFG, 16, 16, .cs, .boundary⟩
def MP_CFG_PD_MS : Fld := ⟨MP_CFG, 32, 16, .cs, .boundary⟩
/-- `MP_PRESET` (15_motion_drive.md). -/
def MP_PRESET : Reg := ⟨0xd200080, [(0x40000, 4)], 0x0⟩
def MP_PRESET_PRESET : Fld := ⟨MP_PRESET, 0, 48, .cs, .boundary⟩
/-- `MP_EV` (15_motion_drive.md). -/
def MP_EV : Reg := ⟨0xd200088, [(0x40000, 4)], 0x0⟩
def MP_EV_DONE_EV : Fld := ⟨MP_EV, 0, 8, .rw, .none⟩
def MP_EV_DONE_EV_EN : Fld := ⟨MP_EV, 8, 1, .rw, .none⟩
def MP_EV_STALL_EV : Fld := ⟨MP_EV, 16, 8, .rw, .none⟩
def MP_EV_STALL_EV_EN : Fld := ⟨MP_EV, 24, 1, .rw, .none⟩
def MP_EV_LIMIT_EV : Fld := ⟨MP_EV, 32, 8, .rw, .none⟩
def MP_EV_LIMIT_EV_EN : Fld := ⟨MP_EV, 40, 1, .rw, .none⟩
def MP_EV_FAULT_EV : Fld := ⟨MP_EV, 48, 8, .rw, .none⟩
def MP_EV_FAULT_EV_EN : Fld := ⟨MP_EV, 56, 1, .rw, .none⟩
/-- `MP_CNT` (15_motion_drive.md). -/
def MP_CNT : Reg := ⟨0xd200090, [(0x40000, 4)], 0x0⟩
def MP_CNT_STALLS : Fld := ⟨MP_CNT, 0, 16, .rc, .none⟩
def MP_CNT_LIMITS : Fld := ⟨MP_CNT, 16, 16, .rc, .none⟩
def MP_CNT_STEP_LAG : Fld := ⟨MP_CNT, 32, 32, .ro, .none⟩
/-- `CD_CTL` (15_motion_drive.md). -/
def CD_CTL : Reg := ⟨0xd300000, [(0x40000, 4)], 0x286400⟩
def CD_CTL_EN : Fld := ⟨CD_CTL, 0, 1, .cs, .boundary⟩
def CD_CTL_STRONG_EN : Fld := ⟨CD_CTL, 1, 1, .cs, .boundary⟩
def CD_CTL_SENSE_EN : Fld := ⟨CD_CTL, 2, 1, .cs, .boundary⟩
def CD_CTL_DEAD_NS : Fld := ⟨CD_CTL, 8, 8, .cs, .boundary⟩
def CD_CTL_PWM_KHZ : Fld := ⟨CD_CTL, 16, 7, .cs, .boundary⟩
/-- `CD_CUR` (15_motion_drive.md). -/
def CD_CUR : Reg := ⟨0xd300008, [(0x40000, 4)], 0x0⟩
def CD_CUR_I_HOLD : Fld := ⟨CD_CUR, 0, 16, .cs, .boundary⟩
def CD_CUR_I_RUN : Fld := ⟨CD_CUR, 16, 16, .cs, .boundary⟩
/-- `CD_MOTOR` (15_motion_drive.md). -/
def CD_MOTOR : Reg := ⟨0xd300010, [(0x40000, 4)], 0x0⟩
def CD_MOTOR_R_COIL : Fld := ⟨CD_MOTOR, 0, 16, .cs, .boundary⟩
def CD_MOTOR_KE : Fld := ⟨CD_MOTOR, 16, 16, .cs, .boundary⟩
def CD_MOTOR_VBUS : Fld := ⟨CD_MOTOR, 32, 16, .cs, .boundary⟩
/-- `CD_STRONG` (15_motion_drive.md). -/
def CD_STRONG : Reg := ⟨0xd300018, [(0x40000, 4)], 0x0⟩
def CD_STRONG_STRONG_ON : Fld := ⟨CD_STRONG, 0, 32, .cs, .boundary⟩
def CD_STRONG_STRONG_OFF : Fld := ⟨CD_STRONG, 32, 32, .cs, .boundary⟩
/-- `CD_LA` (15_motion_drive.md). -/
def CD_LA : Reg := ⟨0xd300020, [(0x40000, 4)], 0x8060003000100⟩
def CD_LA_LA_LOW : Fld := ⟨CD_LA, 0, 12, .cs, .boundary⟩
def CD_LA_LA_HIGH : Fld := ⟨CD_LA, 16, 12, .cs, .boundary⟩
def CD_LA_STALL_LA : Fld := ⟨CD_LA, 32, 12, .cs, .boundary⟩
def CD_LA_STALL_N : Fld := ⟨CD_LA, 48, 8, .cs, .boundary⟩
def CD_LA_STALL_ACT : Fld := ⟨CD_LA, 56, 1, .cs, .boundary⟩
/-- `CD_SENSE` (15_motion_drive.md). -/
def CD_SENSE : Reg := ⟨0xd300028, [(0x40000, 4)], 0x40⟩
def CD_SENSE_SD_DEC : Fld := ⟨CD_SENSE, 0, 8, .cs, .boundary⟩
def CD_SENSE_ISCALE : Fld := ⟨CD_SENSE, 16, 16, .cs, .boundary⟩
def CD_SENSE_KP : Fld := ⟨CD_SENSE, 32, 16, .cs, .boundary⟩
def CD_SENSE_KI : Fld := ⟨CD_SENSE, 48, 16, .cs, .boundary⟩
/-- `CD_STAT` (15_motion_drive.md). -/
def CD_STAT : Reg := ⟨0xd300030, [(0x40000, 4)], 0x0⟩
def CD_STAT_STRONG : Fld := ⟨CD_STAT, 0, 1, .ro, .none⟩
def CD_STAT_DUTY_SAT : Fld := ⟨CD_STAT, 1, 1, .w1c, .none⟩
def CD_STAT_FLT : Fld := ⟨CD_STAT, 2, 1, .ro, .none⟩
def CD_STAT_EN_OUT : Fld := ⟨CD_STAT, 3, 1, .ro, .none⟩
def CD_STAT_LOAD_ANGLE : Fld := ⟨CD_STAT, 16, 12, .ro, .none⟩
def CD_STAT_I_NOW : Fld := ⟨CD_STAT, 32, 16, .ro, .none⟩
/-- `CD_ICUR` (15_motion_drive.md). -/
def CD_ICUR : Reg := ⟨0xd300038, [(0x40000, 4)], 0x0⟩
def CD_ICUR_IA : Fld := ⟨CD_ICUR, 0, 16, .ro, .none⟩
def CD_ICUR_IB : Fld := ⟨CD_ICUR, 16, 16, .ro, .none⟩
/-- `MSV_STAT` (15_motion_drive.md). -/
def MSV_STAT : Reg := ⟨0xd400000, [], 0xf⟩
def MSV_STAT_RESTING : Fld := ⟨MSV_STAT, 0, 4, .ro, .none⟩
def MSV_STAT_CUT : Fld := ⟨MSV_STAT, 4, 4, .ro, .none⟩
def MSV_STAT_TAKEN : Fld := ⟨MSV_STAT, 8, 1, .ro, .none⟩
def MSV_STAT_UECC : Fld := ⟨MSV_STAT, 9, 1, .ro, .none⟩
/-- `MSV_CNT` (15_motion_drive.md). -/
def MSV_CNT : Reg := ⟨0xd400008, [], 0x0⟩
def MSV_CNT_CUTS : Fld := ⟨MSV_CNT, 0, 16, .rc, .none⟩

def tabTiming1 : List RegRow := [
  ⟨TB_TT, [TB_TT_TT]⟩,
  ⟨TB_ERA, [TB_ERA_ERA]⟩,
  ⟨TB_INCR, [TB_INCR_INCR]⟩,
  ⟨TB_STEP_AMT, [TB_STEP_AMT_AMT]⟩,
  ⟨TB_STEP_SEC, [TB_STEP_SEC_SEC]⟩,
  ⟨TB_STEP_NS, [TB_STEP_NS_NS, TB_STEP_NS_FRAC]⟩,
  ⟨TB_STEP_AT, [TB_STEP_AT_AT_TT]⟩,
  ⟨TB_STEP_CTL, [TB_STEP_CTL_GO, TB_STEP_CTL_BOTH, TB_STEP_CTL_LOAD, TB_STEP_CTL_AT, TB_STEP_CTL_BUSY]⟩,
  ⟨TB_STEP_TT, [TB_STEP_TT_TT]⟩,
  ⟨TB_SLEW_AMT, [TB_SLEW_AMT_AMT]⟩,
  ⟨TB_SLEW_CTL, [TB_SLEW_CTL_RATE, TB_SLEW_CTL_GO, TB_SLEW_CTL_BOTH, TB_SLEW_CTL_ABORT]⟩,
  ⟨TB_SLEW_REM, [TB_SLEW_REM_REM]⟩]
def tabTiming2 : List RegRow := [
  ⟨TB_SNAP_CTL, [TB_SNAP_CTL_GO, TB_SNAP_CTL_DONE, TB_SNAP_CTL_EV, TB_SNAP_CTL_EV_EN]⟩,
  ⟨TB_SNAP_TT, [TB_SNAP_TT_TT]⟩,
  ⟨TB_SNAP_ERA, [TB_SNAP_ERA_ERA]⟩,
  ⟨TB_SNAP_SEC, [TB_SNAP_SEC_SEC]⟩,
  ⟨TB_SNAP_NS, [TB_SNAP_NS_NS, TB_SNAP_NS_FRAC]⟩,
  ⟨TB_STAT, [TB_STAT_PLL_LOCK, TB_STAT_REF_LOST, TB_STAT_REF_LOST_SEEN, TB_STAT_SLEWING, TB_STAT_STEP_PEND, TB_STAT_CLAMPED, TB_STAT_ALIGNED, TB_STAT_REF_SEL, TB_STAT_CFG_BAD]⟩,
  ⟨TP_CTL, [TP_CTL_PPS_OUT_EN, TP_CTL_M10_OUT_EN, TP_CTL_PPS_IN_EN, TP_CTL_M10_IN_EN, TP_CTL_PPS_IN_FALL]⟩,
  ⟨TP_WIDTH, [TP_WIDTH_PPS_WIDTH, TP_WIDTH_PPS_OFFSET]⟩,
  ⟨TP_PPS_IN, [TP_PPS_IN_TT]⟩,
  ⟨TP_PPS_CNT, [TP_PPS_CNT_EDGES, TP_PPS_CNT_NEW, TP_PPS_CNT_OVERRUN]⟩,
  ⟨TP_10M_PHASE, [TP_10M_PHASE_TT]⟩,
  ⟨TP_EV, [TP_EV_PPS_IN_EV, TP_EV_PPS_IN_EV_EN, TP_EV_PPS_OUT_EV, TP_EV_PPS_OUT_EV_EN]⟩]
def tabTiming3 : List RegRow := [
  ⟨MW_CH_CFG, [MW_CH_CFG_ASYNC, MW_CH_CFG_OWNER, MW_CH_CFG_SECURE, MW_CH_CFG_SWMODE]⟩,
  ⟨MW_FIRE, [MW_FIRE_CH]⟩,
  ⟨MW_GATE, [MW_GATE_GATE]⟩,
  ⟨MW_WATCH, [MW_WATCH_FLAG]⟩,
  ⟨MW_STAT, [MW_STAT_REFUSED]⟩,
  ⟨MW_VXLRX, [MW_VXLRX_CH, MW_VXLRX_EN]⟩,
  ⟨MW_CH_CNT, [MW_CH_CNT_FIRES, MW_CH_CNT_COLL]⟩,
  ⟨MW_CON, [MW_CON_GATE, MW_CON_GATE_INV, MW_CON_DEAD, MW_CON_GATED, MW_CON_COLL]⟩,
  ⟨BK_CTL, [BK_CTL_EN, BK_CTL_SRC, BK_CTL_DIR, BK_CTL_INTERP, BK_CTL_POS_CH, BK_CTL_EV]⟩,
  ⟨BK_START, [BK_START_START]⟩,
  ⟨BK_PERIOD, [BK_PERIOD_PERIOD]⟩,
  ⟨BK_COUNT, [BK_COUNT_COUNT, BK_COUNT_DELAY]⟩]
def tabTiming4 : List RegRow := [
  ⟨BK_POS, [BK_POS_TARGET_CNT, BK_POS_TARGET_REV]⟩,
  ⟨BK_POSF, [BK_POSF_FRAC, BK_POSF_SPACING]⟩,
  ⟨BK_WIDTH, [BK_WIDTH_WIDTH]⟩,
  ⟨BK_TGT, [BK_TGT_KIND, BK_TGT_LEVEL, BK_TGT_INDEX, BK_TGT_LEAD]⟩,
  ⟨BK_STAT, [BK_STAT_STATE, BK_STAT_COMPARE_BEHIND, BK_STAT_PREDICTING, BK_STAT_OVER, BK_STAT_UNCROSSED, BK_STAT_LATE]⟩,
  ⟨BK_FIRES, [BK_FIRES_FIRES]⟩,
  ⟨BK_NEXT, [BK_NEXT_T]⟩,
  ⟨BK_ACT_ADV, [BK_ACT_ADV_NS]⟩,
  ⟨BK_ACT_POP, [BK_ACT_POP_POP, BK_ACT_POP_COUNT, BK_ACT_POP_OVF]⟩,
  ⟨BK_ACT_HEAD, [BK_ACT_HEAD_TT]⟩,
  ⟨BK_ACT_INFO, [BK_ACT_INFO_PROG, BK_ACT_INFO_TARGET, BK_ACT_INFO_FIRES]⟩,
  ⟨TRG_CTL, [TRG_CTL_DIR, TRG_CTL_POL, TRG_CTL_IN_EDGE, TRG_CTL_IN_EV_EN, TRG_CTL_IN_EV, TRG_CTL_FILT]⟩]
def tabTiming5 : List RegRow := [
  ⟨TRG_ADJ, [TRG_ADJ_OUT_ADJ, TRG_ADJ_IN_ADJ]⟩,
  ⟨TRG_IN, [TRG_IN_COUNT, TRG_IN_POP, TRG_IN_HEAD_RISE, TRG_IN_OVERRUN]⟩,
  ⟨TRG_INTT, [TRG_INTT_TT]⟩,
  ⟨TRG_STAT, [TRG_STAT_LEVEL, TRG_STAT_DRIVING, TRG_STAT_DROP]⟩,
  ⟨FB_CTL, [FB_CTL_MODE, FB_CTL_DECODE, FB_CTL_INVERT, FB_CTL_WRAP, FB_CTL_FILT, FB_CTL_SW_FILT]⟩,
  ⟨FB_CPR, [FB_CPR_CPR]⟩,
  ⟨FB_POS, [FB_POS_COUNT, FB_POS_REV]⟩,
  ⟨FB_PRESET, [FB_PRESET_COUNT, FB_PRESET_REV]⟩,
  ⟨FB_CMD, [FB_CMD_SET_POS]⟩,
  ⟨FB_STAT, [FB_STAT_DIR, FB_STAT_DIR_KNOWN, FB_STAT_SPEED_VALID, FB_STAT_ARMED, FB_STAT_LATCHED, FB_STAT_HALL, FB_STAT_SUSPECT]⟩,
  ⟨FB_EVT, [FB_EVT_REVERSED, FB_EVT_HALL_INVALID, FB_EVT_HALL_JUMP, FB_EVT_COMPARE_BEHIND, FB_EVT_SPEED_LOST]⟩,
  ⟨FB_SPEED, [FB_SPEED_SPEED]⟩]
def tabTiming6 : List RegRow := [
  ⟨FB_PERIOD, [FB_PERIOD_PERIOD]⟩,
  ⟨FB_EDGE_TT, [FB_EDGE_TT_TT]⟩,
  ⟨FB_SPD_CFG, [FB_SPD_CFG_TIMEOUT_US, FB_SPD_CFG_AVG_SHIFT]⟩,
  ⟨FB_LATCH, [FB_LATCH_LATCH_SRC, FB_LATCH_LATCH_EDGE, FB_LATCH_ARM, FB_LATCH_CHATTER_CNT]⟩,
  ⟨FB_LATCH_POS, [FB_LATCH_POS_COUNT, FB_LATCH_POS_REV]⟩,
  ⟨FB_LATCH_TT, [FB_LATCH_TT_TT]⟩,
  ⟨FB_CMP_CTL, [FB_CMP_CTL_CMP_EN, FB_CMP_CTL_CMP_DIR, FB_CMP_CTL_SPACING]⟩,
  ⟨FB_CMP_TGT, [FB_CMP_TGT_TGT_COUNT, FB_CMP_TGT_TGT_REV]⟩,
  ⟨FB_CMP_TT, [FB_CMP_TT_TT]⟩,
  ⟨FB_CMP_HITS, [FB_CMP_HITS_HITS]⟩,
  ⟨FB_EV, [FB_EV_DIR_EV, FB_EV_DIR_EV_EN, FB_EV_CMP_EV, FB_EV_CMP_EV_EN, FB_EV_LATCH_EV, FB_EV_LATCH_EV_EN, FB_EV_ERR_EV, FB_EV_ERR_EV_EN]⟩,
  ⟨FB_ERR, [FB_ERR_QUAD, FB_ERR_HALL, FB_ERR_SSI, FB_ERR_REVERSALS]⟩]
def tabTiming7 : List RegRow := [
  ⟨FB_SSI, [FB_SSI_BITS, FB_SSI_TURN_BITS, FB_SSI_GRAY, FB_SSI_DIV, FB_SSI_PERIOD_US, FB_SSI_MONO_US]⟩,
  ⟨FB_SSI2, [FB_SSI2_MAX_JUMP]⟩,
  ⟨FB_SSI_OFS, [FB_SSI_OFS_OFS, FB_SSI_OFS_ROFS]⟩,
  ⟨FB_SSI_RAW, [FB_SSI_RAW_RAW]⟩,
  ⟨MP_CTL, [MP_CTL_MODE, MP_CTL_SCURVE, MP_CTL_START_EV_EN, MP_CTL_GO, MP_CTL_STOP, MP_CTL_SET_POS]⟩,
  ⟨MP_TARGET, [MP_TARGET_TARGET]⟩,
  ⟨MP_VEL, [MP_VEL_V]⟩,
  ⟨MP_ACC, [MP_ACC_ACC, MP_ACC_DEC]⟩,
  ⟨MP_JERK, [MP_JERK_JERK]⟩,
  ⟨MP_SERVO, [MP_SERVO_SERVO_NS]⟩,
  ⟨MP_STEPIN, [MP_STEPIN_STEP_RES, MP_STEPIN_DIR_INV, MP_STEPIN_STEP_FILT]⟩,
  ⟨MP_HOME, [MP_HOME_GO, MP_HOME_HOME_DIR]⟩]
def tabTiming8 : List RegRow := [
  ⟨MP_HOME_V, [MP_HOME_V_HOME_V]⟩,
  ⟨MP_HOME_OFS, [MP_HOME_OFS_HOME_OFS]⟩,
  ⟨MP_HOME_POS, [MP_HOME_POS_HOME_POS]⟩,
  ⟨MP_POS, [MP_POS_POS]⟩,
  ⟨MP_VNOW, [MP_VNOW_V]⟩,
  ⟨MP_STAT, [MP_STAT_STATE, MP_STAT_HOMED, MP_STAT_MOVING, MP_STAT_AT_TARGET, MP_STAT_ARMED]⟩,
  ⟨MP_EVT, [MP_EVT_DECEL_CLAMPED, MP_EVT_STALL, MP_EVT_LIMIT_HIT, MP_EVT_SOFT_LIMIT, MP_EVT_HOME_DONE, MP_EVT_HOME_LIMIT, MP_EVT_STEP_OVERRUN, MP_EVT_CUT]⟩,
  ⟨MP_CFG, [MP_CFG_FB_CH, MP_CFG_HOME_REQ, MP_CFG_STANDSTILL, MP_CFG_LIM_POL, MP_CFG_PD_EN, MP_CFG_LIM_FILT, MP_CFG_PD_MS]⟩,
  ⟨MP_PRESET, [MP_PRESET_PRESET]⟩,
  ⟨MP_EV, [MP_EV_DONE_EV, MP_EV_DONE_EV_EN, MP_EV_STALL_EV, MP_EV_STALL_EV_EN, MP_EV_LIMIT_EV, MP_EV_LIMIT_EV_EN, MP_EV_FAULT_EV, MP_EV_FAULT_EV_EN]⟩,
  ⟨MP_CNT, [MP_CNT_STALLS, MP_CNT_LIMITS, MP_CNT_STEP_LAG]⟩,
  ⟨CD_CTL, [CD_CTL_EN, CD_CTL_STRONG_EN, CD_CTL_SENSE_EN, CD_CTL_DEAD_NS, CD_CTL_PWM_KHZ]⟩]
def tabTiming9 : List RegRow := [
  ⟨CD_CUR, [CD_CUR_I_HOLD, CD_CUR_I_RUN]⟩,
  ⟨CD_MOTOR, [CD_MOTOR_R_COIL, CD_MOTOR_KE, CD_MOTOR_VBUS]⟩,
  ⟨CD_STRONG, [CD_STRONG_STRONG_ON, CD_STRONG_STRONG_OFF]⟩,
  ⟨CD_LA, [CD_LA_LA_LOW, CD_LA_LA_HIGH, CD_LA_STALL_LA, CD_LA_STALL_N, CD_LA_STALL_ACT]⟩,
  ⟨CD_SENSE, [CD_SENSE_SD_DEC, CD_SENSE_ISCALE, CD_SENSE_KP, CD_SENSE_KI]⟩,
  ⟨CD_STAT, [CD_STAT_STRONG, CD_STAT_DUTY_SAT, CD_STAT_FLT, CD_STAT_EN_OUT, CD_STAT_LOAD_ANGLE, CD_STAT_I_NOW]⟩,
  ⟨CD_ICUR, [CD_ICUR_IA, CD_ICUR_IB]⟩,
  ⟨MSV_STAT, [MSV_STAT_RESTING, MSV_STAT_CUT, MSV_STAT_TAKEN, MSV_STAT_UECC]⟩,
  ⟨MSV_CNT, [MSV_CNT_CUTS]⟩]
/-- Every register of this file. -/
def tabTiming : List RegRow :=
  tabTiming1 ++ tabTiming2 ++ tabTiming3 ++ tabTiming4 ++ tabTiming5 ++ tabTiming6 ++ tabTiming7 ++ tabTiming8 ++ tabTiming9

end Sys2Proof.Machine.R
end

