-- ==== Sys2Proof/Machine/Ops.lean ====
section
/-! DEFINITION. The named operations over registers, memories and the Net windows that every meaning uses. -/

namespace Sys2Proof.Machine

/-! ### Registers -/

/-- The 64-bit contents of a register instance. -/
def Device.rd (d : Device) (r : Reg) (ix : List Nat) : Word :=
  d.regs.get (BitVec.ofNat 64 r.reset) (r.addr ix)

/-- Replace the contents of a register instance. -/
def Device.wr (d : Device) (r : Reg) (ix : List Nat) (v : Word) : Device :=
  { d with regs := d.regs.put (BitVec.ofNat 64 r.reset) (r.addr ix) v }

/-- A field of a register instance. -/
def Device.get (d : Device) (f : Fld) (ix : List Nat) : Nat := f.of (d.rd f.reg ix)

/-- Replace a field of a register instance. -/
def Device.put (d : Device) (f : Fld) (ix : List Nat) (v : Nat) : Device :=
  d.wr f.reg ix (f.into (d.rd f.reg ix) v)

/-- A one-bit field is 1. -/
def Device.flag (d : Device) (f : Fld) (ix : List Nat) : Bool := decide (d.get f ix ≠ 0)

/-- Set or clear a one-bit field. -/
def Device.setFlag (d : Device) (f : Fld) (ix : List Nat) (b : Bool) : Device := d.put f ix (b2n b)

/-- Count `n` in a saturating counter field. -/
def Device.bumpBy (d : Device) (f : Fld) (ix : List Nat) (n : Nat) : Device :=
  d.put f ix (satAdd f.width (d.get f ix) n)

/-- Count one in a saturating counter field. -/
def Device.bump (d : Device) (f : Fld) (ix : List Nat) : Device := d.bumpBy f ix 1

/-- Count one in a counter field that wraps. -/
def Device.count (d : Device) (f : Fld) (ix : List Nat) : Device := d.put f ix (d.get f ix + 1)

/-- Every register of the spec's tables, with its fields. -/
def regTable : List RegRow := R.tabControl ++ R.tabDelivery ++ R.tabPort ++ R.tabTiming

/-- The register that lies at an address, and which instance of it. -/
def findRegIn (a : Nat) : List RegRow → Option (RegRow × List Nat)
  | [] => none
  | row :: rows =>
    match row.reg.index a with
    | some ix => some (row, ix)
    | none => findRegIn a rows

/-- The register that lies at an address of the map (R31, R32). -/
def findReg (a : Nat) : Option (RegRow × List Nat) := findRegIn a regTable

/-- Where BAR0-only registers stand in the model's address space: the Net table port (R420). -/
def bar0Base : Nat := 2 ^ 48

/-- The bits of a register whose fields satisfy `p`. -/
def RegRow.maskOf (row : RegRow) (p : Fld → Bool) : Word :=
  row.flds.foldl (fun m f => if p f then m ||| f.mask else m) 0

/-- Replace the bits under `mask` at a register instance. -/
def Device.wrMasked (d : Device) (r : Reg) (ix : List Nat) (mask v : Word) : Device :=
  d.wr r ix ((d.rd r ix &&& ~~~ mask) ||| (v &&& mask))

/-- Replace the bits under the mask at an address; nothing where no register lies there. -/
def Device.apply (d : Device) (w : MaskedWrite) : Device :=
  match findReg w.addr with
  | some (row, ix) => d.wrMasked row.reg ix w.mask w.value
  | none => d

/-- The configuration as it would stand with these writes applied (R102). -/
def Device.overlay (d : Device) (ws : List MaskedWrite) : Device := ws.foldl Device.apply d

/-- The write covers a bit of the field, in the register instance it addresses. -/
def MaskedWrite.covers (w : MaskedWrite) (f : Fld) : Bool := decide (w.mask &&& f.mask ≠ 0)

/-- The booth an address lies in, if any (R31). -/
def boothOf (a : Nat) : Option Nat :=
  if 0x01000000 ≤ a ∧ a < 0x10000000 then some (a / 0x01000000 - 1) else none

/-! ### Time, mode, presence -/

/-- TT: bits [79:16] of the accumulator (R322). -/
def Device.tt (d : Device) : TT := d.tim.time.acc.extractLsb' 16 64

/-- The device epoch (R113). -/
def Device.epoch (d : Device) : Nat := d.get R.CUR_EPOCH_EPOCH []

/-- The applied epoch of a booth (R114). -/
def Device.boothEpoch (d : Device) (b : Nat) : Nat := d.get R.CUR_BEPOCH_EPOCH [b]

/-- READY (R472). -/
def Device.ready (d : Device) : Bool := d.flag R.DEV_STATUS_READY []

/-- The operating mode: 0 STARTUP, 1 SERVICE, 2 TEST, 3 RECOVERY (R475). -/
def Device.mode (d : Device) : Nat := d.get R.HM_MODE_MODE []

/-- The system device number (R457). -/
def Device.sdn (d : Device) : Nat := d.get R.SEC_SDN_SDN []

/-- The life-cycle state, encoded as in IDENTIFY. -/
def Device.lifecycle (d : Device) : Nat := d.get R.SEC_STAT_LC []

/-- Port booth `n` is present (R4). -/
def Device.portPresent (d : Device) (n : Nat) : Bool := bit (d.get R.ID_PRESENT_PORT []) n

/-- Palette of `n` is present. -/
def Device.emitPresent (d : Device) (n : Nat) : Bool := bit (d.get R.ID_PRESENT_EMIT []) n

/-- Lane `l` is present. -/
def Device.lanePresent (d : Device) (l : Nat) : Bool := bit (d.get R.ID_PRESENT_LANE []) l

/-- Booth `b` is present: port booths by ID_PRESENT, the others always (R2 to R8). -/
def Device.boothPresent (d : Device) (b : Nat) : Bool :=
  if b < 8 then d.portPresent b else decide (b ≤ 14)

/-- BOOTH_STATE.STATE of a booth: 0 IDLE, 1 RUN, 2 FAULTED, 3 HALTED. -/
def Device.boothState (d : Device) (b : Nat) : Nat := d.get R.BOOTH_STATE_STATE [b]

/-- The booth is FAULTED or HALTED. -/
def Device.boothDown (d : Device) (b : Nat) : Bool := decide (2 ≤ d.boothState b)

/-- An admitted write reaches booth `b`: from IDLE it becomes RUN (log entry 13). -/
def Device.wake (d : Device) (b : Nat) : Device :=
  if d.boothState b = 0 then d.put R.BOOTH_STATE_STATE [b] 1 else d

/-- The lanes of the odd port above `n` are lent to `n`: PP_CTL.MODE of `n` holds 8 (R23). -/
def Device.borrows (d : Device) (n : Nat) : Bool :=
  decide (n % 2 = 0 ∧ n < 8 ∧ d.get R.PP_CTL_MODE [n] = 8)

/-- Port `n` is lent to the 4-lane port below it (R23). -/
def Device.lent (d : Device) (n : Nat) : Bool :=
  decide (n % 2 = 1) && d.borrows (n - 1)

/-- The register instances of a unit that the fuses or the variant removed (R7): booths, Palette emitters, lanes, and the
sequencers of fused port booths. -/
def Device.fusedAddr (d : Device) (a : Nat) : Bool :=
  match boothOf a with
  | none => false
  | some b =>
    !d.boothPresent b
      || (decide (b < 8 ∧ a / 0x100000 % 16 = 7) && !d.emitPresent b)
      || (decide (b < 8 ∧ (a / 0x100000 % 16 = 1 ∨ a / 0x100000 % 16 = 2)) && !d.lanePresent (2 * b + (a / 0x100000 % 16 - 1)))
      || (decide (b = 14 ∧ a / 0x100000 % 16 = 2 ∧ a % 0x100000 < 0x8000) && !d.portPresent (a % 0x100000 / 0x1000))

/-- A sequencer's register block or attachment touches a fused booth (R34, R69). -/
def Device.seqFused (d : Device) (n : Nat) : Bool :=
  (List.range 15).any (fun b => bit (d.get R.CAL_ATTACH_BOOTHS [n]) b && !d.boothPresent b)

/-! ### Memories -/

/-- Bytes in HBM, in offsets (R31): 24 GiB. -/
def hbmSize : Nat := 24 * 2 ^ 30

/-- What a byte of HBM that nothing has written reads as: the wipe leaves zero (R436). -/
def hbmFill : Byte := 0

/-- What a byte of host memory that nothing has written reads as: DESIGN CHOICE, log entry 7. -/
def hostFill : Byte := 0

/-- Read `n` bytes from a memory. -/
def readBytes (m : Sparse Byte) (fill : Byte) (a n : Nat) : List Byte :=
  (List.range n).map (fun i => m.get fill (a + i))

/-- Write bytes into a memory, in address order. -/
def writeBytes (m : Sparse Byte) (fill : Byte) : Nat → List Byte → Sparse Byte
  | _, [] => m
  | a, b :: bs => writeBytes (m.put fill a b) fill (a + 1) bs

/-- One byte of HBM. -/
def Device.hbmByte (d : Device) (off : Nat) : Byte := d.hbm.get hbmFill off

/-- One byte of host memory. -/
def Device.hostByte (d : Device) (a : Nat) : Byte := d.hostMem.get hostFill a

/-- Read bytes of HBM. -/
def Device.hbmRead (d : Device) (off n : Nat) : List Byte := readBytes d.hbm hbmFill off n

/-- Write bytes of HBM; a word written again is no longer marked uncorrectable (R433). -/
def Device.hbmWrite (d : Device) (off : Nat) (bs : List Byte) : Device :=
  { d with hbm := writeBytes d.hbm hbmFill off bs
           hst := { d.hst with badWords := d.hst.badWords.filter (fun w => !overlaps (w * 8) 8 off bs.length) } }

/-- Read bytes of host memory. -/
def Device.hostRead (d : Device) (a n : Nat) : List Byte := readBytes d.hostMem hostFill a n

/-- Write bytes of host memory. -/
def Device.hostWrite (d : Device) (a : Nat) (bs : List Byte) : Device :=
  { d with hostMem := writeBytes d.hostMem hostFill a bs }

/-- Memory with every listed byte of `[a, a+n)` taken out: it reads as the fill again. -/
def wipeRange (m : Sparse Byte) (a n : Nat) : Sparse Byte :=
  m.filter (fun e => !(decide (a ≤ e.1 ∧ e.1 < a + n)))

/-- Copy `n` bytes between memories: the listed bytes of the source range over a wiped destination range.
`same` tells that both ranges lie in one memory, which is read before it is written (R313). -/
def copySparse (src dst : Sparse Byte) (fill : Byte) (a b n : Nat) : Sparse Byte :=
  let moved := src.filter (fun e => decide (a ≤ e.1 ∧ e.1 < a + n))
  moved.foldl (fun m e => m.put fill (e.1 - a + b) e.2) (wipeRange dst b n)

/-! ### The Net windows -/

/-- The initiator classes a window can admit (R122). -/
inductive Client where
  | dma | port | bar4 | queue
  deriving DecidableEq, Repr

/-- The ATTR bit that admits an initiator class. -/
def Client.fld : Client → Fld
  | .dma => R.NET_WIN_ATTR_DMA
  | .port => R.NET_WIN_ATTR_PORT
  | .bar4 => R.NET_WIN_ATTR_BAR4
  | .queue => R.NET_WIN_ATTR_QUEUE

/-- Window `w` alone admits an access of `len` bytes (R125). -/
def Device.windowAdmits (d : Device) (w : Nat) (hbm write : Bool) (c : Client) (a len : Nat) : Bool :=
  d.flag R.NET_WIN_ATTR_VALID [w]
    && decide (d.flag R.NET_WIN_ATTR_SPACE [w] = hbm)
    && (if write then d.flag R.NET_WIN_ATTR_WR [w] else d.flag R.NET_WIN_ATTR_RD [w])
    && d.flag c.fld [w]
    && decide (d.get R.NET_WIN_BASE_BASE [w] ≤ a ∧ a + len ≤ d.get R.NET_WIN_LIMIT_LIMIT [w] + 1)

/-- Some single valid window contains the whole range and matches space, direction and class (R125). -/
def Device.netAdmits (d : Device) (hbm write : Bool) (c : Client) (a len : Nat) : Bool :=
  (List.range 64).any (fun w => d.windowAdmits w hbm write c a len)

/-- A range lies wholly inside one window with SPACE 0 and QUEUE set, in either direction (OPEN_MAILBOX). -/
def Device.queueWindow (d : Device) (a len : Nat) : Bool :=
  d.netAdmits false false .queue a len || d.netAdmits false true .queue a len

/-! ### Free values -/

/-- Take the next index of the random sources: the free value is `Config`'s constant applied to it. -/
def Device.draw (d : Device) : Nat × Device :=
  (d.ctl.draws, { d with ctl := { d.ctl with draws := d.ctl.draws + 1 } })

end Sys2Proof.Machine
end

