-- ==== Sys2Proof/Machine/Events.lean ====
section
/-! DEFINITION. Firing a Midway channel (R342 to R345, R349), the one way an event leaves a unit, and the MSI-X
message request of R427. A firing is recorded on its way; MIDWAY_DELIVER brings it to the consumers. -/

namespace Sys2Proof.Machine

/-- Channels EV252 to EV255 have fixed producers and configuration (R345). -/
def fixedChannel (c : Nat) : Bool := decide (252 ≤ c)

/-- The channel takes the asynchronous path (R343, R345). -/
def Device.chAsync (d : Device) (c : Nat) : Bool := fixedChannel c || d.flag R.MW_CH_CFG_ASYNC [c]

/-- The channel's owner: 0 Ringmaster, 1 host, 2 + n sequencer n (R349). -/
def Device.chOwner (d : Device) (c : Nat) : Nat := if fixedChannel c then 0 else d.get R.MW_CH_CFG_OWNER [c]

/-- The channel's software mode: 0 none, 1 FIRE, 2 WATCH (R349). -/
def Device.chMode (d : Device) (c : Nat) : Nat := if fixedChannel c then 2 else d.get R.MW_CH_CFG_SWMODE [c]

/-- The channel is SECURE (R349). -/
def Device.chSecure (d : Device) (c : Nat) : Bool := fixedChannel c || d.flag R.MW_CH_CFG_SECURE [c]

/-- Replace Midway's own state. -/
def Device.setMidway (d : Device) (m : MidwayX) : Device := { d with tim := { d.tim with midway := m } }

/-- Ticks counted since the tick domain started. -/
def Device.ticks (d : Device) : Nat := d.tim.time.ticks

/-- The tick domain runs (R343). -/
def Device.clockRuns (d : Device) : Bool := d.tim.time.running

/-- A firing of channel `c` now would merge with one already made: in the same tick while the tick domain runs
(R342); while it is stopped, with any firing of the channel still on its way (R343). -/
def Device.firingMerges (d : Device) (c : Nat) : Bool :=
  if d.clockRuns then decide (d.tim.midway.lastTick.get none c = some d.ticks)
  else d.tim.midway.flight.any (fun f => decide (f.ch = c))

/-- The watch bit, the Ringmaster's interrupt and FIRES for one firing of `c` (R349, RM_IRQ_PEND.EVENT). -/
def Device.firingMarks (d : Device) (c : Nat) : Device :=
  let d := d.bump R.MW_CH_CNT_FIRES [c]
  let d := if d.chMode c = 2 then
      d.wr R.MW_WATCH [c / 64] (d.rd R.MW_WATCH [c / 64] ||| BitVec.ofNat 64 (2 ^ (c % 64)))
    else d
  if d.chOwner c = 0 then d.setFlag R.RM_IRQ_PEND_EVENT [] true else d

/-- A producer fires channel `c`, with the producer's own stamp where it makes one (R342, R344). -/
def Device.fireStamped (d : Device) (c : Nat) (stamp : Option TT) : Device :=
  if d.firingMerges c then d.bump R.MW_CH_CNT_COLL [c]
  else
    let m := d.tim.midway
    let f : Firing := { ch := c, tick := d.ticks, tt := d.tt, resync := !d.chAsync c
                        stamp := if d.chAsync c then none else stamp }
    (d.setMidway { m with flight := m.flight ++ [f], lastTick := m.lastTick.put none c (some d.ticks) }).firingMarks c

/-- A producer without a stamp fires channel `c`. -/
def Device.fire (d : Device) (c : Nat) : Device := d.fireStamped c none

/-- Fire the channel a select field names, where its enable field is 1 (R342). -/
def Device.fireIf (d : Device) (en sel : Fld) (ix : List Nat) : Device :=
  if d.flag en ix then d.fire (d.get sel ix) else d

/-- Fire the channel a select field names, with a stamp, where its enable field is 1. -/
def Device.fireStampIf (d : Device) (en sel : Fld) (ix : List Nat) (stamp : TT) : Device :=
  if d.flag en ix then d.fireStamped (d.get sel ix) (some stamp) else d

end Sys2Proof.Machine
end

