-- ==== Sys2Proof/Machine/Curtains.lean ====
section
/-! DEFINITION. The parts of Curtain, the sequencers and the mailboxes that a fault touches as well as a command:
aborting a slot (R116), applying adopted BOUNDARY writes and the applied epochs (R111 to R114), adopting a roll
change (R87), and the layout of a response entry (R59). -/

namespace Sys2Proof.Machine

/-- Replace the control booth's own state. -/
def Device.setCtl (d : Device) (c : ControlX) : Device := { d with ctl := c }

/-! ### Transaction slots -/

/-- Slot `n`. -/
def Device.tx (d : Device) (n : Nat) : TxSlot := d.ctl.txs.get {} n

/-- Replace slot `n`. -/
def Device.setTx (d : Device) (n : Nat) (t : TxSlot) : Device :=
  d.setCtl { d.ctl with txs := d.ctl.txs.put {} n t }

/-- CUR_TXn_STAT.STATE: 0 FREE, 1 OPEN, 2 CHECKING, 3 ARMED, 4 ADOPTED, 5 ABORTED. -/
def Device.txState (d : Device) (n : Nat) : Nat := d.get R.CUR_TX_STAT_STATE [n]

/-- A mask with bit `n` set where `p n` holds. -/
def maskWhere (k : Nat) (p : Nat → Bool) : Nat := (List.range k).foldl (fun m n => if p n then m + 2 ^ n else m) 0

/-- CUR_STAT, and what NET_PORT_STAT shows of TX15, brought up to date (R112, R129). -/
def Device.showCurtain (d : Device) : Device :=
  let act := fun (n : Nat) => decide (d.txState n = 2 ∨ d.txState n = 3)
  let pend := fun (b : Nat) => d.ctl.pend.any (fun p => decide ((boothOf p.write.addr).getD 14 = b))
  let w := maskWhere 16 (fun n => decide (d.txState n = 1)) + maskWhere 16 act * 2 ^ 16 + maskWhere 15 pend * 2 ^ 32
    + b2n (act 15) * 2 ^ 47
  let d := d.wr R.CUR_STAT [] (BitVec.ofNat 64 w)
  let d := d.put R.NET_PORT_STAT_STATE [] (d.txState 15)
  let d := d.put R.NET_PORT_STAT_REASON [] (d.get R.CUR_TX_STAT_REASON [15])
  let d := d.put R.NET_PORT_STAT_COUNT [] (d.get R.CUR_TX_STAT_COUNT [15])
  d.put R.NET_PORT_STAT_ERR_INDEX [] (d.get R.CUR_TX_STAT_ERR_INDEX [15])

/-- A slot aborts (R116): the reason, the abort event and the Ringmaster's interrupt. -/
def Device.abortTx (d : Device) (n reason : Nat) : Device :=
  let d := d.put R.CUR_TX_STAT_STATE [n] 5
  let d := d.put R.CUR_TX_STAT_REASON [n] reason
  let d := (d.setFlag R.RM_IRQ_PEND_CURTAIN [] true).showCurtain
  d.fireIf R.CUR_TX_CTL_ABORT_EV_EN R.CUR_TX_CTL_ABORT_EV [n]

/-- The entries whose fields are held (R105): those a check has passed so far, all of an ARMED slot, and adopted writes that are
not applied yet. -/
def Device.heldWrites (d : Device) (but : Nat) : List MaskedWrite :=
  ((List.range 16).flatMap (fun m =>
    if m = but then []
    else if d.txState m = 3 then (d.tx m).entries
    else if d.txState m = 2 then (d.tx m).entries.take (d.tx m).passed
    else []))
    ++ d.ctl.pend.map (fun p => p.write)

/-- The fields of its register that a write covers, in whole or in part, as one mask. -/
def MaskedWrite.fields (w : MaskedWrite) : Word :=
  match findReg w.addr with
  | some (row, _) => row.maskOf (fun f => decide (f.mask &&& w.mask ≠ 0))
  | none => w.mask

/-- A field of the write is held by another transaction (R105). -/
def Device.isHeld (d : Device) (but : Nat) (w : MaskedWrite) : Bool :=
  (d.heldWrites but).any (fun h => decide (h.addr = w.addr ∧ h.fields &&& w.fields ≠ 0))

/-- The configuration as it will stand with these writes adopted: those adopted earlier and not applied yet stand in it (R102,
R112). -/
def Device.adopting (d : Device) (ws : List MaskedWrite) : Device := (d.overlay (d.ctl.pend.map (fun p => p.write))).overlay ws

/-! ### Adopted BOUNDARY writes -/

/-- The booth of a pending write. -/
def PendWrite.booth (p : PendWrite) : Nat := (boothOf p.write.addr).getD 14

/-- The applied epoch of a booth after its pending writes stand as they do (R114). -/
def Device.appliedEpoch (d : Device) (b : Nat) : Nat :=
  match d.ctl.pend.find? (fun p => decide (p.booth = b)) with
  | some p => (p.epoch + 2 ^ 32 - 1) % 2 ^ 32
  | none => d.epoch

/-- CUR_BEPOCHb of one booth brought up to date (R114). -/
def Device.refreshEpoch (d : Device) (b : Nat) : Device := d.put R.CUR_BEPOCH_EPOCH [b] (d.appliedEpoch b)

/-- APPLIED of every ADOPTED slot whose writes are all applied, none having been discarded (R119). -/
def Device.refreshApplied (d : Device) : Device :=
  (List.range 16).foldl (fun d n =>
    if d.txState n = 4 ∧ !(d.tx n).lost ∧ !(d.ctl.pend.any (fun p => decide (p.slot = n ∧ p.epoch = (d.tx n).epoch))) then
      d.setFlag R.CUR_TX_STAT_APPLIED [n] true
    else d) d.showCurtain

/-- Apply, in adoption order, the pending writes that `sel` picks, and release their fields (R105, R111). -/
def Device.settle (d : Device) (sel : PendWrite → Bool) : Device :=
  let now := d.ctl.pend.filter sel
  let d := d.setCtl { d.ctl with pend := d.ctl.pend.filter (fun p => !sel p) }
  let d := now.foldl (fun d p => d.apply p.write) d
  let d := now.foldl (fun d p => d.refreshEpoch p.booth) d
  d.refreshApplied

/-- Apply the pending writes of one register whose transaction was adopted no later than `tb` (R111). -/
def Device.settleAt (d : Device) (tb : TT) (sel : Nat → Bool) : Device :=
  d.settle (fun p => sel p.write.addr && ttGe tb p.ttc)

/-- The write lies in the register block of engine `e` (R118). -/
def inEngine (e a : Nat) : Bool := decide (0x09200000 + e * 0x20000 ≤ a ∧ a < 0x09200000 + (e + 1) * 0x20000)

/-- The faulted scope of R118: a port booth, or one engine's block. -/
def inScope (booth : Nat) (engine : Option Nat) (a : Nat) : Bool :=
  match engine with
  | some e => inEngine e a
  | none => decide (boothOf a = some booth)

/-- Curtain at a contained fault (R118). -/
def Device.curtainContained (d : Device) (booth : Nat) (engine : Option Nat) : Device :=
  let d := (List.range 16).foldl (fun d n =>
    if (d.txState n = 2 ∨ d.txState n = 3) ∧ (d.tx n).entries.any (fun w => inScope booth engine w.addr) then
      d.abortTx n 6
    else d) d
  d.settle (fun p => inScope booth engine p.write.addr)

/-- The address of CAL_CTL of sequencer `n`, where BANK and ENTRY are staged. -/
def calCtlAddr (n : Nat) : Nat := R.CAL_CTL.addr [n]

/-- The address is that of a sequencer's CAL_CTL. -/
def isCalCtl (a : Nat) : Bool := (List.range 16).any (fun n => decide (a = calCtlAddr n))

/-- Curtain at a device fault (R119): every OPEN, CHECKING or ARMED slot aborts; pending writes are applied, but in
the motion booth, where they are discarded and CUR_BEPOCH12 keeps its value (R42); a pending change of BANK or ENTRY is
adopted by its sequencer as it stops (R87, R93). -/
def Device.curtainDeviceFault (d : Device) : Device :=
  let d := (List.range 16).foldl (fun d n =>
    if d.txState n = 1 ∨ d.txState n = 2 ∨ d.txState n = 3 then d.abortTx n 6 else d) d
  let d := d.settle (fun p => decide (p.booth ≠ 12) && !isCalCtl p.write.addr)
  let gone := d.ctl.pend.filter (fun p => decide (p.booth = 12))
  let d := d.setCtl { d.ctl with pend := d.ctl.pend.filter (fun p => decide (p.booth ≠ 12)) }
  let d := gone.foldl (fun (d : Device) p =>
    if (d.tx p.slot).epoch = p.epoch then d.setTx p.slot { d.tx p.slot with lost := true } else d) d
  d.refreshApplied

/-! ### Sequencers -/

/-- Sequencer `n` beside its registers. -/
def Device.seq (d : Device) (n : Nat) : SeqX := d.ctl.seqs.get {} n

/-- Replace it. -/
def Device.setSeq (d : Device) (n : Nat) (x : SeqX) : Device :=
  d.setCtl { d.ctl with seqs := d.ctl.seqs.put {} n x }

/-- A BANK or ENTRY change awaits a swap point (R87). -/
def Device.swapPending (d : Device) (n : Nat) : Bool :=
  d.ctl.pend.any (fun p => decide (p.write.addr = calCtlAddr n))

/-- The roll of the active bank. -/
def Device.roll (d : Device) (n : Nat) : Roll :=
  if d.flag R.CAL_CTL_BANK [n] then (d.seq n).bank1 else (d.seq n).bank0

/-- CAL_STAT.STATE: 0 IDLE, 1 RUN, 2 WAIT, 3 HALTED, 4 FAULTED. -/
def Device.seqState (d : Device) (n : Nat) : Nat := d.get R.CAL_STAT_STATE [n]

/-- Enter a state; RUN reads 1 exactly in RUN and WAIT (R88). -/
def Device.setSeqState (d : Device) (n st : Nat) : Device :=
  (d.put R.CAL_STAT_STATE [n] st).setFlag R.CAL_CTL_RUN [n] (decide (st = 1 ∨ st = 2))

/-- What follows every adoption of a BANK or ENTRY change away from a swap point (R87): the flags clear and PC is
ENTRY of the adopted bank; the next start begins that step from its words. -/
def Device.rebind (d : Device) (n : Nat) : Device :=
  let d := d.put R.CAL_STAT_PC [n] (d.get R.CAL_CTL_ENTRY [n])
  let d := d.wr R.CAL_FLAGS [n] 0
  let d := d.setFlag R.CAL_STAT_SWAP_PENDING [n] false
  d.setSeq n { d.seq n with entered := false, count := 0, late := false, timedOut := false }

/-- Adopt a pending BANK or ENTRY change at once, as at a halt (R87). -/
def Device.adoptSwap (d : Device) (n : Nat) : Device :=
  if d.swapPending n then (d.settle (fun p => decide (p.write.addr = calCtlAddr n))).rebind n else d

/-- The sequencers attached to a booth (R34, R69). -/
def Device.attached (d : Device) (n b : Nat) : Bool := bit (d.get R.CAL_ATTACH_BOOTHS [n]) b

/-- A contained fault of a booth puts every sequencer attached to it into FAULTED with code SCOPE (R92). DEDUCED (log entry 132):
"every" takes in one that is IDLE, HALTED or FAULTED already, although R89's table shows no such change. -/
def Device.sequencersContained (d : Device) (b : Nat) : Device :=
  (List.range 16).foldl (fun d n =>
    if d.attached n b then
      let pc := d.get R.CAL_STAT_PC [n]
      let d := d.setSeqState n 4
      let d := d.put R.CAL_FAULT_CODE [n] 4
      let d := d.put R.CAL_FAULT_STEP [n] pc
      let d := d.put R.CAL_FAULT_WORD [n] 0
      d.adoptSwap n
    else d) d

/-- Every sequencer at a device fault (R93): IDLE, with counters, time registers and flags cleared. -/
def Device.sequencersDeviceFault (d : Device) : Device :=
  (List.range 16).foldl (fun d n =>
    let d := d.adoptSwap n
    let d := d.setSeqState n 0
    let d := (List.range 8).foldl (fun d k => d.wr R.CAL_CNT [n, k] 0) d
    let d := (List.range 4).foldl (fun d k => d.wr R.CAL_T [n, k] 0) d
    let d := d.wr R.CAL_FLAGS [n] 0
    d.setSeq n { d.seq n with entered := false, count := 0, late := false, timedOut := false }) d

/-! ### Response entries -/

/-- A response entry (R59). -/
def responseBytes (opcode tag len status seq epoch : Nat) (tt : TT) (rflags outLen : Nat) (payload : List Byte) :
    List Byte :=
  layout [(2, opcode), (2, tag), (2, len), (2, status), (4, seq), (4, epoch), (8, tt.toNat), (2, rflags), (2, 0), (4, outLen)]
    ++ fit 32 payload

/-- BMB_SLOTn: 64 bytes (R51). -/
def Device.slot (d : Device) (n : Nat) : List Byte := fit 64 (d.ctl.slots.get [] n)

/-- Replace BMB_SLOTn. -/
def Device.setSlot (d : Device) (n : Nat) (bs : List Byte) : Device :=
  d.setCtl { d.ctl with slots := d.ctl.slots.put [] n (fit 64 bs) }

/-- The indivisible update of R51: status and tag of the slot into BMB_CTLn, RING cleared, DONE set. -/
def Device.bmbUpdate (d : Device) (n : Nat) : Device :=
  let s := d.slot n
  let d := d.put R.BMB_CTL_STATUS [n] (fieldAt s 6 2)
  let d := d.put R.BMB_CTL_TAG [n] (fieldAt s 2 2)
  let d := (d.setFlag R.BMB_CTL_RING [n] false).setFlag R.BMB_CTL_HELD [n] false
  let d := d.setFlag R.BMB_CTL_DONE [n] true
  d.put R.RM_BMB_PEND_PEND [] (d.get R.RM_BMB_PEND_PEND [] &&& (255 - 2 ^ n))

/-- The device completes every rung bootstrap mailbox with DISCARDED at a device fault (R54). -/
def Device.bmbDiscard (d : Device) : Device :=
  let d := (List.range 8).foldl (fun d n =>
    if d.flag R.BMB_CTL_RING [n] then
      let s := d.slot n
      let r := responseBytes (fieldAt s 0 2) (fieldAt s 2 2) 0 0x0301 (fieldAt s 8 4) d.epoch d.tt 1 0 []
      (d.setSlot n r).bmbUpdate n
    else d) d
  d.setCtl { d.ctl with works := d.ctl.works.filter (fun w => match w.via with | .boot _ => false | .queue _ => true) }

/-- Sequence numbers of the mailbox's started commands whose final response is not in the response queue: still at work, waiting
for the queue, or waiting for Bus Master Enable (R62, R65, R425). -/
def Device.unanswered (d : Device) (k : Nat) : List Nat :=
  (d.ctl.works.filter (fun w => match w.via with
    | .queue q => decide (q.val = k)
    | .boot _ => false)).map (·.seq)
  ++ (d.ctl.owed.filter (fun r => decide (r.box = k) && r.final)).map (·.seq)
  ++ (d.hst.stalled.filter (fun s => decide (s.1 = 2 * k + 1) && bit (fieldAt s.2 24 2) 0)).map (fun s => fieldAt s.2 8 4)

/-- The last-completed value S of a mailbox command queue (R65): one below the earliest command without its final response, the
last one started where all have it. DESIGN CHOICE (log entry 112): 0 for a mailbox that has started no command. -/
def Device.mailboxS (d : Device) (k : Nat) : Nat :=
  match (d.ctl.mailboxes.get {} k).expected with
  | none => 0
  | some e =>
    let back := (d.unanswered k).foldl (fun b s => max b ((e + 2 ^ 32 - s) % 2 ^ 32)) 0
    (e + 2 ^ 33 - back - 1) % 2 ^ 32

end Sys2Proof.Machine
end

