-- ==== Sys2Proof/Machine/Booths.lean ====
section
/-! DEFINITION. The port booths' own state beside their registers. -/

namespace Sys2Proof.Machine

/-- The indices of lane `l`: booth and unit (R144). -/
def lx (l : Nat) : List Nat := [l / 2, l % 2]

/-- A lane beside its registers. -/
def Device.lane (d : Device) (l : Nat) : LaneX := d.prt.lanes.get {} l

/-- Replace it. -/
def Device.setLane (d : Device) (l : Nat) (x : LaneX) : Device :=
  { d with prt := { d.prt with lanes := d.prt.lanes.put {} l x } }

/-- A port booth beside its registers. -/
def Device.bth (d : Device) (p : Nat) : BoothX := d.prt.booths.get {} p

/-- Replace it. -/
def Device.setBth (d : Device) (p : Nat) (x : BoothX) : Device :=
  { d with prt := { d.prt with booths := d.prt.booths.put {} p x } }

/-- The port protocol unit. -/
def Device.prtx (d : Device) (p : Nat) : PortX := (d.bth p).port

/-- Replace it. -/
def Device.setPrt (d : Device) (p : Nat) (x : PortX) : Device := d.setBth p { d.bth p with port := x }

/-- A capture stream. -/
def Device.cap (d : Device) (p k : Nat) : CapX := (d.bth p).caps.get {} k

/-- Replace it. -/
def Device.setCap (d : Device) (p k : Nat) (x : CapX) : Device :=
  let b := d.bth p
  d.setBth p { b with caps := b.caps.put {} k x }

/-- A frame of the stream is open: begun and not closed. -/
def CapX.isOpen (c : CapX) : Bool := c.frames.any (fun f => !f.closed)

/-- A frame of the port is open for capture or is being emitted (R135). -/
def Device.frameOpen (d : Device) (p : Nat) : Bool :=
  (d.bth p).caps.any (fun e => e.2.isOpen) || d.flag R.PP_STAT_EMITTING [p]

/-- The port whose protocol lane `l` serves: the borrowing port below for a lent pair (R23). -/
def Device.portOfLane (d : Device) (l : Nat) : Nat := if d.lent (l / 2) then l / 2 - 1 else l / 2

/-- How many lanes a port mode uses (R174). -/
def modeLanes (m : Nat) : Nat := if m = 0 then 0 else if m = 5 ∨ m = 7 then 2 else if m = 8 then 4 else if m ≤ 9 then 1 else 0

/-- The logical lanes of port `p` (R174). -/
def Device.portLanes (d : Device) (p : Nat) : List Nat :=
  (List.range (modeLanes (d.get R.PP_CTL_MODE [p]))).map (fun i => 2 * p + i)

end Sys2Proof.Machine
end

