-- ==== Sys2Proof/Machine/FaultUnits.lean ====
section
/-! DEFINITION. Each unit's share of a contained or a device fault (R136, R137, R319, R320, R364, R365), as the unit's
own chapter states it. -/

namespace Sys2Proof.Machine

/-- A DMA channel beside its registers. -/
def Device.chan (d : Device) (e c : Nat) : DmaX := d.dlv.chans.get {} (e * 16 + c)

/-- Replace it. -/
def Device.setChan (d : Device) (e c : Nat) (x : DmaX) : Device :=
  { d with dlv := { d.dlv with chans := d.dlv.chans.put {} (e * 16 + c) x } }

/-- A queue context (R294). -/
def Device.ctx (d : Device) (q : Nat) : QCtx := d.dlv.ctxs.get {} q

/-- DMA_CHn_STAT.STATE: 0 IDLE, 1 READY, 2 RUN, 3 PAUSED, 4 BLOCKED, 5 FAULTED. -/
def Device.chState (d : Device) (e c : Nat) : Nat := d.get R.DMA_CH_STAT_STATE [e, c]

/-- The channel has an active set. -/
def Device.chActive (d : Device) (e c : Nat) : Bool := decide (1 ≤ d.chState e c ∧ d.chState e c ≤ 4)

/-- The channel's sets carry a payload that `p` picks: its active set's port, or its armed set's. -/
def Device.setBound (d : Device) (e c : Nat) (p : Nat → Bool) : Bool × Bool :=
  (d.chActive e c && d.flag R.DMA_CH_A_OPT_BOUND [e, c] && p (d.get R.DMA_CH_A_OPT_BPORT [e, c]),
   d.flag R.DMA_CH_CTL_ARM [e, c] && d.flag R.DMA_CH_OPT_BOUND [e, c] && p (d.get R.DMA_CH_OPT_BPORT [e, c]))

/-- The pair (CQ, S) of a channel whose sets a fault discards (R141), where CQ is open as a completion queue: all sets for an engine or device fault, the
bound sets for a port's. -/
def Device.setPair (d : Device) (e c : Nat) (p : Nat → Bool) : List Nat :=
  let any := p 8
  let hit := if any then d.chActive e c || d.flag R.DMA_CH_CTL_ARM [e, c]
             else (d.setBound e c p).1 || (d.setBound e c p).2
  if hit then
    let q := if d.chActive e c then (d.chan e c).cq else d.get R.DMA_CH_CFG_CQ [e, c]
    if (d.ctx q).kind = 4 then [q, (d.ctx q).count.toNat] else []
  else []


/-- Both sets of a channel are discarded and ARM clears; no record is given (R319). -/
def Device.dropSets (d : Device) (e c st : Nat) : Device :=
  let d := d.setFlag R.DMA_CH_CTL_ARM [e, c] false
  let d := d.put R.DMA_CH_STAT_STATE [e, c] st
  let d := d.put R.DMA_CH_A_LEN_LEN [e, c] 0
  d.setChan e c { d.chan e c with held := none }

/-- Commands answered ACCEPTED whose work lay in the faulted scope are to be answered DISCARDED (R142). -/
def Device.killWorks (d : Device) (scope : Nat) : Device :=
  d.setCtl { d.ctl with works := d.ctl.works.map (fun w => if w.scope = scope then { w with dead := true } else w) }

/-- A contained fault of engine `e` (R118, R136, R319). -/
def Device.engineBoothFault (d : Device) (e reason : Nat) : Device :=
  let d := d.curtainContained 8 (some e)
  let d := (List.range 16).foldl (fun d c => d.dropSets e c 5) d
  let d := d.put R.DMA_ENG_STAT_STATE [e] 1
  let d := d.setFlag R.DMA_ENG_STAT_BUSY [e] false
  let d := d.put R.DMA_ENG_STAT_REASON [e] reason
  d.killWorks (16 + e)

/-- The sets bound to port `p` are discarded; the engine runs on (R136, R319). -/
def Device.dropBoundSets (d : Device) (p : Nat) : Device :=
  (List.range 32).foldl (fun d e => (List.range 16).foldl (fun d c =>
    let hit := d.setBound e c (fun q => decide (q = p))
    let d := if hit.2 then d.setFlag R.DMA_CH_CTL_ARM [e, c] false else d
    if hit.1 then
      let running := d.flag R.DMA_ENG_STAT_BUSY [e] && decide (d.get R.DMA_ENG_STAT_CUR [e] = c)
      let d := if running then d.setFlag R.DMA_ENG_STAT_BUSY [e] false else d
      let d := d.setChan e c { d.chan e c with held := none }
      d.put R.DMA_CH_STAT_STATE [e, c] 0
    else d) d) d

/-! ### Barker and the pins -/

/-- A Barker program beside its registers. -/
def Device.prog (d : Device) (p : Nat) : ProgramX := d.tim.programs.get {} p

/-- Replace it. -/
def Device.setProg (d : Device) (p : Nat) (x : ProgramX) : Device :=
  { d with tim := { d.tim with programs := d.tim.programs.put {} p x } }

/-- The FLAGS of a fire record (R356). -/
def Fire.flagsByte (f : Fire) : Nat :=
  let late := ((List.range 4).map (fun i => match f.acts[i]? with
    | some a => b2n a.late * 2 ^ i
    | none => 0)).foldl (· + ·) 0
  late + 16 * b2n f.interp + 32 * b2n f.stamped + 64 * b2n f.skewed + 128 * b2n f.dropped

/-- What becomes known of a fire once its record stands is entered there: an act found late, a pulse dropped (R355,
R358). -/
def Device.reviseRecord (d : Device) (p n : Nat) : Device :=
  match (d.prog p).fires.find? (fun f => decide (f.count = n) && f.recorded) with
  | none => d
  | some f => d.setProg p { d.prog p with hist := (d.prog p).hist.map (fun r =>
      if fieldAt r 8 8 = n then patch r 24 (leBytes 1 f.flagsByte) else r) }

/-- A trigger pin beside its registers. -/
def Device.pin (d : Device) (p : Nat) : PinX := d.tim.pins.get {} p

/-- Replace it. -/
def Device.setPin (d : Device) (p : Nat) (x : PinX) : Device :=
  { d with tim := { d.tim with pins := d.tim.pins.put {} p x } }

/-- A program disarmed by a fault: EN 0, every act not yet taken place cancelled, committed or not (R364, R365). A fire that
BK_FIRES has counted still has its record written (R356). -/
def Device.disarmFault (d : Device) (p : Nat) : Device :=
  let d := d.setFlag R.BK_CTL_EN [p] false
  let d := d.put R.BK_STAT_STATE [p] 0
  let d := d.setFlag R.BK_STAT_PREDICTING [p] false
  let owed := ((d.prog p).fires.filter (fun f => f.crossed && !f.recorded)).map (fun f =>
    { f with acts := f.acts.map (fun a => { a with committed := true, done := true }) })
  let d := d.setProg p { d.prog p with armed := false, fires := owed }
  let d := (List.range 8).foldl (fun d n =>
    d.setPrt n { d.prtx n with trigs := (d.prtx n).trigs.filter (fun t => decide (t.prog ≠ p)) }) d
  (List.range 16).foldl (fun d i =>
    d.setPin i { d.pin i with pulses := (d.pin i).pulses.filter (fun u => decide (u.prog ≠ p) || u.started) }) d

/-- Program `b` has a target on port `n` (R136, R364). -/
def Device.targetsPort (d : Device) (b n : Nat) : Bool :=
  (List.range 4).any (fun t => decide (d.get R.BK_TGT_KIND [b, t] = 2 ∧ d.get R.BK_TGT_INDEX [b, t] = n))

/-- The inactive level an output pin drives (R358, R365). -/
def Device.pinLevelIdle (d : Device) (p : Nat) : Bool := d.flag R.NET_PIN_IDLE [p]

/-- Barker and the pins at a device fault (R365). -/
def Device.barkerDeviceFault (d : Device) : Device :=
  let d := (List.range 32).foldl Device.disarmFault d
  let d := (List.range 16).foldl (fun d i =>
    if d.flag R.TRG_CTL_DIR [i] then
      let d := d.setPin i { d.pin i with pulses := [], heldIdle := true, level := d.pinLevelIdle i }
      (d.setFlag R.TRG_STAT_DRIVING [i] false).setFlag R.TRG_STAT_LEVEL [i] (d.pinLevelIdle i)
    else d) d
  ((({ d with tim := { d.tim with actions := [] } }).put R.BK_ACT_POP_COUNT [] 0).wr R.BK_ACT_HEAD [] 0).wr R.BK_ACT_INFO [] 0

/-! ### Time base -/

/-- Replace the time base's own state. -/
def Device.setTime (d : Device) (t : TimeX) : Device := { d with tim := { d.tim with time := t } }

/-- TB_SLEW_REM shows the remainder in 1/65,536 ns (R328). -/
def Device.showSlew (d : Device) : Device :=
  let d := d.wr R.TB_SLEW_REM [] (BitVec.ofInt 64 (d.tim.time.slewRem / 65536))
  d.setFlag R.TB_STAT_SLEWING [] d.tim.time.slewing

/-- A running slew stops with its remainder left in TB_SLEW_REM (R328, R337). -/
def Device.abortSlew (d : Device) : Device := (d.setTime { d.tim.time with slewing := false }).showSlew

/-- The time base at a device fault (R337): a pending step discarded, a slew aborted, the servo stopped (R137). -/
def Device.timeDeviceFault (d : Device) : Device :=
  let d := d.setTime { d.tim.time with step := none }
  let d := d.setFlag R.TB_STEP_CTL_BUSY [] false
  let d := d.setFlag R.TB_STAT_STEP_PEND [] false
  let d := if d.tim.time.slewing then d.abortSlew else d
  { d with tim := { d.tim with servo := { d.tim.servo with state := 0 } } }

/-! ### The engines, the Ringmaster and the booths -/

/-- The engines at a device fault (R137, R320). -/
def Device.enginesDeviceFault (d : Device) : Device :=
  (List.range 32).foldl (fun d e =>
    let d := (List.range 16).foldl (fun d c => d.dropSets e c 5) d
    (d.put R.DMA_ENG_STAT_STATE [e] 2).setFlag R.DMA_ENG_STAT_BUSY [e] false) d

/-- A flash range whose erase and write are broken off holds anything. -/
def FlashJob.broken (j : FlashJob) (draw : Nat) (flash : Sparse Byte) : Sparse Byte :=
  writeBytes flash 255 j.addr ((List.range j.data.length).map (Config.openByte draw))

/-- Firmware's flash jobs are broken off (R50, R438). -/
def Device.breakFlash (d : Device) : Device :=
  let n := d.ctl.draws
  let x := d.sec
  let d := if x.jobs = [] then d else d.setCtl { d.ctl with draws := n + 1 }
  { d with sec := { x with flash := x.jobs.foldl (fun (f : Sparse Byte) (j : FlashJob) => j.broken n f) x.flash, jobs := [] } }

/-- A final response that was still to be written as a command lost to a fault (R65). -/
def Response.lost (r : Response) (k : Fin 256) : Work :=
  { via := .queue k, opcode := r.opcode, tag := r.tag, seq := r.seq, key := [], dead := true }

/-- A stalled append to a response queue: what it answers, where it is a final response. -/
def stalledFinal (s : Nat × List Byte) : Option Work :=
  if 2 ≤ s.1 ∧ s.1 < 512 ∧ s.1 % 2 = 1 ∧ bit (fieldAt s.2 24 2) 0 then
    some { via := .queue (Fin.ofNat 256 (s.1 / 2)), opcode := fieldAt s.2 0 2, tag := fieldAt s.2 2 2, seq := fieldAt s.2 8 4
           key := [], dead := true }
  else none

/-- How far a lost command of a queue mailbox lies behind the number expected next (R65). -/
def Device.backOf (d : Device) (w : Work) : Nat :=
  match w.via with
  | .boot _ => 0
  | .queue k => ((d.ctl.mailboxes.get {} k.val).expected.getD 0 + 2 ^ 32 - w.seq) % 2 ^ 32

/-- Enter a lost command before the later ones of its mailbox. -/
def Device.insertLost (d : Device) (w : Work) : List Work → List Work
  | [] => [w]
  | x :: xs => if w.via = x.via ∧ d.backOf x < d.backOf w then w :: x :: xs else x :: d.insertLost w xs

/-- Firmware forgets at a restart (R50, R65): every started command whose final response is not in its response queue is to be
answered DISCARDED; interim answers still to be written are gone. -/
def Device.loseAnswers (d : Device) : Device :=
  let run := d.ctl.works.map (fun w => { w with dead := true })
  let owed := (d.ctl.owed.filter (fun r => r.final)).map (fun r => r.lost (Fin.ofNat 256 r.box))
  let still := d.hst.stalled.filterMap stalledFinal
  let d := d.setCtl { d.ctl with works := (owed ++ still).foldl (fun ws w => d.insertLost w ws) run, owed := [] }
  { d with hst := { d.hst with stalled := d.hst.stalled.filter (fun s => !(decide (2 ≤ s.1 ∧ s.1 < 512))) } }

/-- The Ringmaster at a device fault (R50): halted and restarted at the reset vector, its SRAM and HBM region
wiped, READY cleared; the watchdog starts anew with TIMEOUT 2,000 ms and LOCK 0. DESIGN CHOICE (log entry 85): EARLY, BAD_KICK,
RM_IRQ_PEND and RM_IRQ_EN keep their values. -/
def Device.ringmasterRestart (d : Device) : Device :=
  let d := d.breakFlash.put R.RM_STATUS_STAGE [] 2
  let d := d.setCtl { d.ctl with sram := [], alone := [], kickHalf := false, wdtNs := 0, wdtHalf := false }
  let d := { d with hbm := wipeRange d.hbm 0 0x20000000 }
  let d := d.put R.RM_WDT_CTL_TIMEOUT [] 2000
  let d := d.put R.RM_WDT_STAT_REMAIN [] 2000
  let d := (d.setFlag R.RM_WDT_CTL_LOCK [] false).setFlag R.HM_READY_SET [] false
  let d := d.loseAnswers
  (d.setFlag R.DEV_STATUS_READY [] false).setFlag R.DEV_STATUS_HALTED [] true

/-- Every present booth but the motion booth becomes HALTED (R137, R42). -/
def Device.boothsHalt (d : Device) : Device :=
  (List.range 15).foldl (fun d b =>
    if b ≠ 12 ∧ d.boothPresent b then d.put R.BOOTH_STATE_STATE [b] 3 else d) d

/-! ### Palette -/

/-- A Palette channel beside its registers. -/
def Device.pal (d : Device) (p c : Nat) : PalX := (d.bth p).pals.get {} c

/-- Replace it. -/
def Device.setPal (d : Device) (p c : Nat) (x : PalX) : Device :=
  let b := d.bth p
  d.setBth p { b with pals := b.pals.put {} c x }

/-- EMITTING of a channel, ACTIVE, and EMITTING of the port. -/
def Device.showPal (d : Device) (p : Nat) : Device :=
  let on := fun (c : Nat) => !(d.pal p c).frames.isEmpty
  let d := (List.range 4).foldl (fun d c => d.setFlag R.PAL_CH_STAT_EMITTING [p, c] (on c)) d
  let m := ((List.range 4).map (fun c => b2n (on c) * 2 ^ c)).foldl (· + ·) 0
  (d.put R.PAL_STAT_ACTIVE [p] m).setFlag R.PP_STAT_EMITTING [p] (decide (m ≠ 0))

/-- Palette at a fault of its booth (R289): it stops, and fetched lines are discarded. -/
def Device.paletteFault (d : Device) (p : Nat) : Device :=
  ((List.range 4).foldl (fun d c =>
    d.setPal p c { d.pal p c with frames := [], fetched := [], crcs := [], due := none, held := [] }) d).showPal p

/-! ### Port booths -/

/-- The queues stream `k` of port `p` would still append tags to: its frames', and the configured one while it is enabled. -/
def Device.streamQueues (d : Device) (p k : Nat) : List Nat :=
  (d.cap p k).frames.map (fun f => f.cfg.queue) ++ (if d.flag R.CAP_SC_CTL_EN [p, k] then [d.get R.CAP_SC_Q_QUEUE [p, k]] else [])

/-- The pairs (queue, S) of a port's streams whose queue is open for tags (R141). -/
def Device.streamPairs (d : Device) (p : Nat) : List Nat :=
  (List.range 64).flatMap (fun k => ((d.streamQueues p k).filter (fun q => decide ((d.ctx q).kind = 3))).flatMap (fun q =>
    [q, ((d.cap p k).lastTag.getD 0xFFFFFFFF) % 2 ^ 32]))

/-- One stream at a fault of its booth (R241, R242): FIFO, frames and undelivered slots go, and the next tag carries
GAP. -/
def Device.captureFault (d : Device) (p k : Nat) : Device :=
  let c := d.cap p k
  let lost := d.flag R.CAP_SC_CTL_EN [p, k] || !c.frames.isEmpty
  let d := d.setCap p k { c with armed := false, line := none, fifo := [], owesDamaged := false, owesLostEol := false
                                 frames := [], gap := c.gap || lost }
  let d := d.wr R.CAP_LF [p, k] 0
  d.setFlag R.CAP_SC_STAT_FRAME_OPEN [p, k] false

/-- The units of one port booth at a fault: capture, Swatch and Mordant slices, protocol unit, Palette (R136, R210,
R241, R270). -/
def Device.boothUnitsFault (d : Device) (p : Nat) : Device :=
  let d := (d.bth p).caps.foldl (fun d e => d.captureFault p e.1) d
  let d := d.setBth p { d.bth p with seals := [] }
  let d := d.put R.MS_STAT_WAITING [p] 0
  let d := d.setPrt p { d.prtx p with cur := none, trigs := [], fires := [], ccTx := [], pkts := [], cal := none, link := none, ccReqs := [], resend := [] }
  d.paletteFault p

/-- A contained fault's effects on one port booth (R136, R118, R92, R364, R142). -/
def Device.portBoothFault (d : Device) (p : Nat) : Device :=
  let d := d.put R.BOOTH_STATE_STATE [p] 2
  let d := d.curtainContained p none
  let d := d.sequencersContained p
  let d := d.boothUnitsFault p
  let d := d.dropBoundSets p
  let d := (List.range 32).foldl (fun d b => if d.targetsPort b p then d.disarmFault b else d) d
  d.killWorks p

/-! ### Motion -/

/-- An axis beside its registers. -/
def Device.axis (d : Device) (a : Nat) : AxisX := d.mot.axes.get {} a

/-- Replace it. -/
def Device.setAxis (d : Device) (a : Nat) (x : AxisX) : Device :=
  { d with mot := { d.mot with axes := d.mot.axes.put {} a x } }

/-- Nothing moves: the profile stands. -/
def AxisX.still (x : AxisX) : Bool := decide (x.vel = 0 ∧ x.run = 0)

/-- The driver is switched off at rest: STANDSTILL decides whether HOMED stays (R406). -/
def Device.axisOff (d : Device) (a : Nat) : Device :=
  let d := d.setFlag R.CD_STAT_EN_OUT [a] false
  if d.flag R.MP_CFG_STANDSTILL [a] then d else d.setFlag R.MP_STAT_HOMED [a] false

/-- At rest under R42: held at I_HOLD where the Net says so, otherwise disabled (R408). -/
def Device.axisFaultRest (d : Device) (a : Nat) : Device :=
  if d.get R.MP_STAT_STATE [a] = 0 ∨ d.get R.MP_STAT_STATE [a] = 5 then d
  else if d.flag R.NET_AX_DRV_FAULT_HOLD [a] then d.put R.MP_STAT_STATE [a] 1
  else
    let d := (d.setFlag R.CD_CTL_EN [a] false).put R.MP_STAT_STATE [a] 0
    d.axisOff a

/-- RESTING of the supervisor, and the motion booth's state under R42: RUN while an axis moves, then HALTED. -/
def Device.showResting (d : Device) : Device :=
  let m := ((List.range 4).map (fun a => if (d.axis a).still then 2 ^ a else 0)).foldl (· + ·) 0
  let d := d.put R.MSV_STAT_RESTING [] m
  if d.flag R.MSV_STAT_TAKEN [] then d.put R.BOOTH_STATE_STATE [12] (if m = 15 then 3 else 1) else d

/-- The motion booth at a device fault (R42, R408): the supervisor takes it, moving axes stop, homing is abandoned. -/
def Device.motionDeviceFault (d : Device) : Device :=
  let d := d.setFlag R.MSV_STAT_TAKEN [] true
  let d := (List.range 4).foldl (fun d a =>
    let x := d.axis a
    let x := { x with goReq := false, stopReq := false, setReq := false, homeReq := false, startReq := false, home := 0, wake := none }
    let d := d.setFlag R.MP_STAT_ARMED [a] false
    if x.still then (d.setAxis a x).axisFaultRest a
    else (d.setAxis a { x with run := 2, ramp := false, endCause := 1 }).put R.MP_STAT_STATE [a] 3) d
  d.showResting

/-- VOUT for a voltage in mV, by the exponent of PW_AVS_CFG (R477). -/
def Device.voutOf (d : Device) (mv : Nat) : Nat :=
  let e := sgn 5 (d.get R.PW_AVS_CFG_EXP [])
  if e ≤ 0 then (mv * 2 ^ (-e).toNat + 500) / 1000 else (mv + 500 * 2 ^ e.toNat) / (1000 * 2 ^ e.toNat)

/-- VREQ takes a value, and the AVS port, once configured, commands it (R476, R477). -/
def Device.setVreq (d : Device) (mv : Nat) : Device :=
  if d.get R.PW_PACE_STAT_VREQ [] = mv then d
  else
    let d := d.put R.PW_PACE_STAT_VREQ [] mv
    { d with pow := { d.pow with vreqTT := d.tt, vout := if d.flag R.PW_AVS_CFG_VALID [] then d.voutOf mv else d.pow.vout } }

/-- The AVS target at a device fault: VMAX until the pace loop restarts after READY (R137). -/
def Device.powerDeviceFault (d : Device) : Device :=
  let d := d.setVreq (d.get R.NET_VCORE_VMAX [])
  { d with pow := { d.pow with holdMax := true } }

/-- Every unit's share of a device fault but the Ringmaster's, Curtain's and the sequencers' (R137). -/
def Device.unitsDeviceFault (d : Device) : Device :=
  let d := (List.range 8).foldl (fun d p => if d.portPresent p then d.boothUnitsFault p else d) d
  d.barkerDeviceFault.timeDeviceFault.enginesDeviceFault.motionDeviceFault.powerDeviceFault

end Sys2Proof.Machine
end

