-- ==== Sys2Proof/Machine/Faults.lean ====
section
/-! DEFINITION. The fault logger (R140), Net violations and storms (R132, R133), and taking a contained or a
device fault (R135 to R142), each as ONE operation that every unit's meaning calls. -/

namespace Sys2Proof.Machine

/-- Replace the fault logger's state. -/
def Device.setLogger (d : Device) (l : LoggerX) : Device := { d with ctl := { d.ctl with logger := l } }

/-- The record as made at detection, before it is numbered. -/
def Device.newRecord (d : Device) (kind reason booth index : Nat) (cut : Bool) (body : List Nat) : LogRec :=
  { kind := kind, reason := reason, booth := booth, index := index, recno := 0, tt := d.tt, epoch := d.epoch
    sdn := d.sdn, motionCut := cut, dropcnt := 0, repeats := 0, body := body }

/-- Take the oldest violation record out of the log. -/
def dropOldestViolation : List LogRec → List LogRec
  | [] => []
  | r :: rs => if r.kind = 1 then rs else r :: dropOldestViolation rs

/-- Enter a record into the on-chip log: it takes the next RECNO and carries the drop count (R140). -/
def LoggerX.enter (l : LoggerX) (r : LogRec) : LoggerX :=
  { l with log := l.log ++ [{ r with recno := l.recno, dropcnt := min l.drops 0xFFFF }]
           recno := (l.recno + 1) % 2 ^ 32, drops := 0 }

/-- The logger takes a record (R140): when the log is full a new violation record is dropped, and a new fault
record overwrites the oldest violation record held. -/
def LoggerX.take (l : LoggerX) (r : LogRec) : LoggerX :=
  if l.log.length < 256 then l.enter r
  else if r.kind = 1 then { l with drops := l.drops + 1 }
  else if l.log.any (fun e => decide (e.kind = 1)) then
    { l with log := dropOldestViolation l.log, drops := l.drops + 1 }.enter r
  else l.enter r

/-- The logger makes a record: EV253 and the NET interrupt for a violation, EV254 and CONTAINED for a contained
fault (R140, R345). -/
def Device.logRecord (d : Device) (r : LogRec) : Device :=
  let d := d.setLogger (d.ctl.logger.take r)
  if r.kind = 1 then (d.setFlag R.RM_IRQ_PEND_NET [] true).fire 253
  else if r.kind = 2 then (d.setFlag R.RM_IRQ_PEND_CONTAINED [] true).fire 254
  else d

/-- Add one to REPEAT of the last record of a scope that Q0 has not yet taken (R139); `none` where there is none. -/
def repeatIn (kind booth index : Nat) (log : List LogRec) : Option (List LogRec) :=
  match log.reverse.findIdx? (fun r => decide (r.kind = kind ∧ r.booth = booth ∧ r.index = index)) with
  | none => none
  | some i =>
    let k := log.length - 1 - i
    some (log.modify k (fun r => { r with repeats := min (r.repeats + 1) 0xFFFF }))

/-- A fault in a scope already FAULTED or HALTED (R139). -/
def Device.repeatFault (d : Device) (kind booth index : Nat) : Device :=
  match repeatIn kind booth index d.ctl.logger.log with
  | some log => d.setLogger { d.ctl.logger with log := log }
  | none => d.bump R.NET_CP_CNT_COUNT [booth]

/-- A device fault is in force: the control booth is HALTED (R137). -/
def Device.faultInForce (d : Device) : Bool := decide (d.boothState 14 = 3)

/-- The pairs of a list taken two by two, each once. -/
def eachPairOnce (seen : List (Nat × Nat)) : List Nat → List Nat
  | q :: s :: r => if seen.contains (q, s) then eachPairOnce seen r else q :: s :: eachPairOnce ((q, s) :: seen) r
  | _ => []

/-- The pairs of the contained faults in force: a device fault that supersedes them lists their queues too (R139). -/
def Device.containedPairs (d : Device) : List Nat :=
  d.ctl.logger.contained.flatMap (fun e =>
    let inForce := if e.1 < 16 then decide (d.boothState e.1 = 2) else decide (d.get R.DMA_ENG_STAT_STATE [e.1 - 16] = 1)
    if inForce then e.2 else [])

/-- A contained fault's record of a scope, with its pairs kept (R139, R141). -/
def Device.logContained (d : Device) (scope reason booth index : Nat) (pairs : List Nat) : Device :=
  let d := d.logRecord (d.newRecord 2 reason booth index false pairs)
  d.setLogger { d.ctl.logger with contained := d.ctl.logger.contained.put [] scope pairs }

/-- The pairs (queue, S) of a device fault's record (R139, R141): every open mailbox's command queue, the delivery queues
of every stream with one, the completion queues of discarded sets, and what the contained faults in force had listed. -/
def Device.deviceFaultPairs (d : Device) : List Nat :=
  eachPairOnce [] (((List.range 256).flatMap (fun k => if (d.ctl.mailboxes.get {} k).isOpen then [2 * k, d.mailboxS k] else []))
    ++ ((List.range 8).flatMap d.streamPairs)
    ++ ((List.range 32).flatMap (fun e => (List.range 16).flatMap (fun c => d.setPair e c (fun _ => true))))
    ++ d.containedPairs)

/-- NET_CP_STORM.RECENT of the control booth: storm-counted violations of the last 1,000,000 ns (R133). -/
def Device.showStorm (d : Device) : Device :=
  d.put R.NET_CP_STORM_RECENT [14] ((d.ctl.logger.storm.filter (fun t => decide (ttDiff d.tt t ≤ 1000000 * 65536))).length)

/-- Taking a device fault (R137): the record, then every unit's share of it, the Ringmaster's restart (R50) and the
discards of the mailboxes (R54), Curtain (R119), the sequencers (R93) and the motion booth (R42). -/
def Device.deviceFault (d : Device) (reason : Nat) (cut : Bool) : Device :=
  let d := if d.faultInForce then d.repeatFault 3 14 0
           else d.logRecord (d.newRecord 3 reason 14 0 cut d.deviceFaultPairs)
  let d := (d.setLogger { d.ctl.logger with storm := [] }).showStorm
  let d := d.bmbDiscard
  let d := d.curtainDeviceFault
  let d := d.sequencersDeviceFault
  let d := d.unitsDeviceFault
  let d := d.ringmasterRestart
  let d := d.boothsHalt
  d.fire 255

/-- A Net violation (R132): counted and shown in the checkpoint of the booth, logged, and counted toward a storm
unless it came from BAR4; the sixteenth within 1,000,000 ns is a device fault (R133). -/
def Device.violation (d : Device) (booth reason addr value source : Nat) : Device :=
  let d := d.bump R.NET_CP_CNT_COUNT [booth]
  let off := if reason = 1 then 0 else addr % 2 ^ 24
  let d := d.put R.NET_CP_LAST_OFFSET [booth] off
  let d := d.put R.NET_CP_LAST_SOURCE [booth] source
  let d := d.logRecord (d.newRecord 1 reason booth 0 false [addr, value, source])
  if source / 4096 = 5 then d
  else
    let storm := (d.tt :: d.ctl.logger.storm).take 16
    let d := (d.setLogger { d.ctl.logger with storm := storm }).showStorm
    match storm[15]? with
    | some t => if ttDiff d.tt t ≤ 1000000 * 65536 then d.deviceFault 4 false else d
    | none => d

/-- Taking a contained fault of port booth `n` (R136, R23, R139). -/
def Device.portFault (d : Device) (n reason : Nat) : Device :=
  let m := if d.lent n then n - 1 else n
  if d.boothDown m then
    if d.boothState m = 2 then d.repeatFault 2 m 0 else d.repeatFault 3 14 0
  else
    let ports := if d.borrows m then [m, m + 1] else [m]
    let pairs := eachPairOnce [] (ports.flatMap (fun p => d.streamPairs p)
      ++ ((List.range 32).flatMap (fun e => (List.range 16).flatMap (fun c => d.setPair e c (fun p => ports.contains p)))))
    ports.foldl (fun d p => d.portBoothFault p) (d.logContained m reason m 0 pairs)

/-- Taking a contained fault of engine `e` (R136, R319, R139). -/
def Device.engineFault (d : Device) (e reason : Nat) : Device :=
  if d.get R.DMA_ENG_STAT_STATE [e] = 1 then d.repeatFault 2 8 e
  else if d.boothState 8 = 3 then d.repeatFault 3 14 0
  else
    let pairs := eachPairOnce [] ((List.range 16).flatMap (fun c => d.setPair e c (fun _ => true)))
    (d.logContained (16 + e) reason 8 e pairs).engineBoothFault e reason

/-! ### Uncorrectable words of HBM (R433) -/

/-- The memory error log takes an error: classes 0 port unit, 1 DMA, 2 Carousel, 3 Ringmaster, 4 BAR4, 5 scrub, 6 seal. -/
def Device.memErr (d : Device) (uncorr : Bool) (cls booth index off : Nat) : Device :=
  let d := if uncorr then d.bump R.ECC_CNT_UNCORR [] else d.bump R.ECC_CNT_CORR []
  let d := { d with hst := { d.hst with corrTotal := d.hst.corrTotal + b2n (!uncorr), uncorrTotal := d.hst.uncorrTotal + b2n uncorr } }
  let d := (d.put R.ECC_LAST_ADDR_ADDR [] off).setFlag R.ECC_LAST_INFO_UNCORR [] uncorr
  let d := ((d.put R.ECC_LAST_INFO_CLASS [] cls).put R.ECC_LAST_INFO_BOOTH [] booth).put R.ECC_LAST_INFO_INDEX [] index
  d.put R.ECC_LAST_TT_TT [] d.tt.toNat

/-- The word at an offset is marked uncorrectable. -/
def Device.wordBad (d : Device) (off : Nat) : Bool := d.hst.badWords.contains (off / 8)

/-- Mark it. -/
def Device.markBad (d : Device) (off : Nat) : Device :=
  if d.wordBad off then d else { d with hst := { d.hst with badWords := d.hst.badWords ++ [off / 8] } }

/-- The first uncorrectable word that a range touches, by its offset. -/
def Device.badIn (d : Device) (a n : Nat) : Option Nat :=
  (d.hst.badWords.find? (fun w => overlaps (w * 8) 8 a n)).map (fun w => w * 8)

end Sys2Proof.Machine
end

