-- ==== Sys2Proof/Machine/Carousel.lean ====
section
/-! DEFINITION. The Carousel: queue contexts and their cache (R291 to R296), doorbells (R297, R298), appends and what
the host sees of them (R299, R300), watermarks and interrupts (R301, R427), queue errors (R302), the context,
append and take ports. -/

namespace Sys2Proof.Machine

/-- Entry sizes in bytes (R294 ESIZE). -/
def esizeBytes (e : Nat) : Nat := if e = 0 then 32 else if e = 1 then 64 else 128

/-- The entry size a queue kind admits (R291). -/
def esizeFits (kind esize : Nat) : Bool :=
  match kind with
  | 1 | 2 | 5 => esize == 1
  | 3 | 6 => esize == 2
  | 4 => esize == 0 || esize == 1
  | _ => false

/-- The queue numbers a kind admits (R291, R55, R56). -/
def kindFits (q kind : Nat) : Bool :=
  match kind with
  | 1 | 2 => decide (2 ≤ q ∧ q ≤ 511)
  | 6 => q == 0
  | 3 | 4 | 5 => true
  | _ => false

/-- Replace a queue context. -/
def Device.setCtx (d : Device) (q : Nat) (c : QCtx) : Device :=
  { d with dlv := { d.dlv with ctxs := d.dlv.ctxs.put {} q c } }

/-- The context keeps its cache place: Q0 to Q1023 once open, a PIN, or an unsignalled entry with a wait (R295). -/
def Device.keepsPlace (d : Device) (q : Nat) : Bool :=
  let c := d.ctx q
  (decide (q < 1024) && decide (c.kind ≠ 0)) || c.pin || (decide (0 < c.unsig) && decide (0 < c.coalUs))

/-- Take the last (least recently used) queue that keeps no place out of the cache. -/
def evict (d : Device) (cache : List Nat) : List Nat :=
  match cache.reverse.find? (fun q => !d.keepsPlace q) with
  | some q => cache.filter (fun x => decide (x ≠ q))
  | none => cache.dropLast

/-- A use of the context of `q`: a hit or a miss counted, and the place made most recent (R295). -/
def Device.touch (d : Device) (q : Nat) : Device :=
  if d.dlv.cache.contains q then
    ({ d with dlv := { d.dlv with cache := q :: d.dlv.cache.filter (fun x => decide (x ≠ q)) } }).bump R.CAR_CACHE_HITS []
  else
    let base := if d.dlv.cache.length < 8192 then d.dlv.cache else evict d d.dlv.cache
    let d := { d with dlv := { d.dlv with cache := q :: base } }
    (d.bump R.CAR_CACHE_MISSES []).put R.CAR_STAT_CACHED [] d.dlv.cache.length

/-- Contexts pinned by PIN (R295). -/
def Device.pinned (d : Device) : Nat := (d.dlv.ctxs.filter (fun e => e.2.pin)).length

/-- The level of a queue (R292). -/
def QCtx.level (c : QCtx) : Nat := (c.prod - c.cons).toNat

/-- The ring is full (R292). -/
def QCtx.full (c : QCtx) : Bool := decide (2 ^ c.log2 ≤ c.level)

/-- The bus address of the entry for an index (R292). -/
def QCtx.entryAddr (c : QCtx) (i : BitVec 32) : Nat := c.ring + i.toNat % 2 ^ c.log2 * esizeBytes c.esize

/-- PEAK and WM_HIT after an append, take or doorbell (R301). -/
def QCtx.watermark (c : QCtx) : QCtx :=
  { c with peak := max c.peak c.level, wmHit := c.wmHit || (decide (0 < c.wmark) && decide (c.wmark ≤ c.level)) }

/-! ### MSI-X -/

/-- The MSI-X entry of a vector. -/
def Device.vec (d : Device) (v : Nat) : MsixVec := d.hst.vectors.get {} v

/-- Replace it. -/
def Device.setVec (d : Device) (v : Nat) (x : MsixVec) : Device :=
  { d with hst := { d.hst with vectors := d.hst.vectors.put {} v x } }

/-- Bus Master Enable lets the device issue requests on the link (R425, R426). -/
def Device.linkFree (d : Device) : Bool := d.hst.busMaster && !d.hst.d3hot

/-- Messages of vector `v` must wait: MSI-X disabled, function or vector masked, or no bus master (R427, R425). -/
def Device.msixHeld (d : Device) (v : Nat) : Bool :=
  !d.hst.msixEnable || d.hst.functionMask || (d.vec v).masked || !d.linkFree

/-- One message write leaves: the vector's data to the vector's address (R427). -/
def Device.sendMessage (d : Device) (v : Nat) : Device :=
  let d := d.hostWrite (d.vec v).addr (leBytes 4 (d.vec v).data)
  { d with hst := { d.hst with lastMessage := some v } }

/-- A message request (R427): sent, or the vector's pending bit is set. -/
def Device.message (d : Device) (v : Nat) : Device :=
  if d.msixHeld v then d.setVec v { d.vec v with pending := true } else d.sendMessage v

/-- Send the messages whose condition to wait has ended (R427). -/
def Device.sendPending (d : Device) : Device :=
  d.hst.vectors.foldl (fun d e =>
    if (d.vec e.1).pending && !d.msixHeld e.1 then
      (d.setVec e.1 { d.vec e.1 with pending := false }).sendMessage e.1
    else d) d

/-- Request a message for a queue's vector; UNSIG and IRQ_ARMED clear at the request (R301). -/
def Device.signal (d : Device) (q : Nat) : Device :=
  let c := d.ctx q
  let d := d.setCtx q { c with unsig := 0, irqArmed := false }
  if c.vector = 0xFFFF then d else d.message c.vector

/-- Request the message when UNSIG has reached COAL_N, or COAL_US has run out, while IRQ_ARMED is 1 (R301). -/
def Device.signalIfDue (d : Device) (q : Nat) : Device :=
  let c := d.ctx q
  let due := decide (max 1 c.coalN ≤ c.unsig)
    || (decide (0 < c.coalUs) && decide ((c.coalUs * 1000 * 65536 : Int) ≤ ttDiff d.tt c.oldest))
  if c.irqArmed && decide (c.vector ≠ 0xFFFF) && decide (0 < c.unsig) && due then d.signal q else d

/-! ### Appends -/

/-- How an append ended. -/
inductive Append where
  | appended | full | error | mismatch | stalled
  deriving DecidableEq, Repr

/-- The write-back of PROD, CONS and COUNT (R294, R299). -/
def Device.writeBack (d : Device) (q : Nat) : Device :=
  let c := d.ctx q
  if c.wb = 0 then d
  else d.hostWrite c.wb (layout [(4, c.prod.toNat), (4, c.cons.toNat), (4, c.count.toNat), (4, 0)])

/-- Put an entry into the ring: entry write, indices, write-back, message, in this order (R299, R301). -/
def Device.putEntry (d : Device) (q : Nat) (bs : List Byte) : Device :=
  let c := d.ctx q
  let d := d.hostWrite (c.entryAddr c.prod) (fit (esizeBytes c.esize) bs)
  let unsig := if c.vector = 0xFFFF then c.unsig else c.unsig + 1
  let c := { c with prod := c.prod + 1, count := c.count + 1, unsig := unsig
                    oldest := if c.unsig = 0 then d.tt else c.oldest }
  let d := d.setCtx q c.watermark
  (d.writeBack q).signalIfDue q

/-- The ring entry and the write-back area an append would write are admitted (R293, R125). -/
def Device.ringAdmitted (d : Device) (q : Nat) : Bool :=
  let c := d.ctx q
  d.netAdmits false true .queue (c.entryAddr c.prod) (esizeBytes c.esize)
    && (decide (c.wb = 0) || d.netAdmits false true .queue c.wb 16)

/-- Between a device fault and READY the Carousel appends nothing but Q0 records (R320). -/
def Device.appendsStopped (d : Device) (q : Nat) : Bool := d.flag R.DEV_STATUS_HALTED [] && decide (q ≠ 0)

/-- The level an append must find room for, stalled appends counted in. -/
def Device.roomLeft (d : Device) (q : Nat) : Nat :=
  2 ^ (d.ctx q).log2 - (d.ctx q).level - (d.hst.stalled.filter (fun s => decide (s.1 = q))).length

/-- Event entries dropped at a full or broken queue (R300). -/
def Device.dropEvent (d : Device) (q : Nat) : Device :=
  d.setCtx q { d.ctx q with drops := min ((d.ctx q).drops + 1) 0xFFFFFFFF }

/-- A queue enters error (R302), without the event entry of Q1. -/
def Device.errorMark (d : Device) (q err : Nat) : Device :=
  let d := d.setCtx q { d.ctx q with error := true, err := err }
  (d.put R.CAR_ERRQ_LAST [] q).bump R.CAR_ERRQ_COUNT []

/-- One append to an open queue of the right kind (R299, R300, R302, R425): the entry goes into the ring, waits for
Bus Master Enable, or finds the queue full or in error. An event entry that finds no room is dropped and counted. -/
def Device.appendRaw (d : Device) (q : Nat) (bs : List Byte) : Append × Device :=
  let d := d.touch q
  let c := d.ctx q
  if c.error then (.error, if c.kind = 5 then d.dropEvent q else d)
  else if d.roomLeft q = 0 then (.full, if c.kind = 5 then d.dropEvent q else d)
  else if !d.linkFree then
    (.stalled, { d with hst := { d.hst with stalled := d.hst.stalled ++ [(q, bs)] } })
  else if d.ringAdmitted q then (.appended, d.putEntry q bs)
  else
    let d := d.errorMark q 1
    let d := d.violation 8 1 (c.entryAddr c.prod) (esizeBytes c.esize) (6 * 4096)
    (.error, if c.kind = 5 then d.dropEvent q else d)

/-- The bytes of an event entry (R304), which carries and then clears DROPS. -/
def Device.eventBytes (d : Device) (q type source : Nat) (data : List Byte) : List Byte :=
  layout [(2, type), (2, source), (4, (d.ctx q).drops), (8, d.tt.toNat), (4, d.epoch), (4, 0)] ++ fit 40 data

/-- Append an event entry to an open event queue (R300, R304). -/
def Device.appendEvent (d : Device) (q type source : Nat) (data : List Byte) : Device :=
  if (d.ctx q).kind ≠ 5 ∨ d.appendsStopped q then d
  else
    match d.appendRaw q (d.eventBytes q type source data) with
    | (.appended, d) => d.setCtx q { d.ctx q with drops := 0 }
    | (.stalled, d) => d.setCtx q { d.ctx q with drops := 0 }
    | (_, d) => d

/-- A queue enters error and Q1 is told, unless Q1 is itself in error or not open (R302). -/
def Device.queueError (d : Device) (q err : Nat) : Device :=
  let d := d.errorMark q err
  if q = 1 ∨ (d.ctx 1).error then d else d.appendEvent 1 1 0 (layout [(4, q), (1, err)])

/-- One append, of which Q1 is told where it puts the queue in error (R302). -/
def Device.appendTold (d : Device) (q : Nat) (bs : List Byte) : Append × Device :=
  match d.appendRaw q bs with
  | (.error, e) =>
    if !(d.ctx q).error && !(q == 1) && !(e.ctx 1).error then
      (.error, e.appendEvent 1 1 0 (layout [(4, q), (1, 1)]))
    else (.error, e)
  | r => r

/-- An append by a device producer to a queue that must be open with a kind (R300): a closed queue, or one of
another kind, is as a full one. -/
def Device.append (d : Device) (q kind : Nat) (bs : List Byte) : Append × Device :=
  if (d.ctx q).kind ≠ kind ∨ d.appendsStopped q then (.full, d) else d.appendTold q bs

/-- A source waits for queue `q`, behind those that do already (R299, R300). -/
def Device.waitFor (d : Device) (q : Nat) (w : Waiter) : Device :=
  if d.dlv.waiters.contains (q, w) then d else { d with dlv := { d.dlv with waiters := d.dlv.waiters ++ [(q, w)] } }

/-! ### Doorbells -/

/-- A signed 32-bit difference is not negative (R298). -/
def seq32Ge (a b : BitVec 32) : Bool := decide (0 ≤ (a - b).toInt)

/-- Doorbell pages the host's writes reach (R297): READY, an open queue, none of Q512 to Q1023, no error (R302). -/
def Device.doorbellOpen (d : Device) (q : Nat) : Bool :=
  d.ready && decide ((d.ctx q).kind ≠ 0) && !(decide (512 ≤ q ∧ q ≤ 1023)) && !(d.ctx q).error

/-- DB_PROD on a mailbox command queue (R298). -/
def Device.doorbellProd (d : Device) (q : Nat) (p : BitVec 32) : Device :=
  if !d.doorbellOpen q || decide ((d.ctx q).kind ≠ 1) then d
  else
    let d := d.touch q
    let c := d.ctx q
    if seq32Ge p c.prod && decide ((p - c.cons).toInt ≤ (2 ^ c.log2 : Nat)) then
      (d.setCtx q { c with prod := p }.watermark).setFlag R.RM_IRQ_PEND_MBOX [] true
    else d.queueError q 2

/-- A write of DB_CONS or REARM arms the interrupt; entries still unconsumed are signalled at once (R301). -/
def Device.rearm (d : Device) (q : Nat) : Device :=
  let d := d.setCtx q { d.ctx q with irqArmed := true }
  if 0 < (d.ctx q).level ∧ (d.ctx q).vector ≠ 0xFFFF then d.signal q else d

/-! ### The ports of the Ringmaster -/

/-- The context as its 64 bytes (R294). -/
def QCtx.bytes (c : QCtx) : List Byte :=
  layout [(8, c.ring), (8, c.wb), (4, c.prod.toNat), (4, c.cons.toNat), (4, c.count.toNat), (4, c.wmark), (4, c.peak),
    (4, c.drops), (2, c.vector), (1, c.coalN), (1, c.log2), (1, c.kind), (1, c.esize),
    (1, b2n c.pin + 2 * b2n c.irqArmed + 4 * b2n c.wmHit + 8 * b2n c.error), (1, c.err), (2, c.owner), (2, c.coalUs),
    (4, c.unsig), (8, c.oldest.toNat)]

/-- The context its 64 bytes spell (R294). -/
def QCtx.ofBytes (bs : List Byte) : QCtx :=
  let f := fieldAt bs
  let fl := f 46 1
  { ring := f 0 8, wb := f 8 8, prod := BitVec.ofNat 32 (f 16 4), cons := BitVec.ofNat 32 (f 20 4)
    count := BitVec.ofNat 32 (f 24 4), wmark := f 28 4, peak := f 32 4, drops := f 36 4, vector := f 40 2
    coalN := f 42 1, log2 := f 43 1, kind := f 44 1, esize := f 45 1, pin := bit fl 0, irqArmed := bit fl 1
    wmHit := bit fl 2, error := bit fl 3, err := f 47 1, owner := f 48 2, coalUs := f 50 2, unsig := f 52 4
    oldest := BitVec.ofNat 64 (f 56 8) }

/-- A store through the context port is refused (R294). -/
def ctxRefused (q : Nat) (c : QCtx) : Bool :=
  decide (c.kind ≠ 0) &&
    (!(decide (4 ≤ c.log2 ∧ c.log2 ≤ 24)) || !esizeFits c.kind c.esize || decide (c.ring % 4096 ≠ 0)
      || decide (c.wb % 64 ≠ 0) || !kindFits q c.kind)

/-- A store of a context as one indivisible update (R294); a PIN with 4,096 places pinned stays unpinned (R318). -/
def Device.storeCtx (d : Device) (q : Nat) (c : QCtx) : Device :=
  if ctxRefused q c then d.setFlag R.CAR_CTX_CMD_ERR [] true
  else
    let keep := c.pin && (decide (d.pinned < 4096) || (d.ctx q).pin)
    let d := (d.touch q).setCtx q { c with pin := keep }
    d.put R.CAR_STAT_PINNED [] d.pinned

/-- The eight data words of the context port as bytes. -/
def Device.ctxPortBytes (d : Device) : List Byte :=
  (List.range 8).flatMap (fun k => leBytes 8 (d.rd R.CAR_CTX_DATA [k]).toNat)

/-- Ring and write-back of queue `q` are open to a take (R293). -/
def Device.takeAdmitted (d : Device) (q : Nat) : Bool :=
  let c := d.ctx q
  d.netAdmits false false .queue (c.entryAddr c.cons) 64 && (decide (c.wb = 0) || d.netAdmits false true .queue c.wb 16)

/-- An entry has been taken off a command queue: CONS and COUNT, the watermark and the write-back (R292, R301). -/
def Device.taken (d : Device) (q : Nat) : Device :=
  let c := d.ctx q
  (d.setCtx q { c with cons := c.cons + 1, count := c.count + 1 }.watermark).writeBack q

/-- Take the entry at CONS of a command queue (R292, CAR_TAKE_CMD): taken, empty or error. -/
def Device.takeEntry (d : Device) (q : Nat) : Nat × List Byte × Device :=
  let d := d.touch q
  let c := d.ctx q
  if c.error ∨ c.kind ≠ 1 then (2, [], d)
  else if c.level = 0 then (1, [], d)
  else if !d.takeAdmitted q then (2, [], (d.queueError q 1).violation 8 1 (c.entryAddr c.cons) 64 (6 * 4096))
  else (0, d.hostRead (c.entryAddr c.cons) 64, d.taken q)

/-- CAR_TAKE_CMD.TAKE; the read of the ring waits for Bus Master Enable (R425). -/
def Device.carTake (d : Device) : Device :=
  let q := d.get R.CAR_TAKE_Q_QUEUE []
  if !d.linkFree then { d with dlv := { d.dlv with takeDue := some q } }
  else
    let (r, bs, d) := d.takeEntry q
    let d := d.put R.CAR_TAKE_CMD_RESULT [] r
    if r = 0 then
      (List.range 8).foldl (fun (d : Device) k => d.wr R.CAR_TAKE_DATA [k] (BitVec.ofNat 64 (fieldAt bs (8 * k) 8))) d
    else d

/-- What waited for Bus Master Enable goes on in its order: stalled appends, those of queues that a device fault stops after
READY, messages, and a take (R320, R425). -/
def Device.resumeStalled (d : Device) : Device :=
  if !d.linkFree then d
  else
    let stop := fun (s : Nat × List Byte) => d.appendsStopped s.1
    let s := d.hst.stalled.filter (fun s => !stop s)
    let d := { d with hst := { d.hst with stalled := d.hst.stalled.filter stop } }
    let d := (s.foldl (fun d e => (d.appendTold e.1 e.2).2) d).sendPending
    if d.dlv.takeDue.isSome then ({ d with dlv := { d.dlv with takeDue := none } } : Device).carTake else d

end Sys2Proof.Machine
end

