-- ==== Sys2Proof/Machine/Mailbox.lean ====
section
/-! DEFINITION. The mailbox interface of firmware 3.x: entry checks (R58, R60), sequence numbers (R61), principal
mailboxes and ownership (R57), responses (R51, R59, R62), input and output buffers, and the list of commands
answered ACCEPTED. -/

namespace Sys2Proof.Machine

/-- Common status codes (R67). -/
def stOK : Nat := 0x0000
def stACCEPTED : Nat := 0x0001
def stNO_SPACE : Nat := 0x0010
def stSEQUENCE : Nat := 0x0011
def stBAD_LENGTH : Nat := 0x0102
def stBAD_FIELD : Nat := 0x0103
def stNOT_OWNER : Nat := 0x0104
def stBUSY : Nat := 0x0105
def stNOT_PRESENT : Nat := 0x0106
def stNET_REFUSED : Nat := 0x0201
def stCURTAIN_ABORTED : Nat := 0x0202
def stDEADLINE_MISSED : Nat := 0x0203
def stLOOP_REJECTED : Nat := 0x0204
def stDISCARDED : Nat := 0x0301
def stLIFECYCLE : Nat := 0x0401
def stMODE : Nat := 0x0402

/-- The entry's 52 payload bytes. -/
def Entry.body (e : Entry) : List Byte := fit 52 e.payload

/-- The little-endian field of `n` bytes at offset `off` of the entry (offsets from 12 on: the payload). -/
def Entry.u (e : Entry) (off n : Nat) : Nat := fieldAt e.body (off - 12) n

/-- The signed field. -/
def Entry.s (e : Entry) (off n : Nat) : Int := sgn (8 * n) (e.u off n)

/-- HOSTBUF, OUTBUF and FENCE (R58). -/
def Entry.hostBuf (e : Entry) : Bool := e.flags.toNat.testBit 0
def Entry.outBuf (e : Entry) : Bool := e.flags.toNat.testBit 1
def Entry.fence (e : Entry) : Bool := e.flags.toNat.testBit 2

/-- The buffer descriptor (R58). -/
def Entry.inAddr (e : Entry) : Nat := e.u 12 8
def Entry.inLen (e : Entry) : Nat := e.u 20 4
def Entry.outAddr (e : Entry) : Nat := e.u 24 8
def Entry.outLen (e : Entry) : Nat := e.u 32 4

/-- The entry as its 64 bytes (R58). -/
def Entry.bytes (e : Entry) (opcode : Nat) : List Byte :=
  layout [(2, opcode), (2, e.tag.toNat), (2, e.length.toNat), (2, e.flags.toNat), (4, e.seq.toNat)] ++ e.body

/-- The mailbox number resources are counted under: 0 for every principal mailbox (R57). -/
def Via.owner : Via → Nat
  | .boot _ => 0
  | .queue k => if k.val = 1 then 0 else k.val

/-- A principal mailbox (R57). -/
def Via.principal (v : Via) : Bool := decide (v.owner = 0)

/-- Who owns a resource: 0 the principal, `none` nobody yet. -/
def Device.ownerOf (d : Device) (r : Res) : Option Nat := (d.ctl.owners.find? (fun o => decide (o.1 = r))).map (·.2)

/-- The mailbox may act on the resource: a principal on any, another on what it created (R57). -/
def Device.mayAct (d : Device) (v : Via) (r : Res) : Bool := v.principal || decide (d.ownerOf r = some v.owner)

/-- The mailbox may act on the resource or take it, nobody owning it yet. -/
def Device.mayTake (d : Device) (v : Via) (r : Res) : Bool := d.mayAct v r || decide (d.ownerOf r = none)

/-- Record who owns a resource. -/
def Device.own (d : Device) (v : Via) (r : Res) : Device :=
  if (d.ownerOf r).isSome then d else d.setCtl { d.ctl with owners := d.ctl.owners ++ [(r, v.owner)] }

/-- A resource is given back. -/
def Device.disown (d : Device) (r : Res) : Device :=
  d.setCtl { d.ctl with owners := d.ctl.owners.filter (fun o => decide (o.1 ≠ r)) }

/-- Queue mailbox `k`. -/
def Device.mbox (d : Device) (k : Nat) : Mailbox := d.ctl.mailboxes.get {} k

/-- Replace it. -/
def Device.setMbox (d : Device) (k : Nat) (m : Mailbox) : Device :=
  d.setCtl { d.ctl with mailboxes := d.ctl.mailboxes.put {} k m }

/-- What a command answers: a status, an inline payload, an output buffer's bytes, and the work it leaves running
when the status is ACCEPTED (key and faulted scope). -/
structure Reply where
  status : Nat
  payload : List Byte := []
  out : List Byte := []
  work : List Nat := []
  scope : Nat := 99
  /-- the one response follows when the hardware is done (R64) -/
  held : Bool := false
  dev : Device
  /-- what firmware sets going once the command stands recorded -/
  act : Device → Device := fun d => d

/-- A refusal that changes nothing. -/
def Device.no (d : Device) (status : Nat) : Reply := { status := status, dev := d }

/-- OK with a payload. -/
def Device.ok (d : Device) (payload : List Byte) : Reply := { status := 0, payload := payload, dev := d }

/-- ACCEPTED: the final response follows when the work named by the key ends. -/
def Device.accepted (d : Device) (key : List Nat) (scope : Nat) : Reply :=
  { status := 1, work := key, scope := scope, dev := d }

/-- The one response follows when the work named by the key ends (R64). -/
def Device.later (d : Device) (key : List Nat) : Reply := { status := 0, work := key, held := true, dev := d }

/-- What the command tables say of a command beside its fields. -/
structure CmdSpec where
  opcode : Nat
  /-- the LENGTHs that fit the command (R67; log entry 14): from the end of the last field its table lists to the table's end -/
  minLen : Nat := 0
  maxLen : Nat := 52
  needsIn : Bool := false
  needsOut : Bool := false
  /-- operating modes that admit it: STARTUP, SERVICE, TEST, RECOVERY -/
  modes : List Nat := [0, 1, 2, 3]
  principal : Bool := false
  mayAccept : Bool := false
  /-- booths whose units the command writes directly: from IDLE they become RUN (log entry 13) -/
  wakes : Entry → List Nat := fun _ => []

/-- Bytes beyond LENGTH are zero (R58, R60). -/
def Entry.tailZero (e : Entry) : Bool := (e.body.drop e.length.toNat).all (fun b => decide (b = 0))

/-- The checks every entry passes before its command is looked at, in R60's order; `present` says that the unit it
addresses is not fused off (R5). DESIGN CHOICE (log entry 111): R60 names no status for a buffer that the command needs and
the entry lacks (BAD_LENGTH), nor for IN_LEN or OUT_LEN out of range (BAD_FIELD), and none for HOSTBUF or OUTBUF on a command
that takes no buffer: such an entry runs, with the descriptor's bytes as its inline payload. -/
def Device.entryCheck (d : Device) (c : CmdSpec) (e : Entry) (present : Bool) : Nat :=
  let n := e.length.toNat
  let buf := e.hostBuf || e.outBuf
  if e.flags.toNat / 8 ≠ 0 ∨ !e.tailZero then stBAD_FIELD
  else if 52 < n ∨ (buf ∧ n ≠ 32) then stBAD_LENGTH
  else if !present then stNOT_PRESENT
  else if (c.needsIn ∧ !e.hostBuf) ∨ (c.needsOut ∧ !e.outBuf) then stBAD_LENGTH
  else if !buf ∧ (n < c.minLen ∨ c.maxLen < n) then stBAD_LENGTH
  else if buf ∧ e.u 36 16 ≠ 0 then stBAD_FIELD
  else if e.hostBuf ∧ (e.inLen = 0 ∨ 2 ^ 24 < e.inLen) then stBAD_FIELD
  else if e.outBuf ∧ (e.outLen = 0 ∨ 2 ^ 24 < e.outLen) then stBAD_FIELD
  else if e.hostBuf ∧ !d.netAdmits false false .queue e.inAddr e.inLen then stNET_REFUSED
  else if e.outBuf ∧ !d.netAdmits false true .queue e.outAddr e.outLen then stNET_REFUSED
  else if !c.modes.contains d.mode then stMODE
  else if c.principal ∧ !e.via.principal then stNOT_OWNER
  else stOK

/-- The response entry of R59, written now. -/
def Response.bytes (r : Response) (d : Device) : List Byte :=
  responseBytes r.opcode r.tag (min r.payload.length 32) r.status r.seq d.epoch d.tt
    (b2n r.final + 2 * b2n r.outWritten) r.outLen r.payload

/-- Mailbox `k` has responses that its response queue has not taken. -/
def Device.owes (d : Device) (k : Nat) : Bool := d.ctl.owed.any (fun r => decide (r.box = k))

/-- The response queue of mailbox `k` takes an entry now: open, not in error, with room, and appends are not stopped
(R300, R302, R320). -/
def Device.takesResponse (d : Device) (k : Nat) : Bool :=
  let q := 2 * k + 1
  decide ((d.ctx q).kind = 2) && !(d.ctx q).error && decide (0 < d.roomLeft q) && !d.appendsStopped q

/-- The response waits (R63: it is never dropped). -/
def Device.owe (d : Device) (r : Response) : Device := d.setCtl { d.ctl with owed := d.ctl.owed ++ [r] }

/-- A response of a queue mailbox goes into its response queue (R55), behind every one that waits already. -/
def Device.deliver (d : Device) (r : Response) : Device :=
  if !d.owes r.box && d.takesResponse r.box then
    match d.append (2 * r.box + 1) 2 (r.bytes d) with
    | (.appended, d) => d
    | (.stalled, d) => d
    | (_, d) => d.owe r
  else d.owe r

/-- Responses that waited are written once their queues take them. -/
def Device.sendOwed (d : Device) : Device :=
  if d.ctl.owed.any (fun r => d.takesResponse r.box) then
    d.ctl.owed.foldl Device.deliver (d.setCtl { d.ctl with owed := [] })
  else d

/-- A response entry goes out: over the bootstrap slot (R51), or into the response queue (R55). -/
def Device.respond (d : Device) (v : Via) (opcode tag seq status : Nat) (final : Bool) (payload : List Byte)
    (outWritten : Bool) (outLen : Nat) : Device :=
  let r : Response := { box := 0, opcode := opcode, tag := tag, seq := seq, status := status, final := final
                        payload := payload, outWritten := outWritten, outLen := outLen }
  match v with
  | .boot n => d.setSlot n.val (r.bytes d)
  | .queue k => d.deliver { r with box := k.val }

/-- Answer a command with its reply: output data before the response entry (R60), an interim for ACCEPTED in a queue
mailbox, none in a bootstrap mailbox (R53), and the work recorded. -/
def Device.answer (c : CmdSpec) (e : Entry) (r : Reply) : Device :=
  let d := r.dev
  let outN := if e.outBuf then min r.out.length e.outLen else 0
  let d := if 0 < outN then d.hostWrite e.outAddr (r.out.take outN) else d
  if r.status = 1 ∨ r.held then
    let w : Work := { via := e.via, opcode := c.opcode, tag := e.tag.toNat, seq := e.seq.toNat, key := r.work, scope := r.scope
                      silent := r.held, outAddr := e.outAddr, outLen := if e.outBuf then e.outLen else 0 }
    let d := d.setCtl { d.ctl with works := d.ctl.works ++ [w] }
    let d := match e.via with
      | .boot _ => d
      | .queue _ => if r.held then d else d.respond e.via c.opcode e.tag.toNat e.seq.toNat 1 false r.payload (decide (0 < outN)) outN
    r.act d
  else d.respond e.via c.opcode e.tag.toNat e.seq.toNat r.status true r.payload (decide (0 < outN)) outN

/-- The commands of one mailbox answered ACCEPTED and not yet finished. -/
def Device.outstanding (d : Device) (v : Via) : List Work := d.ctl.works.filter (fun w => decide (w.via = v))

/-- Firmware runs: READY, and the Ringmaster not halted over JTAG (R460). -/
def Device.fwRuns (d : Device) : Bool := d.ready && !d.sec.jtagHalted

/-- The entry stands in the slot of a bootstrap mailbox that is rung (R51). -/
def Device.rung (d : Device) (n opcode : Nat) (e : Entry) : Bool :=
  d.flag R.BMB_CTL_RING [n] && decide (d.slot n = e.bytes opcode)

/-- A command of this mailbox is under way. -/
def Device.atWork (d : Device) (v : Via) : Bool := d.ctl.works.any (fun w => decide (w.via = v))

/-- A command cannot start now. A bootstrap mailbox's is held until firmware runs (R54, HELD); a queue mailbox's waits (R62,
R63, R66) while firmware does not run or the device may not read host memory (R425), while responses wait or the response queue is in error or has no room for its own,
while a FENCE waits for responses that are not in the response queue, or while 64 ACCEPTED commands are outstanding. -/
def Device.mustWait (d : Device) (c : CmdSpec) (e : Entry) : Bool :=
  match e.via with
  | .boot n => d.rung n.val c.opcode e && !d.fwRuns && !d.atWork e.via
  | .queue k =>
    let q := 2 * k.val + 1
    (d.mbox k.val).isOpen &&
      (!d.fwRuns || !d.linkFree
        || d.owes k.val || (d.ctx q).error
        || (e.fence && d.hst.stalled.any (fun s => decide (s.1 = q)))
        || decide (d.roomLeft q < (d.outstanding e.via).length + (if c.mayAccept then 2 else 1))
        || (d.outstanding e.via).any (fun w => w.silent || w.dead)
        || (e.fence && !(d.outstanding e.via).isEmpty)
        || (c.mayAccept && decide (64 ≤ (d.outstanding e.via).length)))

/-- The host's own stores of the input buffer, made before it submits the entry (log entry 6). -/
def Device.placeInput (d : Device) (e : Entry) : Device :=
  if e.hostBuf ∧ e.inbuf ≠ [] then d.hostWrite e.inAddr (e.inbuf.take e.inLen) else d

/-- Firmware takes the entry off its command queue (R292): the one at CONS, or, where the doorbell that announced it has not
been seen, the one that stands at PROD (log entry 9). -/
def Device.takeCommand (d : Device) (e : Entry) : Device :=
  match e.via with
  | .boot _ => d
  | .queue k =>
    let q := 2 * k.val
    let c := d.ctx q
    if c.kind ≠ 1 ∨ c.error then d
    else (d.setCtx q { c with prod := if c.level = 0 then c.prod + 1 else c.prod }).taken q

/-- The input payload: the input buffer of a HOSTBUF command. -/
def Device.input (d : Device) (e : Entry) : List Byte := d.hostRead e.inAddr e.inLen

/-- The entry is the one its mailbox holds: an open queue mailbox's next entry, or the entry a rung bootstrap slot
holds while firmware is up (R51, HELD). -/
def Device.holds (d : Device) (opcode : Nat) (e : Entry) : Bool :=
  match e.via with
  | .boot n => d.fwRuns && d.rung n.val opcode e && !d.atWork e.via
  | .queue k => d.fwRuns && (d.mbox k.val).isOpen

/-- The sequence number is not the expected one (R61); bootstrap mailboxes carry no check (R53). -/
def Device.outOfSequence (d : Device) (e : Entry) : Option Nat :=
  match e.via with
  | .boot _ => none
  | .queue k => match (d.mbox k.val).expected with
    | some x => if x = e.seq.toNat then none else some x
    | none => none

/-- The expected number moves on when a command of a queue mailbox starts (R61). -/
def Device.advanceSeq (d : Device) (e : Entry) : Device :=
  match e.via with
  | .boot _ => d
  | .queue k => d.setMbox k.val { d.mbox k.val with expected := some ((e.seq.toNat + 1) % 2 ^ 32) }

/-- A command that firmware has carried out or started wakes the booths it wrote. -/
def Reply.waking (r : Reply) (bs : List Nat) : Reply :=
  if r.status ≤ 1 then { r with dev := bs.foldl Device.wake r.dev } else r

/-- Firmware 3.x takes one command entry: the sequence check (R61), the entry checks (R60), the command itself, and
its response (R59, R62). -/
def Device.runCommand (d : Device) (c : CmdSpec) (e : Entry) (present : Bool) (body : Device → Reply) : Device :=
  let d := d.placeInput e
  if !d.holds c.opcode e then d
  else
    let d := d.takeCommand e
    match d.outOfSequence e with
    | some x => d.respond e.via c.opcode e.tag.toNat e.seq.toNat stSEQUENCE true (leBytes 4 x) false 0
    | none =>
      let d := d.advanceSeq e
      let st := d.entryCheck c e present
      if st ≠ 0 then Device.answer c e (d.no st) else Device.answer c e ((body d).waking (c.wakes e))

/-- Take a work out of the list. -/
def Device.dropWork (d : Device) (w : Work) : Device :=
  d.setCtl { d.ctl with works := d.ctl.works.filter (fun x => decide (x ≠ w)) }

/-- The final response of a command answered ACCEPTED. -/
def Device.finishWork (d : Device) (w : Work) (status : Nat) (payload : List Byte) : Device :=
  (d.dropWork w).respond w.via w.opcode w.tag w.seq status true payload false 0

/-- The same with bytes for the command's output buffer, written first (R60). -/
def Device.finishOut (d : Device) (w : Work) (status : Nat) (payload out : List Byte) : Device :=
  let n := min out.length w.outLen
  let d := if 0 < n then d.hostWrite w.outAddr (out.take n) else d
  (d.dropWork w).respond w.via w.opcode w.tag w.seq status true payload (decide (0 < n)) n

/-- The commands of an opcode that wait for the work of this key. -/
def Device.worksOf (d : Device) (opcode : Nat) (key : List Nat) : List Work :=
  d.ctl.works.filter (fun w => decide (w.opcode = opcode ∧ w.key = key) && !w.dead)

/-- The final responses of the commands of an opcode whose work has this key. -/
def Device.finish (d : Device) (opcode : Nat) (key : List Nat) (status : Nat) (payload : List Byte) : Device :=
  (d.ctl.works.filter (fun w => decide (w.opcode = opcode ∧ w.key = key) && !w.dead)).foldl
    (fun d w => d.finishWork w status payload) d

/-- Some command of this opcode and key is still running. -/
def Device.working (d : Device) (opcode : Nat) (key : List Nat) : Bool :=
  d.ctl.works.any (fun w => decide (w.opcode = opcode ∧ w.key = key) && !w.dead)

/-- The works of an opcode go on under another key. -/
def Device.rekey (d : Device) (opcode : Nat) (old new : List Nat) : Device :=
  d.setCtl { d.ctl with works := d.ctl.works.map (fun (w : Work) => if w.opcode = opcode ∧ w.key = old then { w with key := new } else w) }

/-- A command with WAIT whose change stands staged in transaction slot `n`: what it will wait for once adopted, and `n`. -/
def Work.staged (w : Work) : Option (List Nat × Nat) :=
  match w.key with
  | [e, c, t] => if w.opcode = 0x0905 ∧ 65536 ≤ t then some ([e, c], t - 65536) else none
  | [a, t] => if [0x0C03, 0x0D03, 0x0D04, 0x0D05].contains w.opcode ∧ 65536 ≤ t then some ([a], t - 65536) else none
  | _ => none

end Sys2Proof.Machine
end

