-- ==== Sys2Proof/Machine/Lanes.lean ====
section
/-! DEFINITION. The serial lanes (R144 to R173): transmit control under the Net, training, equalisation, slip and
alignment search, loss of signal and of lock, monitors. -/

namespace Sys2Proof.Machine

/-- The symbol rate of RATE in kBd (R145). -/
def symbolKBd (rate : Nat) : Nat :=
  match rate with
  | 1 => 10312500
  | 2 => 12500000
  | 3 => 25781250
  | 4 => 26562500
  | 5 => 28125000
  | _ => 1

/-- RATE selects PAM4 (R145). -/
def ratePam4 (rate : Nat) : Bool := decide (rate = 4 ∨ rate = 5)

/-- `n` words of 64 symbols, in 1/65,536 ns (R145). -/
def wordsTime (rate n : Nat) : Nat := n * 64 * 65536 * 1000000 / symbolKBd rate

/-- One symbol in 1/65,536 ns. -/
def uiTime (rate : Nat) : Nat := 65536 * 1000000 / symbolKBd rate

/-- TX_ACTIVE, and a burst that needs the output, follow the transmitter's settings (R159, R161). -/
def Device.showTx (d : Device) (l : Nat) : Device :=
  let ix := lx l
  let loop := d.get R.LN_CTL_LOOP ix
  let on := d.flag R.LN_CTL_TX_ON ix && d.flag R.LN_STAT_TXPLL_LOCK ix
  let act := on && (decide (loop = 3) || (decide (loop = 0) && !d.flag R.LN_TX_TX_IDLE ix)) && !(d.lane l).cut
  let d := d.setFlag R.LN_STAT_TX_ACTIVE ix act
  if act then d else d.setFlag R.LN_STAT_WAKE ix false

/-- LN_LAT as the lock bits, rate, slips and precoding make it (R167). -/
def Device.showLat (d : Device) (l : Nat) : Device :=
  let ix := lx l
  let rate := d.get R.LN_CTL_RATE ix
  let rx := if d.flag R.LN_STAT_CDR_LOCK ix then
      (Config.rxLatency rate (d.flag R.LN_CTL_PRE_RX ix)).toNat + d.get R.LN_ALIGN_STAT_OFFSET ix * uiTime rate else 0
  let tx := if d.flag R.LN_STAT_TXPLL_LOCK ix then (Config.txLatency rate (d.flag R.LN_CTL_PRE_TX ix)).toNat else 0
  (d.put R.LN_LAT_RX_LAT ix rx).put R.LN_LAT_TX_LAT ix tx

/-- The distance of two numbers. -/
def absDiff (a b : Nat) : Nat := if a ≤ b then b - a else a - b

/-! ### Symbols on the pad (R147, R148, R159, R161, R162) -/

/-- The lane signals in PAM4. -/
def Device.pam4 (d : Device) (l : Nat) : Bool := ratePam4 (d.get R.LN_CTL_RATE (lx l))

/-- Bits as symbols at the transmit pad, from the first data symbol after training or a wake burst on, where the precoder's
state is 0: Gray map, precoder, polarity. -/
def Device.txSymbols (d : Device) (l : Nat) (bs : List Bool) : List Nat :=
  let g := toSymbols (d.pam4 l) bs
  let g := if d.pam4 l && d.flag R.LN_CTL_PRE_TX (lx l) then precode 0 g else g
  if d.flag R.LN_CTL_TX_INV (lx l) then g.map (invertSymbol (d.pam4 l)) else g

/-- Symbols at the receive pad as bits: polarity, decoder, Gray map; and the last symbol before the decoder. -/
def Device.rxBits (d : Device) (l : Nat) (vs : List Nat) : List Bool × Nat :=
  let g := if d.flag R.LN_CTL_RX_INV (lx l) then vs.map (invertSymbol (d.pam4 l)) else vs
  let last := (d.lane l).rxLast
  let h := if d.pam4 l && d.flag R.LN_CTL_PRE_RX (lx l) then decodePre last g else g
  (ofSymbols (d.pam4 l) h, g.getLastD last)

/-- The pattern generator runs. -/
def Device.genOn (d : Device) (l : Nat) : Bool :=
  let p := d.get R.LN_PRBS_POLY (lx l)
  d.flag R.LN_PRBS_GEN (lx l) && decide (1 ≤ p ∧ p ≤ 5)

/-- The bits that go to the serialiser: the pattern in place of the protocol unit's while the generator runs (R162). -/
def Device.txSource (d : Device) (l : Nat) (own : List Bool) : List Bool :=
  if d.genOn l then prbsBits (d.get R.LN_PRBS_POLY (lx l)) own.length (valueBits 31 (Config.patternStart l).toNat) else own

/-- What leaves the pad: nothing in electrical idle; the wake burst; the recovered symbols in the far-end loop; else the
transmit data. -/
def Device.padOut (d : Device) (l : Nat) (own : List Bool) (recovered : List Nat) : List Nat :=
  if !d.flag R.LN_STAT_TX_ACTIVE (lx l) then []
  else if d.get R.LN_CTL_LOOP (lx l) = 3 then recovered
  else if d.flag R.LN_STAT_WAKE (lx l) then wakeBurst (d.pam4 l)
  else d.txSymbols l (d.txSource l own)

/-- The bits the receiver hands on: from the pad, from the own serialiser (LOOP 1), or the own transmit words (LOOP 2). -/
def Device.rxTake (d : Device) (l : Nat) (own : List Bool) (vs : List Nat) : List Bool × Nat :=
  if d.get R.LN_CTL_LOOP (lx l) = 1 then d.rxBits l (d.txSymbols l (d.txSource l own))
  else if d.get R.LN_CTL_LOOP (lx l) = 2 then (d.txSource l own, (d.lane l).rxLast)
  else d.rxBits l vs

/-! ### Training -/

/-- LN_TRAIN_STAT.STATE: 0 OFF, 1 WAIT, 2 ADAPT, 3 READY, 4 DATA, 5 FAIL. -/
def Device.trainState (d : Device) (l : Nat) : Nat := d.get R.LN_TRAIN_STAT_STATE (lx l)

/-- Training runs: WAIT, ADAPT or READY. -/
def Device.training (d : Device) (l : Nat) : Bool := decide (1 ≤ d.trainState l ∧ d.trainState l ≤ 3)

/-- The five taps of LN_FFE, signed (R150). -/
def Device.taps (d : Device) (l : Nat) : List Int :=
  [R.LN_FFE_C_M2, R.LN_FFE_C_M1, R.LN_FFE_C_0, R.LN_FFE_C_P1, R.LN_FFE_C_P2].map (fun f => sgn 8 (d.get f (lx l)))

/-- The range of tap `i` (R150). -/
def tapRange (i : Nat) : Int × Int :=
  match i with
  | 0 => (0, 6)
  | 1 => (-16, 0)
  | 2 => (32, 64)
  | 3 => (-24, 0)
  | _ => (-6, 0)

/-- A coefficient set is valid (R150). -/
def tapsValid (t : List Int) : Bool :=
  decide (t.length = 5)
    && (t.zipIdx).all (fun e => decide ((tapRange e.2).1 ≤ e.1 ∧ e.1 ≤ (tapRange e.2).2))
    && decide ((t.map Int.natAbs).sum ≤ 64)

/-- The taps as a register word. -/
def tapsWord (t : List Int) : Word := BitVec.ofNat 64 ((t.zipIdx.map (fun e => code 8 e.1 * 2 ^ (8 * e.2))).sum)

/-- Write the taps. -/
def Device.setTaps (d : Device) (l : Nat) (t : List Int) : Device := d.wr R.LN_FFE (lx l) (tapsWord t)

/-- The presets of R151; none for 0 and the reserved codes. -/
def preset (n : Nat) : Option (List Int) :=
  match n with
  | 1 => some [0, 0, 64, 0, 0]
  | 2 => some [0, 0, 52, -12, 0]
  | 3 => some [0, -6, 46, -12, 0]
  | 4 => some [2, -8, 40, -14, 0]
  | _ => none

/-- The final response of LANE_TRAIN. -/
def Device.trainReply (d : Device) (l : Nat) : List Byte :=
  let ix := lx l
  layout [(1, d.get R.LN_TRAIN_STAT_RESULT ix), (1, b2n (d.flag R.LN_CTL_PRE_TX ix) + 2 * b2n (d.flag R.LN_CTL_PRE_RX ix)),
    (2, d.get R.LN_TRAIN_STAT_REQS ix), (5, (d.rd R.LN_FFE ix).toNat % 2 ^ 40), (1, d.get R.LN_RX_EQ_CTLE ix)]

/-- Training ends in a state with a RESULT: TRAIN_END, and the answer of LANE_TRAIN (R154). -/
def Device.trainEnd (d : Device) (l st result : Nat) : Device :=
  let ix := lx l
  let d := d.put R.LN_TRAIN_STAT_STATE ix st
  let d := d.put R.LN_TRAIN_STAT_RESULT ix result
  let d := d.setFlag R.LN_EVT_TRAIN_END ix true
  let d := d.setLane l { d.lane l with frameAt := none, countdown := none, rxLast := 0 }
  d.finish 0x0402 [l] (if st = 4 then 0 else 0x0410) (d.trainReply l)

/-- Training fails with a RESULT: 2 TIMEOUT, 3 LOS, 4 ABORT, 5 NO_TX, 6 IDLE. -/
def Device.trainFail (d : Device) (l result : Nat) : Device := if d.training l then d.trainEnd l 5 result else d

/-- The DFE takes its twelve taps; the first is shown (R156). -/
def Device.setDfe (d : Device) (l : Nat) (taps : List Byte) : Device :=
  (d.setLane l { d.lane l with dfe := fit 12 taps }).put R.LN_RX_EQ_DFE1 (lx l) (fieldAt taps 0 1)

/-- The equaliser returns to its starting point, unless frozen (R156). -/
def Device.resetEq (d : Device) (l : Nat) : Device :=
  let ix := lx l
  let d := if d.flag R.LN_RX_EQ_CTLE_FRZ ix then d else d.put R.LN_RX_EQ_CTLE ix 12
  let d := if d.flag R.LN_RX_EQ_DFE_FRZ ix then d else d.setDfe l []
  d.setFlag R.LN_RX_EQ_ADAPT_OK ix false

/-- The Net admits an active transmitter of the lane: TX_EN, and SWING within the limit (R149). -/
def Device.txAdmitted (d : Device) (l : Nat) : Bool :=
  d.flag R.NET_LN_TX_EN [l] && decide (d.get R.LN_TX_SWING (lx l) ≤ d.get R.NET_LN_SWING_MAX [l])

/-- A wake burst begins (R159). -/
def Device.beginBurst (d : Device) (l : Nat) : Device :=
  (d.setLane l { d.lane l with burstAt := d.tt }).setFlag R.LN_STAT_WAKE (lx l) true

/-- TX_IDLE clears, and the wake burst begins (R159). -/
def Device.wakeTx (d : Device) (l : Nat) : Device :=
  let was := d.flag R.LN_TX_TX_IDLE (lx l)
  let d := d.setFlag R.LN_TX_TX_IDLE (lx l) false
  (if was then d.beginBurst l else d).showTx l

/-- START (R154): ignored while training runs. -/
def Device.trainStart (d : Device) (l : Nat) : Device :=
  if d.training l then d
  else
    let ix := lx l
    let d := match preset (d.get R.LN_TRAIN_CTL_LOCAL_PRESET ix) with
      | some t => d.setTaps l t
      | none => d
    let d := d.put R.LN_TRAIN_STAT_REQS ix 0
    let d := d.setFlag R.LN_TRAIN_STAT_FAR_READY ix false
    let d := d.resetEq l
    let d := d.setLane l { d.lane l with trainStart := d.tt, resp := 0, req := 0, manual := false, eyes := [], accepted := 0
                                         localDone := false, word2 := none, frameAt := none, countdown := none, ownGone := false
                                         farGone := false, patBits := 0 }
    let d := d.put R.LN_TRAIN_STAT_STATE ix 1
    if d.flag R.LN_TX_TX_IDLE ix ∧ (!d.txAdmitted l ∨ (d.lane l).cut) then d.trainFail l 5
    else ((d.setFlag R.LN_TX_TX_IDLE ix false).beginBurst l).showTx l

/-- ABORT (R154): training that runs fails with ABORT on its way to OFF (log entry 22). -/
def Device.trainAbort (d : Device) (l : Nat) : Device :=
  (d.trainFail l 4).put R.LN_TRAIN_STAT_STATE (lx l) 0

/-- The tap codes of a request or response word. -/
def tapCode (w i : Nat) : Nat := bits w (2 * i) 2

/-- A tap moved by a request code; reserved codes are HOLD (R152, R153). -/
def tapMove (t : Int) (c : Nat) : Int := if c = 1 then t + 1 else if c = 2 then t - 1 else t

/-- The request asks for something in bits [12:0], reserved codes read as HOLD. -/
def reqActive (w : Nat) : Bool :=
  decide (1 ≤ bits w 10 3 ∧ bits w 10 3 ≤ 4) || (List.range 5).any (fun i => decide (tapCode w i = 1 ∨ tapCode w i = 2))

/-- The taps after a request, and the response to it (R153). -/
def respondTaps (t : List Int) (w : Nat) : List Int × Nat :=
  match preset (bits w 10 3) with
  | some p => (p, 0x155 + bits w 10 3 * 1024)
  | none =>
    let t' := t.zipIdx.map (fun e => tapMove e.1 (tapCode w e.2))
    let ok := tapsValid t'
    let answer := fun i =>
      let c := tapCode w i
      if c = 1 then (if ok then 1 else 3) else if c = 2 then (if ok then 1 else 2) else 0
    (if ok then t' else t, ((List.range 5).map (fun i => answer i * 4 ^ i)).sum)

/-- The responder's share of a received training frame (R153): PRECODE_ACK, bit 13 of the response word, follows the last
PRECODE. -/
def Device.trainRespond (d : Device) (l w : Nat) : Device :=
  let x := d.lane l
  let ack := b2n (bit w 13) * 0x2000
  if !reqActive w then d.setLane l { x with resp := ack }
  else if bits x.resp 0 13 ≠ 0 then d.setLane l { x with resp := x.resp % 0x2000 + ack }
  else
    let r := respondTaps (d.taps l) w
    (d.setTaps l r.1).setLane l { x with resp := r.2 + ack }

/-- A request word of HOLD: PRECODE as the engine or the manual word has it, and READY (R152, R154). -/
def Device.holdWord (d : Device) (l : Nat) : Nat :=
  let ix := lx l
  let top := if d.flag R.LN_TRAIN_CTL_AUTO ix then b2n (d.pam4 l && d.flag R.LN_TRAIN_CTL_PRECODE_REQ ix) * 0x2000
    else d.get R.LN_TRAIN_REQ_REQ ix / 0x2000 % 8 * 0x2000
  top ||| b2n (decide (d.trainState l = 3)) * 0x4000

/-- A request word goes out (R154, R155). -/
def Device.sendReq (d : Device) (l w : Nat) : Device :=
  let ix := lx l
  let d := d.setLane l { d.lane l with req := w }
  let d := d.put R.LN_TRAIN_STAT_LAST_REQ ix w
  if reqActive w then d.bump R.LN_TRAIN_STAT_REQS ix else d

/-- The manual word goes out once the handshake of R153 allows it (R155). -/
def Device.sendManual (d : Device) (l : Nat) : Device :=
  let x := d.lane l
  if x.manual ∧ d.trainState l = 2 ∧ !reqActive x.req ∧ bits (d.get R.LN_TRAIN_STAT_LAST_RESP (lx l)) 0 10 = 0 then
    (d.setLane l { x with manual := false }).sendReq l (d.get R.LN_TRAIN_REQ_REQ (lx l))
  else d

/-- The local receiver is done: READY is sent (R154). -/
def Device.trainDone (d : Device) (l : Nat) : Device :=
  if d.trainState l = 2 then
    let d := d.put R.LN_TRAIN_STAT_STATE (lx l) 3
    let d := d.setLane l { d.lane l with localDone := true }
    d.sendReq l (d.holdWord l)
  else d

/-- AUTO counts the receiver done: the eye improved by less than one sixteenth of a bin over eight accepted requests,
or 1,024 requests have gone out (R155). -/
def Device.autoDone (d : Device) (l : Nat) : Bool :=
  let x := d.lane l
  decide (1024 ≤ d.get R.LN_TRAIN_STAT_REQS (lx l))
    || (match x.eyes[0]?, x.eyes[8]? with
        | some new, some old => decide (old ≤ new)
        | _, _ => false)

/-- The requester's share of a received frame: an answer ends the request, and after HOLD is answered AUTO sends
its next one (R153, R155). `eye` is the eye estimate now, in 1/16 bin. -/
def Device.trainRequest (d : Device) (l resp eye : Nat) : Device :=
  let ix := lx l
  let x := d.lane l
  let answered := decide (bits resp 0 10 ≠ 0)
  if reqActive x.req ∧ answered then
    let good := (List.range 5).any (fun i => decide (tapCode resp i = 1))
    let d := if good then d.setLane l { x with eyes := (eye :: x.eyes).take 9, accepted := x.accepted + 1 } else d
    d.sendReq l (d.holdWord l)
  else if reqActive x.req ∨ answered ∨ d.trainState l ≠ 2 then d
  else if !d.flag R.LN_TRAIN_CTL_AUTO ix then d.sendManual l
  else if d.autoDone l then d.trainDone l
  else
    let r := d.draw
    r.2.sendReq l ((Config.trainRequest r.1).toNat + r.2.holdWord l)

/-- TRAIN_PAT (R200). -/
def trainPat : Word := 0xC5F05A0F96E12D78

/-- A received word 2 (R200): the first of its copies whose CRC passes; else the last valid word stands. -/
def word2Of (a b : Nat) (last : Option Nat) : Option Nat :=
  let good := fun (c : Nat) => decide (crc16 (leBytes 6 (c % 2 ^ 48)) = bits c 48 16)
  if good a then some a else if good b then some b else last

/-- The switch-over (R201, R154): DATA when both directions have sent their last training frame. -/
def Device.trainSwitch (d : Device) (l : Nat) : Device :=
  let ix := lx l
  let x := d.lane l
  if d.trainState l = 3 ∧ d.flag R.LN_TRAIN_STAT_FAR_READY ix ∧ x.ownGone ∧ x.farGone then
    let d := d.setFlag R.LN_CTL_PRE_TX ix (bit x.resp 13)
    let d := d.setFlag R.LN_CTL_PRE_RX ix (bit (d.get R.LN_TRAIN_STAT_LAST_RESP ix) 13)
    (d.showLat l).trainEnd l 4 1
  else d

/-- A received training frame (R153, R154, R200, R201): word 0, which makes it one, the copies of word 2, and the eye estimate
now. -/
def Device.trainFrame (d : Device) (l : Nat) (head : BitVec 128) (word2 copy : Word) (eye : Nat) : Device :=
  if !d.training l ∨ head ≠ ~~~ trainPat ++ trainPat then d
  else
    let ix := lx l
    let d := if d.trainState l = 1 then
        let d := d.put R.LN_TRAIN_STAT_STATE ix 2
        if d.flag R.LN_TRAIN_CTL_AUTO ix then d.sendReq l (d.get R.LN_TRAIN_CTL_FAR_PRESET ix * 1024 + d.holdWord l) else d
      else d
    match word2Of word2.toNat copy.toNat (d.lane l).word2 with
    | none => d
    | some v =>
      let d := d.setLane l { d.lane l with word2 := some v, farGone := (d.lane l).farGone || decide (bits v 37 5 = 0) }
      let d := d.trainRespond l (bits v 0 16)
      let d := d.put R.LN_TRAIN_STAT_LAST_RESP ix (bits v 16 16)
      let d := d.setFlag R.LN_TRAIN_STAT_FAR_READY ix (bit v 14)
      (d.trainRequest l (bits v 16 16) eye).trainSwitch l

/-- The training frame being sent ends when its 1,024 words have gone, and the next begins (R200, R201): COUNTDOWN runs from 23
once both ends are READY, and after the frame that carries 0 no further one follows. -/
def Device.trainFrameEnd (d : Device) (l : Nat) : Device :=
  let x := d.lane l
  match x.frameAt with
  | none => d
  | some t =>
    let len := wordsTime (d.get R.LN_CTL_RATE (lx l)) 1024
    if !d.training l ∨ ttDiff d.tt t < (len : Int) then d
    else
      let ready := decide (d.trainState l = 3) && d.flag R.LN_TRAIN_STAT_FAR_READY (lx l)
      let gone := decide (x.countdown = some 0)
      let down := match x.countdown with
        | none => if ready then some 23 else none
        | some n => some (n - 1)
      (d.setLane l { x with frameAt := if gone then none else some (t + BitVec.ofNat 64 len), countdown := down, ownGone := gone
                            patBits := x.patBits + 130560 }).trainSwitch l

/-- The manual request word (R155): sent at once or as soon as the handshake allows, AUTO being 0. -/
def Device.trainReqWrite (d : Device) (l w : Nat) : Device :=
  let d := d.put R.LN_TRAIN_REQ_REQ (lx l) w
  if d.flag R.LN_TRAIN_CTL_AUTO (lx l) then d else (d.setLane l { d.lane l with manual := true }).sendManual l

/-- DONE (R155): AUTO 0. -/
def Device.trainDoneWrite (d : Device) (l : Nat) : Device :=
  if !d.flag R.LN_TRAIN_CTL_AUTO (lx l) then d.trainDone l else d

/-- TIMEOUT ms since START (R154). -/
def Device.trainTimeout (d : Device) (l : Nat) : Device :=
  let ms := max 1 (d.get R.LN_TRAIN_CTL_TIMEOUT (lx l))
  if (ms * 1000000 * 65536 : Nat) ≤ ttDiff d.tt (d.lane l).trainStart then d.trainFail l 2 else d

/-! ### Transmit control -/

/-- The transmitter is forced idle (R127, R149). -/
def Device.txCut (d : Device) (l : Nat) (swing : Bool) : Device :=
  let ix := lx l
  let since := if swing ∧ d.trainState l = 4 then some d.tt else none
  let d := d.setFlag R.LN_TX_TX_IDLE ix true
  let d := d.setFlag R.LN_EVT_TX_CUT ix true
  let d := d.setLane l { d.lane l with cut := true, cutSince := since }
  (d.showTx l).trainFail l 5

/-- What an adopted Net table does to the lane (R127, R149). -/
def Device.laneNet (d : Device) (l : Nat) : Device :=
  let active := !d.flag R.LN_TX_TX_IDLE (lx l) || decide (d.get R.LN_CTL_LOOP (lx l) = 3)
  let beyond := decide (d.get R.NET_LN_SWING_MAX [l] < d.get R.LN_TX_SWING (lx l))
  if (active && !d.flag R.NET_LN_TX_EN [l]) || beyond then (if (d.lane l).cut then d else d.txCut l beyond) else d

/-- An admitted write of LN_TX (R149, R159). -/
def Device.laneTxWrite (d : Device) (l : Nat) (v : Word) : Device :=
  let ix := lx l
  let d := d.put R.LN_TX_SWING ix (R.LN_TX_SWING.of v)
  let cut := (d.lane l).cut && decide (d.get R.NET_LN_SWING_MAX [l] < R.LN_TX_SWING.of v)
  let d := d.setLane l { d.lane l with cut := cut, cutSince := if cut then (d.lane l).cutSince else none }
  if R.LN_TX_TX_IDLE.of v = 1 then
    let d := (d.setFlag R.LN_TX_TX_IDLE ix true).showTx l
    d.trainFail l 6
  else d.wakeTx l

/-- A write of LN_FFE (R150). -/
def Device.laneFfeWrite (d : Device) (l : Nat) (v : Word) : Device :=
  let t := (List.range 5).map (fun i => sgn 8 (bits v.toNat (8 * i) 8))
  if d.training l ∨ !tapsValid t then d.setFlag R.LN_EVT_CFG_BAD (lx l) true else d.setTaps l t

/-- The lane begins a loss of lock (R164, R161). -/
def Device.loseLock (d : Device) (l : Nat) : Device :=
  let d := d.setFlag R.LN_STAT_CDR_LOCK (lx l) false
  match (d.lane l).lolSince with
  | some _ => d
  | none => d.setLane l { d.lane l with lolSince := some d.tt }

/-- An admitted write of LN_CTL (R161, R169): RATE only while the lane is off; reserved RATE and LOOP codes change
nothing (log entry 23). -/
def Device.laneCtlWrite (d : Device) (l : Nat) (v : Word) : Device :=
  let ix := lx l
  let on := d.flag R.LN_CTL_RX_EN ix || d.flag R.LN_CTL_TX_ON ix
  let rate := R.LN_CTL_RATE.of v
  let loop := R.LN_CTL_LOOP.of v
  let oldLoop := d.get R.LN_CTL_LOOP ix
  let d := if rate = d.get R.LN_CTL_RATE ix then d
    else if on then d.setFlag R.LN_EVT_CFG_BAD ix true
    else if 5 < rate then d
    else d.put R.LN_CTL_RATE ix rate
  let rx := decide (R.LN_CTL_RX_EN.of v = 1)
  let tx := decide (R.LN_CTL_TX_ON.of v = 1)
  let d := (d.setFlag R.LN_CTL_RX_EN ix rx).setFlag R.LN_CTL_TX_ON ix tx
  let d := d.put R.LN_CTL_RX_INV ix (R.LN_CTL_RX_INV.of v)
  let d := d.put R.LN_CTL_TX_INV ix (R.LN_CTL_TX_INV.of v)
  let d := d.put R.LN_CTL_PRE_TX ix (R.LN_CTL_PRE_TX.of v)
  let d := d.put R.LN_CTL_PRE_RX ix (R.LN_CTL_PRE_RX.of v)
  let d := if 3 < loop then d else d.put R.LN_CTL_LOOP ix loop
  let d := if !rx then
      let d := (d.setFlag R.LN_STAT_CDR_LOCK ix false).setFlag R.LN_RX_EQ_ADAPT_OK ix false
      (d.setFlag R.LN_STAT_RX_HOLD ix false).setLane l { d.lane l with wasLocked := false }
    else if loop ≤ 3 ∧ loop ≠ oldLoop then d.loseLock l else d
  let d := if tx then d else d.setFlag R.LN_STAT_TXPLL_LOCK ix false
  (d.showTx l).showLat l

/-- Training frames are sent from now on, where training runs and the output is active (R154). -/
def Device.beginFrames (d : Device) (l : Nat) : Device :=
  let x := d.lane l
  if d.training l ∧ x.frameAt.isNone ∧ !x.ownGone ∧ d.flag R.LN_STAT_TX_ACTIVE (lx l) then
    d.setLane l { x with frameAt := some d.tt }
  else d

/-- The wake burst ends after its 4,096 symbols (R159), and training frames follow while training runs. -/
def Device.wakeBurstDone (d : Device) (l : Nat) : Device :=
  if !d.flag R.LN_STAT_WAKE (lx l) ∨ ttDiff d.tt (d.lane l).burstAt < (wordsTime (d.get R.LN_CTL_RATE (lx l)) 64 : Nat) then d
  else (d.setFlag R.LN_STAT_WAKE (lx l) false).beginFrames l

/-! ### The receiver -/

/-- TXPLL_LOCK (R170): with TX_ON and a RATE. -/
def Device.txPllLock (d : Device) (l : Nat) : Device :=
  let ix := lx l
  if d.flag R.LN_CTL_TX_ON ix ∧ d.get R.LN_CTL_RATE ix ≠ 0 then
    let d := ((d.setFlag R.LN_STAT_TXPLL_LOCK ix true).showTx l).showLat l
    if d.flag R.LN_STAT_WAKE ix then d else d.beginFrames l
  else d

/-- CDR_LOCK (R170): with RX_EN, a RATE and a signal; a loss of lock ends (R164). -/
def Device.cdrLock (d : Device) (l : Nat) : Device :=
  let ix := lx l
  if d.flag R.LN_CTL_RX_EN ix ∧ d.get R.LN_CTL_RATE ix ≠ 0 ∧ !d.flag R.LN_STAT_LOS ix then
    let d := (d.setFlag R.LN_STAT_CDR_LOCK ix true).setFlag R.LN_STAT_LOL ix false
    let d := d.setFlag R.LN_STAT_RX_HOLD ix false
    (d.setLane l { d.lane l with wasLocked := true, lolSince := none }).showLat l
  else d

/-- CTLE and DFE have settled, at codes the channel gives (R156). -/
def Device.adaptOk (d : Device) (l ctle : Nat) (dfe : List Byte) : Device :=
  let ix := lx l
  if !d.flag R.LN_STAT_CDR_LOCK ix then d
  else
    let d := if d.flag R.LN_RX_EQ_CTLE_FRZ ix then d else d.put R.LN_RX_EQ_CTLE ix ctle
    let d := if d.flag R.LN_RX_EQ_DFE_FRZ ix then d else d.setDfe l dfe
    d.setFlag R.LN_RX_EQ_ADAPT_OK ix true

/-- The amplitude has been `mv` for `ns` nanoseconds (R163): LOS, and the hold of a receiver that was locked (R160). -/
def Device.losAssert (d : Device) (l mv ns : Nat) : Device :=
  let ix := lx l
  if d.get R.LN_LOS_CFG_THRESH ix * 10 ≤ mv ∨ ns < max 16 (d.get R.LN_LOS_CFG_ASSERT_NS ix) ∨ d.flag R.LN_STAT_LOS ix then d
  else
    let d := (d.setFlag R.LN_STAT_LOS ix true).setFlag R.LN_EVT_LOS_SEEN ix true
    let d := d.setFlag R.LN_STAT_CDR_LOCK ix false
    let d := if (d.lane l).wasLocked then d.setFlag R.LN_STAT_RX_HOLD ix true else d
    d.setLane l { d.lane l with losSince := some d.tt }

/-- The loss of signal ends: while the receiver has no lock the loss itself goes on, from when it began (R135). -/
def Device.endLos (d : Device) (l : Nat) : Device :=
  let x := d.lane l
  let since := if d.flag R.LN_STAT_CDR_LOCK (lx l) ∨ x.lolSince.isSome ∨ !x.wasLocked then x.lolSince else x.losSince
  d.setLane l { x with losSince := none, lolSince := since }

/-- The amplitude has exceeded the threshold and its hysteresis for 16 ns (R163); the hold ends (R169). -/
def Device.losDeassert (d : Device) (l mv ns : Nat) : Device :=
  let ix := lx l
  if mv ≤ (d.get R.LN_LOS_CFG_THRESH ix + d.get R.LN_LOS_CFG_HYST ix) * 10 ∨ ns < 16 then d
  else
    let d := (d.setFlag R.LN_STAT_LOS ix false).setFlag R.LN_STAT_RX_HOLD ix false
    d.endLos l

/-- The CDR is off by `ppm`, or its phase detector has failed for `words` words (R164). -/
def Device.lolAssert (d : Device) (l ppm words : Nat) : Device :=
  let ix := lx l
  if (ppm ≤ 500 ∧ words < 64) ∨ !d.flag R.LN_CTL_RX_EN ix then d
  else ((d.setFlag R.LN_STAT_LOL ix true).setFlag R.LN_EVT_LOL_SEEN ix true).loseLock l

/-- A wake burst arrives (R160): WAKE_RX, with EV252 at its rise (R345), and the end of the hold. -/
def Device.laneWake (d : Device) (l : Nat) : Device :=
  let ix := lx l
  if !d.flag R.LN_CTL_RX_EN ix then d
  else
    let rose := !d.flag R.LN_EVT_WAKE_RX ix
    let d := d.setFlag R.LN_EVT_WAKE_RX ix true
    let d := if rose then d.fire 252 else d
    if d.flag R.LN_STAT_RX_HOLD ix then
      let d := (d.setFlag R.LN_STAT_LOS ix false).endLos l
      (d.setLane l { d.lane l with rxLast := 0 }).cdrLock l
    else d

/-- A loss of the lane has lasted 1 µs (R135, R164), or its transmitter was cut in DATA 1 µs ago (R169). -/
def Device.lossLong (d : Device) (l : Nat) : Bool :=
  [(d.lane l).losSince, (d.lane l).lolSince, (d.lane l).cutSince].any (fun o => match o with
    | some t => decide (65536000 ≤ ttDiff d.tt t)
    | none => false)

/-- LOS has lasted 1 µs while training runs (R154). -/
def Device.trainingLosFail (d : Device) (l : Nat) : Device :=
  match (d.lane l).losSince with
  | some t => if 65536000 ≤ ttDiff d.tt t then d.trainFail l 3 else d
  | none => d

/-! ### Slip, comparator and search -/

/-- The comparator starts afresh; FOUND clears (R157, R158). -/
def Device.clearFound (d : Device) (l : Nat) : Device :=
  let ix := lx l
  let was := d.flag R.LN_ALIGN_STAT_FOUND ix
  let d := d.setFlag R.LN_ALIGN_STAT_FOUND ix false
  let since := if was then some d.tt else (d.lane l).unfoundSince
  d.setLane l { d.lane l with cmpPhase := none, cmpCount := 0, missed := 0, unfoundSince := since }

/-- SLIP (R157). -/
def Device.laneSlip (d : Device) (l : Nat) : Device :=
  if d.flag R.LN_ALIGN_CTL_SLIP_BUSY (lx l) then d
  else (d.setFlag R.LN_ALIGN_CTL_SLIP_BUSY (lx l) true).clearFound l

/-- The slip takes effect (R157): OFFSET counts modulo 64, the comparator restarts, and the firmware's search waits at the new offset. -/
def Device.laneSlipDone (d : Device) (l : Nat) : Device :=
  let ix := lx l
  if !d.flag R.LN_ALIGN_CTL_SLIP_BUSY ix then d
  else
    let d := (d.setFlag R.LN_ALIGN_CTL_SLIP_BUSY ix false).count R.LN_ALIGN_STAT_OFFSET ix
    let d := (d.clearFound l).showLat l
    match (d.lane l).search with
    | some s => d.setLane l { d.lane l with search := some { s with since := d.tt } }
    | none => d

/-- The final response of LANE_ALIGN, which ends its search. -/
def Device.searchEnd (d : Device) (l status : Nat) : Device :=
  match (d.lane l).search with
  | none => d
  | some s =>
    let us := (ttDiff d.tt s.start / 65536000).toNat
    let d := d.setLane l { d.lane l with search := none }
    d.finish 0x0403 [l] status
      (layout [(1, d.get R.LN_ALIGN_STAT_OFFSET (lx l)), (1, 0), (2, d.get R.LN_ALIGN_STAT_PHASE (lx l)), (4, us)])

/-- Received word number `n` matches (R158): the first match gives the phase; FOUND after CONFIRM consecutive periods with a
match there; a period without one starts afresh; while FOUND a match at PHASE ends the count of misses. -/
def Device.markerMatch (d : Device) (l n : Nat) : Device :=
  let ix := lx l
  let per := max 1 (d.get R.LN_ALIGN_CTL_PERIOD ix)
  let ph := n % per
  let x := d.lane l
  let here := { x with cmpPhase := some ph, cmpWord := n, cmpAt := d.tt, missed := 0 }
  if d.flag R.LN_ALIGN_STAT_FOUND ix then (if x.cmpPhase = some ph then d.setLane l here else d)
  else if x.cmpPhase.isSome ∧ x.cmpPhase ≠ some ph ∧ n ≤ x.cmpWord + per then d
  else
    let k := if x.cmpPhase = some ph ∧ n ≤ x.cmpWord + per then x.cmpCount + 1 else 1
    let d := d.setLane l { here with cmpCount := k }
    if max 1 (d.get R.LN_ALIGN_CTL_CONFIRM ix) ≤ k then
      let d := d.put R.LN_ALIGN_STAT_PHASE ix ph
      let d := (d.setFlag R.LN_ALIGN_STAT_FOUND ix true).setFlag R.LN_EVT_ALIGN_FOUND ix true
      let d := d.setLane l { d.lane l with unfoundSince := none }
      d.searchEnd l 0
    else d

/-- The comparator tests bits [63:0] of received word number `n` (R158). -/
def Device.compareWord (d : Device) (l n : Nat) (w : Word) : Device :=
  let ix := lx l
  if d.flag R.LN_ALIGN_CTL_ENABLE ix && decide ((d.rd R.LN_ALIGN_PAT ix ^^^ w) &&& d.rd R.LN_ALIGN_MASK ix = 0) then d.markerMatch l n
  else d

/-- The periods that have gone by without a match since the last one, four words allowed for its delivery. -/
def Device.periodsMissed (d : Device) (l : Nat) : Nat :=
  let rate := d.get R.LN_CTL_RATE (lx l)
  ((ttDiff d.tt (d.lane l).cmpAt - (wordsTime rate 4 : Nat)) / max 1 (wordsTime rate (max 1 (d.get R.LN_ALIGN_CTL_PERIOD (lx l))) : Nat)).toNat

/-- MISSES counts each period without a match at PHASE while FOUND (R158). -/
def Device.countMisses (d : Device) (l : Nat) : Device :=
  let k := d.periodsMissed l
  let x := d.lane l
  if !d.flag R.LN_ALIGN_STAT_FOUND (lx l) ∨ k ≤ x.missed then d
  else (d.bumpBy R.LN_ALIGN_STAT_MISSES (lx l) (k - x.missed)).setLane l { x with missed := k }

/-- LOSE periods in a row had no match (R158): FOUND clears and the search starts afresh without a slip. -/
def Device.alignLost (d : Device) (l : Nat) : Device :=
  let ix := lx l
  let d := d.countMisses l
  if !d.flag R.LN_ALIGN_STAT_FOUND ix ∨ (d.lane l).missed < max 1 (d.get R.LN_ALIGN_CTL_LOSE ix) then d
  else (d.setFlag R.LN_EVT_ALIGN_LOST ix true).clearFound l

/-- The search's wait at an offset, or its time limit, runs out (R158, LANE_ALIGN): without a match after
4 + PERIOD words, or unconfirmed after CONFIRM − 1 periods more, it slips on; after 64 offsets it fails. -/
def Device.searchTimer (d : Device) (l : Nat) : Device :=
  let ix := lx l
  match (d.lane l).search with
  | none => d
  | some s =>
    let rate := d.get R.LN_CTL_RATE ix
    let period := d.get R.LN_ALIGN_CTL_PERIOD ix
    let confirm := max 1 (d.get R.LN_ALIGN_CTL_CONFIRM ix)
    let words := if (d.lane l).cmpCount = 0 then 4 + period else 4 + confirm * period
    if (s.limitUs * 65536000 : Nat) ≤ ttDiff d.tt s.start then d.searchEnd l 0x0411
    else if d.flag R.LN_ALIGN_CTL_SLIP_BUSY ix ∨ ttDiff d.tt s.since < (wordsTime rate words : Nat) then d
    else if 63 ≤ s.offset then d.searchEnd l 0x0411
    else (d.setLane l { d.lane l with search := some { s with offset := s.offset + 1 } }).laneSlip l

/-! ### Monitors -/

/-- START of a histogram window (R165). -/
def Device.histStart (d : Device) (l : Nat) : Device :=
  if d.flag R.LN_HIST_CTL_BUSY (lx l) then d
  else
    let d := d.put R.LN_HIST_CTL_WIN (lx l) (clamp 10 30 (d.get R.LN_HIST_CTL_WIN (lx l)))
    d.setFlag R.LN_HIST_CTL_BUSY (lx l) true

/-- The 64 bins as 4-byte counts, then LN_LEVELS (LANE_HIST). -/
def Device.histBytes (d : Device) (l : Nat) : List Byte :=
  (List.range 32).flatMap (fun k => leBytes 8 (d.rd R.LN_HIST (lx l ++ [k])).toNat)
    ++ leBytes 8 (d.rd R.LN_LEVELS (lx l)).toNat

/-- The PRBS checker takes received symbols (R162): it locks on 64 error-free bits, and counts bits in error after that. -/
def Device.prbsCheck (d : Device) (l : Nat) (vs : List Nat) : Device :=
  let ix := lx l
  let poly := d.get R.LN_PRBS_POLY ix
  if !d.flag R.LN_PRBS_CHK ix ∨ poly = 0 ∨ 5 < poly then d
  else
    let r := d.rxTake l (List.replicate (if d.pam4 l then 2 * vs.length else vs.length) false) vs
    let c := r.1.foldl (PrbsChk.step poly) (d.lane l).prbs
    let new := c.errors - (d.lane l).prbs.errors
    ((d.setLane l { d.lane l with prbs := c, rxLast := r.2 }).setFlag R.LN_PRBS_LOCK ix c.locked).bumpBy R.LN_PRBS_ERR ix new

/-- The checker starts afresh. -/
def Device.prbsReset (d : Device) (l : Nat) : Device :=
  (d.setLane l { d.lane l with prbs := {} }).setFlag R.LN_PRBS_LOCK (lx l) false

/-- Firmware's sample of a lane's RC counters and events into its totals (R166, LANE_COUNTERS). -/
def Device.sampleLane (d : Device) (l : Nat) : Device :=
  let ix := lx l
  let x := d.lane l
  let add := fun f (b : Nat) => b + b2n (d.flag f ix)
  let x := { x with totCorr := x.totCorr + d.get R.LN_FEC_CW_CORR ix, totUncorr := x.totUncorr + d.get R.LN_FEC_CW_UNCORR ix
                    totSym := x.totSym + d.get R.LN_FEC_SYM_SYM ix, losEvents := add R.LN_EVT_LOS_SEEN x.losEvents
                    lolEvents := add R.LN_EVT_LOL_SEEN x.lolEvents, alignEvents := add R.LN_EVT_ALIGN_LOST x.alignEvents }
  let d := (d.setLane l x).wr R.LN_FEC_CW ix 0
  let d := d.put R.LN_FEC_SYM_SYM ix 0
  [R.LN_EVT_LOS_SEEN, R.LN_EVT_LOL_SEEN, R.LN_EVT_ALIGN_LOST].foldl (fun d f => d.setFlag f ix false) d

/-- RECOVER and reset: every register of the lane's block, and what no register shows, at reset (R171, R172). -/
def Device.laneReset (d : Device) (l : Nat) : Device :=
  let lo := 0x1100000 + l / 2 * 0x1000000 + l % 2 * 0x100000
  ({ d with regs := d.regs.filter (fun e => !(decide (lo ≤ e.1 ∧ e.1 < lo + 0x100000))) }).setLane l {}

end Sys2Proof.Machine
end

