-- ==== Sys2Proof/Machine/CmdLanes.lean ====
section
/-! DEFINITION. The lane commands of firmware 3.x, group 0x04 (R173). -/

namespace Sys2Proof.Machine

/-- The mailbox may act on the lane: it owns the lane's port, or is a principal (R173, R57). -/
def Device.mayLane (d : Device) (v : Via) (l : Nat) : Bool :=
  let p := d.portOfLane l
  if (d.prtx p).isOpen then d.mayAct v (.port p) else v.principal

/-- Firmware answers BUSY: a frame is open on the port, or training or a search runs (R173). -/
def Device.laneBusy (d : Device) (l : Nat) : Bool :=
  d.frameOpen (d.portOfLane l) || d.training l || (d.lane l).search.isSome

/-- LANE names no lane, or one that is present. -/
def Device.laneThere (d : Device) (l : Nat) : Bool := decide (15 < l) || d.lanePresent l

/-- The modes of the configuring lane commands. -/
def modesSST : List Nat := [0, 1, 2]

def laneQuerySpec : CmdSpec := { opcode := 0x0400, minLen := 1, maxLen := 1 }

/-- LANE_QUERY; totals include a sample taken now (log entry 24). -/
def Device.laneQuery (e : Entry) (d : Device) : Reply :=
  let l := e.u 12 1
  if 15 < l then d.no stBAD_FIELD
  else
    let d := d.sampleLane l
    let ix := lx l
    let x := d.lane l
    let g := fun f => d.get f ix
    d.ok (layout [(1, g R.LN_CTL_RATE), (1, (d.rd R.LN_STAT ix).toNat),
      (1, g R.LN_TRAIN_STAT_STATE + 8 * g R.LN_TRAIN_STAT_RESULT),
      (1, g R.LN_ALIGN_STAT_FOUND + 2 * g R.LN_ALIGN_STAT_OFFSET), (2, g R.LN_TX_SWING),
      (5, (d.rd R.LN_FFE ix).toNat), (1, g R.LN_RX_EQ_CTLE), (4, x.totCorr), (4, x.totUncorr), (4, x.totSym),
      (1, g R.LN_CTL_PRE_TX + 2 * g R.LN_CTL_PRE_RX + 4 * g R.LN_CTL_RX_INV + 8 * g R.LN_CTL_TX_INV + 16 * g R.LN_CTL_LOOP)])

def laneConfigSpec : CmdSpec := { opcode := 0x0401, minLen := 16, maxLen := 40, modes := modesSST,
                                  wakes := fun e => [e.u 12 1 / 2] }

/-- LN_CTL with these fields. -/
def laneCtlWord (rate rx tx rxInv txInv preTx preRx loop : Nat) : Word :=
  BitVec.ofNat 64 (rate + 8 * rx + 16 * tx + 32 * rxInv + 64 * txInv + 128 * preTx + 256 * preRx + 512 * loop)

/-- LN_CTL as it stands with RATE, enables and inversions replaced. -/
def Device.laneCtlWith (d : Device) (l rate rx tx rxInv txInv : Nat) : Word :=
  let ix := lx l
  laneCtlWord rate rx tx rxInv txInv (d.get R.LN_CTL_PRE_TX ix) (d.get R.LN_CTL_PRE_RX ix) (d.get R.LN_CTL_LOOP ix)

/-- The taps an FFE_MODE asks for; `none` keeps them. -/
def Device.ffeWanted (e : Entry) : Option (List Int) :=
  match e.u 15 1 with
  | 0 => none
  | 5 => some ((List.range 5).map (fun i => e.s (16 + i) 1))
  | m => preset m

/-- LANE_CONFIG. -/
def Device.laneConfig (e : Entry) (d : Device) : Reply :=
  let l := e.u 12 1
  let rate := e.u 13 1
  let fl := e.u 14 1
  let swing := e.u 22 2
  let want := Device.ffeWanted e
  if 15 < l ∨ 5 < rate ∨ 15 < fl ∨ 5 < e.u 15 1 ∨ e.u 21 1 ≠ 0 ∨ e.u 28 24 ≠ 0 ∨ 1200 < swing ∨ e.u 24 1 < 2 ∨ 30 < e.u 24 1
      ∨ 7 < e.u 25 1 ∨ 1023 < e.u 26 2 ∨ !(match want with | some t => tapsValid t | none => true) then d.no stBAD_FIELD
  else if !d.mayLane e.via l then d.no stNOT_OWNER
  else if d.laneBusy l then d.no stBUSY
  else if d.get R.NET_LN_SWING_MAX [l] < swing then d.no stNET_REFUSED
  else
    let ix := lx l
    let d := if rate = d.get R.LN_CTL_RATE ix then d
      else
        let d := d.laneTxWrite l (R.LN_TX_TX_IDLE.into (d.rd R.LN_TX ix) 1)
        d.laneCtlWrite l (d.laneCtlWith l (d.get R.LN_CTL_RATE ix) 0 0 (d.get R.LN_CTL_RX_INV ix) (d.get R.LN_CTL_TX_INV ix))
    let d := if rate = d.get R.LN_CTL_RATE ix then d
      else d.laneCtlWrite l (d.laneCtlWith l rate 0 0 (d.get R.LN_CTL_RX_INV ix) (d.get R.LN_CTL_TX_INV ix))
    let d := d.laneCtlWrite l (d.laneCtlWith l rate (fl % 2) (fl / 2 % 2) (fl / 4 % 2) (fl / 8 % 2))
    let d := match want with
      | some t => d.setTaps l t
      | none => d
    let d := d.put R.LN_TX_SWING ix swing
    let d := d.setLane l { d.lane l with cut := false }
    let d := d.put R.LN_LOS_CFG_THRESH ix (e.u 24 1)
    let d := (d.put R.LN_LOS_CFG_HYST ix (e.u 25 1)).put R.LN_LOS_CFG_ASSERT_NS ix (e.u 26 2)
    (d.showTx l).ok []

def laneTrainSpec : CmdSpec := { opcode := 0x0402, minLen := 6, maxLen := 6, modes := modesSST, mayAccept := true,
                                 wakes := fun e => [e.u 12 1 / 2] }

/-- Start training with these parameters, as LANE_TRAIN and PORT_LINK do. -/
def Device.startTraining (d : Device) (l localP farP timeout : Nat) (precode : Bool) : Device :=
  let ix := lx l
  let d := (d.put R.LN_TRAIN_CTL_LOCAL_PRESET ix localP).put R.LN_TRAIN_CTL_FAR_PRESET ix farP
  let d := (d.setFlag R.LN_TRAIN_CTL_PRECODE_REQ ix precode).put R.LN_TRAIN_CTL_TIMEOUT ix timeout
  (d.setFlag R.LN_TRAIN_CTL_AUTO ix true).trainStart l

/-- LANE_TRAIN. -/
def Device.laneTrain (e : Entry) (d : Device) : Reply :=
  let l := e.u 12 1
  if 15 < l ∨ 4 < e.u 13 1 ∨ 4 < e.u 14 1 ∨ 1 < e.u 15 1 then d.no stBAD_FIELD
  else if !d.mayLane e.via l then d.no stNOT_OWNER
  else if d.laneBusy l then d.no stBUSY
  else if !d.flag R.NET_LN_TX_EN [l] then d.no stNET_REFUSED
  else
    let dflt := fun (v x : Nat) => if v = 0 then x else v
    let d := d.startTraining l (dflt (e.u 13 1) 1) (dflt (e.u 14 1) 3) (dflt (e.u 16 2) 500) (decide (e.u 15 1 = 0))
    if d.trainState l = 5 then { status := 0x0410, payload := d.trainReply l, dev := d }
    else d.accepted [l] (d.portOfLane l)

def laneAlignSpec : CmdSpec := { opcode := 0x0403, minLen := 24, maxLen := 24, modes := modesSST, mayAccept := true,
                                 wakes := fun e => [e.u 12 1 / 2] }

/-- Start the marker search of R158 with these comparator settings. -/
def Device.startSearch (d : Device) (l confirm lose pat mask period limitUs : Nat) : Device :=
  let ix := lx l
  let d := d.wr R.LN_ALIGN_PAT ix (BitVec.ofNat 64 pat)
  let d := d.wr R.LN_ALIGN_MASK ix (BitVec.ofNat 64 mask)
  let d := (d.put R.LN_ALIGN_CTL_PERIOD ix period).put R.LN_ALIGN_CTL_CONFIRM ix confirm
  let d := (d.put R.LN_ALIGN_CTL_LOSE ix lose).setFlag R.LN_ALIGN_CTL_ENABLE ix true
  let d := d.clearFound l
  d.setLane l { d.lane l with search := some { offset := 0, since := d.tt, start := d.tt, limitUs := limitUs } }

/-- LANE_ALIGN. -/
def Device.laneAlign (e : Entry) (d : Device) : Reply :=
  let l := e.u 12 1
  if 15 < l ∨ e.u 13 1 = 0 ∨ 15 < e.u 13 1 ∨ e.u 14 1 = 0 ∨ 15 < e.u 14 1 ∨ e.u 32 2 = 0 then d.no stBAD_FIELD
  else if !d.mayLane e.via l then d.no stNOT_OWNER
  else if d.laneBusy l then d.no stBUSY
  else if !d.flag R.LN_STAT_CDR_LOCK (lx l) then d.no 0x0412
  else
    let us := if e.u 34 2 = 0 then 10000 else e.u 34 2
    (d.startSearch l (e.u 13 1) (e.u 14 1) (e.u 16 8) (e.u 24 8) (e.u 32 2) us).accepted [l] (d.portOfLane l)

def laneIdleSpec : CmdSpec := { opcode := 0x0404, minLen := 2, maxLen := 2, modes := modesSST,
                                wakes := fun e => [e.u 12 1 / 2] }

/-- LANE_IDLE. -/
def Device.laneIdle (e : Entry) (d : Device) : Reply :=
  let l := e.u 12 1
  if 15 < l ∨ 1 < e.u 13 1 then d.no stBAD_FIELD
  else if !d.mayLane e.via l then d.no stNOT_OWNER
  else if e.u 13 1 = 0 then (d.laneTxWrite l (R.LN_TX_TX_IDLE.into (d.rd R.LN_TX (lx l)) 1)).ok []
  else if !d.txAdmitted l then d.no stNET_REFUSED
  else (d.laneTxWrite l (R.LN_TX_TX_IDLE.into (d.rd R.LN_TX (lx l)) 0)).ok []

def laneLoopSpec : CmdSpec := { opcode := 0x0405, minLen := 2, maxLen := 2, modes := [2],
                                wakes := fun e => [e.u 12 1 / 2] }

/-- LANE_LOOP. -/
def Device.laneLoop (e : Entry) (d : Device) : Reply :=
  let l := e.u 12 1
  if 15 < l ∨ 3 < e.u 13 1 then d.no stBAD_FIELD
  else if !d.mayLane e.via l then d.no stNOT_OWNER
  else if d.laneBusy l then d.no stBUSY
  else if e.u 13 1 = 3 ∧ !d.txAdmitted l then d.no stNET_REFUSED
  else (d.laneCtlWrite l (R.LN_CTL_LOOP.into (d.rd R.LN_CTL (lx l)) (e.u 13 1))).ok []

def lanePrbsSpec : CmdSpec := { opcode := 0x0406, minLen := 3, maxLen := 3, modes := [2],
                                wakes := fun e => [e.u 12 1 / 2] }

/-- A write of LN_PRBS's settings (R162): the checker keeps its lock only while it runs on the same pattern. -/
def Device.setPrbs (d : Device) (l poly gen chk : Nat) : Device :=
  let ix := lx l
  let same := decide (poly = d.get R.LN_PRBS_POLY ix ∧ chk = 1)
  let d := (d.put R.LN_PRBS_POLY ix poly).put R.LN_PRBS_GEN ix gen
  let d := d.put R.LN_PRBS_CHK ix chk
  if same then d else d.prbsReset l

/-- LANE_PRBS. -/
def Device.lanePrbs (e : Entry) (d : Device) : Reply :=
  let l := e.u 12 1
  let fl := e.u 14 1
  if 15 < l ∨ 5 < e.u 13 1 ∨ 7 < fl then d.no stBAD_FIELD
  else if !d.mayLane e.via l then d.no stNOT_OWNER
  else if d.laneBusy l then d.no stBUSY
  else
    let total := (d.lane l).prbsTotal + d.get R.LN_PRBS_ERR (lx l)
    let d := d.put R.LN_PRBS_ERR (lx l) 0
    let d := d.setLane l { d.lane l with prbsTotal := if bit fl 2 then 0 else total }
    let d := d.setPrbs l (e.u 13 1) (fl % 2) (fl / 2 % 2)
    d.ok (layout [(1, d.get R.LN_PRBS_LOCK (lx l)), (7, 0), (8, total)])

def laneHistSpec : CmdSpec := { opcode := 0x0407, needsIn := true, needsOut := true, modes := [0, 1, 2], mayAccept := true }

/-- LANE_HIST: lane and window stand in the input buffer. -/
def Device.laneHist (e : Entry) (d : Device) : Reply :=
  let b := d.input e
  let l := fieldAt b 0 1
  if e.inLen ≠ 2 ∨ e.outLen < 264 then d.no stBAD_LENGTH
  else if 15 < l then d.no stBAD_FIELD
  else if !d.lanePresent l then d.no stNOT_PRESENT
  else if !d.mayLane e.via l then d.no stNOT_OWNER
  else if !d.flag R.LN_STAT_CDR_LOCK (lx l) then d.no 0x0412
  else
    let d := if d.flag R.LN_HIST_CTL_BUSY (lx l) then d else (d.put R.LN_HIST_CTL_WIN (lx l) (clamp 10 30 (fieldAt b 1 1))).histStart l
    d.accepted [l] (d.portOfLane l)

/-- The integer square root, bit by bit. -/
def rootNat (n : Nat) : Nat := (List.range 40).foldr (fun i r => if (r + 2 ^ i) ^ 2 ≤ n then r + 2 ^ i else r) 0

/-- The mean bin of one level's samples in quarter bins, rounded down, 0 without samples (R165; log entry 116). -/
def levelMean (bins : List (BitVec 32)) : Nat :=
  4 * (bins.zipIdx.map (fun e => e.1.toNat * e.2)).sum / max 1 (bins.map BitVec.toNat).sum

/-- The rms distance of samples from their nearest level mean, in 1/16 bin (R165). -/
def levelSpread (total : List Nat) (means : List Nat) : Nat :=
  let off := fun (b : Nat) => match means with
    | [] => 0
    | m :: ms => ms.foldl (fun a x => min a (absDiff (16 * b) (4 * x))) (absDiff (16 * b) (4 * m))
  rootNat ((total.zipIdx.map (fun e => e.1 * off e.2 ^ 2)).sum / max 1 total.sum)

/-- The window's 2^WIN samples have been taken (R165): `levels` counts them by bin, for each level the slicer decided. The bins,
the level means and the spread follow, and LANE_HIST is answered. -/
def Device.histDone (d : Device) (l : Nat) (levels : List (List (BitVec 32))) : Device :=
  let ix := lx l
  let of := fun (k : Nat) => if k = 0 ∨ k = 3 ∨ d.pam4 l then (levels.getD k []).take 64 else []
  let bins := (List.range 64).map (fun b => ((List.range 4).map (fun k => ((of k).getD b 0).toNat)).sum)
  if !d.flag R.LN_HIST_CTL_BUSY ix ∨ bins.sum ≠ 2 ^ d.get R.LN_HIST_CTL_WIN ix then d
  else
    let sat := fun (b : Nat) => min (bins.getD b 0) (2 ^ 32 - 1)
    let d := (List.range 32).foldl (fun d k =>
      d.wr R.LN_HIST (ix ++ [k]) (BitVec.ofNat 64 (sat (2 * k) + sat (2 * k + 1) * 2 ^ 32))) d
    let means := (List.range 4).map (fun k => levelMean (of k))
    let there := (List.range 4).filter (fun k => decide (((of k).map BitVec.toNat).sum ≠ 0))
    let spread := min (levelSpread bins (there.map (fun k => means.getD k 0))) 0xFFFF
    let d := d.wr R.LN_LEVELS ix (BitVec.ofNat 64 (ofLE (means.map (BitVec.ofNat 8)) + spread * 2 ^ 32))
    let d := d.setFlag R.LN_HIST_CTL_BUSY ix false
    (d.worksOf 0x0407 [l]).foldl (fun d w =>
      d.finishOut w 0 (leBytes 8 (d.rd R.LN_LEVELS ix).toNat) (d.histBytes l)) d

def laneCountersSpec : CmdSpec := { opcode := 0x0408, minLen := 2, maxLen := 2 }

/-- LANE_COUNTERS. -/
def Device.laneCounters (e : Entry) (d : Device) : Reply :=
  let l := e.u 12 1
  if 15 < l ∨ 1 < e.u 13 1 then d.no stBAD_FIELD
  else if !d.mayLane e.via l then d.no stNOT_OWNER
  else
    let d := d.sampleLane l
    let x := d.lane l
    let pl := layout [(4, x.totCorr), (4, x.totUncorr), (8, x.totSym), (2, x.losEvents), (2, x.lolEvents), (2, x.alignEvents)]
    let d := if e.u 13 1 = 1 then
        d.setLane l { x with totCorr := 0, totUncorr := 0, totSym := 0, losEvents := 0, lolEvents := 0, alignEvents := 0 }
      else d
    d.ok pl

end Sys2Proof.Machine
end

