-- ==== Sys2Proof/Machine/Swatch.lean ====
section
/-! DEFINITION. Swatch (R245 to R257): unpacking the stored lines, golden compare, map, regions, histograms, line
timing, and the result record. -/

namespace Sys2Proof.Machine

/-- A pixel format: bits per pixel, sample depth, and its family: 0 one channel, 1 RGB, 2 YCbCr 4:2:2 (R220, R247). -/
structure PixFmt where
  bpp : Nat
  depth : Nat
  family : Nat
  deriving DecidableEq, Repr

/-- Formats of one channel: PFNC code and sample depth; the code's bits [23:16] are the bits per pixel (log entry 27). -/
def monoFormats : List (Nat × Nat) :=
  [(0x01080001, 8), (0x010A0046, 10), (0x010C0047, 12), (0x01100003, 10), (0x01100005, 12), (0x01100007, 16),
   (0x01080008, 8), (0x01080009, 8), (0x0108000A, 8), (0x0108000B, 8),
   (0x010A0056, 10), (0x010A0058, 10), (0x010A0054, 10), (0x010A0052, 10),
   (0x010C0057, 12), (0x010C0059, 12), (0x010C0055, 12), (0x010C0053, 12),
   (0x0110000C, 10), (0x0110000D, 10), (0x0110000E, 10), (0x0110000F, 10),
   (0x01100010, 12), (0x01100011, 12), (0x01100012, 12), (0x01100013, 12),
   (0x0110002E, 16), (0x0110002F, 16), (0x01100030, 16), (0x01100031, 16)]

/-- The format a PFNC code names, if it is one of R220. -/
def pixFmt (c : Nat) : Option PixFmt :=
  match monoFormats.find? (fun e => decide (e.1 = c)) with
  | some e => some { bpp := c / 65536 % 256, depth := e.2, family := 0 }
  | none =>
    if c = 0x02180014 then some { bpp := 24, depth := 8, family := 1 }
    else if c = 0x021E005C then some { bpp := 30, depth := 10, family := 1 }
    else if c = 0x02100043 then some { bpp := 16, depth := 8, family := 2 }
    else if c = 0x02140099 then some { bpp := 20, depth := 10, family := 2 }
    else none

/-- The number of channels. -/
def PixFmt.channels (f : PixFmt) : Nat := if f.family = 0 then 1 else 3

/-- Where the sample of channel `c` of pixel `x` lies in its line: bit offset and width (R247). -/
def PixFmt.place (f : PixFmt) (x c : Nat) : Nat × Nat :=
  match f.family with
  | 0 => (x * f.bpp, f.bpp)
  | 1 => (x * f.bpp + c * f.depth, f.depth)
  | _ =>
    let slot := if c = 0 then 1 + 2 * (x % 2) else if c = 1 then 0 else 2
    (x / 2 * (4 * f.depth) + slot * f.depth, f.depth)

/-- A sample of a line's bytes. -/
def PixFmt.sample (f : PixFmt) (bs : List Byte) (x c : Nat) : Nat :=
  let p := f.place x c
  fieldAt bs (p.1 / 8) 4 / 2 ^ (p.1 % 8) % 2 ^ p.2

/-- A span of bytes joins those that arrived: spans lie apart, in rising order. -/
def addSpan (a b : Nat) : List (Nat × Nat) → List (Nat × Nat)
  | [] => [(a, b)]
  | (c, e) :: rest =>
    if b < c then (a, b) :: (c, e) :: rest
    else if e < a then (c, e) :: addSpan a b rest
    else addSpan (min a c) (max b e) rest

/-- Bytes `[a, b)` of a line all arrived. -/
def LineRec.has (r : LineRec) (a b : Nat) : Bool := decide (b ≤ a) || r.have_.any (fun h => decide (h.1 ≤ a ∧ b ≤ h.2))

/-- Every byte that carries the sample of channel `c` of pixel `x` arrived. -/
def LineRec.hasSample (r : LineRec) (f : PixFmt) (x c : Nat) : Bool :=
  let p := f.place x c
  r.has (p.1 / 8) ((p.1 + p.2 + 7) / 8)

/-- Every byte that carries samples of pixel `x` arrived (R248). -/
def LineRec.hasPixel (r : LineRec) (f : PixFmt) (x : Nat) : Bool := (List.range f.channels).all (fun c => r.hasSample f x c)

/-- The record of a frame's line `y`. -/
def FrameX.line (fr : FrameX) (y : Nat) : Option LineRec := fr.lines.find? (fun r => decide (r.index = y))

/-- The format a stream's lines are unpacked under. -/
def CapCfg.fmt (c : CapCfg) : PixFmt := (pixFmt c.pixfmt).getD { bpp := 8, depth := 8, family := 0 }

/-- Pixels of a line (R247). -/
def FrameX.width (fr : FrameX) (f : PixFmt) : Nat := fr.cfg.lineLen * 8 / max 1 f.bpp

/-- How a pixel compares: 0 equal within tolerance, 1 mismatch, 2 missing, 3 not compared. -/
structure PixelCmp where
  kind : Nat
  cap : List Nat := []
  ref : List Nat := []
  dev : List Nat := []
  deriving DecidableEq, Repr

/-- Compare pixel `x` of line `y` (R248); a line without reference data is not compared (R246). -/
def comparePixel (fr : FrameX) (f : PixFmt) (tol : List Nat) (y x : Nat) : PixelCmp :=
  match fr.line y with
  | none => { kind := 2 }
  | some r =>
    if !r.hasPixel f x then { kind := 2 }
    else match r.ref with
      | none => { kind := 3 }
      | some rb =>
        let cs := List.range f.channels
        let cap := cs.map (fun c => f.sample r.bytes x c)
        let rf := cs.map (fun c => f.sample rb x c)
        let dev := cs.map (fun c => absDiff (cap.getD c 0) (rf.getD c 0))
        let bad := cs.any (fun c => decide (tol.getD c 0 < dev.getD c 0))
        { kind := b2n bad, cap := cap, ref := rf, dev := dev }

/-- Running totals of a compare. -/
structure CmpSum where
  mismatch : Nat := 0
  missing : Nat := 0
  first : Option (Nat × Nat × List Nat × List Nat) := none
  maxDev : List Nat := [0, 0, 0]
  /-- map cells that counted a pixel, one entry each time -/
  cells : Sparse Nat := []
  deriving DecidableEq, Repr

/-- Count one pixel, taken in order of Y and then X. -/
def CmpSum.add (s : CmpSum) (cell : Nat) (x y : Nat) (p : PixelCmp) : CmpSum :=
  let s := if p.kind = 1 ∨ p.kind = 2 then { s with cells := s.cells.put 0 cell (min 255 (s.cells.get 0 cell + 1)) } else s
  let s := { s with maxDev := (List.range 3).map (fun c => max (s.maxDev.getD c 0) (p.dev.getD c 0)) }
  if p.kind = 1 then
    { s with mismatch := s.mismatch + 1, first := match s.first with
                                                  | some f => some f
                                                  | none => some (x, y, p.cap, p.ref) }
  else if p.kind = 2 then { s with missing := s.missing + 1 }
  else s

/-- D of the map (R251). -/
def SwCfg.cell (s : SwCfg) : Nat := 8 * 2 ^ s.mapShift

/-- The compare of lines `[a, b)` (R248, R251). -/
def compareLines (fr : FrameX) (f : PixFmt) (s : SwCfg) (a b : Nat) : CmpSum :=
  let w := fr.width f
  let mapW := ceilDiv w s.cell
  (List.range (b - a)).foldl (fun t i => (List.range w).foldl (fun t x =>
    t.add ((a + i) / s.cell * mapW + x / s.cell) x (a + i) (comparePixel fr f s.tol (a + i) x)) t) {}

/-- Statistics of one region and channel (R252): MIN, MAX, COUNT, SUM, SUMSQ. -/
def regionStats (fr : FrameX) (f : PixFmt) (x0 y0 w h c : Nat) : List Byte :=
  let xs := (List.range (fr.width f)).filter (fun x => decide (x0 ≤ x ∧ x ≤ x0 + w))
  let samples := (fr.lines.filter (fun r => decide (y0 ≤ r.index ∧ r.index ≤ y0 + h))).flatMap (fun r =>
    (xs.filter (fun x => r.hasPixel f x)).map (fun x => f.sample r.bytes x c))
  match samples with
  | [] => zeros 32
  | s :: ss =>
    layout [(2, ss.foldl min s), (2, ss.foldl max s), (4, samples.length), (8, samples.sum),
      (16, (samples.map (fun v => v * v)).sum)]

/-- The bin of a sample of depth `d` (R253). -/
def histBin (d s : Nat) : Nat := if d ≤ 12 then s * 2 ^ (12 - d) else s / 2 ^ (d - 12)

/-- The samples of channel `c` that the histogram counts: every one received, each Cb and Cr once per pair (R253). -/
def histSamples (fr : FrameX) (f : PixFmt) (c : Nat) : List Nat :=
  let step := if f.family = 2 ∧ c ≠ 0 then 2 else 1
  fr.lines.flatMap (fun r => ((List.range (fr.width f)).filter (fun x => decide (x % step = 0) && r.hasSample f x c)).map
    (fun x => f.sample r.bytes x c))

/-- The 4,096 bins of a channel; absent channels read 0. -/
def histogram (fr : FrameX) (f : PixFmt) (c : Nat) : List Byte :=
  let bins := if c < f.channels then
      (histSamples fr f c).foldl (fun (m : Sparse Nat) s =>
        m.put 0 (histBin f.depth s) (min (m.get 0 (histBin f.depth s) + 1) 0xFFFFFFFF)) []
    else []
  (List.range 4096).flatMap (fun b => leBytes 4 (bins.get 0 b))

/-- The deviations of R254, one per line in the order of arrival. -/
def lineDeviations (fr : FrameX) (tline : Nat) : List Int :=
  fr.lines.map (fun r => ttDiff r.stamp fr.firstTT - ((r.index : Int) - (fr.firstIndex.getD 0 : Int)) * (tline : Int))

/-! ### The models of ST 2110-21 (R254, log entry 26) -/

/-- The standard's default TRO for a frame of `lines` lines and period `frame`; a field counts as half a frame (log entry 60). -/
def standardTro (interlaced : Bool) (lines frame : Nat) : Nat :=
  if interlaced then
    (if 540 ≤ lines then 44 * frame / 1125 else if 288 ≤ lines then 52 * frame / 625 else 40 * frame / 525)
  else if lines < 1080 then frame * 28 / 750
  else frame * 43 / 1125

/-- The standard's share of a frame that carries active lines. -/
def activeShare (interlaced : Bool) (lines : Nat) : Nat × Nat :=
  if interlaced ∧ lines < 288 then (487, 525) else if interlaced ∧ lines < 540 then (576, 625) else (1080, 1125)

/-- The fill of the network compatibility bucket as each packet joins it: one packet drains every TFRAME / (1.1 × NPKT). -/
def cinstLevels (s : SwCfg) (t0 : TT) : Nat → Nat → List TT → List Nat
  | _, _, [] => []
  | level, drained, t :: ts =>
    let n := (max 0 (ttDiff t t0)).toNat * 11 * s.npkt / max 1 (10 * s.tframe)
    let level := level - (n - drained) + 1
    level :: cinstLevels s t0 level (max n drained) ts

/-- The fill of the virtual receive buffer as each packet joins it: packet j is read at TVD + j × TRS, TVD being TRO after the
frame's own instant. -/
def vrxLevels (s : SwCfg) (tvd : TT) (share : Nat × Nat) : Nat → List TT → List Nat
  | _, [] => []
  | i, t :: ts =>
    let gone := ttDiff t tvd
    let w := if s.model = 3 then (1, 1) else share
    let read := if gone < 0 then 0 else gone.toNat * s.npkt * w.2 / max 1 (s.tframe * w.1) + 1
    (i + 1 - min read s.npkt) :: vrxLevels s tvd share (i + 1) ts

/-- The largest of a list. -/
def topOf (xs : List Nat) : Nat := xs.foldl max 0

/-- CINST_MAX, VRX_MAX, CINST_VIOL and VRX_VIOL of a frame; `origin` is the instant its RTP time stamp names. -/
def packetModel (fr : FrameX) (s : SwCfg) (origin : TT) : List Nat :=
  let tro := standardTro fr.interlaced fr.cfg.lines s.tframe
  let c := cinstLevels s (fr.stamps.headD 0) 0 0 fr.stamps
  let v := vrxLevels s (origin + BitVec.ofNat 64 tro) (activeShare fr.interlaced fr.cfg.lines) 0 fr.stamps
  [topOf c, topOf v, (c.filter (fun n => decide (s.cmax < n))).length, (v.filter (fun n => decide (s.vrxFull < n))).length]

/-- The ten timing fields of a record, offsets 72 to 127 (R254, R256). -/
def timingFields (fr : FrameX) (s : SwCfg) (origin : TT) : List Byte :=
  if s.model = 0 ∨ 4 < s.model then zeros 56
  else
    let ds := lineDeviations fr s.tline
    let late := (ds.filter (fun v => decide (((s.lateLimit * 65536 : Nat) : Int) < v))).length
    let sq := min ((ds.map (fun v => v * v)).sum.toNat / 2 ^ 32) (2 ^ 64 - 1)
    let lo := match ds with | [] => 0 | v :: vs => vs.foldl min v
    let hi := match ds with | [] => 0 | v :: vs => vs.foldl max v
    let m := if s.model = 1 then [] else packetModel fr s origin
    layout [(8, code 64 lo), (8, code 64 hi), (8, code 64 ds.sum), (8, sq), (4, ds.length), (4, late), (4, m.getD 0 0),
      (4, m.getD 1 0), (4, m.getD 2 0), (4, m.getD 3 0)]

/-! ### Contexts -/

/-- A context's configuration (R257). -/
def Device.swCfg (d : Device) (p c : Nat) : SwCfg :=
  let ix := [p, c]
  { ctx := c, cmpEn := d.flag R.SW_CX_CTL_CMP_EN ix, refValid := d.flag R.SW_CX_CTL_REF_VALID ix
    mapEn := d.flag R.SW_CX_CTL_MAP_EN ix, histEn := d.flag R.SW_CX_CTL_HIST_EN ix
    mapShift := d.get R.SW_CX_CTL_MAP_SHIFT ix, model := d.get R.SW_CX_CTL_MODEL ix, roiEn := d.get R.SW_CX_CTL_ROI_EN ix
    rois := (List.range 16).map (fun r => [R.SW_CX_ROI_X0, R.SW_CX_ROI_Y0, R.SW_CX_ROI_W, R.SW_CX_ROI_H].map (fun g => d.get g [p, c, r]))
    tol := (List.range 3).map (fun i => bits (d.rd R.SW_CX_TOL ix).toNat (16 * i) 16)
    refBase := d.get R.SW_CX_REF_REF_BASE ix, refStride := d.get R.SW_CX_REFG_REF_STRIDE ix * 64
    refLines := d.get R.SW_CX_REFG_REF_LINES ix, resBase := d.get R.SW_CX_RES_RES_BASE ix
    resSize := d.get R.SW_CX_RESG_RES_SIZE ix * 65536, resCount := d.get R.SW_CX_RESG_RES_COUNT ix
    tline := d.get R.SW_CX_TLINE_TLINE ix, tframe := d.get R.SW_CX_TFRM_TFRAME ix, npkt := d.get R.SW_CX_2110_NPKT ix
    cmax := d.get R.SW_CX_2110_CMAX ix, vrxFull := d.get R.SW_CX_2110_VRX_FULL ix
    lateLimit := d.get R.SW_CX_LIM_LATE_LIMIT ix, mmLimit := d.get R.SW_CX_LIM_MM_LIMIT ix }

/-- The golden compare takes place (R248, R249). -/
def SwCfg.compares (s : SwCfg) : Bool := s.cmpEn && s.refValid

/-- The frame writes a mismatch map (R251). -/
def SwCfg.maps (s : SwCfg) : Bool := s.compares && s.mapEn

/-- MAP_W and MAP_H for lines of `width` pixels (R251). -/
def SwCfg.mapSize (s : SwCfg) (width lines : Nat) : Nat × Nat := (ceilDiv width s.cell, ceilDiv lines s.cell)

/-- MAP_W and MAP_H of a context for a stream's configuration; 0 without a map (R256). -/
def Device.swMap (d : Device) (p c width lines : Nat) : Nat × Nat :=
  if d.flag R.SW_CX_CTL_MAP_EN [p, c] then (d.swCfg p c).mapSize width lines else (0, 0)

/-- Where the frame's result record lies (R255). -/
def FrameX.resultAt (fr : FrameX) (s : SwCfg) : Nat := s.resBase + (b2n fr.gen * s.resCount + fr.slot.getD 0) * s.resSize

/-- Band `b` of a frame's map: its cells, row `b` (R251). -/
def bandBytes (fr : FrameX) (s : SwCfg) (b : Nat) : List Byte :=
  let f := fr.cfg.fmt
  let mapW := ceilDiv (fr.width f) s.cell
  let t := compareLines fr f s (b * s.cell) (min fr.cfg.lines ((b + 1) * s.cell))
  (List.range mapW).map (fun i => BitVec.ofNat 8 (t.cells.get 0 (b * mapW + i)))

/-- What Swatch made of a frame: the record up to its map, the tag's bits 20 to 22, and the counts. -/
structure SwOut where
  bytes : List Byte
  bits : Nat
  compared : Bool
  mismatch : Bool
  late : Nat
  deriving DecidableEq, Repr

/-- Analyse stream `k`'s frame in the context bound to it (R245 to R256); `origin` is the instant its RTP time stamp names. -/
def analyse (p k : Nat) (fr : FrameX) (s : SwCfg) (origin : TT) : SwOut :=
  let f := fr.cfg.fmt
  let noRef := s.cmpEn && !s.refValid
  let mapWH := s.mapSize (fr.width f) fr.cfg.lines
  let t : CmpSum := if s.compares then compareLines fr f s 0 fr.cfg.lines else {}
  let mism := s.compares && (decide (s.mmLimit < t.mismatch) || decide (0 < t.missing))
  let nLate := if s.compares then (fr.lines.filter (fun r => r.ref.isNone)).length else 0
  let status := b2n s.compares + 2 * b2n noRef + 4 * b2n mism + 8 * b2n (decide (0 < nLate)) + 16 * b2n s.histEn
    + 32 * b2n s.maps + 256 * s.model
  let first := t.first.getD (0xFFFFFFFF, 0xFFFFFFFF, [], [])
  let head := layout [(1, 1), (1, p), (1, k), (1, s.ctx), (4, status), (8, fr.no), (4, fr.epoch),
      (2, if s.maps then mapWH.1 else 0), (2, if s.maps then mapWH.2 else 0), (8, t.mismatch), (8, t.missing), (4, nLate),
      (4, first.1), (4, first.2.1)]
    ++ (List.range 3).flatMap (fun i => leBytes 2 (first.2.2.1.getD i 0))
    ++ (List.range 3).flatMap (fun i => leBytes 2 (first.2.2.2.getD i 0))
    ++ (List.range 3).flatMap (fun i => leBytes 2 (t.maxDev.getD i 0)) ++ zeros 2
  let rois := (List.range 16).flatMap (fun r => (List.range 3).flatMap (fun ch =>
    if bit s.roiEn r ∧ ch < f.channels then
      let g := fun (q : Nat) => (s.rois.getD r []).getD q 0
      regionStats fr f (g 0) (g 1) (g 2) (g 3) ch
    else zeros 32))
  let hists := if s.histEn then (List.range 3).flatMap (fun ch => histogram fr f ch) else zeros 49152
  { bytes := head ++ timingFields fr s origin ++ zeros 128 ++ rois ++ hists
    bits := 0x100000 + 0x200000 * b2n noRef + 0x400000 * b2n mism
    compared := s.compares, mismatch := mism, late := nLate }

end Sys2Proof.Machine
end

