-- ==== Sys2Proof/Machine/Waits.lean ====
section
/-! DEFINITION. Sequencer steps and waits (R74, R77 to R82): the flags a branch reads (R168, R212, R244, R316, R332,
R367, R382, R410, R484), when a wait is satisfied, what ends it, roll faults (R91), and line notices (R223, R80). -/

namespace Sys2Proof.Machine

/-! ### Status bits of the home booth (R74) -/

/-- The bits of port booth `p` (R168, R212, R244). -/
def Device.portBits (d : Device) (p n : Nat) : Bool :=
  let l := [p, n / 4]
  let k := d.get R.CAP_SEL_STREAM [p]
  let slot := d.get R.CAP_SC_STAT_NEXT_SLOT [p, k]
  if n < 8 then
    match n % 4 with
    | 0 => d.flag R.LN_STAT_CDR_LOCK l
    | 1 => d.flag R.LN_STAT_LOS l
    | 2 => d.flag R.LN_ALIGN_STAT_FOUND l
    | _ => d.flag R.LN_STAT_TX_ACTIVE l
  else if n = 8 then decide (d.get R.PP_STAT_STATE [p] = 4)
  else if n = 9 then d.flag R.PP_STAT_EMITTING [p]
  else if n = 10 then d.flag R.BOOTH_STATE_THROTTLE [p]
  else if n = 11 then decide ((d.cap p k).slots.get 0 slot ≠ 0)
  else decide (n = 12) && d.flag R.CAP_SC_STAT_FRAME_OPEN [p, k]

/-- The bits of the timing booth (R332, R367). -/
def Device.timingBits (d : Device) (n : Nat) : Bool :=
  if n = 0 then d.flag R.TB_STAT_PLL_LOCK []
  else if n = 1 then d.flag R.TB_STAT_ALIGNED []
  else if n = 2 then d.flag R.TB_STAT_SLEWING []
  else if n = 3 then d.flag R.TB_STAT_STEP_PEND []
  else if 8 ≤ n ∧ n < 40 then decide (d.get R.BK_STAT_STATE [n - 8] = 1)
  else decide (40 ≤ n ∧ n < 56) && (d.tim.pins.get {} (n - 40)).filtered

/-- The bits of the motion booth (R382, R410). -/
def Device.motionBits (d : Device) (n : Nat) : Bool :=
  let f := [n / 4]
  let a := [(n - 16) / 4]
  if n < 16 then
    match n % 4 with
    | 0 => d.flag R.FB_STAT_DIR f
    | 1 => d.flag R.FB_STAT_SPEED_VALID f
    | 2 => d.flag R.FB_STAT_LATCHED f
    | _ => d.flag R.FB_CMP_CTL_CMP_EN f && !(d.mot.fbs.get {} (n / 4)).cmpDead
  else if n < 32 then
    match n % 4 with
    | 0 => d.flag R.MP_STAT_MOVING a
    | 1 => d.flag R.MP_STAT_AT_TARGET a
    | 2 => d.flag R.MP_EVT_STALL a
    | _ => d.flag R.MP_STAT_HOMED a
  else false

/-- The bits of the control booth (R484). -/
def Device.controlBits (d : Device) (n : Nat) : Bool :=
  if n = 0 then decide (d.rd R.HM_EVT [] ≠ 0)
  else if n = 1 then (List.range 15).any (fun b => d.flag R.BOOTH_PACE_SHORT [b])
  else if n = 2 then decide (d.get R.HM_STAT_THROTTLE [] ≠ 0)
  else decide (n = 3) && d.ready

/-- Status bit `n` of booth `b`; an unlisted bit reads 0 (R74). -/
def Device.statusBit (d : Device) (b n : Nat) : Bool :=
  if b < 8 then d.portBits b n
  else if b = 8 then (if n < 32 then d.flag R.DMA_CH_CTL_ARM [n, 0] else decide (d.get R.DMA_CH_STAT_STATE [n - 32, 0] = 4))
  else if b = 10 then (if n = 0 then d.hst.linkUp else decide (n = 1) && d.hst.busMaster)
  else if b = 11 then d.timingBits n
  else if b = 12 then d.motionBits n
  else decide (b = 14) && d.controlBits n

/-! ### Steps -/

/-- The fields of a step entry (R74). -/
structure Step where
  raw : Nat
  deriving DecidableEq, Repr

def Step.next (s : Step) : Nat := bits s.raw 0 12
def Step.alt (s : Step) : Nat := bits s.raw 12 12
def Step.cond (s : Step) : Nat := bits s.raw 24 3
def Step.selA (s : Step) : Nat := bits s.raw 27 8
def Step.selB (s : Step) : Nat := bits s.raw 35 8
def Step.fclr (s : Step) : Bool := bit s.raw 43
def Step.wbase (s : Step) : Nat := bits s.raw 44 11
def Step.wcount (s : Step) : Nat := bits s.raw 55 4
def Step.wkind (s : Step) : Nat := bits s.raw 59 3
def Step.wsel (s : Step) : Nat := bits s.raw 62 8
def Step.wn (s : Step) : Nat := bits s.raw 70 16
def Step.tout (s : Step) : Bool := bit s.raw 86
def Step.treg (s : Step) : Nat := bits s.raw 87 2
def Step.adv (s : Step) : Bool := bit s.raw 89
def Step.delta (s : Step) : Nat := bits s.raw 90 36
def Step.swap (s : Step) : Bool := bit s.raw 126
def Step.stop (s : Step) : Bool := bit s.raw 127

/-- The step at PC of the active roll. -/
def Device.seqStep (d : Device) (n : Nat) : Option Step := (d.roll n).steps[d.get R.CAL_STAT_PC [n]]?.map Step.mk

/-- The target of a TIME wait or a timeout: T[TREG] + DELTA × 256 (R77). -/
def Device.waitTarget (d : Device) (n : Nat) (s : Step) : TT :=
  d.rd R.CAL_T [n, s.treg] + BitVec.ofNat 64 (s.delta * 256)

/-- The home booth of a sequencer (R69). -/
def Device.homeOf (d : Device) (n : Nat) : Nat := d.get R.CAL_ATTACH_HOME [n]

/-- A flag select of R74. -/
def Device.seqFlag (d : Device) (n sel : Nat) : Bool :=
  if sel < 0x40 then d.statusBit (d.homeOf n) sel
  else if sel < 0x80 then bit (d.rd R.CAL_FLAGS [n]).toNat (sel - 0x40)
  else if sel = 0x80 then (d.seq n).timedOut
  else if sel = 0x81 then (d.seq n).late
  else decide (d.get R.CAL_CNT_VALUE [n, sel - 0x88] = 0)

/-- The branch condition of R74. -/
def branchTaken (cond : Nat) (a b : Bool) : Bool :=
  match cond with
  | 0 => false
  | 1 => true
  | 2 => a
  | 3 => !a
  | 4 => a && b
  | 5 => a || b
  | 6 => xor a b
  | _ => !(a || b)

/-- The condition of the step's wait holds now (R77). -/
def Device.waitHolds (d : Device) (n : Nat) (s : Step) : Bool :=
  match s.wkind with
  | 1 => decide (s.wn + 1 ≤ (d.seq n).count)
  | 2 => decide (d.get R.CAL_CNT_VALUE [n, s.wsel] = 0)
  | 3 => ttGe d.tt (d.waitTarget n s)
  | 4 => decide (s.wn + 1 ≤ d.get R.CAP_LF_LINES [d.homeOf n, s.wsel])
  | _ => true

/-- FCLR: clear the event flags a select names (R74). -/
def Device.clearSel (d : Device) (n sel : Nat) : Device :=
  if 0x40 ≤ sel ∧ sel < 0x80 then
    d.wr R.CAL_FLAGS [n] (d.rd R.CAL_FLAGS [n] &&& ~~~ BitVec.ofNat 64 (2 ^ (sel - 0x40)))
  else d

/-- A halt: HALTED, the wait abandoned, and a pending change adopted (R87, R90). -/
def Device.haltSeq (d : Device) (n : Nat) : Device := (d.setSeqState n 3).adoptSwap n

/-- The wait has ended: the branch, FCLR, ADV and STOP of R74; the chosen step is next to be entered. -/
def Device.leaveStep (d : Device) (n : Nat) (s : Step) (timedOut : Bool) : Device :=
  let d := d.setSeq n { d.seq n with timedOut := timedOut }
  let next := if branchTaken s.cond (d.seqFlag n s.selA) (d.seqFlag n s.selB) then s.alt else s.next
  let d := if s.fclr then (d.clearSel n s.selA).clearSel n s.selB else d
  let d := if s.adv then d.wr R.CAL_T [n, s.treg] (d.waitTarget n s) else d
  let d := d.put R.CAL_STAT_PC [n] next
  let d := d.setSeq n { d.seq n with entered := false }
  if s.stop then d.haltSeq n else d.setSeqState n 1

/-- A roll fault (R91): FAULTED with code, step and word index, a pending change adopted, and FAULT_EV. -/
def Device.rollFault (d : Device) (n pc code word : Nat) : Device :=
  let d := d.setSeqState n 4
  let d := d.put R.CAL_FAULT_CODE [n] code
  let d := d.put R.CAL_FAULT_STEP [n] pc
  let d := d.put R.CAL_FAULT_WORD [n] word
  (d.adoptSwap n).fireIf R.CAL_CTL_FAULT_EV_EN R.CAL_CTL_FAULT_EV [n]

/-- The wait of the step at PC begins (R77, R78): satisfied at once, timed out at once, or WAIT. -/
def Device.beginWait (d : Device) (n : Nat) : Device :=
  match d.seqStep n with
  | none => d
  | some s =>
    let d := d.setSeqState n 2
    let d := d.setSeq n { d.seq n with entered := true, count := 0, late := false, timedOut := false }
    if s.wkind = 4 ∧ 8 ≤ d.homeOf n then d.rollFault n (d.get R.CAL_STAT_PC [n]) 3 0
    else if d.waitHolds n s then
      (d.setSeq n { d.seq n with late := decide (s.wkind = 3) }).leaveStep n s false
    else if s.tout ∧ ttGe d.tt (d.waitTarget n s) then d.leaveStep n s true
    else d

/-- A waiting sequencer whose EVENT, COUNT or FIFO condition has come true leaves its step. -/
def Device.pokeSeq (d : Device) (n : Nat) : Device :=
  match d.seqStep n with
  | none => d
  | some s => if d.seqState n = 2 ∧ s.wkind ≠ 3 ∧ d.waitHolds n s then d.leaveStep n s false else d

/-- TT has come to a TIME wait's target (R77). -/
def Device.timeWaitEnd (d : Device) (n : Nat) : Device :=
  match d.seqStep n with
  | none => d
  | some s => if d.seqState n = 2 ∧ s.wkind = 3 ∧ d.waitHolds n s then d.leaveStep n s false else d

/-- TT has come to a step's timeout (R78): the wait condition wins where both hold. -/
def Device.waitTimeout (d : Device) (n : Nat) : Device :=
  match d.seqStep n with
  | none => d
  | some s =>
    if d.seqState n = 2 ∧ s.tout ∧ ttGe d.tt (d.waitTarget n s) then d.leaveStep n s (!d.waitHolds n s) else d

/-! ### Counters and line notices -/

/-- Counter `j` of sequencer `n` counts one firing of its source (R80). -/
def Device.seqCount (d : Device) (n j : Nat) : Device :=
  if d.get R.CAL_CNT_VALUE [n, j] = 0 then d.bump R.CAL_CNT_UNDER [n, j]
  else d.put R.CAL_CNT_VALUE [n, j] (d.get R.CAL_CNT_VALUE [n, j] - 1)

/-- The source of counter `j` in the active roll: kind and number (R71). -/
def Device.counterSource (d : Device) (n j : Nat) : Nat × Nat :=
  let w := (d.roll n).csrc.getD j 0
  (w % 4, w / 256 % 256)

/-- A line notice of line FIFO `k` of booth `b` (R223): every attached sequencer whose home it is counts it, and its
COUNT or FIFO wait may end. -/
def Device.lineNotice (d : Device) (b k : Nat) : Device :=
  (List.range 16).foldl (fun d n =>
    if d.attached n b ∧ d.homeOf n = b then
      ((List.range 8).foldl (fun d j => if d.counterSource n j = (2, k) then d.seqCount n j else d) d).pokeSeq n
    else d) d

end Sys2Proof.Machine
end

