-- ==== Sys2Proof/Machine/Capture.lean ====
section
/-! DEFINITION. The capture assembler (R214 to R244): frames, slots, line FIFOs, the store stage, frame tags and their
ordered appending, releases, CAP_CMD, line-scan closure; the Mordant slice's line CRCs and seals (R258 to R261). -/

namespace Sys2Proof.Machine

/-! ### Register views -/

/-- The stream's slots: SLOTS is the number minus 1 (R227). -/
def Device.slotCount (d : Device) (p k : Nat) : Nat := d.get R.CAP_SC_SLOT_SLOTS [p, k] + 1

/-- The state of a slot in a generation: 0 FREE, 1 FILLING, 2 CLOSED (R228, R229). -/
def Device.slotState (d : Device) (p k : Nat) (gen : Bool) (s : Nat) : Nat :=
  if gen = d.flag R.CAP_SC_STAT_GEN [p, k] then (d.cap p k).slots.get 0 s else (d.cap p k).oldSlots.get 0 s

/-- CAP_SCk_STAT and CAP_LFk as the stream stands. -/
def Device.showCap (d : Device) (p k : Nat) : Device :=
  let c := d.cap p k
  let ix := [p, k]
  let d := d.setFlag R.CAP_SC_STAT_FRAME_OPEN ix (c.armed || c.isOpen)
  let d := d.setFlag R.CAP_SC_STAT_RETIRING ix (c.oldSlots.any (fun e => decide (e.2 = 2)))
  let d := d.put R.CAP_SC_STAT_FREE ix (d.slotCount p k - (c.slots.filter (fun e => decide (e.1 < d.slotCount p k))).length)
  let d := d.put R.CAP_LF_WORDS ix c.fifo.length
  let d := d.put R.CAP_LF_LINES ix (c.fifo.filter (fun w => w.eol)).length
  d.setFlag R.CAP_LF_FULL ix (decide (c.fifo.length = 64))

/-- Set the state of a slot. -/
def Device.setSlotState (d : Device) (p k : Nat) (gen : Bool) (s st : Nat) : Device :=
  let c := d.cap p k
  let c := if gen = d.flag R.CAP_SC_STAT_GEN [p, k] then { c with slots := c.slots.put 0 s st }
           else { c with oldSlots := c.oldSlots.put 0 s st }
  (d.setCap p k c).showCap p k

/-- The packet counter of line FIFO `k` (R223). -/
def Device.lineCount (d : Device) (p k : Nat) : Nat := ((d.cap p k).fifo.filter (fun w => w.eol)).length

/-- Change the frames of a stream that satisfy `sel`. -/
def Device.modFrames (d : Device) (p k : Nat) (sel : FrameX → Bool) (f : FrameX → FrameX) : Device :=
  let c := d.cap p k
  d.setCap p k { c with frames := c.frames.map (fun x => if sel x then f x else x) }

/-- Frame number `n` of a stream, if it is still in the assembler. -/
def CapX.frame (c : CapX) (n : Nat) : Option FrameX := c.frames.find? (fun f => decide (f.no = n))

/-- The frame that is open: begun and not closed. -/
def CapX.openFrame (c : CapX) : Option FrameX := c.frames.find? (fun f => !f.closed)

/-- The Swatch context bound to stream `k` (R245). -/
def Device.boundCtx (d : Device) (p k : Nat) : Option Nat :=
  (List.range 8).find? (fun c => d.flag R.SW_CX_CTL_EN [p, c] && decide (d.get R.SW_CX_CTL_STREAM [p, c] = k))

/-- The configuration a frame that begins now runs under (R237). -/
def Device.capCfg (d : Device) (p k : Nat) : CapCfg :=
  let ix := [p, k]
  { framing := d.get R.CAP_SC_CTL_FRAMING ix, trigEn := d.flag R.CAP_SC_CTL_TRIG_EN ix
    trigProg := d.get R.CAP_SC_CTL_TRIG_PROG ix, fmtCheck := d.flag R.CAP_SC_CTL_FMT_CHECK ix
    pixfmt := d.get R.CAP_SC_FMT_PIXFMT ix, lineLen := d.get R.CAP_SC_FMT_LINE_LEN ix, lines := d.get R.CAP_SC_GEOM_LINES ix
    stride := d.get R.CAP_SC_GEOM_STRIDE ix * 64, base := d.get R.CAP_SC_RING_BASE ix
    slotSize := d.get R.CAP_SC_SLOT_SLOT_SIZE ix * 65536, queue := d.get R.CAP_SC_Q_QUEUE ix
    direct := d.flag R.CAP_SC_Q_DIRECT ix, frameEvEn := d.flag R.CAP_SC_CTL_FRAME_EV_EN ix
    frameEv := d.get R.CAP_SC_CTL_FRAME_EV ix, sealed := bit (d.get R.MS_SEAL_EN_EN [p]) k
    sw := (d.boundCtx p k).map (fun c => d.swCfg p c) }

/-! ### Boundaries of configuration changes -/

/-- The registers of Swatch context `c` of port `p`. -/
def swAddr (p c a : Nat) : Bool :=
  let b := (p + 1) * 0x1000000 + 0x501000 + c * 0x100
  decide (b ≤ a ∧ a < b + 0x100)

/-- A write belongs to stream `k` of port `p`: its CAP_SCk registers, its bit of MS_SEAL_EN, or the enabled Swatch context
bound to it (R237, R257). -/
def Device.capScope (d : Device) (p k : Nat) (w : MaskedWrite) : Bool :=
  let b := (p + 1) * 0x1000000
  decide (b + 0x401000 + k * 0x80 ≤ w.addr ∧ w.addr < b + 0x401000 + (k + 1) * 0x80)
    || (decide (w.addr = R.MS_SEAL_EN.addr [p]) && decide (w.mask.toNat = 2 ^ k))
    || (List.range 8).any (fun c => d.flag R.SW_CX_CTL_EN [p, c] && decide (d.get R.SW_CX_CTL_STREAM [p, c] = k) && swAddr p c w.addr)

/-- What names a ring: BASE, SLOT_SIZE and SLOTS. -/
def Device.ringOf (d : Device) (p k : Nat) : Word × Word := (d.rd R.CAP_SC_RING [p, k], d.rd R.CAP_SC_SLOT [p, k])

/-- A new ring starts at slot 0, and the present one, of `count` slots, retires (R229, R237). A stream whose SLOT_SIZE
was 0 had no ring: its first one is generation 0, as step 12 of the worked rig has it (log entry 66). -/
def Device.newRing (d : Device) (p k count : Nat) (had : Bool) : Device :=
  let c := d.cap p k
  let d := d.setCap p k { c with oldSlots := c.slots, oldCount := count, slots := [] }
  let d := d.setFlag R.CAP_SC_STAT_GEN [p, k] (d.flag R.CAP_SC_STAT_GEN [p, k] != had)
  (d.put R.CAP_SC_STAT_NEXT_SLOT [p, k] 0).showCap p k

/-- A boundary of the stream, stamped `tb`: pending writes due take their values (R111, R237). -/
def Device.capBoundary (d : Device) (p k : Nat) (tb : TT) : Device :=
  let ring := d.ringOf p k
  let en := d.flag R.CAP_SC_CTL_EN [p, k]
  let count := d.slotCount p k
  let d := d.settle (fun q => ttGe tb q.ttc && d.capScope p k q.write)
  let d := if d.ringOf p k = ring then d else d.newRing p k count (decide (bits ring.2.toNat 0 20 ≠ 0))
  if !en ∧ d.flag R.CAP_SC_CTL_EN [p, k] then d.setCap p k { d.cap p k with prevFirst := tb } else d

/-! ### Writes of the store stage -/

/-- A write of the port booth into HBM, tested by the Net as a PORT access (R239): whether it was admitted. -/
def Device.portWrite (d : Device) (p addr : Nat) (bs : List Byte) : Bool × Device :=
  if bs = [] then (true, d)
  else if d.netAdmits true true .port addr bs.length then (true, d.hbmWrite addr bs)
  else (false, d.violation p 1 addr bs.length (4 * 4096 + p))

/-- A read of the port booth from HBM, tested by the Net as a PORT access (R125, R131): the bytes where it is admitted. One that
meets an uncorrectable word faults the booth (R433). -/
def Device.portRead (d : Device) (p addr n : Nat) : Option (List Byte) × Device :=
  if n = 0 then (some [], d)
  else if !d.netAdmits true false .port addr n then (none, d.violation p 1 addr n (4 * 4096 + p))
  else
    match d.badIn addr n with
    | some w => (none, (d.memErr true 0 p 0 w).portFault p 2)
    | none => (some (d.hbmRead addr n), d)

/-! ### Closing and finishing a frame -/

/-- Bytes of the line that count: up to the last that arrived, within STRIDE (R217). -/
def LineRec.stored (r : LineRec) (stride : Nat) : Nat := min stride ((r.have_.map (·.2)).foldl max 0)

/-- The line CRC (R259). -/
def LineRec.crc (r : LineRec) (stride : Nat) : Nat := crc64 (fit (r.stored stride) r.bytes)

/-- The line is damaged (R217, R224): marked so, longer than STRIDE, or with a gap. -/
def LineRec.isDamaged (r : LineRec) (stride : Nat) : Bool :=
  r.damaged || decide (stride < r.length) || !r.has 0 (min r.length stride)

/-- Lines damaged in a frame: stored and damaged, or lost in the line FIFO. -/
def FrameX.damagedLines (f : FrameX) : Nat :=
  let a := (f.lines.filter (fun r => r.isDamaged f.cfg.stride)).map (fun r => r.index)
  (a ++ f.lostLines.filter (fun i => !a.contains i)).length

/-- Line count: distinct indexes stored; for a placeholder, received (R216, R234). -/
def FrameX.count (f : FrameX) : Nat := if f.slot.isSome then f.lines.length else f.received.length

/-- Extent: highest index stored, plus 1 (R216). -/
def FrameX.extent (f : FrameX) : Nat := if f.slot.isSome then (f.lines.map (fun r => r.index + 1)).foldl max 0 else 0

/-- LAST_TT: the stamp of the line stored last (R233). -/
def FrameX.lastTT (f : FrameX) : TT :=
  (f.lines.foldl (fun (a : Nat × TT) r => if a.1 ≤ r.serial then (r.serial, r.stamp) else a) (0, f.firstTT)).2

/-- The line CRC table: an entry for each of LINES, 0 for an index never received (R227, R216). -/
def FrameX.crcTable (f : FrameX) : List Nat :=
  (List.range f.cfg.lines).map (fun i => match f.line i with
    | some r => r.crc f.cfg.stride
    | none => 0)

/-- Bytes of a CRC table. -/
def tableBytes (t : List Nat) : List Byte := t.flatMap (leBytes 8)

/-- The fire records of a program that fall to a frame, newest first (R235). -/
def Device.firings (d : Device) (f : FrameX) : List (List Byte) :=
  (d.prog f.cfg.trigProg).hist.filter (fun r =>
    let t : TT := BitVec.ofNat 64 (fieldAt r 0 8)
    decide (0 < ttDiff t f.after) && ttGe f.firstTT t)

/-- The trigger fields of the tag, offsets 32 to 47 and 48 to 55, and the STATUS bits (R235). -/
def Device.triggerFields (d : Device) (f : FrameX) : Nat × List Byte × List Byte :=
  let none_ := (layout [(8, 0), (4, 0), (1, 0), (1, 0), (2, f.trigId)], zeros 8)
  if !f.cfg.trigEn then (0, none_)
  else
    match d.firings f with
    | [] => (0x800, none_)
    | r :: rest =>
      let pos := decide (fieldAt r 25 1 = 1)
      let src := if pos then d.get R.BK_CTL_POS_CH [f.cfg.trigProg] + 128 else 0
      (if rest.isEmpty then 0 else 0x1000,
       layout [(8, fieldAt r 0 8), (4, fieldAt r 8 4), (1, f.cfg.trigProg + 128), (1, src), (2, f.trigId)],
       if pos then layout [(4, fieldAt r 16 4), (4, fieldAt r 20 4)] else zeros 8)

/-- The frame tag (R233), unsealed. -/
def Device.tagBytes (d : Device) (p k : Nat) (f : FrameX) (status : Nat) (table : List Nat) (trig : List Byte × List Byte) :
    List Byte :=
  let stored := f.slot.isSome
  let slot := match f.slot with
    | some s => s + 0x8000 * b2n f.gen
    | none => 0xFFFF
  layout [(1, 1), (1, p), (1, k), (1, 0), (2, d.sdn), (2, slot), (8, f.no), (8, f.firstTT.toNat), (8, f.lastTT.toNat)]
    ++ trig.1 ++ trig.2
    ++ layout [(4, f.epoch), (4, f.cfg.pixfmt), (4, if stored then f.count else 0), (4, f.cfg.lineLen), (4, status), (4, if stored then f.damagedLines else 0),
        (8, if stored then crc64 (tableBytes table) else 0), (4, 0xFFFFFFFF), (4, f.wireFrame),
        (8, match f.slot with | some s => f.cfg.base + s * f.cfg.slotSize | none => 0),
        (8, f.extent * f.cfg.stride), (4, f.cfg.stride), (4, min f.lostWords 0xFFFFFFFF), (8, 0)]

/-- Offset of the tag in a slot (R227). -/
def CapCfg.tagOffset (c : CapCfg) : Nat := roundUp (c.lines * c.stride + roundUp (c.lines * 8) 64) 64

/-- Where a stored frame's slot begins. -/
def FrameX.base (f : FrameX) : Nat := f.cfg.base + (f.slot.getD 0) * f.cfg.slotSize

/-- The seal's message: the tag with PAYLOAD_ADDR, PAYLOAD_HOST and SEAL_INDEX read as 0 and SEALED as 1 (R236, R260). -/
def sealTag (tag : List Byte) : List Byte :=
  let st := fieldAt tag 72 4
  let st := (if bit st 15 then st else st + 0x8000) - (if bit st 16 then 0x10000 else 0)
  patch (patch (patch tag 72 (leBytes 4 st)) 88 (zeros 4)) 96 (zeros 8)

/-- The slice passes the seal on, or drops it with 16 waiting (R260, R261). -/
def Device.sealFrame (d : Device) (p k : Nat) (f : FrameX) : Device :=
  if !f.cfg.sealed then d
  else
    let t := sealTag f.tag
    let b := d.bth p
    if 16 ≤ b.seals.length then
      let d := (d.bump R.MS_STAT_DROP [p]).bump R.MB_CNT_REFUSED []
      d.modFrames p k (fun x => decide (x.no = f.no)) (fun x => { x with sealSt := 3 })
    else
      let s : SealX := { stream := k, frame := f.no, epoch := f.epoch, status := fieldAt t 72 2
                         hash := sha384 (t ++ tableBytes f.table), digest := sha384 t, made := d.tt }
      let d := d.setBth p { b with seals := b.seals ++ [s] }
      let d := d.put R.MS_STAT_WAITING [p] (b.seals.length + 1)
      d.modFrames p k (fun x => decide (x.no = f.no)) (fun x => { x with sealSt := 1 })

/-- A band of the frame's mismatch map is written (R251). -/
def Device.writeBand (d : Device) (p k n b : Nat) : Device :=
  match (d.cap p k).frame n with
  | none => d
  | some f =>
    match f.cfg.sw with
    | none => d
    | some s =>
      let bs := bandBytes f s b
      let d := (d.portWrite p (f.resultAt s + 50944 + b * bs.length) bs).2
      d.modFrames p k (fun x => decide (x.no = n)) (fun x => { x with bands := if x.bands.contains b then x.bands else x.bands ++ [b] })

/-- The last word of a stored line has passed Swatch (R246, R248): its reference line is there, unless it comes too late under
shortage or the Net refuses the read, which damages the line (R131); a band whose lines have all passed is written (R251). -/
def Device.linePassed (d : Device) (p k n i : Nat) : Device :=
  match (d.cap p k).frame n with
  | none => d
  | some f =>
    match f.line i, f.cfg.sw with
    | some r, some s =>
      if r.passed then d
      else
        let late := d.flag R.BOOTH_PACE_SHORT [p] && Config.refLate p n i
        let got : Option (List Byte) × Device :=
          if !s.compares ∨ late then (none, d) else d.portRead p (s.refBase + i % max 1 s.refLines * s.refStride) f.cfg.lineLen
        let refused := s.compares && !late && got.1.isNone
        let d := got.2.modFrames p k (fun x => decide (x.no = n)) (fun x =>
          { x with lines := x.lines.map (fun y => if y.index = i then { y with passed := true, ref := got.1, damaged := y.damaged || refused } else y) })
        let b := i / s.cell
        let whole := match (d.cap p k).frame n with
          | some g => (List.range s.cell).all (fun j => decide (g.cfg.lines ≤ b * s.cell + j) || (match g.line (b * s.cell + j) with
              | some y => y.passed
              | none => false))
          | none => false
        if s.maps && whole then d.writeBand p k n b else d
    | _, _ => d

/-- Wall time at an instant given in TT, in 1/65,536 ns. -/
def Device.wallAt (d : Device) (t : TT) : Int :=
  ((d.tim.time.wtSec * 1000000000 * 65536 + d.tim.time.wtSub / 65536 : Nat) : Int) + ttDiff t d.tt

/-- The instant a frame's RTP time stamp names, on the device's time base (R186, R254). -/
def Device.mediaOrigin (d : Device) (f : FrameX) : TT :=
  let t := f.stamps.headD f.firstTT
  let w := d.wallAt t
  let now := w * 90000 / (1000000000 * 65536)
  let back := sgn 32 ((now - (f.wireFrame : Int)) % (2 ^ 32 : Int)).toNat
  t - BitVec.ofInt 64 (w - (now - back) * (1000000000 * 65536) / 90000)

/-- Swatch's part at a closed frame (R250 to R255): what has not passed passes now, the bands left and the record are written. -/
def Device.swatchFinish (d : Device) (p k : Nat) (f : FrameX) : Device × Nat :=
  match f.slot, f.cfg.sw with
  | some _, some s =>
    let d := f.lines.foldl (fun d r => d.linePassed p k f.no r.index) d
    let f := ((d.cap p k).frame f.no).getD f
    let d := if s.maps then
        (List.range (ceilDiv f.cfg.lines s.cell)).foldl (fun d b => if f.bands.contains b then d else d.writeBand p k f.no b) d
      else d
    let o := analyse p k f s (d.mediaOrigin f)
    let w := d.portWrite p (f.resultAt s) o.bytes
    let d := w.2.bumpBy R.SW_STAT_REF_LATE [p] o.late
    let d := if o.compared then d.bump R.SW_CX_CNT_COMPARED [p, s.ctx] else d
    (if o.mismatch then d.bump R.SW_CX_CNT_MISMATCHED [p, s.ctx] else d, o.bits ||| (if w.1 then 0 else 0x4000))
  | _, _ => (d, 0)

/-- A closed frame whose last word has left the line FIFO: Swatch's record, the CRC table, the tag and the seal
(R232, R255, R260). -/
def Device.finishFrame (d : Device) (p k : Nat) (f : FrameX) : Device :=
  let sw := d.swatchFinish p k f
  let d := sw.1
  let f := ((d.cap p k).frame f.no).getD f
  let full := f.crcTable
  let table := full.take f.extent
  let tr := d.triggerFields f
  let short := decide (f.cfg.framing ≠ 2) && decide (f.count < f.cfg.lines)
  let dmg := if f.slot.isSome then f.damagedLines else 0
  let bits_ := f.status ||| (if 0 < dmg then 1 else 0) ||| (if short then 2 else 0) ||| tr.1 ||| sw.2
  let mk := fun st => d.tagBytes p k f st table tr.2
  let d := d.bumpBy R.CAP_SC_LOST_DAMAGED_LINES [p, k] dmg
  let w1 := if f.slot.isSome then d.portWrite p (f.base + f.cfg.lines * f.cfg.stride) (tableBytes full) else (true, d)
  let tag := mk (if w1.1 then bits_ else bits_ ||| 0x4000)
  let w2 := if f.slot.isSome then w1.2.portWrite p (f.base + f.cfg.tagOffset) tag else (true, w1.2)
  let tag := if w2.1 then tag else mk (bits_ ||| 0x4000)
  let f' := { f with tag := tag, table := table }
  let d := w2.2.modFrames p k (fun x => decide (x.no = f.no)) (fun x => { x with tag := tag, table := table })
  d.sealFrame p k f'

/-- A line of frame `n` is still arriving. -/
def CapX.arriving (c : CapX) (n : Nat) : Bool :=
  match c.line with
  | some x => decide (x.frame = some n) && !x.discard
  | none => false

/-- The oldest frame without a tag, where it can be finished at `now`: closed in an earlier tick, for what comes in the tick of
its close may still belong to it (R240), with no line arriving and no word in the line FIFO. -/
def CapX.ready (c : CapX) (now : TT) : Option FrameX :=
  match c.frames.find? (fun f => decide (f.tag = [])) with
  | none => none
  | some f =>
    if f.closed && decide (f.closeTT ≠ now) && !c.arriving f.no && !(c.fifo.any (fun w => decide (w.frame = some f.no))) then some f
    else none

/-- Finish the frames that can be, in frame order. -/
def Device.finishReady (d : Device) (p k : Nat) : Device :=
  (List.range (d.cap p k).frames.length).foldl (fun d _ =>
    match (d.cap p k).ready d.tt with
    | some f => d.finishFrame p k f
    | none => d) d

/-- The open frame closes: STATUS gains `bits`, its slot becomes CLOSED (R228, R232). `code`: 0 wire end or COUNT,
1 TIME, 2 EVENT, 3 CLOSE or TRUNCATE (R234). -/
def Device.closeFrame (d : Device) (p k code bits_ : Nat) : Device :=
  match (d.cap p k).openFrame with
  | none => d
  | some f =>
    let d := d.modFrames p k (fun x => !x.closed) (fun x =>
      { x with closed := true, closeTT := d.tt, status := x.status ||| (code * 0x200) ||| bits_ })
    let d := match f.slot with
      | some s => d.setSlotState p k f.gen s 2
      | none => d
    d.showCap p k

/-! ### Beginning a frame -/

/-- A frame begins (R228, R230, R231): its number, its slot or the reason it has none, its epoch (R115). -/
def Device.beginFrame (d : Device) (p k : Nat) (h : LineHdr) (stamp : TT) : Device :=
  let no := d.get R.CAP_SC_FRAME_NEXT [p, k]
  let d := d.put R.CAP_SC_FRAME_NEXT [p, k] (no + 1)
  let cfg := d.capCfg p k
  let c := d.cap p k
  let admitted := !d.flag R.BOOTH_PACE_SHORT [p] && !d.flag R.BOOTH_STATE_THROTTLE [p]
  let s := d.get R.CAP_SC_STAT_NEXT_SLOT [p, k]
  let free := decide (c.slots.get 0 s = 0)
  let gen := d.flag R.CAP_SC_STAT_GEN [p, k]
  let status := (if admitted then 0 else 4) ||| (if admitted && !free then 8 else 0) ||| (if cfg.framing = 2 then 0x100 else 0)
    ||| (if c.gap then 0x20000 else 0) ||| (if h.field2 then 0x2000 else 0)
  let f : FrameX := { no := no, epoch := d.boothEpoch p, cfg := cfg, slot := if admitted && free then some s else none
                      gen := gen, status := status, firstTT := stamp, wireFrame := h.wireFrame, trigId := h.trigId
                      after := c.prevFirst, interlaced := h.field2 || c.field2 }
  let d := d.setCap p k { c with frames := c.frames ++ [f], armed := false, gap := false, prevFirst := stamp, field2 := h.field2 }
  let d := if !admitted then d.bump R.CAP_SC_DROP_THROTTLED [p, k] else if free then d else d.bump R.CAP_SC_DROP_NO_BUFFER [p, k]
  let d := if admitted && free then
      (d.put R.CAP_SC_STAT_NEXT_SLOT [p, k] ((s + 1) % d.slotCount p k)).setSlotState p k gen s 1
    else d
  d.showCap p k

/-- The port has been out of UP for 1 µs (R202). -/
def Device.downLong (d : Device) (p : Nat) : Bool :=
  decide (1 ≤ d.get R.PP_CTL_MODE [p] ∧ d.get R.PP_CTL_MODE [p] ≤ 8 ∧ d.get R.PP_STAT_STATE [p] ≠ 4
    ∧ 65536000 ≤ ttDiff d.tt (d.prtx p).downSince)

/-- A lane of the port has lost signal or lock for 1 µs, or the port has left UP (R135, R202). -/
def Device.portLossLong (d : Device) (p : Nat) : Bool := (d.portLanes p).any d.lossLong || d.downLong p

/-- A frame that opens during a loss already 1 µs long raises the fault as it opens (R135). -/
def Device.faultIfLost (d : Device) (p : Nat) : Device := if d.portLossLong p && d.frameOpen p then d.portFault p 1 else d

/-! ### The line FIFO -/

/-- Lost words of frame `n` count: all but those of a frame that was not admitted (R224, R240). -/
def CapX.countsLost (c : CapX) (n : Option Nat) : Bool :=
  match n with
  | none => true
  | some n => match c.frame n with
    | some f => !bit f.status 2
    | none => true

/-- A word arriving at a full chain overwrites the oldest, whose line is damaged (R224). -/
def Device.overwrite (d : Device) (p k : Nat) : Device :=
  let c := d.cap p k
  match c.fifo with
  | [] => d
  | w :: rest =>
    let counts := c.countsLost w.frame
    let d := d.setCap p k { c with fifo := rest, owesDamaged := true, owesLostEol := c.owesLostEol || w.eol }
    if !counts then d
    else
      (d.bump R.CAP_SC_LOST_LOST_WORDS [p, k]).modFrames p k (fun f => decide (some f.no = w.frame)) (fun f =>
        { f with lostWords := f.lostWords + 1
                 lostLines := if w.oversize ∨ f.lostLines.contains w.line then f.lostLines else f.lostLines ++ [w.line] })

/-- A word enters its line FIFO (R222, R223): the oldest is lost if the chain is full, and an end-of-line word gives its
notice. -/
def Device.wordEnter (d : Device) (p k : Nat) (w : FifoWord) : Device :=
  let d := if 64 ≤ (d.cap p k).fifo.length then d.overwrite p k else d
  let c := d.cap p k
  let d := d.setCap p k { c with fifo := c.fifo ++ [w] }
  let d := d.showCap p k
  if w.eol then d.lineNotice p k else d

/-- Cut a byte run at the 64-byte boundaries of the line: (offset, bytes), at most `fuel` pieces. -/
def cutWords : Nat → Nat → List Byte → List (Nat × List Byte)
  | 0, _, _ => []
  | fuel + 1, off, bs =>
    if bs.isEmpty then []
    else
      let n := 64 - off % 64
      (off, bs.take n) :: cutWords fuel (off + n) (bs.drop n)

/-- The FIFO word of a piece of the line now arriving. -/
def LineX.word (x : LineX) (off : Nat) (bs : List Byte) (sol eol : Bool) (length : Nat) : FifoWord :=
  { sol := sol, eol := eol, offset := off, line := x.index, data := bs, frame := x.frame, oversize := x.oversize, serial := x.serial
    stamp := x.stamp, length := length }

/-- The words that arriving bytes complete, and the piece that waits: the last one waits for what follows it or for the line's
end, which makes it the end-of-line word (R222). -/
def LineX.pieces (x : LineX) (off : Nat) (bs : List Byte) : List (Nat × List Byte) :=
  if x.buf ≠ [] ∧ x.bufOff + x.buf.length = off then cutWords (x.buf.length + bs.length) x.bufOff (x.buf ++ bs)
  else (if x.buf = [] then [] else [(x.bufOff, x.buf)]) ++ cutWords bs.length off bs

/-- Bytes of the present line at an offset: whole words enter the FIFO, the last piece waits. -/
def Device.lineBytes (d : Device) (p k off : Nat) (bs : List Byte) : Device :=
  match (d.cap p k).line with
  | none => d
  | some x =>
    let x := { x with got := max x.got (off + bs.length) }
    if x.discard ∨ bs = [] then d.setCap p k { d.cap p k with line := some x }
    else
      let ps := x.pieces off bs
      let d := (ps.dropLast.zipIdx).foldl (fun d q =>
        d.wordEnter p k (x.word q.1.1 q.1.2 (!x.begun && decide (q.2 = 0)) false x.hdr.length)) d
      let rest := ps.getLast?.getD (off, [])
      d.setCap p k { d.cap p k with line := some { x with begun := x.begun || decide (1 < ps.length), buf := rest.2, bufOff := rest.1 } }

/-- A stream counts its frames in lines: raw UDP and RAW lanes (R215). -/
def Device.rawStream (d : Device) (p k : Nat) : Bool :=
  decide (d.get R.PP_CTL_MODE [p] = 9) || (decide (d.get R.PP_CTL_MODE [p] ≤ 5) && decide (d.get R.PP_SM_CTL_KIND [p, k] = 0))

/-- What the end of a line brings its frame (R215, R217, R219): a length that differs, and the close where this line makes one. A
block holds at most 1,048,576 lines; one that TIME or EVENT closed in this tick closes by COUNT where that line reaches it (R240). -/
def Device.lineEnded (d : Device) (p k : Nat) (f : FrameX) (x : LineX) (len : Nat) : Device :=
  let mismatch := if len ≠ f.cfg.lineLen ∧ !x.oversize then 0x20 else 0
  let ended := f.ended + 1
  let d := d.modFrames p k (fun g => decide (g.no = f.no)) (fun g => { g with ended := ended, status := g.status ||| mismatch })
  let full := (d.flag R.CAP_SC_CTL_CLOSE_COUNT [p, k] && decide (f.cfg.lines ≤ ended)) || decide (1048576 ≤ ended)
  if f.closed then
    (if f.cfg.framing = 2 ∧ full then d.modFrames p k (fun g => decide (g.no = f.no)) (fun g =>
        { g with status := g.status - bits g.status 9 2 * 0x200 }) else d)
  else if f.cfg.framing = 0 ∧ (x.hdr.frameEnd ∨ (d.rawStream p k ∧ f.cfg.lines ≤ ended)) then d.closeFrame p k 0 0
  else if f.cfg.framing = 2 ∧ full then d.closeFrame p k 0 0
  else d

/-- The line ends: its end-of-line word enters the FIFO, and the frame or block closes where this line ends it
(R215, R219). -/
def Device.endLine (d : Device) (p k : Nat) : Device :=
  match (d.cap p k).line with
  | none => d
  | some x =>
    let d := d.setCap p k { d.cap p k with line := none, lastFrame := x.frame }
    if x.discard then d
    else
      let len := if x.hdr.length = 0 then x.got else x.hdr.length
      let off := if x.buf = [] then x.got else x.bufOff
      let d := d.wordEnter p k (x.word off x.buf (!x.begun) true len)
      match x.frame.bind (d.cap p k).frame with
      | some f => d.lineEnded p k f x len
      | none => d

/-- The frame a line that begins now belongs to, after the frame start it may make (R215, R218): `none` for an
orphan. -/
def Device.frameFor (d : Device) (p k : Nat) (h : LineHdr) (stamp : TT) : Device :=
  let f := (d.cap p k).openFrame
  let framing := d.get R.CAP_SC_CTL_FRAMING [p, k]
  let start := match f with
    | none => if framing = 0 then h.frameStart || !h.inside else decide (framing ≠ 1) || (d.cap p k).armed
    | some f => decide (f.cfg.framing = 0) && (h.frameStart || decide (h.wireFrame ≠ f.wireFrame))
  if !start then d
  else
    let d := d.closeFrame p k 0 0
    let d := d.capBoundary p k stamp
    if !d.flag R.CAP_SC_CTL_EN [p, k] ∨ (d.get R.CAP_SC_CTL_FRAMING [p, k] = 1 ∧ !(d.cap p k).armed) then d
    else d.beginFrame p k h stamp

/-- PREV_ABORTED marks the frame of the line that was cut short: the one in progress, or the one that ended last (R234). -/
def Device.markAborted (d : Device) (p k : Nat) (n : Option Nat) : Device :=
  d.modFrames p k (fun f => decide (some f.no = n)) (fun f => { f with status := f.status ||| 0x80000 })

/-- A line begins at the assembler (R214 to R218, R221): its frame, its index, and what its head says of it. -/
def Device.beginLine (d : Device) (p k : Nat) (h : LineHdr) (stamp : TT) : Device :=
  let d := d.endLine p k
  let d := if h.prevAborted then d.markAborted p k (d.cap p k).lastFrame else d
  let d := if d.flag R.CAP_SC_CTL_EN [p, k] then d.frameFor p k h stamp else d
  let c := d.cap p k
  let x : LineX := { hdr := h, stamp := stamp, serial := c.serial, index := (h.lineNo.getD 0), frame := none }
  let d := d.setCap p k { c with serial := c.serial + 1 }
  if !d.flag R.CAP_SC_CTL_EN [p, k] then
    (d.bump R.CAP_SC_DROP_ORPHAN [p, k]).setCap p k { d.cap p k with line := some { x with discard := true } }
  else
    match (d.cap p k).openFrame with
    | none => (d.bump R.CAP_SC_DROP_ORPHAN [p, k]).setCap p k { d.cap p k with line := some x }
    | some f =>
      let i := if f.cfg.framing = 2 then f.nextIndex else h.lineNo.getD f.nextIndex
      let big := decide (f.cfg.lines ≤ i)
      let dup := f.received.contains i
      let bad := match h.pixfmt with
        | some c => f.cfg.fmtCheck && decide (c ≠ f.cfg.pixfmt)
        | none => false
      let st := (if big then 0x10 else 0) ||| (if dup && !big then 0x80 else 0) ||| (if bad then 0x40 else 0)
        ||| (if h.merged then 0x40000 else 0)
      let d := d.modFrames p k (fun g => decide (g.no = f.no)) (fun g =>
        { g with status := g.status ||| st, nextIndex := i + 1, firstIndex := some (g.firstIndex.getD i)
                 received := if big || dup then g.received else g.received ++ [i] })
      let d := d.setCap p k { d.cap p k with line := some { x with index := i, frame := some f.no, oversize := big } }
      d.faultIfLost p

/-- Line `i` of frame `n` has lost data (R217, R224). -/
def Device.markLine (d : Device) (p k n i : Nat) : Device :=
  d.modFrames p k (fun f => decide (f.no = n)) (fun f =>
    { f with lostLines := if f.lostLines.contains i then f.lostLines else f.lostLines ++ [i] })

/-! ### The store stage -/

/-- Put bytes into a line's record. -/
def LineRec.store (r : LineRec) (off : Nat) (bs : List Byte) : LineRec :=
  { r with bytes := patch (fit (max r.bytes.length (off + bs.length)) r.bytes) off bs
           have_ := if bs = [] then r.have_ else addSpan off (off + bs.length) r.have_ }

/-- A word's line in the frame's records: a second line of an index replaces the first (R216). The bytes arrived, whether or not
the Net let them be stored (R239, R248, R259). -/
def FrameX.storeWord (f : FrameX) (w : FifoWord) (bs : List Byte) (refused : Bool) : FrameX :=
  let new : LineRec := { index := w.line, serial := w.serial, stamp := w.stamp, length := w.length }
  let old := match f.line w.line with
    | some r => if r.serial = w.serial then r else new
    | none => new
  let r := old.store w.offset bs
  let r := { r with damaged := old.damaged || refused, length := max old.length w.length }
  { f with lines := if (f.line w.line).isSome then f.lines.map (fun x => if x.index = w.line then r else x) else f.lines ++ [r]
           status := if refused then f.status ||| 0x4000 else f.status }

/-- Lines of frame `n` that end at the point of loss: another line's word follows (R224). -/
def Device.linesLeft (d : Device) (p k n serial : Nat) : Device :=
  match (d.cap p k).frame n with
  | none => d
  | some f => f.lines.foldl (fun d r => if r.serial < serial ∧ !r.passed then d.linePassed p k n r.index else d) d

/-- A word taken from line FIFO `k` goes to the frame store, and past Swatch (R216, R217, R226, R239, R246). -/
def Device.storeWord (d : Device) (p k : Nat) (w : FifoWord) : Device :=
  match w.frame with
  | none => d
  | some n =>
    match (d.cap p k).frame n with
    | none => d
    | some f =>
      if f.slot.isNone ∨ w.oversize then d
      else
        let d := if w.lostEol then d.linesLeft p k n w.serial else d
        let bs := w.data.take (f.cfg.stride - w.offset)
        let r := d.portWrite p (f.base + w.line * f.cfg.stride + w.offset) bs
        let d := r.2.modFrames p k (fun g => decide (g.no = n)) (fun g => g.storeWord w bs (!r.1))
        if w.eol then d.linePassed p k n w.line else d

/-- The next FIFO that holds words, after the one served last (R226). -/
def Device.nextFifo (d : Device) (p : Nat) : Option Nat :=
  ((List.range 64).map (fun i => ((d.bth p).lastFifo + 1 + i) % 64)).find? (fun k => !(d.cap p k).fifo.isEmpty)

/-- The store stage takes one word, round-robin (R226). -/
def Device.storeTake (d : Device) (p : Nat) : Device :=
  match d.nextFifo p with
  | none => d
  | some k =>
    let c := d.cap p k
    match c.fifo with
    | [] => d
    | w :: rest =>
      let d := d.setBth p { d.bth p with lastFifo := k }
      let d := d.setCap p k { c with fifo := rest, owesDamaged := false, owesLostEol := false }
      let w := { w with damaged := w.damaged || c.owesDamaged, lostEol := w.lostEol || c.owesLostEol }
      ((d.storeWord p k w).finishReady p k).showCap p k

/-- The header word of R222. -/
def FifoWord.header (w : FifoWord) : Nat :=
  1 + 2 * b2n w.sol + 4 * b2n w.eol + 8 * b2n w.damaged + 16 * b2n w.lostEol
    + 32 * (if w.data = [] then Config.emptyWord.toNat else (w.data.length + 63) % 64) + w.offset % 2 ^ 18 * 2 ^ 16 + w.line % 2 ^ 20 * 2 ^ 34

/-- POP of CAP_LF_DIAG (R225). -/
def Device.diagPop (d : Device) (p : Nat) : Device :=
  let k := d.get R.CAP_LF_DIAG_FIFO [p]
  if d.flag R.CAP_SC_CTL_EN [p, k] then (d.put R.CAP_LF_HDR_HDR [p] 0).setFlag R.CAP_LF_DIAG_DENIED [p] true
  else
    let c := d.cap p k
    match c.fifo with
    | [] => d.put R.CAP_LF_HDR_HDR [p] 0
    | w :: rest =>
      let d := d.setCap p k { c with fifo := rest, owesDamaged := false, owesLostEol := false }
      let w := { w with damaged := w.damaged || c.owesDamaged, lostEol := w.lostEol || c.owesLostEol }
      let d := d.put R.CAP_LF_HDR_HDR [p] w.header
      let d := (List.range 8).foldl (fun d j =>
        d.wr R.CAP_LF_DATA [p, j] (BitVec.ofNat 64 (fieldAt w.data (8 * j) 8))) d
      (d.finishReady p k).showCap p k

/-! ### CAP_CMD -/

/-- A CAP_CMD that is ignored (R218). -/
def Device.cmdBad (d : Device) (p : Nat) : Device := d.bump R.CAP_STAT_CMD_BAD [p]

/-- OPEN (R218). -/
def Device.capOpen (d : Device) (p k : Nat) : Device :=
  let c := d.cap p k
  if d.get R.CAP_SC_CTL_FRAMING [p, k] ≠ 1 ∨ c.armed ∨ c.isOpen then d.cmdBad p
  else (d.setCap p k { c with armed := true }).showCap p k

/-- A frame closed before any line began (R218): a placeholder that takes a number and no slot. -/
def Device.closeEmpty (d : Device) (p k : Nat) : Device :=
  let d := d.capBoundary p k d.tt
  let no := d.get R.CAP_SC_FRAME_NEXT [p, k]
  let d := d.put R.CAP_SC_FRAME_NEXT [p, k] (no + 1)
  let c := d.cap p k
  let f : FrameX := { no := no, epoch := d.boothEpoch p, cfg := d.capCfg p k, slot := none
                      gen := d.flag R.CAP_SC_STAT_GEN [p, k], status := 0x602 ||| (if c.gap then 0x20000 else 0)
                      firstTT := d.tt, wireFrame := 0, trigId := 0xFFFF, after := c.prevFirst
                      closed := true, closeTT := d.tt }
  let d := d.setCap p k { c with frames := c.frames ++ [f], armed := false, gap := false, prevFirst := d.tt }
  d.showCap p k

/-- The line in progress is cut (R218): its words that had come, the one just completed among them, stay as a damaged line, the
rest is discarded and the line counted once. -/
def Device.cutLine (d : Device) (p k : Nat) : Device :=
  match (d.cap p k).line with
  | none => d
  | some x =>
    if x.discard then d
    else
      let whole := decide (x.buf ≠ [] ∧ (x.bufOff + x.buf.length) % 64 = 0)
      let d := if whole then d.wordEnter p k (x.word x.bufOff x.buf (!x.begun) false x.hdr.length) else d
      let d := d.setCap p k { d.cap p k with line := some { x with discard := true, buf := [] } }
      let d := d.bump R.CAP_SC_DROP_ORPHAN [p, k]
      match x.frame with
      | some n => if (x.begun || whole) && !x.oversize then d.markLine p k n x.index else d
      | none => d

/-- CLOSE and TRUNCATE (R218); a line in progress has the rest of the tick to end (R240), and is then cut. -/
def Device.capEnd (d : Device) (p k : Nat) (truncate : Bool) : Device :=
  let c := d.cap p k
  if d.get R.CAP_SC_CTL_FRAMING [p, k] ≠ 1 ∨ (!c.armed ∧ !c.isOpen) then d.cmdBad p
  else if c.isOpen then d.closeFrame p k 3 (if truncate then 2 else 0)
  else d.closeEmpty p k

/-- A write of CAP_CMD (R218). -/
def Device.capCmd (d : Device) (p k op : Nat) : Device :=
  match op with
  | 1 => d.capOpen p k
  | 2 => d.capEnd p k false
  | 3 => d.capEnd p k true
  | _ => d.cmdBad p

/-! ### Line-scan closure -/

/-- The line in progress belongs to the next block (R219): it becomes that block's first line. -/
def Device.rehome (d : Device) (p k : Nat) (old : Nat) : Device :=
  match (d.cap p k).line with
  | none => d
  | some x =>
    if x.frame ≠ some old then d
    else
      let words := (d.cap p k).fifo.filter (fun w => decide (w.serial = x.serial))
      let was := (d.cap p k).frame old
      let recs : List LineRec := match was with
        | some f => f.lines.filter (fun r => decide (r.serial = x.serial))
        | none => []
      let lost := match was with
        | some f => f.lostLines.contains x.index
        | none => false
      let d := d.modFrames p k (fun f => decide (f.no = old)) (fun f =>
        { f with lines := f.lines.filter (fun r => decide (r.serial ≠ x.serial)), received := f.received.filter (fun i => decide (i ≠ x.index))
                 lostLines := f.lostLines.filter (fun i => decide (i ≠ x.index)) })
      let c := d.cap p k
      let d := d.setCap p k { c with fifo := c.fifo.filter (fun w => decide (w.serial ≠ x.serial)), line := none }
      let d := d.beginLine p k { x.hdr with prevAborted := false } x.stamp
      match (d.cap p k).line with
      | none => d
      | some y =>
        let moved := words.map (fun w => { w with line := y.index, frame := y.frame, oversize := y.oversize, serial := y.serial })
        let redo : List FifoWord := recs.flatMap (fun r => r.have_.map (fun h =>
          y.word h.1 ((r.bytes.drop h.1).take (h.2 - h.1)) false false x.hdr.length))
        let d := redo.foldl (fun d w => d.storeWord p k w) d
        let d := match y.frame with
          | some n => if lost then d.markLine p k n y.index else d
          | none => d
        let c := d.cap p k
        d.setCap p k { c with fifo := c.fifo ++ moved
                              line := some { y with begun := x.begun, buf := x.buf, bufOff := x.bufOff, got := x.got } }

/-- A block that TIME closed in this tick: EVENT comes before TIME (R240). -/
def FrameX.recloses (now : TT) (f : FrameX) : Bool :=
  f.closed && decide (f.closeTT = now) && decide (f.cfg.framing = 2) && decide (bits f.status 9 2 = 1)

/-- A line-scan block closes at an instant: 1 TIME, 2 EVENT (R219); ignored while it holds no whole line. The line in progress has
the rest of the tick to end, and then belongs to the next block. -/
def Device.blockClose (d : Device) (p k code : Nat) : Device :=
  if code = 2 ∧ (d.cap p k).frames.any (FrameX.recloses d.tt) then
    d.modFrames p k (FrameX.recloses d.tt) (fun f => { f with status := f.status + 0x200 })
  else
    match (d.cap p k).openFrame with
    | none => d
    | some f => if f.cfg.framing ≠ 2 ∨ f.ended = 0 then d else d.closeFrame p k code 0

/-- TIME closure (R219): BLOCK_NS has passed since FIRST_TT. -/
def Device.blockTime (d : Device) (p k : Nat) : Device :=
  match (d.cap p k).openFrame with
  | none => d
  | some f =>
    if d.flag R.CAP_SC_CTL_CLOSE_TIME [p, k] ∧ (d.get R.CAP_SC_TIME_BLOCK_NS [p, k] * 65536 : Nat) ≤ ttDiff d.tt f.firstTT then
      d.blockClose p k 1
    else d

/-- A tick has passed since a frame closed (R218, R219, R240): the line still in progress is cut, or goes on in the next block,
and what can be finished is. -/
def Device.capTick (d : Device) (p k : Nat) : Device :=
  if !(d.cap p k).frames.any (fun f => f.closed && decide (f.tag = [])) then d
  else
    let c := d.cap p k
    let d := match (c.line.bind (fun x => x.frame)).bind c.frame with
      | some f =>
        if !f.closed ∨ f.closeTT = d.tt then d
        else if f.cfg.framing = 2 then d.rehome p k f.no
        else d.cutLine p k
      | none => d
    (d.finishReady p k).showCap p k

/-- The same for every stream of a port. -/
def Device.capsTick (d : Device) (p : Nat) : Device := (d.bth p).caps.foldl (fun d e => d.capTick p e.1) d

/-! ### Tags on their way to the queue -/

/-- A release frees a CLOSED slot of the named generation (R229). -/
def Device.capRelease (d : Device) (p k : Nat) (gen : Bool) (s : Nat) : Device :=
  if d.slotState p k gen s = 2 then d.setSlotState p k gen s 0 else d.bump R.CAP_STAT_REL_BAD [p]

/-- Append the head frame's tag, if it has been handed over; the answer tells whether another may follow (R232). -/
def Device.pushTag (d : Device) (p k : Nat) : Bool × Device :=
  match (d.cap p k).frames with
  | [] => (false, d)
  | f :: rest =>
    if !f.handed then (false, d)
    else
      let done := fun (d : Device) =>
        let d := d.setCap p k { d.cap p k with frames := rest, lastTag := some f.no }
        if f.release then d.capRelease p k f.gen (f.slot.getD 0) else d
      match d.append f.cfg.queue 3 f.tag with
      | (.appended, d) => (true, done d)
      | (.stalled, d) => (true, done d)
      | (_, d) => (false, d.waitFor f.cfg.queue (.tags p k))

/-- Append every tag that can be, in frame order. -/
def Device.pushTags (d : Device) (p k : Nat) : Device :=
  ((List.range (d.cap p k).frames.length).foldl (fun r _ => if r.1 then r.2.pushTag p k else r) (true, d)).2

/-- The tag of a CLOSED slot has not yet been handed to its queue (R314). -/
def Device.tagReady (d : Device) (p k slot gen : Nat) : Bool :=
  (d.cap p k).frames.any (fun f => decide (f.slot = some slot) && decide (f.gen = decide (gen = 1)) && f.closed && f.evented
    && !f.handed)

/-- The delivery path writes PAYLOAD_ADDR and PAYLOAD_HOST and hands the tag to the ordered appending (R236, R314). -/
def Device.deliverTag (d : Device) (p k slot gen addr : Nat) (rel : Bool) : Device :=
  match (d.cap p k).frames.find? (fun f => decide (f.slot = some slot) && decide (f.gen = decide (gen = 1)) && f.evented && !f.handed) with
  | none => d
  | some f =>
    let st := fieldAt f.tag 72 4
    let tag := patch (patch f.tag 96 (leBytes 8 addr)) 72 (leBytes 4 (if bit st 16 then st else st + 0x10000))
    let d := d.modFrames p k (fun x => decide (x.no = f.no)) (fun x => { x with tag := tag, handed := true, release := rel })
    let d := (d.portWrite p (f.base + f.cfg.tagOffset) tag).2
    d.pushTags p k

/-- Firmware's copy of a frame's result record to the host (SW_CONFIG DELIVER). -/
def Device.deliverResult (d : Device) (p : Nat) (f : FrameX) : Device :=
  match f.cfg.sw, f.slot with
  | some s, some _ =>
    match (d.bth p).deliver.find? (fun e => decide (e.1 = s.ctx)) with
    | some (_, host, cnt) =>
      let dst := host + f.no % max 1 cnt * s.resSize
      if d.ready ∧ d.netAdmits false true .queue dst s.resSize then
        { d with hostMem := copySparse d.hbm d.hostMem hostFill (f.resultAt s) dst s.resSize }
      else d
    | none => d
  | _, _ => d

/-- The frame event (R232): payload, table and tag of the oldest closed frame are resident, and its seal is settled. -/
def Device.frameEvent (d : Device) (p k : Nat) : Device :=
  match (d.cap p k).frames.find? (fun f => !f.evented) with
  | none => d
  | some f =>
    if f.tag = [] ∨ f.sealSt = 1 then d
    else
      let hand := f.cfg.direct || f.slot.isNone
      let d := d.modFrames p k (fun x => decide (x.no = f.no)) (fun x => { x with evented := true, handed := hand })
      let d := d.deliverResult p f
      let d := if f.cfg.frameEvEn then d.fire f.cfg.frameEv else d
      d.pushTags p k

/-- RECOVER of the booth frees every slot of both rings and clears a retiring ring (R241). -/
def Device.capRecover (d : Device) (p k : Nat) : Device :=
  (d.setCap p k { d.cap p k with slots := [], oldSlots := [] }).showCap p k

end Sys2Proof.Machine
end

