-- ==== Sys2Proof/Machine/Dma.lean ====
section
/-! DEFINITION. The DMA engines (R305 to R321): arming, hand-over, the Net and alignment tests, the round-robin
take, pausing, the transfer's end with its check and completion record, tags and slot release. -/

namespace Sys2Proof.Machine

/-- The engine runs: neither FAULTED nor HALTED. -/
def Device.engineUp (d : Device) (e : Nat) : Bool := decide (d.get R.DMA_ENG_STAT_STATE [e] = 0)

/-- Enter a channel state. -/
def Device.setChState (d : Device) (e c st : Nat) : Device := d.put R.DMA_CH_STAT_STATE [e, c] st

/-- The bucket's capacity, BURST × 4 KiB, in 1/1,024 byte (R309). -/
def Device.bucketSize (d : Device) (e c : Nat) : Nat := max 1 (d.get R.DMA_CH_CFG_BURST [e, c]) * 4096 * 1024

/-- The bucket is full (R309). -/
def Device.fillBucket (d : Device) (e c : Nat) : Device :=
  d.setChan e c { d.chan e c with tokens := d.bucketSize e c, tokensAt := d.tt }

/-- SHARE of a channel; values above 1,024 act as 1,024, and 0 sets no limit (R309). -/
def Device.share (d : Device) (e c : Nat) : Nat := min 1024 (d.get R.DMA_CH_CFG_SHARE [e, c])

/-- What the bucket has taken in since it was last looked at: SHARE / 1,024 of 113 GB/s (R309). -/
def Device.bucketGain (d : Device) (e c : Nat) : Nat :=
  let dt := ttDiff d.tt (d.chan e c).tokensAt
  if dt < 0 then d.bucketSize e c else dt.toNat * (d.share e c * 113) / 65536

/-- The transfer's bytes cross the host link and its channel has a limit (R309). -/
def Device.metered (d : Device) (e c : Nat) : Bool :=
  decide (d.share e c ≠ 0) && !(d.flag R.DMA_CH_A_OPT_SRC_SPACE [e, c] && d.flag R.DMA_CH_A_OPT_DST_SPACE [e, c])

/-- The bucket has let `n` more bytes pass by now: those it held and those it has taken in (R309). -/
def Device.bucketLets (d : Device) (e c n : Nat) : Bool :=
  !d.metered e c || decide (n * 1024 ≤ min (d.chan e c).tokens (d.bucketSize e c) + d.bucketGain e c)

/-- The bucket with the time passed and `n` bytes taken; it never holds more than BURST. -/
def Device.bucketTake (d : Device) (e c n : Nat) : Device :=
  let x := d.chan e c
  let t := min x.tokens (d.bucketSize e c) + d.bucketGain e c - (if d.metered e c then n * 1024 else 0)
  d.setChan e c { x with tokens := min t (d.bucketSize e c), tokensAt := d.tt }

/-- CFG of a channel takes the values adopted no later than now; the bucket is full where SHARE or BURST is among them (R309,
R315). -/
def Device.cfgApply (d : Device) (e c : Nat) (at_ : TT) : Device :=
  let a := R.DMA_CH_CFG.addr [e, c]
  let ws := d.ctl.pend.filter (fun p => decide (p.write.addr = a) && ttGe at_ p.ttc)
  let d := d.settleAt at_ (fun x => decide (x = a))
  if ws.any (fun p => p.write.covers R.DMA_CH_CFG_SHARE || p.write.covers R.DMA_CH_CFG_BURST) then d.fillBucket e c else d

/-- A host-space range touches a BAR of the device itself (R307, R418). -/
def Device.touchesOwnBar (d : Device) (a n : Nat) : Bool :=
  d.hst.memSpace && (overlaps d.hst.bar0 (2 ^ 16) a n || overlaps d.hst.bar2 (2 ^ 26) a n || overlaps d.hst.bar4 (2 ^ 32) a n)

/-- The Net test of a set's source range (R307). -/
def Device.srcAdmitted (d : Device) (e c : Nat) : Bool :=
  let n := d.get R.DMA_CH_A_LEN_LEN [e, c]
  let s := d.get R.DMA_CH_A_SRC_SRC [e, c]
  let sh := d.flag R.DMA_CH_A_OPT_SRC_SPACE [e, c]
  d.netAdmits sh false .dma s n && (sh || !d.touchesOwnBar s n)

/-- The Net test of a set's destination range (R307). -/
def Device.dstAdmitted (d : Device) (e c : Nat) : Bool :=
  let n := d.get R.DMA_CH_A_LEN_LEN [e, c]
  let t := d.get R.DMA_CH_A_DST_DST [e, c]
  let dh := d.flag R.DMA_CH_A_OPT_DST_SPACE [e, c]
  d.netAdmits dh true .dma t n && (dh || !d.touchesOwnBar t n)

/-- The Net test of a whole set (R307). -/
def Device.setAdmitted (d : Device) (e c : Nat) : Bool := d.srcAdmitted e c && d.dstAdmitted e c

/-- The completion record of the active set, with RECNO as the append gives it (R303). -/
def Device.completionBytes (d : Device) (e c : Nat) (tagSent : Bool) (recno : Nat) : List Byte :=
  let x := d.chan e c
  let crc := d.flag R.DMA_CH_A_OPT_CRC32C [e, c]
  let moved := if x.status = 0 ∨ x.status = 0x0902 then x.fullLen else 0
  let flags := b2n crc + 2 * b2n x.rounded + 4 * b2n tagSent + 8 * b2n x.paused + 16 * b2n x.reverse
  layout [(1, 1), (1, e), (1, c), (1, flags), (2, d.get R.DMA_CH_STAT_GEN [e, c]), (2, x.status), (4, x.epoch), (4, recno),
    (8, (d.rd R.DMA_CH_A_USER [e, c]).toNat), (8, moved), (8, x.check), (8, x.startTT.toNat), (8, d.tt.toNat), (8, 0)]

/-- A record with its RECNO set to the queue's COUNT after the append (R303). -/
def withRecno (bs : List Byte) (recno : Nat) : List Byte := patch bs 12 (leBytes 4 recno)

/-- Append the record held in the channel, if it can be: the channel is BLOCKED until it is (R300). The answer says
whether the record went out. -/
def Device.appendHeld (d : Device) (e c : Nat) : Bool × Device :=
  match (d.chan e c).held with
  | none => (true, d)
  | some bs =>
    let q := (d.chan e c).cq
    match d.append q 4 (withRecno bs ((d.ctx q).count.toNat + 1)) with
    | (.appended, d) => (true, d.setChan e c { d.chan e c with held := none })
    | (.stalled, d) => (true, d.setChan e c { d.chan e c with held := none })
    | (_, d) => (false, (d.setChState e c 4).waitFor q (.record e c))

/-- What follows a record that has been appended: the tag is delivered and the slot released (R314), and the commands
that wait for the record are answered (DMA_SUBMIT). -/
def Device.afterRecord (d : Device) (e c : Nat) (bs : List Byte) : Device :=
  let d := if bit (fieldAt bs 3 1) 2 then
      d.deliverTag (d.get R.DMA_CH_A_OPT_BPORT [e, c]) (d.get R.DMA_CH_A_TAG_STREAM [e, c])
        (d.get R.DMA_CH_A_TAG_SLOT [e, c]) (d.get R.DMA_CH_A_TAG_GEN [e, c]) (d.get R.DMA_CH_A_TAGADDR_ADDR [e, c])
        (d.flag R.DMA_CH_A_OPT_REL [e, c])
    else d
  d.finish 0x0905 [e, c, fieldAt bs 4 2] (fieldAt bs 6 2)
    (layout [(2, fieldAt bs 4 2), (6, 0), (8, fieldAt bs 32 8), (8, fieldAt bs 48 8), (8, 0)])

/-- The oldest channel of engine `e` whose record is held (R308). -/
def Device.headEnded (d : Device) (e : Nat) : Option Nat :=
  (d.dlv.engines.get {} e).ended.find? (fun c => (d.chan e c).held.isSome)

/-- Replace an engine's own state. -/
def Device.setEngine (d : Device) (e : Nat) (x : EngineX) : Device :=
  { d with dlv := { d.dlv with engines := d.dlv.engines.put {} e x } }

/-- The active set's transfer has ended: its record goes out, behind every held record of the engine (R308), or is held. The answer
says whether it went. -/
def Device.emitRecord (d : Device) (e c : Nat) : Bool × Device :=
  let x := d.chan e c
  let wantTag := d.flag R.DMA_CH_A_OPT_TAG_EN [e, c] && decide (x.status = 0)
  let ok := d.flag R.DMA_CH_A_OPT_BOUND [e, c]
    && d.tagReady (d.get R.DMA_CH_A_OPT_BPORT [e, c]) (d.get R.DMA_CH_A_TAG_STREAM [e, c])
        (d.get R.DMA_CH_A_TAG_SLOT [e, c]) (d.get R.DMA_CH_A_TAG_GEN [e, c])
  let d := if wantTag && !ok then d.setChan e c { x with status := 0x0902 } else d
  let bs := d.completionBytes e c (wantTag && ok) 0
  let first := (d.headEnded e).isNone
  let d := d.setChan e c { d.chan e c with held := some bs }
  let r := if first then d.appendHeld e c else (false, d.setChState e c 4)
  if r.1 then (true, r.2.afterRecord e c bs)
  else
    let x := r.2.dlv.engines.get {} e
    (false, r.2.setEngine e { x with ended := (x.ended.filter (fun i => (d.chan e i).held.isSome && decide (i ≠ c))) ++ [c] })

/-- The shadow set becomes the active set, with the next generation (R305). -/
def Device.copyShadow (d : Device) (e c : Nat) : Device :=
  let d := d.wr R.DMA_CH_A_SRC [e, c] (d.rd R.DMA_CH_SRC [e, c])
  let d := d.wr R.DMA_CH_A_DST [e, c] (d.rd R.DMA_CH_DST [e, c])
  let d := d.wr R.DMA_CH_A_LEN [e, c] (d.rd R.DMA_CH_LEN [e, c])
  let d := d.wr R.DMA_CH_A_OPT [e, c] (d.rd R.DMA_CH_OPT [e, c])
  let d := d.wr R.DMA_CH_A_USER [e, c] (d.rd R.DMA_CH_USER [e, c])
  let d := d.wr R.DMA_CH_A_TAG [e, c] (d.rd R.DMA_CH_TAG [e, c])
  let d := d.wr R.DMA_CH_A_TAGADDR [e, c] (d.rd R.DMA_CH_TAGADDR [e, c])
  let d := d.setFlag R.DMA_CH_CTL_ARM [e, c] false
  let d := d.count R.DMA_CH_STAT_GEN [e, c]
  d.setChan e c { d.chan e c with epoch := d.boothEpoch 8, startTT := d.tt, status := 0, rounded := false
                                  paused := false, reverse := false, check := 0, held := none
                                  fullLen := d.get R.DMA_CH_LEN_LEN [e, c], fullSrc := d.get R.DMA_CH_SRC_SRC [e, c]
                                  fullDst := d.get R.DMA_CH_DST_DST [e, c], cq := d.get R.DMA_CH_CFG_CQ [e, c] }

/-- The status the hand-over gives a set (R307, R311): OK, NET_REFUSED or DMA_ALIGN. -/
def Device.handoverStatus (d : Device) (e c : Nat) : Nat :=
  let n := d.get R.DMA_CH_A_LEN_LEN [e, c]
  let odd := decide (n % 64 ≠ 0 ∨ d.get R.DMA_CH_A_SRC_SRC [e, c] % 64 ≠ 0 ∨ d.get R.DMA_CH_A_DST_DST [e, c] % 64 ≠ 0)
  if n = 0 then 0
  else if !d.setAdmitted e c then 0x0201
  else if odd ∧ d.mode ≠ 1 then 0x0901
  else 0

/-- A hand-over point (R305): CFG writes due there are applied (R315), ARM is sampled once, and a set that moves
nothing gives its record at once. -/
def Device.handover (d : Device) (e c : Nat) : Device :=
  let d := d.cfgApply e c d.tt
  if !d.flag R.DMA_CH_CTL_ARM [e, c] then d.setChState e c 0
  else
    let d := d.copyShadow e c
    let st := d.handoverStatus e c
    let x := d.chan e c
    let odd := decide (x.fullLen % 64 ≠ 0 ∨ x.fullSrc % 64 ≠ 0 ∨ x.fullDst % 64 ≠ 0)
    let d := d.setChan e c { x with status := st, rounded := odd && decide (st = 0) && decide (x.fullLen ≠ 0) }
    if st = 0 ∧ x.fullLen ≠ 0 then d.setChState e c 1
    else
      let d := if st = 0x0201 then d.violation 8 1 (if d.srcAdmitted e c then x.fullDst else x.fullSrc) x.fullLen (3 * 4096 + e) else d
      if !d.engineUp e then d
      else
        let r := d.emitRecord e c
        if r.1 then r.2.setChState e c 0 else r.2

/-- The channel takes hand-overs: not paused, not faulted, and no held record (R305, R310). -/
def Device.mayHandover (d : Device) (e c : Nat) : Bool :=
  d.engineUp e && !d.flag R.DMA_CH_CTL_PAUSE [e, c] && decide (d.chState e c = 0)

/-- The next READY channel of an engine in round-robin order after the one last served (R308). -/
def Device.nextReady (d : Device) (e : Nat) : Option Nat :=
  ((List.range 16).map (fun i => ((d.dlv.engines.get {} e).last + 1 + i) % 16)).find? (fun c => decide (d.chState e c = 1))

/-- The check of the source bytes as they stand (R311). -/
def Device.sourceCheck (d : Device) (e c : Nat) : Nat :=
  let x := d.chan e c
  let bs := if d.flag R.DMA_CH_A_OPT_SRC_SPACE [e, c] then d.hbmRead x.fullSrc x.fullLen else d.hostRead x.fullSrc x.fullLen
  if d.flag R.DMA_CH_A_OPT_CRC32C [e, c] then crc32c bs else crc64 bs

/-- The copy runs from the high end: the ranges overlap in one space and the destination lies above (R313). -/
def Device.copiesDown (d : Device) (e c : Nat) : Bool :=
  let x := d.chan e c
  decide (d.flag R.DMA_CH_A_OPT_SRC_SPACE [e, c] = d.flag R.DMA_CH_A_OPT_DST_SPACE [e, c] ∧ x.fullSrc < x.fullDst
    ∧ x.fullDst < x.fullSrc + x.fullLen)

/-- A free engine takes its next READY channel and starts its transfer (R308). -/
def Device.engineTake (d : Device) (e : Nat) : Device :=
  if !d.engineUp e ∨ d.flag R.DMA_ENG_STAT_BUSY [e] then d
  else
    match d.nextReady e with
    | none => d
    | some c =>
      let d := d.setEngine e { d.dlv.engines.get {} e with last := c }
      let d := (d.setFlag R.DMA_ENG_STAT_BUSY [e] true).put R.DMA_ENG_STAT_CUR [e] c
      let x := d.chan e c
      let d := if x.paused then d
        else d.setChan e c { x with check := d.sourceCheck e c, reverse := d.copiesDown e c }
      d.setChState e c 2

/-- The channel's hand-over point, if it is one, then the engine's take. -/
def Device.channelRuns (d : Device) (e c : Nat) : Device :=
  (if d.mayHandover e c then d.handover e c else d).engineTake e

/-- A write of ARM (R305, R306). -/
def Device.dmaArm (d : Device) (e c : Nat) : Device :=
  if d.flag R.DMA_CH_CTL_ARM [e, c] then d.bump R.DMA_CH_STAT_ARM_IGNORED [e, c]
  else (d.setFlag R.DMA_CH_CTL_ARM [e, c] true).channelRuns e c

/-- A write of DISARM (R306). -/
def Device.dmaDisarm (d : Device) (e c : Nat) : Device := d.setFlag R.DMA_CH_CTL_ARM [e, c] false

/-- A write of PAUSE (R310). A running transfer stops at DMA_PAUSE_DONE. -/
def Device.dmaPause (d : Device) (e c : Nat) (on : Bool) : Device :=
  let was := d.flag R.DMA_CH_CTL_PAUSE [e, c]
  let d := d.setFlag R.DMA_CH_CTL_PAUSE [e, c] on
  if on then (if d.chState e c = 1 then d.setChState e c 3 else d)
  else if !was then d
  else if d.chState e c = 3 then (d.setChState e c 1).engineTake e
  else d.channelRuns e c

/-- The source memory, the destination memory's fill, and writing the destination memory back. -/
def Device.moveBytes (d : Device) (e c src dst n : Nat) : Device :=
  let sh := d.flag R.DMA_CH_A_OPT_SRC_SPACE [e, c]
  let dh := d.flag R.DMA_CH_A_OPT_DST_SPACE [e, c]
  let from_ := if sh then d.hbm else d.hostMem
  if dh then { d with hbm := copySparse from_ d.hbm hbmFill src dst n
                      hst := { d.hst with badWords := d.hst.badWords.filter (fun w => !overlaps (w * 8) 8 dst n) } }
  else { d with hostMem := copySparse from_ d.hostMem hostFill src dst n }

/-- `n` bytes of the running set move: from the low end up, or from the high end down when it copies in reverse; the
active set then holds what remains (R310, R313). Tokens are taken for the bytes that cross the host link (R309). -/
def Device.progress (d : Device) (e c n : Nat) : Device :=
  let len := d.get R.DMA_CH_A_LEN_LEN [e, c]
  let n := min n len
  let s := d.get R.DMA_CH_A_SRC_SRC [e, c]
  let t := d.get R.DMA_CH_A_DST_DST [e, c]
  let rev := (d.chan e c).reverse
  let off := if rev then len - n else 0
  let d := d.moveBytes e c (s + off) (t + off) n
  let d := d.put R.DMA_CH_A_LEN_LEN [e, c] (len - n)
  let d := if rev then d else (d.put R.DMA_CH_A_SRC_SRC [e, c] (s + n)).put R.DMA_CH_A_DST_DST [e, c] (t + n)
  let d := d.bucketTake e c n
  d.wr R.DMA_ENG_BYTES [e] (d.rd R.DMA_ENG_BYTES [e] + BitVec.ofNat 64 n)

/-- The transfer stalls for want of Bus Master Enable: it touches host space (R425). -/
def Device.dmaStalled (d : Device) (e c : Nat) : Bool :=
  (!d.hst.busMaster || d.hst.d3hot)
    && !(d.flag R.DMA_CH_A_OPT_SRC_SPACE [e, c] && d.flag R.DMA_CH_A_OPT_DST_SPACE [e, c])

/-- The channel an engine runs now. -/
def Device.runningChan (d : Device) (e : Nat) : Option Nat :=
  let c := d.get R.DMA_ENG_STAT_CUR [e]
  if d.engineUp e ∧ d.flag R.DMA_ENG_STAT_BUSY [e] ∧ d.chState e c = 2 then some c else none

/-- The running transfer has stopped for PAUSE after `n` more bytes (R310): the engine is free. -/
def Device.dmaPauseDone (d : Device) (e n : Nat) : Device :=
  match d.runningChan e with
  | none => d
  | some c =>
    if !d.flag R.DMA_CH_CTL_PAUSE [e, c] ∨ d.get R.DMA_CH_A_LEN_LEN [e, c] ≤ n ∨ !d.bucketLets e c n then d
    else
      let d := d.progress e c n
      let d := d.setChan e c { d.chan e c with paused := true }
      let d := (d.setChState e c 3).setFlag R.DMA_ENG_STAT_BUSY [e] false
      d.engineTake e

/-- An uncorrectable word that the running set reads (R433). -/
def Device.badSource (d : Device) (e c : Nat) : Option Nat :=
  if d.flag R.DMA_CH_A_OPT_SRC_SPACE [e, c] then d.badIn (d.chan e c).fullSrc (d.chan e c).fullLen else none

/-- A transfer ends: its last bytes move, its record is appended, the channel comes to its hand-over point and the
engine takes the next channel (R308, R312). -/
def Device.dmaEnd (d : Device) (e : Nat) : Device :=
  match d.runningChan e with
  | none => d
  | some c =>
    let n := d.get R.DMA_CH_A_LEN_LEN [e, c]
    if d.dmaStalled e c ∨ !d.bucketLets e c n then d
    else if let some w := d.badSource e c then (d.memErr true 1 8 e w).engineFault e 2
    else
      let d := d.progress e c (d.get R.DMA_CH_A_LEN_LEN [e, c])
      let d := d.setFlag R.DMA_ENG_STAT_BUSY [e] false
      let r := d.emitRecord e c
      let d := if r.1 then (r.2.setChState e c 0).channelRuns e c else r.2
      d.engineTake e

/-- The held records of engine `e` are appended in the order their transfers ended, as far as they can be, and their channels go
on (R300, R308). -/
def Device.flushHeld (e : Nat) : Nat → Device → Device
  | 0, d => d
  | fuel + 1, d =>
    match d.headEnded e with
    | none => d
    | some c =>
      let r := d.appendHeld e c
      if !r.1 then r.2
      else
        let x := r.2.dlv.engines.get {} e
        let d' := r.2.setEngine e { x with ended := x.ended.filter (fun i => decide (i ≠ c)) }
        flushHeld e fuel (((d'.afterRecord e c ((d.chan e c).held.getD [])).setChState e c 0).channelRuns e c)

/-- The held records of an engine are tried again. -/
def Device.flushRecords (d : Device) (e : Nat) : Device := Device.flushHeld e 16 d

/-- With each tick the engines go on where nothing else has set them going: a channel whose sets a port's fault has taken away,
and a record whose elder has gone with it (R305, R308, R319). -/
def Device.dmaTick (d : Device) : Device :=
  (List.range 32).foldl (fun d e =>
    let d := (List.range 16).foldl (fun (d : Device) c =>
      if d.flag R.DMA_CH_CTL_ARM [e, c] && d.mayHandover e c then d.handover e c else d) d
    let d := match d.headEnded e with
      | some c => if d.dlv.waiters.any (fun w => decide (w.2 = Waiter.record e c)) then d else d.flushRecords e
      | none => d
    d.engineTake e) d

/-- RECOVER of an engine: sets cleared, IDLE, buckets full, CFG and generations kept (R319). -/
def Device.engineRecover (d : Device) (e : Nat) : Device :=
  let d := (List.range 16).foldl (fun d c =>
    let d := d.dropSets e c 0
    let d := [R.DMA_CH_SRC, R.DMA_CH_DST, R.DMA_CH_LEN, R.DMA_CH_OPT, R.DMA_CH_USER, R.DMA_CH_TAG, R.DMA_CH_TAGADDR,
      R.DMA_CH_A_SRC, R.DMA_CH_A_DST, R.DMA_CH_A_LEN, R.DMA_CH_A_OPT, R.DMA_CH_A_USER, R.DMA_CH_A_TAG, R.DMA_CH_A_TAGADDR].foldl
        (fun d r => d.wr r [e, c] 0) d
    d.fillBucket e c) d
  ((d.put R.DMA_ENG_STAT_STATE [e] 0).setFlag R.DMA_ENG_STAT_BUSY [e] false).put R.DMA_ENG_STAT_REASON [e] 0

end Sys2Proof.Machine
end

