-- ==== Sys2Proof/Machine/Vxl.lean ====
section
/-! DEFINITION. The port protocol unit's link state (R174 to R177, R202) and Voxent Link (R191 to R207): markers and
deskew, blocks, lines, triggers, echoes, the control channel, and the firmware sequences that run on them. -/

namespace Sys2Proof.Machine

/-! ### Port modes and link state -/

/-- A Voxent Link mode (R174). -/
def modeVxl (m : Nat) : Bool := decide (6 ≤ m ∧ m ≤ 8)

/-- An Ethernet mode (R174). -/
def modeEth (m : Nat) : Bool := decide (1 ≤ m ∧ m ≤ 5)

/-- The mode's FEC counts into the lanes (R166, R178). -/
def modeFec (m : Nat) : Bool := decide (3 ≤ m ∧ m ≤ 8)

/-- The lane RATE a mode needs (R174, R145). -/
def modeRate (m : Nat) : Nat :=
  match m with
  | 1 => 1
  | 2 => 3
  | 3 => 3
  | 4 => 4
  | 5 => 4
  | _ => 5

/-- MODE of a port. -/
def Device.pmode (d : Device) (p : Nat) : Nat := d.get R.PP_CTL_MODE [p]

/-- PP_STAT.STATE: 0 OFF, 1 DOWN, 2 SYNC, 3 HELLO, 4 UP, 5 FAILED. -/
def Device.pstate (d : Device) (p : Nat) : Nat := d.get R.PP_STAT_STATE [p]

/-- The port is UP. -/
def Device.up (d : Device) (p : Nat) : Bool := decide (d.pstate p = 4)

/-- The port is in a VXL mode and UP. -/
def Device.vxlUp (d : Device) (p : Nat) : Bool := modeVxl (d.pmode p) && d.up p

/-- ROLE 0: host. -/
def Device.hostRole (d : Device) (p : Nat) : Bool := !d.flag R.PP_CTL_ROLE [p]

/-- A block or packet is handed to the wire. -/
def Device.putWire (d : Device) (p l : Nat) (bs : List Byte) : Device :=
  let x := d.prtx p
  d.setPrt p { x with sent := (if x.sentTT = d.tt then x.sent else []) ++ [(l, bs, [])], sentTT := d.tt }

/-- The bits that injection inverts in what was handed to the wire last (R284). -/
def Device.flipWire (d : Device) (p : Nat) (bits : List Nat) : Device :=
  let x := d.prtx p
  d.setPrt p { x with sent := x.sent.modify (x.sent.length - 1) (fun u => (u.1, u.2.1, bits)) }

/-- A block goes into a slot of logical lane `i`: the lane's scrambler runs over its payload (R195). -/
def Device.putBlock (d : Device) (p i : Nat) (control : Bool) (bs : List Byte) : Device :=
  let l := 2 * p + i
  let x := d.lane l
  (d.setLane l { x with scramTx := (sendBlock x.scramTx control bs).2 }).putWire p i bs

/-- A block is dealt: block `i` goes to logical lane `i mod N` (R196). -/
def Device.dealBlock (d : Device) (p : Nat) (control : Bool) (bs : List Byte) : Device :=
  let x := d.prtx p
  (d.setPrt p { x with dealt := x.dealt + 1 }).putBlock p (dealLane (modeLanes (d.get R.PP_CTL_MODE [p])) x.dealt) control bs

/-- The line being received ends as it stands (R199, R208). -/
def Device.endCur (d : Device) (p : Nat) : Device :=
  if d.get R.PP_CTL_MODE [p] = 9 then (if (d.cap p 0).line.isSome then d.endLine p 0 else d)
  else match (d.prtx p).cur with
  | none => d
  | some c =>
    let d := match c.stream with
      | some k => d.endLine p k
      | none => d
    d.setPrt p { d.prtx p with cur := none }

/-- The stream table's registers of a port. -/
def inStreamTable (p a : Nat) : Bool := decide ((p + 1) * 0x1000000 + 0x301000 ≤ a ∧ a < (p + 1) * 0x1000000 + 0x302000)

/-- Stream-table writes adopted no later than a packet's or line's stamp take their values (R184, R209). -/
def Device.streamBoundary (d : Device) (p : Nat) (tb : TT) : Device := d.settleAt tb (inStreamTable p)

/-- The port's state changes; leaving UP ends the line in progress and leaves no stream-table write pending (R184). -/
def Device.setLink (d : Device) (p st : Nat) : Device :=
  let old := d.pstate p
  let d := d.put R.PP_STAT_STATE [p] st
  if old = st then d
  else
    let d := if st = 4 then d.setFlag R.PP_EVT_UP_SEEN [p] true else d
    let d := if st = 0 ∨ st = 1 then d.put R.PP_STAT_FAIL [p] 0 else d
    if old = 4 then
      let d := (d.setFlag R.PP_EVT_DOWN_SEEN [p] true).endCur p
      let d := d.setPrt p { d.prtx p with downSince := d.tt }
      d.settle (fun q => inStreamTable p q.write.addr)
    else d

/-- The link fails (R202): 1 SKEW, 2 LANE_ORDER, 3 ROLE_CONFLICT, 4 VERSION, 5 HELLO_TIMEOUT. -/
def Device.linkFailed (d : Device) (p code : Nat) : Device := (d.setLink p 5).put R.PP_STAT_FAIL [p] code

/-- Every lane of the port is in DATA with its marker found (R202). -/
def Device.lanesAligned (d : Device) (p : Nat) : Bool :=
  (d.portLanes p).all (fun l => decide (d.trainState l = 4) && d.flag R.LN_ALIGN_STAT_FOUND (lx l))

/-- Every lane of the port has CDR lock. -/
def Device.lanesLocked (d : Device) (p : Nat) : Bool := (d.portLanes p).all (fun l => d.flag R.LN_STAT_CDR_LOCK (lx l))

/-- The port's state follows ENABLE and its lanes (R202, R209); a RAW port is UP while its lane is locked (log entry 31). -/
def Device.linkEval (d : Device) (p : Nat) : Device :=
  let m := d.pmode p
  if !d.flag R.PP_CTL_ENABLE [p] ∨ m = 0 ∨ 9 < m then d.setLink p 0
  else
    let d := if d.pstate p = 0 then d.setLink p 1 else d
    let st := d.pstate p
    if modeVxl m then
      if 2 ≤ st ∧ st ≤ 4 ∧ (d.portLanes p).any (fun l => decide (d.trainState l ≠ 4)) then d.setLink p 1
      else if st = 1 ∧ d.lanesAligned p then
        let d := (d.portLanes p).foldl (fun d l => d.setLane l { d.lane l with marker := none }) d
        d.setLink p 2
      else d
    else if modeEth m then
      if (st = 2 ∨ st = 4) ∧ !d.lanesLocked p then d.setLink p 1
      else if st = 1 ∧ d.lanesLocked p then d.setLink p 2
      else d
    else d.setLink p (if d.lanesLocked p then 4 else 1)

/-- FOUND has been clear for 1 µs on a lane of a VXL port (R202). -/
def Device.alignLossTimeout (d : Device) (p : Nat) : Device :=
  let st := d.pstate p
  let long := (d.portLanes p).any (fun l => !d.flag R.LN_ALIGN_STAT_FOUND (lx l) && (match (d.lane l).unfoundSince with
    | some t => decide (65536000 ≤ ttDiff d.tt t)
    | none => false))
  if modeVxl (d.pmode p) ∧ 2 ≤ st ∧ st ≤ 4 ∧ long then d.setLink p 1 else d

/-- A 4-lane mode is possible on port `p`: even, and the lanes above present (R175). -/
def Device.mayBorrow (d : Device) (p : Nat) : Bool :=
  decide (p % 2 = 0) && d.portPresent (p + 1) && d.lanePresent (2 * p + 2) && d.lanePresent (2 * p + 3)

/-- An admitted write of PP_CTL (R175, R177, R23). Reserved modes change nothing (log entry 23). -/
def Device.portCtlWrite (d : Device) (p : Nat) (v : Word) : Device :=
  let m := R.PP_CTL_MODE.of v
  let role := R.PP_CTL_ROLE.of v
  let was := d.flag R.PP_CTL_ENABLE [p]
  let d := if m = d.pmode p then d
    else if was ∨ (m = 8 ∧ !d.mayBorrow p) then d.setFlag R.PP_EVT_CFG_BAD [p] true
    else if 9 < m then d
    else d.put R.PP_CTL_MODE [p] m
  let d := if role = d.get R.PP_CTL_ROLE [p] then d
    else if was then d.setFlag R.PP_EVT_CFG_BAD [p] true
    else d.put R.PP_CTL_ROLE [p] role
  let d := d.put R.PP_CTL_EMIT [p] (R.PP_CTL_EMIT.of v)
  let d := d.put R.PP_CTL_ENABLE [p] (R.PP_CTL_ENABLE.of v)
  let d := if p % 2 = 0 ∧ p < 8 then d.setFlag R.BOOTH_STATE_BORROWED [p + 1] (decide (d.pmode p = 8)) else d
  d.linkEval p

/-- A line of a Palette channel of the port has begun to leave. -/
def Device.lineLeaving (d : Device) (p : Nat) : Bool := (List.range 4).any (fun c => (d.pal p c).frames.any (fun f => f.cur.isSome))

/-- EMIT clears once EMIT_OK has fallen, as soon as no line is leaving: the one that falls in a line lets it complete
(R177, R209). -/
def Device.emitNet (d : Device) (p : Nat) : Device :=
  if d.flag R.PP_CTL_EMIT [p] ∧ !bit (d.get R.NET_PORTS_EMIT_OK []) p ∧ !d.lineLeaving p then
    d.setFlag R.PP_CTL_EMIT [p] false
  else d

/-! ### Ethernet lock -/

/-- Block, FEC and marker lock are reached (R178, R202), the two lanes of 100GBASE-R no more than 180 ns apart. -/
def Device.ethLock (d : Device) (p skewNs : Nat) : Device :=
  if modeEth (d.pmode p) ∧ d.pstate p = 2 ∧ d.lanesLocked p ∧ !(decide (d.pmode p = 5) && decide (180 < skewNs)) then d.setLink p 4 else d

/-- Lock is lost (R202). -/
def Device.ethUnlock (d : Device) (p : Nat) : Device :=
  if modeEth (d.pmode p) ∧ (d.pstate p = 4 ∨ d.pstate p = 2) then d.setLink p 1 else d

/-! ### Markers and deskew -/

/-- MARKER_PAT (R193). -/
def markerPat : Word := 0x3A6CD2F10B95E847

/-- LANE_COUNT of a mode (R193): 0 one, 1 two, 2 four. -/
def laneCountCode (m : Nat) : Nat := if m = 8 then 2 else if m = 7 then 1 else 0

/-- LINK_INFO, TRIGGER and the other control blocks: 32 bytes with TYPE and CRC-16 (R198). -/
def ctrlBlock (type : Nat) (body : List Byte) : List Byte :=
  let b := BitVec.ofNat 8 type :: fit 29 body
  b ++ leBytes 2 (crc16 b)

/-- The port's own LINK_INFO (R198, R202). -/
def Device.linkInfo (d : Device) (p : Nat) : List Byte :=
  let lat := if d.hostRole p then 0 else Config.ownTrigLat.toNat
  ctrlBlock 0x3C (layout [(1, d.get R.PP_CTL_ROLE [p]), (1, 1), (1, laneCountCode (d.pmode p)), (4, lat)])

/-- Deskew in SYNC (R196): all lanes' latest markers carry one SUPERFRAME; the skew is that of their arrivals. -/
def Device.deskew (d : Device) (p : Nat) : Device :=
  let ls := d.portLanes p
  let ms := ls.map (fun l => (d.lane l).marker)
  let bad := ls.any (fun l => match (d.lane l).marker with
    | some (_, _, ln, cnt) => decide (ln ≠ l - 2 * p ∨ cnt ≠ laneCountCode (d.pmode p))
    | none => false)
  if bad then d.linkFailed p 2
  else
    let frames := ms.filterMap (fun m => m.map (fun x => x.1))
    let words := ms.filterMap (fun m => m.map (fun x => x.2.1))
    if frames.length ≠ ls.length ∨ frames.any (fun f => decide (some f ≠ frames.head?)) then d
    else
      let lo := words.foldl min (words.headD 0)
      let skew := words.foldl max 0 - lo
      let d := d.put R.PP_STAT_SKEW [p] (min skew 255)
      if 32 < skew then d.linkFailed p 1
      else
        let d := d.setLink p 3
        d.setPrt p { d.prtx p with helloSince := d.tt }

/-! ### What a lane sends (R192 to R196, R200) -/

/-- `n` bits of PRBS13 from a place in its sequence. -/
def prbs13 (start pos n : Nat) : List Bool := (prbsBits 3 (pos % 8191 + n) (valueBits 13 start)).drop (pos % 8191)

/-- Bits of a marker's or training frame's fields with their CRC-16 in bits [63:48]. -/
def crcWord (v : Nat) : Nat := v + crc16 (leBytes 6 v) * 2 ^ 48

/-- Bits [63:0] of word 1 of the marker that logical lane `i` sends (R193). -/
def Device.markerField (d : Device) (p i : Nat) : Nat :=
  crcWord ((d.prtx p).superNo % 2 ^ 32 + i * 2 ^ 32 + laneCountCode (d.pmode p) * 2 ^ 34 + d.get R.PP_CTL_ROLE [p] * 2 ^ 36)

/-- The 1,024 bits of that marker (R193). -/
def Device.markerBits (d : Device) (p i : Nat) : List Bool :=
  valueBits 64 markerPat.toNat ++ valueBits 64 (~~~ markerPat).toNat ++ valueBits 128 (d.markerField p i)
    ++ prbs13 (Config.patternStart (2 * p + i)).toNat (768 * (d.prtx p).superNo) 768

/-- When that marker's first word leaves: with the superframe, later by an injected skew of several words (R192, R285). -/
def Device.markerTime (d : Device) (p i : Nat) : Option TT :=
  let words := if modeLanes (d.pmode p) ≤ 1 then 0 else min 64 (d.get R.PAL_SKEW_WORDS [p, i])
  (d.prtx p).superAt.map (fun t => t + BitVec.ofNat 64 (wordsTime (modeRate (d.pmode p)) words))

/-- An IDLE block (R198). -/
def idleBlock : List Byte := ctrlBlock 0x1E []

/-- The bits of blocks in their slots, scrambled from a state. -/
def laneBlocks : List (Bool × List Byte) → Nat → List (List Bool)
  | [], _ => []
  | b :: r, s => (sendBlock s b.1 b.2).1 :: laneBlocks r (sendBlock s b.1 b.2).2

/-- A superframe of logical lane `i` (R192): the marker, then 96 codewords of ten blocks, slots without a block carrying IDLE. -/
def Device.superframe (d : Device) (p i : Nat) (blocks : List (Bool × List Byte)) : List Bool :=
  let all := (blocks ++ List.replicate (960 - blocks.length) (true, idleBlock)).take 960
  let sent := laneBlocks all (d.lane (2 * p + i)).scramTx
  d.markerBits p i ++ (chunks 10 96 sent).flatMap (fun bs => (blockCodeword bs).flatMap (valueBits 10))

/-- Word 2 of the training frame a lane sends (R200): request and response, lane, lane count, role, COUNTDOWN and CRC, twice. -/
def Device.trainWord2 (d : Device) (l : Nat) : BitVec 128 :=
  let p := d.portOfLane l
  let x := d.lane l
  let v := crcWord (x.req % 2 ^ 16 + x.resp % 2 ^ 16 * 2 ^ 16 + (l - 2 * p) * 2 ^ 32 + laneCountCode (d.pmode p) * 2 ^ 34
    + d.get R.PP_CTL_ROLE [p] * 2 ^ 36 + x.countdown.getD 31 * 2 ^ 37)
  BitVec.ofNat 128 (v + v * 2 ^ 64)


/-- The training frame itself, 1,024 words (R200). -/
def Device.trainBits (d : Device) (l : Nat) : List Bool :=
  valueBits 64 trainPat.toNat ++ valueBits 64 (~~~ trainPat).toNat ++ valueBits 128 0 ++ valueBits 128 (d.trainWord2 l).toNat
    ++ valueBits 128 0 ++ prbs13 (Config.patternStart l).toNat (d.lane l).patBits 130560

/-! ### Received markers -/

/-- A superframe marker arrives on a lane (R158, R193) in received word number `word`; `w0` and `w1` are bits [63:0] of its
words 0 and 1. The comparator tests the first. -/
def Device.vxlMarker (d : Device) (l word : Nat) (w0 w1 : Word) : Device :=
  let p := d.portOfLane l
  if !modeVxl (d.pmode p) ∨ d.trainState l ≠ 4 then d
  else
    let d := d.compareWord l word w0
    let v := w1.toNat
    if w0 ≠ markerPat ∨ crc16 (leBytes 6 v) ≠ bits v 48 16 then d.linkEval p
    else
      let d := (d.linkEval p)
      let d := d.setLane l { d.lane l with marker := some (bits v 0 32, word, bits v 32 2, bits v 34 2) }
      if d.pstate p = 2 then d.deskew p else d

/-! ### Control blocks -/

/-- The control block types (R198). -/
def blockTypes : List Nat := [0x1E, 0x2D, 0x3C, 0x4B, 0x55, 0x66, 0x78]

/-- A received control block of the type a handler takes (R198): a bad CRC and an unknown TYPE are counted. -/
def Device.onBlock (d : Device) (p type : Nat) (b : List Byte) (f : Device → Device) : Device :=
  let b := fit 32 b
  if !modeVxl (d.pmode p) ∨ d.pstate p < 3 ∨ d.pstate p = 5 then d
  else if crc16 (b.take 30) ≠ fieldAt b 30 2 then d.bump R.PP_VXL_ERR_CRC_ERR [p]
  else if !blockTypes.contains (fieldAt b 0 1) then d.bump R.PP_VXL_ERR_UNKNOWN [p]
  else if fieldAt b 0 1 = type then f d else d

/-- The partner's LINK_INFO (R202, R209): it counts in HELLO only. -/
def Device.linkInfoRx (d : Device) (p : Nat) (b : List Byte) : Device :=
  d.onBlock p 0x3C b (fun d =>
    if d.pstate p ≠ 3 then d
    else
      let f := fieldAt b
      let d := (d.put R.PP_VXL_INFO_ROLE [p] (f 1 1)).put R.PP_VXL_INFO_VERSION [p] (f 2 1)
      let d := (d.put R.PP_VXL_INFO_LANES [p] (f 3 1)).put R.PP_VXL_INFO_TRIG_LAT [p] (f 4 4)
      if f 1 1 = d.get R.PP_CTL_ROLE [p] then d.linkFailed p 3
      else if f 2 1 ≠ 1 then d.linkFailed p 4
      else d.setLink p 4)

/-- No valid LINK_INFO within 1 ms of HELLO (R202). -/
def Device.helloTimeout (d : Device) (p : Nat) : Device :=
  if modeVxl (d.pmode p) ∧ d.pstate p = 3 ∧ (1000000 * 65536 : Int) ≤ ttDiff d.tt (d.prtx p).helloSince then d.linkFailed p 5 else d

/-- A codeword of 272 symbols arrives and is decoded (R194, R195, R166): corrected symbols count into the lane, its ten blocks are
read, and each with a bad header is lost and counted; of an uncorrectable one the blocks are gone. -/
def Device.codeword (d : Device) (l : Nat) (symbols : List Nat) : Device :=
  let p := d.portOfLane l
  if !modeVxl (d.pmode p) ∨ d.pstate p < 2 then d
  else
    let ix := lx l
    let x := d.lane l
    match rsDecode symbols with
    | none =>
      let r := readBlocks (messageBlocks (symbols.take 258)) x.scramRx
      (d.setLane l { x with scramRx := r.2, blocks := [] }).bump R.LN_FEC_CW_UNCORR ix
    | some (msg, n) =>
      let r := readBlocks (messageBlocks msg) x.scramRx
      let bad := (r.1.filter Option.isNone).length
      let d := d.setLane l { x with scramRx := r.2, blocks := r.1 }
      let d := if n = 0 then d else (d.bump R.LN_FEC_CW_CORR ix).bumpBy R.LN_FEC_SYM_SYM ix n
      d.bumpBy R.PP_VXL_ERR_HDR_ERR [p] bad

/-- A block that belongs to its lane and is not dealt: TRIGGER, ECHO_REQ and ECHO_RSP (R196). -/
def laneLocal (b : Bool × List Byte) : Bool :=
  b.1 && (decide (fieldAt b.2 0 1 = 0x4B) || decide (fieldAt b.2 0 1 = 0x66) || decide (fieldAt b.2 0 1 = 0x78))

/-- The dealt blocks of the lanes' last codewords, back in order (R196). -/
def Device.orderedBlocks (d : Device) (p : Nat) : List (Bool × List Byte) :=
  undeal ((d.portLanes p).map (fun l => ((d.lane l).blocks.filterMap id).filter (fun b => !laneLocal b)))

/-! ### Lines -/

/-- What a LINE_START says (R198, R215). -/
def lineStartHdr (b : List Byte) : LineHdr :=
  let f := fieldAt b
  { frameStart := bit (f 1 1) 6, frameEnd := bit (f 1 1) 7, prevAborted := bit (f 2 1) 1, wireFrame := f 4 4
    lineNo := some (f 8 4), pixfmt := some (f 12 4), length := f 16 4, trigId := f 20 2 }

/-- The stream entry takes VXL lines (R183). -/
def Device.vxlEntry (d : Device) (p k : Nat) : Bool :=
  d.flag R.PP_SM_CTL_VALID [p, k] && decide (d.get R.PP_SM_CTL_KIND [p, k] = 3)

/-- A LINE_START (R183, R184, R199). -/
def Device.lineStart (d : Device) (p : Nat) (b : List Byte) (stamp : TT) : Device :=
  d.onBlock p 0x2D b (fun d =>
    if !d.up p ∨ d.boothDown p then d
    else
      let d := d.endCur p
      let d := (d.streamBoundary p stamp).count R.PP_CNT_RX_PKTS [p]
      let h := lineStartHdr b
      let k := fieldAt b 1 1 % 64
      if d.vxlEntry p k then
        let d := d.beginLine p k h stamp
        let d := d.setPrt p { d.prtx p with cur := some { stream := some k, length := h.length } }
        if h.length = 0 then d.endCur p else d
      else
        (d.bump R.PP_CNT_ERR_NO_ENTRY [p]).setPrt p { d.prtx p with cur := some { stream := none, length := h.length } })

/-- Data block `n` of the line being received (R199): its bytes at 32 n, padding dropped; the last one ends the line. -/
def Device.dataBlock (d : Device) (p n : Nat) (data : List Byte) : Device :=
  if !d.vxlUp p ∨ d.boothDown p then d
  else
    match (d.prtx p).cur with
    | none => d.bump R.PP_VXL_ERR_STRAY [p]
    | some c =>
      if c.length ≤ 32 * n then d.bump R.PP_VXL_ERR_STRAY [p]
      else
        let d := match c.stream with
          | some k => d.lineBytes p k (32 * n) ((fit 32 data).take (c.length - 32 * n))
          | none => d
        if c.length ≤ 32 * n + 32 then d.endCur p else d

/-! ### Triggers -/

/-- 1/64 ns in 1/65,536 ns. -/
def sub64 (n : Nat) : TT := BitVec.ofNat 64 (n * 1024)

/-- A TRIGGER block arrives in ROLE 1 (R203): its first payload symbol was at the pad at `t`. -/
def Device.triggerRx (d : Device) (p : Nat) (b : List Byte) (t : TT) : Device :=
  d.onBlock p 0x4B b (fun d =>
    if !d.up p ∨ d.hostRole p then d
    else
      let at_ := t + sub64 Config.ownTrigLat.toNat + sub64 (fieldAt b 4 2)
      d.setPrt p { d.prtx p with fires := (d.prtx p).fires ++ [(at_, fieldAt b 2 2)] })

/-- The instant of a trigger-receive event has come (R203): it fires MW_VXLRX's channel, stamped to 1 ns (R26, R344). -/
def Device.triggerFire (d : Device) (p : Nat) : Device :=
  match (d.prtx p).fires.find? (fun t => ttGe d.tt t.1) with
  | none => d
  | some t =>
    let d := d.setPrt p { d.prtx p with fires := (d.prtx p).fires.erase t, lastTrig := t.2 }
    d.fireStampIf R.MW_VXLRX_EN R.MW_VXLRX_CH [p] (((t.1 + 32768) >>> 16) <<< 16)

/-- The send point of a lane (R204): T − D − TRIG_LAT. -/
def Device.sendPoint (d : Device) (p : Nat) (g : TrigOut) (l : Nat) : TT :=
  g.target - sub64 (d.get R.PP_VXL_DLY_DELAY [p, l]) - sub64 (d.get R.PP_VXL_INFO_TRIG_LAT [p])

/-- The first free slot of logical lane `l` at or after its send point less 1,000 ns. -/
def Device.candidate (d : Device) (p : Nat) (g : TrigOut) (slots : List (Nat × TT)) (l : Nat) : Option (Nat × TT) :=
  slots.find? (fun s => decide (s.1 = l) && ttGe s.2 (d.sendPoint p g l - ttNs 1000))

/-- The earlier of two slots; the first on a tie. -/
def earlier (a : Option (Nat × TT)) (b : Option (Nat × TT)) : Option (Nat × TT) :=
  match a, b with
  | none, b => b
  | a, none => a
  | some x, some y => if 0 ≤ ttDiff y.2 x.2 then some x else some y

/-- The slot a trigger goes into: the candidate that leaves the pad earliest, the lowest lane on a tie (R204). -/
def Device.bestSlot (d : Device) (p : Nat) (g : TrigOut) (slots : List (Nat × TT)) : Option (Nat × TT) :=
  (List.range (modeLanes (d.pmode p))).foldl (fun a l => earlier a (d.candidate p g slots l)) none

/-- The target's share of a fire is late (R204, R360). -/
def Device.markLate (d : Device) (g : TrigOut) : Device :=
  let x := d.prog g.prog
  (d.setProg g.prog { x with fires := x.fires.map (fun f =>
    if f.count = g.count then { f with acts := f.acts.modify g.tgt (fun a => { a with late := true }) } else f) }).reviseRecord
      g.prog g.count

/-- The TRIGGER block (R198, R360). -/
def TrigOut.block (g : TrigOut) (offset : Nat) : List Byte :=
  ctrlBlock 0x4B (layout [(1, b2n g.level), (2, g.trigId), (2, offset), (2, g.width), (8, g.target.toNat)])

/-- A TRIGGER goes out (R204, R209): `slots` are the free block slots of the logical lanes with the pad times of their
first payload symbols, in time order. The waiting trigger whose slot comes first is sent, the lower TRIG_ID on a tie. -/
def Device.triggerTx (d : Device) (p : Nat) (slots : List (Nat × TT)) : Device :=
  if !d.vxlUp p ∨ !d.hostRole p ∨ d.boothDown p then d
  else
    let wants := (d.prtx p).trigs.filterMap (fun g => (d.bestSlot p g slots).map (fun s => (g, s)))
    let best := wants.foldl (fun (a : Option (TrigOut × (Nat × TT))) w => match a with
      | none => some w
      | some b =>
        if ttDiff w.2.2 b.2.2 < 0 ∨ (w.2.2 = b.2.2 ∧ w.1.trigId < b.1.trigId) then some w else some b) none
    match best with
    | none => d
    | some (g, s) =>
      let off := ttDiff (d.sendPoint p g s.1) s.2
      let d := d.setPrt p { d.prtx p with trigs := (d.prtx p).trigs.erase g }
      if off < 0 then
        (((d.setFlag R.PP_EVT_TRIG_LATE [p] true).markLate g).putBlock p s.1 true (g.block 0))
      else d.putBlock p s.1 true (g.block ((off.toNat + 512) / 1024))

/-! ### Echoes and calibration -/

/-- An ECHO_REQ goes out on a logical lane (R205, R209): ignored while one is under way, and in ROLE 1. -/
def Device.echoGo (d : Device) (p lane : Nat) (t1 : TT) (own : Bool) : Device :=
  if (d.prtx p).echo.isSome ∨ !d.hostRole p ∨ !modeVxl (d.pmode p) ∨ d.boothDown p then d
  else
    let x := d.prtx p
    let d := d.setPrt p { x with echo := some { lane := lane, id := x.echoId, t1 := t1, own := own }
                                 echoId := (x.echoId + 1) % 65536 }
    let d := (d.put R.PP_VXL_ECHO_LANE [p] lane).setFlag R.PP_VXL_ECHO_BUSY [p] true
    let d := if own then d.setFlag R.PP_VXL_ECHO_DONE [p] false else d
    d.putBlock p lane true (ctrlBlock 0x66 (layout [(1, lane), (2, x.echoId)]))

/-- The delays of a calibration: mean and spread of a lane's rounds, each round in twice 1/64 ns. -/
def CalX.ofLane (c : CalX) (l : Nat) : List Int := (c.results.filter (fun r => decide (r.1 = l))).map (·.2)

/-- D of a lane: the mean of its rounds. -/
def CalX.mean (c : CalX) (l : Nat) : Nat :=
  let rs := c.ofLane l
  (rs.sum / (2 * max 1 rs.length : Nat)).toNat

/-- Largest less smallest D of a lane. -/
def CalX.spreadOf (c : CalX) (l : Nat) : Nat :=
  match c.ofLane l with
  | [] => 0
  | r :: rs => ((rs.foldl max r - rs.foldl min r) / 2).toNat

/-- A calibration goes on to its next echo, or ends: D is written and VXL_CALIBRATE answered. -/
def Device.calNext (d : Device) (p : Nat) : Device :=
  match (d.prtx p).cal with
  | none => d
  | some c =>
    match c.todo with
    | l :: _ => d.echoGo p l d.tt true
    | [] =>
      let ls := List.range (modeLanes (d.pmode p))
      let d := ls.foldl (fun d l => d.put R.PP_VXL_DLY_DELAY [p, l] (c.mean l)) d
      let d := d.setPrt p { d.prtx p with cal := none, calibrated := d.tt }
      d.finish 0x0505 [p] 0 (layout ((List.range 4).map (fun l => (4, if l < ls.length then c.mean l else 0))
        ++ [(4, (ls.map c.spreadOf).foldl max 0)]))

/-- A calibration's echo found no answer: VXL_CALIBRATE answers REMOTE_TIMEOUT. -/
def Device.calFail (d : Device) (p : Nat) : Device :=
  (d.setPrt p { d.prtx p with cal := none, calibrated := d.tt }).finish 0x0505 [p] 0x0512 []

/-- The echo under way is over. -/
def Device.echoOver (d : Device) (p turn : Nat) : Device :=
  let d := d.setPrt p { d.prtx p with echo := none }
  let d := (d.put R.PP_VXL_ECHO_TURNAROUND [p] turn).setFlag R.PP_VXL_ECHO_BUSY [p] false
  d.setFlag R.PP_VXL_ECHO_DONE [p] true

/-- An ECHO_RSP arrives on a logical lane (R205): its first payload symbol was at the pad at `t4`. -/
def Device.echoRsp (d : Device) (p lane : Nat) (b : List Byte) (t4 : TT) : Device :=
  d.onBlock p 0x78 b (fun d =>
    match (d.prtx p).echo with
    | none => d
    | some e =>
      if !d.up p ∨ e.lane ≠ lane ∨ fieldAt b 1 1 ≠ lane ∨ fieldAt b 2 2 ≠ e.id then d
      else
        let rtt := ((t4 - e.t1) >>> 10).toNat % 2 ^ 32
        let turn := fieldAt b 4 4
        let d := (d.echoOver p turn).put R.PP_VXL_ECHO_RTT_RTT [p] rtt
        match (d.prtx p).cal with
        | none => d
        | some c =>
          if e.own then
            let c := { c with todo := c.todo.drop 1, results := c.results ++ [(lane, (rtt : Int) - (turn : Int))] }
            (d.setPrt p { d.prtx p with cal := some c }).calNext p
          else d.calNext p)

/-- 10 µs without an ECHO_RSP (R205). -/
def Device.echoTimeout (d : Device) (p : Nat) : Device :=
  match (d.prtx p).echo with
  | none => d
  | some e =>
    if ttDiff d.tt e.t1 < 10000 * 65536 then d
    else
      let d := d.echoOver p 0xFFFFFFFF
      if e.own then d.calFail p else d.calNext p

/-- An ECHO_REQ arrives in ROLE 1 (R205): the response's first payload symbol left the pad at `tOut`. -/
def Device.echoReq (d : Device) (p lane : Nat) (b : List Byte) (tIn tOut : TT) : Device :=
  d.onBlock p 0x66 b (fun d =>
    if !d.up p ∨ d.hostRole p ∨ d.boothDown p then d
    else d.putBlock p lane true (ctrlBlock 0x78 (layout [(1, fieldAt b 1 1), (2, fieldAt b 2 2), (4, ((tOut - tIn) >>> 10).toNat)])))

/-- A calibration of so many rounds over every lane starts. -/
def Device.calStart (d : Device) (p rounds : Nat) (periodic : Bool) : Device :=
  let lanes := List.range (modeLanes (d.pmode p))
  let todo := (List.range rounds).flatMap (fun _ => lanes)
  (d.setPrt p { d.prtx p with cal := some { todo := todo, periodic := periodic } }).calNext p

/-- Firmware repeats a 4-round calibration of an UP port every second (R205). -/
def Device.calPeriodic (d : Device) (p : Nat) : Device :=
  if d.ready ∧ d.vxlUp p ∧ d.hostRole p ∧ (d.prtx p).cal.isNone ∧ (1000000000 * 65536 : Int) ≤ ttDiff d.tt (d.prtx p).calibrated then
    d.calStart p 4 true
  else d

/-! ### The control channel -/

/-- PP_CC_STAT and PP_CC_RX show the control channel's queues. -/
def Device.showCc (d : Device) (p : Nat) : Device :=
  let x := d.prtx p
  let d := (d.put R.PP_CC_STAT_TX_FREE [p] (16 - x.ccTx.length)).put R.PP_CC_STAT_RX_COUNT [p] x.ccRx.length
  (List.range 4).foldl (fun d k => d.wr R.PP_CC_RX [p, k] (BitVec.ofNat 64 (fieldAt (x.ccRx.headD []) (8 * k) 8))) d

/-- Blocks leave while the port is UP, at most 8 in one superframe (R206). -/
def Device.ccDrain (d : Device) (p : Nat) : Device :=
  let x := d.prtx p
  if !d.vxlUp p ∨ d.boothDown p ∨ x.ccTx = [] then d
  else
    let n := min (8 - x.ccSent) x.ccTx.length
    let d := d.setPrt p { x with ccTx := x.ccTx.drop n, ccSent := x.ccSent + n }
    ((x.ccTx.take n).foldl (fun d b => d.dealBlock p true b) d).showCc p

/-- The skew registers of a port's lanes. -/
def inSkew (p a : Nat) : Bool := (List.range 4).any (fun l => decide (a = R.PAL_SKEW.addr [p, l]))

/-- A superframe begins on every lane (R192): a changed skew applies (R285), LINK_INFO goes out in HELLO (R202), and eight CTRL
blocks may go again (R206). -/
def Device.superBegin (d : Device) (p : Nat) (t : TT) (n : Nat) : Device :=
  let d := d.setPrt p { d.prtx p with superAt := some t, superNo := n % 2 ^ 32, ccSent := 0 }
  let d := d.settleAt t (inSkew p)
  let d := if d.pstate p = 3 ∧ !d.boothDown p then d.dealBlock p true (d.linkInfo p) else d
  d.ccDrain p

/-- Superframes follow one another while a lane of the enabled port is in DATA (R192, R202). -/
def Device.superTick (d : Device) (p : Nat) : Device :=
  let x := d.prtx p
  if !modeVxl (d.pmode p) then d
  else if !d.flag R.PP_CTL_ENABLE [p] ∨ !(d.portLanes p).any (fun l => decide (d.trainState l = 4)) then
    (if x.superAt.isNone then d else d.setPrt p { x with superAt := none })
  else match x.superAt with
    | none => d.superBegin p d.tt 0
    | some t =>
      let len := wordsTime 5 2048
      if ttDiff d.tt t < (len : Int) then d else d.superBegin p (t + BitVec.ofNat 64 len) (x.superNo + 1)

/-- The time between alignment markers of 100GBASE-R: 16,384 blocks of each of 20 PCS lanes at 103.125 Gbit/s, in 1/65,536 ns (log
entry 80). -/
def alignPeriod : Nat := 2097152 * 65536 / 10

/-- A changed skew applies at the next alignment marker of 100GBASE-R; single-lane modes ignore the field (R285). -/
def Device.skewTick (d : Device) (p : Nat) : Device :=
  let x := d.prtx p
  if modeVxl (d.pmode p) then d
  else if d.pmode p ≠ 5 ∨ !d.up p then
    let d := if x.superAt.isNone then d else d.setPrt p { x with superAt := none }
    if d.ctl.pend.any (fun q => inSkew p q.write.addr) then d.settleAt d.tt (inSkew p) else d
  else match x.superAt with
    | none => (d.setPrt p { x with superAt := some d.tt }).settleAt d.tt (inSkew p)
    | some t =>
      if ttDiff d.tt t < (alignPeriod : Int) then d
      else
        let t := t + BitVec.ofNat 64 alignPeriod
        (d.setPrt p { x with superAt := some t, superNo := (x.superNo + 1) % 2 ^ 32 }).settleAt t (inSkew p)

/-- A block is queued; one that finds the 16 places taken is lost (log entry 32). -/
def Device.ccQueue (d : Device) (p : Nat) (b : List Byte) : Device :=
  let x := d.prtx p
  if 16 ≤ x.ccTx.length then d else ((d.setPrt p { x with ccTx := x.ccTx ++ [b] }).showCc p).ccDrain p

/-- A CTRL block's body (R206). -/
def ctrlBody (tag op len status addr : Nat) (data : List Byte) : List Byte :=
  layout [(1, tag + 16 * op), (1, len), (1, status), (8, addr)] ++ fit 16 data

/-- A write of PP_CC_TX3 queues the block that the four registers hold (R206). -/
def Device.ccTxWrite (d : Device) (p : Nat) (v : Word) : Device :=
  let d := d.wr R.PP_CC_TX [p, 3] v
  let bs := (List.range 4).flatMap (fun k => leBytes 8 (d.rd R.PP_CC_TX [p, k]).toNat)
  d.ccQueue p (ctrlBlock 0x55 (bs.drop 1))

/-- The lowest TAG no request holds. -/
def PortX.freeTag (x : PortX) : Option Nat := (List.range 16).find? (fun t => !x.ccReqs.any (fun r => decide (r.tag = t)))

/-- A request that waits for a TAG takes one and goes out (R206). -/
def Device.ccIssue (d : Device) (p : Nat) : Device :=
  match (d.prtx p).ccReqs.find? (fun r => decide (r.tag = 255)), (d.prtx p).freeTag with
  | some r, some t =>
    if 16 ≤ (d.prtx p).ccTx.length then d
    else
      let body := BitVec.ofNat 8 (fieldAt r.block 0 1 / 16 * 16 + t) :: r.block.drop 1
      let r' := { r with tag := t, block := body, sent := d.tt }
      let d := d.setPrt p { d.prtx p with ccReqs := (d.prtx p).ccReqs.map (fun x => if x.serial = r.serial then r' else x) }
      d.ccQueue p (ctrlBlock 0x55 body)
  | _, _ => d

/-- Firmware makes a request (R206). -/
def Device.ccRequest (d : Device) (p op len addr purpose : Nat) (data : List Byte) : Device :=
  let x := d.prtx p
  let r : CcReq := { tag := 255, block := ctrlBody 0 op len 0 addr data, sent := d.tt, tries := 0, purpose := purpose
                     serial := x.ccSerial }
  (d.setPrt p { x with ccReqs := x.ccReqs ++ [r], ccSerial := x.ccSerial + 1 }).ccIssue p

/-- The final response of PORT_LINK. -/
def Device.linkReply (d : Device) (p : Nat) : List Byte :=
  layout [(1, d.pstate p), (1, d.get R.PP_STAT_FAIL [p]), (1, d.get R.PP_STAT_SKEW [p]), (1, d.get R.PP_VXL_INFO_LANES [p]),
    (4, d.get R.PP_VXL_INFO_TRIG_LAT [p]), (4, (d.prtx p).caps)]

/-- PORT_LINK ends. -/
def Device.linkDone (d : Device) (p status : Nat) : Device :=
  (d.setPrt p { d.prtx p with link := none }).finish 0x0503 [p] status (d.linkReply p)

/-- The next piece of the camera's description, or the end of PORT_LINK. -/
def Device.descNext (d : Device) (p : Nat) (k : LinkX) : Device :=
  if k.descLeft = 0 then d.linkDone p 0
  else
    let n := min 16 k.descLeft
    let d := d.setPrt p { d.prtx p with link := some { k with phase := 4, descAddr := k.descAddr + 16, descLeft := k.descLeft - n } }
    d.ccRequest p 1 (ceilDiv n 4) k.descAddr 3 []

/-- A request of firmware's is answered, or has timed out (`none`). -/
def Device.ccDone (d : Device) (p : Nat) (r : CcReq) (ans : Option (Nat × List Byte)) : Device :=
  let d := d.setPrt p { d.prtx p with ccReqs := (d.prtx p).ccReqs.filter (fun x => decide (x.serial ≠ r.serial)) }
  let d := d.ccIssue p
  match r.purpose, ans, (d.prtx p).link with
  | 0, some (st, data), _ =>
    d.finish 0x0506 [p, r.serial] (if st = 0 then 0 else 0x0511) (layout [(1, st), (7, 0)] ++ fit 16 data)
  | 0, none, _ => d.finish 0x0506 [p, r.serial] 0x0512 []
  | _, _, none => d
  | 1, some (0, data), some k =>
    let d := d.setPrt p { d.prtx p with caps := fieldAt data 0 4, link := some { k with phase := 3 } }
    d.ccRequest p 1 3 0x100 2 []
  | 2, some (0, data), some k => d.descNext p { k with descAddr := fieldAt data 0 8, descLeft := fieldAt data 8 4 }
  | 3, some (0, _), some k => d.descNext p k
  | _, _, some _ => d.linkDone p 0

/-- A byte of the bootstrap registers of R207 in ROLE 1. -/
def bootByte (a : Nat) : Byte := if a < 4 then BitVec.ofNat 8 (0x00010000 / 256 ^ a) else Config.bootstrapByte a

/-- The bootstrap registers hold the address. -/
def inBootstrap (a : Nat) : Bool := decide (a < 8 ∨ (0x10 ≤ a ∧ a < 0xB0) ∨ (0x100 ≤ a ∧ a < 0x10C))

/-- The answer to a request (R206, R207): the bootstrap registers are read-only, and nothing else is there. -/
def ccAnswer (op len addr : Nat) : Nat × List Byte :=
  let n := 4 * len
  let ok := decide (op = 1 ∧ addr % 4 = 0 ∧ 1 ≤ len ∧ len ≤ 4) && (List.range n).all (fun i => inBootstrap (addr + i))
  if ok then (0, (List.range n).map (fun i => bootByte (addr + i))) else (1, [])

/-- Firmware takes one received CTRL block (R206): a response is matched, a request answered, an EVENT acknowledged and
put into Q1. -/
def Device.ccHandle (d : Device) (p : Nat) (b : List Byte) : Device :=
  let f := fieldAt b
  let tag := f 1 1 % 16
  let op := f 1 1 / 16
  let addr := f 4 8
  if op = 3 ∨ op = 4 then
    match (d.prtx p).ccReqs.find? (fun r => decide (r.tag = tag ∧ fieldAt r.block 0 1 / 16 + 2 = op)) with
    | some r => d.ccDone p r (some (f 3 1, (b.drop 12).take 16))
    | none => d
  else if op = 1 ∨ op = 2 ∨ (op = 5 ∧ d.hostRole p) then
    match (d.prtx p).ccKept.find? (fun k => decide (k.1 = tag ∧ k.2.1 = op ∧ k.2.2.1 = addr)) with
    | some k => d.ccQueue p k.2.2.2
    | none =>
      let a := if op = 5 then (0, []) else if d.hostRole p then (1, []) else ccAnswer op (f 2 1) addr
      let rsp := ctrlBlock 0x55 (ctrlBody tag (if op = 5 then 6 else op + 2) (f 2 1) a.1 addr a.2)
      let x := d.prtx p
      let d := d.setPrt p { x with ccKept := (tag, op, addr, rsp) :: x.ccKept.filter (fun k => decide (k.1 ≠ tag)) }
      let d := d.ccQueue p rsp
      if op = 5 then d.appendEvent 1 2 p (leBytes 8 addr ++ (b.drop 12).take 16) else d
  else d

/-- A read of PP_CC_RX3 pops the head block (R206); firmware that is up takes it. -/
def Device.ccPop (d : Device) (p : Nat) : Device :=
  match (d.prtx p).ccRx with
  | [] => d
  | b :: rest =>
    let d := (d.setPrt p { d.prtx p with ccRx := rest }).showCc p
    if d.ready then d.ccHandle p b else d

/-- A CTRL block arrives (R206): queued in PP_CC_RX, and taken by firmware that is up. -/
def Device.ccRx (d : Device) (p : Nat) (b : List Byte) : Device :=
  d.onBlock p 0x55 b (fun d =>
    let x := d.prtx p
    if !d.up p ∨ 16 ≤ x.ccRx.length then d
    else
      let d := (d.setPrt p { x with ccRx := x.ccRx ++ [fit 32 b] }).showCc p
      let d := d.setFlag R.PP_EVT_CC_RX [p] true
      if d.ready then (List.range (x.ccRx.length + 1)).foldl (fun d _ => d.ccPop p) d else d)

/-- 2 ms without a response (R206): the request goes out again, or times out after three. -/
def Device.ccRetry (d : Device) (p tag : Nat) : Device :=
  match (d.prtx p).ccReqs.find? (fun r => decide (r.tag = tag) && decide (tag < 16)) with
  | none => d
  | some r =>
    if ttDiff d.tt r.sent < 2000000 * 65536 ∨ !d.ready then d
    else if 3 ≤ r.tries then d.ccDone p r none
    else
      let r' := { r with tries := r.tries + 1, sent := d.tt }
      let d := d.setPrt p { d.prtx p with ccReqs := (d.prtx p).ccReqs.map (fun x => if x.serial = r.serial then r' else x) }
      d.ccQueue p (ctrlBlock 0x55 r.block)

/-! ### PORT_LINK -/

/-- Firmware's marker search on a lane for PORT_LINK (R193). -/
def Device.linkSearch (d : Device) (l : Nat) : Device :=
  d.startSearch l 3 (max 1 (d.get R.LN_ALIGN_CTL_LOSE (lx l))) markerPat.toNat (2 ^ 64 - 1) 2048 10000

/-- PORT_LINK goes on as far as the port has come (R202, R196). -/
def Device.linkPoll (d : Device) (p : Nat) : Device :=
  match (d.prtx p).link with
  | none => d
  | some k =>
    let ls := d.portLanes p
    let vxl := modeVxl (d.pmode p)
    if k.phase = 0 ∧ vxl then
      if ls.any (fun l => decide (d.trainState l = 5)) then d.linkDone p 0x0510
      else if ls.all (fun l => decide (d.trainState l = 4)) then
        if !d.lanesLocked p then d.linkDone p 0x0510
        else
          let d := ls.foldl (fun d l => d.linkSearch l) d
          d.setPrt p { d.prtx p with link := some { k with phase := 1 } }
      else d
    else if k.phase ≤ 1 then
      let lostLane := vxl && ls.any (fun l => (d.lane l).search.isNone && !d.flag R.LN_ALIGN_STAT_FOUND (lx l))
      if d.pstate p = 5 ∨ (lostLane ∧ d.pstate p ≠ 4) then d.linkDone p 0x0510
      else if d.pstate p ≠ 4 then d
      else if vxl ∧ d.hostRole p then
        let d := d.setPrt p { d.prtx p with link := some { k with phase := 2 } }
        d.ccRequest p 1 1 4 1 []
      else d.linkDone p 0
    else d

/-- LIMIT_MS has passed with the port short of UP. -/
def Device.linkTimeLimit (d : Device) (p : Nat) : Device :=
  match (d.prtx p).link with
  | none => d
  | some k =>
    if !d.up p ∧ (k.limitMs * 1000000 * 65536 : Nat) ≤ ttDiff d.tt k.start then d.linkDone p 0x0510 else d

/-- What a lane event leads to at its port: link state, then PORT_LINK. -/
def Device.afterLink (d : Device) (p : Nat) : Device := (d.linkEval p).linkPoll p

/-- The same for a lane. -/
def Device.afterLane (d : Device) (l : Nat) : Device := d.afterLink (d.portOfLane l)

/-- RECOVER and reset of the port protocol unit (R210, R211): its registers and what no register shows. -/
def Device.protocolReset (d : Device) (p : Nat) : Device :=
  let lo := (p + 1) * 0x1000000 + 0x300000
  let d := { d with regs := d.regs.filter (fun e => !(decide (lo ≤ e.1 ∧ e.1 < lo + 0x100000))) }
  d.setPrt p { isOpen := (d.prtx p).isOpen, downSince := d.tt, slow := [] }

end Sys2Proof.Machine
end

