-- ==== Sys2Proof/Machine/Packets.lean ====
section
/-! DEFINITION. Ethernet frames as the MAC and the data path parse them (R178 to R183), and what leaves a port. -/

namespace Sys2Proof.Machine

/-- The big-endian field of `n` bytes at an offset; absent bytes read 0. -/
def beAt (bs : List Byte) (off n : Nat) : Nat := ofBE (fit n (bs.drop off))

/-- A frame after the MAC: destination, VLAN tag control, Ethertype and what follows it. -/
structure EthPkt where
  dst : Nat
  vlan : Option Nat
  etype : Nat
  body : List Byte
  deriving DecidableEq, Repr

/-- Parse a frame whose FCS has been taken off; a second IEEE 802.1Q tag is not accepted (R179). -/
def parseEth (f : List Byte) : Option EthPkt :=
  let t := beAt f 12 2
  if t = 0x8100 then
    let u := beAt f 16 2
    if u = 0x8100 then none else some { dst := beAt f 0 6, vlan := some (beAt f 14 2), etype := u, body := f.drop 18 }
  else some { dst := beAt f 0 6, vlan := none, etype := t, body := f.drop 14 }

/-- A UDP datagram. -/
structure UdpPkt where
  v6 : Bool
  src : Nat
  dst : Nat
  sport : Nat
  dport : Nat
  data : List Byte
  deriving DecidableEq, Repr

/-- What the IP layer makes of a packet (R180). -/
inductive IpResult where
  | error
  | slow
  | udp (u : UdpPkt)
  deriving DecidableEq, Repr

/-- The sum of 16-bit big-endian words. -/
def wordSum : List Byte → Nat
  | a :: b :: bs => a.toNat * 256 + b.toNat + wordSum bs
  | [a] => a.toNat * 256
  | [] => 0

/-- A ones'-complement sum that includes its check sum is all ones. -/
def sumGood (s : Nat) : Bool := decide (s % 65535 = 0 ∧ 0 < s)

/-- The UDP layer: the check sum is verified when it is not zero under IPv4, and always under IPv6 (R180). -/
def parseUdp (v6 : Bool) (src dst : Nat) (pseudo : Nat) (u : List Byte) : IpResult :=
  let len := beAt u 4 2
  if u.length < 8 ∨ len < 8 ∨ u.length < len then .error
  else
    let u := u.take len
    let ck := beAt u 6 2
    if (v6 ∨ ck ≠ 0) ∧ (ck = 0 ∨ !sumGood (pseudo + 17 + len + wordSum u)) then .error
    else .udp { v6 := v6, src := src, dst := dst, sport := beAt u 0 2, dport := beAt u 2 2, data := u.drop 8 }

/-- IPv4 (R180): options are accepted; fragments and other protocols go the slow path. -/
def parseIp4 (b : List Byte) : IpResult :=
  let ihl := bits (beAt b 0 1) 0 4 * 4
  let total := beAt b 2 2
  if beAt b 0 1 / 16 ≠ 4 ∨ ihl < 20 ∨ b.length < ihl ∨ b.length < total ∨ total < ihl ∨ !sumGood (wordSum (b.take ihl)) then .error
  else if beAt b 6 2 % 0x4000 ≠ 0 then .slow
  else if beAt b 9 1 ≠ 17 then .slow
  else parseUdp false (beAt b 12 4) (beAt b 16 4) (wordSum ((b.drop 12).take 8)) ((b.take total).drop ihl)

/-- IPv6 (R180): extension headers and other protocols go the slow path. -/
def parseIp6 (b : List Byte) : IpResult :=
  let len := beAt b 4 2
  if beAt b 0 1 / 16 ≠ 6 ∨ b.length < 40 + len then .error
  else if beAt b 6 1 ≠ 17 then .slow
  else parseUdp true (beAt b 8 16) (beAt b 24 16) (wordSum ((b.drop 8).take 32)) ((b.drop 40).take len)

/-- The network layer of a frame. -/
def EthPkt.ip (e : EthPkt) : IpResult :=
  if e.etype = 0x0800 then parseIp4 e.body else if e.etype = 0x86DD then parseIp6 e.body else .slow

/-- The destination address of a stream entry as a number; an IPv4 address in bits [31:0] (log entry 35). -/
def Device.smDst (d : Device) (p k : Nat) : Nat :=
  if d.flag R.PP_SM_CTL_IPV6 [p, k] then (d.rd R.PP_SM_DST_HI [p, k]).toNat * 2 ^ 64 + (d.rd R.PP_SM_DST_LO [p, k]).toNat
  else (d.rd R.PP_SM_DST_LO [p, k]).toNat % 2 ^ 32

/-- The source address of a stream entry. -/
def Device.smSrc (d : Device) (p k : Nat) : Nat :=
  if d.flag R.PP_SM_CTL_IPV6 [p, k] then (d.rd R.PP_SM_SRC_HI [p, k]).toNat * 2 ^ 64 + (d.rd R.PP_SM_SRC_LO [p, k]).toNat
  else (d.rd R.PP_SM_SRC_LO [p, k]).toNat % 2 ^ 32

/-- The multicast MAC of an IP destination, if it is a multicast group. -/
def multicastMac (v6 : Bool) (a : Nat) : Option Nat :=
  if v6 then (if a / 2 ^ 120 = 0xFF then some (0x333300000000 + a % 2 ^ 32) else none)
  else if a / 2 ^ 28 = 0xE then some (0x01005E000000 + a % 2 ^ 23) else none

/-- The MAC accepts the destination (R179). -/
def Device.macAccepts (d : Device) (p mac : Nat) : Bool :=
  decide (mac = d.get R.PP_MAC_MAC [p]) || decide (mac = 2 ^ 48 - 1)
    || (List.range 64).any (fun k => d.flag R.PP_SM_CTL_VALID [p, k]
        && decide (multicastMac (d.flag R.PP_SM_CTL_IPV6 [p, k]) (d.smDst p k) = some mac))

/-- Entry `k` matches a datagram (R183). -/
def Device.smMatches (d : Device) (p k : Nat) (vlan : Option Nat) (u : UdpPkt) : Bool :=
  d.flag R.PP_SM_CTL_VALID [p, k]
    && decide (d.flag R.PP_SM_CTL_IPV6 [p, k] = u.v6) && decide (d.smDst p k = u.dst)
    && decide (d.get R.PP_SM_CTL_UDP_DST [p, k] = u.dport)
    && (!d.flag R.PP_SM_CTL_SRC_MATCH [p, k] || decide (d.smSrc p k = u.src))
    && (!d.flag R.PP_SM_CTL_VLAN_MATCH [p, k] || decide (vlan.map (fun v => v % 4096) = some (d.get R.PP_SM_CTL_VID [p, k])))

/-- The lowest entry that matches (R183). -/
def Device.classify (d : Device) (p : Nat) (vlan : Option Nat) (u : UdpPkt) : Option Nat :=
  (List.range 64).find? (fun k => d.smMatches p k vlan u)

/-! ### The slow path -/

/-- A packet enters the slow path (R181): 256 places, 200,000 packets in a second (counted in seconds from the first
packet, log entry 37). -/
def Device.slowEnqueue (d : Device) (p : Nat) (f : List Byte) (stamp : Option TT) : Device :=
  let x := d.prtx p
  let fresh := decide ((1000000000 * 65536 : Int) ≤ ttDiff d.tt x.slowSince)
  let n := if fresh then 0 else x.slowCount
  if 200000 ≤ n ∨ 256 ≤ x.slow.length then (d.bump R.PP_SLOW_DROP [p]).setFlag R.PP_EVT_SLOW_DROP [p] true
  else d.setPrt p { x with slow := x.slow ++ [(f, stamp)], slowCount := n + 1, slowSince := if fresh then d.tt else x.slowSince }

/-! ### PTP event messages -/

/-- The PTP message in a packet: its encapsulation's ENCAPS bit and the message (R182). -/
def ptpIn (e : EthPkt) : Option (Nat × List Byte) :=
  if e.etype = 0x88F7 then some (0, e.body)
  else
    match e.ip with
    | .udp u => if u.dport = 319 ∨ u.dport = 320 then some (if u.v6 then 2 else 1, u.data) else none
    | _ => none

/-- messageType, and whether it is one of the four event messages (R182). -/
def ptpType (m : List Byte) : Nat := beAt m 0 1 % 16
def ptpEvent (m : List Byte) : Bool := decide (ptpType m ≤ 3)

/-- The transmit stamp FIFO takes an entry, or loses it (R182, R209). -/
def Device.txStamp (d : Device) (p : Nat) (m : List Byte) (t : TT) : Device :=
  let x := d.prtx p
  if 16 ≤ x.txts.length then d.setFlag R.PP_EVT_TXTS_OVF [p] true
  else d.setPrt p { x with txts := x.txts ++ [(beAt m 30 2, ptpType m, t)] }

/-- PP_TXTS shows the head entry. -/
def Device.showTxts (d : Device) (p : Nat) : Device :=
  match (d.prtx p).txts with
  | [] => d.wr R.PP_TXTS [p] 0
  | (s, m, _) :: _ => ((d.put R.PP_TXTS_SEQ_ID [p] s).put R.PP_TXTS_MSGTYPE [p] m).setFlag R.PP_TXTS_VALID [p] true

/-- A read of PP_TXTS pops the head entry, and PP_TXTS_TIME shows its stamp (R182). -/
def Device.txtsPop (d : Device) (p : Nat) : Device :=
  match (d.prtx p).txts with
  | [] => d
  | (_, _, t) :: rest => ((d.setPrt p { d.prtx p with txts := rest }).wr R.PP_TXTS_TIME [p] t).showTxts p

/-- A PTP time stamp (10 bytes) of a wall time in 1/65,536 ns. -/
def ptpTime (w : Int) : List Byte :=
  let ns := w / 65536
  beBytes 6 (ns / 1000000000).toNat ++ beBytes 4 (ns % 1000000000).toNat

/-- Where the PTP message lies in a frame: after the headers of its encapsulation. -/
def ptpOffset (f : List Byte) : Nat :=
  let l2 := if beAt f 12 2 = 0x8100 then 18 else 14
  let t := beAt f (l2 - 2) 2
  if t = 0x0800 then l2 + beAt f l2 1 % 16 * 4 + 8 else if t = 0x86DD then l2 + 48 else l2

/-- A frame as it goes to the wire (R179): preamble, VLAN tag, padding and FCS (IEEE 802.3's values, log entry 117). -/
def Device.wireFrame (d : Device) (p : Nat) (f : List Byte) : List Byte :=
  let tag := if d.flag R.PP_VLAN_TAG_EN [p] then
      beBytes 2 0x8100 ++ beBytes 2 (d.get R.PP_VLAN_PCP [p] * 8192 + d.get R.PP_VLAN_VID [p]) else []
  let g := f.take 12 ++ tag ++ f.drop 12
  let g := g ++ zeros (60 - g.length)
  List.replicate 7 0x55 ++ [0xD5] ++ g ++ leBytes 4 (crc32 g)

/-- A packet leaves the port (R179, R182): a PTP event message is stamped at `t`; a one-step Sync carries its own time. -/
def Device.packetTx (d : Device) (p : Nat) (f : List Byte) (t : TT) : Device :=
  if !modeEth (d.pmode p) ∨ !d.up p ∨ d.boothDown p then d
  else
    let msg := match parseEth f with
      | some e => ptpIn e
      | none => none
    let d := d.count R.PP_CNT_TX_PKTS [p]
    match msg with
    | none => d.putWire p 0 (d.wireFrame p f)
    | some (enc, m) =>
      let on := bit (d.get R.PP_PTP_ENCAPS [p]) enc && ptpEvent m
      let one := on && d.flag R.PP_PTP_ONE_STEP_EN [p] && decide (ptpType m = 0 ∧ enc ≠ 2)
      let o := ptpOffset f
      let f := if one then
          let g := patch f (o + 34) (ptpTime (d.wallAt t))
          if enc = 1 then patch g (o - 2) (zeros 2) else g
        else f
      let d := d.putWire p 0 (d.wireFrame p f)
      if on ∧ d.flag R.PP_PTP_TX_STAMP_EN [p] then (d.txStamp p m t).showTxts p else d

end Sys2Proof.Machine
end

