-- ==== Sys2Proof/Machine/TimeBase.lean ====
section
/-! DEFINITION. The time base (R322 to R338): the tick, INCR, steps, slews, snapshots, the timing pins, PTM,
reference loss. -/

namespace Sys2Proof.Machine

/-- One second in 2^-32 ns. -/
def secUnits : Nat := 1000000000 * 2 ^ 32

/-- Whole nanoseconds of wall time within the second, and its 1/65,536 ns fraction (R325). -/
def Device.wtNs (d : Device) : Nat := d.tim.time.wtSub / 2 ^ 32
def Device.wtFrac (d : Device) : Nat := d.tim.time.wtSub / 65536 % 65536

/-- Wall time in TT format, modulo 2^48 ns (R325). -/
def Device.wtAsTT (d : Device) : TT :=
  BitVec.ofNat 64 ((d.tim.time.wtSec * 1000000000 + d.wtNs) * 65536 + d.wtFrac)

/-- TB_TT and ALIGNED show what the accumulators hold (R322, R325). -/
def Device.showTime (d : Device) : Device :=
  (d.wr R.TB_TT [] d.tt).setFlag R.TB_STAT_ALIGNED [] (decide (d.wtAsTT = d.tt))

/-- The admitted range of INCR (R323). -/
def incrMin : Nat := 0x0000FFBE76C9
def incrMax : Nat := 0x000100418937

/-- TB_INCR is written: clamped, and CLAMPED marked (R323). -/
def Device.setIncr (d : Device) (v : Nat) : Device :=
  let d := d.wake 11
  let c := clamp incrMin incrMax v
  let d := d.put R.TB_INCR_INCR [] c
  if c = v then d else d.setFlag R.TB_STAT_CLAMPED [] true

/-- RATE as it acts, taken at GO: 1 to 4,294,967 (R328, R329). -/
def Device.slewRate (d : Device) : Nat := clamp 1 4294967 d.tim.time.slewRate

/-- What a running slew adds at the next tick, in 2^-32 ns; the final tick adds the remainder (R328). -/
def Device.slewPart (d : Device) : Int :=
  if d.tim.time.slewing then clampI (-(d.slewRate : Int)) d.slewRate d.tim.time.slewRem else 0

/-- What the next tick adds to TT (R322, R328). -/
def Device.ttPart (d : Device) : Nat :=
  ((d.get R.TB_INCR_INCR [] : Int) + (if d.tim.time.slewBoth then d.slewPart else 0)).toNat

/-- What the next tick adds to wall time. -/
def Device.wtPart (d : Device) : Nat := ((d.get R.TB_INCR_INCR [] : Int) + d.slewPart).toNat

/-- The next tick carries TT across the wrap (R324). -/
def Device.tickWraps (d : Device) : Bool := d.clockRuns && decide (2 ^ 80 ≤ d.tim.time.acc.toNat + d.ttPart)

/-- The next tick ends the running slew (R328). -/
def Device.tickEndsSlew (d : Device) : Bool :=
  d.clockRuns && d.tim.time.slewing && decide (d.slewPart = d.tim.time.slewRem)

/-- Wall time moves forward (R325). -/
def Device.advanceWall (d : Device) (n : Nat) : Device :=
  let s := d.tim.time.wtSub + n
  d.setTime { d.tim.time with wtSec := (d.tim.time.wtSec + s / secUnits) % 2 ^ 48, wtSub := s % secUnits }

/-- The final responses of TIME_SLEW carry the remainder (R328, R341). -/
def Device.slewReport (d : Device) : Device :=
  d.finish 0x0A02 [] 0 (leBytes 8 (d.rd R.TB_SLEW_REM []).toNat)

/-- The slew's share of a tick; it ends when nothing remains. -/
def Device.slewTick (d : Device) : Device :=
  if !d.tim.time.slewing then d
  else
    let rem := d.tim.time.slewRem - d.slewPart
    let d := (d.setTime { d.tim.time with slewRem := rem, slewing := decide (rem ≠ 0) }).showSlew
    if rem = 0 then d.slewReport else d

/-- PPS_OFFSET in 2^-32 ns (R334). -/
def Device.ppsOffset (d : Device) : Int := sgn 32 (d.get R.TP_WIDTH_PPS_OFFSET []) * 2 ^ 32

/-- The number of whole seconds that wall time less PPS_OFFSET has passed. -/
def Device.ppsIndex (d : Device) : Int :=
  ((d.tim.time.wtSec * secUnits + d.tim.time.wtSub : Nat) - d.ppsOffset) / (secUnits : Int)

/-- TIME_10M_OUT after wall time has moved forward by `n` (R334): a rising edge where the nanoseconds pass a
multiple of 100, and no interval below 50 ns. -/
def Device.m10Tick (d : Device) (before n : Nat) : Device :=
  let t := d.tim.time
  let half := 50 * 2 ^ 32
  if !d.flag R.TP_CTL_M10_OUT_EN [] then d.setTime { t with m10Out := false, m10Since := 2 * half }
  else
    let since := t.m10Since + n
    let past := t.wtSub % (2 * half)
    if t.m10Out then
      if half ≤ since then d.setTime { t with m10Out := false, m10Since := since - half }
      else d.setTime { t with m10Since := since }
    else if (before + n) / (2 * half) ≠ before / (2 * half) ∧ half + past ≤ since then
      d.setTime { t with m10Out := true, m10Since := past }
    else d.setTime { t with m10Since := since }

/-! ### Steps -/

/-- The pending step is due: at once, or at the first tick at or past AT (R326, R329). -/
def Device.stepDue (d : Device) : Bool :=
  match d.tim.time.step with
  | none => false
  | some s => match s.atTT with
    | none => true
    | some t => ttGe d.tt t

/-- Wall time moved by the signed count `a` of 1/65,536 ns; what it is where that goes below zero, the spec does not state (log
entry 123). -/
def Device.moveWall (d : Device) (a : Int) : Device :=
  let m : Int := (d.tim.time.wtSec * secUnits + d.tim.time.wtSub : Nat) + a * 65536
  let n := if m < 0 then Config.wallOutside m else m.toNat
  d.setTime { d.tim.time with wtSec := n / secUnits % 2 ^ 48, wtSub := n % secUnits }

/-- TT moved by `a`, in 1/65,536 ns; crossing the wrap moves ERA by one in the same direction (R326). -/
def Device.moveTT (d : Device) (a : Int) : Device :=
  let n : Int := (d.tim.time.acc.toNat : Int) + a * 65536
  let d := d.setTime { d.tim.time with acc := BitVec.ofInt 80 n }
  if n < 0 then d.put R.TB_ERA_ERA [] (d.get R.TB_ERA_ERA [] + 2 ^ 32 - 1)
  else if (2 ^ 80 : Int) ≤ n then d.put R.TB_ERA_ERA [] (d.get R.TB_ERA_ERA [] + 1)
  else d

/-- LOAD: wall time, and with BOTH the tick time and era it implies (R326). Nanoseconds of 10^9 or more are no wall time: the
spec does not state what they load (log entry 123). -/
def Device.loadTime (d : Device) (s : StepReq) : Device :=
  let sub := if s.ns ≤ 999999999 then s.ns * 2 ^ 32 + s.frac * 65536 else Config.wallOutside s.ns % secUnits
  let d := d.setTime { d.tim.time with wtSec := s.sec % 2 ^ 48, wtSub := sub }
  if s.both then
    let ns := s.sec * 1000000000 + s.ns
    (d.setTime { d.tim.time with acc := BitVec.ofNat 80 ((ns * 65536 + s.frac) * 65536) }).put R.TB_ERA_ERA [] (ns / 2 ^ 48)
  else d

/-- The step tick (R326): the time moves, TB_STEP_TT shows TT after it, BUSY clears. A TIME_STEP that waits for it
is answered. -/
def Device.stepApply (d : Device) : Device :=
  match d.tim.time.step with
  | none => d
  | some s =>
    if !d.stepDue then d
    else
      let d := if s.load then d.loadTime s
        else
          let d := d.moveWall s.amt
          if s.both then d.moveTT s.amt else d
      let d := (d.setTime { d.tim.time with step := none }).showTime
      let d := d.wr R.TB_STEP_TT [] d.tt
      let d := (d.setFlag R.TB_STEP_CTL_BUSY [] false).setFlag R.TB_STAT_STEP_PEND [] false
      let d := if d.tim.servo.state = 1 ∧ s.load then
          { d with tim := { d.tim with servo := { d.tim.servo with state := 2, samples := 0 } } } else d
      d.finish 0x0A01 [] 0 (layout [(8, d.tt.toNat), (4, d.get R.TB_ERA_ERA [])])

/-- GO of a step (R326, R329): ignored with CFG_BAD while one is pending, or for LOAD without AT. -/
def Device.stepGo (d : Device) : Device :=
  let load := d.flag R.TB_STEP_CTL_LOAD []
  let at_ := d.flag R.TB_STEP_CTL_AT []
  if d.tim.time.step.isSome ∨ (load ∧ !at_) then d.setFlag R.TB_STAT_CFG_BAD [] true
  else
    let s : StepReq := { load := load, both := d.flag R.TB_STEP_CTL_BOTH []
                         atTT := if at_ then some (d.rd R.TB_STEP_AT []) else none
                         amt := (d.rd R.TB_STEP_AMT []).toInt, sec := d.get R.TB_STEP_SEC_SEC []
                         ns := d.get R.TB_STEP_NS_NS [], frac := d.get R.TB_STEP_NS_FRAC [] }
    ((d.setTime { d.tim.time with step := some s }).setFlag R.TB_STEP_CTL_BUSY [] true).setFlag R.TB_STAT_STEP_PEND [] true

/-- One tick (R322 to R325, R328): TT and wall time move, the era counts a wrap, the slew falls, a step due applies
after the wrap (R329), and the timing outputs follow. Nothing moves before the PLL has locked (R338). -/
def Device.tick (d : Device) : Device :=
  if !d.clockRuns then d
  else
    let n := d.ttPart
    let w := d.wtPart
    let sub := d.tim.time.wtSub
    let p := d.ppsIndex
    let d := if d.tickWraps then d.put R.TB_ERA_ERA [] (d.get R.TB_ERA_ERA [] + 1) else d
    let d := d.setTime { d.tim.time with acc := d.tim.time.acc + BitVec.ofNat 80 n, ticks := d.tim.time.ticks + 1 }
    let d := d.advanceWall w
    let d := if p < d.ppsIndex ∧ d.flag R.TP_CTL_PPS_OUT_EN [] ∧ !d.tim.time.ppsOut then
        d.setTime { d.tim.time with ppsDue := true } else d
    let d := d.m10Tick sub w
    (d.slewTick.showTime).stepApply

/-- TT_WRAP: the tick that carries TT across the wrap (R324). -/
def Device.ttWrap (d : Device) : Device := if d.tickWraps then d.tick else d

/-- SLEW_DONE: the tick that adds a slew's remainder (R328). -/
def Device.slewDone (d : Device) : Device := if d.tickEndsSlew then d.tick else d

/-! ### Slews -/

/-- GO of a slew: a new amount, or one more on top of the remainder of a running one (R328, R329). -/
def Device.slewGo (d : Device) (amt : Int) (rate : Nat) (both : Bool) : Device :=
  let t := d.tim.time
  let rem := (if t.slewing then t.slewRem else 0) + amt * 65536
  let d := (d.put R.TB_SLEW_CTL_RATE [] rate).setFlag R.TB_SLEW_CTL_BOTH [] both
  let d := (d.setTime { d.tim.time with slewRem := rem, slewBoth := both, slewRate := rate, slewing := decide (rem ≠ 0) }).showSlew
  if rem = 0 then d.slewReport else d

/-- ABORT: the slew stops with its remainder left (R328); the commands that wait for it are answered. -/
def Device.slewAbort (d : Device) : Device := if d.tim.time.slewing then d.abortSlew.slewReport else d

/-! ### Snapshots -/

/-- A snapshot of TT, ERA and WT at one tick (R331). -/
def Device.snapshot (d : Device) : Device :=
  let d := d.wr R.TB_SNAP_TT [] d.tt
  let d := d.put R.TB_SNAP_ERA_ERA [] (d.get R.TB_ERA_ERA [])
  let d := d.put R.TB_SNAP_SEC_SEC [] d.tim.time.wtSec
  let d := d.put R.TB_SNAP_NS_NS [] d.wtNs
  let d := d.put R.TB_SNAP_NS_FRAC [] d.wtFrac
  d.setFlag R.TB_SNAP_CTL_DONE [] true

/-! ### Timing pins -/

/-- A stamp rounded to 1/128 ns (R330, R333). -/
def stamp128 (t : TT) : TT := ((t + 256) >>> 9) <<< 9

/-- An edge of TIME_PPS_IN, with the instant measured at the pad (R333). -/
def Device.ppsInEdge (d : Device) (t : TT) (rising : Bool) : Device :=
  if !d.flag R.TP_CTL_PPS_IN_EN [] ∨ rising = d.flag R.TP_CTL_PPS_IN_FALL [] then d
  else
    let s := stamp128 t
    let d := if d.flag R.TP_PPS_CNT_NEW [] then d.bump R.TP_PPS_CNT_OVERRUN [] else d
    let d := (d.wr R.TP_PPS_IN [] s).count R.TP_PPS_CNT_EDGES []
    let d := d.setFlag R.TP_PPS_CNT_NEW [] true
    let d := d.setTime { d.tim.time with m10Wait := d.flag R.TP_CTL_M10_IN_EN [] }
    d.fireStampIf R.TP_EV_PPS_IN_EV_EN R.TP_EV_PPS_IN_EV [] s

/-- A rising edge of TIME_10M_IN: the first at or after a PPS input edge is held (R333). -/
def Device.tenMhzInEdge (d : Device) (t : TT) : Device :=
  let s := stamp128 t
  if d.flag R.TP_CTL_M10_IN_EN [] ∧ d.tim.time.m10Wait ∧ ttGe s (d.rd R.TP_PPS_IN []) then
    (d.wr R.TP_10M_PHASE [] s).setTime { d.tim.time with m10Wait := false }
  else d

/-- PPS_WIDTH as it acts, 100 to 999,999,999 ns (R334, log entry 16). -/
def Device.ppsWidth (d : Device) : Nat := clamp 100 999999999 (d.get R.TP_WIDTH_PPS_WIDTH [])

/-- An edge of TIME_PPS_OUT that is due (R334): the rise at a second boundary, with its event, or the fall after the
width. -/
def Device.ppsOutEdge (d : Device) : Device :=
  let t := d.tim.time
  if t.ppsOut then
    if ttGe d.tt t.ppsFall then d.setTime { t with ppsOut := false, ppsDue := false } else d
  else if t.ppsDue then
    if !d.flag R.TP_CTL_PPS_OUT_EN [] then d.setTime { t with ppsDue := false }
    else
      let d := d.setTime { t with ppsOut := true, ppsDue := false, ppsFall := d.tt + ttNs d.ppsWidth }
      d.fireIf R.TP_EV_PPS_OUT_EV_EN R.TP_EV_PPS_OUT_EV []
  else d

/-! ### PTM -/

/-- A PTM dialogue starts, while the host has enabled PTM and none is under way (R335). -/
def Device.ptmStart (d : Device) : Device :=
  if d.hst.ptmEnable ∧ !d.tim.time.ptmBusy then d.setTime { d.tim.time with ptmBusy := true, ptmLast := d.tt } else d

/-- PERIOD_MS has passed since the last dialogue began, with AUTO set (R335). -/
def Device.ptmPeriod (d : Device) : Device :=
  let ms := max 1 (d.get R.PTM_CTL_PERIOD_MS [])
  if d.flag R.PTM_CTL_AUTO [] ∧ (ms * 1000000 * 65536 : Nat) ≤ ttDiff d.tt d.tim.time.ptmLast then d.ptmStart else d

/-- The dialogue ends: a record, or FAILED (R335). -/
def Device.ptmDone (d : Device) (good : Bool) (t1 : TT) (master : BitVec 64) (prop : BitVec 32) : Device :=
  if !d.tim.time.ptmBusy then d
  else
    let d := d.setTime { d.tim.time with ptmBusy := false }
    if good then
      let d := (d.wr R.PTM_T1 [] t1).wr R.PTM_MASTER [] master
      let d := d.put R.PTM_PROP_NS [] prop.toNat
      (d.setFlag R.PTM_STAT_VALID [] true).count R.PTM_STAT_SEQ []
    else d.setFlag R.PTM_STAT_FAILED [] true

/-! ### The reference -/

/-- TB_REFCLK stops or departs: REF_LOST, and time goes on (R336). -/
def Device.refLost (d : Device) : Device :=
  (d.setFlag R.TB_STAT_REF_LOST [] true).setFlag R.TB_STAT_REF_LOST_SEEN [] true

/-- The PLL has relocked (R336). -/
def Device.refRelock (d : Device) : Device := d.setFlag R.TB_STAT_REF_LOST [] false

end Sys2Proof.Machine
end

