-- ==== Sys2Proof/Machine/Servo.lean ====
section
/-! DEFINITION. The PTP instance and servo of firmware 3.x (R339, R340). -/

namespace Sys2Proof.Machine

/-- The servo. -/
def Device.servo (d : Device) : ServoX := d.tim.servo

/-- Replace it. -/
def Device.setServo (d : Device) (s : ServoX) : Device := { d with tim := { d.tim with servo := s } }

/-- The servo runs (R340): not OFF. -/
def Device.servoRuns (d : Device) : Bool := decide (d.servo.state ≠ 0)

/-- The servo may move time: never in RECOVERY mode (R340). -/
def Device.servoActs (d : Device) : Bool := decide (d.mode ≠ 3)

/-- A log interval in 1/65,536 ns. -/
def logInterval (l : Int) : Int := if 0 ≤ l then 1000000000 * 65536 * 2 ^ l.toNat else 1000000000 * 65536 / 2 ^ (-l).toNat

/-- The first sample's step (R340): LOAD and BOTH at now + 25 ms. -/
def Device.servoStep (d : Device) (off : Int) : Device :=
  let at_ := d.tt + ttNs 25000000
  let w := d.wallAt at_ - off
  let ns := w / 65536
  let r : StepReq := { load := true, both := true, atTT := some at_, amt := 0, sec := (ns / 1000000000).toNat
                       ns := (ns % 1000000000).toNat, frac := (w % 65536).toNat }
  if d.tim.time.step.isSome then d
  else (((d.wake 11).setTime { d.tim.time with step := some r }).setFlag R.TB_STEP_CTL_BUSY [] true).setFlag R.TB_STAT_STEP_PEND [] true

/-- The frequency estimate of eight samples (R340): INCR, and a slew of the residual offset at 1,000 ppm. -/
def Device.servoEstimate (d : Device) (off now : Int) : Device :=
  let s := d.servo
  let dl := max 1 (now - s.firstAt)
  let doff := off - s.firstOffset
  let incr : Int := d.get R.TB_INCR_INCR []
  let d := d.setIncr ((2 * incr * (dl - doff) + dl) / (2 * dl)).toNat
  let d := d.slewGo (-off) 4294967 true
  d.setServo { s with state := 3, samples := 0, within := 0, integral := 0, offset := off }

/-- One turn of the proportional-integral loop (R340): the controller's gains are not given (log entry 34). -/
def Device.servoLoop (d : Device) (off : Int) : Device :=
  let s := d.servo
  let integral := s.integral + off
  let d := d.setIncr (Config.servoIncr [(d.get R.TB_INCR_INCR [] : Int), off, integral]).toNat
  let near := decide (off.natAbs ≤ 100 * 65536)
  let within := if near then s.within + 1 else 0
  d.setServo { s with integral := integral, within := within, offset := off
                      state := if s.state = 4 ∨ 16 ≤ within then 4 else 3 }

/-- An offset beyond 1 ms while LOCKED: an ADD step of wall time alone (R340). -/
def Device.servoAdd (d : Device) (off : Int) : Device :=
  if d.tim.time.step.isSome then d
  else
    let r : StepReq := { load := false, both := false, atTT := none, amt := -off, sec := 0, ns := 0, frac := 0 }
    (((d.wake 11).setTime { d.tim.time with step := some r }).setFlag R.TB_STEP_CTL_BUSY [] true).setFlag R.TB_STAT_STEP_PEND [] true

/-- A valid offset sample, taken at local time `now` (R340). A servo in HOLDOVER goes back to LOCKING. -/
def Device.servoSample (d : Device) (off now : Int) : Device :=
  let s := d.servo
  let d := d.setServo { s with offset := off }
  if !d.servoActs then d
  else
    match s.state with
    | 1 =>
      if bit s.flags 1 then d.setServo { s with offset := off, state := 2, samples := 0 } else d.servoStep off
    | 2 =>
      if s.samples = 0 then d.setServo { s with offset := off, samples := 1, firstOffset := off, firstAt := now }
      else if s.samples < 7 then d.setServo { s with offset := off, samples := s.samples + 1 }
      else d.servoEstimate off now
    | 3 => d.servoLoop off
    | 4 => if 1000000 * 65536 < off.natAbs then d.servoAdd off else d.servoLoop off
    | 5 => (d.setServo { s with offset := off, state := 3, within := 0 }).servoLoop off
    | _ => d

/-- A time stamp field of a message, in 1/65,536 ns. -/
def ptpStampAt (m : List Byte) (o : Nat) : Int := ((beAt m o 6 * 1000000000 + beAt m (o + 6) 4) * 65536 : Nat)

/-- correctionField. -/
def ptpCorr (m : List Byte) : Int := sgn 64 (beAt m 8 8)

/-- t1 of a Sync is known: the master-to-slave delay, and the offset sample once the mean path is known. -/
def Device.servoForward (d : Device) (t1 t2 : Int) : Device :=
  let d := d.setServo { d.servo with forward := t2 - t1, sync := none, lastSync := d.tt }
  if d.servo.pathKnown then d.servoSample (t2 - t1 - d.servo.meanPath) t2 else d

/-- The clock identity, eight bytes, and the port number 1. -/
def portIdentity : List Byte := (List.range 8).map Config.clockId ++ [0, 1]

/-- What this clock announces of itself: priority1, clockClass 248, clockAccuracy, offsetScaledLogVariance, priority2 and its
identity, in the order in which the best master clock algorithm compares them (R339, log entry 124). -/
def Device.ownDataset (d : Device) : List Byte :=
  [BitVec.ofNat 8 d.servo.priority1, 248, 0xFE, 0xFF, 0xFF, BitVec.ofNat 8 d.servo.priority2] ++ portIdentity.take 8

/-- The data set of an Announce, and the port that sent a message. -/
def ptpDataset (m : List Byte) : Nat := beAt m 47 14
def ptpSource (m : List Byte) : Nat := beAt m 20 10

/-- The message comes from the chosen master, or none is chosen yet. -/
def ServoX.fromParent (s : ServoX) (m : List Byte) : Bool := s.parent.all (fun p => decide (p.1 = ptpSource m))

/-- A valid Announce: the best master is chosen (R339); a master that hears a better one, and may be a slave, becomes one. -/
def Device.announceRx (d : Device) (m : List Byte) : Device :=
  let s := d.servo
  let better := s.parent.all (fun p => decide (p.1 = ptpSource m ∨ ptpDataset m < p.2))
  let isMaster := decide (s.state = 6)
  if isMaster && !(decide (s.role = 1) && decide (ptpDataset m < ofBE d.ownDataset)) then d
  else if !isMaster && !better then d
  else
    d.setServo { s with parent := some (ptpSource m, ptpDataset m), gmPriority1 := beAt m 47 1, gmClass := beAt m 48 1
                        stepsRemoved := beAt m 61 2, state := if isMaster then 1 else s.state
                        lastSync := if isMaster then d.tt else s.lastSync }

/-- A PTP message header with its body (R339). -/
def Device.ptpMessage (d : Device) (type seq flags log : Nat) (corr : Int) (body : List Byte) : List Byte :=
  let n := 34 + body.length
  let ctl := if type = 0 then 0 else if type = 1 then 1 else if type = 8 then 2 else if type = 9 then 3 else 5
  [BitVec.ofNat 8 type, 2] ++ beBytes 2 n ++ [BitVec.ofNat 8 d.servo.domain, 0] ++ beBytes 2 flags ++ beBytes 8 (code 64 corr)
    ++ zeros 4 ++ portIdentity ++ beBytes 2 seq ++ [BitVec.ofNat 8 ctl, BitVec.ofNat 8 log] ++ body

/-- The check sum of an IPv4 header or of a UDP datagram with its pseudo header. -/
def onesCheck (s : Nat) : Nat := let r := s % 65535; if r = 0 then 0xFFFF else 65535 - r

/-- A PTP message in its encapsulation, multicast (R339, R180). -/
def Device.ptpFrame (d : Device) (p : Nat) (m : List Byte) : List Byte :=
  let mac := beBytes 6 (d.get R.PP_MAC_MAC [p])
  let port := if ptpEvent m then 319 else 320
  match d.servo.encaps with
  | 2 =>
    let src := beBytes 4 (d.get R.PP_IP4_ADDR [p])
    let dst := beBytes 4 0xE0000181
    let n := m.length + 8
    let h := fun (c : Nat) => [0x45, 0] ++ beBytes 2 (n + 20) ++ zeros 4 ++ [1, 17] ++ beBytes 2 c ++ src ++ dst
    let u := fun (c : Nat) => beBytes 2 port ++ beBytes 2 port ++ beBytes 2 n ++ beBytes 2 c ++ m
    beBytes 6 0x01005E000181 ++ mac ++ beBytes 2 0x0800 ++ h (onesCheck (wordSum (h 0)))
      ++ u (onesCheck (wordSum (src ++ dst) + 17 + n + wordSum (u 0)))
  | 3 =>
    let src := beBytes 8 (d.rd R.PP_IP6_HI [p]).toNat ++ beBytes 8 (d.rd R.PP_IP6_LO [p]).toNat
    let dst := beBytes 16 0xFF0E0000000000000000000000000181
    let n := m.length + 8
    let u := fun (c : Nat) => beBytes 2 port ++ beBytes 2 port ++ beBytes 2 n ++ beBytes 2 c ++ m
    beBytes 6 0x333300000181 ++ mac ++ beBytes 2 0x86DD ++ [0x60, 0, 0, 0] ++ beBytes 2 n ++ [17, 1] ++ src ++ dst
      ++ u (onesCheck (wordSum (src ++ dst) + 17 + n + wordSum (u 0)))
  | _ => beBytes 6 0x011B19000000 ++ mac ++ beBytes 2 0x88F7 ++ m

/-- Firmware sends a PTP message and takes its transmit stamp, if it is an event message. -/
def Device.ptpSend (d : Device) (m : List Byte) (t : TT) : Device :=
  let p := d.servo.port
  let n := (d.prtx p).txts.length
  let d := d.packetTx p (d.ptpFrame p m) t
  if n = 0 ∧ (d.prtx p).txts.length = 1 then d.txtsPop p else d

/-- Firmware takes a received PTP message that came on the servo's port with receive stamp `t` (R339, R340). -/
def Device.ptpRx (d : Device) (m : List Byte) (t : TT) : Device :=
  let s := d.servo
  if beAt m 4 1 ≠ s.domain ∨ beAt m 1 1 % 16 ≠ 2 then d
  else
    let seq := beAt m 30 2
    let w := d.wallAt t
    match ptpType m with
    | 0 =>
      if s.state = 6 ∨ !s.fromParent m then d
      else if bit (beAt m 6 1) 1 then d.setServo { s with sync := some (seq, w, ptpCorr m) }
      else d.servoForward (ptpStampAt m 34 + ptpCorr m) w
    | 8 =>
      match s.sync with
      | some (q, t2, c) => if q = seq ∧ s.state ≠ 6 ∧ s.fromParent m then d.servoForward (ptpStampAt m 34 + c + ptpCorr m) t2 else d
      | none => d
    | 9 =>
      match s.delayReq with
      | some (q, t3) =>
        if q = seq ∧ (m.drop 44).take 10 = portIdentity then
          d.setServo { s with delayReq := none, pathKnown := true
                              meanPath := (s.forward + (ptpStampAt m 34 - ptpCorr m - t3)) / 2 }
        else d
      | none => d
    | 11 => d.announceRx m
    | 13 => if beAt m 48 2 = 3 ∧ beAt m 52 3 = 0x6897E8 then d.setServo { s with metadata := m.drop 48 } else d
    | 1 =>
      if s.state = 6 then
        let body := ptpTime w ++ (m.drop 20).take 10
        d.ptpSend (d.ptpMessage 9 seq 0 (code 8 s.delayLog) (ptpCorr m) body) d.tt
      else d
    | _ => d

/-- No valid Sync for announceReceiptTimeout (3) announce intervals (R340): HOLDOVER; a master-capable clock that has
found no master becomes one (R339). -/
def Device.announceTimeout (d : Device) : Device :=
  let s := d.servo
  if !d.ready ∨ ttDiff d.tt s.lastSync < 3 * logInterval s.announceLog then d
  else if s.state = 1 ∧ s.role = 1 then d.setServo { s with state := 6, parent := none }
  else if 2 ≤ s.state ∧ s.state ≤ 4 then d.setServo { s with state := 5, parent := none }
  else d

/-- An Announce of this clock as master. -/
def Device.announceBody (d : Device) : List Byte :=
  zeros 10 ++ zeros 3 ++ d.ownDataset ++ zeros 2 ++ [0xA0]

/-- A sync (0), announce (1) or delay-request (2) interval has passed: firmware sends the message its role requires,
stamped `t` (R339). -/
def Device.ptpTimer (d : Device) (kind : Nat) (t : TT) : Device :=
  let s := d.servo
  let due := fun (last : TT) (l : Int) => decide (logInterval l ≤ ttDiff d.tt last)
  if !d.ready ∨ !d.servoRuns then d
  else if kind = 0 ∧ s.state = 6 ∧ due s.sentSync s.syncLog then
    let two := bit s.flags 0
    let d := d.setServo { s with seqSync := (s.seqSync + 1) % 65536, sentSync := d.tt }
    let d := d.ptpSend (d.ptpMessage 0 s.seqSync (if two then 0x0200 else 0) (code 8 s.syncLog) 0 (zeros 10)) t
    if two then d.ptpSend (d.ptpMessage 8 s.seqSync 0 (code 8 s.syncLog) 0 (ptpTime (d.wallAt t))) d.tt else d
  else if kind = 1 ∧ s.state = 6 ∧ due s.sentAnnounce s.announceLog then
    let d := d.setServo { s with seqAnnounce := (s.seqAnnounce + 1) % 65536, sentAnnounce := d.tt }
    d.ptpSend (d.ptpMessage 11 s.seqAnnounce 0 (code 8 s.announceLog) 0 d.announceBody) t
  else if kind = 2 ∧ s.state ≠ 6 ∧ due s.sentDelay s.delayLog then
    let stamped := d.flag R.PP_PTP_TX_STAMP_EN [s.port]
    let d := d.setServo { s with seqDelay := (s.seqDelay + 1) % 65536, sentDelay := d.tt
                                 delayReq := if stamped then some (s.seqDelay, d.wallAt t) else none }
    d.ptpSend (d.ptpMessage 1 s.seqDelay 0 0x7F 0 (zeros 10)) t
  else d

end Sys2Proof.Machine
end

