-- ==== Sys2Proof/Machine/Eth.lean ====
section
/-! DEFINITION. Received Ethernet frames: the MAC, classification, ST 2110-20 with ST 2022-7 merging, GVSP, raw UDP and
the slow path (R178 to R190, R215, R220). -/

namespace Sys2Proof.Machine

/-! ### Streams -/

/-- A stream entry's packet state. -/
def Device.pkt (d : Device) (p k : Nat) : PktX := (d.prtx p).pkts.get {} k

/-- Replace it. -/
def Device.setPkt (d : Device) (p k : Nat) (x : PktX) : Device :=
  d.setPrt p { d.prtx p with pkts := (d.prtx p).pkts.put {} k x }

/-- The wire frame ends (R215): the line in progress ends, and in WIRE framing the frame closes. -/
def Device.wireEnd (d : Device) (p k : Nat) : Device :=
  let c := d.cap p k
  let d := match c.line with
    | some x => (d.setCap p k { c with line := some { x with hdr := { x.hdr with frameEnd := true } } }).endLine p k
    | none => d
  match (d.cap p k).openFrame with
  | some f => if f.cfg.framing = 0 then d.closeFrame p k 0 0 else d
  | none => d

/-- Set STATUS bits of the open frame. -/
def Device.markFrame (d : Device) (p k bits_ : Nat) : Device :=
  d.modFrames p k (fun f => !f.closed) (fun f => { f with status := f.status ||| bits_ })

/-- A packet's receive stamp goes to Swatch with the open frame (R186, R254). -/
def Device.stampFrame (d : Device) (p k : Nat) (t : TT) : Device :=
  d.modFrames p k (fun f => !f.closed) (fun f => { f with stamps := f.stamps ++ [t] })

/-- LINE_LEN as lines are cut by it. -/
def Device.lineLen (d : Device) (p k : Nat) : Nat := max 1 (d.get R.CAP_SC_FMT_LINE_LEN [p, k])

/-- Payload bytes at a place of a frame's byte stream, cut into lines every LINE_LEN bytes (R215); `numbered` streams
place a line by its position (log entry 33). -/
def Device.streamBytes (p k : Nat) (h : LineHdr) (numbered : Bool) (stamp : TT) : Nat → Device → Nat → List Byte → Device
  | 0, d, _, _ => d
  | fuel + 1, d, pos, bs =>
    if bs.isEmpty then d
    else
      let len := d.lineLen p k
      let idx := pos / len
      let off := pos % len
      let no := if numbered then some idx else none
      let cur := match (d.cap p k).line with
        | some x => decide (off ≠ 0 ∧ x.hdr.lineNo = no)
        | none => false
      let d := if cur then d else d.beginLine p k { h with lineNo := no, frameStart := h.frameStart && decide (pos = 0) } stamp
      let n := min (len - off) bs.length
      let d := d.lineBytes p k off (bs.take n)
      let d := if off + n = len then d.endLine p k else d
      streamBytes p k h numbered stamp fuel d (pos + n) (bs.drop n)

/-- The line in progress is left behind by a gap in the byte stream: it counts as one of LINE_LEN bytes. -/
def Device.gapLine (d : Device) (p k : Nat) : Device :=
  let c := d.cap p k
  match c.line with
  | some x => (d.setCap p k { c with line := some { x with got := max x.got (d.lineLen p k) } }).endLine p k
  | none => d

/-! ### ST 2110-20 -/

/-- Pixels and bytes of a pgroup and its sample depth, for a format ST 2110-20 delivers (R185, R220). -/
def pgroup (pixfmt : Nat) : Option (Nat × Nat × Nat) :=
  if pixfmt = 0x02100043 then some (2, 4, 8)
  else if pixfmt = 0x02140099 then some (2, 5, 10)
  else if pixfmt = 0x02180014 then some (1, 3, 8)
  else if pixfmt = 0x021E005C then some (4, 15, 10)
  else if pixfmt = 0x01080001 then some (1, 1, 8)
  else if pixfmt = 0x010A0046 then some (4, 5, 10)
  else if pixfmt = 0x010C0047 then some (2, 3, 12)
  else if pixfmt = 0x01100007 then some (1, 2, 16)
  else none

/-- One pgroup's samples, most significant bit first on the wire, packed least significant bit first (R220). -/
def repackGroup (depth : Nat) (g : List Byte) : List Byte :=
  let n := g.length * 8 / depth
  let v := ofBE g
  leBytes g.length ((List.range n).map (fun i => bits v (g.length * 8 - depth * (i + 1)) depth * 2 ^ (depth * i))).sum

/-- A row segment's bytes in PFNC packing. -/
def repack (size depth : Nat) (bs : List Byte) : List Byte :=
  if depth = 8 then bs else (chunks size bs.length bs).flatMap (repackGroup depth)

/-- An RTP packet of RFC 4175: extended sequence number, time stamp, marker, sample-row headers and their data. -/
structure RtpPkt where
  seq : Nat
  ts : Nat
  marker : Bool
  /-- row, second field, offset in pixels, data -/
  rows : List (Nat × Bool × Nat × List Byte)
  deriving DecidableEq, Repr

/-- The sample-row headers: length, field and row, continuation and offset; at most three (R185). -/
def srdHeaders : Nat → List Byte → List (Nat × Nat × Nat) × List Byte
  | 0, bs => ([], bs)
  | n + 1, bs =>
    let h := (beAt bs 0 2, beAt bs 2 2, beAt bs 4 2)
    if bit (beAt bs 4 2) 15 then
      let r := srdHeaders n (bs.drop 6)
      (h :: r.1, r.2)
    else ([h], bs.drop 6)

/-- Lay the payload out under the headers. -/
def srdRows : List (Nat × Nat × Nat) → List Byte → List (Nat × Bool × Nat × List Byte)
  | [], _ => []
  | (n, row, off) :: hs, bs => (row % 32768, bit row 15, off % 32768, bs.take n) :: srdRows hs (bs.drop n)

/-- Parse an RTP packet. -/
def parseRtp (b : List Byte) : Option RtpPkt :=
  let b0 := beAt b 0 1
  let off := 12 + 4 * (b0 % 16)
  let off := if bit b0 4 then off + 4 + 4 * beAt b (off + 2) 2 else off
  if b.length < off + 2 ∨ b0 / 64 ≠ 2 then none
  else
    let b' := if bit b0 5 then b.take (b.length - beAt b (b.length - 1) 1) else b
    let p := b'.drop off
    let hs := srdHeaders 3 (p.drop 2)
    some { seq := beAt p 0 2 * 65536 + beAt b 2 2, ts := beAt b 4 4, marker := bit (beAt b 1 1) 7, rows := srdRows hs.1 hs.2 }

/-- A row segment goes to its line (R215, R217). -/
def Device.rtpRow (d : Device) (p k ts : Nat) (merged : Bool) (stamp : TT) (g : Nat × Nat × Nat) (r : Nat × Bool × Nat × List Byte) :
    Device :=
  let cur := match (d.cap p k).line with
    | some x => decide (x.hdr.lineNo = some r.1 ∧ x.hdr.wireFrame = ts)
    | none => false
  let d := if cur then d
    else d.beginLine p k { frameStart := decide ((d.pkt p k).frameId ≠ some ts), wireFrame := ts, lineNo := some r.1
                           field2 := r.2.1, merged := merged } stamp
  let d := d.setPkt p k { d.pkt p k with frameId := some ts }
  d.lineBytes p k (r.2.2.1 / g.1 * g.2.1) (repack g.2.1 g.2.2 r.2.2.2)

/-- A frame of RTP time stamp `ts` has closed: what comes of it or of an earlier frame now is late (R187). -/
def Device.rtpClosed (d : Device) (p k ts : Nat) : Device :=
  let x := d.pkt p k
  d.setPkt p k { x with frameId := none, closedId := some ts, closedSeq := x.lastSeq, marker := false }

/-- `a − b` of 32-bit sequence numbers, signed. -/
def seqDiff (a b : Nat) : Int := sgn 32 (a + 2 ^ 32 - b % 2 ^ 32)

/-- The later of a sequence number and one used before. -/
def laterSeq (a : Nat) : Option Nat → Nat
  | some b => if 0 < seqDiff b a then b else a
  | none => a

/-- A packet belongs to a frame that has closed (R187): its own frame is the last that did, or its sequence number is not
above what had been used when that one closed. -/
def PktX.late (x : PktX) (r : RtpPkt) : Bool :=
  decide (x.closedId = some r.ts) || (match x.closedSeq with
    | some s => decide (seqDiff r.seq s ≤ 0 ∧ -32768 ≤ seqDiff r.seq s)
    | none => false)

/-- Packets are missing: the row in progress, where another follows, has lost its tail and counts as one of LINE_LEN bytes
(R217). -/
def Device.tailLost (d : Device) (p k : Nat) (next : Option Nat) : Device :=
  let c := d.cap p k
  match c.line with
  | some x => if x.hdr.lineNo = next then d else d.setCap p k { c with line := some { x with got := max x.got (d.lineLen p k) } }
  | none => d

/-- A packet of an enabled stream whose format ST 2110-20 does not deliver ends its frame as damaged (R185). -/
def Device.rtpUnsupported (d : Device) (p k : Nat) (r : RtpPkt) (merged : Bool) (stamp : TT) : Device :=
  let d := (r.rows.take 1).foldl (fun d row => d.rtpRow p k r.ts merged stamp (1, 1, 8) row) d
  let d := match (d.cap p k).line with
    | some x => match x.frame with
      | some n => d.markLine p k n x.index
      | none => d
    | none => d
  (d.wireEnd p k).rtpClosed p k r.ts

/-- A packet is used (R215): its rows, after a gap that may have cut the one in progress, and what its marker says. The lines of a
disabled stream only count (R214). -/
def Device.rtpUse (d : Device) (p k : Nat) (r : RtpPkt) (merged : Bool) (stamp : TT) : Device :=
  let fmt := pgroup (d.get R.CAP_SC_FMT_PIXFMT [p, k])
  if fmt.isNone ∧ d.flag R.CAP_SC_CTL_EN [p, k] then d.rtpUnsupported p k r merged stamp
  else
    let x := d.pkt p k
    let gap := match x.lastSeq with
      | some s => decide (x.frameId = some r.ts) && decide (seqDiff r.seq s ≠ 1)
      | none => false
    let d := if gap then d.tailLost p k (r.rows.head?.map (fun w => w.1)) else d
    let d := d.setPkt p k { d.pkt p k with lastSeq := some (laterSeq r.seq x.lastSeq), marker := x.marker || r.marker }
    let d := r.rows.foldl (fun d row => d.rtpRow p k r.ts merged stamp (fmt.getD (1, 1, 8)) row) d
    let d := d.stampFrame p k stamp
    if merged then d.markFrame p k 0x40000 else d

/-! ### ST 2022-7 -/

/-- Put a waiting packet into sequence order. -/
def insertWait (w : PktWait) : List PktWait → List PktWait
  | [] => [w]
  | x :: xs => if seqDiff w.seq x.seq < 0 then w :: x :: xs else x :: insertWait w xs

/-- A waiting packet of a merged stream is used. -/
def Device.mergeUse (d : Device) (p k : Nat) (w : PktWait) : Device :=
  match parseRtp w.bytes with
  | none => d
  | some r =>
    let d := d.rtpUse p k r (decide (w.kind = 1)) w.stamp
    d.setPkt p k { d.pkt p k with next := some ((r.seq + 1) % 2 ^ 32) }

/-- A copy of the secondary path waits out the tick of its arrival, in which the primary's may still come (R188). -/
def Device.freshCopy (d : Device) (w : PktWait) : Bool := decide (w.kind = 1) && ttGe w.stamp d.tt

/-- Use the waiting packets of the open frame that stand next in order; the first packet of a frame opens it. -/
def Device.mergeDrain (p k : Nat) : Nat → Device → Device
  | 0, d => d
  | fuel + 1, d =>
    let x := d.pkt p k
    match x.waits with
    | [] => d
    | w :: rest =>
      let first := x.frameId.isNone && (decide (x.next = none) || decide (x.next = some w.seq))
      let behind := match x.next with
        | some n => decide (seqDiff w.seq n ≤ 0)
        | none => false
      if !d.freshCopy w && (first || (decide (x.frameId = some w.frame) && behind)) then
        mergeDrain p k fuel ((d.setPkt p k { x with waits := rest }).mergeUse p k w)
      else d

/-- HOLD as it acts: at most 50,000 µs, and none without merging (R187). -/
def Device.holdTime (d : Device) (p k : Nat) : Int :=
  if d.flag R.PP_SM_MERGE_EN [p, k] then (min 50000 (d.get R.PP_SM_MERGE_HOLD [p, k]) * 65536000 : Nat) else 0

/-- The held end of a frame has come: what waits of the frame is used, gaps and all, and the frame closes. -/
def Device.mergeClose (d : Device) (p k : Nat) : Device :=
  let x := d.pkt p k
  let fr : Option Nat := match x.frameId with
    | some f => some f
    | none => x.waits.head?.map PktWait.frame
  match fr with
  | none => d.setPkt p k { x with holdSince := none }
  | some f =>
    let mine : List PktWait := x.waits.filter (fun w : PktWait => decide (w.frame = f))
    let d := d.setPkt p k { x with waits := x.waits.filter (fun w : PktWait => decide (w.frame ≠ f)), holdSince := none }
    let d := mine.foldl (fun d w => d.mergeUse p k w) d
    let d := if (d.pkt p k).marker then d else d.tailLost p k none
    let d := (d.wireEnd p k).rtpClosed p k f
    let later := (d.pkt p k).waits.any (fun w => match parseRtp w.bytes with
      | some r => r.marker
      | none => false)
    let two := decide (1 < ((d.pkt p k).waits.map PktWait.frame).dedup.length)
    let d := Device.mergeDrain p k (d.pkt p k).waits.length d
    if later || two then d.setPkt p k { d.pkt p k with holdSince := some d.tt } else d

/-- A packet of a stream, from the primary entry (0) or the secondary (1) (R187, R188). An unmerged stream's packets are used in
sequence order as well (R215), its frames end at once, and a number far below the last begins a new sequence (log entry 120). -/
def Device.mergeIn (d : Device) (p k : Nat) (b : List Byte) (path : Nat) (stamp : TT) : Device :=
  match parseRtp b with
  | none => d.bump R.PP_CNT_ERR_RX_ERR [p]
  | some r =>
    let x := d.pkt p k
    let fresh := !d.flag R.PP_SM_MERGE_EN [p, k] && (match x.highest with
      | some h => decide (seqDiff r.seq h < -32768)
      | none => false)
    let x : PktX := if fresh then { x with highest := none, used := [], next := none, lastSeq := none, closedSeq := none } else x
    let d := d.setPkt p k x
    let old := match x.highest with
      | some h => seqDiff r.seq h
      | none => 0
    let twin := x.waits.find? (fun w => decide (w.seq = r.seq ∧ w.kind = 1 ∧ w.stamp = stamp))
    if old < -32768 then d
    else if x.used.contains r.seq then
      let d := match twin with
        | some w => if path = 0 then d.setPkt p k { x with waits := insertWait { w with bytes := b, kind := 0 } (x.waits.erase w) } else d
        | none => d
      Device.mergeDrain p k x.waits.length (d.bump R.PP_SM_CNT_DUP [p, k])
    else if x.late r then d.bump R.PP_SM_CNT_LATE [p, k]
    else
      let high := if x.highest = none ∨ 0 < old then r.seq else x.highest.getD r.seq
      let used := (r.seq :: x.used).filter (fun s => decide (-32768 ≤ seqDiff s high))
      let w : PktWait := { seq := r.seq, frame := r.ts, bytes := b, stamp := stamp, kind := path }
      let ends := r.marker || (match x.frameId with | some f => decide (f ≠ r.ts) | none => false)
      let x := { x with highest := some high, used := used, waits := insertWait w x.waits
                        holdSince := if ends ∧ x.holdSince = none then some d.tt else x.holdSince }
      let d := Device.mergeDrain p k x.waits.length (d.setPkt p k x)
      if (d.pkt p k).holdSince.isSome ∧ d.holdTime p k = 0 then d.mergeClose p k else d

/-- A tick has passed: copies of the secondary path that waited it out are used (R188). -/
def Device.mergeTick (d : Device) (p : Nat) : Device :=
  (d.prtx p).pkts.foldl (fun d e =>
    if e.2.waits.isEmpty ∨ !d.flag R.PP_SM_MERGE_EN [p, e.1] ∨ d.get R.PP_SM_CTL_KIND [p, e.1] ≠ 1 then d
    else Device.mergeDrain p e.1 e.2.waits.length d) d

/-- The HOLD time of a held end of frame ends (R187). -/
def Device.mergeExpire (d : Device) (p k : Nat) : Device :=
  match (d.pkt p k).holdSince with
  | some t => if d.holdTime p k ≤ ttDiff d.tt t then d.mergeClose p k else d
  | none => d

/-- An ST 2110-20 packet of entry `k` (R187, R188): plain, the primary's, or forwarded to the primary by a secondary. -/
def Device.rtpIn (d : Device) (p k : Nat) (b : List Byte) (stamp : TT) : Device :=
  let ix := [p, k]
  if !d.flag R.PP_SM_MERGE_EN ix ∨ !d.flag R.PP_SM_MERGE_SECONDARY ix then d.mergeIn p k b 0 stamp
  else
    let q := if d.flag R.PP_SM_MERGE_PAIR ix then (if p % 2 = 0 then p + 1 else p - 1) else p
    if d.boothDown q ∨ !d.portPresent q then d.bump R.PP_SM_CNT_LATE ix
    else d.mergeIn q (d.get R.PP_SM_MERGE_PARTNER ix) b 1 stamp

/-! ### GVSP -/

/-- A GVSP packet: status, block, format, packet ID and payload (R189). -/
structure GvPkt where
  status : Nat
  block : Nat
  fmt : Nat
  id : Nat
  data : List Byte
  deriving DecidableEq, Repr

/-- Parse a packet with standard or extended IDs. -/
def parseGv (ext : Bool) (b : List Byte) : Option GvPkt :=
  let f := beAt b 4 1
  if bit f 7 ≠ ext ∨ 9000 < b.length ∨ b.length < (if ext then 20 else 8) then none
  else if ext then some { status := beAt b 0 2, block := beAt b 8 8, fmt := f % 16, id := beAt b 16 4, data := b.drop 20 }
  else some { status := beAt b 0 2, block := beAt b 2 2, fmt := f % 16, id := beAt b 5 3, data := b.drop 8 }

/-- The header of a GVSP block's lines; its leader alone starts a frame (R215). -/
def gvHdr (block : Nat) (pixfmt : Option Nat) (leader : Bool) : LineHdr :=
  { frameStart := leader, wireFrame := block % 2 ^ 32, pixfmt := pixfmt, inside := true }

/-- The block closes (R190): damaged where packets are missing. -/
def Device.gvClose (d : Device) (p k : Nat) : Device :=
  let x := d.pkt p k
  let d := d.wireEnd p k
  d.setPkt p k { x with frameId := none, closedId := x.frameId, waits := [], next := none, highest := none, bytes := 0, pktSize := 0 }

/-- One packet of the open block is used, in order (R215): `kind` 2 trailer, 3 payload, 4 trailer with an error status. -/
def Device.gvUse (d : Device) (p k : Nat) (w : PktWait) : Device :=
  let x := d.pkt p k
  if w.kind = 3 then
    let size := if x.pktSize = 0 then w.bytes.length else x.pktSize
    let pos := (w.seq - 1) * size
    let gap := decide (x.bytes ≠ pos)
    let d := d.setPkt p k { x with pktSize := size, bytes := pos + w.bytes.length, next := some (w.seq + 1) }
    let same := decide (x.bytes / d.lineLen p k = pos / d.lineLen p k)
    let d := if gap && !same then d.gapLine p k else d
    let d := Device.streamBytes p k (gvHdr w.frame x.pixfmt false) true w.stamp (w.bytes.length + 1) d pos w.bytes
    d.stampFrame p k w.stamp
  else if w.kind = 2 ∨ w.kind = 4 then
    let d := if w.kind = 4 then d.markFrame p k 0x80000 else d
    d.gvClose p k
  else d.setPkt p k { x with next := some (w.seq + 1) }

/-- Use the waiting packets that stand next. -/
def Device.gvDrain (p k : Nat) : Nat → Device → Device
  | 0, d => d
  | fuel + 1, d =>
    let x := d.pkt p k
    match x.waits with
    | [] => d
    | w :: rest =>
      match x.next with
      | none => d
      | some n =>
        if w.seq < n then gvDrain p k fuel (d.setPkt p k { x with waits := rest })
        else if w.seq = n then gvDrain p k fuel ((d.setPkt p k { x with waits := rest }).gvUse p k w)
        else d

/-- The block ends with what waits of it: used in order, gaps and all (R190). -/
def Device.gvFinish (d : Device) (p k : Nat) : Device :=
  let x := d.pkt p k
  let mine := x.waits.filter (fun w => decide (w.kind = 3) && decide (x.frameId = some w.frame))
  (mine.foldl (fun d w => d.gvUse p k w) (d.setPkt p k { x with waits := [] })).gvClose p k

/-- A gap in a block's packet IDs is reported to the slow path (R190). -/
def Device.gvGap (d : Device) (p k first last : Nat) : Device :=
  if last < first then d else d.setPrt p { d.prtx p with resend := (d.prtx p).resend ++ [(k, first, last)] }

/-- The leader of a block (R189, R215, R221): an Image, or an Image with extended chunk; the frame starts. -/
def Device.gvLeader (d : Device) (p k : Nat) (g : GvPkt) (stamp : TT) : Device :=
  let type := beAt g.data 2 2
  let keep := (d.pkt p k).waits.filter (fun w => decide (w.frame = g.block))
  let d := if (d.pkt p k).frameId.isSome then d.gvFinish p k else d
  if type ≠ 1 ∧ type ≠ 0x4001 then d.setPkt p k { d.pkt p k with closedId := some g.block, waits := [] }
  else
    let h := gvHdr g.block (some (beAt g.data 12 4)) true
    let framed := decide (d.get R.CAP_SC_CTL_FRAMING [p, k] = 0) && d.flag R.CAP_SC_CTL_EN [p, k]
    let d := if framed then d.frameFor p k h stamp else d
    let bad := match (d.cap p k).openFrame with
      | some f => f.cfg.fmtCheck && decide (f.cfg.pixfmt ≠ beAt g.data 12 4)
      | none => false
    let d := if bad then d.markFrame p k 0x40 else d
    let d := d.setPkt p k { d.pkt p k with frameId := some g.block, next := some 1, waits := keep, bytes := 0, pktSize := 0, pixfmt := h.pixfmt
                                           highest := some ((keep.map (fun w => w.seq)).foldl max 0) }
    Device.gvDrain p k keep.length d

/-- A trailer closes its block at once: what waits is used with its gaps (R190). -/
def Device.gvTrailer (d : Device) (p k : Nat) (g : GvPkt) : Device :=
  let x := d.pkt p k
  let d := d.setPkt p k { x with waits := [] }
  let d := (x.waits.filter (fun w => decide (w.kind = 3))).foldl (fun d w => d.gvUse p k w) d
  let d := d.gvGap p k ((x.highest.getD 0) + 1) (g.id - 1)
  let d := if g.status ≠ 0 then d.markFrame p k 0x80000 else d
  d.gvClose p k

/-- A GVSP packet of entry `k` (R189, R190). -/
def Device.gvIn (d : Device) (p k : Nat) (b : List Byte) (stamp : TT) : Device :=
  match parseGv (d.flag R.PP_SM_CTL_EXT_ID [p, k]) b with
  | none => d.bump R.PP_CNT_ERR_RX_ERR [p]
  | some g =>
    let x := d.pkt p k
    if x.closedId = some g.block ∧ x.frameId ≠ some g.block then d
    else if g.fmt = 1 then (if x.frameId = some g.block then d else d.gvLeader p k g stamp)
    else if g.fmt ≠ 2 ∧ g.fmt ≠ 3 then d
    else if x.frameId = some g.block ∧ g.fmt = 2 then d.gvTrailer p k g
    else
      let high := x.highest.getD 0
      let w : PktWait := { seq := g.id, frame := g.block, bytes := g.data, stamp := stamp
                           kind := if g.fmt = 2 ∧ g.status ≠ 0 then 4 else g.fmt }
      let d := d.gvGap p k (high + (if x.frameId = some g.block then 1 else 0)) (g.id - 1)
      if x.waits.any (fun v => decide (v.seq = g.id ∧ v.frame = g.block)) then d
      else
        let d := d.setPkt p k { x with waits := insertWait w x.waits, highest := some (max high g.id) }
        if x.frameId = some g.block then Device.gvDrain p k (x.waits.length + 1) d else d

/-! ### Raw UDP -/

/-- A raw datagram: its bytes join the frame's byte stream (R215). -/
def Device.rawIn (d : Device) (p k : Nat) (b : List Byte) (stamp : TT) : Device :=
  let x := d.pkt p k
  let pos := if (d.cap p k).isOpen ∨ (d.cap p k).line.isSome then x.bytes % d.lineLen p k else 0
  let d := d.setPkt p k { x with bytes := pos + b.length }
  (Device.streamBytes p k { frameStart := false } false stamp (b.length + 1) d pos b).stampFrame p k stamp

/-! ### The MAC -/

/-- FEC codewords with symbols on a lane, as the decoder counts them since the last frame (R166): lane and corrected
symbols, or none for one found uncorrectable. -/
def Device.fecCount (d : Device) (p : Nat) (fec : List (Nat × Option Nat)) : Device :=
  if !modeFec (d.pmode p) then d
  else
    fec.foldl (fun d e =>
      if !(d.portLanes p).contains e.1 then d
      else
        match e.2 with
        | none => d.bump R.LN_FEC_CW_UNCORR (lx e.1)
        | some n => (d.bump R.LN_FEC_CW_CORR (lx e.1)).bumpBy R.LN_FEC_SYM_SYM (lx e.1) n) d

/-- A packet that matches no entry: a PTP message of the servo's instance goes to it, everything else into the slow-path
ring (R181, R339). -/
def Device.unmatched (d : Device) (p : Nat) (e : EthPkt) (f : List Byte) (stamp : TT) : Device :=
  match ptpIn e with
  | some (enc, m) =>
    if d.ready ∧ d.servoRuns ∧ d.servo.port = p ∧ enc + 1 = d.servo.encaps
        ∧ (!ptpEvent m ∨ (d.flag R.PP_PTP_RX_STAMP_EN [p] ∧ bit (d.get R.PP_PTP_ENCAPS [p]) enc)) then d.ptpRx m stamp
    else
      let on := d.flag R.PP_PTP_RX_STAMP_EN [p] && bit (d.get R.PP_PTP_ENCAPS [p]) enc && ptpEvent m
      d.slowEnqueue p f (if on then some stamp else none)
  | none => d.slowEnqueue p f none

/-- A datagram goes to its stream's assembler by the entry's KIND (R183). -/
def Device.streamIn (d : Device) (p k : Nat) (b : List Byte) (stamp : TT) : Device :=
  match d.get R.PP_SM_CTL_KIND [p, k] with
  | 1 => d.rtpIn p k b stamp
  | 2 => d.gvIn p k b stamp
  | _ => d.rawIn p k b stamp

/-- An Ethernet frame arrives, from destination address to FCS, its first symbol stamped `stamp` (R179 to R184). -/
def Device.ethFrame (d : Device) (p : Nat) (f : List Byte) (stamp : TT) (fec : List (Nat × Option Nat)) : Device :=
  if !modeEth (d.pmode p) ∨ !d.up p ∨ d.boothDown p then d
  else
    let d := d.fecCount p fec
    let n := f.length
    let body := f.take (n - 4)
    if n < 64 ∨ 9600 < n ∨ crc32 body ≠ ofLE (f.drop (n - 4)) then d.bump R.PP_CNT_ERR_RX_ERR [p]
    else
      match parseEth body with
      | none => d.bump R.PP_CNT_ERR_RX_ERR [p]
      | some e =>
        if e.etype = 0x8808 then d.count R.PP_CNT_RX_PKTS [p]
        else
          let d := d.streamBoundary p stamp
          if !d.macAccepts p e.dst then d.bump R.PP_CNT_ERR_RX_ERR [p]
          else
            match e.ip with
            | .error => d.bump R.PP_CNT_ERR_RX_ERR [p]
            | .slow => (d.count R.PP_CNT_RX_PKTS [p]).unmatched p e body stamp
            | .udp u =>
              let d := d.count R.PP_CNT_RX_PKTS [p]
              match d.classify p e.vlan u with
              | some k => d.streamIn p k u.data stamp
              | none => d.unmatched p e body stamp

/-! ### RAW lanes -/

/-- Bytes of a line of RAW mode (R208): WORDS lane words of 64 symbols. -/
def Device.rawLine (d : Device) (p : Nat) : Nat :=
  max 1 (d.get R.PP_RAW_WORDS [p]) * (if ratePam4 (d.get R.LN_CTL_RATE (lx (2 * p))) then 16 else 8)

/-- A received word of RAW mode (R208): the comparator tests it (R158); lines start at a marker phase while the comparator is
enabled, and otherwise back to back; each ends after WORDS words. -/
def Device.rawWord (d : Device) (p : Nat) (bs : List Byte) (stamp : TT) : Device :=
  let l := 2 * p
  let n := (d.lane l).rxWords
  let d := d.compareWord l n (BitVec.ofNat 64 (fieldAt bs 0 8))
  let d := d.setLane l { d.lane l with rxWords := n + 1 }
  let mark := d.flag R.LN_ALIGN_STAT_FOUND (lx l)
    && decide (n % max 1 (d.get R.LN_ALIGN_CTL_PERIOD (lx l)) = d.get R.LN_ALIGN_STAT_PHASE (lx l))
  let open_ := (d.cap p 0).line.isSome
  let starts := if d.flag R.LN_ALIGN_CTL_ENABLE (lx l) then mark else !open_
  let d := if starts then (d.count R.PP_CNT_RX_PKTS [p]).beginLine p 0 { length := d.rawLine p } stamp else d
  match (d.cap p 0).line with
  | none => d
  | some x =>
    let d := d.lineBytes p 0 x.got ((bs.take 64).take (d.rawLine p - x.got))
    if d.rawLine p ≤ x.got + min 64 bs.length then d.endLine p 0 else d

/-- A word of a line enters (R222): in RAW mode the lane's words (R208), in the others a line piece that the protocol unit
hands on as it is, with the first and the last word of its line marked. -/
def Device.lineWord (d : Device) (p k : Nat) (sol eol : Bool) (bs : List Byte) (stamp : TT) : Device :=
  if !d.up p ∨ d.boothDown p then d
  else if d.pmode p = 9 then (if k = 0 then d.rawWord p bs stamp else d)
  else
    let frame := match (d.cap p k).openFrame with
      | some f => f.wireFrame
      | none => 0
    let d := if sol then d.beginLine p k { wireFrame := frame } stamp else d
    match (d.cap p k).line with
    | none => d
    | some x =>
      let d := d.lineBytes p k x.got (bs.take 64)
      if eol then d.endLine p k else d

/-! ### Slow-path answers of firmware 3.x (R181) -/

/-- An IGMPv3 or MLDv2 record of a kind for a group, sent to the routers' group (log entry 58). -/
def Device.groupRecord (d : Device) (p : Nat) (ipv6 srcMatch : Bool) (kind dst src : Nat) : List Byte :=
  let mac := beBytes 6 (d.get R.PP_MAC_MAC [p])
  let n := if ipv6 then 16 else 4
  let group := [BitVec.ofNat 8 kind, 0] ++ beBytes 2 (b2n srcMatch) ++ beBytes n dst ++ (if srcMatch then beBytes n src else [])
  if ipv6 then
    let own := beBytes 8 (d.get R.PP_IP6_HI_ADDR [p]) ++ beBytes 8 (d.get R.PP_IP6_LO_ADDR [p])
    let grp := [0xFF, 0x02] ++ zeros 13 ++ [0x16]
    let m := fun (c : Nat) => [143, 0] ++ beBytes 2 c ++ [0, 0, 0, 1] ++ group
    let len := (m 0).length
    [0x33, 0x33, 0, 0, 0, 0x16] ++ mac ++ [0x86, 0xDD] ++ [0x60, 0, 0, 0] ++ beBytes 2 (len + 8) ++ [0, 1] ++ own ++ grp
      ++ [58, 0, 5, 2, 0, 0, 1, 0] ++ m (onesCheck (wordSum (own ++ grp) + 58 + len + wordSum (m 0)))
  else
    let grp := [224, 0, 0, 22]
    let m := fun (c : Nat) => [0x22, 0] ++ beBytes 2 c ++ [0, 0, 0, 1] ++ group
    let h := fun (c : Nat) => [0x46, 0xC0] ++ beBytes 2 (24 + (m 0).length) ++ zeros 4 ++ [1, 2] ++ beBytes 2 c
      ++ beBytes 4 (d.get R.PP_IP4_ADDR [p]) ++ grp ++ [0x94, 4, 0, 0]
    [1, 0, 0x5E, 0, 0, 22] ++ mac ++ [8, 0] ++ h (onesCheck (wordSum (h 0))) ++ m (onesCheck (wordSum (m 0)))

/-- A multicast address. -/
def isMulticast (ipv6 : Bool) (a : Nat) : Bool := if ipv6 then decide (bits a 120 8 = 0xFF) else decide (bits a 28 4 = 0xE)

/-- A query is answered with the present state of every group a valid entry has joined. -/
def Device.groupAnswer (d : Device) (p : Nat) (ipv6 : Bool) : Device :=
  (List.range 64).foldl (fun d k =>
    if d.flag R.PP_SM_CTL_VALID [p, k] ∧ d.flag R.PP_SM_CTL_IPV6 [p, k] = ipv6 ∧ isMulticast ipv6 (d.smDst p k) then
      let one := d.flag R.PP_SM_CTL_SRC_MATCH [p, k]
      d.packetTx p (d.groupRecord p ipv6 one (if one then 1 else 2) (d.smDst p k) (d.smSrc p k)) d.tt
    else d) d

/-- A neighbour advertisement for the port's address, sent to whoever solicited it. -/
def Device.neighbourReply (d : Device) (p : Nat) (dstMac dstIp : List Byte) : List Byte :=
  let mac := beBytes 6 (d.get R.PP_MAC_MAC [p])
  let own := beBytes 8 (d.get R.PP_IP6_HI_ADDR [p]) ++ beBytes 8 (d.get R.PP_IP6_LO_ADDR [p])
  let m := fun (c : Nat) => [136, 0] ++ beBytes 2 c ++ [0x60, 0, 0, 0] ++ own ++ [2, 1] ++ mac
  dstMac ++ mac ++ [0x86, 0xDD] ++ [0x60, 0, 0, 0] ++ beBytes 2 32 ++ [58, 255] ++ own ++ dstIp
    ++ m (onesCheck (wordSum (own ++ dstIp) + 58 + 32 + wordSum (m 0)))

/-- What firmware answers to a slow-path packet (R181): an ARP request or a neighbour solicitation for the port's address, an
IGMP or MLD query; RTCP, PTP and the rest are consumed. -/
def Device.slowAnswer (d : Device) (p : Nat) (f : List Byte) : Device :=
  match parseEth f with
  | none => d
  | some e =>
    let mac := beBytes 6 (d.get R.PP_MAC_MAC [p])
    let icmp := e.body.drop 40
    let opt := e.body.drop 48
    if e.etype = 0x0806 ∧ beAt e.body 6 2 = 1 ∧ beAt e.body 24 4 = d.get R.PP_IP4_ADDR [p] then
      let sha := (e.body.drop 8).take 6
      let spa := (e.body.drop 14).take 4
      let tpa := (e.body.drop 24).take 4
      d.packetTx p (sha ++ mac ++ [8, 6] ++ (e.body.take 6) ++ [0, 2] ++ mac ++ tpa ++ sha ++ spa) d.tt
    else if e.etype = 0x0800 ∧ beAt e.body 9 1 = 2 then
      (if beAt (e.body.drop (beAt e.body 0 1 % 16 * 4)) 0 1 = 0x11 then d.groupAnswer p false else d)
    else if e.etype = 0x86DD ∧ beAt e.body 6 1 = 58 ∧ beAt icmp 0 1 = 135 ∧ beAt icmp 8 8 = d.get R.PP_IP6_HI_ADDR [p]
        ∧ beAt icmp 16 8 = d.get R.PP_IP6_LO_ADDR [p] then
      d.packetTx p (d.neighbourReply p ((f.drop 6).take 6) ((e.body.drop 8).take 16)) d.tt
    else if e.etype = 0x86DD ∧ (beAt icmp 0 1 = 130 ∨ beAt opt 0 1 = 130) ∧ (beAt e.body 6 1 = 58 ∨ beAt e.body 6 1 = 0) then
      d.groupAnswer p true
    else d

/-- Firmware takes the packet at the head of the slow-path ring (R181). -/
def Device.slowTake (d : Device) (p : Nat) : Device :=
  match (d.prtx p).slow with
  | [] => d
  | f :: rest => if d.ready then (d.setPrt p { d.prtx p with slow := rest }).slowAnswer p f.1 else d

/-- What a tick brings a port: frames closed in the tick before, its superframe, and copies that waited for it. -/
def Device.portTick (d : Device) (p : Nat) : Device := (((d.capsTick p).superTick p).skewTick p).mergeTick p

/-- What a tick brings a lane: the training frame it sends goes on, missed markers count; at DATA the port follows. -/
def Device.laneTick (d : Device) (l : Nat) : Device :=
  let d := d.countMisses l
  if (d.lane l).frameAt.isNone then d
  else
    let d := d.trainFrameEnd l
    if d.trainState l = 4 then d.afterLane l else d

end Sys2Proof.Machine
end

