-- ==== Sys2Proof/Machine/CmdPorts.lean ====
section
/-! DEFINITION. The port commands of firmware 3.x, group 0x05 (R213), but STREAM_RX, which stages into Curtain. -/

namespace Sys2Proof.Machine

/-- The mailbox may act on the port: it opened it, or is a principal while the port is not open (R213, R57). -/
def Device.mayPort (d : Device) (v : Via) (p : Nat) : Bool := if (d.prtx p).isOpen then d.mayAct v (.port p) else v.principal

/-- PORT names no port, or one that is present (R5). -/
def Device.portThere (d : Device) (p : Nat) : Bool := decide (7 < p) || d.portPresent p

/-- What every port command checks first: PORT, the borrow (R23, R213), and who may. -/
def Device.portCheck (d : Device) (e : Entry) : Nat :=
  let p := e.u 12 1
  if 7 < p then stBAD_FIELD else if d.lent p then stBUSY else if !d.mayPort e.via p then stNOT_OWNER else stOK

def portQuerySpec : CmdSpec := { opcode := 0x0500, minLen := 1, maxLen := 1 }

/-- PORT_QUERY: the spec gives the response no layout, so its payload is free (log entry 29). -/
def Device.portQuery (e : Entry) (d : Device) : Reply :=
  let p := e.u 12 1
  if 7 < p then d.no stBAD_FIELD
  else if d.lent p then d.no stBUSY
  else
    let r := d.draw
    r.2.ok ((List.range 32).map (Config.openByte r.1))

def portOpenSpec : CmdSpec := { opcode := 0x0501, minLen := 32, modes := modesSST, wakes := fun e => [e.u 12 1] }

/-- PP_CTL as a word. -/
def portCtlWord (mode enable role emit : Nat) : Word := BitVec.ofNat 64 (mode + 16 * enable + 32 * role + 64 * emit)

/-- PORT_OPEN. -/
def Device.portOpen (e : Entry) (d : Device) : Reply :=
  let p := e.u 12 1
  let mode := e.u 13 1
  let emit := bit (e.u 15 1) 1
  if 7 < p ∨ 9 < mode ∨ 1 < e.u 14 1 ∨ 3 < e.u 15 1 ∨ bit (e.u 22 2) 15 ∨ e.u 44 20 ≠ 0 ∨ (mode = 8 ∧ p % 2 = 1) then d.no stBAD_FIELD
  else if d.lent p then d.no stBUSY
  else if mode = 8 ∧ !d.mayBorrow p then d.no stNOT_PRESENT
  else if (d.prtx p).isOpen ∨ (mode = 8 ∧ (d.prtx (p + 1)).isOpen) then d.no stBUSY
  else if emit ∧ !bit (d.get R.NET_PORTS_EMIT_OK []) p then d.no stNET_REFUSED
  else
    let d := d.portCtlWrite p (portCtlWord (d.pmode p) 0 (d.get R.PP_CTL_ROLE [p]) 0)
    let d := d.portCtlWrite p (portCtlWord mode 0 (e.u 14 1) 0)
    let d := d.put R.PP_MAC_MAC [p] (e.u 16 6)
    let d := (d.put R.PP_VLAN_VID [p] (e.u 22 2 % 4096)).put R.PP_VLAN_PCP [p] (e.u 22 2 / 4096 % 8)
    let d := d.put R.PP_VLAN_TAG_EN [p] (e.u 15 1 % 2)
    let d := d.put R.PP_IP4_ADDR [p] (e.u 24 4)
    let d := (d.put R.PP_IP6_LO_ADDR [p] (e.u 28 8)).put R.PP_IP6_HI_ADDR [p] (e.u 36 8)
    let d := d.portCtlWrite p (portCtlWord mode 1 (e.u 14 1) (b2n emit))
    let d := (d.setPrt p { d.prtx p with isOpen := true }).own e.via (.port p)
    d.ok []

def portCloseSpec : CmdSpec := { opcode := 0x0502, minLen := 1, maxLen := 1 }

/-- PORT_CLOSE: ENABLE, then MODE, ending any borrow (R23). -/
def Device.portClose (e : Entry) (d : Device) : Reply :=
  let p := e.u 12 1
  let c := d.portCheck e
  if c ≠ 0 then d.no c
  else if d.frameOpen p then d.no stBUSY
  else
    let d := if (d.prtx p).link.isSome then d.linkDone p 0x0510 else d
    let d := d.portCtlWrite p (portCtlWord (d.pmode p) 0 (d.get R.PP_CTL_ROLE [p]) 0)
    let d := d.portCtlWrite p (portCtlWord 0 0 (d.get R.PP_CTL_ROLE [p]) 0)
    let d := (d.setPrt p { d.prtx p with isOpen := false }).disown (.port p)
    d.ok []

def portLinkSpec : CmdSpec := { opcode := 0x0503, minLen := 4, maxLen := 4, modes := modesSST, mayAccept := true,
                                wakes := fun e => [e.u 12 1] }

/-- PORT_LINK. -/
def Device.portLink (e : Entry) (d : Device) : Reply :=
  let p := e.u 12 1
  let c := d.portCheck e
  let m := d.pmode p
  if c ≠ 0 then d.no c
  else if m = 0 ∨ 9 < m then d.no stBAD_FIELD
  else if modeVxl m ∧ (d.portLanes p).any (fun l => !d.flag R.NET_LN_TX_EN [l]) then d.no stNET_REFUSED
  else
    let ctl := fun (en : Nat) => portCtlWord m en (d.get R.PP_CTL_ROLE [p]) (d.get R.PP_CTL_EMIT [p])
    let d := if d.pstate p = 5 then d.portCtlWrite p (ctl 0) else d
    let d := d.portCtlWrite p (ctl 1)
    let ms := if e.u 14 2 = 0 then 1000 else e.u 14 2
    let d := d.setPrt p { d.prtx p with link := some { start := d.tt, limitMs := ms } }
    let d := if modeVxl m then (d.portLanes p).foldl (fun d l => d.startTraining l 1 3 500 true) d else d
    d.accepted [p] p

/-- What VXL_CALIBRATE starts once it is answered ACCEPTED: its rounds, in place of a periodic calibration. -/
def Device.vxlCalibrateGo (d : Device) (e : Entry) : Device :=
  let p := e.u 12 1
  if d.working 0x0505 [p] ∧ !(match (d.prtx p).cal with | some c => !c.periodic | none => false) then
    d.calStart p (if e.u 13 1 = 0 then 16 else e.u 13 1) false
  else d

def vxlCalibrateSpec : CmdSpec := { opcode := 0x0505, minLen := 2, maxLen := 2, modes := [1, 2], mayAccept := true,
                                    wakes := fun e => [e.u 12 1] }

/-- VXL_CALIBRATE. -/
def Device.vxlCalibrate (e : Entry) (d : Device) : Reply :=
  let p := e.u 12 1
  let c := d.portCheck e
  if c ≠ 0 then d.no c
  else if !d.vxlUp p ∨ !d.hostRole p then d.no 0x0513
  else { d.accepted [p] p with act := fun (d : Device) => d.vxlCalibrateGo e }

def vxlRegSpec : CmdSpec := { opcode := 0x0506, minLen := 28, maxLen := 28, modes := modesSST, mayAccept := true,
                              wakes := fun e => [e.u 12 1] }

/-- VXL_REG. -/
def Device.vxlReg (e : Entry) (d : Device) : Reply :=
  let p := e.u 12 1
  let c := d.portCheck e
  let op := e.u 13 1
  if c ≠ 0 then d.no c
  else if op = 0 ∨ 2 < op ∨ e.u 14 1 = 0 ∨ 4 < e.u 14 1 ∨ e.u 16 8 % 4 ≠ 0 then d.no stBAD_FIELD
  else if !d.vxlUp p then d.no 0x0513
  else
    let n := (d.prtx p).ccSerial
    (d.ccRequest p op (e.u 14 1) (e.u 16 8) 0 (if op = 2 then leBytes 16 (e.u 24 16) else [])).accepted [p, n] p

def ptpConfigSpec : CmdSpec := { opcode := 0x0507, minLen := 2, maxLen := 2, modes := modesSST,
                                 wakes := fun e => [e.u 12 1] }

/-- PTP_CONFIG. -/
def Device.ptpConfig (e : Entry) (d : Device) : Reply :=
  let p := e.u 12 1
  let c := d.portCheck e
  if c ≠ 0 then d.no c
  else if 63 < e.u 13 1 then d.no stBAD_FIELD
  else (d.wr R.PP_PTP [p] (BitVec.ofNat 64 (e.u 13 1))).ok []

/-- Firmware's sample of a port's RC counters into its totals (PORT_COUNTERS). -/
def Device.samplePort (d : Device) (p : Nat) : Device :=
  let x := d.prtx p
  let x := { x with totRx := x.totRx + d.get R.PP_CNT_RX_PKTS [p], totTx := x.totTx + d.get R.PP_CNT_TX_PKTS [p]
                    totErr := x.totErr + d.get R.PP_CNT_ERR_RX_ERR [p], totSlow := x.totSlow + d.get R.PP_SLOW_DROP [p]
                    totCrc := x.totCrc + d.get R.PP_VXL_ERR_CRC_ERR [p], totStray := x.totStray + d.get R.PP_VXL_ERR_STRAY [p] }
  [R.PP_CNT_RX, R.PP_CNT_TX, R.PP_CNT_ERR, R.PP_SLOW, R.PP_VXL_ERR].foldl (fun d r => d.wr r [p] 0) (d.setPrt p x)

def portCountersSpec : CmdSpec := { opcode := 0x0508, minLen := 2, maxLen := 2 }

/-- PORT_COUNTERS. -/
def Device.portCounters (e : Entry) (d : Device) : Reply :=
  let p := e.u 12 1
  let c := d.portCheck e
  if c ≠ 0 then d.no c
  else if 1 < e.u 13 1 then d.no stBAD_FIELD
  else
    let d := d.samplePort p
    let x := d.prtx p
    let pl := layout [(8, x.totRx), (8, x.totTx), (4, x.totErr), (4, x.totSlow), (4, x.totCrc), (4, x.totStray)]
    let d := if e.u 13 1 = 1 then
        d.setPrt p { x with totRx := 0, totTx := 0, totErr := 0, totSlow := 0, totCrc := 0, totStray := 0 } else d
    d.ok pl

end Sys2Proof.Machine
end

