-- ==== Sys2Proof/Machine/Crypto.lean ====
section
/-! DEFINITION. The cryptography the security unit and the seal booth use: HMAC-SHA-384, ECDSA on brainpoolP384r1
(RFC 5639) with SHA-384, the key derivation of R453 and R455, and reading a certificate's public key (R454). -/

namespace Sys2Proof.Machine

/-! ### HMAC-SHA-384 -/

/-- HMAC-SHA-384 of a message under a key (block size 128 bytes). -/
def hmac384 (key msg : List Byte) : List Byte :=
  let k := fit 128 (if key.length ≤ 128 then key else sha384 key)
  sha384 (k.map (· ^^^ 0x5C) ++ sha384 (k.map (· ^^^ 0x36) ++ msg))

/-! ### Arithmetic modulo a prime -/

/-- `acc · b ^ e` modulo `m`, over at most `fuel` bits of `e`. -/
def powModFrom : Nat → Nat → Nat → Nat → Nat → Nat
  | 0, _, _, _, acc => acc
  | fuel + 1, m, b, e, acc => powModFrom fuel m (b * b % m) (e / 2) (if e % 2 = 1 then acc * b % m else acc)

/-- The inverse modulo a prime of at most 384 bits. -/
def invMod (m a : Nat) : Nat := powModFrom 384 m (a % m) (m - 2) 1

/-! ### brainpoolP384r1 -/

def bpP : Nat := 0x8CB91E82A3386D280F5D6F7E50E641DF152F7109ED5456B412B1DA197FB71123ACD3A729901D1A71874700133107EC53
def bpA : Nat := 0x7BC382C63D8C150C3C72080ACE05AFA0C2BEA28E4FB22787139165EFBA91F90F8AA5814A503AD4EB04A8C7DD22CE2826
def bpB : Nat := 0x04A8C7DD22CE28268B39B55416F0447C2FB77DE107DCD2A62E880EA53EEB62D57CB4390295DBC9943AB78696FA504C11
def bpGx : Nat := 0x1D1C64F068CF45FFA2A63A81B7C13F6B8847A3E77EF14FE3DB7FCAFE0CBD10E8E826E03436D646AAEF87B2E247D4AF1E
def bpGy : Nat := 0x8ABE1D7520F9C2A45CB1EB8E95CFD55262B70B29FEEC5864E19C054FF99129280E4646217791811142820341263C5315
/-- The order n of the curve. -/
def bpN : Nat := 0x8CB91E82A3386D280F5D6F7E50E641DF152F7109ED5456B31F166E6CAC0425A7CF3AB6AF6B7FC3103B883202E9046565

/-- A point of the curve; `none` is the point at infinity. -/
abbrev Point := Option (Nat × Nat)

/-- The point lies on the curve. -/
def onCurve (x y : Nat) : Bool := decide (x < bpP ∧ y < bpP ∧ y * y % bpP = (x * x * x + bpA * x + bpB) % bpP)

/-- The chord or tangent of slope `l` through (x, y) with second abscissa `x2` gives the sum. -/
def chord (l x y x2 : Nat) : Point :=
  let x3 := (l * l + 2 * bpP - x - x2) % bpP
  some (x3, (l * (x + bpP - x3) + bpP - y) % bpP)

/-- Addition on the curve. -/
def pointAdd : Point → Point → Point
  | none, q => q
  | p, none => p
  | some (x1, y1), some (x2, y2) =>
    if x1 = x2 then
      if (y1 + y2) % bpP = 0 then none
      else chord ((3 * x1 * x1 + bpA) * invMod bpP (2 * y1) % bpP) x1 y1 x2
    else chord ((y2 + bpP - y1) * invMod bpP (x2 + bpP - x1) % bpP) x1 y1 x2

/-- `acc + k · p`, over at most `fuel` bits of `k`. -/
def pointMulFrom : Nat → Nat → Point → Point → Point
  | 0, _, _, acc => acc
  | fuel + 1, k, p, acc => pointMulFrom fuel (k / 2) (pointAdd p p) (if k % 2 = 1 then pointAdd acc p else acc)

/-- `k · p` for k of at most 384 bits. -/
def pointMul (k : Nat) (p : Point) : Point := pointMulFrom 384 k p none

/-- The base point. -/
def bpG : Point := some (bpGx, bpGy)

/-- A public key as an image or a request carries it: 0x04, then X and Y (R439). -/
def pubBytes (d : Nat) : List Byte :=
  match pointMul d bpG with
  | some (x, y) => 0x04 :: (beBytes 48 x ++ beBytes 48 y)
  | none => zeros 97

/-- An ECDSA signature, r then s (96 bytes), holds for a message under a 97-byte public key. -/
def ecdsaVerify (pub msg sig : List Byte) : Bool :=
  let x := ofBE ((pub.drop 1).take 48)
  let y := ofBE ((pub.drop 49).take 48)
  let r := ofBE (sig.take 48)
  let s := ofBE ((sig.drop 48).take 48)
  decide (pub.length = 97 ∧ sig.length = 96 ∧ pub.head? = some 0x04 ∧ 1 ≤ r ∧ r < bpN ∧ 1 ≤ s ∧ s < bpN) && onCurve x y &&
    (let w := invMod bpN s
     let z := ofBE (sha384 msg)
     match pointAdd (pointMul (z * w % bpN) bpG) (pointMul (r * w % bpN) (some (x, y))) with
     | some (v, _) => decide (v % bpN = r)
     | none => false)

/-- The ECDSA signature of a message under the private key `d` with the per-signature number `k`. -/
def ecdsaSign (d k : Nat) (msg : List Byte) : List Byte :=
  match pointMul k bpG with
  | some (x, _) =>
    let r := x % bpN
    beBytes 48 r ++ beBytes 48 (invMod bpN k * (ofBE (sha384 msg) + r * d) % bpN)
  | none => zeros 96

/-! ### Keys -/

/-- The first k of `c`, `c + 1`, … with 1 ≤ k < n, k being the HMAC of `msg` and the counter's byte (R453). -/
def deriveFrom (key msg : List Byte) : Nat → Nat → Nat
  | 0, _ => 1
  | fuel + 1, c =>
    let k := ofBE (hmac384 key (msg ++ [BitVec.ofNat 8 c]))
    if 1 ≤ k ∧ k < bpN then k else deriveFrom key msg fuel (c + 1)

/-- The private key derived from a key and a message (R453, R455). -/
def deriveKey (key msg : List Byte) : Nat := deriveFrom key msg 256 0

/-- The ASCII bytes of a text. -/
def ascii (t : String) : List Byte := t.toList.map (fun c => BitVec.ofNat 8 c.toNat)

/-- The identity key (R453). -/
def identityKey (seed : List Byte) (dieId : Nat) : Nat := deriveKey seed (ascii "LN8832 ID" ++ leBytes 8 dieId)

/-- The seal key (R455). -/
def sealKeyOf (idKey : Nat) (nonce : List Byte) : Nat := deriveKey (beBytes 48 idKey) (ascii "LN8832 SEAL" ++ fit 32 nonce)

/-! ### The certificate (R454) -/

/-- A DER element: its tag, its content and what follows it; none where the bytes do not hold one. -/
def derNext (bs : List Byte) : Option (Nat × List Byte × List Byte) :=
  match bs with
  | t :: l :: rest =>
    let n := l.toNat
    let head := if n < 128 then some (n, rest)
      else if n = 0x81 then some (ofBE (rest.take 1), rest.drop 1)
      else if n = 0x82 then some (ofBE (rest.take 2), rest.drop 2)
      else none
    match head with
    | some (len, body) => if len ≤ body.length then some (t.toNat, body.take len, body.drop len) else none
    | none => none
  | _ => none

/-- Skip `n` DER elements. -/
def derSkip : Nat → List Byte → Option (List Byte)
  | 0, bs => some bs
  | n + 1, bs =>
    match derNext bs with
    | some (_, _, rest) => derSkip n rest
    | none => none

/-- The length of the certificate at the head of the area, header bytes included; 0 where none stands. -/
def certLength (area : List Byte) : Nat :=
  match derNext area with
  | some (0x30, body, rest) => if body.isEmpty then 0 else area.length - rest.length
  | _ => 0

/-- The subject public key of an X.509 v3 certificate: the BIT STRING of SubjectPublicKeyInfo, the seventh element of
TBSCertificate, without its leading count of unused bits. -/
def certPub (area : List Byte) : List Byte :=
  match derNext area with
  | some (0x30, cert, _) =>
    match derNext cert with
    | some (0x30, tbs, _) =>
      match derSkip 6 tbs with
      | some rest =>
        match derNext rest with
        | some (0x30, spki, _) =>
          match derSkip 1 spki with
          | some b => match derNext b with
            | some (0x03, key, _) => key.drop 1
            | _ => []
          | none => []
        | _ => []
      | none => []
    | _ => []
  | _ => []

/-! ### Numbers the device draws (log entry 39) -/

/-- `n` free bytes of the device's own making (log entry 39). -/
def Device.secret (d : Device) (n : Nat) : List Byte × Device :=
  let r := d.draw
  ((List.range n).map (Config.secretByte r.1), r.2)

/-- A signature of `msg` under a private key, with a number k the device draws, 1 ≤ k < n (R458, R264, R267). -/
def Device.signWith (d : Device) (key : Nat) (msg : List Byte) : List Byte × Device :=
  let r := d.secret 48
  (ecdsaSign key (ofBE r.1 % (bpN - 1) + 1) msg, r.2)

end Sys2Proof.Machine
end

