-- ==== Sys2Proof/Machine/Mordant.lean ====
section
/-! DEFINITION. The seal booth (R261 to R272): accepting seals, closing, signing and writing manifests, their copies to
the host, and the recovery of R271. -/

namespace Sys2Proof.Machine

/-- The seal booth beside its registers. -/
def Device.mb (d : Device) : SealBooth := d.prt.mordant

/-- Entry number `n`, or the one after it where its low 32 bits are all ones (R262). -/
def skipEntry (n : Nat) : Nat := if n % 2 ^ 32 = 0xFFFFFFFF then n + 1 else n

/-- MB_STAT, MB_SEQ and MB_ENTRY show the builder as it stands. -/
def Device.showMb (d : Device) : Device :=
  let b := d.mb
  let d := d.put R.MB_STAT_OPEN_COUNT [] b.open_.entries.length
  let d := d.put R.MB_STAT_FREE [] (d.get R.MB_RINGN_SLOTS [] - b.busySlots.length)
  let d := d.setFlag R.MB_STAT_HELD [] b.held.isSome
  let d := d.setFlag R.MB_STAT_SIGNING [] b.signing.isSome
  let d := d.setFlag R.MB_STAT_WAITING [] b.waiting.isSome
  let d := d.wr R.MB_SEQ [] (BitVec.ofNat 64 b.open_.seq)
  d.wr R.MB_ENTRY [] (BitVec.ofNat 64 (skipEntry b.entry))

/-- Replace the seal booth's state. -/
def Device.setMb (d : Device) (b : SealBooth) : Device := ({ d with prt := { d.prt with mordant := b } }).showMb

/-- The seal booth works: neither FAULTED nor HALTED (R271). -/
def Device.sealUp (d : Device) : Bool := !d.boothDown 13

/-! ### Manifests -/

/-- The header (R264). -/
def ManX.header (m : ManX) (unsigned : Bool) (nonce prev : List Byte) : List Byte :=
  layout [(4, 0x464D4E4C), (2, 1), (2, b2n unsigned + 2 * m.reason + 16 * b2n m.deferred), (2, m.sdn), (2, 0), (4, m.entries.length),
    (8, m.seq), (8, m.first), (8, m.openTT.toNat), (8, m.closeTT.toNat), (4, m.closeEpoch), (12, 0)]
    ++ fit 32 nonce ++ fit 48 prev ++ zeros 48

/-- A manifest entry (R265). -/
def sealEntry (no port : Nat) (s : SealX) : List Byte :=
  layout [(8, no), (8, s.frame), (4, s.epoch), (1, port), (1, s.stream), (2, s.status), (8, 0)] ++ fit 48 s.hash ++ fit 48 s.digest

/-- The boot nonce (R272). -/
def Device.nonce (d : Device) : List Byte := (List.range 4).flatMap (fun k => leBytes 8 (d.rd R.MB_NONCE [k]).toNat)

/-- MAX_ENTRIES as it acts. -/
def Device.maxEntries (d : Device) : Nat := clamp 1 8192 (d.get R.MB_CTL_MAX_ENTRIES [])

/-- A waiting manifest goes into signing when the signer is free: it is not while a signed manifest is held (R268). -/
def Device.signNext (d : Device) : Device :=
  let b := d.mb
  if b.signing.isNone ∧ b.held.isNone ∧ b.waiting.isSome then d.setMb { b with signing := b.waiting, waiting := none } else d

/-- The entries the open manifest took in this very tick: a seal that arrives in the tick of a close enters the next one (R269). -/
def Device.freshEntries (d : Device) : Nat := if d.mb.freshAt = d.tt then min d.mb.fresh d.mb.open_.entries.length else 0

/-- A manifest after its first `n` entries: the number of the next one stands in the first 8 bytes of an entry (R265). -/
def ManX.after (m : ManX) (n next : Nat) (now : TT) : ManX :=
  let rest := m.entries.drop n
  { seq := m.seq + 1, first := match rest with | [] => next | e :: _ => fieldAt e 0 8, openTT := now, entries := rest }

/-- The open manifest closes and the next opens in the same tick; where a second would have to wait, the close is
deferred (R263). Reasons: 0 COUNT, 1 INTERVAL, 2 FLUSH, 3 FAULT. Seals of the tick enter the next manifest, but for those of a close
by COUNT, which they bring about, and of a deferred one (R269). -/
def Device.closeManifest (d : Device) (reason : Nat) (deferred : Bool) : Device :=
  let b := d.mb
  if b.waiting.isSome then
    (if b.deferred.isSome then d else d.setMb { b with deferred := some reason })
  else
    let keep := b.open_.entries.length - (if reason = 0 ∨ deferred then 0 else d.freshEntries)
    let m := { b.open_ with entries := b.open_.entries.take keep, closeTT := d.tt, closeEpoch := d.epoch, sdn := d.sdn, reason := reason
                            deferred := deferred }
    (d.setMb { b with open_ := b.open_.after keep (skipEntry b.entry) d.tt, waiting := some m, deferred := none }).signNext

/-- INTERVAL or FLUSH closed a manifest in this tick, and the seals that have come in it reach COUNT: there is one close, by COUNT
(R269). The closed manifest takes them back. -/
def Device.countCloses (d : Device) : Device :=
  let b := d.mb
  let take := fun (m : ManX) => { m with entries := m.entries ++ b.open_.entries, reason := 0 }
  let hit := fun (m : ManX) => decide (m.closeTT = d.tt) && decide (m.reason = 1) && decide (m.seq + 1 = b.open_.seq)
    && decide (d.maxEntries ≤ m.entries.length + b.open_.entries.length)
  let next := b.open_.after b.open_.entries.length (skipEntry b.entry) d.tt
  let next : ManX := { next with seq := b.open_.seq }
  match b.waiting, b.signing with
  | some m, _ => if hit m then d.setMb { b with waiting := some (take m), open_ := next } else d
  | none, some m => if hit m then d.setMb { b with signing := some (take m), open_ := next } else d
  | none, none => d

/-- A deferred close takes place once the waiting place is free (R263). -/
def Device.closeDeferred (d : Device) : Device :=
  match d.mb.deferred with
  | some r => if d.mb.waiting.isNone then d.closeManifest r true else d
  | none => d

/-- The open manifest is full and cannot close (R263). -/
def Device.manifestFull (d : Device) : Bool := d.mb.waiting.isSome && decide (8192 ≤ d.mb.open_.entries.length)

/-- The builder refuses seals (R268): its ring is exhausted, so that a manifest is held, another waits, and the open one is full. With
the signer merely busy a seal waits in its slice. -/
def Device.sealsRefused (d : Device) : Bool := d.manifestFull && d.mb.held.isSome

/-- The slice whose head seal comes next: the earliest, the lower port in one tick (R262). -/
def Device.nextSeal (d : Device) : Option Nat :=
  (List.range 8).foldl (fun a p => match (d.bth p).seals with
    | [] => a
    | s :: _ => match a with
      | none => some p
      | some q => match (d.bth q).seals with
        | t :: _ => if ttDiff s.made t.made < 0 then some p else some q
        | [] => some p) none

/-- A sealed frame's tag: SEALED and SEAL_INDEX, written again beside the payload (R232, R261). -/
def Device.sealTagWrite (d : Device) (p : Nat) (s : SealX) (index : Nat) : Device :=
  match (d.cap p s.stream).frame s.frame with
  | none => d
  | some f =>
    let st := fieldAt f.tag 72 4
    let tag := patch (patch f.tag 72 (leBytes 4 (if bit st 15 then st else st + 0x8000))) 88 (leBytes 4 index)
    let d := d.modFrames p s.stream (fun x => decide (x.no = s.frame)) (fun x => { x with tag := tag, sealSt := 2 })
    if f.slot.isSome then (d.portWrite p (f.base + f.cfg.tagOffset) tag).2 else d

/-- The builder takes the next seal (R261 to R263, R269): an enabled builder numbers it, or refuses it. -/
def Device.sealAccept (d : Device) : Device :=
  match d.nextSeal with
  | none => d
  | some p =>
    match (d.bth p).seals with
    | [] => d
    | s :: rest =>
      if !d.sealUp ∨ !d.flag R.MB_CTL_EN [] ∨ (d.manifestFull ∧ !d.sealsRefused) then d
      else
        let d := (d.setBth p { d.bth p with seals := rest }).put R.MS_STAT_WAITING [p] rest.length
        if d.sealsRefused then
          let d := (d.bump R.MS_STAT_DROP [p]).bump R.MB_CNT_REFUSED []
          d.modFrames p s.stream (fun x => decide (x.no = s.frame)) (fun x => { x with sealSt := 3 })
        else
          let no := skipEntry d.mb.entry
          let b := d.mb
          let o := b.open_
          let o := { o with first := if o.entries = [] then no else o.first, entries := o.entries ++ [sealEntry no p s] }
          let d := d.setMb { b with open_ := o, entry := no + 1, freshAt := d.tt, fresh := if b.freshAt = d.tt then b.fresh + 1 else 1 }
          let d := d.sealTagWrite p s (no % 2 ^ 32)
          if d.maxEntries ≤ o.entries.length ∧ b.deferred.isNone then d.closeManifest 0 false else d.countCloses

/-- INTERVAL has passed since the manifest opened (R263, R269): COUNT comes first, and an empty one may be skipped. -/
def Device.intervalClose (d : Device) : Device :=
  let b := d.mb
  let us := clamp 1000 4000000 (d.get R.MB_INTERVAL_US [])
  if !d.sealUp ∨ !d.flag R.MB_CTL_EN [] ∨ b.deferred.isSome ∨ ttDiff d.tt b.open_.openTT < (us * 1000 * 65536 : Nat)
      ∨ (b.open_.entries = [] ∧ d.flag R.MB_CTL_EMPTY_SKIP []) then d
  else d.closeManifest 1 false

/-- FLUSH (R263, R269): ignored while a close is deferred. -/
def Device.mbFlush (d : Device) : Device :=
  if !d.sealUp ∨ !d.flag R.MB_CTL_EN [] ∨ d.mb.deferred.isSome then d else d.closeManifest 2 false

/-- EN of the builder is adopted: from 0 to 1 its manifest opens, or goes on where it holds entries (R263). -/
def Device.mbAdopt (d : Device) (on : Bool) : Device :=
  let b := { d.mb with enabled := on, opened := d.mb.opened || on }
  if on ∧ !d.mb.enabled ∧ b.open_.entries = [] then
    d.setMb { b with open_ := { b.open_ with openTT := d.tt, first := skipEntry b.entry } }
  else d.setMb b

/-! ### Copies to the host (MD_CONFIG) -/

/-- A ring slot becomes free by MB_REL (R268). -/
def Device.freeSlot (d : Device) (m : Nat) : Device :=
  d.setMb { d.mb with busySlots := d.mb.busySlots.filter (fun s => decide (s ≠ m)) }

/-- The size of a ring slot (R268). -/
def manifestSlot : Nat := 1114112

/-- The ring slot the next manifest takes (R268). -/
def Device.ringSlot (d : Device) : Nat := if d.mb.nextSlot < d.get R.MB_RINGN_SLOTS [] then d.mb.nextSlot else 0

/-- The held manifest may be tried: not within 1 ms of a refusal by the Net (R268). -/
def Device.mayRetry (d : Device) : Bool :=
  match d.mb.refusedAt with
  | some t => decide ((1000000 * 65536 : Int) ≤ ttDiff d.tt t)
  | none => true

/-- The held manifest is written into the next ring slot if it is free (R268): the event, and the answer of MD_FLUSH. A
refused write counts as a violation, and the manifest stays held. -/
def Device.manifestPut (d : Device) : Device :=
  match d.mb.held with
  | none => d
  | some (m, bs) =>
    let slot := d.ringSlot
    if d.mb.busySlots.contains slot ∨ d.get R.MB_RINGN_SLOTS [] = 0 ∨ !d.mayRetry then d
    else
      let a := d.get R.MB_RING_BASE [] + slot * manifestSlot
      if !d.netAdmits true true .port a bs.length then
        (d.setMb { d.mb with refusedAt := some d.tt }).violation 13 1 a bs.length (4 * 4096 + 13)
      else
        let d := d.hbmWrite a bs
        let b := d.mb
        let d := d.setMb { b with held := none, refusedAt := none, busySlots := b.busySlots ++ [slot]
                                  nextSlot := (slot + 1) % d.get R.MB_RINGN_SLOTS []
                                  toHost := if b.hostCount = 0 then b.toHost
                                            else b.toHost ++ [[slot, m.seq, m.first, m.entries.length, fieldAt bs 6 2, bs.length]] }
        let d := d.put R.MB_STAT_LAST [] slot
        let d := d.fireIf R.MB_EV_EN R.MB_EV_EV []
        let d := d.finish 0x0705 [m.seq] 0 (layout [(8, m.seq), (4, m.entries.length)])
        d.signNext.closeDeferred

/-- The same while the seal booth runs; HALTED it keeps what it holds (R271). -/
def Device.manifestWrite (d : Device) : Device := if d.sealUp then d.manifestPut else d

/-- Firmware copies the oldest written manifest to its host slot, gives its notice and releases the ring slot, unless
HOST_COUNT notices wait to be consumed or the queue has no room. -/
def Device.manifestToHost (d : Device) : Device :=
  match d.mb.toHost with
  | [slot, seq, first, count, flags, len] :: rest =>
    let b := d.mb
    let dst := b.hostAddr + seq % max 1 b.hostCount * manifestSlot
    if !d.ready ∨ b.hostCount ≤ (d.ctx b.queue).level ∨ d.roomLeft b.queue = 0 ∨ (d.ctx b.queue).kind ≠ 5 ∨ (d.ctx b.queue).error
        ∨ !d.netAdmits false true .queue dst len then d
    else
      let src := d.get R.MB_RING_BASE [] + slot * manifestSlot
      let d := { d with hostMem := copySparse d.hbm d.hostMem hostFill src dst len }
      let d := (d.append b.queue 5 (layout [(8, seq), (8, first), (4, count), (2, flags), (2, 0), (8, dst), (4, len)] ++ zeros 28)).2
      (d.setMb { d.mb with toHost := rest }).freeSlot slot
  | _ => d

/-- Everything the seal booth can now write and firmware can now copy. -/
def Device.manifestFlow (d : Device) : Device :=
  (List.range 64).foldl (fun d _ => d.manifestWrite.manifestToHost) d

/-- A write of MB_REL (R268, R269). -/
def Device.mbRelease (d : Device) (slot : Nat) : Device :=
  ((d.freeSlot slot).setMb { (d.freeSlot slot).mb with toHost := (d.freeSlot slot).mb.toHost.filter (fun t => decide (t.head? ≠ some slot)) }).manifestFlow

/-- The notices' queue has gained room. -/
def Device.retryManifests (d : Device) (q : Nat) : Device := if d.mb.queue = q ∧ d.mb.toHost ≠ [] then d.manifestFlow else d

/-- A held manifest is tried again every millisecond (R268). -/
def Device.manifestRetry (d : Device) : Device := if d.mb.held.isSome ∧ d.mayRetry then d.manifestFlow else d

/-! ### Signing -/

/-- KEY_ID (R266). -/
def Device.keyId (d : Device) : List Byte := (sha384 ((d.mb.stmt.drop 40).take 97)).take 8

/-- The manifest in the signer becomes bytes: header, entries and trailer (R264 to R266). -/
def Device.signBytes (d : Device) (m : ManX) : List Byte × Device :=
  let unsigned := !d.flag R.MB_STAT_KEY_READY []
  let body := m.header unsigned d.nonce d.mb.prevHash ++ m.entries.flatten
  let d := d.setMb { d.mb with prevHash := sha384 body }
  if unsigned then (body ++ zeros 128, d)
  else
    let r := match d.sec.sealKey with
      | some k => d.signWith k body
      | none => d.secret 96
    (body ++ r.1 ++ d.keyId ++ zeros 24, r.2)

/-- The signer is done (R266, R268): the manifest is written, or held. -/
def Device.manifestSigned (d : Device) : Device :=
  match d.mb.signing with
  | none => d
  | some m =>
    if !d.sealUp ∨ d.mb.held.isSome then d
    else
      let r := d.signBytes m
      let d := r.2
      let d := d.setMb { d.mb with signing := none, held := some (m, r.1), refusedAt := none }
      d.manifestFlow

/-! ### Recovery and reset -/

/-- RECOVER with SCOPE 2 closes the open manifest with reason FAULT (R271), one whose close was deferred as well; it waits for a
place where the signer has none. A builder never enabled has none open. -/
def Device.mordantRecoverClose (d : Device) : Device :=
  if !d.mb.opened then d else (d.setMb { d.mb with deferred := none }).closeManifest 3 d.mb.deferred.isSome

/-- The recovery signs and writes every pending manifest, the booth being halted; the second part tells that none is left (R271). -/
def Device.mordantFlush (d : Device) : Device × Bool :=
  let d := (List.range 4).foldl (fun d _ =>
    let d := match d.mb.signing with
      | some m => if d.mb.held.isSome then d
                  else
                    let r := d.signBytes m
                    r.2.setMb { r.2.mb with signing := none, held := some (m, r.1), refusedAt := none }
      | none => d
    (d.manifestPut).signNext.closeDeferred) d
  let b := d.mb
  (d, b.signing.isNone && b.waiting.isNone && b.held.isNone && b.deferred.isNone)

/-- The wipe of the seal booth clears the ring slot states and nothing of the chain (R271). -/
def Device.mordantWipe (d : Device) : Device := d.setMb { d.mb with busySlots := [], nextSlot := 0, toHost := [], enabled := false, refusedAt := none }

/-! ### Commands -/

def mdFlushSpec : CmdSpec := { opcode := 0x0705, maxLen := 0, modes := [1, 2], principal := true, mayAccept := true }

/-- MD_FLUSH: the final response follows when the flushed manifest has been written. -/
def Device.mdFlush (_ : Entry) (d : Device) : Reply := (d.mbFlush).accepted [d.mb.open_.seq] 99

def mdStatementSpec : CmdSpec := { opcode := 0x0706, needsOut := true }

/-- MD_STATEMENT. -/
def Device.mdStatement (e : Entry) (d : Device) : Reply :=
  if e.outLen < 288 then d.no stBAD_LENGTH
  else if !d.flag R.MB_STAT_KEY_READY [] then d.no 0x0712
  else { status := 0, out := fit 288 d.mb.stmt, dev := d }

def mdQuerySpec : CmdSpec := { opcode := 0x0707, maxLen := 0 }

/-- MD_QUERY. -/
def Device.mdQuery (_ : Entry) (d : Device) : Reply :=
  let st := b2n (d.flag R.MB_STAT_HELD []) + 2 * b2n (d.flag R.MB_STAT_SIGNING []) + 4 * b2n (d.flag R.MB_STAT_WAITING [])
    + 8 * b2n (d.flag R.MB_STAT_KEY_READY [])
  d.ok (layout [(8, d.mb.open_.seq), (8, skipEntry d.mb.entry), (2, d.mb.open_.entries.length), (1, d.get R.MB_STAT_FREE []), (1, st),
    (4, d.get R.MB_CNT_REFUSED [])])

end Sys2Proof.Machine
end

