-- ==== Sys2Proof/Machine/Barker.lean ====
section
/-! DEFINITION. Barker programs and the trigger pins (R350 to R367): fire instants, commits, acts, pulses, records, input
stamps and the action FIFO. Position crossings come from the feedback channels. -/

namespace Sys2Proof.Machine

/-! ### Fires and their acts -/

/-- A length in 1/128 ns as a tick time. -/
def sub128 (n : Nat) : TT := BitVec.ofNat 64 (n * 512)

/-- The largest measured delay of a port's logical lanes, in 1/64 ns (R355). -/
def Device.maxDelay (d : Device) (n : Nat) : Nat :=
  (List.range (modeLanes (d.pmode n))).foldl (fun m l => max m (d.get R.PP_VXL_DLY_DELAY [n, l])) 0

/-- The advance of a target kind (R355): pin and event channel, VXL port, action. -/
def Device.advance (d : Device) (kind index : Nat) : TT :=
  if kind = 2 then sub64 (d.get R.PP_VXL_INFO_TRIG_LAT [index % 8]) + sub64 (d.maxDelay (index % 8)) + ttNs 1100
  else if kind = 4 then ttNs (d.get R.BK_ACT_ADV_NS [])
  else ttNs 32

/-- The targets of a program that are set: number, kind, index, lead (R357). -/
def Device.targets (d : Device) (p : Nat) : List (Nat × Nat × Nat × TT) :=
  (List.range 4).map (fun t => (t, d.get R.BK_TGT_KIND [p, t], d.get R.BK_TGT_INDEX [p, t], sub128 (d.get R.BK_TGT_LEAD [p, t])))

/-- How long before a fire instant the earliest act commits; 0 without targets (R351, R354). -/
def Device.earliest (d : Device) (p : Nat) : Nat :=
  (d.targets p).foldl (fun m t => if t.2.1 = 0 then m else max m (t.2.2.2 + d.advance t.2.1 t.2.2.1).toNat) 0

/-- The four acts of a fire at `t`: target without a kind acts nothing and is done. -/
def Device.actsAt (d : Device) (p : Nat) (t : TT) : List Act :=
  (d.targets p).map (fun g => { kind := g.2.1, index := g.2.2.1, time := t - g.2.2.2, base := t
                                committed := decide (g.2.1 = 0), done := decide (g.2.1 = 0) })

/-- Every act of the fire is complete. -/
def Fire.complete (f : Fire) : Bool := f.acts.all (fun a => a.done)

/-- The fire has its number in BK_FIRES: it crossed, or an act of it has committed. -/
def Fire.counted (f : Fire) : Bool := f.crossed || f.acts.any (fun a => decide (a.kind ≠ 0) && a.committed)

/-- Fires whose acts are not yet complete (R350). -/
def ProgramX.open_ (x : ProgramX) : Nat := (x.fires.filter (fun f => !f.complete)).length

/-- The prediction not yet crossed, if one stands (R354). -/
def ProgramX.predicted (x : ProgramX) : Option Fire := x.fires.find? (fun f => !f.crossed && !f.recorded)

/-- Change the fire of a program that has a count. -/
def Device.onFire (d : Device) (p n : Nat) (g : Fire → Fire) : Device :=
  let x := d.prog p
  d.setProg p { x with fires := x.fires.map (fun f => if f.count = n then g f else f) }

/-- DONE once COUNT is reached and the pending acts are complete (R350, R363); fires recorded and complete go. -/
def Device.settleProg (d : Device) (p : Nat) : Device :=
  let x := d.prog p
  let x := { x with fires := x.fires.filter (fun f => !(f.complete && f.recorded)) }
  let d := d.setProg p x
  if d.flag R.BK_CTL_EN [p] ∧ d.get R.BK_STAT_STATE [p] = 1 ∧ !x.armed ∧ x.open_ = 0 then d.put R.BK_STAT_STATE [p] 2 else d

/-- BK_FIRES counts a fire; after COUNT of them the program makes no more (R350). -/
def Device.countFire (d : Device) (p : Nat) : Device :=
  let d := d.count R.BK_FIRES_FIRES [p]
  let n := d.get R.BK_COUNT_COUNT [p]
  if n ≠ 0 ∧ n ≤ d.get R.BK_FIRES_FIRES [p] then d.setProg p { d.prog p with armed := false } else d

/-- TRIG_ID: the low 16 bits of FIRE_COUNT, with 0xFFFF replaced by 0 (R360). -/
def trigIdOf (n : Nat) : Nat := if n % 65536 = 0xFFFF then 0 else n % 65536

/-- A pulse assigned to a pin (R358): the leading edge OUT_ADJ before the act, the trailing edge WIDTH later, a width below
2.0 ns widened to it (R494). -/
def Device.assignPulse (d : Device) (p n pin : Nat) (t : TT) : Device :=
  let lead := t - BitVec.ofInt 64 (sgn 16 (d.get R.TRG_ADJ_OUT_ADJ [pin]) * 512)
  let u : Pulse := { lead := lead, trail := lead + sub128 (max 256 (d.get R.BK_WIDTH_WIDTH [p])), prog := p, count := n, started := false }
  d.setPin pin { d.pin pin with pulses := (d.pin pin).pulses ++ [u] }

/-- What a VXL port is handed at the commit (R357, R360). -/
def Device.trigOut (d : Device) (p n t : Nat) (a : Act) : TrigOut :=
  { target := a.time, trigId := trigIdOf n, width := clamp 1 65535 (ceilDiv (d.get R.BK_WIDTH_WIDTH [p]) 128)
    level := d.flag R.BK_TGT_LEVEL [p, t], prog := p, tgt := t, count := n }

/-- An act commits at the present tick (R355): late where less than its advance is left, dropped where its port is not
UP in ROLE 0 (R360). `slack` is what the tick may overshoot the commit time by. -/
def Device.commitAct (d : Device) (p n t : Nat) (slack : Int) : Device :=
  match (d.prog p).fires.find? (fun f => decide (f.count = n)) with
  | none => d
  | some f => match f.acts[t]? with
    | none => d
    | some a =>
      if a.committed then d
      else
        let d := if f.counted then d else d.countFire p
        let adv := d.advance a.kind a.index
        let late := decide (ttDiff a.time (d.tt + adv) < -slack)
        let a := { a with committed := true, late := late, time := if late then d.tt + adv else a.time }
        let port := a.index % 8
        let down := decide (a.kind = 2) && !(d.vxlUp port && d.hostRole port)
        let d := if late ∨ down then d.bump R.BK_STAT_LATE [p] else d
        let a := { a with done := down, late := late || down }
        let d := (d.onFire p n (fun f => { f with acts := f.acts.set t a })).reviseRecord p n
        if a.kind = 1 then d.assignPulse p n (a.index % 16) a.time
        else if a.kind = 2 ∧ !down then
          d.setPrt port { d.prtx port with trigs := (d.prtx port).trigs ++ [d.trigOut p n t a] }
        else d

/-- The acts of a fire all commit now: T is known (R355). -/
def Device.commitAll (d : Device) (p n : Nat) : Device :=
  ((List.range 4).foldl (fun d t => d.commitAct p n t 0) d).settleProg p

/-- How far a tick may reach past an instant: less than what it adds to TT, in 1/65,536 ns. -/
def Device.tickSlack (d : Device) : Int := (d.ttPart / 65536 : Nat)

/-- BARKER_ACT_COMMIT: TT has reached an act time less its advance (R355). -/
def Device.actCommit (d : Device) (p t : Nat) : Device :=
  match (d.prog p).fires.find? (fun f => match f.acts[t]? with
    | some a => !a.committed && ttGe d.tt (a.time - d.advance a.kind a.index)
    | none => false) with
  | none => d
  | some f => (d.commitAct p f.count t d.tickSlack).settleProg p

/-! ### Fire instants -/

/-- A fire instant (R350): a fire of up to four acts, or one more in OVER while four are pending. -/
def Device.makeFire (d : Device) (p : Nat) (f : Fire) : Device :=
  let x := d.prog p
  if !x.armed then d
  else if 4 ≤ x.open_ then d.bump R.BK_STAT_OVER [p]
  else
    let n := (d.get R.BK_FIRES_FIRES [p] + 1) % 2 ^ 64
    let d := d.setProg p { x with fires := x.fires ++ [{ f with count := n, acts := d.actsAt p f.t }] }
    if f.crossed then d.countFire p else d

/-- A fire as it is first known. -/
def fireAt (t : TT) : Fire :=
  { t := t, count := 0, index := 0, posCount := 0, posRev := 0, interp := false, stamped := false, skewed := false
    dropped := false, crossed := true, recorded := false, acts := [] }

/-- S_k (R351). -/
def Device.schedule (d : Device) (p k : Nat) : TT :=
  d.rd R.BK_START [p] + BitVec.ofNat 64 (k * (d.rd R.BK_PERIOD [p]).toNat)

/-- The smallest index whose earliest act commits at or after `t` (R351). -/
def Device.firstIndex (d : Device) (p : Nat) (t : TT) : Nat :=
  let behind := ttDiff (t + BitVec.ofNat 64 (d.earliest p)) (d.rd R.BK_START [p])
  let period := (d.rd R.BK_PERIOD [p]).toNat
  if behind ≤ 0 then 0 else if period = 0 then 1 else ceilDiv behind.toNat period

/-- BK_NEXT shows the next or predicted T. -/
def Device.showNext (d : Device) (p : Nat) : Device :=
  if d.get R.BK_CTL_SRC [p] = 0 ∧ (d.prog p).armed then d.wr R.BK_NEXT [p] (d.schedule p (d.prog p).nextK) else d

/-- A TIME program's next index is due: its earliest act must commit now. -/
def Device.timeDue (d : Device) (p : Nat) : Bool :=
  let x := d.prog p
  x.armed && decide (d.get R.BK_CTL_SRC [p] = 0) && (decide (x.nextK = 0) || decide ((d.rd R.BK_PERIOD [p]).toNat ≠ 0))
    && ttGe d.tt (d.schedule p x.nextK - BitVec.ofNat 64 (d.earliest p))

/-- BARKER_TIME_FIRE: a TIME program reaches a schedule index (R351). -/
def Device.timeFire (d : Device) (p : Nat) : Device :=
  if !d.timeDue p then d
  else
    let k := (d.prog p).nextK
    let d := d.makeFire p { fireAt (d.schedule p k) with index := k }
    ((d.setProg p { d.prog p with nextK := k + 1 }).showNext p).settleProg p

/-- BARKER_EVENT_FIRE: an accepted firing of an EVENT program's source gives T = F + DELAY (R352). -/
def Device.eventFire (d : Device) (p : Nat) (stamp : Option TT) : Device :=
  let x := d.prog p
  if !x.armed ∨ d.get R.BK_CTL_SRC [p] ≠ 2 then d
  else
    let t := stamp.getD d.tt + ttNs (d.get R.BK_COUNT_DELAY [p])
    let d := d.makeFire p { fireAt t with stamped := stamp.isSome }
    let d := d.wr R.BK_NEXT [p] t
    match (d.prog p).fires.getLast? with
    | some f => if x.open_ < 4 then d.commitAll p f.count else d
    | none => d

/-! ### Positions -/

/-- MODE of a feedback channel (R369). -/
def Device.fbMode (d : Device) (f : Nat) : Nat := d.get R.FB_CTL_MODE [f]

/-- P of an SSI channel: BITS − TURN_BITS (R373). -/
def Device.ssiBits (d : Device) (f : Nat) : Nat := d.get R.FB_SSI_BITS [f] - d.get R.FB_SSI_TURN_BITS [f]

/-- Counts per revolution of a wrapping channel (R374); in MODE 3 it always wraps, at 2^P. -/
def Device.fbWrap (d : Device) (f : Nat) : Option Nat :=
  if d.fbMode f = 3 then some (2 ^ d.ssiBits f)
  else if d.flag R.FB_CTL_WRAP [f] then some (max 1 (d.get R.FB_CPR_CPR [f])) else none

/-- The position in whole counts: COUNT of a wrapping channel, the signed 64-bit value of another (R374). -/
def Device.fbPos (d : Device) (f : Nat) : Int :=
  match d.fbWrap f with
  | some _ => (d.get R.FB_POS_COUNT [f] : Int)
  | none => sgn 32 (d.get R.FB_POS_REV [f]) * 2 ^ 32 + d.get R.FB_POS_COUNT [f]

/-- How far ahead a target lies in a direction, in 1/65,536 count; on a wrapping channel at least one step and at most a
revolution (R353, R379). -/
def ahead (wrap : Option Nat) (back : Bool) (pos tgt : Int) : Int :=
  let dist := if back then pos - tgt else tgt - pos
  match wrap with
  | none => dist
  | some c =>
    let r := dist % ((c : Int) * 65536)
    if r = 0 then (c : Int) * 65536 else r

/-- The target of a POSITION program in 1/65,536 count. -/
def ProgramX.target (x : ProgramX) : Int := x.tgtCnt * 65536 + x.tgtFrac

/-- The target moves by SPACING in the direction of DIR, modulo the revolution on a wrapping channel (R353). -/
def Device.moveTarget (d : Device) (p f : Nat) : Device :=
  let x := d.prog p
  let s : Int := d.get R.BK_POSF_SPACING [p]
  let t := if d.flag R.BK_CTL_DIR [p] then x.target - s else x.target + s
  let t := match d.fbWrap f with
    | some c => t % ((c : Int) * 65536)
    | none => t
  d.setProg p { x with tgtCnt := t / 65536, tgtFrac := (t % 65536).toNat }

/-- The adopted target is taken and compared with the present count (R353). Acts predicted and not committed wait for
the next edge (R363). -/
def Device.takeTarget (d : Device) (p : Nat) : Device :=
  let f := d.get R.BK_CTL_POS_CH [p]
  let c : Int := d.get R.BK_POS_TARGET_CNT [p]
  let back := d.flag R.BK_CTL_DIR [p]
  let wrap := d.fbWrap f
  let cnt := match wrap with
    | some _ => c
    | none => sgn 32 (d.get R.BK_POS_TARGET_REV [p]) * 2 ^ 32 + c
  let frac := d.get R.BK_POSF_FRAC [p]
  let dist := (cnt * 65536 + frac) - d.fbPos f * 65536
  let behind := decide ((if back then -dist else dist) < 0)
  let x := d.prog p
  let d := d.setProg p { x with tgtCnt := cnt, tgtFrac := frac, behind := behind && wrap.isNone
                                fires := x.fires.filterMap (fun g => if g.crossed ∨ g.recorded then some g else
                                  if !g.counted then none else some { g with acts := g.acts.map (fun a =>
                                    if a.committed then a else { a with time := d.tt + BitVec.ofNat 64 (2 ^ 62) }) }) }
  let d := d.setFlag R.BK_STAT_PREDICTING [p] false
  if behind then d.setFlag R.BK_STAT_COMPARE_BEHIND [p] true else d

/-- The direction reverses before the crossing (R354): acts not committed are cancelled and the prediction stops; acts
already committed still take place, and UNCROSSED counts such a fire. -/
def Device.uncross (d : Device) (p : Nat) : Device :=
  let d := d.setFlag R.BK_STAT_PREDICTING [p] false
  match (d.prog p).predicted with
  | none => d
  | some f =>
    let x := d.prog p
    if f.counted then
      (d.onFire p f.count (fun f => { f with recorded := true, acts := f.acts.map (fun a =>
        if a.committed then a else { a with committed := true, done := true }) })).bump R.BK_STAT_UNCROSSED [p]
    else d.setProg p { x with fires := x.fires.filter (fun g => decide (g ≠ f)) }

/-- The target is crossed by an edge with this stamp (R353, R354): `rev` is the revolution after the count. -/
def Device.crossTarget (d : Device) (p f : Nat) (stamp : TT) : Device :=
  let x := d.prog p
  let pc := (x.tgtCnt % 2 ^ 32).toNat
  let rev := d.get R.FB_POS_REV [f]
  let d := d.setFlag R.BK_STAT_PREDICTING [p] false
  let d := match x.predicted with
    | some g =>
      let d := if g.counted then d else d.countFire p
      let skew := g.acts.any (fun a => decide (a.kind ≠ 0) && a.committed && decide (65536 < (ttDiff a.base g.t).natAbs))
      (d.onFire p g.count (fun g => { g with crossed := true, interp := true, skewed := skew, posCount := pc, posRev := rev })).settleProg p
    | none =>
      let d := d.makeFire p { fireAt stamp with posCount := pc, posRev := rev }
      match (d.prog p).fires.getLast? with
      | some g => if x.armed ∧ x.open_ < 4 then d.commitAll p g.count else d
      | none => d
  d.moveTarget p f

/-- One edge can cross several targets, each in turn. -/
def Device.crossLoop (p f : Nat) (stamp : TT) (wrap : Option Nat) (back : Bool) :
    Nat → Int → Int → Device → Device
  | 0, _, _, d => d
  | fuel + 1, pos, moved, d =>
    let x := d.prog p
    if !(x.armed || x.predicted.isSome) ∨ x.behind then d
    else
      let a := ahead wrap back pos x.target
      if 0 < a ∧ a ≤ moved then
        Device.crossLoop p f stamp wrap back fuel (if back then pos - a else pos + a) (moved - a) (d.crossTarget p f stamp)
      else d

/-- The prediction made at an edge (R354): T = t_c + r × P while 0 < r ≤ 65,536 counts. Acts not committed move with
it; one whose commit is already past commits now. -/
def Device.predict (d : Device) (p f : Nat) (stamp : TT) (per : Option Nat) : Device :=
  let x := d.prog p
  let r := ahead (d.fbWrap f) (d.flag R.BK_CTL_DIR [p]) (d.fbPos f * 65536) x.target
  match per with
  | none => d
  | some per =>
    if !d.flag R.BK_CTL_INTERP [p] ∨ !d.flag R.FB_STAT_SPEED_VALID [f] ∨ x.behind ∨ r < 0 ∨ 65536 * 65536 < r then d
    else
      let t := stamp + BitVec.ofNat 64 (r.toNat * per / 65536)
      let d := match x.predicted with
        | some g => d.onFire p g.count (fun g =>
            { g with t := t, acts := List.zipWith (fun (a b : Act) => if a.committed then a else b) g.acts (d.actsAt p t) })
        | none => if x.armed ∧ x.open_ < 4 then d.makeFire p { fireAt t with crossed := false } else d
      match (d.prog p).predicted with
      | none => d
      | some (g : Fire) =>
        let d := (d.setFlag R.BK_STAT_PREDICTING [p] true).wr R.BK_NEXT [p] t
        (List.range 4).foldl (fun (d : Device) i => match (g.acts[i]? : Option Act) with
          | some a => if !a.committed ∧ ttDiff (a.time - d.advance a.kind a.index) d.tt < 0 then d.commitAct p g.count i 0 else d
          | none => d) d

/-- Acts whose commit time has come commit before anything else that happens in this tick moves or cancels them (R363). -/
def Device.commitDue (d : Device) (p : Nat) : Device := (List.range 4).foldl (fun (d : Device) t => d.actCommit p t) d

/-- BARKER_POSITION_CROSS: an edge of feedback channel `f` moved the count by `moved` in one direction (R353, R354);
`pos` is the position before it and `per` the interval per count that predicts. -/
def Device.barkerEdge (d : Device) (f : Nat) (back : Bool) (pos : Int) (moved : Nat) (stamp : TT) (per : Option Nat) : Device :=
  (List.range 32).foldl (fun d p =>
    let x := d.prog p
    if d.get R.BK_CTL_SRC [p] ≠ 1 ∨ d.get R.BK_CTL_POS_CH [p] ≠ f ∨ !(x.armed || x.predicted.isSome) then d
    else
      let d := d.commitDue p
      if d.flag R.BK_CTL_DIR [p] ≠ back then d.uncross p
      else (Device.crossLoop p f stamp (d.fbWrap f) back moved (pos * 65536) (moved * 65536) d).predict p f stamp per) d

/-! ### Adoption -/

/-- EN = 0 is adopted: every act not committed is cancelled (R362); one that commits at that instant stands (R363). -/
def Device.disarm (d : Device) (p : Nat) : Device :=
  let d := d.commitDue p
  let x := d.prog p
  let fires := x.fires.map (fun f => { f with
    acts := f.acts.map (fun a => if a.committed then a else { a with committed := true, done := true })
    recorded := f.recorded || !f.counted || !f.crossed })
  let d := d.setProg p { x with armed := false, fires := fires.filter (fun f => !(f.complete && f.recorded)) }
  (d.put R.BK_STAT_STATE [p] 0).setFlag R.BK_STAT_PREDICTING [p] false

/-- Acts not yet committed go on under the targets as they now stand (R362). -/
def Device.retarget (d : Device) (p : Nat) : Device :=
  let x := d.prog p
  (d.setProg p { x with fires := x.fires.map (fun f =>
    { f with acts := List.zipWith (fun (a b : Act) => if a.committed then a else b) f.acts (d.actsAt p f.t) }) }).settleProg p

/-- What an adoption of a program's fields at TT_c brings (R351, R353, R362): `en` EN was written, `sched` START or
PERIOD, `tgt` the position target, `acts` one of the four targets. -/
def Device.barkerAdopt (d : Device) (p : Nat) (ttc : TT) (en sched tgt acts : Bool) : Device :=
  let d := if acts then d.retarget p else d
  let on := d.flag R.BK_CTL_EN [p]
  if en ∧ !on then d.disarm p
  else if !on then d
  else
    let d := if en then
        let d := d.wr R.BK_FIRES [p] 0
        (d.setProg p { d.prog p with armed := true }).put R.BK_STAT_STATE [p] 1
      else d
    let d := if en ∨ sched then d.setProg p { d.prog p with nextK := d.firstIndex p ttc } else d
    let d := if (en ∨ tgt) ∧ d.get R.BK_CTL_SRC [p] = 1 then d.takeTarget p else d
    d.showNext p

/-! ### Acts -/

/-- The head record of the action FIFO as BK_ACT_POP, BK_ACT_HEAD and BK_ACT_INFO show it (R361). -/
def Device.showActions (d : Device) : Device :=
  let d := d.put R.BK_ACT_POP_COUNT [] d.tim.actions.length
  match d.tim.actions with
  | [] => (d.wr R.BK_ACT_HEAD [] 0).wr R.BK_ACT_INFO [] 0
  | r :: _ =>
    let d := d.wr R.BK_ACT_HEAD [] r.tt
    ((d.put R.BK_ACT_INFO_PROG [] r.prog).put R.BK_ACT_INFO_TARGET [] r.target).put R.BK_ACT_INFO_FIRES [] r.fires

/-- An action target posts a record (R361). -/
def Device.postAction (d : Device) (r : ActionRec) : Device :=
  let d := d.setFlag R.RM_IRQ_PEND_EVENT [] true
  if 64 ≤ d.tim.actions.length then d.setFlag R.BK_ACT_POP_OVF [] true
  else ({ d with tim := { d.tim with actions := d.tim.actions ++ [r] } }).showActions

/-- BARKER_ACT: a committed act's time has come (R357). A VXL port had its target at the commit. -/
def Device.barkerAct (d : Device) (p t : Nat) : Device :=
  match (d.prog p).fires.find? (fun f => match f.acts[t]? with
    | some a => a.committed && !a.done && decide (a.kind ≠ 1)
        && (decide (a.kind = 4) || ttGe d.tt a.time)
    | none => false) with
  | none => d
  | some f => match f.acts[t]? with
    | none => d
    | some a =>
      let d := d.onFire p f.count (fun f => { f with acts := f.acts.modify t (fun a => { a with done := true }) })
      let d := if a.kind = 3 then d.fire (a.index % 256)
        else if a.kind = 4 then d.postAction { tt := a.time, prog := p, target := t, fires := f.count % 2 ^ 32 }
        else d
      d.settleProg p

/-- A fire record (R356). -/
def Device.fireRecord (d : Device) (p : Nat) (f : Fire) : List Byte :=
  layout [(8, f.t.toNat), (8, f.count), (4, f.posCount), (4, f.posRev), (1, f.flagsByte),
    (1, d.get R.BK_CTL_SRC [p]), (2, trigIdOf f.count), (4, 0)]

/-- BARKER_FIRE_RECORD: the record of a fire whose T has come, or which has crossed, is written (R356). -/
def Device.recordFire (d : Device) (p : Nat) : Device :=
  match (d.prog p).fires.find? (fun f => f.crossed && !f.recorded
      && (ttGe d.tt f.t || decide (d.get R.BK_CTL_SRC [p] = 1))) with
  | none => d
  | some f =>
    let x := d.prog p
    let d := d.setProg p { x with hist := (d.fireRecord p f :: x.hist).take 16 }
    (d.onFire p f.count (fun f => { f with recorded := true })).settleProg p

/-! ### Pins -/

/-- The level an output pin stands at: IDLE of the Net while it is held or may not be an output, else under POL (R358,
R365). -/
def Device.outLevel (d : Device) (i : Nat) (active : Bool) : Bool :=
  if (d.pin i).heldIdle || !d.flag R.NET_PIN_OUT_OK [i] then d.pinLevelIdle i else xor active (d.flag R.TRG_CTL_POL [i])

/-- An output pin drives the OR of the pulses under way (R358). -/
def Device.drivePin (d : Device) (i : Nat) : Device :=
  if !d.flag R.TRG_CTL_DIR [i] then d
  else
    let on := (d.pin i).pulses.any (fun u => u.started) && !(d.pin i).heldIdle && d.flag R.NET_PIN_OUT_OK [i]
    let l := d.outLevel i on
    let d := d.setPin i { d.pin i with level := l }
    (d.setFlag R.TRG_STAT_LEVEL [i] l).setFlag R.TRG_STAT_DRIVING [i] on

/-- The pin act of a fire is over: its pulse has begun, or was dropped. -/
def Device.pinActDone (d : Device) (u : Pulse) (i : Nat) (drop : Bool) : Device :=
  ((d.onFire u.prog u.count (fun f => { f with
    dropped := f.dropped || drop
    acts := f.acts.map (fun a => if a.kind = 1 ∧ a.index % 16 = i ∧ a.committed then { a with done := true } else a) })).reviseRecord
      u.prog u.count).settleProg u.prog

/-- TRG_PULSE_LEAD: a pulse's leading edge is due at the pad, or the pulse is dropped (R358, R363). -/
def Device.pulseLead (d : Device) (i : Nat) : Device :=
  match (d.pin i).pulses.find? (fun u => !u.started && ttGe d.tt u.lead) with
  | none => d
  | some u =>
    let x := d.pin i
    let merged := x.pulses.any (fun v => v.started && decide (0 ≤ ttDiff v.trail u.lead))
    let narrow := !merged && decide (ttDiff u.trail u.lead < (d.get R.NET_PIN_MIN_WIDTH [i] : Int) * 512)
    let fast := !merged && (match x.lastLead with
      | some t => decide (ttDiff u.lead t < (d.get R.NET_PIN_MIN_PERIOD [i] : Int) * 65536)
      | none => false)
    if narrow || fast then
      let d := d.setPin i { x with pulses := x.pulses.erase u }
      (d.bump R.TRG_STAT_DROP [i]).pinActDone u i true
    else
      let d := d.setPin i { x with pulses := x.pulses.map (fun v => if v = u then { v with started := true } else v)
                                   lastLead := if merged then x.lastLead else some u.lead }
      (d.drivePin i).pinActDone u i false

/-- TRG_PULSE_TRAIL: a pulse's trailing edge is due (R357). -/
def Device.pulseTrail (d : Device) (i : Nat) : Device :=
  let x := d.pin i
  if x.pulses.any (fun u => u.started && ttGe d.tt u.trail) then
    (d.setPin i { x with pulses := x.pulses.filter (fun u => !(u.started && ttGe d.tt u.trail)) }).drivePin i
  else d

/-- The head stamp of a pin as its registers show it (R359). -/
def Device.showStamps (d : Device) (i : Nat) : Device :=
  let d := d.put R.TRG_IN_COUNT [i] (d.pin i).stamps.length
  match (d.pin i).stamps with
  | [] => (d.wr R.TRG_INTT [i] 0).setFlag R.TRG_IN_HEAD_RISE [i] false
  | (t, r) :: _ => (d.wr R.TRG_INTT [i] t).setFlag R.TRG_IN_HEAD_RISE [i] r

/-- TRG_INPUT_EDGE: an edge past the filter of an input pin, measured at the pad at `t` (R359, R344). -/
def Device.pinEdge (d : Device) (i : Nat) (t : TT) (rising : Bool) : Device :=
  if d.flag R.TRG_CTL_DIR [i] then d
  else
    let d := (d.setPin i { d.pin i with filtered := rising, level := rising }).setFlag R.TRG_STAT_LEVEL [i] rising
    if !bit (d.get R.TRG_CTL_IN_EDGE [i]) (if rising then 0 else 1) then d
    else
      let s := stamp128 t - BitVec.ofInt 64 (sgn 16 (d.get R.TRG_ADJ_IN_ADJ [i]) * 512)
      let x := d.pin i
      let d := if 16 ≤ x.stamps.length then d.bump R.TRG_IN_OVERRUN [i]
        else (d.setPin i { x with stamps := x.stamps ++ [(s, rising)] }).showStamps i
      d.fireStampIf R.TRG_CTL_IN_EV_EN R.TRG_CTL_IN_EV [i] s

/-- TRG_IN.POP (R359). -/
def Device.stampPop (d : Device) (i : Nat) : Device :=
  (d.setPin i { d.pin i with stamps := (d.pin i).stamps.drop 1 }).showStamps i

/-- BK_ACT_POP.POP (R361). -/
def Device.actionPop (d : Device) : Device :=
  ({ d with tim := { d.tim with actions := d.tim.actions.drop 1 } }).showActions

/-! ### Action commands and software firings -/

/-- A UDP datagram over IPv4 as firmware builds it: destination MAC and address, port at both ends. -/
def Device.udp4 (d : Device) (p mac ip port : Nat) (m : List Byte) : List Byte :=
  let src := beBytes 4 (d.get R.PP_IP4_ADDR [p])
  let dst := beBytes 4 ip
  let n := m.length + 8
  let h := fun (c : Nat) => [0x45, 0] ++ beBytes 2 (n + 20) ++ zeros 4 ++ [64, 17] ++ beBytes 2 c ++ src ++ dst
  let u := fun (c : Nat) => beBytes 2 port ++ beBytes 2 port ++ beBytes 2 n ++ beBytes 2 c ++ m
  beBytes 6 mac ++ beBytes 6 (d.get R.PP_MAC_MAC [p]) ++ beBytes 2 0x0800 ++ h (onesCheck (wordSum (h 0)))
    ++ u (onesCheck (wordSum (src ++ dst) + 17 + n + wordSum (u 0)))

/-- The ACTION_CMD of a record (R361, log entry 40): the scheduled action time in PTP wall time, unless less than 1 ms
is left. -/
def Device.actionCmd (d : Device) (a : ActionCmd) (t : TT) : List Byte :=
  let keys := beBytes 4 a.deviceKey ++ beBytes 4 a.groupKey ++ beBytes 4 a.groupMask
  let sched := decide ((1000000 * 65536 : Int) ≤ ttDiff t d.tt)
  let body := if sched then keys ++ beBytes 8 (d.wallAt t / 65536).toNat else keys
  [0x42, if sched then 0x80 else 0] ++ beBytes 2 0x0100 ++ beBytes 2 body.length ++ beBytes 2 a.reqId ++ body

/-- ACTION_CMD_SEND: firmware takes the head action record and sends its ACTION_CMD; one less than 1 ms ahead counts as reported
late (R361, log entry 125). -/
def Device.actionSend (d : Device) : Device :=
  match d.tim.actions with
  | [] => d
  | r :: _ =>
    if !d.ready then d
    else
      let d := d.actionPop
      let key := r.prog * 4 + r.target
      match d.tim.actionCmds.find? (fun e => decide (e.1 = key)) with
      | none => d
      | some (_, a) =>
        let dr := d.draw
        let mac := if a.dst = 0 then 0xFFFFFFFFFFFF else ofBE ((List.range 6).map (Config.openByte dr.1))
        let d := if a.dst = 0 then d else dr.2
        let ip := if a.dst = 0 then 0xFFFFFFFF else a.dst
        let late := decide (ttDiff r.tt d.tt < 1000000 * 65536)
        let d := d.packetTx a.port (d.udp4 a.port mac ip 3956 (d.actionCmd a r.tt)) d.tt
        let d := { d with tim := { d.tim with lateActions := d.tim.lateActions + b2n late } }
        { d with tim := { d.tim with actionCmds := d.tim.actionCmds.put {} key { a with reqId := a.reqId % 65535 + 1 } } }

/-- The source owns the channel (R349): Ringmaster stores count for owners 0 and 1, a roll's words for its own. -/
def Device.ownsChannel (d : Device) (s : Src) (c : Nat) : Bool :=
  match s with
  | .ringmaster => decide (d.chOwner c ≤ 1)
  | .calliope n => decide (d.chOwner c = 2 + n.val)
  | .host => false

/-- MW_FIRE: the owner fires a channel in FIRE mode; any other write is refused and counted (R345, R349). -/
def Device.mwFire (d : Device) (s : Src) (c : Nat) : Device :=
  if d.ownsChannel s c && decide (d.chMode c = 1) then d.fire c else d.bump R.MW_STAT_REFUSED []

end Sys2Proof.Machine
end

