-- ==== Sys2Proof/Machine/Feedback.lean ====
section
/-! DEFINITION. The feedback channels (R369 to R386): counts, direction, speed, compare, latch, SSI readings. -/

namespace Sys2Proof.Machine

/-- A feedback channel beside its registers. -/
def Device.fb (d : Device) (f : Nat) : FbX := d.mot.fbs.get {} f

/-- Replace it. -/
def Device.setFb (d : Device) (f : Nat) (x : FbX) : Device :=
  { d with mot := { d.mot with fbs := d.mot.fbs.put {} f x } }

/-! ### Speed -/

/-- The speed is no longer valid (R378): SPEED and PERIOD read 0, and SPEED_LOST is set if it was. -/
def Device.speedLost (d : Device) (f : Nat) : Device :=
  let d := d.setFb f { d.fb f with edges := [] }
  if d.flag R.FB_STAT_SPEED_VALID [f] then
    let d := (d.wr R.FB_SPEED [f] 0).wr R.FB_PERIOD [f] 0
    (d.setFlag R.FB_STAT_SPEED_VALID [f] false).setFlag R.FB_EVT_SPEED_LOST [f] true
  else d

/-- TIMEOUT_US as a tick-time difference. -/
def Device.fbTimeout (d : Device) (f : Nat) : Int := (d.get R.FB_SPD_CFG_TIMEOUT_US [f] * 1000 * 65536 : Nat)

/-- SPEED and PERIOD from the edges in use (R377): at least two of them (log entry 41). -/
def Device.showSpeed (d : Device) (f : Nat) (back : Bool) : Device :=
  let n := max 2 (2 ^ d.get R.FB_SPD_CFG_AVG_SHIFT [f])
  let es := (d.fb f).edges.take n
  match es.head?, es.getLast? with
  | some a, some z =>
    let c := (es.dropLast.map (·.2)).foldl (· + ·) 0
    let dt := (ttDiff a.1 z.1).toNat
    if c = 0 ∨ dt = 0 then d
    else
      let v : Int := (c * 1000000000 * 65536 * 65536 / dt : Nat)
      (d.put R.FB_SPEED_SPEED [f] (code 48 (if back then -v else v))).put R.FB_PERIOD_PERIOD [f] (dt / c)
  | _, _ => d

/-- A counted edge enters the speed (R377, R378). -/
def Device.speedEdge (d : Device) (f : Nat) (back : Bool) (k : Nat) (stamp : TT) : Device :=
  let near := match (d.fb f).edges.head? with
    | some e => decide (ttDiff stamp e.1 ≤ d.fbTimeout f)
    | none => false
  let d := if near then d else d.speedLost f
  let d := d.setFb f { d.fb f with edges := ((stamp, k) :: (d.fb f).edges).take 16 }
  if near then (d.setFlag R.FB_STAT_SPEED_VALID [f] true).showSpeed f back else d

/-- SPEED_TIMEOUT: TIMEOUT_US without a counted edge (R378). -/
def Device.speedTimeout (d : Device) (f : Nat) : Device :=
  if d.flag R.FB_STAT_SPEED_VALID [f] ∧ d.fbTimeout f < ttDiff d.tt (d.rd R.FB_EDGE_TT [f]) then d.speedLost f else d

/-- QUAD, HALL_INVALID, HALL_JUMP or a discarded reading (R378, R381). -/
def Device.fbError (d : Device) (f : Nat) : Device := (d.speedLost f).fireIf R.FB_EV_ERR_EV_EN R.FB_EV_ERR_EV [f]

/-! ### Compare -/

/-- A crossing of the compare target (R379). -/
def Device.compareHit (d : Device) (f : Nat) (stamp : TT) : Device :=
  let d := (d.bump R.FB_CMP_HITS_HITS [f]).wr R.FB_CMP_TT [f] stamp
  let d := d.fireIf R.FB_EV_CMP_EV_EN R.FB_EV_CMP_EV [f]
  let s : Int := d.get R.FB_CMP_CTL_SPACING [f]
  let x := d.fb f
  let t := if d.flag R.FB_CMP_CTL_CMP_DIR [f] then x.cmpTgt - s else x.cmpTgt + s
  d.setFb f { x with cmpTgt := match d.fbWrap f with
    | some c => t % (c : Int)
    | none => t }

/-- One edge can cross the target, and the targets it moves to, in turn. -/
def Device.compareLoop (f : Nat) (stamp : TT) (wrap : Option Nat) (back : Bool) : Nat → Int → Int → Device → Device
  | 0, _, _, d => d
  | fuel + 1, pos, moved, d =>
    let a := ahead wrap back (pos * 65536) ((d.fb f).cmpTgt * 65536) / 65536
    if 0 < a ∧ a ≤ moved then
      Device.compareLoop f stamp wrap back fuel (if back then pos - a else pos + a) (moved - a) (d.compareHit f stamp)
    else d

/-- FB_COMPARE_HIT: a count moves the position in a direction (R379). -/
def Device.compareEdge (d : Device) (f : Nat) (back : Bool) (pos : Int) (moved : Nat) (stamp : TT) : Device :=
  if d.flag R.FB_CMP_CTL_CMP_EN [f] ∧ d.flag R.FB_CMP_CTL_CMP_DIR [f] = back ∧ !(d.fb f).cmpDead then
    Device.compareLoop f stamp (d.fbWrap f) back moved pos moved d
  else d

/-- The target of the compare unit is judged against the present position (R375, R379). -/
def Device.judgeCompare (d : Device) (f : Nat) : Device :=
  let wrap := d.fbWrap f
  let behind := if d.flag R.FB_CMP_CTL_CMP_DIR [f] then decide (d.fbPos f ≤ (d.fb f).cmpTgt) else decide ((d.fb f).cmpTgt ≤ d.fbPos f)
  let d := d.setFb f { d.fb f with cmpDead := behind && wrap.isNone }
  if behind then d.setFlag R.FB_EVT_COMPARE_BEHIND [f] true else d

/-- A compare target is adopted (R379). -/
def Device.takeCompare (d : Device) (f : Nat) : Device :=
  let c : Int := d.get R.FB_CMP_TGT_TGT_COUNT [f]
  let t := match d.fbWrap f with
    | some _ => c
    | none => sgn 32 (d.get R.FB_CMP_TGT_TGT_REV [f]) * 2 ^ 32 + c
  (d.setFb f { d.fb f with cmpTgt := t }).judgeCompare f

/-! ### Counts -/

/-- COUNT and REV of an unwrapped or wrapped position moved by `k` (R374). -/
def Device.moveCount (d : Device) (f : Nat) (k : Int) : Device :=
  match d.fbWrap f with
  | some c =>
    let n := d.fbPos f + k
    let d := d.put R.FB_POS_REV [f] (code 32 (sgn 32 (d.get R.FB_POS_REV [f]) + n / (c : Int)))
    d.put R.FB_POS_COUNT [f] (n % (c : Int)).toNat
  | none =>
    let n := d.fbPos f + k
    (d.put R.FB_POS_COUNT [f] (code 32 n)).put R.FB_POS_REV [f] (code 32 (n / 2 ^ 32))

/-- DIRECTION_REVERSAL, or the first direction known (R376): whether the count was a reversal. -/
def Device.takeDirection (d : Device) (f : Nat) (back : Bool) : Bool × Device :=
  if !d.flag R.FB_STAT_DIR_KNOWN [f] then
    (false, (d.setFlag R.FB_STAT_DIR_KNOWN [f] true).setFlag R.FB_STAT_DIR [f] back)
  else if d.flag R.FB_STAT_DIR [f] = back then (false, d)
  else
    let d := (d.setFlag R.FB_STAT_DIR [f] back).bump R.FB_ERR_REVERSALS [f]
    let d := d.setFlag R.FB_EVT_REVERSED [f] true
    (true, d.fireIf R.FB_EV_DIR_EV_EN R.FB_EV_DIR_EV [f])

/-- What follows every count once COUNT and REV stand (R376 to R379, R353, R384): `pos` is the position before it. -/
def Device.afterCount (d : Device) (f : Nat) (back : Bool) (pos : Int) (k : Nat) (stamp : TT) : Device :=
  let r := d.takeDirection f back
  let d := r.2.wr R.FB_EDGE_TT [f] stamp
  let d := d.compareEdge f back pos k stamp
  let prev := (d.fb f).edges.head?
  let d := if r.1 then d.speedLost f else d
  let d := d.speedEdge f back k stamp
  let per := if r.1 then none
    else if d.fbMode f = 3 then some (d.get R.FB_PERIOD_PERIOD [f])
    else prev.map (fun e => (ttDiff stamp e.1).toNat)
  d.barkerEdge f back pos k stamp per

/-- One edge counts by one in a direction. -/
def Device.countEdge (d : Device) (f : Nat) (back : Bool) (stamp : TT) : Device :=
  let pos := d.fbPos f
  (d.moveCount f (if back then -1 else 1)).afterCount f back pos 1 stamp

/-- The place of (A, B) in the forward order 00, 10, 11, 01 (R371). -/
def quadPhase (a b : Bool) : Nat := match a, b with
  | false, false => 0
  | true, false => 1
  | true, true => 2
  | false, true => 3

/-- New accepted levels of FBn_A and FBn_B; DECODE 3 is reserved and its counting free (R370, R371). -/
def Device.quadEdge (d : Device) (f : Nat) (a b : Bool) (stamp : TT) : Device :=
  let x := d.fb f
  let d := d.setFb f { x with a := a, b := b }
  if d.fbMode f ≠ 1 ∨ (a = x.a ∧ b = x.b) then d
  else if a ≠ x.a ∧ b ≠ x.b then (d.bump R.FB_ERR_QUAD [f]).fbError f
  else
    let fwd := decide (quadPhase a b = (quadPhase x.a x.b + 1) % 4)
    let back := xor (!fwd) (d.flag R.FB_CTL_INVERT [f])
    let counts := match d.get R.FB_CTL_DECODE [f] with
      | 0 => true
      | 1 => decide (a ≠ x.a)
      | 2 => decide (a ≠ x.a) && decide (a = !back)
      | _ => Config.reservedDecode (decide (a ≠ x.a)) a back
    if counts then d.countEdge f back stamp else d

/-- The place of a Hall state in the forward order 1, 3, 2, 6, 4, 5 (R372). -/
def hallPlace (s : Nat) : Nat := [0, 0, 2, 1, 4, 5, 3, 0].getD s 0

/-- A new accepted Hall state W × 4 + V × 2 + U (R372). -/
def Device.hallEdge (d : Device) (f s : Nat) (stamp : TT) : Device :=
  if d.fbMode f ≠ 2 then d
  else
    let d := d.put R.FB_STAT_HALL [f] s
    let x := d.fb f
    if s % 8 = 0 ∨ s % 8 = 7 then
      ((d.setFlag R.FB_EVT_HALL_INVALID [f] true).bump R.FB_ERR_HALL [f]).fbError f
    else match x.hall with
      | none => d.setFb f { x with hall := some (s % 8) }
      | some h =>
        let step := (hallPlace (s % 8) + 6 - hallPlace h) % 6
        let d := d.setFb f { x with hall := some (s % 8) }
        if step = 0 then d
        else if step = 1 then d.countEdge f false stamp
        else if step = 5 then d.countEdge f true stamp
        else ((d.setFlag R.FB_EVT_HALL_JUMP [f] true).bump R.FB_ERR_HALL [f]).fbError f

/-! ### SSI -/

/-- A frame or its monoflop wait is running (R373). -/
def Device.ssiBusy (d : Device) (f : Nat) : Bool := (d.fb f).ssiRun.isSome || !ttGe d.tt (d.fb f).ssiFree

/-- A firing of the SSI consumer input asks for a read (R373). -/
def Device.ssiRequest (d : Device) (f : Nat) : Device :=
  if d.fbMode f ≠ 3 then d
  else if d.ssiBusy f then d.bump R.FB_ERR_SSI [f]
  else d.setFb f { d.fb f with ssiWant := true }

/-- SSI_READ_START: a read is due, asked for or by the period; `high` is FBn_A before the first clock and `t` the first
falling clock edge (R373). -/
def Device.ssiStart (d : Device) (f : Nat) (high : Bool) (t : TT) : Device :=
  let x := d.fb f
  let per := d.get R.FB_SSI_PERIOD_US [f]
  let due := decide (per ≠ 0) && decide ((per * 1000 * 65536 : Nat) ≤ ttDiff d.tt x.ssiSince)
  if d.fbMode f ≠ 3 ∨ !(x.ssiWant || due) then d
  else
    let busy := d.ssiBusy f
    let next := if ttDiff d.tt x.ssiSince < 2 * (per * 1000 * 65536 : Nat) then x.ssiSince + ttNs (per * 1000) else d.tt
    let d := d.setFb f { x with ssiWant := false, ssiSince := if due then next else x.ssiSince }
    if busy ∨ !high then d.bump R.FB_ERR_SSI [f]
    else d.setFb f { d.fb f with ssiRun := some t }

/-- Gray to binary over `n` bits. -/
def grayDecode (n v : Nat) : Nat :=
  (List.range n).foldl (fun a i => a ^^^ (v / 2 ^ i)) 0

/-- The shortest signed distance between two positions within a revolution of `m` counts. -/
def shortest (m a b : Nat) : Int :=
  let r : Int := ((b : Int) - a) % (m : Int)
  if 2 * r ≤ m then r else r - m

/-- The frame's bits, as clocked out most significant first (R373, R374). -/
def Device.ssiReading (d : Device) (f bitsIn : Nat) : Device :=
  match (d.fb f).ssiRun with
  | none => d
  | some stamp =>
    let n := d.get R.FB_SSI_BITS [f]
    let raw := (if d.flag R.FB_SSI_GRAY [f] then grayDecode n (bitsIn % 2 ^ n) else bitsIn) % 2 ^ n
    let d := d.setFb f { d.fb f with ssiRun := none, ssiFree := d.tt + ttNs (d.get R.FB_SSI_MONO_US [f] * 1000) }
    let d := d.wr R.FB_SSI_RAW [f] (BitVec.ofNat 64 raw)
    let p := d.ssiBits f
    let m := 2 ^ p
    let now := raw % m
    let jump := d.get R.FB_SSI2_MAX_JUMP [f]
    let place := fun (d : Device) (move : Int) (wraps : Bool) =>
      let d := d.put R.FB_POS_COUNT [f] ((now + d.get R.FB_SSI_OFS_OFS [f]) % m)
      if 0 < d.get R.FB_SSI_TURN_BITS [f] then
        d.put R.FB_POS_REV [f] (raw / m + d.get R.FB_SSI_OFS_ROFS [f])
      else if wraps then d.put R.FB_POS_REV [f] (code 32 (sgn 32 (d.get R.FB_POS_REV [f]) + (if move < 0 then -1 else 1)))
      else d
    match (d.fb f).ssiLast with
    | none => place (d.setFb f { d.fb f with ssiLast := some raw }) 0 false
    | some prev =>
      let move := shortest m (prev % m) now
      if jump ≠ 0 ∧ jump < move.natAbs then (d.bump R.FB_ERR_SSI [f]).fbError f
      else
        let d := d.setFb f { d.fb f with ssiLast := some raw }
        let pos := d.fbPos f
        let far := decide (m / 2 < ((now : Int) - (prev % m : Nat)).natAbs)
        let d := place d move far
        if move = 0 then d else d.afterCount f (decide (move < 0)) pos move.natAbs stamp

/-! ### Latch -/

/-- The position some counts ago: `since` signed counts have come after it. -/
def Device.posBefore (d : Device) (f : Nat) (since : Int) : Nat × Nat :=
  let e := d.moveCount f (-since)
  (e.get R.FB_POS_COUNT [f], e.get R.FB_POS_REV [f])

/-- An accepted edge of a latch source (R380): `since` signed counts have come since its first sample, stamped `t`.
Whether the latch took it. -/
def Device.latchEdge (d : Device) (f src : Nat) (rising : Bool) (t : TT) (since : Int) : Bool × Device :=
  let kind := src = 2 || bit (d.get R.FB_LATCH_LATCH_EDGE [f]) (if rising then 0 else 1)
  if d.get R.FB_LATCH_LATCH_SRC [f] ≠ src ∨ !kind then (false, d)
  else if d.flag R.FB_STAT_LATCHED [f] then (false, d.bump R.FB_LATCH_CHATTER_CNT [f])
  else if !d.flag R.FB_STAT_ARMED [f] then (false, d)
  else
    let q := d.posBefore f since
    let d := (d.put R.FB_LATCH_POS_COUNT [f] q.1).put R.FB_LATCH_POS_REV [f] q.2
    let d := d.wr R.FB_LATCH_TT [f] t
    let d := (d.setFlag R.FB_STAT_LATCHED [f] true).setFlag R.FB_STAT_ARMED [f] false
    let d := d.fireIf R.FB_EV_LATCH_EV_EN R.FB_EV_LATCH_EV [f]
    let chat := d.get R.FB_LATCH_CHATTER_CNT [f]
    (true, d.finish 0x0C03 [f] 0 (layout [(4, q.1), (4, q.2), (8, t.toNat), (2, chat)]))

/-- FB_LATCH.ARM (R380). -/
def Device.latchArm (d : Device) (f : Nat) : Device :=
  let d := (d.setFlag R.FB_STAT_ARMED [f] true).setFlag R.FB_STAT_LATCHED [f] false
  d.put R.FB_LATCH_CHATTER_CNT [f] 0

/-! ### Presets, adoption, recovery -/

/-- FB_CMD.SET_POS (R375). -/
def Device.fbSetPos (d : Device) (f : Nat) : Device :=
  let c := d.get R.FB_PRESET_COUNT [f]
  let r := d.get R.FB_PRESET_REV [f]
  let d := if d.fbMode f = 3 then
      let m := 2 ^ d.ssiBits f
      let raw := d.get R.FB_SSI_RAW_RAW [f]
      let d := d.put R.FB_SSI_OFS_OFS [f] ((c + m - raw % m) % m)
      let d := d.put R.FB_SSI_OFS_ROFS [f] (r + 2 ^ 32 - raw / m)
      d.speedLost f
    else d
  ((d.put R.FB_POS_COUNT [f] c).put R.FB_POS_REV [f] r).judgeCompare f

/-- What an adoption of a channel's fields brings (R376, R378, R379, R383): `mode` MODE was written, `size` CPR or WRAP,
`speed` DECODE or an SSI field, `tgt` the compare. -/
def Device.fbAdopt (d : Device) (f : Nat) (mode size speed tgt : Bool) : Device :=
  let d := if size then
      match d.fbWrap f with
      | some c => d.put R.FB_POS_COUNT [f] (d.get R.FB_POS_COUNT [f] % c)
      | none => d
    else d
  let d := if mode then
      let x := d.fb f
      (d.setFb f { x with hall := none, ssiLast := none, ssiWant := false, ssiSince := d.tt }).setFlag
        R.FB_STAT_DIR_KNOWN [f] false
    else d
  let d := if mode ∨ size ∨ speed then d.speedLost f else d
  if tgt then d.takeCompare f else d

/-- The registers whose CS fields judge a count or reading. -/
def fbRegs : List Reg := [R.FB_CTL, R.FB_CPR, R.FB_SPD_CFG, R.FB_CMP_CTL, R.FB_CMP_TGT, R.FB_SSI, R.FB_SSI2]

/-- The channel as it stands before an adoption at TT_c that writes what the flags say. -/
def Device.fbPrior (d : Device) (f : Nat) (ttc : TT) (mode size speed tgt setPos : Bool) : FbPrior :=
  let x := d.fb f
  { ttc := ttc, regs := fbRegs.map (fun r => d.rd r [f]), cmpTgt := x.cmpTgt, cmpDead := x.cmpDead, hall := x.hall
    ssiLast := x.ssiLast, mode := mode, size := size, speed := speed, tgt := tgt, setPos := setPos }

/-- Put words into the registers of a channel. -/
def Device.setFbRegs (d : Device) (f : Nat) (ws : List Word) : Device :=
  (List.zip fbRegs ws).foldl (fun d p => d.wr p.1 [f] p.2) d

/-- A count or reading stamped `stamp` comes to be accepted (R383, R384): before the TT_c of the last adoption it is judged as the
channel then stood, and the adoption's effects stand on top of it; from TT_c on, as it stands now. A SET_POS of the same sample
overwrites the position it counted. -/
def Device.judgedAt (d : Device) (f : Nat) (stamp : TT) (g : Device → Device) : Device :=
  match (d.fb f).prior with
  | none => g d
  | some p =>
    let late := ttDiff stamp p.ttc
    let again := fun (d : Device) => if p.setPos then d.fbSetPos f else d
    if late < 0 then
      let now := fbRegs.map (fun r => d.rd r [f])
      let d := d.setFb f { d.fb f with cmpTgt := p.cmpTgt, cmpDead := p.cmpDead, hall := p.hall, ssiLast := p.ssiLast }
      let d := g (d.setFbRegs f p.regs)
      let x := d.fb f
      let q := { p with cmpTgt := x.cmpTgt, cmpDead := x.cmpDead, hall := x.hall, ssiLast := x.ssiLast }
      again (((d.setFbRegs f now).setFb f { x with prior := some q }).fbAdopt f p.mode p.size p.speed p.tgt)
    else if late = 0 then again (g d)
    else g (d.setFb f { d.fb f with prior := none })

/-- ENCODER_EDGE: accepted levels of FBn_A and FBn_B, with the stamp of the first sample (R370, R371). -/
def Device.encoderEdge (d : Device) (f : Nat) (a b : Bool) (stamp : TT) : Device := d.judgedAt f stamp (·.quadEdge f a b stamp)

/-- HALL_STATE_CHANGE (R372). -/
def Device.hallChange (d : Device) (f s : Nat) (stamp : TT) : Device := d.judgedAt f stamp (·.hallEdge f s stamp)

/-- SSI_READING_DONE: the reading carries the stamp of its first falling clock edge (R373). -/
def Device.ssiDone (d : Device) (f bitsIn : Nat) : Device :=
  match (d.fb f).ssiRun with
  | none => d
  | some stamp => d.judgedAt f stamp (·.ssiReading f bitsIn)

/-- Feedback reports ready for the configuration as it stands (R383). -/
def Device.fbReady (d : Device) (f : Nat) : Bool :=
  let wrap := d.flag R.FB_CTL_WRAP [f] && decide (d.fbMode f ≠ 3)
  let cpr := d.get R.FB_CPR_CPR [f]
  let en := d.flag R.FB_CMP_CTL_CMP_EN [f]
  let sp := d.get R.FB_CMP_CTL_SPACING [f]
  let rev := (d.fbWrap f).getD (2 ^ 33)
  let wraps := (d.fbWrap f).isSome
  let b := d.get R.FB_SSI_BITS [f]
  let ssi := decide (d.fbMode f = 3)
  let frame := ceilDiv ((b + 1) * (d.get R.FB_SSI_DIV [f] + 1)) 10 + d.get R.FB_SSI_MONO_US [f]
  let per := d.get R.FB_SSI_PERIOD_US [f]
  !d.flag R.MSV_STAT_TAKEN [] && !(wrap && decide (cpr < 2))
    && !(en && wraps && decide (rev ≤ d.get R.FB_CMP_TGT_TGT_COUNT [f]))
    && !(en && (decide (sp = 0) || (wraps && decide (rev < sp))))
    && !(ssi && (decide (b < 8 ∨ 32 < b) || decide (b ≤ d.get R.FB_SSI_TURN_BITS [f])))
    && !(ssi && decide (per ≠ 0 ∧ per < frame))

/-- RECOVER's wipe of the motion booth spares the counts and the channel's type (R385); SUSPECT only a reset clears. -/
def Device.fbRecover (d : Device) (f : Nat) : Device :=
  let suspect := d.flag R.FB_STAT_SUSPECT [f]
  let hall := d.get R.FB_STAT_HALL [f]
  let d := [R.FB_PRESET, R.FB_STAT, R.FB_EVT, R.FB_SPEED, R.FB_PERIOD, R.FB_EDGE_TT, R.FB_SPD_CFG, R.FB_LATCH, R.FB_LATCH_POS,
    R.FB_LATCH_TT, R.FB_CMP_CTL, R.FB_CMP_TGT, R.FB_CMP_TT, R.FB_CMP_HITS, R.FB_EV, R.FB_ERR, R.FB_SSI2].foldl
      (fun d r => d.wr r [f] (BitVec.ofNat 64 r.reset)) d
  let d := (d.setFlag R.FB_STAT_SUSPECT [f] suspect).put R.FB_STAT_HALL [f] hall
  let x := d.fb f
  d.setFb f { x with edges := [], cmpTgt := 0, cmpDead := false, prior := none, totQuad := 0, totHall := 0, totSsi := 0, totRev := 0, totHits := 0 }

end Sys2Proof.Machine
end

