-- ==== Sys2Proof/Machine/Kinematics.lean ====
section
/-! DEFINITION. The motion profiles (R389 to R393) as arithmetic on whole numbers: positions and speeds in 1/65,536
microstep (and per second), accelerations in 1/65,536 microstep/s², times in ns. -/

namespace Sys2Proof.Machine

/-- One second. -/
def second : Int := 1000000000

/-- The largest whole number whose square is at most `n`. -/
def isqrt (n : Int) : Int := (Nat.sqrt n.toNat : Nat)

/-- Distance covered in `t` ns from speed `v` at acceleration `a`. -/
def glide (v a t : Int) : Int := v * t / second + a * t * t / (2 * second * second)

/-- Speed after `t` ns. -/
def speedAt (v a t : Int) : Int := v + a * t / second

/-- Time from speed `v` to `w` at an acceleration of magnitude `a`; very long where `a` is 0. -/
def rampTime (v w a : Int) : Int := if v = w then 0 else if a = 0 then 10 ^ 18 else (w - v).natAbs * second / a

/-- Follow phases of constant acceleration (acceleration, duration) for `t` ns: distance and speed. -/
def follow : List (Int × Int) → Int → Int → Int × Int
  | [], t, v => (v * t / second, v)
  | (a, n) :: ps, t, v =>
    if t ≤ n then (glide v a t, speedAt v a t)
    else
      let r := follow ps (t - n) (speedAt v a n)
      (glide v a n + r.1, r.2)

/-- Duration of the phases. -/
def lasting (ps : List (Int × Int)) : Int := (ps.map (·.2)).foldl (· + ·) 0

/-- Limits of a move: speed, acceleration, deceleration and, with SCURVE, jerk. -/
structure Limits where
  v : Int
  a : Int
  d : Int
  j : Option Int

/-- Distance to come to rest from speed `v` at `d`. -/
def stopping (v d : Int) : Int := if v = 0 then 0 else if d = 0 then 10 ^ 30 else v * v / (2 * d)

/-- The trapezoid, or triangle, over `r` ahead from speed `0 ≤ v ≤ V` (R391). -/
def trapezoid (l : Limits) (r v : Int) : List (Int × Int) :=
  if l.a + l.d = 0 ∨ r ≤ 0 then [(0, 0)]
  else
    let vp := max v (min l.v (isqrt ((2 * l.a * l.d * r + l.d * v * v) / (l.a + l.d))))
    let up := if l.a = 0 then 0 else (vp * vp - v * v) / (2 * l.a)
    let down := stopping vp l.d
    let cruise := if vp ≤ 0 then 10 ^ 18 else max 0 (r - up - down) * second / vp
    [(l.a, rampTime v vp l.a), (0, cruise), (-l.d, rampTime vp 0 l.d)]

/-- The phases of a POSITION move over `r` ahead (`r ≥ 0`) from a speed in that direction, or away from it (R391,
R392). A target inside the stopping distance is passed and returned to. -/
def positionPhases (l : Limits) (r v : Int) : List (Int × Int) :=
  if v < 0 then (l.d, rampTime v 0 l.d) :: trapezoid l (r + stopping v l.d) 0
  else if r < stopping v l.d then
    (-l.d, rampTime v 0 l.d) :: (trapezoid l (stopping v l.d - r) 0).map (fun p => (-p.1, p.2))
  else if l.v < v then
    (-l.d, rampTime v l.v l.d) :: trapezoid l (r - (stopping v l.d - stopping l.v l.d)) l.v
  else trapezoid l r v

/-- The phases that bring speed `v` to `w` (R391): DEC where the speed falls, ACC where it rises. -/
def velocityPhases (l : Limits) (v w : Int) : List (Int × Int) :=
  let sg := fun (x : Int) => if x < 0 then (-1 : Int) else 1
  if v * w < 0 then
    [(-(sg v) * l.d, rampTime v 0 l.d), (sg w * l.a, rampTime 0 w l.a)]
  else if w.natAbs < v.natAbs then [(-(sg v) * l.d, rampTime v w l.d)]
  else [(sg w * l.a, rampTime v w l.a)]

/-! ### Jerk-limited profiles (log entry 42) -/

/-- Distance to come to rest from speed `v ≥ 0` with no acceleration, at jerk `j` and deceleration `d`. -/
def stopFlat (v d j : Int) : Int :=
  if v ≤ 0 then 0
  else if d = 0 ∨ j = 0 then 10 ^ 30
  else if d * d ≤ j * v then v * (rampTime 0 v d + d * second / j) / (2 * second)
  else v * isqrt (v * second * second / j) / second

/-- Distance to come to rest from speed `v` and acceleration `a`, toward the positive side. -/
def stopJerk (v a d j : Int) : Int :=
  if j = 0 then 10 ^ 30
  else
    let t := a.natAbs * second / j
    let v0 := v + a * a / (2 * j)
    if 0 ≤ a then stopFlat v0 d j + v * t / second + a * t * t / (3 * second * second)
    else stopFlat v0 d j - (v0 * t / second - j * t * t * t / (6 * second * second * second))

/-- Position and speed after a period in which the acceleration goes evenly from `a` to `b`. -/
def jerkMove (v a b t : Int) : Int × Int :=
  (v * t / second + a * t * t / (2 * second * second) + (b - a) * t * t / (6 * second * second), v + (a + b) * t / (2 * second))

/-- The largest acceleration between `lo` and `hi` that `ok` admits, by halving; `lo` where none is. -/
def largest (ok : Int → Bool) : Nat → Int → Int → Int
  | 0, lo, _ => lo
  | n + 1, lo, hi =>
    if ok hi then hi
    else
      let mid := (lo + hi) / 2
      if ok mid then largest ok n mid hi else largest ok n lo mid

/-- The next acceleration of a jerk-limited move over `r` ahead, from speed `v` and acceleration `a`. -/
def jerkPosition (l : Limits) (j r v a t : Int) : Int :=
  let lo := max (min a (-l.d)) (a - j * t / second)
  let hi := max lo (min l.a (a + j * t / second))
  let ok := fun (b : Int) =>
    let m := jerkMove v a b t
    decide (m.2 + (if 0 < b then b * b / (2 * max 1 j) else 0) ≤ l.v) && decide (m.1 + stopJerk m.2 b l.d j ≤ r)
  largest ok 24 lo hi

/-- The next acceleration of a jerk-limited change of speed from `v` up to `w ≥ v`. -/
def jerkUp (lim j v w a t : Int) : Int :=
  let lo := a - j * t / second
  let hi := max lo (min lim (a + j * t / second))
  let ok := fun (b : Int) =>
    let m := jerkMove v a b t
    decide (m.2 + (if 0 < b then b * b / (2 * max 1 j) else 0) ≤ w)
  largest ok 24 lo hi

/-- One period of a change of speed to `w`: distance, speed, acceleration. -/
def velocityStep (l : Limits) (v a w t : Int) : Int × Int × Int :=
  match l.j with
  | none =>
    let ps := velocityPhases l v w
    let r := follow ps t v
    (r.1, if lasting ps ≤ t then w else r.2, 0)
  | some j =>
    let up := decide (v ≤ w)
    let lim := if w.natAbs < v.natAbs ∨ v * w < 0 then l.d else l.a
    let b := if up then jerkUp lim j v w a t else -(jerkUp lim j (-v) (-w) (-a) t)
    let m := jerkMove v a b t
    let done := (if up then decide (w ≤ m.2) else decide (m.2 ≤ w)) || decide ((m.2 - w).natAbs * 4 ≤ (j * t / second * t / second).natAbs)
    if done then (m.1, w, 0) else (m.1, m.2, b)

/-- One period of a POSITION move over the signed distance `r`: the distance covered, speed, acceleration, whether the
move ends at its target, and whether the final ramp has begun. `ramp` is the last of these for the period before. A rest of less than one sixty-fourth of
a period is rounding, and closes with the period (R390). -/
def positionStep (l : Limits) (aMax : Int) (r v a t : Int) (ramp : Bool) : Int × Int × Int × Bool × Bool :=
  let s : Int := if r < 0 then -1 else if r = 0 ∧ v < 0 then -1 else 1
  let r := s * r
  let v := s * v
  let a := s * a
  match l.j with
  | none =>
    if ramp ∧ 0 < v ∧ 0 < r then
      let need := min aMax (v * v / (2 * r))
      if 2 * r * second ≤ v * (t + t / 64) then (s * r, 0, 0, true, false)
      else (s * glide v (-need) t, s * speedAt v (-need) t, 0, false, true)
    else
      let ps := positionPhases l r v
      let n := lasting ps
      if n ≤ t + t / 64 then (s * r, 0, 0, true, false)
      else
        let m := follow ps t v
        let left := n - t
        let last := (ps.getLast?.map (·.2)).getD 0
        (s * m.1, s * m.2, 0, false, decide (left ≤ last ∧ 0 < m.2))
  | some j =>
    if v < 0 ∨ (0 < v ∧ r < stopJerk v a l.d j - 65536) then
      let m := velocityStep l v a 0 t
      (s * m.1, s * m.2.1, s * m.2.2, false, false)
    else
      let b := jerkPosition l j r v a t
      let m := jerkMove v a b t
      if r - m.1 ≤ 65536 then (s * r, 0, 0, true, false) else (s * m.1, s * m.2, s * b, false, false)

/-! ### Angles -/

/-- Terms of the cosine series at `x` radians in 2^-60, `n` of them from the one given. -/
def cosTerms (x2 : Int) : Nat → Nat → Int → Int
  | 0, _, term => term
  | n + 1, k, term => term + cosTerms x2 n (k + 2) (-(term * x2 / 2 ^ 60) / ((k + 1) * (k + 2)))

/-- The cosine of a quarter or less of a turn, `k` of 4,096, in 2^-30. -/
def cosQuarter (k : Nat) : Int :=
  let x : Int := 3622009729038561421 * 2 * k / 4096
  (cosTerms (x * x / 2 ^ 60) 14 0 (2 ^ 60) + 2 ^ 29) / 2 ^ 30

/-- The cosine of `k` parts of 4,096 of a turn, in 2^-30. -/
def cosine (k : Nat) : Int :=
  let k := k % 4096
  if k ≤ 1024 then cosQuarter k
  else if k ≤ 2048 then -(cosQuarter (2048 - k))
  else if k ≤ 3072 then -(cosQuarter (k - 2048))
  else cosQuarter (4096 - k)

/-- The sine. -/
def sine (k : Nat) : Int := cosine (k + 3072)

end Sys2Proof.Machine
end

