-- ==== Sys2Proof/Machine/Motion.lean ====
section
/-! DEFINITION. The motion axes (R387 to R413): profile generator, homing, limits, coil drive, stops, standstill, faults. -/

namespace Sys2Proof.Machine

/-! ### What acts -/

/-- One microstep of the profile's resolution. -/
def uq : Int := 65536

/-- The axis is enabled and not FAULTED. -/
def Device.axisOn (d : Device) (a : Nat) : Bool := decide (1 ≤ d.get R.MP_STAT_STATE [a] ∧ d.get R.MP_STAT_STATE [a] ≤ 4)

/-- The motion booth is under R42. -/
def Device.motionTaken (d : Device) : Bool := d.flag R.MSV_STAT_TAKEN []

/-- V_MAX and A_MAX of the Net. -/
def Device.vMax (d : Device) (a : Nat) : Int := (d.get R.NET_AX_SPD_V_MAX [a] : Int) * uq
def Device.aMax (d : Device) (a : Nat) : Int := (d.get R.NET_AX_ACC_A_MAX [a] : Int) * uq

/-- V as MP_VEL holds it. -/
def Device.axisV (d : Device) (a : Nat) : Int := sgn 32 (d.get R.MP_VEL_V [a]) * uq

/-- DEC_STOP_MIN of the Net. -/
def Device.stopMin (d : Device) (a : Nat) : Int := (d.get R.NET_AX_ACC_DEC_STOP_MIN [a] : Int) * uq

/-- DEC as it acts: an axis above a V_MAX that has fallen slows by no less than DEC_STOP_MIN (R127, R398). -/
def Device.axisDec (d : Device) (a : Nat) : Int :=
  let dec := min ((d.get R.MP_ACC_DEC [a] : Int) * uq) (d.aMax a)
  if d.vMax a < (d.axis a).vel.natAbs then max dec (d.stopMin a) else dec

/-- ACC, DEC and the jerk limit as they act (R398). -/
def Device.axisLimits (d : Device) (a : Nat) (v : Int) : Limits :=
  { v := min v (d.vMax a), a := min ((d.get R.MP_ACC_ACC [a] : Int) * uq) (d.aMax a), d := d.axisDec a
    j := if d.flag R.MP_CTL_SCURVE [a] then
        some (min ((d.get R.MP_JERK_JERK [a] : Int) * uq) ((d.get R.NET_AX_JERK_J_MAX [a] : Int) * uq)) else none }

/-- The limits of a stop: the larger of DEC and DEC_STOP_MIN, within J_MAX when SCURVE is 1, and always while the supervisor
has the booth (R404, R138). -/
def Device.stopLimits (d : Device) (a : Nat) : Limits :=
  let l := d.axisLimits a 0
  let dec := max l.d (d.stopMin a)
  let jmax := (d.get R.NET_AX_JERK_J_MAX [a] : Int) * uq
  { l with d := dec, a := dec, j := if d.motionTaken then some jmax else l.j.map (fun _ => jmax) }

/-- TARGET. -/
def Device.axisTarget (d : Device) (a : Nat) : Int := sgn 48 (d.get R.MP_TARGET_TARGET [a]) * uq

/-- The issued set-point in whole microsteps (R390). -/
def AxisX.setPoint (x : AxisX) : Int := (x.q + 32768) / uq

/-- Show the axis: MP_POS, MP_VNOW, MOVING, AT_TARGET, STATE, STEP_LAG. -/
def Device.showAxis (d : Device) (a : Nat) : Device :=
  let x := d.axis a
  let sp := x.setPoint
  let moving := decide (sp ≠ x.prev ∨ x.vel ≠ 0)
  let d := (d.put R.MP_POS_POS [a] (code 48 sp)).put R.MP_VNOW_V [a] (code 32 (x.vel / uq))
  let d := d.setFlag R.MP_STAT_MOVING [a] moving
  let d := d.setFlag R.MP_STAT_AT_TARGET [a] (decide (d.get R.MP_CTL_MODE [a] = 1 ∧ sp * uq = d.axisTarget a))
  let st := d.get R.MP_STAT_STATE [a]
  let d := if st = 0 ∨ st = 5 then d
    else d.put R.MP_STAT_STATE [a] (if x.home ≠ 0 then 4 else if x.run = 2 then 3 else if x.run = 0 ∧ !moving then 1 else 2)
  d.showResting

/-! ### Ends of motion -/

/-- The final responses that wait for the axis to end a move or to rest (AX_MOVE, AX_STOP). -/
def Device.moveEnded (d : Device) (a cause : Nat) : Device :=
  let pos := leBytes 8 (code 64 ((d.axis a).setPoint))
  let d := d.finish 0x0D03 [a] (if cause = 0 then 0 else 0x0D14) (pos ++ layout [(4, d.epoch), (1, cause)])
  if (d.axis a).still then d.finish 0x0D04 [a] 0 pos else d

/-- A homing run ends without success (R399, R404). -/
def Device.homeFailed (d : Device) (a : Nat) : Device :=
  d.finish 0x0D05 [a] 0x0D12 (leBytes 8 (code 64 ((d.axis a).homeL)) ++ leBytes 2 (d.get R.FB_LATCH_CHATTER_CNT [d.get R.MP_CFG_FB_CH [a]]))

/-- EN falls at rest (R406). -/
def Device.axisDisable (d : Device) (a : Nat) : Device :=
  let d := d.setAxis a { d.axis a with enFalling := false, pd := false, wake := none }
  (d.put R.MP_STAT_STATE [a] 0).axisOff a

/-- The axis has come to rest (R404, R406, R408). -/
def Device.axisRest (d : Device) (a : Nat) : Device :=
  let x := d.axis a
  let d := d.setAxis a { x with run := 0, ramp := false, restSince := d.tt }
  let d := if x.run = 2 then d.put R.MP_CTL_MODE [a] 0 else d
  let d := d.moveEnded a x.endCause
  let d := if d.motionTaken then d.axisFaultRest a else if x.enFalling then d.axisDisable a else d
  d.showResting

/-- A stop (R404): the axis comes to rest and into HOLD; a homing run and an armed start are cancelled. -/
def Device.axisStop (d : Device) (a cause : Nat) : Device :=
  let x := d.axis a
  let d := d.setFlag R.MP_STAT_ARMED [a] false
  let d := if x.home ≠ 0 then d.homeFailed a else d
  let x := { x with home := 0, startReq := false, goReq := false, homeReq := false, wake := none, ramp := false }
  if x.still then (((d.setAxis a x).put R.MP_CTL_MODE [a] 0).showAxis a).moveEnded a cause
  else if x.run = 2 then (d.setAxis a x).showAxis a
  else (d.setAxis a { x with run := 2, arrived := false, endCause := cause }).showAxis a

/-! ### Starts -/

/-- Motion in this direction leads toward an active end limit (R397). -/
def AxisX.towardLimit (x : AxisX) (negative : Bool) : Bool := if negative then x.limN else x.limP

/-- The direction a move of the present MODE would take from rest. -/
def Device.moveNegative (d : Device) (a : Nat) : Bool :=
  if d.get R.MP_CTL_MODE [a] = 1 then decide (d.axisTarget a < (d.axis a).q) else decide (d.axisV a < 0)

/-- The move may start (R396, R397, R405). -/
def Device.mayStart (d : Device) (a : Nat) : Bool :=
  let m := d.get R.MP_CTL_MODE [a]
  d.axisOn a && decide (m ≠ 0)
    && !(decide (m = 1) && d.flag R.MP_CFG_HOME_REQ [a] && !d.flag R.MP_STAT_HOMED [a])
    && !(decide (m = 1 ∨ m = 2) && (d.axis a).towardLimit (d.moveNegative a))

/-- A move starts at this boundary (R392). A powered-down axis wakes first (R406). -/
def Device.axisStart (d : Device) (a : Nat) : Device :=
  let d := d.setFlag R.MP_STAT_ARMED [a] false
  if !d.mayStart a then (if (d.axis a).still then d.moveEnded a 1 else d)
  else
    let x := d.axis a
    if x.pd ∧ d.flag R.MP_CFG_STANDSTILL [a] ∧ x.wake.isNone then
      let d := d.setAxis a { x with wake := some d.tt }
      (d.setFlag R.CD_STAT_EN_OUT [a] true).put R.CD_STAT_I_NOW [a] (d.get R.CD_CUR_I_HOLD [a])
    else
      let d := d.setFlag R.CD_STAT_EN_OUT [a] true
      d.setAxis a { x with run := 1, ramp := false, arrived := false, home := 0, pd := false, wake := none, endCause := 0
                           steps := x.setPoint, decWas := d.get R.MP_ACC_DEC [a], tgtWas := d.get R.MP_TARGET_TARGET [a]
                           velWas := d.get R.MP_VEL_V [a] }

/-- A homing run starts (R399): the latch is armed and the search begins; toward an end limit that is active already nothing moves
(R397), so the search goes the other way at once (log entry 101). -/
def Device.homeStart (d : Device) (a : Nat) : Device :=
  if !d.axisOn a then d.homeFailed a
  else
    let d := d.latchArm (d.get R.MP_CFG_FB_CH [a])
    let d := d.setFlag R.CD_STAT_EN_OUT [a] true
    let back := d.flag R.MP_HOME_HOME_DIR [a]
    let at_ := (d.axis a).towardLimit back
    d.setAxis a { d.axis a with home := 1, run := 1, homeBack := xor back at_, homeTrips := b2n at_, pd := false, trail := [], homeStop := false
                                ramp := false, arrived := false, endCause := 0 }

/-- A homing run ends at its place (R399). -/
def Device.homeDone (d : Device) (a : Nat) : Device :=
  let p := sgn 48 (d.get R.MP_HOME_POS_HOME_POS [a])
  let d := d.setAxis a { d.axis a with q := p * uq, prev := p, vel := 0, acc := 0, home := 0, run := 0, arrived := false, restSince := d.tt }
  let d := (d.setFlag R.MP_STAT_HOMED [a] true).setFlag R.MP_EVT_HOME_DONE [a] true
  let d := d.fireIf R.MP_EV_DONE_EV_EN R.MP_EV_DONE_EV [a]
  d.finish 0x0D05 [a] 0 (leBytes 8 (code 64 ((d.axis a).homeL)) ++ leBytes 2 (d.get R.FB_LATCH_CHATTER_CNT [d.get R.MP_CFG_FB_CH [a]]))

/-- The set-point at a time of the present search, interpolated between boundaries as in R390. -/
def AxisX.setPointAt (x : AxisX) (period : Int) (stamp : TT) : Int :=
  let go := fun (p q : Int) (b : TT) => p + (q - p) * clampI 0 period (ttDiff stamp b) / max 1 period
  let rec seek : List (TT × Int) → Int → Int
    | [], q => q
    | (b, p) :: older, q => if 0 ≤ ttDiff stamp b then go p q b else seek older p
  if 0 ≤ ttDiff stamp x.bound then go x.prev x.setPoint x.bound else seek x.trail x.prev

/-- HOME_LATCH: the latch of a feedback channel ends the searches that wait for it (R399): L is the set-point at the
stamp. -/
def Device.homeLatched (d : Device) (f : Nat) (stamp : TT) : Device :=
  (List.range 4).foldl (fun d a =>
    let x := d.axis a
    if (x.home = 1 ∨ x.home = 2) ∧ d.get R.MP_CFG_FB_CH [a] = f then
      d.setAxis a { x with home := 3, homeL := x.setPointAt ((d.get R.MP_SERVO_SERVO_NS [a] : Int) * 65536) stamp }
    else d) d

/-! ### One period of the profile -/

/-- The limit of travel ahead, while soft limits apply (R396). -/
def Device.softLimit (d : Device) (a : Nat) (v : Int) : Option Int :=
  if d.flag R.MP_STAT_HOMED [a] ∧ v ≠ 0 then
    some (sgn 48 (if v < 0 then d.get R.NET_AX_PMIN_PMIN [a] else d.get R.NET_AX_PMAX_PMAX [a]) * uq)
  else none

/-- The axis moves on by (distance, speed, acceleration). -/
def AxisX.moved (x : AxisX) (m : Int × Int × Int) : AxisX := { x with q := x.q + m.1, vel := m.2.1, acc := m.2.2 }

/-- A POSITION leg to `p`: whether it arrives is left in `arrived`. -/
def Device.stepTo (d : Device) (a : Nat) (l : Limits) (p t : Int) : AxisX :=
  let x := d.axis a
  let r := positionStep l (d.aMax a) (p - x.q) x.vel x.acc t x.ramp
  { x with q := x.q + r.1, vel := r.2.1, acc := r.2.2.1, arrived := r.2.2.2.1, ramp := r.2.2.2.2 }

/-- VELOCITY and STEP stop on a soft limit from the last boundary that still allows it (R396). -/
def Device.guardSoft (d : Device) (a : Nat) (l : Limits) (t : Int) (y : AxisX) : Device :=
  let x := d.axis a
  match d.softLimit a (if y.vel = 0 then y.q - x.q else y.vel) with
  | none => d.setAxis a y
  | some p =>
    let room := if y.vel < 0 ∨ y.q < x.q then y.q - p else p - y.q
    let need := match l.j with
      | none => stopping y.vel l.d
      | some j => stopJerk y.vel.natAbs (if y.vel < 0 then -y.acc else y.acc) l.d j
    if room < need then
      let d := d.setFlag R.MP_EVT_SOFT_LIMIT [a] true
      let z := d.stepTo a l p t
      d.setAxis a { z with run := 3, endCause := 5, ramp := l.j.isNone }
    else d.setAxis a y

/-- The profile's next period in MODE POSITION (R391 to R393). Where a new DEC would not bring the axis to rest by TARGET, the
deceleration needed is kept: on a ramp the one that ends on TARGET, with SCURVE the DEC in force before. -/
def Device.stepPosition (d : Device) (a : Nat) (t : Int) : Device :=
  let x := d.axis a
  let l := d.axisLimits a (d.axisV a).natAbs
  let p := d.axisTarget a
  let dec := d.get R.MP_ACC_DEC [a]
  let same := decide (x.tgtWas = d.get R.MP_TARGET_TARGET [a] ∧ x.velWas = d.get R.MP_VEL_V [a])
  let short := decide ((p - x.q).natAbs + 256 < stopping x.vel l.d)
  let keep := x.ramp && same && (decide (dec = x.decWas) || short)
  let slowing := decide (0 < x.vel * (p - x.q) ∧ x.vel * x.acc < 0)
  let held := match l.j with
    | some j => slowing && same && decide (dec ≠ x.decWas)
        && decide ((p - x.q).natAbs + 256 < stopJerk x.vel.natAbs (-(x.acc.natAbs : Int)) l.d j)
    | none => false
  let l := if held then { l with d := min ((x.decWas : Int) * uq) (d.aMax a) } else l
  let clamped := held || (x.ramp && same && decide (dec ≠ x.decWas) && short)
  let d := if clamped then d.setFlag R.MP_EVT_DECEL_CLAMPED [a] true else d
  let d := d.setAxis a { x with ramp := keep, decWas := if held then x.decWas else dec, tgtWas := d.get R.MP_TARGET_TARGET [a], velWas := d.get R.MP_VEL_V [a] }
  d.setAxis a (d.stepTo a l p t)

/-- MODE STEP (R395): toward the step count, at no more than V_MAX and A_MAX. -/
def Device.stepStep (d : Device) (a : Nat) (t : Int) : Device :=
  let x := d.axis a
  let l : Limits := { d.axisLimits a (d.vMax a) with v := d.vMax a, a := d.aMax a, d := d.aMax a }
  let p := x.steps * uq
  let d := d.setAxis a { x with ramp := false }
  let y := d.stepTo a l p t
  let d := d.guardSoft a { l with d := (d.axisLimits a 0).d } t { y with arrived := false }
  let lag := (x.steps - (d.axis a).setPoint).natAbs
  let d := d.put R.MP_CNT_STEP_LAG [a] (min lag (2 ^ 32 - 1))
  if 1024 < lag then d.setFlag R.MP_EVT_STEP_OVERRUN [a] true else d

/-- The profile's next period (R390 to R399). -/
def Device.profileStep (d : Device) (a : Nat) : Device :=
  let x := d.axis a
  let t : Int := d.get R.MP_SERVO_SERVO_NS [a]
  let vel := fun (l : Limits) (w : Int) => x.moved (velocityStep l x.vel x.acc w t)
  let hv : Int := (d.get R.MP_HOME_V_HOME_V [a] : Int) * uq
  if x.run = 0 then d
  else if x.run = 2 then d.setAxis a (vel (d.stopLimits a) 0)
  else if x.run = 3 then
    match d.softLimit a x.vel with
    | some p => d.setAxis a (d.stepTo a (d.axisLimits a (max x.vel.natAbs uq)) p t)
    | none => d
  else match x.home with
    | 1 => d.setAxis a (vel (d.axisLimits a hv) (min hv (d.vMax a) * (if x.homeBack then -1 else 1)))
    | 2 => d.setAxis a (vel (d.stopLimits a) 0)
    | 3 => d.setAxis a (vel (if x.homeStop then d.stopLimits a else d.axisLimits a 0) 0)
    | 4 => d.setAxis a (d.stepTo a (d.axisLimits a hv) ((x.homeL + sgn 48 (d.get R.MP_HOME_OFS_HOME_OFS [a])) * uq) t)
    | _ =>
      match d.get R.MP_CTL_MODE [a] with
      | 1 => d.stepPosition a t
      | 2 =>
        let l := d.axisLimits a (d.vMax a)
        d.guardSoft a l t (vel l (clampI (-(d.vMax a)) (d.vMax a) (d.axisV a)))
      | 3 => d.stepStep a t
      | _ => d

/-- What the boundary finds of the period before: a move that arrived is done (R394), a stop is over, a homing run goes
on (R399). -/
def Device.periodDone (d : Device) (a : Nat) : Device :=
  let x := d.axis a
  let rest := decide (x.vel = 0) && decide (x.setPoint = x.prev)
  if x.run = 2 ∧ x.vel = 0 then d.axisRest a
  else if x.run = 3 ∧ x.arrived then d.axisRest a
  else if x.home = 2 ∧ x.vel = 0 then d.setAxis a { x with home := 1, homeBack := !x.homeBack }
  else if x.home = 3 ∧ x.vel = 0 then d.setAxis a { x with home := 4, ramp := false, arrived := false }
  else if x.home = 4 ∧ x.arrived then d.homeDone a
  else if x.home = 0 ∧ x.run = 1 ∧ d.get R.MP_CTL_MODE [a] = 1 ∧ x.arrived then
    (d.fireIf R.MP_EV_DONE_EV_EN R.MP_EV_DONE_EV [a]).axisRest a
  else if x.home = 0 ∧ x.run = 1 ∧ rest ∧ (d.get R.MP_CTL_MODE [a] = 2 ∧ d.axisV a = 0) then d.axisRest a
  else if x.home = 0 ∧ x.run = 1 ∧ rest ∧ d.get R.MP_CTL_MODE [a] = 3 ∧ d.flag R.MP_STAT_MOVING [a] then d.moveEnded a 0
  else d

/-! ### Coil drive -/

/-- A phase duty from its voltage in µV, clamped to DUTY_MAX (R398, R400): the duty, and whether the clamp acted. -/
def Device.dutyOf (d : Device) (a : Nat) (u : Int) : Int × Bool :=
  let v := d.get R.CD_MOTOR_VBUS [a]
  if v = 0 then (0, false)
  else
    let m : Int := d.get R.NET_AX_DRV_DUTY_MAX [a]
    let duty := u * 65536 / ((v : Int) * 1000)
    (clampI (-m) m duty, decide (m < duty.natAbs))

/-- One PWM cycle at `k` of `n` of the period, with the sensed currents in mA (R400, R401). -/
def Device.pwmCycle (d : Device) (a n k : Nat) (ia ib : Int) : Device :=
  let x := d.axis a
  let th := ((x.prev + (x.setPoint - x.prev) * k / n) % 4096).toNat
  let i : Int := d.get R.CD_STAT_I_NOW [a]
  let r : Int := d.get R.CD_MOTOR_R_COIL [a]
  let e : Int := (d.get R.CD_MOTOR_KE [a] : Int) * x.vel / (1024 * uq)
  let q := fun (y : Int) => y / 2 ^ 30
  let ba := -(q (e * sine th))
  let bb := q (e * cosine th)
  let strong := d.flag R.CD_STAT_STRONG [a]
  let ea := q (i * cosine th) - ia
  let eb := q (i * sine th) - ib
  let kp : Int := d.get R.CD_SENSE_KP [a]
  let ki : Int := d.get R.CD_SENSE_KI [a]
  let grow := fun (y : Int) => ki * y * 1000 * 65536 / (256 * max 1 (d.get R.CD_CTL_PWM_KHZ [a] : Int))
  let xa := if strong then x.intA + grow ea else 0
  let xb := if strong then x.intB + grow eb else 0
  let ua := if strong then ba + kp * ea * 1000 / 256 + xa / 65536 else q (r * i * cosine th) + ba
  let ub := if strong then bb + kp * eb * 1000 / 256 + xb / 65536 else q (r * i * sine th) + bb
  let da := d.dutyOf a ua
  let db := d.dutyOf a ub
  let d := d.setAxis a { x with intA := xa, intB := xb, dutyA := da.1, dutyB := db.1 }
  if da.2 ∨ db.2 then d.setFlag R.CD_STAT_DUTY_SAT [a] true else d

/-- Strong mode is judged at the boundary (R401, R412); its integrators are preloaded at the change. -/
def Device.judgeStrong (d : Device) (a : Nat) (ia ib : Int) : Device :=
  let x := d.axis a
  let w := x.vel.natAbs / 65536
  let was := d.flag R.CD_STAT_STRONG [a]
  let can := decide (a < 2) && d.flag R.CD_CTL_STRONG_EN [a] && d.flag R.CD_CTL_SENSE_EN [a]
  let on := can && (if was then decide (d.get R.CD_STRONG_STRONG_OFF [a] ≤ w) else decide (d.get R.CD_STRONG_STRONG_ON [a] ≤ w))
  let d := d.setFlag R.CD_STAT_STRONG [a] on
  if on ∧ !was then
    let th := (x.prev % 4096).toNat
    let i : Int := d.get R.CD_STAT_I_NOW [a]
    let r : Int := d.get R.CD_MOTOR_R_COIL [a]
    let kp : Int := d.get R.CD_SENSE_KP [a]
    let pre := fun (c s : Int) => (r * i * c / 2 ^ 30 - kp * (i * c / 2 ^ 30 - s) * 1000 / 256) * 65536
    d.setAxis a { x with intA := pre (cosine th) ia, intB := pre (sine th) ib }
  else d

/-- LOAD_ANGLE and the amplitude (R402). -/
def Device.currentStep (d : Device) (a load : Nat) : Device :=
  let x := d.axis a
  let hold : Int := d.get R.CD_CUR_I_HOLD [a]
  let imax : Int := d.get R.NET_AX_DRV_I_MAX [a]
  let moving := d.flag R.MP_STAT_MOVING [a]
  let amp : Int := d.get R.CD_STAT_I_NOW [a]
  if !d.flag R.CD_CTL_SENSE_EN [a] then
    let i := if moving then (d.get R.CD_CUR_I_RUN [a] : Int) else hold
    (d.put R.CD_STAT_LOAD_ANGLE [a] 0).put R.CD_STAT_I_NOW [a] (min i imax).toNat
  else
    let d := if 200 * 1024 * 65536 ≤ x.vel.natAbs then d.put R.CD_STAT_LOAD_ANGLE [a] load else d
    let la : Int := d.get R.CD_STAT_LOAD_ANGLE [a]
    let lo : Int := d.get R.CD_LA_LA_LOW [a]
    let hi : Int := d.get R.CD_LA_LA_HIGH [a]
    let span := max 1 (hi - lo)
    let it := if moving then hold + (imax - hold) * clampI 0 span (la - lo) / span else hold
    let i := clampI (amp - (imax - hold) / 64) (amp + (imax - hold) / 16) it
    d.put R.CD_STAT_I_NOW [a] (clampI 0 imax i).toNat

/-- AXIS_STALL (R403). -/
def Device.stallStep (d : Device) (a : Nat) : Device :=
  let x := d.axis a
  if !d.flag R.CD_CTL_SENSE_EN [a] ∨ d.get R.CD_STAT_LOAD_ANGLE [a] ≤ d.get R.CD_LA_STALL_LA [a] then d.setAxis a { x with stallRun := 0 }
  else
    let n := x.stallRun + 1
    let d := d.setAxis a { x with stallRun := n }
    if n ≠ d.get R.CD_LA_STALL_N [a] then d
    else
      let d := (d.setFlag R.MP_EVT_STALL [a] true).setFlag R.MP_STAT_HOMED [a] false
      let d := (d.bump R.MP_CNT_STALLS [a]).fireIf R.MP_EV_STALL_EV_EN R.MP_EV_STALL_EV [a]
      if d.flag R.CD_LA_STALL_ACT [a] then d.axisStop a 3 else d

/-! ### The boundary -/

/-- The generator's and the modulator's registers of axis `a` (R387). -/
def axisAddr (a addr : Nat) : Bool :=
  decide (0x0D200000 + a * 0x40000 ≤ addr ∧ addr < 0x0D200000 + (a + 1) * 0x40000)
    || decide (0x0D300000 + a * 0x40000 ≤ addr ∧ addr < 0x0D300000 + (a + 1) * 0x40000)

/-- A write of EN = 1 applies at this boundary. -/
def Device.enWritten (d : Device) (a : Nat) : Bool :=
  d.ctl.pend.any (fun p => decide (p.write.addr = R.CD_CTL.addr [a]) && p.write.mask.getLsbD 0 && p.write.value.getLsbD 0
    && ttGe d.tt p.ttc)

/-- EN as it stands after the boundary's writes (R406, R407). -/
def Device.takeEnable (d : Device) (a : Nat) (written : Bool) : Device :=
  let st := d.get R.MP_STAT_STATE [a]
  let x := d.axis a
  let en := d.flag R.CD_CTL_EN [a]
  if en ∧ ((st = 0 ∧ !x.flt) ∨ (st = 5 ∧ written ∧ !x.flt)) then
    let d := (d.put R.MP_STAT_STATE [a] 1).setFlag R.CD_STAT_EN_OUT [a] true
    let d := d.put R.MSV_STAT_CUT [] (d.get R.MSV_STAT_CUT [] &&& (15 - 2 ^ a))
    let d := d.setAxis a { x with restSince := d.tt, enFalling := false, pd := false, wake := none }
    d.put R.CD_STAT_I_NOW [a] (d.get R.CD_CUR_I_HOLD [a])
  else if !en ∧ 1 ≤ st ∧ st ≤ 4 then
    if x.still then d.axisDisable a
    else if x.enFalling then d
    else (d.setAxis a { x with enFalling := true }).axisStop a 1
  else d

/-- The W1S bits that the boundary's writes set become requests (R411). -/
def Device.takeRequests (d : Device) (a : Nat) : Device :=
  let x := d.axis a
  let d := d.setAxis a { x with goReq := x.goReq || d.flag R.MP_CTL_GO [a], stopReq := x.stopReq || d.flag R.MP_CTL_STOP [a]
                                setReq := x.setReq || d.flag R.MP_CTL_SET_POS [a], homeReq := x.homeReq || d.flag R.MP_HOME_GO [a] }
  let d := ((d.setFlag R.MP_CTL_GO [a] false).setFlag R.MP_CTL_STOP [a] false).setFlag R.MP_CTL_SET_POS [a] false
  d.setFlag R.MP_HOME_GO [a] false

/-- SET_POS, STOP, GO, START and the home GO, in R412's order. -/
def Device.serveRequests (d : Device) (a : Nat) : Device :=
  let x := d.axis a
  let d := d.setAxis a { x with goReq := false, stopReq := false, setReq := false, homeReq := false, startReq := false }
  let d := if x.setReq ∧ x.still then
      let p := sgn 48 (d.get R.MP_PRESET_PRESET [a])
      (d.setAxis a { d.axis a with q := p * uq, prev := p }).setFlag R.MP_STAT_HOMED [a] true
    else d
  let d := if x.goReq then d.rekey 0x0D03 [a, 1] [a] else d
  let d := if x.homeReq then d.rekey 0x0D05 [a, 1] [a] else d
  if x.stopReq then ((if x.homeReq then d.homeFailed a else d).rekey 0x0D04 [a, 1] [a]).axisStop a 1
  else if x.homeReq then d.homeStart a
  else if x.goReq then
    if d.flag R.MP_CTL_START_EV_EN [a] ∧ x.wake.isNone then
      (if d.axisOn a then d.setFlag R.MP_STAT_ARMED [a] true else d.moveEnded a 1)
    else d.axisStart a
  else if x.startReq ∧ d.flag R.MP_STAT_ARMED [a] then d.axisStart a
  else d

/-- The Net's narrowing of a moving axis (R127): no faster than V_MAX, and disabled where ENABLE_OK is 0. -/
def Device.narrowAxis (d : Device) (a : Nat) : Device :=
  let x := d.axis a
  if !d.flag R.NET_AX_DRV_ENABLE_OK [a] ∧ d.axisOn a then
    let d := d.setFlag R.CD_CTL_EN [a] false
    if x.still then d.axisDisable a else (d.setAxis a { x with enFalling := true }).axisStop a 1
  else d

/-- TT has come to a servo boundary of the axis since the last one (R389). -/
def Device.boundaryDue (d : Device) (a : Nat) : Bool :=
  let n := max 1 (d.get R.MP_SERVO_SERVO_NS [a])
  decide (ttWhole d.tt / n ≠ ttWhole (d.axis a).bound / n)

/-- SERVO_PERIOD_BOUNDARY (R390): pending writes apply, requests are served, the next set-point is computed, and the
period's currents and duties follow. `samples` are the sensed phase currents of the period's PWM cycles in mA, `load`
the estimated load angle. -/
def Device.servoBoundary (d : Device) (a : Nat) (samples : List (Int × Int)) (load : Nat) : Device :=
  if !d.boundaryDue a then d
  else
    let written := d.enWritten a
    let d := d.settleAt d.tt (axisAddr a)
    let d := d.takeRequests a
    let d := d.setAxis a { d.axis a with bound := d.tt }
    let d := d.periodDone a
    let x := d.axis a
    let trail := if x.home = 1 ∨ x.home = 2 then (d.tt, x.setPoint) :: x.trail.take 2700 else []
    let d := d.setAxis a { x with prev := x.setPoint, arrived := false, trail := trail }
    let d := d.takeEnable a written
    let d := if d.motionTaken then d else d.serveRequests a
    let d := d.narrowAxis a
    let d := d.profileStep a
    let d := d.showAxis a
    let last := samples.getLast?.getD (0, 0)
    let first := samples.head?.getD (0, 0)
    let sense := d.flag R.CD_CTL_SENSE_EN [a]
    let d := if sense then (d.put R.CD_ICUR_IA [a] (code 16 last.1)).put R.CD_ICUR_IB [a] (code 16 last.2) else d
    let d := (d.judgeStrong a first.1 first.2).currentStep a load
    let n := max 1 (d.get R.CD_CTL_PWM_KHZ [a] * d.get R.MP_SERVO_SERVO_NS [a] / 1000000)
    let d := (List.range n).foldl (fun d k =>
      let s := samples.getD k last
      d.pwmCycle a n k (if sense then s.1 else 0) (if sense then s.2 else 0)) d
    (d.stallStep a).showAxis a

/-! ### Inputs -/

/-- STEP_INPUT_EDGE: an edge of AXa_STEP past its filter, with AXa_DIR sampled at it (R395, R397). Edges while the axis is
stopping, FAULTED or disabled are counted and dropped. -/
def Device.stepEdge (d : Device) (a : Nat) (dir : Bool) : Device :=
  let x := d.axis a
  let back := xor dir (d.flag R.MP_STEPIN_DIR_INV [a])
  let n : Int := d.get R.MP_STEPIN_STEP_RES [a]
  if d.get R.MP_CTL_MODE [a] ≠ 3 ∨ d.motionTaken ∨ x.towardLimit back then d
  else if x.run ≠ 1 ∨ x.home ≠ 0 ∨ !d.axisOn a then d.setAxis a { x with lostSteps := x.lostSteps + 1 }
  else d.setAxis a { x with steps := if back then x.steps - n else x.steps + n }

/-- LIMIT_SWITCH: an end limit becomes active past its filter (R397, R399, R412). -/
def Device.limitTrip (d : Device) (a : Nat) (negative : Bool) : Device :=
  let x := d.axis a
  let x := if negative then { x with limN := true } else { x with limP := true }
  let d := d.setAxis a x
  let toward := if negative then decide (x.vel < 0) else decide (0 < x.vel)
  if !toward then d
  else
    let d := (d.setFlag R.MP_EVT_LIMIT_HIT [a] true).bump R.MP_CNT_LIMITS [a]
    let d := d.fireIf R.MP_EV_LIMIT_EV_EN R.MP_EV_LIMIT_EV [a]
    if x.home = 1 then
      if x.homeTrips = 0 then d.setAxis a { x with home := 2, homeTrips := 1 }
      else (d.axisStop a 2).setFlag R.MP_EVT_HOME_LIMIT [a] true
    else if x.home = 3 then d.setAxis a { x with homeStop := true }
    else if x.run = 2 then d
    else d.axisStop a 2

/-- END_LIMIT_RELEASE (R397). -/
def Device.limitRelease (d : Device) (a : Nat) (negative : Bool) : Device :=
  let x := d.axis a
  d.setAxis a (if negative then { x with limN := false } else { x with limP := false })

/-- A firing on the START input starts an armed move at the next boundary (R392, R410). -/
def Device.startInput (d : Device) (a : Nat) : Device :=
  if d.motionTaken ∨ !d.flag R.MP_STAT_ARMED [a] then d else d.setAxis a { d.axis a with startReq := true }

/-- A firing on the STOP input stops the axis (R404, R412). -/
def Device.stopInput (d : Device) (a : Nat) : Device :=
  if d.motionTaken then d else d.setAxis a { d.axis a with stopReq := true }

/-! ### Power down -/

/-- AXIS_POWER_DOWN: at rest for PD_MS with PD_EN (R406). -/
def Device.powerDown (d : Device) (a : Nat) : Device :=
  let x := d.axis a
  if d.flag R.MP_CFG_PD_EN [a] ∧ d.get R.MP_STAT_STATE [a] = 1 ∧ x.still ∧ !x.pd ∧ x.wake.isNone
      ∧ (d.get R.MP_CFG_PD_MS [a] * 1000000 * 65536 : Nat) ≤ ttDiff d.tt x.restSince then
    (d.setAxis a { x with pd := true }).axisOff a
  else d

/-- AXIS_WAKE_HOLD_DONE: after 2 ms of I_HOLD the move starts, at the next boundary (R406). -/
def Device.wakeDone (d : Device) (a : Nat) : Device :=
  let x := d.axis a
  match x.wake with
  | some t => if (2000000 * 65536 : Int) ≤ ttDiff d.tt t then d.setAxis a { x with goReq := true } else d
  | none => d

/-! ### Faults -/

/-- A device record still in the on-chip log shows that a cut overrode the ramp (R138). -/
def Device.markMotionCut (d : Device) : Device :=
  let l := d.ctl.logger
  d.setLogger { l with log := l.log.map (fun r => if r.kind = 3 then { r with motionCut := true } else r) }

/-- The issued set-points as a motion note carries them (R140). -/
def Device.setPoints (d : Device) : List Nat := (List.range 4).map (fun a => code 48 ((d.axis a).setPoint))

/-- An axis whose enable is cut: no more set-points (R407, R138). -/
def Device.cutAxis (d : Device) (a st : Nat) : Device :=
  let x := d.axis a
  let moving := d.flag R.MP_STAT_MOVING [a]
  let cut := d.flag R.CD_STAT_EN_OUT [a]
  let d := if x.home ≠ 0 then d.homeFailed a else d
  let q := x.setPoint
  let d := d.setAxis a { x with q := q * uq, prev := q, vel := 0, acc := 0, run := 0, ramp := false, arrived := false, home := 0
                                goReq := false, homeReq := false, startReq := false, wake := none, pd := false, enFalling := false
                                endCause := 4, restSince := d.tt }
  let d := (d.setFlag R.MP_STAT_ARMED [a] false).put R.MP_STAT_STATE [a] st
  let d := (d.setFlag R.CD_STAT_EN_OUT [a] false).setFlag R.MP_EVT_CUT [a] true
  let d := if moving ∨ !d.flag R.MP_CFG_STANDSTILL [a] then d.setFlag R.MP_STAT_HOMED [a] false else d
  let d := d.put R.MSV_STAT_CUT [] (d.get R.MSV_STAT_CUT [] ||| 2 ^ a)
  let d := if cut then d.bump R.MSV_CNT_CUTS [] else d
  (d.moveEnded a 4).showAxis a

/-- AXIS_FAULT_INPUT: AXa_FLT_N is active (R407, R138). -/
def Device.axisFault (d : Device) (a : Nat) : Device :=
  let x := d.axis a
  if x.flt then d
  else
    let cut := d.flag R.CD_STAT_EN_OUT [a]
    let d := if cut then d.logRecord (d.newRecord 4 1 12 (2 ^ a) false d.setPoints) else d
    let d := if cut ∧ d.motionTaken ∧ !x.still then d.markMotionCut else d
    let d := (d.setAxis a { x with flt := true }).setFlag R.CD_STAT_FLT [a] true
    let d := d.cutAxis a 5
    d.fireIf R.MP_EV_FAULT_EV_EN R.MP_EV_FAULT_EV [a]

/-- AXIS_FAULT_RELEASE (R407). -/
def Device.axisFaultGone (d : Device) (a : Nat) : Device :=
  (d.setAxis a { d.axis a with flt := false }).setFlag R.CD_STAT_FLT [a] false

/-- MOTION_UECC: an uncorrectable error in the motion booth (R138, R385, R135). -/
def Device.motionUecc (d : Device) : Device :=
  let m := maskWhere 4 (fun a => d.flag R.CD_STAT_EN_OUT [a])
  let ramp := (List.range 4).any (fun a => d.flag R.CD_STAT_EN_OUT [a] && !(d.axis a).still)
  let d := if m = 0 then d else d.logRecord (d.newRecord 4 2 12 m false d.setPoints)
  let d := (List.range 4).foldl (fun d a => (d.setFlag R.CD_CTL_EN [a] false).cutAxis a 0) d
  let d := (List.range 4).foldl (fun d f => d.setFlag R.FB_STAT_SUSPECT [f] true) d
  let d := d.setFlag R.MSV_STAT_UECC [] true
  if d.faultInForce then (if ramp then d.markMotionCut else d) else d.deviceFault 6 ramp

/-! ### Readiness and recovery -/

/-- The generator and the modulator report ready (R405): `d` as it stands, `n` as it will stand, `wrote` tells which
fields the transaction writes. -/
def axisReady (d n : Device) (a : Nat) (wrote : Fld → Bool) : Bool :=
  let x := d.axis a
  let moving := d.flag R.MP_STAT_MOVING [a]
  let m := n.get R.MP_CTL_MODE [a]
  let go := wrote R.MP_CTL_GO
  let homed := n.flag R.MP_STAT_HOMED [a] || wrote R.MP_CTL_SET_POS
  let toward := x.towardLimit (n.moveNegative a)
  let enOn := d.axisOn a || (wrote R.CD_CTL_EN && n.flag R.CD_CTL_EN [a] && decide (d.get R.MP_STAT_STATE [a] = 0))
  !d.motionTaken
    && !(go && decide (m = 1) && n.flag R.MP_CFG_HOME_REQ [a] && !homed)
    && !(go && decide (m = 1 ∨ m = 2) && toward)
    && !(moving && (wrote R.MP_CTL_MODE || wrote R.MP_STEPIN_STEP_RES || wrote R.MP_SERVO_SERVO_NS))
    && !(d.flag R.CD_CTL_EN [a] && (wrote R.CD_CTL_PWM_KHZ || wrote R.CD_CTL_DEAD_NS || wrote R.CD_CTL_STRONG_EN))
    && !((go || wrote R.MP_HOME_GO) && !enOn)
    && !(wrote R.CD_STRONG_STRONG_ON && decide (n.get R.CD_STRONG_STRONG_ON [a] ≤ n.get R.CD_STRONG_STRONG_OFF [a]))
    && !(wrote R.CD_STRONG_STRONG_OFF && decide (n.get R.CD_STRONG_STRONG_ON [a] ≤ n.get R.CD_STRONG_STRONG_OFF [a]))
    && !((wrote R.CD_LA_LA_LOW || wrote R.CD_LA_LA_HIGH) && decide (n.get R.CD_LA_LA_HIGH [a] ≤ n.get R.CD_LA_LA_LOW [a]))

/-- RECOVER's wipe of an axis (R409). -/
def Device.axisRecover (d : Device) (a : Nat) : Device :=
  let st := d.get R.MP_STAT_STATE [a]
  let homed := d.flag R.MP_STAT_HOMED [a]
  let out := d.flag R.CD_STAT_EN_OUT [a]
  let flt := d.flag R.CD_STAT_FLT [a]
  let amp := d.get R.CD_STAT_I_NOW [a]
  let d := [R.MP_CTL, R.MP_TARGET, R.MP_VEL, R.MP_ACC, R.MP_JERK, R.MP_STEPIN, R.MP_HOME, R.MP_HOME_V, R.MP_HOME_OFS, R.MP_HOME_POS,
    R.MP_VNOW, R.MP_STAT, R.MP_EVT, R.MP_PRESET, R.MP_EV, R.MP_CNT, R.CD_CTL, R.CD_STRONG, R.CD_LA, R.CD_STAT, R.CD_ICUR].foldl
      (fun d r => d.wr r [a] (BitVec.ofNat 64 r.reset)) d
  let d := (d.put R.MP_STAT_STATE [a] (if st = 5 then 5 else 0)).setFlag R.MP_STAT_HOMED [a] homed
  let d := ((d.setFlag R.CD_STAT_EN_OUT [a] out).setFlag R.CD_STAT_FLT [a] flt).put R.CD_STAT_I_NOW [a] amp
  let x := d.axis a
  d.setAxis a { q := x.q, prev := x.prev, bound := x.bound, limP := x.limP, limN := x.limN, flt := x.flt, restSince := x.restSince }

/-- The motion booth after RECOVER with SCOPE 2 (R385, R409). -/
def Device.motionRecover (d : Device) : Device :=
  let d := (List.range 4).foldl Device.fbRecover d
  let d := (List.range 4).foldl Device.axisRecover d
  let d := (d.setFlag R.MSV_STAT_TAKEN [] false).setFlag R.MSV_STAT_UECC [] false
  { d with mot := { d.mot with totCuts := 0 } }

end Sys2Proof.Machine
end

