-- ==== Sys2Proof/Machine/Patterns.lean ====
section
/-! DEFINITION. The patterns a Palette channel generates (R279), as functions of format, position and frame number. -/

namespace Sys2Proof.Machine

/-- Parameters of a generator: the pattern, P0 and P1, the eight colours, lines of the frame, bytes of a line. -/
structure GenCfg where
  src : Nat
  p0 : Nat
  p1 : Nat
  cols : List Nat
  lines : Nat
  lineLen : Nat
  fmt : PixFmt

/-- Pixels of a line. -/
def GenCfg.width (g : GenCfg) : Nat := g.lineLen * 8 / max 1 g.fmt.bpp

/-- Colour `k` on channel `c`, masked to the depth. -/
def GenCfg.colour (g : GenCfg) (k c : Nat) : Nat := bits (g.cols.getD k 0) (16 * c) 16 % 2 ^ g.fmt.depth

/-- Z[j] of the zone plate. -/
def zoneTable (m j : Nat) : Nat :=
  (((m : Int) * (2 ^ 30 + cosine (4 * j)) + 2 ^ 30) / 2 ^ 31).toNat

/-- A sample of the patterns that depend on position and frame alone (R279). -/
def GenCfg.sample (g : GenCfg) (f x y c : Nat) : Nat :=
  let x := if g.fmt.family = 2 ∧ c ≠ 0 then x - x % 2 else x
  let d := g.fmt.depth
  let w := max 1 g.width
  let a := fun (lo n : Nat) => bits g.p0 lo n
  let b := fun (lo n : Nat) => bits g.p1 lo n
  match g.src with
  | 1 => g.colour (8 * x / w) c
  | 2 => ((b 32 32 + x * sgn 32 (a 0 32) + y * sgn 32 (a 32 32) + f * sgn 32 (b 0 32) : Int) % ((2 ^ d : Nat) : Int)).toNat
  | 3 => g.colour ((x / (a 0 16 + 1) + y / (a 16 16 + 1) + a 32 1 * f) % 2) c
  | 4 =>
    let dx : Int := (x : Int) - b 0 16
    let dy : Int := (y : Int) - b 16 16
    let ph := ((a 0 32 : Int) * (dx * dx + dy * dy) + a 32 32 * f) % 2 ^ 32
    if bit (b 32 3) c then zoneTable (2 ^ d - 1) (ph.toNat / 2 ^ 22) else g.colour 0 c
  | _ =>
    let place := fun (p v n : Int) => (p + f * v) % n
    let h : Int := max 1 g.lines
    let xf := place (a 32 16) (sgn 16 (b 0 16)) w
    let yf := place (a 48 16) (sgn 16 (b 16 16)) h
    if ((x : Int) - xf) % w ≤ a 0 16 ∧ ((y : Int) - yf) % h ≤ a 16 16 then g.colour 0 c else g.colour 1 c

/-- One step of the PRBS31 generator x³¹ + x²⁸ + 1: the bit it gives and the next state (log entry 45). -/
def prbsStep (s : Nat) : Nat × Nat :=
  let b := (bits s 30 1 + bits s 27 1) % 2
  (b, (s * 2 + b) % 2 ^ 31)

/-- The state after `n` bits. -/
def prbsSkip : Nat → Nat → Nat
  | 0, s => s
  | n + 1, s => prbsSkip n (prbsStep s).2

/-- The next `d` bits as a sample, the first one most significant, and the state after them. -/
def prbsSample : Nat → Nat → Nat → Nat × Nat
  | 0, v, s => (v, s)
  | d + 1, v, s =>
    let r := prbsStep s
    prbsSample d (v * 2 + r.1) r.2

/-- Samples per line in stored byte order: of a pixel, its channels; of a YCbCr pair, Cb, Y, Cr, Y (R247, R279). -/
def PixFmt.order (m : PixFmt) (w : Nat) : List (Nat × Nat) :=
  match m.family with
  | 0 => (List.range w).map (fun x => (x, 0))
  | 1 => (List.range w).flatMap (fun x => [(x, 0), (x, 1), (x, 2)])
  | _ => (List.range (w / 2)).flatMap (fun p => [(2 * p, 1), (2 * p, 0), (2 * p, 2), (2 * p + 1, 0)])

/-- Lay samples out in the line's PFNC packing: (bit offset, value). -/
def packLine (len : Nat) (vs : List (Nat × Nat)) : List Byte :=
  leBytes len ((vs.map (fun v => v.2 * 2 ^ v.1)).foldl (· + ·) 0)

/-- Line `y` of frame `f`; `seed` is the PRBS31 state at the line's start. -/
def GenCfg.line (g : GenCfg) (f y seed : Nat) : List Byte :=
  let os := g.fmt.order g.width
  if g.src = 5 then
    let r := os.foldl (fun (acc : List (Nat × Nat) × Nat) o =>
      let v := prbsSample g.fmt.depth 0 acc.2
      (((g.fmt.place o.1 o.2).1, v.1) :: acc.1, v.2)) ([], seed)
    packLine g.lineLen r.1
  else packLine g.lineLen (os.map (fun o => ((g.fmt.place o.1 o.2).1, g.sample f o.1 y o.2)))

/-- PRBS31 bits a line takes. -/
def GenCfg.lineBits (g : GenCfg) : Nat := (g.fmt.order g.width).length * g.fmt.depth

end Sys2Proof.Machine
end

