-- ==== Sys2Proof/Machine/Palette.lean ====
section
/-! DEFINITION. Palette, the emitter (R273 to R290): schedules, sources, wire framing, stamps, late lines, injection. -/

namespace Sys2Proof.Machine

/-- KIND, TIMING and PACE of a channel. -/
def Device.palKind (d : Device) (p c : Nat) : Nat := d.get R.PAL_CH_CTL_KIND [p, c]
def Device.palTiming (d : Device) (p c : Nat) : Nat := d.get R.PAL_CH_CTL_TIMING [p, c]
def Device.palPaced (d : Device) (p c : Nat) : Bool := decide (2 ≤ d.get R.PAL_CH_CTL_PACE [p, c] ∧ d.get R.PAL_CH_CTL_PACE [p, c] ≤ 4)

/-- The registers of channel `c` (R286). -/
def palAddr (p c a : Nat) : Bool :=
  let base := (p + 1) * 0x01000000 + 0x00700000 + 0x1000 + 0x200 * c
  decide (base ≤ a ∧ a < base + 0x200)

/-! ### The configuration a frame runs under (R286) -/

/-- Register words by address, as they stand. -/
def Device.wordsAt (d : Device) (as : List Nat) : List (Nat × Word) :=
  as.filterMap (fun a => (findReg a).map (fun r => (a, d.rd r.1.reg r.2)))

/-- The device with these register words in place. -/
def Device.withWords (d : Device) (ws : List (Nat × Word)) : Device :=
  ws.foldl (fun d w => match findReg w.1 with
    | some (row, ix) => d.wr row.reg ix w.2
    | none => d) d

/-- The device as a frame of an earlier configuration sees it. -/
def Device.seenBy (d : Device) (fr : PalFrame) : Device := d.withWords fr.cfg

/-- What is done for a frame under its configuration; the words that stand come back afterwards. -/
def Device.under (d : Device) (fr : PalFrame) (f : Device → Device) : Device :=
  (f (d.seenBy fr)).withWords (d.wordsAt (fr.cfg.map (·.1)))

/-- A frame keeps the words it runs under that are about to change. -/
def PalFrame.keep (fr : PalFrame) (old : List (Nat × Word)) : PalFrame :=
  { fr with cfg := fr.cfg ++ old.filter (fun w => !(fr.cfg.any (fun c => decide (c.1 = w.1)))) }

/-! ### Times -/

/-- U: one frame period times NUM, in 1/65,536 ns. -/
def Device.palU (d : Device) (p c : Nat) : Nat := d.get R.PAL_CH_RATE_DEN [p, c] * 1000000000 * 65536

/-- S_k of the schedule (R275). -/
def Device.palS (d : Device) (p c k : Nat) : TT :=
  d.rd R.PAL_CH_START [p, c] + BitVec.ofNat 64 (k * d.palU p c / max 1 (d.get R.PAL_CH_RATE_NUM [p, c]))

/-- The smallest index whose S lies at or after `t` (R277). -/
def Device.palIndex (d : Device) (p c : Nat) (t : TT) : Nat :=
  let gone := ttDiff t (d.rd R.PAL_CH_START [p, c])
  let u := max 1 (d.palU p c)
  if gone ≤ 0 then 0 else
    let k := gone.toNat * max 1 (d.get R.PAL_CH_RATE_NUM [p, c]) / u
    if ttGe (d.palS p c k) t then k else k + 1

/-- The send time of active line `i` of a frame that starts at `s` (R276). -/
def Device.palLineTime (d : Device) (p c : Nat) (s : TT) (i : Nat) : TT :=
  s + BitVec.ofNat 64 ((d.get R.PAL_CH_LOFF_LOFF [p, c] + i) * d.palU p c
    / max 1 (d.get R.PAL_CH_RATE_NUM [p, c] * d.get R.PAL_CH_GEOM_LTOTAL [p, c]))

/-- The release time of packet `j` under PACE 2 to 4 (R276). -/
def Device.palPacketTime (d : Device) (p c : Nat) (s : TT) (j : Nat) : TT :=
  let pace := d.get R.PAL_CH_CTL_PACE [p, c]
  let w := if pace = 3 then d.get R.PAL_CH_GEOM_LTOTAL [p, c] else d.get R.PAL_CH_GEOM_LINES [p, c]
  let j := if pace = 4 then j - j % max 1 (d.get R.PAL_CH_PKT_BURST [p, c]) else j
  s + BitVec.ofNat 64 (d.get R.PAL_CH_TRO_TRO [p, c]) + BitVec.ofNat 64 (j * d.palU p c * w
    / max 1 (d.get R.PAL_CH_RATE_NUM [p, c] * d.get R.PAL_CH_GEOM_LTOTAL [p, c] * d.get R.PAL_CH_PKT_NPKT [p, c]))

/-- Packets per line. -/
def Device.palPerLine (d : Device) (p c : Nat) : Nat :=
  max 1 (ceilDiv (d.get R.PAL_CH_FMT_LINE_LEN [p, c]) (max 1 (d.get R.PAL_CH_PKT_PKT_LEN [p, c])))

/-- The units a line leaves in: its packets, or the whole line (R280, R284). -/
def Device.palUnits (d : Device) (p c : Nat) : Nat := if d.palKind p c ≤ 2 then d.palPerLine p c else 1

/-- The line that a frame's next unit belongs to. -/
def Device.palLineOf (d : Device) (p c : Nat) (fr : PalFrame) : Nat :=
  if d.palPaced p c then fr.next / d.palPerLine p c else fr.next

/-- All lines of a frame have gone by: NPKT packets under PACE 2 to 4, else LINES lines. -/
def Device.palLinesDone (d : Device) (p c : Nat) (fr : PalFrame) : Bool :=
  if d.palPaced p c then
    decide (min (d.get R.PAL_CH_PKT_NPKT [p, c]) (d.get R.PAL_CH_GEOM_LINES [p, c] * d.palPerLine p c) ≤ fr.next)
  else decide (d.get R.PAL_CH_GEOM_LINES [p, c] ≤ fr.next)

/-- The send time of line `i` of a frame, where it is known: under LINE_EVENT that of the line a firing has scheduled (R275,
R276). -/
def Device.palSendTime (d : Device) (p c : Nat) (fr : PalFrame) (i : Nat) : Option TT :=
  if d.palTiming p c = 2 then (if i = fr.next then (d.pal p c).due else none)
  else if d.palPaced p c then some (d.palPacketTime p c fr.s (i * d.palPerLine p c))
  else some (d.palLineTime p c fr.s i)

/-- The time R276 and R280 give a frame's next unit: its leader, a packet, a line or its trailer. -/
def Device.palPlan (d : Device) (p c : Nat) (fr : PalFrame) : Option TT :=
  if fr.lead then some fr.s
  else if d.palLinesDone p c fr then
    (if d.palKind p c ≠ 2 then none
    else if d.palTiming p c = 2 then some (fr.sentAt + (d.palLineTime p c 0 1 - d.palLineTime p c 0 0))
    else some (d.palLineTime p c fr.s (d.get R.PAL_CH_GEOM_LINES [p, c])))
  else if d.palPaced p c then some (d.palPacketTime p c fr.s fr.next)
  else d.palSendTime p c fr fr.next

/-- The frame whose unit goes next and the time of it (R276): one that holds a delayed unit, else the earliest due, of equal
ones that of the older frame. -/
def Device.palNext (d : Device) (p c : Nat) : Option (PalFrame × TT) :=
  let frames := (d.pal p c).frames
  match frames.find? (fun fr => fr.hold.isSome) with
  | some fr => fr.hold.map (fun t => (fr, t))
  | none =>
    (frames.filterMap (fun fr => ((d.seenBy fr).palPlan p c fr).map (fun t => (fr, t)))).foldl (fun best u =>
      match best with
      | some b => if ttDiff u.2 b.2 < 0 then some u else best
      | none => some u) none

/-- A lower channel of the port has a unit due at the same time, which goes first (R283, R288). -/
def Device.palYields (d : Device) (p c : Nat) (t : TT) : Bool :=
  (List.range c).any (fun c' => decide ((d.palNext p c').map (·.2) = some t))

/-- Neither the port's booth nor a port it is lent to keeps its emitter idle (R23, R289). -/
def Device.palIdle (d : Device) (p : Nat) : Bool := d.boothDown p || d.lent p

/-- NEXT_TT: the start of the next scheduled frame. -/
def Device.showPalNext (d : Device) (p c : Nat) : Device :=
  if d.palTiming p c = 0 then d.wr R.PAL_CH_NEXT_TT [p, c] (d.palS p c (d.pal p c).k)
  else match (d.pal p c).due with
    | some t => d.wr R.PAL_CH_NEXT_TT [p, c] t
    | none => d

/-! ### Injection -/

/-- Kind `k` is enabled, with a non-zero interval (R284). -/
def Device.injOn (d : Device) (p c k : Nat) : Bool :=
  bit (d.get R.PAL_CH_INJ_CTL_KINDS [p, c]) k && decide (d.get R.PAL_CH_INJ_INTERVAL [p, c, k] ≠ 0)

/-- RANDOM of kind `k`. -/
def Device.injRandom (d : Device) (p c k : Nat) : Bool := bit (d.get R.PAL_CH_INJ_CTL_RANDOM [p, c]) k

/-- A gap from 1 to 2 N_k − 1 is drawn from the channel's PRBS31 (R284, log entry 43). -/
def Device.injDraw (d : Device) (p c k : Nat) : Device :=
  let x := d.pal p c
  let n := 2 * d.get R.PAL_CH_INJ_INTERVAL [p, c, k] - 1
  let g := 1 + Config.injGap x.inj n % max 1 n
  d.setPal p c { x with inj := Config.injNext x.inj, gaps := (List.range 6).map (fun i => if i = k then g else x.gaps.getD i 0) }

/-- `n` units have gone by without one of kind `k` being selected. -/
def Device.injPass (d : Device) (p c k n : Nat) : Device :=
  let x := d.pal p c
  d.setPal p c { x with gaps := (List.range 6).map (fun i => if i = k then x.gaps.getD i 0 - n else x.gaps.getD i 0) }

/-- The first gaps of the random kinds are drawn. -/
def Device.injPrime (d : Device) (p c : Nat) : Device :=
  (List.range 6).foldl (fun d k =>
    if d.injOn p c k && d.injRandom p c k && decide ((d.pal p c).gaps.getD k 0 = 0) then d.injDraw p c k else d) d

/-- The channel's next unit is selected for kind `k` (R284). -/
def Device.injHits (d : Device) (p c k : Nat) : Bool :=
  let x := d.pal p c
  d.injOn p c k && (if d.injRandom p c k then decide (x.gaps.getD k 0 = 1)
    else decide ((x.units + 1) % d.get R.PAL_CH_INJ_INTERVAL [p, c, k] = 0))

/-- One more unit has been taken, whatever became of it. -/
def Device.injUnit (d : Device) (p c : Nat) : Device :=
  let d := (List.range 6).foldl (fun d k =>
    if k = 0 ∨ !d.injOn p c k ∨ !d.injRandom p c k then d
    else if (d.pal p c).gaps.getD k 0 ≤ 1 then d.injDraw p c k
    else d.injPass p c k 1) d
  d.setPal p c { d.pal p c with units := (d.pal p c).units + 1 }

/-- The bits that random BIT_ERR selects among `n` payload bits, from place `pos` on. -/
def Device.injRandomBits (p c n : Nat) : Nat → Nat → Device → List Nat × Device
  | 0, _, d => ([], d)
  | fuel + 1, pos, d =>
    let g := max 1 ((d.pal p c).gaps.getD 0 0)
    if n < pos + g then ([], d.injPass p c 0 (n - pos))
    else
      let r := injRandomBits p c n fuel (pos + g) (d.injDraw p c 0)
      ((pos + g - 1) :: r.1, r.2)

/-- The bits that BIT_ERR selects among a unit's `n` payload bits, every bit counting as a unit (R284). -/
def Device.injBits (d : Device) (p c n : Nat) : List Nat × Device :=
  let x := d.pal p c
  let after := fun (d : Device) => d.setPal p c { d.pal p c with bits := x.bits + n }
  if !d.injOn p c 0 then ([], after d)
  else if d.injRandom p c 0 then
    let r := Device.injRandomBits p c n (n + 1) 0 d
    (r.1, after r.2)
  else
    let each := d.get R.PAL_CH_INJ_INTERVAL [p, c, 0]
    (((List.range (n / each + 1)).map (fun j => each - 1 - x.bits % each + j * each)).filter (fun i => decide (i < n)), after d)

/-- Count `n` injections of kind `k`. -/
def Device.injCount (d : Device) (p c k n : Nat) : Device :=
  let w := d.get R.PAL_CH_INJCNT_COUNT [p, c]
  let was := bits w (10 * k) 10
  d.put R.PAL_CH_INJCNT_COUNT [p, c] (w - was * 2 ^ (10 * k) + min 1023 (was + n) * 2 ^ (10 * k))

/-- LATE of the channel's next unit: how long it is held back beyond its time (R284). -/
def Device.injDelay (d : Device) (p c : Nat) : TT :=
  if d.injHits p c 5 && !d.injHits p c 1 then ttNs (d.get R.PAL_CH_INJ_LATE_NS [p, c, 5]) else 0

/-- Invert bits of a byte string. -/
def flipBits (bs : List Byte) (is : List Nat) : List Byte :=
  is.foldl (fun bs i => bs.modify (i / 8) (fun b => b ^^^ BitVec.ofNat 8 (2 ^ (i % 8)))) bs

/-! ### The wire -/

/-- The checksum with the injected error: plus 1 modulo 65,536, with 0 sent as 1 (R284). -/
def badSum (s : Nat) : Nat := if (s + 1) % 65536 = 0 then 1 else (s + 1) % 65536

/-- A UDP datagram of the channel (R280); `bad` sends a wrong checksum. -/
def Device.palUdp (d : Device) (p c : Nat) (bad : Bool) (m : List Byte) : List Byte :=
  let ix := [p, c]
  let v6 := d.flag R.PAL_CH_UDP_IPV6 ix
  let dst := if v6 then (d.rd R.PAL_CH_DST_HI ix).toNat * 2 ^ 64 + (d.rd R.PAL_CH_DST_LO ix).toNat else (d.rd R.PAL_CH_DST_LO ix).toNat % 2 ^ 32
  let set := d.get R.PAL_CH_DMAC_DMAC ix
  let mac := if set ≠ 0 then set else (multicastMac v6 dst).getD 0
  let n := m.length + 8
  let tos := d.get R.PAL_CH_UDP_DSCP ix * 4
  let ttl := BitVec.ofNat 8 (d.get R.PAL_CH_UDP_TTL ix)
  let srcB := if v6 then beBytes 8 (d.rd R.PP_IP6_HI [p]).toNat ++ beBytes 8 (d.rd R.PP_IP6_LO [p]).toNat else beBytes 4 (d.get R.PP_IP4_ADDR [p])
  let dstB := beBytes (if v6 then 16 else 4) dst
  let u := fun (s : Nat) => beBytes 2 (d.get R.PAL_CH_UDP_SRC_PORT ix) ++ beBytes 2 (d.get R.PAL_CH_UDP_DST_PORT ix) ++ beBytes 2 n ++ beBytes 2 s ++ m
  let good := onesCheck (wordSum (srcB ++ dstB) + 17 + n + wordSum (u 0))
  let dgram := u (if bad then badSum good else good)
  let eth := beBytes 6 mac ++ beBytes 6 (d.get R.PP_MAC_MAC [p])
  if v6 then
    eth ++ beBytes 2 0x86DD ++ beBytes 4 (6 * 2 ^ 28 + tos * 2 ^ 20) ++ beBytes 2 n ++ [17, ttl] ++ srcB ++ dstB ++ dgram
  else
    let h := fun (s : Nat) => [0x45, BitVec.ofNat 8 tos] ++ beBytes 2 (n + 20) ++ zeros 4 ++ [ttl, 17] ++ beBytes 2 s ++ srcB ++ dstB
    eth ++ beBytes 2 0x0800 ++ h (onesCheck (wordSum (h 0))) ++ dgram

/-- One unit leaves the port: a packet, a line's blocks, or its lane words (R199, R208). -/
def Device.palWire (d : Device) (p c : Nat) (u : List Byte × List Nat) : Device :=
  let d :=
    if d.palKind p c ≤ 2 then d.packetTx p u.1 d.tt
    else if !d.up p ∨ d.boothDown p then d
    else if d.palKind p c = 3 then
      ((chunks 32 u.1.length u.1).foldl (fun (acc : Device × Bool) b => (acc.1.dealBlock p acc.2 b, false)) (d, true)).1
    else d.putWire p 0 u.1
  if u.2 = [] then d else d.flipWire p u.2

/-- FAULT_INJECTION: the channel's next unit, of `n` payload bits, goes out as its injections make it (R284, R288): `make` builds
it with or without the checksum error, with bits of its payload inverted. With TARGET 1 the bits are inverted on the lane. A
held unit goes out after the one that follows it, whatever becomes of that one. -/
def Device.palUnit (d : Device) (p c n : Nat) (make : Bool → List Nat → List Byte) : Device :=
  let was := (d.pal p c).held
  let hit := fun (k : Nat) => d.injHits p c k
  let r := d.injBits p c n
  let lane := d.flag R.PAL_CH_INJ_CTL_TARGET [p, c]
  let free := fun (d : Device) => was.foldl (fun d u => d.palWire p c u) d
  let d' := r.2.injUnit p c
  let d' := d'.setPal p c { d'.pal p c with held := [] }
  if hit 1 then free (d'.injCount p c 1 1)
  else
    let d' := [2, 3, 4, 5].foldl (fun d k => if hit k then d.injCount p c k 1 else d) (d'.injCount p c 0 r.1.length)
    let u := (make (hit 4) (if lane then [] else r.1), if lane then r.1 else [])
    let out := if hit 2 then [u, u] else [u]
    if hit 3 then
      let d' := free d'
      d'.setPal p c { d'.pal p c with held := out }
    else free (out.foldl (fun d u => d.palWire p c u) d')

/-- The samples of a pgroup, packed least significant bit first, most significant bit first on the wire (R220, R278). -/
def wireGroup (depth : Nat) (g : List Byte) : List Byte :=
  let n := g.length * 8 / depth
  let v := ofLE g
  beBytes g.length ((List.range n).map (fun i => bits v (depth * i) depth * 2 ^ (g.length * 8 - depth * (i + 1)))).sum

/-- A row segment in the wire packing of ST 2110-20. -/
def wirePack (pixfmt : Nat) (bs : List Byte) : List Byte :=
  match pgroup pixfmt with
  | some (_, size, depth) => if depth = 8 then bs else (chunks size bs.length bs).flatMap (wireGroup depth)
  | none => bs

/-- The RTP timestamp of a frame: the media clock at S (R186, R277). -/
def Device.mediaClock (d : Device) (s : TT) : Nat :=
  ((d.wallAt s * 90000 / (1000000000 * 65536)) % 2 ^ 32).toNat

/-- An ST 2110-20 packet: `off` bytes into line `i` (R280). -/
def Device.rtpPacket (d : Device) (p c : Nat) (fr : PalFrame) (i off : Nat) (marker : Bool) (data : List Byte) : List Byte :=
  let ix := [p, c]
  let seq := ((Config.rtpSeq (p * 4 + c)).toNat + (d.pal p c).seq) % 2 ^ 32
  let fmt := d.get R.PAL_CH_FMT_PIXFMT ix
  let pix := match pgroup fmt with
    | some (px, size, _) => off / size * px
    | none => off
  [0x80, BitVec.ofNat 8 (128 * b2n marker + d.get R.PAL_CH_RTP_PT ix)] ++ beBytes 2 (seq % 65536) ++ beBytes 4 fr.rtp
    ++ beBytes 4 (d.get R.PAL_CH_RTP_SSRC ix) ++ beBytes 2 (seq / 65536) ++ beBytes 2 data.length ++ beBytes 2 i ++ beBytes 2 pix
    ++ wirePack fmt data

/-- The block ID of frame `f` (R280). -/
def Device.gvBlock (d : Device) (p c f : Nat) : Nat := if d.flag R.PAL_CH_CTL_EXT_ID [p, c] then (f + 1) % 2 ^ 64 else f % 65535 + 1

/-- A GVSP packet (R189, log entry 33). -/
def Device.gvPacket (d : Device) (p c status f fmt id : Nat) (data : List Byte) : List Byte :=
  let b := d.gvBlock p c f
  if d.flag R.PAL_CH_CTL_EXT_ID [p, c] then
    beBytes 2 status ++ zeros 2 ++ [BitVec.ofNat 8 (128 + fmt)] ++ zeros 3 ++ beBytes 8 b ++ beBytes 4 id ++ data
  else beBytes 2 status ++ beBytes 2 b ++ [BitVec.ofNat 8 fmt] ++ beBytes 3 id ++ data

/-- The leader of a GVSP block: payload type Image, S in ns, format and size (R280). -/
def Device.gvLeaderOut (d : Device) (p c : Nat) (fr : PalFrame) : List Byte :=
  let fmt := d.get R.PAL_CH_FMT_PIXFMT [p, c]
  let bpp := max 1 (fmt / 65536 % 256)
  d.gvPacket p c 0 fr.no 1 0 (beBytes 2 0 ++ beBytes 2 1 ++ beBytes 8 (ttWhole fr.s) ++ beBytes 4 fmt
    ++ beBytes 4 (d.get R.PAL_CH_FMT_LINE_LEN [p, c] * 8 / bpp) ++ beBytes 4 (d.get R.PAL_CH_GEOM_LINES [p, c]) ++ zeros 12)

/-- The trailer. -/
def Device.gvTrailerOut (d : Device) (p c : Nat) (fr : PalFrame) : List Byte :=
  let lines := d.get R.PAL_CH_GEOM_LINES [p, c]
  d.gvPacket p c 0 fr.no 2 (lines * d.palPerLine p c + 1) (zeros 2 ++ beBytes 2 1 ++ beBytes 4 lines)

/-- One packet of line `i`: the bytes from `off` on (R280). -/
def Device.palPacket (d : Device) (p c : Nat) (fr : PalFrame) (i off : Nat) (line : List Byte) : Device :=
  let len := max 1 (d.get R.PAL_CH_PKT_PKT_LEN [p, c])
  let kind := d.palKind p c
  let data := (line.drop off).take len
  let last := decide (i + 1 = d.get R.PAL_CH_GEOM_LINES [p, c] ∧ line.length ≤ off + len)
  let msg := fun (bs : List Byte) =>
    if kind = 1 then d.rtpPacket p c fr i off last bs
    else if kind = 2 then d.gvPacket p c 0 fr.no 3 (i * d.palPerLine p c + off / len + 1) bs else bs
  let d' := d.setPal p c { d.pal p c with seq := (d.pal p c).seq + b2n (decide (kind = 1)) }
  d'.palUnit p c (data.length * 8) (fun bad is => d.palUdp p c bad (msg (flipBits data is)))

/-- LINE_START of line `i` (R198, R280). -/
def Device.palLineStart (d : Device) (p c : Nat) (fr : PalFrame) (i : Nat) (bad : Bool) : List Byte :=
  let ix := [p, c]
  let b := ctrlBlock 0x2D (layout
    [(1, d.get R.PAL_CH_CTL_STREAM ix + 64 * b2n (decide (i = 0)) + 128 * b2n (decide (i + 1 = d.get R.PAL_CH_GEOM_LINES ix))),
     (1, d.get R.PAL_CH_CTL_LINE_SCAN ix), (1, 0), (4, fr.no % 2 ^ 32), (4, i), (4, d.get R.PAL_CH_FMT_PIXFMT ix),
     (4, d.get R.PAL_CH_FMT_LINE_LEN ix), (2, fr.trigId)])
  if bad then b.take 30 ++ leBytes 2 (badSum (ofLE (b.drop 30))) else b

/-- Unit `j` of line `i`: one of its packets, or the whole line behind its LINE_START (R280). -/
def Device.palLineUnit (d : Device) (p c : Nat) (fr : PalFrame) (i j : Nat) (line : List Byte) : Device :=
  if d.palKind p c ≤ 2 then d.palPacket p c fr i (j * max 1 (d.get R.PAL_CH_PKT_PKT_LEN [p, c])) line
  else
    d.palUnit p c (line.length * 8) (fun bad is =>
      let bs := flipBits line is
      if d.palKind p c = 3 then d.palLineStart p c fr i bad ++ bs ++ zeros ((32 - bs.length % 32) % 32) else bs)

/-! ### Lines -/

/-- The generator of a channel. -/
def Device.genCfg (d : Device) (p c : Nat) : GenCfg :=
  { src := d.get R.PAL_CH_CTL_SRC [p, c], p0 := d.get R.PAL_CH_GEN0_P0 [p, c], p1 := d.get R.PAL_CH_GEN1_P1 [p, c]
    cols := (List.range 8).map (fun k => d.get R.PAL_CH_COL_COL [p, c, k]), lines := d.get R.PAL_CH_GEOM_LINES [p, c]
    lineLen := d.get R.PAL_CH_FMT_LINE_LEN [p, c], fmt := (pixFmt (d.get R.PAL_CH_FMT_PIXFMT [p, c])).getD ⟨8, 8, 0⟩ }

/-- SEED as it acts: 0 acts as 1. -/
def Device.palSeed (d : Device) (p c : Nat) : Nat := max 1 (d.get R.PAL_CH_GEN0_P0 [p, c] % 2 ^ 31)

/-- The PRBS31 state at the start of the next frame: SEED anew when REPEAT is set (R279). -/
def Device.palPrbs (d : Device) (p c : Nat) : Nat := if d.flag R.PAL_CH_CTL_REPEAT [p, c] then d.palSeed p c else (d.pal p c).prbs

/-- Where line `i` of frame `f` lies in the store (R278). -/
def Device.palSource (d : Device) (p c f i : Nat) : Nat :=
  (d.rd R.PAL_CH_SRC [p, c]).toNat + f % (d.get R.PAL_CH_SRCG_SRC_FRAMES [p, c] + 1) * (d.get R.PAL_CH_SRCG_FSIZE [p, c] * 65536)
    + i * (d.get R.PAL_CH_LOFF_STRIDE [p, c] * 64)

/-- A line of a frame as its source gives it, before its stamp (R278, R279); none where the Net refuses the read. -/
def Device.palLine (d : Device) (p c : Nat) (fr : PalFrame) (i : Nat) : Option (List Byte) × Device :=
  let len := d.get R.PAL_CH_FMT_LINE_LEN [p, c]
  let g := d.genCfg p c
  if d.get R.PAL_CH_CTL_SRC [p, c] = 0 then d.portRead p (d.palSource p c fr.no i) len
  else (some (g.line fr.no i (prbsSkip (i * g.lineBits) fr.prbs)), d)

/-- The channel's pending writes that apply no later than `s`, as words by address once they have applied (R286). -/
def Device.palPending (d : Device) (p c : Nat) (s : TT) : List (Nat × Word) :=
  (d.settleAt s (palAddr p c)).wordsAt
    ((d.ctl.pend.filter (fun w => palAddr p c w.write.addr && ttGe s w.ttc)).map (fun w => w.write.addr)).eraseDups

/-- S of the channel's next frame: of the schedule, or as a firing has set it where no frame waits for lines (R275, R277). -/
def Device.palComingS (d : Device) (p c : Nat) : Option TT :=
  let x := d.pal p c
  if !d.flag R.PAL_CH_CTL_EN [p, c] then none
  else if d.palTiming p c = 0 then some (d.palS p c x.k)
  else if x.frames.any (fun fr => !(d.seenBy fr).palLinesDone p c fr) then none
  else x.due

/-- The channel's next frame as it will start, for the lines fetched ahead of it (R282). -/
def Device.palComing (d : Device) (p c : Nat) : Option PalFrame :=
  match d.palComingS p c with
  | none => none
  | some s =>
    let ws := d.palPending p c s
    let n := d.withWords ws
    if n.flag R.PAL_CH_CTL_EN [p, c] then
      some { no := d.get R.PAL_CH_FRAME_NEXT [p, c], s := s, epoch := 0, trigId := 0, rtp := 0, prbs := n.palPrbs p c, cfg := ws }
    else none

/-- Line `i` of the frame may be fetched now: it is still to come, not fetched yet, and its send time is no more than
PREFETCH_NS away and not past (R282); `d` is under the frame's configuration. -/
def Device.palFetchable (d : Device) (p c : Nat) (fr : PalFrame) (i : Nat) : Bool :=
  let soon := match d.palSendTime p c fr i with
    | some t => ttGe d.tt (t - ttNs (max 256 (d.get R.PAL_CH_EV_PREFETCH_NS [p, c]))) && ttGe t d.tt
    | none => false
  decide (i < d.get R.PAL_CH_GEOM_LINES [p, c] ∧ d.palLineOf p c fr + b2n fr.cur.isSome ≤ i) && soon
    && !((d.pal p c).fetched.any (fun e => decide (e.1 = fr.no ∧ e.2.1 = i)))

/-- The CRC of R281 over line CRC_LINE as it is produced, the stamp's own bytes counted as 0. -/
def Device.palLineCrc (d : Device) (p c i : Nat) (line : List Byte) : Nat :=
  crc64 (if i = d.get R.PAL_CH_STAMP_STAMP_LINE [p, c] then patch line (d.get R.PAL_CH_STAMP_STAMP_OFF [p, c]) (zeros 32) else line)

/-- Line `i` of a frame enters the transmit queue, and its CRC is kept where a stamp will carry it (R281, R282). -/
def Device.palFetch (d : Device) (p c : Nat) (fr : PalFrame) (i : Nat) : Device :=
  let r := d.palLine p c fr i
  let x := r.2.pal p c
  let crcs := match r.1 with
    | some bs =>
      if bit (d.get R.PAL_CH_CTL_STAMP_EN [p, c]) 2 ∧ i = d.get R.PAL_CH_STAMP_CRC_LINE [p, c] then [(fr.no, d.palLineCrc p c i bs)] else []
    | none => []
  if r.2.boothDown p then r.2 else r.2.setPal p c { x with fetched := x.fetched ++ [(fr.no, i, r.1)], crcs := x.crcs ++ crcs }

/-- PAL_LINE_PREFETCH: line `i` is fetched or computed, from PREFETCH_NS before its send time, for the oldest frame that it can
be fetched for, the next one among them (R282, R274). -/
def Device.palPrefetch (d : Device) (p c i : Nat) : Device :=
  if !d.flag R.PP_CTL_EMIT [p] ∨ d.palIdle p then d
  else match ((d.pal p c).frames ++ (d.palComing p c).toList).find? (fun fr => (d.seenBy fr).palFetchable p c fr i) with
    | some fr => d.under fr (fun d => d.palFetch p c fr i)
    | none => d

/-- The stamp of R281 over line `i`. Where line CRC_LINE was never produced the spec gives its CRC no value: a free one
(log entry 122). -/
def Device.palStamp (d : Device) (p c : Nat) (fr : PalFrame) (i : Nat) (line : List Byte) : List Byte × Device :=
  let ix := [p, c]
  let en := d.get R.PAL_CH_CTL_STAMP_EN ix
  if en = 0 ∨ i ≠ d.get R.PAL_CH_STAMP_STAMP_LINE ix then (line, d)
  else
    let on := fun (b : Nat) (v : Nat) => if bit en b then v else 0
    let crc := match (d.pal p c).crcs.find? (fun e => decide (e.1 = fr.no)) with
      | some e => (e.2, d)
      | none =>
        let r := d.draw
        (ofLE ((List.range 8).map (Config.openByte r.1)), r.2)
    (patch line (d.get R.PAL_CH_STAMP_STAMP_OFF ix) ([0x4C, 0x4E, 0x50, 0x53]
      ++ layout [(4, on 0 fr.epoch), (8, on 0 fr.no), (8, on 1 fr.s.toNat), (8, on 2 crc.1)]), crc.2)

/-! ### Frames -/

/-- Replace a frame in progress. -/
def Device.setFrame (d : Device) (p c : Nat) (fr : PalFrame) : Device :=
  let x := d.pal p c
  d.setPal p c { x with frames := x.frames.map (fun g => if g.no = fr.no then fr else g) }

/-- The deferral of a unit that is sent is recorded (R283). -/
def Device.palDefer (d : Device) (p c ns : Nat) : Device :=
  d.put R.PAL_CH_CNT2_MAX_DEFER [p, c] (max (d.get R.PAL_CH_CNT2_MAX_DEFER [p, c]) (min ns (2 ^ 32 - 1)))

/-- The schedule starts over where START, RATE or TIMING has changed: the smallest index whose S lies after `s`, or with `at_`
no earlier than it (R277). -/
def Device.palReindex (d was : Device) (p c : Nat) (s : TT) (at_ : Bool) : Device :=
  let ix := [p, c]
  if d.rd R.PAL_CH_START ix = was.rd R.PAL_CH_START ix ∧ d.rd R.PAL_CH_RATE ix = was.rd R.PAL_CH_RATE ix
      ∧ d.palTiming p c = was.palTiming p c then d
  else
    let k := d.palIndex p c s
    d.setPal p c { d.pal p c with k := if !at_ ∧ d.palS p c k = s then k + 1 else k }

/-- EN = 1 takes the place of EN = 0: the first frame is the first of the schedule from now on, injected units count anew, and
both generators are seeded (R277, R284, R290). -/
def Device.palEnter (d : Device) (p c : Nat) (ttc : TT) : Device :=
  d.setPal p c { d.pal p c with k := d.palIndex p c ttc, units := 0, bits := 0, gaps := [], held := [], due := none
                                inj := BitVec.ofNat 31 (max 1 (d.get R.PAL_CH_INJ_CTL_INJ_SEED [p, c])), prbs := d.palSeed p c }

/-- The pending writes of a channel apply at the adoption tick while it is not emitting; otherwise they wait for its next frame,
and lines fetched for that one are fetched again (R286). -/
def Device.palAdopt (d : Device) (p c : Nat) (ttc : TT) : Device :=
  let x := d.pal p c
  let next := d.get R.PAL_CH_FRAME_NEXT [p, c]
  let fresh := fun (x : PalX) => { x with fetched := x.fetched.filter (fun e => decide (e.1 ≠ next)), crcs := x.crcs.filter (fun e => decide (e.1 ≠ next)) }
  if !x.frames.isEmpty then
    match d.palComingS p c with
    | some s => if ttGe s ttc then d.setPal p c (fresh x) else d
    | none => d
  else
    let was := d
    let d := (d.setPal p c (fresh x)).settleAt ttc (palAddr p c)
    if !d.flag R.PAL_CH_CTL_EN [p, c] then d.setPal p c { d.pal p c with due := none }
    else
      let d := if was.flag R.PAL_CH_CTL_EN [p, c] then d.palReindex was p c ttc true else d.palEnter p c ttc
      d.showPalNext p c

/-- A frame is over: a held unit goes out and what was kept for the frame goes (R275, R284). Of a channel that a frame start has
stopped, what is adopted meanwhile applies now (R286). -/
def Device.palFrameEnd (d : Device) (p c : Nat) (fr : PalFrame) : Device :=
  let x := d.pal p c
  let d := x.held.foldl (fun d u => d.palWire p c u) d
  let d := d.setPal p c { d.pal p c with frames := x.frames.filter (fun g => decide (g.no ≠ fr.no)), held := []
                                         fetched := x.fetched.filter (fun e => decide (e.1 ≠ fr.no))
                                         crcs := x.crcs.filter (fun e => decide (e.1 ≠ fr.no)) }
  d.showPal p

/-- The line at which a frame stands has gone by: the last one leaves its time (R280, R288). -/
def Device.palLineDone (d : Device) (p c : Nat) (fr : PalFrame) : Device :=
  let fr := { fr with cur := none, part := 0, hold := none }
  let last := d.palLinesDone p c fr
  let fr := if last then { fr with sentAt := d.tt } else fr
  let x := d.pal p c
  let d := d.setPal p c { x with leftAt := if last then some d.tt else x.leftAt, due := if d.palTiming p c = 2 then none else x.due }
  let d := d.setFrame p c fr
  if last ∧ d.palKind p c ≠ 2 then d.palFrameEnd p c fr else d

/-! ### Units leave -/

/-- The fetched bytes of a line, taken out of the transmit queue. -/
def Device.palTake (d : Device) (p c f i : Nat) : Option (Option (List Byte)) × Device :=
  let x := d.pal p c
  match x.fetched.find? (fun e => decide (e.1 = f ∧ e.2.1 = i)) with
  | some e => (some e.2.2, d.setPal p c { x with fetched := x.fetched.erase e })
  | none => (none, d)

/-- A line's send time has come (R274, R282): its bytes if it is in the queue and payload may leave; otherwise it is
counted SUPPRESSED or LATE. -/
def Device.palJudge (d : Device) (p c : Nat) (fr : PalFrame) (i : Nat) : Option (List Byte) × Device :=
  let r := d.palTake p c fr.no i
  if !d.flag R.PP_CTL_EMIT [p] then (none, r.2.bump R.PAL_CH_CNT_SUPPRESSED [p, c])
  else match r.1 with
    | some (some bs) =>
      let s := r.2.palStamp p c fr i bs
      (some s.1, s.2)
    | some none => (none, (r.2.bump R.PAL_CH_CNT_LATE [p, c]).bump R.PAL_CH_CNT2_REFUSED [p, c])
    | none => (none, r.2.bump R.PAL_CH_CNT_LATE [p, c])

/-- A frame's next unit may leave: none where it is held back by LATE until the time given (R284). -/
def Device.palHeldTo (d : Device) (p c : Nat) (fr : PalFrame) (plan : TT) : Option TT :=
  let t := fr.hold.getD (plan + d.injDelay p c)
  if ttGe d.tt t then none else some t

/-- The units of a line from the one it stands at, back to back until one is held back; `n` are to go (R276, R284). -/
def Device.palLineUnits (p c i : Nat) (line : List Byte) (plan : TT) : Nat → PalFrame → Device → PalFrame × Device
  | 0, fr, d => (fr, d)
  | n + 1, fr, d =>
    match d.palHeldTo p c fr plan with
    | some t => ({ fr with hold := some t }, d)
    | none => palLineUnits p c i line plan n { fr with part := fr.part + 1, hold := none } (d.palLineUnit p c fr i fr.part line)

/-- The frame's next line, or what is left of it, under PACE 1. -/
def Device.palLineGo (d : Device) (p c defer : Nat) (fr : PalFrame) (plan : TT) : Device :=
  let i := fr.next
  let fr := if d.palTiming p c = 2 ∧ fr.cur.isNone then { fr with trigId := (d.pal p c).dueId } else fr
  let r := if fr.cur.isSome then (fr.cur, d) else d.palJudge p c fr i
  match r.1 with
  | none => r.2.palLineDone p c { fr with next := i + 1 }
  | some line =>
    let n := d.palUnits p c
    let u := Device.palLineUnits p c i line plan (n - fr.part) { fr with cur := some line } (r.2.palDefer p c defer)
    if n ≤ u.1.part then u.2.palLineDone p c { u.1 with next := i + 1 } else u.2.setFrame p c u.1

/-- The frame's next packet, under PACE 2 to 4; a line that is late or suppressed is skipped whole. -/
def Device.palPacketGo (d : Device) (p c defer : Nat) (fr : PalFrame) (plan : TT) : Device :=
  let per := d.palPerLine p c
  let j := fr.next
  let i := j / per
  let r := if fr.cur.isSome then (fr.cur, d) else d.palJudge p c fr i
  match r.1 with
  | none => r.2.palLineDone p c { fr with next := (i + 1) * per }
  | some line =>
    let fr := { fr with cur := some line }
    match r.2.palHeldTo p c fr plan with
    | some t => r.2.setFrame p c { fr with hold := some t }
    | none =>
      let d := (r.2.palDefer p c defer).palLineUnit p c fr i (j % per) line
      let fr := { fr with next := j + 1, hold := none }
      if (j + 1) % per = 0 ∨ d.palLinesDone p c fr then d.palLineDone p c fr else d.setFrame p c fr

/-- The frame's GVSP leader or trailer (R280), not sent while payload may not leave (R274). -/
def Device.palEdgeGo (d : Device) (p c defer : Nat) (fr : PalFrame) (plan : TT) : Device :=
  let go := fun (d : Device) => if fr.lead then d.setFrame p c { fr with lead := false, hold := none } else d.palFrameEnd p c fr
  if !d.flag R.PP_CTL_EMIT [p] then go d
  else match d.palHeldTo p c fr plan with
    | some t => d.setFrame p c { fr with hold := some t }
    | none =>
      let m := if fr.lead then d.gvLeaderOut p c fr else d.gvTrailerOut p c fr
      go ((d.palDefer p c defer).palUnit p c 0 (fun bad _ => d.palUdp p c bad m))

/-- The channel's next unit, if `sel` wants it and its time has come (R276, R283): its frame's configuration is in force. -/
def Device.palServe (d : Device) (p c defer : Nat) (sel : Device → PalFrame → Bool) : Device :=
  match d.palNext p c with
  | none => d
  | some (fr, t) =>
    if d.palIdle p ∨ !sel (d.seenBy fr) fr ∨ !ttGe d.tt t ∨ d.palYields p c t then d
    else
      let d := d.under fr (fun d =>
        let plan := (d.palPlan p c fr).getD t
        if fr.lead ∨ d.palLinesDone p c fr then d.palEdgeGo p c defer fr plan
        else if d.palPaced p c then d.palPacketGo p c defer fr plan
        else d.palLineGo p c defer fr plan)
      let d := if (d.pal p c).frames.isEmpty ∧ !d.flag R.PAL_CH_CTL_EN [p, c] then d.palAdopt p c d.tt else d
      d.emitNet p

/-- A frame's next unit is its leader or trailer. -/
def Device.palEdge (d : Device) (p c : Nat) (fr : PalFrame) : Bool := fr.lead || d.palLinesDone p c fr

/-- PAL_LINE_SEND: the time of the channel's next line under PACE 1, or of its next GVSP leader or trailer, has come, or a delayed
one's; `defer` is how long the wire was occupied, in ns (R276, R283). -/
def Device.palLineSend (d : Device) (p c defer : Nat) : Device :=
  d.palServe p c defer (fun d fr => d.palEdge p c fr || !d.palPaced p c)

/-- PAL_PACKET_RELEASE: the release time of the channel's next ST 2110-20 packet has come (R276, R282). -/
def Device.palPacketRelease (d : Device) (p c defer : Nat) : Device :=
  d.palServe p c defer (fun d fr => !d.palEdge p c fr && d.palPaced p c)

/-! ### Frame starts -/

/-- S of a frame that is to start now. -/
def Device.palStartDue (d : Device) (p c : Nat) : Option TT :=
  match d.palComingS p c with
  | some s => if ttGe d.tt s && !d.palIdle p then some s else none
  | none => none

/-- TRIG_ID of an accepted firing (R280): of the TRIGGER block that fired, or the low 16 bits of the count of accepted
firings, 0xFFFF skipped. -/
def Device.palTrigId (d : Device) (p c n : Nat) : Nat :=
  if d.flag R.MW_VXLRX_EN [p] ∧ d.get R.MW_VXLRX_CH [p] = d.get R.PAL_CH_CTL_TRIG_EV [p, c] then (d.prtx p).lastTrig else n % 65535

/-- The frame starting at `s` under the configuration now in force (R277). -/
def Device.palNewFrame (d : Device) (p c : Nat) (s : TT) : PalFrame :=
  { no := d.get R.PAL_CH_FRAME_NEXT [p, c], s := s, epoch := d.boothEpoch p
    trigId := if d.palTiming p c = 0 then 0xFFFF else (d.pal p c).dueId
    rtp := d.mediaClock s, prbs := d.palPrbs p c, lead := decide (d.palKind p c = 2) }

/-- The next frame of the channel begins (R275, R277): it takes its number, the schedule moves on, FRAME_EV fires and a GVSP
leader leaves, behind an older frame's trailer that is due as well. -/
def Device.palBegin (d was : Device) (p c : Nat) (s : TT) : Device :=
  let fr := d.palNewFrame p c s
  let g := d.genCfg p c
  let x := d.pal p c
  let prbs := if g.src = 5 then prbsSkip (g.lines * g.lineBits) fr.prbs else fr.prbs
  let d := d.setPal p c { x with frames := x.frames ++ [fr], prbs := prbs, k := x.k + b2n (decide (d.palTiming p c = 0))
                                 due := if d.palTiming p c = 2 then x.due else none }
  let d := (d.palReindex was p c s false).injPrime p c
  let d := d.put R.PAL_CH_FRAME_NEXT [p, c] (fr.no + 1)
  let d := (d.put R.PAL_CH_STAT_EPOCH [p, c] fr.epoch).showPal p
  let d := (d.fireIf R.PAL_CH_CTL_FRAME_EV_EN R.PAL_CH_CTL_FRAME_EV [p, c]).showPalNext p c
  let lead := fun (d : Device) => d.palServe p c ((ttDiff d.tt s).toNat / 65536) (fun d fr => d.palEdge p c fr)
  (if fr.lead then lead (lead d) else d).faultIfLost p

/-- PAL_FRAME_START: S of a frame has come (R275, R277, R286): pending writes apply, frames in progress keeping the words they
run under; after an adopted EN = 0 no frame is sent (R288). -/
def Device.palFrameStart (d : Device) (p c : Nat) : Device :=
  match d.palStartDue p c with
  | none => d
  | some s =>
    let old := d.wordsAt ((d.palPending p c s).map (·.1))
    let was := d
    let d := d.settleAt s (palAddr p c)
    let x := d.pal p c
    let d := d.setPal p c { x with frames := x.frames.map (fun fr => fr.keep old) }
    if d.flag R.PAL_CH_CTL_EN [p, c] then d.palBegin was p c s
    else d.setPal p c { d.pal p c with due := none }

/-- PAL_TRIGGER_EVENT: a firing of TRIG_EV reaches the channel (R275, R288): under FRAME_EVENT it counts only once the last line
of the frame before has left, under LINE_EVENT once the line before has. -/
def Device.palTrigger (d : Device) (p c : Nat) : Device :=
  let x := d.pal p c
  let t := d.palTiming p c
  let busy := x.due.isSome
    || (decide (t = 1) && (x.frames.any (fun fr => !(d.seenBy fr).palLinesDone p c fr) || decide (x.leftAt = some d.tt)))
  if !d.flag R.PAL_CH_CTL_EN [p, c] ∨ t = 0 ∨ 2 < t then d
  else if busy then d.bump R.PAL_CH_CNT2_TRIG_BUSY [p, c]
  else
    (d.setPal p c { x with due := some (d.tt + ttNs (d.get R.PAL_CH_EV_EV_DELAY [p, c])), trigs := x.trigs + 1
                           dueId := d.palTrigId p c (x.trigs + 1) }).showPalNext p c

/-! ### Readiness -/

/-- Payload capacity of a port mode (R174), in Mbit/s; RAW carries its lane's rate. -/
def Device.payloadCap (d : Device) (p : Nat) : Nat :=
  match d.pmode p with
  | 1 => 10000
  | 2 => 25000
  | 3 => 25000
  | 4 => 50000
  | 5 => 100000
  | 6 => 52730
  | 7 => 105470
  | 8 => 210940
  | 9 => [0, 10312, 12500, 25781, 53125, 56250].getD (d.get R.LN_CTL_RATE (lx (2 * p))) 0
  | _ => 0

/-- KIND is admitted by the port's MODE (R273). -/
def kindMode (kind mode : Nat) : Bool :=
  if kind ≤ 2 then modeEth mode else if kind = 3 then modeVxl mode else decide (kind = 4 ∧ mode = 9)

/-- The rate sum of R287 stays within the port's capacity and 106 Gbit/s. -/
def Device.palRateFits (d : Device) (p : Nat) : Bool :=
  let on := (List.range 4).filter (fun c => d.flag R.PAL_CH_CTL_EN [p, c])
  let den := on.foldl (fun m c => m * max 1 (d.get R.PAL_CH_RATE_DEN [p, c])) 1
  let sum := (on.map (fun c => d.get R.PAL_CH_FMT_LINE_LEN [p, c] * 8 * d.get R.PAL_CH_GEOM_LTOTAL [p, c] * d.get R.PAL_CH_RATE_NUM [p, c]
    * (den / max 1 (d.get R.PAL_CH_RATE_DEN [p, c])))).sum
  decide (sum ≤ min (d.payloadCap p) 106000 * 1000000 * den)

/-- Palette reports ready for the channel as it will stand (R287). -/
def Device.palChannelReady (d : Device) (p c : Nat) : Bool :=
  let ix := [p, c]
  let len := d.get R.PAL_CH_FMT_LINE_LEN ix
  let lines := d.get R.PAL_CH_GEOM_LINES ix
  let stride := d.get R.PAL_CH_LOFF_STRIDE ix * 64
  let pace := d.get R.PAL_CH_CTL_PACE ix
  let en := d.get R.PAL_CH_CTL_STAMP_EN ix
  let store := decide (d.get R.PAL_CH_CTL_SRC ix = 0)
  !d.boothDown p && kindMode (d.palKind p c) (d.pmode p) && (pixFmt (d.get R.PAL_CH_FMT_PIXFMT ix)).isSome
    && decide (len ≠ 0 ∧ len ≤ 262144 ∧ len ≤ stride ∧ lines ≠ 0 ∧ d.get R.PAL_CH_LOFF_LOFF ix + lines ≤ d.get R.PAL_CH_GEOM_LTOTAL ix
      ∧ d.get R.PAL_CH_RATE_NUM ix ≠ 0 ∧ d.get R.PAL_CH_RATE_DEN ix ≠ 0)
    && !(decide (d.palTiming p c ≠ 0) && decide (pace ≠ 1))
    && !(decide (2 ≤ pace) && decide (d.palKind p c ≠ 1))
    && decide (d.get R.PAL_CH_STAMP_STAMP_LINE ix < lines ∧ d.get R.PAL_CH_STAMP_STAMP_OFF ix + 32 ≤ len)
    && !(bit en 2 && decide (d.get R.PAL_CH_STAMP_STAMP_LINE ix < d.get R.PAL_CH_STAMP_CRC_LINE ix))
    && !(store && (decide (d.get R.PAL_CH_SRCG_FSIZE ix * 65536 < lines * stride) || decide ((d.rd R.PAL_CH_SRC ix).toNat % 64 ≠ 0)))

/-- Palette of a port after RECOVER: EN of every channel clears, the rest stays (R289). -/
def Device.palRecover (d : Device) (p : Nat) : Device :=
  (List.range 4).foldl (fun d c => d.setFlag R.PAL_CH_CTL_EN [p, c] false) d

/-! ### GVCP (R190, log entry 46) -/

/-- The source of a GVCP request: MAC, IPv4 address and UDP port, and its message. -/
def gvcpRequest (f : List Byte) : Option (Nat × Nat × Nat × List Byte) :=
  match parseEth f with
  | some e => match e.ip with
    | .udp u => if beAt u.data 0 1 = 0x42 ∧ e.etype = 0x0800 then
        some (beAt f 6 6, beAt e.body 12 4, beAt e.body (beAt e.body 0 1 % 16 * 4) 2, u.data) else none
    | _ => none
  | none => none

/-- A packet is a GVCP request to the port's GVCP port 3956. -/
def isGvcp (f : List Byte) : Bool :=
  match gvcpRequest f, parseEth f with
  | some _, some e => decide (beAt e.body (beAt e.body 0 1 % 16 * 4 + 2) 2 = 3956)
  | _, _ => false

/-- The channel that emits GVSP on the port, with a register image. -/
def Device.gvcpChannel (d : Device) (p : Nat) : Option Nat :=
  (List.range 4).find? (fun c => decide (d.palKind p c = 2 ∧ (d.pal p c).image ≠ []))

/-- An acknowledge. -/
def gvcpAck (status cmd id : Nat) (body : List Byte) : List Byte :=
  beBytes 2 status ++ beBytes 2 cmd ++ beBytes 2 body.length ++ beBytes 2 id ++ body

/-- A frame is still in the store (R190). -/
def Device.inStore (d : Device) (p c f : Nat) : Bool :=
  let next := d.get R.PAL_CH_FRAME_NEXT [p, c]
  decide (d.get R.PAL_CH_CTL_SRC [p, c] = 0 ∧ f < next ∧ next ≤ f + d.get R.PAL_CH_SRCG_SRC_FRAMES [p, c] + 1)

/-- PACKETRESEND: the packets of a block from `a` to `z` once more, or the packet-unavailable status. -/
def Device.gvcpResend (d : Device) (p c : Nat) (m : List Byte) : Device :=
  let ext := d.flag R.PAL_CH_CTL_EXT_ID [p, c]
  let block := if ext then beAt m 20 8 else beAt m 10 2
  let a := beAt m 12 4
  let z := min (beAt m 16 4) (a + 65535)
  let next := d.get R.PAL_CH_FRAME_NEXT [p, c]
  let f := if ext then block - 1 else next - 1 - (next - 1 + 65535 - (block - 1)) % 65535
  let per := d.palPerLine p c
  let len := max 1 (d.get R.PAL_CH_PKT_PKT_LEN [p, c])
  (List.range (z + 1 - a)).foldl (fun d j =>
    let id := a + j
    let i := (id - 1) / per
    let gone := decide (id = 0) || !d.inStore p c f || decide (d.get R.PAL_CH_GEOM_LINES [p, c] ≤ i)
    let r := if gone then (none, d) else d.portRead p (d.palSource p c f i) (d.get R.PAL_CH_FMT_LINE_LEN [p, c])
    let m := match r.1 with
      | none => r.2.gvPacket p c 0x800C f 3 id []
      | some line => r.2.gvPacket p c 0 f 3 id ((line.drop ((id - 1) % per * len)).take len)
    r.2.packetTx p (r.2.palUdp p c false m) r.2.tt) d

/-- Firmware's answer to a GVCP request: command, request ID, body. -/
def Device.gvcpAnswer (d : Device) (p c : Nat) (m : List Byte) : Option (List Byte) × Device :=
  let x := d.pal p c
  let cmd := beAt m 2 2
  let id := beAt m 6 2
  let body := m.drop 8
  let inside := fun (a n : Nat) => decide (a + n ≤ x.image.length)
  let put := fun (im : List Byte) (a : Nat) (bs : List Byte) => patch im a bs
  if cmd = 2 then (some (gvcpAck 0 3 id (fit 248 x.image)), d)
  else if cmd = 0x80 then
    let as := (chunks 4 body.length body).map ofBE
    if as.all (fun a => inside a 4) then (some (gvcpAck 0 0x81 id (as.flatMap (fun a => (x.image.drop a).take 4))), d)
    else (some (gvcpAck 0x8003 0x81 id []), d)
  else if cmd = 0x82 then
    let ws := (chunks 8 body.length body).map (fun w => (beAt w 0 4, w.drop 4))
    if ws.all (fun w => inside w.1 4) then
      (some (gvcpAck 0 0x83 id (zeros 2 ++ beBytes 2 ws.length)), d.setPal p c { x with image := ws.foldl (fun im w => put im w.1 w.2) x.image })
    else (some (gvcpAck 0x8003 0x83 id (zeros 4)), d)
  else if cmd = 0x84 then
    let a := beAt body 0 4
    let n := beAt body 6 2
    if inside a n then (some (gvcpAck 0 0x85 id (beBytes 4 a ++ (x.image.drop a).take n)), d) else (some (gvcpAck 0x8003 0x85 id []), d)
  else if cmd = 0x86 then
    let a := beAt body 0 4
    if inside a (body.length - 4) then
      (some (gvcpAck 0 0x87 id (zeros 2 ++ beBytes 2 (body.length - 4))), d.setPal p c { x with image := put x.image a (body.drop 4) })
    else (some (gvcpAck 0x8003 0x87 id (zeros 4)), d)
  else if cmd = 0x40 then (none, d.gvcpResend p c m)
  else if cmd = 0x100 then
    (if bit (beAt m 1 1) 0 then some (gvcpAck 0 0x101 id []) else none,
      { d with tim := { d.tim with actionsIn := d.tim.actionsIn ++ [(p, body)] } })
  else (some (gvcpAck 0x8001 (cmd + 1) id []), d)

/-- GVCP_REQUEST_RX: firmware takes the GVCP request at the head of the slow-path ring and answers it as the camera's
device (R190). -/
def Device.gvcpTake (d : Device) (p : Nat) : Device :=
  match (d.prtx p).slow with
  | [] => d
  | f :: rest =>
    if !d.ready ∨ !isGvcp f.1 then d
    else
      let d := d.setPrt p { d.prtx p with slow := rest }
      match gvcpRequest f.1, d.gvcpChannel p with
      | some (mac, ip, port, m), some c =>
        let r := d.gvcpAnswer p c m
        match r.1 with
        | some ack =>
          let src := beBytes 4 (d.get R.PP_IP4_ADDR [p])
          let dst := beBytes 4 ip
          let n := ack.length + 8
          let h := fun (s : Nat) => [0x45, 0] ++ beBytes 2 (n + 20) ++ zeros 4 ++ [64, 17] ++ beBytes 2 s ++ src ++ dst
          let u := fun (s : Nat) => beBytes 2 3956 ++ beBytes 2 port ++ beBytes 2 n ++ beBytes 2 s ++ ack
          r.2.packetTx p (beBytes 6 mac ++ beBytes 6 (d.get R.PP_MAC_MAC [p]) ++ beBytes 2 0x0800 ++ h (onesCheck (wordSum (h 0)))
            ++ u (onesCheck (wordSum (src ++ dst) + 17 + n + wordSum (u 0)))) d.tt
        | none => r.2
      | _, _ => d

/-- PACKETRESEND for the oldest gap reported to the slow path (R190): stream, first and last packet. -/
def Device.gvcpAsk (d : Device) (p : Nat) : Device :=
  match (d.prtx p).resend with
  | [] => d
  | (k, a, z) :: rest =>
    let d := d.setPrt p { d.prtx p with resend := rest }
    match (d.pkt p k).frameId with
    | none => d
    | some block =>
      let ext := d.flag R.PP_SM_CTL_EXT_ID [p, k]
      let body := beBytes 2 0 ++ beBytes 2 (if ext then 0 else block) ++ beBytes 4 a ++ beBytes 4 z ++ (if ext then beBytes 8 block else [])
      let m := [0x42, if ext then 0x10 else 0] ++ beBytes 2 0x0040 ++ beBytes 2 body.length ++ beBytes 2 1 ++ body
      let dr := d.draw
      dr.2.packetTx p (dr.2.udp4 p (ofBE ((List.range 6).map (Config.openByte dr.1))) (d.smSrc p k) 3956 m) d.tt

/-- SLOW_PATH_PACKET_RX: firmware takes the next packet of the ring that is no GVCP request, or a reported gap. -/
def Device.slowServe (d : Device) (p : Nat) : Device :=
  match (d.prtx p).slow with
  | f :: _ => if isGvcp f.1 then d else d.slowTake p
  | [] => if d.ready then d.gvcpAsk p else d

end Sys2Proof.Machine
end

