-- ==== Sys2Proof/Machine/Calliope.lean ====
section
/-! DEFINITION. Calliope (R69 to R95) but for the issue of words: the roll loader, halting, resuming and clearing,
attachment, event inputs, readiness for Curtain, and the commands of group 0x02 that stage nothing. -/

namespace Sys2Proof.Machine

/-! ### The roll loader (R84, R85) -/

/-- The Ringmaster's HBM region in its address space (R31, R47). -/
def rmBase : Nat := 0x10000000000
def rmSize : Nat := 0x20000000

/-- A roll image's header fields. -/
def rollSteps (h : List Byte) : Nat := fieldAt h 2 2
def rollWords (h : List Byte) : Nat := fieldAt h 4 2

/-- The length the header gives (R71). -/
def rollLength (h : List Byte) : Nat := 256 + 16 * (rollWords h + rollSteps h)

/-- The 64 event-flag selects and the eight counter sources (R71). -/
def rollEfsel (h : List Byte) : List Nat := (List.range 64).map (fun k => fieldAt h (16 + 2 * k) 2)
def rollCsrc (h : List Byte) : List Nat := (List.range 8).map (fun k => fieldAt h (144 + 4 * k) 4)

/-- A counter source's form (R71). -/
def csrcForm (w : Nat) : Bool :=
  decide (w % 4 ≠ 3 ∧ bits w 2 6 = 0 ∧ w / 65536 = 0) && !(decide (w % 4 = 2 ∧ 64 ≤ bits w 8 8))

/-- The header's form: R85's first check. -/
def rollHeaderForm (h : List Byte) : Bool :=
  decide (fieldAt h 0 2 = 1 ∧ 1 ≤ rollSteps h ∧ rollSteps h ≤ 4096 ∧ rollWords h ≤ 2048 ∧ fieldAt h 6 2 = 0
      ∧ fieldAt h 12 4 = 0)
    && (rollEfsel h).all (fun w => decide (bits w 8 7 = 0))
    && (rollCsrc h).all csrcForm
    && ((h.drop 176).take 76).all (fun b => decide (b = 0))

/-- The CRC over the image with its field set to 0 (R71). -/
def rollCrcGood (im : List Byte) : Bool := decide (crc32c (patch im 252 (zeros 4)) = fieldAt im 252 4)

/-- The offsets of its own block a BOOTH 15 word may address (R73). -/
def ownOffset (o : Nat) : Bool :=
  decide (o % 8 = 0) && (decide (o = 0x028) || decide (0x040 ≤ o ∧ o < 0x0C0))

/-- A word entry's form (R72, R73, R85). -/
def wordForm (w : Nat) : Bool :=
  decide (w / 2 ^ 89 = 0) && (!decide (bits w 85 4 = 15) || ownOffset (bits w 64 21 * 8))

/-- A flag select that R74 lists. -/
def selForm (s : Nat) : Bool := decide (s ≤ 0x81) || decide (0x88 ≤ s ∧ s ≤ 0x8F)

/-- A step entry's form (R74, R85) in a roll of `steps` steps and `words` words. DEDUCED (log entry 132): a COUNT wait on a
counter above 7, a FIFO wait on a line FIFO above 63, and WSEL or WN in a wait for which R74 has them 0 are rejected as
FORMAT too, although R85's list does not name them. -/
def stepForm (steps words raw : Nat) : Bool :=
  let s : Step := ⟨raw⟩
  decide (s.next < steps ∧ s.alt < steps ∧ s.wbase + s.wcount ≤ words ∧ s.wkind ≤ 4)
    && selForm s.selA && selForm s.selB
    && (match s.wkind with
      | 1 => true
      | 2 => decide (s.wsel < 8 ∧ s.wn = 0)
      | 4 => decide (s.wsel < 64 ∧ s.wn < 64)
      | _ => decide (s.wsel = 0 ∧ s.wn = 0))

/-- The 16-byte entries of an image from offset `off`. -/
def rollEntries (im : List Byte) (off n : Nat) : List Nat := (List.range n).map (fun i => fieldAt im (off + 16 * i) 16)

/-- The first check an image fails: code, index, in a word (R85); none where all pass. -/
def rollCheck (im : List Byte) : Option (Nat × Nat × Bool) :=
  if !rollHeaderForm im then some (3, 0, false)
  else if !rollCrcGood im then some (2, 0, false)
  else
    let nw := rollWords im
    let ns := rollSteps im
    match (rollEntries im 256 nw).findIdx? (fun w => !wordForm w) with
    | some i => some (3, i, true)
    | none =>
      match (rollEntries im (256 + 16 * nw) ns).findIdx? (fun s => !stepForm ns nw s) with
      | some i => some (3, i, false)
      | none => none

/-- The checked image's parts. -/
def rollOf (im : List Byte) : Roll :=
  { efsel := rollEfsel im, csrc := rollCsrc im, words := rollEntries im 256 (rollWords im)
    steps := rollEntries im (256 + 16 * rollWords im) (rollSteps im) }

/-- The standby bank of a sequencer. -/
def Device.standby (d : Device) (n : Nat) : Bool := !d.flag R.CAL_CTL_BANK [n]

/-- Replace a bank's roll. -/
def Device.setRoll (d : Device) (n : Nat) (bank : Bool) (r : Roll) : Device :=
  d.setSeq n (if bank then { d.seq n with bank1 := r } else { d.seq n with bank0 := r })

/-- VALID of a bank. -/
def validFld (bank : Bool) : Fld := if bank then R.CAL_STAT_VALID1 else R.CAL_STAT_VALID0

/-- The steps of a bank's roll. -/
def Device.bankSteps (d : Device) (n : Nat) (bank : Bool) : Nat :=
  (if bank then (d.seq n).bank1 else (d.seq n).bank0).steps.length

/-- How the last load ended. -/
def Device.loadResult (d : Device) (code index : Nat) (inWord : Bool) : Device :=
  let d := d.setFlag R.CAL_LD_CTL_DONE [] (decide (code = 0))
  let d := d.setFlag R.CAL_LD_CTL_ERR [] (decide (code ≠ 0))
  let d := d.put R.CAL_LD_CTL_ERR_CODE [] code
  let d := d.put R.CAL_LD_CTL_ERR_INDEX [] index
  d.setFlag R.CAL_LD_CTL_ERR_IN_WORD [] inWord

/-- The image at an address lies in the Ringmaster region: its header, and what the header's lengths add (R84). -/
def Device.imageInside (d : Device) (a : Nat) : Bool :=
  let h := d.hbmRead (a - rmBase) 8
  decide (a % 64 = 0 ∧ rmBase ≤ a ∧ a + 256 ≤ rmBase + rmSize
    ∧ a + 256 + 16 * (min (rollWords h) 2048 + min (rollSteps h) 4096) ≤ rmBase + rmSize)

/-- CAL_LD_CTL.GO (R84): a load starts, with the address and the standby bank of this instant, or is refused. DESIGN CHOICE (log
entry 82): where several refusals hold, PENDING is reported before NOT_PRESENT, and NOT_PRESENT before SOURCE. -/
def Device.loadGo (d : Device) : Device :=
  let n := d.get R.CAL_LD_CTL_SEQ []
  let a := d.get R.CAL_LD_ADDR_ADDR []
  if d.flag R.CAL_LD_CTL_BUSY [] then d
  else if d.swapPending n then d.loadResult 4 0 false
  else if d.seqFused n then d.loadResult 5 0 false
  else if !d.imageInside a then d.loadResult 1 0 false
  else
    let d := d.setFlag R.CAL_LD_CTL_BUSY [] true
    let d := d.setFlag R.CAL_STAT_LOADING [n] true
    let d := d.setCtl { d.ctl with load := some (n, a, d.standby n) }
    (d.setFlag (validFld (d.standby n)) [n] false).setRoll n (d.standby n) {}

/-- The load of sequencer `n` from address `a` into a bank has ended (R84, R85). DESIGN CHOICE (log entry 82): an uncorrectable
error of the source (ECC) is reported before the checks of the header and the CRC; the image is taken as it stands at the
end of the load. -/
def Device.loadEnd (d : Device) (n a : Nat) (bank : Bool) : Device :=
  let off := a - rmBase
  let im := d.hbmRead off (rollLength (d.hbmRead off 256))
  let d := d.setCtl { d.ctl with load := none }
  let inside := d.imageInside a
  let d := (d.setFlag R.CAL_LD_CTL_BUSY [] false).setFlag R.CAL_STAT_LOADING [n] false
  if !inside then d.loadResult 1 0 false
  else if d.hst.badWords.any (fun w => overlaps (w * 8) 8 off im.length) then d.loadResult 6 0 false
  else
    match rollCheck im with
    | some (code, i, w) => d.loadResult code i w
    | none =>
      let d := d.setFlag (validFld bank) [n] true
      let d := d.put (if bank then R.CAL_ROLLID_BANK1 else R.CAL_ROLLID_BANK0) [n] (fieldAt im 8 4)
      (d.setRoll n bank (rollOf im)).loadResult 0 0 false

/-- The loader has finished (R85). -/
def Device.loadDone (d : Device) : Device :=
  match d.ctl.load with
  | some (n, a, bank) => d.loadEnd n a bank
  | none => d

/-! ### CAL_CMD, CAL_ATTACH, CAL_TREL -/

/-- HALT (R90): a running sequencer halts; PC stays, and what has been issued stands. -/
def Device.calHalt (d : Device) (n : Nat) : Device :=
  if d.seqState n = 1 ∨ d.seqState n = 2 then d.haltSeq n else d

/-- RESUME (R90): back into the wait, or to a step whose words are still to be issued. -/
def Device.calResume (d : Device) (n : Nat) : Device :=
  if d.seqState n ≠ 3 then d
  else if (d.seq n).entered then d.beginWait n
  else d.setSeqState n 1

/-- CLEAR (R89): a halted or faulted sequencer to IDLE, with CAL_FAULT cleared. -/
def Device.calClear (d : Device) (n : Nat) : Device :=
  if d.seqState n = 3 ∨ d.seqState n = 4 then
    let d := (d.setSeqState n 0).wr R.CAL_FAULT [n] 0
    d.setSeq n { d.seq n with entered := false }
  else d

/-- BOOTH_SEQ shows what the attachments say (R33, R34); in a fused booth it reads 0. -/
def Device.showAttach (d : Device) : Device :=
  (List.range 15).foldl (fun d b =>
    d.put R.BOOTH_SEQ_ATTACHED [b] (if d.boothPresent b then maskWhere 16 (fun n => d.attached n b) else 0)) d

/-- A write of CAL_ATTACH (R69). -/
def Device.calAttach (d : Device) (n booths home : Nat) : Device :=
  if n < 12 ∨ (d.seqState n ≠ 0 ∧ d.seqState n ≠ 3) ∨ (booths % 2 ^ 15 ≠ 0 ∧ !bit (booths % 2 ^ 15) (home % 16)) then d
  else ((d.put R.CAL_ATTACH_BOOTHS [n] booths).put R.CAL_ATTACH_HOME [n] home).showAttach

/-- A write of CAL_TRELk (R81). -/
def Device.calTrel (d : Device) (n k : Nat) (v : Word) : Device := d.wr R.CAL_T [n, k] (d.tt + v)

/-! ### Event inputs (R79, R80, R82) -/

/-- The channel of sequencer input `j` of R346: the EVENT wait, event flags EF0 to EF63, counters C0 to C7; none while
the input is not in use. -/
def Device.seqInput (d : Device) (n j : Nat) : Option Nat :=
  if j = 0 then
    match d.seqStep n with
    | some s => if d.seqState n = 2 ∧ s.wkind = 1 then some s.wsel else none
    | none => none
  else if j ≤ 64 then
    let w := (d.roll n).efsel.getD (j - 1) 0
    if bit w 15 then some (w % 256) else none
  else if j ≤ 72 ∧ (d.counterSource n (j - 65)).1 = 1 then some (d.counterSource n (j - 65)).2
  else none

/-- A firing accepted at input `j`. -/
def Device.seqFiring (d : Device) (n j : Nat) : Device :=
  if j = 0 then (d.setSeq n { d.seq n with count := (d.seq n).count + 1 }).pokeSeq n
  else if j ≤ 64 then d.wr R.CAL_FLAGS [n] (d.rd R.CAL_FLAGS [n] ||| BitVec.ofNat 64 (2 ^ (j - 1)))
  else (d.seqCount n (j - 65)).pokeSeq n

/-! ### Curtain (R86 to R88) -/

/-- The attachment is ready to start (R69). -/
def Device.attachReady (d : Device) (n : Nat) : Bool := decide (d.get R.CAL_ATTACH_BOOTHS [n] ≠ 0) && !d.seqFused n

/-- A sequencer reports ready for a transaction (R86, R87): `after` is the configuration with the writes in place, and
`bank`, `entry` and `run` say which fields they stage. DESIGN CHOICE (log entry 113): a BANK staged with its present value
counts as a BANK change, so the ENTRY in force is then not tested at RUN = 1. -/
def seqReady (d after : Device) (n : Nat) (bank entry run : Bool) : Bool :=
  let b := after.flag R.CAL_CTL_BANK [n]
  let e := after.get R.CAL_CTL_ENTRY [n]
  let valid := d.flag (validFld b) [n]
  let fits := valid && decide (e < d.bankSteps n b)
  let start := run && after.flag R.CAL_CTL_RUN [n]
  !((bank || entry) && d.swapPending n)
    && !(bank && !valid)
    && !(entry && !fits)
    && !(bank && d.flag R.CAL_STAT_LOADING [n] && decide (b = d.standby n))
    && !(start && (decide (d.seqState n = 4) || !d.attachReady n || (!bank && !fits)))

/-- RUN = 1 adopted (R88): a sequencer that is IDLE or HALTED begins at ENTRY of the active bank. -/
def Device.rollStart (d : Device) (n : Nat) : Device :=
  if d.seqState n = 0 ∨ d.seqState n = 3 then
    let d := d.put R.CAL_STAT_PC [n] (d.get R.CAL_CTL_ENTRY [n])
    (d.setSeq n { d.seq n with entered := false }).setSeqState n 1
  else d

/-! ### Commands of group 0x02 -/

/-- Firmware 3.x's own sequencers (R95). -/
def fwSeq (n : Nat) : Bool := decide (12 ≤ n ∧ n ≤ 14)

def calQuerySpec : CmdSpec := { opcode := 0x0200, minLen := 1, maxLen := 1 }

/-- CAL_QUERY. -/
def Device.calQuery (e : Entry) (d : Device) : Reply :=
  let n := e.u 12 1
  if 15 < n then d.no stBAD_FIELD
  else
    let f := d.get R.CAL_STAT_SWAP_PENDING [n] + 2 * d.get R.CAL_STAT_VALID0 [n] + 4 * d.get R.CAL_STAT_VALID1 [n]
      + 8 * b2n (d.seq n).hostRoll + 16 * d.get R.CAL_CTL_BANK [n]
    d.ok (layout [(1, d.seqState n), (1, f), (2, d.get R.CAL_STAT_PC [n]), (1, d.get R.CAL_FAULT_CODE [n]), (1, 0),
      (2, d.get R.CAL_FAULT_STEP [n]), (4, d.get R.CAL_ROLLID_BANK0 [n]), (4, d.get R.CAL_ROLLID_BANK1 [n]),
      (2, d.get R.CAL_ATTACH_BOOTHS [n]), (1, d.homeOf n)])

def calLoadSpec : CmdSpec := { opcode := 0x0201, needsIn := true, modes := [1, 2] }

/-- Where firmware puts a host's image in its region: DESIGN CHOICE, log entry 47. -/
def imageBuffer : Nat := 0x10000000

/-- CAL_LOAD: the image goes into the Ringmaster region and the loader runs. -/
def Device.calLoad (e : Entry) (d : Device) : Reply :=
  let b := d.input e
  let n := fieldAt b 0 1
  let im := b.drop 8
  if b.length < 8 ∨ 15 < n ∨ fieldAt b 1 7 ≠ 0 then d.no stBAD_FIELD
  else if fwSeq n then d.no 0x0211
  else if d.seqFused n then d.no stNOT_PRESENT
  else if !d.mayTake e.via (.seq n) then d.no stNOT_OWNER
  else if b.length < 264 ∨ e.inLen ≠ 8 + rollLength im then d.no stBAD_LENGTH
  else if d.flag R.CAL_LD_CTL_BUSY [] ∨ d.swapPending n then d.no stBUSY
  else
    let d := d.hbmWrite imageBuffer im
    let d := d.put R.CAL_LD_ADDR_ADDR [] (rmBase + imageBuffer)
    let bank := d.standby n
    let d := ((d.put R.CAL_LD_CTL_SEQ [] n).loadGo).loadDone
    if d.flag R.CAL_LD_CTL_ERR [] then
      { status := 0x0210, dev := d
        payload := layout [(1, d.get R.CAL_LD_CTL_ERR_CODE []), (1, d.get R.CAL_LD_CTL_ERR_IN_WORD []),
          (2, d.get R.CAL_LD_CTL_ERR_INDEX [])] }
    else
      let d := (d.setSeq n { d.seq n with hostRoll := true }).own e.via (.seq n)
      d.ok (layout [(4, fieldAt im 8 4), (1, b2n bank)])

/-- What CAL_HALT, CAL_RESUME, CAL_CLEAR and CAL_RELEASE check first. -/
def Device.seqRefused (d : Device) (e : Entry) : Nat :=
  let n := e.u 12 1
  if 15 < n then stBAD_FIELD
  else if fwSeq n then 0x0211
  else if !d.mayAct e.via (.seq n) then stNOT_OWNER
  else 0

def calHaltSpec : CmdSpec := { opcode := 0x0203, minLen := 1, maxLen := 1 }

/-- CAL_HALT. -/
def Device.calHaltCmd (e : Entry) (d : Device) : Reply :=
  if d.seqRefused e ≠ 0 then d.no (d.seqRefused e) else (d.calHalt (e.u 12 1)).ok []

def calResumeSpec : CmdSpec := { opcode := 0x0204, minLen := 1, maxLen := 1, modes := [1, 2] }

/-- CAL_RESUME. -/
def Device.calResumeCmd (e : Entry) (d : Device) : Reply :=
  if d.seqRefused e ≠ 0 then d.no (d.seqRefused e)
  else if d.seqState (e.u 12 1) = 4 then d.no 0x0212
  else (d.calResume (e.u 12 1)).ok []

def calClearSpec : CmdSpec := { opcode := 0x0205, minLen := 1, maxLen := 1 }

/-- CAL_CLEAR. -/
def Device.calClearCmd (e : Entry) (d : Device) : Reply :=
  if d.seqRefused e ≠ 0 then d.no (d.seqRefused e) else (d.calClear (e.u 12 1)).ok []

def calAttachSpec : CmdSpec := { opcode := 0x0206, minLen := 5, maxLen := 5, modes := [1, 2] }

/-- CAL_ATTACH: CAL15 only. -/
def Device.calAttachCmd (e : Entry) (d : Device) : Reply :=
  let n := e.u 12 1
  let m := e.u 14 2
  let h := e.u 16 1
  if n = 12 ∨ n = 13 ∨ n = 14 then d.no 0x0211
  else if n ≠ 15 ∨ 2 ^ 15 ≤ m ∨ 15 < h ∨ e.u 13 1 ≠ 0 ∨ (m ≠ 0 ∧ !bit m h) then d.no stBAD_FIELD
  else if (List.range 15).any (fun b => bit m b && !d.boothPresent b) then d.no stNOT_PRESENT
  else if d.seqState 15 ≠ 0 ∧ d.seqState 15 ≠ 3 then d.no stBUSY
  else (d.calAttach 15 m h).ok []

def calReleaseSpec : CmdSpec := { opcode := 0x0207, minLen := 1, maxLen := 1 }

/-- CAL_RELEASE: halted, cleared and given back to firmware 3.x. -/
def Device.calRelease (e : Entry) (d : Device) : Reply :=
  let n := e.u 12 1
  if d.seqRefused e ≠ 0 then d.no (d.seqRefused e)
  else
    let d := (d.calHalt n).calClear n
    ((d.setSeq n { d.seq n with hostRoll := false }).disown (.seq n)).ok []

end Sys2Proof.Machine
end

