-- ==== Sys2Proof/Machine/Limits.lean ====
section
/-! DEFINITION. What the Net's checkpoints test of a write (R131): the limit values and ring windows each unit's chapter
names, and the conditions of R126 on the limits table itself. -/

namespace Sys2Proof.Machine

/-- One of the writes covers a bit of the field of instance `ix`. -/
def wrote (ws : List MaskedWrite) (f : Fld) (ix : List Nat) : Bool :=
  ws.any (fun w => decide (w.addr = f.reg.addr ix) && w.covers f)

/-- A ring or store lies wholly in one HBM window for port units (R125); an empty one lies anywhere. -/
def Device.portRange (d : Device) (write : Bool) (a n : Nat) : Bool := decide (n = 0) || d.netAdmits true write .port a n

/-! ### The units' limits -/

/-- A lane (R149, R161): SWING, leaving idle, and the far-end loop. -/
def Device.laneLimits (d n : Device) (l : Nat) (w : MaskedWrite) : Bool :=
  let en := d.flag R.NET_LN_TX_EN [l]
  (!w.covers R.LN_TX_SWING || decide (n.get R.LN_TX_SWING (lx l) ≤ d.get R.NET_LN_SWING_MAX [l]))
    && (!w.covers R.LN_TX_TX_IDLE || n.flag R.LN_TX_TX_IDLE (lx l) || en)

/-- LOOP of LN_CTL (R161): a far-end loop is tested against TX_EN and SWING_MAX. -/
def Device.loopLimits (d n : Device) (l : Nat) (w : MaskedWrite) : Bool :=
  !w.covers R.LN_CTL_LOOP || decide (n.get R.LN_CTL_LOOP (lx l) ≠ 3)
    || (d.flag R.NET_LN_TX_EN [l] && decide (n.get R.LN_TX_SWING (lx l) ≤ d.get R.NET_LN_SWING_MAX [l]))

/-- EMIT of PP_CTL (R177). -/
def Device.emitLimits (d n : Device) (p : Nat) (w : MaskedWrite) : Bool :=
  !w.covers R.PP_CTL_EMIT || !n.flag R.PP_CTL_EMIT [p] || bit (d.get R.NET_PORTS_EMIT_OK []) p

/-- The ring of a capture stream (R239). -/
def Device.ringLimits (d n : Device) (p k : Nat) (w : MaskedWrite) : Bool :=
  let c := n.capCfg p k
  !(w.covers R.CAP_SC_SLOT_SLOT_SIZE || w.covers R.CAP_SC_SLOT_SLOTS) || d.portRange true c.base (n.slotCount p k * c.slotSize)

/-- BASE of the ring (R239). -/
def Device.ringBaseLimits (d n : Device) (p k : Nat) : Bool :=
  let c := n.capCfg p k
  d.portRange true c.base (n.slotCount p k * c.slotSize)

/-- The reference of a Swatch context (R257). -/
def Device.refLimits (d n : Device) (p c : Nat) : Bool :=
  d.portRange false (n.get R.SW_CX_REF_REF_BASE [p, c]) (n.get R.SW_CX_REFG_REF_LINES [p, c] * n.get R.SW_CX_REFG_REF_STRIDE [p, c] * 64)

/-- Its result area (R257). -/
def Device.resLimits (d n : Device) (p c : Nat) : Bool :=
  d.portRange true (n.get R.SW_CX_RES_RES_BASE [p, c]) (2 * n.get R.SW_CX_RESG_RES_COUNT [p, c] * (n.get R.SW_CX_RESG_RES_SIZE [p, c] * 65536))

/-- The manifest ring (R268). -/
def Device.manifestLimits (d n : Device) : Bool :=
  d.portRange true (n.get R.MB_RING_BASE []) (n.get R.MB_RINGN_SLOTS [] * 1114112)

/-- The frame store of a Palette channel (R287). -/
def Device.storeLimits (d n : Device) (p c : Nat) : Bool :=
  d.portRange false (n.get R.PAL_CH_SRC_SRC_BASE [p, c]) ((n.get R.PAL_CH_SRCG_SRC_FRAMES [p, c] + 1) * (n.get R.PAL_CH_SRCG_FSIZE [p, c] * 65536))

/-- The program has a pin target whose index `p` picks. -/
def Device.pinTargets (d : Device) (b : Nat) (ok : Nat → Bool) : Bool :=
  (List.range 4).all (fun t => decide (d.get R.BK_TGT_KIND [b, t] ≠ 1) || ok (d.get R.BK_TGT_INDEX [b, t]))

/-- WIDTH and PERIOD of a program with pin targets (R362). -/
def Device.programLimits (d n : Device) (b : Nat) (width period : Bool) : Bool :=
  (!width || n.pinTargets b (fun i => decide (d.get R.NET_PIN_MIN_WIDTH [i] ≤ n.get R.BK_WIDTH_WIDTH [b])))
    && (!period || decide (n.get R.BK_CTL_SRC [b] ≠ 0)
        || n.pinTargets b (fun i => decide (d.get R.NET_PIN_MIN_PERIOD [i] * 65536 ≤ n.get R.BK_PERIOD_PERIOD [b])))

/-- A signed position lies within the axis's soft limits (R398). -/
def Device.inSoft (d : Device) (a : Nat) (v : Nat) : Bool :=
  decide (sgn 48 (d.get R.NET_AX_PMIN_PMIN [a]) ≤ sgn 48 v ∧ sgn 48 v ≤ sgn 48 (d.get R.NET_AX_PMAX_PMAX [a]))

/-- The fields of an axis (R398). -/
def Device.axisLimitsOk (d n : Device) (a : Nat) (w : MaskedWrite) (r : Reg) : Bool :=
  let le := fun (f : Fld) (lim : Nat) => decide (r ≠ f.reg) || !w.covers f || decide (n.get f [a] ≤ lim)
  let pos := fun (f : Fld) => decide (r ≠ f.reg) || !w.covers f || d.inSoft a (n.get f [a])
  let vmax := d.get R.NET_AX_SPD_V_MAX [a]
  let amax := d.get R.NET_AX_ACC_A_MAX [a]
  let imax := d.get R.NET_AX_DRV_I_MAX [a]
  (decide (r ≠ R.MP_VEL) || !w.covers R.MP_VEL_V || decide ((sgn 32 (n.get R.MP_VEL_V [a])).natAbs ≤ vmax))
    && le R.MP_HOME_V_HOME_V vmax && le R.MP_ACC_ACC amax && le R.MP_ACC_DEC amax
    && le R.MP_JERK_JERK (d.get R.NET_AX_JERK_J_MAX [a])
    && pos R.MP_TARGET_TARGET && pos R.MP_HOME_POS_HOME_POS && pos R.MP_PRESET_PRESET
    && le R.CD_CUR_I_HOLD imax && le R.CD_CUR_I_RUN imax
    && (decide (r ≠ R.CD_CTL) || !w.covers R.CD_CTL_EN || !n.flag R.CD_CTL_EN [a] || d.flag R.NET_AX_DRV_ENABLE_OK [a])

/-! ### The table's own conditions (R126) -/

/-- A window as it would stand (R126). -/
def Device.windowSound (d : Device) (w : Nat) : Bool :=
  let base := d.get R.NET_WIN_BASE_BASE [w]
  let limit := d.get R.NET_WIN_LIMIT_LIMIT [w]
  let hbm := d.flag R.NET_WIN_ATTR_SPACE [w]
  !d.flag R.NET_WIN_ATTR_VALID [w]
    || (decide (base ≤ limit ∧ base % 4096 = 0 ∧ (limit + 1) % 4096 = 0)
      && (!hbm || decide (0x24000000 ≤ base ∧ limit < hbmSize))
      && (!d.flag R.NET_WIN_ATTR_BAR4 [w] || hbm) && (!d.flag R.NET_WIN_ATTR_QUEUE [w] || !hbm))

/-- An axis block as it would stand (R126). -/
def Device.axisSound (d : Device) (a : Nat) : Bool :=
  decide (sgn 48 (d.get R.NET_AX_PMIN_PMIN [a]) ≤ sgn 48 (d.get R.NET_AX_PMAX_PMAX [a]))
    && (!d.flag R.NET_AX_DRV_ENABLE_OK [a]
      || decide (d.get R.NET_AX_ACC_DEC_STOP_MIN [a] ≠ 0 ∧ d.get R.NET_AX_ACC_DEC_STOP_MIN [a] ≤ d.get R.NET_AX_ACC_A_MAX [a]))

/-- A pin's limits as they would stand (R126): MIN_PERIOD in ns, MIN_WIDTH in 1/128 ns. -/
def Device.pinSound (d : Device) (p : Nat) : Bool :=
  decide (2 * d.get R.NET_PIN_MIN_WIDTH [p] ≤ d.get R.NET_PIN_MIN_PERIOD [p] * 128)

/-- VDD_CORE's range as it would stand (R126). -/
def Device.vcoreSound (d : Device) : Bool :=
  let lo := d.get R.NET_VCORE_VMIN []
  let hi := d.get R.NET_VCORE_VMAX []
  decide (600 ≤ lo ∧ hi ≤ 850 ∧ lo ≤ hi)

/-! ### The checkpoint -/

/-- A register of the limits table. -/
def netField (a : Nat) : Bool := decide (0x0F700000 ≤ a ∧ a < 0x0F800000)

/-- The Net admits the write: `d` holds the table in force, `n` is `d` with the write, or the whole transaction, in
place (R102, R126, R131). -/
def Device.limitOk (d n : Device) (w : MaskedWrite) : Bool :=
  match findReg w.addr with
  | none => true
  | some (row, ix) =>
    let r := row.reg
    let i := ix.headD 0
    let j := ix.getD 1 0
    if r = R.LN_TX then d.laneLimits n (2 * i + j) w
    else if r = R.LN_CTL then d.loopLimits n (2 * i + j) w
    else if r = R.PP_CTL then d.emitLimits n i w
    else if r = R.CAP_SC_RING then d.ringBaseLimits n i j
    else if r = R.CAP_SC_SLOT then d.ringLimits n i j w
    else if r = R.SW_CX_REF ∨ r = R.SW_CX_REFG then d.refLimits n i j
    else if r = R.SW_CX_RES ∨ r = R.SW_CX_RESG then d.resLimits n i j
    else if r = R.MB_RING ∨ r = R.MB_RINGN then d.manifestLimits n
    else if r = R.PAL_CH_SRC ∨ r = R.PAL_CH_SRCG then d.storeLimits n i j
    else if r = R.PAL_CH_LOFF then !w.covers R.PAL_CH_LOFF_STRIDE || d.storeLimits n i j
    else if r = R.TRG_CTL then !w.covers R.TRG_CTL_DIR || !n.flag R.TRG_CTL_DIR [i] || d.flag R.NET_PIN_OUT_OK [i]
    else if r = R.BK_WIDTH then d.programLimits n i true false
    else if r = R.BK_PERIOD then d.programLimits n i false true
    else if r = R.BK_TGT then d.programLimits n i true true
    else if r = R.BK_CTL then !w.covers R.BK_CTL_SRC || d.programLimits n i false true
    else if 0x0D000000 ≤ w.addr ∧ w.addr < 0x0E000000 then d.axisLimitsOk n i w r
    else if r = R.NET_WIN_BASE ∨ r = R.NET_WIN_LIMIT ∨ r = R.NET_WIN_ATTR then n.windowSound i
    else if r = R.NET_AX_DRV ∨ r = R.NET_AX_ACC ∨ r = R.NET_AX_PMIN ∨ r = R.NET_AX_PMAX then n.axisSound i
    else if r = R.NET_LN then decide (n.get R.NET_LN_SWING_MAX [i] ≤ 1200)
    else if r = R.NET_PIN then n.pinSound i
    else if r = R.NET_VCORE then n.vcoreSound
    else true

end Sys2Proof.Machine
end

