-- ==== Sys2Proof/Machine/Readiness.lean ====
section
/-! DEFINITION. What each unit reports to a commit check and to the final sample (R102, R106): the readiness conditions of
the units' chapters, and the loop rule of Midway (R348). -/

namespace Sys2Proof.Machine

/-! ### Capture and Swatch -/

/-- A stream is ready (R238): `n` is the configuration after adoption. -/
def captureReady (d n : Device) (ws : List MaskedWrite) (p k : Nat) : Bool :=
  let c := n.capCfg p k
  let hit := wrote ws R.CAP_SC_RING_BASE [p, k] || wrote ws R.CAP_SC_SLOT_SLOT_SIZE [p, k] || wrote ws R.CAP_SC_SLOT_SLOTS [p, k]
  let ringHit := hit && decide (n.ringOf p k ≠ d.ringOf p k)
  !d.boothDown p && !(ringHit && d.flag R.CAP_SC_STAT_RETIRING [p, k])
    && (!n.flag R.CAP_SC_CTL_EN [p, k]
      || decide (c.framing ≠ 3 ∧ c.lineLen ≤ 262144 ∧ c.lineLen ≤ c.stride ∧ (c.framing ≤ 1 → c.lines ≤ 65536)
          ∧ c.tagOffset + 128 ≤ c.slotSize ∧ c.base % 65536 = 0))

/-- RES_SIZE and RES_COUNT hold what the bound stream needs (R256, R257). -/
def resultFits (n : Device) (p c : Nat) : Bool :=
  let k := n.get R.SW_CX_CTL_STREAM [p, c]
  let bpp := match pixFmt (n.get R.CAP_SC_FMT_PIXFMT [p, k]) with
    | some f => max 1 f.bpp
    | none => 8
  let m := n.swMap p c (n.get R.CAP_SC_FMT_LINE_LEN [p, k] * 8 / bpp) (n.get R.CAP_SC_GEOM_LINES [p, k])
  let count := n.get R.SW_CX_RESG_RES_COUNT [p, c]
  let old := if n.flag R.CAP_SC_STAT_RETIRING [p, k] then (n.cap p k).oldCount else 0
  decide (50944 + m.1 * m.2 ≤ n.get R.SW_CX_RESG_RES_SIZE [p, c] * 65536 ∧ n.slotCount p k ≤ count ∧ old ≤ count)

/-- A Swatch context is ready (R257). -/
def swatchReady (d n : Device) (p c : Nat) : Bool :=
  let k := n.get R.SW_CX_CTL_STREAM [p, c]
  !d.boothDown p
    && (!n.flag R.SW_CX_CTL_EN [p, c]
      || ((List.range 8).all (fun e => decide (e = c) || !n.flag R.SW_CX_CTL_EN [p, e] || decide (n.get R.SW_CX_CTL_STREAM [p, e] ≠ k))
        && decide (n.get R.CAP_SC_FMT_LINE_LEN [p, k] ≤ n.get R.SW_CX_REFG_REF_STRIDE [p, c] * 64)
        && resultFits n p c
        && decide (n.get R.SW_CX_REF_REF_BASE [p, c] % 64 = 0 ∧ n.get R.SW_CX_RES_RES_BASE [p, c] % 65536 = 0)))

/-! ### Barker -/

/-- A program is ready as the configuration will stand (R350, R351, R353, R362). -/
def programReady (d n : Device) (b : Nat) : Bool :=
  let src := n.get R.BK_CTL_SRC [b]
  (List.range 4).all (fun t =>
    let kind := n.get R.BK_TGT_KIND [b, t]
    let i := n.get R.BK_TGT_INDEX [b, t]
    (decide (kind ≠ 2) || (decide (i < 8) && d.portPresent i && !d.boothDown i))
      && (decide (kind ≠ 1) || (decide (i < 16) && n.flag R.TRG_CTL_DIR [i])))
    && decide (src ≠ 3)
    && !(decide (src = 0) && decide (n.get R.BK_PERIOD_PERIOD [b] = 0) && decide (n.get R.BK_COUNT_COUNT [b] ≠ 1))
    && !(decide (src = 1) && decide (n.get R.BK_POSF_SPACING [b] < 65536))

/-- A pin is ready: no armed program keeps a target on a pin that would not be an output (R362). -/
def pinReady (d n : Device) (i : Nat) : Bool :=
  n.flag R.TRG_CTL_DIR [i] || !d.flag R.TRG_CTL_DIR [i]
    || (List.range 32).all (fun b => !n.flag R.BK_CTL_EN [b]
      || (List.range 4).all (fun t => decide (n.get R.BK_TGT_KIND [b, t] ≠ 1 ∨ n.get R.BK_TGT_INDEX [b, t] ≠ i)))

/-! ### The delivery booth -/

/-- A DMA channel is ready (R120, R315). -/
def channelReady (d n : Device) (ws : List MaskedWrite) (e c : Nat) : Bool :=
  let ix := [e, c]
  let shadow := [R.DMA_CH_SRC, R.DMA_CH_DST, R.DMA_CH_LEN, R.DMA_CH_OPT, R.DMA_CH_USER, R.DMA_CH_TAG, R.DMA_CH_TAGADDR].any
    (fun r => ws.any (fun w => decide (w.addr = r.addr ix)))
  d.engineUp e && decide (d.boothState 8 ≠ 3)
    && !(wrote ws R.DMA_CH_CFG_CQ ix && decide ((n.ctx (n.get R.DMA_CH_CFG_CQ ix)).kind ≠ 4))
    && !((shadow || wrote ws R.DMA_CH_CTL_ARM ix) && d.flag R.DMA_CH_CTL_ARM ix)

/-- An access that the present table admits is admitted by the new one (R127). -/
def staysAdmitted (d n : Device) (hbm write : Bool) (c : Client) (a len : Nat) : Bool :=
  !d.netAdmits hbm write c a len || n.netAdmits hbm write c a len

/-- The accesses of a channel's active set and of its armed set stay admitted (R127). -/
def setsStay (d n : Device) (e c : Nat) : Bool :=
  let ix := [e, c]
  let active := !d.chActive e c
    || (staysAdmitted d n (d.flag R.DMA_CH_A_OPT_SRC_SPACE ix) false .dma (d.chan e c).fullSrc (d.chan e c).fullLen
      && staysAdmitted d n (d.flag R.DMA_CH_A_OPT_DST_SPACE ix) true .dma (d.chan e c).fullDst (d.chan e c).fullLen)
  let len := d.get R.DMA_CH_LEN_LEN ix
  let armed := !d.flag R.DMA_CH_CTL_ARM ix
    || (staysAdmitted d n (d.flag R.DMA_CH_OPT_SRC_SPACE ix) false .dma (d.get R.DMA_CH_SRC_SRC ix) len
      && staysAdmitted d n (d.flag R.DMA_CH_OPT_DST_SPACE ix) true .dma (d.get R.DMA_CH_DST_DST ix) len)
  active && armed

/-- The accesses of an open queue stay admitted (R127): a command queue's ring is read, every other ring written. -/
def queueStays (d n : Device) (q : QCtx) : Bool :=
  decide (q.kind = 0)
    || (staysAdmitted d n false (decide (q.kind ≠ 1)) .queue q.ring (2 ^ q.log2 * esizeBytes q.esize)
      && (decide (q.wb = 0) || staysAdmitted d n false true .queue q.wb 16))

/-- The delivery booth is ready for a new table (R127). -/
def deliveryReady (d n : Device) : Bool :=
  (List.range 32).all (fun e => (List.range 16).all (fun c => setsStay d n e c))
    && d.dlv.ctxs.all (fun q => queueStays d n q.2)

/-! ### The unit of an entry -/

/-- The engine and channel whose registers hold an address of the delivery booth. -/
def channelAt (a : Nat) : Option (Nat × Nat) :=
  match findReg a with
  | some (_, ix) =>
    match ix with
    | [e, c] => some (e, c)
    | _ => none
  | none => none

/-- The unit that owns an entry's target reports ready (R102): `n` is the configuration after adoption of `ws`. -/
def unitReady (d n : Device) (ws : List MaskedWrite) (w : MaskedWrite) : Bool :=
  match findReg w.addr, boothOf w.addr with
  | some (row, ix), some b =>
    let r := row.reg
    let i := ix.headD 0
    let j := ix.getD 1 0
    let s := w.addr / 0x100000 % 16
    if b < 8 then
      if s = 4 then captureReady d n ws i j
      else if s = 5 then swatchReady d n i j
      else if s = 7 then (if r = R.PAL_SKEW then !d.boothDown b else n.palChannelReady i j && n.palRateFits i)
      else !d.boothDown b
    else if b = 8 then
      match channelAt w.addr with
      | some (e, c) => channelReady d n ws e c
      | none => true
    else if b = 11 then
      if s = 4 then programReady d n i else if r = R.TRG_CTL then pinReady d n i else true
    else if b = 12 then
      if s = 1 then n.fbReady i
      else axisReady d n i (fun f => wrote ws f [i] && (decide (f.acc ≠ .w1s) || n.flag f [i]))
    else if b = 13 then (if r = R.MB_RINGN then d.mb.busySlots.isEmpty else true)
    else if r = R.CAL_CTL then
      seqReady d n i (wrote ws R.CAL_CTL_BANK [i]) (wrote ws R.CAL_CTL_ENTRY [i]) (wrote ws R.CAL_CTL_RUN [i])
    else if netField w.addr then deliveryReady d n
    else true
  | _, _ => true

/-! ### The loop rule (R348) -/

/-- An edge of the Midway graph: from, to, and the fields that define it (address and mask). -/
structure Edge where
  src : Nat
  dst : Nat
  defs : List (Nat × Word)

/-- The edges of a configuration. -/
def Device.edges (n : Device) : List Edge :=
  ((List.range 32).flatMap (fun b =>
    if n.get R.BK_CTL_SRC [b] ≠ 2 then []
    else (List.range 4).filterMap (fun t =>
      if n.get R.BK_TGT_KIND [b, t] = 3 then
        some { src := n.get R.BK_CTL_EV [b], dst := n.get R.BK_TGT_INDEX [b, t]
               defs := [(R.BK_CTL.addr [b], R.BK_CTL_SRC.mask ||| R.BK_CTL_EV.mask)
                        , (R.BK_TGT.addr [b, t], R.BK_TGT_KIND.mask ||| R.BK_TGT_INDEX.mask)] }
      else none)))
  ++ ((List.range 8).flatMap (fun p => (List.range 64).filterMap (fun k =>
    if n.flag R.CAP_SC_CTL_CLOSE_EV_EN [p, k] ∧ n.flag R.CAP_SC_CTL_FRAME_EV_EN [p, k] then
      some { src := n.get R.CAP_SC_CTL_CLOSE_EV [p, k], dst := n.get R.CAP_SC_CTL_FRAME_EV [p, k]
             defs := [(R.CAP_SC_CTL.addr [p, k], R.CAP_SC_CTL_CLOSE_EV_EN.mask ||| R.CAP_SC_CTL_CLOSE_EV.mask
                        ||| R.CAP_SC_CTL_FRAME_EV_EN.mask ||| R.CAP_SC_CTL_FRAME_EV.mask)] }
    else none)))
  ++ ((List.range 8).flatMap (fun p => (List.range 4).filterMap (fun c =>
    if n.palTiming p c ≠ 0 ∧ n.flag R.PAL_CH_CTL_FRAME_EV_EN [p, c] then
      some { src := n.get R.PAL_CH_CTL_TRIG_EV [p, c], dst := n.get R.PAL_CH_CTL_FRAME_EV [p, c]
             defs := [(R.PAL_CH_CTL.addr [p, c], R.PAL_CH_CTL_TIMING.mask ||| R.PAL_CH_CTL_TRIG_EV.mask
                        ||| R.PAL_CH_CTL_FRAME_EV_EN.mask ||| R.PAL_CH_CTL_FRAME_EV.mask)] }
    else none)))

/-- The channels reached from a set of channels (a mask) in one or more rounds over the edges. -/
def reach (es : List Edge) : Nat → Nat → Nat
  | 0, m => m
  | fuel + 1, m =>
    let m' := es.foldl (fun m e => if bit m e.src then m ||| 2 ^ e.dst else m) m
    if m' = m then m else reach es fuel m'

/-- The channels reached from channel `c`, `c` itself only if a cycle leads back to it. -/
def reachFrom (es : List Edge) (c : Nat) : Nat :=
  reach es 256 (es.foldl (fun m e => if e.src = c then m ||| 2 ^ e.dst else m) 0)

/-- The edges of a cycle that contains an asynchronous channel (R348), and that channel; none where there is none. -/
def Device.forbiddenCycle (n : Device) : Option (List Edge × Nat) :=
  let es := n.edges
  match es.find? (fun e => n.chAsync e.src && bit (reachFrom es e.src) e.src) with
  | none => none
  | some e =>
    let r := reachFrom es e.src
    some (es.filter (fun f => bit r f.src && (decide (f.dst = e.src) || bit (reachFrom es f.dst) e.src)), e.src)

/-- The lowest staged index that writes a field defining an edge of the cycle, or the ASYNC bit of a channel in it (R102). -/
def loopIndex (ws : List MaskedWrite) (es : List Edge) : Nat :=
  let hits := fun (w : MaskedWrite) =>
    es.any (fun e => e.defs.any (fun f => decide (f.1 = w.addr ∧ f.2 &&& w.mask ≠ 0)))
      || es.any (fun e => decide (w.addr = R.MW_CH_CFG.addr [e.src]) && w.covers R.MW_CH_CFG_ASYNC)
  (ws.findIdx? hits).getD 0

end Sys2Proof.Machine
end

