-- ==== Sys2Proof/Machine/CurtainTx.lean ====
section
/-! DEFINITION. Curtain transactions (R96 to R117): staging, opening, committing and cancelling a slot, the commit check,
the final sample and the adoption with what each unit does at it; and the BAR0 Net table port (R129, R130). -/

namespace Sys2Proof.Machine

/-! ### Staging (R97 to R100) -/

/-- The write covers only CS or stageable bits of a mapped, aligned register (R97). -/
def MaskedWrite.stageable (w : MaskedWrite) : Bool :=
  match findReg w.addr with
  | none => false
  | some (row, _) => decide (w.addr % 8 = 0 ∧ w.mask &&& ~~~ row.maskOf (fun f => decide (f.stg ≠ .none)) = 0)

/-- The value a field's table refuses at staging (R346, R350, R357): reserved codes of GATE, SRC and KIND. -/
def Device.refusedValue (d : Device) (w : MaskedWrite) : Bool :=
  match findReg w.addr with
  | none => false
  | some (row, ix) =>
    let v := (d.rd row.reg ix &&& ~~~ w.mask) ||| (w.value &&& w.mask)
    (decide (row.reg = R.MW_CON) && w.covers R.MW_CON_GATE && decide (29 ≤ R.MW_CON_GATE.of v))
      || (decide (row.reg = R.BK_CTL) && w.covers R.BK_CTL_SRC && decide (R.BK_CTL_SRC.of v = 3))
      || (decide (row.reg = R.BK_TGT) && w.covers R.BK_TGT_KIND && decide (5 ≤ R.BK_TGT_KIND.of v))

/-- Add an entry, or merge it into the one of the same register (R100). -/
def mergeEntry (w : MaskedWrite) : List MaskedWrite → List MaskedWrite
  | [] => [{ w with value := w.value &&& w.mask }]
  | h :: t =>
    if h.addr = w.addr then
      { h with mask := h.mask ||| w.mask, value := (h.value &&& ~~~ w.mask) ||| (w.value &&& w.mask) } :: t
    else h :: mergeEntry w t

/-- The result of a stage request (R99): 0 STAGED, 1 NOT_STAGEABLE, 2 NOT_PRESENT, 3 NOT_OPEN, 4 FOREIGN, 5 CAPACITY. -/
def Device.stageResult (d : Device) (n : Nat) (w : MaskedWrite) (fromPort : Bool) : Nat :=
  let es := (d.tx n).entries
  if !fromPort && (decide (n = 15) != netField w.addr || (decide (n = 15) && !d.ctl.bootPath)) then 4
  else if d.txState n ≠ 1 then 3
  else if d.fusedAddr w.addr then 2
  else if !w.stageable ∨ d.refusedValue w then 1
  else if 4096 ≤ es.length ∧ !es.any (fun e => decide (e.addr = w.addr)) then 5
  else 0

/-- A stage request takes effect: the entry is added, CAPACITY aborts the slot, FOREIGN is a violation (R98 to R100). -/
def Device.stageInto (d : Device) (n : Nat) (w : MaskedWrite) (fromPort : Bool) : Nat × Device :=
  let r := d.stageResult n w fromPort
  if r = 0 then
    let t := d.tx n
    let es := mergeEntry w t.entries
    (0, ((d.setTx n { t with entries := es }).put R.CUR_TX_STAT_COUNT [n] es.length).showCurtain)
  else if r = 5 then (5, d.abortTx n 4)
  else if r = 4 then (4, d.violation 14 6 w.addr w.value.toNat 0)
  else (r, d)

/-- A write of CUR_STG_DATA, whole or of its upper half. -/
def Device.stagePort (d : Device) (half : Bool) (v : Word) : Device :=
  let n := d.get R.CUR_STG_ADDR_TX []
  let value := if half then v.extractLsb' 32 32 ++ BitVec.ofNat 32 d.ctl.stageLow else v
  let d := d.setCtl { d.ctl with stageLow := 0 }
  let (r, d) := d.stageInto n { addr := d.get R.CUR_STG_ADDR_ADDR [], mask := d.rd R.CUR_STG_MASK [], value := value } false
  (d.put R.CUR_STG_RESP_RESULT [] r).put R.CUR_STG_RESP_COUNT [] (d.tx n).entries.length

/-- A 32-bit write to the lower half of CUR_STG_DATA. -/
def Device.stageLowWrite (d : Device) (v : BitVec 32) : Device := d.setCtl { d.ctl with stageLow := v.toNat }

/-! ### Open, commit, cancel -/

/-- CUR_TXn_STAT of a FREE slot; CANCEL_LATE stays until it is cleared by a write (R17). -/
def Device.clearStat (d : Device) (n : Nat) : Device :=
  d.wr R.CUR_TX_STAT [n] (d.rd R.CUR_TX_STAT [n] &&& R.CUR_TX_STAT_CANCEL_LATE.mask)

/-- OPEN: from FREE, ADOPTED or ABORTED the entries and results clear. -/
def Device.txOpen (d : Device) (n : Nat) : Device :=
  let st := d.txState n
  if st = 0 ∨ st = 4 ∨ st = 5 then
    let d := d.setTx n {}
    ((((d.clearStat n).put R.CUR_TX_STAT_STATE [n] 1).wr R.CUR_TX_RESULT [n] 0).wr R.CUR_TX_ADOPT [n] 0).showCurtain
  else d

/-- The mode in which a slot commits: TX15 only IMMEDIATE (R130), the reserved code as IMMEDIATE (log entry 48). -/
def Device.txMode (d : Device) (n : Nat) : Nat :=
  let m := d.get R.CUR_TX_CTL_MODE [n]
  if n = 15 ∨ m = 3 then 0 else m

/-- A slot is CHECKING or ARMED. -/
def Device.txActive (d : Device) (n : Nat) : Bool := decide (d.txState n = 2 ∨ d.txState n = 3)

/-- A commit request meets the exclusion of TX15 (R107). -/
def Device.txExcluded (d : Device) (n : Nat) : Bool :=
  if n = 15 then (List.range 15).any d.txActive else d.txActive 15

/-- COMMIT: an OPEN slot's check starts (R102), or R107 aborts it. -/
def Device.txCommit (d : Device) (n src : Nat) : Device :=
  if d.txState n ≠ 1 then d
  else if d.txExcluded n then d.abortTx n 3
  else
    let d := d.setTx n { d.tx n with src := src, sampled := false, fired := false, passed := 0, failed := none }
    (d.put R.CUR_TX_STAT_STATE [n] 2).showCurtain

/-- CANCEL (R117). -/
def Device.txCancel (d : Device) (n : Nat) : Device :=
  let st := d.txState n
  if st = 1 then ((d.setTx n {}).clearStat n).showCurtain
  else if st = 3 ∧ !(d.tx n).sampled then d.abortTx n 7
  else if st = 2 ∨ st = 3 then d.setFlag R.CUR_TX_STAT_CANCEL_LATE [n] true
  else d

/-- The Ringmaster may write CUR_TXn_CTL: TX15's only over the boot-time table path (R98). -/
def Device.txCtlOpen (d : Device) (n : Nat) : Bool := decide (n ≠ 15) || d.ctl.bootPath

/-! ### The check (R102 to R104) -/

/-- The check a refused entry fails, as a violation record names it: a window, or a limit value (R140). -/
def limitReason (a : Nat) : Nat :=
  match findReg a with
  | some (row, _) =>
    if [R.CAP_SC_RING, R.CAP_SC_SLOT, R.SW_CX_REF, R.SW_CX_REFG, R.SW_CX_RES, R.SW_CX_RESG, R.MB_RING, R.MB_RINGN,
        R.PAL_CH_SRC, R.PAL_CH_SRCG, R.PAL_CH_LOFF].contains row.reg then 1 else 2
  | none => 2

/-- Why an entry fails its tests (R102): 3 held or not ready, 1 refused by the Net; 0 where it passes. -/
def Device.judgeEntry (d n : Device) (slot : Nat) (ws : List MaskedWrite) (w : MaskedWrite) : Nat :=
  if d.isHeld slot w then 3
  else if !d.limitOk n w then 1
  else if !unitReady d n ws w then 3
  else 0

/-- The check of slot `n` reaches its next entry, which is judged as everything stands at this moment (R102): its fields become
held (R105), or the check stops there; a refusal by the Net is one violation (R103). -/
def Device.judgeNext (d : Device) (n : Nat) : Device :=
  let t := d.tx n
  if d.txState n ≠ 2 ∨ t.failed.isSome then d
  else
    match t.entries[t.passed]? with
    | none => d
    | some w =>
      let reason := d.judgeEntry (d.adopting t.entries) n t.entries w
      if reason = 0 then d.setTx n { t with passed := t.passed + 1 }
      else
        let d := d.setTx n { t with failed := some (t.passed, reason) }
        if reason = 1 then
          d.violation ((boothOf w.addr).getD 14) (limitReason w.addr) w.addr w.value.toNat (2 * 4096 + n)
        else d

/-- The next `k` entries of a check. -/
def Device.judgeMany (n : Nat) : Nat → Device → Device
  | 0, d => d
  | k + 1, d => Device.judgeMany n k (d.judgeNext n)

/-- With each tick, every check under way comes to its next entry: DESIGN CHOICE (log entry 73) within the bound of R102. -/
def Device.checksTick (d : Device) : Device :=
  (List.range 16).foldl (fun (d : Device) n => if d.txState n = 2 then d.judgeNext n else d) d

/-- The entry at which a check stopped. -/
def Device.checkFailed (d : Device) (n reason index booth : Nat) : Device :=
  ((d.put R.CUR_TX_STAT_ERR_INDEX [n] index).put R.CUR_TX_STAT_ERR_BOOTH [n] booth).abortTx n reason

/-- 64 ns (R104). -/
def leadTime : TT := ttNs 64

/-- A deadline is enabled and this adoption tick is later. -/
def Device.pastDeadline (d : Device) (n : Nat) (ttc : TT) : Bool :=
  d.flag R.CUR_TX_CTL_DL_EN [n] && decide (0 < ttDiff ttc (d.rd R.CUR_TX_DEADLINE [n]))

/-- The check has passed: TT_c is fixed (R104), or the firing is awaited. -/
def Device.armTx (d : Device) (n : Nat) : Device :=
  let soon := d.tt + leadTime
  let target := d.rd R.CUR_TX_TIME [n]
  let late := decide (d.txMode n = 1) && decide (ttDiff target soon < 0)
  let ttc := if d.txMode n = 1 ∧ !late then target else soon
  if d.txMode n ≠ 2 ∧ d.pastDeadline n ttc then d.abortTx n 2
  else if d.txMode n = 2 ∧ d.flag R.CUR_TX_CTL_DL_EN [n] ∧ 0 < ttDiff d.tt (d.rd R.CUR_TX_DEADLINE [n]) then d.abortTx n 2
  else
    let d := d.setTx n { d.tx n with ttc := ttc }
    ((d.put R.CUR_TX_STAT_STATE [n] 3).setFlag R.CUR_TX_STAT_LATE [n] late).showCurtain

/-- CURTAIN_CHECK_DONE: the entries the check has not come to are judged now, then the Midway configuration (R102), and the
outcome is reported. -/
def Device.checkDone (d : Device) (n : Nat) : Device :=
  let d := Device.judgeMany n (d.tx n).entries.length d
  if d.txState n ≠ 2 then d
  else
    let ws := (d.tx n).entries
    let boothAt := fun (i : Nat) => (ws[i]?.bind (fun w => boothOf w.addr)).getD 14
    match (d.tx n).failed with
    | some (i, reason) => d.checkFailed n reason i (boothAt i)
    | none =>
      match (d.adopting ws).forbiddenCycle with
      | some (es, _) => d.checkFailed n 5 (loopIndex ws es) (boothAt (loopIndex ws es))
      | none => d.armTx n

/-- CURTAIN_DEADLINE_PASS (R116). -/
def Device.deadlinePass (d : Device) (n : Nat) : Device :=
  if d.txState n = 3 ∧ d.txMode n = 2 ∧ !(d.tx n).fired ∧ d.flag R.CUR_TX_CTL_DL_EN [n]
      ∧ 0 < ttDiff d.tt (d.rd R.CUR_TX_DEADLINE [n]) then d.abortTx n 2
  else d

/-- CURTAIN_EVENT_TRIGGER: a firing of the trigger channel reaches an ARMED EVENT slot (R104). -/
def Device.curtainTrigger (d : Device) (n : Nat) : Device :=
  let t := d.tx n
  if d.txState n ≠ 3 ∨ d.txMode n ≠ 2 ∨ t.fired then d
  else if d.pastDeadline n (d.tt + leadTime) then d.abortTx n 2
  else d.setTx n { t with fired := true, ttc := d.tt + leadTime }

/-- The adoption tick of an ARMED slot is fixed. -/
def Device.txFixed (d : Device) (n : Nat) : Bool := decide (d.txState n = 3) && (decide (d.txMode n ≠ 2) || (d.tx n).fired)

/-- CURTAIN_FINAL_SAMPLE (R106): at TT_c − 64 ns every target reports once more. -/
def Device.finalSample (d : Device) (n : Nat) : Device :=
  let t := d.tx n
  if !d.txFixed n ∨ t.sampled ∨ !ttGe (d.tt + leadTime) t.ttc then d
  else
    let after := d.adopting t.entries
    if t.entries.all (fun w => unitReady d after t.entries w) then d.setTx n { t with sampled := true }
    else d.abortTx n 3

/-! ### The core voltage request -/

/-- The pace loop moves VREQ: enabled, in SERVICE or TEST, and not stopped by a device fault (R476, R137). -/
def Device.paceActive (d : Device) : Bool :=
  d.flag R.PW_PACE_CTL_EN [] && decide (d.mode = 1 ∨ d.mode = 2) && !d.pow.holdMax

/-- VDD_CORE within the range of the Net (R127, R476). -/
def Device.narrowCore (d : Device) : Device :=
  if d.paceActive then d.setVreq (clamp (d.get R.NET_VCORE_VMIN []) (d.get R.NET_VCORE_VMAX []) (d.get R.PW_PACE_STAT_VREQ []))
  else d.setVreq (d.get R.NET_VCORE_VMAX [])

/-! ### Adoption (R104 to R114) -/

/-- The part of an entry whose fields have this apply point, the W1S bits left out of it. -/
def MaskedWrite.part (w : MaskedWrite) (p : Stg) (w1s : Bool) : Option MaskedWrite :=
  match findReg w.addr with
  | none => none
  | some (row, _) =>
    let m := w.mask &&& row.maskOf (fun f => decide (f.stg = p) && (decide (f.acc = .w1s) == w1s))
    if m = 0 then none else some { w with mask := m, value := w.value &&& m }

/-- The masked writes a BOUNDARY entry pends as: MS_SEAL_EN has a boundary of its own for each stream, every other
register one (R111). -/
def MaskedWrite.pieces (w : MaskedWrite) : List MaskedWrite :=
  match findReg w.addr with
  | some (row, _) =>
    if row.reg = R.MS_SEAL_EN then
      (List.range 64).filterMap (fun k => if w.mask.getLsbD k then
        some { w with mask := BitVec.ofNat 64 (2 ^ k), value := w.value &&& BitVec.ofNat 64 (2 ^ k) } else none)
    else [w]
  | none => []

/-- What pends of an entry. -/
def MaskedWrite.later (w : MaskedWrite) : List MaskedWrite :=
  (((w.part .boundary false).toList ++ (w.part .boundary true).toList).flatMap MaskedWrite.pieces)

/-- CAL_CTL adopted (R86 to R88): RUN is the sequencer's own to show; BANK and ENTRY take effect at once unless it runs. -/
def Device.seqAdopt (d : Device) (n : Nat) (run : Option Bool) : Device :=
  let running := decide (d.seqState n = 1 ∨ d.seqState n = 2)
  let d := if !d.swapPending n then d
    else if running then d.setFlag R.CAL_STAT_SWAP_PENDING [n] true
    else d.adoptSwap n
  match run with
  | some true => d.rollStart n
  | some false => if running then d.haltSeq n else d
  | none => d

/-- The streams of port `p` whose boundary is the adoption tick, EN being 0 (R237). -/
def Device.idleStreams (d : Device) (p : Nat) (ttc : TT) : Device :=
  (List.range 64).foldl (fun d k =>
    if !d.flag R.CAP_SC_CTL_EN [p, k] ∧ d.ctl.pend.any (fun q => d.capScope p k q.write) then d.capBoundary p k ttc else d) d

/-- A disabled Swatch context is bound to no stream: its writes take their values at the adoption tick (R257, log entry 121). -/
def Device.idleContexts (d : Device) (p : Nat) (ttc : TT) : Device :=
  (List.range 8).foldl (fun d c =>
    if !d.flag R.SW_CX_CTL_EN [p, c] ∧ d.ctl.pend.any (fun q => swAddr p c q.write.addr) then d.settleAt ttc (swAddr p c) else d) d

/-- A Net table is in force (R122, R127): its header, the key digests to come, and the units that lie beyond it. -/
def Device.netAdopted (d : Device) (src epoch : Nat) : Device :=
  let d := (d.count R.NET_HDR_GEN []).put R.NET_HDR_SRC [] src
  let d := d.put R.NET_PORT_EPOCH_EPOCH [] epoch
  let d := { d with sec := { d.sec with netHashDue := true } }
  let d := (List.range 16).foldl (fun d l => if d.lanePresent l then d.laneNet l else d) d
  let d := (List.range 8).foldl (fun d p => if d.portPresent p then d.emitNet p else d) d
  let d := (List.range 4).foldl (fun d a => d.narrowAxis a) d
  let d := (List.range 16).foldl (fun d i => d.drivePin i) d
  d.narrowCore

/-- The staged value of a one-bit field, where one of the writes covers it. -/
def stagedFlag (ws : List MaskedWrite) (f : Fld) (ix : List Nat) : Option Bool :=
  match ws.find? (fun w => decide (w.addr = f.reg.addr ix) && w.covers f) with
  | some w => some (decide (f.of w.value ≠ 0))
  | none => none

/-- Some register of the list is written for instance `ix`. -/
def wroteAny (ws : List MaskedWrite) (fs : List Fld) (ix : List Nat) : Bool := fs.any (fun f => wrote ws f ix)

/-- The unit a register belongs to, for what follows its adoption: booth, slot and indices. -/
def adoptKey (w : MaskedWrite) : List Nat :=
  match findReg w.addr, boothOf w.addr with
  | some (_, ix), some b =>
    let s := w.addr / 0x100000 % 16
    if b < 8 ∧ (s = 4 ∨ s = 5 ∨ s = 6) then [b, 4]
    else if b < 8 ∧ s = 3 then [b, 3]
    else if b < 8 ∧ s = 7 then (if 2 ≤ ix.length ∧ w.addr % 0x100000 ≥ 0x1000 then [b, 7, ix.getD 1 0] else [b, 8])
    else if b = 8 then [b, s] ++ ix
    else if b = 11 then [b, s, ix.headD 0]
    else if b = 12 then (if s = 1 then [b, 1, ix.headD 0] else [b, 2])
    else if b = 14 then (if s = 2 then [b, 2, ix.headD 0] else [b, s])
    else [b]
  | _, _ => []

/-- What an adoption writes of a feedback channel: MODE, its size, what else its speed depends on, the compare (R376, R378,
R379). -/
def fbWrites (ws : List MaskedWrite) (f : Nat) : Bool × Bool × Bool × Bool :=
  (wrote ws R.FB_CTL_MODE [f], wroteAny ws [R.FB_CPR_CPR, R.FB_CTL_WRAP] [f],
    wroteAny ws [R.FB_CTL_DECODE, R.FB_SSI_BITS, R.FB_SSI_TURN_BITS, R.FB_SSI_GRAY, R.FB_SSI_DIV, R.FB_SSI_PERIOD_US,
      R.FB_SSI_MONO_US, R.FB_SSI2_MAX_JUMP] [f],
    wroteAny ws [R.FB_CMP_TGT_TGT_COUNT, R.FB_CMP_TGT_TGT_REV, R.FB_CMP_CTL_CMP_EN] [f])

/-- A feedback channel keeps what it was before an adoption, for edges already sampled (R383). -/
def Device.keepPrior (d : Device) (ws : List MaskedWrite) (ttc : TT) (key : List Nat) : Device :=
  match key with
  | [12, 1, f] =>
    let w := fbWrites ws f
    d.setFb f { d.fb f with prior := some (d.fbPrior f ttc w.1 w.2.1 w.2.2.1 w.2.2.2
      (decide (stagedFlag ws R.FB_CMD_SET_POS [f] = some true))) }
  | _ => d

/-- What a unit does at an adoption that wrote its fields: `ws` are the adopted writes. -/
def Device.unitAdopt (d : Device) (ws : List MaskedWrite) (ttc : TT) (key : List Nat) : Device :=
  match key with
  | [14, 2, n] => d.seqAdopt n (stagedFlag ws R.CAL_CTL_RUN [n])
  | [11, 4, p] =>
    d.barkerAdopt p ttc (wrote ws R.BK_CTL_EN [p]) (wroteAny ws [R.BK_START_START, R.BK_PERIOD_PERIOD] [p])
      (wroteAny ws [R.BK_POS_TARGET_CNT, R.BK_POS_TARGET_REV, R.BK_POSF_FRAC] [p])
      ((List.range 4).any (fun t => wroteAny ws [R.BK_TGT_KIND, R.BK_TGT_INDEX, R.BK_TGT_LEAD] [p, t]))
  | [11, 5, i] => d.drivePin i
  | [12, 1, f] =>
    let w := fbWrites ws f
    let d := d.fbAdopt f w.1 w.2.1 w.2.2.1 w.2.2.2
    let d := if stagedFlag ws R.FB_CMD_SET_POS [f] = some true then d.fbSetPos f else d
    if stagedFlag ws R.FB_LATCH_ARM [f] = some true then d.latchArm f else d
  | [13] =>
    let d := match stagedFlag ws R.MB_CTL_EN [] with
      | some on => d.mbAdopt on
      | none => d
    if stagedFlag ws R.MB_CTL_FLUSH [] = some true then d.mbFlush else d
  | [8, _, e, c] => if stagedFlag ws R.DMA_CH_CTL_ARM [e, c] = some true then d.dmaArm e c else d
  | [p, 3] => if d.up p then d else d.streamBoundary p ttc
  | [p, 4] => (d.idleStreams p ttc).idleContexts p ttc
  | [p, 7, c] => d.palAdopt p c ttc
  | _ => d

/-- The configuration of DMA channels at rest is applied at the adoption tick, before any of them hands over, so that a
record's epoch names the configuration its set ran under (R115, R315). -/
def Device.dmaConfigAdopted (d : Device) (ttc : TT) (keys : List (List Nat)) : Device :=
  (keys.foldl (fun d k =>
    match k with
    | [8, _, e, c] => if d.chActive e c then d else d.cfgApply e c ttc
    | _ => d) d).refreshEpoch 8

/-- The INSTANT fields take their values; RUN of a sequencer is left to the sequencer. -/
def Device.applyInstant (d : Device) (ws : List MaskedWrite) : Device :=
  ws.foldl (fun d w =>
    match w.part .instant false with
    | some v => if boothOf v.addr = some 14 ∧ v.addr / 0x100000 % 16 = 2 then d else d.apply v
    | none => d) d

/-- The BOUNDARY fields pend (R111, R112). -/
def Device.pendBoundary (d : Device) (n epoch : Nat) (ttc : TT) (ws : List MaskedWrite) : Device :=
  let ps := (ws.flatMap MaskedWrite.later).map (fun w => ({ write := w, ttc := ttc, epoch := epoch, slot := n } : PendWrite))
  d.setCtl { d.ctl with pend := d.ctl.pend ++ ps }

/-- The booths that writes reach become RUN. -/
def Device.wakeBooths (d : Device) (ws : List MaskedWrite) : Device :=
  ws.foldl (fun d w => match boothOf w.addr with
    | some b => d.wake b
    | none => d) d

/-- Commands with WAIT whose change this adoption brings now wait for what it sets going: DMA_SUBMIT for the set armed
(R305), an axis command for the boundary that takes it up (R411), FB_LATCH for the latch. -/
def Device.stagedAdopted (d : Device) (n : Nat) : Device :=
  let set := fun (w : Work) =>
    match w.staged with
    | some (k, m) =>
      if m ≠ n then w
      else { w with key := if w.opcode = 0x0905 then k ++ [(d.get R.DMA_CH_STAT_GEN k + 1) % 65536] else if w.opcode = 0x0C03 then k else k ++ [1] }
    | none => w
  d.setCtl { d.ctl with works := d.ctl.works.map set }

/-- The adoption of a slot (R104, R110 to R114). -/
def Device.adoptTx (d : Device) (n : Nat) : Device :=
  let t := d.tx n
  let ws := t.entries
  let e := (d.epoch + 1) % 2 ^ 32
  let d := d.put R.CUR_EPOCH_EPOCH [] e
  let d := d.put R.CUR_TX_STAT_STATE [n] 4
  let d := (d.put R.CUR_TX_RESULT_EPOCH [n] e).wr R.CUR_TX_ADOPT [n] t.ttc
  let d := d.setTx n { t with epoch := e }
  let d := { d with sec := { d.sec with extend := d.sec.extend ++ [(e, ws)] } }
  let d := ((ws.map adoptKey).eraseDups).foldl (fun (d : Device) k => d.keepPrior ws t.ttc k) d
  let d := (((d.stagedAdopted n).applyInstant ws).pendBoundary n e t.ttc ws).wakeBooths ws
  let d := d.dmaConfigAdopted t.ttc (ws.map adoptKey).eraseDups
  let d := ((ws.map adoptKey).eraseDups).foldl (fun d k => d.unitAdopt ws t.ttc k) d
  let d := if n = 15 then d.netAdopted t.src e else d
  let d := (List.range 15).foldl (fun d b => d.refreshEpoch b) d
  let d := (d.setFlag R.RM_IRQ_PEND_CURTAIN [] true).refreshApplied
  d.fireIf R.CUR_TX_CTL_ADOPT_EV_EN R.CUR_TX_CTL_ADOPT_EV [n]

/-- Slot `m` is adopted before slot `n`: an earlier TT_c, or the same and a lower number (R108). -/
def Device.adoptsFirst (d : Device) (m n : Nat) : Bool :=
  d.txFixed m && (decide (ttDiff (d.tx m).ttc (d.tx n).ttc < 0) || (decide ((d.tx m).ttc = (d.tx n).ttc) && decide (m < n)))

/-- CURTAIN_ADOPT: at TT_c, in increasing slot order among those of one tick (R108). -/
def Device.curtainAdopt (d : Device) (n : Nat) : Device :=
  if d.txFixed n ∧ (d.tx n).sampled ∧ ttGe d.tt (d.tx n).ttc ∧ !(List.range 16).any (fun m => d.adoptsFirst m n) then d.adoptTx n
  else d

/-! ### The BAR0 Net table port (R129, R130) -/

/-- The key the host has written into NET_HKEY0 to NET_HKEY3, 32 bytes. -/
def Device.hostKey (d : Device) : List Byte := (List.range 4).flatMap (fun k => leBytes 8 (d.rd R.NET_HKEY [k]).toNat)

/-- The board has a host key. -/
def Device.hasHostKey (d : Device) : Bool := d.sec.hkeyHash.any (fun b => decide (b ≠ 0))

/-- UNLOCK (R129): a key that does not match is counted, and eight failures lock the port until reset. -/
def Device.netUnlock (d : Device) : Device :=
  if 8 ≤ d.get R.NET_PORT_STAT_KEY_FAIL [] then d
  else if sha384 d.hostKey = fit 48 d.sec.hkeyHash then d.setFlag R.NET_PORT_STAT_UNLOCKED [] true
  else d.put R.NET_PORT_STAT_KEY_FAIL [] (d.get R.NET_PORT_STAT_KEY_FAIL [] + 1)

/-- The port is unlocked. -/
def Device.netUnlocked (d : Device) : Bool := d.flag R.NET_PORT_STAT_UNLOCKED []

/-- OPEN. -/
def Device.netOpen (d : Device) : Device := if d.netUnlocked then d.txOpen 15 else d

/-- COMMIT. -/
def Device.netCommit (d : Device) : Device := if d.netUnlocked then d.txCommit 15 2 else d

/-- CANCEL, whatever UNLOCKED says. -/
def Device.netCancel (d : Device) : Device := d.txCancel 15

/-- LOCK. -/
def Device.netLock (d : Device) : Device := d.setFlag R.NET_PORT_STAT_UNLOCKED [] false

/-- Bits set together in one write of NET_PORT_CTL act in the order UNLOCK, CANCEL, OPEN, COMMIT, LOCK (R129). -/
def Device.netPortWrite (d : Device) (v : Word) : Device :=
  let on := fun (f : Fld) => decide (f.of v ≠ 0)
  let d := if on R.NET_PORT_CTL_UNLOCK then d.netUnlock else d
  let d := if on R.NET_PORT_CTL_CANCEL then d.netCancel else d
  let d := if on R.NET_PORT_CTL_OPEN then d.netOpen else d
  let d := if on R.NET_PORT_CTL_COMMIT then d.netCommit else d
  if on R.NET_PORT_CTL_LOCK then d.netLock else d

/-- NET_PORT_DATA stages an entry of TX15. -/
def Device.netStage (d : Device) (half : Bool) (v : Word) : Device :=
  if !d.netUnlocked then d
  else
    let value := if half then v.extractLsb' 32 32 ++ BitVec.ofNat 32 d.ctl.netLow else v
    let d := d.setCtl { d.ctl with netLow := 0 }
    let a := 0x0F700000 + d.get R.NET_PORT_ADDR_OFFSET [] * 8
    let (r, d) := d.stageInto 15 { addr := a, mask := d.rd R.NET_PORT_MASK [], value := value } true
    d.put R.NET_PORT_STAT_STG_RESULT [] r

/-- A 32-bit write to the lower half of NET_PORT_DATA. -/
def Device.netLowWrite (d : Device) (v : BitVec 32) : Device := d.setCtl { d.ctl with netLow := v.toNat }

/-- Table bytes 0x0100 to 0x0B0F in address order (R122); an address without a register reads 0. -/
def Device.netImage (d : Device) : List Byte :=
  (List.range 322).flatMap (fun i => match findReg (0x0F700100 + 8 * i) with
    | some (row, ix) => leBytes 8 (d.rd row.reg ix).toNat
    | none => zeros 8)

/-- NET_HASH_UPDATE (R122). -/
def Device.netHashUpdate (d : Device) : Device :=
  if !d.sec.netHashDue then d
  else
    let h := sha384 d.netImage
    let d := (List.range 6).foldl (fun d k => d.wr R.NET_HASH [k] (BitVec.ofNat 64 (fieldAt h (8 * k) 8))) d
    { d with sec := { d.sec with netHashDue := false } }

end Sys2Proof.Machine
end

