-- ==== Sys2Proof/Machine/CmdCurtain.lean ====
section
/-! DEFINITION. The Curtain commands of firmware 3.x, group 0x01; the changes it commits alone in TX14; and CAL_SWAP. -/

namespace Sys2Proof.Machine

def stTXN_STATE : Nat := 0x0110
def stNOT_STAGEABLE : Nat := 0x0111

/-! ### What every staging command shares -/

/-- The status a stage result answers. -/
def stageStatus (r : Nat) : Nat :=
  if r = 0 then stOK else if r = 2 then stNOT_PRESENT else if r = 5 then stCURTAIN_ABORTED else if r = 3 then stTXN_STATE else stNOT_STAGEABLE

/-- Stage entries in order up to the first refused one: how many, and the status. Firmware refuses an entry of the Net
limits table itself. -/
def Device.stageList (n : Nat) : List MaskedWrite → Nat → Device → Nat × Nat × Device
  | [], k, d => (k, stOK, d)
  | w :: ws, k, d =>
    if netField w.addr then (k, stNET_REFUSED, d)
    else
      let r := d.stageInto n w false
      if r.1 = 0 then Device.stageList n ws (k + 1) r.2 else (k, stageStatus r.1, r.2)

/-- The mailbox may use transaction TXN: it names a slot, and the mailbox opened it. -/
def Device.txnCheck (d : Device) (e : Entry) (txn : Nat) : Nat :=
  if txn = 0 ∨ 14 < txn then stBAD_FIELD else if !d.mayAct e.via (.txn (txn - 1)) then stNOT_OWNER else stOK

/-- Take and give back the resources of a change. -/
def Device.transfer (d : Device) (owner : Nat) (claims drops : List Res) : Device :=
  let d := claims.foldl (fun d r => if (d.ownerOf r).isSome then d
    else d.setCtl { d.ctl with owners := d.ctl.owners ++ [(r, owner)] }) d
  drops.foldl (fun d r => d.disown r) d

/-- Whether TX14 would take these entries: 0, or the status that says why not. -/
def Device.aloneForm (d : Device) (ws : List MaskedWrite) : Nat :=
  if ws.any (fun w => d.fusedAddr w.addr) then stNOT_PRESENT
  else if ws.any (fun w => !w.stageable || d.refusedValue w) then stBAD_FIELD
  else stOK

/-- The oldest change waiting for TX14 starts when the slot is idle. -/
def Device.startAlone (d : Device) : Device :=
  match d.ctl.alone with
  | j :: rest =>
    if j.started ∨ d.txActive 14 then d
    else
      let d := d.setCtl { d.ctl with alone := { j with started := true } :: rest }
      let d := (d.txOpen 14).put R.CUR_TX_CTL_MODE [14] 0
      let d := d.setFlag R.CUR_TX_CTL_DL_EN [14] j.deadline.isSome
      let d := d.wr R.CUR_TX_DEADLINE [14] (j.deadline.getD 0)
      let d := (Device.stageList 14 j.writes 0 d).2.2
      d.txCommit 14 0
  | [] => d

/-- A command's configuration change: staged into its transaction TXN, or committed alone where TXN is 0; `acc` tells that
the command is answered ACCEPTED. -/
def Device.stageCmd (d : Device) (e : Entry) (txn : Nat) (acc : Bool) (job : AloneJob) : Reply :=
  if txn = 0 then
    let st := d.aloneForm job.writes
    if st ≠ 0 then d.no st
    else
      let key := [d.ctl.aloneNext]
      let j := { job with key := key, owner := e.via.owner }
      let d := (d.setCtl { d.ctl with alone := d.ctl.alone ++ [j], aloneNext := d.ctl.aloneNext + 1 }).startAlone
      if acc then d.accepted key 99 else d.later key
  else
    let st := d.txnCheck e txn
    if st ≠ 0 then d.no st
    else if d.txState (txn - 1) ≠ 1 then d.no stTXN_STATE
    else
      let r := Device.stageList (txn - 1) job.writes 0 d
      if r.2.1 ≠ 0 then r.2.2.no r.2.1
      else (r.2.2.transfer e.via.owner job.claims job.drops).ok job.payload

/-- A staged write of one field of a register. -/
def stageField (f : Fld) (ix : List Nat) (v : Nat) : MaskedWrite :=
  { addr := f.reg.addr ix, mask := f.mask, value := BitVec.ofNat 64 (v % 2 ^ f.width * 2 ^ f.lo) }

/-- A staged write of several fields of one register. -/
def stageFields (r : Reg) (ix : List Nat) (fs : List (Fld × Nat)) : MaskedWrite :=
  { addr := r.addr ix, mask := fs.foldl (fun m f => m ||| f.1.mask) 0
    value := fs.foldl (fun v f => v ||| BitVec.ofNat 64 (f.2 % 2 ^ f.1.width * 2 ^ f.1.lo)) 0 }

/-- A staged write of all CS and stageable fields of a register word, W1S bits left out. -/
def stageWord (row : RegRow) (ix : List Nat) (v : Word) : MaskedWrite :=
  let m := row.maskOf (fun f => decide (f.stg ≠ .none ∧ f.acc ≠ .w1s))
  { addr := row.reg.addr ix, mask := m, value := v &&& m }

/-! ### Outcomes -/

/-- The status of a transaction's abort reason. -/
def reasonStatus (r : Nat) : Nat :=
  match r with
  | 0 => stOK
  | 1 => stNET_REFUSED
  | 2 => stDEADLINE_MISSED
  | 5 => stLOOP_REJECTED
  | 6 => stDISCARDED
  | _ => stCURTAIN_ABORTED

/-- The final response of a TXN_COMMIT. -/
def Device.commitPayload (d : Device) (n : Nat) : List Byte :=
  layout [(4, if d.txState n = 4 then d.get R.CUR_TX_RESULT_EPOCH [n] else 0), (1, d.get R.CUR_TX_STAT_LATE [n]),
    (1, d.get R.CUR_TX_STAT_REASON [n]), (2, d.get R.CUR_TX_STAT_ERR_INDEX [n]), (8, d.get R.CUR_TX_ADOPT_TT [n]),
    (1, d.get R.CUR_TX_STAT_ERR_BOOTH [n])]

/-- TXN_COMMIT's final responses that are due. -/
def Device.serveTx (d : Device) : Device :=
  (d.ctl.works.filter (fun w => decide (w.opcode = 0x0102) && !w.dead)).foldl (fun d w =>
    let n := w.key.headD 0
    let wait := decide (w.key.getD 1 0 ≠ 0)
    let st := d.txState n
    if st = 5 ∨ (st = 4 ∧ (!wait ∨ d.flag R.CUR_TX_STAT_APPLIED [n])) then
      d.finishWork w (reasonStatus (if st = 5 then d.get R.CUR_TX_STAT_REASON [n] else 0)) (d.commitPayload n)
    else d) d

/-! ### Group 0x01 -/

def txnOpenSpec : CmdSpec := { opcode := 0x0100, maxLen := 0, modes := [0, 1, 2] }

/-- A slot TXN_OPEN can take. -/
def Device.txnFree (d : Device) (n : Nat) : Bool := decide (d.txState n = 0 ∨ d.txState n = 4 ∨ d.txState n = 5)

/-- TXN_OPEN: the lowest free slot; one whose commit is still to be answered is taken last (log entry 49). -/
def Device.txnOpen (d : Device) (e : Entry) : Reply :=
  let owed := fun (n : Nat) => d.ctl.works.any (fun w => decide (w.opcode = 0x0102 ∧ w.key.headD 0 = n) && !w.dead)
  let free := (List.range 14).filter d.txnFree
  match (free.find? (fun n => !owed n)).or free.head? with
  | none => d.no stBUSY
  | some n => (((d.txOpen n).disown (.txn n)).own e.via (.txn n)).ok (leBytes 2 (n + 1))

def txnStageSpec : CmdSpec := { opcode := 0x0101, minLen := 4, modes := [0, 1, 2] }

/-- The entries of a TXN_STAGE, from its payload or its buffer. -/
def entriesOf (bs : List Byte) (n : Nat) : List MaskedWrite :=
  (List.range n).map (fun i =>
    { addr := fieldAt bs (24 * i) 8, mask := BitVec.ofNat 64 (fieldAt bs (24 * i + 8) 8), value := BitVec.ofNat 64 (fieldAt bs (24 * i + 16) 8) })

/-- TXN_STAGE. -/
def Device.txnStage (e : Entry) (d : Device) : Reply :=
  let b := if e.hostBuf then d.input e else e.body
  let txn := fieldAt b 0 2
  let count := fieldAt b 2 2
  let head := if e.hostBuf then 8 else 4
  if (e.hostBuf ∧ e.inLen ≠ 8 + 24 * count) ∨ (!e.hostBuf ∧ e.length.toNat < 4 + 24 * count ∧ count ≤ 2) then d.no stBAD_LENGTH
  else if (e.hostBuf ∧ fieldAt b 4 4 ≠ 0) ∨ (!e.hostBuf ∧ 2 < count) then d.no stBAD_FIELD
  else if d.txnCheck e txn ≠ 0 then d.no (d.txnCheck e txn)
  else if d.txState (txn - 1) ≠ 1 then d.no stTXN_STATE
  else
    let r := Device.stageList (txn - 1) (entriesOf (b.drop head) count) 0 d
    let d := r.2.2
    { status := r.2.1, dev := d
      payload := layout [(2, r.1), (2, (d.tx (txn - 1)).entries.length), (1, 0), (1, if r.2.1 = stCURTAIN_ABORTED then 4 else 0)] }

def txnCommitSpec : CmdSpec := { opcode := 0x0102, minLen := 28, modes := [0, 1, 2], mayAccept := true }

/-- TXN_COMMIT. -/
def Device.txnCommit (e : Entry) (d : Device) : Reply :=
  let txn := e.u 12 2
  if 2 < e.u 14 1 ∨ 3 < e.u 15 1 ∨ e.u 17 7 ≠ 0 ∨ e.u 40 24 ≠ 0 then d.no stBAD_FIELD
  else if d.txnCheck e txn ≠ 0 then d.no (d.txnCheck e txn)
  else if d.txState (txn - 1) ≠ 1 then d.no stTXN_STATE
  else
    let n := txn - 1
    let d := (d.put R.CUR_TX_CTL_MODE [n] (e.u 14 1)).put R.CUR_TX_CTL_DL_EN [n] (e.u 15 1 % 2)
    let d := d.put R.CUR_TX_CTL_TRIG [n] (e.u 16 1)
    let d := d.put R.CUR_TX_TIME_TIME [n] (e.u 24 8)
    let d := d.put R.CUR_TX_DEADLINE_DEADLINE [n] (e.u 32 8)
    (d.txCommit n 0).accepted [n, e.u 15 1 / 2] 99

def txnCancelSpec : CmdSpec := { opcode := 0x0103, minLen := 2, maxLen := 2 }

/-- TXN_CANCEL. -/
def Device.txnCancel (e : Entry) (d : Device) : Reply :=
  let txn := e.u 12 2
  let n := txn - 1
  if d.txnCheck e txn ≠ 0 then d.no (d.txnCheck e txn)
  else if d.txnFree n then d.no stTXN_STATE
  else
    let late := d.txState n = 2 ∨ (d.txState n = 3 ∧ (d.tx n).sampled)
    let d := d.txCancel n
    if late then d.no stBUSY else (if d.txState n = 0 then d.disown (.txn n) else d).ok []

def txnQuerySpec : CmdSpec := { opcode := 0x0104, minLen := 2, maxLen := 2 }

/-- TXN_QUERY. -/
def Device.txnQuery (e : Entry) (d : Device) : Reply :=
  let txn := e.u 12 2
  let n := txn - 1
  if d.txnCheck e txn ≠ 0 then d.no (d.txnCheck e txn)
  else
    d.ok (layout [(1, d.txState n), (1, d.get R.CUR_TX_STAT_REASON [n]), (2, d.get R.CUR_TX_STAT_COUNT [n]),
      (4, d.get R.CUR_TX_RESULT_EPOCH [n]), (8, d.get R.CUR_TX_ADOPT_TT [n])])

def epochQuerySpec : CmdSpec := { opcode := 0x0105, maxLen := 0 }

/-- EPOCH_QUERY. -/
def Device.epochQuery (d : Device) : Reply :=
  d.ok (layout [(4, d.epoch), (2, d.get R.CUR_STAT_PEND []), (2, d.get R.CUR_STAT_OPEN []), (2, d.get R.CUR_STAT_ACTIVE [])])

/-! ### CAL_SWAP -/

def calSwapSpec : CmdSpec := { opcode := 0x0202, minLen := 6, maxLen := 40, modes := [1, 2], mayAccept := true }

/-- CAL_SWAP: BANK, ENTRY and RUN of CAL_CTL by ACTION; every action stages ENTRY (log entry 50). -/
def Device.calSwap (e : Entry) (d : Device) : Reply :=
  let n := e.u 12 1
  let act := e.u 13 1
  let entry := e.u 14 2
  if 2 < act ∨ 4096 ≤ entry ∨ e.u 18 46 ≠ 0 then d.no stBAD_FIELD
  else if d.seqRefused e ≠ 0 then d.no (d.seqRefused e)
  else if d.seqFused n then d.no stNOT_PRESENT
  else if d.seqState n = 4 then d.no 0x0212
  else if d.swapPending n then d.no stBUSY
  else
    let bank := (R.CAL_CTL_BANK, b2n (d.standby n))
    let fs := if act = 0 then [bank, (R.CAL_CTL_ENTRY, entry)]
      else if act = 1 then [(R.CAL_CTL_ENTRY, entry)]
      else [bank, (R.CAL_CTL_ENTRY, entry), (R.CAL_CTL_RUN, 1)]
    d.stageCmd e (e.u 16 2) true { opcode := 0x0202, key := [], writes := [stageFields R.CAL_CTL [n] fs] }

end Sys2Proof.Machine
end

