-- ==== Sys2Proof/Machine/Security.lean ====
section
/-! DEFINITION. The security and life-cycle unit (R438 to R464): OTP and the life cycle, signed requests, keys and the
wipe of the key cache, quotes, the configuration digest, debug access, the board block and the boot ROM's image load. -/

namespace Sys2Proof.Machine

/-- Replace the unit's own state. -/
def Device.setSec (d : Device) (x : SecX) : Device := { d with sec := x }

/-! ### OTP (R444 to R446, R450) -/

/-- Life-cycle states, encoded as IDENTIFY. -/
def lcBLANK : Nat := 0
def lcPROVISIONED : Nat := 1
def lcOWNED : Nat := 2
def lcFIELD : Nat := 3
def lcRETURN : Nat := 4
def lcSCRAPPED : Nat := 5

/-- A life-cycle record is valid (R450). -/
def recordValid (r : Nat) : Bool := decide (r / 65536 = 0 ∧ r / 256 = 255 - r % 256)

/-- The 32 records of the log. -/
def SecX.records (x : SecX) : List Nat := (List.range 32).map (fun i => x.lcLog.get 0 i)

/-- LC_COUNT (R450). -/
def SecX.lcCount (x : SecX) : Nat := (x.records.filter recordValid).length

/-- The life-cycle state OTP spells (R450). -/
def SecX.lcState (x : SecX) : Nat :=
  if x.scrap then lcSCRAPPED
  else match (x.records.filter recordValid).getLast? with
    | some r => r % 256
    | none => lcBLANK

/-- The first unused record that follows every non-zero one (R450); none where the log is full. -/
def SecX.freeRecord (x : SecX) : Option Nat := (List.range 32).find? (fun i => (List.range 32).all (fun j => decide (j < i ∨ x.lcLog.get 0 j = 0)))

/-- The record of a state (R450). -/
def recordOf (s : Nat) : Nat := s + 256 * (255 - s)

/-- The hash in a slot; class 0 vendor, 1 owner. -/
def SecX.hash (x : SecX) (cls s : Nat) : List Byte := fit 48 (if cls = 0 then x.vHash.get [] s else x.oHash.get [] s)

/-- A slot is programmed: its hash is not all zeros (R445). -/
def SecX.programmed (x : SecX) (cls s : Nat) : Bool := (x.hash cls s).any (fun b => decide (b ≠ 0))

/-- A slot is revoked. -/
def SecX.revoked (x : SecX) (cls s : Nat) : Bool := bit (if cls = 0 then x.vRev else x.oRev) s

/-- A slot holds a programmed, unrevoked hash. -/
def SecX.live (x : SecX) (cls s : Nat) : Bool := x.programmed cls s && !x.revoked cls s

/-- The revoke fuses of a class with one more set. -/
def SecX.revoke (x : SecX) (cls s : Nat) : SecX :=
  if cls = 0 then { x with vRev := x.vRev ||| 2 ^ s } else { x with oRev := x.oRev ||| 2 ^ s }

/-- OWNER_SLOT_REVOKE: every programmed, unrevoked owner slot is revoked (R445). -/
def SecX.revokeOwners (x : SecX) : SecX :=
  (List.range 4).foldl (fun x s => if x.live 1 s then x.revoke 1 s else x) x

/-- SEC_STAT, SEC_SLOTS and SEC_SVN as OTP has them. -/
def Device.showOtp (d : Device) : Device :=
  let x := d.sec
  let d := (d.put R.SEC_STAT_LC [] x.lcState).put R.SEC_STAT_LC_COUNT [] x.lcCount
  let d := d.put R.DEV_STATUS_LIFECYCLE [] x.lcState
  let d := (d.put R.SEC_SLOTS_V_PROG [] (maskWhere 4 (x.programmed 0))).put R.SEC_SLOTS_V_REVOKED [] (maskWhere 4 (x.revoked 0))
  let d := (d.put R.SEC_SLOTS_O_PROG [] (maskWhere 4 (x.programmed 1))).put R.SEC_SLOTS_O_REVOKED [] (maskWhere 4 (x.revoked 1))
  (d.put R.SEC_SVN_FLOOR [] x.floor).put R.SEC_DIEID_DIE_ID [] x.dieId

/-- R452, step 4: the fuses of an accepted change are programmed; entering SCRAPPED sets every seed fuse (R451). -/
def SecX.program (x : SecX) (c : LcChange) : SecX :=
  let x := { x with change := none }
  let x := { x with vHash := (c.vendor.zipIdx).foldl (fun (m : Sparse (List Byte)) (h : List Byte × Nat) => m.put [] h.2 (fit 48 h.1)) x.vHash
                    seed := if c.seed = [] then x.seed else c.seed }
  let x := match c.slot with
    | some (s, h) => { x with oHash := x.oHash.put [] s (fit 48 h) }
    | none => x
  if c.toState = lcSCRAPPED then { x with scrap := true, seed := List.replicate 48 255 }
  else match x.freeRecord with
    | some i => { x with lcLog := x.lcLog.put 0 i (recordOf c.toState) }
    | none => x

/-! ### The anti-rollback floor (R446) -/

/-- SEC_SVN_REQ. -/
def Device.svnRequest (d : Device) (target : Nat) : Device :=
  if d.flag R.SEC_SVN_REQ_BUSY [] then d
  else
    let svn := d.get R.SEC_BOOT_IMAGE_SVN []
    let goal := min target svn
    let d := if svn < target then d.setFlag R.SEC_SVN_REQ_CAPPED [] true else d
    if goal ≤ d.sec.floor then d
    else (d.setSec { d.sec with svnTarget := goal }).setFlag R.SEC_SVN_REQ_BUSY [] true

/-- SVN_PROGRAM_DONE. -/
def Device.svnDone (d : Device) : Device :=
  if !d.flag R.SEC_SVN_REQ_BUSY [] then d
  else
    let d := d.setSec { d.sec with floor := max d.sec.floor d.sec.svnTarget, svnTarget := 0 }
    let d := (d.setFlag R.SEC_SVN_REQ_BUSY [] false).put R.SEC_SVN_FLOOR [] d.sec.floor
    d.finish 0x0E04 [] stOK (leBytes 2 d.sec.floor)

/-! ### The key cache -/

/-- The key cache is wiped (R461, R462): the seal booth's key is gone, and quotes are refused. -/
def Device.wipeKeys (d : Device) : Device :=
  let d := d.setSec { d.sec with idKey := none, sealKey := none }
  (d.setFlag R.SEC_STAT_ID_READY [] false).setFlag R.MB_STAT_KEY_READY [] false

/-- A state that holds an identity key (R453). -/
def lcHasKey (s : Nat) : Bool := decide (1 ≤ s ∧ s ≤ 4)

/-- IDENTITY_KEY_READY (R453): once in each full reset, so never again after a wipe of the key cache. -/
def Device.identityReady (d : Device) : Device :=
  if d.sec.inReset ∨ d.sec.change.isSome ∨ !d.sec.sensed ∨ d.flag R.SEC_STAT_ID_READY [] ∨ !lcHasKey d.lifecycle ∨ d.flag R.SEC_STAT_DEBUG_OPEN [] ∧ d.lifecycle ≠ 1 then d
  else (d.setSec { d.sec with idKey := some (identityKey d.sec.seed d.sec.dieId) }).setFlag R.SEC_STAT_ID_READY [] true

/-! ### The configuration digest (R456) -/

/-- The digest as SEC_CFGk show it. -/
def Device.cfgDigest (d : Device) : List Byte := (List.range 6).flatMap (fun k => leBytes 8 (d.rd R.SEC_CFG [k]).toNat)

/-- Write six registers with a 48-byte digest. -/
def Device.wrDigest (d : Device) (r : Reg) (h : List Byte) : Device :=
  (List.range 6).foldl (fun d k => d.wr r [k] (BitVec.ofNat 64 (fieldAt h (8 * k) 8))) d

/-- CONFIG_DIGEST_EXTEND: the oldest adoption not yet covered. -/
def Device.digestExtend (d : Device) : Device :=
  match d.sec.extend with
  | [] => d
  | (e, ws) :: rest =>
    let body := ws.flatMap (fun w => leBytes 8 w.addr ++ leBytes 8 w.mask.toNat ++ leBytes 8 w.value.toNat)
    let h := sha384 (d.cfgDigest ++ leBytes 4 e ++ leBytes 2 ws.length ++ body)
    ((d.setSec { d.sec with extend := rest }).wrDigest R.SEC_CFG h).put R.SEC_CFG_EPOCH_EPOCH [] e

/-! ### Debug access (R460, R461) -/

/-- The live challenge's 32 bytes. -/
def Device.challenge (d : Device) : List Byte := (List.range 4).flatMap (fun k => leBytes 8 (d.rd R.SEC_DBG_CHAL [k]).toNat)

/-- A live challenge is drawn, in place of any other. -/
def Device.newChallenge (d : Device) : Device :=
  let r := d.secret 32
  let d := (List.range 4).foldl (fun d k => d.wr R.SEC_DBG_CHAL [k] (BitVec.ofNat 64 (fieldAt r.1 (8 * k) 8))) r.2
  (d.setSec { d.sec with chalTT := d.tt }).setFlag R.SEC_DBG_CTL_CHAL_VALID [] true

/-- The challenge ceases to be live. -/
def Device.endChallenge (d : Device) : Device :=
  ((List.range 4).foldl (fun d k => d.wr R.SEC_DBG_CHAL [k] 0) d).setFlag R.SEC_DBG_CTL_CHAL_VALID [] false

/-- DEBUG_CHALLENGE_EXPIRE: 60 s of TT have passed. -/
def Device.challengeExpire (d : Device) : Device :=
  if d.flag R.SEC_DBG_CTL_CHAL_VALID [] ∧ (60000000000 * 65536 : Int) ≤ ttDiff d.tt d.sec.chalTT then d.endChallenge else d

/-- JTAG_NEW_CHALLENGE; in SCRAPPED the port is closed for good. -/
def Device.jtagChallenge (d : Device) : Device := if d.lifecycle = lcSCRAPPED then d else d.newChallenge

/-- JTAG opens at a level; in FIELD, OWNED and RETURN the key cache is wiped (R461). -/
def Device.openJtag (d : Device) (level : Nat) : Device :=
  let d := (d.setFlag R.SEC_STAT_DEBUG_OPEN [] true).put R.SEC_STAT_DEBUG_LEVEL [] (max level (d.get R.SEC_STAT_DEBUG_LEVEL []))
  if 2 ≤ d.lifecycle ∧ d.lifecycle ≤ 4 then d.wipeKeys else d

/-! ### Signed requests (R447 to R451) -/

/-- Results of a check. -/
def rqFORMAT : Nat := 1
def rqDIE : Nat := 2
def rqSTALE : Nat := 3
def rqKEY : Nat := 4
def rqSIGNATURE : Nat := 5
def rqNOT_ALLOWED : Nat := 6
def rqLC_FULL : Nat := 7
def rqLAST_KEY : Nat := 8
def rqSLOT_USED : Nat := 9

/-- Signer block `j` of a request. -/
def signerBlock (rq : List Byte) (j : Nat) : List Byte := (rq.drop (120 + 200 * j)).take 200

/-- The class and slot a SIGNER_SLOT byte names. -/
def signerSlot (b : Nat) : Nat × Nat := (b / 4 % 2, b % 4)

/-- The slot of a signer block. -/
def blockSlot (blk : List Byte) : Nat × Nat := signerSlot (fieldAt blk 97 1)

/-- The signer blocks of a request. -/
def signers (rq : List Byte) : List (List Byte) := (List.range (fieldAt rq 7 1)).map (signerBlock rq)

/-- The form of a request. -/
def requestForm (rq : List Byte) : Bool :=
  let n := fieldAt rq 7 1
  decide (rq.take 4 = [0x4C, 0x4E, 0x53, 0x52] ∧ fieldAt rq 4 2 = 1 ∧ (n = 1 ∨ n = 2) ∧ rq.length = 120 + 200 * n
    ∧ fieldAt rq 21 11 = 0 ∧ fieldAt rq 112 8 = 0) && (signers rq).all (fun b => decide (fieldAt b 98 6 = 0))

/-- The classes whose signatures a transition needs (R451): some list of them suffices. -/
def transitionNeeds (lc st : Nat) : List (List Nat) :=
  if (lc = 1 ∧ st = 3) ∨ (lc = 3 ∧ st = 4) ∨ (lc = 4 ∧ st = 3) then [[0]]
  else if lc = 2 ∧ st = 3 then [[1]]
  else if lc = 2 ∧ st = 4 then [[0, 1]]
  else if lc = 2 ∧ st = 5 then [[0], [1]]
  else if (lc = 0 ∨ lc = 1 ∨ lc = 3 ∨ lc = 4) ∧ st = 5 then [[0]]
  else []

/-- The classes whose signatures a request needs in a state (R449, R451, R460). -/
def requestNeeds (lc : Nat) (rq : List Byte) : List (List Nat) :=
  let st := fieldAt rq 17 1
  let cls := fieldAt rq 19 1
  match fieldAt rq 6 1 with
  | 1 => transitionNeeds lc st
  | 2 => if lc = lcFIELD ∧ st = lcOWNED ∧ fieldAt rq 18 1 < 4 then [[0]] else []
  | 3 =>
    if 3 < fieldAt rq 18 1 ∨ 1 < cls then []
    else if cls = 0 then (if lcHasKey lc then [[0]] else [])
    else if lc = lcOWNED then [[0], [1]] else []
  | 4 => if lc = lcOWNED ∧ fieldAt rq 18 1 < 4 then [[1]] else []
  | 5 =>
    if fieldAt rq 20 1 ≠ 1 ∧ fieldAt rq 20 1 ≠ 2 then []
    else if lc = lcFIELD ∨ lc = lcRETURN then [[0]]
    else if lc = lcOWNED then [[0], [1]] else []
  | _ => []

/-- A change leaves the class without an unrevoked slot (R445). -/
def SecX.lastKey (x : SecX) (cls s : Nat) : Bool :=
  x.live cls s && !(List.range 4).any (fun t => decide (t ≠ s) && x.live cls t)

/-- Whether OTP refuses the change (R445, R451): 0, or the result. -/
def Device.changeRefused (d : Device) (rq : List Byte) : Nat :=
  let x := d.sec
  let kind := fieldAt rq 6 1
  let s := fieldAt rq 18 1
  let cls := fieldAt rq 19 1
  let record := kind = 2 ∨ (kind = 1 ∧ fieldAt rq 17 1 ≠ lcSCRAPPED)
  if record ∧ x.freeRecord.isNone then rqLC_FULL
  else if kind = 3 ∧ x.lastKey cls s ∧ (cls = 0 ∨ d.lifecycle = lcOWNED) then rqLAST_KEY
  else if (kind = 2 ∨ kind = 4) ∧ x.programmed 1 s then rqSLOT_USED
  else 0

/-- A request asks for a life-cycle transition (R449). -/
def isTransition (rq : List Byte) : Bool := decide (fieldAt rq 6 1 = 1 ∨ fieldAt rq 6 1 = 2)

/-- A request is stale (R448); so is a second transition while one waits (R452). -/
def Device.requestStale (d : Device) (rq : List Byte) : Bool :=
  (d.sec.change.isSome && isTransition rq) || decide (fieldAt rq 16 1 ≠ d.sec.lcCount)
    || (decide (fieldAt rq 6 1 = 5) && (!d.flag R.SEC_DBG_CTL_CHAL_VALID [] || decide ((rq.drop 80).take 32 ≠ d.challenge)))

/-- The check of a request, in the order of R448; `debug` admits only a DEBUG request. -/
def Device.requestCheck (d : Device) (rq : List Byte) (debug : Bool) : Nat :=
  let bs := signers rq
  let classes := bs.map (fun b => (blockSlot b).1)
  if !requestForm rq then rqFORMAT
  else if fieldAt rq 8 8 ≠ d.sec.dieId then rqDIE
  else if d.requestStale rq then rqSTALE
  else if bs.any (fun b => !d.sec.live (blockSlot b).1 (blockSlot b).2
      || decide (sha384 (b.take 97) ≠ d.sec.hash (blockSlot b).1 (blockSlot b).2)) then rqKEY
  else if bs.any (fun b => !ecdsaVerify (b.take 97) (rq.take 120) ((b.drop 104).take 96)) then rqSIGNATURE
  else if (debug ∧ fieldAt rq 6 1 ≠ 5) ∨ !(requestNeeds d.lifecycle rq).any (fun ns => ns.all (fun c => classes.contains c)) then rqNOT_ALLOWED
  else d.changeRefused rq

/-- What an accepted request does (R449, R452, R460). -/
def Device.requestDone (d : Device) (rq : List Byte) : Device :=
  let s := fieldAt rq 18 1
  let key := (rq.drop 32).take 48
  match fieldAt rq 6 1 with
  | 1 => (d.setSec { d.sec with change := some { toState := fieldAt rq 17 1, since := d.tt } }).wipeKeys
  | 2 => (d.setSec { d.sec with change := some { slot := some (s, key), toState := lcOWNED, since := d.tt } }).wipeKeys
  | 3 => (d.setSec (d.sec.revoke (fieldAt rq 19 1) s)).showOtp
  | 4 => (d.setSec { d.sec with oHash := d.sec.oHash.put [] s key }).showOtp
  | 5 => (d.endChallenge).openJtag (fieldAt rq 20 1)
  | _ => d

/-- The status of a check's result. -/
def requestStatus (r : Nat) : Nat :=
  match r with
  | 0 => stOK
  | 3 => 0x0E12
  | 4 => 0x0E11
  | 5 => 0x0E10
  | 6 => stLIFECYCLE
  | 7 => 0x0E14
  | _ => stBAD_FIELD

/-- The Ringmaster region holds the `n` bytes at an address of the Ringmaster (R31, R47). -/
def inRegion (a n : Nat) : Bool := decide (rmBase ≤ a ∧ a + n ≤ rmBase + rmSize)

/-- SEC_REQ_CTL.GO: the unit takes the request's bytes and checks them; a length or a place it cannot have is the FORMAT
check's. -/
def Device.requestGo (d : Device) : Device :=
  if d.flag R.SEC_REQ_CTL_BUSY [] then d
  else
    let n := d.get R.SEC_REQ_CTL_LEN []
    let a := d.get R.SEC_REQ_ADDR_ADDR []
    let rq := if (n = 320 ∨ n = 520) ∧ a % 64 = 0 ∧ inRegion a n then d.hbmRead (a - rmBase) n else []
    (d.setSec { d.sec with request := rq }).setFlag R.SEC_REQ_CTL_BUSY [] true

/-- Where firmware places a request, and the quote it asks for (log entry 47). -/
def requestBuffer : Nat := 0x11000000
def quoteBuffer : Nat := 0x11001000

/-- Firmware submits a request to the unit. -/
def Device.requestSubmit (d : Device) (rq : List Byte) : Device :=
  let d := d.hbmWrite requestBuffer rq
  let d := (d.put R.SEC_REQ_ADDR_ADDR [] (rmBase + requestBuffer)).put R.SEC_REQ_CTL_LEN [] rq.length
  d.requestGo

/-- The bytes a work's key spells. -/
def keyBytes (k : List Nat) : List Byte := k.map (BitVec.ofNat 8)

/-- The oldest SEC_REQUEST or DEBUG_OPEN that waits. -/
def Device.requestWork (d : Device) : Option Work :=
  d.ctl.works.find? (fun w => decide (w.opcode = 0x0E03 ∨ w.opcode = 0x0E08) && !w.dead)

/-- SEC_REQUEST_CHECK_DONE: the result, the change, and the response of the command that asked for it (R64). -/
def Device.requestEnd (d : Device) : Device :=
  if !d.flag R.SEC_REQ_CTL_BUSY [] then d
  else
    let rq := d.sec.request
    let r := d.requestCheck rq false
    let d := if r = 0 then d.requestDone rq else d
    let d := (d.setSec { d.sec with request := [] }).setFlag R.SEC_REQ_CTL_BUSY [] false
    let d := (d.setFlag R.SEC_REQ_CTL_DONE [] true).put R.SEC_REQ_CTL_RESULT [] r
    match d.requestWork with
    | none => d
    | some w =>
      if keyBytes w.key ≠ rq then d.requestSubmit (keyBytes w.key)
      else
        let n := d.sec.lcCount + b2n (isTransition rq && decide (fieldAt rq 17 1 ≠ lcSCRAPPED))
        let d := d.finishWork w (requestStatus r) (if r = 0 ∧ w.opcode = 0x0E03 then [BitVec.ofNat 8 n] else [])
        match d.requestWork with
        | some v => d.requestSubmit (keyBytes v.key)
        | none => d

/-- JTAG_DEBUG_REQUEST: a DEBUG request shifted in through JTAG. -/
def Device.jtagRequest (d : Device) (rq : List Byte) : Device :=
  if d.lifecycle = lcSCRAPPED then d
  else if d.requestCheck rq true = 0 then d.requestDone rq else d

/-- JTAG_PROVISION: only in BLANK; the unit draws the seed, and the vendor hashes come through JTAG (R451, R452). -/
def Device.jtagProvision (d : Device) (hashes : List (List Byte)) : Device :=
  if d.lifecycle ≠ lcBLANK ∨ d.sec.change.isSome ∨ d.sec.freeRecord.isNone then d
  else
    let r := d.secret 48
    (r.2.setSec { r.2.sec with change := some { vendor := hashes.take 4, seed := r.1, toState := lcPROVISIONED, since := d.tt } }).wipeKeys

/-- JTAG_SCRAP: in BLANK or PROVISIONED. -/
def Device.jtagScrap (d : Device) : Device :=
  if (d.lifecycle ≠ lcBLANK ∧ d.lifecycle ≠ lcPROVISIONED) ∨ d.sec.change.isSome then d
  else (d.setSec { d.sec with change := some { toState := lcSCRAPPED, since := d.tt } }).wipeKeys

/-! ### Quotes (R458, R459) -/

/-- FW_HASH, NET_HASH: 48 bytes of six registers. -/
def Device.digestOf (d : Device) (r : Reg) : List Byte := (List.range 6).flatMap (fun k => leBytes 8 (d.rd r [k]).toNat)

/-- The 256 signed bytes of a quote. -/
def Device.quoteBytes (d : Device) : List Byte :=
  let fl := d.get R.SEC_STAT_OWNER_FW [] + 2 * d.get R.SEC_STAT_CERT_OK [] + 4 * d.get R.SEC_STAT_BB_BAD []
    + 8 * b2n (decide (d.get R.NET_HDR_SRC [] ≠ 0))
  [0x4C, 0x4E, 0x41, 0x51]
    ++ layout [(2, 1), (1, d.lifecycle), (1, fl), (2, d.sdn), (2, d.sec.floor), (2, d.get R.SEC_BOOT_IMAGE_SVN []), (1, d.sec.lcCount),
      (1, 0), (8, d.sec.dieId), (8, d.tt.toNat), (4, d.get R.SEC_CFG_EPOCH_EPOCH []), (4, d.get R.NET_HDR_GEN [])]
    ++ (List.range 4).flatMap (fun k => leBytes 8 (d.rd R.SEC_Q_NONCE [k]).toNat)
    ++ fit 32 d.sec.bootNonce ++ d.digestOf R.SEC_FWHASH ++ d.digestOf R.NET_HASH ++ d.cfgDigest ++ zeros 8

/-- SEC_Q_CTL.GO. -/
def Device.quoteGo (d : Device) : Device :=
  if d.flag R.SEC_Q_CTL_BUSY [] then d
  else if d.sec.idKey.isNone then d.setFlag R.SEC_Q_CTL_REFUSED [] true
  else (d.setSec { d.sec with quote := d.quoteBytes }).setFlag R.SEC_Q_CTL_BUSY [] true

/-- Firmware asks for a quote over a nonce of 32 bytes. -/
def Device.quoteAsk (d : Device) (nonce : List Byte) : Device :=
  let d := (List.range 4).foldl (fun d k => d.wr R.SEC_Q_NONCE [k] (BitVec.ofNat 64 (fieldAt nonce (8 * k) 8))) d
  (d.put R.SEC_Q_ADDR_ADDR [] (rmBase + quoteBuffer)).quoteGo

/-- The oldest ATTEST that waits. -/
def Device.attestWork (d : Device) : Option Work := d.ctl.works.find? (fun w => decide (w.opcode = 0x0E01) && !w.dead)

/-- The next ATTEST is asked for, or answered NO_KEY where the key has gone. -/
def Device.attestNext : Nat → Device → Device
  | 0, d => d
  | fuel + 1, d =>
    match d.attestWork with
    | none => d
    | some w =>
      let d := d.quoteAsk (keyBytes w.key)
      if d.flag R.SEC_Q_CTL_BUSY [] then d else Device.attestNext fuel (d.finishWork w 0x0E13 [])

/-- QUOTE_DONE: the signed quote is written, or refused where the key has gone meanwhile (R461, R463). -/
def Device.quoteDone (d : Device) : Device :=
  if !d.flag R.SEC_Q_CTL_BUSY [] then d
  else
    let d := d.setFlag R.SEC_Q_CTL_BUSY [] false
    match d.sec.idKey with
    | none =>
      let d := d.setFlag R.SEC_Q_CTL_REFUSED [] true
      match d.attestWork with
      | some w => Device.attestNext 64 (d.finishWork w 0x0E13 [])
      | none => d
    | some key =>
      let q := d.sec.quote
      let r := d.signWith key q
      let bs := q ++ r.1
      let a := d.get R.SEC_Q_ADDR_ADDR []
      let d := if inRegion a 352 then r.2.hbmWrite (a - rmBase) bs else r.2
      let d := (d.setFlag R.SEC_Q_CTL_DONE [] true).setSec { d.sec with quote := [] }
      match d.attestWork with
      | some w =>
        if keyBytes w.key = (q.drop 40).take 32 then Device.attestNext 64 (d.finishOut w stOK [] bs)
        else Device.attestNext 64 d
      | none => d

/-! ### The external flash and images (R438 to R443) -/

/-- Bytes of the flash; blank ones read as all ones. -/
def SecX.flashRead (x : SecX) (a n : Nat) : List Byte := readBytes x.flash 255 a n

/-- Where an image slot lies. -/
def slotBase (s : Nat) : Nat := if s = 0 then 0x01000000 else 0x02000000

/-- The header of the image in a slot. -/
def SecX.header (x : SecX) (s : Nat) : List Byte := x.flashRead (slotBase s) 512

/-- The form of an image header (R439). -/
def headerForm (h : List Byte) : Bool :=
  let sram := fieldAt h 16 4
  let hbm := fieldAt h 20 4
  let entry := fieldAt h 24 8
  decide (h.take 4 = [0x4C, 0x4E, 0x46, 0x57] ∧ fieldAt h 4 2 = 1 ∧ fieldAt h 6 2 < 2 ∧ fieldAt h 8 2 < 4096 ∧ fieldAt h 10 2 = 0
    ∧ 64 ≤ sram ∧ sram ≤ 4194304 ∧ sram % 64 = 0 ∧ hbm % 64 = 0 ∧ sram + hbm ≤ 16777216 - 512
    ∧ 0x400000 ≤ entry ∧ entry < 0x400000 + sram ∧ fieldAt h 80 48 = 0 ∧ fieldAt h 226 6 = 0 ∧ fieldAt h 328 184 = 0)

/-- An image is absent: its header reads as all ones. -/
def headerBlank (h : List Byte) : Bool := h.all (fun b => decide (b = 255))

/-- The body of the image in a slot. -/
def SecX.imageBody (x : SecX) (s : Nat) : List Byte :=
  let h := x.header s
  x.flashRead (slotBase s + 512) (fieldAt h 16 4 + fieldAt h 20 4)

/-- The first check of R440 and R441 that an image fails, as SEC_BOOT encodes it; 0 where it passes. -/
def SecX.imageError (x : SecX) (lc s : Nat) : Nat :=
  let h := x.header s
  let (cls, k) := signerSlot (fieldAt h 225 1)
  let owner := fieldAt h 6 2 % 2
  if headerBlank h then 1
  else if !headerForm h then 2
  else if cls ≠ owner ∨ (cls = 1 ∧ lc ≠ lcOWNED) ∨ (cls = 0 ∧ !lcHasKey lc) then 8
  else if !x.programmed cls k then 3
  else if x.revoked cls k then 4
  else if sha384 ((h.drop 128).take 97) ≠ x.hash cls k then 3
  else if fieldAt h 8 2 < x.floor then 7
  else if !ecdsaVerify ((h.drop 128).take 97) (h.take 232) ((h.drop 232).take 96) then 5
  else if sha384 (x.imageBody s) ≠ (h.drop 32).take 48 then 6
  else 0

/-- The order in which the boot ROM tries the slots (R440). -/
def SecX.bootOrder (x : SecX) : List Nat :=
  let r := x.flashRead 0x00FE0000 12
  let good := decide (r.take 4 = [0x4C, 0x4E, 0x42, 0x53] ∧ crc32c (r.take 8) = fieldAt r 8 4 ∧ fieldAt r 4 4 < 2)
  if good then (if fieldAt r 4 1 = 0 then [0, 1] else [1, 0])
  else
    let svn := fun (s : Nat) => if headerForm (x.header s) then fieldAt (x.header s) 8 2 else 0
    if svn 0 < svn 1 then [1, 0] else [0, 1]

/-- FW_HASH of the image in a slot (R440). -/
def SecX.fwHash (x : SecX) (s : Nat) : List Byte := sha384 ((x.header s).take 232)

/-- The parts of an accepted image are copied, and the boot ROM jumps to ENTRY (R440). -/
def Device.imageCopy (d : Device) (s : Nat) : Device :=
  let h := d.sec.header s
  let body := d.sec.imageBody s
  let n := fieldAt h 16 4
  let d := d.setCtl { d.ctl with sram := writeBytes [] 0 0x400000 (body.take n), bootPath := false }
  let d := d.hbmWrite 0 (body.drop n)
  let d := d.setSec { d.sec with fwVersion := fieldAt h 12 4, entry := fieldAt h 24 8 }
  let d := (d.setFlag R.RM_STATUS_OWNER_FW [] (decide (fieldAt h 6 2 = 1))).setFlag R.SEC_STAT_OWNER_FW [] (decide (fieldAt h 6 2 = 1))
  let d := (d.put R.SEC_BOOT_SLOT [] s).put R.SEC_BOOT_IMAGE_SVN [] (fieldAt h 8 2)
  let d := (d.wrDigest R.SEC_FWHASH (d.sec.fwHash s)).put R.SEC_SLOTS_IMAGE_KEY [] (fieldAt h 225 1 % 8)
  d.put R.RM_STATUS_STAGE [] 1

/-- CERT_OK (R454). -/
def Device.certCheck (d : Device) (key : Nat) : Device :=
  let area := d.sec.flashRead 0x00FF0000 4096
  let n := certLength area
  d.setFlag R.SEC_STAT_CERT_OK [] (decide (0 < n ∧ n ≤ 4096 ∧ certPub area = pubBytes key))

/-- The seal key and its statement (R267, R455), once the image has been verified. -/
def Device.sealBoot (d : Device) (hash : List Byte) : Device :=
  match d.sec.idKey with
  | none => d
  | some key =>
    let k := sealKeyOf key d.sec.bootNonce
    let body := [0x4C, 0x4E, 0x53, 0x4B] ++ layout [(2, 1), (1, d.lifecycle), (1, 0)] ++ fit 32 d.sec.bootNonce ++ pubBytes k
      ++ fit 48 hash ++ zeros 7
    let r := (d.certCheck key).signWith key body
    let d := r.2.setSec { r.2.sec with sealKey := some k }
    let d := d.setMb { d.mb with stmt := body ++ r.1 }
    let d := (d.put R.MSG_STMT_ADDR [] Config.statementAddr.toNat).setFlag R.MSG_STMT_VALID [] true
    d.setFlag R.MB_STAT_KEY_READY [] true

/-- SEC_BOOT's record of a slot's outcome. -/
def Device.bootErr (d : Device) (s e : Nat) : Device := if s = 0 then d.put R.SEC_BOOT_ERR_A [] e else d.put R.SEC_BOOT_ERR_B [] e

/-- The boot ROM stops (R440 to R442). -/
def Device.bootStop (d : Device) : Device := d.put R.RM_STATUS_STAGE [] 3

/-- The load after a full reset (R440). -/
def Device.bootFirst (d : Device) : Device :=
  match d.sec.bootOrder with
  | [a, b] =>
    let ea := d.sec.imageError d.lifecycle a
    let d := d.bootErr a ea
    if ea = 0 then ((d.bootErr b 9).sealBoot (d.sec.fwHash a)).imageCopy a
    else
      let eb := d.sec.imageError d.lifecycle b
      let d := (d.bootErr b eb).setFlag R.SEC_BOOT_FALLBACK [] true
      if eb = 0 then (d.sealBoot (d.sec.fwHash b)).imageCopy b else d.bootStop
  | _ => d.bootStop

/-- The load after a device fault: the running slot's image, unchanged (R442). -/
def Device.bootAgain (d : Device) : Device :=
  let s := d.get R.SEC_BOOT_SLOT []
  if d.sec.imageError d.lifecycle s = 0 ∧ d.sec.fwHash s = d.digestOf R.SEC_FWHASH then d.imageCopy s else d.bootStop

/-- BOOT_IMAGE_LOAD: after a full reset once SRAM and HBM are wiped, the identity key derived where there is one, and the
board's table committed; after a device fault at once (R440, R442, R453, R472). -/
def Device.bootLoad (d : Device) : Device :=
  let st := d.get R.RM_STATUS_STAGE []
  if d.sec.inReset then d
  else if st = 2 then d.bootAgain
  else if st = 0 ∧ d.sec.sramWiped ∧ d.sec.hbmWiped ∧ d.ctl.bootPath ∧ !d.txActive 15
      ∧ (!lcHasKey d.lifecycle ∨ d.sec.idKey.isSome) then
    if d.lifecycle = lcSCRAPPED then d.bootStop else d.bootFirst
  else d

/-! ### The board configuration block (R443, R128) -/

/-- The body of a board block that verifies: a vendor key in every state, an owner key only in OWNED. -/
def SecX.boardBody (x : SecX) (lc : Nat) : Option (List Byte) :=
  let hd := Config.boardHeader
  let n := fieldAt (x.flashRead 0 hd) (hd - 4) 4
  let whole := x.flashRead 0 (min (hd + n + 200) 1048576)
  let blk := whole.drop (hd + n)
  let (cls, k) := signerSlot (fieldAt blk 97 1)
  let good := decide (10 ≤ hd ∧ hd + n + 200 ≤ 1048576 ∧ whole.take 4 = [0x4C, 0x4E, 0x42, 0x42] ∧ fieldAt whole 4 2 = 1
      ∧ (cls = 0 ∨ lc = lcOWNED) ∧ sha384 (blk.take 97) = x.hash cls k)
    && x.live cls k && ecdsaVerify (blk.take 97) (whole.take (hd + n)) ((blk.drop 104).take 96)
  if good then some ((whole.drop hd).take n) else none

/-- The table image becomes entries of TX15: every stageable register of table bytes 0x0100 to 0x0B0F. -/
def imageEntries (im : List Byte) : List MaskedWrite :=
  (List.range 322).filterMap (fun i =>
    let a := 0x0F700100 + 8 * i
    match findReg a with
    | some (row, _) =>
      let m := row.maskOf (fun f => decide (f.stg ≠ .none))
      if m = 0 then none else some { addr := a, mask := m, value := BitVec.ofNat 64 (fieldAt im (8 * i) 8) &&& m }
    | none => none)

/-- BOOT_NET_LOAD: the boot ROM stages the board's table into TX15 and commits it (R128). -/
def Device.bootNet (d : Device) (im : List Byte) : Device :=
  let d := d.txOpen 15
  let d := (imageEntries im).foldl (fun (d : Device) w => (d.stageInto 15 w false).2) d
  d.txCommit 15 1

/-- The sections of a verified board block (R443, R322, R129). -/
def Device.boardApply (d : Device) (body : List Byte) : Device :=
  let sect := Config.boardSection body
  let d := d.put R.SEC_SDN_SDN [] (fieldAt ((sect 2).getD []) 0 2)
  let d := d.setSec { d.sec with hkeyHash := fit 48 ((sect 1).getD []), refclk25 := decide (fieldAt ((sect 4).getD []) 0 1 = 1)
                                 ids := match sect 3 with
                                   | some b => fieldAt b 0 4
                                   | none => 0x88321FA7 }
  let d := if decide (d.get R.TB_STAT_REF_SEL [] = 1) ≠ d.sec.refclk25 then d.setFlag R.TB_STAT_CFG_BAD [] true else d
  match sect 0 with
  | some im => d.bootNet im
  | none => d

/-- SRAM_WIPE_DONE: the wipe has ended, and the boot ROM starts: in SCRAPPED it stops, else it reads the board block. -/
def Device.sramWipeDone (d : Device) : Device :=
  if d.sec.inReset ∨ !d.sec.sensed ∨ d.sec.sramWiped then d
  else
    let d := d.setSec { d.sec with sramWiped := true }
    let d := (List.range 15).foldl (fun d b => d.setFlag R.BOOTH_STATE_WIPE_BUSY [b] false) d
    if d.lifecycle = lcSCRAPPED then d.bootStop
    else
      let d := match d.sec.boardBody d.lifecycle with
        | some body => d.boardApply body
        | none => if (d.sec.flashRead 0 4).all (fun b => decide (b = 255)) then d else d.setFlag R.SEC_STAT_BB_BAD [] true
      let key := d.hasHostKey
      (d.setFlag R.NET_PORT_STAT_UNLOCKED [] (!key)).setFlag R.NET_PORT_STAT_KEY_SET [] key

/-! ### SEC_SDN -/

/-- A write of SEC_SDN: taken only in STARTUP (R457). -/
def Device.sdnWrite (d : Device) (v : Nat) : Device := if d.mode = 0 then d.put R.SEC_SDN_SDN [] v else d

end Sys2Proof.Machine
end

