-- ==== Sys2Proof/Machine/Power.lean ====
section
/-! DEFINITION. Resets and start-up (R468 to R475), the operating mode, the pace loop (R476 to R478) and the health monitor
(R479 to R482). -/

namespace Sys2Proof.Machine

/-! ### What every full reset leaves (R34, R470, R471) -/

/-- The kind of each booth (R33). -/
def boothKind (b : Nat) : Nat := if b < 8 then 0 else b - 7

/-- The booths and the home a sequencer is attached to after every reset (R34). -/
def resetAttach (n : Nat) : Nat × Nat :=
  if n < 8 then (2 ^ n, n)
  else match n with
    | 8 => (2 ^ 8, 8)
    | 9 => (2 ^ 11, 11)
    | 10 => (2 ^ 12, 12)
    | 11 => (2 ^ 13, 13)
    | 12 => (2 ^ 9, 9)
    | 13 => (2 ^ 10, 10)
    | 14 => (2 ^ 14, 14)
    | _ => (0, 0)

/-- BOOTH_ID, CAL_ATTACH and BOOTH_SEQ after a reset; a fused booth's header reads 0 (R33, R34). -/
def Device.resetHeaders (d : Device) : Device :=
  let d := (List.range 15).foldl (fun (d : Device) b =>
    if d.boothPresent b then
      ((d.put R.BOOTH_ID_NUM [b] b).put R.BOOTH_ID_KIND [b] (boothKind b)).put R.BOOTH_ID_PRESENT [b] 1 else d) d
  let d := (List.range 16).foldl (fun (d : Device) n =>
    (d.put R.CAL_ATTACH_BOOTHS [n] (resetAttach n).1).put R.CAL_ATTACH_HOME [n] (resetAttach n).2) d
  d.showAttach

/-- The floor an interrupted programming leaves: the old one, the new one, or one between (R446). -/
def SecX.brokenFloor (x : SecX) (busy : Bool) (draw : Nat) : Nat :=
  if busy ∧ x.floor < x.svnTarget then
    x.floor + ((Config.openByte draw 0).toNat + 256 * (Config.openByte draw 1).toNat) % (x.svnTarget - x.floor + 1)
  else x.floor

/-- What OTP and the external flash keep over a full reset; a life-cycle change that waits goes on, except over the loss of
power (R452). -/
def Device.keptSec (d : Device) (powerOn : Bool) : SecX :=
  let x := d.sec
  let n := d.ctl.draws
  { vHash := x.vHash, oHash := x.oHash, vRev := x.vRev, oRev := x.oRev, seed := x.seed
    floor := x.brokenFloor (d.flag R.SEC_SVN_REQ_BUSY []) n
    lcLog := x.lcLog, scrap := x.scrap, dieId := x.dieId
    flash := x.jobs.foldl (fun (f : Sparse Byte) (j : FlashJob) => j.broken (n + 1) f) x.flash
    change := if powerOn then none else x.change
    ids := 0x88321FA7, inReset := true }

/-- A full reset is entered (R470, R471): outputs go safe and the wipe starts; the host's memory, OTP, the flash and the
fuses' variant stay, HM_RSTCAUSE records the cause, and PW_AVS_CFG and THERMTRIP are lost only with the power. -/
def Device.fullReset (d : Device) (cause : Nat) (powerOn : Bool) : Device :=
  let avs := d.rd R.PW_AVS_CFG []
  let vout := if d.flag R.PW_AVS_CFG_VALID [] then d.voutOf 850 else d.pow.vout
  let count := if powerOn then 0 else d.get R.HM_RSTCAUSE_COUNT [] + 1
  let f : Device := { hostMem := d.hostMem, sec := d.keptSec powerOn, ctl := { draws := d.ctl.draws + 2 } }
  let f := (f.wr R.ID_DEVICE [] (d.rd R.ID_DEVICE [])).wr R.ID_PRESENT [] (d.rd R.ID_PRESENT [])
  let f := (f.put R.HM_RSTCAUSE_CAUSE [] cause).put R.HM_RSTCAUSE_COUNT [] count
  let f := if powerOn then f
    else
      let f := (f.wr R.PW_AVS_CFG [] avs).put R.HM_STAT_THERMTRIP [] (d.get R.HM_STAT_THERMTRIP [])
      { f with pow := { f.pow with vout := vout } }
  f.resetHeaders

/-- POWER_ON_RESET: any rail out of band (R468). -/
def Device.powerOnReset (d : Device) : Device := d.fullReset 0 true

/-- BROWN_OUT: a power-on reset with its own cause (R468). -/
def Device.brownOut (d : Device) : Device := d.fullReset 1 true

/-- PERST_ASSERT. -/
def Device.perstReset (d : Device) : Device := d.fullReset 2 false

/-- LINK_RESET: FLR, a hot reset, DL_Down, or D3hot to D0, on a link that is up (R426, R430). -/
def Device.linkReset (d : Device) : Device := if d.hst.linkUp then d.fullReset 3 false else d

/-- LIFECYCLE_RESET: no earlier than 1 ms after the change was accepted (R452). -/
def Device.lifecycleReset (d : Device) : Device :=
  match d.sec.change with
  | some c => if !d.sec.inReset ∧ (1000000 * 65536 : Int) ≤ ttDiff d.tt c.since then d.fullReset 4 false else d
  | none => d

/-! ### Start-up (R472) -/

/-- The boot nonce is drawn, and the configuration digest starts from it (R455, R456). -/
def Device.drawNonce (d : Device) : Device :=
  let r := d.secret 32
  let d := r.2.setSec { r.2.sec with bootNonce := r.1 }
  let d := (List.range 4).foldl (fun (d : Device) k => d.wr R.MB_NONCE [k] (BitVec.ofNat 64 (fieldAt r.1 (8 * k) 8))) d
  d.wrDigest R.SEC_CFG (sha384 r.1)

/-- RESET_RELEASE: the fuses of a waiting change are programmed and the reset released; OTP is sensed, owner slots are
revoked outside OWNED, the nonce is drawn, JTAG stands as the state gives, and the booths' SRAM is being wiped (R445, R452,
R460, R464, R472). -/
def Device.resetRelease (d : Device) : Device :=
  if !d.sec.inReset then d
  else
    let x := match d.sec.change with
      | some c => d.sec.program c
      | none => d.sec
    let x := if x.lcState = lcOWNED then x else x.revokeOwners
    let d := (d.setSec { x with inReset := false, sensed := true }).showOtp
    let d := d.drawNonce
    let d := if x.lcState ≤ lcPROVISIONED then
        (d.setFlag R.SEC_STAT_DEBUG_OPEN [] true).put R.SEC_STAT_DEBUG_LEVEL [] 2 else d
    (List.range 15).foldl (fun (d : Device) b => if d.boothPresent b then d.setFlag R.BOOTH_STATE_WIPE_BUSY [b] true else d) d

/-- TB_PLL_LOCK: the reference has been measured, the PLL has locked, and TT counts from the next tick (R322, R338). -/
def Device.pllLock (d : Device) (ref25 : Bool) : Device :=
  if d.sec.inReset ∨ d.flag R.TB_STAT_PLL_LOCK [] ∨ d.clockRuns then d
  else
    let d := (d.setFlag R.TB_STAT_PLL_LOCK [] true).setFlag R.TB_STAT_REF_SEL [] ref25
    d.setTime { d.tim.time with running := true }

/-- TB_LOCK_TIMEOUT: TT starts from the internal oscillator, with REF_LOST (R474). -/
def Device.lockTimeout (d : Device) : Device :=
  if d.sec.inReset ∨ d.clockRuns then d else (d.setTime { d.tim.time with running := true }).refLost

/-- REFCLK_RELOCK: the PLL locks to the reference again (R336, R474). -/
def Device.refclkRelock (d : Device) : Device :=
  if d.sec.inReset ∨ !d.flag R.TB_STAT_REF_LOST [] then d else (d.setFlag R.TB_STAT_PLL_LOCK [] true).refRelock

/-- HBM_PHY_TRAINED: both stacks are trained, and the HBM wipe starts (R436, R472). -/
def Device.hbmTrained (d : Device) : Device :=
  if d.sec.inReset ∨ d.sec.phyTrained then d
  else
    let d := d.setSec { d.sec with phyTrained := true }
    (List.range 2).foldl (fun (d : Device) s => (d.setFlag R.HBM_STAT_TRAINED [s] true).put R.HBM_STAT_CHAN_OK [s] 0xFFFF) d

/-- HBM_WIPE_DONE: all 24 GiB hold zeros with valid check bits (R436). -/
def Device.hbmWipeDone (d : Device) (us : Nat) : Device :=
  if d.sec.inReset ∨ !d.sec.phyTrained ∨ d.sec.hbmWiped then d
  else
    let d := { d with hbm := [], hst := { d.hst with badWords := [] }, sec := { d.sec with hbmWiped := true } }
    (d.setFlag R.WIPE_STAT_BUSY [] false).put R.WIPE_STAT_LAST_US [] us

/-- CONFIG_READY: DL_Up, and configuration requests are answered (R414, R429); on a link that is up already it is a
retraining (DESIGN CHOICE, log entry 54). -/
def Device.configReady (d : Device) (speed width : Nat) (flit : Bool) : Device :=
  if d.sec.inReset then d
  else
    let d := if d.hst.linkUp then d.bump R.HOST_LINK_RETRAINS [] else d
    let d := { d with hst := { d.hst with linkUp := true, configReady := true } }
    ((d.put R.HOST_LINK_SPEED [] speed).put R.HOST_LINK_WIDTH [] width).setFlag R.HOST_LINK_FLIT [] flit

/-! ### The watchdog's count (R48) -/

/-- Nanoseconds in TIMEOUT. -/
def Device.wdtSpan (d : Device) : Nat := d.get R.RM_WDT_CTL_TIMEOUT [] * 1000000

/-- The count and REMAIN, the whole ms left before expiry. -/
def Device.wdtCount (d : Device) (ns : Nat) : Device :=
  (d.setCtl { d.ctl with wdtNs := ns }).put R.RM_WDT_STAT_REMAIN [] ((d.wdtSpan - ns) / 1000000)

/-- One nanosecond of the OTP and security clock passes: nothing stops the watchdog. -/
def Device.wdtTick (d : Device) : Device := d.wdtCount (d.ctl.wdtNs + 1)

/-- The watchdog's count starts anew, and EARLY clears (R48). -/
def Device.wdtRestart (d : Device) : Device :=
  ((d.setCtl { d.ctl with wdtHalf := false }).wdtCount 0).setFlag R.RM_WDT_STAT_EARLY [] false

/-! ### The operating mode (R475) -/

/-- A write of HM_MODE: STARTUP is not entered again, DEV_STATUS shows the mode, and VREQ follows it (R475, R476, R483). -/
def Device.modeWrite (d : Device) (m : Nat) : Device :=
  if m % 4 = 0 ∧ d.mode ≠ 0 then d.setFlag R.HM_STAT_CFG_BAD [] true
  else ((d.put R.HM_MODE_MODE [] m).put R.DEV_STATUS_MODE [] m).narrowCore

/-- The works lost to a fault are answered, in order: DISCARDED (R65); what a response queue does not take yet waits (R63). -/
def Device.serveDead (d : Device) : Device :=
  if d.fwRuns then (d.ctl.works.filter (fun w => w.dead)).foldl (fun (d : Device) w => d.finishWork w stDISCARDED []) d else d

/-- HM_READY_SET: firmware is up (R472, R473): READY rises, mailboxes are held no longer, the watchdog has firmware 3.x's
timeout and is kicked, BK_ACT_ADV is 2 ms (R361), the Carousel appends again (R320), the pace loop may go on (R137), RECOVERY
follows a device fault, and lost commands are answered (R65). -/
def Device.readySet (d : Device) : Device :=
  if d.sec.inReset ∨ d.get R.RM_STATUS_STAGE [] ≠ 1 ∨ d.ready then d
  else
    let d := (d.setFlag R.HM_READY_SET [] true).setFlag R.DEV_STATUS_READY [] true
    let d := d.setFlag R.DEV_STATUS_HALTED [] false
    let d := (List.range 8).foldl (fun (d : Device) n => d.setFlag R.BMB_CTL_HELD [n] false) d
    let d := if d.flag R.RM_WDT_CTL_LOCK [] then d else (d.put R.RM_WDT_CTL_TIMEOUT [] 50).setFlag R.RM_WDT_CTL_LOCK [] true
    let d := d.wdtRestart.resumeStalled
    let d := if d.boothState 11 ≤ 1 then (d.put R.BK_ACT_ADV_NS [] 2000000).wake 11 else d
    let d := { d with pow := { d.pow with holdMax := false } }
    let d := if d.faultInForce then d.modeWrite 3 else d
    d.serveDead

/-! ### Warnings (R480) -/

/-- The warning bits of HM_EVT, in order. -/
def warnFld : Nat → Fld
  | 0 => R.HM_EVT_TEMP_WARN
  | 1 => R.HM_EVT_HBM_WARN
  | 2 => R.HM_EVT_RAIL_WARN
  | 3 => R.HM_EVT_ECC_WARN
  | 4 => R.HM_EVT_PACE_CEILING
  | _ => R.HM_EVT_AVS_FAIL

/-- Warning `k` is raised. -/
def Device.warn (d : Device) (k : Nat) : Device :=
  let d := (d.setFlag (warnFld k) [] true).setFlag R.RM_IRQ_PEND_HEALTH [] true
  let d := { d with pow := { d.pow with totWarn := d.pow.totWarn.put 0 k (d.pow.totWarn.get 0 k + 1) } }
  d.fireIf R.HM_EV_CTL_EN R.HM_EV_CTL_EV []

/-! ### Pace (R30, R33, R476 to R478) -/

/-- THROTTLE of a port booth: short of pace, or in thermal throttle; one throttle that ends with both causes (R30, R481,
R483). -/
def Device.showThrottle (d : Device) (b : Nat) : Device :=
  if b < 8 then
    d.setFlag R.BOOTH_STATE_THROTTLE [b] (d.flag R.BOOTH_PACE_SHORT [b] || bit (d.get R.HM_STAT_THROTTLE []) b)
  else d

/-- A sensor's temperature, in 1/16 °C. -/
def Device.temp (d : Device) (k : Nat) : Int := sgn 16 (d.get R.HM_TEMP_TEMP [k])

/-- Thermal throttle of port booth `b`: it lasts until both sensors have cooled and SHORT is 0 (R481). -/
def Device.thermal (d : Device) (b : Nat) : Device :=
  let warn := sgn 16 (d.get R.HM_TLIM_T_WARN [])
  let hot := decide (warn ≤ d.temp (2 * b) ∨ warn ≤ d.temp (2 * b + 1))
  let cool := decide (d.temp (2 * b) < warn - 80 ∧ d.temp (2 * b + 1) < warn - 80) && !d.flag R.BOOTH_PACE_SHORT [b]
  let was := bit (d.get R.HM_STAT_THROTTLE []) b
  let on := d.flag R.HM_CTL_THROTTLE_EN [] && (hot || (was && !cool))
  let m := d.get R.HM_STAT_THROTTLE []
  let d := d.put R.HM_STAT_THROTTLE [] (if on then m ||| 2 ^ b else m &&& (255 - 2 ^ b))
  d.showThrottle b

/-- BOOTH_PACE_UPDATE: a booth's own measurement, none while it is being wiped (R33). -/
def Device.paceUpdate (d : Device) (b : Nat) (ratio : BitVec 16) : Device :=
  if !d.boothPresent b ∨ d.sec.inReset ∨ d.flag R.BOOTH_STATE_WIPE_BUSY [b] then d
  else
    let was := d.flag R.BOOTH_PACE_SHORT [b]
    let short := decide (ratio.toNat < 0x1000)
    let d := (d.put R.BOOTH_PACE_RATIO [b] ratio.toNat).setFlag R.BOOTH_PACE_SHORT [b] short
    let d := if short ∧ !was then
        let d := d.setFlag R.BOOTH_PACE_SHORT_SEEN [b] true
        { d with pow := { d.pow with shortSince := d.pow.shortSince.put none b (some d.tt), totShort := d.pow.totShort + 1 } }
      else if short then d
      else { d with pow := { d.pow with shortSince := d.pow.shortSince.put none b none } }
    let d := if short then { d with pow := { d.pow with shortSeen := d.pow.shortSeen ||| 2 ^ b } } else d
    if b < 8 then d.thermal b else d

/-- The AVS port sends one VOUT_COMMAND, tried at most three times, of which `naks` are not acknowledged (R477). -/
def Device.avsSend (d : Device) (vout naks : Nat) : Device :=
  let n := min naks 3
  let d := d.bumpBy R.PW_PACE_STAT_NAKS [] n
  let d := { d with pow := { d.pow with totNaks := d.pow.totNaks + n } }
  if n < 3 then { d with pow := { d.pow with vout := vout } } else (d.setFlag R.PW_PACE_STAT_AVS_FAIL [] true).warn 5

/-- The least RATIO over the present booths in RUN, and its booth (R476). -/
def Device.leastPace (d : Device) : Option (Nat × Nat) :=
  (List.range 15).foldl (fun m b =>
    if d.boothPresent b ∧ d.boothState b = 1 then
      let r := d.get R.BOOTH_PACE_RATIO [b]
      match m with
      | some (v, c) => if r < v then some (r, b) else some (v, c)
      | none => some (r, b)
    else m) none

/-- VREQ as one period of the loop moves it, before the clamp (R476). -/
def Device.paceStep (d : Device) : Int :=
  let v : Int := d.get R.PW_PACE_STAT_VREQ []
  let step : Int := d.get R.PW_PACE_CTL_STEP_MV []
  if d.pow.shortSeen ≠ 0 then v + d.get R.PW_PACE_CTL_JUMP_MV []
  else match d.leastPace with
    | none => v
    | some (m, _) =>
      if m < d.get R.PW_PACE_CTL_TARGET [] then v + step
      else if d.get R.PW_PACE_CTL_TARGET [] + d.get R.PW_PACE_HYST_HYST [] ≤ m then v - step
      else v

/-- PACE_PERIOD: the loop's period ends (R476, R477). -/
def Device.pacePeriod (d : Device) (naks : Nat) : Device :=
  if d.sec.inReset then d
  else if !d.paceActive then d.narrowCore
  else
    let v := (clampI (d.get R.NET_VCORE_VMIN []) (d.get R.NET_VCORE_VMAX []) d.paceStep).toNat
    let d := match d.leastPace with
      | some (m, b) => (d.put R.PW_PACE_STAT_MIN_RATIO [] m).put R.PW_PACE_STAT_MIN_BOOTH [] b
      | none => d
    let short := maskWhere 15 (fun b => d.flag R.BOOTH_PACE_SHORT [b])
    let d := { d with pow := { d.pow with shortSeen := short } }
    if v = d.get R.PW_PACE_STAT_VREQ [] then d
    else
      let d := d.put R.PW_PACE_STAT_VREQ [] v
      let d := { d with pow := { d.pow with vreqTT := d.tt } }
      if d.flag R.PW_AVS_CFG_VALID [] then d.avsSend (d.voutOf v) naks else d

/-- Since when a condition has held: kept while it holds, forgotten when it does not. -/
def track (k : Nat) (now : TT) (holds : Bool) (m : Sparse (Option TT)) : Sparse (Option TT) :=
  if holds then (if (m.get none k).isSome then m else m.put none k (some now)) else m.put none k none

/-- A condition has held for `ns`. -/
def heldFor (k : Nat) (now : TT) (ns : Nat) (m : Sparse (Option TT)) : Bool :=
  match m.get none k with
  | some t => decide ((ns * 65536 : Int) ≤ ttDiff now t)
  | none => false

/-- PACE_CEILING: a booth has been short for 10 ms with VREQ at VMAX (R478). -/
def Device.paceCeiling (d : Device) : Device :=
  let due := (List.range 15).filter (fun b => heldFor b d.tt 10000000 d.pow.shortSince)
  if due ≠ [] ∧ d.get R.PW_PACE_STAT_VREQ [] = d.get R.NET_VCORE_VMAX []
      ∧ (10000000 * 65536 : Int) ≤ ttDiff d.tt d.pow.vreqTT then
    let d := { d with pow := { d.pow with shortSince := due.foldl (fun (m : Sparse (Option TT)) b => m.put none b none) d.pow.shortSince } }
    d.warn 4
  else d

/-! ### Temperatures and rails (R479 to R482) -/

/-- A stack's temperature, in 1/16 °C. -/
def Device.stackTemp (d : Device) (s : Nat) : Int := sgn 8 (d.get R.HBM_STAT_TEMP [s]) * 16

/-- The hottest sensor, the lowest number among equals. -/
def Device.hottest (d : Device) : Nat := (List.range 32).foldl (fun b k => if d.temp b < d.temp k then k else b) 0

/-- Forget or keep a condition of the limits. -/
def Device.trackLimit (d : Device) (k : Nat) (holds : Bool) : Device :=
  { d with pow := { d.pow with limitSince := track k d.tt holds d.pow.limitSince } }

/-- HEALTH_SAMPLE: the 32 junction sensors in 1/16 °C and the two stacks in °C, as measured (R435, R479 to R482). -/
def Device.healthSample (d : Device) (temps : List (BitVec 16)) (hbmTemps : List (BitVec 8)) : Device :=
  if d.sec.inReset then d
  else
    let d := (List.range 32).foldl (fun (d : Device) k =>
      (d.put R.HM_TEMP_TEMP [k] (temps.getD k 0).toNat).setFlag R.HM_TEMP_VALID [k] true) d
    let d := (List.range 2).foldl (fun (d : Device) s =>
      let d := d.put R.HBM_STAT_TEMP [s] (hbmTemps.getD s 0).toNat
      d.setFlag R.HBM_STAT_REFRESH_2X [s] (decide (85 * 16 < d.stackTemp s))) d
    let h := d.hottest
    let peak := max (sgn 16 (d.get R.HM_TMAX_PEAK [])) (d.temp h)
    let d := ((d.put R.HM_TMAX_TEMP [] (code 16 (d.temp h))).put R.HM_TMAX_WHICH [] h).put R.HM_TMAX_PEAK [] (code 16 peak)
    let warn := sgn 16 (d.get R.HM_TLIM_T_WARN [])
    let hbmWarn := sgn 16 (d.get R.HM_TLIM_HBM_WARN [])
    let new := fun (k : Nat) (c : Bool) => c && (d.pow.limitSince.get none k).isNone
    let t := (List.range 32).any (fun k => new (96 + k) (decide (warn ≤ d.temp k)))
    let b := (List.range 2).any (fun s => new (160 + s) (decide (hbmWarn ≤ d.stackTemp s)))
    let limit := sgn 16 (d.get R.HM_TLIM_T_LIMIT [])
    let d := (List.range 32).foldl (fun (d : Device) k =>
      ((d.trackLimit (96 + k) (decide (warn ≤ d.temp k))).trackLimit k (decide (limit ≤ d.temp k))).trackLimit (64 + k)
        (decide (2000 ≤ d.temp k))) d
    let d := (List.range 2).foldl (fun (d : Device) s =>
      (d.trackLimit (160 + s) (decide (hbmWarn ≤ d.stackTemp s))).trackLimit (32 + s) (decide (1600 ≤ d.stackTemp s))) d
    let d := if t then d.warn 0 else d
    let d := if b then d.warn 1 else d
    let d := (List.range 8).foldl (fun (d : Device) p => if d.portPresent p then d.thermal p else d) d
    if d.get R.HM_STAT_THROTTLE [] ≠ 0 then { d with pow := { d.pow with totThrottleUs := d.pow.totThrottleUs + 100 } } else d

/-- Nominal voltage in mV and tolerance in 1/100 mV of rail `r`, in the order of R465; VDD_CORE follows VREQ. -/
def Device.railBand (d : Device) (r : Nat) : Nat × Nat :=
  match r with
  | 0 => (3300, 3300 * 5)
  | 1 => (1800, 1800 * 5)
  | 2 => (1800, 1800 * 5)
  | 3 => (d.get R.PW_PACE_STAT_VREQ [], 3000)
  | 4 => (800, 800 * 3)
  | 5 => (750, 750 * 3)
  | 6 => (750, 750 * 3)
  | 7 => (1100, 1100 * 3)
  | 8 => (1200, 1200 * 3)
  | 9 => (1200, 1200 * 3)
  | _ => (400, 400 * 3)

/-- The rail's band is tested now (R479). -/
def Device.railTested (d : Device) (r : Nat) : Bool :=
  decide (r ≠ 3) || decide ((200000 * 65536 : Int) ≤ ttDiff d.tt d.pow.vreqTT)

/-- How far a rail lies from its nominal value, in 1/100 mV. -/
def Device.railOff (d : Device) (r : Nat) : Nat := absDiff (d.get R.HM_VMON_MV [r] * 100) ((d.railBand r).1 * 100)

/-- RAIL_SAMPLE: the eleven rails in mV, as measured (R479, R480, R482). -/
def Device.railSample (d : Device) (mv : List (BitVec 16)) : Device :=
  if d.sec.inReset then d
  else
    let d := (List.range 11).foldl (fun (d : Device) r => d.put R.HM_VMON_MV [r] (mv.getD r 0).toNat) d
    let near := fun (r : Nat) => d.railTested r && decide (absDiff (d.railOff r) (d.railBand r).2 ≤ (d.railBand r).1)
    let out := fun (r : Nat) => d.railTested r && decide ((d.railBand r).2 < d.railOff r)
    let d := (List.range 11).foldl (fun (d : Device) r => d.trackLimit (40 + r) (out r)) d
    let since := (List.range 11).foldl (fun (m : Sparse (Option TT)) r => track r d.tt (near r) m) d.pow.railSince
    let due := (List.range 11).filter (fun r => heldFor r d.tt 1000000 since)
    let raise := due.any (fun r => (since.get none (16 + r)).isNone)
    let since := (List.range 11).foldl (fun (m : Sparse (Option TT)) r => track (16 + r) d.tt (due.contains r) m) since
    let d := { d with pow := { d.pow with railSince := since } }
    if raise then d.warn 2 else d

/-- The limits of R482 that have been passed for their time: their keys. -/
def Device.limitsDue (d : Device) : List Nat :=
  (List.range 34).filter (fun k => heldFor k d.tt 1000000 d.pow.limitSince)
    ++ ((List.range 11).map (40 + ·) ++ (List.range 32).map (64 + ·)).filter (fun k => heldFor k d.tt 100000 d.pow.limitSince)

/-- HEALTH_LIMIT_EXPIRE: a device fault HEALTH; a sensor at 125 °C asserts THERMTRIP_N as well (R482). -/
def Device.limitExpire (d : Device) : Device :=
  let due := d.limitsDue
  if due = [] then d
  else
    let trip := due.any (fun k => decide (64 ≤ k))
    let d := { d with pow := { d.pow with limitSince := due.foldl (fun (m : Sparse (Option TT)) k => m.put none k none) d.pow.limitSince } }
    let d := if trip then d.setFlag R.HM_STAT_THERMTRIP [] true else d
    d.deviceFault 5 false

/-- A corrected HBM word counts toward ECC_WARN (R480). -/
def Device.eccWarn (d : Device) : Device :=
  let recent := d.pow.corrTimes.filter (fun t => decide (ttDiff d.tt t ≤ 1000000000 * 65536))
  let d := { d with pow := { d.pow with corrTimes := d.tt :: recent } }
  if recent.length = d.get R.HM_CTL_ECC_WARN [] then d.warn 3 else d

/-- HM_TLIM as written: T_LIMIT between 90 and 115 °C. -/
def tlimWord (v : Word) : Word :=
  R.HM_TLIM_T_LIMIT.into v (code 16 (clampI 1440 1840 (sgn 16 (R.HM_TLIM_T_LIMIT.of v))))

end Sys2Proof.Machine
end

