-- ==== Sys2Proof/Machine/System.lean ====
section
/-! DEFINITION. The Ringmaster's watchdog and ECC (R45 to R49), the bootstrap mailboxes (R51, R52), the fault logger's way to
Q0 (R140), and the system commands of firmware 3.x, group 0x00, with recovery (R142). -/

namespace Sys2Proof.Machine

/-! ### ECC and the watchdog (R45, R48, R49) -/

/-- RINGMASTER_ECC_ERROR: a corrected error is counted, an uncorrectable one is a device fault CTRL_UECC (R45). -/
def Device.rmEcc (d : Device) (uncorr : Bool) : Device := if uncorr then d.deviceFault 3 false else d.bump R.RM_ECC_CORR []

/-- A write of RM_WDT_CTL: TIMEOUT unless LOCK is 1, clamped to 1 to 10,000 ms; LOCK is set and stays. -/
def Device.wdtWrite (d : Device) (timeout : Nat) (lock : Bool) : Device :=
  let d := if d.flag R.RM_WDT_CTL_LOCK [] then d else d.put R.RM_WDT_CTL_TIMEOUT [] (clamp 1 10000 (timeout % 2 ^ 14))
  if lock then d.setFlag R.RM_WDT_CTL_LOCK [] true else d

/-- A write of RM_WDT_KICK: 0x5A, then 0xA5 as the next write, is a kick; anything else is a bad kick (R48). A kick at the end of
the count does not count (R49). -/
def Device.wdtKick (d : Device) (key : Nat) : Device :=
  let half := d.ctl.kickHalf
  let d := d.setCtl { d.ctl with kickHalf := decide (key % 256 = 0x5A) }
  if key % 256 = 0x5A then d
  else if key % 256 = 0xA5 ∧ half then
    (if 11 * d.wdtSpan ≤ 10 * d.ctl.wdtNs then d else d.wdtRestart)
  else d.bump R.RM_WDT_STAT_BAD_KICK []

/-- WATCHDOG_EARLY: half the timeout, within its 10 %, has elapsed since the last kick (R48, R49). -/
def Device.wdtEarly (d : Device) : Device :=
  if d.sec.inReset ∨ d.ctl.wdtHalf ∨ 20 * d.ctl.wdtNs < 9 * d.wdtSpan then d
  else
    let d := d.setCtl { d.ctl with wdtHalf := true }
    (d.setFlag R.RM_WDT_STAT_EARLY [] true).setFlag R.RM_IRQ_PEND_WDT_EARLY [] true

/-- WATCHDOG_EXPIRY: the count has reached TIMEOUT, which is nominal within 10 %: a device fault WATCHDOG (R49). -/
def Device.wdtExpire (d : Device) : Device :=
  if d.sec.inReset ∨ 10 * d.ctl.wdtNs < 9 * d.wdtSpan then d else d.deviceFault 2 false

/-! ### Bootstrap mailboxes (R51, R52) -/

/-- The host reaches its BARs: configuration-ready, Memory Space Enable, and not in D3hot (R419, R426). -/
def Device.hostReach (d : Device) : Bool := d.hst.linkUp && d.hst.configReady && d.hst.memSpace && !d.hst.d3hot

/-- A write of BMB_CTLn (R51, R52). -/
def Device.bmbWrite (d : Device) (n : Nat) (ring done : Bool) : Device :=
  if d.flag R.BMB_CTL_RING [n] then d
  else if !done ∧ d.flag R.BMB_CTL_DONE [n] then d
  else
    let d := if done then d.setFlag R.BMB_CTL_DONE [n] false else d
    if ring then
      let d := (d.setFlag R.BMB_CTL_RING [n] true).setFlag R.BMB_CTL_HELD [n] (!d.ready)
      let d := d.put R.RM_BMB_PEND_PEND [] (d.get R.RM_BMB_PEND_PEND [] ||| 2 ^ n)
      d.setFlag R.RM_IRQ_PEND_BMB [] true
    else d

/-- BMB_RING: the host rings, clearing DONE in the same access where it says so. -/
def Device.bmbRing (d : Device) (n : Nat) (done : Bool) : Device := if d.hostReach then d.bmbWrite n true done else d

/-- BMB_DONE_CLEAR. -/
def Device.bmbClear (d : Device) (n : Nat) : Device := if d.hostReach then d.bmbWrite n false true else d

/-- BMB_COMPLETE: firmware writes bit n of RM_BMB_DONE (R51). -/
def Device.bmbComplete (d : Device) (n : Nat) : Device := if d.flag R.BMB_CTL_RING [n] then d.bmbUpdate n else d

/-- A write of bytes into BMB_SLOTn, ignored while RING is 1 (R52); the Ringmaster's own stores are not. -/
def Device.slotWrite (d : Device) (n off : Nat) (bs : List Byte) (host : Bool) : Device :=
  if host ∧ d.flag R.BMB_CTL_RING [n] then d else d.setSlot n (patch (d.slot n) off bs)

/-! ### Q0 (R140, R141) -/

/-- Part `i` of a record, 128 bytes. -/
def LogRec.part (r : LogRec) (i parts : Nat) : List Byte :=
  let fault := r.kind = 2 ∨ r.kind = 3
  let pairs := if fault then (r.body.drop (24 * i)).take 24 else []
  let head := layout [(1, r.kind), (1, r.reason), (1, r.booth), (1, r.index), (4, r.recno), (8, r.tt.toNat), (4, r.epoch), (2, r.sdn),
    (2, pairs.length / 2), (1, i), (1, b2n (decide (i + 1 < parts)) + 2 * b2n r.motionCut), (2, r.dropcnt), (2, r.repeats), (2, 0)]
  let tail := if fault then pairs.flatMap (leBytes 4)
    else if r.kind = 1 then layout [(8, r.body.getD 0 0), (8, r.body.getD 1 0), (2, r.body.getD 2 0)]
    else (r.body.take 4).flatMap (leBytes 8)
  fit 128 (head ++ tail)

/-- The parts of a record: at most twelve pairs in each. -/
def LogRec.parts (r : LogRec) : List (List Byte) :=
  let n := if r.kind = 2 ∨ r.kind = 3 then max 1 (ceilDiv r.body.length 24) else 1
  (List.range n).map (fun i => r.part i n)

/-- FAULT_LOG_DRAIN: the oldest record leaves the log for Q0, all its parts, once Q0 is open and has room for them (R140). -/
def Device.logDrain (d : Device) : Device :=
  match d.ctl.logger.log with
  | [] => d
  | r :: rest =>
    if (d.ctx 0).kind ≠ 6 ∨ (d.ctx 0).error ∨ d.roomLeft 0 < r.parts.length then d
    else
      let d := d.setLogger { d.ctl.logger with log := rest }
      let d := r.parts.foldl (fun (d : Device) b => (d.append 0 6 b).2) d
      let waiting := (d.hst.stalled.filter (fun s => decide (s.1 = 0))).length
      let kept := d.ctl.logger.inQ0.filter (fun e => !seq32Ge (d.ctx 0).cons e.2)
      d.setLogger { d.ctl.logger with inQ0 := kept ++ [(r, (d.ctx 0).prod + BitVec.ofNat 32 waiting)] }

/-- A fault record of a scope has not been consumed: it waits in the log, or Q0's CONS has not passed it. -/
def Device.unconsumed (d : Device) (kind booth index : Nat) : Bool :=
  let is := fun (r : LogRec) => decide (r.kind = kind ∧ r.booth = booth ∧ r.index = index)
  d.ctl.logger.log.any is || d.ctl.logger.inQ0.any (fun e => is e.1 && !seq32Ge (d.ctx 0).cons e.2)

/-! ### NOP, IDENTIFY, SET_SDN -/

def nopSpec : CmdSpec := { opcode := 0x0000, maxLen := 32 }

/-- NOP. -/
def Device.nopCmd (e : Entry) (d : Device) : Reply := d.ok (e.body.take (min e.length.toNat 32))

def identifySpec : CmdSpec := { opcode := 0x0001, maxLen := 0 }

/-- IDENTIFY. -/
def Device.identify (d : Device) : Reply :=
  let boxes := ((List.range 256).filter (fun k => (d.mbox k).isOpen)).length
  d.ok (layout [(2, d.get R.ID_DEVICE_PART []), (1, d.get R.ID_DEVICE_STEP []), (1, d.lifecycle), (4, (d.rd R.ID_PRESENT []).toNat),
      (4, d.sec.fwVersion), (1, d.get R.RM_STATUS_OWNER_FW []), (1, d.mode), (2, d.sdn), (2, boxes), (2, d.get R.RM_WDT_CTL_TIMEOUT [])]
    ++ leBytes 8 (d.rd R.SEC_FWHASH [0]).toNat ++ zeros 4)

def setSdnSpec : CmdSpec := { opcode := 0x0002, minLen := 2, maxLen := 2, modes := [0], principal := true }

/-- SET_SDN. -/
def Device.setSdn (e : Entry) (d : Device) : Reply := (d.sdnWrite (e.u 12 2)).ok []

/-! ### Memory (R432) -/

/-- The general region of HBM (R432). -/
def genBase : Nat := 0x24000000

/-- The lowest aligned place at or after `a` where `size` bytes are free: allocations are kept in rising order. -/
def firstFit (size align : Nat) : Nat → List Alloc → Option Nat
  | a, [] => let b := roundUp a align
    if b + size ≤ hbmSize then some b else none
  | a, x :: xs =>
    let b := roundUp a align
    if b + size ≤ x.off then some b else firstFit size align (max a (x.off + x.size)) xs

/-- Insert an allocation in rising order. -/
def insertAlloc (x : Alloc) : List Alloc → List Alloc
  | [] => [x]
  | y :: ys => if x.off < y.off then x :: y :: ys else y :: insertAlloc x ys

/-- MEM_ALLOC's payload. -/
def allocPayload (x : Alloc) : List Byte := layout [(4, x.handle), (4, 0), (8, rmBase + x.off), (8, x.size)]

def memAllocSpec : CmdSpec := { opcode := 0x0003, minLen := 11, maxLen := 12, modes := [0, 1, 2], mayAccept := true }

/-- MEM_ALLOC: first-fit from the bottom of the general region (R432). -/
def Device.memAlloc (e : Entry) (d : Device) : Reply :=
  let size := roundUp (e.u 12 8) 65536
  let al := e.u 20 1
  if e.u 12 8 = 0 ∨ al < 16 ∨ 30 < al ∨ 3 < e.u 21 1 ∨ 1 < e.u 22 1 ∨ e.u 23 41 ≠ 0 then d.no stBAD_FIELD
  else
    match firstFit size (2 ^ al) genBase d.ctl.allocs with
    | none => d.no stNO_SPACE
    | some off =>
      let x : Alloc := { handle := d.ctl.nextHandle, off := off, size := size, kind := e.u 21 1 }
      let next := if x.handle = 2 ^ 32 - 1 then 1 else x.handle + 1
      let d := d.setCtl { d.ctl with allocs := insertAlloc x d.ctl.allocs, nextHandle := next }
      let d := d.own e.via (.alloc x.handle)
      if e.u 22 1 = 1 then { d.accepted [x.handle] 99 with payload := allocPayload x } else d.ok (allocPayload x)

/-- The allocation with this handle. -/
def Device.alloc (d : Device) (h : Nat) : Option Alloc := d.ctl.allocs.find? (fun x => decide (x.handle = h))

/-- MEM_ALLOC_FILL_DONE: the fill with zeros has ended. -/
def Device.fillDone (d : Device) (h : Nat) : Device :=
  if !d.working 0x0003 [h] then d
  else
    match d.alloc h with
    | none => d
    | some x =>
      let d := { d with hbm := wipeRange d.hbm x.off x.size
                        hst := { d.hst with badWords := d.hst.badWords.filter (fun w => !overlaps (w * 8) 8 x.off x.size) } }
      d.finish 0x0003 [h] stOK (allocPayload x)

/-- The CS fields that hold an HBM address. -/
def hbmRegs : List (Reg × List (List Nat)) :=
  let two := fun (m n : Nat) => (List.range m).flatMap (fun i => (List.range n).map (fun j => [i, j]))
  [(R.CAP_SC_RING, two 8 64), (R.SW_CX_REF, two 8 8), (R.SW_CX_RES, two 8 8), (R.PAL_CH_SRC, two 8 4), (R.MB_RING, [[]])]

/-- An address register of a CS unit or a DMA set. -/
def holdsAddress (a : Nat) : Bool :=
  match findReg a with
  | some (row, _) => [R.CAP_SC_RING, R.SW_CX_REF, R.SW_CX_RES, R.PAL_CH_SRC, R.MB_RING, R.DMA_CH_SRC, R.DMA_CH_DST].contains row.reg
  | none => false

/-- Some part of a DMA channel's active or armed set lies in a range of HBM. -/
def Device.setTouches (d : Device) (e c off size : Nat) : Bool :=
  let ix := [e, c]
  let x := d.chan e c
  let hit := fun (space : Fld) (a n : Nat) => d.flag space ix && overlaps a n off size
  (d.chActive e c && (hit R.DMA_CH_A_OPT_SRC_SPACE x.fullSrc x.fullLen || hit R.DMA_CH_A_OPT_DST_SPACE x.fullDst x.fullLen))
    || (d.flag R.DMA_CH_CTL_ARM ix && (hit R.DMA_CH_OPT_SRC_SPACE (d.get R.DMA_CH_SRC_SRC ix) (d.get R.DMA_CH_LEN_LEN ix)
      || hit R.DMA_CH_OPT_DST_SPACE (d.get R.DMA_CH_DST_DST ix) (d.get R.DMA_CH_LEN_LEN ix)))

/-- Something still refers to an allocation (MEM_FREE). -/
def Device.referred (d : Device) (x : Alloc) : Bool :=
  let inside := fun (v : Nat) => decide (x.off ≤ v ∧ v < x.off + x.size)
  let entry := fun (w : MaskedWrite) => holdsAddress w.addr && inside w.value.toNat
  hbmRegs.any (fun r => r.2.any (fun ix => inside (d.rd r.1 ix).toNat))
    || d.ctl.pend.any (fun p => entry p.write)
    || (List.range 16).any (fun n => decide (1 ≤ d.txState n ∧ d.txState n ≤ 3) && (d.tx n).entries.any entry)
    || (List.range 32).any (fun e => (List.range 16).any (fun c => d.setTouches e c x.off x.size))
    || (List.range 8).any (fun p => (d.bth p).caps.any (fun k => k.2.frames.any (fun f =>
        inside f.cfg.base || f.cfg.sw.any (fun s => inside s.refBase || inside s.resBase)))
      || (d.bth p).pals.any (fun c => c.2.frames.any (fun f => f.cfg.any (fun w => holdsAddress w.1 && inside w.2.toNat))))
    || d.working 0x0003 [x.handle]

def memFreeSpec : CmdSpec := { opcode := 0x0004, minLen := 4, maxLen := 4 }

/-- MEM_FREE. -/
def Device.memFree (e : Entry) (d : Device) : Reply :=
  match d.alloc (e.u 12 4) with
  | none => d.no stBAD_FIELD
  | some x =>
    if e.u 16 48 ≠ 0 then d.no stBAD_FIELD
    else if !d.mayAct e.via (.alloc x.handle) then d.no stNOT_OWNER
    else if d.referred x then d.no stBUSY
    else ((d.setCtl { d.ctl with allocs := d.ctl.allocs.filter (fun y => decide (y ≠ x)) }).disown (.alloc x.handle)).ok []

/-- The free stretches of the general region, from `a` on. -/
def freeGaps : Nat → List Alloc → List Nat
  | a, [] => [hbmSize - a]
  | a, x :: xs => (x.off - a) :: freeGaps (x.off + x.size) xs

def memQuerySpec : CmdSpec := { opcode := 0x000A, maxLen := 0 }

/-- MEM_QUERY. -/
def Device.memQuery (d : Device) : Reply :=
  let g := freeGaps genBase d.ctl.allocs
  d.ok (layout [(8, g.foldl (· + ·) 0), (8, g.foldl max 0), (4, d.ctl.allocs.length), (4, d.hst.corrTotal), (4, d.hst.uncorrTotal),
    (1, d.get R.HBM_STAT_TEMP [0]), (1, d.get R.HBM_STAT_TEMP [1])])

def linkQuerySpec : CmdSpec := { opcode := 0x000B, maxLen := 0 }

/-- Firmware's sample of HOST_LINK's RC counter. -/
def Device.sampleLink (d : Device) : Device :=
  let d := { d with hst := { d.hst with retrainTotal := d.hst.retrainTotal + d.get R.HOST_LINK_RETRAINS [] } }
  d.put R.HOST_LINK_RETRAINS [] 0

/-- LINK_QUERY. -/
def Device.linkQuery (d : Device) : Reply :=
  let d := d.sampleLink
  d.ok (layout [(1, d.get R.HOST_LINK_SPEED []), (1, d.get R.HOST_LINK_WIDTH []), (2, d.get R.HOST_LINK_FLIT []), (2, d.hst.mps),
    (2, d.hst.mrrs), (4, d.hst.retrainTotal), (4, d.hst.aer.count .correctable),
    (4, d.hst.aer.length - d.hst.aer.count .correctable), (4, d.get R.HOST_AP_BASE_BASE [])])

/-! ### Mailboxes and queues (R55 to R57) -/

/-- A context as firmware 3.x opens a queue, with IRQ_ARMED set (R294). -/
def openCtx (kind esize log2 ring wb vector owner : Nat) : QCtx :=
  { ring := ring, wb := wb, vector := vector, log2 := log2, kind := kind, esize := esize, irqArmed := true, owner := owner }

/-- A vector number firmware takes. -/
def vectorFits (v : Nat) : Bool := decide (v ≤ 2047 ∨ v = 0xFFFF)

def openMailboxSpec : CmdSpec := { opcode := 0x0005, minLen := 22 }

/-- OPEN_MAILBOX: mailbox 1 only through a bootstrap mailbox (R57). -/
def Device.openMailbox (e : Entry) (d : Device) : Reply :=
  let k := e.u 12 2
  let log := e.u 14 1
  let cmd := e.u 16 8
  let rsp := e.u 24 8
  let len := 2 ^ log * 64
  let fromBoot : Bool := match e.via with
    | .boot _ => true
    | .queue _ => false
  if k = 0 ∨ 255 < k ∨ log < 4 ∨ 12 < log ∨ e.u 15 1 ≠ 0 ∨ cmd % 4096 ≠ 0 ∨ rsp % 4096 ≠ 0 ∨ !vectorFits (e.u 32 2) ∨ e.u 34 30 ≠ 0 then
    d.no stBAD_FIELD
  else if k = 1 ∧ !fromBoot then d.no stNOT_OWNER
  else if (d.mbox k).isOpen ∨ (d.ctx (2 * k)).kind ≠ 0 ∨ (d.ctx (2 * k + 1)).kind ≠ 0 then d.no stBUSY
  else if !d.queueWindow cmd len ∨ !d.queueWindow rsp len then d.no stNET_REFUSED
  else
    let own := e.via.owner
    let d := d.storeCtx (2 * k) (openCtx 1 1 log cmd 0 0xFFFF own)
    let d := d.storeCtx (2 * k + 1) (openCtx 2 1 log rsp 0 (e.u 32 2) own)
    let d := (d.setMbox k { isOpen := true, expected := none }).own e.via (.queue (2 * k))
    d.ok (layout [(4, 2 * k), (4, 2 * k + 1), (8, 128 * k)])

/-- A closed mailbox whose commands have all responded gives back its queues (R57, R63, CLOSE_MAILBOX). -/
def Device.releaseQueues (d : Device) : Device :=
  (List.range 256).foldl (fun (d : Device) k =>
    let q := 2 * k
    let busy := d.ctl.works.any (fun w => match w.via with
      | .queue j => decide (j.val = k)
      | .boot _ => false)
    if 1 ≤ k ∧ !(d.mbox k).isOpen ∧ (d.ctx q).kind = 1 ∧ !busy ∧ !d.owes k then
      ((d.setCtx q {}).setCtx (q + 1) {}).disown (.queue q)
    else d) d

def closeMailboxSpec : CmdSpec := { opcode := 0x0006, minLen := 2, maxLen := 2 }

/-- CLOSE_MAILBOX: K's resources pass to the principal. -/
def Device.closeMailbox (e : Entry) (d : Device) : Reply :=
  let k := e.u 12 2
  let own : Bool := match e.via with
    | .boot _ => false
    | .queue j => decide (j.val = k)
  if k = 0 ∨ 255 < k ∨ own ∨ !(d.mbox k).isOpen ∨ e.u 14 50 ≠ 0 then d.no stBAD_FIELD
  else if !d.mayAct e.via (.queue (2 * k)) then d.no stNOT_OWNER
  else
    let d := d.setMbox k { isOpen := false, expected := none }
    let pass := fun (o : Nat) => if k ≠ 1 ∧ o = k then 0 else o
    let d := d.setCtl { d.ctl with owners := d.ctl.owners.map (fun r => (r.1, pass r.2))
                                   reserved := d.ctl.reserved.map (fun r => (r.1, r.2.1, pass r.2.2))
                                   alone := d.ctl.alone.map (fun (j : AloneJob) => { j with owner := pass j.owner }) }
    d.ok []

/-- The ranges that are left of a reserved one when `[a, a+n)` is given back. -/
def cutRange (a n : Nat) (r : Nat × Nat × Nat) : List (Nat × Nat × Nat) :=
  let stop := r.1 + r.2.1
  let lo := if r.1 < a then [(r.1, min a stop - r.1, r.2.2)] else []
  let hi := if a + n < stop then [(max (a + n) r.1, stop - max (a + n) r.1, r.2.2)] else []
  if overlaps r.1 r.2.1 a n then lo ++ hi else [r]

/-- Who has reserved a queue. -/
def Device.reserverOf (d : Device) (q : Nat) : Option Nat :=
  (d.ctl.reserved.find? (fun r => decide (r.1 ≤ q ∧ q < r.1 + r.2.1))).map (·.2.2)

/-- The mailbox may act on a queue: a principal on any, another on those it has reserved and on its own pair (R57). -/
def Device.mayQueue (d : Device) (v : Via) (q : Nat) : Bool :=
  v.principal || decide (d.reserverOf q = some v.owner) || decide (2 ≤ q ∧ q < 512 ∧ q / 2 = v.owner)

/-- How much of `[a, a+n)` is reserved by mailbox `o`, or by anyone where `any`. -/
def reservedIn (rs : List (Nat × Nat × Nat)) (a n o : Nat) (any : Bool) : Nat :=
  (rs.map (fun r => if any || decide (r.2.2 = o) then min (r.1 + r.2.1) (a + n) - max r.1 a else 0)).foldl (· + ·) 0

def reserveQueuesSpec : CmdSpec := { opcode := 0x0007, minLen := 9, maxLen := 9 }

/-- RESERVE_QUEUES. -/
def Device.reserveQueues (e : Entry) (d : Device) : Reply :=
  let a := e.u 12 4
  let n := e.u 16 4
  let me := e.via.owner
  let rs := d.ctl.reserved
  if 1 < e.u 20 1 ∨ e.u 21 43 ≠ 0 ∨ n = 0 ∨ a < 1024 ∨ 1048576 < a + n then d.no stBAD_FIELD
  else if e.u 20 1 = 0 then
    if rs.any (fun r => overlaps r.1 r.2.1 a n && decide (r.2.2 ≠ me)) then d.no stBUSY
    else (d.setCtl { d.ctl with reserved := rs.flatMap (cutRange a n) ++ [(a, n, me)] }).ok []
  else if reservedIn rs a n me e.via.principal < n then d.no stNOT_OWNER
  else if d.dlv.ctxs.any (fun q => decide (a ≤ q.1 ∧ q.1 < a + n ∧ q.2.kind ≠ 0)) then d.no stBUSY
  else (d.setCtl { d.ctl with reserved := rs.flatMap (cutRange a n) }).ok []

def openSystemQueueSpec : CmdSpec := { opcode := 0x000C, minLen := 28, principal := true }

/-- OPEN_SYSTEM_QUEUE (R56). -/
def Device.openSystemQueue (e : Entry) (d : Device) : Reply :=
  let q := e.u 12 1
  let log := e.u 13 1
  let ring := e.u 16 8
  let wb := e.u 24 8
  let kind := if q = 0 then 6 else 5
  let esize := if q = 0 then 2 else 1
  if 1 < q ∨ log < 4 ∨ 24 < log ∨ !vectorFits (e.u 14 2) ∨ ring % 4096 ≠ 0 ∨ wb % 64 ≠ 0 ∨ e.u 37 1 ≠ 0 ∨ e.u 40 24 ≠ 0 then d.no stBAD_FIELD
  else if (d.ctx q).kind ≠ 0 then d.no stBUSY
  else if !d.netAdmits false true .queue ring (2 ^ log * esizeBytes esize) ∨ (wb ≠ 0 ∧ !d.netAdmits false true .queue wb 16) then
    d.no stNET_REFUSED
  else
    let c := openCtx kind esize log ring wb (e.u 14 2) 0
    let d := d.storeCtx q { c with wmark := e.u 32 4, coalN := e.u 36 1, coalUs := e.u 38 2 }
    d.ok (leBytes 8 (64 * q))

/-! ### SET_MODE (R475) -/

/-- The transitions firmware 3.x allows. -/
def modeAllowed (a b : Nat) : Bool :=
  (a == 0 && (b == 1 || b == 2 || b == 3)) || (a == 1 && (b == 2 || b == 3)) || (a == 2 && (b == 1 || b == 3)) || (a == 3 && b == 1)

def setModeSpec : CmdSpec := { opcode := 0x0008, minLen := 1, maxLen := 1, principal := true }

/-- SET_MODE: the pace loop is enabled on entering SERVICE or TEST where PACE_CONFIG has set EN. -/
def Device.setMode (e : Entry) (d : Device) : Reply :=
  let m := e.u 12 1
  if 3 < m ∨ e.u 13 51 ≠ 0 then d.no stBAD_FIELD
  else if !modeAllowed d.mode m then d.no stMODE
  else if d.mode = 3 ∧ (List.range 15).any (fun b => d.boothPresent b && d.boothDown b) then d.no stBUSY
  else if (List.range 16).any (fun n => decide (1 ≤ d.txState n ∧ d.txState n ≤ 3)) then d.no stBUSY
  else
    let d := if d.pow.configured ∧ (m = 1 ∨ m = 2) then d.setFlag R.PW_PACE_CTL_EN [] true else d
    (d.modeWrite m).ok []

/-! ### Recovery (R142) -/

/-- The registers of one unit slot of a booth return to reset. -/
def Device.resetSlot (d : Device) (booth slot : Nat) : Device :=
  let lo := (booth + 1) * 0x1000000 + slot * 0x100000
  { d with regs := d.regs.filter (fun r => !(decide (lo ≤ r.1 ∧ r.1 < lo + 0x100000))) }

/-- The port protocol unit at reset (R210); its port is no longer open. -/
def Device.portReset (d : Device) (p : Nat) : Device :=
  let d := if d.borrows p then d.setFlag R.BOOTH_STATE_BORROWED [p + 1] false else d
  ((d.resetSlot p 3).setPrt p {}).disown (.port p)

/-- The wipe engine starts on a booth: its pace is measured anew after it (R33). -/
def Device.beginWipe (d : Device) (b : Nat) : Device :=
  let d := { d with pow := { d.pow with shortSince := d.pow.shortSince.put none b none } }
  (((d.setFlag R.BOOTH_STATE_WIPE_BUSY [b] true).put R.BOOTH_PACE_RATIO [b] 0).setFlag R.BOOTH_PACE_SHORT [b] false).setFlag
    R.BOOTH_STATE_THROTTLE [b] false

/-- The booth is wiped and IDLE. -/
def Device.endWipe (d : Device) (b : Nat) : Device :=
  (d.setFlag R.BOOTH_STATE_WIPE_BUSY [b] false).put R.BOOTH_STATE_STATE [b] 0

/-- The booths that a RECOVER wipes: a port booth with the one it borrows, none for an engine, every booth at a device fault. -/
def Device.recoverScope (d : Device) (s i : Nat) : List Nat :=
  if s = 0 then (if d.borrows i then [i, i + 1] else [i])
  else if s = 1 then []
  else (List.range 15).filter (fun b => decide (d.boothState b = 3) || (decide (b = 12) && d.flag R.MSV_STAT_TAKEN []))

/-- One port booth wiped to IDLE: lanes and protocol unit at reset, slots free, Palette's EN clear (R171, R210, R241, R289). -/
def Device.recoverBooth (d : Device) (p : Nat) : Device :=
  let d := d.boothUnitsFault p
  let d := (d.laneReset (2 * p)).laneReset (2 * p + 1)
  let d := d.portReset p
  let d := (List.range 64).foldl (fun (d : Device) k => d.capRecover p k) d
  (d.palRecover p).endWipe p

/-- RECOVER of a port: both booths of a 4-lane port (R23). -/
def Device.recoverPort (d : Device) (p : Nat) : Device :=
  if d.borrows p then (d.recoverBooth (p + 1)).recoverBooth p else d.recoverBooth p

/-- The pins' hold ends: each output drives its inactive level under POL (R365). -/
def Device.pinsRecover (d : Device) : Device :=
  (List.range 16).foldl (fun (d : Device) i =>
    if (d.pin i).heldIdle then
      let level := d.flag R.TRG_CTL_POL [i]
      (d.setPin i { d.pin i with heldIdle := false, level := level }).setFlag R.TRG_STAT_LEVEL [i] level
    else d) d

/-- RECOVER of the device: every halted booth, the motion booth included, to IDLE (R242, R271, R320, R365, R385, R409). -/
def Device.recoverDevice (d : Device) : Device :=
  let d := (List.range 8).foldl (fun (d : Device) p => if d.portPresent p ∧ d.boothDown p then d.recoverBooth p else d) d
  let d := (List.range 32).foldl Device.engineRecover d
  let d := d.pinsRecover.motionRecover.mordantWipe
  (List.range 15).foldl (fun (d : Device) b => if d.boothState b = 3 then d.endWipe b else d) d

def recoverSpec : CmdSpec := { opcode := 0x0009, minLen := 2, maxLen := 2, modes := [3, 1, 2], mayAccept := true }

/-- RECOVER: BUSY while a fault record of the scope is not consumed. -/
def Device.recover (e : Entry) (d : Device) : Reply :=
  let s := e.u 12 1
  let i := e.u 13 1
  if 2 < s ∨ (s = 0 ∧ 7 < i) ∨ (s = 1 ∧ 31 < i) ∨ e.u 14 50 ≠ 0 ∨ (s = 0 ∧ d.lent i) then d.no stBAD_FIELD
  else if s = 0 ∧ !d.portPresent i then d.no stNOT_PRESENT
  else if (s = 0 ∧ !d.mayPort e.via i) ∨ (s ≠ 0 ∧ !e.via.principal) then d.no stNOT_OWNER
  else if (s = 0 ∧ d.unconsumed 2 i 0) ∨ (s = 1 ∧ d.unconsumed 2 8 i) ∨ (s = 2 ∧ d.unconsumed 3 14 0) then d.no stBUSY
  else
    let d := if s = 2 then d.mordantRecoverClose else d
    let d := (d.recoverScope s i).foldl Device.beginWipe d
    d.accepted [s, if s = 2 then 0 else i] 99

/-- RECOVER_DONE: the wipe of the scope has ended. The device's waits for the motion booth to halt (R42), and for every
pending manifest to be written (R271). -/
def Device.recoverDone (d : Device) (s i : Nat) : Device :=
  if !d.working 0x0009 [s, i] then d
  else if s = 0 then (d.recoverPort i).finish 0x0009 [0, i] stOK []
  else if s = 1 then (d.engineRecover i).finish 0x0009 [1, i] stOK []
  else
    let r := d.mordantFlush
    if !r.2 ∨ r.1.boothState 12 = 1 ∧ r.1.flag R.MSV_STAT_TAKEN [] then r.1
    else r.1.recoverDevice.finish 0x0009 [2, 0] stOK []

end Sys2Proof.Machine
end

