-- ==== Sys2Proof/Machine/CmdSecurity.lean ====
section
/-! DEFINITION. The commands of group 0x0E (chapter 17): security state, quotes, the certificate, signed requests, the
anti-rollback floor, image staging and activation, and debug access. -/

namespace Sys2Proof.Machine

def secQuerySpec : CmdSpec := { opcode := 0x0E00, maxLen := 0 }

/-- SEC_QUERY. -/
def Device.secQuery (e : Entry) (d : Device) : Reply :=
  if e.u 12 52 ≠ 0 then d.no stBAD_FIELD
  else
    let stat := (d.rd R.SEC_STAT []).toNat
    d.ok (layout [(1, d.lifecycle), (1, d.get R.SEC_STAT_LC_COUNT []), (1, bits stat 9 7), (1, d.get R.SEC_BOOT_SLOT []),
      (2, d.sec.floor), (2, d.get R.SEC_BOOT_IMAGE_SVN []), (2, (d.rd R.SEC_SLOTS []).toNat % 65536), (6, 0),
      (8, d.sec.dieId), (4, d.sec.fwVersion)])

def attestSpec : CmdSpec := { opcode := 0x0E01, needsIn := true, needsOut := true }

/-- ATTEST: the quote is asked for at once, or when the unit has finished the one before. -/
def Device.attest (e : Entry) (d : Device) : Reply :=
  if e.inLen ≠ 32 ∨ e.outLen < 352 then d.no stBAD_LENGTH
  else if d.sec.idKey.isNone then d.no 0x0E13
  else
    let nonce := d.input e
    let key := nonce.map (·.toNat)
    let d := if d.attestWork.isSome ∨ d.flag R.SEC_Q_CTL_BUSY [] then d else d.quoteAsk nonce
    d.later key

def idCertSpec : CmdSpec := { opcode := 0x0E02, needsOut := true }

/-- ID_CERT. -/
def Device.idCert (e : Entry) (d : Device) : Reply :=
  if e.outLen < 4096 then d.no stBAD_LENGTH
  else if !d.flag R.SEC_STAT_CERT_OK [] then d.no 0x0E13
  else
    let area := d.sec.flashRead 0x00FF0000 4096
    { status := stOK, out := area.take (certLength area), dev := d }

def secRequestSpec : CmdSpec := { opcode := 0x0E03, needsIn := true, principal := true }

def debugOpenSpec : CmdSpec := { opcode := 0x0E08, needsIn := true, principal := true }

/-- SEC_REQUEST and DEBUG_OPEN: the unit checks one request after the other (R463); DEBUG_OPEN carries a DEBUG request. -/
def Device.signedRequest (debug : Bool) (e : Entry) (d : Device) : Reply :=
  if e.inLen ≠ 320 ∧ e.inLen ≠ 520 then d.no stBAD_LENGTH
  else
    let rq := d.input e
    if debug ∧ fieldAt rq 6 1 ≠ 5 then d.no stBAD_FIELD
    else
      let idle := d.requestWork.isNone && !d.flag R.SEC_REQ_CTL_BUSY []
      let d := if idle then d.requestSubmit rq else d
      d.later (rq.map (·.toNat))

def svnCommitSpec : CmdSpec := { opcode := 0x0E04, minLen := 2, maxLen := 2, modes := [1, 2], principal := true }

/-- SVN_COMMIT: answered when the fuses are programmed (R64, R446). -/
def Device.svnCommit (e : Entry) (d : Device) : Reply :=
  let t := e.u 12 2
  if e.u 14 50 ≠ 0 ∨ (4096 < t ∧ t ≠ 0xFFFF) then d.no stBAD_FIELD
  else if d.flag R.SEC_SVN_REQ_BUSY [] then d.no stBUSY
  else
    let d := d.svnRequest (if t = 0xFFFF then d.get R.SEC_BOOT_IMAGE_SVN [] else t)
    if d.flag R.SEC_SVN_REQ_BUSY [] then d.later [] else d.ok (leBytes 2 d.sec.floor)

/-- A job for the flash: firmware 3.x works them off in order. -/
def Device.flashJob (d : Device) (opcode addr : Nat) (data : List Byte) : Reply :=
  let n := d.ctl.aloneNext
  let j : FlashJob := { opcode := opcode, key := n, addr := addr, data := data }
  let d := d.setCtl { d.ctl with aloneNext := n + 1 }
  let d := d.setSec { d.sec with jobs := d.sec.jobs ++ [j] }
  d.accepted [n] 99

def fwStageSpec : CmdSpec := { opcode := 0x0E05, needsIn := true, modes := [1, 2], principal := true, mayAccept := true }

/-- FW_STAGE. -/
def Device.fwStage (e : Entry) (d : Device) : Reply :=
  let inp := d.input e
  let slot := fieldAt inp 0 1
  let off := fieldAt inp 4 4
  let n := e.inLen - 8
  if e.inLen < 8 then d.no stBAD_LENGTH
  else if 1 < slot ∨ fieldAt inp 1 3 ≠ 0 ∨ off % 4096 ≠ 0 ∨ 16777216 < off + n then d.no stBAD_FIELD
  else if slot = d.get R.SEC_BOOT_SLOT [] then d.no stBUSY
  else d.flashJob 0x0E05 (slotBase slot + off) (inp.drop 8)

/-- The boot select record that prefers a slot (R438). -/
def bootSelect (slot : Nat) : List Byte :=
  let r : List Byte := [0x4C, 0x4E, 0x42, 0x53] ++ layout [(1, slot), (3, 0)]
  r ++ leBytes 4 (crc32c r)

def fwActivateSpec : CmdSpec := { opcode := 0x0E06, minLen := 1, maxLen := 1, modes := [1, 2], principal := true, mayAccept := true }

/-- FW_ACTIVATE. -/
def Device.fwActivate (e : Entry) (d : Device) : Reply :=
  let slot := e.u 12 1
  let err := d.sec.imageError d.lifecycle slot
  if 1 < slot ∨ e.u 13 51 ≠ 0 then d.no stBAD_FIELD
  else if !lcHasKey d.lifecycle then d.no stLIFECYCLE
  else if err ≠ 0 then { status := 0x0E15, payload := leBytes 1 err, dev := d }
  else d.flashJob 0x0E06 0x00FE0000 (bootSelect slot)

/-- FLASH_WRITE_DONE: the oldest job's range has been erased, written and read back. -/
def Device.flashDone (d : Device) : Device :=
  match d.sec.jobs with
  | [] => d
  | j :: rest =>
    let d := d.setSec { d.sec with flash := writeBytes d.sec.flash 255 j.addr j.data, jobs := rest }
    d.finish j.opcode [j.key] stOK []

def debugChallengeSpec : CmdSpec := { opcode := 0x0E07, maxLen := 0 }

/-- DEBUG_CHALLENGE: only where a DEBUG request can open JTAG (R460). -/
def Device.debugChallenge (e : Entry) (d : Device) : Reply :=
  if e.u 12 52 ≠ 0 then d.no stBAD_FIELD
  else if d.lifecycle < 2 ∨ 4 < d.lifecycle then d.no stLIFECYCLE
  else
    let d := d.newChallenge
    d.ok d.challenge

end Sys2Proof.Machine
end

