-- ==== Sys2Proof/Machine/CmdHealth.lean ====
section
/-! DEFINITION. The commands of group 0x0F (chapter 18): health, its limits, and the pace loop's configuration. -/

namespace Sys2Proof.Machine

def healthQuerySpec : CmdSpec := { opcode := 0x0F00, maxLen := 0 }

/-- HEALTH_QUERY; stack temperatures in 1/16 °C (DESIGN CHOICE, log entry 52). -/
def Device.healthQuery (e : Entry) (d : Device) : Reply :=
  if e.u 12 52 ≠ 0 then d.no stBAD_FIELD
  else
    d.ok (layout [(2, d.get R.HM_TMAX_TEMP []), (1, d.get R.HM_TMAX_WHICH []), (1, (d.rd R.HM_EVT []).toNat % 64),
      (2, code 16 (d.stackTemp 0)), (2, code 16 (d.stackTemp 1)), (2, d.get R.PW_PACE_STAT_VREQ []), (2, d.get R.HM_VMON_MV [3]),
      (2, d.get R.PW_PACE_STAT_MIN_RATIO []), (1, d.get R.PW_PACE_STAT_MIN_BOOTH []), (1, d.get R.HM_STAT_THROTTLE []),
      (1, d.get R.HM_RSTCAUSE_CAUSE []), (1, d.mode)])

def healthLimitsSpec : CmdSpec := { opcode := 0x0F01, minLen := 10, maxLen := 10, modes := modesSST, principal := true }

/-- HEALTH_LIMITS. -/
def Device.healthLimits (e : Entry) (d : Device) : Reply :=
  let warn := e.s 12 2
  let limit := e.s 14 2
  let fl := e.u 18 1
  if e.u 22 42 ≠ 0 ∨ 3 < fl ∨ limit < 1440 ∨ 1840 < limit ∨ limit ≤ warn then d.no stBAD_FIELD
  else
    let d := ((d.put R.HM_TLIM_T_WARN [] (e.u 12 2)).put R.HM_TLIM_T_LIMIT [] (e.u 14 2)).put R.HM_TLIM_HBM_WARN [] (e.u 16 2)
    let d := (d.setFlag R.HM_CTL_THROTTLE_EN [] (fl.testBit 0)).put R.HM_CTL_ECC_WARN [] (e.u 20 2)
    let d := (d.setFlag R.HM_EV_CTL_EN [] (fl.testBit 1)).put R.HM_EV_CTL_EV [] (e.u 19 1)
    d.ok []

def paceConfigSpec : CmdSpec := { opcode := 0x0F02, minLen := 12, maxLen := 12, principal := true }

/-- PACE_CONFIG; `acked`: the regulator acknowledges the read of VOUT_MODE. Where it does not, the three tries count and
warn, and the configuration stands (DESIGN CHOICE, log entry 53). -/
def Device.paceConfig (acked : Bool) (e : Entry) (d : Device) : Reply :=
  let fl := e.u 12 1
  let addr := e.u 13 1
  let exp := e.s 15 1
  let step := e.u 18 1
  let jump := e.u 19 1
  let period := e.u 20 2
  if e.u 24 40 ≠ 0 ∨ 3 < fl ∨ 127 < addr ∨ exp < -16 ∨ 15 < exp ∨ step < 1 ∨ 25 < step ∨ jump < 1 ∨ 100 < jump
      ∨ period < 50 ∨ 10000 < period then d.no stBAD_FIELD
  else if !acked then
    { status := 0x0F10, dev := d.avsSend 0 3 }
  else
    let en := fl.testBit 0
    let d := (d.put R.PW_AVS_CFG_ADDR [] addr).put R.PW_AVS_CFG_PAGE [] (e.u 14 1)
    let d := (d.setFlag R.PW_AVS_CFG_PAGE_EN [] (fl.testBit 1)).put R.PW_AVS_CFG_EXP [] (code 5 exp)
    let d := d.setFlag R.PW_AVS_CFG_VALID [] true
    let d := (d.put R.PW_PACE_CTL_TARGET [] (e.u 16 2)).put R.PW_PACE_CTL_STEP_MV [] step
    let d := (d.put R.PW_PACE_CTL_JUMP_MV [] jump).put R.PW_PACE_CTL_PERIOD_US [] period
    let d := d.put R.PW_PACE_HYST_HYST [] (e.u 22 2)
    let d := { d with pow := { d.pow with configured := en } }
    let d := d.setFlag R.PW_PACE_CTL_EN [] (en && (decide (d.mode = 1) || decide (d.mode = 2)))
    d.narrowCore.ok []

def healthSensorsSpec : CmdSpec := { opcode := 0x0F03, needsOut := true }

/-- HEALTH_SENSORS. -/
def Device.healthSensors (e : Entry) (d : Device) : Reply :=
  if e.outLen < 96 then d.no stBAD_LENGTH
  else
    let t := (List.range 32).flatMap (fun k => leBytes 2 (d.get R.HM_TEMP_TEMP [k]))
    let v := (List.range 11).flatMap (fun r => leBytes 2 (d.get R.HM_VMON_MV [r]))
    let h := (List.range 2).flatMap (fun s => leBytes 2 (code 16 (d.stackTemp s)))
    { status := stOK, out := t ++ v ++ h, dev := d }

def healthCountersSpec : CmdSpec := { opcode := 0x0F04, minLen := 1, maxLen := 1 }

/-- HEALTH_COUNTERS. -/
def Device.healthCounters (e : Entry) (d : Device) : Reply :=
  let fl := e.u 12 1
  if 1 < fl ∨ e.u 13 51 ≠ 0 then d.no stBAD_FIELD
  else
    let p := d.pow
    let resets := d.get R.HM_RSTCAUSE_COUNT []
    let bs := (List.range 6).flatMap (fun k => leBytes 2 (min (p.totWarn.get 0 k) 65535))
      ++ layout [(4, p.totThrottleUs / 1000), (4, p.totShort), (4, p.totNaks), (2, resets - p.totResets)]
    let d := if fl = 1 then
        { d with pow := { d.pow with totWarn := [], totThrottleUs := 0, totShort := 0, totNaks := 0, totResets := resets } } else d
    d.ok bs

end Sys2Proof.Machine
end

