-- ==== Sys2Proof/Machine/HostIf.lean ====
section
/-! DEFINITION. The host link and the memory booth (chapter 16): the BAR4 aperture, bus mastering, MSI-X, link errors, and
ECC errors of HBM and of the booths' SRAM. -/

namespace Sys2Proof.Machine

/-! ### Errors of the memory booth (R433, R434) -/

/-- The seal booth meets an uncorrectable word: the next seal is refused as under R261, or the held manifest is tried again
a millisecond later as under R268, and counted. -/
def Device.sealUecc (d : Device) : Device :=
  match d.nextSeal with
  | some p =>
    match (d.bth p).seals with
    | [] => d
    | s :: rest =>
      let d := (d.setBth p { d.bth p with seals := rest }).put R.MS_STAT_WAITING [p] rest.length
      let d := (d.bump R.MS_STAT_DROP [p]).bump R.MB_CNT_REFUSED []
      d.modFrames p s.stream (fun x => decide (x.no = s.frame)) (fun x => { x with sealSt := 3 })
  | none => if d.mb.held.isSome then (d.setMb { d.mb with refusedAt := some d.tt }).bump R.MB_CNT_REFUSED [] else d

/-- HBM_UNCORRECTABLE_ERROR: the requester's consequence (R433). -/
def Device.hbmUncorr (d : Device) (cls booth index off : Nat) : Device :=
  if d.sec.inReset ∨ hbmSize ≤ off then d
  else
    let d := (d.memErr true cls booth index off).markBad off
    match cls with
    | 0 => if d.portPresent booth then d.portFault booth 2 else d
    | 1 => if index < 32 then d.engineFault index 2 else d
    | 2 => d.deviceFault 3 false
    | 3 => d.deviceFault 3 false
    | 6 => d.sealUecc
    | _ => d

/-- HBM_CORRECTED_ERROR (R433, R480). -/
def Device.hbmCorr (d : Device) (cls booth index off : Nat) : Device :=
  if d.sec.inReset ∨ hbmSize ≤ off then d else (d.memErr false cls booth index off).eccWarn

/-- PATROL_SCRUB: one word read; `found`: a single-bit error is corrected and rewritten. The last word ends a pass. -/
def Device.patrolScrub (d : Device) (off : Nat) (found uncorr : Bool) : Device :=
  if d.sec.inReset ∨ !d.sec.hbmWiped ∨ !d.flag R.MEM_SCRUB_EN [] ∨ hbmSize ≤ off then d
  else
    let d := if uncorr || d.wordBad off then (d.memErr true 5 9 0 off).markBad off
      else if found then (d.memErr false 5 9 0 off).eccWarn
      else d
    if off / 8 + 1 = hbmSize / 8 then d.count R.MEM_SCRUB_PASSES [] else d

/-! ### The function (R414 to R418) -/

/-- The configuration header's identity (R415). -/
structure ConfigHeader where
  vendor : Nat
  device : Nat
  revision : Nat
  classCode : Nat
  subVendor : Nat
  subsystem : Nat
  headerType : Nat
  deriving DecidableEq, Repr

/-- The header as the device shows it (R2, R415). -/
def Device.configHeader (d : Device) : ConfigHeader :=
  { vendor := d.hst.vendorId, device := d.hst.deviceId, revision := d.get R.ID_DEVICE_STEP [], classCode := 0x118000
    subVendor := d.sec.ids % 65536, subsystem := d.sec.ids / 65536 % 65536, headerType := 0 }

/-- The capabilities of the function; it has no others (R416). -/
inductive Capability where
  | powerManagement | express | msix | aer | ptm | serialNumber | readinessTime | secondaryPcie | physical16 | physical32
  | physical64 | margining | dataLink
  deriving DecidableEq, Repr

/-- Reset Time and FLR Time that the device reports, in ms (R416). -/
def readinessMs : Nat := 400

/-! ### The BAR4 aperture (R421 to R423) -/

/-- AER logs an error (R428). -/
def Device.aerLog (d : Device) (k : AerKind) : Device := { d with hst := { d.hst with aer := d.hst.aer ++ [k] } }

/-- A request is answered with Unsupported Request, or dropped: AER logs it (R428). -/
def Device.aerUr (d : Device) : Device := d.aerLog .unsupported

/-- The completion of a read. -/
def Device.completeRead (d : Device) (st : Nat) (bs : List Byte) : Device := { d with hst := { d.hst with lastRead := (st, bs) } }

/-- The HBM offset of an aperture offset (R421). -/
def Device.aperture (d : Device) (o : Nat) : Nat := d.get R.HOST_AP_BASE_BASE [] * 16777216 + o

/-- The link answers requests. -/
def Device.hostLinked (d : Device) : Bool := d.hst.linkUp && d.hst.configReady

/-- BAR4_READ. -/
def Device.bar4Read (d : Device) (o len : Nat) : Device :=
  if !d.hostLinked ∨ 2 ^ 32 < o + len ∨ len = 0 ∨ d.flag R.WIPE_STAT_BUSY [] then d
  else if !d.hostReach then (if d.hst.memSpace then d else d.aerUr).completeRead 1 []
  else
    let a := d.aperture o
    if hbmSize < a + len ∨ !d.netAdmits true false .bar4 a len then
      (d.aerUr.violation 10 1 a len (5 * 4096)).completeRead 1 []
    else
      match d.badIn a len with
      | some w => (d.memErr true 4 10 0 w).completeRead 2 (d.hbmRead a len)
      | none => d.completeRead 0 (d.hbmRead a len)

/-- BAR4_WRITE: a poisoned one is dropped (R421, R428). -/
def Device.bar4Write (d : Device) (o : Nat) (bs : List Byte) (poisoned : Bool) : Device :=
  if !d.hostLinked ∨ 2 ^ 32 < o + bs.length ∨ bs = [] ∨ d.flag R.WIPE_STAT_BUSY [] then d
  else if !d.hostReach then (if d.hst.memSpace then d else d.aerUr)
  else if poisoned then d.aerLog .poisoned
  else
    let a := d.aperture o
    if hbmSize < a + bs.length ∨ !d.netAdmits true true .bar4 a bs.length then d.aerUr.violation 10 1 a bs.length (5 * 4096)
    else d.hbmWrite a bs

/-- HOST_AP_BASE_WRITE: a BASE above 1,535 is ignored (R423). -/
def Device.apBaseWrite (d : Device) (v : Nat) : Device :=
  if 1535 < v % 2048 then d.setFlag R.DEV_STATUS_CFG_BAD [] true else d.put R.HOST_AP_BASE_BASE [] (v % 2048)

/-- The host's own write of it. -/
def Device.apBaseHost (d : Device) (v : Nat) : Device := if d.hostReach then d.apBaseWrite v else d

/-- BAR_BAD_ACCESS (R419, R428). -/
def Device.barBad (d : Device) : Device :=
  if !d.hostLinked ∨ d.hst.d3hot then d
  else if d.hst.memSpace then (d.bump R.HOST_LINK_BAD_ACCESS []).aerUr
  else d.aerUr

/-! ### Bus mastering, power states, messages and link errors (R425 to R428) -/

/-- BUS_MASTER_CHANGE: what the host sets in configuration space; requests stalled for want of Bus Master Enable go on in
their order, and messages whose condition to wait has ended are sent. -/
def Device.busMasterChange (d : Device) (c : HostCfg) : Device :=
  if !d.hostLinked then d
  else
    let d := { d with hst := { d.hst with memSpace := c.memSpace, busMaster := c.busMaster, msixEnable := c.msixEnable
                                          functionMask := c.functionMask, ptmEnable := c.ptmEnable
                                          mps := clamp 128 512 c.mps.toNat, mrrs := clamp 128 4096 c.mrrs.toNat
                                          bar0 := c.bar0.toNat / 2 ^ 16 * 2 ^ 16, bar2 := c.bar2.toNat / 2 ^ 26 * 2 ^ 26
                                          bar4 := c.bar4.toNat / 2 ^ 32 * 2 ^ 32
                                          relaxed := c.relaxed, tags14 := c.tags14, noTimeout := c.noTimeout } }
    let d := d.setFlag R.PTM_STAT_ENABLED [] c.ptmEnable
    if c.busMaster ∧ !d.hst.d3hot then d.resumeStalled else d.sendPending

/-- D3HOT_ENTRY. -/
def Device.d3hotEntry (d : Device) : Device := if d.hostLinked then { d with hst := { d.hst with d3hot := true } } else d

/-- LINK_TLP_ERROR: a received TLP is dropped for its ECRC or as malformed, or one is retried by the link layer; AER logs it. -/
def Device.linkTlpError (d : Device) (k : AerKind) : Device :=
  if d.hst.linkUp ∧ (k = .ecrc ∨ k = .fatal ∨ k = .correctable) then d.aerLog k else d

/-- A failed read of the device's own: no timeout while the host has disabled completion timeouts (R417). -/
def Device.readFails (d : Device) (k : AerKind) : Bool :=
  (decide (k = .timeout) && !d.hst.noTimeout) || decide (k = .poisoned ∨ k = .abort ∨ k = .unsupported)

/-- QUEUE_READ_COMPLETION_ERROR on a ring read: queue error HOST (R302). -/
def Device.ringReadError (d : Device) (q : Nat) (k : AerKind) : Device :=
  if !d.readFails k ∨ (d.ctx q).kind ≠ 1 ∨ (d.ctx q).error then d else (d.aerLog k).queueError q 3

/-- QUEUE_READ_COMPLETION_ERROR on a command's input buffer: DISCARDED, and nothing is executed (R428). -/
def Device.inputReadError (d : Device) (opcode : Nat) (e : Entry) (k : AerKind) : Device :=
  if !e.hostBuf ∨ !d.readFails k then d
  else (d.aerLog k).runCommand { opcode := opcode, needsIn := true } e true (fun d => d.no stDISCARDED)

/-- DMA_READ_COMPLETION_ERROR: of an engine whose transfer reads host memory (R135, R428). -/
def Device.dmaReadError (d : Device) (e : Nat) (k : AerKind) : Device :=
  match d.runningChan e with
  | some c => if d.flag R.DMA_CH_A_OPT_SRC_SPACE [e, c] ∨ !d.readFails k then d else (d.aerLog k).engineFault e 4
  | none => d

/-! ### Faults of the booths (R135) -/

/-- FIFO_PARITY_ERROR. -/
def Device.fifoParity (d : Device) (p : Nat) : Device :=
  if d.sec.inReset ∨ !d.portPresent p then d else d.portFault p 3

/-- CONTAINED_SRAM_UECC: of a port booth, or of a DMA engine. -/
def Device.containedUecc (d : Device) (engine : Bool) (n : Nat) : Device :=
  if d.sec.inReset then d
  else if engine then (if n < 32 then d.engineFault n 2 else d)
  else if d.portPresent n then d.portFault n 2 else d

/-- BOOTH_SRAM_UECC: of a booth that is no port booth; in the motion booth R138 applies as well. -/
def Device.boothUecc (d : Device) (b : Nat) : Device :=
  if d.sec.inReset then d
  else if b = 12 then d.motionUecc
  else if b = 8 ∨ b = 9 ∨ b = 10 ∨ b = 11 ∨ b = 13 then d.deviceFault 6 false else d

/-- LINK_LOSS_TIMEOUT. -/
def Device.linkLoss (d : Device) (p : Nat) : Device :=
  if d.sec.inReset ∨ !d.portPresent p then d else d.faultIfLost p

end Sys2Proof.Machine
end

