-- ==== Sys2Proof/Machine/RegWrite.lean ====
section
/-! DEFINITION. Register accesses (R13 to R19, R31, R32, R35, R42, R44, R131, R420): one store and one load that every
source shares, with what each register does beside holding its value; the Carousel's ports and the doorbells. -/

namespace Sys2Proof.Machine

/-! ### The Carousel's ports (R294, R299) and doorbells (R297 to R301) -/

/-- CAR_CTX_CMD.LOAD. -/
def Device.ctxLoad (d : Device) : Device :=
  let q := d.get R.CAR_CTX_SEL_QUEUE []
  let d := d.touch q
  let bs := (d.ctx q).bytes
  (List.range 8).foldl (fun (d : Device) k => d.wr R.CAR_CTX_DATA [k] (BitVec.ofNat 64 (fieldAt bs (8 * k) 8))) d

/-- What waits for a queue goes on in the order in which it reached the Carousel (R299, R300): tags and completion records;
then manifests (R232). -/
def Device.queueFlows (d : Device) (q : Nat) : Device :=
  let ws := d.dlv.waiters.filter (fun w => decide (w.1 = q))
  let d := { d with dlv := { d.dlv with waiters := d.dlv.waiters.filter (fun w => decide (w.1 ≠ q)) } }
  (ws.foldl (fun (d : Device) w =>
    match w.2 with
    | .tags p k => d.pushTags p k
    | .record e _ => d.flushRecords e) d).retryManifests q

/-- CAR_CTX_CMD.STORE. -/
def Device.ctxStore (d : Device) : Device :=
  let q := d.get R.CAR_CTX_SEL_QUEUE []
  (d.storeCtx q (QCtx.ofBytes d.ctxPortBytes)).queueFlows q

/-- An append through the append port: 0 appended (or stalled, to go out in its order), 1 full, 2 error, 3 where the queue is of no
kind that the Ringmaster produces (R291). -/
def Device.portAppend (d : Device) : Device :=
  let q := d.get R.CAR_APP_Q_QUEUE []
  let c := d.ctx q
  let bs := (List.range 16).flatMap (fun k => leBytes 8 (d.rd R.CAR_APP_DATA [k]).toNat)
  if c.kind ≠ 2 ∧ c.kind ≠ 5 then d.put R.CAR_APP_STAT_RESULT [] 3
  else if d.appendsStopped q then d.put R.CAR_APP_STAT_RESULT [] 1
  else
    match d.append q c.kind (bs.take (esizeBytes c.esize)) with
    | (.appended, d) => d.put R.CAR_APP_STAT_RESULT [] 0
    | (.stalled, d) => d.put R.CAR_APP_STAT_RESULT [] 0
    | (.full, d) => d.put R.CAR_APP_STAT_RESULT [] 1
    | (.error, d) => d.put R.CAR_APP_STAT_RESULT [] 2
    | (.mismatch, d) => d.put R.CAR_APP_STAT_RESULT [] 3

/-- A write of CAR_APP_DATAk: the entry's last word appends it; a word beyond it does not fit the entry size. -/
def Device.appDataWrite (d : Device) (k : Nat) (v : Word) : Device :=
  let d := d.wr R.CAR_APP_DATA [k] v
  let n := esizeBytes (d.ctx (d.get R.CAR_APP_Q_QUEUE [])).esize
  if 8 * (k + 1) = n then d.portAppend else if n < 8 * (k + 1) then d.put R.CAR_APP_STAT_RESULT [] 3 else d

/-- CAR_APPEND: the last word of an entry for the target queue. -/
def Device.carAppend (d : Device) (v : Word) : Device :=
  let n := esizeBytes (d.ctx (d.get R.CAR_APP_Q_QUEUE [])).esize / 8
  d.appDataWrite (n - 1) v

/-- DB_CONS (R298, R300, R301): entries are returned, the interrupt is armed, and what waited for room goes on. -/
def Device.doorbellCons (d : Device) (q : Nat) (c : BitVec 32) : Device :=
  if !d.hostReach ∨ !d.doorbellOpen q ∨ (d.ctx q).kind ≤ 1 then d
  else
    let d := d.touch q
    let x := d.ctx q
    if seq32Ge c x.cons && seq32Ge x.prod c then
      let d := (d.setCtx q { x with cons := c }.watermark).rearm q
      d.queueFlows q
    else d.queueError q 2

/-- DB_PROD from the host. -/
def Device.doorbellSubmit (d : Device) (q : Nat) (p : BitVec 32) : Device := if d.hostReach then d.doorbellProd q p else d

/-- DB_CTL.REARM. -/
def Device.doorbellRearm (d : Device) (q : Nat) : Device :=
  if !d.hostReach ∨ !d.doorbellOpen q then d else (d.touch q).rearm q

/-- A read of DB_WM: WM_HIT and PEAK, latched afresh after it (R301). -/
def Device.watermarkRead (d : Device) (q : Nat) : Device :=
  if !d.hostReach then d
  else if (d.ctx q).kind = 0 then d.completeRead 0 (zeros 8)
  else
    let d := d.touch q
    let c := d.ctx q
    (d.setCtx q { c with wmHit := false, peak := c.level }).completeRead 0 (layout [(4, b2n c.wmHit), (4, c.peak)])

/-! ### Stores (R14, R17) -/

/-- The bits an access reaches. -/
def Half.mask : Half → Word
  | .full => BitVec.allOnes 64
  | .lo => 0xFFFFFFFF
  | .hi => 0xFFFFFFFF00000000

/-- RW bits take their values and W1C bits written 1 clear; every other bit stays. -/
def Device.plainWrite (d : Device) (row : RegRow) (ix : List Nat) (mask v : Word) : Device :=
  let rw := row.maskOf (fun f => decide (f.acc = .rw)) &&& mask
  let w1c := row.maskOf (fun f => decide (f.acc = .w1c)) &&& mask
  let old := d.rd row.reg ix
  d.wr row.reg ix ((old &&& ~~~ rw &&& ~~~ (w1c &&& v)) ||| (v &&& rw))

/-- The register's word with the written bits in place. -/
def Device.merged (d : Device) (row : RegRow) (ix : List Nat) (mask v : Word) : Word :=
  (d.rd row.reg ix &&& ~~~ mask) ||| (v &&& mask)

/-- A field is written, in whole or in part. -/
def hit (f : Fld) (mask : Word) : Bool := decide (f.mask &&& mask ≠ 0)

/-- A one-bit field is written 1. -/
def set1 (f : Fld) (mask v : Word) : Bool := decide (f.mask &&& mask &&& v ≠ 0)

/-- Do it if. -/
def Device.on (d : Device) (c : Bool) (f : Device → Device) : Device := if c then f d else d

/-- Control booth: Ringmaster, Calliope, Curtain, security, health and power. DESIGN CHOICE (log entry 113): bits of CAL_CMD
written 1 together act in the order HALT, RESUME, CLEAR. -/
def Device.controlStore (d : Device) (row : RegRow) (ix : List Nat) (m v : Word) : Device :=
  let r := row.reg
  let p := d.plainWrite row ix m v
  let w := d.merged row ix m v
  let n := ix.headD 0
  if r = R.RM_WDT_CTL then
    d.wdtWrite (if hit R.RM_WDT_CTL_TIMEOUT m then R.RM_WDT_CTL_TIMEOUT.of w else d.get R.RM_WDT_CTL_TIMEOUT []) (set1 R.RM_WDT_CTL_LOCK m v)
  else if r = R.RM_WDT_KICK then (if hit R.RM_WDT_KICK_KEY m then d.wdtKick (R.RM_WDT_KICK_KEY.of v) else d)
  else if r = R.RM_BMB_DONE then
    (List.range 8).foldl (fun (d : Device) k => d.on (bit (v &&& m).toNat k) (·.bmbComplete k)) d
  else if r = R.CAL_ATTACH then (if m.getLsbD 0 then d.calAttach n (R.CAL_ATTACH_BOOTHS.of v) (R.CAL_ATTACH_HOME.of v) else d)
  else if r = R.CAL_CMD then
    ((d.on (set1 R.CAL_CMD_HALT m v) (·.calHalt n)).on (set1 R.CAL_CMD_RESUME m v) (·.calResume n)).on
      (set1 R.CAL_CMD_CLEAR m v) (·.calClear n)
  else if r = R.CAL_CNT then p.pokeSeq n
  else if r = R.CAL_TREL then d.calTrel n (ix.getD 1 0) (v &&& m)
  else if r = R.CAL_LD_CTL then p.on (set1 R.CAL_LD_CTL_GO m v) Device.loadGo
  else if r = R.CUR_STG_DATA then
    (if m = Half.lo.mask then d.stageLowWrite (v.extractLsb' 0 32) else d.stagePort (decide (m = Half.hi.mask)) v)
  else if r = R.CUR_TX_CTL then
    if !d.txCtlOpen n then d
    else
      let keep := if d.txState n = 1 then m else m &&& ~~~ R.CUR_TX_CTL_MODE.mask
      let p := d.plainWrite row ix keep v
      ((p.on (set1 R.CUR_TX_CTL_OPEN m v) (·.txOpen n)).on (set1 R.CUR_TX_CTL_COMMIT m v) (·.txCommit n 1)).on
        (set1 R.CUR_TX_CTL_CANCEL m v) (·.txCancel n)
  else if r = R.CUR_TX_TIME ∨ r = R.CUR_TX_DEADLINE then (if d.txState n = 1 then p else d)
  else if r = R.SEC_SDN then (if hit R.SEC_SDN_SDN m then d.sdnWrite (R.SEC_SDN_SDN.of w) else d)
  else if r = R.SEC_SVN_REQ then
    p.on (hit R.SEC_SVN_REQ_TARGET m) (·.svnRequest (R.SEC_SVN_REQ_TARGET.of v))
  else if r = R.SEC_REQ_CTL then p.on (set1 R.SEC_REQ_CTL_GO m v) Device.requestGo
  else if r = R.SEC_Q_CTL then p.on (set1 R.SEC_Q_CTL_GO m v) Device.quoteGo
  else if r = R.SEC_DBG_CTL then d.on (set1 R.SEC_DBG_CTL_NEW_CHAL m v) Device.newChallenge
  else if r = R.HM_TLIM then p.wr R.HM_TLIM [] (tlimWord (p.rd R.HM_TLIM []))
  else if r = R.HM_MODE then (if hit R.HM_MODE_MODE m then d.modeWrite (R.HM_MODE_MODE.of v) else d)
  else if r = R.HM_READY then d.on (set1 R.HM_READY_SET m v) Device.readySet
  else if r = R.PW_PACE_CTL then
    p.on (decide (p.flag R.PW_PACE_CTL_EN [] ≠ d.flag R.PW_PACE_CTL_EN [])) Device.narrowCore
  else p

/-- Delivery booth and host booth. -/
def Device.deliveryStore (d : Device) (row : RegRow) (ix : List Nat) (m v : Word) : Device :=
  let r := row.reg
  let p := d.plainWrite row ix m v
  let e := ix.headD 0
  let c := ix.getD 1 0
  if r = R.CAR_CTX_CMD then (p.on (set1 R.CAR_CTX_CMD_LOAD m v) Device.ctxLoad).on (set1 R.CAR_CTX_CMD_STORE m v) Device.ctxStore
  else if r = R.CAR_APP_DATA then d.appDataWrite e (d.merged row ix m v)
  else if r = R.CAR_TAKE_CMD then d.on (set1 R.CAR_TAKE_CMD_TAKE m v) Device.carTake
  else if r = R.DMA_CH_CTL then
    let d := d.on (hit R.DMA_CH_CTL_PAUSE m) (·.dmaPause e c (set1 R.DMA_CH_CTL_PAUSE m v))
    (d.on (set1 R.DMA_CH_CTL_DISARM m v) (·.dmaDisarm e c)).on (set1 R.DMA_CH_CTL_ARM m v) (·.dmaArm e c)
  else if [R.DMA_CH_SRC, R.DMA_CH_DST, R.DMA_CH_LEN, R.DMA_CH_OPT, R.DMA_CH_USER, R.DMA_CH_TAG, R.DMA_CH_TAGADDR].contains r then
    if d.flag R.DMA_CH_CTL_ARM [e, c] then d.setFlag R.DMA_CH_STAT_SHADOW_BUSY [e, c] true else p
  else if r = R.BMB_CTL then d.bmbWrite e (set1 R.BMB_CTL_RING m v) (set1 R.BMB_CTL_DONE m v)
  else if r = R.HOST_AP_BASE then (if hit R.HOST_AP_BASE_BASE m then d.apBaseWrite v.toNat else d)
  else if r = R.PTM_CTL then p.on (set1 R.PTM_CTL_GO m v) Device.ptmStart
  else p

/-- Port booths and the seal booth. -/
def Device.portStore (d : Device) (row : RegRow) (ix : List Nat) (m v : Word) : Device :=
  let r := row.reg
  let p := d.plainWrite row ix m v
  let w := d.merged row ix m v
  let i := ix.headD 0
  let l := 2 * i + ix.getD 1 0
  if r = R.LN_CTL then (d.laneCtlWrite l w).afterLane l
  else if r = R.LN_TX then d.laneTxWrite l w
  else if r = R.LN_FFE then d.laneFfeWrite l w
  else if r = R.LN_TRAIN_CTL then
    if set1 R.LN_TRAIN_CTL_ABORT m v then d.trainAbort l
    else if d.training l then d
    else p.on (set1 R.LN_TRAIN_CTL_START m v) (·.trainStart l)
  else if r = R.LN_TRAIN_REQ then
    (d.on (hit R.LN_TRAIN_REQ_REQ m) (·.trainReqWrite l (R.LN_TRAIN_REQ_REQ.of v))).on (set1 R.LN_TRAIN_REQ_DONE m v) (·.trainDoneWrite l)
  else if r = R.LN_ALIGN_CTL then
    let fixed := R.LN_ALIGN_CTL_PERIOD.mask ||| R.LN_ALIGN_CTL_CONFIRM.mask ||| R.LN_ALIGN_CTL_LOSE.mask
    let p := if d.flag R.LN_ALIGN_CTL_ENABLE ix then d.plainWrite row ix (m &&& ~~~ fixed) v else p
    let p := if d.flag R.LN_ALIGN_CTL_ENABLE ix ∧ !p.flag R.LN_ALIGN_CTL_ENABLE ix then p.clearFound l else p
    p.on (set1 R.LN_ALIGN_CTL_SLIP m v) (·.laneSlip l)
  else if r = R.LN_PRBS then
    if p.get R.LN_PRBS_POLY ix ≠ d.get R.LN_PRBS_POLY ix ∨ !p.flag R.LN_PRBS_CHK ix then p.prbsReset l else p
  else if r = R.LN_HIST_CTL then p.on (set1 R.LN_HIST_CTL_START m v) (·.histStart l)
  else if r = R.PP_CTL then (d.portCtlWrite i w).afterLink i
  else if r = R.PP_VXL_ECHO then p.on (set1 R.PP_VXL_ECHO_GO m v) (fun d => d.echoGo i (d.get R.PP_VXL_ECHO_LANE [i]) d.tt false)
  else if r = R.PP_CC_TX then (if ix.getD 1 0 = 3 then d.ccTxWrite i w else d.wr R.PP_CC_TX ix w)
  else if r = R.CAP_CMD then (if m.getLsbD 0 then d.capCmd i (R.CAP_CMD_STREAM.of v) (R.CAP_CMD_OP.of v) else d)
  else if r = R.CAP_REL then
    (if m.getLsbD 0 then d.capRelease i (R.CAP_REL_STREAM.of v) (decide (R.CAP_REL_GEN.of v = 1)) (R.CAP_REL_SLOT.of v) else d)
  else if r = R.CAP_LF_DIAG then p.on (set1 R.CAP_LF_DIAG_POP m v) (·.diagPop i)
  else if r = R.MB_REL then (if hit R.MB_REL_SLOT m then d.mbRelease (R.MB_REL_SLOT.of v) else d)
  else if r = R.MB_CTL then p.on (set1 R.MB_CTL_FLUSH m v) Device.mbFlush
  else p

/-- The flags of MW_WATCHk that a source may clear: those of SECURE channels only their owner (R349). -/
def Device.watchMask (d : Device) (s : Src) (k : Nat) (m : Word) : Word :=
  BitVec.ofNat 64 ((List.range 64).foldl (fun (a : Nat) i =>
    if m.getLsbD i ∧ (!d.chSecure (64 * k + i) ∨ d.ownsChannel s (64 * k + i)) then a + 2 ^ i else a) 0)

/-- Timing booth and motion booth. -/
def Device.timingStore (d : Device) (s : Src) (row : RegRow) (ix : List Nat) (m v : Word) : Device :=
  let r := row.reg
  let p := d.plainWrite row ix m v
  let i := ix.headD 0
  if r = R.TB_INCR then d.setIncr (R.TB_INCR_INCR.of (d.merged row ix m v))
  else if r = R.TB_STEP_CTL then p.on (set1 R.TB_STEP_CTL_GO m v) Device.stepGo
  else if r = R.TB_SLEW_CTL then
    let p := p.on (set1 R.TB_SLEW_CTL_ABORT m v) Device.slewAbort
    p.on (set1 R.TB_SLEW_CTL_GO m v)
      (fun d => d.slewGo (d.rd R.TB_SLEW_AMT []).toInt (d.get R.TB_SLEW_CTL_RATE []) (d.flag R.TB_SLEW_CTL_BOTH []))
  else if r = R.TB_SNAP_CTL then p.on (set1 R.TB_SNAP_CTL_GO m v) Device.snapshot
  else if r = R.MW_FIRE then (if hit R.MW_FIRE_CH m then d.mwFire s (R.MW_FIRE_CH.of v) else d)
  else if r = R.MW_WATCH then d.plainWrite row ix (d.watchMask s i m) v
  else if r = R.BK_ACT_POP then p.on (set1 R.BK_ACT_POP_POP m v) Device.actionPop
  else if r = R.TRG_IN then d.on (set1 R.TRG_IN_POP m v) (·.stampPop i)
  else if r = R.FB_CMD then d.on (set1 R.FB_CMD_SET_POS m v) (·.fbSetPos i)
  else if r = R.FB_LATCH then d.on (set1 R.FB_LATCH_ARM m v) (·.latchArm i)
  else if r = R.MP_CTL then
    let x := d.axis i
    d.setAxis i { x with goReq := x.goReq || set1 R.MP_CTL_GO m v, stopReq := x.stopReq || set1 R.MP_CTL_STOP m v
                         setReq := x.setReq || set1 R.MP_CTL_SET_POS m v }
  else if r = R.MP_HOME then d.setAxis i { d.axis i with homeReq := (d.axis i).homeReq || set1 R.MP_HOME_GO m v }
  else p

/-- A write that the checkpoint has admitted. -/
def Device.admitted (d : Device) (s : Src) (booth : Nat) (row : RegRow) (ix : List Nat) (m v : Word) : Device :=
  let d := d.wake booth
  if booth = 14 then d.controlStore row ix m v
  else if booth = 8 ∨ booth = 10 ∨ booth = 9 then d.deliveryStore row ix m v
  else if booth = 11 ∨ booth = 12 then d.timingStore s row ix m v
  else d.portStore row ix m v

/-- SOURCE of a violation record (R140). -/
def Src.code : Src → Nat
  | .ringmaster => 0
  | .calliope n => 4096 + n.val
  | .host => 0

/-- A store to a register window (R18, R31, R32, R35, R42, R131): whether it was blocked, and what it leaves. A write that
covers CS fields is a violation against them: from a roll it is blocked whole (R76), else the other fields take it. -/
def Device.storeReg (d : Device) (s : Src) (addr : Nat) (mask v : Word) : Bool × Device :=
  match findReg addr, boothOf addr with
  | some (row, ix), some b =>
    if d.fusedAddr addr ∨ (b = 12 ∧ d.motionTaken) then (false, d)
    else
      let cs := row.maskOf (fun f => decide (f.acc = .cs))
      let roll : Bool := match s with
        | .calliope _ => true
        | _ => false
      let bad := decide (mask &&& cs ≠ 0)
      let d := if bad then d.violation b 3 addr v.toNat s.code else d
      let m := mask &&& ~~~ cs
      if bad ∧ (roll ∨ m &&& row.maskOf (fun f => decide (f.acc ≠ .ro)) = 0) then (roll, d)
      else
        let w : MaskedWrite := { addr := addr, mask := m, value := v &&& m }
        if d.limitOk (d.apply w) w then (false, d.admitted s b row ix m v)
        else (true, d.violation b 2 addr v.toNat s.code)
  | _, _ => (false, d)

/-! ### Memory of the Ringmaster (R31, R46, R47) -/

/-- An access-fault exception in the hart (R31). -/
def Device.accessFault (d : Device) : Device := d.setCtl { d.ctl with accessFaults := d.ctl.accessFaults + 1 }

/-- The tightly coupled SRAM holds the range. -/
def inSram (a n : Nat) : Bool := decide (0x400000 ≤ a ∧ a + n ≤ 0x800000)

/-- A store into memory: the SRAM, or HBM inside the Ringmaster's region; one the Net refuses is a violation as well. -/
def Device.storeMem (d : Device) (a : Nat) (bs : List Byte) : Device :=
  if inSram a bs.length then d.setCtl { d.ctl with sram := writeBytes d.ctl.sram 0 a bs }
  else if inRegion a bs.length then d.hbmWrite (a - rmBase) bs
  else if rmBase ≤ a ∧ a < rmBase + hbmSize then (d.accessFault).violation 9 1 a bs.length 0
  else d.accessFault

/-- A store by the Ringmaster: to a register, to a bootstrap slot's bytes, or to memory. -/
def Device.ringmasterStore (d : Device) (addr : Nat) (h : Half) (v : Word) : Device :=
  let off := if h = .hi then 4 else 0
  let n := if h = .full then 8 else 4
  let bs := leBytes n (v.toNat / 2 ^ (8 * off))
  if 0x01000000 ≤ addr ∧ addr < 0x10000000 then
    if 0x0B200400 ≤ addr ∧ addr < 0x0B200600 then
      d.slotWrite ((addr - 0x0B200400) / 64) ((addr - 0x0B200400) % 64 + off) bs false
    else
      let (blocked, d) := d.storeReg .ringmaster addr h.mask v
      if blocked then d.accessFault else d
  else d.storeMem (addr + off) bs

/-! ### The host's BAR0 (R420) -/

/-- A write into the MSI-X table (R427): messages whose condition to wait has ended are sent. -/
def Device.msixWrite (d : Device) (off : Nat) (h : Half) (v : Word) : Device :=
  let n := off / 16
  let x := d.vec n
  let lo := v.toNat % 2 ^ 32
  let hi := v.toNat / 2 ^ 32
  let x := if off % 16 < 8 then
      let x := if h = .hi then x else { x with addr := x.addr / 2 ^ 32 * 2 ^ 32 + lo }
      if h = .lo then x else { x with addr := x.addr % 2 ^ 32 + hi * 2 ^ 32 }
    else
      let x := if h = .hi then x else { x with data := lo }
      if h = .lo then x else { x with masked := decide (hi % 2 = 1) }
  (d.setVec n x).sendPending

/-- A write of the host to BAR0. -/
def Device.hostStore (d : Device) (off : Nat) (h : Half) (v : Word) : Device :=
  if !d.hostReach then d
  else if 0x400 ≤ off ∧ off < 0x600 then
    let o := if h = .hi then 4 else 0
    let n := if h = .full then 8 else 4
    d.slotWrite ((off - 0x400) / 64) ((off - 0x400) % 64 + o) (leBytes n (v.toNat / 2 ^ (8 * o))) true
  else if 0x8000 ≤ off ∧ off < 0x10000 then d.msixWrite (off - 0x8000) h v
  else if off < 0x1000 then
    match findReg (0x0B200000 + off) with
    | some (row, ix) => d.deliveryStore row ix h.mask v
    | none => d
  else
    match findReg (bar0Base + off) with
    | some (row, ix) =>
      let m := h.mask
      if row.reg = R.NET_PORT_CTL then d.netPortWrite (v &&& m)
      else if row.reg = R.NET_PORT_DATA then
        (if h = .lo then d.netLowWrite (v.extractLsb' 0 32) else d.netStage (decide (h = .hi)) v)
      else if row.reg = R.NET_HKEY then d.wr R.NET_HKEY ix (d.merged row ix m v)
      else d.plainWrite row ix m v
    | none => d

/-- REGISTER_WRITE: a write of the host to BAR0, or a store of the Ringmaster; `mismatch`: the two harts' requests differ,
and the request is not issued (R44). -/
def Device.registerWrite (d : Device) (host : Bool) (addr : Nat) (h : Half) (v : Word) (mismatch : Bool) : Device :=
  if d.sec.inReset then d
  else if host then d.hostStore addr h v
  else if mismatch then d.deviceFault 1 false
  else d.ringmasterStore addr h v

/-! ### Loads (R14, R17) -/

/-- The register a load reaches and its value, before the half is cut out: 0 where none lies there or its unit is fused off. The
mailbox slots (R51) and the fire records BK_HISTp_j (R356) are read here; in MODE 3 WRAP reads 1 and CPR 2^P (R374). -/
def Device.regValue (d : Device) (addr : Nat) : Word :=
  if 0x0B200400 ≤ addr ∧ addr < 0x0B200600 then
    BitVec.ofNat 64 (fieldAt (d.slot ((addr - 0x0B200400) / 64)) ((addr - 0x0B200400) % 64) 8)
  else if 0x0C408000 ≤ addr ∧ addr < 0x0C40C000 then
    BitVec.ofNat 64 (fieldAt ((d.prog ((addr - 0x0C408000) / 512)).hist.getD (addr % 512 / 32) []) (addr % 32) 8)
  else
    match findReg addr with
    | none => 0
    | some (row, ix) =>
      if d.fusedAddr addr then 0
      else
        let lane := 2 * ix.headD 0 + ix.getD 1 0
        let v := if row.reg = R.MW_WATCH then d.watchMask .ringmaster (ix.headD 0) (d.rd row.reg ix)
          else if (row.reg = R.LN_FEC_CW ∨ row.reg = R.LN_FEC_SYM) ∧ !modeFec (d.pmode (d.portOfLane lane)) then 0
          else if row.reg = R.FB_CTL ∧ d.fbMode (ix.headD 0) = 3 then R.FB_CTL_WRAP.into (d.rd row.reg ix) 1
          else if row.reg = R.FB_CPR ∧ d.fbMode (ix.headD 0) = 3 then BitVec.ofNat 64 (2 ^ d.ssiBits (ix.headD 0))
          else d.rd row.reg ix
        v &&& ~~~ row.maskOf (fun f => decide (f.acc = .wo))

/-- What a load leaves: RC fields inside the accessed half clear, and PP_TXTS goes on to the next stamp. -/
def Device.afterLoad (d : Device) (addr : Nat) (h : Half) : Device :=
  match findReg addr with
  | none => d
  | some (row, ix) =>
    if d.fusedAddr addr then d
    else
      let rc := row.maskOf (fun f => decide (f.acc = .rc)) &&& h.mask
      let d := if rc = 0 then d else d.wr row.reg ix (d.rd row.reg ix &&& ~~~ rc)
      if row.reg = R.PP_TXTS ∧ rc ≠ 0 then d.txtsPop (ix.headD 0) else d

/-- A load of a register, or of one half of it: its value, WO fields reading 0, and what it leaves. -/
def Device.loadReg (d : Device) (addr : Nat) (h : Half) : Word × Device :=
  (d.regValue addr &&& h.mask, d.afterLoad addr h)

/-- A byte of the Ringmaster's memory. -/
def Device.memByte (d : Device) (a : Nat) : Byte :=
  let at_ := d.get R.MSG_STMT_ADDR []
  if d.flag R.MSG_STMT_VALID [] ∧ at_ ≤ a ∧ a < at_ + 288 then d.mb.stmt.getD (a - at_) 0
  else if a < 0x20000 then Config.bootRomByte a
  else if inSram a 1 then d.ctl.sram.get 0 a
  else if inRegion a 1 then d.hbmByte (a - rmBase) else 0

/-- A load from memory: the bytes, or an access fault where the range is not mapped or the Net refuses it, which is a
violation as well (R31). -/
def Device.loadMem (d : Device) (a n : Nat) : Option (List Byte) × Device :=
  if a + n ≤ 0x20000 ∨ inSram a n ∨ inRegion a n then (some ((List.range n).map (fun i => d.memByte (a + i))), d)
  else if rmBase ≤ a ∧ a < rmBase + hbmSize then (none, (d.accessFault).violation 9 1 a n 0)
  else (none, d.accessFault)

/-! ### JTAG (R460) -/

/-- What a JTAG read shifts out; nothing new where the load faults. -/
def Device.jtagShow (d : Device) (bs : Option (List Byte)) : Device :=
  match bs with
  | some bs => d.setSec { d.sec with jtagOut := bs }
  | none => d

/-- An address of the booth windows. -/
def inWindows (a : Nat) : Bool := decide (0x01000000 ≤ a ∧ a < 0x10000000)

/-- JTAG_DEBUG_ACCESS: run control and register windows at LEVEL 1, memory at LEVEL 2. -/
def Device.jtagAccess (d : Device) (op : Jtag) : Device :=
  let level := if d.flag R.SEC_STAT_DEBUG_OPEN [] then d.get R.SEC_STAT_DEBUG_LEVEL [] else 0
  if d.sec.inReset ∨ level = 0 then d
  else
    match op with
    | .halt => d.setSec { d.sec with jtagHalted := true }
    | .resume => d.setSec { d.sec with jtagHalted := false }
    | .step => d
    | .readReg a h =>
      if inWindows a then
        let (v, d) := d.loadReg a h
        d.jtagShow (some (if h = .full then leBytes 8 v.toNat else leBytes 4 (v.toNat / (if h = .hi then 2 ^ 32 else 1))))
      else d
    | .writeReg a v => if inWindows a then d.ringmasterStore a .full v else d
    | .readMem a n =>
      if level < 2 then d
      else
        let r := d.loadMem a (min n 4096)
        r.2.jtagShow r.1
    | .writeMem a bs => if level < 2 then d else d.storeMem a bs

/-! ### A roll's words (R72 to R76) -/

/-- Issue one word of a roll: the fault code of R91 where it is blocked, else 0. -/
def Device.issueWord (d : Device) (n : Nat) (w : Nat) : Nat × Device :=
  let v := BitVec.ofNat 64 w
  let off := bits w 64 21 * 8
  let b := bits w 85 4
  if b = 15 then
    let r := d.storeReg (.calliope (Fin.ofNat 16 n)) (0x0F200000 + 0x1000 * n + off) Half.full.mask v
    (if r.1 then 2 else 0, r.2)
  else
    let a := (b + 1) * 0x1000000 + off
    if !d.attached n b then (1, d.violation b 5 a v.toNat (4096 + n))
    else
      let r := d.storeReg (.calliope (Fin.ofNat 16 n)) a Half.full.mask v
      (if r.1 then 2 else 0, r.2)

/-- Issue the words of the step at `pc` in table order, the `i`-th next; a blocked one halts the sequencer there, and a fault of
the booth or the device drops the rest (R76, R92, R93). A word that halts its own sequencer lets the rest of the step's words
finish (R90). DESIGN CHOICE (log entry 113): words to different units or booths, which R75 leaves in no defined order, take
effect in table order too. -/
def Device.issueWords (n pc : Nat) : List Nat → Nat → Device → Device
  | [], _, d => d
  | w :: ws, i, d =>
    let st := d.seqState n
    if st = 0 ∨ st = 4 then d
    else
      let (code, d) := d.issueWord n w
      if code = 0 then Device.issueWords n pc ws (i + 1) d
      else if d.seqState n = 0 ∨ d.seqState n = 4 then d
      else d.rollFault n pc code i

/-- CALLIOPE_STEP_ENTRY (R74 to R78, R87): a pending change at a swap point, the words, and the wait. DESIGN CHOICE (log entry
113): a sequencer whose PC is not below the STEPS of the adopted bank, BANK having changed without ENTRY, stays in RUN and
does nothing. -/
def Device.stepEntry (d : Device) (n : Nat) : Device :=
  if d.seqState n ≠ 1 then d
  else
    let d := match d.seqStep n with
      | some s => if s.swap then d.adoptSwap n else d
      | none => d
    match d.seqStep n with
    | none => d
    | some s =>
      let d := d.setSeq n { d.seq n with entered := true }
      let d := Device.issueWords n (d.get R.CAL_STAT_PC [n]) (((d.roll n).words.drop s.wbase).take s.wcount) 0 d
      if d.seqState n = 1 then d.beginWait n else d

end Sys2Proof.Machine
end

