-- ==== Sys2Proof/Machine/MidwayDeliver.lean ====
section
/-! DEFINITION. MIDWAY_DELIVER: a firing reaches the consumer inputs that select its channel, through gate, dead time and
collision count (R346, R347, R82), and what each input does with it (R79, R104, R219, R275, R331, R352, R373, R380, R410). -/

namespace Sys2Proof.Machine

/-- The gate signal of R346 is high. -/
def Device.gateHigh (d : Device) (g : Nat) : Bool :=
  if g = 0 then true
  else if g ≤ 16 then xor (d.pin (g - 1)).filtered (d.flag R.TRG_CTL_POL [g - 1])
  else if g ≤ 24 then bit (d.get R.MW_GATE_GATE []) (g - 17)
  else if g ≤ 28 then d.flag R.MP_STAT_MOVING [g - 25]
  else false

/-- The gate of consumer input `i` lets a firing pass (R346). -/
def Device.gateOpen (d : Device) (i : Nat) : Bool := xor (d.gateHigh (d.get R.MW_CON_GATE [i])) (d.flag R.MW_CON_GATE_INV [i])

/-- A firing now falls within the dead time of the one last accepted at input `i` (R347); while the tick domain is stopped
no tick tells (log entry 57). -/
def Device.inputDead (d : Device) (i : Nat) : Bool :=
  match d.tim.midway.accepted.get none i with
  | some t => d.clockRuns && decide (d.ticks - t < max 1 (d.get R.MW_CON_DEAD [i]))
  | none => false

/-- The channel consumer input `i` selects, if it is in use (R346). -/
def Device.inputChannel (d : Device) (i : Nat) : Option Nat :=
  if i < 512 then
    let ix := [i / 64, i % 64]
    if d.flag R.CAP_SC_CTL_CLOSE_EV_EN ix then some (d.get R.CAP_SC_CTL_CLOSE_EV ix) else none
  else if i < 544 then
    let ix := [(i - 512) / 4, (i - 512) % 4]
    let t := d.palTiming ((i - 512) / 4) ((i - 512) % 4)
    if d.flag R.PAL_CH_CTL_EN ix ∧ (t = 1 ∨ t = 2) then some (d.get R.PAL_CH_CTL_TRIG_EV ix) else none
  else if i < 560 then
    if d.txMode (i - 544) = 2 then some (d.get R.CUR_TX_CTL_TRIG [i - 544]) else none
  else if i < 592 then
    if d.flag R.BK_CTL_EN [i - 560] ∧ d.get R.BK_CTL_SRC [i - 560] = 2 then some (d.get R.BK_CTL_EV [i - 560]) else none
  else if i = 592 then
    if d.flag R.TB_SNAP_CTL_EV_EN [] then some (d.get R.TB_SNAP_CTL_EV []) else none
  else if i < 640 then none
  else if i < 656 then (if i % 4 ≤ 1 then Config.motionInput i else none)
  else if i < 688 then
    if i % 8 = 0 then (d.axis ((i - 656) / 8)).startEv else if i % 8 = 1 then Config.motionInput i else none
  else if i < 768 then none
  else d.seqInput ((i - 768) / 80) ((i - 768) % 80)

/-- What an accepted firing does at consumer input `i`. -/
def Device.inputAct (d : Device) (i : Nat) (f : Firing) : Device :=
  if i < 512 then d.blockClose (i / 64) (i % 64) 2
  else if i < 544 then d.palTrigger ((i - 512) / 4) ((i - 512) % 4)
  else if i < 560 then d.curtainTrigger (i - 544)
  else if i < 592 then d.eventFire (i - 560) f.stamp
  else if i = 592 then d.snapshot
  else if i < 656 then
    let n := (i - 640) / 4
    if i % 4 = 1 then d.ssiRequest n
    else
      let r := d.latchEdge n 2 true d.tt 0
      if r.1 then r.2.homeLatched n d.tt else r.2
  else if i < 688 then (if i % 8 = 0 then d.startInput ((i - 656) / 8) else d.stopInput ((i - 656) / 8))
  else d.seqFiring ((i - 768) / 80) ((i - 768) % 80)

/-- A firing arrives at consumer input `i`: gate, collision, or acceptance (R346, R347). -/
def Device.arriveAt (d : Device) (f : Firing) (i : Nat) : Device :=
  if d.inputChannel i ≠ some f.ch then d
  else if !d.gateOpen i then d.bump R.MW_CON_GATED [i]
  else if d.inputDead i then
    let d := d.bump R.MW_CON_COLL [i]
    if 768 ≤ i then d.bump R.CAL_COLL_COUNT [(i - 768) / 80] else d
  else
    let m := d.tim.midway
    (d.setMidway { m with accepted := m.accepted.put none i (some d.ticks) }).inputAct i f

/-- Firmware 3.x tells Q1 of a firing of a channel MW_WATCH forwards (R304). -/
def Device.forwardFiring (d : Device) (c : Nat) : Device :=
  if d.fwRuns ∧ d.tim.forwarded.contains c then d.appendEvent 1 3 c (leBytes 8 (d.get R.MW_CH_CNT_FIRES [c])) else d

/-- The firing may reach its consumers: on the asynchronous path at once, on the resynchronised one in a later tick than it
was made (R343). -/
def Device.deliverable (d : Device) (f : Firing) : Bool := !f.resync || (d.clockRuns && decide (f.tick < d.ticks))

/-- MIDWAY_DELIVER: the first deliverable firing reaches every consumer input that selects its channel. -/
def Device.midwayDeliver (d : Device) : Device :=
  match d.tim.midway.flight.find? d.deliverable with
  | none => d
  | some f =>
    let m := d.tim.midway
    let d := d.setMidway { m with flight := m.flight.erase f }
    let d := d.forwardFiring f.ch
    (List.range 2048).foldl (fun (d : Device) i => d.arriveAt f i) d

end Sys2Proof.Machine
end

