-- ==== Sys2Proof/Machine/CmdCapture.lean ====
section
/-! DEFINITION. The firmware commands that stage a port's configuration: STREAM_RX, the capture commands (group 0x06), Swatch
and Mordant (group 0x07). -/

namespace Sys2Proof.Machine

/-! ### STREAM_RX -/

/-- A report that joins or leaves a group, as firmware sends it. -/
def Device.groupReport (d : Device) (p : Nat) (ipv6 srcMatch join : Bool) (dst src : Nat) : List Byte :=
  d.groupRecord p ipv6 srcMatch (if srcMatch then (if join then 5 else 6) else (if join then 4 else 3)) dst src

/-- Firmware joins or leaves the group of an entry, if its address is one. -/
def Device.groupChange (d : Device) (p : Nat) (ipv6 srcMatch join : Bool) (dst src : Nat) : Device :=
  if isMulticast ipv6 dst then d.packetTx p (d.groupReport p ipv6 srcMatch join dst src) d.tt else d

def streamRxSpec : CmdSpec := { opcode := 0x0504, minLen := 48, modes := [1, 2] }

/-- STREAM_RX: a stream table entry set or cleared, and its multicast group joined or left. -/
def Device.streamRx (e : Entry) (d : Device) : Reply :=
  let p := e.u 12 1
  let k := e.u 13 1
  let c := d.portCheck e
  if c ≠ 0 then d.no c
  else if 63 < k ∨ 1 < e.u 14 1 ∨ 3 < e.u 15 1 ∨ 15 < e.u 16 1 ∨ 7 < e.u 17 1 ∨ 63 < e.u 54 1 ∨ e.u 55 1 ≠ 0 ∨ 4095 < e.u 58 2
      ∨ e.u 60 4 ≠ 0 then d.no stBAD_FIELD
  else
    let ix := [p, k]
    let fl := e.u 16 1
    let mg := e.u 17 1
    let set := decide (e.u 14 1 = 1)
    let half := fun (f : Fld) (off : Nat) => stageField f ix (e.u off 8)
    let ws := if !set then [stageField R.PP_SM_CTL_VALID ix 0]
      else
        [stageFields R.PP_SM_CTL ix [(R.PP_SM_CTL_VALID, 1), (R.PP_SM_CTL_KIND, e.u 15 1), (R.PP_SM_CTL_SRC_MATCH, fl / 2 % 2),
            (R.PP_SM_CTL_VLAN_MATCH, fl / 4 % 2), (R.PP_SM_CTL_VID, e.u 58 2), (R.PP_SM_CTL_IPV6, fl % 2),
            (R.PP_SM_CTL_EXT_ID, fl / 8 % 2), (R.PP_SM_CTL_UDP_DST, e.u 18 2)],
          half R.PP_SM_DST_LO_DST 20, half R.PP_SM_DST_HI_DST 28, half R.PP_SM_SRC_LO_SRC 36, half R.PP_SM_SRC_HI_SRC 44,
          stageFields R.PP_SM_MERGE ix [(R.PP_SM_MERGE_EN, mg % 2), (R.PP_SM_MERGE_SECONDARY, mg / 2 % 2),
            (R.PP_SM_MERGE_PAIR, mg / 4 % 2), (R.PP_SM_MERGE_PARTNER, e.u 54 1), (R.PP_SM_MERGE_HOLD, e.u 56 2)]]
    let r := d.stageCmd e (e.u 52 2) false { opcode := 0x0504, key := [], writes := ws }
    if r.status ≠ 0 then r
    else
      let d' := r.dev
      let wide := fun (lo hi : Fld) => d.get hi ix * 2 ^ 64 + d.get lo ix
      let was := d.flag R.PP_SM_CTL_VALID ix
      let d' := if was then
          d'.groupChange p (d.flag R.PP_SM_CTL_IPV6 ix) (d.flag R.PP_SM_CTL_SRC_MATCH ix) false
            (wide R.PP_SM_DST_LO_DST R.PP_SM_DST_HI_DST) (wide R.PP_SM_SRC_LO_SRC R.PP_SM_SRC_HI_SRC)
        else d'
      let d' := if set then d'.groupChange p (bit fl 0) (bit fl 1) true (e.u 20 16) (e.u 36 16) else d'
      { r with dev := d' }

/-! ### Group 0x06 -/

def stRING_SMALL : Nat := 0x0610
def stFORMAT : Nat := 0x0611
def stROLL_HELD : Nat := 0x0211

/-- What the capture commands check first: PORT, STREAM, the borrow, and who may (R213). -/
def Device.capCheck (d : Device) (e : Entry) : Nat := if 63 < e.u 13 1 then stBAD_FIELD else d.portCheck e

def capQuerySpec : CmdSpec := { opcode := 0x0600, minLen := 2, maxLen := 2 }

/-- CAP_QUERY. -/
def Device.capQuery (e : Entry) (d : Device) : Reply :=
  let ix := [e.u 12 1, e.u 13 1]
  if 7 < e.u 12 1 ∨ 63 < e.u 13 1 then d.no stBAD_FIELD
  else if d.lent (e.u 12 1) then d.no stBUSY
  else
    let fl := d.get R.CAP_SC_CTL_EN ix + 2 * d.get R.CAP_SC_STAT_FRAME_OPEN ix + 4 * d.get R.CAP_SC_STAT_RETIRING ix
      + 8 * d.get R.CAP_SC_STAT_GEN ix + 16 * d.get R.CAP_SC_Q_DIRECT ix
    d.ok (layout [(1, fl), (1, d.get R.CAP_SC_CTL_FRAMING ix), (2, d.get R.CAP_SC_STAT_FREE ix), (2, d.get R.CAP_SC_STAT_NEXT_SLOT ix),
      (2, 0), (8, d.get R.CAP_SC_FRAME_NEXT ix), (1, d.get R.CAP_LF_WORDS ix), (1, d.get R.CAP_LF_LINES ix), (2, 0),
      (4, d.get R.CAP_SC_GEOM_STRIDE ix * 64), (8, d.get R.CAP_SC_SLOT_SLOT_SIZE ix * 65536)])

/-- A word entry of a roll: booth, register offset, value (R72). -/
def rollWord (booth off value : Nat) : List Byte := leBytes 8 value ++ leBytes 8 (off / 8 + booth * 2 ^ 21)

/-- A step entry of a roll from its low and high halves (R74). -/
def rollStep (lo hi : Nat) : List Byte := leBytes 8 lo ++ leBytes 8 hi

/-- The capture roll firmware 3.x builds for a COMMAND stream, as chapter 3's worked roll: wait for TRIG_EV, open a frame
and count its lines, close it, or truncate it when the timeout passes first. -/
def captureRoll (p k trig lines timeoutUs : Nat) : List Byte :=
  let cmd := fun (op : Nat) => rollWord p (R.CAP_CMD.base - 0x01000000) (k + op * 256)
  let tout := decide (timeoutUs ≠ 0)
  let words := rollWord 15 0x040 lines ++ rollWord 15 0x0A0 (timeoutUs * 1000 * 65536) ++ cmd 1 ++ cmd 2 ++ cmd 3
  let steps := rollStep (1 + 2 ^ 55 + 2 ^ 59 + trig % 4 * 2 ^ 62) (trig / 4 + 2 ^ 62)
    ++ (if tout then rollStep (2 + 3 * 2 ^ 12 + 2 * 2 ^ 24 + 0x80 * 2 ^ 27 + 2 ^ 44 + 2 * 2 ^ 55 + 2 * 2 ^ 59) (2 ^ 22)
        else rollStep (2 + 2 ^ 44 + 2 * 2 ^ 55 + 2 * 2 ^ 59) 0)
    ++ rollStep (3 * 2 ^ 44 + 2 ^ 55) 0 ++ rollStep (4 * 2 ^ 44 + 2 ^ 55) 0
  let head := layout [(2, 1), (2, 4), (2, 5), (2, 0), (4, 0), (4, 0)] ++ zeros 128 ++ leBytes 4 (2 + k * 256)
  let im := fit 252 head ++ zeros 4 ++ words ++ steps
  patch im 252 (leBytes 4 (crc32c im))

/-- Firmware loads a roll of its own into the standby bank of sequencer `n`. -/
def Device.loadRoll (d : Device) (n : Nat) (im : List Byte) : Device :=
  let d := d.hbmWrite imageBuffer im
  let d := d.put R.CAL_LD_ADDR_ADDR [] (rmBase + imageBuffer)
  ((d.put R.CAL_LD_CTL_SEQ [] n).loadGo).loadDone

def capStreamSpec : CmdSpec := { opcode := 0x0601, minLen := 40, maxLen := 40, modes := [1, 2] }

/-- The allocation a handle names, for a command that needs one of a kind: the status that refuses it, or the allocation. -/
def Device.allocFor (d : Device) (e : Entry) (h kind : Nat) : Nat × Option Alloc :=
  match d.alloc h with
  | none => (stBAD_FIELD, none)
  | some x => if !d.mayAct e.via (.alloc h) then (stNOT_OWNER, none) else (if x.kind = kind then 0 else stBAD_FIELD, some x)

/-- SLOT_SIZE in bytes that R227 needs. -/
def slotBytes (stride lines : Nat) : Nat := roundUp (lines * stride + roundUp (lines * 8) 64 + 128) 65536

/-- The writes of CAP_STREAM. -/
def capWrites (e : Entry) (base : Nat) : List MaskedWrite :=
  let ix := [e.u 12 1, e.u 13 1]
  let fl := e.u 15 1
  let stride := roundUp (e.u 20 4) 64
  [stageFields R.CAP_SC_CTL ix [(R.CAP_SC_CTL_FRAMING, e.u 14 1), (R.CAP_SC_CTL_FMT_CHECK, fl % 2), (R.CAP_SC_CTL_TRIG_EN, fl / 2 % 2),
      (R.CAP_SC_CTL_TRIG_PROG, e.u 34 1), (R.CAP_SC_CTL_CLOSE_COUNT, fl / 8 % 2), (R.CAP_SC_CTL_CLOSE_TIME, fl / 16 % 2),
      (R.CAP_SC_CTL_CLOSE_EV_EN, fl / 32 % 2), (R.CAP_SC_CTL_CLOSE_EV, e.u 35 1)],
    stageFields R.CAP_SC_FMT ix [(R.CAP_SC_FMT_PIXFMT, e.u 16 4), (R.CAP_SC_FMT_LINE_LEN, e.u 20 4)],
    stageFields R.CAP_SC_GEOM ix [(R.CAP_SC_GEOM_LINES, e.u 24 4), (R.CAP_SC_GEOM_STRIDE, stride / 64)],
    stageField R.CAP_SC_RING_BASE ix base,
    stageFields R.CAP_SC_SLOT ix [(R.CAP_SC_SLOT_SLOT_SIZE, slotBytes stride (e.u 24 4) / 65536), (R.CAP_SC_SLOT_SLOTS, e.u 32 2 - 1)],
    stageField R.CAP_SC_TIME_BLOCK_NS ix (e.u 40 4 * 1000),
    stageFields R.CAP_SC_Q ix [(R.CAP_SC_Q_QUEUE, e.u 44 4), (R.CAP_SC_Q_DIRECT, fl / 4 % 2)]]

/-- A general queue number. -/
def generalQueue (q : Nat) : Bool := decide (1024 ≤ q ∧ q < 2 ^ 20)

/-- CAP_STREAM; FRAMING 1 also builds and starts the port's roll. -/
def Device.capStream (e : Entry) (d : Device) : Reply :=
  let p := e.u 12 1
  let framing := e.u 14 1
  let lines := e.u 24 4
  let c := d.capCheck e
  let size := slotBytes (roundUp (e.u 20 4) 64) lines
  if c ≠ 0 then d.no c
  else if 2 < framing ∨ 63 < e.u 15 1 ∨ e.u 20 4 = 0 ∨ 262144 < e.u 20 4 ∨ lines = 0 ∨ (if framing = 2 then 1048576 else 65536) < lines
      ∨ e.u 32 2 = 0 ∨ 1024 < e.u 32 2 ∨ 31 < e.u 34 1 ∨ 4294967 < e.u 40 4 ∨ !generalQueue (e.u 44 4) ∨ e.u 51 1 ≠ 0 then d.no stBAD_FIELD
  else if (pixFmt (e.u 16 4)).isNone then d.no stFORMAT
  else if !d.mayQueue e.via (e.u 44 4) then d.no stNOT_OWNER
  else
    match d.allocFor e (e.u 28 4) 1 with
    | (st, none) => d.no st
    | (st, some x) =>
      if st ≠ 0 then d.no st
      else if x.size < e.u 32 2 * size then d.no stRING_SMALL
      else if framing = 1 ∧ (d.seq p).hostRoll then d.no stROLL_HELD
      else if framing = 1 ∧ (d.flag R.CAL_LD_CTL_BUSY [] ∨ d.swapPending p) then d.no stBUSY
      else
        let d := if framing = 1 then d.loadRoll p (captureRoll p (e.u 13 1) (e.u 50 1) lines (e.u 36 4)) else d
        let run := if framing = 1 then
            [stageFields R.CAL_CTL [p] [(R.CAL_CTL_BANK, b2n (d.standby p)), (R.CAL_CTL_ENTRY, 0), (R.CAL_CTL_RUN, 1)]]
          else []
        let pl := layout [(4, roundUp (e.u 20 4) 64), (4, 0), (8, size)]
        d.stageCmd e (e.u 48 2) false { opcode := 0x0601, key := [], writes := capWrites e x.off ++ run, payload := pl }

def capEnableSpec : CmdSpec := { opcode := 0x0602, minLen := 6, maxLen := 6, modes := [1, 2] }

/-- CAP_ENABLE. -/
def Device.capEnable (e : Entry) (d : Device) : Reply :=
  let c := d.capCheck e
  if c ≠ 0 then d.no c
  else if 1 < e.u 14 1 then d.no stBAD_FIELD
  else
    d.stageCmd e (e.u 16 2) false
      { opcode := 0x0602, key := [], writes := [stageField R.CAP_SC_CTL_EN [e.u 12 1, e.u 13 1] (e.u 14 1)] }

def capReleaseSpec : CmdSpec := { opcode := 0x0603, minLen := 4, maxLen := 4, modes := [1, 2] }

/-- CAP_RELEASE. -/
def Device.capReleaseCmd (e : Entry) (d : Device) : Reply :=
  let p := e.u 12 1
  let k := e.u 13 1
  let s := e.u 14 2
  let gen := bit s 15
  let c := d.capCheck e
  if c ≠ 0 then d.no c
  else if bits s 10 5 ≠ 0 ∨ !d.flag R.CAP_SC_Q_DIRECT [p, k] ∨ d.slotState p k gen (s % 1024) ≠ 2 then d.no stBAD_FIELD
  else (d.capRelease p k gen (s % 1024)).ok []

/-- Firmware's sample of a stream's RC counters, and of the booth's, into its totals. -/
def Device.sampleCap (d : Device) (p k : Nat) : Device :=
  let x := d.cap p k
  let ix := [p, k]
  let b := d.bth p
  let d := d.setBth p { b with totCmdBad := b.totCmdBad + d.get R.CAP_STAT_CMD_BAD [p], totRelBad := b.totRelBad + d.get R.CAP_STAT_REL_BAD [p] }
  let d := d.setCap p k { x with totLost := x.totLost + d.get R.CAP_SC_LOST_LOST_WORDS ix
                                 totDamaged := x.totDamaged + d.get R.CAP_SC_LOST_DAMAGED_LINES ix
                                 totOrphan := x.totOrphan + d.get R.CAP_SC_DROP_ORPHAN ix
                                 totThrottled := x.totThrottled + d.get R.CAP_SC_DROP_THROTTLED ix
                                 totNoBuffer := x.totNoBuffer + d.get R.CAP_SC_DROP_NO_BUFFER ix }
  let d := (d.wr R.CAP_SC_LOST ix 0).wr R.CAP_SC_DROP ix 0
  (d.put R.CAP_STAT_CMD_BAD [p] 0).put R.CAP_STAT_REL_BAD [p] 0

def capCountersSpec : CmdSpec := { opcode := 0x0604, minLen := 3, maxLen := 3 }

/-- CAP_COUNTERS. -/
def Device.capCounters (e : Entry) (d : Device) : Reply :=
  let p := e.u 12 1
  let k := e.u 13 1
  let c := d.capCheck e
  if c ≠ 0 then d.no c
  else if 1 < e.u 14 1 then d.no stBAD_FIELD
  else
    let d := d.sampleCap p k
    let x := d.cap p k
    let b := d.bth p
    let pl := layout [(8, x.totLost), (4, x.totDamaged), (4, x.totOrphan), (4, x.totThrottled), (4, x.totNoBuffer),
      (2, b.totCmdBad), (2, b.totRelBad), (4, 0)]
    let d := if e.u 14 1 = 1 then
        let d := d.setBth p { b with totCmdBad := 0, totRelBad := 0 }
        d.setCap p k { x with totLost := 0, totDamaged := 0, totOrphan := 0, totThrottled := 0, totNoBuffer := 0 }
      else d
    d.ok pl

/-! ### Group 0x07 -/

/-- What the Swatch commands check first, PORT and CONTEXT given. -/
def Device.swCheck (d : Device) (e : Entry) (p c : Nat) : Nat :=
  if 7 < p ∨ 7 < c then stBAD_FIELD
  else if !d.portPresent p then stNOT_PRESENT
  else if d.lent p then stBUSY
  else if !d.mayPort e.via p then stNOT_OWNER
  else 0

def swConfigSpec : CmdSpec := { opcode := 0x0700, needsIn := true, modes := [1, 2] }

/-- RES_SIZE in bytes for a context of stream `k` with this MAP_SHIFT (R256). -/
def Device.recordBytes (d : Device) (p k : Nat) (shift : Nat) : Nat :=
  let bpp := match pixFmt (d.get R.CAP_SC_FMT_PIXFMT [p, k]) with
    | some f => max 1 f.bpp
    | none => 8
  let cell := 8 * 2 ^ shift
  50944 + ceilDiv (d.get R.CAP_SC_FMT_LINE_LEN [p, k] * 8 / bpp) cell * ceilDiv (d.get R.CAP_SC_GEOM_LINES [p, k]) cell

/-- The writes of SW_CONFIG. -/
def swWrites (b : List Byte) (base size : Nat) : List MaskedWrite :=
  let f := fieldAt b
  let ix := [f 0 1, f 1 1]
  let fl := f 3 1
  [stageFields R.SW_CX_CTL ix [(R.SW_CX_CTL_EN, fl % 2), (R.SW_CX_CTL_STREAM, f 2 1), (R.SW_CX_CTL_CMP_EN, fl / 2 % 2),
      (R.SW_CX_CTL_HIST_EN, fl / 4 % 2), (R.SW_CX_CTL_MAP_EN, fl / 8 % 2), (R.SW_CX_CTL_MAP_SHIFT, f 4 1), (R.SW_CX_CTL_MODEL, f 5 1)],
    stageField R.SW_CX_TOL_TOL0 ix (f 8 6), stageField R.SW_CX_RES_RES_BASE ix base,
    stageFields R.SW_CX_RESG ix [(R.SW_CX_RESG_RES_SIZE, size / 65536), (R.SW_CX_RESG_RES_COUNT, f 14 2)],
    stageField R.SW_CX_TLINE_TLINE ix (f 32 8),
    stageFields R.SW_CX_2110 ix [(R.SW_CX_2110_NPKT, f 28 4), (R.SW_CX_2110_CMAX, f 58 1), (R.SW_CX_2110_VRX_FULL, f 60 2)],
    stageField R.SW_CX_TFRM_TFRAME ix (f 40 8),
    stageFields R.SW_CX_LIM ix [(R.SW_CX_LIM_LATE_LIMIT, f 20 4), (R.SW_CX_LIM_MM_LIMIT, f 24 4)]]

/-- SW_CONFIG. -/
def Device.swConfig (e : Entry) (d : Device) : Reply :=
  let b := d.input e
  let f := fieldAt b
  let p := f 0 1
  let c := f 1 1
  let fl := f 3 1
  let st := d.swCheck e p c
  let size := roundUp (d.recordBytes p (f 2 1) (f 4 1)) 65536
  let deliver := bit fl 4
  if e.inLen ≠ 64 then d.no stBAD_LENGTH
  else if st ≠ 0 then d.no st
  else if 63 < f 2 1 ∨ 31 < fl ∨ 3 < f 4 1 ∨ 4 < f 5 1 ∨ 1024 < f 14 2 ∨ 2 ^ 24 ≤ f 28 4 ∨ 2 ^ 48 ≤ f 32 8 ∨ 2 ^ 48 ≤ f 40 8
      ∨ f 59 1 ≠ 0 ∨ f 62 2 ≠ 0 ∨ (deliver ∧ f 56 2 = 0) then d.no stBAD_FIELD
  else
    match d.allocFor e (f 16 4) 3 with
    | (r, none) => d.no r
    | (r, some x) =>
      if r ≠ 0 ∨ x.size < 2 * f 14 2 * size then d.no stBAD_FIELD
      else if deliver ∧ !d.netAdmits false true .queue (f 48 8) (f 56 2 * size) then d.no stNET_REFUSED
      else
        let y := d.bth p
        let rest := y.deliver.filter (fun z => decide (z.1 ≠ c))
        let r := d.stageCmd e (f 6 2) false { opcode := 0x0700, key := [], writes := swWrites b x.off size, payload := leBytes 8 size }
        if r.status ≠ 0 then r
        else
          let y := r.dev.bth p
          { r with dev := r.dev.setBth p { y with deliver := if deliver then rest ++ [(c, f 48 8, f 56 2)] else rest } }

def swReferenceSpec : CmdSpec := { opcode := 0x0701, minLen := 28, maxLen := 28, modes := [1, 2] }

/-- SW_REFERENCE. -/
def Device.swReference (e : Entry) (d : Device) : Reply :=
  let p := e.u 12 1
  let c := e.u 13 1
  let ix := [p, c]
  let st := d.swCheck e p c
  let job := fun (ws : List MaskedWrite) => d.stageCmd e (e.u 16 2) false { opcode := 0x0701, key := [], writes := ws }
  if st ≠ 0 then d.no st
  else if 1 < e.u 14 1 ∨ e.u 15 1 ≠ 0 then d.no stBAD_FIELD
  else if e.u 14 1 = 1 then job [stageField R.SW_CX_CTL_REF_VALID ix 0]
  else
    match d.allocFor e (e.u 20 4) 2 with
    | (r, none) => d.no r
    | (r, some x) =>
      let k := d.get R.SW_CX_CTL_STREAM ix
      if r ≠ 0 ∨ e.u 32 4 % 64 ≠ 0 ∨ e.u 32 4 < d.get R.CAP_SC_FMT_LINE_LEN [p, k] ∨ 262144 < e.u 32 4 ∨ e.u 36 4 = 0 ∨ 1048576 < e.u 36 4
      then d.no 0x0710
      else if e.u 24 8 % 64 ≠ 0 ∨ x.size < e.u 24 8 + e.u 32 4 * e.u 36 4 then d.no stBAD_FIELD
      else
        job [stageField R.SW_CX_REF_REF_BASE ix (x.off + e.u 24 8),
          stageFields R.SW_CX_REFG ix [(R.SW_CX_REFG_REF_STRIDE, e.u 32 4 / 64), (R.SW_CX_REFG_REF_LINES, e.u 36 4)],
          stageField R.SW_CX_CTL_REF_VALID ix 1]

def swRegionSpec : CmdSpec := { opcode := 0x0702, minLen := 18, maxLen := 18, modes := [1, 2] }

/-- SW_REGION. -/
def Device.swRegion (e : Entry) (d : Device) : Reply :=
  let p := e.u 12 1
  let c := e.u 13 1
  let r := e.u 14 1
  let st := d.swCheck e p c
  if st ≠ 0 then d.no st
  else if 15 < r ∨ 1 < e.u 15 1 ∨ 65535 < e.u 20 4 ∨ 65535 < e.u 24 4 then d.no stBAD_FIELD
  else
    let roi := stageFields R.SW_CX_ROI [p, c, r]
      [(R.SW_CX_ROI_X0, e.u 16 2), (R.SW_CX_ROI_Y0, e.u 18 2), (R.SW_CX_ROI_W, e.u 20 4), (R.SW_CX_ROI_H, e.u 24 4)]
    let m := 2 ^ (R.SW_CX_CTL_ROI_EN.lo + r)
    let on : MaskedWrite := { addr := R.SW_CX_CTL.addr [p, c], mask := BitVec.ofNat 64 m, value := BitVec.ofNat 64 (e.u 15 1 * m) }
    d.stageCmd e (e.u 28 2) false { opcode := 0x0702, key := [], writes := [roi, on] }

def swResultSpec : CmdSpec := { opcode := 0x0703, needsIn := true, needsOut := true }

/-- SW_RESULT. -/
def Device.swResult (e : Entry) (d : Device) : Reply :=
  let b := d.input e
  let p := fieldAt b 0 1
  let c := fieldAt b 1 1
  let s := fieldAt b 2 2
  let gen := bit s 15
  let st := d.swCheck e p c
  let k := d.get R.SW_CX_CTL_STREAM [p, c]
  let n := d.recordBytes p k (d.get R.SW_CX_CTL_MAP_SHIFT [p, c])
  if e.inLen ≠ 4 then d.no stBAD_LENGTH
  else if st ≠ 0 then d.no st
  else if bits s 10 5 ≠ 0 then d.no stBAD_FIELD
  else if e.outLen < n then d.no stBAD_LENGTH
  else if d.slotState p k gen (s % 1024) ≠ 2 then d.no 0x0711
  else
    let size := d.get R.SW_CX_RESG_RES_SIZE [p, c] * 65536
    let a := d.get R.SW_CX_RES_RES_BASE [p, c] + (b2n gen * d.get R.SW_CX_RESG_RES_COUNT [p, c] + s % 1024) * size
    { status := 0, out := d.hbmRead a n, dev := d }

def mdConfigSpec : CmdSpec := { opcode := 0x0704, minLen := 40, maxLen := 40, modes := [1, 2] }

/-- The builder's parameters are well-formed. -/
def mdForm (e : Entry) : Bool :=
  decide (1 ≤ e.u 14 1 ∧ e.u 14 1 ≤ 64 ∧ 1 ≤ e.u 15 1 ∧ e.u 24 2 ≤ 8192) && generalQueue (e.u 36 4)

/-- The writes that set the builder, EN among them (log entry 59). -/
def mdWrites (e : Entry) (base : Nat) : List MaskedWrite :=
  [stageFields R.MB_CTL [] [(R.MB_CTL_EN, 1), (R.MB_CTL_MAX_ENTRIES, if e.u 24 2 = 0 then 1024 else e.u 24 2),
      (R.MB_CTL_EMPTY_SKIP, e.u 13 1 / 2)],
    stageField R.MB_INTERVAL_US [] (if e.u 28 4 = 0 then 10000 else e.u 28 4),
    stageField R.MB_RING_BASE [] base, stageField R.MB_RINGN_SLOTS [] (e.u 14 1)]

/-- MD_CONFIG. -/
def Device.mdConfig (e : Entry) (d : Device) : Reply :=
  let p := e.u 12 1
  let set := bit (e.u 13 1) 0
  let st := if p = 0xFF then 0 else if 7 < p then stBAD_FIELD else if !d.portPresent p then stNOT_PRESENT
    else if d.lent p then stBUSY else if !d.mayPort e.via p then stNOT_OWNER else 0
  let sealed := if p = 0xFF then [] else [stageField R.MS_SEAL_EN_EN [p] (e.u 16 8)]
  if st ≠ 0 then d.no st
  else if 3 < e.u 13 1 ∨ e.u 26 2 ≠ 0 ∨ e.u 42 2 ≠ 0 then d.no stBAD_FIELD
  else if !set then d.stageCmd e (e.u 40 2) false { opcode := 0x0704, key := [], writes := sealed }
  else if !mdForm e then d.no stBAD_FIELD
  else if !e.via.principal then d.no stNOT_OWNER
  else
    match d.alloc (e.u 32 4) with
    | none => d.no stBAD_FIELD
    | some x =>
      if x.size < e.u 14 1 * manifestSlot then d.no stBAD_FIELD
      else if !d.netAdmits false true .queue (e.u 44 8) (e.u 15 1 * manifestSlot) then d.no stNET_REFUSED
      else
        let r := d.stageCmd e (e.u 40 2) false { opcode := 0x0704, key := [], writes := mdWrites e x.off ++ sealed }
        if r.status ≠ 0 then r
        else { r with dev := r.dev.setMb { r.dev.mb with hostAddr := e.u 44 8, hostCount := e.u 15 1, queue := e.u 36 4 } }

end Sys2Proof.Machine
end

