-- ==== Sys2Proof/Machine/CmdPalette.lean ====
section
/-! DEFINITION. The Palette commands of firmware 3.x, group 0x08. -/

namespace Sys2Proof.Machine

/-- What every Palette command checks first: PORT and CHANNEL name an emitter, and the mailbox may use the port. -/
def Device.palCheck (d : Device) (v : Via) (p c : Nat) : Nat :=
  if 7 < p ∨ 3 < c then stBAD_FIELD
  else if !d.portPresent p ∨ !d.emitPresent p then stNOT_PRESENT
  else if d.lent p then stBUSY
  else if !d.mayPort v p then stNOT_OWNER
  else 0

/-- PORT names no emitter, or one that is present (R5). -/
def Device.emitThere (d : Device) (p : Nat) : Bool := decide (7 < p) || (d.portPresent p && d.emitPresent p)

def palQuerySpec : CmdSpec := { opcode := 0x0800, minLen := 2, maxLen := 2 }

/-- PAL_QUERY. -/
def Device.palQuery (e : Entry) (d : Device) : Reply :=
  let ix := [e.u 12 1, e.u 13 1]
  if 7 < e.u 12 1 ∨ 3 < e.u 13 1 then d.no stBAD_FIELD
  else if d.lent (e.u 12 1) then d.no stBUSY
  else
    d.ok (layout [(1, d.get R.PAL_CH_CTL_EN ix + 2 * d.get R.PAL_CH_STAT_EMITTING ix), (7, 0), (8, d.get R.PAL_CH_FRAME_NEXT ix),
      (8, d.get R.PAL_CH_NEXT_TT_S ix), (4, d.get R.PAL_CH_STAT_EPOCH ix)])

def palConfigSpec : CmdSpec := { opcode := 0x0801, needsIn := true, modes := [1, 2] }

/-- Staged writes of consecutive registers from a byte image, W1S and read-only bits left out. -/
def stageImage (base : Nat) (bs : List Byte) : List MaskedWrite :=
  (List.range (bs.length / 8)).flatMap (fun i =>
    match findReg (base + 8 * i) with
    | some (row, ix) => [stageWord row ix (BitVec.ofNat 64 (fieldAt bs (8 * i) 8))]
    | none => [])

/-- The eight 75 % bars as bits R, G, B (log entry 60). -/
def barBits : List (Nat × Nat × Nat) :=
  [(1, 1, 1), (1, 1, 0), (0, 1, 1), (0, 1, 0), (1, 0, 1), (1, 0, 0), (0, 0, 1), (0, 0, 0)]

/-- Round the quotient to the nearest integer. -/
def roundDiv (a b : Int) : Int := (2 * a + b) / (2 * b)

/-- A bar's colour in a format, 16 bits to a channel: BT.709 narrow range for YCbCr, full range for RGB and Mono. -/
def barColour (f : PixFmt) (c : Nat × Nat × Nat) : Nat :=
  let top : Int := 2 ^ f.depth - 1
  let s : Int := 2 ^ (f.depth - 8)
  let r : Int := c.1
  let g : Int := c.2.1
  let b : Int := c.2.2
  let luma := 2126 * r + 7152 * g + 722 * b
  let full := fun (v : Int) => (roundDiv (3 * top * v) 4).toNat
  match f.family with
  | 0 => (roundDiv (3 * top * luma) 40000).toNat
  | 1 => full r + full g * 2 ^ 16 + full b * 2 ^ 32
  | _ =>
    let y := 16 * s + roundDiv (219 * s * 3 * luma) 40000
    let cb := 128 * s + roundDiv (224 * s * 3 * (10000 * b - luma)) (4 * 18556)
    let cr := 128 * s + roundDiv (224 * s * 3 * (10000 * r - luma)) (4 * 15748)
    y.toNat + cb.toNat * 2 ^ 16 + cr.toNat * 2 ^ 32

/-- The image of PAL_CONFIG after firmware has filled in what FLAGS asks for. -/
def palImage (im : List Byte) (flags : Nat) : List Byte :=
  let num := max 1 (fieldAt im 0x20 4)
  let im := if bit flags 0 then patch im 0x40 (leBytes 8 (standardTro false (fieldAt im 0x10 4 % 2 ^ 17) (fieldAt im 0x24 4 * 1000000000 * 65536 / num)))
    else im
  if bit flags 1 then
    match pixFmt (fieldAt im 8 4) with
    | some f => patch im 0xA8 (barBits.flatMap (fun c => leBytes 8 (barColour f c)))
    | none => im
  else im

/-- PAL_CONFIG. -/
def Device.palConfig (e : Entry) (d : Device) : Reply :=
  let b := d.input e
  let p := fieldAt b 0 1
  let c := fieldAt b 1 1
  let fl := fieldAt b 8 8
  let st := d.palCheck e.via p c
  let im := palImage (fit 240 (b.drop 16)) fl
  let ix := [p, c]
  if e.inLen ≠ 256 then d.no stBAD_LENGTH
  else if st ≠ 0 then d.no st
  else if 3 < fl then d.no stBAD_FIELD
  else
    let ws := (stageImage (R.PAL_CH_CTL.addr ix) im).map (fun w =>
      if w.addr = R.PAL_CH_CTL.addr ix then
        { w with mask := w.mask &&& ~~~ R.PAL_CH_CTL_EN.mask, value := w.value &&& ~~~ R.PAL_CH_CTL_EN.mask } else w)
    let n := d.overlay ws
    let store := decide (n.get R.PAL_CH_CTL_SRC ix = 0)
    let src := d.allocFor e (fieldAt b 4 4) 1
    let size := (n.get R.PAL_CH_SRCG_SRC_FRAMES ix + 1) * (n.get R.PAL_CH_SRCG_FSIZE ix * 65536)
    let base := n.get R.PAL_CH_SRC_SRC_BASE ix
    if store ∧ src.1 ≠ 0 then d.no src.1
    else if store ∧ !(match src.2 with | some x => decide (x.off ≤ base ∧ base + size ≤ x.off + x.size) | none => false) then d.no 0x0811
    else if !kindMode (n.palKind p c) (d.pmode p) then d.no 0x0812
    else if !n.palRateFits p then d.no 0x0810
    else d.stageCmd e (fieldAt b 2 2) false { opcode := 0x0801, key := [], writes := ws }

def palEnableSpec : CmdSpec := { opcode := 0x0802, minLen := 28, maxLen := 28, modes := [1, 2] }

/-- PAL_ENABLE. -/
def Device.palEnable (e : Entry) (d : Device) : Reply :=
  let p := e.u 12 1
  let c := e.u 13 1
  let st := d.palCheck e.via p c
  if st ≠ 0 then d.no st
  else if 1 < e.u 14 1 ∨ 3 < e.u 15 1 then d.no stBAD_FIELD
  else
    let ws := (if bit (e.u 15 1) 0 then [stageField R.PAL_CH_START_START [p, c] (e.u 24 8)] else [])
      ++ [stageField R.PAL_CH_CTL_EN [p, c] (e.u 14 1)]
    let dl := if bit (e.u 15 1) 1 then some (BitVec.ofNat 64 (e.u 32 8)) else none
    let txn := e.u 16 2
    d.stageCmd e txn false
      { opcode := 0x0802, key := [], writes := ws, payload := if txn = 0 then [BitVec.ofNat 8 p, BitVec.ofNat 8 c] else [], deadline := dl }

/-- PAL_ENABLE's payload once adopted: EPOCH, the first frame's S and its number. -/
def Device.palEnabled (d : Device) (p c : Nat) : List Byte :=
  layout [(4, d.epoch), (4, 0), (8, d.get R.PAL_CH_NEXT_TT_S [p, c]), (8, d.get R.PAL_CH_FRAME_NEXT [p, c])]

def palInjectSpec : CmdSpec := { opcode := 0x0803, minLen := 44, modes := [1, 2] }

/-- PAL_INJECT. -/
def Device.palInject (e : Entry) (d : Device) : Reply :=
  let p := e.u 12 1
  let c := e.u 13 1
  let ix := [p, c]
  let st := d.palCheck e.via p c
  if st ≠ 0 then d.no st
  else if 63 < e.u 14 1 ∨ 63 < e.u 15 1 ∨ 1 < e.u 16 1 ∨ e.u 17 3 ≠ 0 ∨ 2 ^ 31 ≤ e.u 20 4 ∨ 2 ^ 40 ≤ e.u 24 8 ∨ e.u 56 8 ≠ 0 then d.no stBAD_FIELD
  else
    let ctl := stageFields R.PAL_CH_INJ_CTL ix [(R.PAL_CH_INJ_CTL_KINDS, e.u 14 1), (R.PAL_CH_INJ_CTL_RANDOM, e.u 15 1),
      (R.PAL_CH_INJ_CTL_TARGET, e.u 16 1), (R.PAL_CH_INJ_CTL_INJ_SEED, e.u 20 4)]
    let n := fun (k v : Nat) => stageFields R.PAL_CH_INJ (ix ++ [k]) ((R.PAL_CH_INJ_INTERVAL, v) :: (if k = 5 then [(R.PAL_CH_INJ_LATE_NS, e.u 52 2)] else []))
    let ws := [ctl, n 0 (e.u 24 8), n 1 (e.u 32 4), n 2 (e.u 36 4), n 3 (e.u 40 4), n 4 (e.u 44 4), n 5 (e.u 48 4)]
    d.stageCmd e (e.u 54 2) false { opcode := 0x0803, key := [], writes := ws }

def palSkewSpec : CmdSpec := { opcode := 0x0804, minLen := 6, maxLen := 6, modes := [2] }

/-- PAL_SKEW. -/
def Device.palSkew (e : Entry) (d : Device) : Reply :=
  let p := e.u 12 1
  let l := e.u 13 1
  let st := d.palCheck e.via p l
  if st ≠ 0 then d.no st
  else if 64 < e.u 14 1 then d.no stBAD_FIELD
  else d.stageCmd e (e.u 16 2) false { opcode := 0x0804, key := [], writes := [stageField R.PAL_SKEW_WORDS [p, l] (e.u 14 1)] }

def palGvcpImageSpec : CmdSpec := { opcode := 0x0805, needsIn := true, modes := [1, 2] }

/-- PAL_GVCP_IMAGE. -/
def Device.palGvcpImage (e : Entry) (d : Device) : Reply :=
  let b := d.input e
  let p := fieldAt b 0 1
  let c := fieldAt b 1 1
  let st := d.palCheck e.via p c
  if e.inLen < 9 ∨ 8 + 65536 < e.inLen then d.no stBAD_LENGTH
  else if st ≠ 0 then d.no st
  else if fieldAt b 2 6 ≠ 0 then d.no stBAD_FIELD
  else (d.setPal p c { d.pal p c with image := b.drop 8 }).ok []

/-- Firmware's sample of a channel's RC counters into its totals: sums, and the largest MAX_DEFER. -/
def Device.samplePal (d : Device) (p c : Nat) : Device :=
  let x := d.pal p c
  let ix := [p, c]
  let t := fun (i : Nat) => x.totals.getD i 0
  let inj := d.get R.PAL_CH_INJCNT_COUNT ix
  let new := [t 0 + d.get R.PAL_CH_CNT_LATE ix, t 1 + d.get R.PAL_CH_CNT_SUPPRESSED ix, t 2 + d.get R.PAL_CH_CNT2_TRIG_BUSY ix,
      t 3 + d.get R.PAL_CH_CNT2_REFUSED ix, max (t 4) (d.get R.PAL_CH_CNT2_MAX_DEFER ix)]
    ++ (List.range 6).map (fun k => satAdd 16 (t (5 + k)) (bits inj (10 * k) 10))
  let new := if new.all (fun v => decide (v = 0)) then [] else new
  ((d.setPal p c { x with totals := new }).wr R.PAL_CH_CNT ix 0 |>.wr R.PAL_CH_CNT2 ix 0).wr R.PAL_CH_INJCNT ix 0

def palCountersSpec : CmdSpec := { opcode := 0x0806, minLen := 3, maxLen := 3 }

/-- PAL_COUNTERS. -/
def Device.palCounters (e : Entry) (d : Device) : Reply :=
  let p := e.u 12 1
  let c := e.u 13 1
  let st := d.palCheck e.via p c
  if st ≠ 0 then d.no st
  else if 1 < e.u 14 1 then d.no stBAD_FIELD
  else
    let d := d.samplePal p c
    let t := fun (i : Nat) => (d.pal p c).totals.getD i 0
    let pl := layout ([(4, t 0), (4, t 1), (4, t 2), (4, t 3), (4, t 4)] ++ (List.range 6).map (fun k => (2, t (5 + k))))
    (if e.u 14 1 = 1 then d.setPal p c { d.pal p c with totals := [] } else d).ok pl

end Sys2Proof.Machine
end

