-- ==== Sys2Proof/Machine/CmdDelivery.lean ====
section
/-! DEFINITION. The Carousel and DMA commands of firmware 3.x, group 0x09. -/

namespace Sys2Proof.Machine

def qOpenSpec : CmdSpec := { opcode := 0x0900, minLen := 36, modes := [0, 1, 2] }

/-- Q_OPEN: the context of a general queue, owned by the mailbox that reserved it. -/
def Device.qOpen (e : Entry) (d : Device) : Reply :=
  let q := e.u 12 4
  let kind := e.u 16 1
  let log := e.u 17 1
  let esize := e.u 18 1
  let ring := e.u 32 8
  let wb := e.u 40 8
  if !generalQueue q ∨ kind < 3 ∨ 5 < kind ∨ log < 4 ∨ 24 < log ∨ !esizeFits kind esize ∨ 1 < e.u 19 1 ∨ !vectorFits (e.u 20 2) ∨ e.u 23 1 ≠ 0
      ∨ e.u 30 2 ≠ 0 ∨ e.u 48 16 ≠ 0 ∨ ring % 4096 ≠ 0 ∨ wb % 64 ≠ 0 then d.no stBAD_FIELD
  else if !d.mayQueue e.via q then d.no stNOT_OWNER
  else if (d.ctx q).kind ≠ 0 then d.no stBUSY
  else if !d.netAdmits false true .queue ring (2 ^ log * esizeBytes esize) ∨ (wb ≠ 0 ∧ !d.netAdmits false true .queue wb 16) then
    d.no stNET_REFUSED
  else if e.u 19 1 = 1 ∧ 4096 ≤ d.pinned then d.no 0x0912
  else
    let c := openCtx kind esize log ring wb (e.u 20 2) ((d.reserverOf q).getD e.via.owner)
    let d := d.storeCtx q { c with pin := decide (e.u 19 1 = 1), wmark := e.u 24 4, coalN := e.u 22 1, coalUs := e.u 28 2 }
    (d.queueFlows q).ok (leBytes 8 (64 * q))

/-- A write names queue `q` as a stream's queue or a channel's completion queue. -/
def namesQueue (q : Nat) (w : MaskedWrite) : Bool :=
  match findReg w.addr with
  | some (row, _) =>
    let f := if row.reg = R.CAP_SC_Q then some R.CAP_SC_Q_QUEUE else if row.reg = R.DMA_CH_CFG then some R.DMA_CH_CFG_CQ else none
    match f with
    | some f => w.covers f && decide (f.of w.value = q)
    | none => false
  | none => false

/-- A stream or a DMA channel names the queue, in an adopted value or a staged one. -/
def Device.queueNamed (d : Device) (q : Nat) : Bool :=
  (List.range 8).any (fun p => (List.range 64).any (fun k => decide (d.get R.CAP_SC_Q_QUEUE [p, k] = q)))
    || (List.range 32).any (fun e => (List.range 16).any (fun c => decide (d.get R.DMA_CH_CFG_CQ [e, c] = q)))
    || d.ctl.pend.any (fun p => namesQueue q p.write)
    || (List.range 16).any (fun n => decide (1 ≤ d.txState n ∧ d.txState n ≤ 3) && (d.tx n).entries.any (namesQueue q))

def qCloseSpec : CmdSpec := { opcode := 0x0901, minLen := 4, maxLen := 4 }

/-- Q_CLOSE. -/
def Device.qClose (e : Entry) (d : Device) : Reply :=
  let q := e.u 12 4
  if !generalQueue q ∨ (d.ctx q).kind = 0 then d.no stBAD_FIELD
  else if !d.mayQueue e.via q then d.no stNOT_OWNER
  else if d.queueNamed q then d.no stBUSY
  else (d.storeCtx q {}).ok []

def qQuerySpec : CmdSpec := { opcode := 0x0902, minLen := 4, maxLen := 4 }

/-- Q_QUERY; the watermark stays. -/
def Device.qQuery (e : Entry) (d : Device) : Reply :=
  let q := e.u 12 4
  if 1048575 < q then d.no stBAD_FIELD
  else if !d.mayQueue e.via q then d.no stNOT_OWNER
  else
    let d := d.touch q
    let c := d.ctx q
    d.ok (layout [(4, c.prod.toNat), (4, c.cons.toNat), (4, c.count.toNat), (4, c.peak), (4, c.drops), (1, c.kind), (1, c.log2)]
      ++ (c.bytes.drop 46).take 1 ++ layout [(1, c.err)])

def qResetSpec : CmdSpec := { opcode := 0x0903, minLen := 5, maxLen := 5 }

/-- Q_RESET: ERROR clears through the context port, and held appends go on (R302). -/
def Device.qReset (e : Entry) (d : Device) : Reply :=
  let q := e.u 12 4
  let c := d.ctx q
  if 1048575 < q ∨ c.kind = 0 ∨ 1 < e.u 16 1 then d.no stBAD_FIELD
  else if !d.mayQueue e.via q then d.no stNOT_OWNER
  else
    let cons := if e.u 16 1 = 1 then c.prod else c.cons
    let d := d.storeCtx q { c with error := false, err := 0, cons := cons }
    (d.queueFlows q).ok []

/-- A channel firmware keeps for its own capture delivery. -/
def fwChannel (e c : Nat) : Bool := decide (e < 8 ∧ c < 4)

def dmaChannelSpec : CmdSpec := { opcode := 0x0904, minLen := 15, maxLen := 15, modes := [1, 2] }

/-- DMA_CHANNEL: a claim with its configuration, or a release. -/
def Device.dmaChannel (e : Entry) (d : Device) : Reply :=
  let n := e.u 12 1
  let c := e.u 13 1
  let cq := e.u 20 4
  if 31 < n ∨ 15 < c ∨ 1 < e.u 16 1 ∨ 1048575 < cq ∨ 2047 < e.u 24 2 then d.no stBAD_FIELD
  else if fwChannel n c then d.no stBUSY
  else if e.u 16 1 = 1 then
    if !d.mayAct e.via (.dma n c) then d.no stNOT_OWNER else (d.disown (.dma n c)).ok []
  else if !d.mayTake e.via (.dma n c) ∨ !d.mayQueue e.via cq then d.no stNOT_OWNER
  else
    d.stageCmd e (e.u 14 2) false
      { opcode := 0x0904, key := [], claims := [.dma n c]
        writes := [stageFields R.DMA_CH_CFG [n, c] [(R.DMA_CH_CFG_CQ, cq), (R.DMA_CH_CFG_SHARE, e.u 24 2), (R.DMA_CH_CFG_BURST, e.u 26 1)]] }

/-- The mailbox may work on a channel: not firmware's own, and its own unless it is a principal (log entry 62). -/
def Device.mayChannel (d : Device) (v : Via) (e c : Nat) : Bool := !fwChannel e c && d.mayAct v (.dma e c)

/-- A staging command with WAIT: ACCEPTED at once, its work waiting under `key` for the adoption of what it staged, or, when it
commits alone, under `next` after it. -/
def Device.stageWait (d : Device) (e : Entry) (txn : Nat) (wait : Bool) (key next : List Nat) (scope : Nat) (job : AloneJob) : Reply :=
  let r := d.stageCmd e txn wait { job with next := if wait then next else [] }
  if txn ≠ 0 ∧ wait ∧ r.status = 0 then r.dev.accepted (key ++ [65536 + (txn - 1)]) scope else r

def dmaSubmitSpec : CmdSpec := { opcode := 0x0905, minLen := 52, modes := [1, 2, 3], mayAccept := true }

/-- The shadow set a DMA_SUBMIT carries. -/
def submitSet (e : Entry) : List MaskedWrite :=
  let ix := [e.u 12 1, e.u 13 1]
  [stageField R.DMA_CH_SRC_SRC ix (e.u 16 8), stageField R.DMA_CH_DST_DST ix (e.u 24 8), stageField R.DMA_CH_LEN_LEN ix (e.u 32 4),
    { addr := R.DMA_CH_OPT.addr ix, mask := 0x1FF, value := BitVec.ofNat 64 (e.u 36 2) },
    stageField R.DMA_CH_USER_USER ix (e.u 40 8), { addr := R.DMA_CH_TAG.addr ix, mask := 0x1FFFF, value := BitVec.ofNat 64 (e.u 48 4) },
    stageField R.DMA_CH_TAGADDR_ADDR ix (e.u 56 8)]

/-- DMA_SUBMIT: armed at once, or staged with ARM; with WAIT the record's answer follows (R305). -/
def Device.dmaSubmit (e : Entry) (d : Device) : Reply :=
  let n := e.u 12 1
  let c := e.u 13 1
  let txn := e.u 14 2
  let wait := decide (e.u 38 1 = 1)
  if 31 < n ∨ 15 < c ∨ 511 < e.u 36 2 ∨ 1 < e.u 38 1 ∨ e.u 39 1 ≠ 0 ∨ 2 ^ 17 ≤ e.u 48 4 ∨ e.u 52 4 ≠ 0 then d.no stBAD_FIELD
  else if !d.mayChannel e.via n c then d.no stNOT_OWNER
  else if txn = 0 then
    if d.flag R.DMA_CH_CTL_ARM [n, c] then d.no 0x0911
    else
      let d := d.overlay (submitSet e)
      if wait then
        { d.accepted [n, c, (d.get R.DMA_CH_STAT_GEN [n, c] + 1) % 65536] (16 + n) with act := fun (d : Device) => d.dmaArm n c }
      else (d.dmaArm n c).ok []
  else
    d.stageWait e txn wait [n, c] [] (16 + n)
      { opcode := 0x0905, key := [], writes := submitSet e ++ [stageField R.DMA_CH_CTL_ARM [n, c] 1] }

/-- Commands with WAIT whose transaction is not to be adopted any more. -/
def Device.serveStaged (d : Device) : Device :=
  (d.ctl.works.filter (fun w => w.staged.isSome && !w.dead)).foldl (fun (d : Device) w =>
    match w.staged with
    | some (_, n) =>
      if d.txState n = 5 then d.finishWork w (reasonStatus (d.get R.CUR_TX_STAT_REASON [n])) []
      else if d.txState n = 0 then d.finishWork w stDISCARDED []
      else d
    | none => d) d

def dmaPauseSpec : CmdSpec := { opcode := 0x0906, minLen := 3, maxLen := 3 }

/-- DMA_PAUSE: resume, pause or disarm; a disarmed set gives no record, and its submitter is told DISCARDED. -/
def Device.dmaPauseCmd (e : Entry) (d : Device) : Reply :=
  let n := e.u 12 1
  let c := e.u 13 1
  let act := e.u 14 1
  if 31 < n ∨ 15 < c ∨ 2 < act then d.no stBAD_FIELD
  else if !d.mayChannel e.via n c then d.no stNOT_OWNER
  else
    let d := if act = 2 then
        if d.flag R.DMA_CH_CTL_ARM [n, c] then
          (d.dmaDisarm n c).finish 0x0905 [n, c, (d.get R.DMA_CH_STAT_GEN [n, c] + 1) % 65536] stDISCARDED []
        else d
      else d.dmaPause n c (decide (act = 1))
    d.ok [BitVec.ofNat 8 (d.chState n c)]

def dmaQuerySpec : CmdSpec := { opcode := 0x0907, minLen := 2, maxLen := 2 }

/-- DMA_QUERY. -/
def Device.dmaQuery (e : Entry) (d : Device) : Reply :=
  let ix := [e.u 12 1, e.u 13 1]
  if 31 < e.u 12 1 ∨ 15 < e.u 13 1 then d.no stBAD_FIELD
  else
    d.ok (layout [(1, d.get R.DMA_CH_STAT_STATE ix), (1, d.get R.DMA_CH_CTL_ARM ix), (2, d.get R.DMA_CH_STAT_GEN ix),
      (4, d.get R.DMA_CH_A_LEN_LEN ix), (4, d.get R.DMA_CH_CFG_CQ ix), (2, d.get R.DMA_CH_CFG_SHARE ix)])

end Sys2Proof.Machine
end

