-- ==== Sys2Proof/Machine/CmdTime.lean ====
section
/-! DEFINITION. The time commands of firmware 3.x, group 0x0A. -/

namespace Sys2Proof.Machine

def stSERVO_ACTIVE : Nat := 0x0A10

def timeQuerySpec : CmdSpec := { opcode := 0x0A00, maxLen := 0 }

/-- TIME_QUERY. -/
def Device.timeQuery (d : Device) : Reply :=
  let fl := d.get R.TB_STAT_ALIGNED [] + 2 * d.get R.TB_STAT_SLEWING [] + 4 * d.get R.TB_STAT_REF_LOST [] + 8 * d.get R.TB_STAT_PLL_LOCK []
  d.ok (layout [(8, d.tt.toNat), (4, d.get R.TB_ERA_ERA []), (1, d.servo.state), (1, fl), (1, d.servo.port), (1, 0),
    (8, d.tim.time.wtSec), (4, d.wtNs), (4, code 32 (d.servo.offset / 65536))])

def timeStepSpec : CmdSpec := { opcode := 0x0A01, minLen := 34, maxLen := 34, modes := modesSST, principal := true,
                                wakes := fun _ => [11] }

/-- TIME_STEP: its answer follows the step tick (R326). -/
def Device.timeStep (e : Entry) (d : Device) : Reply :=
  let m := e.u 13 1
  if 7 < m ∨ (bit m 1 ∧ (!bit m 2 ∨ 2 ^ 48 ≤ e.u 32 8 ∨ 999999999 < e.u 40 4)) then d.no stBAD_FIELD
  else if d.servoRuns then d.no stSERVO_ACTIVE
  else if d.tim.time.step.isSome then d.no stBUSY
  else
    let d := (d.wr R.TB_STEP_AMT [] (BitVec.ofNat 64 (e.u 24 8))).wr R.TB_STEP_AT [] (BitVec.ofNat 64 (e.u 16 8))
    let d := (d.put R.TB_STEP_SEC_SEC [] (e.u 32 8)).put R.TB_STEP_NS_NS [] (e.u 40 4)
    let d := (d.put R.TB_STEP_NS_FRAC [] (e.u 44 2)).setFlag R.TB_STEP_CTL_BOTH [] (bit m 0)
    let d := (d.setFlag R.TB_STEP_CTL_LOAD [] (bit m 1)).setFlag R.TB_STEP_CTL_AT [] (bit m 2)
    { d.later [] with act := Device.stepGo }

def timeSlewSpec : CmdSpec := { opcode := 0x0A02, minLen := 20, maxLen := 20, modes := modesSST, principal := true, mayAccept := true,
                                wakes := fun _ => [11] }

/-- TIME_SLEW: a slew, or the abort of one; the final responses follow its end (R328). -/
def Device.timeSlew (e : Entry) (d : Device) : Reply :=
  let fl := e.u 13 1
  if 3 < fl then d.no stBAD_FIELD
  else if d.servoRuns then d.no stSERVO_ACTIVE
  else
    let go := fun (d : Device) =>
      let d := if bit fl 1 then d.slewAbort
        else (d.wr R.TB_SLEW_AMT [] (BitVec.ofNat 64 (e.u 24 8))).slewGo (e.s 24 8) (e.u 16 4) (bit fl 0)
      if d.tim.time.slewing then d else d.slewReport
    { d.accepted [] 99 with act := go }

def timeIncrSpec : CmdSpec := { opcode := 0x0A03, minLen := 12, maxLen := 12, modes := modesSST, principal := true,
                                wakes := fun _ => [11] }

/-- TIME_INCR. -/
def Device.timeIncr (e : Entry) (d : Device) : Reply :=
  if d.servoRuns then d.no stSERVO_ACTIVE
  else
    let d := d.setIncr (e.u 16 8)
    d.ok (leBytes 8 (d.get R.TB_INCR_INCR []))

def ptpServoSpec : CmdSpec := { opcode := 0x0A04, minLen := 12, maxLen := 12, modes := modesSST, principal := true }

/-- A log interval of the command, 0x7F for the default. -/
def logOf (v : Nat) (dflt : Int) : Int := if v = 0x7F then dflt else sgn 8 v

/-- PTP_SERVO: the servo stops, or starts on an open Ethernet port (R339, R340). -/
def Device.ptpServo (e : Entry) (d : Device) : Reply :=
  let p := e.u 14 1
  if 1 < e.u 13 1 then d.no stBAD_FIELD
  else if e.u 13 1 = 0 then (d.setServo { d.servo with state := 0 }).ok []
  else if 7 < p ∨ 2 < e.u 16 1 ∨ e.u 17 1 = 0 ∨ 3 < e.u 17 1 ∨ 3 < e.u 18 1 then d.no stBAD_FIELD
  else if !d.portPresent p then d.no stNOT_PRESENT
  else if !(d.prtx p).isOpen ∨ !modeEth (d.pmode p) then d.no stBAD_FIELD
  else if d.servoRuns then d.no stBUSY
  else
    let pick := fun (v dflt : Nat) => if v = 0xFF then dflt else v
    let s : ServoX := { state := if e.u 16 1 = 2 then 6 else 1, port := p, domain := pick (e.u 15 1) 127, role := e.u 16 1
                        encaps := e.u 17 1, flags := e.u 18 1, priority1 := pick (e.u 19 1) 128, priority2 := pick (e.u 20 1) 128
                        syncLog := logOf (e.u 21 1) (-3), announceLog := logOf (e.u 22 1) (-2), delayLog := logOf (e.u 23 1) (-3)
                        lastSync := d.tt, sentSync := d.tt, sentAnnounce := d.tt, sentDelay := d.tt }
    (d.setServo s).ok []

def ptpStatusSpec : CmdSpec := { opcode := 0x0A05, maxLen := 0 }

/-- A running slave has had no valid Sync for announceReceiptTimeout announce intervals (log entry 64). -/
def Device.noMaster (d : Device) : Bool :=
  d.servoRuns && decide (d.servo.state ≠ 6)
    && decide (d.servo.state = 5 ∨ 3 * logInterval d.servo.announceLog ≤ ttDiff d.tt d.servo.lastSync)

/-- PTP_STATUS. -/
def Device.ptpStatus (d : Device) : Reply :=
  let s := d.servo
  if d.noMaster then d.no 0x0A11
  else
    d.ok (layout [(1, s.state), (1, s.port), (2, s.stepsRemoved), (1, s.gmPriority1), (1, s.gmClass), (2, 0), (8, code 64 s.offset),
      (8, code 64 s.meanPath), (8, d.get R.TB_INCR_INCR [])])

def timingPinsSpec : CmdSpec := { opcode := 0x0A06, minLen := 14, maxLen := 14, modes := modesSST, principal := true,
                                  wakes := fun _ => [11] }

/-- TIMING_PINS. -/
def Device.timingPins (e : Entry) (d : Device) : Reply :=
  let fl := e.u 13 1
  if 127 < fl ∨ e.u 16 4 < 100 ∨ 999999999 < e.u 16 4 then d.no stBAD_FIELD
  else
    let d := d.wr R.TP_CTL [] (BitVec.ofNat 64 (fl % 32))
    let d := (d.put R.TP_WIDTH_PPS_WIDTH [] (e.u 16 4)).put R.TP_WIDTH_PPS_OFFSET [] (e.u 20 4)
    let d := d.setFlag R.TP_EV_PPS_IN_EV_EN [] (bit fl 5)
    let d := d.setFlag R.TP_EV_PPS_OUT_EV_EN [] (bit fl 6)
    let d := if bit fl 5 then d.put R.TP_EV_PPS_IN_EV [] (e.u 24 1) else d
    let d := if bit fl 6 then d.put R.TP_EV_PPS_OUT_EV [] (e.u 25 1) else d
    d.ok (layout [(8, (d.rd R.TP_PPS_IN []).toNat), (8, (d.rd R.TP_10M_PHASE []).toNat)])

def timePtmSpec : CmdSpec := { opcode := 0x0A07, minLen := 4, maxLen := 4, wakes := fun _ => [10] }

/-- TIME_PTM. -/
def Device.timePtm (e : Entry) (d : Device) : Reply :=
  let act := e.u 13 1
  if 2 < act ∨ 16383 < e.u 14 2 then d.no stBAD_FIELD
  else if !d.hst.ptmEnable then d.no 0x0A12
  else
    let d := if act = 0 then d.ptmStart
      else if act = 1 then (d.setFlag R.PTM_CTL_AUTO [] true).put R.PTM_CTL_PERIOD_MS [] (e.u 14 2)
      else d.setFlag R.PTM_CTL_AUTO [] false
    d.ok (layout [(8, (d.rd R.PTM_T1 []).toNat), (8, (d.rd R.PTM_MASTER []).toNat), (4, d.get R.PTM_PROP_NS []), (4, d.get R.PTM_STAT_SEQ [])])

end Sys2Proof.Machine
end

