-- ==== Sys2Proof/Machine/CmdTiming.lean ====
section
/-! DEFINITION. The Midway and Barker commands of firmware 3.x, group 0x0B (R368). -/

namespace Sys2Proof.Machine

def stCHANNEL_HELD : Nat := 0x0B10

/-- A mailbox cannot claim the channel: firmware's own, fixed, or another mailbox's (R368). -/
def Device.channelHeld (d : Device) (v : Via) (c : Nat) : Bool :=
  decide (192 ≤ c) || ((d.ownerOf (.channel c)).isSome && !d.mayAct v (.channel c))

def mwChannelSpec : CmdSpec := { opcode := 0x0B00, minLen := 6, maxLen := 6, modes := modesSST }

/-- MW_CHANNEL: a claim with its configuration, or a release. -/
def Device.mwChannel (e : Entry) (d : Device) : Reply :=
  let c := e.u 12 1
  let fl := e.u 13 1
  if 7 < fl ∨ 2 < e.u 14 1 then d.no stBAD_FIELD
  else if d.channelHeld e.via c then d.no stCHANNEL_HELD
  else if bit fl 2 then
    if !d.mayAct e.via (.channel c) then d.no stNOT_OWNER
    else
      d.stageCmd e (e.u 16 2) false
        { opcode := 0x0B00, key := [], drops := [.channel c]
          writes := [{ addr := R.MW_CH_CFG.addr [c], mask := 0x1FF, value := 0 }] }
  else
    d.stageCmd e (e.u 16 2) false
      { opcode := 0x0B00, key := [], claims := [.channel c]
        writes := [stageFields R.MW_CH_CFG [c] [(R.MW_CH_CFG_ASYNC, fl % 2), (R.MW_CH_CFG_OWNER, 1), (R.MW_CH_CFG_SECURE, fl / 2 % 2),
          (R.MW_CH_CFG_SWMODE, e.u 14 1)]] }

def mwFireSpec : CmdSpec := { opcode := 0x0B01, minLen := 1, maxLen := 1, modes := [1, 2], wakes := fun _ => [11] }

/-- MW_FIRE: the fire write, and its TT. -/
def Device.mwFireCmd (e : Entry) (d : Device) : Reply :=
  let c := e.u 12 1
  if d.channelHeld e.via c then d.no stCHANNEL_HELD
  else if !d.mayAct e.via (.channel c) then d.no stNOT_OWNER
  else (d.mwFire .ringmaster c).ok (leBytes 8 d.tt.toNat)

def mwWatchSpec : CmdSpec := { opcode := 0x0B02, minLen := 2, maxLen := 2,
                               wakes := fun e => if bit (e.u 13 1) 0 then [11] else [] }

/-- MW_WATCH: the watch bit and the firings, read by firmware, and then what FLAGS asks for. -/
def Device.mwWatch (e : Entry) (d : Device) : Reply :=
  let c := e.u 12 1
  let fl := e.u 13 1
  if 7 < fl then d.no stBAD_FIELD
  else if !d.mayAct e.via (.channel c) then d.no stNOT_OWNER
  else
    let seen := d.watchMask .ringmaster (c / 64) (d.rd R.MW_WATCH [c / 64])
    let pl := layout [(1, b2n (bit seen.toNat (c % 64))), (3, 0), (4, d.get R.MW_CH_CNT_FIRES [c])]
    let d := d.wr R.MW_CH_CNT [c] 0
    let d := if bit fl 0 then d.wr R.MW_WATCH [c / 64] (d.rd R.MW_WATCH [c / 64] &&& ~~~ (seen &&& BitVec.ofNat 64 (2 ^ (c % 64)))) else d
    let rest := d.tim.forwarded.filter (fun x => decide (x ≠ c))
    let d := if bit fl 2 then { d with tim := { d.tim with forwarded := rest } }
      else if bit fl 1 then { d with tim := { d.tim with forwarded := rest ++ [c] } }
      else d
    d.ok pl

def mwGateSpec : CmdSpec := { opcode := 0x0B03, minLen := 12, maxLen := 12, modes := [1, 2] }

/-- MW_GATE: the gates a principal sets, and a consumer's gate and dead time (log entry 65). -/
def Device.mwGate (e : Entry) (d : Device) : Reply :=
  let fl := e.u 12 1
  let i := e.u 16 2
  let gates := bit fl 0
  let con := bit fl 1
  if 3 < fl ∨ (con ∧ (2047 < i ∨ (593 ≤ i ∧ i ≤ 639) ∨ 28 < e.u 18 1 ∨ 1 < e.u 19 1)) then d.no stBAD_FIELD
  else if (gates ∧ !e.via.principal) ∨ (con ∧ !d.mayTake e.via (.consumer i)) then d.no stNOT_OWNER
  else
    let w1 : List MaskedWrite := if gates then
        [{ addr := R.MW_GATE.addr [], mask := BitVec.ofNat 64 (e.u 14 1), value := BitVec.ofNat 64 (e.u 13 1) &&& BitVec.ofNat 64 (e.u 14 1) }]
      else []
    let w2 := if con then [stageFields R.MW_CON [i] [(R.MW_CON_GATE, e.u 18 1), (R.MW_CON_GATE_INV, e.u 19 1), (R.MW_CON_DEAD, e.u 20 1)]] else []
    d.stageCmd e (e.u 22 2) false { opcode := 0x0B03, key := [], writes := w1 ++ w2, claims := if con then [.consumer i] else [] }

def bkProgramSpec : CmdSpec := { opcode := 0x0B04, needsIn := true, modes := [1, 2] }

/-- BK_PROGRAM: the whole configuration of a program but EN. -/
def Device.bkProgram (e : Entry) (d : Device) : Reply :=
  let b := d.input e
  let f := fieldAt b
  let p := f 0 1
  let ix := [p]
  let tgt := fun (t : Nat) => 64 + 16 * t
  if e.inLen ≠ 128 then d.no stBAD_LENGTH
  else if 31 < p ∨ 2 < f 1 1 ∨ 3 < f 2 1 ∨ 3 < f 3 1 ∨ f 5 1 ≠ 0 ∨ f 42 6 ≠ 0 ∨ 2 ^ 48 ≤ f 48 8 ∨ f 60 4 ≠ 0
      ∨ (List.range 4).any (fun t => decide (4 < f (tgt t) 1 ∨ 1 < f (tgt t + 1) 1 ∨ f (tgt t + 3) 1 ≠ 0 ∨ f (tgt t + 8) 8 ≠ 0)) then d.no stBAD_FIELD
  else if !d.mayTake e.via (.program p) then d.no stNOT_OWNER
  else
    let ws := [stageFields R.BK_CTL ix [(R.BK_CTL_SRC, f 1 1), (R.BK_CTL_DIR, f 2 1 % 2), (R.BK_CTL_INTERP, f 2 1 / 2), (R.BK_CTL_POS_CH, f 3 1),
        (R.BK_CTL_EV, f 4 1)], stageField R.BK_START_START ix (f 8 8), stageField R.BK_PERIOD_PERIOD ix (f 16 8),
      stageFields R.BK_COUNT ix [(R.BK_COUNT_COUNT, f 24 4), (R.BK_COUNT_DELAY, f 28 4)],
      stageFields R.BK_POS ix [(R.BK_POS_TARGET_CNT, f 32 4), (R.BK_POS_TARGET_REV, f 36 4)],
      stageFields R.BK_POSF ix [(R.BK_POSF_FRAC, f 40 2), (R.BK_POSF_SPACING, f 48 8)], stageField R.BK_WIDTH_WIDTH ix (f 56 4)]
      ++ (List.range 4).map (fun t => stageFields R.BK_TGT [p, t] [(R.BK_TGT_KIND, f (tgt t) 1), (R.BK_TGT_LEVEL, f (tgt t + 1) 1),
        (R.BK_TGT_INDEX, f (tgt t + 2) 1), (R.BK_TGT_LEAD, f (tgt t + 4) 4)])
    d.stageCmd e (f 6 2) false { opcode := 0x0B04, key := [], writes := ws, claims := [.program p] }

def bkArmSpec : CmdSpec := { opcode := 0x0B05, minLen := 4, maxLen := 4, modes := [1, 2] }

/-- The VXL ports a program's targets name. -/
def Device.vxlTargets (d : Device) (p : Nat) : List Nat :=
  ((List.range 4).filter (fun t => decide (d.get R.BK_TGT_KIND [p, t] = 2))).map (fun t => d.get R.BK_TGT_INDEX [p, t])

/-- BK_ARM. -/
def Device.bkArm (e : Entry) (d : Device) : Reply :=
  let p := e.u 12 1
  let on := decide (e.u 13 1 = 1)
  let ports := d.vxlTargets p
  if 31 < p ∨ 1 < e.u 13 1 then d.no stBAD_FIELD
  else if on ∧ ports.any (fun n => decide (n < 8) && !d.portPresent n) then d.no stNOT_PRESENT
  else if !d.mayAct e.via (.program p) then d.no stNOT_OWNER
  else if on ∧ ports.any (fun n => !(d.vxlUp n && d.hostRole n)) then d.no 0x0B12
  else d.stageCmd e (e.u 14 2) false { opcode := 0x0B05, key := [], writes := [stageField R.BK_CTL_EN [p] (e.u 13 1)], payload := leBytes 4 d.epoch }

def bkQuerySpec : CmdSpec := { opcode := 0x0B06, minLen := 2, maxLen := 2 }

/-- BK_QUERY: the state, and fire record INDEX (R356). -/
def Device.bkQuery (e : Entry) (d : Device) : Reply :=
  let p := e.u 12 1
  let r := (d.prog p).hist.getD (e.u 13 1) (zeros 32)
  if 31 < p ∨ 15 < e.u 13 1 then d.no stBAD_FIELD
  else
    d.ok (layout [(1, d.get R.BK_STAT_STATE [p]), (1, fieldAt r 24 1), (1, d.get R.BK_STAT_COMPARE_BEHIND [p]), (1, 0), (4, fieldAt r 16 4),
      (8, fieldAt r 0 8), (8, fieldAt r 8 8), (4, fieldAt r 20 4)])

def trgPinSpec : CmdSpec := { opcode := 0x0B07, minLen := 10, maxLen := 10, modes := modesSST }

/-- TRG_PIN. -/
def Device.trgPin (e : Entry) (d : Device) : Reply :=
  let i := e.u 12 1
  let fl := e.u 13 1
  if 15 < i ∨ 31 < fl then d.no stBAD_FIELD
  else if !d.mayTake e.via (.pin i) then d.no stNOT_OWNER
  else if bit fl 0 ∧ !d.flag R.NET_PIN_OUT_OK [i] then d.no stNET_REFUSED
  else
    let ws := [stageFields R.TRG_CTL [i] [(R.TRG_CTL_DIR, fl % 2), (R.TRG_CTL_POL, fl / 2 % 2), (R.TRG_CTL_IN_EDGE, fl / 4 % 4),
        (R.TRG_CTL_IN_EV_EN, fl / 16), (R.TRG_CTL_IN_EV, e.u 14 1), (R.TRG_CTL_FILT, e.u 15 1)],
      stageFields R.TRG_ADJ [i] [(R.TRG_ADJ_OUT_ADJ, e.u 16 2), (R.TRG_ADJ_IN_ADJ, e.u 18 2)]]
    d.stageCmd e (e.u 20 2) false { opcode := 0x0B07, key := [], writes := ws, claims := [.pin i] }

def trgStampsSpec : CmdSpec := { opcode := 0x0B08, needsOut := true, wakes := fun _ => [11] }

/-- TRG_STAMPS: up to MAX stamps popped, 16 bytes each. -/
def Device.trgStamps (e : Entry) (d : Device) : Reply :=
  let i := e.u 12 1
  let n := e.u 13 1
  if 15 < i ∨ n = 0 ∨ 16 < n then d.no stBAD_FIELD
  else if e.outLen < 16 * n then d.no stBAD_LENGTH
  else if !d.mayAct e.via (.pin i) then d.no stNOT_OWNER
  else if d.flag R.TRG_CTL_DIR [i] then d.no 0x0B11
  else
    let got := (d.pin i).stamps.take n
    let d := got.foldl (fun (d : Device) _ => d.stampPop i) d
    let pl := layout [(1, got.length), (1, 0), (2, d.get R.TRG_IN_OVERRUN [i])]
    { status := stOK, payload := pl, dev := d.put R.TRG_IN_OVERRUN [i] 0
      out := got.flatMap (fun s => layout [(8, s.1.toNat), (1, b2n s.2), (7, 0)]) }

def bkActionSpec : CmdSpec := { opcode := 0x0B09, minLen := 20, maxLen := 20, modes := [1, 2] }

/-- BK_ACTION: how firmware sends a target's ACTION_CMD (R361). -/
def Device.bkAction (e : Entry) (d : Device) : Reply :=
  let p := e.u 12 1
  let t := e.u 13 1
  if 31 < p ∨ 3 < t ∨ 7 < e.u 14 1 then d.no stBAD_FIELD
  else if !d.mayAct e.via (.program p) then d.no stNOT_OWNER
  else
    let key := p * 4 + t
    let a : ActionCmd := { port := e.u 14 1, deviceKey := e.u 16 4, groupKey := e.u 20 4, groupMask := e.u 24 4, dst := e.u 28 4
                           reqId := (d.tim.actionCmds.get {} key).reqId }
    { d with tim := { d.tim with actionCmds := d.tim.actionCmds.put {} key a } }.ok []

end Sys2Proof.Machine
end

