-- ==== Sys2Proof/Machine/CmdFeedback.lean ====
section
/-! DEFINITION. The position feedback commands of firmware 3.x, group 0x0C. -/

namespace Sys2Proof.Machine

def stCHANNEL_OFF : Nat := 0x0C10

/-- What a feedback command checks first: CH names a channel the mailbox may use. -/
def Device.fbCheck (d : Device) (e : Entry) : Nat :=
  if 3 < e.u 12 1 then stBAD_FIELD else if !d.mayAct e.via (.fb (e.u 12 1)) then stNOT_OWNER else stOK

/-- The answer of a command whose response tells what the adoption left: `pl` names the unit. -/
def Device.adoptedPayload (d : Device) (opcode : Nat) (pl : List Byte) : List Byte :=
  let x := fieldAt pl 0 1
  match opcode with
  | 0x0802 => d.palEnabled x (fieldAt pl 1 1)
  | 0x0B05 => leBytes 4 d.epoch
  | 0x0D02 => leBytes 4 d.epoch
  | 0x0C02 => layout [(4, d.get R.FB_POS_COUNT [x]), (4, d.get R.FB_POS_REV [x]), (4, d.epoch)]
  | 0x0C04 => layout [(1, d.get R.FB_EVT_COMPARE_BEHIND [x]), (3, 0), (4, d.epoch)]
  | _ => pl

/-- A staging command whose response tells what the adoption left; staged into a transaction, it tells what stands now. -/
def Device.stageShow (d : Device) (e : Entry) (txn : Nat) (job : AloneJob) : Reply :=
  let r := d.stageCmd e txn false job
  if txn ≠ 0 ∧ r.status = 0 then { r with payload := r.dev.adoptedPayload job.opcode job.payload } else r

/-- Set an event select of the motion booth that firmware writes itself, 0xFF for none; under R42 the booth takes no control
word. -/
def Device.setEvent (d : Device) (en sel : Fld) (ix : List Nat) (v : Nat) : Device :=
  if d.motionTaken then d
  else if v = 0xFF then (d.wake 12).setFlag en ix false else ((d.wake 12).put sel ix v).setFlag en ix true

def fbQuerySpec : CmdSpec := { opcode := 0x0C00, minLen := 1, maxLen := 1 }

/-- FB_QUERY. -/
def Device.fbQuery (e : Entry) (d : Device) : Reply :=
  let ix := [e.u 12 1]
  if 3 < e.u 12 1 then d.no stBAD_FIELD
  else
    let st := (d.rd R.FB_STAT ix).toNat
    d.ok (layout [(4, d.get R.FB_POS_COUNT ix), (4, d.get R.FB_POS_REV ix), (8, code 64 (sgn 48 (d.get R.FB_SPEED_SPEED ix))),
      (1, st % 32 + 32 * d.get R.FB_STAT_SUSPECT ix), (1, (d.rd R.FB_EVT ix).toNat % 32), (6, 0), (8, (d.rd R.FB_EDGE_TT ix).toNat)])

def fbConfigSpec : CmdSpec := { opcode := 0x0C01, minLen := 34, modes := modesSST }

/-- FB_CONFIG: the channel's CS fields staged; the event selects are written by firmware at once (log entry 58). -/
def Device.fbConfig (e : Entry) (d : Device) : Reply :=
  let f := e.u 12 1
  let ix := [f]
  let fl := e.u 17 1
  if 3 < f ∨ 3 < e.u 16 1 ∨ 31 < fl ∨ fl % 4 = 3 ∨ 4 < e.u 26 1 ∨ e.u 28 4 = 0 ∨ 1000000 < e.u 28 4 ∨ 63 < e.u 27 1 ∨ 63 < e.u 32 1
      ∨ e.u 38 2 ≠ 0 ∨ e.u 46 18 ≠ 0 then d.no stBAD_FIELD
  else if !d.mayTake e.via (.fb f) then d.no stNOT_OWNER
  else
    let cpr := if e.u 20 4 = 0 then 2 ^ 32 else e.u 20 4
    let ws := [stageFields R.FB_CTL ix [(R.FB_CTL_MODE, e.u 16 1), (R.FB_CTL_DECODE, fl % 4), (R.FB_CTL_INVERT, fl / 4 % 2), (R.FB_CTL_WRAP, fl / 8 % 2),
        (R.FB_CTL_FILT, e.u 18 2), (R.FB_CTL_SW_FILT, e.u 24 2)], stageField R.FB_CPR_CPR ix cpr,
      stageFields R.FB_SPD_CFG ix [(R.FB_SPD_CFG_TIMEOUT_US, e.u 28 4), (R.FB_SPD_CFG_AVG_SHIFT, e.u 26 1)],
      stageFields R.FB_SSI ix [(R.FB_SSI_BITS, e.u 27 1), (R.FB_SSI_TURN_BITS, e.u 32 1), (R.FB_SSI_GRAY, fl / 16), (R.FB_SSI_DIV, e.u 33 1),
        (R.FB_SSI_PERIOD_US, e.u 34 2), (R.FB_SSI_MONO_US, e.u 36 2)], stageField R.FB_SSI2_MAX_JUMP ix (e.u 40 4)]
    let r := d.stageCmd e (e.u 14 2) false { opcode := 0x0C01, key := [], writes := ws, claims := [.fb f] }
    if r.status ≠ 0 then r
    else
      { r with dev := (r.dev.setEvent R.FB_EV_DIR_EV_EN R.FB_EV_DIR_EV ix (e.u 44 1)).setEvent R.FB_EV_ERR_EV_EN R.FB_EV_ERR_EV ix (e.u 45 1) }

def fbSetPosSpec : CmdSpec := { opcode := 0x0C02, minLen := 12, maxLen := 12, modes := [1, 2, 3] }

/-- FB_SET_POS. -/
def Device.fbSetPosCmd (e : Entry) (d : Device) : Reply :=
  let f := e.u 12 1
  let c := d.fbCheck e
  if c ≠ 0 then d.no c
  else if d.fbMode f = 0 then d.no stCHANNEL_OFF
  else
    let ws := [stageFields R.FB_PRESET [f] [(R.FB_PRESET_COUNT, e.u 16 4), (R.FB_PRESET_REV, e.u 20 4)], stageField R.FB_CMD_SET_POS [f] 1]
    d.stageShow e (e.u 14 2) { opcode := 0x0C02, key := [], writes := ws, payload := [BitVec.ofNat 8 f] }

def fbLatchSpec : CmdSpec := { opcode := 0x0C03, minLen := 8, maxLen := 8, modes := [1, 2], mayAccept := true }

/-- FB_LATCH: armed, or disarmed by selecting no edge; commands that wait for a disarmed latch are told DISCARDED. -/
def Device.fbLatch (e : Entry) (d : Device) : Reply :=
  let f := e.u 12 1
  let c := d.fbCheck e
  let fl := e.u 18 1
  let wait := bit fl 0
  if c ≠ 0 then d.no c
  else if 2 < e.u 16 1 ∨ 3 < e.u 17 1 ∨ 3 < fl ∨ (wait ∧ bit fl 1) then d.no stBAD_FIELD
  else if d.fbMode f = 0 then d.no stCHANNEL_OFF
  else if bit fl 1 then
    let r := d.stageCmd e (e.u 14 2) false
      { opcode := 0x0C03, key := [], writes := [stageFields R.FB_LATCH [f] [(R.FB_LATCH_LATCH_SRC, 0), (R.FB_LATCH_LATCH_EDGE, 0)]] }
    if r.status = 0 then { r with dev := r.dev.finish 0x0C03 [f] stDISCARDED [] } else r
  else
    let ws := [stageFields R.FB_LATCH [f] [(R.FB_LATCH_LATCH_SRC, e.u 16 1), (R.FB_LATCH_LATCH_EDGE, e.u 17 1), (R.FB_LATCH_ARM, 1)]]
    let r := d.stageWait e (e.u 14 2) wait [f] [f] 99 { opcode := 0x0C03, key := [], writes := ws }
    if r.status ≤ 1 then { r with dev := r.dev.setEvent R.FB_EV_LATCH_EV_EN R.FB_EV_LATCH_EV [f] (e.u 19 1) } else r

def fbCompareSpec : CmdSpec := { opcode := 0x0C04, minLen := 20, maxLen := 20, modes := [1, 2] }

/-- FB_COMPARE. -/
def Device.fbCompare (e : Entry) (d : Device) : Reply :=
  let f := e.u 12 1
  let fl := e.u 16 1
  let c := d.fbCheck e
  if c ≠ 0 then d.no c
  else if 3 < fl then d.no stBAD_FIELD
  else if d.fbMode f = 0 then d.no stCHANNEL_OFF
  else
    let ws := [stageFields R.FB_CMP_CTL [f] [(R.FB_CMP_CTL_CMP_EN, fl % 2), (R.FB_CMP_CTL_CMP_DIR, fl / 2), (R.FB_CMP_CTL_SPACING, e.u 28 4)],
      stageFields R.FB_CMP_TGT [f] [(R.FB_CMP_TGT_TGT_COUNT, e.u 20 4), (R.FB_CMP_TGT_TGT_REV, e.u 24 4)]]
    let r := d.stageShow e (e.u 14 2) { opcode := 0x0C04, key := [], writes := ws, payload := [BitVec.ofNat 8 f] }
    if r.status = 0 then { r with dev := r.dev.setEvent R.FB_EV_CMP_EV_EN R.FB_EV_CMP_EV [f] (e.u 17 1) } else r

/-- Firmware's sample of a channel's RC counters into its totals. -/
def Device.sampleFb (d : Device) (f : Nat) : Device :=
  let x := d.fb f
  let ix := [f]
  let d := d.setFb f { x with totQuad := satAdd 32 x.totQuad (d.get R.FB_ERR_QUAD ix), totHall := satAdd 32 x.totHall (d.get R.FB_ERR_HALL ix)
                              totSsi := satAdd 32 x.totSsi (d.get R.FB_ERR_SSI ix), totRev := satAdd 32 x.totRev (d.get R.FB_ERR_REVERSALS ix)
                              totHits := satAdd 32 x.totHits (d.get R.FB_CMP_HITS_HITS ix) }
  (d.wr R.FB_ERR ix 0).wr R.FB_CMP_HITS ix 0

def fbCountersSpec : CmdSpec := { opcode := 0x0C05, minLen := 5, maxLen := 5 }

/-- FB_COUNTERS. -/
def Device.fbCounters (e : Entry) (d : Device) : Reply :=
  let f := e.u 12 1
  let c := d.fbCheck e
  if c ≠ 0 then d.no c
  else if 1 < e.u 16 1 then d.no stBAD_FIELD
  else
    let d := d.sampleFb f
    let x := d.fb f
    let d := if e.u 16 1 = 1 then d.setFb f { x with totQuad := 0, totHall := 0, totSsi := 0, totRev := 0, totHits := 0 } else d
    d.ok (layout [(4, x.totQuad), (4, x.totHall), (4, x.totSsi), (4, x.totRev), (4, x.totHits)])

end Sys2Proof.Machine
end

