-- ==== Sys2Proof/Machine/CmdMotion.lean ====
section
/-! DEFINITION. The motion commands of firmware 3.x, group 0x0D. -/

namespace Sys2Proof.Machine

def stNOT_HOMED : Nat := 0x0D10
def stAXIS_FAULT : Nat := 0x0D11
def stAT_LIMIT : Nat := 0x0D13

/-- What an axis command checks first: AXIS names an axis the mailbox may use. -/
def Device.axCheck (d : Device) (e : Entry) : Nat :=
  if 3 < e.u 12 1 then stBAD_FIELD else if !d.mayAct e.via (.axis (e.u 12 1)) then stNOT_OWNER else stOK

/-- A signed field of eight bytes that must fit in 48 bits. -/
def fits48 (v : Int) : Bool := decide (-(2 : Int) ^ 47 ≤ v ∧ v < (2 : Int) ^ 47)

/-- The axis is FAULTED, or AXa_FLT_N is active. -/
def Device.axisFaulty (d : Device) (a : Nat) : Bool := decide (d.get R.MP_STAT_STATE [a] = 5) || (d.axis a).flt

def axQuerySpec : CmdSpec := { opcode := 0x0D00, minLen := 1, maxLen := 1 }

/-- AX_QUERY. -/
def Device.axQuery (e : Entry) (d : Device) : Reply :=
  let ix := [e.u 12 1]
  if 3 < e.u 12 1 then d.no stBAD_FIELD
  else
    let fl := d.get R.MP_STAT_HOMED ix + 2 * d.get R.MP_STAT_MOVING ix + 4 * d.get R.MP_STAT_AT_TARGET ix + 8 * d.get R.CD_STAT_STRONG ix
      + 16 * d.get R.CD_STAT_EN_OUT ix + 32 * d.get R.CD_STAT_FLT ix
    d.ok (layout [(8, code 64 (sgn 48 (d.get R.MP_POS_POS ix))), (4, d.get R.MP_VNOW_V ix), (1, d.get R.MP_STAT_STATE ix), (1, fl),
      (2, (d.rd R.MP_EVT ix).toNat % 256), (2, d.get R.CD_STAT_LOAD_ANGLE ix), (2, d.get R.CD_STAT_I_NOW ix), (2, d.get R.CD_ICUR_IA ix),
      (2, d.get R.CD_ICUR_IB ix)])

def axConfigSpec : CmdSpec := { opcode := 0x0D01, needsIn := true, modes := modesSST }

/-- The writes of AX_CONFIG. -/
def axisWrites (f : Nat → Nat → Nat) : List MaskedWrite :=
  let ix := [f 0 1]
  let fl := f 1 1
  let b := fun (k : Nat) => fl / 2 ^ k % 2
  [stageField R.MP_CTL_SCURVE ix (b 0),
    stageFields R.MP_CFG ix [(R.MP_CFG_FB_CH, f 4 1), (R.MP_CFG_HOME_REQ, b 1), (R.MP_CFG_STANDSTILL, b 2), (R.MP_CFG_LIM_POL, b 6),
      (R.MP_CFG_PD_EN, b 3), (R.MP_CFG_LIM_FILT, f 12 2), (R.MP_CFG_PD_MS, f 14 2)],
    stageFields R.CD_CTL ix ([(R.CD_CTL_SENSE_EN, b 4), (R.CD_CTL_DEAD_NS, f 5 1), (R.CD_CTL_PWM_KHZ, f 6 2)]
      ++ if f 0 1 < 2 then [(R.CD_CTL_STRONG_EN, b 5)] else []),
    stageField R.MP_SERVO_SERVO_NS ix (f 8 4), stageFields R.CD_CUR ix [(R.CD_CUR_I_HOLD, f 16 2), (R.CD_CUR_I_RUN, f 18 2)],
    stageFields R.CD_MOTOR ix [(R.CD_MOTOR_R_COIL, f 20 2), (R.CD_MOTOR_KE, f 22 2), (R.CD_MOTOR_VBUS, f 24 2)],
    stageFields R.CD_SENSE ix [(R.CD_SENSE_SD_DEC, f 52 1), (R.CD_SENSE_ISCALE, f 26 2), (R.CD_SENSE_KP, f 44 2), (R.CD_SENSE_KI, f 46 2)],
    stageFields R.CD_STRONG ix [(R.CD_STRONG_STRONG_ON, f 28 4), (R.CD_STRONG_STRONG_OFF, f 32 4)],
    stageFields R.CD_LA ix [(R.CD_LA_LA_LOW, f 36 2), (R.CD_LA_LA_HIGH, f 38 2), (R.CD_LA_STALL_LA, f 40 2), (R.CD_LA_STALL_N, f 42 1),
      (R.CD_LA_STALL_ACT, f 43 1)],
    stageField R.MP_HOME_V_HOME_V ix (f 48 4), stageField R.MP_HOME_HOME_DIR ix (f 53 1),
    stageFields R.MP_STEPIN ix [(R.MP_STEPIN_STEP_RES, f 54 2), (R.MP_STEPIN_DIR_INV, b 7), (R.MP_STEPIN_STEP_FILT, f 76 2)],
    stageField R.MP_HOME_OFS_HOME_OFS ix (f 56 8), stageField R.MP_HOME_POS_HOME_POS ix (f 64 8)]

/-- AX_CONFIG: the axis's CS fields staged; the event selects are written by firmware at once (log entry 58). -/
def Device.axConfig (e : Entry) (d : Device) : Reply :=
  let b := d.input e
  let f := fieldAt b
  let a := f 0 1
  let ev := fun (k : Nat) => f (72 + k) 1
  if e.inLen ≠ 128 then d.no stBAD_LENGTH
  else if 3 < a ∨ 3 < f 4 1 ∨ f 6 2 < 20 ∨ 100 < f 6 2 ∨ f 8 4 < 25000 ∨ 1000000 < f 8 4 ∨ 4095 < f 36 2 ∨ 4095 < f 38 2 ∨ 4095 < f 40 2
      ∨ 1 < f 43 1 ∨ 1 < f 53 1 ∨ f 54 2 = 0 ∨ 1024 < f 54 2 ∨ (2 ≤ a ∧ bit (f 1 1) 5) ∨ !fits48 (sgn 64 (f 56 8)) ∨ !fits48 (sgn 64 (f 64 8))
      ∨ (b.drop 78).any (fun x => decide (x ≠ 0)) then d.no stBAD_FIELD
  else if !d.mayTake e.via (.axis a) then d.no stNOT_OWNER
  else if d.get R.MP_STAT_STATE [a] ≠ 0 ∨ d.flag R.CD_CTL_EN [a] then d.no stBUSY
  else
    let r := d.stageCmd e (f 2 2) false { opcode := 0x0D01, key := [], writes := axisWrites f, claims := [.axis a] }
    if r.status ≠ 0 then r
    else
      let d := (r.dev.setEvent R.MP_EV_DONE_EV_EN R.MP_EV_DONE_EV [a] (ev 0)).setEvent R.MP_EV_STALL_EV_EN R.MP_EV_STALL_EV [a] (ev 1)
      { r with dev := (d.setEvent R.MP_EV_LIMIT_EV_EN R.MP_EV_LIMIT_EV [a] (ev 2)).setEvent R.MP_EV_FAULT_EV_EN R.MP_EV_FAULT_EV [a] (ev 3) }

def axEnableSpec : CmdSpec := { opcode := 0x0D02, minLen := 4, maxLen := 4, modes := [1, 2] }

/-- AX_ENABLE: MODE while the motion booth is HALTED (R143). -/
def Device.axEnable (e : Entry) (d : Device) : Reply :=
  let a := e.u 12 1
  let c := d.axCheck e
  if c ≠ 0 then d.no c
  else if 1 < e.u 13 1 then d.no stBAD_FIELD
  else if d.boothDown 12 then d.no stMODE
  else if e.u 13 1 = 1 ∧ (d.axis a).flt then d.no stAXIS_FAULT
  else d.stageShow e (e.u 14 2) { opcode := 0x0D02, key := [], writes := [stageField R.CD_CTL_EN [a] (e.u 13 1)] }

def axMoveSpec : CmdSpec := { opcode := 0x0D03, minLen := 44, modes := [1, 2], mayAccept := true }

/-- AX_MOVE: refused where the move could not start as things stand (R405); with WAIT its end follows. -/
def Device.axMove (e : Entry) (d : Device) : Reply :=
  let a := e.u 12 1
  let c := d.axCheck e
  let m := e.u 13 1
  let fl := e.u 14 1
  let tgt := e.s 24 8
  let back := if m = 1 then decide (tgt * 65536 < (d.axis a).q) else decide (e.s 32 4 < 0)
  if c ≠ 0 then d.no c
  else if m = 0 ∨ 3 < m ∨ 7 < fl ∨ e.u 18 6 ≠ 0 ∨ e.u 44 4 ≠ 0 ∨ e.u 56 8 ≠ 0 ∨ (m = 1 ∧ !fits48 tgt) ∨ 2 ^ 40 ≤ e.u 48 8 then d.no stBAD_FIELD
  else if d.axisFaulty a then d.no stAXIS_FAULT
  else if m = 1 ∧ d.flag R.MP_CFG_HOME_REQ [a] ∧ !d.flag R.MP_STAT_HOMED [a] then d.no stNOT_HOMED
  else if m ≠ 3 ∧ (d.axis a).towardLimit back then d.no stAT_LIMIT
  else
    let ws := (if m = 1 then [stageField R.MP_TARGET_TARGET [a] (e.u 24 8)] else [])
      ++ [stageField R.MP_VEL_V [a] (e.u 32 4), stageFields R.MP_ACC [a] [(R.MP_ACC_ACC, e.u 36 4), (R.MP_ACC_DEC, e.u 40 4)],
        stageField R.MP_JERK_JERK [a] (e.u 48 8),
        stageFields R.MP_CTL [a] [(R.MP_CTL_MODE, m), (R.MP_CTL_SCURVE, fl % 2), (R.MP_CTL_START_EV_EN, fl / 2 % 2), (R.MP_CTL_GO, 1)]]
    let r := d.stageWait e (e.u 16 2) (bit fl 2) [a] [a, 1] 99 { opcode := 0x0D03, key := [], writes := ws }
    if r.status ≤ 1 ∧ bit fl 1 then { r with dev := r.dev.setAxis a { r.dev.axis a with startEv := some (e.u 15 1) } } else r

def axStopSpec : CmdSpec := { opcode := 0x0D04, minLen := 4, maxLen := 4, mayAccept := true }

/-- AX_STOP. -/
def Device.axStopCmd (e : Entry) (d : Device) : Reply :=
  let a := e.u 12 1
  let c := d.axCheck e
  if c ≠ 0 then d.no c
  else if 1 < e.u 13 1 then d.no stBAD_FIELD
  else
    d.stageWait e (e.u 14 2) (decide (e.u 13 1 = 1)) [a] [a, 1] 99
      { opcode := 0x0D04, key := [], writes := [stageField R.MP_CTL_STOP [a] 1] }

def axHomeSpec : CmdSpec := { opcode := 0x0D05, minLen := 6, maxLen := 6, modes := [1, 2], mayAccept := true }

/-- AX_HOME: the feedback latch and the homing run in one commit. -/
def Device.axHome (e : Entry) (d : Device) : Reply :=
  let a := e.u 12 1
  let c := d.axCheck e
  let f := d.get R.MP_CFG_FB_CH [a]
  if c ≠ 0 then d.no c
  else if 1 < e.u 13 1 ∨ e.u 14 1 = 0 ∨ 3 < e.u 14 1 then d.no stBAD_FIELD
  else if !d.mayAct e.via (.fb f) then d.no stNOT_OWNER
  else if d.axisFaulty a then d.no stAXIS_FAULT
  else
    let ws := [stageFields R.FB_LATCH [f] [(R.FB_LATCH_LATCH_SRC, e.u 13 1), (R.FB_LATCH_LATCH_EDGE, e.u 14 1)], stageField R.MP_HOME_GO [a] 1]
    d.stageWait e (e.u 16 2) true [a] [a, 1] 99 { opcode := 0x0D05, key := [], writes := ws }

def axSetPosSpec : CmdSpec := { opcode := 0x0D06, minLen := 20, maxLen := 20, modes := [1, 2] }

/-- AX_SET_POS. -/
def Device.axSetPos (e : Entry) (d : Device) : Reply :=
  let a := e.u 12 1
  let c := d.axCheck e
  if c ≠ 0 then d.no c
  else if !fits48 (e.s 24 8) then d.no stBAD_FIELD
  else if d.flag R.MP_STAT_MOVING [a] ∨ !(d.axis a).still then d.no stBUSY
  else
    d.stageCmd e (e.u 14 2) false
      { opcode := 0x0D06, key := [], writes := [stageField R.MP_PRESET_PRESET [a] (e.u 24 8), stageField R.MP_CTL_SET_POS [a] 1] }

/-- Firmware's sample of an axis's RC counters, and of the cuts of the booth, into its totals. -/
def Device.sampleAxis (d : Device) (a : Nat) : Device :=
  let x := d.axis a
  let d := d.setAxis a { x with totStalls := satAdd 32 x.totStalls (d.get R.MP_CNT_STALLS [a]), totLimits := satAdd 32 x.totLimits (d.get R.MP_CNT_LIMITS [a]) }
  let d := { d with mot := { d.mot with totCuts := satAdd 32 d.mot.totCuts (d.get R.MSV_CNT_CUTS []) } }
  ((d.put R.MP_CNT_STALLS [a] 0).put R.MP_CNT_LIMITS [a] 0).put R.MSV_CNT_CUTS [] 0

def axCountersSpec : CmdSpec := { opcode := 0x0D07, minLen := 2, maxLen := 2 }

/-- AX_COUNTERS. -/
def Device.axCounters (e : Entry) (d : Device) : Reply :=
  let a := e.u 12 1
  let c := d.axCheck e
  if c ≠ 0 then d.no c
  else if 1 < e.u 13 1 then d.no stBAD_FIELD
  else
    let d := d.sampleAxis a
    let x := d.axis a
    let cuts := d.mot.totCuts
    let d := if e.u 13 1 = 1 then
        let d := d.setAxis a { x with totStalls := 0, totLimits := 0 }
        { d with mot := { d.mot with totCuts := 0 } }
      else d
    d.ok (layout [(4, x.totStalls), (4, x.totLimits), (4, cuts), (4, d.get R.MP_CNT_STEP_LAG [a])])

end Sys2Proof.Machine
end

