-- ==== Sys2Proof/Machine/Firmware.lean ====
section
/-! DEFINITION. What firmware 3.x does between commands: changes committed alone, final responses that have come due, the
10 ms samples of the RC counters; and what passes with each tick. -/

namespace Sys2Proof.Machine

/-- The oldest change committed alone has been adopted or has failed: its command is answered, or goes on waiting for what
the change set going; then the next one starts. -/
def Device.serveAlone (d : Device) : Device :=
  match d.ctl.alone with
  | [] => d
  | j :: rest =>
    if !j.started then d.startAlone
    else if d.txState 14 = 4 then
      let d := (d.setCtl { d.ctl with alone := rest }).transfer j.owner j.claims j.drops
      let d := if j.next = [] then d.finish j.opcode j.key stOK (d.adoptedPayload j.opcode j.payload)
        else d.rekey j.opcode j.key j.next
      d.startAlone
    else if d.txState 14 = 5 then
      let d := d.setCtl { d.ctl with alone := rest }
      (d.finish j.opcode j.key (reasonStatus (d.get R.CUR_TX_STAT_REASON [14])) []).startAlone
    else d

/-- The opcodes of firmware 3.x: how many commands each group has, numbered from 0. -/
def opcodeDefined (op : Nat) : Bool :=
  decide (op % 256 < [13, 6, 8, 0, 9, 9, 5, 8, 7, 8, 8, 10, 6, 8, 9, 5].getD (op / 256) 0)

/-- What an entry of an undefined opcode is answered with, in the order of R60. -/
def unknownStatus (entry : List Byte) : Nat :=
  let flags := fieldAt entry 6 2
  let n := fieldAt entry 4 2
  if flags / 8 ≠ 0 ∨ !((entry.drop (12 + n)).all (fun b => decide (b = 0))) then stBAD_FIELD
  else if 52 < n ∨ (flags % 4 ≠ 0 ∧ n ≠ 32) then stBAD_LENGTH
  else 0x0101

/-- Bootstrap mailbox `n` holds an entry whose opcode no command has: firmware answers it (R51, R60). -/
def Device.unknownRung (d : Device) (n : Nat) : Bool := d.flag R.BMB_CTL_RING [n] && !opcodeDefined (fieldAt (d.slot n) 0 2)

def Device.answerUnknown (d : Device) (n : Nat) : Device :=
  if d.unknownRung n then
    let s := d.slot n
    let r := responseBytes (fieldAt s 0 2) (fieldAt s 2 2) 0 (unknownStatus s) (fieldAt s 8 4) d.epoch d.tt 1 0 []
    (d.setSlot n r).bmbUpdate n
  else d

/-- Every bootstrap mailbox with an undefined opcode is answered. -/
def Device.serveUnknown (d : Device) : Device := (List.range 8).foldl Device.answerUnknown d

/-- Everything firmware owes at this point. -/
def Device.serve (d : Device) : Device :=
  if d.fwRuns then (((((d.serveUnknown.sendOwed).serveDead).serveAlone).serveTx).serveStaged).releaseQueues else d

/-- FIRMWARE_COUNTER_SAMPLE: the RC counters of every unit into firmware's totals. -/
def Device.sampleAll (d : Device) : Device :=
  if !d.fwRuns then d
  else
    let d := (List.range 16).foldl (fun (d : Device) l => if d.lanePresent l then d.sampleLane l else d) d
    let d := (List.range 8).foldl (fun (d : Device) p =>
      if !d.portPresent p then d
      else
        let d := d.samplePort p
        let d := (List.range 64).foldl (fun (d : Device) k => if d.flag R.CAP_SC_CTL_EN [p, k] then d.sampleCap p k else d) d
        if d.emitPresent p then (List.range 4).foldl (fun (d : Device) c => if d.flag R.PAL_CH_CTL_EN [p, c] then d.samplePal p c else d) d
        else d) d
    let d := (List.range 4).foldl (fun (d : Device) i => (d.sampleFb i).sampleAxis i) d
    d.sampleLink

/-- One tick of the time base, and what passes with it alone: control-channel blocks leave (R206), the storm window moves
on (R133), injected skew applies (R285). -/
def Device.tickAll (d : Device) : Device :=
  if d.sec.inReset then d
  else
    let d := d.wdtTick.tick.checksTick.dmaTick
    let d := (List.range 16).foldl (fun (d : Device) l => d.laneTick l) d
    let d := (List.range 8).foldl (fun (d : Device) p => d.portTick p) d
    if d.ctl.logger.storm = [] then d else d.showStorm

/-- A store of the Ringmaster to a register; one that the Net blocks raises an access fault in the hart (R31). -/
def Device.regStore (d : Device) (addr : Nat) (mask v : Word) : Device :=
  let r := d.storeReg .ringmaster addr mask v
  if r.1 then r.2.accessFault else r.2

/-- A store of the Ringmaster that writes these fields of one register and no other bit. -/
def Device.strike (d : Device) (ix : List Nat) (fs : List (Fld × Nat)) : Device :=
  match fs with
  | [] => d
  | f :: _ =>
    let w := stageFields f.1.reg ix fs
    d.regStore w.addr w.mask w.value

/-- A store of the Ringmaster that writes a whole register. -/
def Device.poke (d : Device) (r : Reg) (ix : List Nat) (v : Word) : Device := d.regStore (r.addr ix) Half.full.mask v

/-- A write of MW_FIRE by the Ringmaster or by a roll (R349). -/
def Device.fireStore (d : Device) (s : Src) (c : Nat) : Device :=
  match s with
  | .ringmaster => d.strike [] [(R.MW_FIRE_CH, c)]
  | .calliope n => (d.storeReg (.calliope n) (R.MW_FIRE.addr []) R.MW_FIRE_CH.mask (R.MW_FIRE_CH.into 0 c)).2
  | .host => d

/-- The line opens its frame (R228). -/
def LineHdr.starting (h : LineHdr) : LineHdr := { h with frameStart := true }

/-- The sequencer a CAL_ command addresses is not fused off; a number past 15 is judged as a field (R60). -/
def Device.seqThere (d : Device) (n : Nat) : Bool := decide (15 < n) || !d.seqFused n

/-- SWITCH_EDGE and INDEX_EDGE: the level, the latch, and the homing run that waits for it (R380, R399); FBn_Z is an index in
MODE 1 only (R369). -/
def Device.edgeLatch (d : Device) (f src : Nat) (rising : Bool) (t : TT) (since : Int) : Device :=
  let x := d.fb f
  let d := d.setFb f (if src = 0 then { x with sw := rising } else { x with z := rising })
  let r := if src = 1 ∧ d.fbMode f ≠ 1 then (false, d) else d.latchEdge f src rising t since
  if r.1 then r.2.homeLatched f t else r.2

/-- The port passes lines on: UP, and its booth runs. -/
def Device.lineGate (d : Device) (p : Nat) (f : Device → Device) : Device := if !d.up p ∨ d.boothDown p then d else f d

/-- A host access that reaches BAR0 (R419). -/
def Device.hostDoes (d : Device) (f : Device → Device) : Device := if d.hostReach then f d else d

/-- QUEUE_READ_COMPLETION_ERROR: on a ring read of a queue, or on the input buffer of a command (R428). -/
def Device.queueReadError (d : Device) (q : Nat) (cmd : Option (Nat × Entry)) (k : AerKind) : Device :=
  match cmd with
  | none => d.ringReadError q k
  | some (op, e) => d.inputReadError op e k

end Sys2Proof.Machine
end

