-- ==== Sys2Proof/Machine/Commands.lean ====
section
/-! DEFINITION. Which commands are mailbox entries, and what the command tables say of each (R58, R67). -/

namespace Sys2Proof.Machine

/-- The specification and the entry of a mailbox command; none for any other command. -/
def mailCommand : Instr → Option (CmdSpec × Entry)
  | .nop e => some (nopSpec, e)
  | .identify e => some (identifySpec, e)
  | .setSdn e => some (setSdnSpec, e)
  | .memAlloc e => some (memAllocSpec, e)
  | .memFree e => some (memFreeSpec, e)
  | .openMailbox e => some (openMailboxSpec, e)
  | .closeMailbox e => some (closeMailboxSpec, e)
  | .reserveQueues e => some (reserveQueuesSpec, e)
  | .setMode e => some (setModeSpec, e)
  | .recover e => some (recoverSpec, e)
  | .openSystemQueue e => some (openSystemQueueSpec, e)
  | .memQuery e => some (memQuerySpec, e)
  | .linkQuery e => some (linkQuerySpec, e)
  | .calQuery e => some (calQuerySpec, e)
  | .calLoad e => some (calLoadSpec, e)
  | .calSwap e => some (calSwapSpec, e)
  | .calHalt e => some (calHaltSpec, e)
  | .calResume e => some (calResumeSpec, e)
  | .calClear e => some (calClearSpec, e)
  | .calAttach e => some (calAttachSpec, e)
  | .calRelease e => some (calReleaseSpec, e)
  | .txnOpen e => some (txnOpenSpec, e)
  | .txnStage e => some (txnStageSpec, e)
  | .txnCommit e => some (txnCommitSpec, e)
  | .txnCancel e => some (txnCancelSpec, e)
  | .txnQuery e => some (txnQuerySpec, e)
  | .epochQuery e => some (epochQuerySpec, e)
  | .laneQuery e => some (laneQuerySpec, e)
  | .laneConfig e => some (laneConfigSpec, e)
  | .laneTrain e => some (laneTrainSpec, e)
  | .laneAlign e => some (laneAlignSpec, e)
  | .laneIdle e => some (laneIdleSpec, e)
  | .laneLoop e => some (laneLoopSpec, e)
  | .lanePrbs e => some (lanePrbsSpec, e)
  | .laneHist e => some (laneHistSpec, e)
  | .laneCounters e => some (laneCountersSpec, e)
  | .portQuery e => some (portQuerySpec, e)
  | .portOpen e => some (portOpenSpec, e)
  | .portClose e => some (portCloseSpec, e)
  | .portLink e => some (portLinkSpec, e)
  | .streamRx e => some (streamRxSpec, e)
  | .vxlCalibrate e => some (vxlCalibrateSpec, e)
  | .vxlReg e => some (vxlRegSpec, e)
  | .ptpConfig e => some (ptpConfigSpec, e)
  | .portCounters e => some (portCountersSpec, e)
  | .capQuery e => some (capQuerySpec, e)
  | .capStream e => some (capStreamSpec, e)
  | .capEnable e => some (capEnableSpec, e)
  | .capRelease e => some (capReleaseSpec, e)
  | .capCounters e => some (capCountersSpec, e)
  | .swConfig e => some (swConfigSpec, e)
  | .swReference e => some (swReferenceSpec, e)
  | .swRegion e => some (swRegionSpec, e)
  | .swResult e => some (swResultSpec, e)
  | .mdConfig e => some (mdConfigSpec, e)
  | .mdFlush e => some (mdFlushSpec, e)
  | .mdStatement e => some (mdStatementSpec, e)
  | .mdQuery e => some (mdQuerySpec, e)
  | .palQuery e => some (palQuerySpec, e)
  | .palConfig e => some (palConfigSpec, e)
  | .palEnable e => some (palEnableSpec, e)
  | .palInject e => some (palInjectSpec, e)
  | .palSkew e => some (palSkewSpec, e)
  | .palGvcpImage e => some (palGvcpImageSpec, e)
  | .palCounters e => some (palCountersSpec, e)
  | .qOpen e => some (qOpenSpec, e)
  | .qClose e => some (qCloseSpec, e)
  | .qQuery e => some (qQuerySpec, e)
  | .qReset e => some (qResetSpec, e)
  | .dmaChannel e => some (dmaChannelSpec, e)
  | .dmaSubmit e => some (dmaSubmitSpec, e)
  | .dmaPause e => some (dmaPauseSpec, e)
  | .dmaQuery e => some (dmaQuerySpec, e)
  | .timeQuery e => some (timeQuerySpec, e)
  | .timeStep e => some (timeStepSpec, e)
  | .timeSlew e => some (timeSlewSpec, e)
  | .timeIncr e => some (timeIncrSpec, e)
  | .ptpServo e => some (ptpServoSpec, e)
  | .ptpStatus e => some (ptpStatusSpec, e)
  | .timingPins e => some (timingPinsSpec, e)
  | .timePtm e => some (timePtmSpec, e)
  | .mwChannel e => some (mwChannelSpec, e)
  | .mwFire e => some (mwFireSpec, e)
  | .mwWatch e => some (mwWatchSpec, e)
  | .mwGate e => some (mwGateSpec, e)
  | .bkProgram e => some (bkProgramSpec, e)
  | .bkArm e => some (bkArmSpec, e)
  | .bkQuery e => some (bkQuerySpec, e)
  | .trgPin e => some (trgPinSpec, e)
  | .trgStamps e => some (trgStampsSpec, e)
  | .bkAction e => some (bkActionSpec, e)
  | .fbQuery e => some (fbQuerySpec, e)
  | .fbConfig e => some (fbConfigSpec, e)
  | .fbSetPos e => some (fbSetPosSpec, e)
  | .fbLatch e => some (fbLatchSpec, e)
  | .fbCompare e => some (fbCompareSpec, e)
  | .fbCounters e => some (fbCountersSpec, e)
  | .axQuery e => some (axQuerySpec, e)
  | .axConfig e => some (axConfigSpec, e)
  | .axEnable e => some (axEnableSpec, e)
  | .axMove e => some (axMoveSpec, e)
  | .axStop e => some (axStopSpec, e)
  | .axHome e => some (axHomeSpec, e)
  | .axSetPos e => some (axSetPosSpec, e)
  | .axCounters e => some (axCountersSpec, e)
  | .secQuery e => some (secQuerySpec, e)
  | .attest e => some (attestSpec, e)
  | .idCert e => some (idCertSpec, e)
  | .secRequest e => some (secRequestSpec, e)
  | .svnCommit e => some (svnCommitSpec, e)
  | .fwStage e => some (fwStageSpec, e)
  | .fwActivate e => some (fwActivateSpec, e)
  | .debugChallenge e => some (debugChallengeSpec, e)
  | .debugOpen e => some (debugOpenSpec, e)
  | .healthQuery e => some (healthQuerySpec, e)
  | .healthLimits e => some (healthLimitsSpec, e)
  | .paceConfig e _ => some (paceConfigSpec, e)
  | .healthSensors e => some (healthSensorsSpec, e)
  | .healthCounters e => some (healthCountersSpec, e)
  | .registerWrite _ _ _ _ _ => none
  | .wdtCtlWrite _ => none
  | .wdtKickWrite _ => none
  | .bmbRing _ _ => none
  | .bmbDoneClear _ => none
  | .bmbComplete _ => none
  | .memAllocFillDone _ => none
  | .recoverDone _ _ => none
  | .calLoadGo _ => none
  | .calHaltWrite _ => none
  | .calResumeWrite _ => none
  | .calClearWrite _ => none
  | .calAttachWrite _ _ _ => none
  | .calTrelWrite _ _ _ => none
  | .calliopeStepEntry _ => none
  | .calTimeWaitExpire _ => none
  | .calTimeout _ => none
  | .curtainStage _ _ => none
  | .stageDataLowWrite _ => none
  | .curTxOpen _ => none
  | .curTxCommit _ => none
  | .curTxCancel _ => none
  | .curtainCheckDone _ => none
  | .curtainDeadlinePass _ => none
  | .curtainFinalSample _ => none
  | .curtainAdopt _ => none
  | .netPortStage _ _ => none
  | .netPortDataLowWrite _ => none
  | .laneCtlWrite _ _ => none
  | .laneTxWrite _ _ => none
  | .laneFfeWrite _ _ => none
  | .lnTrainStart _ => none
  | .lnTrainAbort _ => none
  | .lnTrainReqWrite _ _ => none
  | .lnTrainDoneWrite _ => none
  | .trainFrameRx _ _ _ _ _ => none
  | .txpllLock _ => none
  | .cdrLock _ => none
  | .losAssert _ _ _ => none
  | .losDeassert _ _ _ => none
  | .lnSlip _ => none
  | .lnHistStart _ => none
  | .portCtlWrite _ _ => none
  | .ethBlockLock _ => none
  | .ethFrameRx _ _ _ _ => none
  | .packetTransmit _ _ _ => none
  | .txtsPop _ => none
  | .vxlMarkerRx _ _ _ _ => none
  | .vxlLinkInfoRx _ _ => none
  | .vxlCodewordRx _ _ _ => none
  | .vxlLineStartRx _ _ _ => none
  | .vxlDataBlockRx _ _ _ => none
  | .vxlTriggerRx _ _ _ => none
  | .vxlTriggerFire _ => none
  | .vxlTriggerTx _ _ => none
  | .vxlEchoGo _ _ _ => none
  | .vxlEchoReqRx _ _ _ _ _ => none
  | .vxlEchoRspRx _ _ _ _ => none
  | .vxlCtrlRx _ _ => none
  | .ctrlTxQueue _ _ => none
  | .ctrlRxPop _ => none
  | .lineWordEnter _ _ _ _ _ _ => none
  | .storeStageTake _ => none
  | .capFrameStart _ _ _ _ => none
  | .capOpen _ _ => none
  | .capClose _ _ => none
  | .capTruncate _ _ => none
  | .capRelWrite _ _ _ _ => none
  | .linescanTimeClose _ _ => none
  | .capFrameEvent _ _ => none
  | .mbRelWrite _ => none
  | .palFrameStart _ _ => none
  | .palLinePrefetch _ _ _ => none
  | .palLineSend _ _ _ => none
  | .doorbellProdWrite _ _ => none
  | .doorbellConsWrite _ _ => none
  | .dbWmRead _ => none
  | .dbRearm _ => none
  | .carAppend _ => none
  | .coalesceTimeout _ => none
  | .dmaArmWrite _ _ => none
  | .dmaDisarmWrite _ _ => none
  | .dmaPauseWrite _ _ _ => none
  | .dmaTransferEnd _ => none
  | .tbIncrWrite _ => none
  | .tbPllLock _ => none
  | .ppsInEdge _ _ => none
  | .tenMhzInEdge _ => none
  | .ptmDialogueDone _ _ _ _ => none
  | .mwFireWrite _ _ => none
  | .barkerTimeFire _ => none
  | .barkerActCommit _ _ => none
  | .barkerAct _ _ => none
  | .barkerFireRecord _ => none
  | .trgPulseLead _ => none
  | .trgPulseTrail _ => none
  | .trgInputEdge _ _ _ => none
  | .trgInPop _ => none
  | .encoderEdge _ _ _ _ => none
  | .hallStateChange _ _ _ => none
  | .ssiReadStart _ _ _ => none
  | .ssiReadingDone _ _ => none
  | .switchEdge _ _ _ _ => none
  | .indexEdge _ _ _ _ => none
  | .fbSetPosWrite _ => none
  | .fbLatchArm _ => none
  | .servoPeriodBoundary _ _ _ => none
  | .mpGoWrite _ => none
  | .mpStopWrite _ => none
  | .mpSetPosWrite _ => none
  | .mpHomeGo _ => none
  | .stepInputEdge _ _ => none
  | .limitSwitch _ _ => none
  | .axisFaultInput _ => none
  | .bar4Read _ _ => none
  | .bar4Write _ _ _ => none
  | .hostApBaseWrite _ => none
  | .busMasterChange _ => none
  | .hbmWipeDone _ => none
  | .configReady _ _ _ => none
  | .hmModeWrite _ => none
  | .secSvnReqWrite _ => none
  | .secSdnWrite _ => none
  | .healthSample _ _ => none
  | .railSample _ => none
  | .ringmasterEccError _ => none
  | .linkLossTimeout _ => none
  | .fifoParityError _ => none
  | .boothSramUecc _ => none
  | .hbmUncorrectableError _ _ _ _ => none
  | .hbmCorrectedError _ _ _ _ => none
  | .laneTrainTimeout _ => none
  | .wakeBurstDone _ => none
  | .laneWakeRx _ => none
  | .adaptOk _ _ _ => none
  | .lolAssert _ _ _ => none
  | .laneSlipDone _ => none
  | .alignLost _ => none
  | .laneHistDone _ _ _ _ => none
  | .prbsCheckerLock _ _ => none
  | .mergeHoldExpire _ _ => none
  | .portAlignLossTimeout _ => none
  | .portHelloTimeout _ => none
  | .vxlEchoTimeout _ => none
  | .ctrlRetryTimeout _ _ => none
  | .vxlCalibratePeriodic _ => none
  | .lineFifoDiagPop _ _ => none
  | .palPacketRelease _ _ _ => none
  | .gvcpRequestRx _ => none
  | .dmaPauseDone _ _ => none
  | .dmaReadCompletionError _ => none
  | .speedTimeout _ => none
  | .axisPowerDown _ => none
  | .axisWakeHoldDone _ => none
  | .patrolScrub _ _ _ => none
  | .jtagDebugRequest _ => none
  | .jtagProvision _ => none
  | .boothPaceUpdate _ _ => none
  | .pacePeriod _ => none
  | .ethLockLoss _ => none
  | .trainingLosFail _ => none
  | .containedSramUecc _ _ => none
  | .queueReadCompletionError _ _ => none
  | .linkTlpError _ => none
  | .endLimitRelease _ _ => none
  | .axisFaultRelease _ => none
  | .alignSearchTimer _ => none
  | .portLinkTimeLimit _ => none
  | .ptpMessageTimer _ _ => none
  | .slowPathPacketRx _ => none
  | .jtagDebugAccess _ => none
  | .wdtLock => none
  | .watchdogEarly => none
  | .watchdogExpiry => none
  | .rollLoadDone => none
  | .configDigestExtend => none
  | .netHashUpdate => none
  | .netPortUnlock => none
  | .netPortOpen => none
  | .netPortCommit => none
  | .netPortCancel => none
  | .netPortLock => none
  | .faultLogDrain => none
  | .firmwareCounterSample => none
  | .ptpAnnounceTimeout => none
  | .sealAccept => none
  | .manifestIntervalClose => none
  | .mbFlush => none
  | .manifestSigned => none
  | .manifestWriteRetry => none
  | .carCtxLoad => none
  | .carCtxStore => none
  | .carTake => none
  | .msixPendingSend => none
  | .tbStepGo => none
  | .tbStepApply => none
  | .tbSlewGo => none
  | .tbSlewAbort => none
  | .slewDone => none
  | .tbSnapGo => none
  | .ttWrap => none
  | .refclkLost => none
  | .refclkRelock => none
  | .ppsOutEdge => none
  | .ptmGo => none
  | .ptmAutoPeriod => none
  | .midwayDeliver => none
  | .bkActPop => none
  | .actionCmdSend => none
  | .motionUecc => none
  | .barBadAccess => none
  | .d3hotEntry => none
  | .linkReset => none
  | .perstAssert => none
  | .powerOnReset => none
  | .brownOut => none
  | .resetRelease => none
  | .sramWipeDone => none
  | .identityKeyReady => none
  | .bootImageLoad => none
  | .hmReadySet => none
  | .svnProgramDone => none
  | .secRequestGo => none
  | .secRequestCheckDone => none
  | .lifecycleReset => none
  | .secQuoteGo => none
  | .quoteDone => none
  | .secNewChallenge => none
  | .debugChallengeExpire => none
  | .jtagNewChallenge => none
  | .jtagScrap => none
  | .paceCeiling => none
  | .healthLimitExpire => none
  | .tbLockTimeout => none
  | .hbmPhyTrained => none
  | .flashWriteDone => none

end Sys2Proof.Machine
end

