-- ==== Sys2Proof/Machine/State.lean ====
section
/-! DEFINITION. The state of the machine: the device, the commands that have been sent and not yet taken, and the mailbox
entries that firmware has not started. -/

namespace Sys2Proof.Machine

/-- The whole state. -/
structure State where
  /-- the device: every register, memory, queue, buffer, counter, mode and pin of the spec -/
  dev : Device
  /-- commands from outside that wait to be taken, first in, first out (the model's own queue) -/
  pending : List Instr := []
  /-- entries of mailbox command queues that firmware has not started, each mailbox's in its order (R62, R63, R66) -/
  waiting : List Instr := []
  deriving DecidableEq, Repr

/-- The ways the machine can stop with a fault: none. Every fault the spec names is an effect on the state. -/
inductive Fault where
  deriving DecidableEq, Repr

/-- The ways the model can refuse a command. -/
inductive Refusal where
  /-- raised by no arm of `exec`: every command of the table has its meaning; safe -/
  | notModelled (mnemonic : String)
  deriving DecidableEq, Repr

/-- Right after power-on: a full reset has been entered and is held (R468 to R472); nothing is queued. -/
def State.reset : State := { dev := ({} : Device).powerOnReset }

end Sys2Proof.Machine
end

