-- ==== Sys2Proof/Machine/Run.lean ====
section
/-! DEFINITION. How a command runs: on a device that is not held in reset, on a unit that is present, as a mailbox entry in
its mailbox's order; and what firmware does after it. -/

namespace Sys2Proof.Machine

/-- The outcome of a command. -/
abbrev Result := Host.Outcome State Fault Refusal

/-- The mailbox a command is an entry of. -/
def viaOf (i : Instr) : Option Via := (mailCommand i).map (fun p => p.2.via)

/-- The command can wait, on a device that is not held in reset: an entry of an open queue mailbox, or one that stands in the
slot of a rung bootstrap mailbox (R54). -/
def Device.mayHold (d : Device) (i : Instr) : Bool :=
  match mailCommand i with
  | some (c, e) =>
    !d.sec.inReset && (match e.via with
      | .queue k => (d.mbox k.val).isOpen
      | .boot n => d.rung n.val c.opcode e)
  | none => false

/-- Commands not yet started when their mailbox closed are answered DISCARDED (CLOSE_MAILBOX). -/
def Device.discard (d : Device) (i : Instr) : Device :=
  match mailCommand i with
  | some (c, e) =>
    match e.via with
    | .boot _ => d
    | .queue _ => if d.mayHold i then d else d.respond e.via c.opcode e.tag.toNat e.seq.toNat stDISCARDED true [] false 0
  | none => d

/-- What firmware does after a command: entries of a mailbox that has closed are discarded, and everything it owes is
served. Only entries of open mailboxes go on waiting, none through a full reset. -/
def State.settle (s : State) : State :=
  if s.dev.sec.inReset then { s with waiting := [] }
  else
    let d := (s.waiting.foldl Device.discard s.dev).serve
    { s with dev := d, waiting := s.waiting.filter (fun i => d.mayHold i) }

/-- A command that acts on a device that is not held in reset. -/
def State.live (s : State) (f : Device → Device) : Result :=
  if s.dev.sec.inReset then .next s else .next ({ s with dev := f s.dev } : State).settle

/-- A command on a lane (R5): what it does, and what its port's link then does. -/
def State.lane (s : State) (l : Fin 16) (f : Device → Device) : Result :=
  s.live (fun d => if d.lanePresent l then (f d).afterLane l else d)

/-- A command on a port. -/
def State.port (s : State) (p : Fin 8) (f : Device → Device) : Result :=
  s.live (fun d => if d.portPresent p then (f d).afterLink p else d)

/-- A command on the Palette of a port. -/
def State.emit (s : State) (p : Fin 8) (f : Device → Device) : Result :=
  s.port p (fun d => if d.emitPresent p then f d else d)

/-- A command that enters or leaves a full reset. -/
def State.resets (s : State) (f : Device → Device) : Result := .next ({ s with dev := f s.dev } : State).settle

/-- The command is an entry of a bootstrap mailbox. -/
def fromBoot (i : Instr) : Bool :=
  match viaOf i with
  | some (.boot _) => true
  | _ => false

/-- An entry of a queue mailbox lost to a device fault before it started: firmware owes it DISCARDED, and the sequence goes on
(R65). -/
def Device.lose (d : Device) (i : Instr) : Device :=
  match mailCommand i with
  | some (c, e) =>
    match e.via with
    | .boot _ => d
    | .queue _ =>
      let w : Work := { via := e.via, opcode := c.opcode, tag := e.tag.toNat, seq := e.seq.toNat, key := [], dead := true }
      ((d.takeCommand e).setCtl { (d.takeCommand e).ctl with works := d.ctl.works ++ [w] }).advanceSeq e
  | none => d

/-- A command that may raise READY: the queue entries that were waiting are lost (R65), the held ones of bootstrap mailboxes run
(R54). -/
def State.liveReady (s : State) (f : Device → Device) : Result :=
  s.live f |> fun r =>
    if s.dev.sec.inReset ∨ s.dev.ready ∨ !(f s.dev).ready then r
    else .next ({ s with dev := s.waiting.foldl Device.lose (f s.dev), waiting := s.waiting.filter fromBoot } : State).settle

/-- An earlier entry of the same mailbox is waiting (R62). -/
def State.behind (s : State) (v : Via) : Bool := s.waiting.any (fun i => decide (viaOf i = some v))

/-- A mailbox command: it waits its turn, or firmware takes it. -/
def State.command (s : State) (i : Instr) (c : CmdSpec) (e : Entry) (present : Bool) (body : Device → Reply) : Result :=
  if s.dev.sec.inReset then .next s
  else if s.dev.mustWait c e || s.behind e.via then
    .next ({ s with dev := s.dev.placeInput e, waiting := s.waiting ++ [i] } : State).settle
  else .next ({ s with dev := s.dev.runCommand c e present body } : State).settle

/-- Firmware comes to an entry at the head of mailbox `k`'s command queue whose opcode no command has, once it may start a
command there (R60 to R63): it is taken, checked in R60's order, and answered BAD_OPCODE. An entry with an opcode of the table
stands there until its own row comes (log entry 9). -/
def Device.fetchUnknown (d : Device) (k : Nat) : Device :=
  let q := 2 * k
  let c := d.ctx q
  let ready := d.fwRuns && (d.mbox k).isOpen && decide (c.kind = 1) && !c.error && decide (0 < c.level)
    && !d.owes k && d.takesResponse k && !d.atWork (.queue (Fin.ofNat 256 k))
  if !ready || !d.netAdmits false false .queue (c.entryAddr c.cons) 64 then d
  else
    let bs := d.hostRead (c.entryAddr c.cons) 64
    let op := fieldAt bs 0 2
    if opcodeDefined op then d
    else
      let e : Entry := { via := .queue (Fin.ofNat 256 k), tag := BitVec.ofNat 16 (fieldAt bs 2 2), length := BitVec.ofNat 16 (fieldAt bs 4 2)
                         flags := BitVec.ofNat 16 (fieldAt bs 6 2), seq := BitVec.ofNat 32 (fieldAt bs 8 4)
                         payload := bs.drop 12, inbuf := [] }
      let d := d.takeCommand e
      match d.outOfSequence e with
      | some x => d.respond e.via op e.tag.toNat e.seq.toNat stSEQUENCE true (leBytes 4 x) false 0
      | none => (d.advanceSeq e).respond e.via op e.tag.toNat e.seq.toNat (unknownStatus bs) true [] false 0

/-- Firmware looks at every mailbox whose entries do not wait already. -/
def State.fetch (s : State) : State :=
  { s with dev := (List.range 256).foldl (fun (d : Device) k =>
      if 1 ≤ k ∧ !s.behind (.queue (Fin.ofNat 256 k)) then d.fetchUnknown k else d) s.dev }

end Sys2Proof.Machine
end

