-- ==== Sys2Proof/Machine/ExecCalliope.lean ====
section
/-! DEFINITION. Calliope sequencers: what each command does. -/

namespace Sys2Proof.Machine

/-- Writing CAL_LD_CTL.GO starts a roll load into the standby bank, or refuses it (R84). -/
def execCalLoadGo (n : Fin 16) (s : State) : Result :=
  s.live (fun d => d.strike [] [(R.CAL_LD_CTL_SEQ, n.val), (R.CAL_LD_CTL_GO, 1)])

/-- The roll loader finishes its checks, setting VALID and ROLL_ID or reporting the first failure (R85). -/
def execRollLoadDone (s : State) : Result :=
  s.live (fun d => d.loadDone)

/-- CAL_CMD.HALT finishes the current step's words, abandons the wait and halts the sequencer (R90). -/
def execCalHaltWrite (n : Fin 16) (s : State) : Result :=
  s.live (fun d => d.strike [n.val] [(R.CAL_CMD_HALT, 1)])

/-- CAL_CMD.RESUME re-enters a halted sequencer's step at its wait, or at a new entry step (R90). -/
def execCalResumeWrite (n : Fin 16) (s : State) : Result :=
  s.live (fun d => d.strike [n.val] [(R.CAL_CMD_RESUME, 1)])

/-- CAL_CMD.CLEAR returns a halted or faulted sequencer to IDLE and clears CAL_FAULT (R89). -/
def execCalClearWrite (n : Fin 16) (s : State) : Result :=
  s.live (fun d => d.strike [n.val] [(R.CAL_CMD_CLEAR, 1)])

/-- A write of CAL_ATTACH sets the mask and home booth of a spare sequencer when allowed (R69). -/
def execCalAttachWrite (n : Fin 16) (booths : Nat) (home : Nat) (s : State) : Result :=
  s.live (fun d => d.strike [n.val] [(R.CAL_ATTACH_BOOTHS, booths), (R.CAL_ATTACH_HOME, home)])

/-- A write to CAL_TRELk sets Tk to the TT of the write plus the written value (R81). -/
def execCalTrelWrite (n : Fin 16) (k : Fin 4) (value : Word) (s : State) : Result :=
  s.live (fun d => d.poke R.CAL_TREL [n.val, k.val] value)

/-- A running sequencer enters a step, adopts a pending swap, issues its words and begins its wait (R75). -/
def execCalliopeStepEntry (n : Fin 16) (s : State) : Result :=
  s.live (fun d => d.stepEntry n)

/-- TT reaching a TIME wait's target ends the wait and the branch is evaluated (R77). -/
def execCalTimeWaitExpire (n : Fin 16) (s : State) : Result :=
  s.live (fun d => d.timeWaitEnd n)

/-- TT reaching a step's timeout ends the wait with TIMED_OUT set (R78). -/
def execCalTimeout (n : Fin 16) (s : State) : Result :=
  s.live (fun d => d.waitTimeout n)

/-- Returns a sequencer's state, PC, fault, roll IDs and attachment (R89). -/
def execCalQuery (e : Entry) (s : State) : Result :=
  s.command (.calQuery { e with inbuf := [] }) calQuerySpec e (s.dev.seqThere (e.u 12 1)) (fun d => d.calQuery e)

/-- Copies a host roll image into the Ringmaster region and loads it into the standby bank (R84). -/
def execCalLoad (e : Entry) (s : State) : Result :=
  s.command (.calLoad { e with inbuf := [] }) calLoadSpec e true (fun d => d.calLoad e)

/-- Stages or commits a bank swap, entry jump or start of a sequencer (R87). -/
def execCalSwap (e : Entry) (s : State) : Result :=
  s.command (.calSwap { e with inbuf := [] }) calSwapSpec e (s.dev.seqThere (e.u 12 1)) (fun d => d.calSwap e)

/-- Halts a host-owned sequencer (R90). -/
def execCalHalt (e : Entry) (s : State) : Result :=
  s.command (.calHalt { e with inbuf := [] }) calHaltSpec e (s.dev.seqThere (e.u 12 1)) (fun d => d.calHaltCmd e)

/-- Resumes a halted host-owned sequencer (R90). -/
def execCalResume (e : Entry) (s : State) : Result :=
  s.command (.calResume { e with inbuf := [] }) calResumeSpec e (s.dev.seqThere (e.u 12 1)) (fun d => d.calResumeCmd e)

/-- Clears a halted or faulted sequencer to IDLE (R89). -/
def execCalClear (e : Entry) (s : State) : Result :=
  s.command (.calClear { e with inbuf := [] }) calClearSpec e (s.dev.seqThere (e.u 12 1)) (fun d => d.calClearCmd e)

/-- Sets the attachment mask and home booth of CAL15 (R69). -/
def execCalAttach (e : Entry) (s : State) : Result :=
  s.command (.calAttach { e with inbuf := [] }) calAttachSpec e true (fun d => d.calAttachCmd e)

/-- Halts and clears a host roll's sequencer and returns it to firmware (R95). -/
def execCalRelease (e : Entry) (s : State) : Result :=
  s.command (.calRelease { e with inbuf := [] }) calReleaseSpec e (s.dev.seqThere (e.u 12 1)) (fun d => d.calRelease e)

end Sys2Proof.Machine
end

