-- ==== Sys2Proof/Machine/ExecCapture.lean ====
section
/-! DEFINITION. Capture, Swatch and Mordant: what each command does. -/

namespace Sys2Proof.Machine

/-- A line word enters its line FIFO, overwriting the oldest word if full (R222). -/
def execLineWordEnter (p : Fin 8) (k : Fin 64) (sol : Bool) (eol : Bool) (bytes : List Byte) (stamp : TT) (s : State) : Result :=
  s.port p (fun d => d.lineWord p k sol eol bytes stamp)

/-- The store stage takes a word round-robin from the line FIFOs and writes it to the frame store (R226). -/
def execStoreStageTake (p : Fin 8) (s : State) : Result :=
  s.port p (fun d => d.storeTake p)

/-- CAP_LF_DIAG.POP pops a word from a disabled stream's FIFO or sets DENIED (R225). -/
def execLineFifoDiagPop (p : Fin 8) (k : Fin 64) (s : State) : Result :=
  s.port p (fun d => d.strike [p.val] [(R.CAP_LF_DIAG_FIFO, k.val), (R.CAP_LF_DIAG_POP, 1)])

/-- A frame's first line takes the next slot and frame number, or ends as a NO_BUFFER or THROTTLED placeholder (R228).
-/
def execCapFrameStart (p : Fin 8) (k : Fin 64) (header : LineHdr) (stamp : TT) (s : State) : Result :=
  s.port p (fun d => d.lineGate p (fun d => d.beginLine p k (header.starting) stamp))

/-- CAP_CMD OP OPEN arms a COMMAND-framing stream for a frame (R218). -/
def execCapOpen (p : Fin 8) (k : Fin 64) (s : State) : Result :=
  s.port p (fun d => d.strike [p.val] [(R.CAP_CMD_STREAM, k.val), (R.CAP_CMD_OP, 1)])

/-- CAP_CMD OP CLOSE ends the open frame of a COMMAND-framing stream (R218). -/
def execCapClose (p : Fin 8) (k : Fin 64) (s : State) : Result :=
  s.port p (fun d => d.strike [p.val] [(R.CAP_CMD_STREAM, k.val), (R.CAP_CMD_OP, 2)])

/-- CAP_CMD OP TRUNCATE ends the open frame with TRUNCATED set (R218). -/
def execCapTruncate (p : Fin 8) (k : Fin 64) (s : State) : Result :=
  s.port p (fun d => d.strike [p.val] [(R.CAP_CMD_STREAM, k.val), (R.CAP_CMD_OP, 3)])

/-- A write to CAP_REL frees a CLOSED slot of the named generation or counts REL_BAD (R229). -/
def execCapRelWrite (p : Fin 8) (k : Fin 64) (gen : Bool) (slot : Nat) (s : State) : Result :=
  s.port p (fun d => d.strike [p.val] [(R.CAP_REL_STREAM, k.val), (R.CAP_REL_GEN, b2n gen), (R.CAP_REL_SLOT, slot)])

/-- TT reaching FIRST_TT plus BLOCK_NS closes a non-empty line-scan block (R219). -/
def execLinescanTimeClose (p : Fin 8) (k : Fin 64) (s : State) : Result :=
  s.port p (fun d => d.blockTime p k)

/-- Payload, table and tag become resident, FRAME_EV fires and a DIRECT tag goes to its queue (R232). -/
def execCapFrameEvent (p : Fin 8) (k : Fin 64) (s : State) : Result :=
  s.port p (fun d => d.frameEvent p k)

/-- Returns a stream's flags, free slots, next frame and FIFO levels (R231). -/
def execCapQuery (e : Entry) (s : State) : Result :=
  s.command (.capQuery { e with inbuf := [] }) capQuerySpec e (s.dev.portThere (e.u 12 1)) (fun d => d.capQuery e)

/-- Configures a capture stream and its ring, and for COMMAND framing its roll (R214). -/
def execCapStream (e : Entry) (s : State) : Result :=
  s.command (.capStream { e with inbuf := [] }) capStreamSpec e (s.dev.portThere (e.u 12 1)) (fun d => d.capStream e)

/-- Starts or stops a capture stream at its next frame boundary (R237). -/
def execCapEnable (e : Entry) (s : State) : Result :=
  s.command (.capEnable { e with inbuf := [] }) capEnableSpec e (s.dev.portThere (e.u 12 1)) (fun d => d.capEnable e)

/-- Releases a CLOSED slot of a DIRECT stream (R229). -/
def execCapRelease (e : Entry) (s : State) : Result :=
  s.command (.capRelease { e with inbuf := [] }) capReleaseSpec e (s.dev.portThere (e.u 12 1)) (fun d => d.capReleaseCmd e)

/-- Returns and optionally clears firmware totals of capture counters (R224). -/
def execCapCounters (e : Entry) (s : State) : Result :=
  s.command (.capCounters { e with inbuf := [] }) capCountersSpec e (s.dev.portThere (e.u 12 1)) (fun d => d.capCounters e)

/-- The manifest builder accepts a seal, numbers it into the open manifest, or refuses it (R261). -/
def execSealAccept (s : State) : Result :=
  s.live (fun d => d.sealAccept)

/-- INTERVAL elapsing since OPEN_TT closes the open manifest (R263). -/
def execManifestIntervalClose (s : State) : Result :=
  s.live (fun d => d.intervalClose)

/-- Writing MB_CTL.FLUSH closes the open manifest with reason FLUSH (R263). -/
def execMbFlush (s : State) : Result :=
  s.live (fun d => d.strike [] [(R.MB_CTL_FLUSH, 1)])

/-- The signer finishes a manifest signature and a deferred close may proceed (R266). -/
def execManifestSigned (s : State) : Result :=
  s.live (fun d => d.manifestSigned)

/-- A write to MB_REL frees a manifest ring slot, letting a held manifest be written (R268). -/
def execMbRelWrite (slot : Nat) (s : State) : Result :=
  s.live (fun d => d.strike [] [(R.MB_REL_SLOT, slot)])

/-- Every 1 ms a held manifest whose write the Net refused is retried (R268). -/
def execManifestWriteRetry (s : State) : Result :=
  s.live (fun d => d.manifestRetry)

/-- Configures a Swatch context and its result area (R257). -/
def execSwConfig (e : Entry) (s : State) : Result :=
  s.command (.swConfig { e with inbuf := [] }) swConfigSpec e true (fun d => d.swConfig e)

/-- Stages a reference's base, stride, lines and REF_VALID together (R248). -/
def execSwReference (e : Entry) (s : State) : Result :=
  s.command (.swReference { e with inbuf := [] }) swReferenceSpec e (s.dev.portThere (e.u 12 1)) (fun d => d.swReference e)

/-- Sets a Swatch region of interest (R252). -/
def execSwRegion (e : Entry) (s : State) : Result :=
  s.command (.swRegion { e with inbuf := [] }) swRegionSpec e (s.dev.portThere (e.u 12 1)) (fun d => d.swRegion e)

/-- Copies a frame's Swatch result record to the host (R255). -/
def execSwResult (e : Entry) (s : State) : Result :=
  s.command (.swResult { e with inbuf := [] }) swResultSpec e true (fun d => d.swResult e)

/-- Configures sealing masks and the manifest builder and its host delivery (R268). -/
def execMdConfig (e : Entry) (s : State) : Result :=
  s.command (.mdConfig { e with inbuf := [] }) mdConfigSpec e true (fun d => d.mdConfig e)

/-- Flushes the open manifest and answers when it is written (R263). -/
def execMdFlush (e : Entry) (s : State) : Result :=
  s.command (.mdFlush { e with inbuf := [] }) mdFlushSpec e true (fun d => d.mdFlush e)

/-- Writes the seal key statement to the host (R267). -/
def execMdStatement (e : Entry) (s : State) : Result :=
  s.command (.mdStatement { e with inbuf := [] }) mdStatementSpec e true (fun d => d.mdStatement e)

/-- Returns manifest sequence, next entry and builder state (R262). -/
def execMdQuery (e : Entry) (s : State) : Result :=
  s.command (.mdQuery { e with inbuf := [] }) mdQuerySpec e true (fun d => d.mdQuery e)

end Sys2Proof.Machine
end

