-- ==== Sys2Proof/Machine/ExecCurtain.lean ====
section
/-! DEFINITION. Curtain transactions and the Net port: what each command does. -/

namespace Sys2Proof.Machine

/-- A write of CUR_STG_DATA stages an entry into a slot and returns the stage result (R99). -/
def execCurtainStage (high : Bool) (value : Word) (s : State) : Result :=
  s.live (fun d => d.stagePort high value)

/-- A 32-bit write to the lower half of CUR_STG_DATA holds that half without staging (R99). -/
def execStageDataLowWrite (value : BitVec 32) (s : State) : Result :=
  s.live (fun d => d.stageLowWrite value)

/-- Setting CUR_TXn_CTL.OPEN clears a free slot's entries and enters OPEN (R96). -/
def execCurTxOpen (n : Fin 16) (s : State) : Result :=
  s.live (fun d => d.strike [n.val] [(R.CUR_TX_CTL_OPEN, 1)])

/-- Setting CUR_TXn_CTL.COMMIT starts the commit check of an open slot (R102). -/
def execCurTxCommit (n : Fin 16) (s : State) : Result :=
  s.live (fun d => d.strike [n.val] [(R.CUR_TX_CTL_COMMIT, 1)])

/-- Setting CUR_TXn_CTL.CANCEL frees, aborts or is ignored according to the slot's state (R117). -/
def execCurTxCancel (n : Fin 16) (s : State) : Result :=
  s.live (fun d => d.strike [n.val] [(R.CUR_TX_CTL_CANCEL, 1)])

/-- The commit check finishes, either fixing the adoption tick and arming or aborting with a reason (R102). -/
def execCurtainCheckDone (n : Fin 16) (s : State) : Result :=
  s.live (fun d => d.checkDone n)

/-- TT passing an EVENT-mode deadline without a firing aborts the slot with DEADLINE (R116). -/
def execCurtainDeadlinePass (n : Fin 16) (s : State) : Result :=
  s.live (fun d => d.deadlinePass n)

/-- At TT_c minus 64 ns every target samples readiness again and any unready target aborts the transaction (R106). -/
def execCurtainFinalSample (n : Fin 16) (s : State) : Result :=
  s.live (fun d => d.finalSample n)

/-- At TT_c the transaction is adopted, the epoch incremented and INSTANT fields applied (R104). -/
def execCurtainAdopt (n : Fin 16) (s : State) : Result :=
  s.live (fun d => d.curtainAdopt n)

/-- The security unit finishes extending the configuration digest with an adopted transaction (R456). -/
def execConfigDigestExtend (s : State) : Result :=
  s.live (fun d => d.digestExtend)

/-- NET_HASHk is updated with the digest of the table after a TX15 adoption (R122). -/
def execNetHashUpdate (s : State) : Result :=
  s.live (fun d => d.netHashUpdate)

/-- Opens a free transaction slot TX0-TX13 for the mailbox (R96). -/
def execTxnOpen (e : Entry) (s : State) : Result :=
  s.command (.txnOpen { e with inbuf := [] }) txnOpenSpec e true (fun d => d.txnOpen e)

/-- Stages up to COUNT entries into an open transaction, stopping at the first refusal (R99). -/
def execTxnStage (e : Entry) (s : State) : Result :=
  s.command (.txnStage { e with inbuf := [] }) txnStageSpec e true (fun d => d.txnStage e)

/-- Commits a transaction in IMMEDIATE, TIME or EVENT mode and answers finally on adoption or abort (R101). -/
def execTxnCommit (e : Entry) (s : State) : Result :=
  s.command (.txnCommit { e with inbuf := [] }) txnCommitSpec e true (fun d => d.txnCommit e)

/-- Cancels a transaction under R117 or reports it too late (R117). -/
def execTxnCancel (e : Entry) (s : State) : Result :=
  s.command (.txnCancel { e with inbuf := [] }) txnCancelSpec e true (fun d => d.txnCancel e)

/-- Returns a transaction's state, reason, count, epoch and adoption tick (R116). -/
def execTxnQuery (e : Entry) (s : State) : Result :=
  s.command (.txnQuery { e with inbuf := [] }) txnQuerySpec e true (fun d => d.txnQuery e)

/-- Returns the device epoch and the Curtain status bits (R113). -/
def execEpochQuery (e : Entry) (s : State) : Result :=
  s.command (.epochQuery { e with inbuf := [] }) epochQuerySpec e true (fun d => d.epochQuery)

/-- NET_PORT_CTL.UNLOCK compares the host key hash and sets UNLOCKED or counts a failure (R129). -/
def execNetPortUnlock (s : State) : Result :=
  s.live (fun d => d.hostDoes Device.netUnlock)

/-- NET_PORT_CTL.OPEN opens TX15 while the port is unlocked (R130). -/
def execNetPortOpen (s : State) : Result :=
  s.live (fun d => d.hostDoes Device.netOpen)

/-- NET_PORT_CTL.COMMIT commits TX15 in IMMEDIATE mode with exclusion (R130). -/
def execNetPortCommit (s : State) : Result :=
  s.live (fun d => d.hostDoes Device.netCommit)

/-- NET_PORT_CTL.CANCEL cancels TX15 under R117 whatever UNLOCKED says (R129). -/
def execNetPortCancel (s : State) : Result :=
  s.live (fun d => d.hostDoes Device.netCancel)

/-- NET_PORT_CTL.LOCK clears UNLOCKED (R129). -/
def execNetPortLock (s : State) : Result :=
  s.live (fun d => d.hostDoes Device.netLock)

/-- A write of NET_PORT_DATA stages a limits-table entry into TX15 while unlocked (R129). -/
def execNetPortStage (high : Bool) (value : Word) (s : State) : Result :=
  s.live (fun d => d.hostDoes (fun d => d.netStage high value))

/-- A 32-bit write to the lower half of NET_PORT_DATA holds that half without staging (R129). -/
def execNetPortDataLowWrite (value : BitVec 32) (s : State) : Result :=
  s.live (fun d => d.hostDoes (fun d => d.netLowWrite value))

end Sys2Proof.Machine
end

