-- ==== Sys2Proof/Machine/ExecDelivery.lean ====
section
/-! DEFINITION. Carousel and DMA: what each command does. -/

namespace Sys2Proof.Machine

/-- A DB_PROD write on a command queue is tested and adopted, submitting entries, or errors the queue (R298). -/
def execDoorbellProdWrite (q : Fin 1048576) (prod : BitVec 32) (s : State) : Result :=
  s.live (fun d => d.doorbellSubmit q prod)

/-- A DB_CONS write returns entries, rearms the interrupt and lets held appends proceed (R298). -/
def execDoorbellConsWrite (q : Fin 1048576) (cons : BitVec 32) (s : State) : Result :=
  s.live (fun d => d.doorbellCons q cons)

/-- A read of DB_WM returns WM_HIT and PEAK, clears WM_HIT and resets PEAK to the level (R301). -/
def execDbWmRead (q : Fin 1048576) (s : State) : Result :=
  s.live (fun d => d.watermarkRead q)

/-- DB_CTL.REARM sets IRQ_ARMED and signals unconsumed entries at once (R301). -/
def execDbRearm (q : Fin 1048576) (s : State) : Result :=
  s.live (fun d => d.doorbellRearm q)

/-- CAR_CTX_CMD.LOAD reads a queue context into the data registers (R294). -/
def execCarCtxLoad (s : State) : Result :=
  s.live (fun d => d.strike [] [(R.CAR_CTX_CMD_LOAD, 1)])

/-- CAR_CTX_CMD.STORE writes a context in one update after its checks, or sets ERR (R294). -/
def execCarCtxStore (s : State) : Result :=
  s.live (fun d => d.strike [] [(R.CAR_CTX_CMD_STORE, 1)])

/-- Writing an entry's last word to CAR_APP_DATA appends it to the target queue (R299). -/
def execCarAppend (value : Word) (s : State) : Result :=
  s.live (fun d => d.carAppend value)

/-- CAR_TAKE_CMD.TAKE reads the entry at CONS of a command queue and advances CONS (R298). -/
def execCarTake (s : State) : Result :=
  s.live (fun d => d.strike [] [(R.CAR_TAKE_CMD_TAKE, 1)])

/-- COAL_US elapsing since the oldest unsignalled entry requests a message (R301). -/
def execCoalesceTimeout (q : Fin 1048576) (s : State) : Result :=
  s.live (fun d => d.signalIfDue q)

/-- When a masking condition ends, one message is sent for a pending vector (R427). -/
def execMsixPendingSend (s : State) : Result :=
  s.live (fun d => d.sendPending)

/-- Setting DMA_CHn_CTL.ARM arms the shadow set, or is ignored if already armed (R305). -/
def execDmaArmWrite (e : Fin 32) (c : Fin 16) (s : State) : Result :=
  s.live (fun d => d.strike [e.val, c.val] [(R.DMA_CH_CTL_ARM, 1)])

/-- DMA_CHn_CTL.DISARM clears ARM unless a hand-over already took it (R306). -/
def execDmaDisarmWrite (e : Fin 32) (c : Fin 16) (s : State) : Result :=
  s.live (fun d => d.strike [e.val, c.val] [(R.DMA_CH_CTL_DISARM, 1)])

/-- A write of DMA_CHn_CTL.PAUSE pauses or resumes a channel (R310). -/
def execDmaPauseWrite (e : Fin 32) (c : Fin 16) (on : Bool) (s : State) : Result :=
  s.live (fun d => d.strike [e.val, c.val] [(R.DMA_CH_CTL_PAUSE, b2n on)])

/-- A running transfer stops new reads, completes its writes and enters PAUSED (R310). -/
def execDmaPauseDone (e : Fin 32) (moved : Nat) (s : State) : Result :=
  s.live (fun d => d.dmaPauseDone e moved)

/-- A transfer's last write leaves the engine and its completion record is appended (R312). -/
def execDmaTransferEnd (e : Fin 32) (s : State) : Result :=
  s.live (fun d => d.dmaEnd e)

/-- A completion error, poison or timeout on a DMA read raises a contained fault of the engine (R428). -/
def execDmaReadCompletionError (r : EngineRead) (s : State) : Result :=
  s.live (fun d => d.dmaReadError r.engine r.kind)

/-- Opens a general queue with its ring, kind and interrupt settings (R291). -/
def execQOpen (e : Entry) (s : State) : Result :=
  s.command (.qOpen { e with inbuf := [] }) qOpenSpec e true (fun d => d.qOpen e)

/-- Closes a queue not named by any stream or channel (R291). -/
def execQClose (e : Entry) (s : State) : Result :=
  s.command (.qClose { e with inbuf := [] }) qCloseSpec e true (fun d => d.qClose e)

/-- Returns a queue's indices, counts, kind and error (R294). -/
def execQQuery (e : Entry) (s : State) : Result :=
  s.command (.qQuery { e with inbuf := [] }) qQuerySpec e true (fun d => d.qQuery e)

/-- Clears a queue's error and optionally empties it (R302). -/
def execQReset (e : Entry) (s : State) : Result :=
  s.command (.qReset { e with inbuf := [] }) qResetSpec e true (fun d => d.qReset e)

/-- Claims and configures or releases a DMA channel (R309). -/
def execDmaChannel (e : Entry) (s : State) : Result :=
  s.command (.dmaChannel { e with inbuf := [] }) dmaChannelSpec e true (fun d => d.dmaChannel e)

/-- Writes or stages a channel's shadow set and ARM, optionally waiting for its record (R305). -/
def execDmaSubmit (e : Entry) (s : State) : Result :=
  s.command (.dmaSubmit { e with inbuf := [] }) dmaSubmitSpec e true (fun d => d.dmaSubmit e)

/-- Pauses, resumes or disarms a DMA channel (R310). -/
def execDmaPause (e : Entry) (s : State) : Result :=
  s.command (.dmaPause { e with inbuf := [] }) dmaPauseSpec e true (fun d => d.dmaPauseCmd e)

/-- Returns a channel's state, generation, remaining length and configuration (R305). -/
def execDmaQuery (e : Entry) (s : State) : Result :=
  s.command (.dmaQuery { e with inbuf := [] }) dmaQuerySpec e true (fun d => d.dmaQuery e)

end Sys2Proof.Machine
end

