-- ==== Sys2Proof/Machine/ExecFaults.lean ====
section
/-! DEFINITION. Faults and the errors of memories and links: what each command does. -/

namespace Sys2Proof.Machine

/-- A waiting record leaves the on-chip log for Q0 in RECNO order once Q0 is open with room (R140). -/
def execFaultLogDrain (s : State) : Result :=
  s.live (fun d => d.logDrain)

/-- A lane loss lasting 1 µs while a port frame is open raises a contained fault LINK_LOSS (R135). -/
def execLinkLossTimeout (p : Fin 8) (s : State) : Result :=
  s.live (fun d => d.linkLoss p)

/-- A line-FIFO or protocol-unit parity or sequencing error raises a contained fault of the port booth (R135). -/
def execFifoParityError (p : Fin 8) (s : State) : Result :=
  s.live (fun d => d.fifoParity p)

/-- An uncorrectable ECC error in the SRAM of a non-port booth raises a device fault BOOTH_UECC (R135). -/
def execBoothSramUecc (booth : Fin 16) (s : State) : Result :=
  s.live (fun d => d.boothUecc booth)

/-- An uncorrectable HBM word is reported to its requester with the consequence for its class (R433). -/
def execHbmUncorrectableError (cls : Nat) (booth : Nat) (index : Nat) (off : Nat) (s : State) : Result :=
  s.live (fun d => d.hbmUncorr cls booth index off)

/-- A single-bit HBM error is corrected, written back and counted (R433). -/
def execHbmCorrectedError (cls : Nat) (booth : Nat) (index : Nat) (off : Nat) (s : State) : Result :=
  s.live (fun d => d.hbmCorr cls booth index off)

/-- The patrol scrub reads a word, rewriting corrected and logging uncorrectable ones (R434). -/
def execPatrolScrub (off : Nat) (found : Bool) (uncorrectable : Bool) (s : State) : Result :=
  s.live (fun d => d.patrolScrub off found uncorrectable)

/-- An uncorrectable ECC error in a port booth's SRAM or FIFOs, or inside a DMA engine, raises a contained fault with
reason UECC (R135). -/
def execContainedSramUecc (engine : Bool) (n : Fin 32) (s : State) : Result :=
  s.live (fun d => d.containedUecc engine n)

/-- A completion error, poisoned data or timeout on a Carousel ring or mailbox input-buffer read puts the queue in
error HOST or discards the command (R428). -/
def execQueueReadCompletionError (r : RingRead) (cmd : Option (Nat × Entry)) (s : State) : Result :=
  s.live (fun d => d.queueReadError r.queue cmd r.kind)

/-- An ECRC failure, malformed TLP, receiver overflow or flow-control error on a received TLP drops it and is logged
in AER (R428). -/
def execLinkTlpError (kind : AerKind) (s : State) : Result :=
  s.live (fun d => d.linkTlpError kind)

end Sys2Proof.Machine
end

