-- ==== Sys2Proof/Machine/ExecFeedback.lean ====
section
/-! DEFINITION. Feedback channels: what each command does. -/

namespace Sys2Proof.Machine

/-- An accepted quadrature edge counts, stamps, updates direction and speed (R371). -/
def execEncoderEdge (f : Fin 4) (a : Bool) (b : Bool) (stamp : TT) (s : State) : Result :=
  s.live (fun d => d.encoderEdge f a b stamp)

/-- A new Hall state counts up or down or records an invalid or jumped state (R372). -/
def execHallStateChange (f : Fin 4) (state : Fin 8) (stamp : TT) (s : State) : Result :=
  s.live (fun d => d.hallChange f state stamp)

/-- Each PERIOD_US an SSI read starts, or is refused and counted (R373). -/
def execSsiReadStart (f : Fin 4) (high : Bool) (t : TT) (s : State) : Result :=
  s.live (fun d => d.ssiStart f high t)

/-- An SSI frame completes and its reading is accepted as an edge or discarded (R373). -/
def execSsiReadingDone (f : Fin 4) (reading : Nat) (s : State) : Result :=
  s.live (fun d => d.ssiDone f reading)

/-- An accepted FBn_SW edge latches position when armed, or counts chatter (R380). -/
def execSwitchEdge (f : Fin 4) (rising : Bool) (t : TT) (since : Int) (s : State) : Result :=
  s.live (fun d => d.edgeLatch f 0 rising t since)

/-- An accepted FBn_Z edge latches position when armed (R380). -/
def execIndexEdge (f : Fin 4) (rising : Bool) (t : TT) (since : Int) (s : State) : Result :=
  s.live (fun d => d.edgeLatch f 1 rising t since)

/-- TIMEOUT_US without a counted edge clears SPEED_VALID and sets SPEED_LOST (R378). -/
def execSpeedTimeout (f : Fin 4) (s : State) : Result :=
  s.live (fun d => d.speedTimeout f)

/-- FB_CMD.SET_POS sets the position to the preset and rejudges the compare (R375). -/
def execFbSetPosWrite (f : Fin 4) (s : State) : Result :=
  s.live (fun d => d.strike [f.val] [(R.FB_CMD_SET_POS, 1)])

/-- FB_LATCH.ARM arms the latch and clears LATCHED and CHATTER_CNT (R380). -/
def execFbLatchArm (f : Fin 4) (s : State) : Result :=
  s.live (fun d => d.strike [f.val] [(R.FB_LATCH_ARM, 1)])

/-- An uncorrectable ECC in the motion booth cuts every enable, sets SUSPECT and logs a motion note (R138). -/
def execMotionUecc (s : State) : Result :=
  s.live (fun d => d.motionUecc)

/-- Returns a channel's count, revolution, speed and status (R374). -/
def execFbQuery (e : Entry) (s : State) : Result :=
  s.command (.fbQuery { e with inbuf := [] }) fbQuerySpec e true (fun d => d.fbQuery e)

/-- Configures a feedback channel (R369). -/
def execFbConfig (e : Entry) (s : State) : Result :=
  s.command (.fbConfig { e with inbuf := [] }) fbConfigSpec e true (fun d => d.fbConfig e)

/-- Sets a feedback channel's position (R375). -/
def execFbSetPos (e : Entry) (s : State) : Result :=
  s.command (.fbSetPos { e with inbuf := [] }) fbSetPosSpec e true (fun d => d.fbSetPosCmd e)

/-- Arms or disarms a position latch, optionally waiting for it (R380). -/
def execFbLatch (e : Entry) (s : State) : Result :=
  s.command (.fbLatch { e with inbuf := [] }) fbLatchSpec e true (fun d => d.fbLatch e)

/-- Sets a channel's compare unit (R379). -/
def execFbCompare (e : Entry) (s : State) : Result :=
  s.command (.fbCompare { e with inbuf := [] }) fbCompareSpec e true (fun d => d.fbCompare e)

/-- Returns and optionally clears firmware totals of feedback counters (R371). -/
def execFbCounters (e : Entry) (s : State) : Result :=
  s.command (.fbCounters { e with inbuf := [] }) fbCountersSpec e true (fun d => d.fbCounters e)

end Sys2Proof.Machine
end

