-- ==== Sys2Proof/Machine/ExecHost.lean ====
section
/-! DEFINITION. The host link: what each command does. -/

namespace Sys2Proof.Machine

/-- A BAR4 read is mapped and Net-checked, returning after earlier writes are resident (R422). -/
def execBar4Read (off : Nat) (len : Nat) (s : State) : Result :=
  s.live (fun d => d.bar4Read off len)

/-- A BAR4 write is mapped and Net-checked and becomes resident within 2 µs, or is dropped (R421). -/
def execBar4Write (off : Nat) (bytes : List Byte) (poisoned : Bool) (s : State) : Result :=
  s.live (fun d => d.bar4Write off bytes poisoned)

/-- A write of HOST_AP_BASE moves the aperture, or is ignored with CFG_BAD (R423). -/
def execHostApBaseWrite (base : Nat) (s : State) : Result :=
  s.live (fun d => d.apBaseHost base)

/-- A misaligned or unsupported BAR0 or BAR2 request completes with UR or is dropped and counted (R419). -/
def execBarBadAccess (s : State) : Result :=
  s.live (fun d => d.barBad)

/-- Bus Master Enable falling stalls link requests, and rising resumes them in order (R425). -/
def execBusMasterChange (cfg : HostCfg) (s : State) : Result :=
  s.live (fun d => d.busMasterChange cfg)

/-- Entering D3hot stalls requests and makes BAR requests complete with UR (R426). -/
def execD3hotEntry (s : State) : Result :=
  s.live (fun d => d.d3hotEntry)

/-- FLR, hot reset, DL_Down or D3hot to D0 causes a full device reset (R430). -/
def execLinkReset (s : State) : Result :=
  s.resets (fun d => d.linkReset)

end Sys2Proof.Machine
end

