-- ==== Sys2Proof/Machine/ExecLanes.lean ====
section
/-! DEFINITION. Lanes: what each command does. -/

namespace Sys2Proof.Machine

/-- A write of LN_CTL sets rate, enables, inversion, precoding and loop, ignoring RATE while the lane is on (R169). -/
def execLaneCtlWrite (l : Fin 16) (value : Word) (s : State) : Result :=
  s.lane l (fun d => d.poke R.LN_CTL (lx l.val) value)

/-- A write of LN_TX sets swing and idle under the Net, clearing TX_IDLE starting a wake burst (R149). -/
def execLaneTxWrite (l : Fin 16) (value : Word) (s : State) : Result :=
  s.lane l (fun d => d.poke R.LN_TX (lx l.val) value)

/-- A write of LN_FFE takes a valid tap set, or is ignored with CFG_BAD (R150). -/
def execLaneFfeWrite (l : Fin 16) (value : Word) (s : State) : Result :=
  s.lane l (fun d => d.poke R.LN_FFE (lx l.val) value)

/-- LN_TRAIN_CTL.START loads the local preset, wakes the transmitter and enters WAIT (R154). -/
def execLnTrainStart (l : Fin 16) (s : State) : Result :=
  s.lane l (fun d => d.strike (lx l.val) [(R.LN_TRAIN_CTL_START, 1)])

/-- LN_TRAIN_CTL.ABORT returns the training engine to OFF (R154). -/
def execLnTrainAbort (l : Fin 16) (s : State) : Result :=
  s.lane l (fun d => d.strike (lx l.val) [(R.LN_TRAIN_CTL_ABORT, 1)])

/-- A manual request word written to LN_TRAIN_REQ is sent to the far transmitter (R155). -/
def execLnTrainReqWrite (l : Fin 16) (request : BitVec 16) (s : State) : Result :=
  s.lane l (fun d => d.strike (lx l.val) [(R.LN_TRAIN_REQ_REQ, request.toNat)])

/-- Writing LN_TRAIN_REQ.DONE declares the local receiver done in manual training (R155). -/
def execLnTrainDoneWrite (l : Fin 16) (s : State) : Result :=
  s.lane l (fun d => d.strike (lx l.val) [(R.LN_TRAIN_REQ_DONE, 1)])

/-- A received training frame's request and response words drive the responder and the training state (R153). -/
def execTrainFrameRx (l : Fin 16) (head : BitVec 128) (word2 copy : Word) (eye : Nat) (s : State) : Result :=
  s.lane l (fun d => d.trainFrame l head word2 copy eye)

/-- TIMEOUT ms after START without reaching DATA puts training into FAIL (R154). -/
def execLaneTrainTimeout (l : Fin 16) (s : State) : Result :=
  s.lane l (fun d => d.trainTimeout l)

/-- The 4,096-symbol wake burst ends and the transmitter takes data (R159). -/
def execWakeBurstDone (l : Fin 16) (s : State) : Result :=
  s.lane l (fun d => d.wakeBurstDone l)

/-- A received wake burst ends the receive hold and fires EV252 (R160). -/
def execLaneWakeRx (l : Fin 16) (s : State) : Result :=
  s.lane l (fun d => d.laneWake l)

/-- The transmit PLL locks after TX_ON (R170). -/
def execTxpllLock (l : Fin 16) (s : State) : Result :=
  s.lane l (fun d => d.txPllLock l)

/-- The receive CDR locks to the incoming signal (R170). -/
def execCdrLock (l : Fin 16) (s : State) : Result :=
  s.lane l (fun d => d.cdrLock l)

/-- The receive CTLE and DFE have settled (R156). -/
def execAdaptOk (l : Fin 16) (ctle : Nat) (dfe : List Byte) (s : State) : Result :=
  s.lane l (fun d => d.adaptOk l ctle dfe)

/-- Received amplitude below threshold for ASSERT_NS asserts LOS and holds CDR state (R163). -/
def execLosAssert (l : Fin 16) (mv : Nat) (ns : Nat) (s : State) : Result :=
  s.lane l (fun d => d.losAssert l mv ns)

/-- Amplitude above threshold plus hysteresis for 16 ns deasserts LOS (R163). -/
def execLosDeassert (l : Fin 16) (mv : Nat) (ns : Nat) (s : State) : Result :=
  s.lane l (fun d => d.losDeassert l mv ns)

/-- CDR frequency error or phase-detector failure asserts loss of lock (R164). -/
def execLolAssert (l : Fin 16) (ppm : Nat) (words : Nat) (s : State) : Result :=
  s.lane l (fun d => d.lolAssert l ppm words)

/-- Writing LN_ALIGN_CTL.SLIP requests a one-symbol delay of the receive stream (R157). -/
def execLnSlip (l : Fin 16) (s : State) : Result :=
  s.lane l (fun d => d.strike (lx l.val) [(R.LN_ALIGN_CTL_SLIP, 1)])

/-- The slip takes effect, SLIP_BUSY clears and the comparator restarts (R157). -/
def execLaneSlipDone (l : Fin 16) (s : State) : Result :=
  s.lane l (fun d => d.laneSlipDone l)

/-- LOSE consecutive periods without a match clear FOUND and restart the search (R158). -/
def execAlignLost (l : Fin 16) (s : State) : Result :=
  s.lane l (fun d => d.alignLost l)

/-- LN_HIST_CTL.START begins a histogram window (R165). -/
def execLnHistStart (l : Fin 16) (s : State) : Result :=
  s.lane l (fun d => d.strike (lx l.val) [(R.LN_HIST_CTL_START, 1)])

/-- The histogram window ends and levels and spread are computed (R165). -/
def execLaneHistDone (l : Fin 16) (low : List (BitVec 32)) (inner : List (List (BitVec 32))) (high : List (BitVec 32)) (s : State) : Result :=
  s.lane l (fun d => d.histDone l ([low] ++ inner ++ [high]))

/-- The PRBS checker locks on 64 error-free bits (R162). -/
def execPrbsCheckerLock (l : Fin 16) (symbols : List Nat) (s : State) : Result :=
  s.lane l (fun d => d.prbsCheck l symbols)

/-- Returns a lane's rate, status, training, alignment and equaliser settings (R144). -/
def execLaneQuery (e : Entry) (s : State) : Result :=
  s.command (.laneQuery { e with inbuf := [] }) laneQuerySpec e (s.dev.laneThere (e.u 12 1)) (fun d => d.laneQuery e)

/-- Configures rate, enables, FFE, swing and LOS settings of a lane (R145). -/
def execLaneConfig (e : Entry) (s : State) : Result :=
  s.command (.laneConfig { e with inbuf := [] }) laneConfigSpec e (s.dev.laneThere (e.u 12 1)) (fun d => d.laneConfig e)

/-- Runs lane training and answers finally at DATA or FAIL (R154). -/
def execLaneTrain (e : Entry) (s : State) : Result :=
  s.command (.laneTrain { e with inbuf := [] }) laneTrainSpec e (s.dev.laneThere (e.u 12 1)) (fun d => d.laneTrain e)

/-- Runs the marker search over up to 64 offsets and answers with the offset found (R158). -/
def execLaneAlign (e : Entry) (s : State) : Result :=
  s.command (.laneAlign { e with inbuf := [] }) laneAlignSpec e (s.dev.laneThere (e.u 12 1)) (fun d => d.laneAlign e)

/-- Sets or clears TX_IDLE of a lane (R159). -/
def execLaneIdle (e : Entry) (s : State) : Result :=
  s.command (.laneIdle { e with inbuf := [] }) laneIdleSpec e (s.dev.laneThere (e.u 12 1)) (fun d => d.laneIdle e)

/-- Selects a lane loopback mode in TEST (R161). -/
def execLaneLoop (e : Entry) (s : State) : Result :=
  s.command (.laneLoop { e with inbuf := [] }) laneLoopSpec e (s.dev.laneThere (e.u 12 1)) (fun d => d.laneLoop e)

/-- Controls the PRBS generator and checker and returns lock and errors (R162). -/
def execLanePrbs (e : Entry) (s : State) : Result :=
  s.command (.lanePrbs { e with inbuf := [] }) lanePrbsSpec e (s.dev.laneThere (e.u 12 1)) (fun d => d.lanePrbs e)

/-- Runs a histogram window and writes the bins and levels to the host (R165). -/
def execLaneHist (e : Entry) (s : State) : Result :=
  s.command (.laneHist { e with inbuf := [] }) laneHistSpec e true (fun d => d.laneHist e)

/-- Returns and optionally clears the firmware totals of lane counters (R166). -/
def execLaneCounters (e : Entry) (s : State) : Result :=
  s.command (.laneCounters { e with inbuf := [] }) laneCountersSpec e (s.dev.laneThere (e.u 12 1)) (fun d => d.laneCounters e)

/-- Every 10 ms firmware samples the RC counters of enabled units into its totals (R166). -/
def execFirmwareCounterSample (s : State) : Result :=
  s.live (fun d => d.sampleAll)

/-- LOS lasting 1 µs puts the lane training engine into FAIL with RESULT LOS (R154). -/
def execTrainingLosFail (l : Fin 16) (s : State) : Result :=
  s.lane l (fun d => d.trainingLosFail l)

/-- Firmware's wait of 4 + PERIOD words at an offset, or the LIMIT_US of LANE_ALIGN, runs out and the search slips on
or reports ALIGN_FAILED (R158). -/
def execAlignSearchTimer (l : Fin 16) (s : State) : Result :=
  s.lane l (fun d => d.searchTimer l)

end Sys2Proof.Machine
end

