-- ==== Sys2Proof/Machine/ExecMotion.lean ====
section
/-! DEFINITION. Motion: what each command does. -/

namespace Sys2Proof.Machine

/-- At a servo boundary the generator computes the next set-point and applies pending BOUNDARY writes (R390). -/
def execServoPeriodBoundary (a : Fin 4) (samples : List (Int × Int)) (load : Nat) (s : State) : Result :=
  s.live (fun d => d.servoBoundary a samples load)

/-- MP_CTL.GO starts or arms a move at the next boundary (R392). -/
def execMpGoWrite (a : Fin 4) (s : State) : Result :=
  s.live (fun d => d.strike [a.val] [(R.MP_CTL_GO, 1)])

/-- MP_CTL.STOP brings the axis to rest and into HOLD (R404). -/
def execMpStopWrite (a : Fin 4) (s : State) : Result :=
  s.live (fun d => d.strike [a.val] [(R.MP_CTL_STOP, 1)])

/-- MP_CTL.SET_POS sets the set-point to PRESET and HOMED when at rest (R411). -/
def execMpSetPosWrite (a : Fin 4) (s : State) : Result :=
  s.live (fun d => d.strike [a.val] [(R.MP_CTL_SET_POS, 1)])

/-- MP_HOME.GO starts a homing run (R399). -/
def execMpHomeGo (a : Fin 4) (s : State) : Result :=
  s.live (fun d => d.strike [a.val] [(R.MP_HOME_GO, 1)])

/-- An accepted AXa_STEP edge adds STEP_RES microsteps in the sampled direction (R395). -/
def execStepInputEdge (a : Fin 4) (dir : Bool) (s : State) : Result :=
  s.live (fun d => d.stepEdge a dir)

/-- An end limit becoming active in the direction of travel stops the axis and fires LIMIT_EV (R397). -/
def execLimitSwitch (a : Fin 4) (negative : Bool) (s : State) : Result :=
  s.live (fun d => d.limitTrip a negative)

/-- An active AXa_FLT_N cuts the enable, stops set-points and puts the axis into FAULTED (R407). -/
def execAxisFaultInput (a : Fin 4) (s : State) : Result :=
  s.live (fun d => d.axisFault a)

/-- An axis at rest for PD_MS powers its driver down and applies its standstill mode (R406). -/
def execAxisPowerDown (a : Fin 4) (s : State) : Result :=
  s.live (fun d => d.powerDown a)

/-- After 2 ms of I_HOLD at the kept angle a powered-down axis starts its move (R406). -/
def execAxisWakeHoldDone (a : Fin 4) (s : State) : Result :=
  s.live (fun d => d.wakeDone a)

/-- Returns an axis's position, velocity, state and drive values (R394). -/
def execAxQuery (e : Entry) (s : State) : Result :=
  s.command (.axQuery { e with inbuf := [] }) axQuerySpec e true (fun d => d.axQuery e)

/-- Configures an axis's profile, drive and homing parameters (R405). -/
def execAxConfig (e : Entry) (s : State) : Result :=
  s.command (.axConfig { e with inbuf := [] }) axConfigSpec e true (fun d => d.axConfig e)

/-- Enables or disables an axis (R406). -/
def execAxEnable (e : Entry) (s : State) : Result :=
  s.command (.axEnable { e with inbuf := [] }) axEnableSpec e true (fun d => d.axEnable e)

/-- Starts a position, velocity or step move, optionally waiting for its end (R391). -/
def execAxMove (e : Entry) (s : State) : Result :=
  s.command (.axMove { e with inbuf := [] }) axMoveSpec e true (fun d => d.axMove e)

/-- Stops an axis, optionally waiting for rest (R404). -/
def execAxStop (e : Entry) (s : State) : Result :=
  s.command (.axStop { e with inbuf := [] }) axStopSpec e true (fun d => d.axStopCmd e)

/-- Arms the latch and starts homing, answering at its end (R399). -/
def execAxHome (e : Entry) (s : State) : Result :=
  s.command (.axHome { e with inbuf := [] }) axHomeSpec e true (fun d => d.axHome e)

/-- Sets an axis set-point at rest (R411). -/
def execAxSetPos (e : Entry) (s : State) : Result :=
  s.command (.axSetPos { e with inbuf := [] }) axSetPosSpec e true (fun d => d.axSetPos e)

/-- Returns and optionally clears firmware totals of axis counters (R403). -/
def execAxCounters (e : Entry) (s : State) : Result :=
  s.command (.axCounters { e with inbuf := [] }) axCountersSpec e true (fun d => d.axCounters e)

/-- An end-limit input returns inactive after its filter, so motion toward it is again allowed (R397). -/
def execEndLimitRelease (a : Fin 4) (negative : Bool) (s : State) : Result :=
  s.live (fun d => d.limitRelease a negative)

/-- AXa_FLT_N returns inactive, clearing CD_STAT.FLT so that a write of CD_CTL.EN can leave FAULTED (R407). -/
def execAxisFaultRelease (a : Fin 4) (s : State) : Result :=
  s.live (fun d => d.axisFaultGone a)

end Sys2Proof.Machine
end

