-- ==== Sys2Proof/Machine/ExecPalette.lean ====
section
/-! DEFINITION. Palette: what each command does. -/

namespace Sys2Proof.Machine

/-- At a channel's frame start S the frame number is taken and FRAME_EV fires (R275). -/
def execPalFrameStart (p : Fin 8) (c : Fin 4) (s : State) : Result :=
  s.emit p (fun d => d.palFrameStart p c)

/-- PREFETCH_NS before its send time a line is fetched or generated into the transmit queue (R282). -/
def execPalLinePrefetch (p : Fin 8) (c : Fin 4) (line : Nat) (s : State) : Result :=
  s.emit p (fun d => d.palPrefetch p c line)

/-- At its send time a ready line is released to the wire, or skipped whole as late (R276). -/
def execPalLineSend (p : Fin 8) (c : Fin 4) (defer : Nat) (s : State) : Result :=
  s.emit p (fun d => d.palLineSend p c defer)

/-- A paced ST 2110 packet is released at its own time with fault injection applied (R276). -/
def execPalPacketRelease (p : Fin 8) (c : Fin 4) (defer : Nat) (s : State) : Result :=
  s.emit p (fun d => d.palPacketRelease p c defer)

/-- Returns a channel's state, next frame and epoch (R277). -/
def execPalQuery (e : Entry) (s : State) : Result :=
  s.command (.palQuery { e with inbuf := [] }) palQuerySpec e (s.dev.emitThere (e.u 12 1)) (fun d => d.palQuery e)

/-- Loads a Palette channel's register image (R287). -/
def execPalConfig (e : Entry) (s : State) : Result :=
  s.command (.palConfig { e with inbuf := [] }) palConfigSpec e true (fun d => d.palConfig e)

/-- Starts or stops a Palette channel (R277). -/
def execPalEnable (e : Entry) (s : State) : Result :=
  s.command (.palEnable { e with inbuf := [] }) palEnableSpec e (s.dev.emitThere (e.u 12 1)) (fun d => d.palEnable e)

/-- Sets the fault-injection kinds and intervals of a channel (R284). -/
def execPalInject (e : Entry) (s : State) : Result :=
  s.command (.palInject { e with inbuf := [] }) palInjectSpec e (s.dev.emitThere (e.u 12 1)) (fun d => d.palInject e)

/-- Sets the injected skew of a logical lane (R285). -/
def execPalSkew (e : Entry) (s : State) : Result :=
  s.command (.palSkew { e with inbuf := [] }) palSkewSpec e (s.dev.emitThere (e.u 12 1)) (fun d => d.palSkew e)

/-- Loads the register image firmware uses to answer GVCP for a channel (R190). -/
def execPalGvcpImage (e : Entry) (s : State) : Result :=
  s.command (.palGvcpImage { e with inbuf := [] }) palGvcpImageSpec e true (fun d => d.palGvcpImage e)

/-- Returns and optionally clears firmware totals of Palette counters (R282). -/
def execPalCounters (e : Entry) (s : State) : Result :=
  s.command (.palCounters { e with inbuf := [] }) palCountersSpec e (s.dev.emitThere (e.u 12 1)) (fun d => d.palCounters e)

/-- Firmware answers a GVCP request received on the slow path (R190). -/
def execGvcpRequestRx (p : Fin 8) (s : State) : Result :=
  s.port p (fun d => d.gvcpTake p)

end Sys2Proof.Machine
end

