-- ==== Sys2Proof/Machine/ExecPorts.lean ====
section
/-! DEFINITION. Ports: what each command does. -/

namespace Sys2Proof.Machine

/-- A write of PP_CTL sets mode, role, enable and emit subject to the enable and Net rules (R175). -/
def execPortCtlWrite (p : Fin 8) (value : Word) (s : State) : Result :=
  s.port p (fun d => d.poke R.PP_CTL [p.val] value)

/-- Block, FEC and marker lock are reached and an Ethernet port passes from SYNC to UP (R178). -/
def execEthBlockLock (e : EthLock) (s : State) : Result :=
  s.port e.port (fun d => d.ethLock e.port e.skewNs)

/-- A received Ethernet frame is filtered, parsed, stamped and classified into a stream or the slow path (R179). -/
def execEthFrameRx (p : Fin 8) (frame : List Byte) (stamp : TT) (fec : List (Nat × Option Nat)) (s : State) : Result :=
  s.port p (fun d => d.ethFrame p frame stamp fec)

/-- The HOLD time of a held end of frame ends and the merged frame closes (R187). -/
def execMergeHoldExpire (p : Fin 8) (k : Fin 64) (s : State) : Result :=
  s.port p (fun d => d.mergeExpire p k)

/-- No valid Sync for announceReceiptTimeout intervals moves the servo to HOLDOVER (R340). -/
def execPtpAnnounceTimeout (s : State) : Result :=
  s.live (fun d => d.announceTimeout)

/-- A packet leaves the port with a transmit stamp written to PP_TXTS where enabled (R182). -/
def execPacketTransmit (p : Fin 8) (frame : List Byte) (t : TT) (s : State) : Result :=
  s.port p (fun d => d.packetTx p frame t)

/-- A read of PP_TXTS pops the head transmit-stamp entry (R182). -/
def execTxtsPop (p : Fin 8) (s : State) : Result :=
  s.port p (fun d => d.txtsPop p)

/-- A received superframe marker is used for alignment, lane identity and deskew (R193). -/
def execVxlMarkerRx (l : Fin 16) (word : Nat) (w0 w1 : Word) (s : State) : Result :=
  s.lane l (fun d => d.vxlMarker l word w0 w1)

/-- FOUND clear for 1 µs on a lane returns the VXL port to DOWN (R202). -/
def execPortAlignLossTimeout (p : Fin 8) (s : State) : Result :=
  s.port p (fun d => d.alignLossTimeout p)

/-- A partner LINK_INFO in HELLO moves the port to UP or FAILED (R202). -/
def execVxlLinkInfoRx (p : Fin 8) (block : List Byte) (s : State) : Result :=
  s.port p (fun d => d.linkInfoRx p block)

/-- No valid partner LINK_INFO within 1 ms of HELLO fails the port with HELLO_TIMEOUT (R202). -/
def execPortHelloTimeout (p : Fin 8) (s : State) : Result :=
  s.port p (fun d => d.helloTimeout p)

/-- An RS(272,258) codeword is decoded, correcting errors or discarding its blocks (R194). -/
def execVxlCodewordRx (l : Fin 16) (message parity : List Nat) (s : State) : Result :=
  s.lane l (fun d => d.codeword l (message ++ parity))

/-- A LINE_START begins a line of its stream, ending any unfinished line as damaged (R199). -/
def execVxlLineStartRx (p : Fin 8) (block : List Byte) (stamp : TT) (s : State) : Result :=
  s.port p (fun d => d.lineStart p block stamp)

/-- A data block carries line bytes into the line FIFO, or is counted STRAY (R199). -/
def execVxlDataBlockRx (p : Fin 8) (n : Nat) (data : List Byte) (s : State) : Result :=
  s.port p (fun d => d.dataBlock p n data)

/-- A port in ROLE 1 receives a TRIGGER block and schedules its fire instant (R203). -/
def execVxlTriggerRx (p : Fin 8) (block : List Byte) (t : TT) (s : State) : Result :=
  s.port p (fun d => d.triggerRx p block t)

/-- At t_rx plus TRIG_LAT plus OFFSET the camera-role port fires its trigger-receive event (R203). -/
def execVxlTriggerFire (p : Fin 8) (s : State) : Result :=
  s.port p (fun d => d.triggerFire p)

/-- A TRIGGER block is sent in its chosen slot with its OFFSET, or late with TRIG_LATE (R204). -/
def execVxlTriggerTx (p : Fin 8) (slots : List (Nat × TT)) (s : State) : Result :=
  s.port p (fun d => d.triggerTx p slots)

/-- Setting PP_VXL_ECHO.GO sends an ECHO_REQ and stamps it (R205). -/
def execVxlEchoGo (p : Fin 8) (lane : Fin 4) (t1 : TT) (s : State) : Result :=
  s.port p (fun d => d.echoGo p lane t1 false)

/-- A camera-role port answers a received ECHO_REQ with an ECHO_RSP on the same lane (R205). -/
def execVxlEchoReqRx (p : Fin 8) (lane : Fin 4) (block : List Byte) (tIn : TT) (tOut : TT) (s : State) : Result :=
  s.port p (fun d => d.echoReq p lane block tIn tOut)

/-- A received ECHO_RSP is stamped and the round-trip time stored with DONE (R205). -/
def execVxlEchoRspRx (p : Fin 8) (lane : Fin 4) (block : List Byte) (t4 : TT) (s : State) : Result :=
  s.port p (fun d => d.echoRsp p lane block t4)

/-- No ECHO_RSP within 10 µs sets DONE with TURNAROUND all ones (R205). -/
def execVxlEchoTimeout (p : Fin 8) (s : State) : Result :=
  s.port p (fun d => d.echoTimeout p)

/-- A received CTRL block is queued in PP_CC_RX and answered or matched under the control-channel rules (R206). -/
def execVxlCtrlRx (p : Fin 8) (block : List Byte) (s : State) : Result :=
  s.port p (fun d => d.ccRx p block)

/-- Writing PP_CC_TX3 queues a CTRL block with TYPE and CRC added (R206). -/
def execCtrlTxQueue (p : Fin 8) (value : Word) (s : State) : Result :=
  s.port p (fun d => d.poke R.PP_CC_TX [p.val, 3] value)

/-- Reading PP_CC_RX3 pops the head received CTRL block (R206). -/
def execCtrlRxPop (p : Fin 8) (s : State) : Result :=
  s.port p (fun d => d.ccPop p)

/-- 2 ms without a response resends a CTRL request, up to 3 times, then reports a timeout (R206). -/
def execCtrlRetryTimeout (p : Fin 8) (tag : Nat) (s : State) : Result :=
  s.port p (fun d => d.ccRetry p tag)

/-- Every second firmware repeats a 4-round calibration of a UP port and writes D (R205). -/
def execVxlCalibratePeriodic (p : Fin 8) (s : State) : Result :=
  s.port p (fun d => d.calPeriodic p)

/-- Returns a port's mode, state and counters (R202). -/
def execPortQuery (e : Entry) (s : State) : Result :=
  s.command (.portQuery { e with inbuf := [] }) portQuerySpec e (s.dev.portThere (e.u 12 1)) (fun d => d.portQuery e)

/-- Opens a port in a mode and role with its addresses (R213). -/
def execPortOpen (e : Entry) (s : State) : Result :=
  s.command (.portOpen { e with inbuf := [] }) portOpenSpec e (s.dev.portThere (e.u 12 1)) (fun d => d.portOpen e)

/-- Clears ENABLE and MODE, ending any 4-lane borrow (R213). -/
def execPortClose (e : Entry) (s : State) : Result :=
  s.command (.portClose { e with inbuf := [] }) portCloseSpec e (s.dev.portThere (e.u 12 1)) (fun d => d.portClose e)

/-- Trains and aligns the port's lanes and waits for UP (R202). -/
def execPortLink (e : Entry) (s : State) : Result :=
  s.command (.portLink { e with inbuf := [] }) portLinkSpec e (s.dev.portThere (e.u 12 1)) (fun d => d.portLink e)

/-- Sets or clears a stream table entry and joins or leaves its multicast group (R183). -/
def execStreamRx (e : Entry) (s : State) : Result :=
  s.command (.streamRx { e with inbuf := [] }) streamRxSpec e (s.dev.portThere (e.u 12 1)) (fun d => d.streamRx e)

/-- Runs echo rounds and writes each lane's one-way delay (R205). -/
def execVxlCalibrate (e : Entry) (s : State) : Result :=
  s.command (.vxlCalibrate { e with inbuf := [] }) vxlCalibrateSpec e (s.dev.portThere (e.u 12 1)) (fun d => d.vxlCalibrate e)

/-- Reads or writes a camera register over the control channel (R206). -/
def execVxlReg (e : Entry) (s : State) : Result :=
  s.command (.vxlReg { e with inbuf := [] }) vxlRegSpec e (s.dev.portThere (e.u 12 1)) (fun d => d.vxlReg e)

/-- Writes the PTP stamping settings of a port (R182). -/
def execPtpConfig (e : Entry) (s : State) : Result :=
  s.command (.ptpConfig { e with inbuf := [] }) ptpConfigSpec e (s.dev.portThere (e.u 12 1)) (fun d => d.ptpConfig e)

/-- Returns and optionally clears firmware totals of port counters (R179). -/
def execPortCounters (e : Entry) (s : State) : Result :=
  s.command (.portCounters { e with inbuf := [] }) portCountersSpec e (s.dev.portThere (e.u 12 1)) (fun d => d.portCounters e)

/-- An Ethernet port loses block, FEC or marker lock and leaves UP for DOWN (R202). -/
def execEthLockLoss (p : Fin 8) (s : State) : Result :=
  s.port p (fun d => d.ethUnlock p)

/-- LIMIT_MS of PORT_LINK passes with the port short of UP and firmware answers LINK_FAILED (R202). -/
def execPortLinkTimeLimit (p : Fin 8) (s : State) : Result :=
  s.port p (fun d => d.linkTimeLimit p)

/-- At each sync, announce or delay-request interval firmware sends the PTP message its role requires (R339). -/
def execPtpMessageTimer (kind : Nat) (t : TT) (s : State) : Result :=
  s.live (fun d => d.ptpTimer kind t)

/-- Firmware takes an ARP, ND, IGMP/MLD or RTCP packet from the slow-path ring and answers or consumes it (R181). -/
def execSlowPathPacketRx (p : Fin 8) (s : State) : Result :=
  s.port p (fun d => d.slowServe p)

end Sys2Proof.Machine
end

