-- ==== Sys2Proof/Machine/ExecPower.lean ====
section
/-! DEFINITION. Reset, power, pace and health: what each command does. -/

namespace Sys2Proof.Machine

/-- PERST# held low causes a full device reset (R470). -/
def execPerstAssert (s : State) : Result :=
  s.resets (fun d => d.perstReset)

/-- Rails coming into band release the power-on reset after 2 ms (R468). -/
def execPowerOnReset (s : State) : Result :=
  s.resets (fun d => d.powerOnReset)

/-- A rail below 85 % for 1 µs causes a power-on reset (R468). -/
def execBrownOut (s : State) : Result :=
  s.resets (fun d => d.brownOut)

/-- A full reset is released and OTP sensing and the boot ROM start (R472). -/
def execResetRelease (s : State) : Result :=
  s.resets (fun d => d.resetRelease)

/-- The SRAM wipe ends and the boot ROM starts (R462). -/
def execSramWipeDone (s : State) : Result :=
  s.live (fun d => d.sramWipeDone)

/-- The identity key is derived and ID_READY set (R453). -/
def execIdentityKeyReady (s : State) : Result :=
  s.live (fun d => d.identityReady)

/-- The HBM wipe ends and the memory booth serves requests (R436). -/
def execHbmWipeDone (us : Nat) (s : State) : Result :=
  s.live (fun d => d.hbmWipeDone us)

/-- DL_Up is reached and configuration requests stop receiving retry status (R429). -/
def execConfigReady (speed : Nat) (width : Nat) (flit : Bool) (s : State) : Result :=
  s.live (fun d => d.configReady speed width flit)

/-- The boot ROM verifies and copies an image, signs the seal statement and jumps to ENTRY, or stops (R440). -/
def execBootImageLoad (s : State) : Result :=
  s.live (fun d => d.bootLoad)

/-- Firmware writing HM_READY.SET raises DEV_STATUS.READY (R472). -/
def execHmReadySet (s : State) : Result :=
  s.liveReady (fun d => d.readySet)

/-- A write of HM_MODE changes the operating mode, refusing a return to STARTUP (R475). -/
def execHmModeWrite (mode : Fin 4) (s : State) : Result :=
  s.live (fun d => d.strike [] [(R.HM_MODE_MODE, mode.val)])

/-- Every 1 µs a booth measures its pace, updating RATIO, SHORT and SHORT_SEEN (R33). -/
def execBoothPaceUpdate (booth : Fin 16) (ratio : BitVec 16) (s : State) : Result :=
  s.live (fun d => d.paceUpdate booth ratio)

/-- Each pace period the loop adjusts VREQ and commands it over the AVS port (R476). -/
def execPacePeriod (naks : Nat) (s : State) : Result :=
  s.live (fun d => d.pacePeriod naks)

/-- SHORT held for 10 ms at VMAX sets PACE_CEILING and raises a warning (R478). -/
def execPaceCeiling (s : State) : Result :=
  s.live (fun d => d.paceCeiling)

/-- Every 100 µs junction and stack temperatures are sampled and warnings or throttles raised (R479). -/
def execHealthSample (temps : List (BitVec 16)) (hbmTemps : List Byte) (s : State) : Result :=
  s.live (fun d => d.healthSample temps hbmTemps)

/-- Every 10 µs each rail is measured and tested against its band (R479). -/
def execRailSample (mv : List (BitVec 16)) (s : State) : Result :=
  s.live (fun d => d.railSample mv)

/-- A health limit held for its duration raises a device fault HEALTH, and may assert THERMTRIP_N (R482). -/
def execHealthLimitExpire (s : State) : Result :=
  s.live (fun d => d.limitExpire)

/-- Returns temperatures, warnings, VREQ, pace and mode (R479). -/
def execHealthQuery (e : Entry) (s : State) : Result :=
  s.command (.healthQuery { e with inbuf := [] }) healthQuerySpec e true (fun d => d.healthQuery e)

/-- Sets temperature and ECC warning limits (R480). -/
def execHealthLimits (e : Entry) (s : State) : Result :=
  s.command (.healthLimits { e with inbuf := [] }) healthLimitsSpec e true (fun d => d.healthLimits e)

/-- Configures the AVS port and pace loop after confirming the regulator (R477). -/
def execPaceConfig (e : Entry) (acked : Bool) (s : State) : Result :=
  s.command (.paceConfig { e with inbuf := [] } acked) paceConfigSpec e true (fun d => d.paceConfig acked e)

/-- Writes all sensor and rail readings to the host (R479). -/
def execHealthSensors (e : Entry) (s : State) : Result :=
  s.command (.healthSensors { e with inbuf := [] }) healthSensorsSpec e true (fun d => d.healthSensors e)

/-- Returns and optionally clears firmware totals of health events (R478). -/
def execHealthCounters (e : Entry) (s : State) : Result :=
  s.command (.healthCounters { e with inbuf := [] }) healthCountersSpec e true (fun d => d.healthCounters e)

/-- The HBM PHYs finish training and the HBM wipe starts (R472). -/
def execHbmPhyTrained (s : State) : Result :=
  s.live (fun d => d.hbmTrained)

end Sys2Proof.Machine
end

