-- ==== Sys2Proof/Machine/ExecSecurity.lean ====
section
/-! DEFINITION. Security: what each command does. -/

namespace Sys2Proof.Machine

/-- A write of SEC_SVN_REQ starts programming anti-rollback fuses up to the capped target (R446). -/
def execSecSvnReqWrite (target : Nat) (s : State) : Result :=
  s.live (fun d => d.strike [] [(R.SEC_SVN_REQ_TARGET, target)])

/-- Fuse programming ends and the floor is raised (R446). -/
def execSvnProgramDone (s : State) : Result :=
  s.live (fun d => d.svnDone)

/-- SEC_REQ_CTL.GO starts the check of a signed request (R448). -/
def execSecRequestGo (s : State) : Result :=
  s.live (fun d => d.strike [] [(R.SEC_REQ_CTL_GO, 1)])

/-- The signed request check ends with its result and executes or refuses the request (R448). -/
def execSecRequestCheckDone (s : State) : Result :=
  s.live (fun d => d.requestEnd)

/-- 1 to 10 ms after an accepted transition the unit starts a full reset and programs the fuses (R452). -/
def execLifecycleReset (s : State) : Result :=
  s.resets (fun d => d.lifecycleReset)

/-- SEC_Q_CTL.GO starts assembling a quote, or refuses it without the identity key (R459). -/
def execSecQuoteGo (s : State) : Result :=
  s.live (fun d => d.strike [] [(R.SEC_Q_CTL_GO, 1)])

/-- The signed quote is written to its destination and DONE set (R459). -/
def execQuoteDone (s : State) : Result :=
  s.live (fun d => d.quoteDone)

/-- SEC_DBG_CTL.NEW_CHAL draws a live debug challenge (R460). -/
def execSecNewChallenge (s : State) : Result :=
  s.live (fun d => d.strike [] [(R.SEC_DBG_CTL_NEW_CHAL, 1)])

/-- 60 s of TT after drawing the debug challenge ceases to be live (R460). -/
def execDebugChallengeExpire (s : State) : Result :=
  s.live (fun d => d.challengeExpire)

/-- A NEW_CHAL through the JTAG data register draws a live challenge (R460). -/
def execJtagNewChallenge (s : State) : Result :=
  s.live (fun d => d.jtagChallenge)

/-- A DEBUG request through JTAG is checked and opens JTAG, wiping the key cache (R460). -/
def execJtagDebugRequest (request : List Byte) (s : State) : Result :=
  s.live (fun d => d.jtagRequest request)

/-- PROVISION over JTAG draws the identity seed and programs vendor slots (R451). -/
def execJtagProvision (hashes : List (List Byte)) (s : State) : Result :=
  s.live (fun d => d.jtagProvision hashes)

/-- A JTAG scrap in BLANK or PROVISIONED enters SCRAPPED (R451). -/
def execJtagScrap (s : State) : Result :=
  s.live (fun d => d.jtagScrap)

/-- A write of SEC_SDN is taken only in STARTUP (R457). -/
def execSecSdnWrite (sdn : Nat) (s : State) : Result :=
  s.live (fun d => d.strike [] [(R.SEC_SDN_SDN, sdn)])

/-- Returns life cycle, slots, floor and firmware version (R444). -/
def execSecQuery (e : Entry) (s : State) : Result :=
  s.command (.secQuery { e with inbuf := [] }) secQuerySpec e true (fun d => d.secQuery e)

/-- Obtains a signed quote for a host nonce (R458). -/
def execAttest (e : Entry) (s : State) : Result :=
  s.command (.attest { e with inbuf := [] }) attestSpec e true (fun d => d.attest e)

/-- Writes the identity certificate to the host (R454). -/
def execIdCert (e : Entry) (s : State) : Result :=
  s.command (.idCert { e with inbuf := [] }) idCertSpec e true (fun d => d.idCert e)

/-- Submits a signed request to the security unit (R447). -/
def execSecRequest (e : Entry) (s : State) : Result :=
  s.command (.secRequest { e with inbuf := [] }) secRequestSpec e true (fun d => d.signedRequest false e)

/-- Advances the anti-rollback floor (R446). -/
def execSvnCommit (e : Entry) (s : State) : Result :=
  s.command (.svnCommit { e with inbuf := [] }) svnCommitSpec e true (fun d => d.svnCommit e)

/-- Writes image data into a flash slot and reads it back (R438). -/
def execFwStage (e : Entry) (s : State) : Result :=
  s.command (.fwStage { e with inbuf := [] }) fwStageSpec e true (fun d => d.fwStage e)

/-- Checks a staged image and writes the boot select record to prefer it (R441). -/
def execFwActivate (e : Entry) (s : State) : Result :=
  s.command (.fwActivate { e with inbuf := [] }) fwActivateSpec e true (fun d => d.fwActivate e)

/-- Returns a fresh debug challenge (R460). -/
def execDebugChallenge (e : Entry) (s : State) : Result :=
  s.command (.debugChallenge { e with inbuf := [] }) debugChallengeSpec e true (fun d => d.debugChallenge e)

/-- Submits a DEBUG request to open JTAG (R460). -/
def execDebugOpen (e : Entry) (s : State) : Result :=
  s.command (.debugOpen { e with inbuf := [] }) debugOpenSpec e true (fun d => d.signedRequest true e)

/-- Firmware's erase, write and read-back of a flash range (FW_STAGE) or the boot select record (FW_ACTIVATE) ends and
the final response is written (R438). -/
def execFlashWriteDone (s : State) : Result :=
  s.live (fun d => d.flashDone)

/-- An open JTAG port halts, steps or accesses the Ringmaster and booth windows at its LEVEL (R460). -/
def execJtagDebugAccess (op : Jtag) (s : State) : Result :=
  s.liveReady (fun d => d.jtagAccess op)

end Sys2Proof.Machine
end

