-- ==== Sys2Proof/Machine/ExecSystem.lean ====
section
/-! DEFINITION. Register writes, the watchdog, the bootstrap mailboxes and the system command group: what each command does. -/

namespace Sys2Proof.Machine

/-- A write to a register that has no row of its own takes effect under its access code, passing the booth's Net
checkpoint (R17). -/
def execRegisterWrite (host : Bool) (addr : Nat) (half : Half) (value : Word) (mismatch : Bool) (s : State) : Result :=
  s.liveReady (fun d => d.registerWrite host addr half value mismatch)

/-- An ECC error in a Ringmaster cache or SRAM is corrected and counted, or if uncorrectable raises a device fault
(R45). -/
def execRingmasterEccError (uncorrectable : Bool) (s : State) : Result :=
  s.live (fun d => d.rmEcc uncorrectable)

/-- A write of RM_WDT_CTL.TIMEOUT sets the watchdog timeout, clamped, unless LOCK is set (R48). -/
def execWdtCtlWrite (timeout : Nat) (s : State) : Result :=
  s.live (fun d => d.strike [] [(R.RM_WDT_CTL_TIMEOUT, timeout)])

/-- Setting RM_WDT_CTL.LOCK makes TIMEOUT read-only until reset (R48). -/
def execWdtLock (s : State) : Result :=
  s.live (fun d => d.strike [] [(R.RM_WDT_CTL_LOCK, 1)])

/-- A write to RM_WDT_KICK advances the 0x5A/0xA5 kick pair, restarting the count on a valid kick or counting a bad
kick (R48). -/
def execWdtKickWrite (key : Byte) (s : State) : Result :=
  s.live (fun d => d.strike [] [(R.RM_WDT_KICK_KEY, key.toNat)])

/-- Half the timeout elapsing since the last kick sets EARLY and RM_IRQ_PEND.WDT_EARLY (R48). -/
def execWatchdogEarly (s : State) : Result :=
  s.live (fun d => d.wdtEarly)

/-- The watchdog count reaching TIMEOUT raises a device fault with reason WATCHDOG (R49). -/
def execWatchdogExpiry (s : State) : Result :=
  s.live (fun d => d.wdtExpire)

/-- A host write setting BMB_CTLn.RING submits the slot's command, unless RING or DONE is already set (R52). -/
def execBmbRing (n : Fin 8) (done : Bool) (s : State) : Result :=
  s.live (fun d => d.bmbRing n done)

/-- A write of 1 to BMB_CTLn.DONE clears it, before any RING in the same access is accepted (R52). -/
def execBmbDoneClear (n : Fin 8) (s : State) : Result :=
  s.live (fun d => d.bmbClear n)

/-- Firmware writing RM_BMB_DONE bit n copies status and tag into BMB_CTLn, clears RING and sets DONE in one update
(R51). -/
def execBmbComplete (n : Fin 8) (s : State) : Result :=
  s.live (fun d => d.strike [] [(R.RM_BMB_DONE_DONE, 2 ^ n.val)])

/-- Echoes its inline payload as the response payload (R68). -/
def execNop (e : Entry) (s : State) : Result :=
  s.command (.nop { e with inbuf := [] }) nopSpec e true (fun d => d.nopCmd e)

/-- Returns part, stepping, life cycle, firmware version, mode, SDN and related identity fields (R68). -/
def execIdentify (e : Entry) (s : State) : Result :=
  s.command (.identify { e with inbuf := [] }) identifySpec e true (fun d => d.identify)

/-- Sets the system device number, allowed only in STARTUP (R457). -/
def execSetSdn (e : Entry) (s : State) : Result :=
  s.command (.setSdn { e with inbuf := [] }) setSdnSpec e true (fun d => d.setSdn e)

/-- Reserves contiguous HBM in the general region, answering ACCEPTED when zero-filling (R432). -/
def execMemAlloc (e : Entry) (s : State) : Result :=
  s.command (.memAlloc { e with inbuf := [] }) memAllocSpec e true (fun d => d.memAlloc e)

/-- The zero fill of an allocation ends and the final response of MEM_ALLOC is written (R432). -/
def execMemAllocFillDone (handle : Nat) (s : State) : Result :=
  s.live (fun d => d.fillDone handle)

/-- Frees an allocation unless anything still refers to it, in which case it answers BUSY (R432). -/
def execMemFree (e : Entry) (s : State) : Result :=
  s.command (.memFree { e with inbuf := [] }) memFreeSpec e true (fun d => d.memFree e)

/-- Opens mailbox pair k on queues Q(2k) and Q(2k+1) with the given rings (R55). -/
def execOpenMailbox (e : Entry) (s : State) : Result :=
  s.command (.openMailbox { e with inbuf := [] }) openMailboxSpec e true (fun d => d.openMailbox e)

/-- Closes another mailbox, discarding its unstarted commands and passing its resources to the principal (R57). -/
def execCloseMailbox (e : Entry) (s : State) : Result :=
  s.command (.closeMailbox { e with inbuf := [] }) closeMailboxSpec e true (fun d => d.closeMailbox e)

/-- Reserves or releases a range of general queues for the mailbox (R55). -/
def execReserveQueues (e : Entry) (s : State) : Result :=
  s.command (.reserveQueues { e with inbuf := [] }) reserveQueuesSpec e true (fun d => d.reserveQueues e)

/-- Changes the operating mode along the transitions firmware 3.x allows (R475). -/
def execSetMode (e : Entry) (s : State) : Result :=
  s.command (.setMode { e with inbuf := [] }) setModeSpec e true (fun d => d.setMode e)

/-- Starts recovery of a port booth, DMA engine or the device once its fault record has been consumed (R142). -/
def execRecover (e : Entry) (s : State) : Result :=
  s.command (.recover { e with inbuf := [] }) recoverSpec e true (fun d => d.recover e)

/-- The recovered scope has been wiped back to IDLE and RECOVER's final OK is written (R142). -/
def execRecoverDone (scope : Nat) (index : Nat) (s : State) : Result :=
  s.live (fun d => d.recoverDone scope index)

/-- Opens Q0 or Q1 from a principal mailbox, after which waiting fault records start to flow (R56). -/
def execOpenSystemQueue (e : Entry) (s : State) : Result :=
  s.command (.openSystemQueue { e with inbuf := [] }) openSystemQueueSpec e true (fun d => d.openSystemQueue e)

/-- Returns free HBM, largest free block, allocation count, ECC totals and stack temperatures (R432). -/
def execMemQuery (e : Entry) (s : State) : Result :=
  s.command (.memQuery { e with inbuf := [] }) memQuerySpec e true (fun d => d.memQuery)

/-- Returns the trained link speed, width, payload settings and error counts (R414). -/
def execLinkQuery (e : Entry) (s : State) : Result :=
  s.command (.linkQuery { e with inbuf := [] }) linkQuerySpec e true (fun d => d.linkQuery)

end Sys2Proof.Machine
end

