-- ==== Sys2Proof/Machine/ExecTime.lean ====
section
/-! DEFINITION. The time base: what each command does. -/

namespace Sys2Proof.Machine

/-- A write of TB_INCR takes effect at the next tick, clamped to ±1,000 ppm (R323). -/
def execTbIncrWrite (incr : BitVec 40) (s : State) : Result :=
  s.live (fun d => d.strike [] [(R.TB_INCR_INCR, incr.toNat)])

/-- TB_STEP_CTL.GO starts an ADD or LOAD step, at once or pending an AT target (R326). -/
def execTbStepGo (s : State) : Result :=
  s.live (fun d => d.strike [] [(R.TB_STEP_CTL_GO, 1)])

/-- At the step tick the step changes WT and optionally TT and ERA (R326). -/
def execTbStepApply (s : State) : Result :=
  s.live (fun d => d.stepApply)

/-- TB_SLEW_CTL.GO starts or extends a slew (R328). -/
def execTbSlewGo (s : State) : Result :=
  s.live (fun d => d.strike [] [(R.TB_SLEW_CTL_GO, 1)])

/-- TB_SLEW_CTL.ABORT stops the slew and leaves its remainder (R328). -/
def execTbSlewAbort (s : State) : Result :=
  s.live (fun d => d.strike [] [(R.TB_SLEW_CTL_ABORT, 1)])

/-- The slew's remainder reaches 0 and SLEWING clears (R328). -/
def execSlewDone (s : State) : Result :=
  s.live (fun d => d.slewDone)

/-- TB_SNAP_CTL.GO latches TT, ERA and WT into the snapshot registers (R331). -/
def execTbSnapGo (s : State) : Result :=
  s.live (fun d => d.strike [] [(R.TB_SNAP_CTL_GO, 1)])

/-- TT wraps and ERA increments (R324). -/
def execTtWrap (s : State) : Result :=
  s.live (fun d => d.ttWrap)

/-- The time-base PLL locks and TT starts counting (R338). -/
def execTbPllLock (ref25 : Bool) (s : State) : Result :=
  s.live (fun d => d.pllLock ref25)

/-- TB_REFCLK stopping or departing 1,000 ppm sets REF_LOST and the PLL holds frequency (R336). -/
def execRefclkLost (s : State) : Result :=
  s.live (fun d => d.refLost)

/-- The returned reference is relocked and REF_LOST clears (R336). -/
def execRefclkRelock (s : State) : Result :=
  s.live (fun d => d.refclkRelock)

/-- An active TIME_PPS_IN edge is stamped and may fire PPS_IN_EV (R333). -/
def execPpsInEdge (t : TT) (rising : Bool) (s : State) : Result :=
  s.live (fun d => d.ppsInEdge t rising)

/-- The first TIME_10M_IN rising edge after a PPS edge is stamped into TP_10M_PHASE (R333). -/
def execTenMhzInEdge (t : TT) (s : State) : Result :=
  s.live (fun d => d.tenMhzInEdge t)

/-- WT passing a whole second plus offset raises TIME_PPS_OUT and may fire PPS_OUT_EV (R334). -/
def execPpsOutEdge (s : State) : Result :=
  s.live (fun d => d.ppsOutEdge)

/-- PTM_CTL.GO starts one PTM dialogue (R335). -/
def execPtmGo (s : State) : Result :=
  s.live (fun d => d.strike [] [(R.PTM_CTL_GO, 1)])

/-- Each PERIOD_MS with AUTO set starts a PTM dialogue (R335). -/
def execPtmAutoPeriod (s : State) : Result :=
  s.live (fun d => d.ptmPeriod)

/-- A PTM dialogue ends, recording T1, master time and delay, or setting FAILED (R335). -/
def execPtmDialogueDone (good : Bool) (t1 : TT) (master : Word) (prop : BitVec 32) (s : State) : Result :=
  s.live (fun d => d.ptmDone good t1 master prop)

/-- Returns TT, ERA, WT and servo state (R331). -/
def execTimeQuery (e : Entry) (s : State) : Result :=
  s.command (.timeQuery { e with inbuf := [] }) timeQuerySpec e true (fun d => d.timeQuery)

/-- Performs a time step and answers TT after it (R326). -/
def execTimeStep (e : Entry) (s : State) : Result :=
  s.command (.timeStep { e with inbuf := [] }) timeStepSpec e true (fun d => d.timeStep e)

/-- Runs a slew and answers when it ends or is aborted (R328). -/
def execTimeSlew (e : Entry) (s : State) : Result :=
  s.command (.timeSlew { e with inbuf := [] }) timeSlewSpec e true (fun d => d.timeSlew e)

/-- Writes INCR and answers the value adopted (R323). -/
def execTimeIncr (e : Entry) (s : State) : Result :=
  s.command (.timeIncr { e with inbuf := [] }) timeIncrSpec e true (fun d => d.timeIncr e)

/-- Starts or stops the firmware PTP instance and servo (R339). -/
def execPtpServo (e : Entry) (s : State) : Result :=
  s.command (.ptpServo { e with inbuf := [] }) ptpServoSpec e true (fun d => d.ptpServo e)

/-- Returns servo state, grandmaster data, offset and path delay (R340). -/
def execPtpStatus (e : Entry) (s : State) : Result :=
  s.command (.ptpStatus { e with inbuf := [] }) ptpStatusSpec e true (fun d => d.ptpStatus)

/-- Configures the timing pins and returns the last input stamps (R334). -/
def execTimingPins (e : Entry) (s : State) : Result :=
  s.command (.timingPins { e with inbuf := [] }) timingPinsSpec e true (fun d => d.timingPins e)

/-- Runs or stops PTM dialogues and returns the latest record (R335). -/
def execTimePtm (e : Entry) (s : State) : Result :=
  s.command (.timePtm { e with inbuf := [] }) timePtmSpec e true (fun d => d.timePtm e)

/-- If TB_REFCLK gives no lock within 10 ms of step 2, TT starts from the internal oscillator and REF_LOST is set
(R474). -/
def execTbLockTimeout (s : State) : Result :=
  s.live (fun d => d.lockTimeout)

end Sys2Proof.Machine
end

