-- ==== Sys2Proof/Machine/ExecTiming.lean ====
section
/-! DEFINITION. Midway, Barker and trigger pins: what each command does. -/

namespace Sys2Proof.Machine

/-- A channel firing reaches a consumer input through its gate and dead time (R346). -/
def execMidwayDeliver (s : State) : Result :=
  s.live (fun d => d.midwayDeliver)

/-- A write of MW_FIRE fires a FIRE-mode channel from its owner, or is refused and counted (R349). -/
def execMwFireWrite (src : Src) (c : Fin 256) (s : State) : Result :=
  s.live (fun d => d.fireStore src c)

/-- A TIME program reaches a schedule index and produces a fire instant (R351). -/
def execBarkerTimeFire (p : Fin 32) (s : State) : Result :=
  s.live (fun d => d.timeFire p)

/-- TT reaching an act time minus its advance commits the act (R355). -/
def execBarkerActCommit (p : Fin 32) (t : Fin 4) (s : State) : Result :=
  s.live (fun d => d.actCommit p t)

/-- At its act time a target fires its channel, posts an action or hands a time to its VXL port (R357). -/
def execBarkerAct (p : Fin 32) (t : Fin 4) (s : State) : Result :=
  s.live (fun d => d.barkerAct p t)

/-- A fire record is written into the program's history (R356). -/
def execBarkerFireRecord (p : Fin 32) (s : State) : Result :=
  s.live (fun d => d.recordFire p)

/-- A pin pulse's leading edge is placed at the pad, or the pulse is dropped (R358). -/
def execTrgPulseLead (n : Fin 16) (s : State) : Result :=
  s.live (fun d => d.pulseLead n)

/-- A pin pulse's trailing edge is placed WIDTH after its leading edge (R358). -/
def execTrgPulseTrail (n : Fin 16) (s : State) : Result :=
  s.live (fun d => d.pulseTrail n)

/-- A filtered input pin edge is stamped into the FIFO and may fire IN_EV (R359). -/
def execTrgInputEdge (n : Fin 16) (t : TT) (rising : Bool) (s : State) : Result :=
  s.live (fun d => d.pinEdge n t rising)

/-- TRG_IN.POP pops the head input stamp (R359). -/
def execTrgInPop (n : Fin 16) (s : State) : Result :=
  s.live (fun d => d.strike [n.val] [(R.TRG_IN_POP, 1)])

/-- BK_ACT_POP.POP pops the head action record (R361). -/
def execBkActPop (s : State) : Result :=
  s.live (fun d => d.strike [] [(R.BK_ACT_POP_POP, 1)])

/-- Firmware turns an action record into a GigE Vision ACTION_CMD (R361). -/
def execActionCmdSend (s : State) : Result :=
  s.live (fun d => d.actionSend)

/-- Claims, configures or releases a Midway channel (R349). -/
def execMwChannel (e : Entry) (s : State) : Result :=
  s.command (.mwChannel { e with inbuf := [] }) mwChannelSpec e true (fun d => d.mwChannel e)

/-- Fires a host-owned channel (R349). -/
def execMwFire (e : Entry) (s : State) : Result :=
  s.command (.mwFire { e with inbuf := [] }) mwFireSpec e true (fun d => d.mwFireCmd e)

/-- Reads, clears or forwards a channel's watch bit (R349). -/
def execMwWatch (e : Entry) (s : State) : Result :=
  s.command (.mwWatch { e with inbuf := [] }) mwWatchSpec e true (fun d => d.mwWatch e)

/-- Sets Midway gates or a consumer input's gate and dead time (R346). -/
def execMwGate (e : Entry) (s : State) : Result :=
  s.command (.mwGate { e with inbuf := [] }) mwGateSpec e true (fun d => d.mwGate e)

/-- Configures a Barker program and its targets (R350). -/
def execBkProgram (e : Entry) (s : State) : Result :=
  s.command (.bkProgram { e with inbuf := [] }) bkProgramSpec e true (fun d => d.bkProgram e)

/-- Arms or disarms a Barker program (R362). -/
def execBkArm (e : Entry) (s : State) : Result :=
  s.command (.bkArm { e with inbuf := [] }) bkArmSpec e true (fun d => d.bkArm e)

/-- Returns a program's state and a fire record (R356). -/
def execBkQuery (e : Entry) (s : State) : Result :=
  s.command (.bkQuery { e with inbuf := [] }) bkQuerySpec e true (fun d => d.bkQuery e)

/-- Configures a trigger pin (R359). -/
def execTrgPin (e : Entry) (s : State) : Result :=
  s.command (.trgPin { e with inbuf := [] }) trgPinSpec e true (fun d => d.trgPin e)

/-- Pops input stamps of a pin to the host (R359). -/
def execTrgStamps (e : Entry) (s : State) : Result :=
  s.command (.trgStamps { e with inbuf := [] }) trgStampsSpec e true (fun d => d.trgStamps e)

/-- Sets the GigE Vision action parameters of a program's target (R361). -/
def execBkAction (e : Entry) (s : State) : Result :=
  s.command (.bkAction { e with inbuf := [] }) bkActionSpec e (s.dev.portThere (e.u 14 1)) (fun d => d.bkAction e)

end Sys2Proof.Machine
end

