-- ==== Sys2Proof/Machine/Dispatch.lean ====
section
/-! DEFINITION. One arm per command: a direct call of its meaning. -/

namespace Sys2Proof.Machine

def exec (i : Instr) (s : State) : Host.Outcome State Fault Refusal :=
  match i with
  | .nop e => Sys2Proof.Machine.execNop e s
  | .identify e => Sys2Proof.Machine.execIdentify e s
  | .setSdn e => Sys2Proof.Machine.execSetSdn e s
  | .memAlloc e => Sys2Proof.Machine.execMemAlloc e s
  | .memFree e => Sys2Proof.Machine.execMemFree e s
  | .openMailbox e => Sys2Proof.Machine.execOpenMailbox e s
  | .closeMailbox e => Sys2Proof.Machine.execCloseMailbox e s
  | .reserveQueues e => Sys2Proof.Machine.execReserveQueues e s
  | .setMode e => Sys2Proof.Machine.execSetMode e s
  | .recover e => Sys2Proof.Machine.execRecover e s
  | .openSystemQueue e => Sys2Proof.Machine.execOpenSystemQueue e s
  | .memQuery e => Sys2Proof.Machine.execMemQuery e s
  | .linkQuery e => Sys2Proof.Machine.execLinkQuery e s
  | .calQuery e => Sys2Proof.Machine.execCalQuery e s
  | .calLoad e => Sys2Proof.Machine.execCalLoad e s
  | .calSwap e => Sys2Proof.Machine.execCalSwap e s
  | .calHalt e => Sys2Proof.Machine.execCalHalt e s
  | .calResume e => Sys2Proof.Machine.execCalResume e s
  | .calClear e => Sys2Proof.Machine.execCalClear e s
  | .calAttach e => Sys2Proof.Machine.execCalAttach e s
  | .calRelease e => Sys2Proof.Machine.execCalRelease e s
  | .txnOpen e => Sys2Proof.Machine.execTxnOpen e s
  | .txnStage e => Sys2Proof.Machine.execTxnStage e s
  | .txnCommit e => Sys2Proof.Machine.execTxnCommit e s
  | .txnCancel e => Sys2Proof.Machine.execTxnCancel e s
  | .txnQuery e => Sys2Proof.Machine.execTxnQuery e s
  | .epochQuery e => Sys2Proof.Machine.execEpochQuery e s
  | .laneQuery e => Sys2Proof.Machine.execLaneQuery e s
  | .laneConfig e => Sys2Proof.Machine.execLaneConfig e s
  | .laneTrain e => Sys2Proof.Machine.execLaneTrain e s
  | .laneAlign e => Sys2Proof.Machine.execLaneAlign e s
  | .laneIdle e => Sys2Proof.Machine.execLaneIdle e s
  | .laneLoop e => Sys2Proof.Machine.execLaneLoop e s
  | .lanePrbs e => Sys2Proof.Machine.execLanePrbs e s
  | .laneHist e => Sys2Proof.Machine.execLaneHist e s
  | .laneCounters e => Sys2Proof.Machine.execLaneCounters e s
  | .portQuery e => Sys2Proof.Machine.execPortQuery e s
  | .portOpen e => Sys2Proof.Machine.execPortOpen e s
  | .portClose e => Sys2Proof.Machine.execPortClose e s
  | .portLink e => Sys2Proof.Machine.execPortLink e s
  | .streamRx e => Sys2Proof.Machine.execStreamRx e s
  | .vxlCalibrate e => Sys2Proof.Machine.execVxlCalibrate e s
  | .vxlReg e => Sys2Proof.Machine.execVxlReg e s
  | .ptpConfig e => Sys2Proof.Machine.execPtpConfig e s
  | .portCounters e => Sys2Proof.Machine.execPortCounters e s
  | .capQuery e => Sys2Proof.Machine.execCapQuery e s
  | .capStream e => Sys2Proof.Machine.execCapStream e s
  | .capEnable e => Sys2Proof.Machine.execCapEnable e s
  | .capRelease e => Sys2Proof.Machine.execCapRelease e s
  | .capCounters e => Sys2Proof.Machine.execCapCounters e s
  | .swConfig e => Sys2Proof.Machine.execSwConfig e s
  | .swReference e => Sys2Proof.Machine.execSwReference e s
  | .swRegion e => Sys2Proof.Machine.execSwRegion e s
  | .swResult e => Sys2Proof.Machine.execSwResult e s
  | .mdConfig e => Sys2Proof.Machine.execMdConfig e s
  | .mdFlush e => Sys2Proof.Machine.execMdFlush e s
  | .mdStatement e => Sys2Proof.Machine.execMdStatement e s
  | .mdQuery e => Sys2Proof.Machine.execMdQuery e s
  | .palQuery e => Sys2Proof.Machine.execPalQuery e s
  | .palConfig e => Sys2Proof.Machine.execPalConfig e s
  | .palEnable e => Sys2Proof.Machine.execPalEnable e s
  | .palInject e => Sys2Proof.Machine.execPalInject e s
  | .palSkew e => Sys2Proof.Machine.execPalSkew e s
  | .palGvcpImage e => Sys2Proof.Machine.execPalGvcpImage e s
  | .palCounters e => Sys2Proof.Machine.execPalCounters e s
  | .qOpen e => Sys2Proof.Machine.execQOpen e s
  | .qClose e => Sys2Proof.Machine.execQClose e s
  | .qQuery e => Sys2Proof.Machine.execQQuery e s
  | .qReset e => Sys2Proof.Machine.execQReset e s
  | .dmaChannel e => Sys2Proof.Machine.execDmaChannel e s
  | .dmaSubmit e => Sys2Proof.Machine.execDmaSubmit e s
  | .dmaPause e => Sys2Proof.Machine.execDmaPause e s
  | .dmaQuery e => Sys2Proof.Machine.execDmaQuery e s
  | .timeQuery e => Sys2Proof.Machine.execTimeQuery e s
  | .timeStep e => Sys2Proof.Machine.execTimeStep e s
  | .timeSlew e => Sys2Proof.Machine.execTimeSlew e s
  | .timeIncr e => Sys2Proof.Machine.execTimeIncr e s
  | .ptpServo e => Sys2Proof.Machine.execPtpServo e s
  | .ptpStatus e => Sys2Proof.Machine.execPtpStatus e s
  | .timingPins e => Sys2Proof.Machine.execTimingPins e s
  | .timePtm e => Sys2Proof.Machine.execTimePtm e s
  | .mwChannel e => Sys2Proof.Machine.execMwChannel e s
  | .mwFire e => Sys2Proof.Machine.execMwFire e s
  | .mwWatch e => Sys2Proof.Machine.execMwWatch e s
  | .mwGate e => Sys2Proof.Machine.execMwGate e s
  | .bkProgram e => Sys2Proof.Machine.execBkProgram e s
  | .bkArm e => Sys2Proof.Machine.execBkArm e s
  | .bkQuery e => Sys2Proof.Machine.execBkQuery e s
  | .trgPin e => Sys2Proof.Machine.execTrgPin e s
  | .trgStamps e => Sys2Proof.Machine.execTrgStamps e s
  | .bkAction e => Sys2Proof.Machine.execBkAction e s
  | .fbQuery e => Sys2Proof.Machine.execFbQuery e s
  | .fbConfig e => Sys2Proof.Machine.execFbConfig e s
  | .fbSetPos e => Sys2Proof.Machine.execFbSetPos e s
  | .fbLatch e => Sys2Proof.Machine.execFbLatch e s
  | .fbCompare e => Sys2Proof.Machine.execFbCompare e s
  | .fbCounters e => Sys2Proof.Machine.execFbCounters e s
  | .axQuery e => Sys2Proof.Machine.execAxQuery e s
  | .axConfig e => Sys2Proof.Machine.execAxConfig e s
  | .axEnable e => Sys2Proof.Machine.execAxEnable e s
  | .axMove e => Sys2Proof.Machine.execAxMove e s
  | .axStop e => Sys2Proof.Machine.execAxStop e s
  | .axHome e => Sys2Proof.Machine.execAxHome e s
  | .axSetPos e => Sys2Proof.Machine.execAxSetPos e s
  | .axCounters e => Sys2Proof.Machine.execAxCounters e s
  | .secQuery e => Sys2Proof.Machine.execSecQuery e s
  | .attest e => Sys2Proof.Machine.execAttest e s
  | .idCert e => Sys2Proof.Machine.execIdCert e s
  | .secRequest e => Sys2Proof.Machine.execSecRequest e s
  | .svnCommit e => Sys2Proof.Machine.execSvnCommit e s
  | .fwStage e => Sys2Proof.Machine.execFwStage e s
  | .fwActivate e => Sys2Proof.Machine.execFwActivate e s
  | .debugChallenge e => Sys2Proof.Machine.execDebugChallenge e s
  | .debugOpen e => Sys2Proof.Machine.execDebugOpen e s
  | .healthQuery e => Sys2Proof.Machine.execHealthQuery e s
  | .healthLimits e => Sys2Proof.Machine.execHealthLimits e s
  | .paceConfig e acked => Sys2Proof.Machine.execPaceConfig e acked s
  | .healthSensors e => Sys2Proof.Machine.execHealthSensors e s
  | .healthCounters e => Sys2Proof.Machine.execHealthCounters e s
  | .registerWrite host addr half value mismatch => Sys2Proof.Machine.execRegisterWrite host addr half value mismatch s
  | .wdtCtlWrite timeout => Sys2Proof.Machine.execWdtCtlWrite timeout s
  | .wdtKickWrite key => Sys2Proof.Machine.execWdtKickWrite key s
  | .bmbRing n done => Sys2Proof.Machine.execBmbRing n done s
  | .bmbDoneClear n => Sys2Proof.Machine.execBmbDoneClear n s
  | .bmbComplete n => Sys2Proof.Machine.execBmbComplete n s
  | .memAllocFillDone handle => Sys2Proof.Machine.execMemAllocFillDone handle s
  | .recoverDone scope index => Sys2Proof.Machine.execRecoverDone scope index s
  | .calLoadGo n => Sys2Proof.Machine.execCalLoadGo n s
  | .calHaltWrite n => Sys2Proof.Machine.execCalHaltWrite n s
  | .calResumeWrite n => Sys2Proof.Machine.execCalResumeWrite n s
  | .calClearWrite n => Sys2Proof.Machine.execCalClearWrite n s
  | .calAttachWrite n booths home => Sys2Proof.Machine.execCalAttachWrite n booths home s
  | .calTrelWrite n k value => Sys2Proof.Machine.execCalTrelWrite n k value s
  | .calliopeStepEntry n => Sys2Proof.Machine.execCalliopeStepEntry n s
  | .calTimeWaitExpire n => Sys2Proof.Machine.execCalTimeWaitExpire n s
  | .calTimeout n => Sys2Proof.Machine.execCalTimeout n s
  | .curtainStage high value => Sys2Proof.Machine.execCurtainStage high value s
  | .stageDataLowWrite value => Sys2Proof.Machine.execStageDataLowWrite value s
  | .curTxOpen n => Sys2Proof.Machine.execCurTxOpen n s
  | .curTxCommit n => Sys2Proof.Machine.execCurTxCommit n s
  | .curTxCancel n => Sys2Proof.Machine.execCurTxCancel n s
  | .curtainCheckDone n => Sys2Proof.Machine.execCurtainCheckDone n s
  | .curtainDeadlinePass n => Sys2Proof.Machine.execCurtainDeadlinePass n s
  | .curtainFinalSample n => Sys2Proof.Machine.execCurtainFinalSample n s
  | .curtainAdopt n => Sys2Proof.Machine.execCurtainAdopt n s
  | .netPortStage high value => Sys2Proof.Machine.execNetPortStage high value s
  | .netPortDataLowWrite value => Sys2Proof.Machine.execNetPortDataLowWrite value s
  | .laneCtlWrite l value => Sys2Proof.Machine.execLaneCtlWrite l value s
  | .laneTxWrite l value => Sys2Proof.Machine.execLaneTxWrite l value s
  | .laneFfeWrite l value => Sys2Proof.Machine.execLaneFfeWrite l value s
  | .lnTrainStart l => Sys2Proof.Machine.execLnTrainStart l s
  | .lnTrainAbort l => Sys2Proof.Machine.execLnTrainAbort l s
  | .lnTrainReqWrite l request => Sys2Proof.Machine.execLnTrainReqWrite l request s
  | .lnTrainDoneWrite l => Sys2Proof.Machine.execLnTrainDoneWrite l s
  | .trainFrameRx l head word2 copy eye => Sys2Proof.Machine.execTrainFrameRx l head word2 copy eye s
  | .txpllLock l => Sys2Proof.Machine.execTxpllLock l s
  | .cdrLock l => Sys2Proof.Machine.execCdrLock l s
  | .losAssert l mv ns => Sys2Proof.Machine.execLosAssert l mv ns s
  | .losDeassert l mv ns => Sys2Proof.Machine.execLosDeassert l mv ns s
  | .lnSlip l => Sys2Proof.Machine.execLnSlip l s
  | .lnHistStart l => Sys2Proof.Machine.execLnHistStart l s
  | .portCtlWrite p value => Sys2Proof.Machine.execPortCtlWrite p value s
  | .ethBlockLock e => Sys2Proof.Machine.execEthBlockLock e s
  | .ethFrameRx p frame stamp fec => Sys2Proof.Machine.execEthFrameRx p frame stamp fec s
  | .packetTransmit p frame t => Sys2Proof.Machine.execPacketTransmit p frame t s
  | .txtsPop p => Sys2Proof.Machine.execTxtsPop p s
  | .vxlMarkerRx l word w0 w1 => Sys2Proof.Machine.execVxlMarkerRx l word w0 w1 s
  | .vxlLinkInfoRx p block => Sys2Proof.Machine.execVxlLinkInfoRx p block s
  | .vxlCodewordRx l message parity => Sys2Proof.Machine.execVxlCodewordRx l message parity s
  | .vxlLineStartRx p block stamp => Sys2Proof.Machine.execVxlLineStartRx p block stamp s
  | .vxlDataBlockRx p n data => Sys2Proof.Machine.execVxlDataBlockRx p n data s
  | .vxlTriggerRx p block t => Sys2Proof.Machine.execVxlTriggerRx p block t s
  | .vxlTriggerFire p => Sys2Proof.Machine.execVxlTriggerFire p s
  | .vxlTriggerTx p slots => Sys2Proof.Machine.execVxlTriggerTx p slots s
  | .vxlEchoGo p lane t1 => Sys2Proof.Machine.execVxlEchoGo p lane t1 s
  | .vxlEchoReqRx p lane block tIn tOut => Sys2Proof.Machine.execVxlEchoReqRx p lane block tIn tOut s
  | .vxlEchoRspRx p lane block t4 => Sys2Proof.Machine.execVxlEchoRspRx p lane block t4 s
  | .vxlCtrlRx p block => Sys2Proof.Machine.execVxlCtrlRx p block s
  | .ctrlTxQueue p value => Sys2Proof.Machine.execCtrlTxQueue p value s
  | .ctrlRxPop p => Sys2Proof.Machine.execCtrlRxPop p s
  | .lineWordEnter p k sol eol bytes stamp => Sys2Proof.Machine.execLineWordEnter p k sol eol bytes stamp s
  | .storeStageTake p => Sys2Proof.Machine.execStoreStageTake p s
  | .capFrameStart p k header stamp => Sys2Proof.Machine.execCapFrameStart p k header stamp s
  | .capOpen p k => Sys2Proof.Machine.execCapOpen p k s
  | .capClose p k => Sys2Proof.Machine.execCapClose p k s
  | .capTruncate p k => Sys2Proof.Machine.execCapTruncate p k s
  | .capRelWrite p k gen slot => Sys2Proof.Machine.execCapRelWrite p k gen slot s
  | .linescanTimeClose p k => Sys2Proof.Machine.execLinescanTimeClose p k s
  | .capFrameEvent p k => Sys2Proof.Machine.execCapFrameEvent p k s
  | .mbRelWrite slot => Sys2Proof.Machine.execMbRelWrite slot s
  | .palFrameStart p c => Sys2Proof.Machine.execPalFrameStart p c s
  | .palLinePrefetch p c line => Sys2Proof.Machine.execPalLinePrefetch p c line s
  | .palLineSend p c defer => Sys2Proof.Machine.execPalLineSend p c defer s
  | .doorbellProdWrite q prod => Sys2Proof.Machine.execDoorbellProdWrite q prod s
  | .doorbellConsWrite q cons => Sys2Proof.Machine.execDoorbellConsWrite q cons s
  | .dbWmRead q => Sys2Proof.Machine.execDbWmRead q s
  | .dbRearm q => Sys2Proof.Machine.execDbRearm q s
  | .carAppend value => Sys2Proof.Machine.execCarAppend value s
  | .coalesceTimeout q => Sys2Proof.Machine.execCoalesceTimeout q s
  | .dmaArmWrite e c => Sys2Proof.Machine.execDmaArmWrite e c s
  | .dmaDisarmWrite e c => Sys2Proof.Machine.execDmaDisarmWrite e c s
  | .dmaPauseWrite e c on => Sys2Proof.Machine.execDmaPauseWrite e c on s
  | .dmaTransferEnd e => Sys2Proof.Machine.execDmaTransferEnd e s
  | .tbIncrWrite incr => Sys2Proof.Machine.execTbIncrWrite incr s
  | .tbPllLock ref25 => Sys2Proof.Machine.execTbPllLock ref25 s
  | .ppsInEdge t rising => Sys2Proof.Machine.execPpsInEdge t rising s
  | .tenMhzInEdge t => Sys2Proof.Machine.execTenMhzInEdge t s
  | .ptmDialogueDone good t1 master prop => Sys2Proof.Machine.execPtmDialogueDone good t1 master prop s
  | .mwFireWrite src c => Sys2Proof.Machine.execMwFireWrite src c s
  | .barkerTimeFire p => Sys2Proof.Machine.execBarkerTimeFire p s
  | .barkerActCommit p t => Sys2Proof.Machine.execBarkerActCommit p t s
  | .barkerAct p t => Sys2Proof.Machine.execBarkerAct p t s
  | .barkerFireRecord p => Sys2Proof.Machine.execBarkerFireRecord p s
  | .trgPulseLead n => Sys2Proof.Machine.execTrgPulseLead n s
  | .trgPulseTrail n => Sys2Proof.Machine.execTrgPulseTrail n s
  | .trgInputEdge n t rising => Sys2Proof.Machine.execTrgInputEdge n t rising s
  | .trgInPop n => Sys2Proof.Machine.execTrgInPop n s
  | .encoderEdge f a b stamp => Sys2Proof.Machine.execEncoderEdge f a b stamp s
  | .hallStateChange f state stamp => Sys2Proof.Machine.execHallStateChange f state stamp s
  | .ssiReadStart f high t => Sys2Proof.Machine.execSsiReadStart f high t s
  | .ssiReadingDone f reading => Sys2Proof.Machine.execSsiReadingDone f reading s
  | .switchEdge f rising t since => Sys2Proof.Machine.execSwitchEdge f rising t since s
  | .indexEdge f rising t since => Sys2Proof.Machine.execIndexEdge f rising t since s
  | .fbSetPosWrite f => Sys2Proof.Machine.execFbSetPosWrite f s
  | .fbLatchArm f => Sys2Proof.Machine.execFbLatchArm f s
  | .servoPeriodBoundary a samples load => Sys2Proof.Machine.execServoPeriodBoundary a samples load s
  | .mpGoWrite a => Sys2Proof.Machine.execMpGoWrite a s
  | .mpStopWrite a => Sys2Proof.Machine.execMpStopWrite a s
  | .mpSetPosWrite a => Sys2Proof.Machine.execMpSetPosWrite a s
  | .mpHomeGo a => Sys2Proof.Machine.execMpHomeGo a s
  | .stepInputEdge a dir => Sys2Proof.Machine.execStepInputEdge a dir s
  | .limitSwitch a negative => Sys2Proof.Machine.execLimitSwitch a negative s
  | .axisFaultInput a => Sys2Proof.Machine.execAxisFaultInput a s
  | .bar4Read off len => Sys2Proof.Machine.execBar4Read off len s
  | .bar4Write off bytes poisoned => Sys2Proof.Machine.execBar4Write off bytes poisoned s
  | .hostApBaseWrite base => Sys2Proof.Machine.execHostApBaseWrite base s
  | .busMasterChange cfg => Sys2Proof.Machine.execBusMasterChange cfg s
  | .hbmWipeDone us => Sys2Proof.Machine.execHbmWipeDone us s
  | .configReady speed width flit => Sys2Proof.Machine.execConfigReady speed width flit s
  | .hmModeWrite mode => Sys2Proof.Machine.execHmModeWrite mode s
  | .secSvnReqWrite target => Sys2Proof.Machine.execSecSvnReqWrite target s
  | .secSdnWrite sdn => Sys2Proof.Machine.execSecSdnWrite sdn s
  | .healthSample temps hbmTemps => Sys2Proof.Machine.execHealthSample temps hbmTemps s
  | .railSample mv => Sys2Proof.Machine.execRailSample mv s
  | .ringmasterEccError uncorrectable => Sys2Proof.Machine.execRingmasterEccError uncorrectable s
  | .linkLossTimeout p => Sys2Proof.Machine.execLinkLossTimeout p s
  | .fifoParityError p => Sys2Proof.Machine.execFifoParityError p s
  | .boothSramUecc booth => Sys2Proof.Machine.execBoothSramUecc booth s
  | .hbmUncorrectableError cls booth index off => Sys2Proof.Machine.execHbmUncorrectableError cls booth index off s
  | .hbmCorrectedError cls booth index off => Sys2Proof.Machine.execHbmCorrectedError cls booth index off s
  | .laneTrainTimeout l => Sys2Proof.Machine.execLaneTrainTimeout l s
  | .wakeBurstDone l => Sys2Proof.Machine.execWakeBurstDone l s
  | .laneWakeRx l => Sys2Proof.Machine.execLaneWakeRx l s
  | .adaptOk l ctle dfe => Sys2Proof.Machine.execAdaptOk l ctle dfe s
  | .lolAssert l ppm words => Sys2Proof.Machine.execLolAssert l ppm words s
  | .laneSlipDone l => Sys2Proof.Machine.execLaneSlipDone l s
  | .alignLost l => Sys2Proof.Machine.execAlignLost l s
  | .laneHistDone l low inner high => Sys2Proof.Machine.execLaneHistDone l low inner high s
  | .prbsCheckerLock l symbols => Sys2Proof.Machine.execPrbsCheckerLock l symbols s
  | .mergeHoldExpire p k => Sys2Proof.Machine.execMergeHoldExpire p k s
  | .portAlignLossTimeout p => Sys2Proof.Machine.execPortAlignLossTimeout p s
  | .portHelloTimeout p => Sys2Proof.Machine.execPortHelloTimeout p s
  | .vxlEchoTimeout p => Sys2Proof.Machine.execVxlEchoTimeout p s
  | .ctrlRetryTimeout p tag => Sys2Proof.Machine.execCtrlRetryTimeout p tag s
  | .vxlCalibratePeriodic p => Sys2Proof.Machine.execVxlCalibratePeriodic p s
  | .lineFifoDiagPop p k => Sys2Proof.Machine.execLineFifoDiagPop p k s
  | .palPacketRelease p c defer => Sys2Proof.Machine.execPalPacketRelease p c defer s
  | .gvcpRequestRx p => Sys2Proof.Machine.execGvcpRequestRx p s
  | .dmaPauseDone e moved => Sys2Proof.Machine.execDmaPauseDone e moved s
  | .dmaReadCompletionError r => Sys2Proof.Machine.execDmaReadCompletionError r s
  | .speedTimeout f => Sys2Proof.Machine.execSpeedTimeout f s
  | .axisPowerDown a => Sys2Proof.Machine.execAxisPowerDown a s
  | .axisWakeHoldDone a => Sys2Proof.Machine.execAxisWakeHoldDone a s
  | .patrolScrub off found uncorrectable => Sys2Proof.Machine.execPatrolScrub off found uncorrectable s
  | .jtagDebugRequest request => Sys2Proof.Machine.execJtagDebugRequest request s
  | .jtagProvision hashes => Sys2Proof.Machine.execJtagProvision hashes s
  | .boothPaceUpdate booth ratio => Sys2Proof.Machine.execBoothPaceUpdate booth ratio s
  | .pacePeriod naks => Sys2Proof.Machine.execPacePeriod naks s
  | .ethLockLoss p => Sys2Proof.Machine.execEthLockLoss p s
  | .trainingLosFail l => Sys2Proof.Machine.execTrainingLosFail l s
  | .containedSramUecc engine n => Sys2Proof.Machine.execContainedSramUecc engine n s
  | .queueReadCompletionError r cmd => Sys2Proof.Machine.execQueueReadCompletionError r cmd s
  | .linkTlpError kind => Sys2Proof.Machine.execLinkTlpError kind s
  | .endLimitRelease a negative => Sys2Proof.Machine.execEndLimitRelease a negative s
  | .axisFaultRelease a => Sys2Proof.Machine.execAxisFaultRelease a s
  | .alignSearchTimer l => Sys2Proof.Machine.execAlignSearchTimer l s
  | .portLinkTimeLimit p => Sys2Proof.Machine.execPortLinkTimeLimit p s
  | .ptpMessageTimer kind t => Sys2Proof.Machine.execPtpMessageTimer kind t s
  | .slowPathPacketRx p => Sys2Proof.Machine.execSlowPathPacketRx p s
  | .jtagDebugAccess op => Sys2Proof.Machine.execJtagDebugAccess op s
  | .wdtLock => Sys2Proof.Machine.execWdtLock s
  | .watchdogEarly => Sys2Proof.Machine.execWatchdogEarly s
  | .watchdogExpiry => Sys2Proof.Machine.execWatchdogExpiry s
  | .rollLoadDone => Sys2Proof.Machine.execRollLoadDone s
  | .configDigestExtend => Sys2Proof.Machine.execConfigDigestExtend s
  | .netHashUpdate => Sys2Proof.Machine.execNetHashUpdate s
  | .netPortUnlock => Sys2Proof.Machine.execNetPortUnlock s
  | .netPortOpen => Sys2Proof.Machine.execNetPortOpen s
  | .netPortCommit => Sys2Proof.Machine.execNetPortCommit s
  | .netPortCancel => Sys2Proof.Machine.execNetPortCancel s
  | .netPortLock => Sys2Proof.Machine.execNetPortLock s
  | .faultLogDrain => Sys2Proof.Machine.execFaultLogDrain s
  | .firmwareCounterSample => Sys2Proof.Machine.execFirmwareCounterSample s
  | .ptpAnnounceTimeout => Sys2Proof.Machine.execPtpAnnounceTimeout s
  | .sealAccept => Sys2Proof.Machine.execSealAccept s
  | .manifestIntervalClose => Sys2Proof.Machine.execManifestIntervalClose s
  | .mbFlush => Sys2Proof.Machine.execMbFlush s
  | .manifestSigned => Sys2Proof.Machine.execManifestSigned s
  | .manifestWriteRetry => Sys2Proof.Machine.execManifestWriteRetry s
  | .carCtxLoad => Sys2Proof.Machine.execCarCtxLoad s
  | .carCtxStore => Sys2Proof.Machine.execCarCtxStore s
  | .carTake => Sys2Proof.Machine.execCarTake s
  | .msixPendingSend => Sys2Proof.Machine.execMsixPendingSend s
  | .tbStepGo => Sys2Proof.Machine.execTbStepGo s
  | .tbStepApply => Sys2Proof.Machine.execTbStepApply s
  | .tbSlewGo => Sys2Proof.Machine.execTbSlewGo s
  | .tbSlewAbort => Sys2Proof.Machine.execTbSlewAbort s
  | .slewDone => Sys2Proof.Machine.execSlewDone s
  | .tbSnapGo => Sys2Proof.Machine.execTbSnapGo s
  | .ttWrap => Sys2Proof.Machine.execTtWrap s
  | .refclkLost => Sys2Proof.Machine.execRefclkLost s
  | .refclkRelock => Sys2Proof.Machine.execRefclkRelock s
  | .ppsOutEdge => Sys2Proof.Machine.execPpsOutEdge s
  | .ptmGo => Sys2Proof.Machine.execPtmGo s
  | .ptmAutoPeriod => Sys2Proof.Machine.execPtmAutoPeriod s
  | .midwayDeliver => Sys2Proof.Machine.execMidwayDeliver s
  | .bkActPop => Sys2Proof.Machine.execBkActPop s
  | .actionCmdSend => Sys2Proof.Machine.execActionCmdSend s
  | .motionUecc => Sys2Proof.Machine.execMotionUecc s
  | .barBadAccess => Sys2Proof.Machine.execBarBadAccess s
  | .d3hotEntry => Sys2Proof.Machine.execD3hotEntry s
  | .linkReset => Sys2Proof.Machine.execLinkReset s
  | .perstAssert => Sys2Proof.Machine.execPerstAssert s
  | .powerOnReset => Sys2Proof.Machine.execPowerOnReset s
  | .brownOut => Sys2Proof.Machine.execBrownOut s
  | .resetRelease => Sys2Proof.Machine.execResetRelease s
  | .sramWipeDone => Sys2Proof.Machine.execSramWipeDone s
  | .identityKeyReady => Sys2Proof.Machine.execIdentityKeyReady s
  | .bootImageLoad => Sys2Proof.Machine.execBootImageLoad s
  | .hmReadySet => Sys2Proof.Machine.execHmReadySet s
  | .svnProgramDone => Sys2Proof.Machine.execSvnProgramDone s
  | .secRequestGo => Sys2Proof.Machine.execSecRequestGo s
  | .secRequestCheckDone => Sys2Proof.Machine.execSecRequestCheckDone s
  | .lifecycleReset => Sys2Proof.Machine.execLifecycleReset s
  | .secQuoteGo => Sys2Proof.Machine.execSecQuoteGo s
  | .quoteDone => Sys2Proof.Machine.execQuoteDone s
  | .secNewChallenge => Sys2Proof.Machine.execSecNewChallenge s
  | .debugChallengeExpire => Sys2Proof.Machine.execDebugChallengeExpire s
  | .jtagNewChallenge => Sys2Proof.Machine.execJtagNewChallenge s
  | .jtagScrap => Sys2Proof.Machine.execJtagScrap s
  | .paceCeiling => Sys2Proof.Machine.execPaceCeiling s
  | .healthLimitExpire => Sys2Proof.Machine.execHealthLimitExpire s
  | .tbLockTimeout => Sys2Proof.Machine.execTbLockTimeout s
  | .hbmPhyTrained => Sys2Proof.Machine.execHbmPhyTrained s
  | .flashWriteDone => Sys2Proof.Machine.execFlashWriteDone s

end Sys2Proof.Machine
end

