-- ==== Sys2Proof/Machine/Step.lean ====
section
/-! DEFINITION. One step: the command at the front of the queue, or, with none, what the device does by itself. -/

namespace Sys2Proof.Machine

/-- The first waiting entry that firmware can start, and the entries before and after it: the front entry of a mailbox whose
command need not wait (R62, R63). -/
def State.startable (d : Device) : List Via → List Instr → Option Instr
  | _, [] => none
  | seen, i :: rest =>
    match mailCommand i with
    | some (c, e) =>
      if !seen.contains e.via && !d.mustWait c e then some i
      else State.startable d (e.via :: seen) rest
    | none => State.startable d seen rest

/-- Entry `i`, the first of its mailbox, starts: the mailbox's later entries stand back behind it. -/
def State.start (s : State) (i : Instr) : Result :=
  let same := s.waiting.filter (fun j => decide (viaOf j = viaOf i))
  let others := s.waiting.filter (fun j => decide (viaOf j ≠ viaOf i))
  match exec i { s with waiting := others } with
  | .next t => .next ({ t with waiting := t.waiting ++ same.drop 1 } : State).settle
  | r => r

/-- With no command queued: firmware serves what it owes and starts a waiting entry it can start, else one tick of the time base
passes. -/
def State.idle (s : State) : Result :=
  if s.dev.sec.inReset then .next s
  else
    let s := s.settle.fetch
    match State.startable s.dev [] s.waiting with
    | some i => s.start i
    | none => .next ({ s with dev := s.dev.tickAll } : State).settle

def step (s : State) : Host.Outcome State Fault Refusal :=
  match s.pending with
  | i :: rest => exec i { s with pending := rest }
  | [] => s.idle

/-- The table gives no row any bits, so no word spells a command. -/
def State.withFetchWord (s : State) (nbits w : Nat) : State :=
  match decodeTableWord nbits w with
  | some i => { s with pending := i :: s.pending }
  | none => s

end Sys2Proof.Machine
end

