-- ==== Sys2Proof/Safety.lean ====
section
/-! DEFINITION. The terms claims are stated in: what it means that a command does its work, that a mailbox entry is taken and
answered, that firmware owes nothing, and the invariant of the commands that wait. -/

namespace Sys2Proof.Machine

/-- Taking command `i` in state `s` turns the device into `d`, after which firmware serves what it owes. -/
def State.does (s : State) (i : Instr) (d : Device) : Prop := exec i s = .next ({ s with dev := d } : State).settle

/-- The same for a command on lane `l`: after its own effect the link of the lane's port is evaluated. -/
def State.laneDoes (s : State) (l : Fin 16) (i : Instr) (d : Device) : Prop := s.does i (d.afterLane l)

/-- The same for a command on port `p`. -/
def State.portDoes (s : State) (p : Fin 8) (i : Instr) (d : Device) : Prop := s.does i (d.afterLink p)

/-- Taking command `i` leaves the whole state as it was. -/
def State.idles (s : State) (i : Instr) : Prop := exec i s = .next s

/-- The device is not held in reset. -/
def State.awake (s : State) : Prop := s.dev.sec.inReset = false

/-- The device as the body of a command finds it: the input buffer stored by the host, the entry taken off its command queue,
the sequence number moved on. -/
def Device.entered (d : Device) (e : Entry) : Device := ((d.placeInput e).takeCommand e).advanceSeq e

/-- Firmware takes the entry now: it is its mailbox's turn, nothing of the mailbox stands before it, its sequence number is
the expected one and it passes the checks of R60. -/
def State.takes (s : State) (c : CmdSpec) (e : Entry) (present : Bool) : Prop :=
  s.awake ∧ s.dev.mustWait c e = false ∧ s.behind e.via = false ∧ (s.dev.placeInput e).holds c.opcode e = true
    ∧ (s.dev.placeInput e).outOfSequence e = none ∧ (s.dev.entered e).entryCheck c e present = stOK

/-- Command `i`, the entry `e`, is answered with the reply `r`. -/
def State.answers (s : State) (i : Instr) (c : CmdSpec) (e : Entry) (r : Reply) : Prop := s.does i (Device.answer c e r)

/-- Whenever firmware takes the entry, it answers with a reply of which `P` holds, the booths that the command writes awake
(R33); `P` is told the device the body found. -/
def State.gives (s : State) (i : Instr) (c : CmdSpec) (e : Entry) (present : Bool) (P : Device → Reply → Prop) : Prop :=
  s.takes c e present → ∃ r, s.answers i c e (r.waking (c.wakes e)) ∧ P (s.dev.entered e) r

/-- The reply says that the command was carried out, or has been taken up (R64, R67). -/
def Reply.good (r : Reply) : Bool := decide (r.status = stOK ∨ r.status = stACCEPTED)

/-- A configuration change can be taken up: alone where TXN is 0, else into the command's own open transaction, every entry of
it staged (R98, R99). -/
def Device.takesChange (d : Device) (e : Entry) (txn : Nat) (ws : List MaskedWrite) : Bool :=
  if txn = 0 then decide (d.aloneForm ws = stOK)
  else decide (d.txnCheck e txn = stOK ∧ d.txState (txn - 1) = 1 ∧ (Device.stageList (txn - 1) ws 0 d).2.1 = stOK)

/-- The reply to a configuration change that is taken up: where TXN is 0 the change joins the list of those committed alone
and the command goes on, answered ACCEPTED where `acc`; else its entries stand in the transaction and the command is done. -/
def Device.carries (d : Device) (e : Entry) (txn : Nat) (acc : Bool) (job : AloneJob) (r : Reply) : Prop :=
  if txn = 0 then
    r.status = (if acc then stACCEPTED else stOK) ∧ r.held = (!acc) ∧ r.work = [d.ctl.aloneNext]
      ∧ r.dev = (d.setCtl { d.ctl with alone := d.ctl.alone ++ [{ job with key := [d.ctl.aloneNext], owner := e.via.owner }]
                                       aloneNext := d.ctl.aloneNext + 1 }).startAlone
  else
    r.status = stOK ∧ r.held = false ∧ r.payload = job.payload
      ∧ r.dev = (Device.stageList (txn - 1) job.writes 0 d).2.2.transfer e.via.owner job.claims job.drops

/-- The same for a command with WAIT, which a transaction too answers ACCEPTED: its work waits under `key` for the adoption,
alone under `next` after it. -/
def Device.carriesWait (d : Device) (e : Entry) (txn : Nat) (wait : Bool) (key next : List Nat) (job : AloneJob) (r : Reply) : Prop :=
  ∃ r0, d.carries e txn wait { job with next := if wait then next else [] } r0
    ∧ if txn ≠ 0 ∧ wait = true then r.status = stACCEPTED ∧ r.work = key ++ [65536 + (txn - 1)] ∧ r.dev = r0.dev else r = r0

/-- The same for a command whose response tells what the adoption leaves: staged into a transaction, what stands now. -/
def Device.carriesShow (d : Device) (e : Entry) (txn : Nat) (job : AloneJob) (r : Reply) : Prop :=
  ∃ r0, d.carries e txn false job r0
    ∧ r = if txn = 0 then r0 else { r0 with payload := r0.dev.adoptedPayload job.opcode job.payload }

/-- The command's input buffer has already been stored, or it has none. -/
def inputPlaced (i : Instr) : Bool :=
  match mailCommand i with
  | some (_, e) => e.inbuf.isEmpty
  | none => true

/-- What holds of the commands that wait: each is an entry of an open queue mailbox, or stands in the slot of a rung bootstrap
mailbox, of a device that is not held in reset, and its input stands in host memory. -/
def State.Inv (s : State) : Prop := ∀ i ∈ s.waiting, s.dev.mayHold i = true ∧ inputPlaced i = true

/-- Firmware owes nothing: no command is running, no response waits for its queue, no change waits for TX14, no closed mailbox
still has its queues, and no rung bootstrap mailbox holds an undefined opcode. -/
def Device.owesNothing (d : Device) : Prop :=
  d.ctl.works = [] ∧ d.ctl.owed = [] ∧ d.ctl.alone = [] ∧ (∀ k, 1 ≤ k → k < 256 → (d.mbox k).isOpen = false → (d.ctx (2 * k)).kind ≠ 1)
    ∧ ∀ n, n < 8 → d.unknownRung n = false

/-- The unit a mailbox command addresses is not fused off (R5, R60). -/
def unitThere (i : Instr) (d : Device) : Bool :=
  match i with
  | .calQuery e => d.seqThere (e.u 12 1)
  | .calSwap e => d.seqThere (e.u 12 1)
  | .calHalt e => d.seqThere (e.u 12 1)
  | .calResume e => d.seqThere (e.u 12 1)
  | .calClear e => d.seqThere (e.u 12 1)
  | .calRelease e => d.seqThere (e.u 12 1)
  | .capQuery e => d.portThere (e.u 12 1)
  | .capStream e => d.portThere (e.u 12 1)
  | .capEnable e => d.portThere (e.u 12 1)
  | .capRelease e => d.portThere (e.u 12 1)
  | .capCounters e => d.portThere (e.u 12 1)
  | .swReference e => d.portThere (e.u 12 1)
  | .swRegion e => d.portThere (e.u 12 1)
  | .portQuery e => d.portThere (e.u 12 1)
  | .portOpen e => d.portThere (e.u 12 1)
  | .portClose e => d.portThere (e.u 12 1)
  | .portLink e => d.portThere (e.u 12 1)
  | .streamRx e => d.portThere (e.u 12 1)
  | .vxlCalibrate e => d.portThere (e.u 12 1)
  | .vxlReg e => d.portThere (e.u 12 1)
  | .ptpConfig e => d.portThere (e.u 12 1)
  | .portCounters e => d.portThere (e.u 12 1)
  | .laneQuery e => d.laneThere (e.u 12 1)
  | .laneConfig e => d.laneThere (e.u 12 1)
  | .laneTrain e => d.laneThere (e.u 12 1)
  | .laneAlign e => d.laneThere (e.u 12 1)
  | .laneIdle e => d.laneThere (e.u 12 1)
  | .laneLoop e => d.laneThere (e.u 12 1)
  | .lanePrbs e => d.laneThere (e.u 12 1)
  | .laneCounters e => d.laneThere (e.u 12 1)
  | .palQuery e => d.emitThere (e.u 12 1)
  | .palEnable e => d.emitThere (e.u 12 1)
  | .palInject e => d.emitThere (e.u 12 1)
  | .palSkew e => d.emitThere (e.u 12 1)
  | .palCounters e => d.emitThere (e.u 12 1)
  | .bkAction e => d.portThere (e.u 14 1)
  | _ => true

/-- The rows that enter or leave a full reset (R470 to R472). -/
def entersReset : Instr → Bool
  | .powerOnReset => true
  | .brownOut => true
  | .perstAssert => true
  | .linkReset => true
  | .lifecycleReset => true
  | .resetRelease => true
  | _ => false

end Sys2Proof.Machine
end

