-- ==== Sys2Proof/Certificates/Slice0/Obligations.lean ====
section
/-! DEFINITION. The statements for the provers: each says in its docstring which rules of the spec it formalises. -/

open Sys2Proof Sys2Proof.Machine

/-- A step takes the command at the front of the queue (R17). For every state whose queue of commands is not empty, step
is exec of the front command on the state with the rest of the queue. -/
def Obligations.StepRunsFrontCommand : Prop :=
  ∀ (s : State) (i : Instr) (rest : List Instr), s.pending = i :: rest → step s = exec i { s with pending := rest }

/-- What a step does on an empty queue (the model's choice, log entry 3) (R62, R322). With no command queued, a device
held in reset stays as it is; otherwise firmware serves what it owes, answers the entries of undefined opcodes it
comes to, and then either starts the first waiting entry that can start, or one tick of the time base passes and
firmware serves what it owes. -/
def Obligations.EmptyQueueStep : Prop :=
  (∀ s : State, s.pending = [] → s.dev.sec.inReset = true → step s = .next s)
  ∧ (∀ (s : State) (i : Instr), s.pending = [] → s.awake → State.startable s.settle.fetch.dev [] s.settle.fetch.waiting = some i →
      step s = s.settle.fetch.start i)
  ∧ (∀ s : State, s.pending = [] → s.awake → State.startable s.settle.fetch.dev [] s.settle.fetch.waiting = none →
      step s = .next ({ s.settle.fetch with dev := s.settle.fetch.dev.tickAll } : State).settle)

/-- The state after power-on meets the invariant of waiting commands (R470, R472). Nothing waits in the state after reset,
so the invariant of the commands that wait holds there; the queue is empty and a full reset is held. -/
def Obligations.ResetMeetsInvariant : Prop :=
  State.reset.Inv ∧ State.reset.pending = [] ∧ State.reset.waiting = [] ∧ State.reset.dev.sec.inReset = true

/-- Only entries of open queue mailboxes and of rung bootstrap mailboxes wait, and nothing waits through a reset (R57,
R62, R65, R470). From every state in which every waiting command is an entry of an open queue mailbox, or stands in
the slot of a rung bootstrap mailbox, of a device not held in reset, with its input stored, one step leads to a state
in which the same holds: a mailbox that closes and a full reset take their unstarted commands out of the list. -/
def Obligations.StepKeepsInvariant : Prop :=
  ∀ s t : State, s.Inv → step s = .next t → t.Inv

/-- While a full reset is held, only the rows that enter or leave a full reset do anything (R470, R471, R472). For every
command but POWER_ON_RESET, BROWN_OUT, PERST_ASSERT, LINK_RESET, LIFECYCLE_RESET and RESET_RELEASE: on a device held
in reset the command leaves the whole state as it was. -/
def Obligations.ResetHoldsTheDevice : Prop :=
  ∀ (i : Instr) (s : State), s.dev.sec.inReset = true → entersReset i = false → s.idles i

/-- Every command leads to a next state and leaves the queue of commands alone (R17, R60). For every command and every
state, exec answers a next state, whose queue of commands is the one it was given. -/
def Obligations.CommandsNeverStop : Prop :=
  ∀ (i : Instr) (s : State), ∃ t, exec i s = .next t ∧ t.pending = s.pending

/-- Firmware that owes nothing, or does not run, changes nothing between commands (R57, R62, R64). Serving leaves the
state as it is when nothing waits and firmware does not run, or runs and owes nothing: no command outstanding, no
response waiting for its queue, no change waiting for its transaction slot, no closed mailbox still holding its
queues, and no rung bootstrap mailbox with an undefined opcode. -/
def Obligations.NothingOwedNothingServed : Prop :=
  ∀ s : State, s.awake → s.waiting = [] → (s.dev.fwRuns = false ∨ s.dev.owesNothing) → s.settle = s

/-- A mailbox command whose turn has not come waits behind the others (R62, R63, R66). A command that may not start yet
(firmware is not up; in a queue mailbox also no room for its responses or a response queue that takes none, a FENCE
with commands outstanding, 64 ACCEPTED commands outstanding), or that stands behind a waiting command of its mailbox,
is put at the end of the waiting list with its input stored, and has no other effect. -/
def Obligations.MailboxCommandWaits : Prop :=
  ∀ (i : Instr) (s : State) (c : CmdSpec) (e : Entry), mailCommand i = some (c, e) → s.awake →
    (s.dev.mustWait c e = true ∨ s.behind e.via = true) →
    ∃ j, mailCommand j = some (c, { e with inbuf := [] })
      ∧ exec i s = .next ({ s with dev := s.dev.placeInput e, waiting := s.waiting ++ [j] } : State).settle

/-- A command out of sequence is not executed and completes with SEQUENCE (R61). After OPEN_MAILBOX any sequence number is
taken; when a command starts, the expected number becomes its number plus 1 modulo 2^32; a queue mailbox command with
another number than the expected one leaves its queue and changes nothing else but to answer SEQUENCE, with the
expected number in the 4 bytes at offset 32 of its response, and the expected number stays. -/
def Obligations.MailboxOutOfSequence : Prop :=
  (∀ (d : Device) (e : Entry) (k : Fin 256), e.via = .queue k → (d.mbox k.val).expected = none → d.outOfSequence e = none)
  ∧ (∀ (d : Device) (e : Entry) (k : Fin 256), e.via = .queue k →
      ((d.advanceSeq e).mbox k.val).expected = some ((e.seq.toNat + 1) % 2 ^ 32))
  ∧ (∀ (i : Instr) (s : State) (c : CmdSpec) (e : Entry) (k : Fin 256) (x : Nat), mailCommand i = some (c, e) → s.awake →
      s.dev.mustWait c e = false → s.behind e.via = false → e.via = .queue k → (s.dev.placeInput e).holds c.opcode e = true →
      (s.dev.mbox k.val).expected = some x → x ≠ e.seq.toNat →
      ∃ d : Device, s.does i d ∧ (d.mbox k.val).expected = some x
        ∧ d = ((s.dev.placeInput e).takeCommand e).respond e.via c.opcode e.tag.toNat e.seq.toNat 0x0011 true (leBytes 4 x) false 0)
  ∧ (∀ (op tag n st sq ep fl ol x : Nat) (t : TT),
      ((responseBytes op tag n st sq ep t fl ol (leBytes 4 x)).drop 32).take 4 = leBytes 4 x)

/-- An entry that fails the checks is answered with its status and nothing is executed (R58, R60, R5, R67). A mailbox
command that firmware takes in sequence and whose entry fails a check of the fixed order is answered with the status
of the first check it fails; nothing else happens but the sequence number moving on. LENGTH above 52, or one that does
not fit the command, is BAD_LENGTH, a FLAGS bit above 2 BAD_FIELD, an absent unit NOT_PRESENT, a mode the command is
not listed for MODE. -/
def Obligations.MailboxEntryRefused : Prop :=
  (∀ (i : Instr) (s : State) (c : CmdSpec) (e : Entry), mailCommand i = some (c, e) → s.awake → s.dev.mustWait c e = false →
      s.behind e.via = false → (s.dev.placeInput e).holds c.opcode e = true → (s.dev.placeInput e).outOfSequence e = none →
      (s.dev.entered e).entryCheck c e (unitThere i s.dev) ≠ stOK →
      s.answers i c e ((s.dev.entered e).no ((s.dev.entered e).entryCheck c e (unitThere i s.dev))))
  ∧ (∀ (d : Device) (c : CmdSpec) (e : Entry) (p : Bool), 8 ≤ e.flags.toNat → d.entryCheck c e p = 0x0103)
  ∧ (∀ (d : Device) (c : CmdSpec) (e : Entry) (p : Bool), e.flags.toNat < 8 → e.tailZero = true → 52 < e.length.toNat →
      d.entryCheck c e p = 0x0102)
  ∧ (∀ (d : Device) (c : CmdSpec) (e : Entry), e.flags.toNat = 0 → e.tailZero = true → e.length.toNat ≤ 52 →
      d.entryCheck c e false = 0x0106)
  ∧ (∀ (d : Device) (c : CmdSpec) (e : Entry), e.flags.toNat = 0 → e.tailZero = true → c.minLen ≤ e.length.toNat → e.length.toNat ≤ c.maxLen →
      c.maxLen ≤ 52 →
      c.needsIn = false → c.needsOut = false → c.modes.contains d.mode = false → d.entryCheck c e true = 0x0402)
  ∧ (∀ (d : Device) (c : CmdSpec) (e : Entry), e.flags.toNat = 0 → e.tailZero = true → e.length.toNat ≤ 52 → c.needsIn = false →
      c.needsOut = false → (e.length.toNat < c.minLen ∨ c.maxLen < e.length.toNat) → d.entryCheck c e true = 0x0102)

/-- A register field reads back what was written, and no other field or part of the device changes (R13, R14). Writing a
field of a register makes that field read the written value modulo its width, leaves every field that shares no bit
with it, every other register, both memories and every other part of the device as they were. -/
def Obligations.RegisterFieldsReadBack : Prop :=
  (∀ (d : Device) (f : Fld) (ix : List Nat) (v : Nat), f.lo + f.width ≤ 64 → (d.put f ix v).get f ix = v % 2 ^ f.width)
  ∧ (∀ (d : Device) (f g : Fld) (ix : List Nat) (v : Nat), f.lo + f.width ≤ 64 → g.reg = f.reg →
      (f.lo + f.width ≤ g.lo ∨ g.lo + g.width ≤ f.lo) → (d.put f ix v).get g ix = d.get g ix)
  ∧ (∀ (d : Device) (f : Fld) (r : Reg) (ix jx : List Nat) (v : Nat), r.addr jx ≠ f.reg.addr ix →
      (d.put f ix v).rd r jx = d.rd r jx)
  ∧ (∀ (d : Device) (f : Fld) (ix : List Nat) (v : Nat), (d.put f ix v).hbm = d.hbm ∧ (d.put f ix v).hostMem = d.hostMem
      ∧ (d.put f ix v).ctl = d.ctl ∧ (d.put f ix v).dlv = d.dlv ∧ (d.put f ix v).tim = d.tim ∧ (d.put f ix v).prt = d.prt
      ∧ (d.put f ix v).mot = d.mot ∧ (d.put f ix v).hst = d.hst ∧ (d.put f ix v).sec = d.sec ∧ (d.put f ix v).pow = d.pow)

/-- HBM and host memory read back what was written and stay in canonical form (R31, R313, R432, R436). After a write of
bytes to HBM or host memory, each written byte reads as written and every byte outside the range reads as before;
memories whose entries are rising and never equal to the fill stay so through writes, wipes and copies. -/
def Obligations.MemoriesReadBack : Prop :=
  (∀ (d : Device) (a i : Nat) (bs : List Byte), i < bs.length → (d.hbmWrite a bs).hbmByte (a + i) = bs.getD i 0)
  ∧ (∀ (d : Device) (a b : Nat) (bs : List Byte), (b < a ∨ a + bs.length ≤ b) → (d.hbmWrite a bs).hbmByte b = d.hbmByte b)
  ∧ (∀ (d : Device) (a i : Nat) (bs : List Byte), i < bs.length → (d.hostWrite a bs).hostByte (a + i) = bs.getD i 0)
  ∧ (∀ (d : Device) (a b : Nat) (bs : List Byte), (b < a ∨ a + bs.length ≤ b) → (d.hostWrite a bs).hostByte b = d.hostByte b)
  ∧ (∀ (m src : Sparse Byte) (a b n : Nat) (bs : List Byte) (fill : Byte), Sparse.wf fill m = true →
      Sparse.wf fill (writeBytes m fill a bs) = true ∧ Sparse.wf fill (wipeRange m a n) = true
      ∧ Sparse.wf fill (copySparse src m fill a b n) = true)
  ∧ (∀ (m src : Sparse Byte) (fill : Byte) (a b n k : Nat), Sparse.wf fill src = true → k < n →
      Sparse.get fill (b + k) (copySparse src m fill a b n) = Sparse.get fill (a + k) src)

/-- Ringing and clearing a bootstrap mailbox (R52). While the host reaches BAR0 and the device is awake: setting RING
alone while RING or DONE is 1 changes nothing; setting both DONE and RING while RING is 0 clears DONE and sets RING;
setting RING with RING and DONE 0 sets RING and the bit of the mailbox in RM_BMB_PEND; and while RING is 1 a host
write to the slot changes nothing. -/
def Obligations.BootstrapRing : Prop :=
  (∀ (s : State) (n : Fin 8), s.awake → s.dev.hostReach = true → s.dev.flag R.BMB_CTL_RING [n.val] = true →
      s.does (.bmbRing n false) s.dev ∧ s.does (.bmbRing n true) s.dev)
  ∧ (∀ (s : State) (n : Fin 8), s.awake → s.dev.hostReach = true → s.dev.flag R.BMB_CTL_DONE [n.val] = true →
      s.does (.bmbRing n false) s.dev)
  ∧ (∀ (s : State) (n : Fin 8), s.awake → s.dev.hostReach = true → s.dev.flag R.BMB_CTL_RING [n.val] = false →
      ∃ d, s.does (.bmbRing n true) d ∧ d.flag R.BMB_CTL_RING [n.val] = true ∧ d.flag R.BMB_CTL_DONE [n.val] = false)
  ∧ (∀ (s : State) (n : Fin 8), s.awake → s.dev.hostReach = true → s.dev.flag R.BMB_CTL_RING [n.val] = false →
      s.dev.flag R.BMB_CTL_DONE [n.val] = false →
      ∃ d, s.does (.bmbRing n false) d ∧ d.flag R.BMB_CTL_RING [n.val] = true ∧ d.flag R.RM_IRQ_PEND_BMB [] = true
        ∧ bit (d.get R.RM_BMB_PEND_PEND []) n.val = true)
  ∧ (∀ (s : State) (n : Fin 8), s.awake → s.dev.hostReach = true → s.dev.flag R.BMB_CTL_RING [n.val] = false →
      ∃ d, s.does (.bmbDoneClear n) d ∧ d.flag R.BMB_CTL_DONE [n.val] = false ∧ d.flag R.BMB_CTL_RING [n.val] = false)
  ∧ (∀ (d : Device) (n : Fin 8) (off : Nat) (bs : List Byte), d.flag R.BMB_CTL_RING [n.val] = true →
      d.slotWrite n.val off bs true = d)

/-- System commands, mailbox group 0x00 (R55, R56, R57, R68, R142, R414, R432, R457, R475). NOP echoes its inline payload;
IDENTIFY reads the identity, firmware and mode registers; SET_SDN, admitted in STARTUP alone, sets the device number;
MEM_ALLOC gives the lowest free aligned stretch of the general region, rounded up to 64 KiB, or NO_SPACE; MEM_FREE
takes an allocation nothing refers to out of the list; MEM_QUERY and LINK_QUERY report memory and link; OPEN_MAILBOX
and CLOSE_MAILBOX open and close a mailbox with its two queues; RESERVE_QUEUES records the range; SET_MODE makes one
of the allowed changes of mode; RECOVER is taken up once the fault record of its scope is consumed; OPEN_SYSTEM_QUEUE
opens Q0 or Q1. Except for the effects named, the registers and memories stay as they were. -/
def Obligations.SystemCommands : Prop :=
  (∀ (s : State) (e : Entry), s.gives (.nop e) nopSpec e true (fun d r =>
    r.status = stOK ∧ r.dev = d ∧ r.payload = e.body.take (min e.length.toNat 32)))
  ∧ (∀ (s : State) (e : Entry), s.gives (.identify e) identifySpec e true (fun d r => r.status = stOK ∧ r.dev = d
      ∧ r.payload = layout [(2, d.get R.ID_DEVICE_PART []), (1, d.get R.ID_DEVICE_STEP []), (1, d.lifecycle),
          (4, (d.rd R.ID_PRESENT []).toNat), (4, d.sec.fwVersion), (1, d.get R.RM_STATUS_OWNER_FW []), (1, d.mode), (2, d.sdn),
          (2, ((List.range 256).filter (fun k => (d.mbox k).isOpen)).length), (2, d.get R.RM_WDT_CTL_TIMEOUT [])]
        ++ leBytes 8 (d.rd R.SEC_FWHASH [0]).toNat ++ zeros 4))
  ∧ (∀ (s : State) (e : Entry), s.gives (.setSdn e) setSdnSpec e true (fun d r =>
      r.status = stOK ∧ d.mode = 0 ∧ r.dev.sdn = e.u 12 2 % 2 ^ 16 ∧ r.dev.ctl = d.ctl ∧ r.dev.hbm = d.hbm
        ∧ ∀ q jx, q.addr jx ≠ R.SEC_SDN.addr [] → r.dev.rd q jx = d.rd q jx))
  ∧ (∀ (s : State) (e : Entry) (off : Nat), firstFit (roundUp (e.u 12 8) 65536) (2 ^ e.u 20 1) genBase s.dev.ctl.allocs = some off →
      e.u 12 8 ≠ 0 → 16 ≤ e.u 20 1 → e.u 20 1 ≤ 30 → e.u 21 1 ≤ 3 → e.u 22 1 ≤ 1 → e.u 23 41 = 0 →
      s.gives (.memAlloc e) memAllocSpec e true (fun d r =>
        r.status = (if e.u 22 1 = 1 then stACCEPTED else stOK) ∧ r.dev.regs = d.regs ∧ r.dev.hbm = d.hbm
        ∧ r.payload = allocPayload { handle := d.ctl.nextHandle, off := off, size := roundUp (e.u 12 8) 65536, kind := e.u 21 1 }
        ∧ r.dev.ctl.allocs = insertAlloc { handle := d.ctl.nextHandle, off := off, size := roundUp (e.u 12 8) 65536, kind := e.u 21 1 }
            d.ctl.allocs))
  ∧ (∀ (s : State) (e : Entry), firstFit (roundUp (e.u 12 8) 65536) (2 ^ e.u 20 1) genBase s.dev.ctl.allocs = none →
      e.u 12 8 ≠ 0 → 16 ≤ e.u 20 1 → e.u 20 1 ≤ 30 → e.u 21 1 ≤ 3 → e.u 22 1 ≤ 1 → e.u 23 41 = 0 →
      s.gives (.memAlloc e) memAllocSpec e true (fun d r => r = d.no stNO_SPACE))
  ∧ (∀ (s : State) (e : Entry) (x : Alloc), s.dev.alloc (e.u 12 4) = some x → e.u 16 48 = 0 →
      (s.dev.entered e).mayAct e.via (.alloc x.handle) = true → (s.dev.entered e).referred x = false →
      s.gives (.memFree e) memFreeSpec e true (fun d r =>
        r.status = stOK ∧ r.dev.ctl.allocs = d.ctl.allocs.filter (fun y => decide (y ≠ x)) ∧ r.dev.ownerOf (.alloc x.handle) = none
        ∧ r.dev.regs = d.regs ∧ r.dev.hbm = d.hbm))
  ∧ (∀ (s : State) (e : Entry), s.gives (.memQuery e) memQuerySpec e true (fun d r => r.status = stOK ∧ r.dev = d
      ∧ r.payload = layout [(8, (freeGaps genBase d.ctl.allocs).foldl (· + ·) 0), (8, (freeGaps genBase d.ctl.allocs).foldl max 0),
          (4, d.ctl.allocs.length), (4, d.hst.corrTotal), (4, d.hst.uncorrTotal), (1, d.get R.HBM_STAT_TEMP [0]),
          (1, d.get R.HBM_STAT_TEMP [1])]))
  ∧ (∀ (s : State) (e : Entry), s.gives (.linkQuery e) linkQuerySpec e true (fun d r => r.status = stOK
      ∧ r.payload = layout [(1, d.get R.HOST_LINK_SPEED []), (1, d.get R.HOST_LINK_WIDTH []), (2, d.get R.HOST_LINK_FLIT []),
          (2, d.hst.mps), (2, d.hst.mrrs), (4, d.hst.retrainTotal + d.get R.HOST_LINK_RETRAINS []), (4, d.hst.aer.count .correctable),
          (4, d.hst.aer.length - d.hst.aer.count .correctable), (4, d.get R.HOST_AP_BASE_BASE [])]
      ∧ r.dev.get R.HOST_LINK_RETRAINS [] = 0))
  ∧ (∀ (s : State) (e : Entry), 1 ≤ e.u 12 2 → e.u 12 2 ≤ 255 → 4 ≤ e.u 14 1 → e.u 14 1 ≤ 12 → e.u 15 1 = 0 → e.u 16 8 % 4096 = 0 →
      e.u 24 8 % 4096 = 0 → vectorFits (e.u 32 2) = true → e.u 34 30 = 0 → (e.u 12 2 = 1 → ∃ n, e.via = .boot n) →
      ((s.dev.entered e).mbox (e.u 12 2)).isOpen = false → ((s.dev.entered e).ctx (2 * e.u 12 2)).kind = 0 →
      ((s.dev.entered e).ctx (2 * e.u 12 2 + 1)).kind = 0 →
      (s.dev.entered e).queueWindow (e.u 16 8) (2 ^ e.u 14 1 * 64) = true → (s.dev.entered e).queueWindow (e.u 24 8) (2 ^ e.u 14 1 * 64) = true →
      s.gives (.openMailbox e) openMailboxSpec e true (fun _ r => r.status = stOK
        ∧ r.payload = layout [(4, 2 * e.u 12 2), (4, 2 * e.u 12 2 + 1), (8, 128 * e.u 12 2)]
        ∧ r.dev.mbox (e.u 12 2) = { isOpen := true, expected := none }
        ∧ (r.dev.ctx (2 * e.u 12 2)).kind = 1 ∧ (r.dev.ctx (2 * e.u 12 2)).ring = e.u 16 8
        ∧ (r.dev.ctx (2 * e.u 12 2 + 1)).kind = 2 ∧ (r.dev.ctx (2 * e.u 12 2 + 1)).ring = e.u 24 8))
  ∧ (∀ (s : State) (e : Entry), 1 ≤ e.u 12 2 → e.u 12 2 ≤ 255 → (∀ k, e.via = .queue k → k.val ≠ e.u 12 2) →
      ((s.dev.entered e).mbox (e.u 12 2)).isOpen = true → e.u 14 50 = 0 → (s.dev.entered e).mayAct e.via (.queue (2 * e.u 12 2)) = true →
      s.gives (.closeMailbox e) closeMailboxSpec e true (fun d r => r.status = stOK ∧ (r.dev.mbox (e.u 12 2)).isOpen = false
        ∧ r.dev.regs = d.regs ∧ r.dev.hbm = d.hbm))
  ∧ (∀ (s : State) (e : Entry), 1024 ≤ e.u 12 4 → e.u 12 4 + e.u 16 4 ≤ 1048576 → e.u 16 4 ≠ 0 → e.u 20 1 = 0 → e.u 21 43 = 0 →
      (∀ x ∈ (s.dev.entered e).ctl.reserved, overlaps x.1 x.2.1 (e.u 12 4) (e.u 16 4) = true → x.2.2 = e.via.owner) →
      s.gives (.reserveQueues e) reserveQueuesSpec e true (fun d r => r.status = stOK
        ∧ (e.u 12 4, e.u 16 4, e.via.owner) ∈ r.dev.ctl.reserved ∧ r.dev.regs = d.regs ∧ r.dev.dlv = d.dlv))
  ∧ (∀ (s : State) (e : Entry), e.u 12 1 ≤ 3 → e.u 13 51 = 0 → modeAllowed s.dev.mode (e.u 12 1) = true →
      (s.dev.mode = 3 → ∀ b, b < 15 → s.dev.boothPresent b = true → s.dev.boothDown b = false) →
      (∀ n, n < 16 → s.dev.txState n = 0 ∨ 3 < s.dev.txState n) →
      s.gives (.setMode e) setModeSpec e true (fun d r => r.status = stOK ∧ r.dev.mode = e.u 12 1 ∧ r.dev.ctl = d.ctl ∧ r.dev.hbm = d.hbm))
  ∧ (∀ (s : State) (e : Entry), e.u 12 1 = 2 → e.u 14 50 = 0 → (s.dev.entered e).unconsumed 3 14 0 = false → e.via.principal = true →
      s.gives (.recover e) recoverSpec e true (fun _ r => r.status = stACCEPTED ∧ r.work = [2, 0]))
  ∧ (∀ (s : State) (e : Entry), e.u 12 1 = 0 → e.u 13 1 ≤ 7 → e.u 14 50 = 0 → s.dev.lent (e.u 13 1) = false →
      s.dev.portPresent (e.u 13 1) = true → (s.dev.entered e).mayPort e.via (e.u 13 1) = true → (s.dev.entered e).unconsumed 2 (e.u 13 1) 0 = false →
      s.gives (.recover e) recoverSpec e true (fun d r => r.status = stACCEPTED ∧ r.work = [0, e.u 13 1]
        ∧ r.dev = (d.recoverScope 0 (e.u 13 1)).foldl Device.beginWipe d))
  ∧ (∀ (s : State) (e : Entry), e.u 12 1 ≤ 1 → 4 ≤ e.u 13 1 → e.u 13 1 ≤ 24 → vectorFits (e.u 14 2) = true → e.u 16 8 % 4096 = 0 →
      e.u 24 8 % 64 = 0 → e.u 37 1 = 0 → e.u 40 24 = 0 → ((s.dev.entered e).ctx (e.u 12 1)).kind = 0 →
      (s.dev.entered e).netAdmits false true .queue (e.u 16 8) (2 ^ e.u 13 1 * (if e.u 12 1 = 0 then 128 else 64)) = true →
      (e.u 24 8 ≠ 0 → (s.dev.entered e).netAdmits false true .queue (e.u 24 8) 16 = true) →
      s.gives (.openSystemQueue e) openSystemQueueSpec e true (fun _ r => r.status = stOK ∧ r.payload = leBytes 8 (64 * e.u 12 1)
        ∧ (r.dev.ctx (e.u 12 1)).kind = (if e.u 12 1 = 0 then 6 else 5) ∧ (r.dev.ctx (e.u 12 1)).ring = e.u 16 8))

/-- Watchdog, ECC, register writes, bootstrap completion, long commands of the system group and the fault log (R45, R46,
R48, R49, R50, R51, R17, R140, R142, R432). A write of TIMEOUT is clamped and refused by LOCK; LOCK stays; 0x5A then
0xA5 is a kick, another write a bad kick; half the timeout without a kick sets EARLY, the whole of it is the device
fault WATCHDOG; an uncorrectable ECC error is the device fault CTRL_UECC; a lockstep mismatch is a device fault; an
admitted register write of the Ringmaster reaches the register; RM_BMB_DONE copies status and tag, clears RING and
sets DONE; a zero fill and a recovery answer the command that waits; a fault record leaves the log for Q0; the counter
sample clears the read-to-clear counter of the link. -/
def Obligations.RingmasterRows : Prop :=
  (∀ (s : State) (t : Nat), s.awake → s.dev.flag R.RM_WDT_CTL_LOCK [] = false →
      s.does (.wdtCtlWrite t) ((s.dev.wake 14).put R.RM_WDT_CTL_TIMEOUT [] (clamp 1 10000 (t % 2 ^ 14))))
  ∧ (∀ (s : State) (t : Nat), s.awake → s.dev.flag R.RM_WDT_CTL_LOCK [] = true → s.does (.wdtCtlWrite t) (s.dev.wake 14))
  ∧ (∀ s : State, s.awake → ∃ d, s.does .wdtLock d ∧ d.flag R.RM_WDT_CTL_LOCK [] = true
      ∧ d.get R.RM_WDT_CTL_TIMEOUT [] = (if s.dev.flag R.RM_WDT_CTL_LOCK [] then s.dev.get R.RM_WDT_CTL_TIMEOUT []
          else clamp 1 10000 (s.dev.get R.RM_WDT_CTL_TIMEOUT [])))
  ∧ (∀ s : State, s.awake → s.does (.wdtKickWrite 0x5A) ((s.dev.wake 14).setCtl { s.dev.ctl with kickHalf := true }))
  ∧ (∀ s : State, s.awake → s.dev.ctl.kickHalf = true → 10 * s.dev.ctl.wdtNs < 11 * s.dev.wdtSpan →
      s.does (.wdtKickWrite 0xA5) ((s.dev.wake 14).setCtl { s.dev.ctl with kickHalf := false }).wdtRestart)
  ∧ (∀ (s : State) (key : Byte), s.awake → key ≠ 0x5A → (key ≠ 0xA5 ∨ s.dev.ctl.kickHalf = false) →
      s.does (.wdtKickWrite key) (((s.dev.wake 14).setCtl { s.dev.ctl with kickHalf := false }).bump R.RM_WDT_STAT_BAD_KICK []))
  ∧ (∀ s : State, s.awake → s.dev.ctl.wdtHalf = false → 9 * s.dev.wdtSpan ≤ 20 * s.dev.ctl.wdtNs →
      s.does .watchdogEarly (((s.dev.setCtl { s.dev.ctl with wdtHalf := true }).setFlag R.RM_WDT_STAT_EARLY [] true).setFlag
        R.RM_IRQ_PEND_WDT_EARLY [] true))
  ∧ (∀ s : State, s.awake → 9 * s.dev.wdtSpan ≤ 10 * s.dev.ctl.wdtNs → s.does .watchdogExpiry (s.dev.deviceFault 2 false))
  ∧ (∀ s : State, s.awake → s.does (.ringmasterEccError false) (s.dev.bump R.RM_ECC_CORR [])
      ∧ s.does (.ringmasterEccError true) (s.dev.deviceFault 3 false))
  ∧ (∀ (s : State) (addr : Nat) (h : Half) (v : Word), s.awake → s.dev.ready = true →
      s.does (.registerWrite false addr h v true) (s.dev.deviceFault 1 false))
  ∧ (∀ (s : State) (n : Fin 16) (v : Word), s.awake → s.dev.ready = true →
      s.does (.registerWrite false (R.CAL_CNT.addr [n.val]) .full v false)
        (s.dev.ringmasterStore (R.CAL_CNT.addr [n.val]) .full v))
  ∧ (∀ (s : State) (addr : Nat) (h : Half) (v : Word), s.awake → s.dev.ready = true → s.dev.hostReach = false →
      s.does (.registerWrite true addr h v false) s.dev)
  ∧ (∀ (s : State) (n : Fin 8), s.awake → s.dev.flag R.BMB_CTL_RING [n.val] = true → s.dev.boothState 14 ≠ 0 →
      ∃ d, s.does (.bmbComplete n) d ∧ d.flag R.BMB_CTL_RING [n.val] = false ∧ d.flag R.BMB_CTL_DONE [n.val] = true
        ∧ d.get R.BMB_CTL_STATUS [n.val] = fieldAt (s.dev.slot n.val) 6 2 ∧ d.get R.BMB_CTL_TAG [n.val] = fieldAt (s.dev.slot n.val) 2 2
        ∧ d.hbm = s.dev.hbm ∧ d.hostMem = s.dev.hostMem ∧ d.ctl = s.dev.ctl)
  ∧ (∀ (s : State) (h : Nat) (x : Alloc), s.awake → s.dev.working 0x0003 [h] = true → s.dev.alloc h = some x →
      s.does (.memAllocFillDone h)
        (({ s.dev with hbm := wipeRange s.dev.hbm x.off x.size, hst := { s.dev.hst with
              badWords := s.dev.hst.badWords.filter (fun w => !overlaps (w * 8) 8 x.off x.size) } } : Device).finish
          0x0003 [h] stOK (allocPayload x)))
  ∧ (∀ (s : State) (i : Nat), s.awake → s.dev.working 0x0009 [0, i] = true →
      s.does (.recoverDone 0 i) ((s.dev.recoverPort i).finish 0x0009 [0, i] stOK []))
  ∧ (∀ (s : State) (i : Nat), s.awake → s.dev.working 0x0009 [1, i] = true →
      s.does (.recoverDone 1 i) ((s.dev.engineRecover i).finish 0x0009 [1, i] stOK []))
  ∧ (∀ s : State, s.awake → s.dev.working 0x0009 [2, 0] = true → s.dev.mordantFlush.2 = true →
      ¬ (s.dev.mordantFlush.1.boothState 12 = 1 ∧ s.dev.mordantFlush.1.flag R.MSV_STAT_TAKEN [] = true) →
      s.does (.recoverDone 2 0) (s.dev.mordantFlush.1.recoverDevice.finish 0x0009 [2, 0] stOK []))
  ∧ (∀ (s : State) (r : LogRec) (rest : List LogRec), s.awake → s.dev.ctl.logger.log = r :: rest → (s.dev.ctx 0).kind = 6 →
      (s.dev.ctx 0).error = false → r.parts.length ≤ s.dev.roomLeft 0 → ∃ d : Device,
      d = r.parts.foldl (fun (d : Device) b => (d.append 0 6 b).2) (s.dev.setLogger { s.dev.ctl.logger with log := rest })
      ∧ s.does .faultLogDrain (d.setLogger { d.ctl.logger with
          inQ0 := d.ctl.logger.inQ0.filter (fun e => !seq32Ge (d.ctx 0).cons e.2)
            ++ [(r, (d.ctx 0).prod + BitVec.ofNat 32 (d.hst.stalled.filter (fun s => decide (s.1 = 0))).length)] }))
  ∧ (∀ s : State, s.awake → s.dev.fwRuns = true → ∃ d, s.does .firmwareCounterSample d ∧ d.get R.HOST_LINK_RETRAINS [] = 0)

/-- Calliope: loading a roll, control writes, entering a step, and the end of a wait (R34, R74, R75, R79, R80, R84, R88,
R90). CAL_LD_CTL.GO on an idle loader and an image in the region starts the load into the standby bank, whose VALID
falls, and is refused PENDING, NOT_PRESENT or SOURCE otherwise; HALT halts a running or waiting sequencer, RESUME puts
a halted one back, CLEAR brings a halted or faulted one to IDLE and clears CAL_FAULT; CAL_ATTACH is written on CAL12
to CAL15 in IDLE or HALTED; CAL_TREL sets a time register to TT plus the value; a running sequencer enters its step by
issuing its words in table order and then begins its wait; a TIME wait that holds and a timeout that has come leave
the step. -/
def Obligations.CalliopeRows : Prop :=
  (∀ (s : State) (n : Fin 16) (d : Device), s.awake → (s.dev.wake 14).put R.CAL_LD_CTL_SEQ [] n.val = d →
      d.flag R.CAL_LD_CTL_BUSY [] = false → d.swapPending n.val = false → d.seqFused n.val = false →
      d.imageInside (d.get R.CAL_LD_ADDR_ADDR []) = true →
      ∃ t, s.does (.calLoadGo n) t ∧ t.flag R.CAL_LD_CTL_BUSY [] = true ∧ t.flag R.CAL_STAT_LOADING [n.val] = true
        ∧ t.ctl.load = some (n.val, d.get R.CAL_LD_ADDR_ADDR [], d.standby n.val)
        ∧ t.flag (validFld (d.standby n.val)) [n.val] = false ∧ t.hbm = d.hbm ∧ t.hostMem = d.hostMem)
  ∧ (∀ (s : State) (n : Fin 16) (d : Device), s.awake → (s.dev.wake 14).put R.CAL_LD_CTL_SEQ [] n.val = d →
      d.flag R.CAL_LD_CTL_BUSY [] = false →
      (d.swapPending n.val = true → s.does (.calLoadGo n) (d.loadResult 4 0 false))
      ∧ (d.swapPending n.val = false → d.seqFused n.val = true → s.does (.calLoadGo n) (d.loadResult 5 0 false))
      ∧ (d.swapPending n.val = false → d.seqFused n.val = false → d.imageInside (d.get R.CAL_LD_ADDR_ADDR []) = false →
          s.does (.calLoadGo n) (d.loadResult 1 0 false)))
  ∧ (∀ (s : State) (n a : Nat) (bank : Bool), s.awake → s.dev.ctl.load = some (n, a, bank) → s.does .rollLoadDone (s.dev.loadEnd n a bank))
  ∧ (∀ (s : State) (n : Fin 16), s.awake → (n.val < 8 → s.dev.portPresent n.val = true) →
      ((s.dev.wake 14).seqState n.val = 1 ∨ (s.dev.wake 14).seqState n.val = 2) →
      s.does (.calHaltWrite n) (((s.dev.wake 14).setSeqState n.val 3).adoptSwap n.val))
  ∧ (∀ (s : State) (n : Fin 16), s.awake → (n.val < 8 → s.dev.portPresent n.val = true) → (s.dev.wake 14).seqState n.val = 3 →
      s.does (.calResumeWrite n) (if ((s.dev.wake 14).seq n.val).entered then (s.dev.wake 14).beginWait n.val
        else (s.dev.wake 14).setSeqState n.val 1))
  ∧ (∀ (s : State) (n : Fin 16), s.awake → (n.val < 8 → s.dev.portPresent n.val = true) →
      ((s.dev.wake 14).seqState n.val = 3 ∨ (s.dev.wake 14).seqState n.val = 4) →
      ∃ d, s.does (.calClearWrite n) d ∧ d.rd R.CAL_FAULT [n.val] = 0 ∧ (d.seq n.val).entered = false ∧ d.hbm = s.dev.hbm)
  ∧ (∀ (s : State) (n : Fin 16) (booths home : Nat), s.awake → 12 ≤ n.val → booths < 2 ^ 15 → home < 16 →
      ((s.dev.wake 14).seqState n.val = 0 ∨ (s.dev.wake 14).seqState n.val = 3) → (booths ≠ 0 → bit booths home = true) →
      s.does (.calAttachWrite n booths home)
        ((((s.dev.wake 14).put R.CAL_ATTACH_BOOTHS [n.val] booths).put R.CAL_ATTACH_HOME [n.val] home).showAttach))
  ∧ (∀ (s : State) (n : Fin 16) (booths home : Nat), s.awake → n.val < 12 → (n.val < 8 → s.dev.portPresent n.val = true) →
      s.does (.calAttachWrite n booths home) (s.dev.wake 14))
  ∧ (∀ (s : State) (n : Fin 16) (k : Fin 4) (v : Word), s.awake → (n.val < 8 → s.dev.portPresent n.val = true) →
      s.does (.calTrelWrite n k v) ((s.dev.wake 14).wr R.CAL_T [n.val, k.val] ((s.dev.wake 14).tt + v)))
  ∧ (∀ (s : State) (n : Fin 16) (st : Step), s.awake → s.dev.seqState n.val = 1 → s.dev.seqStep n.val = some st → st.swap = false →
      ∃ d, d = Device.issueWords n.val (s.dev.get R.CAL_STAT_PC [n.val]) (((s.dev.roll n.val).words.drop st.wbase).take st.wcount) 0
            (s.dev.setSeq n.val { s.dev.seq n.val with entered := true })
        ∧ (d.seqState n.val = 1 → s.does (.calliopeStepEntry n) (d.beginWait n.val))
        ∧ (d.seqState n.val ≠ 1 → s.does (.calliopeStepEntry n) d))
  ∧ (∀ (s : State) (n : Fin 16) (st : Step), s.awake → s.dev.seqState n.val = 2 → s.dev.seqStep n.val = some st → st.wkind = 3 →
      s.dev.waitHolds n.val st = true → s.does (.calTimeWaitExpire n) (s.dev.leaveStep n.val st false))
  ∧ (∀ (s : State) (n : Fin 16) (st : Step), s.awake → s.dev.seqState n.val = 2 → s.dev.seqStep n.val = some st → st.tout = true →
      ttGe s.dev.tt (s.dev.waitTarget n.val st) = true →
      s.does (.calTimeout n) (s.dev.leaveStep n.val st (!s.dev.waitHolds n.val st)))

/-- Curtain transactions: staging, opening, committing, cancelling, the check, the final sample and the adoption (R96,
R98, R99, R100, R102, R104, R106, R107, R108, R116, R117, R456). A write of CUR_STG_DATA, whole or of its upper half,
that passes is merged into the slot and answered STAGED, and one refused for the register changes only the response;
the lower half is held; OPEN empties a free slot, COMMIT starts the check of an open one or meets the exclusion,
CANCEL frees an open slot, aborts one that is armed and not yet sampled, and otherwise comes too late; the check ends
in an abort with the entry that failed or arms the slot with TT_c at least 64 ns away; a deadline without firing
aborts; the final sample marks the slot or aborts it; the adoption takes the next epoch number; the security unit
extends the digest by the first adopted transaction that waits. -/
def Obligations.CurtainRows : Prop :=
  (∀ (s : State) (n : Nat) (w : MaskedWrite) (v : Word), s.awake → s.dev.get R.CUR_STG_ADDR_TX [] = n →
      w = { addr := s.dev.get R.CUR_STG_ADDR_ADDR [], mask := s.dev.rd R.CUR_STG_MASK [], value := v } →
      s.dev.stageResult n w false = 0 →
      ∃ d, s.does (.curtainStage false v) d ∧ d.tx n = { s.dev.tx n with entries := mergeEntry w (s.dev.tx n).entries }
        ∧ d.get R.CUR_STG_RESP_RESULT [] = 0 ∧ d.ctl.stageLow = 0 ∧ d.hbm = s.dev.hbm ∧ d.hostMem = s.dev.hostMem)
  ∧ (∀ (s : State) (n : Nat) (w : MaskedWrite) (v : Word), s.awake → s.dev.get R.CUR_STG_ADDR_TX [] = n →
      w = { addr := s.dev.get R.CUR_STG_ADDR_ADDR [], mask := s.dev.rd R.CUR_STG_MASK [],
            value := v.extractLsb' 32 32 ++ BitVec.ofNat 32 s.dev.ctl.stageLow } →
      s.dev.stageResult n w false = 0 →
      ∃ d, s.does (.curtainStage true v) d ∧ d.tx n = { s.dev.tx n with entries := mergeEntry w (s.dev.tx n).entries }
        ∧ d.get R.CUR_STG_RESP_RESULT [] = 0 ∧ d.ctl.stageLow = 0 ∧ d.hbm = s.dev.hbm ∧ d.hostMem = s.dev.hostMem)
  ∧ (∀ (s : State) (r : Nat) (v : Word), s.awake →
      s.dev.stageResult (s.dev.get R.CUR_STG_ADDR_TX [])
        { addr := s.dev.get R.CUR_STG_ADDR_ADDR [], mask := s.dev.rd R.CUR_STG_MASK [], value := v } false = r →
      r = 1 ∨ r = 2 ∨ r = 3 →
      s.does (.curtainStage false v) (((s.dev.setCtl { s.dev.ctl with stageLow := 0 }).put R.CUR_STG_RESP_RESULT [] r).put
        R.CUR_STG_RESP_COUNT [] (s.dev.tx (s.dev.get R.CUR_STG_ADDR_TX [])).entries.length))
  ∧ (∀ (s : State) (v : BitVec 32), s.awake →
      s.does (.stageDataLowWrite v) (s.dev.setCtl { s.dev.ctl with stageLow := v.toNat }))
  ∧ (∀ (s : State) (n : Fin 16) (d : Device), s.awake → n ≠ 15 →
      (s.dev.wake 14).wr R.CUR_TX_CTL [n.val] ((s.dev.wake 14).rd R.CUR_TX_CTL [n.val]) = d →
      d.txState n.val = 0 ∨ d.txState n.val = 4 ∨ d.txState n.val = 5 →
      ∃ t, s.does (.curTxOpen n) t ∧ (t.tx n.val).entries = [] ∧ t.ctl = { d.ctl with txs := (d.setTx n.val {}).ctl.txs }
        ∧ t.rd R.CUR_TX_RESULT [n.val] = 0 ∧ t.rd R.CUR_TX_ADOPT [n.val] = 0 ∧ t.txState n.val = 1 ∧ t.hbm = d.hbm)
  ∧ (∀ (s : State) (n : Fin 16) (d : Device), s.awake → n ≠ 15 →
      (s.dev.wake 14).wr R.CUR_TX_CTL [n.val] ((s.dev.wake 14).rd R.CUR_TX_CTL [n.val]) = d → d.txState n.val = 1 →
      (d.txExcluded n.val = true → s.does (.curTxCommit n) (d.abortTx n.val 3))
      ∧ (d.txExcluded n.val = false → ∃ t, s.does (.curTxCommit n) t ∧ t.txState n.val = 2
          ∧ t.tx n.val = { d.tx n.val with src := 1, sampled := false, fired := false, passed := 0, failed := none }))
  ∧ (∀ (s : State) (n : Fin 16) (d : Device), s.awake → n ≠ 15 →
      (s.dev.wake 14).wr R.CUR_TX_CTL [n.val] ((s.dev.wake 14).rd R.CUR_TX_CTL [n.val]) = d →
      (d.txState n.val = 1 → s.does (.curTxCancel n) (((d.setTx n.val {}).clearStat n.val).showCurtain))
      ∧ (d.txState n.val = 3 → (d.tx n.val).sampled = false → s.does (.curTxCancel n) (d.abortTx n.val 7))
      ∧ (d.txState n.val = 2 ∨ (d.txState n.val = 3 ∧ (d.tx n.val).sampled = true) →
          s.does (.curTxCancel n) (d.setFlag R.CUR_TX_STAT_CANCEL_LATE [n.val] true)))
  ∧ (∀ s : State, s.awake → s.dev.ctl.bootPath = false → s.does (.curTxOpen 15) (s.dev.wake 14)
      ∧ s.does (.curTxCommit 15) (s.dev.wake 14) ∧ s.does (.curTxCancel 15) (s.dev.wake 14))
  ∧ (∀ (s : State) (n : Fin 16) (d : Device) (i r : Nat) (w : MaskedWrite) (b : Nat), s.awake →
      Device.judgeMany n.val (s.dev.tx n.val).entries.length s.dev = d → d.txState n.val = 2 → (d.tx n.val).failed = some (i, r) →
      (d.tx n.val).entries[i]? = some w → boothOf w.addr = some b →
      s.does (.curtainCheckDone n)
        (((d.put R.CUR_TX_STAT_ERR_INDEX [n.val] i).put R.CUR_TX_STAT_ERR_BOOTH [n.val] b).abortTx n.val r))
  ∧ (∀ (s : State) (n : Fin 16) (d : Device), s.awake →
      Device.judgeMany n.val (s.dev.tx n.val).entries.length s.dev = d → d.txState n.val = 2 → (d.tx n.val).failed = none →
      (d.adopting (d.tx n.val).entries).forbiddenCycle = none → d.txMode n.val = 0 →
      (d.pastDeadline n.val (d.tt + leadTime) = true → s.does (.curtainCheckDone n) (d.abortTx n.val 2))
      ∧ (d.pastDeadline n.val (d.tt + leadTime) = false → ∃ t, s.does (.curtainCheckDone n) t ∧ t.txState n.val = 3
          ∧ (t.tx n.val).ttc = d.tt + leadTime ∧ (t.tx n.val).entries = (d.tx n.val).entries))
  ∧ (∀ (s : State) (n : Fin 16), s.awake → s.dev.txState n.val = 3 → s.dev.txMode n.val = 2 → (s.dev.tx n.val).fired = false →
      s.dev.flag R.CUR_TX_CTL_DL_EN [n.val] = true →
      (0 < ttDiff s.dev.tt (s.dev.rd R.CUR_TX_DEADLINE [n.val]) → s.does (.curtainDeadlinePass n) (s.dev.abortTx n.val 2))
      ∧ (ttDiff s.dev.tt (s.dev.rd R.CUR_TX_DEADLINE [n.val]) ≤ 0 → s.does (.curtainDeadlinePass n) s.dev))
  ∧ (∀ (s : State) (n : Fin 16) (after : Device), s.awake → s.dev.txFixed n.val = true → (s.dev.tx n.val).sampled = false →
      ttGe (s.dev.tt + leadTime) (s.dev.tx n.val).ttc = true → s.dev.adopting (s.dev.tx n.val).entries = after →
      ((∀ w ∈ (s.dev.tx n.val).entries, unitReady s.dev after (s.dev.tx n.val).entries w = true) →
          s.does (.curtainFinalSample n) (s.dev.setTx n.val { s.dev.tx n.val with sampled := true }))
      ∧ ((∃ w ∈ (s.dev.tx n.val).entries, unitReady s.dev after (s.dev.tx n.val).entries w = false) →
          s.does (.curtainFinalSample n) (s.dev.abortTx n.val 3)))
  ∧ (∀ (s : State) (n : Fin 16), s.awake → s.dev.txFixed n.val = true → (s.dev.tx n.val).sampled = true →
      ttGe s.dev.tt (s.dev.tx n.val).ttc = true → (∀ m, m < 16 → s.dev.adoptsFirst m n.val = false) →
      s.does (.curtainAdopt n) (s.dev.adoptTx n.val))
  ∧ (∀ (s : State) (e : Nat) (ws : List MaskedWrite) (rest : List (Nat × List MaskedWrite)), s.awake → s.dev.sec.extend = (e, ws) :: rest →
      ∃ d, s.does .configDigestExtend d ∧ d.sec.extend = rest ∧ d.hbm = s.dev.hbm ∧ d.ctl = s.dev.ctl)
  ∧ (∀ s : State, s.awake → s.dev.sec.extend = [] → s.does .configDigestExtend s.dev)

/-- The BAR0 port of the Net table, and the digest of the table (R122, R129, R130, R98, R117). The port acts only where
the host reaches BAR0. UNLOCK compares the SHA-384 of the written key with the host key digest of the board: a match
unlocks, another key counts a failure, and after eight the port stays locked; while unlocked OPEN and COMMIT act on
TX15 and a write of NET_PORT_DATA stages an entry at the addressed table offset; a locked port does neither; CANCEL
cancels whatever UNLOCKED says, LOCK locks; the lower half of NET_PORT_DATA is held; NET_HASH takes the digest of the
table when one is due. -/
def Obligations.NetPortRows : Prop :=
  (∀ s : State, s.awake → s.dev.hostReach = true → s.dev.get R.NET_PORT_STAT_KEY_FAIL [] < 8 →
      (sha384 s.dev.hostKey = fit 48 s.dev.sec.hkeyHash → s.does .netPortUnlock (s.dev.setFlag R.NET_PORT_STAT_UNLOCKED [] true))
      ∧ (sha384 s.dev.hostKey ≠ fit 48 s.dev.sec.hkeyHash →
          s.does .netPortUnlock (s.dev.put R.NET_PORT_STAT_KEY_FAIL [] (s.dev.get R.NET_PORT_STAT_KEY_FAIL [] + 1))))
  ∧ (∀ s : State, s.awake → s.dev.hostReach = true → 8 ≤ s.dev.get R.NET_PORT_STAT_KEY_FAIL [] → s.does .netPortUnlock s.dev)
  ∧ (∀ s : State, s.awake → s.dev.hostReach = true → s.dev.flag R.NET_PORT_STAT_UNLOCKED [] = false → ∀ (high : Bool) (v : Word),
      s.does .netPortOpen s.dev ∧ s.does .netPortCommit s.dev ∧ s.does (.netPortStage high v) s.dev)
  ∧ (∀ s : State, s.awake → s.dev.hostReach = true → s.dev.flag R.NET_PORT_STAT_UNLOCKED [] = true →
      s.does .netPortOpen (s.dev.txOpen 15) ∧ s.does .netPortCommit (s.dev.txCommit 15 2))
  ∧ (∀ s : State, s.awake → s.dev.hostReach = true → s.does .netPortCancel (s.dev.txCancel 15)
      ∧ s.does .netPortLock (s.dev.setFlag R.NET_PORT_STAT_UNLOCKED [] false))
  ∧ (∀ (s : State) (w : MaskedWrite) (v : Word), s.awake → s.dev.hostReach = true → s.dev.flag R.NET_PORT_STAT_UNLOCKED [] = true →
      w = { addr := 0x0F700000 + s.dev.get R.NET_PORT_ADDR_OFFSET [] * 8, mask := s.dev.rd R.NET_PORT_MASK [], value := v } →
      s.dev.stageResult 15 w true = 0 →
      ∃ d, s.does (.netPortStage false v) d ∧ (d.tx 15).entries = mergeEntry w (s.dev.tx 15).entries
        ∧ d.get R.NET_PORT_STAT_STG_RESULT [] = 0 ∧ d.hbm = s.dev.hbm)
  ∧ (∀ (s : State) (w : MaskedWrite) (v : Word), s.awake → s.dev.hostReach = true → s.dev.flag R.NET_PORT_STAT_UNLOCKED [] = true →
      w = { addr := 0x0F700000 + s.dev.get R.NET_PORT_ADDR_OFFSET [] * 8, mask := s.dev.rd R.NET_PORT_MASK [],
            value := v.extractLsb' 32 32 ++ BitVec.ofNat 32 s.dev.ctl.netLow } →
      s.dev.stageResult 15 w true = 0 →
      ∃ d, s.does (.netPortStage true v) d ∧ (d.tx 15).entries = mergeEntry w (s.dev.tx 15).entries
        ∧ d.get R.NET_PORT_STAT_STG_RESULT [] = 0 ∧ d.hbm = s.dev.hbm)
  ∧ (∀ (s : State) (v : BitVec 32), s.awake → s.dev.hostReach = true →
      s.does (.netPortDataLowWrite v) (s.dev.setCtl { s.dev.ctl with netLow := v.toNat }))
  ∧ (∀ s : State, s.awake → s.dev.hostReach = false → ∀ (high : Bool) (v : Word) (w : BitVec 32),
      s.does .netPortUnlock s.dev ∧ s.does .netPortOpen s.dev ∧ s.does .netPortCommit s.dev ∧ s.does .netPortCancel s.dev
      ∧ s.does .netPortLock s.dev ∧ s.does (.netPortStage high v) s.dev ∧ s.does (.netPortDataLowWrite w) s.dev)
  ∧ (∀ s : State, s.awake → s.dev.sec.netHashDue = true → ∃ d, s.does .netHashUpdate d ∧ d.sec = { s.dev.sec with netHashDue := false }
      ∧ (∀ k, k < 6 → d.rd R.NET_HASH [k] = BitVec.ofNat 64 (fieldAt (sha384 s.dev.netImage) (8 * k) 8)) ∧ d.hbm = s.dev.hbm)
  ∧ (∀ s : State, s.awake → s.dev.sec.netHashDue = false → s.does .netHashUpdate s.dev)

/-- Lane transmit control and training (R149, R150, R153, R154, R155, R161, R169, R200, R201). For a lane that is present:
an admitted write of LN_CTL, LN_TX and LN_FFE reaches the lane, one the Net refuses is a violation and an access
fault; RATE is taken only while the lane is off; SWING and TX_IDLE read as written; a valid tap set is taken outside
training and any other write of LN_FFE sets CFG_BAD; START outside training enters WAIT with REQS 0 and the output on,
or fails with NO_TX; ABORT ends in OFF; a manual request is held or sent, DONE with AUTO 0 brings ADAPT to READY; a
training frame brings its response and readiness; TIMEOUT and a loss of signal of 1 us end training in FAIL. -/
def Obligations.LaneTrainingRows : Prop :=
  (∀ (s : State) (l : Fin 16) (v : Word), s.awake → s.dev.portPresent (l.val / 2) = true → s.dev.lanePresent l.val = true →
      R.LN_CTL_LOOP.of v ≠ 3 → s.laneDoes l (.laneCtlWrite l v) (((s.dev.wake (l.val / 2)).laneCtlWrite l.val v).afterLane l.val))
  ∧ (∀ (d : Device) (l : Fin 16) (v : Word), R.LN_CTL_RATE.of v ≠ d.get R.LN_CTL_RATE (lx l.val) →
      (d.flag R.LN_CTL_RX_EN (lx l.val) = true ∨ d.flag R.LN_CTL_TX_ON (lx l.val) = true →
        (d.laneCtlWrite l.val v).get R.LN_CTL_RATE (lx l.val) = d.get R.LN_CTL_RATE (lx l.val)
        ∧ (d.laneCtlWrite l.val v).flag R.LN_EVT_CFG_BAD (lx l.val) = true)
      ∧ (d.flag R.LN_CTL_RX_EN (lx l.val) = false → d.flag R.LN_CTL_TX_ON (lx l.val) = false → R.LN_CTL_RATE.of v ≤ 5 →
        (d.laneCtlWrite l.val v).get R.LN_CTL_RATE (lx l.val) = R.LN_CTL_RATE.of v))
  ∧ (∀ (s : State) (l : Fin 16) (v : Word), s.awake → s.dev.portPresent (l.val / 2) = true → s.dev.lanePresent l.val = true →
      R.LN_TX_SWING.of v ≤ s.dev.get R.NET_LN_SWING_MAX [l.val] →
      (R.LN_TX_TX_IDLE.of v = 1 → ∃ d, s.laneDoes l (.laneTxWrite l v) d ∧ d.get R.LN_TX_SWING (lx l.val) = R.LN_TX_SWING.of v
        ∧ d.flag R.LN_TX_TX_IDLE (lx l.val) = true)
      ∧ (R.LN_TX_TX_IDLE.of v = 0 → s.dev.flag R.NET_LN_TX_EN [l.val] = true → ∃ d, s.laneDoes l (.laneTxWrite l v) d
        ∧ d.get R.LN_TX_SWING (lx l.val) = R.LN_TX_SWING.of v ∧ d.flag R.LN_TX_TX_IDLE (lx l.val) = false))
  ∧ (∀ (s : State) (l : Fin 16) (v : Word), s.awake → s.dev.portPresent (l.val / 2) = true → s.dev.lanePresent l.val = true →
      s.dev.get R.NET_LN_SWING_MAX [l.val] < R.LN_TX_SWING.of v →
      s.laneDoes l (.laneTxWrite l v) (s.dev.violation (l.val / 2) 2 (R.LN_TX.addr (lx l.val)) v.toNat Src.ringmaster.code).accessFault)
  ∧ (∀ (s : State) (l : Fin 16) (v : Word) (t : List Int) (d : Device), s.awake → s.dev.portPresent (l.val / 2) = true →
      s.dev.lanePresent l.val = true → (List.range 5).map (fun i => sgn 8 (bits v.toNat (8 * i) 8)) = t →
      s.dev.wake (l.val / 2) = d →
      (d.training l.val = false → tapsValid t = true → s.laneDoes l (.laneFfeWrite l v) (d.setTaps l.val t))
      ∧ (d.training l.val = true ∨ tapsValid t = false →
          s.laneDoes l (.laneFfeWrite l v) (d.setFlag R.LN_EVT_CFG_BAD (lx l.val) true)))
  ∧ (∀ (s : State) (l : Fin 16) (d : Device), s.awake → s.dev.portPresent (l.val / 2) = true → s.dev.lanePresent l.val = true →
      (s.dev.wake (l.val / 2)).training l.val = false →
      (s.dev.wake (l.val / 2)).wr R.LN_TRAIN_CTL (lx l.val) ((s.dev.wake (l.val / 2)).rd R.LN_TRAIN_CTL (lx l.val)) = d →
      d.flag R.LN_TX_TX_IDLE (lx l.val) = false ∨ (d.txAdmitted l.val = true ∧ (d.lane l.val).cut = false) →
      ∃ t, s.laneDoes l (.lnTrainStart l) t ∧ t.trainState l.val = 1 ∧ t.get R.LN_TRAIN_STAT_REQS (lx l.val) = 0
        ∧ t.flag R.LN_TX_TX_IDLE (lx l.val) = false ∧ (t.lane l.val).trainStart = d.tt)
  ∧ (∀ (s : State) (l : Fin 16) (d : Device), s.awake → s.dev.portPresent (l.val / 2) = true → s.dev.lanePresent l.val = true →
      (s.dev.wake (l.val / 2)).training l.val = false →
      (s.dev.wake (l.val / 2)).wr R.LN_TRAIN_CTL (lx l.val) ((s.dev.wake (l.val / 2)).rd R.LN_TRAIN_CTL (lx l.val)) = d →
      d.flag R.LN_TX_TX_IDLE (lx l.val) = true → (d.txAdmitted l.val = false ∨ (d.lane l.val).cut = true) →
      ∃ t, s.laneDoes l (.lnTrainStart l) t ∧ t.trainState l.val = 5 ∧ t.get R.LN_TRAIN_STAT_RESULT (lx l.val) = 5)
  ∧ (∀ (s : State) (l : Fin 16), s.awake → s.dev.portPresent (l.val / 2) = true → s.dev.lanePresent l.val = true →
      ∃ t, s.laneDoes l (.lnTrainAbort l) t ∧ t.trainState l.val = 0
        ∧ ((s.dev.wake (l.val / 2)).training l.val = true → t.get R.LN_TRAIN_STAT_RESULT (lx l.val) = 4))
  ∧ (∀ (s : State) (l : Fin 16) (w : BitVec 16), s.awake → s.dev.portPresent (l.val / 2) = true → s.dev.lanePresent l.val = true →
      ∃ t, s.laneDoes l (.lnTrainReqWrite l w) t ∧ t.get R.LN_TRAIN_REQ_REQ (lx l.val) = w.toNat
        ∧ ((s.dev.wake (l.val / 2)).flag R.LN_TRAIN_CTL_AUTO (lx l.val) = false → (s.dev.wake (l.val / 2)).trainState l.val = 2 →
            reqActive ((s.dev.wake (l.val / 2)).lane l.val).req = false →
            bits ((s.dev.wake (l.val / 2)).get R.LN_TRAIN_STAT_LAST_RESP (lx l.val)) 0 10 = 0 → (t.lane l.val).req = w.toNat))
  ∧ (∀ (s : State) (l : Fin 16), s.awake → s.dev.portPresent (l.val / 2) = true → s.dev.lanePresent l.val = true →
      (s.dev.wake (l.val / 2)).flag R.LN_TRAIN_CTL_AUTO (lx l.val) = false → (s.dev.wake (l.val / 2)).trainState l.val = 2 →
      ∃ t, s.laneDoes l (.lnTrainDoneWrite l) t ∧ t.trainState l.val = 3 ∧ (t.lane l.val).localDone = true)
  ∧ (∀ (s : State) (l : Fin 16) (w c : Word) (eye v : Nat), s.awake → s.dev.lanePresent l.val = true → s.dev.trainState l.val = 2 →
      word2Of w.toNat c.toNat (s.dev.lane l.val).word2 = some v →
      ∃ t, s.laneDoes l (.trainFrameRx l (~~~ trainPat ++ trainPat) w c eye) t
        ∧ t.get R.LN_TRAIN_STAT_LAST_RESP (lx l.val) = bits v 16 16 ∧ t.flag R.LN_TRAIN_STAT_FAR_READY (lx l.val) = bit v 14)
  ∧ (∀ (s : State) (l : Fin 16) (h : BitVec 128) (w c : Word) (eye : Nat), s.awake → s.dev.lanePresent l.val = true →
      s.dev.training l.val = false ∨ h ≠ ~~~ trainPat ++ trainPat → s.laneDoes l (.trainFrameRx l h w c eye) s.dev)
  ∧ (∀ (s : State) (l : Fin 16), s.awake → s.dev.lanePresent l.val = true → s.dev.training l.val = true →
      ((max 1 (s.dev.get R.LN_TRAIN_CTL_TIMEOUT (lx l.val)) * 1000000 * 65536 : Nat) ≤ ttDiff s.dev.tt (s.dev.lane l.val).trainStart →
        s.laneDoes l (.laneTrainTimeout l) (s.dev.trainEnd l.val 5 2))
      ∧ (ttDiff s.dev.tt (s.dev.lane l.val).trainStart < (max 1 (s.dev.get R.LN_TRAIN_CTL_TIMEOUT (lx l.val)) * 1000000 * 65536 : Nat) →
        s.laneDoes l (.laneTrainTimeout l) s.dev))
  ∧ (∀ (s : State) (l : Fin 16) (t : TT), s.awake → s.dev.lanePresent l.val = true → s.dev.training l.val = true →
      (s.dev.lane l.val).losSince = some t →
      (65536000 ≤ ttDiff s.dev.tt t → s.laneDoes l (.trainingLosFail l) (s.dev.trainEnd l.val 5 3))
      ∧ (ttDiff s.dev.tt t < 65536000 → s.laneDoes l (.trainingLosFail l) s.dev))

/-- Lane receiver: lock, loss of signal and of lock, wake, slip and alignment search, adaptation, histogram and PRBS
(R156, R157, R158, R159, R160, R162, R163, R164, R165, R170). For a lane that is present: TXPLL_LOCK needs TX_ON and a
RATE, CDR_LOCK needs RX_EN, a RATE and a signal and ends a loss of lock; an amplitude below the threshold for the
assert time sets LOS and LOS_SEEN and drops the CDR lock, one above threshold and hysteresis for 16 ns clears LOS; a
frequency error above 500 ppm or 64 failed words set LOL; a wake burst received sets WAKE_RX and one sent ends after
its 4,096 symbols; SLIP clears FOUND and, done, advances OFFSET; LOSE missed periods set ALIGN_LOST; the search timer
slips on or ends the search; CTLE and DFE settle unless frozen; a histogram window fills the bins and LN_LEVELS; the
PRBS checker counts errors once locked. -/
def Obligations.LaneReceiverRows : Prop :=
  (∀ (s : State) (l : Fin 16), s.awake → s.dev.lanePresent l.val = true → s.dev.flag R.LN_CTL_TX_ON (lx l.val) = true →
      s.dev.get R.LN_CTL_RATE (lx l.val) ≠ 0 →
      ∃ d, s.laneDoes l (.txpllLock l) d ∧ d.flag R.LN_STAT_TXPLL_LOCK (lx l.val) = true)
  ∧ (∀ (s : State) (l : Fin 16), s.awake → s.dev.lanePresent l.val = true →
      s.dev.flag R.LN_CTL_TX_ON (lx l.val) = false ∨ s.dev.get R.LN_CTL_RATE (lx l.val) = 0 → s.laneDoes l (.txpllLock l) s.dev)
  ∧ (∀ (s : State) (l : Fin 16), s.awake → s.dev.lanePresent l.val = true → s.dev.flag R.LN_CTL_RX_EN (lx l.val) = true →
      s.dev.get R.LN_CTL_RATE (lx l.val) ≠ 0 → s.dev.flag R.LN_STAT_LOS (lx l.val) = false →
      ∃ d, s.laneDoes l (.cdrLock l) d ∧ d.flag R.LN_STAT_CDR_LOCK (lx l.val) = true ∧ d.flag R.LN_STAT_LOL (lx l.val) = false
        ∧ (d.lane l.val).lolSince = none)
  ∧ (∀ (s : State) (l : Fin 16), s.awake → s.dev.lanePresent l.val = true → s.dev.flag R.LN_STAT_LOS (lx l.val) = true →
      s.laneDoes l (.cdrLock l) s.dev)
  ∧ (∀ (s : State) (l : Fin 16) (mv ns : Nat), s.awake → s.dev.lanePresent l.val = true →
      mv < s.dev.get R.LN_LOS_CFG_THRESH (lx l.val) * 10 → max 16 (s.dev.get R.LN_LOS_CFG_ASSERT_NS (lx l.val)) ≤ ns →
      s.dev.flag R.LN_STAT_LOS (lx l.val) = false →
      ∃ d, s.laneDoes l (.losAssert l mv ns) d ∧ d.flag R.LN_STAT_LOS (lx l.val) = true ∧ d.flag R.LN_EVT_LOS_SEEN (lx l.val) = true
        ∧ d.flag R.LN_STAT_CDR_LOCK (lx l.val) = false ∧ (d.lane l.val).losSince = some s.dev.tt
        ∧ ((s.dev.lane l.val).wasLocked = true → d.flag R.LN_STAT_RX_HOLD (lx l.val) = true))
  ∧ (∀ (s : State) (l : Fin 16) (mv ns : Nat), s.awake → s.dev.lanePresent l.val = true →
      s.dev.get R.LN_LOS_CFG_THRESH (lx l.val) * 10 ≤ mv ∨ ns < 16 → s.laneDoes l (.losAssert l mv ns) s.dev)
  ∧ (∀ (s : State) (l : Fin 16) (mv ns : Nat), s.awake → s.dev.lanePresent l.val = true →
      (s.dev.get R.LN_LOS_CFG_THRESH (lx l.val) + s.dev.get R.LN_LOS_CFG_HYST (lx l.val)) * 10 < mv → 16 ≤ ns →
      ∃ d, s.laneDoes l (.losDeassert l mv ns) d ∧ d.flag R.LN_STAT_LOS (lx l.val) = false
        ∧ d.flag R.LN_STAT_RX_HOLD (lx l.val) = false ∧ (d.lane l.val).losSince = none)
  ∧ (∀ (s : State) (l : Fin 16) (ppm words : Nat), s.awake → s.dev.lanePresent l.val = true → 500 < ppm ∨ 64 ≤ words →
      s.dev.flag R.LN_CTL_RX_EN (lx l.val) = true →
      ∃ d, s.laneDoes l (.lolAssert l ppm words) d ∧ d.flag R.LN_STAT_LOL (lx l.val) = true
        ∧ d.flag R.LN_EVT_LOL_SEEN (lx l.val) = true ∧ d.flag R.LN_STAT_CDR_LOCK (lx l.val) = false
        ∧ (d.lane l.val).lolSince = some ((s.dev.lane l.val).lolSince.getD s.dev.tt))
  ∧ (∀ (s : State) (l : Fin 16) (ppm words : Nat), s.awake → s.dev.lanePresent l.val = true → ppm ≤ 500 → words < 64 →
      s.laneDoes l (.lolAssert l ppm words) s.dev)
  ∧ (∀ (s : State) (l : Fin 16), s.awake → s.dev.lanePresent l.val = true → s.dev.flag R.LN_CTL_RX_EN (lx l.val) = true →
      s.dev.flag R.LN_STAT_RX_HOLD (lx l.val) = false →
      (s.dev.flag R.LN_EVT_WAKE_RX (lx l.val) = false →
        s.laneDoes l (.laneWakeRx l) ((s.dev.setFlag R.LN_EVT_WAKE_RX (lx l.val) true).fire 252))
      ∧ (s.dev.flag R.LN_EVT_WAKE_RX (lx l.val) = true →
        s.laneDoes l (.laneWakeRx l) (s.dev.setFlag R.LN_EVT_WAKE_RX (lx l.val) true)))
  ∧ (∀ (s : State) (l : Fin 16), s.awake → s.dev.lanePresent l.val = true → s.dev.flag R.LN_CTL_RX_EN (lx l.val) = false →
      s.laneDoes l (.laneWakeRx l) s.dev)
  ∧ (∀ (s : State) (l : Fin 16), s.awake → s.dev.lanePresent l.val = true → s.dev.flag R.LN_STAT_WAKE (lx l.val) = true →
      ((wordsTime (s.dev.get R.LN_CTL_RATE (lx l.val)) 64 : Nat) ≤ ttDiff s.dev.tt (s.dev.lane l.val).burstAt →
        ∃ d, s.laneDoes l (.wakeBurstDone l) d ∧ d.flag R.LN_STAT_WAKE (lx l.val) = false)
      ∧ (ttDiff s.dev.tt (s.dev.lane l.val).burstAt < (wordsTime (s.dev.get R.LN_CTL_RATE (lx l.val)) 64 : Nat) →
        s.laneDoes l (.wakeBurstDone l) s.dev))
  ∧ (∀ (s : State) (l : Fin 16), s.awake → s.dev.portPresent (l.val / 2) = true → s.dev.lanePresent l.val = true →
      (s.dev.wake (l.val / 2)).flag R.LN_ALIGN_CTL_SLIP_BUSY (lx l.val) = false →
      ∃ d, s.laneDoes l (.lnSlip l) d ∧ d.flag R.LN_ALIGN_CTL_SLIP_BUSY (lx l.val) = true
        ∧ d.flag R.LN_ALIGN_STAT_FOUND (lx l.val) = false ∧ (d.lane l.val).cmpCount = 0)
  ∧ (∀ (s : State) (l : Fin 16), s.awake → s.dev.lanePresent l.val = true → s.dev.flag R.LN_ALIGN_CTL_SLIP_BUSY (lx l.val) = true →
      ∃ d, s.laneDoes l (.laneSlipDone l) d ∧ d.flag R.LN_ALIGN_CTL_SLIP_BUSY (lx l.val) = false
        ∧ d.get R.LN_ALIGN_STAT_OFFSET (lx l.val) = (s.dev.get R.LN_ALIGN_STAT_OFFSET (lx l.val) + 1) % 64
        ∧ d.flag R.LN_ALIGN_STAT_FOUND (lx l.val) = false)
  ∧ (∀ (s : State) (l : Fin 16) (d : Device), s.awake → s.dev.lanePresent l.val = true → s.dev.countMisses l.val = d →
      d.flag R.LN_ALIGN_STAT_FOUND (lx l.val) = true →
      (max 1 (d.get R.LN_ALIGN_CTL_LOSE (lx l.val)) ≤ (d.lane l.val).missed →
        s.laneDoes l (.alignLost l) ((d.setFlag R.LN_EVT_ALIGN_LOST (lx l.val) true).clearFound l.val))
      ∧ ((d.lane l.val).missed < max 1 (d.get R.LN_ALIGN_CTL_LOSE (lx l.val)) → s.laneDoes l (.alignLost l) d))
  ∧ (∀ (s : State) (l : Fin 16) (x : Search), s.awake → s.dev.lanePresent l.val = true → (s.dev.lane l.val).search = some x →
      ((x.limitUs * 65536000 : Nat) ≤ ttDiff s.dev.tt x.start → s.laneDoes l (.alignSearchTimer l) (s.dev.searchEnd l.val 0x0411)))
  ∧ (∀ (s : State) (l : Fin 16), s.awake → s.dev.lanePresent l.val = true → (s.dev.lane l.val).search = none →
      s.laneDoes l (.alignSearchTimer l) s.dev)
  ∧ (∀ (s : State) (l : Fin 16) (ctle : Nat) (dfe : List Byte), s.awake → s.dev.lanePresent l.val = true →
      s.dev.flag R.LN_STAT_CDR_LOCK (lx l.val) = true →
      ∃ d, s.laneDoes l (.adaptOk l ctle dfe) d ∧ d.flag R.LN_RX_EQ_ADAPT_OK (lx l.val) = true
        ∧ (s.dev.flag R.LN_RX_EQ_CTLE_FRZ (lx l.val) = true → d.get R.LN_RX_EQ_CTLE (lx l.val) = s.dev.get R.LN_RX_EQ_CTLE (lx l.val))
        ∧ (s.dev.flag R.LN_RX_EQ_CTLE_FRZ (lx l.val) = false → d.get R.LN_RX_EQ_CTLE (lx l.val) = ctle % 2 ^ R.LN_RX_EQ_CTLE.width)
        ∧ (s.dev.flag R.LN_RX_EQ_DFE_FRZ (lx l.val) = false → (d.lane l.val).dfe = fit 12 dfe))
  ∧ (∀ (s : State) (l : Fin 16), s.awake → s.dev.portPresent (l.val / 2) = true → s.dev.lanePresent l.val = true →
      (s.dev.wake (l.val / 2)).flag R.LN_HIST_CTL_BUSY (lx l.val) = false →
      ∃ d, s.laneDoes l (.lnHistStart l) d ∧ d.flag R.LN_HIST_CTL_BUSY (lx l.val) = true
        ∧ d.get R.LN_HIST_CTL_WIN (lx l.val) = clamp 10 30 (s.dev.get R.LN_HIST_CTL_WIN (lx l.val)))
  ∧ (∀ (s : State) (l : Fin 16) (low high : List (BitVec 32)) (inner : List (List (BitVec 32))), s.awake →
      s.dev.lanePresent l.val = true → s.dev.flag R.LN_HIST_CTL_BUSY (lx l.val) = true → s.dev.pam4 l.val = false →
      s.dev.worksOf 0x0407 [l.val] = [] → low.length = 64 → high.length = 64 → inner = [[], []] →
      ((List.range 64).map (fun b => (low.getD b 0).toNat + (high.getD b 0).toNat)).sum = 2 ^ s.dev.get R.LN_HIST_CTL_WIN (lx l.val) →
      ∃ d, s.laneDoes l (.laneHistDone l low inner high) d ∧ d.flag R.LN_HIST_CTL_BUSY (lx l.val) = false
        ∧ d.rd R.LN_HIST (lx l.val ++ [31]) = BitVec.ofNat 64 (min ((low.getD 62 0).toNat + (high.getD 62 0).toNat) (2 ^ 32 - 1)
            + min ((low.getD 63 0).toNat + (high.getD 63 0).toNat) (2 ^ 32 - 1) * 2 ^ 32))
  ∧ (∀ (s : State) (l : Fin 16) (vs : List Nat) (r : List Bool × Nat) (c : PrbsChk), s.awake → s.dev.lanePresent l.val = true →
      s.dev.flag R.LN_PRBS_CHK (lx l.val) = true → 1 ≤ s.dev.get R.LN_PRBS_POLY (lx l.val) →
      s.dev.get R.LN_PRBS_POLY (lx l.val) ≤ 5 →
      s.dev.rxTake l.val (List.replicate (if s.dev.pam4 l.val then 2 * vs.length else vs.length) false) vs = r →
      r.1.foldl (PrbsChk.step (s.dev.get R.LN_PRBS_POLY (lx l.val))) (s.dev.lane l.val).prbs = c →
      ∃ d, s.laneDoes l (.prbsCheckerLock l vs) d ∧ d.flag R.LN_PRBS_LOCK (lx l.val) = c.locked ∧ (d.lane l.val).prbs = c)

/-- Port mode, lock and Voxent Link bring-up (R135, R166, R174, R175, R178, R193, R194, R195, R196, R198, R202, R209). For
a port that is present: an admitted write of PP_CTL reaches the port, and MODE and ROLE change only with ENABLE 0;
block and marker lock bring an Ethernet port in SYNC with its lanes locked to UP, 100GBASE-R with at most 180 ns of
lane skew, and the loss of it back to DOWN; a marker is remembered with its superframe and arrival, deskewed in SYNC;
a LINK_INFO in HELLO brings UP, a conflict of roles or another version fails; a marker lost for 1 us brings DOWN, 1 ms
without LINK_INFO fails with HELLO_TIMEOUT; a codeword is corrected, counted and read, an uncorrectable one counted; a
loss of 1 us with a frame open is a fault of the port booth; LIMIT_MS ends PORT_LINK. -/
def Obligations.PortLinkRows : Prop :=
  (∀ (s : State) (p : Fin 8) (v : Word), s.awake → s.dev.portPresent p.val = true → R.PP_CTL_EMIT.of v = 0 →
      s.portDoes p (.portCtlWrite p v) (((s.dev.wake p.val).portCtlWrite p.val v).afterLink p.val))
  ∧ (∀ (s : State) (p : Fin 8) (v : Word), s.awake → s.dev.portPresent p.val = true → R.PP_CTL_EMIT.of v = 1 →
      (bit (s.dev.get R.NET_PORTS_EMIT_OK []) p.val = true →
        s.portDoes p (.portCtlWrite p v) (((s.dev.wake p.val).portCtlWrite p.val v).afterLink p.val))
      ∧ (bit (s.dev.get R.NET_PORTS_EMIT_OK []) p.val = false →
        s.portDoes p (.portCtlWrite p v)
          (s.dev.violation p.val 2 (R.PP_CTL.addr [p.val]) v.toNat Src.ringmaster.code).accessFault))
  ∧ (∀ (s : State) (e : EthLock), s.awake → s.dev.portPresent e.port.val = true → modeEth (s.dev.pmode e.port.val) = true →
      s.dev.pstate e.port.val = 2 → s.dev.lanesLocked e.port.val = true → (s.dev.pmode e.port.val = 5 → e.skewNs ≤ 180) →
      s.portDoes e.port (.ethBlockLock e) (s.dev.setLink e.port.val 4))
  ∧ (∀ (s : State) (e : EthLock), s.awake → s.dev.portPresent e.port.val = true → s.dev.pmode e.port.val = 5 → 180 < e.skewNs →
      s.portDoes e.port (.ethBlockLock e) s.dev)
  ∧ (∀ (s : State) (p : Fin 8), s.awake → s.dev.portPresent p.val = true → modeEth (s.dev.pmode p.val) = true →
      s.dev.pstate p.val = 4 ∨ s.dev.pstate p.val = 2 → s.portDoes p (.ethLockLoss p) (s.dev.setLink p.val 1))
  ∧ (∀ (s : State) (p : Fin 8) (k : LinkX), s.awake → s.dev.portPresent p.val = true → (s.dev.prtx p.val).link = some k →
      (s.dev.up p.val = false → (k.limitMs * 1000000 * 65536 : Nat) ≤ ttDiff s.dev.tt k.start →
        s.portDoes p (.portLinkTimeLimit p) (s.dev.linkDone p.val 0x0510))
      ∧ (s.dev.up p.val = true → s.portDoes p (.portLinkTimeLimit p) s.dev))
  ∧ (∀ (s : State) (p : Fin 8) (l : Nat) (t : TT), s.awake → s.dev.portPresent p.val = true → modeVxl (s.dev.pmode p.val) = true →
      2 ≤ s.dev.pstate p.val → s.dev.pstate p.val ≤ 4 → l ∈ s.dev.portLanes p.val →
      s.dev.flag R.LN_ALIGN_STAT_FOUND (lx l) = false → (s.dev.lane l).unfoundSince = some t → 65536000 ≤ ttDiff s.dev.tt t →
      s.portDoes p (.portAlignLossTimeout p) (s.dev.setLink p.val 1))
  ∧ (∀ (s : State) (p : Fin 8), s.awake → s.dev.portPresent p.val = true →
      (∀ l ∈ s.dev.portLanes p.val, s.dev.flag R.LN_ALIGN_STAT_FOUND (lx l) = true) → s.portDoes p (.portAlignLossTimeout p) s.dev)
  ∧ (∀ (s : State) (p : Fin 8), s.awake → s.dev.portPresent p.val = true → modeVxl (s.dev.pmode p.val) = true →
      s.dev.pstate p.val = 3 → 65536000000 ≤ ttDiff s.dev.tt (s.dev.prtx p.val).helloSince →
      s.portDoes p (.portHelloTimeout p) (s.dev.linkFailed p.val 5))
  ∧ (∀ (s : State) (p : Fin 8), s.awake → s.dev.portPresent p.val = true → s.dev.pstate p.val ≠ 3 →
      s.portDoes p (.portHelloTimeout p) s.dev)
  ∧ (∀ (s : State) (l : Fin 16) (word p : Nat) (w1 : Word) (d : Device), s.awake → s.dev.lanePresent l.val = true →
      s.dev.portOfLane l.val = p → modeVxl (s.dev.pmode p) = true → s.dev.trainState l.val = 4 →
      crc16 (leBytes 6 w1.toNat) = bits w1.toNat 48 16 →
      ((s.dev.compareWord l.val word markerPat).linkEval p).setLane l.val { ((s.dev.compareWord l.val word markerPat).linkEval p).lane l.val with
        marker := some (bits w1.toNat 0 32, word, bits w1.toNat 32 2, bits w1.toNat 34 2) } = d →
      (d.pstate p = 2 → s.laneDoes l (.vxlMarkerRx l word markerPat w1) (d.deskew p))
      ∧ (d.pstate p ≠ 2 → s.laneDoes l (.vxlMarkerRx l word markerPat w1) d))
  ∧ (∀ (s : State) (l : Fin 16) (word : Nat) (w0 w1 : Word), s.awake → s.dev.lanePresent l.val = true →
      modeVxl (s.dev.pmode (s.dev.portOfLane l.val)) = false ∨ s.dev.trainState l.val ≠ 4 →
      s.laneDoes l (.vxlMarkerRx l word w0 w1) s.dev)
  ∧ (∀ (s : State) (p : Fin 8) (b : List Byte) (d : Device), s.awake → s.dev.portPresent p.val = true →
      modeVxl (s.dev.pmode p.val) = true → s.dev.pstate p.val = 3 → b.length = 32 → crc16 (b.take 30) = fieldAt b 30 2 →
      fieldAt b 0 1 = 0x3C →
      ((s.dev.put R.PP_VXL_INFO_ROLE [p.val] (fieldAt b 1 1)).put R.PP_VXL_INFO_VERSION [p.val] (fieldAt b 2 1) |>.put
        R.PP_VXL_INFO_LANES [p.val] (fieldAt b 3 1)).put R.PP_VXL_INFO_TRIG_LAT [p.val] (fieldAt b 4 4) = d →
      (fieldAt b 1 1 = s.dev.get R.PP_CTL_ROLE [p.val] → s.portDoes p (.vxlLinkInfoRx p b) (d.linkFailed p.val 3))
      ∧ (fieldAt b 1 1 ≠ s.dev.get R.PP_CTL_ROLE [p.val] → fieldAt b 2 1 ≠ 1 → s.portDoes p (.vxlLinkInfoRx p b) (d.linkFailed p.val 4))
      ∧ (fieldAt b 1 1 ≠ s.dev.get R.PP_CTL_ROLE [p.val] → fieldAt b 2 1 = 1 → s.portDoes p (.vxlLinkInfoRx p b) (d.setLink p.val 4)))
  ∧ (∀ (s : State) (p : Fin 8) (b : List Byte), s.awake → s.dev.portPresent p.val = true → modeVxl (s.dev.pmode p.val) = true →
      s.dev.pstate p.val = 3 → b.length = 32 → crc16 (b.take 30) ≠ fieldAt b 30 2 →
      s.portDoes p (.vxlLinkInfoRx p b) (s.dev.bump R.PP_VXL_ERR_CRC_ERR [p.val]))
  ∧ (∀ (s : State) (l : Fin 16) (m par msg : List Nat) (n : Nat), s.awake → s.dev.lanePresent l.val = true →
      modeVxl (s.dev.pmode (s.dev.portOfLane l.val)) = true → 2 ≤ s.dev.pstate (s.dev.portOfLane l.val) →
      rsDecode (m ++ par) = some (msg, n) →
      ∃ d, s.laneDoes l (.vxlCodewordRx l m par) d
        ∧ (d.lane l.val).blocks = (readBlocks (messageBlocks msg) (s.dev.lane l.val).scramRx).1
        ∧ (d.lane l.val).scramRx = (readBlocks (messageBlocks msg) (s.dev.lane l.val).scramRx).2)
  ∧ (∀ (s : State) (l : Fin 16) (m par : List Nat), s.awake → s.dev.lanePresent l.val = true →
      modeVxl (s.dev.pmode (s.dev.portOfLane l.val)) = true → 2 ≤ s.dev.pstate (s.dev.portOfLane l.val) →
      rsDecode (m ++ par) = none →
      s.laneDoes l (.vxlCodewordRx l m par)
        ((s.dev.setLane l.val { s.dev.lane l.val with
            scramRx := (readBlocks (messageBlocks ((m ++ par).take 258)) (s.dev.lane l.val).scramRx).2, blocks := [] }).bump
          R.LN_FEC_CW_UNCORR (lx l.val)))
  ∧ (∀ (s : State) (p : Fin 8), s.awake → s.dev.portPresent p.val = true →
      (s.dev.portLossLong p.val = true → s.dev.frameOpen p.val = true → s.does (.linkLossTimeout p) (s.dev.portFault p.val 1))
      ∧ (s.dev.portLossLong p.val = false ∨ s.dev.frameOpen p.val = false → s.does (.linkLossTimeout p) s.dev))

/-- Ethernet packets, the slow path, GVCP, the merge hold and PTP messages (R178, R179, R181, R182, R183, R187, R190,
R338, R339, R340). For a port that is present and UP in an Ethernet mode: a frame of a bad length or CRC counts
RX_ERR; a control frame of the MAC is counted and discarded; an accepted UDP packet that an entry takes is counted and
handed to its stream; a packet handed to the transmitter is counted and leaves with its preamble, tag, padding and
CRC, a PTP event message stamped where transmit stamps are on; a pop of the stamp FIFO shows the head stamp in
PP_TXTS_TIME; firmware takes the head of the slow path and answers it, GVCP requests by the GVCP server; a hold that
has run out closes its frame; due PTP messages of a master or slave go out with the next sequence number; three
announce intervals without a Sync change the servo state. -/
def Obligations.PacketRows : Prop :=
  (∀ (s : State) (p : Fin 8) (f : List Byte) (t : TT), s.awake → s.dev.portPresent p.val = true → modeEth (s.dev.pmode p.val) = true →
      s.dev.up p.val = true → s.dev.boothDown p.val = false →
      f.length < 64 ∨ 9600 < f.length ∨ crc32 (f.take (f.length - 4)) ≠ ofLE (f.drop (f.length - 4)) →
      s.portDoes p (.ethFrameRx p f t []) (s.dev.bump R.PP_CNT_ERR_RX_ERR [p.val]))
  ∧ (∀ (s : State) (p : Fin 8) (f : List Byte) (t : TT) (e : EthPkt), s.awake → s.dev.portPresent p.val = true →
      modeEth (s.dev.pmode p.val) = true → s.dev.up p.val = true → s.dev.boothDown p.val = false → 64 ≤ f.length → f.length ≤ 9600 →
      crc32 (f.take (f.length - 4)) = ofLE (f.drop (f.length - 4)) → parseEth (f.take (f.length - 4)) = some e → e.etype = 0x8808 →
      s.portDoes p (.ethFrameRx p f t []) (s.dev.count R.PP_CNT_RX_PKTS [p.val]))
  ∧ (∀ (s : State) (p : Fin 8) (f : List Byte) (t : TT) (e : EthPkt) (u : UdpPkt) (k : Nat) (d : Device), s.awake →
      s.dev.portPresent p.val = true → modeEth (s.dev.pmode p.val) = true → s.dev.up p.val = true → s.dev.boothDown p.val = false →
      64 ≤ f.length → f.length ≤ 9600 → crc32 (f.take (f.length - 4)) = ofLE (f.drop (f.length - 4)) →
      parseEth (f.take (f.length - 4)) = some e → e.etype ≠ 0x8808 → (s.dev.streamBoundary p.val t).macAccepts p.val e.dst = true →
      e.ip = .udp u → (s.dev.streamBoundary p.val t).count R.PP_CNT_RX_PKTS [p.val] = d → d.classify p.val e.vlan u = some k →
      s.portDoes p (.ethFrameRx p f t []) (d.streamIn p.val k u.data t))
  ∧ (∀ (s : State) (p : Fin 8) (f : List Byte) (t : TT), s.awake → s.dev.portPresent p.val = true →
      modeEth (s.dev.pmode p.val) = false ∨ s.dev.up p.val = false → s.portDoes p (.ethFrameRx p f t []) s.dev
        ∧ s.portDoes p (.packetTransmit p f t) s.dev)
  ∧ (∀ (s : State) (p : Fin 8) (f : List Byte) (t : TT) (e : EthPkt) (d : Device), s.awake → s.dev.portPresent p.val = true →
      modeEth (s.dev.pmode p.val) = true → s.dev.up p.val = true → s.dev.boothDown p.val = false → parseEth f = some e →
      s.dev.count R.PP_CNT_TX_PKTS [p.val] = d →
      (ptpIn e = none → s.portDoes p (.packetTransmit p f t) (d.putWire p.val 0 (d.wireFrame p.val f)))
      ∧ (∀ enc m, ptpIn e = some (enc, m) → bit (d.get R.PP_PTP_ENCAPS [p.val]) enc = true → ptpEvent m = true →
          d.flag R.PP_PTP_ONE_STEP_EN [p.val] = false → d.flag R.PP_PTP_TX_STAMP_EN [p.val] = true →
          s.portDoes p (.packetTransmit p f t) (((d.putWire p.val 0 (d.wireFrame p.val f)).txStamp p.val m t).showTxts p.val)))
  ∧ (∀ (s : State) (p : Fin 8) (q m : Nat) (t : TT) (rest : List (Nat × Nat × TT)), s.awake → s.dev.portPresent p.val = true →
      (s.dev.prtx p.val).txts = (q, m, t) :: rest →
      ∃ d, s.portDoes p (.txtsPop p) d ∧ d.rd R.PP_TXTS_TIME [p.val] = t ∧ (d.prtx p.val).txts = rest)
  ∧ (∀ (s : State) (p : Fin 8), s.awake → s.dev.portPresent p.val = true → (s.dev.prtx p.val).txts = [] →
      s.portDoes p (.txtsPop p) s.dev)
  ∧ (∀ (s : State) (p : Fin 8) (f : List Byte) (x : Option TT) (rest : List (List Byte × Option TT)), s.awake →
      s.dev.portPresent p.val = true → (s.dev.prtx p.val).slow = (f, x) :: rest → isGvcp f = false →
      (s.dev.ready = true → s.portDoes p (.slowPathPacketRx p)
        ((s.dev.setPrt p.val { s.dev.prtx p.val with slow := rest }).slowAnswer p.val f))
      ∧ (s.dev.ready = false → s.portDoes p (.slowPathPacketRx p) s.dev)
      ∧ s.portDoes p (.gvcpRequestRx p) s.dev)
  ∧ (∀ (s : State) (p : Fin 8), s.awake → s.dev.portPresent p.val = true → (s.dev.prtx p.val).slow = [] → s.dev.ready = true →
      s.portDoes p (.slowPathPacketRx p) (s.dev.gvcpAsk p.val) ∧ s.portDoes p (.gvcpRequestRx p) s.dev)
  ∧ (∀ (s : State) (p : Fin 8) (f m ack : List Byte) (x : Option TT) (rest : List (List Byte × Option TT)) (mac ip port c : Nat)
      (d : Device), s.awake → s.dev.portPresent p.val = true → s.dev.ready = true → (s.dev.prtx p.val).slow = (f, x) :: rest →
      isGvcp f = true → gvcpRequest f = some (mac, ip, port, m) → s.dev.setPrt p.val { s.dev.prtx p.val with slow := rest } = d →
      d.gvcpChannel p.val = some c → (d.gvcpAnswer p.val c m).1 = some ack →
      ∃ g, g.drop 42 = ack ∧ s.portDoes p (.gvcpRequestRx p) ((d.gvcpAnswer p.val c m).2.packetTx p.val g s.dev.tt))
  ∧ (∀ (s : State) (p : Fin 8) (k : Fin 64) (t : TT), s.awake → s.dev.portPresent p.val = true → (s.dev.pkt p.val k.val).holdSince = some t →
      (s.dev.holdTime p.val k.val ≤ ttDiff s.dev.tt t → s.portDoes p (.mergeHoldExpire p k) (s.dev.mergeClose p.val k.val))
      ∧ (ttDiff s.dev.tt t < s.dev.holdTime p.val k.val → s.portDoes p (.mergeHoldExpire p k) s.dev))
  ∧ (∀ (s : State) (t : TT), s.awake → s.dev.ready = true → s.dev.servo.state = 6 →
      logInterval s.dev.servo.syncLog ≤ ttDiff s.dev.tt s.dev.servo.sentSync →
      ∃ d, s.does (.ptpMessageTimer 0 t) d ∧ d.servo.seqSync = (s.dev.servo.seqSync + 1) % 65536 ∧ d.servo.sentSync = s.dev.tt)
  ∧ (∀ (s : State) (t : TT), s.awake → s.dev.ready = true → s.dev.servo.state = 6 →
      logInterval s.dev.servo.announceLog ≤ ttDiff s.dev.tt s.dev.servo.sentAnnounce →
      ∃ d, s.does (.ptpMessageTimer 1 t) d ∧ d.servo.seqAnnounce = (s.dev.servo.seqAnnounce + 1) % 65536
        ∧ d.servo.sentAnnounce = s.dev.tt)
  ∧ (∀ (s : State) (t : TT), s.awake → s.dev.ready = true → 1 ≤ s.dev.servo.state → s.dev.servo.state ≤ 5 →
      logInterval s.dev.servo.delayLog ≤ ttDiff s.dev.tt s.dev.servo.sentDelay →
      ∃ d, s.does (.ptpMessageTimer 2 t) d ∧ d.servo.seqDelay = (s.dev.servo.seqDelay + 1) % 65536 ∧ d.servo.sentDelay = s.dev.tt)
  ∧ (∀ (s : State) (k : Nat) (t : TT), s.awake → s.dev.ready = false ∨ s.dev.servo.state = 0 ∨ 3 ≤ k →
      s.does (.ptpMessageTimer k t) s.dev)
  ∧ (∀ s : State, s.awake → s.dev.ready = true → 3 * logInterval s.dev.servo.announceLog ≤ ttDiff s.dev.tt s.dev.servo.lastSync →
      (s.dev.servo.state = 1 → s.dev.servo.role = 1 →
        s.does .ptpAnnounceTimeout (s.dev.setServo { s.dev.servo with state := 6, parent := none }))
      ∧ (2 ≤ s.dev.servo.state → s.dev.servo.state ≤ 4 →
        s.does .ptpAnnounceTimeout (s.dev.setServo { s.dev.servo with state := 5, parent := none })))
  ∧ (∀ s : State, s.awake → ttDiff s.dev.tt s.dev.servo.lastSync < 3 * logInterval s.dev.servo.announceLog →
      s.does .ptpAnnounceTimeout s.dev)

/-- Voxent Link: lines, triggers, echoes and the control channel (R183, R184, R198, R199, R203, R204, R205, R206, R209,
R210). For a port that is present: a LINE_START with a good CRC on a port that is UP ends the line before it and
begins the new one of its stream, or counts NO_ENTRY; a data block stores its bytes at 32 n, and one beyond the line
or without a line is STRAY; a TRIGGER in ROLE 1 is kept for its instant, then fires its channel; a waiting trigger
goes into its best slot; an echo request goes out once at a time, is answered in ROLE 1, its answer gives RTT and
TURNAROUND, and none after 10 us gives TURNAROUND all ones; CTRL blocks queue in both directions, a request is
repeated after 2 ms and given up after three; firmware repeats a calibration every second. -/
def Obligations.VoxentRows : Prop :=
  (∀ (s : State) (p : Fin 8) (b : List Byte) (t : TT) (k : Nat) (d e : Device), s.awake → s.dev.portPresent p.val = true →
      modeVxl (s.dev.pmode p.val) = true → s.dev.up p.val = true → s.dev.boothDown p.val = false → b.length = 32 →
      crc16 (b.take 30) = fieldAt b 30 2 → fieldAt b 0 1 = 0x2D → fieldAt b 1 1 % 64 = k →
      ((s.dev.endCur p.val).streamBoundary p.val t).count R.PP_CNT_RX_PKTS [p.val] = d → d.vxlEntry p.val k = true →
      (lineStartHdr b).length ≠ 0 → d.beginLine p.val k (lineStartHdr b) t = e →
      s.portDoes p (.vxlLineStartRx p b t)
        (e.setPrt p.val { e.prtx p.val with cur := some { stream := some k, length := (lineStartHdr b).length } }))
  ∧ (∀ (s : State) (p : Fin 8) (b : List Byte) (t : TT) (k : Nat) (d : Device), s.awake → s.dev.portPresent p.val = true →
      modeVxl (s.dev.pmode p.val) = true → s.dev.up p.val = true → s.dev.boothDown p.val = false → b.length = 32 →
      crc16 (b.take 30) = fieldAt b 30 2 → fieldAt b 0 1 = 0x2D → fieldAt b 1 1 % 64 = k →
      ((s.dev.endCur p.val).streamBoundary p.val t).count R.PP_CNT_RX_PKTS [p.val] = d → d.vxlEntry p.val k = false →
      s.portDoes p (.vxlLineStartRx p b t)
        ((d.bump R.PP_CNT_ERR_NO_ENTRY [p.val]).setPrt p.val
          { d.prtx p.val with cur := some { stream := none, length := (lineStartHdr b).length } }))
  ∧ (∀ (s : State) (p : Fin 8) (n : Nat) (bs : List Byte) (k len : Nat) (d : Device), s.awake → s.dev.portPresent p.val = true →
      s.dev.vxlUp p.val = true → s.dev.boothDown p.val = false → (s.dev.prtx p.val).cur = some { stream := some k, length := len } →
      s.dev.lineBytes p.val k (32 * n) ((fit 32 bs).take (len - 32 * n)) = d → 32 * n < len →
      (len ≤ 32 * n + 32 → s.portDoes p (.vxlDataBlockRx p n bs) (d.endCur p.val))
      ∧ (32 * n + 32 < len → s.portDoes p (.vxlDataBlockRx p n bs) d))
  ∧ (∀ (s : State) (p : Fin 8) (n : Nat) (bs : List Byte), s.awake → s.dev.portPresent p.val = true → s.dev.vxlUp p.val = true →
      s.dev.boothDown p.val = false → (s.dev.prtx p.val).cur = none →
      s.portDoes p (.vxlDataBlockRx p n bs) (s.dev.bump R.PP_VXL_ERR_STRAY [p.val]))
  ∧ (∀ (s : State) (p : Fin 8) (b : List Byte) (t : TT), s.awake → s.dev.portPresent p.val = true →
      modeVxl (s.dev.pmode p.val) = true → s.dev.up p.val = true → s.dev.hostRole p.val = false → b.length = 32 →
      crc16 (b.take 30) = fieldAt b 30 2 → fieldAt b 0 1 = 0x4B →
      s.portDoes p (.vxlTriggerRx p b t) (s.dev.setPrt p.val { s.dev.prtx p.val with
        fires := (s.dev.prtx p.val).fires ++ [(t + sub64 Config.ownTrigLat.toNat + sub64 (fieldAt b 4 2), fieldAt b 2 2)] }))
  ∧ (∀ (s : State) (p : Fin 8) (b : List Byte) (t : TT), s.awake → s.dev.portPresent p.val = true →
      s.dev.hostRole p.val = true → b.length = 32 → crc16 (b.take 30) = fieldAt b 30 2 → fieldAt b 0 1 = 0x4B →
      s.portDoes p (.vxlTriggerRx p b t) s.dev)
  ∧ (∀ (s : State) (p : Fin 8) (a : TT) (id : Nat) (rest : List (TT × Nat)), s.awake → s.dev.portPresent p.val = true →
      (s.dev.prtx p.val).fires = (a, id) :: rest → ttGe s.dev.tt a = true →
      s.portDoes p (.vxlTriggerFire p)
        ((s.dev.setPrt p.val { s.dev.prtx p.val with fires := rest, lastTrig := id }).fireStampIf R.MW_VXLRX_EN R.MW_VXLRX_CH [p.val]
          (((a + 32768) >>> 16) <<< 16)))
  ∧ (∀ (s : State) (p : Fin 8), s.awake → s.dev.portPresent p.val = true → (∀ f ∈ (s.dev.prtx p.val).fires, ttGe s.dev.tt f.1 = false) →
      s.portDoes p (.vxlTriggerFire p) s.dev)
  ∧ (∀ (s : State) (p : Fin 8) (slots : List (Nat × TT)) (g : TrigOut) (l : Nat) (t : TT) (d : Device), s.awake →
      s.dev.portPresent p.val = true → s.dev.vxlUp p.val = true → s.dev.hostRole p.val = true → s.dev.boothDown p.val = false →
      (s.dev.prtx p.val).trigs = [g] → s.dev.bestSlot p.val g slots = some (l, t) →
      s.dev.setPrt p.val { s.dev.prtx p.val with trigs := [] } = d →
      (0 ≤ ttDiff (s.dev.sendPoint p.val g l) t →
        s.portDoes p (.vxlTriggerTx p slots)
          (d.putBlock p.val l true (g.block (((ttDiff (s.dev.sendPoint p.val g l) t).toNat + 512) / 1024))))
      ∧ (ttDiff (s.dev.sendPoint p.val g l) t < 0 →
        s.portDoes p (.vxlTriggerTx p slots)
          (((d.setFlag R.PP_EVT_TRIG_LATE [p.val] true).markLate g).putBlock p.val l true (g.block 0))))
  ∧ (∀ (s : State) (p : Fin 8) (slots : List (Nat × TT)), s.awake → s.dev.portPresent p.val = true →
      s.dev.hostRole p.val = false ∨ (s.dev.prtx p.val).trigs = [] → s.portDoes p (.vxlTriggerTx p slots) s.dev)
  ∧ (∀ (s : State) (p : Fin 8) (l : Fin 4) (t : TT), s.awake → s.dev.portPresent p.val = true → (s.dev.prtx p.val).echo = none →
      s.dev.hostRole p.val = true → modeVxl (s.dev.pmode p.val) = true → s.dev.boothDown p.val = false →
      ∃ d, s.portDoes p (.vxlEchoGo p l t) d ∧ d.flag R.PP_VXL_ECHO_BUSY [p.val] = true
        ∧ (d.prtx p.val).echo = some { lane := l.val, id := (s.dev.prtx p.val).echoId, t1 := t, own := false }
        ∧ (d.prtx p.val).echoId = ((s.dev.prtx p.val).echoId + 1) % 65536)
  ∧ (∀ (s : State) (p : Fin 8) (l : Fin 4) (t : TT), s.awake → s.dev.portPresent p.val = true →
      (s.dev.prtx p.val).echo.isSome = true ∨ s.dev.hostRole p.val = false → s.portDoes p (.vxlEchoGo p l t) s.dev)
  ∧ (∀ (s : State) (p : Fin 8) (l : Fin 4) (b : List Byte) (ti tx : TT), s.awake → s.dev.portPresent p.val = true →
      modeVxl (s.dev.pmode p.val) = true → s.dev.up p.val = true → s.dev.hostRole p.val = false → s.dev.boothDown p.val = false →
      b.length = 32 → crc16 (b.take 30) = fieldAt b 30 2 → fieldAt b 0 1 = 0x66 →
      s.portDoes p (.vxlEchoReqRx p l b ti tx) (s.dev.putBlock p.val l.val true
        (ctrlBlock 0x78 (layout [(1, fieldAt b 1 1), (2, fieldAt b 2 2), (4, ((tx - ti) >>> 10).toNat)]))))
  ∧ (∀ (s : State) (p : Fin 8) (l : Fin 4) (b : List Byte) (t4 : TT) (e : EchoX), s.awake → s.dev.portPresent p.val = true →
      modeVxl (s.dev.pmode p.val) = true → s.dev.up p.val = true → b.length = 32 → crc16 (b.take 30) = fieldAt b 30 2 →
      fieldAt b 0 1 = 0x78 → (s.dev.prtx p.val).echo = some e → e.lane = l.val → fieldAt b 1 1 = l.val → fieldAt b 2 2 = e.id →
      (s.dev.prtx p.val).cal = none →
      s.portDoes p (.vxlEchoRspRx p l b t4)
        ((s.dev.echoOver p.val (fieldAt b 4 4)).put R.PP_VXL_ECHO_RTT_RTT [p.val] (((t4 - e.t1) >>> 10).toNat % 2 ^ 32)))
  ∧ (∀ (s : State) (p : Fin 8) (e : EchoX), s.awake → s.dev.portPresent p.val = true → (s.dev.prtx p.val).echo = some e →
      (ttDiff s.dev.tt e.t1 < 655360000 → s.portDoes p (.vxlEchoTimeout p) s.dev)
      ∧ (655360000 ≤ ttDiff s.dev.tt e.t1 → e.own = true →
          s.portDoes p (.vxlEchoTimeout p) ((s.dev.echoOver p.val 0xFFFFFFFF).calFail p.val))
      ∧ (655360000 ≤ ttDiff s.dev.tt e.t1 → e.own = false → (s.dev.prtx p.val).cal = none →
          s.portDoes p (.vxlEchoTimeout p) (s.dev.echoOver p.val 0xFFFFFFFF)))
  ∧ (∀ (s : State) (p : Fin 8) (b : List Byte), s.awake → s.dev.portPresent p.val = true → modeVxl (s.dev.pmode p.val) = true →
      s.dev.up p.val = true → b.length = 32 → crc16 (b.take 30) = fieldAt b 30 2 → fieldAt b 0 1 = 0x55 →
      (16 ≤ (s.dev.prtx p.val).ccRx.length → s.portDoes p (.vxlCtrlRx p b) s.dev)
      ∧ ((s.dev.prtx p.val).ccRx.length < 16 → s.dev.ready = false → s.portDoes p (.vxlCtrlRx p b)
          (((s.dev.setPrt p.val { s.dev.prtx p.val with ccRx := (s.dev.prtx p.val).ccRx ++ [b] }).showCc p.val).setFlag
            R.PP_EVT_CC_RX [p.val] true)))
  ∧ (∀ (s : State) (p : Fin 8) (v : Word), s.awake → s.dev.portPresent p.val = true →
      s.portDoes p (.ctrlTxQueue p v) ((s.dev.wake p.val).ccTxWrite p.val v))
  ∧ (∀ (s : State) (p : Fin 8) (b : List Byte) (rest : List (List Byte)) (d : Device), s.awake → s.dev.portPresent p.val = true →
      (s.dev.prtx p.val).ccRx = b :: rest → (s.dev.setPrt p.val { s.dev.prtx p.val with ccRx := rest }).showCc p.val = d →
      (d.ready = true → s.portDoes p (.ctrlRxPop p) (d.ccHandle p.val b))
      ∧ (d.ready = false → s.portDoes p (.ctrlRxPop p) d))
  ∧ (∀ (s : State) (p : Fin 8), s.awake → s.dev.portPresent p.val = true → (s.dev.prtx p.val).ccRx = [] →
      s.portDoes p (.ctrlRxPop p) s.dev)
  ∧ (∀ (s : State) (p : Fin 8) (tag : Nat) (r : CcReq), s.awake → s.dev.portPresent p.val = true → s.dev.ready = true → tag < 16 →
      (s.dev.prtx p.val).ccReqs.find? (fun r => decide (r.tag = tag)) = some r →
      (ttDiff s.dev.tt r.sent < 131072000000 → s.portDoes p (.ctrlRetryTimeout p tag) s.dev)
      ∧ (131072000000 ≤ ttDiff s.dev.tt r.sent → 3 ≤ r.tries → s.portDoes p (.ctrlRetryTimeout p tag) (s.dev.ccDone p.val r none)))
  ∧ (∀ (s : State) (p : Fin 8) (tag : Nat) (r : CcReq) (d : Device), s.awake → s.dev.portPresent p.val = true → s.dev.ready = true →
      (s.dev.prtx p.val).ccReqs = [r] → r.tag = tag → tag < 16 → r.tries < 3 → 131072000000 ≤ ttDiff s.dev.tt r.sent →
      s.dev.setPrt p.val { s.dev.prtx p.val with ccReqs := [{ r with tries := r.tries + 1, sent := s.dev.tt }] } = d →
      s.portDoes p (.ctrlRetryTimeout p tag) (d.ccQueue p.val (ctrlBlock 0x55 r.block)))
  ∧ (∀ (s : State) (p : Fin 8), s.awake → s.dev.portPresent p.val = true → s.dev.ready = true → s.dev.vxlUp p.val = true →
      s.dev.hostRole p.val = true → (s.dev.prtx p.val).cal = none →
      65536000000000 ≤ ttDiff s.dev.tt (s.dev.prtx p.val).calibrated →
      s.portDoes p (.vxlCalibratePeriodic p) (s.dev.calStart p.val 4 true))
  ∧ (∀ (s : State) (p : Fin 8), s.awake → s.dev.portPresent p.val = true →
      s.dev.hostRole p.val = false ∨ (s.dev.prtx p.val).cal.isSome = true → s.portDoes p (.vxlCalibratePeriodic p) s.dev)

/-- Capture: words and lines arriving, the store stage, frame boundaries, releases, closure by time, frame events and
diagnostics (R135, R208, R214, R215, R218, R219, R222, R225, R226, R229, R232). For a port that is present: while it
is UP and its booth runs, a word of the wire goes on with its line, ended by the end-of-line mark, and a word that
starts a line begins it; a raw port cuts its words into lines; a frame start begins a frame; the store stage takes the
oldest word of the next line FIFO; OPEN arms a stream of FRAMING 1, CLOSE and TRUNCATE close its open frame or an
empty one, any other CAP_CMD counts CMD_BAD; a release frees a CLOSED slot and counts REL_BAD otherwise; a block whose
time has passed closes; a finished frame gives its event and hands over its tag; a POP of the diagnostics is denied
while the stream is enabled and shows the oldest word otherwise; a parity error is a fault of the port booth. -/
def Obligations.CaptureRows : Prop :=
  (∀ (s : State) (p : Fin 8) (k : Fin 64) (sol eol : Bool) (bs : List Byte) (t : TT) (h : LineHdr), s.awake →
      s.dev.portPresent p.val = true → s.dev.up p.val = false ∨ s.dev.boothDown p.val = true →
      s.portDoes p (.lineWordEnter p k sol eol bs t) s.dev ∧ s.portDoes p (.capFrameStart p k h t) s.dev)
  ∧ (∀ (s : State) (p : Fin 8) (k : Fin 64) (bs : List Byte) (t : TT) (x : LineX), s.awake → s.dev.portPresent p.val = true →
      s.dev.up p.val = true → s.dev.boothDown p.val = false → s.dev.pmode p.val ≠ 9 → (s.dev.cap p.val k.val).line = some x →
      s.portDoes p (.lineWordEnter p k false false bs t) (s.dev.lineBytes p.val k.val x.got (bs.take 64))
      ∧ s.portDoes p (.lineWordEnter p k false true bs t) ((s.dev.lineBytes p.val k.val x.got (bs.take 64)).endLine p.val k.val))
  ∧ (∀ (s : State) (p : Fin 8) (k : Fin 64) (bs : List Byte) (t : TT) (f : FrameX) (d : Device) (x : LineX), s.awake →
      s.dev.portPresent p.val = true → s.dev.up p.val = true → s.dev.boothDown p.val = false → s.dev.pmode p.val ≠ 9 →
      (s.dev.cap p.val k.val).openFrame = some f → s.dev.beginLine p.val k.val { wireFrame := f.wireFrame } t = d →
      (d.cap p.val k.val).line = some x →
      s.portDoes p (.lineWordEnter p k true false bs t) (d.lineBytes p.val k.val x.got (bs.take 64)))
  ∧ (∀ (s : State) (p : Fin 8) (sol eol : Bool) (bs : List Byte) (t : TT), s.awake → s.dev.portPresent p.val = true →
      s.dev.up p.val = true → s.dev.boothDown p.val = false → s.dev.pmode p.val = 9 →
      s.portDoes p (.lineWordEnter p 0 sol eol bs t) (s.dev.rawWord p.val bs t))
  ∧ (∀ (s : State) (p : Fin 8) (k : Fin 64) (h : LineHdr) (t : TT), s.awake → s.dev.portPresent p.val = true →
      s.dev.up p.val = true → s.dev.boothDown p.val = false →
      s.portDoes p (.capFrameStart p k h t) (s.dev.beginLine p.val k.val { h with frameStart := true } t))
  ∧ (∀ (s : State) (p : Fin 8) (k : Nat) (w : FifoWord) (rest : List FifoWord) (d : Device), s.awake → s.dev.portPresent p.val = true →
      s.dev.nextFifo p.val = some k → (s.dev.cap p.val k).fifo = w :: rest →
      (s.dev.setBth p.val { s.dev.bth p.val with lastFifo := k }).setCap p.val k
        { s.dev.cap p.val k with fifo := rest, owesDamaged := false, owesLostEol := false } = d →
      s.portDoes p (.storeStageTake p) (((d.storeWord p.val k
        { w with damaged := w.damaged || (s.dev.cap p.val k).owesDamaged
                 lostEol := w.lostEol || (s.dev.cap p.val k).owesLostEol }).finishReady p.val k).showCap p.val k))
  ∧ (∀ (s : State) (p : Fin 8), s.awake → s.dev.portPresent p.val = true → s.dev.nextFifo p.val = none →
      s.portDoes p (.storeStageTake p) s.dev)
  ∧ (∀ (s : State) (p : Fin 8) (k : Fin 64) (d : Device), s.awake → s.dev.portPresent p.val = true → s.dev.wake p.val = d →
      d.get R.CAP_SC_CTL_FRAMING [p.val, k.val] = 1 →
      ((d.cap p.val k.val).armed = false → (d.cap p.val k.val).isOpen = false →
        s.portDoes p (.capOpen p k) ((d.setCap p.val k.val { d.cap p.val k.val with armed := true }).showCap p.val k.val)
        ∧ s.portDoes p (.capClose p k) (d.bump R.CAP_STAT_CMD_BAD [p.val])
        ∧ s.portDoes p (.capTruncate p k) (d.bump R.CAP_STAT_CMD_BAD [p.val]))
      ∧ ((d.cap p.val k.val).isOpen = true → s.portDoes p (.capOpen p k) (d.bump R.CAP_STAT_CMD_BAD [p.val])
        ∧ s.portDoes p (.capClose p k) (d.closeFrame p.val k.val 3 0)
        ∧ s.portDoes p (.capTruncate p k) (d.closeFrame p.val k.val 3 2))
      ∧ ((d.cap p.val k.val).armed = true → (d.cap p.val k.val).isOpen = false →
        s.portDoes p (.capClose p k) (d.closeEmpty p.val k.val) ∧ s.portDoes p (.capTruncate p k) (d.closeEmpty p.val k.val)))
  ∧ (∀ (s : State) (p : Fin 8) (k : Fin 64) (d : Device), s.awake → s.dev.portPresent p.val = true → s.dev.wake p.val = d →
      d.get R.CAP_SC_CTL_FRAMING [p.val, k.val] ≠ 1 → s.portDoes p (.capOpen p k) (d.bump R.CAP_STAT_CMD_BAD [p.val])
        ∧ s.portDoes p (.capClose p k) (d.bump R.CAP_STAT_CMD_BAD [p.val])
        ∧ s.portDoes p (.capTruncate p k) (d.bump R.CAP_STAT_CMD_BAD [p.val]))
  ∧ (∀ (s : State) (p : Fin 8) (k : Fin 64) (gen : Bool) (slot : Nat) (d : Device), s.awake → s.dev.portPresent p.val = true →
      s.dev.wake p.val = d → slot < 1024 →
      (d.slotState p.val k.val gen slot = 2 → s.portDoes p (.capRelWrite p k gen slot) (d.setSlotState p.val k.val gen slot 0))
      ∧ (d.slotState p.val k.val gen slot ≠ 2 → s.portDoes p (.capRelWrite p k gen slot) (d.bump R.CAP_STAT_REL_BAD [p.val])))
  ∧ (∀ (s : State) (p : Fin 8) (k : Fin 64) (f : FrameX), s.awake → s.dev.portPresent p.val = true →
      (s.dev.cap p.val k.val).openFrame = some f →
      (s.dev.flag R.CAP_SC_CTL_CLOSE_TIME [p.val, k.val] = true →
        (s.dev.get R.CAP_SC_TIME_BLOCK_NS [p.val, k.val] * 65536 : Nat) ≤ ttDiff s.dev.tt f.firstTT →
        s.portDoes p (.linescanTimeClose p k) (s.dev.blockClose p.val k.val 1))
      ∧ (s.dev.flag R.CAP_SC_CTL_CLOSE_TIME [p.val, k.val] = false → s.portDoes p (.linescanTimeClose p k) s.dev))
  ∧ (∀ (s : State) (p : Fin 8) (k : Fin 64), s.awake → s.dev.portPresent p.val = true → (s.dev.cap p.val k.val).openFrame = none →
      s.portDoes p (.linescanTimeClose p k) s.dev)
  ∧ (∀ (s : State) (p : Fin 8) (k : Fin 64) (f : FrameX) (d : Device), s.awake → s.dev.portPresent p.val = true →
      (s.dev.cap p.val k.val).frames.find? (fun f => !f.evented) = some f →
      s.dev.modFrames p.val k.val (fun x => decide (x.no = f.no))
        (fun x => { x with evented := true, handed := f.cfg.direct || f.slot.isNone }) = d →
      (f.tag = [] ∨ f.sealSt = 1 → s.portDoes p (.capFrameEvent p k) s.dev)
      ∧ (f.tag ≠ [] → f.sealSt ≠ 1 → f.cfg.frameEvEn = false →
        s.portDoes p (.capFrameEvent p k) ((d.deliverResult p.val f).pushTags p.val k.val))
      ∧ (f.tag ≠ [] → f.sealSt ≠ 1 → f.cfg.frameEvEn = true →
        s.portDoes p (.capFrameEvent p k) (((d.deliverResult p.val f).fire f.cfg.frameEv).pushTags p.val k.val)))
  ∧ (∀ (s : State) (p : Fin 8) (k : Fin 64), s.awake → s.dev.portPresent p.val = true →
      (∀ f ∈ (s.dev.cap p.val k.val).frames, f.evented = true) → s.portDoes p (.capFrameEvent p k) s.dev)
  ∧ (∀ (s : State) (p : Fin 8) (k : Fin 64) (d : Device), s.awake → s.dev.portPresent p.val = true →
      (s.dev.wake p.val).put R.CAP_LF_DIAG_FIFO [p.val] k.val = d →
      (d.flag R.CAP_SC_CTL_EN [p.val, k.val] = true → s.portDoes p (.lineFifoDiagPop p k)
        ((d.put R.CAP_LF_HDR_HDR [p.val] 0).setFlag R.CAP_LF_DIAG_DENIED [p.val] true))
      ∧ (d.flag R.CAP_SC_CTL_EN [p.val, k.val] = false → (d.cap p.val k.val).fifo = [] →
        s.portDoes p (.lineFifoDiagPop p k) (d.put R.CAP_LF_HDR_HDR [p.val] 0)))
  ∧ (∀ (s : State) (p : Fin 8) (k : Fin 64) (w : FifoWord) (rest : List FifoWord) (d : Device), s.awake →
      s.dev.portPresent p.val = true → (s.dev.wake p.val).put R.CAP_LF_DIAG_FIFO [p.val] k.val = d →
      d.flag R.CAP_SC_CTL_EN [p.val, k.val] = false → (d.cap p.val k.val).fifo = w :: rest →
      (d.cap p.val k.val).owesDamaged = false → (d.cap p.val k.val).owesLostEol = false →
      s.portDoes p (.lineFifoDiagPop p k)
        ((((List.range 8).foldl (fun (d : Device) j => d.wr R.CAP_LF_DATA [p.val, j] (BitVec.ofNat 64 (fieldAt w.data (8 * j) 8)))
          ((d.setCap p.val k.val { d.cap p.val k.val with fifo := rest }).put R.CAP_LF_HDR_HDR [p.val] w.header)).finishReady
            p.val k.val).showCap p.val k.val))
  ∧ (∀ (s : State) (p : Fin 8), s.awake → s.dev.portPresent p.val = true → s.does (.fifoParityError p) (s.dev.portFault p.val 3))

/-- The manifest builder: seals, closes, signing, writing and releases (R261, R262, R263, R266, R268, R269). The enabled
builder takes the head seal of the slice that comes next, gives it the next entry number and puts it into the open
manifest; with a manifest held, one waiting and the open one full it drops the seal and counts it; without a seal or
disabled it does nothing; INTERVAL and FLUSH close the open manifest unless a close is deferred; the signer signs and
hands over its manifest while none is held; a held manifest is tried again 1 ms after a refusal; a release frees its
ring slot. -/
def Obligations.ManifestRows : Prop :=
  (∀ (s : State) (p : Nat) (x : SealX) (rest : List SealX), s.awake → s.dev.nextSeal = some p → (s.dev.bth p).seals = x :: rest →
      s.dev.sealUp = true → s.dev.flag R.MB_CTL_EN [] = true → s.dev.mb.waiting = none → s.dev.mb.signing = none →
      s.dev.mb.open_.entries.length + 1 < s.dev.maxEntries →
      ∃ d, s.does .sealAccept d ∧ (d.bth p).seals = rest ∧ d.mb.entry = skipEntry s.dev.mb.entry + 1
        ∧ d.mb.open_.entries = s.dev.mb.open_.entries ++ [sealEntry (skipEntry s.dev.mb.entry) p x])
  ∧ (∀ (s : State) (p : Nat) (x : SealX) (rest : List SealX) (d : Device), s.awake → s.dev.nextSeal = some p →
      (s.dev.bth p).seals = x :: rest → s.dev.sealUp = true → s.dev.flag R.MB_CTL_EN [] = true → s.dev.sealsRefused = true →
      (s.dev.setBth p { s.dev.bth p with seals := rest }).put R.MS_STAT_WAITING [p] rest.length = d →
      s.does .sealAccept (((d.bump R.MS_STAT_DROP [p]).bump R.MB_CNT_REFUSED []).modFrames p x.stream
        (fun f => decide (f.no = x.frame)) (fun f => { f with sealSt := 3 })))
  ∧ (∀ s : State, s.awake → s.dev.nextSeal = none ∨ s.dev.sealUp = false ∨ s.dev.flag R.MB_CTL_EN [] = false → s.does .sealAccept s.dev)
  ∧ (∀ s : State, s.awake → s.dev.sealUp = true → s.dev.flag R.MB_CTL_EN [] = true → s.dev.mb.deferred = none →
      (clamp 1000 4000000 (s.dev.get R.MB_INTERVAL_US []) * 1000 * 65536 : Nat) ≤ ttDiff s.dev.tt s.dev.mb.open_.openTT →
      s.dev.mb.open_.entries ≠ [] ∨ s.dev.flag R.MB_CTL_EMPTY_SKIP [] = false →
      s.does .manifestIntervalClose (s.dev.closeManifest 1 false))
  ∧ (∀ s : State, s.awake → s.dev.flag R.MB_CTL_EN [] = false ∨ s.dev.mb.deferred.isSome = true →
      s.does .manifestIntervalClose s.dev)
  ∧ (∀ (s : State) (d : Device), s.awake → (s.dev.wake 13).wr R.MB_CTL [] ((s.dev.wake 13).rd R.MB_CTL []) = d →
      (d.sealUp = true → d.flag R.MB_CTL_EN [] = true → d.mb.deferred = none → s.does .mbFlush (d.closeManifest 2 false))
      ∧ (d.flag R.MB_CTL_EN [] = false ∨ d.mb.deferred.isSome = true → s.does .mbFlush d))
  ∧ (∀ (s : State) (m : ManX) (d : Device), s.awake → s.dev.mb.signing = some m → s.dev.sealUp = true → s.dev.mb.held = none →
      (s.dev.signBytes m).2 = d →
      s.does .manifestSigned
        (d.setMb { d.mb with signing := none, held := some (m, (s.dev.signBytes m).1), refusedAt := none }).manifestFlow)
  ∧ (∀ s : State, s.awake → s.dev.mb.signing = none ∨ s.dev.mb.held.isSome = true → s.does .manifestSigned s.dev)
  ∧ (∀ s : State, s.awake → s.dev.mb.held.isSome = true → s.dev.mayRetry = true → s.does .manifestWriteRetry s.dev.manifestFlow)
  ∧ (∀ s : State, s.awake → s.dev.mb.held = none ∨ s.dev.mayRetry = false → s.does .manifestWriteRetry s.dev)
  ∧ (∀ (s : State) (slot : Nat), s.awake → slot < 64 → s.does (.mbRelWrite slot) ((s.dev.wake 13).mbRelease slot))

/-- The Palette: frames, prefetched lines, lines and packets going out (R275, R276, R277, R280, R282, R283, R286). On a
port that is present with its Palette: a frame starts at its S, the pending writes adopted no later taking their
values first and the frames already under way keeping theirs; a line is fetched from PREFETCH_NS before its send time
on while EMIT is 1 and the port is not idle; the unit whose time comes first goes out when due, a line or an edge unit
by PAL_LINE_SEND, a paced packet by PAL_PACKET_RELEASE, under the configuration of its own frame; nothing goes out
while the booth is idle, before its time, or where another channel goes first. -/
def Obligations.PaletteRows : Prop :=
  (∀ (s : State) (p : Fin 8) (c : Fin 4), s.awake → s.dev.portPresent p.val = true → s.dev.emitPresent p.val = true →
      s.dev.palStartDue p.val c.val = none → s.portDoes p (.palFrameStart p c) s.dev)
  ∧ (∀ (s : State) (p : Fin 8) (c : Fin 4) (t : TT) (d e : Device), s.awake → s.dev.portPresent p.val = true →
      s.dev.emitPresent p.val = true → s.dev.palStartDue p.val c.val = some t → s.dev.settleAt t (palAddr p.val c.val) = d →
      d.setPal p.val c.val { d.pal p.val c.val with frames := (d.pal p.val c.val).frames.map (fun fr =>
        fr.keep (s.dev.wordsAt ((s.dev.palPending p.val c.val t).map (·.1)))) } = e →
      (e.flag R.PAL_CH_CTL_EN [p.val, c.val] = true → s.portDoes p (.palFrameStart p c) (e.palBegin s.dev p.val c.val t))
      ∧ (e.flag R.PAL_CH_CTL_EN [p.val, c.val] = false →
          s.portDoes p (.palFrameStart p c) (e.setPal p.val c.val { e.pal p.val c.val with due := none })))
  ∧ (∀ (s : State) (p : Fin 8) (c : Fin 4) (i : Nat), s.awake → s.dev.portPresent p.val = true → s.dev.emitPresent p.val = true →
      s.dev.flag R.PP_CTL_EMIT [p.val] = false ∨ s.dev.palIdle p.val = true → s.portDoes p (.palLinePrefetch p c i) s.dev)
  ∧ (∀ (s : State) (p : Fin 8) (c : Fin 4) (i : Nat) (fr : PalFrame) (rest : List PalFrame), s.awake → s.dev.portPresent p.val = true →
      s.dev.emitPresent p.val = true → s.dev.flag R.PP_CTL_EMIT [p.val] = true → s.dev.palIdle p.val = false →
      (s.dev.pal p.val c.val).frames = fr :: rest →
      (s.dev.seenBy fr).palFetchable p.val c.val fr i = true →
      s.portDoes p (.palLinePrefetch p c i) (s.dev.under fr (fun d => d.palFetch p.val c.val fr i)))
  ∧ (∀ (s : State) (p : Fin 8) (c : Fin 4) (w : Nat), s.awake → s.dev.portPresent p.val = true → s.dev.emitPresent p.val = true →
      s.dev.palNext p.val c.val = none ∨ s.dev.palIdle p.val = true →
      s.portDoes p (.palLineSend p c w) s.dev ∧ s.portDoes p (.palPacketRelease p c w) s.dev)
  ∧ (∀ (s : State) (p : Fin 8) (c : Fin 4) (w : Nat) (fr : PalFrame) (t : TT), s.awake → s.dev.portPresent p.val = true →
      s.dev.emitPresent p.val = true → s.dev.palNext p.val c.val = some (fr, t) →
      ttGe s.dev.tt t = false ∨ s.dev.palYields p.val c.val t = true →
      s.portDoes p (.palLineSend p c w) s.dev ∧ s.portDoes p (.palPacketRelease p c w) s.dev)
  ∧ (∀ (s : State) (p : Fin 8) (c : Fin 4) (w : Nat) (fr : PalFrame) (t : TT) (e : Device), s.awake →
      s.dev.portPresent p.val = true → s.dev.emitPresent p.val = true → s.dev.palNext p.val c.val = some (fr, t) →
      s.dev.palIdle p.val = false → ttGe s.dev.tt t = true → s.dev.palYields p.val c.val t = false →
      (s.dev.seenBy fr).palEdge p.val c.val fr = false → (s.dev.seenBy fr).palPaced p.val c.val = false →
      s.dev.under fr (fun d => d.palLineGo p.val c.val w fr ((d.palPlan p.val c.val fr).getD t)) = e →
      (e.pal p.val c.val).frames ≠ [] ∨ e.flag R.PAL_CH_CTL_EN [p.val, c.val] = true →
      s.portDoes p (.palLineSend p c w) (e.emitNet p.val) ∧ s.portDoes p (.palPacketRelease p c w) s.dev)
  ∧ (∀ (s : State) (p : Fin 8) (c : Fin 4) (w : Nat) (fr : PalFrame) (t : TT) (e : Device), s.awake →
      s.dev.portPresent p.val = true → s.dev.emitPresent p.val = true → s.dev.palNext p.val c.val = some (fr, t) →
      s.dev.palIdle p.val = false → ttGe s.dev.tt t = true → s.dev.palYields p.val c.val t = false →
      (s.dev.seenBy fr).palEdge p.val c.val fr = true →
      s.dev.under fr (fun d => d.palEdgeGo p.val c.val w fr ((d.palPlan p.val c.val fr).getD t)) = e →
      (e.pal p.val c.val).frames ≠ [] ∨ e.flag R.PAL_CH_CTL_EN [p.val, c.val] = true →
      s.portDoes p (.palLineSend p c w) (e.emitNet p.val) ∧ s.portDoes p (.palPacketRelease p c w) s.dev)
  ∧ (∀ (s : State) (p : Fin 8) (c : Fin 4) (w : Nat) (fr : PalFrame) (t : TT) (e : Device), s.awake →
      s.dev.portPresent p.val = true → s.dev.emitPresent p.val = true → s.dev.palNext p.val c.val = some (fr, t) →
      s.dev.palIdle p.val = false → ttGe s.dev.tt t = true → s.dev.palYields p.val c.val t = false →
      (s.dev.seenBy fr).palEdge p.val c.val fr = false → (s.dev.seenBy fr).palPaced p.val c.val = true →
      s.dev.under fr (fun d => d.palPacketGo p.val c.val w fr ((d.palPlan p.val c.val fr).getD t)) = e →
      (e.pal p.val c.val).frames ≠ [] ∨ e.flag R.PAL_CH_CTL_EN [p.val, c.val] = true →
      s.portDoes p (.palPacketRelease p c w) (e.emitNet p.val) ∧ s.portDoes p (.palLineSend p c w) s.dev)

/-- Carousel: doorbells, context port, append port, take and messages (R294, R298, R299, R301, R302, R427). A DB_PROD
write within the ring of an open command queue is adopted with its watermark and raises the mailbox interrupt; a
DB_CONS write inside the level is adopted, rearms and lets held appends go on; one out of range errors the queue with
code 2; a read of DB_WM gives WM_HIT and PEAK and restarts them; REARM sets IRQ_ARMED. LOAD shows the context in the
data registers, STORE replaces it where its checks hold. The last word of an entry written to the append port appends
it and RESULT says how that went; TAKE reads the entry at CONS and advances CONS, or says why not, and waits while Bus
Master is 0. A queue whose coalescing is due signals; a pending vector sends one message when nothing holds it any
more. -/
def Obligations.QueueRows : Prop :=
  (∀ (s : State) (q : Fin 1048576) (prod : BitVec 32) (c : QCtx), s.awake → s.dev.hostReach = true → s.dev.doorbellOpen q.val = true →
      s.dev.ctx q.val = c → c.kind = 1 → seq32Ge prod c.prod = true → (prod - c.cons).toInt ≤ (2 ^ c.log2 : Nat) →
      ∃ d, s.does (.doorbellProdWrite q prod) d ∧ d.ctx q.val = ({ c with prod := prod } : QCtx).watermark
        ∧ d.flag R.RM_IRQ_PEND_MBOX [] = true ∧ d.hostMem = s.dev.hostMem ∧ d.hbm = s.dev.hbm)
  ∧ (∀ (s : State) (q : Fin 1048576) (prod : BitVec 32) (c : QCtx), s.awake → s.dev.hostReach = true → s.dev.doorbellOpen q.val = true →
      s.dev.ctx q.val = c → c.kind = 1 → seq32Ge prod c.prod = false ∨ (2 ^ c.log2 : Nat) < (prod - c.cons).toInt →
      s.does (.doorbellProdWrite q prod) ((s.dev.touch q.val).queueError q.val 2))
  ∧ (∀ (s : State) (q : Fin 1048576) (prod : BitVec 32), s.awake →
      s.dev.hostReach = false ∨ s.dev.doorbellOpen q.val = false ∨ (s.dev.ctx q.val).kind ≠ 1 →
      s.does (.doorbellProdWrite q prod) s.dev)
  ∧ (∀ (s : State) (q : Fin 1048576) (cons : BitVec 32) (c : QCtx), s.awake → s.dev.hostReach = true →
      s.dev.doorbellOpen q.val = true → s.dev.ctx q.val = c → 2 ≤ c.kind → seq32Ge cons c.cons = true → seq32Ge c.prod cons = true →
      s.does (.doorbellConsWrite q cons)
        ((((s.dev.touch q.val).setCtx q.val ({ c with cons := cons } : QCtx).watermark).rearm q.val).queueFlows q.val))
  ∧ (∀ (s : State) (q : Fin 1048576) (cons : BitVec 32) (c : QCtx), s.awake → s.dev.hostReach = true →
      s.dev.doorbellOpen q.val = true → s.dev.ctx q.val = c → 2 ≤ c.kind → seq32Ge cons c.cons = false ∨ seq32Ge c.prod cons = false →
      s.does (.doorbellConsWrite q cons) ((s.dev.touch q.val).queueError q.val 2))
  ∧ (∀ (s : State) (q : Fin 1048576) (cons : BitVec 32), s.awake →
      s.dev.hostReach = false ∨ s.dev.doorbellOpen q.val = false ∨ (s.dev.ctx q.val).kind ≤ 1 →
      s.does (.doorbellConsWrite q cons) s.dev)
  ∧ (∀ (s : State) (q : Fin 1048576) (c : QCtx), s.awake → s.dev.hostReach = true → s.dev.ctx q.val = c → c.kind ≠ 0 →
      ∃ d, s.does (.dbWmRead q) d ∧ d.ctx q.val = { c with wmHit := false, peak := c.level }
        ∧ d.hst.lastRead = (0, layout [(4, b2n c.wmHit), (4, c.peak)]) ∧ d.hostMem = s.dev.hostMem)
  ∧ (∀ (s : State) (q : Fin 1048576), s.awake → s.dev.hostReach = true → (s.dev.ctx q.val).kind = 0 →
      s.does (.dbWmRead q) (s.dev.completeRead 0 (zeros 8)))
  ∧ (∀ (s : State) (q : Fin 1048576), s.awake → s.dev.hostReach = true → s.dev.doorbellOpen q.val = true → (s.dev.ctx q.val).level = 0 →
      ∃ d, s.does (.dbRearm q) d ∧ d.ctx q.val = { s.dev.ctx q.val with irqArmed := true } ∧ d.hostMem = s.dev.hostMem)
  ∧ (∀ (s : State) (q : Fin 1048576), s.awake → s.dev.hostReach = true → s.dev.doorbellOpen q.val = true → 0 < (s.dev.ctx q.val).level →
      (s.dev.ctx q.val).vector ≠ 0xFFFF →
      s.does (.dbRearm q) (((s.dev.touch q.val).setCtx q.val { s.dev.ctx q.val with irqArmed := true }).signal q.val))
  ∧ (∀ (s : State) (q : Nat), s.awake → s.dev.get R.CAR_CTX_SEL_QUEUE [] = q →
      ∃ d, s.does .carCtxLoad d ∧ (∀ k : Fin 8, d.rd R.CAR_CTX_DATA [k.val] = BitVec.ofNat 64 (fieldAt (s.dev.ctx q).bytes (8 * k.val) 8))
        ∧ (∀ j, d.ctx j = s.dev.ctx j) ∧ d.hostMem = s.dev.hostMem ∧ d.hbm = s.dev.hbm)
  ∧ (∀ (s : State) (q : Nat) (c : QCtx), s.awake → s.dev.get R.CAR_CTX_SEL_QUEUE [] = q → QCtx.ofBytes s.dev.ctxPortBytes = c →
      ctxRefused q c = false →
      ∃ d : Device, s.does .carCtxStore (d.queueFlows q) ∧ d.ctx q = { c with pin := c.pin && (decide (s.dev.pinned < 4096) || (s.dev.ctx q).pin) }
        ∧ (∀ j, j ≠ q → d.ctx j = s.dev.ctx j))
  ∧ (∀ (s : State) (q : Nat) (c : QCtx), s.awake → s.dev.get R.CAR_CTX_SEL_QUEUE [] = q → QCtx.ofBytes s.dev.ctxPortBytes = c →
      ctxRefused q c = true →
      ∃ d : Device, s.does .carCtxStore (d.queueFlows q) ∧ d.flag R.CAR_CTX_CMD_ERR [] = true ∧ (∀ j, d.ctx j = s.dev.ctx j))
  ∧ (∀ (s : State) (v : Word) (q n : Nat) (d : Device), s.awake → s.dev.get R.CAR_APP_Q_QUEUE [] = q →
      esizeBytes (s.dev.ctx q).esize / 8 - 1 = n → s.dev.wr R.CAR_APP_DATA [n] v = d →
      ((s.dev.ctx q).kind ≠ 2 → (s.dev.ctx q).kind ≠ 5 → s.does (.carAppend v) (d.put R.CAR_APP_STAT_RESULT [] 3))
      ∧ ((s.dev.ctx q).kind = 2 ∨ (s.dev.ctx q).kind = 5 → d.appendsStopped q = true →
          s.does (.carAppend v) (d.put R.CAR_APP_STAT_RESULT [] 1)))
  ∧ (∀ (s : State) (v : Word) (q n : Nat) (d e : Device) (bs : List Byte) (r : Append), s.awake → s.dev.get R.CAR_APP_Q_QUEUE [] = q →
      esizeBytes (s.dev.ctx q).esize / 8 - 1 = n → s.dev.wr R.CAR_APP_DATA [n] v = d →
      (s.dev.ctx q).kind = 2 ∨ (s.dev.ctx q).kind = 5 → d.appendsStopped q = false →
      ((List.range 16).flatMap (fun k => leBytes 8 (d.rd R.CAR_APP_DATA [k]).toNat)).take (esizeBytes (s.dev.ctx q).esize) = bs →
      d.append q (s.dev.ctx q).kind bs = (r, e) →
      s.does (.carAppend v) (e.put R.CAR_APP_STAT_RESULT []
        (match r with | .appended => 0 | .stalled => 0 | .full => 1 | .error => 2 | .mismatch => 3)))
  ∧ (∀ (s : State) (q : Nat) (bs : List Byte) (d e : Device), s.awake → s.dev.wake 8 = e → e.get R.CAR_TAKE_Q_QUEUE [] = q →
      (e.linkFree = false → s.does .carTake { e with dlv := { e.dlv with takeDue := some q } })
      ∧ (e.linkFree = true → e.takeEntry q = (1, bs, d) → s.does .carTake (d.put R.CAR_TAKE_CMD_RESULT [] 1))
      ∧ (e.linkFree = true → e.takeEntry q = (2, bs, d) → s.does .carTake (d.put R.CAR_TAKE_CMD_RESULT [] 2)))
  ∧ (∀ (s : State) (q : Nat) (c : QCtx), s.awake → s.dev.get R.CAR_TAKE_Q_QUEUE [] = q → s.dev.linkFree = true → s.dev.ctx q = c →
      c.kind = 1 → c.error = false → c.level ≠ 0 → s.dev.takeAdmitted q = true →
      ∃ d, s.does .carTake d ∧ d.get R.CAR_TAKE_CMD_RESULT [] = 0
        ∧ d.ctx q = ({ c with cons := c.cons + 1, count := c.count + 1 } : QCtx).watermark
        ∧ ∀ k : Fin 8, d.rd R.CAR_TAKE_DATA [k.val]
            = BitVec.ofNat 64 (fieldAt (s.dev.hostRead (c.entryAddr c.cons) 64) (8 * k.val) 8))
  ∧ (∀ (s : State) (q : Fin 1048576) (c : QCtx), s.awake → s.dev.ctx q.val = c → c.irqArmed = true → c.vector ≠ 0xFFFF → 0 < c.unsig →
      max 1 c.coalN ≤ c.unsig ∨ 0 < c.coalUs ∧ (c.coalUs * 1000 * 65536 : Int) ≤ ttDiff s.dev.tt c.oldest →
      s.does (.coalesceTimeout q) ((s.dev.setCtx q.val { c with unsig := 0, irqArmed := false }).message c.vector))
  ∧ (∀ (s : State) (q : Fin 1048576) (c : QCtx), s.awake → s.dev.ctx q.val = c →
      c.irqArmed = false ∨ c.vector = 0xFFFF ∨ c.unsig = 0
        ∨ c.unsig < max 1 c.coalN ∧ (c.coalUs = 0 ∨ ttDiff s.dev.tt c.oldest < (c.coalUs * 1000 * 65536 : Int)) →
      s.does (.coalesceTimeout q) s.dev)
  ∧ (∀ (s : State), s.awake → ∃ d, s.does .msixPendingSend d ∧ (∀ v, (d.vec v).pending = true → d.msixHeld v = true)
      ∧ (∀ v, (d.vec v).addr = (s.dev.vec v).addr ∧ (d.vec v).data = (s.dev.vec v).data ∧ (d.vec v).masked = (s.dev.vec v).masked))

/-- DMA channels, and reads of host memory that fail (R305, R306, R308, R309, R310, R312, R428, R433). ARM arms the shadow
set, which an idle unpaused channel takes over at once, or is counted ignored; DISARM clears it; PAUSE holds a set
that is active, a resumed set goes back to its engine, and a running transfer stops after what it moved so far; a
transfer that the bucket and the link let end writes its last byte, frees the engine and appends its record, one with
a bad source word faults its engine instead; a read error faults the engine where the transfer reads host memory; a
failed ring read errors the queue with code 3, and a failed input read answers DISCARDED. -/
def Obligations.DmaRows : Prop :=
  (∀ (s : State) (e : Fin 32) (c : Fin 16) (d : Device), s.awake → s.dev.wake 8 = d →
      (d.flag R.DMA_CH_CTL_ARM [e.val, c.val] = true →
        s.does (.dmaArmWrite e c) (d.bump R.DMA_CH_STAT_ARM_IGNORED [e.val, c.val]))
      ∧ (d.flag R.DMA_CH_CTL_ARM [e.val, c.val] = false → d.mayHandover e.val c.val = true →
        s.does (.dmaArmWrite e c) (((d.setFlag R.DMA_CH_CTL_ARM [e.val, c.val] true).handover e.val c.val).engineTake e.val))
      ∧ (d.flag R.DMA_CH_CTL_ARM [e.val, c.val] = false → d.mayHandover e.val c.val = false →
        d.flag R.DMA_ENG_STAT_BUSY [e.val] = true →
        s.does (.dmaArmWrite e c) (d.setFlag R.DMA_CH_CTL_ARM [e.val, c.val] true)))
  ∧ (∀ (s : State) (e : Fin 32) (c : Fin 16), s.awake →
      s.does (.dmaDisarmWrite e c) ((s.dev.wake 8).setFlag R.DMA_CH_CTL_ARM [e.val, c.val] false))
  ∧ (∀ (s : State) (e : Fin 32) (c : Fin 16) (d : Device), s.awake →
      (s.dev.wake 8).setFlag R.DMA_CH_CTL_PAUSE [e.val, c.val] true = d →
      (d.chState e.val c.val = 1 → s.does (.dmaPauseWrite e c true) (d.setChState e.val c.val 3))
      ∧ (d.chState e.val c.val ≠ 1 → s.does (.dmaPauseWrite e c true) d))
  ∧ (∀ (s : State) (e : Fin 32) (c : Fin 16) (d : Device), s.awake →
      (s.dev.wake 8).setFlag R.DMA_CH_CTL_PAUSE [e.val, c.val] false = d →
      (s.dev.flag R.DMA_CH_CTL_PAUSE [e.val, c.val] = false → s.does (.dmaPauseWrite e c false) d)
      ∧ (s.dev.flag R.DMA_CH_CTL_PAUSE [e.val, c.val] = true → d.chState e.val c.val = 3 →
          s.does (.dmaPauseWrite e c false) ((d.setChState e.val c.val 1).engineTake e.val))
      ∧ (s.dev.flag R.DMA_CH_CTL_PAUSE [e.val, c.val] = true → d.chState e.val c.val ≠ 3 →
          s.does (.dmaPauseWrite e c false) (d.channelRuns e.val c.val)))
  ∧ (∀ (s : State) (e : Fin 32) (n c : Nat) (d : Device), s.awake → s.dev.runningChan e.val = some c →
      s.dev.flag R.DMA_CH_CTL_PAUSE [e.val, c] = true → n < s.dev.get R.DMA_CH_A_LEN_LEN [e.val, c] →
      s.dev.bucketLets e.val c n = true → s.dev.progress e.val c n = d →
      s.does (.dmaPauseDone e n)
        ((((d.setChan e.val c { d.chan e.val c with paused := true }).setChState e.val c 3).setFlag R.DMA_ENG_STAT_BUSY [e.val] false).engineTake e.val))
  ∧ (∀ (s : State) (e : Fin 32) (n : Nat), s.awake → s.dev.runningChan e.val = none →
      s.does (.dmaPauseDone e n) s.dev ∧ s.does (.dmaTransferEnd e) s.dev)
  ∧ (∀ (s : State) (e : Fin 32) (n c : Nat), s.awake → s.dev.runningChan e.val = some c →
      s.dev.flag R.DMA_CH_CTL_PAUSE [e.val, c] = false ∨ s.dev.get R.DMA_CH_A_LEN_LEN [e.val, c] ≤ n
        ∨ s.dev.bucketLets e.val c n = false → s.does (.dmaPauseDone e n) s.dev)
  ∧ (∀ (s : State) (e : Fin 32) (n c : Nat) (d : Device), s.awake → s.dev.runningChan e.val = some c →
      s.dev.get R.DMA_CH_A_LEN_LEN [e.val, c] = n → s.dev.dmaStalled e.val c = false → s.dev.bucketLets e.val c n = true →
      s.dev.badSource e.val c = none → (s.dev.progress e.val c n).setFlag R.DMA_ENG_STAT_BUSY [e.val] false = d →
      ((d.emitRecord e.val c).1 = true →
        s.does (.dmaTransferEnd e) ((((d.emitRecord e.val c).2.setChState e.val c 0).channelRuns e.val c).engineTake e.val))
      ∧ ((d.emitRecord e.val c).1 = false → s.does (.dmaTransferEnd e) ((d.emitRecord e.val c).2.engineTake e.val)))
  ∧ (∀ (s : State) (e : Fin 32) (n c w : Nat), s.awake → s.dev.runningChan e.val = some c →
      s.dev.get R.DMA_CH_A_LEN_LEN [e.val, c] = n → s.dev.dmaStalled e.val c = false → s.dev.bucketLets e.val c n = true →
      s.dev.badSource e.val c = some w → s.does (.dmaTransferEnd e) ((s.dev.memErr true 1 8 e.val w).engineFault e.val 2))
  ∧ (∀ (s : State) (e : Fin 32) (n c : Nat), s.awake → s.dev.runningChan e.val = some c →
      s.dev.get R.DMA_CH_A_LEN_LEN [e.val, c] = n → s.dev.dmaStalled e.val c = true ∨ s.dev.bucketLets e.val c n = false →
      s.does (.dmaTransferEnd e) s.dev)
  ∧ (∀ (s : State) (r : EngineRead) (c : Nat), s.awake → s.dev.runningChan r.engine.val = some c →
      s.dev.flag R.DMA_CH_A_OPT_SRC_SPACE [r.engine.val, c] = false → s.dev.readFails r.kind = true →
      s.does (.dmaReadCompletionError r) ((s.dev.aerLog r.kind).engineFault r.engine.val 4))
  ∧ (∀ (s : State) (r : EngineRead), s.awake →
      (∀ c, s.dev.runningChan r.engine.val = some c → s.dev.flag R.DMA_CH_A_OPT_SRC_SPACE [r.engine.val, c] = true ∨ s.dev.readFails r.kind = false) →
      s.does (.dmaReadCompletionError r) s.dev)
  ∧ (∀ (s : State) (r : RingRead), s.awake → s.dev.readFails r.kind = true → (s.dev.ctx r.queue.val).kind = 1 →
      (s.dev.ctx r.queue.val).error = false →
      s.does (.queueReadCompletionError r none) ((s.dev.aerLog r.kind).queueError r.queue.val 3))
  ∧ (∀ (s : State) (r : RingRead) (op : Nat) (e : Entry), s.awake → s.dev.readFails r.kind = true → e.hostBuf = true →
      s.does (.queueReadCompletionError r (some (op, e)))
        ((s.dev.aerLog r.kind).runCommand { opcode := op, needsIn := true } e true (fun d => d.no stDISCARDED)))
  ∧ (∀ (s : State) (r : RingRead) (x : Option (Nat × Entry)), s.awake → s.dev.readFails r.kind = false →
      s.does (.queueReadCompletionError r x) s.dev)

/-- The time base: rate, steps, slews, snapshot, PLL and reference (R322, R323, R324, R326, R328, R331, R336, R338). A
TB_INCR write is clamped to its limits and CLAMPED shows it; a step request is taken unless one waits or LOAD comes
without AT; a due step is made and reported, and a due LOAD brings a servo that acquires on; a slew adds to the one
under way and ends at nothing left; the end of a slew and the wrap of TT come with the clock edge that brings them; a
snapshot holds TT, ERA and the wall time of one instant; the PLL locks once, its timeout starts the clock without it,
and the reference is lost and found again. -/
def Obligations.TimeBaseRows : Prop :=
  (∀ (s : State) (v : BitVec 40), s.awake → incrMin ≤ v.toNat → v.toNat ≤ incrMax →
      ∃ d, s.does (.tbIncrWrite v) d ∧ d.get R.TB_INCR_INCR [] = v.toNat ∧ d.tim = s.dev.tim
        ∧ d.flag R.TB_STAT_CLAMPED [] = s.dev.flag R.TB_STAT_CLAMPED [])
  ∧ (∀ (s : State) (v : BitVec 40), s.awake → v.toNat < incrMin ∨ incrMax < v.toNat →
      ∃ d, s.does (.tbIncrWrite v) d ∧ d.get R.TB_INCR_INCR [] = (if v.toNat < incrMin then incrMin else incrMax)
        ∧ d.flag R.TB_STAT_CLAMPED [] = true ∧ d.tim = s.dev.tim)
  ∧ (∀ (s : State), s.awake → s.dev.tim.time.step.isSome = true
        ∨ s.dev.flag R.TB_STEP_CTL_LOAD [] = true ∧ s.dev.flag R.TB_STEP_CTL_AT [] = false →
      ∃ d, s.does .tbStepGo d ∧ d.flag R.TB_STAT_CFG_BAD [] = true ∧ d.tim = s.dev.tim)
  ∧ (∀ (s : State), s.awake → s.dev.tim.time.step = none →
      s.dev.flag R.TB_STEP_CTL_LOAD [] = false ∨ s.dev.flag R.TB_STEP_CTL_AT [] = true →
      ∃ d, s.does .tbStepGo d ∧ d.flag R.TB_STEP_CTL_BUSY [] = true ∧ d.flag R.TB_STAT_STEP_PEND [] = true
        ∧ d.tim.time = { s.dev.tim.time with step := some {
              load := s.dev.flag R.TB_STEP_CTL_LOAD [], both := s.dev.flag R.TB_STEP_CTL_BOTH [],
              atTT := if s.dev.flag R.TB_STEP_CTL_AT [] then some (s.dev.rd R.TB_STEP_AT []) else none,
              amt := (s.dev.rd R.TB_STEP_AMT []).toInt, sec := s.dev.get R.TB_STEP_SEC_SEC [],
              ns := s.dev.get R.TB_STEP_NS_NS [], frac := s.dev.get R.TB_STEP_NS_FRAC [] } })
  ∧ (∀ (s : State), s.awake → s.dev.stepDue = false → s.does .tbStepApply s.dev)
  ∧ (∀ (s : State) (r : StepReq) (d e : Device), s.awake → s.dev.tim.time.step = some r → s.dev.stepDue = true → r.load = false →
      (if r.both then (s.dev.moveWall r.amt).moveTT r.amt else s.dev.moveWall r.amt) = d →
      (d.setTime { d.tim.time with step := none }).showTime = e →
      s.does .tbStepApply ((((e.wr R.TB_STEP_TT [] e.tt).setFlag R.TB_STEP_CTL_BUSY [] false).setFlag R.TB_STAT_STEP_PEND [] false).finish
        0x0A01 [] 0 (layout [(8, e.tt.toNat), (4, e.get R.TB_ERA_ERA [])])))
  ∧ (∀ (s : State) (r : StepReq) (e f : Device), s.awake → s.dev.tim.time.step = some r → s.dev.stepDue = true → r.load = true →
      ((s.dev.loadTime r).setTime { (s.dev.loadTime r).tim.time with step := none }).showTime = e →
      ((e.wr R.TB_STEP_TT [] e.tt).setFlag R.TB_STEP_CTL_BUSY [] false).setFlag R.TB_STAT_STEP_PEND [] false = f →
      (e.tim.servo.state ≠ 1 → s.does .tbStepApply (f.finish 0x0A01 [] 0 (layout [(8, e.tt.toNat), (4, e.get R.TB_ERA_ERA [])])))
      ∧ (e.tim.servo.state = 1 →
        s.does .tbStepApply (({ f with tim := { f.tim with servo := { f.tim.servo with state := 2, samples := 0 } } } : Device).finish
          0x0A01 [] 0 (layout [(8, e.tt.toNat), (4, e.get R.TB_ERA_ERA [])]))))
  ∧ (∀ (s : State) (rem : Int), s.awake →
      (if s.dev.tim.time.slewing then s.dev.tim.time.slewRem else 0) + (s.dev.rd R.TB_SLEW_AMT []).toInt * 65536 = rem → rem ≠ 0 →
      ∃ d, s.does .tbSlewGo d ∧ d.flag R.TB_STAT_SLEWING [] = true
        ∧ d.tim.time = { s.dev.tim.time with slewRem := rem, slewBoth := s.dev.flag R.TB_SLEW_CTL_BOTH []
                                             slewRate := s.dev.get R.TB_SLEW_CTL_RATE [], slewing := true })
  ∧ (∀ (s : State), s.awake →
      (if s.dev.tim.time.slewing then s.dev.tim.time.slewRem else 0) + (s.dev.rd R.TB_SLEW_AMT []).toInt * 65536 = 0 →
      ∃ d : Device, s.does .tbSlewGo d.slewReport ∧ d.flag R.TB_STAT_SLEWING [] = false ∧ d.tim.time.slewing = false)
  ∧ (∀ (s : State), s.awake → s.dev.tim.time.slewing = true →
      ∃ d : Device, s.does .tbSlewAbort d.slewReport ∧ d.flag R.TB_STAT_SLEWING [] = false
        ∧ d.tim.time = { s.dev.tim.time with slewing := false }
        ∧ d.rd R.TB_SLEW_REM [] = BitVec.ofInt 64 (s.dev.tim.time.slewRem / 65536))
  ∧ (∀ (s : State), s.awake → s.dev.tim.time.slewing = false →
      ∃ d, s.does .tbSlewAbort d ∧ d.tim = s.dev.tim ∧ d.flag R.TB_STAT_SLEWING [] = s.dev.flag R.TB_STAT_SLEWING [])
  ∧ (∀ (s : State), s.awake → (s.dev.tickEndsSlew = true → s.does .slewDone s.dev.tick)
      ∧ (s.dev.tickEndsSlew = false → s.does .slewDone s.dev))
  ∧ (∀ (s : State), s.awake → (s.dev.tickWraps = true → s.does .ttWrap s.dev.tick) ∧ (s.dev.tickWraps = false → s.does .ttWrap s.dev))
  ∧ (∀ (s : State), s.awake →
      ∃ d, s.does .tbSnapGo d ∧ d.rd R.TB_SNAP_TT [] = s.dev.tt ∧ d.get R.TB_SNAP_ERA_ERA [] = s.dev.get R.TB_ERA_ERA [] % 2 ^ 32
        ∧ d.get R.TB_SNAP_SEC_SEC [] = s.dev.tim.time.wtSec % 2 ^ 48 ∧ d.get R.TB_SNAP_NS_NS [] = s.dev.wtNs % 2 ^ 32
        ∧ d.get R.TB_SNAP_NS_FRAC [] = s.dev.wtFrac % 2 ^ 16 ∧ d.flag R.TB_SNAP_CTL_DONE [] = true ∧ d.tim = s.dev.tim)
  ∧ (∀ (s : State) (ref25 : Bool), s.awake → s.dev.flag R.TB_STAT_PLL_LOCK [] = false → s.dev.clockRuns = false →
      ∃ d, s.does (.tbPllLock ref25) d ∧ d.flag R.TB_STAT_PLL_LOCK [] = true ∧ d.flag R.TB_STAT_REF_SEL [] = ref25
        ∧ d.tim.time = { s.dev.tim.time with running := true })
  ∧ (∀ (s : State) (ref25 : Bool), s.awake → s.dev.flag R.TB_STAT_PLL_LOCK [] = true ∨ s.dev.clockRuns = true →
      s.does (.tbPllLock ref25) s.dev)
  ∧ (∀ (s : State), s.awake → s.dev.clockRuns = false →
      ∃ d, s.does .tbLockTimeout d ∧ d.flag R.TB_STAT_REF_LOST [] = true ∧ d.flag R.TB_STAT_REF_LOST_SEEN [] = true
        ∧ d.tim.time = { s.dev.tim.time with running := true })
  ∧ (∀ (s : State), s.awake → s.dev.clockRuns = true → s.does .tbLockTimeout s.dev)
  ∧ (∀ (s : State), s.awake →
      ∃ d, s.does .refclkLost d ∧ d.flag R.TB_STAT_REF_LOST [] = true ∧ d.flag R.TB_STAT_REF_LOST_SEEN [] = true ∧ d.tim = s.dev.tim)
  ∧ (∀ (s : State), s.awake → s.dev.flag R.TB_STAT_REF_LOST [] = true →
      ∃ d, s.does .refclkRelock d ∧ d.flag R.TB_STAT_REF_LOST [] = false ∧ d.flag R.TB_STAT_PLL_LOCK [] = true
        ∧ d.flag R.TB_STAT_REF_LOST_SEEN [] = s.dev.flag R.TB_STAT_REF_LOST_SEEN [] ∧ d.tim = s.dev.tim)
  ∧ (∀ (s : State), s.awake → s.dev.flag R.TB_STAT_REF_LOST [] = false → s.does .refclkRelock s.dev)

/-- Time references: PPS and 10 MHz in and out, and PTM (R333, R334, R335). An edge of PPS in of the chosen direction is
stamped to 1/128 ns, counted, marked NEW, counted as an overrun where the last one was not read, and fires its
channel; the first 10 MHz edge after it gives the phase; the PPS output rises when due and fires its channel, falls
when its width is over, and does not rise while disabled; a PTM dialogue starts where PTM is enabled and none is under
way, by GO or when the period of AUTO is over; its end gives T1, the master time and the propagation, or FAILED. -/
def Obligations.TimeReferenceRows : Prop :=
  (∀ (s : State) (t : TT) (rising : Bool), s.awake →
      s.dev.flag R.TP_CTL_PPS_IN_EN [] = false ∨ rising = s.dev.flag R.TP_CTL_PPS_IN_FALL [] →
      s.does (.ppsInEdge t rising) s.dev)
  ∧ (∀ (s : State) (t : TT) (rising : Bool), s.awake → s.dev.flag R.TP_CTL_PPS_IN_EN [] = true →
      rising ≠ s.dev.flag R.TP_CTL_PPS_IN_FALL [] →
      ∃ d : Device, s.does (.ppsInEdge t rising) (d.fireStampIf R.TP_EV_PPS_IN_EV_EN R.TP_EV_PPS_IN_EV [] (stamp128 t))
        ∧ d.rd R.TP_PPS_IN [] = stamp128 t ∧ d.flag R.TP_PPS_CNT_NEW [] = true
        ∧ d.get R.TP_PPS_CNT_EDGES [] = (s.dev.get R.TP_PPS_CNT_EDGES [] + 1) % 2 ^ R.TP_PPS_CNT_EDGES.width
        ∧ (s.dev.flag R.TP_PPS_CNT_NEW [] = false → d.get R.TP_PPS_CNT_OVERRUN [] = s.dev.get R.TP_PPS_CNT_OVERRUN [])
        ∧ (s.dev.flag R.TP_PPS_CNT_NEW [] = true →
            d.get R.TP_PPS_CNT_OVERRUN [] = min (2 ^ R.TP_PPS_CNT_OVERRUN.width - 1) (s.dev.get R.TP_PPS_CNT_OVERRUN [] + 1))
        ∧ d.tim = { s.dev.tim with time := { s.dev.tim.time with m10Wait := s.dev.flag R.TP_CTL_M10_IN_EN [] } })
  ∧ (∀ (s : State) (t : TT), s.awake → s.dev.flag R.TP_CTL_M10_IN_EN [] = true → s.dev.tim.time.m10Wait = true →
      ttGe (stamp128 t) (s.dev.rd R.TP_PPS_IN []) = true →
      s.does (.tenMhzInEdge t) ((s.dev.wr R.TP_10M_PHASE [] (stamp128 t)).setTime { s.dev.tim.time with m10Wait := false }))
  ∧ (∀ (s : State) (t : TT), s.awake → s.dev.flag R.TP_CTL_M10_IN_EN [] = false ∨ s.dev.tim.time.m10Wait = false
        ∨ ttGe (stamp128 t) (s.dev.rd R.TP_PPS_IN []) = false → s.does (.tenMhzInEdge t) s.dev)
  ∧ (∀ (s : State), s.awake → s.dev.tim.time.ppsOut = true →
      (ttGe s.dev.tt s.dev.tim.time.ppsFall = true →
        s.does .ppsOutEdge (s.dev.setTime { s.dev.tim.time with ppsOut := false, ppsDue := false }))
      ∧ (ttGe s.dev.tt s.dev.tim.time.ppsFall = false → s.does .ppsOutEdge s.dev))
  ∧ (∀ (s : State), s.awake → s.dev.tim.time.ppsOut = false → s.dev.tim.time.ppsDue = true →
      (s.dev.flag R.TP_CTL_PPS_OUT_EN [] = true →
        s.does .ppsOutEdge ((s.dev.setTime { s.dev.tim.time with ppsOut := true, ppsDue := false, ppsFall := s.dev.tt + ttNs s.dev.ppsWidth }).fireIf
          R.TP_EV_PPS_OUT_EV_EN R.TP_EV_PPS_OUT_EV []))
      ∧ (s.dev.flag R.TP_CTL_PPS_OUT_EN [] = false → s.does .ppsOutEdge (s.dev.setTime { s.dev.tim.time with ppsDue := false })))
  ∧ (∀ (s : State), s.awake → s.dev.tim.time.ppsOut = false → s.dev.tim.time.ppsDue = false → s.does .ppsOutEdge s.dev)
  ∧ (∀ (s : State), s.awake → s.dev.hst.ptmEnable = true → s.dev.tim.time.ptmBusy = false →
      ∃ d, s.does .ptmGo d ∧ d.tim = { s.dev.tim with time := { s.dev.tim.time with ptmBusy := true, ptmLast := s.dev.tt } }
        ∧ d.hst = s.dev.hst)
  ∧ (∀ (s : State), s.awake → s.dev.hst.ptmEnable = false ∨ s.dev.tim.time.ptmBusy = true →
      ∃ d, s.does .ptmGo d ∧ d.tim = s.dev.tim ∧ d.hst = s.dev.hst)
  ∧ (∀ (s : State) (ms : Nat), s.awake → max 1 (s.dev.get R.PTM_CTL_PERIOD_MS []) = ms →
      (s.dev.flag R.PTM_CTL_AUTO [] = true → (ms * 1000000 * 65536 : Nat) ≤ ttDiff s.dev.tt s.dev.tim.time.ptmLast →
        s.dev.hst.ptmEnable = true → s.dev.tim.time.ptmBusy = false →
        s.does .ptmAutoPeriod (s.dev.setTime { s.dev.tim.time with ptmBusy := true, ptmLast := s.dev.tt }))
      ∧ (s.dev.flag R.PTM_CTL_AUTO [] = false ∨ ttDiff s.dev.tt s.dev.tim.time.ptmLast < (ms * 1000000 * 65536 : Nat)
          ∨ s.dev.hst.ptmEnable = false ∨ s.dev.tim.time.ptmBusy = true → s.does .ptmAutoPeriod s.dev))
  ∧ (∀ (s : State) (t1 : TT) (master : Word) (prop : BitVec 32), s.awake → s.dev.tim.time.ptmBusy = true →
      ∃ d, s.does (.ptmDialogueDone true t1 master prop) d ∧ d.rd R.PTM_T1 [] = t1 ∧ d.rd R.PTM_MASTER [] = master
        ∧ d.get R.PTM_PROP_NS [] = prop.toNat ∧ d.flag R.PTM_STAT_VALID [] = true
        ∧ d.get R.PTM_STAT_SEQ [] = (s.dev.get R.PTM_STAT_SEQ [] + 1) % 2 ^ R.PTM_STAT_SEQ.width
        ∧ d.tim = { s.dev.tim with time := { s.dev.tim.time with ptmBusy := false } })
  ∧ (∀ (s : State) (t1 : TT) (master : Word) (prop : BitVec 32), s.awake → s.dev.tim.time.ptmBusy = true →
      ∃ d, s.does (.ptmDialogueDone false t1 master prop) d ∧ d.flag R.PTM_STAT_FAILED [] = true
        ∧ d.rd R.PTM_T1 [] = s.dev.rd R.PTM_T1 [] ∧ d.tim = { s.dev.tim with time := { s.dev.tim.time with ptmBusy := false } })
  ∧ (∀ (s : State) (good : Bool) (t1 : TT) (master : Word) (prop : BitVec 32), s.awake → s.dev.tim.time.ptmBusy = false →
      s.does (.ptmDialogueDone good t1 master prop) s.dev)

/-- Midway firings and the Barker programs (R343, R345, R347, R349, R350, R351, R355, R356, R357, R361). The owner of a
channel in FIRE mode fires it, any other write is counted refused; a firing that merges with another of its channel is
counted, else it is under way until its tick and then reaches every consumer input. A TIME program fires when its next
index is due, an act commits when its advance is reached, acts when its time has come (an event channel is fired, an
action is posted), and the record of a fire is written once; an action record is popped or sent by firmware as its
ACTION_CMD. -/
def Obligations.MidwayBarkerRows : Prop :=
  (∀ (s : State) (src : Src) (c : Fin 256) (d : Device), s.awake → src ≠ .host → s.dev.wake 11 = d → d.ownsChannel src c.val = true →
      d.chMode c.val = 1 →
      (d.firingMerges c.val = true → s.does (.mwFireWrite src c) (d.bump R.MW_CH_CNT_COLL [c.val]))
      ∧ (d.firingMerges c.val = false →
          s.does (.mwFireWrite src c) ((d.setMidway { d.tim.midway with
            flight := d.tim.midway.flight ++ [{ ch := c.val, tick := d.ticks, tt := d.tt, resync := !d.chAsync c.val, stamp := none }]
            lastTick := d.tim.midway.lastTick.put none c.val (some d.ticks) }).firingMarks c.val)))
  ∧ (∀ (s : State) (src : Src) (c : Fin 256) (d : Device), s.awake → src ≠ .host → s.dev.wake 11 = d →
      d.ownsChannel src c.val = false ∨ d.chMode c.val ≠ 1 →
      s.does (.mwFireWrite src c) (d.bump R.MW_STAT_REFUSED []))
  ∧ (∀ (s : State) (c : Fin 256), s.awake → s.does (.mwFireWrite .host c) s.dev)
  ∧ (∀ (s : State) (f : Firing) (d : Device), s.awake → s.dev.tim.midway.flight.find? s.dev.deliverable = some f →
      (s.dev.setMidway { s.dev.tim.midway with flight := s.dev.tim.midway.flight.erase f }).forwardFiring f.ch = d →
      s.does .midwayDeliver ((List.range 2048).foldl (fun d i => d.arriveAt f i) d))
  ∧ (∀ (s : State), s.awake → (∀ f ∈ s.dev.tim.midway.flight, s.dev.deliverable f = false) → s.does .midwayDeliver s.dev)
  ∧ (∀ (s : State) (p : Fin 32) (k : Nat) (d : Device), s.awake → s.dev.timeDue p.val = true → (s.dev.prog p.val).nextK = k →
      s.dev.makeFire p.val { fireAt (s.dev.schedule p.val k) with index := k } = d →
      s.does (.barkerTimeFire p) (((d.setProg p.val { d.prog p.val with nextK := k + 1 }).showNext p.val).settleProg p.val))
  ∧ (∀ (s : State) (p : Fin 32), s.awake → s.dev.timeDue p.val = false → s.does (.barkerTimeFire p) s.dev)
  ∧ (∀ (s : State) (p : Fin 32) (t : Fin 4) (f : Fire) (a : Act), s.awake → (s.dev.prog p.val).fires = [f] → f.acts[t.val]? = some a →
      a.committed = false → ttGe s.dev.tt (a.time - s.dev.advance a.kind a.index) = true →
      s.does (.barkerActCommit p t) ((s.dev.commitAct p.val f.count t.val s.dev.tickSlack).settleProg p.val))
  ∧ (∀ (s : State) (p : Fin 32) (t : Fin 4), s.awake →
      (∀ f ∈ (s.dev.prog p.val).fires, ∀ a, f.acts[t.val]? = some a →
        a.committed = true ∨ ttGe s.dev.tt (a.time - s.dev.advance a.kind a.index) = false) →
      s.does (.barkerActCommit p t) s.dev)
  ∧ (∀ (s : State) (p : Fin 32) (t : Fin 4) (f : Fire) (a : Act) (d : Device), s.awake → (s.dev.prog p.val).fires = [f] →
      f.acts[t.val]? = some a → a.committed = true → a.done = false →
      s.dev.onFire p.val f.count (fun f => { f with acts := f.acts.modify t.val (fun a => { a with done := true }) }) = d →
      (a.kind = 3 → ttGe s.dev.tt a.time = true → s.does (.barkerAct p t) ((d.fire (a.index % 256)).settleProg p.val))
      ∧ (a.kind = 4 → s.does (.barkerAct p t)
          ((d.postAction { tt := a.time, prog := p.val, target := t.val, fires := f.count % 2 ^ 32 }).settleProg p.val))
      ∧ (a.kind ≠ 1 → a.kind ≠ 3 → a.kind ≠ 4 → ttGe s.dev.tt a.time = true → s.does (.barkerAct p t) (d.settleProg p.val))
      ∧ (a.kind = 1 ∨ a.kind ≠ 4 ∧ ttGe s.dev.tt a.time = false → s.does (.barkerAct p t) s.dev))
  ∧ (∀ (s : State) (p : Fin 32) (f : Fire) (d : Device), s.awake → (s.dev.prog p.val).fires = [f] → f.crossed = true →
      f.recorded = false → ttGe s.dev.tt f.t = true ∨ s.dev.get R.BK_CTL_SRC [p.val] = 1 →
      s.dev.setProg p.val { s.dev.prog p.val with hist := (s.dev.fireRecord p.val f :: (s.dev.prog p.val).hist).take 16 } = d →
      s.does (.barkerFireRecord p) ((d.onFire p.val f.count (fun f => { f with recorded := true })).settleProg p.val))
  ∧ (∀ (s : State) (p : Fin 32), s.awake →
      (∀ f ∈ (s.dev.prog p.val).fires, f.crossed = false ∨ f.recorded = true
        ∨ ttGe s.dev.tt f.t = false ∧ s.dev.get R.BK_CTL_SRC [p.val] ≠ 1) → s.does (.barkerFireRecord p) s.dev)
  ∧ (∀ (s : State), s.awake →
      ∃ d, s.does .bkActPop d ∧ d.tim = { s.dev.tim with actions := s.dev.tim.actions.drop 1 }
        ∧ d.get R.BK_ACT_POP_COUNT [] = (s.dev.tim.actions.length - 1) % 2 ^ R.BK_ACT_POP_COUNT.width
        ∧ d.rd R.BK_ACT_HEAD [] = (match s.dev.tim.actions.drop 1 with | [] => 0 | r :: _ => r.tt))
  ∧ (∀ (s : State) (r : ActionRec) (rest : List ActionRec) (a : ActionCmd) (d e : Device), s.awake → s.dev.ready = true →
      s.dev.tim.actions = r :: rest → s.dev.actionPop = d →
      d.tim.actionCmds.find? (fun e => decide (e.1 = r.prog * 4 + r.target)) = some (r.prog * 4 + r.target, a) → a.dst = 0 →
      d.packetTx a.port (d.udp4 a.port 0xFFFFFFFFFFFF 0xFFFFFFFF 3956 (d.actionCmd a r.tt)) d.tt = e →
      s.does .actionCmdSend { e with tim := { e.tim with
        lateActions := e.tim.lateActions + b2n (decide (ttDiff r.tt d.tt < 1000000 * 65536))
        actionCmds := e.tim.actionCmds.put {} (r.prog * 4 + r.target) { a with reqId := a.reqId % 65535 + 1 } } })
  ∧ (∀ (s : State) (r : ActionRec) (rest : List ActionRec) (a : ActionCmd) (d g e : Device), s.awake → s.dev.ready = true →
      s.dev.tim.actions = r :: rest → s.dev.actionPop = d →
      d.tim.actionCmds.find? (fun e => decide (e.1 = r.prog * 4 + r.target)) = some (r.prog * 4 + r.target, a) → a.dst ≠ 0 → d.draw.2 = g →
      g.packetTx a.port (g.udp4 a.port (ofBE ((List.range 6).map (Config.openByte d.draw.1))) a.dst 3956 (g.actionCmd a r.tt)) g.tt = e →
      s.does .actionCmdSend { e with tim := { e.tim with
        lateActions := e.tim.lateActions + b2n (decide (ttDiff r.tt g.tt < 1000000 * 65536))
        actionCmds := e.tim.actionCmds.put {} (r.prog * 4 + r.target) { a with reqId := a.reqId % 65535 + 1 } } })
  ∧ (∀ (s : State) (r : ActionRec) (rest : List ActionRec) (d : Device), s.awake → s.dev.ready = true →
      s.dev.tim.actions = r :: rest → s.dev.actionPop = d → (∀ e ∈ d.tim.actionCmds, e.1 ≠ r.prog * 4 + r.target) →
      s.does .actionCmdSend d)
  ∧ (∀ (s : State), s.awake → s.dev.tim.actions = [] ∨ s.dev.ready = false → s.does .actionCmdSend s.dev)

/-- Trigger pins: pulses out and edges in (R357, R358, R359, R363). A pulse whose leading edge is due is driven, or
dropped and counted where it is narrower than MIN_WIDTH or closer than MIN_PERIOD to the last one, unless it joins a
pulse under way; a pulse whose trailing edge is due ends; an edge at an input pin gives its level, and where IN_EDGE
selects it a stamp less IN_ADJ, kept in the FIFO or counted as an overrun, which also fires the channel of the pin; a
pop takes the oldest stamp. An output pin gives no input edge. -/
def Obligations.PinRows : Prop :=
  (∀ (s : State) (n : Fin 16), s.awake → (∀ u ∈ (s.dev.pin n.val).pulses, u.started = true ∨ ttGe s.dev.tt u.lead = false) →
      s.does (.trgPulseLead n) s.dev)
  ∧ (∀ (s : State) (n : Fin 16) (u : Pulse) (x : PinX), s.awake → s.dev.pin n.val = x → x.pulses = [u] → u.started = false →
      ttGe s.dev.tt u.lead = true →
      (ttDiff u.trail u.lead < (s.dev.get R.NET_PIN_MIN_WIDTH [n.val] : Int) * 512
        ∨ (∃ t, x.lastLead = some t ∧ ttDiff u.lead t < (s.dev.get R.NET_PIN_MIN_PERIOD [n.val] : Int) * 65536) →
        s.does (.trgPulseLead n) (((s.dev.setPin n.val { x with pulses := [] }).bump R.TRG_STAT_DROP [n.val]).pinActDone u n.val true))
      ∧ ((s.dev.get R.NET_PIN_MIN_WIDTH [n.val] : Int) * 512 ≤ ttDiff u.trail u.lead →
        (∀ t, x.lastLead = some t → (s.dev.get R.NET_PIN_MIN_PERIOD [n.val] : Int) * 65536 ≤ ttDiff u.lead t) →
        s.does (.trgPulseLead n) (((s.dev.setPin n.val { x with pulses := [{ u with started := true }], lastLead := some u.lead }).drivePin n.val).pinActDone
          u n.val false)))
  ∧ (∀ (s : State) (n : Fin 16) (u v : Pulse) (x : PinX), s.awake → s.dev.pin n.val = x → x.pulses = [v, u] → v.started = true →
      u.started = false → ttGe s.dev.tt u.lead = true → 0 ≤ ttDiff v.trail u.lead →
      s.does (.trgPulseLead n) (((s.dev.setPin n.val { x with pulses := [v, { u with started := true }] }).drivePin n.val).pinActDone
        u n.val false))
  ∧ (∀ (s : State) (n : Fin 16) (x : PinX), s.awake → s.dev.pin n.val = x →
      (∃ u ∈ x.pulses, u.started = true ∧ ttGe s.dev.tt u.trail = true) →
      s.does (.trgPulseTrail n) ((s.dev.setPin n.val { x with pulses := x.pulses.filter (fun u => !(u.started && ttGe s.dev.tt u.trail)) }).drivePin n.val))
  ∧ (∀ (s : State) (n : Fin 16), s.awake → (∀ u ∈ (s.dev.pin n.val).pulses, u.started = false ∨ ttGe s.dev.tt u.trail = false) →
      s.does (.trgPulseTrail n) s.dev)
  ∧ (∀ (s : State) (n : Fin 16) (t : TT) (rising : Bool), s.awake → s.dev.flag R.TRG_CTL_DIR [n.val] = true →
      s.does (.trgInputEdge n t rising) s.dev)
  ∧ (∀ (s : State) (n : Fin 16) (t : TT) (rising : Bool), s.awake → s.dev.flag R.TRG_CTL_DIR [n.val] = false →
      bit (s.dev.get R.TRG_CTL_IN_EDGE [n.val]) (if rising then 0 else 1) = false →
      s.does (.trgInputEdge n t rising)
        ((s.dev.setPin n.val { s.dev.pin n.val with filtered := rising, level := rising }).setFlag R.TRG_STAT_LEVEL [n.val] rising))
  ∧ (∀ (s : State) (n : Fin 16) (t st : TT) (rising : Bool) (d : Device), s.awake → s.dev.flag R.TRG_CTL_DIR [n.val] = false →
      bit (s.dev.get R.TRG_CTL_IN_EDGE [n.val]) (if rising then 0 else 1) = true →
      (s.dev.setPin n.val { s.dev.pin n.val with filtered := rising, level := rising }).setFlag R.TRG_STAT_LEVEL [n.val] rising = d →
      stamp128 t - BitVec.ofInt 64 (sgn 16 (s.dev.get R.TRG_ADJ_IN_ADJ [n.val]) * 512) = st →
      ((s.dev.pin n.val).stamps.length < 16 →
        s.does (.trgInputEdge n t rising)
          (((d.setPin n.val { d.pin n.val with stamps := (d.pin n.val).stamps ++ [(st, rising)] }).showStamps n.val).fireStampIf
            R.TRG_CTL_IN_EV_EN R.TRG_CTL_IN_EV [n.val] st))
      ∧ (16 ≤ (s.dev.pin n.val).stamps.length →
        s.does (.trgInputEdge n t rising) ((d.bump R.TRG_IN_OVERRUN [n.val]).fireStampIf R.TRG_CTL_IN_EV_EN R.TRG_CTL_IN_EV [n.val] st)))
  ∧ (∀ (s : State) (n : Fin 16), s.awake →
      ∃ d, s.does (.trgInPop n) d ∧ d.pin n.val = { s.dev.pin n.val with stamps := (s.dev.pin n.val).stamps.drop 1 }
        ∧ d.get R.TRG_IN_COUNT [n.val] = ((s.dev.pin n.val).stamps.length - 1) % 2 ^ R.TRG_IN_COUNT.width
        ∧ d.rd R.TRG_INTT [n.val] = (match (s.dev.pin n.val).stamps.drop 1 with | [] => 0 | x :: _ => x.1)
        ∧ ∀ k, k ≠ n.val → d.pin k = s.dev.pin k)

/-- Feedback: encoder and Hall edges, SSI readings, latch, presets, speed (R370, R371, R372, R373, R374, R375, R378, R380,
R383, R384, R42). In MODE 1 an edge of one signal counts in the direction the order of the states gives, as DECODE
selects, and a change of both is a QUAD error; in MODE 2 the next or the previous Hall state counts and any other is
an error, the first valid one only the reference; in MODE 3 a read that is due runs unless the line is busy or low,
and its reading gives the position, judged by MAX_JUMP. A count stamped before the last adoption is judged as the
channel then stood, one after it as it stands now. An edge of the latch source takes the position once while armed,
SET_POS presets it, ARM arms, and the speed is lost after TIMEOUT_US; in the hands of the motion safety path SET_POS
and ARM do nothing. -/
def Obligations.FeedbackRows : Prop :=
  (∀ (s : State) (f : Fin 4) (a b : Bool) (st : TT) (x : FbX) (d : Device), s.awake → s.dev.fb f.val = x → x.prior = none →
      s.dev.setFb f.val { x with a := a, b := b } = d →
      (d.fbMode f.val ≠ 1 ∨ a = x.a ∧ b = x.b → s.does (.encoderEdge f a b st) d)
      ∧ (d.fbMode f.val = 1 → a ≠ x.a → b ≠ x.b → s.does (.encoderEdge f a b st) ((d.bump R.FB_ERR_QUAD [f.val]).fbError f.val)))
  ∧ (∀ (s : State) (f : Fin 4) (a b back : Bool) (st : TT) (x : FbX) (d : Device), s.awake → s.dev.fb f.val = x → x.prior = none →
      s.dev.setFb f.val { x with a := a, b := b } = d → d.fbMode f.val = 1 → (a = x.a ↔ b ≠ x.b) →
      xor (!decide (quadPhase a b = (quadPhase x.a x.b + 1) % 4)) (d.flag R.FB_CTL_INVERT [f.val]) = back →
      (d.get R.FB_CTL_DECODE [f.val] = 0 → s.does (.encoderEdge f a b st) (d.countEdge f.val back st))
      ∧ (d.get R.FB_CTL_DECODE [f.val] = 1 → a ≠ x.a → s.does (.encoderEdge f a b st) (d.countEdge f.val back st))
      ∧ (d.get R.FB_CTL_DECODE [f.val] = 1 → a = x.a → s.does (.encoderEdge f a b st) d)
      ∧ (d.get R.FB_CTL_DECODE [f.val] = 2 → a ≠ x.a → a = !back → s.does (.encoderEdge f a b st) (d.countEdge f.val back st))
      ∧ (d.get R.FB_CTL_DECODE [f.val] = 2 → a = x.a ∨ a = back → s.does (.encoderEdge f a b st) d)
      ∧ (3 ≤ d.get R.FB_CTL_DECODE [f.val] → s.does (.encoderEdge f a b st)
          (if Config.reservedDecode (decide (a ≠ x.a)) a back then d.countEdge f.val back st else d)))
  ∧ (∀ (s : State) (f : Fin 4) (n : Fin 8) (st : TT) (x : FbX) (d : Device), s.awake → s.dev.fb f.val = x → x.prior = none →
      s.dev.put R.FB_STAT_HALL [f.val] n.val = d →
      (s.dev.fbMode f.val ≠ 2 → s.does (.hallStateChange f n st) s.dev)
      ∧ (s.dev.fbMode f.val = 2 → n = 0 ∨ n = 7 → s.does (.hallStateChange f n st)
          (((d.setFlag R.FB_EVT_HALL_INVALID [f.val] true).bump R.FB_ERR_HALL [f.val]).fbError f.val))
      ∧ (s.dev.fbMode f.val = 2 → n ≠ 0 → n ≠ 7 → x.hall = none →
          s.does (.hallStateChange f n st) (d.setFb f.val { x with hall := some n.val })))
  ∧ (∀ (s : State) (f : Fin 4) (n : Fin 8) (h k : Nat) (st : TT) (x : FbX) (d : Device), s.awake → s.dev.fb f.val = x → x.prior = none →
      s.dev.fbMode f.val = 2 → n ≠ 0 → n ≠ 7 → x.hall = some h →
      (s.dev.put R.FB_STAT_HALL [f.val] n.val).setFb f.val { x with hall := some n.val } = d →
      (hallPlace n.val + 6 - hallPlace h) % 6 = k →
      (k = 0 → s.does (.hallStateChange f n st) d)
      ∧ (k = 1 → s.does (.hallStateChange f n st) (d.countEdge f.val false st))
      ∧ (k = 5 → s.does (.hallStateChange f n st) (d.countEdge f.val true st))
      ∧ (2 ≤ k → k ≤ 4 → s.does (.hallStateChange f n st)
          (((d.setFlag R.FB_EVT_HALL_JUMP [f.val] true).bump R.FB_ERR_HALL [f.val]).fbError f.val)))
  ∧ (∀ (s : State) (f : Fin 4) (st : TT) (p : FbPrior), s.awake → (s.dev.fb f.val).prior = some p → (s.dev.fb f.val).ssiRun = some st →
      (∀ (i : Instr) (g : Device → Device), ((∃ a b, i = .encoderEdge f a b st ∧ g = fun d => d.quadEdge f.val a b st)
          ∨ (∃ n : Fin 8, i = .hallStateChange f n st ∧ g = fun d => d.hallEdge f.val n.val st)
          ∨ (∃ n, i = .ssiReadingDone f n ∧ g = fun d => d.ssiReading f.val n)) →
        (0 < ttDiff st p.ttc → s.does i (g (s.dev.setFb f.val { s.dev.fb f.val with prior := none })))
        ∧ (ttDiff st p.ttc = 0 → p.setPos = false → s.does i (g s.dev))
        ∧ (ttDiff st p.ttc = 0 → p.setPos = true → s.does i ((g s.dev).fbSetPos f.val))
        ∧ (ttDiff st p.ttc < 0 → s.does i (s.dev.judgedAt f.val st g))))
  ∧ (∀ (s : State) (f : Fin 4) (high : Bool) (t : TT) (x : FbX), s.awake → s.dev.fb f.val = x → x.ssiWant = true →
      s.dev.get R.FB_SSI_PERIOD_US [f.val] = 0 → s.dev.fbMode f.val = 3 →
      (s.dev.ssiBusy f.val = false → high = true →
        s.does (.ssiReadStart f high t) (s.dev.setFb f.val { x with ssiWant := false, ssiRun := some t }))
      ∧ (s.dev.ssiBusy f.val = true ∨ high = false →
        s.does (.ssiReadStart f high t) ((s.dev.setFb f.val { x with ssiWant := false }).bump R.FB_ERR_SSI [f.val])))
  ∧ (∀ (s : State) (f : Fin 4) (t : TT) (x : FbX) (per : Nat), s.awake → s.dev.fb f.val = x →
      s.dev.get R.FB_SSI_PERIOD_US [f.val] = per → per ≠ 0 → (per * 1000 * 65536 : Nat) ≤ ttDiff s.dev.tt x.ssiSince →
      s.dev.fbMode f.val = 3 → s.dev.ssiBusy f.val = false →
      s.does (.ssiReadStart f true t) (s.dev.setFb f.val { x with
        ssiWant := false, ssiRun := some t,
        ssiSince := if ttDiff s.dev.tt x.ssiSince < 2 * (per * 1000 * 65536 : Nat) then x.ssiSince + ttNs (per * 1000) else s.dev.tt }))
  ∧ (∀ (s : State) (f : Fin 4) (high : Bool) (t : TT), s.awake →
      s.dev.fbMode f.val ≠ 3 ∨ (s.dev.fb f.val).ssiWant = false ∧ (s.dev.get R.FB_SSI_PERIOD_US [f.val] = 0
        ∨ ttDiff s.dev.tt (s.dev.fb f.val).ssiSince < (s.dev.get R.FB_SSI_PERIOD_US [f.val] * 1000 * 65536 : Nat)) →
      s.does (.ssiReadStart f high t) s.dev)
  ∧ (∀ (s : State) (f : Fin 4) (n raw m : Nat) (x : FbX) (st : TT), s.awake → s.dev.fb f.val = x → x.prior = none → x.ssiRun = some st →
      x.ssiLast = none → 2 ^ s.dev.ssiBits f.val = m → s.dev.get R.FB_SSI_BITS [f.val] ≤ 32 →
      (if s.dev.flag R.FB_SSI_GRAY [f.val] then grayDecode (s.dev.get R.FB_SSI_BITS [f.val]) (n % 2 ^ s.dev.get R.FB_SSI_BITS [f.val]) else n)
        % 2 ^ s.dev.get R.FB_SSI_BITS [f.val] = raw →
      ∃ d, s.does (.ssiReadingDone f n) d ∧ d.rd R.FB_SSI_RAW [f.val] = BitVec.ofNat 64 raw
        ∧ d.get R.FB_POS_COUNT [f.val] = (raw % m + s.dev.get R.FB_SSI_OFS_OFS [f.val]) % m % 2 ^ 32
        ∧ d.fb f.val = { x with ssiRun := none, ssiLast := some raw, ssiFree := s.dev.tt + ttNs (s.dev.get R.FB_SSI_MONO_US [f.val] * 1000) })
  ∧ (∀ (s : State) (f : Fin 4) (n : Nat) (st : TT), s.awake → (s.dev.fb f.val).ssiRun = some st → (s.dev.fb f.val).prior = none →
      s.does (.ssiReadingDone f n) (s.dev.ssiReading f.val n))
  ∧ (∀ (s : State) (f : Fin 4) (n : Nat), s.awake → (s.dev.fb f.val).ssiRun = none → s.does (.ssiReadingDone f n) s.dev)
  ∧ (∀ (s : State) (f : Fin 4) (rising : Bool) (t : TT) (since : Int) (src : Nat) (i : Instr) (d e : Device), s.awake →
      (src = 0 ∧ i = .switchEdge f rising t since ∧ d = s.dev.setFb f.val { s.dev.fb f.val with sw := rising })
        ∨ (src = 1 ∧ s.dev.fbMode f.val = 1 ∧ i = .indexEdge f rising t since ∧ d = s.dev.setFb f.val { s.dev.fb f.val with z := rising }) →
      (d.get R.FB_LATCH_LATCH_SRC [f.val] ≠ src ∨ bit (d.get R.FB_LATCH_LATCH_EDGE [f.val]) (if rising then 0 else 1) = false → s.does i d)
      ∧ (d.get R.FB_LATCH_LATCH_SRC [f.val] = src → bit (d.get R.FB_LATCH_LATCH_EDGE [f.val]) (if rising then 0 else 1) = true →
          d.flag R.FB_STAT_LATCHED [f.val] = true → s.does i (d.bump R.FB_LATCH_CHATTER_CNT [f.val]))
      ∧ (d.flag R.FB_STAT_LATCHED [f.val] = false → d.flag R.FB_STAT_ARMED [f.val] = false → s.does i d)
      ∧ (d.latchEdge f.val src rising t since = (true, e) → s.does i (e.homeLatched f.val t)
          ∧ e.flag R.FB_STAT_LATCHED [f.val] = true ∧ e.flag R.FB_STAT_ARMED [f.val] = false ∧ e.rd R.FB_LATCH_TT [f.val] = t))
  ∧ (∀ (s : State) (f : Fin 4) (rising : Bool) (t : TT) (since : Int), s.awake → s.dev.fbMode f.val ≠ 1 →
      s.does (.indexEdge f rising t since) (s.dev.setFb f.val { s.dev.fb f.val with z := rising }))
  ∧ (∀ (s : State) (f : Fin 4), s.awake →
      (s.dev.flag R.FB_STAT_SPEED_VALID [f.val] = true → s.dev.fbTimeout f.val < ttDiff s.dev.tt (s.dev.rd R.FB_EDGE_TT [f.val]) →
        ∃ d, s.does (.speedTimeout f) d ∧ d.flag R.FB_STAT_SPEED_VALID [f.val] = false ∧ d.flag R.FB_EVT_SPEED_LOST [f.val] = true
          ∧ d.rd R.FB_SPEED [f.val] = 0 ∧ d.rd R.FB_PERIOD [f.val] = 0)
      ∧ (s.dev.flag R.FB_STAT_SPEED_VALID [f.val] = false ∨ ttDiff s.dev.tt (s.dev.rd R.FB_EDGE_TT [f.val]) ≤ s.dev.fbTimeout f.val →
        s.does (.speedTimeout f) s.dev))
  ∧ (∀ (s : State) (f : Fin 4) (d : Device), s.awake → s.dev.motionTaken = false → s.dev.wake 12 = d → d.fbMode f.val ≠ 3 →
      s.does (.fbSetPosWrite f) (((d.put R.FB_POS_COUNT [f.val] (s.dev.get R.FB_PRESET_COUNT [f.val])).put R.FB_POS_REV [f.val]
        (s.dev.get R.FB_PRESET_REV [f.val])).judgeCompare f.val))
  ∧ (∀ (s : State) (f : Fin 4) (d e : Device) (m raw : Nat), s.awake → s.dev.motionTaken = false → s.dev.wake 12 = d → d.fbMode f.val = 3 →
      2 ^ d.ssiBits f.val = m → d.get R.FB_SSI_RAW_RAW [f.val] = raw →
      ((d.put R.FB_SSI_OFS_OFS [f.val] ((s.dev.get R.FB_PRESET_COUNT [f.val] + m - raw % m) % m)).put R.FB_SSI_OFS_ROFS [f.val]
        (s.dev.get R.FB_PRESET_REV [f.val] + 2 ^ 32 - raw / m)).speedLost f.val = e →
      s.does (.fbSetPosWrite f) (((e.put R.FB_POS_COUNT [f.val] (s.dev.get R.FB_PRESET_COUNT [f.val])).put R.FB_POS_REV [f.val]
        (s.dev.get R.FB_PRESET_REV [f.val])).judgeCompare f.val))
  ∧ (∀ (s : State) (f : Fin 4), s.awake → s.dev.motionTaken = false →
      ∃ d, s.does (.fbLatchArm f) d ∧ d.flag R.FB_STAT_ARMED [f.val] = true ∧ d.flag R.FB_STAT_LATCHED [f.val] = false
        ∧ d.get R.FB_LATCH_CHATTER_CNT [f.val] = 0 ∧ d.mot = s.dev.mot)
  ∧ (∀ (s : State) (f : Fin 4), s.awake → s.dev.motionTaken = true → s.does (.fbSetPosWrite f) s.dev ∧ s.does (.fbLatchArm f) s.dev)

/-- Motion axes: requests, servo boundary, inputs, power down, driver faults (R390, R392, R395, R397, R399, R404, R406,
R407, R411, R412, R42). A write of GO, STOP, SET_POS or home GO is kept for the next servo boundary, and ignored while
the motion safety path has the booth. At the boundary pending writes apply, requests are served, the profile steps and
the drive follows; before it nothing happens. A step edge moves the step target by STEP_RES in MODE STEP, is counted
lost while the axis does not run, and has no effect otherwise; an end limit stops motion toward it, or turns a search
for home round, and is released; a driver fault cuts its axis once and ends by its release; an axis at rest powers
down after PD_MS, and goes on 2 ms after it is woken. -/
def Obligations.MotionRows : Prop :=
  (∀ (s : State) (a : Fin 4) (x : AxisX), s.awake → s.dev.motionTaken = false → s.dev.axis a.val = x →
      (∃ d, s.does (.mpGoWrite a) d ∧ d.axis a.val = { x with goReq := true } ∧ d.tim = s.dev.tim)
      ∧ (∃ d, s.does (.mpStopWrite a) d ∧ d.axis a.val = { x with stopReq := true } ∧ d.tim = s.dev.tim)
      ∧ (∃ d, s.does (.mpSetPosWrite a) d ∧ d.axis a.val = { x with setReq := true } ∧ d.tim = s.dev.tim)
      ∧ (∃ d, s.does (.mpHomeGo a) d ∧ d.axis a.val = { x with homeReq := true } ∧ d.tim = s.dev.tim))
  ∧ (∀ (s : State) (a : Fin 4), s.awake → s.dev.motionTaken = true →
      s.does (.mpGoWrite a) s.dev ∧ s.does (.mpStopWrite a) s.dev ∧ s.does (.mpSetPosWrite a) s.dev ∧ s.does (.mpHomeGo a) s.dev)
  ∧ (∀ (s : State) (a : Fin 4) (samples : List (Int × Int)) (load : Nat), s.awake → s.dev.boundaryDue a.val = false →
      s.does (.servoPeriodBoundary a samples load) s.dev)
  ∧ (∀ (s : State) (a : Fin 4) (samples : List (Int × Int)) (load n : Nat) (d1 d2 d3 d4 d5 d6 d7 : Device) (fst lst : Int × Int), s.awake →
      s.dev.boundaryDue a.val = true → (s.dev.settleAt s.dev.tt (axisAddr a.val)).takeRequests a.val = d1 →
      (d1.setAxis a.val { d1.axis a.val with bound := d1.tt }).periodDone a.val = d2 →
      (d2.setAxis a.val { d2.axis a.val with
        prev := (d2.axis a.val).setPoint, arrived := false,
        trail := if (d2.axis a.val).home = 1 ∨ (d2.axis a.val).home = 2 then (d2.tt, (d2.axis a.val).setPoint) :: (d2.axis a.val).trail.take 2700 else [] }).takeEnable
          a.val (s.dev.enWritten a.val) = d3 →
      (if d3.motionTaken then d3 else d3.serveRequests a.val) = d4 →
      ((d4.narrowAxis a.val).profileStep a.val).showAxis a.val = d5 →
      samples.head?.getD (0, 0) = fst → samples.getLast?.getD (0, 0) = lst →
      (if d5.flag R.CD_CTL_SENSE_EN [a.val] then (d5.put R.CD_ICUR_IA [a.val] (code 16 lst.1)).put R.CD_ICUR_IB [a.val] (code 16 lst.2) else d5) = d6 →
      (d6.judgeStrong a.val fst.1 fst.2).currentStep a.val load = d7 →
      max 1 (d7.get R.CD_CTL_PWM_KHZ [a.val] * d7.get R.MP_SERVO_SERVO_NS [a.val] / 1000000) = n →
      s.does (.servoPeriodBoundary a samples load) ((((List.range n).foldl (fun d k => d.pwmCycle a.val n k
        (if d5.flag R.CD_CTL_SENSE_EN [a.val] then (samples.getD k lst).1 else 0)
        (if d5.flag R.CD_CTL_SENSE_EN [a.val] then (samples.getD k lst).2 else 0)) d7).stallStep a.val).showAxis a.val))
  ∧ (∀ (s : State) (a : Fin 4) (dir back : Bool) (x : AxisX) (n : Nat), s.awake → s.dev.axis a.val = x →
      s.dev.get R.MP_CTL_MODE [a.val] = 3 → s.dev.motionTaken = false → xor dir (s.dev.flag R.MP_STEPIN_DIR_INV [a.val]) = back →
      x.towardLimit back = false → s.dev.get R.MP_STEPIN_STEP_RES [a.val] = n →
      (x.run = 1 → x.home = 0 → s.dev.axisOn a.val = true → back = false →
        s.does (.stepInputEdge a dir) (s.dev.setAxis a.val { x with steps := x.steps + n }))
      ∧ (x.run = 1 → x.home = 0 → s.dev.axisOn a.val = true → back = true →
        s.does (.stepInputEdge a dir) (s.dev.setAxis a.val { x with steps := x.steps - n }))
      ∧ (x.run ≠ 1 ∨ x.home ≠ 0 ∨ s.dev.axisOn a.val = false →
        s.does (.stepInputEdge a dir) (s.dev.setAxis a.val { x with lostSteps := x.lostSteps + 1 })))
  ∧ (∀ (s : State) (a : Fin 4) (dir : Bool), s.awake →
      s.dev.get R.MP_CTL_MODE [a.val] ≠ 3 ∨ s.dev.motionTaken = true
        ∨ (s.dev.axis a.val).towardLimit (xor dir (s.dev.flag R.MP_STEPIN_DIR_INV [a.val])) = true →
      s.does (.stepInputEdge a dir) s.dev)
  ∧ (∀ (s : State) (a : Fin 4) (negative : Bool) (x : AxisX), s.awake →
      { s.dev.axis a.val with limN := (s.dev.axis a.val).limN || negative, limP := (s.dev.axis a.val).limP || !negative } = x →
      (if negative then 0 ≤ x.vel else x.vel ≤ 0) → s.does (.limitSwitch a negative) (s.dev.setAxis a.val x))
  ∧ (∀ (s : State) (a : Fin 4) (negative : Bool) (x : AxisX) (d : Device), s.awake →
      { s.dev.axis a.val with limN := (s.dev.axis a.val).limN || negative, limP := (s.dev.axis a.val).limP || !negative } = x →
      (if negative then x.vel < 0 else 0 < x.vel) →
      (((s.dev.setAxis a.val x).setFlag R.MP_EVT_LIMIT_HIT [a.val] true).bump R.MP_CNT_LIMITS [a.val]).fireIf
        R.MP_EV_LIMIT_EV_EN R.MP_EV_LIMIT_EV [a.val] = d →
      (x.home = 1 → x.homeTrips = 0 → s.does (.limitSwitch a negative) (d.setAxis a.val { x with home := 2, homeTrips := 1 }))
      ∧ (x.home = 1 → x.homeTrips ≠ 0 →
          s.does (.limitSwitch a negative) ((d.axisStop a.val 2).setFlag R.MP_EVT_HOME_LIMIT [a.val] true))
      ∧ (x.home = 3 → s.does (.limitSwitch a negative) (d.setAxis a.val { x with homeStop := true }))
      ∧ (x.home ≠ 1 → x.home ≠ 3 → x.run = 2 → s.does (.limitSwitch a negative) d)
      ∧ (x.home ≠ 1 → x.home ≠ 3 → x.run ≠ 2 → s.does (.limitSwitch a negative) (d.axisStop a.val 2)))
  ∧ (∀ (s : State) (a : Fin 4) (negative : Bool), s.awake →
      s.does (.endLimitRelease a negative) (s.dev.setAxis a.val { s.dev.axis a.val with
        limN := (s.dev.axis a.val).limN && !negative, limP := (s.dev.axis a.val).limP && negative }))
  ∧ (∀ (s : State) (a : Fin 4) (x : AxisX) (d e : Device), s.awake → s.dev.axis a.val = x → x.flt = false →
      (if s.dev.flag R.CD_STAT_EN_OUT [a.val] then s.dev.logRecord (s.dev.newRecord 4 1 12 (2 ^ a.val) false s.dev.setPoints) else s.dev) = d →
      (if s.dev.flag R.CD_STAT_EN_OUT [a.val] && d.motionTaken && !x.still then d.markMotionCut else d) = e →
      s.does (.axisFaultInput a) ((((e.setAxis a.val { x with flt := true }).setFlag R.CD_STAT_FLT [a.val] true).cutAxis a.val 5).fireIf
        R.MP_EV_FAULT_EV_EN R.MP_EV_FAULT_EV [a.val]))
  ∧ (∀ (s : State) (a : Fin 4), s.awake → (s.dev.axis a.val).flt = true → s.does (.axisFaultInput a) s.dev)
  ∧ (∀ (s : State) (a : Fin 4), s.awake →
      ∃ d, s.does (.axisFaultRelease a) d ∧ (d.axis a.val) = { s.dev.axis a.val with flt := false } ∧ d.flag R.CD_STAT_FLT [a.val] = false)
  ∧ (∀ (s : State) (a : Fin 4) (x : AxisX), s.awake → s.dev.axis a.val = x → s.dev.flag R.MP_CFG_PD_EN [a.val] = true →
      s.dev.get R.MP_STAT_STATE [a.val] = 1 → x.still = true → x.pd = false → x.wake = none →
      (s.dev.get R.MP_CFG_PD_MS [a.val] * 1000000 * 65536 : Nat) ≤ ttDiff s.dev.tt x.restSince →
      s.does (.axisPowerDown a) ((s.dev.setAxis a.val { x with pd := true }).axisOff a.val))
  ∧ (∀ (s : State) (a : Fin 4) (x : AxisX), s.awake → s.dev.axis a.val = x →
      s.dev.flag R.MP_CFG_PD_EN [a.val] = false ∨ s.dev.get R.MP_STAT_STATE [a.val] ≠ 1 ∨ x.still = false ∨ x.pd = true ∨ x.wake ≠ none
        ∨ ttDiff s.dev.tt x.restSince < (s.dev.get R.MP_CFG_PD_MS [a.val] * 1000000 * 65536 : Nat) →
      s.does (.axisPowerDown a) s.dev)
  ∧ (∀ (s : State) (a : Fin 4) (x : AxisX) (t : TT), s.awake → s.dev.axis a.val = x → x.wake = some t →
      ((2000000 * 65536 : Int) ≤ ttDiff s.dev.tt t → s.does (.axisWakeHoldDone a) (s.dev.setAxis a.val { x with goReq := true }))
      ∧ (ttDiff s.dev.tt t < (2000000 * 65536 : Int) → s.does (.axisWakeHoldDone a) s.dev))
  ∧ (∀ (s : State) (a : Fin 4), s.awake → (s.dev.axis a.val).wake = none → s.does (.axisWakeHoldDone a) s.dev)

/-- The host link: BAR4, bad accesses, configuration, power state, link errors (R414, R417, R418, R419, R421, R423, R425,
R426, R428, R429). A BAR4 read that lies in HBM and is admitted completes with the bytes at BASE x 16 MiB + offset,
poisoned where a word of it is uncorrectable, and with Unsupported Request and a violation otherwise; a write stores
its bytes or is dropped; while the function does not answer memory requests they are Unsupported Requests. BASE up to
1,535 is taken and a higher one refused. The host changes Bus Master, memory space, MSI-X, BARs and the device control
settings, and what waited for the link goes on; D3hot is entered; a bad TLP is logged; the link comes up and the
function is ready for configuration, counting a retraining where it was up. -/
def Obligations.HostLinkRows : Prop :=
  (∀ (s : State) (off len : Nat) (bs : List Byte) (p : Bool), s.awake →
      s.dev.hostLinked = false ∨ s.dev.flag R.WIPE_STAT_BUSY [] = true →
      s.does (.bar4Read off len) s.dev ∧ s.does (.bar4Write off bs p) s.dev)
  ∧ (∀ (s : State) (off len : Nat), s.awake → 2 ^ 32 < off + len ∨ len = 0 → s.does (.bar4Read off len) s.dev)
  ∧ (∀ (s : State) (off len : Nat), s.awake → s.dev.hostLinked = true → off + len ≤ 2 ^ 32 → 0 < len →
      s.dev.flag R.WIPE_STAT_BUSY [] = false → s.dev.hostReach = false →
      (s.dev.hst.memSpace = true → s.does (.bar4Read off len) (s.dev.completeRead 1 []))
      ∧ (s.dev.hst.memSpace = false → s.does (.bar4Read off len) ((s.dev.aerLog .unsupported).completeRead 1 [])))
  ∧ (∀ (s : State) (off len a : Nat), s.awake → s.dev.hostReach = true → off + len ≤ 2 ^ 32 → 0 < len →
      s.dev.flag R.WIPE_STAT_BUSY [] = false → s.dev.get R.HOST_AP_BASE_BASE [] * 16777216 + off = a →
      (hbmSize < a + len ∨ s.dev.netAdmits true false .bar4 a len = false →
        s.does (.bar4Read off len) (((s.dev.aerLog .unsupported).violation 10 1 a len (5 * 4096)).completeRead 1 []))
      ∧ (a + len ≤ hbmSize → s.dev.netAdmits true false .bar4 a len = true → s.dev.badIn a len = none →
        ∃ d, s.does (.bar4Read off len) d ∧ d.hst.lastRead = (0, s.dev.hbmRead a len) ∧ d.hbm = s.dev.hbm ∧ d.regs = s.dev.regs)
      ∧ (∀ w, a + len ≤ hbmSize → s.dev.netAdmits true false .bar4 a len = true → s.dev.badIn a len = some w →
        s.does (.bar4Read off len) ((s.dev.memErr true 4 10 0 w).completeRead 2 (s.dev.hbmRead a len))))
  ∧ (∀ (s : State) (off : Nat) (bs : List Byte) (p : Bool), s.awake → 2 ^ 32 < off + bs.length ∨ bs = [] →
      s.does (.bar4Write off bs p) s.dev)
  ∧ (∀ (s : State) (off : Nat) (bs : List Byte) (p : Bool), s.awake → s.dev.hostLinked = true → off + bs.length ≤ 2 ^ 32 → bs ≠ [] →
      s.dev.flag R.WIPE_STAT_BUSY [] = false → s.dev.hostReach = false →
      (s.dev.hst.memSpace = true → s.does (.bar4Write off bs p) s.dev)
      ∧ (s.dev.hst.memSpace = false → s.does (.bar4Write off bs p) (s.dev.aerLog .unsupported)))
  ∧ (∀ (s : State) (off a : Nat) (bs : List Byte), s.awake → s.dev.hostReach = true → off + bs.length ≤ 2 ^ 32 → bs ≠ [] →
      s.dev.flag R.WIPE_STAT_BUSY [] = false → s.dev.get R.HOST_AP_BASE_BASE [] * 16777216 + off = a →
      s.does (.bar4Write off bs true) (s.dev.aerLog .poisoned)
      ∧ (hbmSize < a + bs.length ∨ s.dev.netAdmits true true .bar4 a bs.length = false →
        s.does (.bar4Write off bs false) ((s.dev.aerLog .unsupported).violation 10 1 a bs.length (5 * 4096)))
      ∧ (a + bs.length ≤ hbmSize → s.dev.netAdmits true true .bar4 a bs.length = true →
        s.does (.bar4Write off bs false) (s.dev.hbmWrite a bs)))
  ∧ (∀ (s : State) (v : Nat), s.awake → s.dev.hostReach = true →
      (v ≤ 1535 → ∃ d, s.does (.hostApBaseWrite v) d ∧ d.get R.HOST_AP_BASE_BASE [] = v ∧ d.hst = s.dev.hst)
      ∧ (1535 < v → v < 2048 → ∃ d, s.does (.hostApBaseWrite v) d ∧ d.flag R.DEV_STATUS_CFG_BAD [] = true
          ∧ d.get R.HOST_AP_BASE_BASE [] = s.dev.get R.HOST_AP_BASE_BASE []))
  ∧ (∀ (s : State) (v : Nat), s.awake → s.dev.hostReach = false → s.does (.hostApBaseWrite v) s.dev)
  ∧ (∀ (s : State), s.awake → s.dev.hostLinked = true → s.dev.hst.d3hot = false →
      (s.dev.hst.memSpace = true → s.does .barBadAccess ((s.dev.bump R.HOST_LINK_BAD_ACCESS []).aerLog .unsupported))
      ∧ (s.dev.hst.memSpace = false → s.does .barBadAccess (s.dev.aerLog .unsupported)))
  ∧ (∀ (s : State), s.awake → s.dev.hostLinked = false ∨ s.dev.hst.d3hot = true → s.does .barBadAccess s.dev)
  ∧ (∀ (s : State) (c : HostCfg) (d : Device), s.awake → s.dev.hostLinked = true →
      ({ s.dev with hst := { s.dev.hst with
        memSpace := c.memSpace, busMaster := c.busMaster, msixEnable := c.msixEnable, functionMask := c.functionMask,
        ptmEnable := c.ptmEnable, mps := clamp 128 512 c.mps.toNat, mrrs := clamp 128 4096 c.mrrs.toNat,
        bar0 := c.bar0.toNat / 2 ^ 16 * 2 ^ 16, bar2 := c.bar2.toNat / 2 ^ 26 * 2 ^ 26, bar4 := c.bar4.toNat / 2 ^ 32 * 2 ^ 32,
        relaxed := c.relaxed, tags14 := c.tags14, noTimeout := c.noTimeout } } : Device).setFlag R.PTM_STAT_ENABLED [] c.ptmEnable = d →
      (c.busMaster = true → s.dev.hst.d3hot = false → s.does (.busMasterChange c) d.resumeStalled)
      ∧ (c.busMaster = false ∨ s.dev.hst.d3hot = true → s.does (.busMasterChange c) d.sendPending))
  ∧ (∀ (s : State) (c : HostCfg), s.awake → s.dev.hostLinked = false → s.does (.busMasterChange c) s.dev ∧ s.does .d3hotEntry s.dev)
  ∧ (∀ (s : State), s.awake → s.dev.hostLinked = true → s.does .d3hotEntry { s.dev with hst := { s.dev.hst with d3hot := true } })
  ∧ (∀ (s : State) (k : AerKind), s.awake →
      (s.dev.hst.linkUp = true → k = .ecrc ∨ k = .fatal ∨ k = .correctable →
        s.does (.linkTlpError k) { s.dev with hst := { s.dev.hst with aer := s.dev.hst.aer ++ [k] } })
      ∧ (s.dev.hst.linkUp = false ∨ k = .timeout ∨ k = .poisoned ∨ k = .abort ∨ k = .unsupported → s.does (.linkTlpError k) s.dev))
  ∧ (∀ (s : State) (speed width : Nat) (flit : Bool), s.awake →
      ∃ d, s.does (.configReady speed width flit) d ∧ d.hst = { s.dev.hst with linkUp := true, configReady := true }
        ∧ d.get R.HOST_LINK_SPEED [] = speed % 2 ^ R.HOST_LINK_SPEED.width ∧ d.get R.HOST_LINK_WIDTH [] = width % 2 ^ R.HOST_LINK_WIDTH.width
        ∧ d.flag R.HOST_LINK_FLIT [] = flit
        ∧ (s.dev.hst.linkUp = false → d.get R.HOST_LINK_RETRAINS [] = s.dev.get R.HOST_LINK_RETRAINS [])
        ∧ (s.dev.hst.linkUp = true →
            d.get R.HOST_LINK_RETRAINS [] = min (2 ^ R.HOST_LINK_RETRAINS.width - 1) (s.dev.get R.HOST_LINK_RETRAINS [] + 1)))

/-- ECC errors of HBM and of the booths, patrol scrub, training and wipe (R135, R138, R433, R434, R436). An uncorrectable
HBM word is logged, kept bad, and faults its requester: the port booth, the DMA engine, or the device for the control
classes, or refuses the seal that needed it; a corrected one is logged and counts toward ECC_WARN; the patrol scrub
does the same for the word it reads and counts its passes. An uncorrectable SRAM word of a port booth or a DMA engine
is a contained fault, one of a unique booth a device fault, one in the motion booth also takes the axes off. Training
of both stacks lets the wipe of HBM run, which leaves zeros and no bad word. Nothing of it has an effect out of HBM,
on an absent port or before its time. -/
def Obligations.MemoryErrorRows : Prop :=
  (∀ (s : State) (cls booth index off : Nat), s.awake → hbmSize ≤ off →
      s.does (.hbmUncorrectableError cls booth index off) s.dev ∧ s.does (.hbmCorrectedError cls booth index off) s.dev)
  ∧ (∀ (s : State) (cls booth index off : Nat) (d : Device), s.awake → off < hbmSize →
      (s.dev.memErr true cls booth index off).markBad off = d →
      (cls = 0 → s.dev.portPresent booth = true → s.does (.hbmUncorrectableError cls booth index off) (d.portFault booth 2))
      ∧ (cls = 0 → s.dev.portPresent booth = false → s.does (.hbmUncorrectableError cls booth index off) d)
      ∧ (cls = 1 → index < 32 → s.does (.hbmUncorrectableError cls booth index off) (d.engineFault index 2))
      ∧ (cls = 2 ∨ cls = 3 → s.does (.hbmUncorrectableError cls booth index off) (d.deviceFault 3 false))
      ∧ (cls = 6 → s.does (.hbmUncorrectableError cls booth index off) d.sealUecc)
      ∧ (cls = 4 ∨ cls = 5 ∨ 7 ≤ cls → s.does (.hbmUncorrectableError cls booth index off) d))
  ∧ (∀ (s : State) (cls booth index off : Nat), s.awake → off < hbmSize →
      s.does (.hbmCorrectedError cls booth index off) (s.dev.memErr false cls booth index off).eccWarn)
  ∧ (∀ (s : State) (off : Nat) (found : Bool), s.awake → off < hbmSize → s.dev.sec.hbmWiped = true →
      s.dev.flag R.MEM_SCRUB_EN [] = true → off / 8 + 1 ≠ hbmSize / 8 →
      s.does (.patrolScrub off found true) ((s.dev.memErr true 5 9 0 off).markBad off)
      ∧ (s.dev.wordBad off = true → s.does (.patrolScrub off found false) ((s.dev.memErr true 5 9 0 off).markBad off))
      ∧ (s.dev.wordBad off = false → s.does (.patrolScrub off true false) (s.dev.memErr false 5 9 0 off).eccWarn)
      ∧ (s.dev.wordBad off = false → s.does (.patrolScrub off false false) s.dev))
  ∧ (∀ (s : State) (off : Nat), s.awake → s.dev.sec.hbmWiped = true → s.dev.flag R.MEM_SCRUB_EN [] = true → off < hbmSize →
      off / 8 + 1 = hbmSize / 8 → s.dev.wordBad off = false →
      ∃ d, s.does (.patrolScrub off false false) d
        ∧ d.get R.MEM_SCRUB_PASSES [] = (s.dev.get R.MEM_SCRUB_PASSES [] + 1) % 2 ^ R.MEM_SCRUB_PASSES.width ∧ d.hbm = s.dev.hbm)
  ∧ (∀ (s : State) (off : Nat) (found uncorr : Bool), s.awake →
      s.dev.sec.hbmWiped = false ∨ s.dev.flag R.MEM_SCRUB_EN [] = false ∨ hbmSize ≤ off → s.does (.patrolScrub off found uncorr) s.dev)
  ∧ (∀ (s : State) (n : Fin 32), s.awake →
      s.does (.containedSramUecc true n) (s.dev.engineFault n.val 2)
      ∧ (s.dev.portPresent n.val = true → s.does (.containedSramUecc false n) (s.dev.portFault n.val 2))
      ∧ (s.dev.portPresent n.val = false → s.does (.containedSramUecc false n) s.dev))
  ∧ (∀ (s : State) (b : Fin 16), s.awake →
      (b = 8 ∨ b = 9 ∨ b = 10 ∨ b = 11 ∨ b = 13 → s.does (.boothSramUecc b) (s.dev.deviceFault 6 false))
      ∧ (b.val < 8 ∨ 14 ≤ b.val → s.does (.boothSramUecc b) s.dev))
  ∧ (∀ (s : State) (m : Nat) (ramp : Bool) (d e f : Device), s.awake → maskWhere 4 (fun a => s.dev.flag R.CD_STAT_EN_OUT [a]) = m →
      (List.range 4).any (fun a => s.dev.flag R.CD_STAT_EN_OUT [a] && !(s.dev.axis a).still) = ramp →
      (if m = 0 then s.dev else s.dev.logRecord (s.dev.newRecord 4 2 12 m false s.dev.setPoints)) = d →
      (List.range 4).foldl (fun d a => (d.setFlag R.CD_CTL_EN [a] false).cutAxis a 0) d = e →
      ((List.range 4).foldl (fun d f => d.setFlag R.FB_STAT_SUSPECT [f] true) e).setFlag R.MSV_STAT_UECC [] true = f →
      (f.faultInForce = false → s.does .motionUecc (f.deviceFault 6 ramp) ∧ s.does (.boothSramUecc 12) (f.deviceFault 6 ramp))
      ∧ (f.faultInForce = true → ramp = true → s.does .motionUecc f.markMotionCut ∧ s.does (.boothSramUecc 12) f.markMotionCut)
      ∧ (f.faultInForce = true → ramp = false → s.does .motionUecc f ∧ s.does (.boothSramUecc 12) f))
  ∧ (∀ (s : State), s.awake → s.dev.sec.phyTrained = false →
      ∃ d, s.does .hbmPhyTrained d ∧ d.sec = { s.dev.sec with phyTrained := true }
        ∧ (∀ k : Fin 2, d.flag R.HBM_STAT_TRAINED [k.val] = true ∧ d.get R.HBM_STAT_CHAN_OK [k.val] = 0xFFFF) ∧ d.hbm = s.dev.hbm)
  ∧ (∀ (s : State), s.awake → s.dev.sec.phyTrained = true → s.does .hbmPhyTrained s.dev)
  ∧ (∀ (s : State) (us : Nat), s.awake → s.dev.sec.phyTrained = true → s.dev.sec.hbmWiped = false →
      ∃ d, s.does (.hbmWipeDone us) d ∧ d.hbm = [] ∧ d.hst.badWords = [] ∧ d.sec = { s.dev.sec with hbmWiped := true }
        ∧ d.flag R.WIPE_STAT_BUSY [] = false ∧ d.get R.WIPE_STAT_LAST_US [] = us % 2 ^ R.WIPE_STAT_LAST_US.width)
  ∧ (∀ (s : State) (us : Nat), s.awake → s.dev.sec.phyTrained = false ∨ s.dev.sec.hbmWiped = true → s.does (.hbmWipeDone us) s.dev)

/-- Resets and start-up (R430, R440, R442, R443, R452, R453, R468, R470, R471, R472, R473). PERST#, a power-on reset, a
brown-out and a link reset put the device into a full reset with their cause, a life-cycle change does so 1 ms after
it was accepted; HBM and every queue, command and register beside the kept ones are gone, host memory and OTP stay,
and the reset count goes up unless the power was lost. The release senses OTP, draws the boot nonce and starts the
wipe of SRAM; its end lets the boot ROM read the board block; the identity key is ready once; the boot ROM loads the
image the rules choose, or the running one after a device fault; then firmware sets READY. -/
def Obligations.ResetRows : Prop :=
  (∀ (s : State), s.does .perstAssert (s.dev.fullReset 2 false) ∧ s.does .powerOnReset (s.dev.fullReset 0 true)
      ∧ s.does .brownOut (s.dev.fullReset 1 true))
  ∧ (∀ (s : State), (s.dev.hst.linkUp = true → s.does .linkReset (s.dev.fullReset 3 false)) ∧ (s.dev.hst.linkUp = false → s.does .linkReset s.dev))
  ∧ (∀ (s : State) (c : LcChange), s.dev.sec.change = some c →
      (s.awake → (1000000 * 65536 : Int) ≤ ttDiff s.dev.tt c.since → s.does .lifecycleReset (s.dev.fullReset 4 false))
      ∧ (s.dev.sec.inReset = true ∨ ttDiff s.dev.tt c.since < 1000000 * 65536 → s.does .lifecycleReset s.dev))
  ∧ (∀ (s : State), s.dev.sec.change = none → s.does .lifecycleReset s.dev)
  ∧ (∀ (d : Device) (cause : Nat), cause < 8 → ∃ e, d.fullReset cause false = e ∧ e.sec.inReset = true ∧ e.hbm = [] ∧ e.hostMem = d.hostMem
      ∧ e.ctl.works = [] ∧ e.dlv.ctxs = [] ∧ e.sec.floor = d.sec.brokenFloor (d.flag R.SEC_SVN_REQ_BUSY []) d.ctl.draws
      ∧ e.sec.lcLog = d.sec.lcLog ∧ e.sec.scrap = d.sec.scrap ∧ e.sec.change = d.sec.change ∧ e.get R.HM_RSTCAUSE_CAUSE [] = cause
      ∧ e.get R.HM_RSTCAUSE_COUNT [] = (d.get R.HM_RSTCAUSE_COUNT [] + 1) % 2 ^ R.HM_RSTCAUSE_COUNT.width)
  ∧ (∀ (d : Device) (cause : Nat), cause < 8 → ∃ e, d.fullReset cause true = e ∧ e.sec.inReset = true ∧ e.hbm = [] ∧ e.sec.change = none
      ∧ e.get R.HM_RSTCAUSE_CAUSE [] = cause ∧ e.get R.HM_RSTCAUSE_COUNT [] = 0)
  ∧ (∀ (s : State), s.awake → s.does .resetRelease s.dev)
  ∧ (∀ (s : State) (x : SecX) (d e : Device), s.dev.sec.inReset = true →
      (match s.dev.sec.change with | some c => s.dev.sec.program c | none => s.dev.sec) = x →
      ((s.dev.setSec { (if x.lcState = lcOWNED then x else x.revokeOwners) with inReset := false, sensed := true }).showOtp).drawNonce = d →
      (if d.sec.lcState ≤ lcPROVISIONED then (d.setFlag R.SEC_STAT_DEBUG_OPEN [] true).put R.SEC_STAT_DEBUG_LEVEL [] 2 else d) = e →
      s.does .resetRelease ((List.range 15).foldl (fun d b => if d.boothPresent b then d.setFlag R.BOOTH_STATE_WIPE_BUSY [b] true else d) e))
  ∧ (∀ (s : State), s.awake → s.dev.sec.sensed = false ∨ s.dev.sec.sramWiped = true → s.does .sramWipeDone s.dev)
  ∧ (∀ (s : State) (d : Device), s.awake → s.dev.sec.sensed = true → s.dev.sec.sramWiped = false →
      (List.range 15).foldl (fun d b => d.setFlag R.BOOTH_STATE_WIPE_BUSY [b] false) (s.dev.setSec { s.dev.sec with sramWiped := true }) = d →
      (d.lifecycle = lcSCRAPPED → s.does .sramWipeDone d.bootStop)
      ∧ (∀ e : Device, d.lifecycle ≠ lcSCRAPPED →
          (∃ body, d.sec.boardBody d.lifecycle = some body ∧ e = d.boardApply body)
            ∨ (d.sec.boardBody d.lifecycle = none ∧ d.sec.flashRead 0 4 = [255, 255, 255, 255] ∧ e = d)
            ∨ (d.sec.boardBody d.lifecycle = none ∧ d.sec.flashRead 0 4 ≠ [255, 255, 255, 255] ∧ e = d.setFlag R.SEC_STAT_BB_BAD [] true) →
          s.does .sramWipeDone ((e.setFlag R.NET_PORT_STAT_UNLOCKED [] (!e.hasHostKey)).setFlag R.NET_PORT_STAT_KEY_SET [] e.hasHostKey)))
  ∧ (∀ (s : State), s.awake → s.dev.sec.change = none → s.dev.sec.sensed = true → s.dev.flag R.SEC_STAT_ID_READY [] = false →
      lcHasKey s.dev.lifecycle = true → s.dev.flag R.SEC_STAT_DEBUG_OPEN [] = false ∨ s.dev.lifecycle = 1 →
      s.does .identityKeyReady ((s.dev.setSec { s.dev.sec with idKey := some (identityKey s.dev.sec.seed s.dev.sec.dieId) }).setFlag
        R.SEC_STAT_ID_READY [] true))
  ∧ (∀ (s : State), s.awake → s.dev.sec.change.isSome = true ∨ s.dev.sec.sensed = false ∨ s.dev.flag R.SEC_STAT_ID_READY [] = true
        ∨ lcHasKey s.dev.lifecycle = false ∨ s.dev.flag R.SEC_STAT_DEBUG_OPEN [] = true ∧ s.dev.lifecycle ≠ 1 →
      s.does .identityKeyReady s.dev)
  ∧ (∀ (s : State), s.awake → s.dev.get R.RM_STATUS_STAGE [] = 2 →
      (s.dev.sec.imageError s.dev.lifecycle (s.dev.get R.SEC_BOOT_SLOT []) = 0 →
        s.dev.sec.fwHash (s.dev.get R.SEC_BOOT_SLOT []) = s.dev.digestOf R.SEC_FWHASH →
        s.does .bootImageLoad (s.dev.imageCopy (s.dev.get R.SEC_BOOT_SLOT [])))
      ∧ (s.dev.sec.imageError s.dev.lifecycle (s.dev.get R.SEC_BOOT_SLOT []) ≠ 0
          ∨ s.dev.sec.fwHash (s.dev.get R.SEC_BOOT_SLOT []) ≠ s.dev.digestOf R.SEC_FWHASH → s.does .bootImageLoad s.dev.bootStop))
  ∧ (∀ (s : State) (a b ea eb : Nat), s.awake → s.dev.get R.RM_STATUS_STAGE [] = 0 → s.dev.sec.sramWiped = true → s.dev.sec.hbmWiped = true →
      s.dev.ctl.bootPath = true → s.dev.txActive 15 = false → lcHasKey s.dev.lifecycle = false ∨ s.dev.sec.idKey.isSome = true →
      s.dev.sec.bootOrder = [a, b] → s.dev.sec.imageError s.dev.lifecycle a = ea →
      (s.dev.bootErr a ea).sec.imageError (s.dev.bootErr a ea).lifecycle b = eb →
      (s.dev.lifecycle = lcSCRAPPED → s.does .bootImageLoad s.dev.bootStop)
      ∧ (s.dev.lifecycle ≠ lcSCRAPPED → ea = 0 →
          s.does .bootImageLoad ((((s.dev.bootErr a 0).bootErr b 9).sealBoot (s.dev.sec.fwHash a)).imageCopy a))
      ∧ (s.dev.lifecycle ≠ lcSCRAPPED → ea ≠ 0 → eb = 0 → s.does .bootImageLoad
          (((((s.dev.bootErr a ea).bootErr b 0).setFlag R.SEC_BOOT_FALLBACK [] true).sealBoot (s.dev.sec.fwHash b)).imageCopy b))
      ∧ (s.dev.lifecycle ≠ lcSCRAPPED → ea ≠ 0 → eb ≠ 0 → s.does .bootImageLoad
          (((s.dev.bootErr a ea).bootErr b eb).setFlag R.SEC_BOOT_FALLBACK [] true).bootStop))
  ∧ (∀ (s : State), s.awake → s.dev.get R.RM_STATUS_STAGE [] = 1 ∨ 3 ≤ s.dev.get R.RM_STATUS_STAGE []
        ∨ s.dev.get R.RM_STATUS_STAGE [] = 0 ∧ (s.dev.sec.sramWiped = false ∨ s.dev.sec.hbmWiped = false ∨ s.dev.ctl.bootPath = false
          ∨ s.dev.txActive 15 = true ∨ lcHasKey s.dev.lifecycle = true ∧ s.dev.sec.idKey = none) →
      s.does .bootImageLoad s.dev)
  ∧ (∀ (s : State), s.awake → s.dev.get R.RM_STATUS_STAGE [] ≠ 1 ∨ s.dev.ready = true → s.does .hmReadySet s.dev)
  ∧ (∀ (s : State), s.awake → s.dev.get R.RM_STATUS_STAGE [] = 1 → s.dev.ready = false →
      s.dev.readySet.ready = true →
      exec .hmReadySet s = .next ({ s with dev := s.waiting.foldl Device.lose s.dev.readySet, waiting := s.waiting.filter fromBoot } : State).settle)
  ∧ (∀ (s : State), s.awake → s.dev.get R.RM_STATUS_STAGE [] = 1 → s.dev.ready = false → s.dev.ctl.works = [] → s.dev.hst.stalled = [] →
      s.dev.hst.vectors = [] → s.dev.faultInForce = false → s.dev.boothState 11 = 1 → s.dev.dlv.takeDue = none →
      ∃ d, d.ready = true ∧ d.flag R.HM_READY_SET [] = true ∧ d.get R.BK_ACT_ADV_NS [] = 2000000 ∧ d.flag R.RM_WDT_CTL_LOCK [] = true
        ∧ (∀ n : Fin 8, d.flag R.BMB_CTL_HELD [n.val] = false)
        ∧ exec .hmReadySet s = .next ({ s with dev := s.waiting.foldl Device.lose d, waiting := s.waiting.filter fromBoot } : State).settle)

/-- Security: floor, signed requests, quotes, challenges, JTAG, SDN, flash (R446, R448, R451, R452, R457, R458, R459,
R460, R461, R463). A write of SEC_SVN_REQ asks for a floor up to the running image, marking one above it CAPPED, and
the fuses come when they are programmed; a signed request is taken with its bytes and, once checked, has its effect
only with result 0, and is answered; a quote is taken over what stands at GO where the identity key stands, else
refused, and written signed once done; a challenge is drawn, lives 60 s, and replaces the one before; in SCRAPPED the
JTAG port takes nothing; a board is provisioned in BLANK, scrapped in BLANK or PROVISIONED, after which the key cache
is gone; SDN is taken in STARTUP; a flash write stores its bytes and ends its command; an open JTAG port halts,
resumes, reads and writes as its level allows. -/
def Obligations.SecurityRows : Prop :=
  (∀ (s : State) (target : Nat) (d : Device), s.awake → target < 8192 → s.dev.wake 14 = d →
      (d.flag R.SEC_SVN_REQ_BUSY [] = true → ∃ e, s.does (.secSvnReqWrite target) e ∧ e.sec = s.dev.sec ∧ e.flag R.SEC_SVN_REQ_BUSY [] = true)
      ∧ (d.flag R.SEC_SVN_REQ_BUSY [] = false → s.dev.sec.floor < min target (d.get R.SEC_BOOT_IMAGE_SVN []) →
          ∃ e, s.does (.secSvnReqWrite target) e ∧ e.sec = { s.dev.sec with svnTarget := min target (d.get R.SEC_BOOT_IMAGE_SVN []) }
            ∧ e.flag R.SEC_SVN_REQ_BUSY [] = true
            ∧ (d.get R.SEC_BOOT_IMAGE_SVN [] < target → e.flag R.SEC_SVN_REQ_CAPPED [] = true))
      ∧ (d.flag R.SEC_SVN_REQ_BUSY [] = false → min target (d.get R.SEC_BOOT_IMAGE_SVN []) ≤ s.dev.sec.floor →
          ∃ e, s.does (.secSvnReqWrite target) e ∧ e.sec = s.dev.sec ∧ e.flag R.SEC_SVN_REQ_BUSY [] = false
            ∧ (d.get R.SEC_BOOT_IMAGE_SVN [] < target → e.flag R.SEC_SVN_REQ_CAPPED [] = true)))
  ∧ (∀ (s : State) (d : Device), s.awake → s.dev.flag R.SEC_SVN_REQ_BUSY [] = true →
      ((s.dev.setSec { s.dev.sec with floor := max s.dev.sec.floor s.dev.sec.svnTarget, svnTarget := 0 }).setFlag R.SEC_SVN_REQ_BUSY [] false).put
        R.SEC_SVN_FLOOR [] (max s.dev.sec.floor s.dev.sec.svnTarget) = d →
      s.does .svnProgramDone (d.finish 0x0E04 [] stOK (leBytes 2 (max s.dev.sec.floor s.dev.sec.svnTarget))))
  ∧ (∀ (s : State), s.awake → s.dev.flag R.SEC_SVN_REQ_BUSY [] = false → s.does .svnProgramDone s.dev)
  ∧ (∀ (s : State) (n a : Nat), s.awake → s.dev.flag R.SEC_REQ_CTL_BUSY [] = false → s.dev.get R.SEC_REQ_CTL_LEN [] = n →
      s.dev.get R.SEC_REQ_ADDR_ADDR [] = a →
      (n = 320 ∨ n = 520 → a % 64 = 0 → inRegion a n = true →
        ∃ e, s.does .secRequestGo e ∧ e.sec = { s.dev.sec with request := s.dev.hbmRead (a - rmBase) n } ∧ e.flag R.SEC_REQ_CTL_BUSY [] = true)
      ∧ (n ≠ 320 ∧ n ≠ 520 ∨ a % 64 ≠ 0 ∨ inRegion a n = false →
        ∃ e, s.does .secRequestGo e ∧ e.sec = { s.dev.sec with request := [] } ∧ e.flag R.SEC_REQ_CTL_BUSY [] = true))
  ∧ (∀ (s : State), s.awake → s.dev.flag R.SEC_REQ_CTL_BUSY [] = true → ∃ e, s.does .secRequestGo e ∧ e.sec = s.dev.sec)
  ∧ (∀ (s : State), s.awake → s.dev.flag R.SEC_REQ_CTL_BUSY [] = false → s.does .secRequestCheckDone s.dev)
  ∧ (∀ (s : State) (r : Nat) (d e : Device), s.awake → s.dev.flag R.SEC_REQ_CTL_BUSY [] = true → s.dev.requestCheck s.dev.sec.request false = r →
      (if r = 0 then s.dev.requestDone s.dev.sec.request else s.dev) = d →
      (((d.setSec { d.sec with request := [] }).setFlag R.SEC_REQ_CTL_BUSY [] false).setFlag R.SEC_REQ_CTL_DONE [] true).put
        R.SEC_REQ_CTL_RESULT [] r = e →
      (e.requestWork = none → s.does .secRequestCheckDone e)
      ∧ (∀ w, e.requestWork = some w → keyBytes w.key ≠ s.dev.sec.request → s.does .secRequestCheckDone (e.requestSubmit (keyBytes w.key)))
      ∧ (∀ w f, e.requestWork = some w → keyBytes w.key = s.dev.sec.request →
          e.finishWork w (requestStatus r) (if r = 0 ∧ w.opcode = 0x0E03 then [BitVec.ofNat 8 (e.sec.lcCount
            + b2n (isTransition s.dev.sec.request && decide (fieldAt s.dev.sec.request 17 1 ≠ lcSCRAPPED)))] else []) = f →
          s.does .secRequestCheckDone (match f.requestWork with | some v => f.requestSubmit (keyBytes v.key) | none => f)))
  ∧ (∀ (s : State), s.awake → s.dev.flag R.SEC_Q_CTL_BUSY [] = false →
      (s.dev.sec.idKey.isSome = true →
        ∃ e, s.does .secQuoteGo e ∧ e.sec = { s.dev.sec with quote := s.dev.quoteBytes } ∧ e.flag R.SEC_Q_CTL_BUSY [] = true)
      ∧ (s.dev.sec.idKey = none → ∃ e, s.does .secQuoteGo e ∧ e.sec = s.dev.sec ∧ e.flag R.SEC_Q_CTL_REFUSED [] = true))
  ∧ (∀ (s : State), s.awake → s.dev.flag R.SEC_Q_CTL_BUSY [] = true → ∃ e, s.does .secQuoteGo e ∧ e.sec = s.dev.sec)
  ∧ (∀ (s : State), s.awake → s.dev.flag R.SEC_Q_CTL_BUSY [] = false → s.does .quoteDone s.dev)
  ∧ (∀ (s : State) (key a : Nat) (d e f : Device) (sig : List Byte), s.awake → s.dev.flag R.SEC_Q_CTL_BUSY [] = true →
      s.dev.sec.idKey = some key → s.dev.setFlag R.SEC_Q_CTL_BUSY [] false = d → d.signWith key d.sec.quote = (sig, e) →
      d.get R.SEC_Q_ADDR_ADDR [] = a →
      (((if inRegion a 352 then e.hbmWrite (a - rmBase) (d.sec.quote ++ sig) else e).setFlag R.SEC_Q_CTL_DONE [] true).setSec
        { (if inRegion a 352 then e.hbmWrite (a - rmBase) (d.sec.quote ++ sig) else e).sec with quote := [] }) = f →
      (f.attestWork = none → s.does .quoteDone f)
      ∧ (∀ w, f.attestWork = some w → keyBytes w.key = (d.sec.quote.drop 40).take 32 →
          s.does .quoteDone (Device.attestNext 64 (f.finishOut w stOK [] (d.sec.quote ++ sig))))
      ∧ (∀ w, f.attestWork = some w → keyBytes w.key ≠ (d.sec.quote.drop 40).take 32 → s.does .quoteDone (Device.attestNext 64 f)))
  ∧ (∀ (s : State) (d : Device), s.awake → s.dev.flag R.SEC_Q_CTL_BUSY [] = true → s.dev.sec.idKey = none →
      (s.dev.setFlag R.SEC_Q_CTL_BUSY [] false).setFlag R.SEC_Q_CTL_REFUSED [] true = d →
      (d.attestWork = none → s.does .quoteDone d)
      ∧ (∀ w, d.attestWork = some w → s.does .quoteDone (Device.attestNext 64 (d.finishWork w 0x0E13 []))))
  ∧ (∀ (s : State) (k : Fin 4), s.awake →
      ∃ e, s.does .secNewChallenge e ∧ e.sec = { s.dev.sec with chalTT := s.dev.tt } ∧ e.flag R.SEC_DBG_CTL_CHAL_VALID [] = true
        ∧ e.rd R.SEC_DBG_CHAL [k.val] = BitVec.ofNat 64 (fieldAt (s.dev.secret 32).1 (8 * k.val) 8))
  ∧ (∀ (s : State), s.awake →
      (s.dev.lifecycle ≠ lcSCRAPPED → s.does .jtagNewChallenge s.dev.newChallenge)
      ∧ (s.dev.lifecycle = lcSCRAPPED → s.does .jtagNewChallenge s.dev))
  ∧ (∀ (s : State), s.awake → s.dev.flag R.SEC_DBG_CTL_CHAL_VALID [] = true → (60000000000 * 65536 : Int) ≤ ttDiff s.dev.tt s.dev.sec.chalTT →
      ∃ e, s.does .debugChallengeExpire e ∧ e.flag R.SEC_DBG_CTL_CHAL_VALID [] = false ∧ e.sec = s.dev.sec
        ∧ ∀ k : Fin 4, e.rd R.SEC_DBG_CHAL [k.val] = 0)
  ∧ (∀ (s : State), s.awake → s.dev.flag R.SEC_DBG_CTL_CHAL_VALID [] = false ∨ ttDiff s.dev.tt s.dev.sec.chalTT < 60000000000 * 65536 →
      s.does .debugChallengeExpire s.dev)
  ∧ (∀ (s : State) (rq : List Byte), s.awake →
      (s.dev.lifecycle = lcSCRAPPED ∨ s.dev.requestCheck rq true ≠ 0 → s.does (.jtagDebugRequest rq) s.dev)
      ∧ (s.dev.lifecycle ≠ lcSCRAPPED → s.dev.requestCheck rq true = 0 → s.does (.jtagDebugRequest rq) (s.dev.requestDone rq)))
  ∧ (∀ (s : State) (hs : List (List Byte)), s.awake →
      (s.dev.lifecycle = lcBLANK → s.dev.sec.change = none → s.dev.sec.freeRecord.isSome = true →
        ∃ e, s.does (.jtagProvision hs) e ∧ e.sec.idKey = none ∧ e.sec.sealKey = none
          ∧ e.sec.change = some { vendor := hs.take 4, seed := (s.dev.secret 48).1, toState := lcPROVISIONED, since := s.dev.tt }
          ∧ e.flag R.SEC_STAT_ID_READY [] = false ∧ e.flag R.MB_STAT_KEY_READY [] = false)
      ∧ (s.dev.lifecycle ≠ lcBLANK ∨ s.dev.sec.change.isSome = true ∨ s.dev.sec.freeRecord = none → s.does (.jtagProvision hs) s.dev))
  ∧ (∀ (s : State), s.awake →
      (s.dev.lifecycle = lcBLANK ∨ s.dev.lifecycle = lcPROVISIONED → s.dev.sec.change = none →
        ∃ e, s.does .jtagScrap e ∧ e.sec.change = some { toState := lcSCRAPPED, since := s.dev.tt } ∧ e.sec.idKey = none ∧ e.sec.sealKey = none
          ∧ e.flag R.SEC_STAT_ID_READY [] = false)
      ∧ (s.dev.lifecycle ≠ lcBLANK ∧ s.dev.lifecycle ≠ lcPROVISIONED ∨ s.dev.sec.change.isSome = true → s.does .jtagScrap s.dev))
  ∧ (∀ (s : State) (n : Nat), s.awake → n < 65536 →
      (s.dev.mode = 0 → ∃ e, s.does (.secSdnWrite n) e ∧ e.sdn = n ∧ e.sec = s.dev.sec)
      ∧ (s.dev.mode ≠ 0 → ∃ e, s.does (.secSdnWrite n) e ∧ e.sdn = s.dev.sdn ∧ e.sec = s.dev.sec))
  ∧ (∀ (s : State) (j : FlashJob) (rest : List FlashJob), s.awake → s.dev.sec.jobs = j :: rest →
      s.does .flashWriteDone ((s.dev.setSec { s.dev.sec with flash := writeBytes s.dev.sec.flash 255 j.addr j.data, jobs := rest }).finish
        j.opcode [j.key] stOK []))
  ∧ (∀ (s : State), s.awake → s.dev.sec.jobs = [] → s.does .flashWriteDone s.dev)
  ∧ (∀ (s : State) (op : Jtag), s.awake → s.dev.flag R.SEC_STAT_DEBUG_OPEN [] = false ∨ s.dev.get R.SEC_STAT_DEBUG_LEVEL [] = 0 →
      s.does (.jtagDebugAccess op) s.dev)
  ∧ (∀ (s : State) (a n : Nat) (bs : List Byte) (v : Word) (h : Half) (d : Device) (o : Option (List Byte)), s.awake → s.dev.ready = true →
      s.dev.flag R.SEC_STAT_DEBUG_OPEN [] = true → 0 < s.dev.get R.SEC_STAT_DEBUG_LEVEL [] →
      s.does (.jtagDebugAccess .halt) (s.dev.setSec { s.dev.sec with jtagHalted := true })
      ∧ s.does (.jtagDebugAccess .resume) (s.dev.setSec { s.dev.sec with jtagHalted := false })
      ∧ s.does (.jtagDebugAccess .step) s.dev
      ∧ (inWindows a = true → s.does (.jtagDebugAccess (.writeReg a v)) (s.dev.ringmasterStore a .full v))
      ∧ (inWindows a = true → s.dev.loadReg a .full = (v, d) →
          s.does (.jtagDebugAccess (.readReg a .full)) (d.jtagShow (some (leBytes 8 v.toNat))))
      ∧ (inWindows a = true → s.dev.loadReg a .lo = (v, d) →
          s.does (.jtagDebugAccess (.readReg a .lo)) (d.jtagShow (some (leBytes 4 v.toNat))))
      ∧ (inWindows a = true → s.dev.loadReg a .hi = (v, d) →
          s.does (.jtagDebugAccess (.readReg a .hi)) (d.jtagShow (some (leBytes 4 (v.toNat / 2 ^ 32)))))
      ∧ (inWindows a = false → s.does (.jtagDebugAccess (.writeReg a v)) s.dev ∧ s.does (.jtagDebugAccess (.readReg a h)) s.dev)
      ∧ (s.dev.get R.SEC_STAT_DEBUG_LEVEL [] = 1 →
          s.does (.jtagDebugAccess (.readMem a n)) s.dev ∧ s.does (.jtagDebugAccess (.writeMem a bs)) s.dev)
      ∧ (2 ≤ s.dev.get R.SEC_STAT_DEBUG_LEVEL [] → s.dev.loadMem a (min n 4096) = (o, d) →
          s.does (.jtagDebugAccess (.readMem a n)) (d.jtagShow o))
      ∧ (2 ≤ s.dev.get R.SEC_STAT_DEBUG_LEVEL [] → s.does (.jtagDebugAccess (.writeMem a bs)) (s.dev.storeMem a bs)))

/-- Operating mode, pace loop and health monitor (R33, R475, R476, R477, R478, R479, R480, R481, R482, R483). A write of
HM_MODE enters the mode, which DEV_STATUS shows and VREQ follows, but not STARTUP again; a booth shows its own pace,
SHORT below 1.0; each period of the loop moves VREQ within its limits and sends it where AVS is valid; a booth short
for 10 ms at VMAX raises PACE_CEILING; samples of temperatures and rails are shown, judged and counted, throttling the
port booths that are hot; a limit passed for its time is a device fault HEALTH, at 125 degrees with THERMTRIP. -/
def Obligations.HealthRows : Prop :=
  (∀ (s : State) (m : Fin 4), s.awake → m ≠ 0 ∨ s.dev.mode = 0 →
      ∃ d : Device, s.does (.hmModeWrite m) d.narrowCore ∧ d.mode = m.val ∧ d.get R.DEV_STATUS_MODE [] = m.val ∧ d.tim = s.dev.tim)
  ∧ (∀ (s : State), s.awake → s.dev.mode ≠ 0 →
      ∃ d, s.does (.hmModeWrite 0) d ∧ d.mode = s.dev.mode ∧ d.flag R.HM_STAT_CFG_BAD [] = true)
  ∧ (∀ (s : State) (b : Fin 16) (r : BitVec 16), s.awake → s.dev.boothPresent b.val = false ∨ s.dev.flag R.BOOTH_STATE_WIPE_BUSY [b.val] = true →
      s.does (.boothPaceUpdate b r) s.dev)
  ∧ (∀ (s : State) (b : Fin 16) (r : BitVec 16), s.awake → s.dev.boothPresent b.val = true → s.dev.flag R.BOOTH_STATE_WIPE_BUSY [b.val] = false →
      r.toNat < 0x1000 → s.dev.flag R.BOOTH_PACE_SHORT [b.val] = false → 8 ≤ b.val →
      ∃ d, s.does (.boothPaceUpdate b r) d ∧ d.get R.BOOTH_PACE_RATIO [b.val] = r.toNat ∧ d.flag R.BOOTH_PACE_SHORT [b.val] = true
        ∧ d.flag R.BOOTH_PACE_SHORT_SEEN [b.val] = true
        ∧ d.pow = { s.dev.pow with shortSince := s.dev.pow.shortSince.put none b.val (some s.dev.tt), totShort := s.dev.pow.totShort + 1
                                   shortSeen := s.dev.pow.shortSeen ||| 2 ^ b.val })
  ∧ (∀ (s : State) (b : Fin 16) (r : BitVec 16), s.awake → s.dev.boothPresent b.val = true → s.dev.flag R.BOOTH_STATE_WIPE_BUSY [b.val] = false →
      0x1000 ≤ r.toNat → 8 ≤ b.val →
      ∃ d, s.does (.boothPaceUpdate b r) d ∧ d.get R.BOOTH_PACE_RATIO [b.val] = r.toNat ∧ d.flag R.BOOTH_PACE_SHORT [b.val] = false
        ∧ d.flag R.BOOTH_PACE_SHORT_SEEN [b.val] = s.dev.flag R.BOOTH_PACE_SHORT_SEEN [b.val]
        ∧ d.pow = { s.dev.pow with shortSince := s.dev.pow.shortSince.put none b.val none })
  ∧ (∀ (s : State) (b : Fin 16) (r : BitVec 16), s.awake → s.dev.boothPresent b.val = true → s.dev.flag R.BOOTH_STATE_WIPE_BUSY [b.val] = false →
      b.val < 8 → ∃ d : Device, s.does (.boothPaceUpdate b r) (d.thermal b.val) ∧ d.get R.BOOTH_PACE_RATIO [b.val] = r.toNat
        ∧ d.flag R.BOOTH_PACE_SHORT [b.val] = decide (r.toNat < 0x1000) ∧ d.get R.HM_STAT_THROTTLE [] = s.dev.get R.HM_STAT_THROTTLE [])
  ∧ (∀ (s : State) (naks : Nat), s.awake → s.dev.paceActive = false → s.does (.pacePeriod naks) s.dev.narrowCore)
  ∧ (∀ (s : State) (naks v : Nat) (d e : Device), s.awake → s.dev.paceActive = true →
      (clampI (s.dev.get R.NET_VCORE_VMIN []) (s.dev.get R.NET_VCORE_VMAX []) s.dev.paceStep).toNat = v →
      (match s.dev.leastPace with
        | some (m, b) => (s.dev.put R.PW_PACE_STAT_MIN_RATIO [] m).put R.PW_PACE_STAT_MIN_BOOTH [] b
        | none => s.dev) = d →
      ({ d with pow := { d.pow with shortSeen := maskWhere 15 (fun b => d.flag R.BOOTH_PACE_SHORT [b]) } } : Device) = e →
      (v = e.get R.PW_PACE_STAT_VREQ [] → s.does (.pacePeriod naks) e)
      ∧ (∀ f : Device, v ≠ e.get R.PW_PACE_STAT_VREQ [] →
          ({ e.put R.PW_PACE_STAT_VREQ [] v with pow := { e.pow with vreqTT := e.tt } } : Device) = f →
          (f.flag R.PW_AVS_CFG_VALID [] = true → s.does (.pacePeriod naks) (f.avsSend (f.voutOf v) naks))
          ∧ (f.flag R.PW_AVS_CFG_VALID [] = false → s.does (.pacePeriod naks) f)))
  ∧ (∀ (s : State) (due : List Nat), s.awake →
      (List.range 15).filter (fun b => heldFor b s.dev.tt 10000000 s.dev.pow.shortSince) = due →
      (due ≠ [] → s.dev.get R.PW_PACE_STAT_VREQ [] = s.dev.get R.NET_VCORE_VMAX [] → (10000000 * 65536 : Int) ≤ ttDiff s.dev.tt s.dev.pow.vreqTT →
        s.does .paceCeiling (({ s.dev with pow := { s.dev.pow with
          shortSince := due.foldl (fun m b => m.put none b none) s.dev.pow.shortSince } } : Device).warn 4))
      ∧ (due = [] ∨ s.dev.get R.PW_PACE_STAT_VREQ [] ≠ s.dev.get R.NET_VCORE_VMAX [] ∨ ttDiff s.dev.tt s.dev.pow.vreqTT < 10000000 * 65536 →
        s.does .paceCeiling s.dev))
  ∧ (∀ (s : State) (temps : List (BitVec 16)) (hbm : List Byte), s.awake →
      ∃ d, s.does (.healthSample temps hbm) d
        ∧ (∀ k : Fin 32, d.get R.HM_TEMP_TEMP [k.val] = (temps.getD k.val 0).toNat ∧ d.flag R.HM_TEMP_VALID [k.val] = true)
        ∧ (∀ k : Fin 2, d.get R.HBM_STAT_TEMP [k.val] = (hbm.getD k.val 0).toNat))
  ∧ (∀ (s : State) (mv : List (BitVec 16)), s.awake →
      ∃ d, s.does (.railSample mv) d ∧ (∀ r : Fin 11, d.get R.HM_VMON_MV [r.val] = (mv.getD r.val 0).toNat) ∧ d.hbm = s.dev.hbm)
  ∧ (∀ (s : State) (due : List Nat) (d : Device), s.awake → s.dev.limitsDue = due → due ≠ [] →
      ({ s.dev with pow := { s.dev.pow with limitSince := due.foldl (fun m k => m.put none k none) s.dev.pow.limitSince } } : Device) = d →
      ((∃ k ∈ due, 64 ≤ k) → s.does .healthLimitExpire ((d.setFlag R.HM_STAT_THERMTRIP [] true).deviceFault 5 false))
      ∧ ((∀ k ∈ due, k < 64) → s.does .healthLimitExpire (d.deviceFault 5 false)))
  ∧ (∀ (s : State), s.awake → s.dev.limitsDue = [] → s.does .healthLimitExpire s.dev)

/-- Transaction commands, mailbox group 0x01 (R68, R98, R99, R100, R108, R64, R57). TXN_OPEN opens the lowest free slot
that no running commit waits for and answers its number; TXN_STAGE stages the entries of its payload or buffer in
order and answers how many, or stops at the first refused one with its status; TXN_COMMIT writes mode, times and
deadline and starts the check, answered ACCEPTED; TXN_CANCEL frees an open slot, aborts an armed one not yet sampled,
and is BUSY when it comes too late; TXN_QUERY and EPOCH_QUERY report the slot and the epoch and change nothing. -/
def Obligations.TransactionCommands : Prop :=
  (∀ (s : State) (e : Entry) (n : Nat), n < 14 → s.dev.txnFree n = true →
      (∀ w ∈ (s.dev.entered e).ctl.works, w.opcode = 0x0102 → w.key.headD 0 = n → w.dead = true) →
      (∀ m, m < n → s.dev.txnFree m = false ∨ ∃ w ∈ (s.dev.entered e).ctl.works, w.opcode = 0x0102 ∧ w.key.headD 0 = m ∧ w.dead = false) →
      s.gives (.txnOpen e) txnOpenSpec e true (fun d r => r.status = stOK ∧ r.payload = leBytes 2 (n + 1) ∧ r.dev.txState n = 1
        ∧ (r.dev.tx n).entries = [] ∧ r.dev.ownerOf (.txn n) = some e.via.owner ∧ r.dev.hbm = d.hbm))
  ∧ (∀ (s : State) (e : Entry) (b : List Byte) (txn count : Nat), (if e.hostBuf then (s.dev.entered e).input e else e.body) = b →
      fieldAt b 0 2 = txn → fieldAt b 2 2 = count → (e.hostBuf = true → e.inLen = 8 + 24 * count ∧ fieldAt b 4 4 = 0) →
      (e.hostBuf = false → 4 + 24 * count ≤ e.length.toNat ∧ count ≤ 2) →
      (s.dev.entered e).txnCheck e txn = stOK → s.dev.txState (txn - 1) = 1 →
      s.gives (.txnStage e) txnStageSpec e true (fun d r =>
        ∃ k st t, Device.stageList (txn - 1) (entriesOf (b.drop (if e.hostBuf then 8 else 4)) count) 0 d = (k, st, t)
          ∧ r.status = st ∧ r.dev = t ∧ (st = stOK → k = count)
          ∧ r.payload = layout [(2, k), (2, (t.tx (txn - 1)).entries.length), (1, 0), (1, if st = stCURTAIN_ABORTED then 4 else 0)]))
  ∧ (∀ (s : State) (e : Entry) (txn : Nat), e.u 12 2 = txn → e.u 14 1 ≤ 2 → e.u 15 1 ≤ 3 → e.u 17 7 = 0 → e.u 40 24 = 0 →
      (s.dev.entered e).txnCheck e txn = stOK → s.dev.txState (txn - 1) = 1 → s.dev.txExcluded (txn - 1) = false →
      s.gives (.txnCommit e) txnCommitSpec e true (fun d r => r.status = stACCEPTED ∧ r.work = [txn - 1, e.u 15 1 / 2]
        ∧ r.dev.txState (txn - 1) = 2 ∧ r.dev.get R.CUR_TX_CTL_MODE [txn - 1] = e.u 14 1
        ∧ r.dev.get R.CUR_TX_CTL_DL_EN [txn - 1] = e.u 15 1 % 2 ∧ r.dev.get R.CUR_TX_TIME_TIME [txn - 1] = e.u 24 8
        ∧ r.dev.get R.CUR_TX_DEADLINE_DEADLINE [txn - 1] = e.u 32 8
        ∧ (r.dev.tx (txn - 1)).entries = (d.tx (txn - 1)).entries ∧ r.dev.hbm = d.hbm))
  ∧ (∀ (s : State) (e : Entry) (n : Nat), e.u 12 2 = n + 1 → (s.dev.entered e).txnCheck e (n + 1) = stOK → s.dev.txState n = 1 →
      s.gives (.txnCancel e) txnCancelSpec e true (fun _ r => r.status = stOK ∧ r.dev.txState n = 0 ∧ (r.dev.tx n).entries = []
        ∧ r.dev.ownerOf (.txn n) = none))
  ∧ (∀ (s : State) (e : Entry) (n : Nat), e.u 12 2 = n + 1 → (s.dev.entered e).txnCheck e (n + 1) = stOK → s.dev.txState n = 3 →
      ((s.dev.entered e).tx n).sampled = false →
      s.gives (.txnCancel e) txnCancelSpec e true (fun d r => r = (d.abortTx n 7).ok []))
  ∧ (∀ (s : State) (e : Entry) (n : Nat), e.u 12 2 = n + 1 → (s.dev.entered e).txnCheck e (n + 1) = stOK →
      s.dev.txState n = 2 ∨ (s.dev.txState n = 3 ∧ ((s.dev.entered e).tx n).sampled = true) →
      s.gives (.txnCancel e) txnCancelSpec e true (fun d r => r = (d.setFlag R.CUR_TX_STAT_CANCEL_LATE [n] true).no stBUSY))
  ∧ (∀ (s : State) (e : Entry) (n : Nat), e.u 12 2 = n + 1 → (s.dev.entered e).txnCheck e (n + 1) = stOK →
      s.gives (.txnQuery e) txnQuerySpec e true (fun d r => r.status = stOK ∧ r.dev = d
        ∧ r.payload = layout [(1, d.txState n), (1, d.get R.CUR_TX_STAT_REASON [n]), (2, d.get R.CUR_TX_STAT_COUNT [n]),
            (4, d.get R.CUR_TX_RESULT_EPOCH [n]), (8, d.get R.CUR_TX_ADOPT_TT [n])]))
  ∧ (∀ (s : State) (e : Entry), s.gives (.epochQuery e) epochQuerySpec e true (fun d r => r.status = stOK ∧ r.dev = d
      ∧ r.payload = layout [(4, d.epoch), (2, d.get R.CUR_STAT_PEND []), (2, d.get R.CUR_STAT_OPEN []), (2, d.get R.CUR_STAT_ACTIVE [])]))

/-- Sequencer commands, mailbox group 0x02 (R34, R71, R84, R85, R86, R90, R94, R95, R68). CAL_QUERY reports a sequencer;
CAL_LOAD puts the image of its buffer into the region, loads it and answers its ROLLID and bank, or 0x0210 with the
code, the place and the index of what the loader refused; CAL_SWAP stages BANK, ENTRY and RUN by its ACTION; CAL_HALT,
CAL_RESUME and CAL_CLEAR act as the writes of CAL_CMD do; CAL_ATTACH attaches CAL15 alone; CAL_RELEASE halts and
clears the sequencer and gives it up. CAL12 to CAL14 are firmware rolls: 0x0211; a faulted sequencer is neither
swapped nor resumed: 0x0212. -/
def Obligations.SequencerCommands : Prop :=
  (∀ (s : State) (e : Entry) (n : Nat), e.u 12 1 = n → n ≤ 15 →
      s.gives (.calQuery e) calQuerySpec e (s.dev.seqThere (e.u 12 1)) (fun d r => r.status = stOK ∧ r.dev = d
        ∧ r.payload = layout [(1, d.seqState n), (1, d.get R.CAL_STAT_SWAP_PENDING [n] + 2 * d.get R.CAL_STAT_VALID0 [n]
              + 4 * d.get R.CAL_STAT_VALID1 [n] + 8 * b2n (d.seq n).hostRoll + 16 * d.get R.CAL_CTL_BANK [n]),
            (2, d.get R.CAL_STAT_PC [n]), (1, d.get R.CAL_FAULT_CODE [n]), (1, 0), (2, d.get R.CAL_FAULT_STEP [n]),
            (4, d.get R.CAL_ROLLID_BANK0 [n]), (4, d.get R.CAL_ROLLID_BANK1 [n]), (2, d.get R.CAL_ATTACH_BOOTHS [n]), (1, d.homeOf n)]))
  ∧ (∀ (s : State) (e : Entry) (b im : List Byte) (n : Nat), (s.dev.entered e).input e = b → b.drop 8 = im → fieldAt b 0 1 = n →
      264 ≤ b.length → n ≤ 15 → fieldAt b 1 7 = 0 → fwSeq n = false → s.dev.seqFused n = false →
      (s.dev.entered e).mayTake e.via (.seq n) = true → e.inLen = 8 + rollLength im → s.dev.flag R.CAL_LD_CTL_BUSY [] = false →
      (s.dev.entered e).swapPending n = false →
      (∀ w ∈ (s.dev.entered e).hst.badWords, overlaps (w * 8) 8 imageBuffer im.length = false) →
      s.gives (.calLoad e) calLoadSpec e true (fun d r =>
        (rollCheck im = none → r.status = stOK ∧ r.payload = layout [(4, fieldAt im 8 4), (1, b2n (d.standby n))]
          ∧ r.dev.flag (validFld (d.standby n)) [n] = true ∧ (r.dev.seq n).hostRoll = true
          ∧ (if d.standby n then (r.dev.seq n).bank1 else (r.dev.seq n).bank0) = rollOf im
          ∧ r.dev.get (if d.standby n then R.CAL_ROLLID_BANK1 else R.CAL_ROLLID_BANK0) [n] = fieldAt im 8 4)
        ∧ (∀ code i w, rollCheck im = some (code, i, w) → r.status = 0x0210 ∧ r.payload = layout [(1, code), (1, b2n w), (2, i)]
            ∧ r.dev.flag (validFld (d.standby n)) [n] = false)))
  ∧ (∀ (s : State) (e : Entry) (n : Nat) (fs : List (Fld × Nat)), e.u 12 1 = n → e.u 13 1 ≤ 2 → e.u 14 2 < 4096 → e.u 18 46 = 0 →
      (s.dev.entered e).seqRefused e = 0 → s.dev.seqFused n = false → s.dev.seqState n ≠ 4 → (s.dev.entered e).swapPending n = false →
      fs = (if e.u 13 1 = 1 then [] else [(R.CAL_CTL_BANK, b2n (s.dev.standby n))]) ++ (R.CAL_CTL_ENTRY, e.u 14 2)
          :: (if e.u 13 1 = 2 then [(R.CAL_CTL_RUN, 1)] else []) →
      (s.dev.entered e).takesChange e (e.u 16 2) [stageFields R.CAL_CTL [n] fs] = true →
      s.gives (.calSwap e) calSwapSpec e (s.dev.seqThere (e.u 12 1)) (fun d r =>
        d.carries e (e.u 16 2) true { opcode := 0x0202, key := [], writes := [stageFields R.CAL_CTL [n] fs] } r))
  ∧ (∀ (s : State) (e : Entry) (n : Nat), e.u 12 1 = n → (s.dev.entered e).seqRefused e = 0 →
      s.gives (.calHalt e) calHaltSpec e (s.dev.seqThere (e.u 12 1)) (fun d r => r.status = stOK
        ∧ (d.seqState n = 1 ∨ d.seqState n = 2 → r.dev = (d.setSeqState n 3).adoptSwap n) ∧ (d.seqState n = 0 ∨ 3 ≤ d.seqState n → r.dev = d)))
  ∧ (∀ (s : State) (e : Entry) (n : Nat), e.u 12 1 = n → (s.dev.entered e).seqRefused e = 0 → s.dev.seqState n ≠ 4 →
      s.gives (.calResume e) calResumeSpec e (s.dev.seqThere (e.u 12 1)) (fun d r => r.status = stOK
        ∧ (d.seqState n = 3 → (d.seq n).entered = true → r.dev = d.beginWait n)
        ∧ (d.seqState n = 3 → (d.seq n).entered = false → r.dev = d.setSeqState n 1) ∧ (d.seqState n ≠ 3 → r.dev = d)))
  ∧ (∀ (s : State) (e : Entry) (n : Nat), e.u 12 1 = n → (s.dev.entered e).seqRefused e = 0 → s.dev.seqState n = 4 →
      s.gives (.calResume e) calResumeSpec e (s.dev.seqThere (e.u 12 1)) (fun d r => r = d.no 0x0212))
  ∧ (∀ (s : State) (e : Entry) (n : Nat), e.u 12 1 = n → (s.dev.entered e).seqRefused e = 0 →
      s.gives (.calClear e) calClearSpec e (s.dev.seqThere (e.u 12 1)) (fun d r => r.status = stOK
        ∧ (d.seqState n = 3 ∨ d.seqState n = 4 → r.dev.seqState n = 0 ∧ r.dev.rd R.CAL_FAULT [n] = 0 ∧ (r.dev.seq n).entered = false)
        ∧ (d.seqState n < 3 ∨ 4 < d.seqState n → r.dev = d) ∧ r.dev.hbm = d.hbm))
  ∧ (∀ (s : State) (e : Entry), e.u 12 1 = 15 → e.u 14 2 < 2 ^ 15 → e.u 16 1 ≤ 15 → e.u 13 1 = 0 →
      (e.u 14 2 ≠ 0 → bit (e.u 14 2) (e.u 16 1) = true) → (∀ b, b < 15 → bit (e.u 14 2) b = true → s.dev.boothPresent b = true) →
      s.dev.seqState 15 = 0 ∨ s.dev.seqState 15 = 3 →
      s.gives (.calAttach e) calAttachSpec e true (fun d r => r.status = stOK
        ∧ r.dev = ((d.put R.CAL_ATTACH_BOOTHS [15] (e.u 14 2)).put R.CAL_ATTACH_HOME [15] (e.u 16 1)).showAttach))
  ∧ (∀ (s : State) (e : Entry), 12 ≤ e.u 12 1 → e.u 12 1 ≤ 14 →
      s.gives (.calAttach e) calAttachSpec e true (fun d r => r = d.no 0x0211))
  ∧ (∀ (s : State) (e : Entry) (n : Nat), e.u 12 1 = n → (s.dev.entered e).seqRefused e = 0 →
      s.gives (.calRelease e) calReleaseSpec e (s.dev.seqThere (e.u 12 1)) (fun d r => r.status = stOK
        ∧ (r.dev.seq n).hostRoll = false ∧ r.dev.ownerOf (.seq n) = none
        ∧ (d.seqState n = 3 ∨ d.seqState n = 4 → r.dev.seqState n = 0)))

/-- Lane commands, mailbox group 0x04 (R173, R149, R150, R153, R154, R158, R161, R162, R165, R68). LANE_QUERY reports a
lane after a sample of its counters; LANE_CONFIG on an idle lane sets rate, enables, inversions, taps by FFE_MODE,
swing within SWING_MAX and the loss-of-signal thresholds; LANE_TRAIN starts training, answered ACCEPTED, or fails with
0x0410 where the lane is idle and may not transmit; LANE_ALIGN sets the comparator and starts the search; LANE_IDLE
idles the transmitter or wakes an admitted one; LANE_LOOP sets LOOP; LANE_PRBS sets pattern, generator and checker and
answers LOCK and the total; LANE_HIST starts a histogram; LANE_COUNTERS reports the totals and clears them on request. -/
def Obligations.LaneCommands : Prop :=
  (∀ (s : State) (e : Entry) (l : Nat), e.u 12 1 = l → l ≤ 15 →
      s.gives (.laneQuery e) laneQuerySpec e (s.dev.laneThere (e.u 12 1)) (fun d r => r.status = stOK ∧ r.dev = d.sampleLane l
        ∧ r.payload = layout [(1, d.get R.LN_CTL_RATE (lx l)), (1, (d.rd R.LN_STAT (lx l)).toNat),
            (1, d.get R.LN_TRAIN_STAT_STATE (lx l) + 8 * d.get R.LN_TRAIN_STAT_RESULT (lx l)),
            (1, d.get R.LN_ALIGN_STAT_FOUND (lx l) + 2 * d.get R.LN_ALIGN_STAT_OFFSET (lx l)), (2, d.get R.LN_TX_SWING (lx l)),
            (5, (d.rd R.LN_FFE (lx l)).toNat), (1, d.get R.LN_RX_EQ_CTLE (lx l)),
            (4, (d.lane l).totCorr + d.get R.LN_FEC_CW_CORR (lx l)), (4, (d.lane l).totUncorr + d.get R.LN_FEC_CW_UNCORR (lx l)),
            (4, (d.lane l).totSym + d.get R.LN_FEC_SYM_SYM (lx l)),
            (1, d.get R.LN_CTL_PRE_TX (lx l) + 2 * d.get R.LN_CTL_PRE_RX (lx l) + 4 * d.get R.LN_CTL_RX_INV (lx l)
              + 8 * d.get R.LN_CTL_TX_INV (lx l) + 16 * d.get R.LN_CTL_LOOP (lx l))]))
  ∧ (∀ (s : State) (e : Entry) (l : Nat), e.u 12 1 = l → l ≤ 15 → e.u 13 1 ≤ 5 → e.u 14 1 ≤ 15 → e.u 15 1 ≤ 5 → e.u 21 1 = 0 →
      e.u 28 24 = 0 → e.u 22 2 ≤ 1200 → 2 ≤ e.u 24 1 → e.u 24 1 ≤ 30 → e.u 25 1 ≤ 7 → e.u 26 2 ≤ 1023 →
      (match Device.ffeWanted e with | some t => tapsValid t | none => true) = true →
      (s.dev.entered e).mayLane e.via l = true → (s.dev.entered e).laneBusy l = false → e.u 22 2 ≤ s.dev.get R.NET_LN_SWING_MAX [l] →
      s.gives (.laneConfig e) laneConfigSpec e (s.dev.laneThere (e.u 12 1)) (fun d r => r.status = stOK
        ∧ r.dev.get R.LN_CTL_RATE (lx l) = e.u 13 1 ∧ r.dev.get R.LN_CTL_RX_EN (lx l) = e.u 14 1 % 2
        ∧ r.dev.get R.LN_CTL_TX_ON (lx l) = e.u 14 1 / 2 % 2 ∧ r.dev.get R.LN_CTL_RX_INV (lx l) = e.u 14 1 / 4 % 2
        ∧ r.dev.get R.LN_CTL_TX_INV (lx l) = e.u 14 1 / 8 % 2
        ∧ r.dev.rd R.LN_FFE (lx l) = (match Device.ffeWanted e with | some t => tapsWord t | none => d.rd R.LN_FFE (lx l))
        ∧ r.dev.get R.LN_TX_SWING (lx l) = e.u 22 2 ∧ (r.dev.lane l).cut = false
        ∧ r.dev.get R.LN_LOS_CFG_THRESH (lx l) = e.u 24 1 ∧ r.dev.get R.LN_LOS_CFG_HYST (lx l) = e.u 25 1
        ∧ r.dev.get R.LN_LOS_CFG_ASSERT_NS (lx l) = e.u 26 2))
  ∧ (∀ (s : State) (e : Entry) (l : Nat), e.u 12 1 = l → l ≤ 15 → e.u 13 1 ≤ 4 → e.u 14 1 ≤ 4 → e.u 15 1 ≤ 1 →
      (s.dev.entered e).mayLane e.via l = true → (s.dev.entered e).laneBusy l = false → s.dev.flag R.NET_LN_TX_EN [l] = true →
      s.dev.flag R.LN_TX_TX_IDLE (lx l) = false ∨ (s.dev.txAdmitted l = true ∧ ((s.dev.entered e).lane l).cut = false) →
      s.gives (.laneTrain e) laneTrainSpec e (s.dev.laneThere (e.u 12 1)) (fun d r => r.status = stACCEPTED ∧ r.work = [l]
        ∧ r.dev.trainState l = 1 ∧ r.dev.flag R.LN_TX_TX_IDLE (lx l) = false ∧ (r.dev.lane l).trainStart = d.tt
        ∧ r.dev.get R.LN_TRAIN_CTL_LOCAL_PRESET (lx l) = (if e.u 13 1 = 0 then 1 else e.u 13 1)
        ∧ r.dev.get R.LN_TRAIN_CTL_FAR_PRESET (lx l) = (if e.u 14 1 = 0 then 3 else e.u 14 1)
        ∧ r.dev.flag R.LN_TRAIN_CTL_PRECODE_REQ (lx l) = decide (e.u 15 1 = 0)))
  ∧ (∀ (s : State) (e : Entry) (l : Nat), e.u 12 1 = l → l ≤ 15 → e.u 13 1 ≤ 4 → e.u 14 1 ≤ 4 → e.u 15 1 ≤ 1 →
      (s.dev.entered e).mayLane e.via l = true → (s.dev.entered e).laneBusy l = false → s.dev.flag R.NET_LN_TX_EN [l] = true →
      s.dev.flag R.LN_TX_TX_IDLE (lx l) = true → s.dev.txAdmitted l = false ∨ ((s.dev.entered e).lane l).cut = true →
      s.gives (.laneTrain e) laneTrainSpec e (s.dev.laneThere (e.u 12 1)) (fun _ r => r.status = 0x0410 ∧ r.dev.trainState l = 5
        ∧ r.payload = r.dev.trainReply l))
  ∧ (∀ (s : State) (e : Entry) (l : Nat), e.u 12 1 = l → l ≤ 15 → e.u 13 1 ≠ 0 → e.u 13 1 ≤ 15 → e.u 14 1 ≠ 0 → e.u 14 1 ≤ 15 →
      e.u 32 2 ≠ 0 → (s.dev.entered e).mayLane e.via l = true → (s.dev.entered e).laneBusy l = false →
      s.dev.flag R.LN_STAT_CDR_LOCK (lx l) = true →
      s.gives (.laneAlign e) laneAlignSpec e (s.dev.laneThere (e.u 12 1)) (fun d r => r.status = stACCEPTED ∧ r.work = [l]
        ∧ (r.dev.rd R.LN_ALIGN_PAT (lx l)).toNat = e.u 16 8 ∧ (r.dev.rd R.LN_ALIGN_MASK (lx l)).toNat = e.u 24 8
        ∧ r.dev.get R.LN_ALIGN_CTL_PERIOD (lx l) = e.u 32 2 ∧ r.dev.get R.LN_ALIGN_CTL_CONFIRM (lx l) = e.u 13 1
        ∧ r.dev.get R.LN_ALIGN_CTL_LOSE (lx l) = e.u 14 1 ∧ r.dev.flag R.LN_ALIGN_CTL_ENABLE (lx l) = true
        ∧ r.dev.flag R.LN_ALIGN_STAT_FOUND (lx l) = false
        ∧ (r.dev.lane l).search = some { offset := 0, since := d.tt, start := d.tt, limitUs := if e.u 34 2 = 0 then 10000 else e.u 34 2 }))
  ∧ (∀ (s : State) (e : Entry) (l : Nat), e.u 12 1 = l → l ≤ 15 → e.u 13 1 = 0 → (s.dev.entered e).mayLane e.via l = true →
      s.gives (.laneIdle e) laneIdleSpec e (s.dev.laneThere (e.u 12 1)) (fun d r => r.status = stOK
        ∧ r.dev.flag R.LN_TX_TX_IDLE (lx l) = true ∧ r.dev.get R.LN_TX_SWING (lx l) = d.get R.LN_TX_SWING (lx l)))
  ∧ (∀ (s : State) (e : Entry) (l : Nat), e.u 12 1 = l → l ≤ 15 → e.u 13 1 = 1 → (s.dev.entered e).mayLane e.via l = true →
      s.dev.txAdmitted l = true →
      s.gives (.laneIdle e) laneIdleSpec e (s.dev.laneThere (e.u 12 1)) (fun d r => r.status = stOK
        ∧ r.dev.flag R.LN_TX_TX_IDLE (lx l) = false ∧ r.dev.get R.LN_TX_SWING (lx l) = d.get R.LN_TX_SWING (lx l)))
  ∧ (∀ (s : State) (e : Entry) (l : Nat), e.u 12 1 = l → l ≤ 15 → e.u 13 1 ≤ 3 → (s.dev.entered e).mayLane e.via l = true →
      (s.dev.entered e).laneBusy l = false → (e.u 13 1 = 3 → s.dev.txAdmitted l = true) →
      s.gives (.laneLoop e) laneLoopSpec e (s.dev.laneThere (e.u 12 1)) (fun d r => r.status = stOK
        ∧ r.dev.get R.LN_CTL_LOOP (lx l) = e.u 13 1 ∧ r.dev.get R.LN_CTL_RATE (lx l) = d.get R.LN_CTL_RATE (lx l)
        ∧ r.dev.get R.LN_CTL_RX_EN (lx l) = d.get R.LN_CTL_RX_EN (lx l)))
  ∧ (∀ (s : State) (e : Entry) (l : Nat), e.u 12 1 = l → l ≤ 15 → e.u 13 1 ≤ 5 → e.u 14 1 ≤ 7 → (s.dev.entered e).mayLane e.via l = true →
      (s.dev.entered e).laneBusy l = false →
      s.gives (.lanePrbs e) lanePrbsSpec e (s.dev.laneThere (e.u 12 1)) (fun d r => r.status = stOK
        ∧ r.payload = layout [(1, r.dev.get R.LN_PRBS_LOCK (lx l)), (7, 0), (8, (d.lane l).prbsTotal + d.get R.LN_PRBS_ERR (lx l))]
        ∧ r.dev.get R.LN_PRBS_ERR (lx l) = 0 ∧ r.dev.get R.LN_PRBS_POLY (lx l) = e.u 13 1 ∧ r.dev.get R.LN_PRBS_GEN (lx l) = e.u 14 1 % 2
        ∧ r.dev.get R.LN_PRBS_CHK (lx l) = e.u 14 1 / 2 % 2
        ∧ (r.dev.lane l).prbsTotal = (if bit (e.u 14 1) 2 then 0 else (d.lane l).prbsTotal + d.get R.LN_PRBS_ERR (lx l))))
  ∧ (∀ (s : State) (e : Entry) (b : List Byte) (l : Nat), (s.dev.entered e).input e = b → fieldAt b 0 1 = l → e.inLen = 2 → 264 ≤ e.outLen →
      l ≤ 15 → s.dev.lanePresent l = true → (s.dev.entered e).mayLane e.via l = true → s.dev.flag R.LN_STAT_CDR_LOCK (lx l) = true →
      s.gives (.laneHist e) laneHistSpec e true (fun d r => r.status = stACCEPTED ∧ r.work = [l]
        ∧ r.dev.flag R.LN_HIST_CTL_BUSY (lx l) = true
        ∧ (d.flag R.LN_HIST_CTL_BUSY (lx l) = false → r.dev.get R.LN_HIST_CTL_WIN (lx l) = clamp 10 30 (fieldAt b 1 1))))
  ∧ (∀ (s : State) (e : Entry) (l : Nat), e.u 12 1 = l → l ≤ 15 → e.u 13 1 ≤ 1 → (s.dev.entered e).mayLane e.via l = true →
      s.gives (.laneCounters e) laneCountersSpec e (s.dev.laneThere (e.u 12 1)) (fun d r => r.status = stOK
        ∧ r.payload = layout [(4, (d.lane l).totCorr + d.get R.LN_FEC_CW_CORR (lx l)), (4, (d.lane l).totUncorr + d.get R.LN_FEC_CW_UNCORR (lx l)),
            (8, (d.lane l).totSym + d.get R.LN_FEC_SYM_SYM (lx l)), (2, (d.lane l).losEvents + b2n (d.flag R.LN_EVT_LOS_SEEN (lx l))),
            (2, (d.lane l).lolEvents + b2n (d.flag R.LN_EVT_LOL_SEEN (lx l))),
            (2, (d.lane l).alignEvents + b2n (d.flag R.LN_EVT_ALIGN_LOST (lx l)))]
        ∧ (e.u 13 1 = 1 → (r.dev.lane l).totCorr = 0 ∧ (r.dev.lane l).totUncorr = 0 ∧ (r.dev.lane l).totSym = 0)
        ∧ r.dev.rd R.LN_FEC_CW (lx l) = 0))

/-- Port commands, mailbox group 0x05 (R213, R23, R57, R68, R175, R177, R180, R181, R202, R206). PORT_QUERY is answered;
PORT_OPEN disables the port, sets mode, role and addresses, then enables it, and the mailbox has it; PORT_CLOSE
disables it, ends a borrow and gives it up; PORT_LINK enables the link again, trains the lanes of a Voxent Link port
and waits; STREAM_RX stages a stream table entry, set or cleared, and leaves the old group and joins the new one;
VXL_CALIBRATE starts its rounds; VXL_REG sends a control request; PTP_CONFIG writes PP_PTP; PORT_COUNTERS reports the
totals and clears them on request. A lent port is BUSY to every one of them. -/
def Obligations.PortCommands : Prop :=
  (∀ (s : State) (e : Entry), e.u 12 1 ≤ 7 → s.dev.lent (e.u 12 1) = false →
      s.gives (.portQuery e) portQuerySpec e (s.dev.portThere (e.u 12 1)) (fun d r => r.status = stOK
        ∧ r.payload = (List.range 32).map (Config.openByte d.ctl.draws) ∧ r.dev.regs = d.regs ∧ r.dev.prt = d.prt))
  ∧ (∀ (s : State) (e : Entry) (p mode : Nat), e.u 12 1 = p → e.u 13 1 = mode → p ≤ 7 → mode ≤ 9 → e.u 14 1 ≤ 1 → e.u 15 1 ≤ 3 →
      bit (e.u 22 2) 15 = false → e.u 44 20 = 0 → s.dev.lent p = false →
      (mode = 8 → p % 2 = 0 ∧ s.dev.mayBorrow p = true ∧ (s.dev.prtx (p + 1)).isOpen = false) → (s.dev.prtx p).isOpen = false →
      (bit (e.u 15 1) 1 = true → bit (s.dev.get R.NET_PORTS_EMIT_OK []) p = true) →
      s.gives (.portOpen e) portOpenSpec e (s.dev.portThere (e.u 12 1)) (fun d r => r.status = stOK
        ∧ (r.dev.prtx p).isOpen = true
        ∧ ∃ c : Device, r.dev = ((c.portCtlWrite p (portCtlWord mode 1 (e.u 14 1) (b2n (bit (e.u 15 1) 1)))).setPrt p
              { (c.portCtlWrite p (portCtlWord mode 1 (e.u 14 1) (b2n (bit (e.u 15 1) 1)))).prtx p with isOpen := true }).own e.via (.port p)
          ∧ c.get R.PP_MAC_MAC [p] = e.u 16 6 ∧ c.get R.PP_VLAN_VID [p] = e.u 22 2 % 4096 ∧ c.get R.PP_VLAN_PCP [p] = e.u 22 2 / 4096 % 8
          ∧ c.get R.PP_VLAN_TAG_EN [p] = e.u 15 1 % 2 ∧ c.get R.PP_IP4_ADDR [p] = e.u 24 4 ∧ c.get R.PP_IP6_LO_ADDR [p] = e.u 28 8
          ∧ c.get R.PP_IP6_HI_ADDR [p] = e.u 36 8 ∧ c.hbm = d.hbm))
  ∧ (∀ (s : State) (e : Entry) (p : Nat), e.u 12 1 = p → (s.dev.entered e).portCheck e = stOK → (s.dev.entered e).frameOpen p = false →
      s.gives (.portClose e) portCloseSpec e (s.dev.portThere (e.u 12 1)) (fun d r => r.status = stOK
        ∧ r.dev.ownerOf (.port p) = none
        ∧ ∃ c t u : Device, c = (if (d.prtx p).link.isSome then d.linkDone p 0x0510 else d)
          ∧ t = c.portCtlWrite p (portCtlWord (c.pmode p) 0 (c.get R.PP_CTL_ROLE [p]) 0)
          ∧ u = t.portCtlWrite p (portCtlWord 0 0 (t.get R.PP_CTL_ROLE [p]) 0)
          ∧ r.dev = (u.setPrt p { u.prtx p with isOpen := false }).disown (.port p)))
  ∧ (∀ (s : State) (e : Entry) (p m : Nat), e.u 12 1 = p → s.dev.pmode p = m → (s.dev.entered e).portCheck e = stOK → m ≠ 0 → m ≤ 9 →
      (modeVxl m = true → ∀ l ∈ s.dev.portLanes p, s.dev.flag R.NET_LN_TX_EN [l] = true) →
      s.gives (.portLink e) portLinkSpec e (s.dev.portThere (e.u 12 1)) (fun d r => r.status = stACCEPTED ∧ r.work = [p]
        ∧ ∃ c : Device, c = ((if d.pstate p = 5 then d.portCtlWrite p (portCtlWord m 0 (d.get R.PP_CTL_ROLE [p]) (d.get R.PP_CTL_EMIT [p]))
              else d).portCtlWrite p (portCtlWord m 1 (d.get R.PP_CTL_ROLE [p]) (d.get R.PP_CTL_EMIT [p])))
          ∧ (modeVxl m = false → r.dev = c.setPrt p { c.prtx p with
              link := some { start := c.tt, limitMs := if e.u 14 2 = 0 then 1000 else e.u 14 2 } })
          ∧ (modeVxl m = true → r.dev = ((c.setPrt p { c.prtx p with
              link := some { start := c.tt, limitMs := if e.u 14 2 = 0 then 1000 else e.u 14 2 } }).portLanes p).foldl
              (fun d l => d.startTraining l 1 3 500 true) (c.setPrt p { c.prtx p with
              link := some { start := c.tt, limitMs := if e.u 14 2 = 0 then 1000 else e.u 14 2 } }))))
  ∧ (∀ (s : State) (e : Entry) (p k : Nat) (ws : List MaskedWrite), e.u 12 1 = p → e.u 13 1 = k → (s.dev.entered e).portCheck e = stOK →
      k ≤ 63 → e.u 14 1 = 1 → e.u 15 1 ≤ 3 → e.u 16 1 ≤ 15 → e.u 17 1 ≤ 7 → e.u 54 1 ≤ 63 → e.u 55 1 = 0 → e.u 58 2 ≤ 4095 → e.u 60 4 = 0 →
      ws = [stageFields R.PP_SM_CTL [p, k] [(R.PP_SM_CTL_VALID, 1), (R.PP_SM_CTL_KIND, e.u 15 1), (R.PP_SM_CTL_SRC_MATCH, e.u 16 1 / 2 % 2),
          (R.PP_SM_CTL_VLAN_MATCH, e.u 16 1 / 4 % 2), (R.PP_SM_CTL_VID, e.u 58 2), (R.PP_SM_CTL_IPV6, e.u 16 1 % 2),
          (R.PP_SM_CTL_EXT_ID, e.u 16 1 / 8 % 2), (R.PP_SM_CTL_UDP_DST, e.u 18 2)],
        stageField R.PP_SM_DST_LO_DST [p, k] (e.u 20 8), stageField R.PP_SM_DST_HI_DST [p, k] (e.u 28 8),
        stageField R.PP_SM_SRC_LO_SRC [p, k] (e.u 36 8), stageField R.PP_SM_SRC_HI_SRC [p, k] (e.u 44 8),
        stageFields R.PP_SM_MERGE [p, k] [(R.PP_SM_MERGE_EN, e.u 17 1 % 2), (R.PP_SM_MERGE_SECONDARY, e.u 17 1 / 2 % 2),
          (R.PP_SM_MERGE_PAIR, e.u 17 1 / 4 % 2), (R.PP_SM_MERGE_PARTNER, e.u 54 1), (R.PP_SM_MERGE_HOLD, e.u 56 2)]] →
      (s.dev.entered e).takesChange e (e.u 52 2) ws = true →
      s.gives (.streamRx e) streamRxSpec e (s.dev.portThere (e.u 12 1)) (fun d r =>
        ∃ r0, d.carries e (e.u 52 2) false { opcode := 0x0504, key := [], writes := ws } r0 ∧ r = { r0 with
          dev := (if d.flag R.PP_SM_CTL_VALID [p, k] then r0.dev.groupChange p (d.flag R.PP_SM_CTL_IPV6 [p, k])
                (d.flag R.PP_SM_CTL_SRC_MATCH [p, k]) false (d.get R.PP_SM_DST_HI_DST [p, k] * 2 ^ 64 + d.get R.PP_SM_DST_LO_DST [p, k])
                (d.get R.PP_SM_SRC_HI_SRC [p, k] * 2 ^ 64 + d.get R.PP_SM_SRC_LO_SRC [p, k]) else r0.dev).groupChange p (bit (e.u 16 1) 0)
              (bit (e.u 16 1) 1) true (e.u 20 16) (e.u 36 16) }))
  ∧ (∀ (s : State) (e : Entry) (p k : Nat), e.u 12 1 = p → e.u 13 1 = k → (s.dev.entered e).portCheck e = stOK →
      k ≤ 63 → e.u 14 1 = 0 → e.u 15 1 ≤ 3 → e.u 16 1 ≤ 15 → e.u 17 1 ≤ 7 → e.u 54 1 ≤ 63 → e.u 55 1 = 0 → e.u 58 2 ≤ 4095 → e.u 60 4 = 0 →
      (s.dev.entered e).takesChange e (e.u 52 2) [stageField R.PP_SM_CTL_VALID [p, k] 0] = true →
      s.gives (.streamRx e) streamRxSpec e (s.dev.portThere (e.u 12 1)) (fun d r =>
        ∃ r0, d.carries e (e.u 52 2) false { opcode := 0x0504, key := [], writes := [stageField R.PP_SM_CTL_VALID [p, k] 0] } r0
          ∧ r = { r0 with
            dev := if d.flag R.PP_SM_CTL_VALID [p, k] then r0.dev.groupChange p (d.flag R.PP_SM_CTL_IPV6 [p, k])
                (d.flag R.PP_SM_CTL_SRC_MATCH [p, k]) false (d.get R.PP_SM_DST_HI_DST [p, k] * 2 ^ 64 + d.get R.PP_SM_DST_LO_DST [p, k])
                (d.get R.PP_SM_SRC_HI_SRC [p, k] * 2 ^ 64 + d.get R.PP_SM_SRC_LO_SRC [p, k]) else r0.dev }))
  ∧ (∀ (s : State) (e : Entry) (p : Nat), e.u 12 1 = p → (s.dev.entered e).portCheck e = stOK → s.dev.vxlUp p = true → s.dev.hostRole p = true →
      s.gives (.vxlCalibrate e) vxlCalibrateSpec e (s.dev.portThere (e.u 12 1)) (fun d r => r.status = stACCEPTED ∧ r.work = [p] ∧ r.dev = d
        ∧ ∀ t : Device, t.working 0x0505 [p] = true → (t.prtx p).cal = none →
            r.act t = t.calStart p (if e.u 13 1 = 0 then 16 else e.u 13 1) false))
  ∧ (∀ (s : State) (e : Entry) (p : Nat), e.u 12 1 = p → (s.dev.entered e).portCheck e = stOK → e.u 13 1 = 1 ∨ e.u 13 1 = 2 →
      1 ≤ e.u 14 1 → e.u 14 1 ≤ 4 → e.u 16 8 % 4 = 0 → s.dev.vxlUp p = true →
      s.gives (.vxlReg e) vxlRegSpec e (s.dev.portThere (e.u 12 1)) (fun d r => r.status = stACCEPTED ∧ r.work = [p, (d.prtx p).ccSerial]
        ∧ r.dev = d.ccRequest p (e.u 13 1) (e.u 14 1) (e.u 16 8) 0 (if e.u 13 1 = 2 then leBytes 16 (e.u 24 16) else [])))
  ∧ (∀ (s : State) (e : Entry) (p : Nat), e.u 12 1 = p → (s.dev.entered e).portCheck e = stOK → e.u 13 1 ≤ 63 →
      s.gives (.ptpConfig e) ptpConfigSpec e (s.dev.portThere (e.u 12 1)) (fun d r => r.status = stOK
        ∧ (r.dev.rd R.PP_PTP [p]).toNat = e.u 13 1
        ∧ (∀ q jx, q.addr jx ≠ R.PP_PTP.addr [p] → r.dev.rd q jx = d.rd q jx) ∧ r.dev.prt = d.prt ∧ r.dev.hbm = d.hbm))
  ∧ (∀ (s : State) (e : Entry) (p : Nat), e.u 12 1 = p → (s.dev.entered e).portCheck e = stOK → e.u 13 1 ≤ 1 →
      s.gives (.portCounters e) portCountersSpec e (s.dev.portThere (e.u 12 1)) (fun d r => r.status = stOK
        ∧ r.payload = layout [(8, (d.prtx p).totRx + d.get R.PP_CNT_RX_PKTS [p]), (8, (d.prtx p).totTx + d.get R.PP_CNT_TX_PKTS [p]),
            (4, (d.prtx p).totErr + d.get R.PP_CNT_ERR_RX_ERR [p]), (4, (d.prtx p).totSlow + d.get R.PP_SLOW_DROP [p]),
            (4, (d.prtx p).totCrc + d.get R.PP_VXL_ERR_CRC_ERR [p]), (4, (d.prtx p).totStray + d.get R.PP_VXL_ERR_STRAY [p])]
        ∧ (e.u 13 1 = 1 → (r.dev.prtx p).totRx = 0 ∧ (r.dev.prtx p).totTx = 0 ∧ (r.dev.prtx p).totErr = 0 ∧ (r.dev.prtx p).totSlow = 0
            ∧ (r.dev.prtx p).totCrc = 0 ∧ (r.dev.prtx p).totStray = 0)
        ∧ r.dev.rd R.PP_CNT_RX [p] = 0 ∧ r.dev.rd R.PP_CNT_TX [p] = 0 ∧ r.dev.rd R.PP_CNT_ERR [p] = 0))
  ∧ (∀ (s : State) (e : Entry) (p : Nat), e.u 12 1 = p → p ≤ 7 → s.dev.lent p = true →
      s.gives (.portQuery e) portQuerySpec e (s.dev.portThere (e.u 12 1)) (fun d r => r = d.no stBUSY)
      ∧ s.gives (.portClose e) portCloseSpec e (s.dev.portThere (e.u 12 1)) (fun d r => r = d.no stBUSY)
      ∧ s.gives (.portLink e) portLinkSpec e (s.dev.portThere (e.u 12 1)) (fun d r => r = d.no stBUSY)
      ∧ s.gives (.streamRx e) streamRxSpec e (s.dev.portThere (e.u 12 1)) (fun d r => r = d.no stBUSY)
      ∧ s.gives (.vxlCalibrate e) vxlCalibrateSpec e (s.dev.portThere (e.u 12 1)) (fun d r => r = d.no stBUSY)
      ∧ s.gives (.vxlReg e) vxlRegSpec e (s.dev.portThere (e.u 12 1)) (fun d r => r = d.no stBUSY)
      ∧ s.gives (.ptpConfig e) ptpConfigSpec e (s.dev.portThere (e.u 12 1)) (fun d r => r = d.no stBUSY)
      ∧ s.gives (.portCounters e) portCountersSpec e (s.dev.portThere (e.u 12 1)) (fun d r => r = d.no stBUSY))

/-- Capture commands, mailbox group 0x06 (R213, R227, R229, R230, R236, R241, R68). CAP_QUERY reports a stream; CAP_STREAM
stages the stream configuration over an allocation of kind 1 that holds its slots, answers stride and slot size, and
for FRAMING 1 loads the capture roll first and stages its start as well; CAP_ENABLE stages EN; CAP_RELEASE releases a
slot that a direct stream holds with its consumer; CAP_COUNTERS reports the totals and clears them on request. -/
def Obligations.CaptureCommands : Prop :=
  (∀ (s : State) (e : Entry) (ix : List Nat), ix = [e.u 12 1, e.u 13 1] → e.u 12 1 ≤ 7 → e.u 13 1 ≤ 63 → s.dev.lent (e.u 12 1) = false →
      s.gives (.capQuery e) capQuerySpec e (s.dev.portThere (e.u 12 1)) (fun d r => r.status = stOK ∧ r.dev = d
        ∧ r.payload = layout [(1, d.get R.CAP_SC_CTL_EN ix + 2 * d.get R.CAP_SC_STAT_FRAME_OPEN ix + 4 * d.get R.CAP_SC_STAT_RETIRING ix
              + 8 * d.get R.CAP_SC_STAT_GEN ix + 16 * d.get R.CAP_SC_Q_DIRECT ix), (1, d.get R.CAP_SC_CTL_FRAMING ix),
            (2, d.get R.CAP_SC_STAT_FREE ix), (2, d.get R.CAP_SC_STAT_NEXT_SLOT ix), (2, 0), (8, d.get R.CAP_SC_FRAME_NEXT ix),
            (1, d.get R.CAP_LF_WORDS ix), (1, d.get R.CAP_LF_LINES ix), (2, 0), (4, d.get R.CAP_SC_GEOM_STRIDE ix * 64),
            (8, d.get R.CAP_SC_SLOT_SLOT_SIZE ix * 65536)]))
  ∧ (∀ (s : State) (e : Entry) (t : Device) (p f lines size : Nat) (x : Alloc) (ws : List MaskedWrite), e.u 12 1 = p → e.u 14 1 = f →
      e.u 24 4 = lines → slotBytes (roundUp (e.u 20 4) 64) lines = size → (s.dev.entered e).capCheck e = stOK → f ≤ 2 → e.u 15 1 ≤ 63 →
      e.u 20 4 ≠ 0 → e.u 20 4 ≤ 262144 → lines ≠ 0 → lines ≤ (if f = 2 then 1048576 else 65536) → e.u 32 2 ≠ 0 → e.u 32 2 ≤ 1024 →
      e.u 34 1 ≤ 31 → e.u 40 4 ≤ 4294967 → generalQueue (e.u 44 4) = true → e.u 51 1 = 0 → (pixFmt (e.u 16 4)).isSome = true →
      (s.dev.entered e).mayQueue e.via (e.u 44 4) = true → (s.dev.entered e).allocFor e (e.u 28 4) 1 = (0, some x) →
      e.u 32 2 * size ≤ x.size →
      (f = 1 → ((s.dev.entered e).seq p).hostRoll = false ∧ s.dev.flag R.CAL_LD_CTL_BUSY [] = false ∧ (s.dev.entered e).swapPending p = false) →
      (if f = 1 then (s.dev.entered e).loadRoll p (captureRoll p (e.u 13 1) (e.u 50 1) lines (e.u 36 4)) else s.dev.entered e) = t →
      ws = capWrites e x.off ++ (if f = 1 then
        [stageFields R.CAL_CTL [p] [(R.CAL_CTL_BANK, b2n (t.standby p)), (R.CAL_CTL_ENTRY, 0), (R.CAL_CTL_RUN, 1)]] else []) →
      t.takesChange e (e.u 48 2) ws = true →
      s.gives (.capStream e) capStreamSpec e (s.dev.portThere (e.u 12 1)) (fun _ r =>
        t.carries e (e.u 48 2) false
          { opcode := 0x0601, key := [], writes := ws, payload := layout [(4, roundUp (e.u 20 4) 64), (4, 0), (8, size)] } r))
  ∧ (∀ (s : State) (e : Entry) (ws : List MaskedWrite), (s.dev.entered e).capCheck e = stOK → e.u 14 1 ≤ 1 →
      ws = [stageField R.CAP_SC_CTL_EN [e.u 12 1, e.u 13 1] (e.u 14 1)] → (s.dev.entered e).takesChange e (e.u 16 2) ws = true →
      s.gives (.capEnable e) capEnableSpec e (s.dev.portThere (e.u 12 1)) (fun d r =>
        d.carries e (e.u 16 2) false { opcode := 0x0602, key := [], writes := ws } r))
  ∧ (∀ (s : State) (e : Entry) (p k : Nat) (g : Bool), e.u 12 1 = p → e.u 13 1 = k → bit (e.u 14 2) 15 = g →
      (s.dev.entered e).capCheck e = stOK → bits (e.u 14 2) 10 5 = 0 → s.dev.flag R.CAP_SC_Q_DIRECT [p, k] = true →
      (s.dev.entered e).slotState p k g (e.u 14 2 % 1024) = 2 →
      s.gives (.capRelease e) capReleaseSpec e (s.dev.portThere (e.u 12 1)) (fun d r => r.status = stOK
        ∧ r.dev = d.setSlotState p k g (e.u 14 2 % 1024) 0))
  ∧ (∀ (s : State) (e : Entry) (p k : Nat), e.u 12 1 = p → e.u 13 1 = k → (s.dev.entered e).capCheck e = stOK → e.u 14 1 ≤ 1 →
      s.gives (.capCounters e) capCountersSpec e (s.dev.portThere (e.u 12 1)) (fun d r => r.status = stOK
        ∧ r.payload = layout [(8, (d.cap p k).totLost + d.get R.CAP_SC_LOST_LOST_WORDS [p, k]),
            (4, (d.cap p k).totDamaged + d.get R.CAP_SC_LOST_DAMAGED_LINES [p, k]), (4, (d.cap p k).totOrphan + d.get R.CAP_SC_DROP_ORPHAN [p, k]),
            (4, (d.cap p k).totThrottled + d.get R.CAP_SC_DROP_THROTTLED [p, k]), (4, (d.cap p k).totNoBuffer + d.get R.CAP_SC_DROP_NO_BUFFER [p, k]),
            (2, (d.bth p).totCmdBad + d.get R.CAP_STAT_CMD_BAD [p]), (2, (d.bth p).totRelBad + d.get R.CAP_STAT_REL_BAD [p]), (4, 0)]
        ∧ r.dev.rd R.CAP_SC_LOST [p, k] = 0 ∧ r.dev.rd R.CAP_SC_DROP [p, k] = 0
        ∧ (e.u 14 1 = 1 → (r.dev.cap p k).totLost = 0 ∧ (r.dev.cap p k).totDamaged = 0 ∧ (r.dev.cap p k).totOrphan = 0
            ∧ (r.dev.cap p k).totThrottled = 0 ∧ (r.dev.cap p k).totNoBuffer = 0)))
  ∧ (∀ (s : State) (e : Entry), e.u 12 1 ≤ 7 → e.u 13 1 ≤ 63 → s.dev.lent (e.u 12 1) = true →
      s.gives (.capQuery e) capQuerySpec e (s.dev.portThere (e.u 12 1)) (fun d r => r = d.no stBUSY)
      ∧ s.gives (.capStream e) capStreamSpec e (s.dev.portThere (e.u 12 1)) (fun d r => r = d.no stBUSY)
      ∧ s.gives (.capEnable e) capEnableSpec e (s.dev.portThere (e.u 12 1)) (fun d r => r = d.no stBUSY)
      ∧ s.gives (.capRelease e) capReleaseSpec e (s.dev.portThere (e.u 12 1)) (fun d r => r = d.no stBUSY)
      ∧ s.gives (.capCounters e) capCountersSpec e (s.dev.portThere (e.u 12 1)) (fun d r => r = d.no stBUSY))

/-- Swatch and Mordant commands, mailbox group 0x07 (R242, R256, R247, R263, R267, R270, R272, R68, R64). SW_CONFIG stages
a context over an allocation of kind 3 that holds its records, answers RES_SIZE and keeps or drops its delivery to the
host; SW_REFERENCE stages a reference store of kind 2 or takes REF_VALID away; SW_REGION stages a region and its
enable; SW_RESULT writes the record of a slot that the consumer holds into the output buffer; MD_CONFIG stages the
seal enables of a port and, with SET, the builder over an allocation that holds its ring; MD_FLUSH closes the open
manifest; MD_STATEMENT gives the key statement; MD_QUERY reports the builder. -/
def Obligations.SealCommands : Prop :=
  (∀ (s : State) (e : Entry) (b : List Byte) (size : Nat) (x : Alloc) (ws : List MaskedWrite), (s.dev.entered e).input e = b → e.inLen = 64 →
      roundUp (s.dev.recordBytes (fieldAt b 0 1) (fieldAt b 2 1) (fieldAt b 4 1)) 65536 = size →
      (s.dev.entered e).swCheck e (fieldAt b 0 1) (fieldAt b 1 1) = 0 → fieldAt b 2 1 ≤ 63 → fieldAt b 3 1 ≤ 31 → fieldAt b 4 1 ≤ 3 →
      fieldAt b 5 1 ≤ 4 → fieldAt b 14 2 ≤ 1024 → fieldAt b 28 4 < 2 ^ 24 → fieldAt b 32 8 < 2 ^ 48 → fieldAt b 40 8 < 2 ^ 48 →
      fieldAt b 59 1 = 0 → fieldAt b 62 2 = 0 → (s.dev.entered e).allocFor e (fieldAt b 16 4) 3 = (0, some x) →
      2 * fieldAt b 14 2 * size ≤ x.size →
      (bit (fieldAt b 3 1) 4 = true → fieldAt b 56 2 ≠ 0 ∧
        (s.dev.entered e).netAdmits false true .queue (fieldAt b 48 8) (fieldAt b 56 2 * size) = true) →
      ws = swWrites b x.off size → (s.dev.entered e).takesChange e (fieldAt b 6 2) ws = true →
      s.gives (.swConfig e) swConfigSpec e true (fun d r =>
        ∃ r0, d.carries e (fieldAt b 6 2) false { opcode := 0x0700, key := [], writes := ws, payload := leBytes 8 size } r0
          ∧ r = { r0 with dev := r0.dev.setBth (fieldAt b 0 1) { r0.dev.bth (fieldAt b 0 1) with
              deliver := (d.bth (fieldAt b 0 1)).deliver.filter (fun z => decide (z.1 ≠ fieldAt b 1 1))
                ++ (if bit (fieldAt b 3 1) 4 then [(fieldAt b 1 1, fieldAt b 48 8, fieldAt b 56 2)] else []) } }))
  ∧ (∀ (s : State) (e : Entry) (p c k : Nat) (x : Alloc) (ws : List MaskedWrite), e.u 12 1 = p → e.u 13 1 = c →
      (s.dev.entered e).swCheck e p c = 0 → e.u 14 1 = 0 → e.u 15 1 = 0 → (s.dev.entered e).allocFor e (e.u 20 4) 2 = (0, some x) →
      s.dev.get R.SW_CX_CTL_STREAM [p, c] = k → e.u 32 4 % 64 = 0 → s.dev.get R.CAP_SC_FMT_LINE_LEN [p, k] ≤ e.u 32 4 → e.u 32 4 ≤ 262144 →
      e.u 36 4 ≠ 0 → e.u 36 4 ≤ 1048576 → e.u 24 8 % 64 = 0 → e.u 24 8 + e.u 32 4 * e.u 36 4 ≤ x.size →
      ws = [stageField R.SW_CX_REF_REF_BASE [p, c] (x.off + e.u 24 8),
        stageFields R.SW_CX_REFG [p, c] [(R.SW_CX_REFG_REF_STRIDE, e.u 32 4 / 64), (R.SW_CX_REFG_REF_LINES, e.u 36 4)],
        stageField R.SW_CX_CTL_REF_VALID [p, c] 1] →
      (s.dev.entered e).takesChange e (e.u 16 2) ws = true →
      s.gives (.swReference e) swReferenceSpec e (s.dev.portThere (e.u 12 1)) (fun d r =>
        d.carries e (e.u 16 2) false { opcode := 0x0701, key := [], writes := ws } r))
  ∧ (∀ (s : State) (e : Entry) (p c : Nat) (ws : List MaskedWrite), e.u 12 1 = p → e.u 13 1 = c → (s.dev.entered e).swCheck e p c = 0 →
      e.u 14 1 = 1 → e.u 15 1 = 0 → ws = [stageField R.SW_CX_CTL_REF_VALID [p, c] 0] → (s.dev.entered e).takesChange e (e.u 16 2) ws = true →
      s.gives (.swReference e) swReferenceSpec e (s.dev.portThere (e.u 12 1)) (fun d r =>
        d.carries e (e.u 16 2) false { opcode := 0x0701, key := [], writes := ws } r))
  ∧ (∀ (s : State) (e : Entry) (p c k m : Nat) (ws : List MaskedWrite), e.u 12 1 = p → e.u 13 1 = c → e.u 14 1 = k →
      (s.dev.entered e).swCheck e p c = 0 → k ≤ 15 → e.u 15 1 ≤ 1 → e.u 20 4 ≤ 65535 → e.u 24 4 ≤ 65535 →
      m = 2 ^ (R.SW_CX_CTL_ROI_EN.lo + k) →
      ws = [stageFields R.SW_CX_ROI [p, c, k] [(R.SW_CX_ROI_X0, e.u 16 2), (R.SW_CX_ROI_Y0, e.u 18 2), (R.SW_CX_ROI_W, e.u 20 4),
          (R.SW_CX_ROI_H, e.u 24 4)],
        { addr := R.SW_CX_CTL.addr [p, c], mask := BitVec.ofNat 64 m, value := BitVec.ofNat 64 (e.u 15 1 * m) }] →
      (s.dev.entered e).takesChange e (e.u 28 2) ws = true →
      s.gives (.swRegion e) swRegionSpec e (s.dev.portThere (e.u 12 1)) (fun d r =>
        d.carries e (e.u 28 2) false { opcode := 0x0702, key := [], writes := ws } r))
  ∧ (∀ (s : State) (e : Entry) (b : List Byte) (p c k n sl : Nat) (g : Bool), (s.dev.entered e).input e = b → e.inLen = 4 → fieldAt b 0 1 = p →
      fieldAt b 1 1 = c → fieldAt b 2 2 % 1024 = sl → bit (fieldAt b 2 2) 15 = g → bits (fieldAt b 2 2) 10 5 = 0 →
      (s.dev.entered e).swCheck e p c = 0 → s.dev.get R.SW_CX_CTL_STREAM [p, c] = k →
      s.dev.recordBytes p k (s.dev.get R.SW_CX_CTL_MAP_SHIFT [p, c]) = n → n ≤ e.outLen → (s.dev.entered e).slotState p k g sl = 2 →
      s.gives (.swResult e) swResultSpec e true (fun d r => r.status = stOK ∧ r.dev = d
        ∧ r.out = d.hbmRead (d.get R.SW_CX_RES_RES_BASE [p, c] + (b2n g * d.get R.SW_CX_RESG_RES_COUNT [p, c] + sl)
            * (d.get R.SW_CX_RESG_RES_SIZE [p, c] * 65536)) n))
  ∧ (∀ (s : State) (e : Entry) (p : Nat) (ws : List MaskedWrite), e.u 12 1 = p → bit (e.u 13 1) 0 = false → e.u 13 1 ≤ 3 → e.u 26 2 = 0 →
      e.u 42 2 = 0 → p ≠ 0xFF → p ≤ 7 → s.dev.portPresent p = true → s.dev.lent p = false → (s.dev.entered e).mayPort e.via p = true →
      ws = [stageField R.MS_SEAL_EN_EN [p] (e.u 16 8)] → (s.dev.entered e).takesChange e (e.u 40 2) ws = true →
      s.gives (.mdConfig e) mdConfigSpec e true (fun d r => d.carries e (e.u 40 2) false { opcode := 0x0704, key := [], writes := ws } r))
  ∧ (∀ (s : State) (e : Entry) (p : Nat) (x : Alloc) (ws : List MaskedWrite), e.u 12 1 = p → bit (e.u 13 1) 0 = true → e.u 13 1 ≤ 3 → e.u 26 2 = 0 →
      e.u 42 2 = 0 → (p ≠ 0xFF → p ≤ 7 ∧ s.dev.portPresent p = true ∧ s.dev.lent p = false ∧ (s.dev.entered e).mayPort e.via p = true) →
      mdForm e = true → e.via.principal = true → s.dev.alloc (e.u 32 4) = some x → e.u 14 1 * manifestSlot ≤ x.size →
      (s.dev.entered e).netAdmits false true .queue (e.u 44 8) (e.u 15 1 * manifestSlot) = true →
      ws = mdWrites e x.off ++ (if p = 0xFF then [] else [stageField R.MS_SEAL_EN_EN [p] (e.u 16 8)]) →
      (s.dev.entered e).takesChange e (e.u 40 2) ws = true →
      s.gives (.mdConfig e) mdConfigSpec e true (fun d r =>
        ∃ r0, d.carries e (e.u 40 2) false { opcode := 0x0704, key := [], writes := ws } r0
          ∧ r = { r0 with dev := r0.dev.setMb { r0.dev.mb with hostAddr := e.u 44 8, hostCount := e.u 15 1, queue := e.u 36 4 } }))
  ∧ (∀ (s : State) (e : Entry), s.dev.sealUp = true → s.dev.flag R.MB_CTL_EN [] = true → (s.dev.entered e).mb.deferred = none →
      s.gives (.mdFlush e) mdFlushSpec e true (fun d r => r.status = stACCEPTED ∧ r.work = [d.mb.open_.seq] ∧ r.dev = d.closeManifest 2 false))
  ∧ (∀ (s : State) (e : Entry), 288 ≤ e.outLen → s.dev.flag R.MB_STAT_KEY_READY [] = true →
      s.gives (.mdStatement e) mdStatementSpec e true (fun d r => r.status = stOK ∧ r.dev = d ∧ r.out = fit 288 d.mb.stmt))
  ∧ (∀ (s : State) (e : Entry), s.gives (.mdQuery e) mdQuerySpec e true (fun d r => r.status = stOK ∧ r.dev = d
      ∧ r.payload = layout [(8, d.mb.open_.seq), (8, skipEntry d.mb.entry), (2, d.mb.open_.entries.length), (1, d.get R.MB_STAT_FREE []),
          (1, b2n (d.flag R.MB_STAT_HELD []) + 2 * b2n (d.flag R.MB_STAT_SIGNING []) + 4 * b2n (d.flag R.MB_STAT_WAITING [])
            + 8 * b2n (d.flag R.MB_STAT_KEY_READY [])), (4, d.get R.MB_CNT_REFUSED [])]))

/-- Palette commands, mailbox group 0x08 (R274, R276, R284, R285, R286, R287, R290, R291, R68, R190). PAL_QUERY reports a
channel; PAL_CONFIG stages the channel registers of its image, EN left out, with TRO and the bars filled in on
request, where the source store lies inside an allocation of kind 1, the kind fits the port mode and the rate fits the
port; PAL_ENABLE stages EN and START with its deadline; PAL_INJECT stages the injection registers and PAL_SKEW the
skew of a lane; PAL_GVCP_IMAGE keeps the GVCP image of a channel; PAL_COUNTERS reports the totals and clears them on
request. -/
def Obligations.PaletteCommands : Prop :=
  (∀ (s : State) (e : Entry) (ix : List Nat), ix = [e.u 12 1, e.u 13 1] → e.u 12 1 ≤ 7 → e.u 13 1 ≤ 3 → s.dev.lent (e.u 12 1) = false →
      s.gives (.palQuery e) palQuerySpec e (s.dev.emitThere (e.u 12 1)) (fun d r => r.status = stOK ∧ r.dev = d
        ∧ r.payload = layout [(1, d.get R.PAL_CH_CTL_EN ix + 2 * d.get R.PAL_CH_STAT_EMITTING ix), (7, 0), (8, d.get R.PAL_CH_FRAME_NEXT ix),
            (8, d.get R.PAL_CH_NEXT_TT_S ix), (4, d.get R.PAL_CH_STAT_EPOCH ix)]))
  ∧ (∀ (s : State) (e : Entry) (b : List Byte) (p c : Nat) (ws : List MaskedWrite) (n : Device), (s.dev.entered e).input e = b → e.inLen = 256 →
      fieldAt b 0 1 = p → fieldAt b 1 1 = c → (s.dev.entered e).palCheck e.via p c = 0 → fieldAt b 8 8 ≤ 3 →
      (stageImage (R.PAL_CH_CTL.addr [p, c]) (palImage (fit 240 (b.drop 16)) (fieldAt b 8 8))).map (fun w =>
        if w.addr = R.PAL_CH_CTL.addr [p, c] then
          { w with mask := w.mask &&& ~~~ R.PAL_CH_CTL_EN.mask, value := w.value &&& ~~~ R.PAL_CH_CTL_EN.mask } else w) = ws →
      (s.dev.entered e).overlay ws = n →
      (n.get R.PAL_CH_CTL_SRC [p, c] = 0 → ∃ x, (s.dev.entered e).allocFor e (fieldAt b 4 4) 1 = (0, some x)
        ∧ x.off ≤ n.get R.PAL_CH_SRC_SRC_BASE [p, c]
        ∧ n.get R.PAL_CH_SRC_SRC_BASE [p, c] + (n.get R.PAL_CH_SRCG_SRC_FRAMES [p, c] + 1) * (n.get R.PAL_CH_SRCG_FSIZE [p, c] * 65536)
            ≤ x.off + x.size) →
      kindMode (n.palKind p c) (s.dev.pmode p) = true → n.palRateFits p = true →
      (s.dev.entered e).takesChange e (fieldAt b 2 2) ws = true →
      s.gives (.palConfig e) palConfigSpec e true (fun d r =>
        d.carries e (fieldAt b 2 2) false { opcode := 0x0801, key := [], writes := ws } r))
  ∧ (∀ (s : State) (e : Entry) (p c : Nat) (ws : List MaskedWrite), e.u 12 1 = p → e.u 13 1 = c → (s.dev.entered e).palCheck e.via p c = 0 →
      e.u 14 1 ≤ 1 → e.u 15 1 ≤ 3 →
      ws = (if bit (e.u 15 1) 0 then [stageField R.PAL_CH_START_START [p, c] (e.u 24 8)] else []) ++ [stageField R.PAL_CH_CTL_EN [p, c] (e.u 14 1)] →
      (s.dev.entered e).takesChange e (e.u 16 2) ws = true →
      s.gives (.palEnable e) palEnableSpec e (s.dev.emitThere (e.u 12 1)) (fun d r => d.carries e (e.u 16 2) false
        { opcode := 0x0802, key := [], writes := ws, payload := if e.u 16 2 = 0 then [BitVec.ofNat 8 p, BitVec.ofNat 8 c] else [],
          deadline := if bit (e.u 15 1) 1 then some (BitVec.ofNat 64 (e.u 32 8)) else none } r))
  ∧ (∀ (s : State) (e : Entry) (p c : Nat) (ws : List MaskedWrite) (n : Nat → Nat → MaskedWrite), e.u 12 1 = p → e.u 13 1 = c →
      (s.dev.entered e).palCheck e.via p c = 0 → e.u 14 1 ≤ 63 → e.u 15 1 ≤ 63 → e.u 16 1 ≤ 1 → e.u 17 3 = 0 → e.u 20 4 < 2 ^ 31 →
      e.u 24 8 < 2 ^ 40 → e.u 56 8 = 0 →
      (∀ k v, n k v = stageFields R.PAL_CH_INJ [p, c, k] ((R.PAL_CH_INJ_INTERVAL, v) :: (if k = 5 then [(R.PAL_CH_INJ_LATE_NS, e.u 52 2)] else []))) →
      ws = [stageFields R.PAL_CH_INJ_CTL [p, c] [(R.PAL_CH_INJ_CTL_KINDS, e.u 14 1), (R.PAL_CH_INJ_CTL_RANDOM, e.u 15 1),
          (R.PAL_CH_INJ_CTL_TARGET, e.u 16 1), (R.PAL_CH_INJ_CTL_INJ_SEED, e.u 20 4)],
        n 0 (e.u 24 8), n 1 (e.u 32 4), n 2 (e.u 36 4), n 3 (e.u 40 4), n 4 (e.u 44 4), n 5 (e.u 48 4)] →
      (s.dev.entered e).takesChange e (e.u 54 2) ws = true →
      s.gives (.palInject e) palInjectSpec e (s.dev.emitThere (e.u 12 1)) (fun d r =>
        d.carries e (e.u 54 2) false { opcode := 0x0803, key := [], writes := ws } r))
  ∧ (∀ (s : State) (e : Entry) (p l : Nat) (ws : List MaskedWrite), e.u 12 1 = p → e.u 13 1 = l → (s.dev.entered e).palCheck e.via p l = 0 →
      e.u 14 1 ≤ 64 → ws = [stageField R.PAL_SKEW_WORDS [p, l] (e.u 14 1)] → (s.dev.entered e).takesChange e (e.u 16 2) ws = true →
      s.gives (.palSkew e) palSkewSpec e (s.dev.emitThere (e.u 12 1)) (fun d r =>
        d.carries e (e.u 16 2) false { opcode := 0x0804, key := [], writes := ws } r))
  ∧ (∀ (s : State) (e : Entry) (b : List Byte) (p c : Nat), (s.dev.entered e).input e = b → 9 ≤ e.inLen → e.inLen ≤ 65544 → fieldAt b 0 1 = p →
      fieldAt b 1 1 = c → fieldAt b 2 6 = 0 → (s.dev.entered e).palCheck e.via p c = 0 →
      s.gives (.palGvcpImage e) palGvcpImageSpec e true (fun d r => r.status = stOK ∧ (r.dev.pal p c).image = b.drop 8
        ∧ r.dev.regs = d.regs ∧ r.dev.hbm = d.hbm ∧ (r.dev.pal p c).frames = (d.pal p c).frames))
  ∧ (∀ (s : State) (e : Entry) (p c : Nat), e.u 12 1 = p → e.u 13 1 = c → (s.dev.entered e).palCheck e.via p c = 0 → e.u 14 1 ≤ 1 →
      s.gives (.palCounters e) palCountersSpec e (s.dev.emitThere (e.u 12 1)) (fun d r => r.status = stOK
        ∧ r.payload = layout ((List.range 5).map (fun i => (4, ((d.samplePal p c).pal p c).totals.getD i 0))
            ++ (List.range 6).map (fun k => (2, ((d.samplePal p c).pal p c).totals.getD (5 + k) 0)))
        ∧ ((d.samplePal p c).pal p c).totals.getD 0 0 = (d.pal p c).totals.getD 0 0 + d.get R.PAL_CH_CNT_LATE [p, c]
        ∧ ((d.samplePal p c).pal p c).totals.getD 4 0 = max ((d.pal p c).totals.getD 4 0) (d.get R.PAL_CH_CNT2_MAX_DEFER [p, c])
        ∧ (e.u 14 1 = 1 → (r.dev.pal p c).totals = []) ∧ r.dev.rd R.PAL_CH_CNT [p, c] = 0 ∧ r.dev.rd R.PAL_CH_CNT2 [p, c] = 0
        ∧ r.dev.rd R.PAL_CH_INJCNT [p, c] = 0))
  ∧ (∀ (s : State) (e : Entry), e.u 12 1 ≤ 7 → e.u 13 1 ≤ 3 → s.dev.lent (e.u 12 1) = true →
      s.gives (.palQuery e) palQuerySpec e (s.dev.emitThere (e.u 12 1)) (fun d r => r = d.no stBUSY))

/-- Queue and DMA commands, mailbox group 0x09 (R294, R295, R302, R303, R304, R305, R307, R313, R55, R64, R68). Q_OPEN
stores the context of a free general queue whose ring and write-back address the Net admits and answers its doorbell
offset; Q_CLOSE closes a queue that no stream or channel names; Q_QUERY reports a queue; Q_RESET clears its error,
drops what is unread on request, and lets held appends go on; DMA_CHANNEL stages the configuration of a free channel
and claims it, or gives it up; DMA_SUBMIT writes the shadow set and arms it at once, with WAIT after an ACCEPTED, or
stages both; DMA_PAUSE resumes, pauses or disarms; DMA_QUERY reports a channel. -/
def Obligations.DeliveryCommands : Prop :=
  (∀ (s : State) (e : Entry) (q : Nat), e.u 12 4 = q → generalQueue q = true → 3 ≤ e.u 16 1 → e.u 16 1 ≤ 5 → 4 ≤ e.u 17 1 → e.u 17 1 ≤ 24 →
      esizeFits (e.u 16 1) (e.u 18 1) = true → e.u 19 1 ≤ 1 → vectorFits (e.u 20 2) = true → e.u 23 1 = 0 → e.u 30 2 = 0 → e.u 48 16 = 0 →
      e.u 32 8 % 4096 = 0 → e.u 40 8 % 64 = 0 → (s.dev.entered e).mayQueue e.via q = true → ((s.dev.entered e).ctx q).kind = 0 →
      (s.dev.entered e).netAdmits false true .queue (e.u 32 8) (2 ^ e.u 17 1 * esizeBytes (e.u 18 1)) = true →
      (e.u 40 8 ≠ 0 → (s.dev.entered e).netAdmits false true .queue (e.u 40 8) 16 = true) →
      (e.u 19 1 = 1 → (s.dev.entered e).pinned < 4096) →
      s.gives (.qOpen e) qOpenSpec e true (fun d r => r.status = stOK ∧ r.payload = leBytes 8 (64 * q)
        ∧ ∃ c, r.dev = (d.storeCtx q c).queueFlows q ∧ c.kind = e.u 16 1 ∧ c.log2 = e.u 17 1 ∧ c.esize = e.u 18 1 ∧ c.ring = e.u 32 8
          ∧ c.wb = e.u 40 8 ∧ c.vector = e.u 20 2 ∧ c.pin = decide (e.u 19 1 = 1) ∧ c.wmark = e.u 24 4 ∧ c.coalN = e.u 22 1
          ∧ c.coalUs = e.u 28 2 ∧ c.prod = 0 ∧ c.cons = 0 ∧ c.error = false))
  ∧ (∀ (s : State) (e : Entry) (q : Nat), e.u 12 4 = q → generalQueue q = true → ((s.dev.entered e).ctx q).kind ≠ 0 →
      (s.dev.entered e).mayQueue e.via q = true → (s.dev.entered e).queueNamed q = false →
      s.gives (.qClose e) qCloseSpec e true (fun d r => r.status = stOK ∧ r.dev = d.storeCtx q {}))
  ∧ (∀ (s : State) (e : Entry) (q : Nat) (c : QCtx), e.u 12 4 = q → q ≤ 1048575 → (s.dev.entered e).mayQueue e.via q = true →
      (s.dev.entered e).ctx q = c →
      s.gives (.qQuery e) qQuerySpec e true (fun d r => r.status = stOK ∧ r.dev = d.touch q
        ∧ r.payload = layout [(4, c.prod.toNat), (4, c.cons.toNat), (4, c.count.toNat), (4, c.peak), (4, c.drops), (1, c.kind), (1, c.log2)]
            ++ (c.bytes.drop 46).take 1 ++ layout [(1, c.err)]))
  ∧ (∀ (s : State) (e : Entry) (q : Nat) (c : QCtx), e.u 12 4 = q → q ≤ 1048575 → e.u 16 1 ≤ 1 → (s.dev.entered e).ctx q = c → c.kind ≠ 0 →
      (s.dev.entered e).mayQueue e.via q = true →
      s.gives (.qReset e) qResetSpec e true (fun d r => r.status = stOK
        ∧ r.dev = (d.storeCtx q { c with error := false, err := 0, cons := if e.u 16 1 = 1 then c.prod else c.cons }).queueFlows q))
  ∧ (∀ (s : State) (e : Entry) (n c : Nat) (ws : List MaskedWrite), e.u 12 1 = n → e.u 13 1 = c → n ≤ 31 → c ≤ 15 → e.u 16 1 = 0 →
      e.u 20 4 ≤ 1048575 → e.u 24 2 ≤ 2047 → fwChannel n c = false → (s.dev.entered e).mayTake e.via (.dma n c) = true →
      (s.dev.entered e).mayQueue e.via (e.u 20 4) = true →
      ws = [stageFields R.DMA_CH_CFG [n, c] [(R.DMA_CH_CFG_CQ, e.u 20 4), (R.DMA_CH_CFG_SHARE, e.u 24 2), (R.DMA_CH_CFG_BURST, e.u 26 1)]] →
      (s.dev.entered e).takesChange e (e.u 14 2) ws = true →
      s.gives (.dmaChannel e) dmaChannelSpec e true (fun d r =>
        d.carries e (e.u 14 2) false { opcode := 0x0904, key := [], claims := [.dma n c], writes := ws } r))
  ∧ (∀ (s : State) (e : Entry) (n c : Nat), e.u 12 1 = n → e.u 13 1 = c → n ≤ 31 → c ≤ 15 → e.u 16 1 = 1 → e.u 20 4 ≤ 1048575 → e.u 24 2 ≤ 2047 →
      fwChannel n c = false → (s.dev.entered e).mayAct e.via (.dma n c) = true →
      s.gives (.dmaChannel e) dmaChannelSpec e true (fun d r => r.status = stOK ∧ r.dev.ownerOf (.dma n c) = none ∧ r.dev.regs = d.regs
        ∧ r.dev.dlv = d.dlv ∧ r.dev.hbm = d.hbm))
  ∧ (∀ (s : State) (e : Entry) (n c : Nat), e.u 12 1 = n → e.u 13 1 = c → e.u 14 2 = 0 → n ≤ 31 → c ≤ 15 → e.u 36 2 ≤ 511 → e.u 38 1 ≤ 1 →
      e.u 39 1 = 0 → e.u 48 4 < 2 ^ 17 → e.u 52 4 = 0 → (s.dev.entered e).mayChannel e.via n c = true →
      s.dev.flag R.DMA_CH_CTL_ARM [n, c] = false →
      s.gives (.dmaSubmit e) dmaSubmitSpec e true (fun d r =>
        (e.u 38 1 = 0 → r.status = stOK ∧ r.dev = (d.overlay (submitSet e)).dmaArm n c)
        ∧ (e.u 38 1 = 1 → r.status = stACCEPTED ∧ r.dev = d.overlay (submitSet e)
            ∧ r.work = [n, c, ((d.overlay (submitSet e)).get R.DMA_CH_STAT_GEN [n, c] + 1) % 65536] ∧ ∀ t, r.act t = t.dmaArm n c)))
  ∧ (∀ (s : State) (e : Entry) (n c txn : Nat) (ws : List MaskedWrite), e.u 12 1 = n → e.u 13 1 = c → e.u 14 2 = txn → txn ≠ 0 → n ≤ 31 →
      c ≤ 15 → e.u 36 2 ≤ 511 → e.u 38 1 ≤ 1 → e.u 39 1 = 0 → e.u 48 4 < 2 ^ 17 → e.u 52 4 = 0 → (s.dev.entered e).mayChannel e.via n c = true →
      ws = submitSet e ++ [stageField R.DMA_CH_CTL_ARM [n, c] 1] → (s.dev.entered e).takesChange e txn ws = true →
      s.gives (.dmaSubmit e) dmaSubmitSpec e true (fun d r =>
        d.carriesWait e txn (decide (e.u 38 1 = 1)) [n, c] [] { opcode := 0x0905, key := [], writes := ws } r))
  ∧ (∀ (s : State) (e : Entry) (n c : Nat), e.u 12 1 = n → e.u 13 1 = c → n ≤ 31 → c ≤ 15 → e.u 14 1 ≤ 2 →
      (s.dev.entered e).mayChannel e.via n c = true →
      s.gives (.dmaPause e) dmaPauseSpec e true (fun d r => r.status = stOK ∧ r.payload = [BitVec.ofNat 8 (r.dev.chState n c)]
        ∧ (e.u 14 1 ≤ 1 → r.dev = d.dmaPause n c (decide (e.u 14 1 = 1)))
        ∧ (e.u 14 1 = 2 → d.flag R.DMA_CH_CTL_ARM [n, c] = true →
            r.dev = (d.dmaDisarm n c).finish 0x0905 [n, c, (d.get R.DMA_CH_STAT_GEN [n, c] + 1) % 65536] stDISCARDED [])
        ∧ (e.u 14 1 = 2 → d.flag R.DMA_CH_CTL_ARM [n, c] = false → r.dev = d)))
  ∧ (∀ (s : State) (e : Entry) (ix : List Nat), ix = [e.u 12 1, e.u 13 1] → e.u 12 1 ≤ 31 → e.u 13 1 ≤ 15 →
      s.gives (.dmaQuery e) dmaQuerySpec e true (fun d r => r.status = stOK ∧ r.dev = d
        ∧ r.payload = layout [(1, d.get R.DMA_CH_STAT_STATE ix), (1, d.get R.DMA_CH_CTL_ARM ix), (2, d.get R.DMA_CH_STAT_GEN ix),
            (4, d.get R.DMA_CH_A_LEN_LEN ix), (4, d.get R.DMA_CH_CFG_CQ ix), (2, d.get R.DMA_CH_CFG_SHARE ix)]))

/-- Time commands, mailbox group 0x0A (R324, R325, R326, R328, R333, R336, R339, R342, R343, R64, R68). TIME_QUERY reports
TT, wall time and the servo; TIME_STEP, while no servo runs and no step waits, writes the step registers, requests the
step and holds its answer; TIME_SLEW starts or aborts a slew once it is answered ACCEPTED; TIME_INCR sets INCR,
clamped, and answers it; PTP_SERVO starts the servo on an open Ethernet port with its parameters or stops it;
PTP_STATUS reports it, or 0x0A11 where a slave has no master; TIMING_PINS sets pins, pulse width and event channels;
TIME_PTM starts a dialogue or sets the automatic period. A running servo refuses the changes of the time base with
0x0A10. -/
def Obligations.TimeCommands : Prop :=
  (∀ (s : State) (e : Entry), s.gives (.timeQuery e) timeQuerySpec e true (fun d r => r.status = stOK ∧ r.dev = d
      ∧ r.payload = layout [(8, d.tt.toNat), (4, d.get R.TB_ERA_ERA []), (1, d.servo.state),
          (1, d.get R.TB_STAT_ALIGNED [] + 2 * d.get R.TB_STAT_SLEWING [] + 4 * d.get R.TB_STAT_REF_LOST [] + 8 * d.get R.TB_STAT_PLL_LOCK []),
          (1, d.servo.port), (1, 0), (8, d.tim.time.wtSec), (4, d.wtNs), (4, code 32 (d.servo.offset / 65536))]))
  ∧ (∀ (s : State) (e : Entry) (m : Nat), e.u 13 1 = m → m ≤ 7 → (bit m 1 = true → bit m 2 = true ∧ e.u 32 8 < 2 ^ 48 ∧ e.u 40 4 ≤ 999999999) →
      s.dev.servoRuns = false → s.dev.tim.time.step = none →
      s.gives (.timeStep e) timeStepSpec e true (fun d r => r.status = stOK ∧ r.held = true ∧ r.dev.hbm = d.hbm
        ∧ r.dev.get R.TB_STEP_AMT_AMT [] = e.u 24 8 ∧ r.dev.flag R.TB_STEP_CTL_LOAD [] = bit m 1
        ∧ ∀ t : Device, t.regs = r.dev.regs → t.tim = d.tim → (r.act t).tim.time.step = some
            { load := bit m 1, both := bit m 0, atTT := if bit m 2 then some (BitVec.ofNat 64 (e.u 16 8)) else none, amt := e.s 24 8,
              sec := e.u 32 8 % 2 ^ 48, ns := e.u 40 4, frac := e.u 44 2 }))
  ∧ (∀ (s : State) (e : Entry), e.u 13 1 ≤ 3 → bit (e.u 13 1) 1 = false → s.dev.servoRuns = false →
      s.gives (.timeSlew e) timeSlewSpec e true (fun d r => r.status = stACCEPTED ∧ r.dev = d
        ∧ ∀ t u : Device, u = (t.wr R.TB_SLEW_AMT [] (BitVec.ofNat 64 (e.u 24 8))).slewGo (e.s 24 8) (e.u 16 4) (bit (e.u 13 1) 0) →
            r.act t = if u.tim.time.slewing then u else u.slewReport))
  ∧ (∀ (s : State) (e : Entry), e.u 13 1 ≤ 3 → bit (e.u 13 1) 1 = true → s.dev.servoRuns = false →
      s.gives (.timeSlew e) timeSlewSpec e true (fun d r => r.status = stACCEPTED ∧ r.dev = d
        ∧ ∀ t : Device, r.act t = if t.slewAbort.tim.time.slewing then t.slewAbort else t.slewAbort.slewReport))
  ∧ (∀ (s : State) (e : Entry), s.dev.servoRuns = false →
      s.gives (.timeIncr e) timeIncrSpec e true (fun d r => r.status = stOK
        ∧ r.dev.get R.TB_INCR_INCR [] = clamp incrMin incrMax (e.u 16 8) ∧ r.payload = leBytes 8 (clamp incrMin incrMax (e.u 16 8))
        ∧ (clamp incrMin incrMax (e.u 16 8) ≠ e.u 16 8 → r.dev.flag R.TB_STAT_CLAMPED [] = true) ∧ r.dev.tim = d.tim))
  ∧ (∀ (s : State) (e : Entry), e.u 13 1 = 0 →
      s.gives (.ptpServo e) ptpServoSpec e true (fun d r => r.status = stOK ∧ r.dev.servo = { d.servo with state := 0 } ∧ r.dev.regs = d.regs))
  ∧ (∀ (s : State) (e : Entry) (p : Nat), e.u 13 1 = 1 → e.u 14 1 = p → p ≤ 7 → e.u 16 1 ≤ 2 → e.u 17 1 ≠ 0 → e.u 17 1 ≤ 3 → e.u 18 1 ≤ 3 →
      s.dev.portPresent p = true → (s.dev.prtx p).isOpen = true → modeEth (s.dev.pmode p) = true → s.dev.servoRuns = false →
      s.gives (.ptpServo e) ptpServoSpec e true (fun d r => r.status = stOK ∧ r.dev.regs = d.regs
        ∧ r.dev.servo.state = (if e.u 16 1 = 2 then 6 else 1) ∧ r.dev.servo.port = p
        ∧ r.dev.servo.domain = (if e.u 15 1 = 0xFF then 127 else e.u 15 1) ∧ r.dev.servo.role = e.u 16 1 ∧ r.dev.servo.encaps = e.u 17 1
        ∧ r.dev.servo.priority1 = (if e.u 19 1 = 0xFF then 128 else e.u 19 1)
        ∧ r.dev.servo.priority2 = (if e.u 20 1 = 0xFF then 128 else e.u 20 1)
        ∧ r.dev.servo.syncLog = logOf (e.u 21 1) (-3) ∧ r.dev.servo.announceLog = logOf (e.u 22 1) (-2)
        ∧ r.dev.servo.delayLog = logOf (e.u 23 1) (-3)))
  ∧ (∀ (s : State) (e : Entry), (s.dev.entered e).noMaster = false →
      s.gives (.ptpStatus e) ptpStatusSpec e true (fun d r => r.status = stOK ∧ r.dev = d
        ∧ r.payload = layout [(1, d.servo.state), (1, d.servo.port), (2, d.servo.stepsRemoved), (1, d.servo.gmPriority1), (1, d.servo.gmClass),
            (2, 0), (8, code 64 d.servo.offset), (8, code 64 d.servo.meanPath), (8, d.get R.TB_INCR_INCR [])]))
  ∧ (∀ (s : State) (e : Entry), (s.dev.entered e).noMaster = true →
      s.gives (.ptpStatus e) ptpStatusSpec e true (fun d r => r = d.no 0x0A11))
  ∧ (∀ (s : State) (e : Entry) (fl : Nat), e.u 13 1 = fl → fl ≤ 127 → 100 ≤ e.u 16 4 → e.u 16 4 ≤ 999999999 →
      s.gives (.timingPins e) timingPinsSpec e true (fun d r => r.status = stOK ∧ (r.dev.rd R.TP_CTL []).toNat = fl % 32
        ∧ r.dev.get R.TP_WIDTH_PPS_WIDTH [] = e.u 16 4 ∧ r.dev.flag R.TP_EV_PPS_IN_EV_EN [] = bit fl 5
        ∧ r.dev.flag R.TP_EV_PPS_OUT_EV_EN [] = bit fl 6
        ∧ r.dev.get R.TP_EV_PPS_IN_EV [] = (if bit fl 5 then e.u 24 1 else d.get R.TP_EV_PPS_IN_EV [])
        ∧ r.dev.get R.TP_EV_PPS_OUT_EV [] = (if bit fl 6 then e.u 25 1 else d.get R.TP_EV_PPS_OUT_EV [])
        ∧ r.payload = layout [(8, (d.rd R.TP_PPS_IN []).toNat), (8, (d.rd R.TP_10M_PHASE []).toNat)] ∧ r.dev.tim = d.tim))
  ∧ (∀ (s : State) (e : Entry) (t : Device), e.u 13 1 ≤ 2 → e.u 14 2 ≤ 16383 → s.dev.hst.ptmEnable = true →
      (if e.u 13 1 = 0 then (s.dev.entered e).ptmStart
        else if e.u 13 1 = 1 then ((s.dev.entered e).setFlag R.PTM_CTL_AUTO [] true).put R.PTM_CTL_PERIOD_MS [] (e.u 14 2)
        else (s.dev.entered e).setFlag R.PTM_CTL_AUTO [] false) = t →
      s.gives (.timePtm e) timePtmSpec e true (fun d r => r.status = stOK ∧ r.dev = t
        ∧ r.payload = layout [(8, (d.rd R.PTM_T1 []).toNat), (8, (d.rd R.PTM_MASTER []).toNat), (4, d.get R.PTM_PROP_NS []),
            (4, d.get R.PTM_STAT_SEQ [])]))
  ∧ (∀ (s : State) (e : Entry) (m : Nat), e.u 13 1 = m → m ≤ 3 → (bit m 1 = true → bit m 2 = true ∧ e.u 32 8 < 2 ^ 48 ∧ e.u 40 4 ≤ 999999999) →
      s.dev.servoRuns = true →
      s.gives (.timeStep e) timeStepSpec e true (fun d r => r = d.no stSERVO_ACTIVE)
      ∧ s.gives (.timeSlew e) timeSlewSpec e true (fun d r => r = d.no stSERVO_ACTIVE)
      ∧ s.gives (.timeIncr e) timeIncrSpec e true (fun d r => r = d.no stSERVO_ACTIVE))

/-- Midway and Barker commands, mailbox group 0x0B (R368, R345, R349, R350, R351, R353, R356, R359, R361, R364, R68).
MW_CHANNEL stages the configuration of a free channel and claims it, or clears and gives it up; MW_FIRE fires a
channel the mailbox has and answers TT; MW_WATCH answers the watch bit and the firings, then clears or forwards as
FLAGS asks; MW_GATE stages the gates and a consumer gate; BK_PROGRAM stages a program from its buffer and claims it;
BK_ARM stages EN; BK_QUERY reports state and a fire record; TRG_PIN stages a pin and claims it; TRG_STAMPS pops stamps
into the output buffer; BK_ACTION records how the ACTION_CMD of a target is sent. -/
def Obligations.TimingCommands : Prop :=
  (∀ (s : State) (e : Entry) (c : Nat) (ws : List MaskedWrite), e.u 12 1 = c → e.u 13 1 ≤ 7 → bit (e.u 13 1) 2 = false → e.u 14 1 ≤ 2 →
      (s.dev.entered e).channelHeld e.via c = false →
      ws = [stageFields R.MW_CH_CFG [c] [(R.MW_CH_CFG_ASYNC, e.u 13 1 % 2), (R.MW_CH_CFG_OWNER, 1), (R.MW_CH_CFG_SECURE, e.u 13 1 / 2 % 2),
        (R.MW_CH_CFG_SWMODE, e.u 14 1)]] → (s.dev.entered e).takesChange e (e.u 16 2) ws = true →
      s.gives (.mwChannel e) mwChannelSpec e true (fun d r =>
        d.carries e (e.u 16 2) false { opcode := 0x0B00, key := [], claims := [.channel c], writes := ws } r))
  ∧ (∀ (s : State) (e : Entry) (c : Nat) (ws : List MaskedWrite), e.u 12 1 = c → e.u 13 1 ≤ 7 → bit (e.u 13 1) 2 = true → e.u 14 1 ≤ 2 →
      (s.dev.entered e).channelHeld e.via c = false → (s.dev.entered e).mayAct e.via (.channel c) = true →
      ws = [{ addr := R.MW_CH_CFG.addr [c], mask := 0x1FF, value := 0 }] → (s.dev.entered e).takesChange e (e.u 16 2) ws = true →
      s.gives (.mwChannel e) mwChannelSpec e true (fun d r =>
        d.carries e (e.u 16 2) false { opcode := 0x0B00, key := [], drops := [.channel c], writes := ws } r))
  ∧ (∀ (s : State) (e : Entry) (c : Nat), e.u 12 1 = c → (s.dev.entered e).channelHeld e.via c = false →
      (s.dev.entered e).mayAct e.via (.channel c) = true →
      s.gives (.mwFire e) mwFireSpec e true (fun d r => r.status = stOK ∧ r.dev = d.mwFire .ringmaster c
        ∧ r.payload = leBytes 8 d.tt.toNat))
  ∧ (∀ (s : State) (e : Entry) (c : Nat) (seen : Word), e.u 12 1 = c → e.u 13 1 ≤ 7 → (s.dev.entered e).mayAct e.via (.channel c) = true →
      (s.dev.entered e).watchMask .ringmaster (c / 64) (s.dev.rd R.MW_WATCH [c / 64]) = seen →
      s.gives (.mwWatch e) mwWatchSpec e true (fun d r => r.status = stOK
        ∧ r.payload = layout [(1, b2n (bit seen.toNat (c % 64))), (3, 0), (4, d.get R.MW_CH_CNT_FIRES [c])]
        ∧ r.dev.rd R.MW_CH_CNT [c] = 0
        ∧ r.dev.rd R.MW_WATCH [c / 64] = (if bit (e.u 13 1) 0 then d.rd R.MW_WATCH [c / 64] &&& ~~~ (seen &&& BitVec.ofNat 64 (2 ^ (c % 64)))
            else d.rd R.MW_WATCH [c / 64])
        ∧ (bit (e.u 13 1) 2 = true → r.dev.tim.forwarded = d.tim.forwarded.filter (fun x => decide (x ≠ c)))
        ∧ (bit (e.u 13 1) 2 = false → bit (e.u 13 1) 1 = true →
            r.dev.tim.forwarded = d.tim.forwarded.filter (fun x => decide (x ≠ c)) ++ [c])))
  ∧ (∀ (s : State) (e : Entry) (i : Nat) (w1 w2 : List MaskedWrite), e.u 12 1 ≤ 3 → e.u 16 2 = i →
      (bit (e.u 12 1) 0 = true → e.via.principal = true) →
      (bit (e.u 12 1) 1 = true → i ≤ 2047 ∧ (i < 593 ∨ 639 < i) ∧ e.u 18 1 ≤ 28 ∧ e.u 19 1 ≤ 1 ∧ (s.dev.entered e).mayTake e.via (.consumer i) = true) →
      w1 = (if bit (e.u 12 1) 0 then
        [{ addr := R.MW_GATE.addr [], mask := BitVec.ofNat 64 (e.u 14 1), value := BitVec.ofNat 64 (e.u 13 1) &&& BitVec.ofNat 64 (e.u 14 1) }]
        else []) →
      w2 = (if bit (e.u 12 1) 1 then [stageFields R.MW_CON [i] [(R.MW_CON_GATE, e.u 18 1), (R.MW_CON_GATE_INV, e.u 19 1),
        (R.MW_CON_DEAD, e.u 20 1)]] else []) →
      (s.dev.entered e).takesChange e (e.u 22 2) (w1 ++ w2) = true →
      s.gives (.mwGate e) mwGateSpec e true (fun d r => d.carries e (e.u 22 2) false
        { opcode := 0x0B03, key := [], writes := w1 ++ w2, claims := if bit (e.u 12 1) 1 then [.consumer i] else [] } r))
  ∧ (∀ (s : State) (e : Entry) (b : List Byte) (p : Nat) (ws : List MaskedWrite), (s.dev.entered e).input e = b → e.inLen = 128 → fieldAt b 0 1 = p →
      p ≤ 31 → fieldAt b 1 1 ≤ 2 → fieldAt b 2 1 ≤ 3 → fieldAt b 3 1 ≤ 3 → fieldAt b 5 1 = 0 → fieldAt b 42 6 = 0 → fieldAt b 48 8 < 2 ^ 48 →
      fieldAt b 60 4 = 0 →
      (∀ t, t < 4 → fieldAt b (64 + 16 * t) 1 ≤ 4 ∧ fieldAt b (64 + 16 * t + 1) 1 ≤ 1 ∧ fieldAt b (64 + 16 * t + 3) 1 = 0
        ∧ fieldAt b (64 + 16 * t + 8) 8 = 0) →
      (s.dev.entered e).mayTake e.via (.program p) = true →
      ws = [stageFields R.BK_CTL [p] [(R.BK_CTL_SRC, fieldAt b 1 1), (R.BK_CTL_DIR, fieldAt b 2 1 % 2), (R.BK_CTL_INTERP, fieldAt b 2 1 / 2),
          (R.BK_CTL_POS_CH, fieldAt b 3 1), (R.BK_CTL_EV, fieldAt b 4 1)], stageField R.BK_START_START [p] (fieldAt b 8 8),
        stageField R.BK_PERIOD_PERIOD [p] (fieldAt b 16 8),
        stageFields R.BK_COUNT [p] [(R.BK_COUNT_COUNT, fieldAt b 24 4), (R.BK_COUNT_DELAY, fieldAt b 28 4)],
        stageFields R.BK_POS [p] [(R.BK_POS_TARGET_CNT, fieldAt b 32 4), (R.BK_POS_TARGET_REV, fieldAt b 36 4)],
        stageFields R.BK_POSF [p] [(R.BK_POSF_FRAC, fieldAt b 40 2), (R.BK_POSF_SPACING, fieldAt b 48 8)],
        stageField R.BK_WIDTH_WIDTH [p] (fieldAt b 56 4)]
        ++ (List.range 4).map (fun t => stageFields R.BK_TGT [p, t] [(R.BK_TGT_KIND, fieldAt b (64 + 16 * t) 1),
          (R.BK_TGT_LEVEL, fieldAt b (64 + 16 * t + 1) 1), (R.BK_TGT_INDEX, fieldAt b (64 + 16 * t + 2) 1),
          (R.BK_TGT_LEAD, fieldAt b (64 + 16 * t + 4) 4)]) →
      (s.dev.entered e).takesChange e (fieldAt b 6 2) ws = true →
      s.gives (.bkProgram e) bkProgramSpec e true (fun d r =>
        d.carries e (fieldAt b 6 2) false { opcode := 0x0B04, key := [], writes := ws, claims := [.program p] } r))
  ∧ (∀ (s : State) (e : Entry) (p : Nat) (ws : List MaskedWrite), e.u 12 1 = p → p ≤ 31 → e.u 13 1 ≤ 1 →
      (e.u 13 1 = 1 → ∀ n ∈ s.dev.vxlTargets p, (n < 8 → s.dev.portPresent n = true) ∧ s.dev.vxlUp n = true ∧ s.dev.hostRole n = true) →
      (s.dev.entered e).mayAct e.via (.program p) = true → ws = [stageField R.BK_CTL_EN [p] (e.u 13 1)] →
      (s.dev.entered e).takesChange e (e.u 14 2) ws = true →
      s.gives (.bkArm e) bkArmSpec e true (fun d r =>
        d.carries e (e.u 14 2) false { opcode := 0x0B05, key := [], writes := ws, payload := leBytes 4 d.epoch } r))
  ∧ (∀ (s : State) (e : Entry) (p : Nat) (h : List Byte), e.u 12 1 = p → p ≤ 31 → e.u 13 1 ≤ 15 → (s.dev.prog p).hist.getD (e.u 13 1) (zeros 32) = h →
      s.gives (.bkQuery e) bkQuerySpec e true (fun d r => r.status = stOK ∧ r.dev = d
        ∧ r.payload = layout [(1, d.get R.BK_STAT_STATE [p]), (1, fieldAt h 24 1), (1, d.get R.BK_STAT_COMPARE_BEHIND [p]), (1, 0),
            (4, fieldAt h 16 4), (8, fieldAt h 0 8), (8, fieldAt h 8 8), (4, fieldAt h 20 4)]))
  ∧ (∀ (s : State) (e : Entry) (i : Nat) (ws : List MaskedWrite), e.u 12 1 = i → i ≤ 15 → e.u 13 1 ≤ 31 →
      (s.dev.entered e).mayTake e.via (.pin i) = true → (bit (e.u 13 1) 0 = true → s.dev.flag R.NET_PIN_OUT_OK [i] = true) →
      ws = [stageFields R.TRG_CTL [i] [(R.TRG_CTL_DIR, e.u 13 1 % 2), (R.TRG_CTL_POL, e.u 13 1 / 2 % 2), (R.TRG_CTL_IN_EDGE, e.u 13 1 / 4 % 4),
          (R.TRG_CTL_IN_EV_EN, e.u 13 1 / 16), (R.TRG_CTL_IN_EV, e.u 14 1), (R.TRG_CTL_FILT, e.u 15 1)],
        stageFields R.TRG_ADJ [i] [(R.TRG_ADJ_OUT_ADJ, e.u 16 2), (R.TRG_ADJ_IN_ADJ, e.u 18 2)]] →
      (s.dev.entered e).takesChange e (e.u 20 2) ws = true →
      s.gives (.trgPin e) trgPinSpec e true (fun d r =>
        d.carries e (e.u 20 2) false { opcode := 0x0B07, key := [], writes := ws, claims := [.pin i] } r))
  ∧ (∀ (s : State) (e : Entry) (i n : Nat) (got : List (TT × Bool)), e.u 12 1 = i → e.u 13 1 = n → i ≤ 15 → n ≠ 0 → n ≤ 16 → 16 * n ≤ e.outLen →
      (s.dev.entered e).mayAct e.via (.pin i) = true → s.dev.flag R.TRG_CTL_DIR [i] = false → (s.dev.pin i).stamps.take n = got →
      s.gives (.trgStamps e) trgStampsSpec e true (fun d r => r.status = stOK
        ∧ r.out = got.flatMap (fun x => layout [(8, x.1.toNat), (1, b2n x.2), (7, 0)])
        ∧ r.dev = (got.foldl (fun (d : Device) _ => d.stampPop i) d).put R.TRG_IN_OVERRUN [i] 0
        ∧ (r.payload.take 1) = leBytes 1 got.length))
  ∧ (∀ (s : State) (e : Entry) (p t : Nat), e.u 12 1 = p → e.u 13 1 = t → p ≤ 31 → t ≤ 3 → e.u 14 1 ≤ 7 →
      (s.dev.entered e).mayAct e.via (.program p) = true →
      s.gives (.bkAction e) bkActionSpec e (s.dev.portThere (e.u 14 1)) (fun d r => r.status = stOK ∧ r.dev.regs = d.regs
        ∧ r.dev.tim.actionCmds = d.tim.actionCmds.put {} (p * 4 + t)
            { port := e.u 14 1, deviceKey := e.u 16 4, groupKey := e.u 20 4, groupMask := e.u 24 4, dst := e.u 28 4,
              reqId := (d.tim.actionCmds.get {} (p * 4 + t)).reqId }))

/-- Position feedback commands, mailbox group 0x0C (R369, R377, R378, R380, R382, R386, R64, R68). FB_QUERY reports a
channel; FB_CONFIG stages the channel configuration, claims the channel and sets its direction and error events;
FB_SET_POS stages the preset and SET_POS; FB_LATCH stages source, edge and ARM, with WAIT goes on until the latch, and
sets the latch event, or stages a disarming and tells the waiting commands DISCARDED; FB_COMPARE stages the compare
and sets its event; FB_COUNTERS reports the saturating totals and clears them on request. A channel that is off
refuses position, latch and compare with 0x0C10. -/
def Obligations.FeedbackCommands : Prop :=
  (∀ (s : State) (e : Entry) (f : Nat), e.u 12 1 = f → f ≤ 3 →
      s.gives (.fbQuery e) fbQuerySpec e true (fun d r => r.status = stOK ∧ r.dev = d
        ∧ r.payload = layout [(4, d.get R.FB_POS_COUNT [f]), (4, d.get R.FB_POS_REV [f]), (8, code 64 (sgn 48 (d.get R.FB_SPEED_SPEED [f]))),
            (1, (d.rd R.FB_STAT [f]).toNat % 32 + 32 * d.get R.FB_STAT_SUSPECT [f]), (1, (d.rd R.FB_EVT [f]).toNat % 32), (6, 0),
            (8, (d.rd R.FB_EDGE_TT [f]).toNat)]))
  ∧ (∀ (s : State) (e : Entry) (f fl : Nat) (ws : List MaskedWrite), e.u 12 1 = f → e.u 17 1 = fl → f ≤ 3 → e.u 16 1 ≤ 3 → fl ≤ 31 → fl % 4 ≠ 3 →
      e.u 26 1 ≤ 4 → e.u 28 4 ≠ 0 → e.u 28 4 ≤ 1000000 → e.u 27 1 ≤ 63 → e.u 32 1 ≤ 63 → e.u 38 2 = 0 → e.u 46 18 = 0 →
      (s.dev.entered e).mayTake e.via (.fb f) = true →
      ws = [stageFields R.FB_CTL [f] [(R.FB_CTL_MODE, e.u 16 1), (R.FB_CTL_DECODE, fl % 4), (R.FB_CTL_INVERT, fl / 4 % 2),
          (R.FB_CTL_WRAP, fl / 8 % 2), (R.FB_CTL_FILT, e.u 18 2), (R.FB_CTL_SW_FILT, e.u 24 2)],
        stageField R.FB_CPR_CPR [f] (if e.u 20 4 = 0 then 2 ^ 32 else e.u 20 4),
        stageFields R.FB_SPD_CFG [f] [(R.FB_SPD_CFG_TIMEOUT_US, e.u 28 4), (R.FB_SPD_CFG_AVG_SHIFT, e.u 26 1)],
        stageFields R.FB_SSI [f] [(R.FB_SSI_BITS, e.u 27 1), (R.FB_SSI_TURN_BITS, e.u 32 1), (R.FB_SSI_GRAY, fl / 16), (R.FB_SSI_DIV, e.u 33 1),
          (R.FB_SSI_PERIOD_US, e.u 34 2), (R.FB_SSI_MONO_US, e.u 36 2)], stageField R.FB_SSI2_MAX_JUMP [f] (e.u 40 4)] →
      (s.dev.entered e).takesChange e (e.u 14 2) ws = true →
      s.gives (.fbConfig e) fbConfigSpec e true (fun d r =>
        ∃ r0, d.carries e (e.u 14 2) false { opcode := 0x0C01, key := [], writes := ws, claims := [.fb f] } r0
          ∧ r =
            { r0 with dev := (r0.dev.setEvent R.FB_EV_DIR_EV_EN R.FB_EV_DIR_EV [f] (e.u 44 1)).setEvent R.FB_EV_ERR_EV_EN R.FB_EV_ERR_EV [f]
                               (e.u 45 1) }))
  ∧ (∀ (s : State) (e : Entry) (f : Nat) (ws : List MaskedWrite), e.u 12 1 = f → (s.dev.entered e).fbCheck e = stOK → s.dev.fbMode f ≠ 0 →
      ws = [stageFields R.FB_PRESET [f] [(R.FB_PRESET_COUNT, e.u 16 4), (R.FB_PRESET_REV, e.u 20 4)], stageField R.FB_CMD_SET_POS [f] 1] →
      (s.dev.entered e).takesChange e (e.u 14 2) ws = true →
      s.gives (.fbSetPos e) fbSetPosSpec e true (fun d r =>
        d.carriesShow e (e.u 14 2) { opcode := 0x0C02, key := [], writes := ws, payload := [BitVec.ofNat 8 f] } r))
  ∧ (∀ (s : State) (e : Entry) (f : Nat) (ws : List MaskedWrite), e.u 12 1 = f → (s.dev.entered e).fbCheck e = stOK → e.u 16 1 ≤ 2 →
      e.u 17 1 ≤ 3 → e.u 18 1 ≤ 3 → bit (e.u 18 1) 0 = false → bit (e.u 18 1) 1 = true → s.dev.fbMode f ≠ 0 →
      ws = [stageFields R.FB_LATCH [f] [(R.FB_LATCH_LATCH_SRC, 0), (R.FB_LATCH_LATCH_EDGE, 0)]] →
      (s.dev.entered e).takesChange e (e.u 14 2) ws = true →
      s.gives (.fbLatch e) fbLatchSpec e true (fun d r =>
        ∃ r0, d.carries e (e.u 14 2) false { opcode := 0x0C03, key := [], writes := ws } r0
          ∧ r = { r0 with dev := r0.dev.finish 0x0C03 [f] stDISCARDED [] }))
  ∧ (∀ (s : State) (e : Entry) (f : Nat) (ws : List MaskedWrite), e.u 12 1 = f → (s.dev.entered e).fbCheck e = stOK → e.u 16 1 ≤ 2 →
      e.u 17 1 ≤ 3 → e.u 18 1 ≤ 3 → bit (e.u 18 1) 1 = false → s.dev.fbMode f ≠ 0 →
      ws = [stageFields R.FB_LATCH [f] [(R.FB_LATCH_LATCH_SRC, e.u 16 1), (R.FB_LATCH_LATCH_EDGE, e.u 17 1), (R.FB_LATCH_ARM, 1)]] →
      (s.dev.entered e).takesChange e (e.u 14 2) ws = true →
      s.gives (.fbLatch e) fbLatchSpec e true (fun d r =>
        ∃ r0, d.carriesWait e (e.u 14 2) (bit (e.u 18 1) 0) [f] [f] { opcode := 0x0C03, key := [], writes := ws } r0
          ∧ r = { r0 with dev := r0.dev.setEvent R.FB_EV_LATCH_EV_EN R.FB_EV_LATCH_EV [f] (e.u 19 1) }))
  ∧ (∀ (s : State) (e : Entry) (f : Nat) (ws : List MaskedWrite), e.u 12 1 = f → (s.dev.entered e).fbCheck e = stOK → e.u 16 1 ≤ 3 →
      s.dev.fbMode f ≠ 0 →
      ws = [stageFields R.FB_CMP_CTL [f] [(R.FB_CMP_CTL_CMP_EN, e.u 16 1 % 2), (R.FB_CMP_CTL_CMP_DIR, e.u 16 1 / 2),
          (R.FB_CMP_CTL_SPACING, e.u 28 4)],
        stageFields R.FB_CMP_TGT [f] [(R.FB_CMP_TGT_TGT_COUNT, e.u 20 4), (R.FB_CMP_TGT_TGT_REV, e.u 24 4)]] →
      (s.dev.entered e).takesChange e (e.u 14 2) ws = true →
      s.gives (.fbCompare e) fbCompareSpec e true (fun d r =>
        ∃ r0, d.carriesShow e (e.u 14 2) { opcode := 0x0C04, key := [], writes := ws, payload := [BitVec.ofNat 8 f] } r0
          ∧ r = { r0 with dev := r0.dev.setEvent R.FB_EV_CMP_EV_EN R.FB_EV_CMP_EV [f] (e.u 17 1) }))
  ∧ (∀ (s : State) (e : Entry) (f : Nat), e.u 12 1 = f → (s.dev.entered e).fbCheck e = stOK → s.dev.fbMode f = 0 →
      s.gives (.fbSetPos e) fbSetPosSpec e true (fun d r => r = d.no stCHANNEL_OFF)
      ∧ (e.u 16 1 ≤ 2 → e.u 17 1 ≤ 3 → e.u 18 1 ≤ 2 → s.gives (.fbLatch e) fbLatchSpec e true (fun d r => r = d.no stCHANNEL_OFF))
      ∧ (e.u 16 1 ≤ 3 → s.gives (.fbCompare e) fbCompareSpec e true (fun d r => r = d.no stCHANNEL_OFF)))
  ∧ (∀ (s : State) (e : Entry) (f : Nat) (x : FbX), e.u 12 1 = f → (s.dev.entered e).fbCheck e = stOK → e.u 16 1 ≤ 1 → s.dev.fb f = x →
      s.gives (.fbCounters e) fbCountersSpec e true (fun d r => r.status = stOK
        ∧ r.payload = layout [(4, satAdd 32 x.totQuad (d.get R.FB_ERR_QUAD [f])), (4, satAdd 32 x.totHall (d.get R.FB_ERR_HALL [f])),
            (4, satAdd 32 x.totSsi (d.get R.FB_ERR_SSI [f])), (4, satAdd 32 x.totRev (d.get R.FB_ERR_REVERSALS [f])),
            (4, satAdd 32 x.totHits (d.get R.FB_CMP_HITS_HITS [f]))]
        ∧ r.dev.rd R.FB_ERR [f] = 0 ∧ r.dev.rd R.FB_CMP_HITS [f] = 0
        ∧ (e.u 16 1 = 1 → (r.dev.fb f).totQuad = 0 ∧ (r.dev.fb f).totHall = 0 ∧ (r.dev.fb f).totSsi = 0 ∧ (r.dev.fb f).totRev = 0
            ∧ (r.dev.fb f).totHits = 0)))

/-- Motion commands, mailbox group 0x0D (R391, R405, R404, R401, R390, R410, R64, R68). AX_QUERY reports an axis;
AX_CONFIG stages the configuration of an idle, disabled axis, claims it and sets its four events; AX_ENABLE stages EN;
AX_MOVE stages target, speed, ramps, jerk and GO, waits for its end with WAIT and keeps its start event; AX_STOP
stages STOP; AX_HOME stages latch and homing in one commit and goes on until homing ends; AX_SET_POS presets a resting
axis; AX_COUNTERS reports the saturating totals and clears them on request. A move or a homing of a faulty axis
answers 0x0D11, an absolute move that homing must precede 0x0D10, a move toward an active limit 0x0D13. -/
def Obligations.MotionCommands : Prop :=
  (∀ (s : State) (e : Entry) (a : Nat), e.u 12 1 = a → a ≤ 3 →
      s.gives (.axQuery e) axQuerySpec e true (fun d r => r.status = stOK ∧ r.dev = d
        ∧ r.payload = layout [(8, code 64 (sgn 48 (d.get R.MP_POS_POS [a]))), (4, d.get R.MP_VNOW_V [a]), (1, d.get R.MP_STAT_STATE [a]),
            (1, d.get R.MP_STAT_HOMED [a] + 2 * d.get R.MP_STAT_MOVING [a] + 4 * d.get R.MP_STAT_AT_TARGET [a]
              + 8 * d.get R.CD_STAT_STRONG [a] + 16 * d.get R.CD_STAT_EN_OUT [a] + 32 * d.get R.CD_STAT_FLT [a]),
            (2, (d.rd R.MP_EVT [a]).toNat % 256), (2, d.get R.CD_STAT_LOAD_ANGLE [a]), (2, d.get R.CD_STAT_I_NOW [a]),
            (2, d.get R.CD_ICUR_IA [a]), (2, d.get R.CD_ICUR_IB [a])]))
  ∧ (∀ (s : State) (e : Entry) (b : List Byte) (a : Nat) (ws : List MaskedWrite), (s.dev.entered e).input e = b → e.inLen = 128 →
      fieldAt b 0 1 = a → a ≤ 3 → fieldAt b 4 1 ≤ 3 → 20 ≤ fieldAt b 6 2 → fieldAt b 6 2 ≤ 100 → 25000 ≤ fieldAt b 8 4 →
      fieldAt b 8 4 ≤ 1000000 → fieldAt b 36 2 ≤ 4095 → fieldAt b 38 2 ≤ 4095 → fieldAt b 40 2 ≤ 4095 → fieldAt b 43 1 ≤ 1 → fieldAt b 53 1 ≤ 1 →
      fieldAt b 54 2 ≠ 0 → fieldAt b 54 2 ≤ 1024 → (2 ≤ a → bit (fieldAt b 1 1) 5 = false) → fits48 (sgn 64 (fieldAt b 56 8)) = true →
      fits48 (sgn 64 (fieldAt b 64 8)) = true → (∀ x ∈ b.drop 78, x = 0) → (s.dev.entered e).mayTake e.via (.axis a) = true →
      s.dev.get R.MP_STAT_STATE [a] = 0 → s.dev.flag R.CD_CTL_EN [a] = false → ws = axisWrites (fieldAt b) →
      (s.dev.entered e).takesChange e (fieldAt b 2 2) ws = true →
      s.gives (.axConfig e) axConfigSpec e true (fun d r =>
        ∃ r0, d.carries e (fieldAt b 2 2) false { opcode := 0x0D01, key := [], writes := ws, claims := [.axis a] } r0
          ∧ r =
            { r0 with dev := (((r0.dev.setEvent R.MP_EV_DONE_EV_EN R.MP_EV_DONE_EV [a] (fieldAt b 72 1)).setEvent
                R.MP_EV_STALL_EV_EN R.MP_EV_STALL_EV [a] (fieldAt b 73 1)).setEvent
                R.MP_EV_LIMIT_EV_EN R.MP_EV_LIMIT_EV [a] (fieldAt b 74 1)).setEvent R.MP_EV_FAULT_EV_EN R.MP_EV_FAULT_EV [a] (fieldAt b 75 1) }))
  ∧ (∀ (s : State) (e : Entry) (a : Nat) (ws : List MaskedWrite), e.u 12 1 = a → (s.dev.entered e).axCheck e = stOK → e.u 13 1 ≤ 1 →
      s.dev.boothDown 12 = false → (e.u 13 1 = 1 → (s.dev.axis a).flt = false) → ws = [stageField R.CD_CTL_EN [a] (e.u 13 1)] →
      (s.dev.entered e).takesChange e (e.u 14 2) ws = true →
      s.gives (.axEnable e) axEnableSpec e true (fun d r => d.carriesShow e (e.u 14 2) { opcode := 0x0D02, key := [], writes := ws } r))
  ∧ (∀ (s : State) (e : Entry) (a m fl : Nat) (ws : List MaskedWrite), e.u 12 1 = a → e.u 13 1 = m → e.u 14 1 = fl →
      (s.dev.entered e).axCheck e = stOK → 1 ≤ m → m ≤ 3 → fl ≤ 7 → e.u 18 6 = 0 → e.u 44 4 = 0 → e.u 56 8 = 0 →
      (m = 1 → fits48 (e.s 24 8) = true) → e.u 48 8 < 2 ^ 40 → s.dev.axisFaulty a = false →
      (m = 1 → s.dev.flag R.MP_CFG_HOME_REQ [a] = true → s.dev.flag R.MP_STAT_HOMED [a] = true) →
      (m ≠ 3 → (s.dev.axis a).towardLimit (if m = 1 then decide (e.s 24 8 * 65536 < (s.dev.axis a).q) else decide (e.s 32 4 < 0)) = false) →
      ws = (if m = 1 then [stageField R.MP_TARGET_TARGET [a] (e.u 24 8)] else [])
        ++ [stageField R.MP_VEL_V [a] (e.u 32 4), stageFields R.MP_ACC [a] [(R.MP_ACC_ACC, e.u 36 4), (R.MP_ACC_DEC, e.u 40 4)],
          stageField R.MP_JERK_JERK [a] (e.u 48 8),
          stageFields R.MP_CTL [a] [(R.MP_CTL_MODE, m), (R.MP_CTL_SCURVE, fl % 2), (R.MP_CTL_START_EV_EN, fl / 2 % 2), (R.MP_CTL_GO, 1)]] →
      (s.dev.entered e).takesChange e (e.u 16 2) ws = true →
      s.gives (.axMove e) axMoveSpec e true (fun d r =>
        ∃ r0, d.carriesWait e (e.u 16 2) (bit fl 2) [a] [a, 1] { opcode := 0x0D03, key := [], writes := ws } r0
          ∧ r =
            { r0 with dev := if bit fl 1 then r0.dev.setAxis a { r0.dev.axis a with startEv := some (e.u 15 1) } else r0.dev }))
  ∧ (∀ (s : State) (e : Entry) (a : Nat), e.u 12 1 = a → (s.dev.entered e).axCheck e = stOK → 1 ≤ e.u 13 1 → e.u 13 1 ≤ 3 → e.u 14 1 ≤ 7 →
      e.u 18 6 = 0 → e.u 44 4 = 0 → e.u 56 8 = 0 → (e.u 13 1 = 1 → fits48 (e.s 24 8) = true) → e.u 48 8 < 2 ^ 40 → s.dev.axisFaulty a = true →
      s.gives (.axMove e) axMoveSpec e true (fun d r => r = d.no 0x0D11))
  ∧ (∀ (s : State) (e : Entry) (a : Nat), e.u 12 1 = a → (s.dev.entered e).axCheck e = stOK → e.u 13 1 = 1 → e.u 14 1 ≤ 7 →
      e.u 18 6 = 0 → e.u 44 4 = 0 → e.u 56 8 = 0 → fits48 (e.s 24 8) = true → e.u 48 8 < 2 ^ 40 → s.dev.axisFaulty a = false →
      s.dev.flag R.MP_CFG_HOME_REQ [a] = true → s.dev.flag R.MP_STAT_HOMED [a] = false →
      s.gives (.axMove e) axMoveSpec e true (fun d r => r = d.no 0x0D10))
  ∧ (∀ (s : State) (e : Entry) (a : Nat), e.u 12 1 = a → (s.dev.entered e).axCheck e = stOK → e.u 13 1 = 2 → e.u 14 1 ≤ 7 →
      e.u 18 6 = 0 → e.u 44 4 = 0 → e.u 56 8 = 0 → e.u 48 8 < 2 ^ 40 → s.dev.axisFaulty a = false →
      (s.dev.axis a).towardLimit (decide (e.s 32 4 < 0)) = true →
      s.gives (.axMove e) axMoveSpec e true (fun d r => r = d.no 0x0D13))
  ∧ (∀ (s : State) (e : Entry) (a : Nat) (ws : List MaskedWrite), e.u 12 1 = a → (s.dev.entered e).axCheck e = stOK → e.u 13 1 ≤ 1 →
      ws = [stageField R.MP_CTL_STOP [a] 1] → (s.dev.entered e).takesChange e (e.u 14 2) ws = true →
      s.gives (.axStop e) axStopSpec e true (fun d r =>
        d.carriesWait e (e.u 14 2) (decide (e.u 13 1 = 1)) [a] [a, 1] { opcode := 0x0D04, key := [], writes := ws } r))
  ∧ (∀ (s : State) (e : Entry) (a f : Nat) (ws : List MaskedWrite), e.u 12 1 = a → s.dev.get R.MP_CFG_FB_CH [a] = f →
      (s.dev.entered e).axCheck e = stOK → e.u 13 1 ≤ 1 → 1 ≤ e.u 14 1 → e.u 14 1 ≤ 3 → (s.dev.entered e).mayAct e.via (.fb f) = true →
      s.dev.axisFaulty a = false →
      ws = [stageFields R.FB_LATCH [f] [(R.FB_LATCH_LATCH_SRC, e.u 13 1), (R.FB_LATCH_LATCH_EDGE, e.u 14 1)], stageField R.MP_HOME_GO [a] 1] →
      (s.dev.entered e).takesChange e (e.u 16 2) ws = true →
      s.gives (.axHome e) axHomeSpec e true (fun d r =>
        d.carriesWait e (e.u 16 2) true [a] [a, 1] { opcode := 0x0D05, key := [], writes := ws } r))
  ∧ (∀ (s : State) (e : Entry) (a : Nat) (ws : List MaskedWrite), e.u 12 1 = a → (s.dev.entered e).axCheck e = stOK → fits48 (e.s 24 8) = true →
      s.dev.flag R.MP_STAT_MOVING [a] = false → (s.dev.axis a).still = true →
      ws = [stageField R.MP_PRESET_PRESET [a] (e.u 24 8), stageField R.MP_CTL_SET_POS [a] 1] →
      (s.dev.entered e).takesChange e (e.u 14 2) ws = true →
      s.gives (.axSetPos e) axSetPosSpec e true (fun d r => d.carries e (e.u 14 2) false { opcode := 0x0D06, key := [], writes := ws } r))
  ∧ (∀ (s : State) (e : Entry) (a : Nat), e.u 12 1 = a → (s.dev.entered e).axCheck e = stOK → e.u 13 1 ≤ 1 →
      s.gives (.axCounters e) axCountersSpec e true (fun d r => r.status = stOK
        ∧ r.payload = layout [(4, satAdd 32 (s.dev.axis a).totStalls (d.get R.MP_CNT_STALLS [a])),
            (4, satAdd 32 (s.dev.axis a).totLimits (d.get R.MP_CNT_LIMITS [a])), (4, satAdd 32 s.dev.mot.totCuts (d.get R.MSV_CNT_CUTS [])),
            (4, d.get R.MP_CNT_STEP_LAG [a])]
        ∧ r.dev.get R.MP_CNT_STALLS [a] = 0 ∧ r.dev.get R.MP_CNT_LIMITS [a] = 0 ∧ r.dev.get R.MSV_CNT_CUTS [] = 0
        ∧ (e.u 13 1 = 1 → (r.dev.axis a).totStalls = 0 ∧ (r.dev.axis a).totLimits = 0 ∧ r.dev.mot.totCuts = 0)))

/-- Security commands, mailbox group 0x0E (R438, R441, R446, R447, R454, R457, R458, R460, R463, R64, R68). SEC_QUERY
reports life cycle, boot and floor; ATTEST asks for a quote over the nonce, at once where none is under way, and holds
its answer; ID_CERT writes the certificate; SEC_REQUEST and DEBUG_OPEN hand a request of the right length to the unit,
at once where none is under check, and hold their answer; SVN_COMMIT asks for the floor and answers when it stands;
FW_STAGE and FW_ACTIVATE queue the flash work of their slot and are answered ACCEPTED, an image that does not verify
0x0E15 with its error, and staging into the running slot BUSY; DEBUG_CHALLENGE draws and answers a challenge where the
life cycle lets JTAG open. Without an identity key ATTEST answers 0x0E13, as ID_CERT does without a certificate. -/
def Obligations.SecurityCommands : Prop :=
  (∀ (s : State) (e : Entry), e.u 12 52 = 0 →
      s.gives (.secQuery e) secQuerySpec e true (fun d r => r.status = stOK ∧ r.dev = d
        ∧ r.payload = layout [(1, d.lifecycle), (1, d.get R.SEC_STAT_LC_COUNT []), (1, bits (d.rd R.SEC_STAT []).toNat 9 7),
            (1, d.get R.SEC_BOOT_SLOT []), (2, d.sec.floor), (2, d.get R.SEC_BOOT_IMAGE_SVN []), (2, (d.rd R.SEC_SLOTS []).toNat % 65536),
            (6, 0), (8, d.sec.dieId), (4, d.sec.fwVersion)]))
  ∧ (∀ (s : State) (e : Entry) (b : List Byte), (s.dev.entered e).input e = b → e.inLen = 32 → 352 ≤ e.outLen → s.dev.sec.idKey ≠ none →
      s.gives (.attest e) attestSpec e true (fun d r => r.status = stOK ∧ r.held = true ∧ r.work = b.map (·.toNat)
        ∧ r.dev = if d.attestWork ≠ none ∨ d.flag R.SEC_Q_CTL_BUSY [] = true then d else d.quoteAsk b))
  ∧ (∀ (s : State) (e : Entry), e.inLen = 32 → 352 ≤ e.outLen → s.dev.sec.idKey = none →
      s.gives (.attest e) attestSpec e true (fun d r => r = d.no 0x0E13))
  ∧ (∀ (s : State) (e : Entry) (area : List Byte), s.dev.sec.flashRead 0x00FF0000 4096 = area → 4096 ≤ e.outLen →
      s.dev.flag R.SEC_STAT_CERT_OK [] = true →
      s.gives (.idCert e) idCertSpec e true (fun d r => r.status = stOK ∧ r.dev = d ∧ r.out = area.take (certLength area)))
  ∧ (∀ (s : State) (e : Entry), 4096 ≤ e.outLen → s.dev.flag R.SEC_STAT_CERT_OK [] = false →
      s.gives (.idCert e) idCertSpec e true (fun d r => r = d.no 0x0E13))
  ∧ (∀ (s : State) (e : Entry) (b : List Byte), (s.dev.entered e).input e = b → e.inLen = 320 ∨ e.inLen = 520 →
      s.gives (.secRequest e) secRequestSpec e true (fun d r => r.status = stOK ∧ r.held = true ∧ r.work = b.map (·.toNat)
        ∧ r.dev = if d.requestWork = none ∧ d.flag R.SEC_REQ_CTL_BUSY [] = false then d.requestSubmit b else d))
  ∧ (∀ (s : State) (e : Entry) (b : List Byte), (s.dev.entered e).input e = b → e.inLen = 320 ∨ e.inLen = 520 → fieldAt b 6 1 = 5 →
      s.gives (.debugOpen e) debugOpenSpec e true (fun d r => r.status = stOK ∧ r.held = true ∧ r.work = b.map (·.toNat)
        ∧ r.dev = if d.requestWork = none ∧ d.flag R.SEC_REQ_CTL_BUSY [] = false then d.requestSubmit b else d))
  ∧ (∀ (s : State) (e : Entry) (t goal : Nat), (if e.u 12 2 = 0xFFFF then s.dev.get R.SEC_BOOT_IMAGE_SVN [] else e.u 12 2) = t →
      e.u 12 2 ≤ 4096 ∨ e.u 12 2 = 0xFFFF → e.u 14 50 = 0 → s.dev.flag R.SEC_SVN_REQ_BUSY [] = false →
      min t (s.dev.get R.SEC_BOOT_IMAGE_SVN []) = goal → s.dev.sec.floor < goal →
      s.gives (.svnCommit e) svnCommitSpec e true (fun d r => r.status = stOK ∧ r.held = true ∧ r.work = []
        ∧ r.dev.sec = { d.sec with svnTarget := goal } ∧ r.dev.flag R.SEC_SVN_REQ_BUSY [] = true
        ∧ (s.dev.get R.SEC_BOOT_IMAGE_SVN [] < t → r.dev.flag R.SEC_SVN_REQ_CAPPED [] = true)))
  ∧ (∀ (s : State) (e : Entry) (t : Nat), (if e.u 12 2 = 0xFFFF then s.dev.get R.SEC_BOOT_IMAGE_SVN [] else e.u 12 2) = t →
      e.u 12 2 ≤ 4096 ∨ e.u 12 2 = 0xFFFF → e.u 14 50 = 0 → s.dev.flag R.SEC_SVN_REQ_BUSY [] = false →
      min t (s.dev.get R.SEC_BOOT_IMAGE_SVN []) ≤ s.dev.sec.floor →
      s.gives (.svnCommit e) svnCommitSpec e true (fun d r => r.status = stOK ∧ r.payload = leBytes 2 d.sec.floor ∧ r.dev.sec = d.sec
        ∧ r.dev.flag R.SEC_SVN_REQ_BUSY [] = false))
  ∧ (∀ (s : State) (e : Entry) (b : List Byte) (slot off : Nat), (s.dev.entered e).input e = b → fieldAt b 0 1 = slot → fieldAt b 4 4 = off →
      8 ≤ e.inLen → slot ≤ 1 → fieldAt b 1 3 = 0 → off % 4096 = 0 → off + (e.inLen - 8) ≤ 16777216 → slot ≠ s.dev.get R.SEC_BOOT_SLOT [] →
      s.gives (.fwStage e) fwStageSpec e true (fun d r => r.status = stACCEPTED ∧ r.work = [d.ctl.aloneNext] ∧ r.dev.regs = d.regs
        ∧ r.dev.hbm = d.hbm ∧ r.dev.sec = { d.sec with
            jobs := d.sec.jobs ++ [{ opcode := 0x0E05, key := d.ctl.aloneNext, addr := slotBase slot + off, data := b.drop 8 }] }))
  ∧ (∀ (s : State) (e : Entry) (b : List Byte) (slot off : Nat), (s.dev.entered e).input e = b → fieldAt b 0 1 = slot → fieldAt b 4 4 = off →
      8 ≤ e.inLen → slot ≤ 1 → fieldAt b 1 3 = 0 → off % 4096 = 0 → off + (e.inLen - 8) ≤ 16777216 → slot = s.dev.get R.SEC_BOOT_SLOT [] →
      s.gives (.fwStage e) fwStageSpec e true (fun d r => r = d.no stBUSY))
  ∧ (∀ (s : State) (e : Entry) (slot : Nat), e.u 12 1 = slot → slot ≤ 1 → e.u 13 51 = 0 → 1 ≤ s.dev.lifecycle → s.dev.lifecycle ≤ 4 →
      s.gives (.fwActivate e) fwActivateSpec e true (fun d r =>
        if d.sec.imageError d.lifecycle slot = 0 then
          r.status = stACCEPTED ∧ r.work = [d.ctl.aloneNext] ∧ r.dev.regs = d.regs ∧ r.dev.hbm = d.hbm
            ∧ r.dev.sec = { d.sec with
                jobs := d.sec.jobs ++ [{ opcode := 0x0E06, key := d.ctl.aloneNext, addr := 0x00FE0000, data := bootSelect slot }] }
        else r.status = 0x0E15 ∧ r.payload = leBytes 1 (d.sec.imageError d.lifecycle slot) ∧ r.dev = d))
  ∧ (∀ (s : State) (e : Entry), e.u 12 52 = 0 → 2 ≤ s.dev.lifecycle → s.dev.lifecycle ≤ 4 →
      s.gives (.debugChallenge e) debugChallengeSpec e true (fun d r => r.status = stOK ∧ r.dev = d.newChallenge
        ∧ r.payload = d.newChallenge.challenge))
  ∧ (∀ (s : State) (e : Entry), e.u 12 52 = 0 → s.dev.lifecycle < 2 ∨ 4 < s.dev.lifecycle →
      s.gives (.debugChallenge e) debugChallengeSpec e true (fun d r => r = d.no stLIFECYCLE))

/-- Health commands, mailbox group 0x0F (R475, R476, R477, R478, R479, R480, R481, R482, R64, R68). HEALTH_QUERY reports
temperature, VREQ, the core rail, pace and mode; HEALTH_LIMITS, T_LIMIT between 90 and 115 degrees and above T_WARN,
writes the limits, the throttle enable, the ECC threshold and the warning event; PACE_CONFIG, once the regulator
acknowledges, writes the AVS port and the loop and enables it in an operating mode, and answers 0x0F10 after three
failed tries; HEALTH_SENSORS writes the 32 sensors, the rails and the two stacks; HEALTH_COUNTERS reports the totals,
and with CLEAR the totals start again. -/
def Obligations.HealthCommands : Prop :=
  (∀ (s : State) (e : Entry), e.u 12 52 = 0 →
      s.gives (.healthQuery e) healthQuerySpec e true (fun d r => r.status = stOK ∧ r.dev = d
        ∧ r.payload = layout [(2, d.get R.HM_TMAX_TEMP []), (1, d.get R.HM_TMAX_WHICH []), (1, (d.rd R.HM_EVT []).toNat % 64),
            (2, code 16 (d.stackTemp 0)), (2, code 16 (d.stackTemp 1)), (2, d.get R.PW_PACE_STAT_VREQ []), (2, d.get R.HM_VMON_MV [3]),
            (2, d.get R.PW_PACE_STAT_MIN_RATIO []), (1, d.get R.PW_PACE_STAT_MIN_BOOTH []), (1, d.get R.HM_STAT_THROTTLE []),
            (1, d.get R.HM_RSTCAUSE_CAUSE []), (1, d.mode)]))
  ∧ (∀ (s : State) (e : Entry), e.u 22 42 = 0 → e.u 18 1 ≤ 3 → 1440 ≤ e.s 14 2 → e.s 14 2 ≤ 1840 → e.s 12 2 < e.s 14 2 →
      s.gives (.healthLimits e) healthLimitsSpec e true (fun d r => r.status = stOK ∧ r.payload = [] ∧ r.dev.pow = d.pow
        ∧ r.dev.get R.HM_TLIM_T_WARN [] = e.u 12 2 ∧ r.dev.get R.HM_TLIM_T_LIMIT [] = e.u 14 2 ∧ r.dev.get R.HM_TLIM_HBM_WARN [] = e.u 16 2
        ∧ r.dev.flag R.HM_CTL_THROTTLE_EN [] = bit (e.u 18 1) 0 ∧ r.dev.get R.HM_CTL_ECC_WARN [] = e.u 20 2
        ∧ r.dev.flag R.HM_EV_CTL_EN [] = bit (e.u 18 1) 1 ∧ r.dev.get R.HM_EV_CTL_EV [] = e.u 19 1))
  ∧ (∀ (s : State) (e : Entry), e.u 24 40 = 0 → e.u 12 1 ≤ 3 → e.u 13 1 ≤ 127 → -16 ≤ e.s 15 1 → e.s 15 1 ≤ 15 → 1 ≤ e.u 18 1 → e.u 18 1 ≤ 25 →
      1 ≤ e.u 19 1 → e.u 19 1 ≤ 100 → 50 ≤ e.u 20 2 → e.u 20 2 ≤ 10000 →
      s.gives (.paceConfig e true) paceConfigSpec e true (fun d r => r.status = stOK ∧ r.payload = []
        ∧ ∃ t : Device, r.dev = t.narrowCore ∧ t.pow = { d.pow with configured := bit (e.u 12 1) 0 }
          ∧ t.get R.PW_AVS_CFG_ADDR [] = e.u 13 1 ∧ t.get R.PW_AVS_CFG_PAGE [] = e.u 14 1 ∧ t.flag R.PW_AVS_CFG_PAGE_EN [] = bit (e.u 12 1) 1
          ∧ t.get R.PW_AVS_CFG_EXP [] = code 5 (e.s 15 1) ∧ t.flag R.PW_AVS_CFG_VALID [] = true ∧ t.get R.PW_PACE_CTL_TARGET [] = e.u 16 2
          ∧ t.get R.PW_PACE_CTL_STEP_MV [] = e.u 18 1 ∧ t.get R.PW_PACE_CTL_JUMP_MV [] = e.u 19 1
          ∧ t.get R.PW_PACE_CTL_PERIOD_US [] = e.u 20 2 ∧ t.get R.PW_PACE_HYST_HYST [] = e.u 22 2
          ∧ t.flag R.PW_PACE_CTL_EN [] = (bit (e.u 12 1) 0 && (decide (d.mode = 1) || decide (d.mode = 2)))))
  ∧ (∀ (s : State) (e : Entry), e.u 24 40 = 0 → e.u 12 1 ≤ 3 → e.u 13 1 ≤ 127 → -16 ≤ e.s 15 1 → e.s 15 1 ≤ 15 → 1 ≤ e.u 18 1 → e.u 18 1 ≤ 25 →
      1 ≤ e.u 19 1 → e.u 19 1 ≤ 100 → 50 ≤ e.u 20 2 → e.u 20 2 ≤ 10000 →
      s.gives (.paceConfig e false) paceConfigSpec e true (fun d r => r.status = 0x0F10 ∧ r.payload = []
        ∧ r.dev.get R.PW_PACE_STAT_NAKS [] = satAdd 16 (d.get R.PW_PACE_STAT_NAKS []) 3 ∧ r.dev.flag R.PW_PACE_STAT_AVS_FAIL [] = true
        ∧ r.dev.rd R.PW_AVS_CFG [] = d.rd R.PW_AVS_CFG [] ∧ r.dev.rd R.PW_PACE_CTL [] = d.rd R.PW_PACE_CTL []))
  ∧ (∀ (s : State) (e : Entry), 96 ≤ e.outLen →
      s.gives (.healthSensors e) healthSensorsSpec e true (fun d r => r.status = stOK ∧ r.dev = d
        ∧ r.out = (List.range 32).flatMap (fun k => leBytes 2 (d.get R.HM_TEMP_TEMP [k]))
          ++ (List.range 11).flatMap (fun k => leBytes 2 (d.get R.HM_VMON_MV [k])) ++ (List.range 2).flatMap (fun k => leBytes 2 (code 16 (d.stackTemp k)))))
  ∧ (∀ (s : State) (e : Entry) (p : PowerX), s.dev.pow = p → e.u 12 1 ≤ 1 → e.u 13 51 = 0 →
      s.gives (.healthCounters e) healthCountersSpec e true (fun d r => r.status = stOK
        ∧ r.payload = (List.range 6).flatMap (fun k => leBytes 2 (min (p.totWarn.get 0 k) 65535))
            ++ layout [(4, p.totThrottleUs / 1000), (4, p.totShort), (4, p.totNaks), (2, d.get R.HM_RSTCAUSE_COUNT [] - p.totResets)]
        ∧ r.dev = if e.u 12 1 = 1 then
            { d with pow := { p with totWarn := [], totThrottleUs := 0, totShort := 0, totNaks := 0, totResets := d.get R.HM_RSTCAUSE_COUNT [] } }
          else d))
end

