-- ==== Sys2Proof/Laws/Sparse.lean ====
section
/-! SUPPORT. Sparse maps: what a key reads as after a write, and that a write keeps the canonical form. -/

namespace Sys2Proof.Machine

variable {α : Type}

@[simp] theorem Sparse.get_nil (dflt : α) (k : Nat) : Sparse.get dflt k [] = dflt := rfl

theorem Sparse.get_insert_same (dflt v : α) (k : Nat) (m : Sparse α) : Sparse.get dflt k (Sparse.insert k v m) = v := by
  induction m with
  | nil => simp [Sparse.insert, Sparse.get]
  | cons e m ih =>
    obtain ⟨a, w⟩ := e
    simp only [Sparse.insert]
    split
    · simp [Sparse.get]
    · split
      · simp [Sparse.get]
      · rename_i h1 h2
        simp [Sparse.get, Ne.symm h2, ih]

theorem Sparse.get_insert_ne (dflt v : α) {j k : Nat} (h : j ≠ k) (m : Sparse α) :
    Sparse.get dflt j (Sparse.insert k v m) = Sparse.get dflt j m := by
  induction m with
  | nil => simp [Sparse.insert, Sparse.get, Ne.symm h]
  | cons e m ih =>
    obtain ⟨a, w⟩ := e
    simp only [Sparse.insert]
    split
    · simp [Sparse.get, Ne.symm h]
    · split
      · rename_i h2
        subst h2
        simp [Sparse.get, Ne.symm h]
      · simp [Sparse.get, ih]

theorem Sparse.get_erase_same (dflt : α) (k : Nat) (m : Sparse α) : Sparse.get dflt k (Sparse.erase k m) = dflt := by
  induction m with
  | nil => rfl
  | cons e m ih =>
    obtain ⟨a, w⟩ := e
    by_cases h : a = k <;> simp [Sparse.erase, Sparse.get, h, ih]

theorem Sparse.get_erase_ne (dflt : α) {j k : Nat} (h : j ≠ k) (m : Sparse α) :
    Sparse.get dflt j (Sparse.erase k m) = Sparse.get dflt j m := by
  induction m with
  | nil => rfl
  | cons e m ih =>
    obtain ⟨a, w⟩ := e
    by_cases ha : a = k
    · subst ha
      simp [Sparse.erase, Sparse.get, Ne.symm h, ih]
    · simp [Sparse.erase, Sparse.get, ha, ih]

@[simp] theorem Sparse.get_put_same [DecidableEq α] (dflt v : α) (k : Nat) (m : Sparse α) :
    Sparse.get dflt k (Sparse.put dflt k v m) = v := by
  unfold Sparse.put
  split
  · rename_i h
    rw [Sparse.get_erase_same, h]
  · exact Sparse.get_insert_same dflt v k m

theorem Sparse.get_put_ne [DecidableEq α] (dflt dflt' v : α) {j k : Nat} (h : j ≠ k) (m : Sparse α) :
    Sparse.get dflt j (Sparse.put dflt' k v m) = Sparse.get dflt j m := by
  unfold Sparse.put
  split
  · exact Sparse.get_erase_ne dflt h m
  · exact Sparse.get_insert_ne dflt v h m

/-! ### The canonical form -/

theorem Sparse.mem_erase (k : Nat) (m : Sparse α) : ∀ e ∈ Sparse.erase k m, e ∈ m := by
  induction m with
  | nil => simp [Sparse.erase]
  | cons x m ih =>
    intro e he
    simp only [Sparse.erase] at he
    split at he
    · exact List.mem_cons_of_mem _ (ih e he)
    · rcases List.mem_cons.1 he with h | h
      · exact h ▸ List.mem_cons_self
      · exact List.mem_cons_of_mem _ (ih e h)

theorem Sparse.mem_insert (k : Nat) (v : α) (m : Sparse α) :
    ∀ e ∈ Sparse.insert k v m, e = (k, v) ∨ e ∈ m := by
  induction m with
  | nil => simp [Sparse.insert]
  | cons x m ih =>
    intro e he
    obtain ⟨a, w⟩ := x
    simp only [Sparse.insert] at he
    split at he
    · simpa using he
    · split at he
      · rcases List.mem_cons.1 he with h | h
        · exact .inl h
        · exact .inr (List.mem_cons_of_mem _ h)
      · rcases List.mem_cons.1 he with h | h
        · exact .inr (h ▸ List.mem_cons_self)
        · rcases ih e h with h | h
          · exact .inl h
          · exact .inr (List.mem_cons_of_mem _ h)

theorem Sparse.wf_erase [DecidableEq α] (dflt : α) (k : Nat) (m : Sparse α) (h : Sparse.wf dflt m = true) :
    Sparse.wf dflt (Sparse.erase k m) = true := by
  induction m with
  | nil => rfl
  | cons e m ih =>
    obtain ⟨a, w⟩ := e
    simp only [Sparse.wf, Bool.and_eq_true, List.all_eq_true, decide_eq_true_eq] at h
    simp only [Sparse.erase]
    split
    · exact ih h.2
    · simp only [Sparse.wf, Bool.and_eq_true, List.all_eq_true, decide_eq_true_eq]
      exact ⟨⟨h.1.1, fun x hx => h.1.2 x (Sparse.mem_erase k m x hx)⟩, ih h.2⟩

theorem Sparse.wf_insert [DecidableEq α] (dflt v : α) (k : Nat) (m : Sparse α) (hv : v ≠ dflt)
    (h : Sparse.wf dflt m = true) : Sparse.wf dflt (Sparse.insert k v m) = true := by
  induction m with
  | nil => simp [Sparse.insert, Sparse.wf, hv]
  | cons e m ih =>
    obtain ⟨a, w⟩ := e
    simp only [Sparse.wf, Bool.and_eq_true, List.all_eq_true, decide_eq_true_eq] at h
    simp only [Sparse.insert]
    split
    · rename_i hk
      simp only [Sparse.wf, Bool.and_eq_true, List.all_eq_true, decide_eq_true_eq, List.mem_cons, forall_eq_or_imp]
      exact ⟨⟨hv, hk, fun x hx => lt_trans hk (h.1.2 x hx)⟩, ⟨h.1.1, h.1.2⟩, h.2⟩
    · split
      · rename_i hk
        simp only [Sparse.wf, Bool.and_eq_true, List.all_eq_true, decide_eq_true_eq]
        exact ⟨⟨hv, fun x hx => hk ▸ h.1.2 x hx⟩, h.2⟩
      · rename_i h1 h2
        simp only [Sparse.wf, Bool.and_eq_true, List.all_eq_true, decide_eq_true_eq]
        refine ⟨⟨h.1.1, fun x hx => ?_⟩, ih h.2⟩
        rcases Sparse.mem_insert k v m x hx with hx | hx
        · subst hx
          omega
        · exact h.1.2 x hx

theorem Sparse.wf_put [DecidableEq α] (dflt v : α) (k : Nat) (m : Sparse α) (h : Sparse.wf dflt m = true) :
    Sparse.wf dflt (Sparse.put dflt k v m) = true := by
  unfold Sparse.put
  split
  · exact Sparse.wf_erase dflt k m h
  · rename_i hv
    exact Sparse.wf_insert dflt v k m hv h

theorem Sparse.wf_filter [DecidableEq α] (dflt : α) (p : Nat × α → Bool) (m : Sparse α) (h : Sparse.wf dflt m = true) :
    Sparse.wf dflt (m.filter p) = true := by
  induction m with
  | nil => rfl
  | cons e m ih =>
    obtain ⟨a, w⟩ := e
    simp only [Sparse.wf, Bool.and_eq_true, List.all_eq_true, decide_eq_true_eq] at h
    simp only [List.filter]
    split
    · simp only [Sparse.wf, Bool.and_eq_true, List.all_eq_true, decide_eq_true_eq]
      exact ⟨⟨h.1.1, fun x hx => h.1.2 x (List.mem_of_mem_filter hx)⟩, ih h.2⟩
    · exact ih h.2

/-! ### Byte memories -/

theorem writeBytes_get_before (m : Sparse Byte) (fill fill' : Byte) (a b : Nat) (bs : List Byte) (h : b < a) :
    Sparse.get fill' b (writeBytes m fill a bs) = Sparse.get fill' b m := by
  induction bs generalizing m a with
  | nil => rfl
  | cons x xs ih =>
    simp only [writeBytes]
    rw [ih _ _ (by omega), Sparse.get_put_ne _ _ _ (by omega)]

theorem writeBytes_get_after (m : Sparse Byte) (fill fill' : Byte) (a b : Nat) (bs : List Byte) (h : a + bs.length ≤ b) :
    Sparse.get fill' b (writeBytes m fill a bs) = Sparse.get fill' b m := by
  induction bs generalizing m a with
  | nil => rfl
  | cons x xs ih =>
    simp only [writeBytes]
    simp only [List.length_cons] at h
    rw [ih _ _ (by omega), Sparse.get_put_ne _ _ _ (by omega)]

theorem writeBytes_get (m : Sparse Byte) (fill : Byte) (a i : Nat) (bs : List Byte) (h : i < bs.length) :
    Sparse.get fill (a + i) (writeBytes m fill a bs) = bs.getD i 0 := by
  induction bs generalizing m a i with
  | nil => simp at h
  | cons x xs ih =>
    simp only [writeBytes]
    cases i with
    | zero => rw [writeBytes_get_before _ _ _ _ _ _ (by omega)]; simp
    | succ i =>
      have := ih (Sparse.put fill a x m) (a + 1) i (by simpa using h)
      rw [show a + (i + 1) = a + 1 + i by omega, this]
      simp

theorem writeBytes_wf (m : Sparse Byte) (fill : Byte) (a : Nat) (bs : List Byte) (h : Sparse.wf fill m = true) :
    Sparse.wf fill (writeBytes m fill a bs) = true := by
  induction bs generalizing m a with
  | nil => exact h
  | cons x xs ih => exact ih _ _ (Sparse.wf_put _ _ _ _ h)

theorem wipeRange_wf (m : Sparse Byte) (fill : Byte) (a n : Nat) (h : Sparse.wf fill m = true) :
    Sparse.wf fill (wipeRange m a n) = true := Sparse.wf_filter _ _ _ h

theorem copySparse_wf (src dst : Sparse Byte) (fill : Byte) (a b n : Nat) (h : Sparse.wf fill dst = true) :
    Sparse.wf fill (copySparse src dst fill a b n) = true := by
  unfold copySparse
  generalize List.filter _ src = l
  have := wipeRange_wf dst fill b n h
  generalize wipeRange dst b n = m at this
  induction l generalizing m with
  | nil => exact this
  | cons e l ih => exact ih _ (Sparse.wf_put _ _ _ _ this)

end Sys2Proof.Machine
end

