-- ==== Sys2Proof/Laws/Registers.lean ====
section
/-! SUPPORT. Register reads after register writes, field by field, and that a register write touches nothing else. -/

namespace Sys2Proof.Machine

/-! ### A register write changes the register file alone -/

@[simp] theorem Device.wr_hbm (d : Device) (r : Reg) (ix : List Nat) (v : Word) : (d.wr r ix v).hbm = d.hbm := rfl
@[simp] theorem Device.wr_hostMem (d : Device) (r : Reg) (ix : List Nat) (v : Word) : (d.wr r ix v).hostMem = d.hostMem := rfl
@[simp] theorem Device.wr_ctl (d : Device) (r : Reg) (ix : List Nat) (v : Word) : (d.wr r ix v).ctl = d.ctl := rfl
@[simp] theorem Device.wr_dlv (d : Device) (r : Reg) (ix : List Nat) (v : Word) : (d.wr r ix v).dlv = d.dlv := rfl
@[simp] theorem Device.wr_tim (d : Device) (r : Reg) (ix : List Nat) (v : Word) : (d.wr r ix v).tim = d.tim := rfl
@[simp] theorem Device.wr_prt (d : Device) (r : Reg) (ix : List Nat) (v : Word) : (d.wr r ix v).prt = d.prt := rfl
@[simp] theorem Device.wr_mot (d : Device) (r : Reg) (ix : List Nat) (v : Word) : (d.wr r ix v).mot = d.mot := rfl
@[simp] theorem Device.wr_hst (d : Device) (r : Reg) (ix : List Nat) (v : Word) : (d.wr r ix v).hst = d.hst := rfl
@[simp] theorem Device.wr_sec (d : Device) (r : Reg) (ix : List Nat) (v : Word) : (d.wr r ix v).sec = d.sec := rfl
@[simp] theorem Device.wr_pow (d : Device) (r : Reg) (ix : List Nat) (v : Word) : (d.wr r ix v).pow = d.pow := rfl

@[simp] theorem Device.put_hbm (d : Device) (f : Fld) (ix : List Nat) (v : Nat) : (d.put f ix v).hbm = d.hbm := rfl
@[simp] theorem Device.put_hostMem (d : Device) (f : Fld) (ix : List Nat) (v : Nat) : (d.put f ix v).hostMem = d.hostMem := rfl
@[simp] theorem Device.put_ctl (d : Device) (f : Fld) (ix : List Nat) (v : Nat) : (d.put f ix v).ctl = d.ctl := rfl
@[simp] theorem Device.put_dlv (d : Device) (f : Fld) (ix : List Nat) (v : Nat) : (d.put f ix v).dlv = d.dlv := rfl
@[simp] theorem Device.put_tim (d : Device) (f : Fld) (ix : List Nat) (v : Nat) : (d.put f ix v).tim = d.tim := rfl
@[simp] theorem Device.put_prt (d : Device) (f : Fld) (ix : List Nat) (v : Nat) : (d.put f ix v).prt = d.prt := rfl
@[simp] theorem Device.put_mot (d : Device) (f : Fld) (ix : List Nat) (v : Nat) : (d.put f ix v).mot = d.mot := rfl
@[simp] theorem Device.put_hst (d : Device) (f : Fld) (ix : List Nat) (v : Nat) : (d.put f ix v).hst = d.hst := rfl
@[simp] theorem Device.put_sec (d : Device) (f : Fld) (ix : List Nat) (v : Nat) : (d.put f ix v).sec = d.sec := rfl
@[simp] theorem Device.put_pow (d : Device) (f : Fld) (ix : List Nat) (v : Nat) : (d.put f ix v).pow = d.pow := rfl

/-! ### Whole registers -/

@[simp] theorem Device.rd_wr_same (d : Device) (r : Reg) (ix : List Nat) (v : Word) : (d.wr r ix v).rd r ix = v := by
  simp [Device.rd, Device.wr]

theorem Device.rd_wr_ne (d : Device) {r r' : Reg} {ix ix' : List Nat} (v : Word) (h : r'.addr ix' ≠ r.addr ix) :
    (d.wr r ix v).rd r' ix' = d.rd r' ix' := by
  simp [Device.rd, Device.wr, Sparse.get_put_ne _ _ _ h]

theorem Device.get_wr_ne (d : Device) {r : Reg} {f : Fld} {ix ix' : List Nat} (v : Word) (h : f.reg.addr ix' ≠ r.addr ix) :
    (d.wr r ix v).get f ix' = d.get f ix' := by
  simp [Device.get, Device.rd_wr_ne d v h]

/-! ### Fields -/

/-- A field lies inside its 64-bit register. -/
def Fld.fits (f : Fld) : Bool := decide (f.lo + f.width ≤ 64)

/-- Two fields of one register have no bit in common. -/
def Fld.apart (f g : Fld) : Bool := decide (f.lo + f.width ≤ g.lo ∨ g.lo + g.width ≤ f.lo)

/-- Bit `n` of a field's mask. -/
theorem Fld.mask_getLsbD (f : Fld) (n : Nat) (h : f.fits = true) :
    f.mask.getLsbD n = decide (f.lo ≤ n ∧ n < f.lo + f.width) := by
  simp only [Fld.fits, decide_eq_true_eq] at h
  simp only [Fld.mask, BitVec.getLsbD_ofNat]
  rw [Nat.mul_comm, Nat.testBit_two_pow_mul]
  by_cases h1 : f.lo ≤ n
  · simp only [h1, decide_true, Bool.true_and, true_and, Nat.testBit_two_pow_sub_one]
    by_cases h2 : n < f.lo + f.width
    · simp [h2, show n < 64 by omega, show n - f.lo < f.width by omega]
    · simp [h2, show ¬ n - f.lo < f.width by omega]
  · simp [h1]

/-- Bit `n` of a register word after a field has been replaced. -/
theorem Fld.into_getLsbD (f : Fld) (w : Word) (v n : Nat) (h : f.fits = true) :
    (f.into w v).getLsbD n
      = if f.lo ≤ n ∧ n < f.lo + f.width then v.testBit (n - f.lo) else w.getLsbD n := by
  have hf := h
  simp only [Fld.fits, decide_eq_true_eq] at h
  simp only [Fld.into, BitVec.getLsbD_or, BitVec.getLsbD_and, BitVec.getLsbD_not, BitVec.getLsbD_ofNat, Fld.mask_getLsbD f n hf]
  rw [Nat.mul_comm, Nat.testBit_two_pow_mul, Nat.testBit_mod_two_pow]
  by_cases h1 : f.lo ≤ n ∧ n < f.lo + f.width
  · simp [h1, show n < 64 by omega, show n - f.lo < f.width by omega]
  · by_cases h3 : f.lo ≤ n
    · have : ¬ n - f.lo < f.width := by omega
      simp only [h1, this]
      by_cases h2 : n < 64
      · simp [h2]
      · simp [h2, BitVec.getLsbD_of_ge w n (by omega)]
    · simp only [h3]
      by_cases h2 : n < 64
      · simp [h2]
      · simp [h2, BitVec.getLsbD_of_ge w n (by omega)]

/-- Bit `n` of a field's value. -/
theorem Fld.of_testBit (f : Fld) (w : Word) (n : Nat) :
    (f.of w).testBit n = (decide (n < f.width) && w.getLsbD (f.lo + n)) := by
  simp only [Fld.of, bits, Nat.testBit_mod_two_pow, Nat.testBit_div_two_pow, BitVec.testBit_toNat]
  rw [Nat.add_comm n f.lo]

theorem Fld.of_into_same (f : Fld) (w : Word) (v : Nat) (h : f.fits = true) : f.of (f.into w v) = v % 2 ^ f.width := by
  apply Nat.eq_of_testBit_eq
  intro n
  rw [Fld.of_testBit, Nat.testBit_mod_two_pow, Fld.into_getLsbD f w v _ h]
  by_cases hn : n < f.width
  · simp [hn]
  · simp [hn]

theorem Fld.of_into_apart (f g : Fld) (w : Word) (v : Nat) (h : f.fits = true) (ha : f.apart g = true) :
    g.of (f.into w v) = g.of w := by
  apply Nat.eq_of_testBit_eq
  intro n
  simp only [Fld.apart, decide_eq_true_eq] at ha
  rw [Fld.of_testBit, Fld.of_testBit, Fld.into_getLsbD f w v _ h]
  by_cases hn : n < g.width
  · have : ¬ (f.lo ≤ g.lo + n ∧ g.lo + n < f.lo + f.width) := by omega
    simp only [this]
    simp
  · simp [hn]

theorem Device.get_put_same (d : Device) (f : Fld) (ix : List Nat) (v : Nat) (h : f.fits = true) :
    (d.put f ix v).get f ix = v % 2 ^ f.width := by
  simp [Device.get, Device.put, Fld.of_into_same f _ v h]

theorem Device.get_put_apart (d : Device) (f g : Fld) (ix : List Nat) (v : Nat) (hr : g.reg = f.reg) (h : f.fits = true)
    (ha : f.apart g = true) : (d.put f ix v).get g ix = d.get g ix := by
  simp [Device.get, Device.put, hr, Fld.of_into_apart f g _ v h ha]

theorem Device.get_put_ne (d : Device) {f g : Fld} {ix ix' : List Nat} (v : Nat) (h : g.reg.addr ix' ≠ f.reg.addr ix) :
    (d.put f ix v).get g ix' = d.get g ix' := by
  simp [Device.put, Device.get_wr_ne d _ h]

theorem Device.rd_put_ne (d : Device) {f : Fld} {r : Reg} {ix ix' : List Nat} (v : Nat) (h : r.addr ix' ≠ f.reg.addr ix) :
    (d.put f ix v).rd r ix' = d.rd r ix' := by
  simp [Device.put, Device.rd_wr_ne d _ h]

end Sys2Proof.Machine
end

