-- ==== Sys2Proof/Laws/State.lean ====
section
/-! SUPPORT. What each update of one part of the device leaves alone, one lemma per field per update. -/

namespace Sys2Proof.Machine

@[simp] theorem Device.setCtl_regs (d : Device) (c : ControlX) : (d.setCtl c).regs = d.regs := rfl
@[simp] theorem Device.setCtl_hbm (d : Device) (c : ControlX) : (d.setCtl c).hbm = d.hbm := rfl
@[simp] theorem Device.setCtl_hostMem (d : Device) (c : ControlX) : (d.setCtl c).hostMem = d.hostMem := rfl
@[simp] theorem Device.setCtl_dlv (d : Device) (c : ControlX) : (d.setCtl c).dlv = d.dlv := rfl
@[simp] theorem Device.setCtl_tim (d : Device) (c : ControlX) : (d.setCtl c).tim = d.tim := rfl
@[simp] theorem Device.setCtl_prt (d : Device) (c : ControlX) : (d.setCtl c).prt = d.prt := rfl
@[simp] theorem Device.setCtl_mot (d : Device) (c : ControlX) : (d.setCtl c).mot = d.mot := rfl
@[simp] theorem Device.setCtl_hst (d : Device) (c : ControlX) : (d.setCtl c).hst = d.hst := rfl
@[simp] theorem Device.setCtl_sec (d : Device) (c : ControlX) : (d.setCtl c).sec = d.sec := rfl
@[simp] theorem Device.setCtl_pow (d : Device) (c : ControlX) : (d.setCtl c).pow = d.pow := rfl
@[simp] theorem Device.setCtl_rd (d : Device) (c : ControlX) (r : Reg) (ix : List Nat) : (d.setCtl c).rd r ix = d.rd r ix := rfl
@[simp] theorem Device.setCtl_get (d : Device) (c : ControlX) (f : Fld) (ix : List Nat) : (d.setCtl c).get f ix = d.get f ix := rfl

@[simp] theorem Device.setTx_regs (d : Device) (n : Nat) (x : TxSlot) : (d.setTx n x).regs = d.regs := rfl
@[simp] theorem Device.setTx_hbm (d : Device) (n : Nat) (x : TxSlot) : (d.setTx n x).hbm = d.hbm := rfl
@[simp] theorem Device.setTx_hostMem (d : Device) (n : Nat) (x : TxSlot) : (d.setTx n x).hostMem = d.hostMem := rfl
@[simp] theorem Device.setTx_dlv (d : Device) (n : Nat) (x : TxSlot) : (d.setTx n x).dlv = d.dlv := rfl
@[simp] theorem Device.setTx_tim (d : Device) (n : Nat) (x : TxSlot) : (d.setTx n x).tim = d.tim := rfl
@[simp] theorem Device.setTx_prt (d : Device) (n : Nat) (x : TxSlot) : (d.setTx n x).prt = d.prt := rfl
@[simp] theorem Device.setTx_mot (d : Device) (n : Nat) (x : TxSlot) : (d.setTx n x).mot = d.mot := rfl
@[simp] theorem Device.setTx_hst (d : Device) (n : Nat) (x : TxSlot) : (d.setTx n x).hst = d.hst := rfl
@[simp] theorem Device.setTx_sec (d : Device) (n : Nat) (x : TxSlot) : (d.setTx n x).sec = d.sec := rfl
@[simp] theorem Device.setTx_pow (d : Device) (n : Nat) (x : TxSlot) : (d.setTx n x).pow = d.pow := rfl
@[simp] theorem Device.setTx_rd (d : Device) (n : Nat) (x : TxSlot) (r : Reg) (ix : List Nat) : (d.setTx n x).rd r ix = d.rd r ix := rfl
@[simp] theorem Device.setTx_get (d : Device) (n : Nat) (x : TxSlot) (f : Fld) (ix : List Nat) : (d.setTx n x).get f ix = d.get f ix := rfl

@[simp] theorem Device.setSeq_regs (d : Device) (n : Nat) (x : SeqX) : (d.setSeq n x).regs = d.regs := rfl
@[simp] theorem Device.setSeq_hbm (d : Device) (n : Nat) (x : SeqX) : (d.setSeq n x).hbm = d.hbm := rfl
@[simp] theorem Device.setSeq_hostMem (d : Device) (n : Nat) (x : SeqX) : (d.setSeq n x).hostMem = d.hostMem := rfl
@[simp] theorem Device.setSeq_dlv (d : Device) (n : Nat) (x : SeqX) : (d.setSeq n x).dlv = d.dlv := rfl
@[simp] theorem Device.setSeq_tim (d : Device) (n : Nat) (x : SeqX) : (d.setSeq n x).tim = d.tim := rfl
@[simp] theorem Device.setSeq_prt (d : Device) (n : Nat) (x : SeqX) : (d.setSeq n x).prt = d.prt := rfl
@[simp] theorem Device.setSeq_mot (d : Device) (n : Nat) (x : SeqX) : (d.setSeq n x).mot = d.mot := rfl
@[simp] theorem Device.setSeq_hst (d : Device) (n : Nat) (x : SeqX) : (d.setSeq n x).hst = d.hst := rfl
@[simp] theorem Device.setSeq_sec (d : Device) (n : Nat) (x : SeqX) : (d.setSeq n x).sec = d.sec := rfl
@[simp] theorem Device.setSeq_pow (d : Device) (n : Nat) (x : SeqX) : (d.setSeq n x).pow = d.pow := rfl
@[simp] theorem Device.setSeq_rd (d : Device) (n : Nat) (x : SeqX) (r : Reg) (ix : List Nat) : (d.setSeq n x).rd r ix = d.rd r ix := rfl
@[simp] theorem Device.setSeq_get (d : Device) (n : Nat) (x : SeqX) (f : Fld) (ix : List Nat) : (d.setSeq n x).get f ix = d.get f ix := rfl

@[simp] theorem Device.setMbox_regs (d : Device) (n : Nat) (x : Mailbox) : (d.setMbox n x).regs = d.regs := rfl
@[simp] theorem Device.setMbox_hbm (d : Device) (n : Nat) (x : Mailbox) : (d.setMbox n x).hbm = d.hbm := rfl
@[simp] theorem Device.setMbox_hostMem (d : Device) (n : Nat) (x : Mailbox) : (d.setMbox n x).hostMem = d.hostMem := rfl
@[simp] theorem Device.setMbox_dlv (d : Device) (n : Nat) (x : Mailbox) : (d.setMbox n x).dlv = d.dlv := rfl
@[simp] theorem Device.setMbox_tim (d : Device) (n : Nat) (x : Mailbox) : (d.setMbox n x).tim = d.tim := rfl
@[simp] theorem Device.setMbox_prt (d : Device) (n : Nat) (x : Mailbox) : (d.setMbox n x).prt = d.prt := rfl
@[simp] theorem Device.setMbox_mot (d : Device) (n : Nat) (x : Mailbox) : (d.setMbox n x).mot = d.mot := rfl
@[simp] theorem Device.setMbox_hst (d : Device) (n : Nat) (x : Mailbox) : (d.setMbox n x).hst = d.hst := rfl
@[simp] theorem Device.setMbox_sec (d : Device) (n : Nat) (x : Mailbox) : (d.setMbox n x).sec = d.sec := rfl
@[simp] theorem Device.setMbox_pow (d : Device) (n : Nat) (x : Mailbox) : (d.setMbox n x).pow = d.pow := rfl
@[simp] theorem Device.setMbox_rd (d : Device) (n : Nat) (x : Mailbox) (r : Reg) (ix : List Nat) : (d.setMbox n x).rd r ix = d.rd r ix := rfl
@[simp] theorem Device.setMbox_get (d : Device) (n : Nat) (x : Mailbox) (f : Fld) (ix : List Nat) : (d.setMbox n x).get f ix = d.get f ix := rfl

@[simp] theorem Device.setLogger_regs (d : Device) (x : LoggerX) : (d.setLogger x).regs = d.regs := rfl
@[simp] theorem Device.setLogger_hbm (d : Device) (x : LoggerX) : (d.setLogger x).hbm = d.hbm := rfl
@[simp] theorem Device.setLogger_hostMem (d : Device) (x : LoggerX) : (d.setLogger x).hostMem = d.hostMem := rfl
@[simp] theorem Device.setLogger_dlv (d : Device) (x : LoggerX) : (d.setLogger x).dlv = d.dlv := rfl
@[simp] theorem Device.setLogger_tim (d : Device) (x : LoggerX) : (d.setLogger x).tim = d.tim := rfl
@[simp] theorem Device.setLogger_prt (d : Device) (x : LoggerX) : (d.setLogger x).prt = d.prt := rfl
@[simp] theorem Device.setLogger_mot (d : Device) (x : LoggerX) : (d.setLogger x).mot = d.mot := rfl
@[simp] theorem Device.setLogger_hst (d : Device) (x : LoggerX) : (d.setLogger x).hst = d.hst := rfl
@[simp] theorem Device.setLogger_sec (d : Device) (x : LoggerX) : (d.setLogger x).sec = d.sec := rfl
@[simp] theorem Device.setLogger_pow (d : Device) (x : LoggerX) : (d.setLogger x).pow = d.pow := rfl
@[simp] theorem Device.setLogger_rd (d : Device) (x : LoggerX) (r : Reg) (ix : List Nat) : (d.setLogger x).rd r ix = d.rd r ix := rfl
@[simp] theorem Device.setLogger_get (d : Device) (x : LoggerX) (f : Fld) (ix : List Nat) : (d.setLogger x).get f ix = d.get f ix := rfl

@[simp] theorem Device.setLane_regs (d : Device) (n : Nat) (x : LaneX) : (d.setLane n x).regs = d.regs := rfl
@[simp] theorem Device.setLane_hbm (d : Device) (n : Nat) (x : LaneX) : (d.setLane n x).hbm = d.hbm := rfl
@[simp] theorem Device.setLane_hostMem (d : Device) (n : Nat) (x : LaneX) : (d.setLane n x).hostMem = d.hostMem := rfl
@[simp] theorem Device.setLane_ctl (d : Device) (n : Nat) (x : LaneX) : (d.setLane n x).ctl = d.ctl := rfl
@[simp] theorem Device.setLane_dlv (d : Device) (n : Nat) (x : LaneX) : (d.setLane n x).dlv = d.dlv := rfl
@[simp] theorem Device.setLane_tim (d : Device) (n : Nat) (x : LaneX) : (d.setLane n x).tim = d.tim := rfl
@[simp] theorem Device.setLane_mot (d : Device) (n : Nat) (x : LaneX) : (d.setLane n x).mot = d.mot := rfl
@[simp] theorem Device.setLane_hst (d : Device) (n : Nat) (x : LaneX) : (d.setLane n x).hst = d.hst := rfl
@[simp] theorem Device.setLane_sec (d : Device) (n : Nat) (x : LaneX) : (d.setLane n x).sec = d.sec := rfl
@[simp] theorem Device.setLane_pow (d : Device) (n : Nat) (x : LaneX) : (d.setLane n x).pow = d.pow := rfl
@[simp] theorem Device.setLane_rd (d : Device) (n : Nat) (x : LaneX) (r : Reg) (ix : List Nat) : (d.setLane n x).rd r ix = d.rd r ix := rfl
@[simp] theorem Device.setLane_get (d : Device) (n : Nat) (x : LaneX) (f : Fld) (ix : List Nat) : (d.setLane n x).get f ix = d.get f ix := rfl

@[simp] theorem Device.setBth_regs (d : Device) (n : Nat) (x : BoothX) : (d.setBth n x).regs = d.regs := rfl
@[simp] theorem Device.setBth_hbm (d : Device) (n : Nat) (x : BoothX) : (d.setBth n x).hbm = d.hbm := rfl
@[simp] theorem Device.setBth_hostMem (d : Device) (n : Nat) (x : BoothX) : (d.setBth n x).hostMem = d.hostMem := rfl
@[simp] theorem Device.setBth_ctl (d : Device) (n : Nat) (x : BoothX) : (d.setBth n x).ctl = d.ctl := rfl
@[simp] theorem Device.setBth_dlv (d : Device) (n : Nat) (x : BoothX) : (d.setBth n x).dlv = d.dlv := rfl
@[simp] theorem Device.setBth_tim (d : Device) (n : Nat) (x : BoothX) : (d.setBth n x).tim = d.tim := rfl
@[simp] theorem Device.setBth_mot (d : Device) (n : Nat) (x : BoothX) : (d.setBth n x).mot = d.mot := rfl
@[simp] theorem Device.setBth_hst (d : Device) (n : Nat) (x : BoothX) : (d.setBth n x).hst = d.hst := rfl
@[simp] theorem Device.setBth_sec (d : Device) (n : Nat) (x : BoothX) : (d.setBth n x).sec = d.sec := rfl
@[simp] theorem Device.setBth_pow (d : Device) (n : Nat) (x : BoothX) : (d.setBth n x).pow = d.pow := rfl
@[simp] theorem Device.setBth_rd (d : Device) (n : Nat) (x : BoothX) (r : Reg) (ix : List Nat) : (d.setBth n x).rd r ix = d.rd r ix := rfl
@[simp] theorem Device.setBth_get (d : Device) (n : Nat) (x : BoothX) (f : Fld) (ix : List Nat) : (d.setBth n x).get f ix = d.get f ix := rfl

@[simp] theorem Device.setPrt_regs (d : Device) (n : Nat) (x : PortX) : (d.setPrt n x).regs = d.regs := rfl
@[simp] theorem Device.setPrt_hbm (d : Device) (n : Nat) (x : PortX) : (d.setPrt n x).hbm = d.hbm := rfl
@[simp] theorem Device.setPrt_hostMem (d : Device) (n : Nat) (x : PortX) : (d.setPrt n x).hostMem = d.hostMem := rfl
@[simp] theorem Device.setPrt_ctl (d : Device) (n : Nat) (x : PortX) : (d.setPrt n x).ctl = d.ctl := rfl
@[simp] theorem Device.setPrt_dlv (d : Device) (n : Nat) (x : PortX) : (d.setPrt n x).dlv = d.dlv := rfl
@[simp] theorem Device.setPrt_tim (d : Device) (n : Nat) (x : PortX) : (d.setPrt n x).tim = d.tim := rfl
@[simp] theorem Device.setPrt_mot (d : Device) (n : Nat) (x : PortX) : (d.setPrt n x).mot = d.mot := rfl
@[simp] theorem Device.setPrt_hst (d : Device) (n : Nat) (x : PortX) : (d.setPrt n x).hst = d.hst := rfl
@[simp] theorem Device.setPrt_sec (d : Device) (n : Nat) (x : PortX) : (d.setPrt n x).sec = d.sec := rfl
@[simp] theorem Device.setPrt_pow (d : Device) (n : Nat) (x : PortX) : (d.setPrt n x).pow = d.pow := rfl
@[simp] theorem Device.setPrt_rd (d : Device) (n : Nat) (x : PortX) (r : Reg) (ix : List Nat) : (d.setPrt n x).rd r ix = d.rd r ix := rfl
@[simp] theorem Device.setPrt_get (d : Device) (n : Nat) (x : PortX) (f : Fld) (ix : List Nat) : (d.setPrt n x).get f ix = d.get f ix := rfl

@[simp] theorem Device.setCap_regs (d : Device) (n k : Nat) (x : CapX) : (d.setCap n k x).regs = d.regs := rfl
@[simp] theorem Device.setCap_hbm (d : Device) (n k : Nat) (x : CapX) : (d.setCap n k x).hbm = d.hbm := rfl
@[simp] theorem Device.setCap_hostMem (d : Device) (n k : Nat) (x : CapX) : (d.setCap n k x).hostMem = d.hostMem := rfl
@[simp] theorem Device.setCap_ctl (d : Device) (n k : Nat) (x : CapX) : (d.setCap n k x).ctl = d.ctl := rfl
@[simp] theorem Device.setCap_dlv (d : Device) (n k : Nat) (x : CapX) : (d.setCap n k x).dlv = d.dlv := rfl
@[simp] theorem Device.setCap_tim (d : Device) (n k : Nat) (x : CapX) : (d.setCap n k x).tim = d.tim := rfl
@[simp] theorem Device.setCap_mot (d : Device) (n k : Nat) (x : CapX) : (d.setCap n k x).mot = d.mot := rfl
@[simp] theorem Device.setCap_hst (d : Device) (n k : Nat) (x : CapX) : (d.setCap n k x).hst = d.hst := rfl
@[simp] theorem Device.setCap_sec (d : Device) (n k : Nat) (x : CapX) : (d.setCap n k x).sec = d.sec := rfl
@[simp] theorem Device.setCap_pow (d : Device) (n k : Nat) (x : CapX) : (d.setCap n k x).pow = d.pow := rfl
@[simp] theorem Device.setCap_rd (d : Device) (n k : Nat) (x : CapX) (r : Reg) (ix : List Nat) : (d.setCap n k x).rd r ix = d.rd r ix := rfl
@[simp] theorem Device.setCap_get (d : Device) (n k : Nat) (x : CapX) (f : Fld) (ix : List Nat) : (d.setCap n k x).get f ix = d.get f ix := rfl

@[simp] theorem Device.setPal_regs (d : Device) (n k : Nat) (x : PalX) : (d.setPal n k x).regs = d.regs := rfl
@[simp] theorem Device.setPal_hbm (d : Device) (n k : Nat) (x : PalX) : (d.setPal n k x).hbm = d.hbm := rfl
@[simp] theorem Device.setPal_hostMem (d : Device) (n k : Nat) (x : PalX) : (d.setPal n k x).hostMem = d.hostMem := rfl
@[simp] theorem Device.setPal_ctl (d : Device) (n k : Nat) (x : PalX) : (d.setPal n k x).ctl = d.ctl := rfl
@[simp] theorem Device.setPal_dlv (d : Device) (n k : Nat) (x : PalX) : (d.setPal n k x).dlv = d.dlv := rfl
@[simp] theorem Device.setPal_tim (d : Device) (n k : Nat) (x : PalX) : (d.setPal n k x).tim = d.tim := rfl
@[simp] theorem Device.setPal_mot (d : Device) (n k : Nat) (x : PalX) : (d.setPal n k x).mot = d.mot := rfl
@[simp] theorem Device.setPal_hst (d : Device) (n k : Nat) (x : PalX) : (d.setPal n k x).hst = d.hst := rfl
@[simp] theorem Device.setPal_sec (d : Device) (n k : Nat) (x : PalX) : (d.setPal n k x).sec = d.sec := rfl
@[simp] theorem Device.setPal_pow (d : Device) (n k : Nat) (x : PalX) : (d.setPal n k x).pow = d.pow := rfl
@[simp] theorem Device.setPal_rd (d : Device) (n k : Nat) (x : PalX) (r : Reg) (ix : List Nat) : (d.setPal n k x).rd r ix = d.rd r ix := rfl
@[simp] theorem Device.setPal_get (d : Device) (n k : Nat) (x : PalX) (f : Fld) (ix : List Nat) : (d.setPal n k x).get f ix = d.get f ix := rfl

@[simp] theorem Device.setPkt_regs (d : Device) (n k : Nat) (x : PktX) : (d.setPkt n k x).regs = d.regs := rfl
@[simp] theorem Device.setPkt_hbm (d : Device) (n k : Nat) (x : PktX) : (d.setPkt n k x).hbm = d.hbm := rfl
@[simp] theorem Device.setPkt_hostMem (d : Device) (n k : Nat) (x : PktX) : (d.setPkt n k x).hostMem = d.hostMem := rfl
@[simp] theorem Device.setPkt_ctl (d : Device) (n k : Nat) (x : PktX) : (d.setPkt n k x).ctl = d.ctl := rfl
@[simp] theorem Device.setPkt_dlv (d : Device) (n k : Nat) (x : PktX) : (d.setPkt n k x).dlv = d.dlv := rfl
@[simp] theorem Device.setPkt_tim (d : Device) (n k : Nat) (x : PktX) : (d.setPkt n k x).tim = d.tim := rfl
@[simp] theorem Device.setPkt_mot (d : Device) (n k : Nat) (x : PktX) : (d.setPkt n k x).mot = d.mot := rfl
@[simp] theorem Device.setPkt_hst (d : Device) (n k : Nat) (x : PktX) : (d.setPkt n k x).hst = d.hst := rfl
@[simp] theorem Device.setPkt_sec (d : Device) (n k : Nat) (x : PktX) : (d.setPkt n k x).sec = d.sec := rfl
@[simp] theorem Device.setPkt_pow (d : Device) (n k : Nat) (x : PktX) : (d.setPkt n k x).pow = d.pow := rfl
@[simp] theorem Device.setPkt_rd (d : Device) (n k : Nat) (x : PktX) (r : Reg) (ix : List Nat) : (d.setPkt n k x).rd r ix = d.rd r ix := rfl
@[simp] theorem Device.setPkt_get (d : Device) (n k : Nat) (x : PktX) (f : Fld) (ix : List Nat) : (d.setPkt n k x).get f ix = d.get f ix := rfl

@[simp] theorem Device.setMidway_regs (d : Device) (x : MidwayX) : (d.setMidway x).regs = d.regs := rfl
@[simp] theorem Device.setMidway_hbm (d : Device) (x : MidwayX) : (d.setMidway x).hbm = d.hbm := rfl
@[simp] theorem Device.setMidway_hostMem (d : Device) (x : MidwayX) : (d.setMidway x).hostMem = d.hostMem := rfl
@[simp] theorem Device.setMidway_ctl (d : Device) (x : MidwayX) : (d.setMidway x).ctl = d.ctl := rfl
@[simp] theorem Device.setMidway_dlv (d : Device) (x : MidwayX) : (d.setMidway x).dlv = d.dlv := rfl
@[simp] theorem Device.setMidway_prt (d : Device) (x : MidwayX) : (d.setMidway x).prt = d.prt := rfl
@[simp] theorem Device.setMidway_mot (d : Device) (x : MidwayX) : (d.setMidway x).mot = d.mot := rfl
@[simp] theorem Device.setMidway_hst (d : Device) (x : MidwayX) : (d.setMidway x).hst = d.hst := rfl
@[simp] theorem Device.setMidway_sec (d : Device) (x : MidwayX) : (d.setMidway x).sec = d.sec := rfl
@[simp] theorem Device.setMidway_pow (d : Device) (x : MidwayX) : (d.setMidway x).pow = d.pow := rfl
@[simp] theorem Device.setMidway_rd (d : Device) (x : MidwayX) (r : Reg) (ix : List Nat) : (d.setMidway x).rd r ix = d.rd r ix := rfl
@[simp] theorem Device.setMidway_get (d : Device) (x : MidwayX) (f : Fld) (ix : List Nat) : (d.setMidway x).get f ix = d.get f ix := rfl

@[simp] theorem Device.setTime_regs (d : Device) (x : TimeX) : (d.setTime x).regs = d.regs := rfl
@[simp] theorem Device.setTime_hbm (d : Device) (x : TimeX) : (d.setTime x).hbm = d.hbm := rfl
@[simp] theorem Device.setTime_hostMem (d : Device) (x : TimeX) : (d.setTime x).hostMem = d.hostMem := rfl
@[simp] theorem Device.setTime_ctl (d : Device) (x : TimeX) : (d.setTime x).ctl = d.ctl := rfl
@[simp] theorem Device.setTime_dlv (d : Device) (x : TimeX) : (d.setTime x).dlv = d.dlv := rfl
@[simp] theorem Device.setTime_prt (d : Device) (x : TimeX) : (d.setTime x).prt = d.prt := rfl
@[simp] theorem Device.setTime_mot (d : Device) (x : TimeX) : (d.setTime x).mot = d.mot := rfl
@[simp] theorem Device.setTime_hst (d : Device) (x : TimeX) : (d.setTime x).hst = d.hst := rfl
@[simp] theorem Device.setTime_sec (d : Device) (x : TimeX) : (d.setTime x).sec = d.sec := rfl
@[simp] theorem Device.setTime_pow (d : Device) (x : TimeX) : (d.setTime x).pow = d.pow := rfl
@[simp] theorem Device.setTime_rd (d : Device) (x : TimeX) (r : Reg) (ix : List Nat) : (d.setTime x).rd r ix = d.rd r ix := rfl
@[simp] theorem Device.setTime_get (d : Device) (x : TimeX) (f : Fld) (ix : List Nat) : (d.setTime x).get f ix = d.get f ix := rfl

@[simp] theorem Device.setProg_regs (d : Device) (n : Nat) (x : ProgramX) : (d.setProg n x).regs = d.regs := rfl
@[simp] theorem Device.setProg_hbm (d : Device) (n : Nat) (x : ProgramX) : (d.setProg n x).hbm = d.hbm := rfl
@[simp] theorem Device.setProg_hostMem (d : Device) (n : Nat) (x : ProgramX) : (d.setProg n x).hostMem = d.hostMem := rfl
@[simp] theorem Device.setProg_ctl (d : Device) (n : Nat) (x : ProgramX) : (d.setProg n x).ctl = d.ctl := rfl
@[simp] theorem Device.setProg_dlv (d : Device) (n : Nat) (x : ProgramX) : (d.setProg n x).dlv = d.dlv := rfl
@[simp] theorem Device.setProg_prt (d : Device) (n : Nat) (x : ProgramX) : (d.setProg n x).prt = d.prt := rfl
@[simp] theorem Device.setProg_mot (d : Device) (n : Nat) (x : ProgramX) : (d.setProg n x).mot = d.mot := rfl
@[simp] theorem Device.setProg_hst (d : Device) (n : Nat) (x : ProgramX) : (d.setProg n x).hst = d.hst := rfl
@[simp] theorem Device.setProg_sec (d : Device) (n : Nat) (x : ProgramX) : (d.setProg n x).sec = d.sec := rfl
@[simp] theorem Device.setProg_pow (d : Device) (n : Nat) (x : ProgramX) : (d.setProg n x).pow = d.pow := rfl
@[simp] theorem Device.setProg_rd (d : Device) (n : Nat) (x : ProgramX) (r : Reg) (ix : List Nat) : (d.setProg n x).rd r ix = d.rd r ix := rfl
@[simp] theorem Device.setProg_get (d : Device) (n : Nat) (x : ProgramX) (f : Fld) (ix : List Nat) : (d.setProg n x).get f ix = d.get f ix := rfl

@[simp] theorem Device.setPin_regs (d : Device) (n : Nat) (x : PinX) : (d.setPin n x).regs = d.regs := rfl
@[simp] theorem Device.setPin_hbm (d : Device) (n : Nat) (x : PinX) : (d.setPin n x).hbm = d.hbm := rfl
@[simp] theorem Device.setPin_hostMem (d : Device) (n : Nat) (x : PinX) : (d.setPin n x).hostMem = d.hostMem := rfl
@[simp] theorem Device.setPin_ctl (d : Device) (n : Nat) (x : PinX) : (d.setPin n x).ctl = d.ctl := rfl
@[simp] theorem Device.setPin_dlv (d : Device) (n : Nat) (x : PinX) : (d.setPin n x).dlv = d.dlv := rfl
@[simp] theorem Device.setPin_prt (d : Device) (n : Nat) (x : PinX) : (d.setPin n x).prt = d.prt := rfl
@[simp] theorem Device.setPin_mot (d : Device) (n : Nat) (x : PinX) : (d.setPin n x).mot = d.mot := rfl
@[simp] theorem Device.setPin_hst (d : Device) (n : Nat) (x : PinX) : (d.setPin n x).hst = d.hst := rfl
@[simp] theorem Device.setPin_sec (d : Device) (n : Nat) (x : PinX) : (d.setPin n x).sec = d.sec := rfl
@[simp] theorem Device.setPin_pow (d : Device) (n : Nat) (x : PinX) : (d.setPin n x).pow = d.pow := rfl
@[simp] theorem Device.setPin_rd (d : Device) (n : Nat) (x : PinX) (r : Reg) (ix : List Nat) : (d.setPin n x).rd r ix = d.rd r ix := rfl
@[simp] theorem Device.setPin_get (d : Device) (n : Nat) (x : PinX) (f : Fld) (ix : List Nat) : (d.setPin n x).get f ix = d.get f ix := rfl

@[simp] theorem Device.setServo_regs (d : Device) (x : ServoX) : (d.setServo x).regs = d.regs := rfl
@[simp] theorem Device.setServo_hbm (d : Device) (x : ServoX) : (d.setServo x).hbm = d.hbm := rfl
@[simp] theorem Device.setServo_hostMem (d : Device) (x : ServoX) : (d.setServo x).hostMem = d.hostMem := rfl
@[simp] theorem Device.setServo_ctl (d : Device) (x : ServoX) : (d.setServo x).ctl = d.ctl := rfl
@[simp] theorem Device.setServo_dlv (d : Device) (x : ServoX) : (d.setServo x).dlv = d.dlv := rfl
@[simp] theorem Device.setServo_prt (d : Device) (x : ServoX) : (d.setServo x).prt = d.prt := rfl
@[simp] theorem Device.setServo_mot (d : Device) (x : ServoX) : (d.setServo x).mot = d.mot := rfl
@[simp] theorem Device.setServo_hst (d : Device) (x : ServoX) : (d.setServo x).hst = d.hst := rfl
@[simp] theorem Device.setServo_sec (d : Device) (x : ServoX) : (d.setServo x).sec = d.sec := rfl
@[simp] theorem Device.setServo_pow (d : Device) (x : ServoX) : (d.setServo x).pow = d.pow := rfl
@[simp] theorem Device.setServo_rd (d : Device) (x : ServoX) (r : Reg) (ix : List Nat) : (d.setServo x).rd r ix = d.rd r ix := rfl
@[simp] theorem Device.setServo_get (d : Device) (x : ServoX) (f : Fld) (ix : List Nat) : (d.setServo x).get f ix = d.get f ix := rfl

@[simp] theorem Device.setEngine_regs (d : Device) (n : Nat) (x : EngineX) : (d.setEngine n x).regs = d.regs := rfl
@[simp] theorem Device.setEngine_hbm (d : Device) (n : Nat) (x : EngineX) : (d.setEngine n x).hbm = d.hbm := rfl
@[simp] theorem Device.setEngine_hostMem (d : Device) (n : Nat) (x : EngineX) : (d.setEngine n x).hostMem = d.hostMem := rfl
@[simp] theorem Device.setEngine_ctl (d : Device) (n : Nat) (x : EngineX) : (d.setEngine n x).ctl = d.ctl := rfl
@[simp] theorem Device.setEngine_tim (d : Device) (n : Nat) (x : EngineX) : (d.setEngine n x).tim = d.tim := rfl
@[simp] theorem Device.setEngine_prt (d : Device) (n : Nat) (x : EngineX) : (d.setEngine n x).prt = d.prt := rfl
@[simp] theorem Device.setEngine_mot (d : Device) (n : Nat) (x : EngineX) : (d.setEngine n x).mot = d.mot := rfl
@[simp] theorem Device.setEngine_hst (d : Device) (n : Nat) (x : EngineX) : (d.setEngine n x).hst = d.hst := rfl
@[simp] theorem Device.setEngine_sec (d : Device) (n : Nat) (x : EngineX) : (d.setEngine n x).sec = d.sec := rfl
@[simp] theorem Device.setEngine_pow (d : Device) (n : Nat) (x : EngineX) : (d.setEngine n x).pow = d.pow := rfl
@[simp] theorem Device.setEngine_rd (d : Device) (n : Nat) (x : EngineX) (r : Reg) (ix : List Nat) : (d.setEngine n x).rd r ix = d.rd r ix := rfl
@[simp] theorem Device.setEngine_get (d : Device) (n : Nat) (x : EngineX) (f : Fld) (ix : List Nat) : (d.setEngine n x).get f ix = d.get f ix := rfl

@[simp] theorem Device.setChan_regs (d : Device) (n k : Nat) (x : DmaX) : (d.setChan n k x).regs = d.regs := rfl
@[simp] theorem Device.setChan_hbm (d : Device) (n k : Nat) (x : DmaX) : (d.setChan n k x).hbm = d.hbm := rfl
@[simp] theorem Device.setChan_hostMem (d : Device) (n k : Nat) (x : DmaX) : (d.setChan n k x).hostMem = d.hostMem := rfl
@[simp] theorem Device.setChan_ctl (d : Device) (n k : Nat) (x : DmaX) : (d.setChan n k x).ctl = d.ctl := rfl
@[simp] theorem Device.setChan_tim (d : Device) (n k : Nat) (x : DmaX) : (d.setChan n k x).tim = d.tim := rfl
@[simp] theorem Device.setChan_prt (d : Device) (n k : Nat) (x : DmaX) : (d.setChan n k x).prt = d.prt := rfl
@[simp] theorem Device.setChan_mot (d : Device) (n k : Nat) (x : DmaX) : (d.setChan n k x).mot = d.mot := rfl
@[simp] theorem Device.setChan_hst (d : Device) (n k : Nat) (x : DmaX) : (d.setChan n k x).hst = d.hst := rfl
@[simp] theorem Device.setChan_sec (d : Device) (n k : Nat) (x : DmaX) : (d.setChan n k x).sec = d.sec := rfl
@[simp] theorem Device.setChan_pow (d : Device) (n k : Nat) (x : DmaX) : (d.setChan n k x).pow = d.pow := rfl
@[simp] theorem Device.setChan_rd (d : Device) (n k : Nat) (x : DmaX) (r : Reg) (ix : List Nat) : (d.setChan n k x).rd r ix = d.rd r ix := rfl
@[simp] theorem Device.setChan_get (d : Device) (n k : Nat) (x : DmaX) (f : Fld) (ix : List Nat) : (d.setChan n k x).get f ix = d.get f ix := rfl

@[simp] theorem Device.setCtx_regs (d : Device) (n : Nat) (x : QCtx) : (d.setCtx n x).regs = d.regs := rfl
@[simp] theorem Device.setCtx_hbm (d : Device) (n : Nat) (x : QCtx) : (d.setCtx n x).hbm = d.hbm := rfl
@[simp] theorem Device.setCtx_hostMem (d : Device) (n : Nat) (x : QCtx) : (d.setCtx n x).hostMem = d.hostMem := rfl
@[simp] theorem Device.setCtx_ctl (d : Device) (n : Nat) (x : QCtx) : (d.setCtx n x).ctl = d.ctl := rfl
@[simp] theorem Device.setCtx_tim (d : Device) (n : Nat) (x : QCtx) : (d.setCtx n x).tim = d.tim := rfl
@[simp] theorem Device.setCtx_prt (d : Device) (n : Nat) (x : QCtx) : (d.setCtx n x).prt = d.prt := rfl
@[simp] theorem Device.setCtx_mot (d : Device) (n : Nat) (x : QCtx) : (d.setCtx n x).mot = d.mot := rfl
@[simp] theorem Device.setCtx_hst (d : Device) (n : Nat) (x : QCtx) : (d.setCtx n x).hst = d.hst := rfl
@[simp] theorem Device.setCtx_sec (d : Device) (n : Nat) (x : QCtx) : (d.setCtx n x).sec = d.sec := rfl
@[simp] theorem Device.setCtx_pow (d : Device) (n : Nat) (x : QCtx) : (d.setCtx n x).pow = d.pow := rfl
@[simp] theorem Device.setCtx_rd (d : Device) (n : Nat) (x : QCtx) (r : Reg) (ix : List Nat) : (d.setCtx n x).rd r ix = d.rd r ix := rfl
@[simp] theorem Device.setCtx_get (d : Device) (n : Nat) (x : QCtx) (f : Fld) (ix : List Nat) : (d.setCtx n x).get f ix = d.get f ix := rfl

@[simp] theorem Device.setVec_regs (d : Device) (n : Nat) (x : MsixVec) : (d.setVec n x).regs = d.regs := rfl
@[simp] theorem Device.setVec_hbm (d : Device) (n : Nat) (x : MsixVec) : (d.setVec n x).hbm = d.hbm := rfl
@[simp] theorem Device.setVec_hostMem (d : Device) (n : Nat) (x : MsixVec) : (d.setVec n x).hostMem = d.hostMem := rfl
@[simp] theorem Device.setVec_ctl (d : Device) (n : Nat) (x : MsixVec) : (d.setVec n x).ctl = d.ctl := rfl
@[simp] theorem Device.setVec_dlv (d : Device) (n : Nat) (x : MsixVec) : (d.setVec n x).dlv = d.dlv := rfl
@[simp] theorem Device.setVec_tim (d : Device) (n : Nat) (x : MsixVec) : (d.setVec n x).tim = d.tim := rfl
@[simp] theorem Device.setVec_prt (d : Device) (n : Nat) (x : MsixVec) : (d.setVec n x).prt = d.prt := rfl
@[simp] theorem Device.setVec_mot (d : Device) (n : Nat) (x : MsixVec) : (d.setVec n x).mot = d.mot := rfl
@[simp] theorem Device.setVec_sec (d : Device) (n : Nat) (x : MsixVec) : (d.setVec n x).sec = d.sec := rfl
@[simp] theorem Device.setVec_pow (d : Device) (n : Nat) (x : MsixVec) : (d.setVec n x).pow = d.pow := rfl
@[simp] theorem Device.setVec_rd (d : Device) (n : Nat) (x : MsixVec) (r : Reg) (ix : List Nat) : (d.setVec n x).rd r ix = d.rd r ix := rfl
@[simp] theorem Device.setVec_get (d : Device) (n : Nat) (x : MsixVec) (f : Fld) (ix : List Nat) : (d.setVec n x).get f ix = d.get f ix := rfl

@[simp] theorem Device.setAxis_regs (d : Device) (n : Nat) (x : AxisX) : (d.setAxis n x).regs = d.regs := rfl
@[simp] theorem Device.setAxis_hbm (d : Device) (n : Nat) (x : AxisX) : (d.setAxis n x).hbm = d.hbm := rfl
@[simp] theorem Device.setAxis_hostMem (d : Device) (n : Nat) (x : AxisX) : (d.setAxis n x).hostMem = d.hostMem := rfl
@[simp] theorem Device.setAxis_ctl (d : Device) (n : Nat) (x : AxisX) : (d.setAxis n x).ctl = d.ctl := rfl
@[simp] theorem Device.setAxis_dlv (d : Device) (n : Nat) (x : AxisX) : (d.setAxis n x).dlv = d.dlv := rfl
@[simp] theorem Device.setAxis_tim (d : Device) (n : Nat) (x : AxisX) : (d.setAxis n x).tim = d.tim := rfl
@[simp] theorem Device.setAxis_prt (d : Device) (n : Nat) (x : AxisX) : (d.setAxis n x).prt = d.prt := rfl
@[simp] theorem Device.setAxis_hst (d : Device) (n : Nat) (x : AxisX) : (d.setAxis n x).hst = d.hst := rfl
@[simp] theorem Device.setAxis_sec (d : Device) (n : Nat) (x : AxisX) : (d.setAxis n x).sec = d.sec := rfl
@[simp] theorem Device.setAxis_pow (d : Device) (n : Nat) (x : AxisX) : (d.setAxis n x).pow = d.pow := rfl
@[simp] theorem Device.setAxis_rd (d : Device) (n : Nat) (x : AxisX) (r : Reg) (ix : List Nat) : (d.setAxis n x).rd r ix = d.rd r ix := rfl
@[simp] theorem Device.setAxis_get (d : Device) (n : Nat) (x : AxisX) (f : Fld) (ix : List Nat) : (d.setAxis n x).get f ix = d.get f ix := rfl

@[simp] theorem Device.setFb_regs (d : Device) (n : Nat) (x : FbX) : (d.setFb n x).regs = d.regs := rfl
@[simp] theorem Device.setFb_hbm (d : Device) (n : Nat) (x : FbX) : (d.setFb n x).hbm = d.hbm := rfl
@[simp] theorem Device.setFb_hostMem (d : Device) (n : Nat) (x : FbX) : (d.setFb n x).hostMem = d.hostMem := rfl
@[simp] theorem Device.setFb_ctl (d : Device) (n : Nat) (x : FbX) : (d.setFb n x).ctl = d.ctl := rfl
@[simp] theorem Device.setFb_dlv (d : Device) (n : Nat) (x : FbX) : (d.setFb n x).dlv = d.dlv := rfl
@[simp] theorem Device.setFb_tim (d : Device) (n : Nat) (x : FbX) : (d.setFb n x).tim = d.tim := rfl
@[simp] theorem Device.setFb_prt (d : Device) (n : Nat) (x : FbX) : (d.setFb n x).prt = d.prt := rfl
@[simp] theorem Device.setFb_hst (d : Device) (n : Nat) (x : FbX) : (d.setFb n x).hst = d.hst := rfl
@[simp] theorem Device.setFb_sec (d : Device) (n : Nat) (x : FbX) : (d.setFb n x).sec = d.sec := rfl
@[simp] theorem Device.setFb_pow (d : Device) (n : Nat) (x : FbX) : (d.setFb n x).pow = d.pow := rfl
@[simp] theorem Device.setFb_rd (d : Device) (n : Nat) (x : FbX) (r : Reg) (ix : List Nat) : (d.setFb n x).rd r ix = d.rd r ix := rfl
@[simp] theorem Device.setFb_get (d : Device) (n : Nat) (x : FbX) (f : Fld) (ix : List Nat) : (d.setFb n x).get f ix = d.get f ix := rfl

@[simp] theorem Device.setSec_regs (d : Device) (x : SecX) : (d.setSec x).regs = d.regs := rfl
@[simp] theorem Device.setSec_hbm (d : Device) (x : SecX) : (d.setSec x).hbm = d.hbm := rfl
@[simp] theorem Device.setSec_hostMem (d : Device) (x : SecX) : (d.setSec x).hostMem = d.hostMem := rfl
@[simp] theorem Device.setSec_ctl (d : Device) (x : SecX) : (d.setSec x).ctl = d.ctl := rfl
@[simp] theorem Device.setSec_dlv (d : Device) (x : SecX) : (d.setSec x).dlv = d.dlv := rfl
@[simp] theorem Device.setSec_tim (d : Device) (x : SecX) : (d.setSec x).tim = d.tim := rfl
@[simp] theorem Device.setSec_prt (d : Device) (x : SecX) : (d.setSec x).prt = d.prt := rfl
@[simp] theorem Device.setSec_mot (d : Device) (x : SecX) : (d.setSec x).mot = d.mot := rfl
@[simp] theorem Device.setSec_hst (d : Device) (x : SecX) : (d.setSec x).hst = d.hst := rfl
@[simp] theorem Device.setSec_pow (d : Device) (x : SecX) : (d.setSec x).pow = d.pow := rfl
@[simp] theorem Device.setSec_rd (d : Device) (x : SecX) (r : Reg) (ix : List Nat) : (d.setSec x).rd r ix = d.rd r ix := rfl
@[simp] theorem Device.setSec_get (d : Device) (x : SecX) (f : Fld) (ix : List Nat) : (d.setSec x).get f ix = d.get f ix := rfl

@[simp] theorem Device.setTx_seq (d : Device) (n : Nat) (x : TxSlot) (m : Nat) : (d.setTx n x).seq m = d.seq m := rfl
@[simp] theorem Device.setTx_mbox (d : Device) (n : Nat) (x : TxSlot) (m : Nat) : (d.setTx n x).mbox m = d.mbox m := rfl
@[simp] theorem Device.setSeq_tx (d : Device) (n : Nat) (x : SeqX) (m : Nat) : (d.setSeq n x).tx m = d.tx m := rfl
@[simp] theorem Device.setSeq_mbox (d : Device) (n : Nat) (x : SeqX) (m : Nat) : (d.setSeq n x).mbox m = d.mbox m := rfl
@[simp] theorem Device.setMbox_tx (d : Device) (n : Nat) (x : Mailbox) (m : Nat) : (d.setMbox n x).tx m = d.tx m := rfl
@[simp] theorem Device.setMbox_seq (d : Device) (n : Nat) (x : Mailbox) (m : Nat) : (d.setMbox n x).seq m = d.seq m := rfl
@[simp] theorem Device.setLogger_tx (d : Device) (x : LoggerX) (m : Nat) : (d.setLogger x).tx m = d.tx m := rfl
@[simp] theorem Device.setLogger_seq (d : Device) (x : LoggerX) (m : Nat) : (d.setLogger x).seq m = d.seq m := rfl
@[simp] theorem Device.setLogger_mbox (d : Device) (x : LoggerX) (m : Nat) : (d.setLogger x).mbox m = d.mbox m := rfl

@[simp] theorem Device.setLane_bth (d : Device) (n : Nat) (x : LaneX) (m : Nat) : (d.setLane n x).bth m = d.bth m := rfl
@[simp] theorem Device.setBth_lane (d : Device) (n : Nat) (x : BoothX) (m : Nat) : (d.setBth n x).lane m = d.lane m := rfl

@[simp] theorem Device.setProg_pin (d : Device) (n : Nat) (x : ProgramX) (m : Nat) : (d.setProg n x).pin m = d.pin m := rfl
@[simp] theorem Device.setProg_servo (d : Device) (n : Nat) (x : ProgramX)  : (d.setProg n x).servo  = d.servo  := rfl
@[simp] theorem Device.setPin_prog (d : Device) (n : Nat) (x : PinX) (m : Nat) : (d.setPin n x).prog m = d.prog m := rfl
@[simp] theorem Device.setPin_servo (d : Device) (n : Nat) (x : PinX)  : (d.setPin n x).servo  = d.servo  := rfl
@[simp] theorem Device.setServo_prog (d : Device) (x : ServoX) (m : Nat) : (d.setServo x).prog m = d.prog m := rfl
@[simp] theorem Device.setServo_pin (d : Device) (x : ServoX) (m : Nat) : (d.setServo x).pin m = d.pin m := rfl
@[simp] theorem Device.setMidway_prog (d : Device) (x : MidwayX) (m : Nat) : (d.setMidway x).prog m = d.prog m := rfl
@[simp] theorem Device.setMidway_pin (d : Device) (x : MidwayX) (m : Nat) : (d.setMidway x).pin m = d.pin m := rfl
@[simp] theorem Device.setMidway_servo (d : Device) (x : MidwayX)  : (d.setMidway x).servo  = d.servo  := rfl
@[simp] theorem Device.setTime_prog (d : Device) (x : TimeX) (m : Nat) : (d.setTime x).prog m = d.prog m := rfl
@[simp] theorem Device.setTime_pin (d : Device) (x : TimeX) (m : Nat) : (d.setTime x).pin m = d.pin m := rfl
@[simp] theorem Device.setTime_servo (d : Device) (x : TimeX)  : (d.setTime x).servo  = d.servo  := rfl

@[simp] theorem Device.setChan_ctx (d : Device) (n k : Nat) (x : DmaX) (m : Nat) : (d.setChan n k x).ctx m = d.ctx m := rfl
@[simp] theorem Device.setCtx_chan (d : Device) (n : Nat) (x : QCtx) (m j : Nat) : (d.setCtx n x).chan m j = d.chan m j := rfl
@[simp] theorem Device.setEngine_chan (d : Device) (n : Nat) (x : EngineX) (m j : Nat) : (d.setEngine n x).chan m j = d.chan m j := rfl
@[simp] theorem Device.setEngine_ctx (d : Device) (n : Nat) (x : EngineX) (m : Nat) : (d.setEngine n x).ctx m = d.ctx m := rfl

@[simp] theorem Device.setAxis_fb (d : Device) (n : Nat) (x : AxisX) (m : Nat) : (d.setAxis n x).fb m = d.fb m := rfl
@[simp] theorem Device.setFb_axis (d : Device) (n : Nat) (x : FbX) (m : Nat) : (d.setFb n x).axis m = d.axis m := rfl

@[simp] theorem Device.setCtl_ctl (d : Device) (c : ControlX) : (d.setCtl c).ctl = c := rfl
@[simp] theorem Device.setSec_sec (d : Device) (x : SecX) : (d.setSec x).sec = x := rfl
@[simp] theorem Device.setTx_same (d : Device) (n : Nat) (x : TxSlot) : (d.setTx n x).tx n = x := by simp [Device.setTx, Device.tx]
@[simp] theorem Device.setSeq_same (d : Device) (n : Nat) (x : SeqX) : (d.setSeq n x).seq n = x := by simp [Device.setSeq, Device.seq]
@[simp] theorem Device.setMbox_same (d : Device) (n : Nat) (x : Mailbox) : (d.setMbox n x).mbox n = x := by simp [Device.setMbox, Device.mbox]
@[simp] theorem Device.setLane_same (d : Device) (n : Nat) (x : LaneX) : (d.setLane n x).lane n = x := by simp [Device.setLane, Device.lane]
@[simp] theorem Device.setBth_same (d : Device) (n : Nat) (x : BoothX) : (d.setBth n x).bth n = x := by simp [Device.setBth, Device.bth]
@[simp] theorem Device.setProg_same (d : Device) (n : Nat) (x : ProgramX) : (d.setProg n x).prog n = x := by simp [Device.setProg, Device.prog]
@[simp] theorem Device.setPin_same (d : Device) (n : Nat) (x : PinX) : (d.setPin n x).pin n = x := by simp [Device.setPin, Device.pin]
@[simp] theorem Device.setVec_same (d : Device) (n : Nat) (x : MsixVec) : (d.setVec n x).vec n = x := by simp [Device.setVec, Device.vec]
@[simp] theorem Device.setAxis_same (d : Device) (n : Nat) (x : AxisX) : (d.setAxis n x).axis n = x := by simp [Device.setAxis, Device.axis]
@[simp] theorem Device.setFb_same (d : Device) (n : Nat) (x : FbX) : (d.setFb n x).fb n = x := by simp [Device.setFb, Device.fb]
@[simp] theorem Device.setChan_same (d : Device) (n k : Nat) (x : DmaX) : (d.setChan n k x).chan n k = x := by simp [Device.setChan, Device.chan]
@[simp] theorem Device.setPrt_same (d : Device) (n : Nat) (x : PortX) : (d.setPrt n x).prtx n = x := by simp [Device.setPrt, Device.prtx]
@[simp] theorem Device.setCap_same (d : Device) (n k : Nat) (x : CapX) : (d.setCap n k x).cap n k = x := by simp [Device.setCap, Device.cap]
@[simp] theorem Device.setPal_same (d : Device) (n k : Nat) (x : PalX) : (d.setPal n k x).pal n k = x := by simp [Device.setPal, Device.pal]
@[simp] theorem Device.setPkt_same (d : Device) (n k : Nat) (x : PktX) : (d.setPkt n k x).pkt n k = x := by simp [Device.setPkt, Device.pkt]
@[simp] theorem Device.setServo_servo (d : Device) (x : ServoX) : (d.setServo x).servo = x := rfl

end Sys2Proof.Machine
end

