-- ==== Sys2Proof/Laws/Run.lean ====
section
/-! SUPPORT. What a command can do beside its effect on the device: the queue stays, what waits stays an entry of an open
mailbox, and a device held in reset stays as it is. -/

namespace Sys2Proof.Machine

/-! ### Serving -/

theorem State.settle_pending (s : State) : s.settle.pending = s.pending := by
  unfold State.settle
  split <;> rfl

theorem State.settle_held (s : State) (h : s.dev.sec.inReset = true) : s.settle = { s with waiting := [] } := by
  simp [State.settle, h]

theorem Device.mayHold_awake {d : Device} {i : Instr} (h : d.mayHold i = true) : d.sec.inReset = false := by
  unfold Device.mayHold at h
  split at h
  · simp only [Bool.and_eq_true, Bool.not_eq_true'] at h
    exact h.1
  · cases h

/-- What waits after serving waited before, and is an entry of an open mailbox. -/
theorem State.settle_waiting (s : State) : ∀ i ∈ s.settle.waiting, i ∈ s.waiting ∧ s.settle.dev.mayHold i = true := by
  unfold State.settle
  split
  · simp
  · intro i hi
    have := List.mem_filter.1 hi
    exact ⟨this.1, this.2⟩

theorem State.settle_inv (s : State) (h : ∀ i ∈ s.waiting, inputPlaced i = true) : s.settle.Inv := fun i hi =>
  ⟨(s.settle_waiting i hi).2, h i (s.settle_waiting i hi).1⟩

/-! ### The ways a command runs -/

theorem State.live_held {s : State} (h : s.dev.sec.inReset = true) (f : Device → Device) : s.live f = .next s := by
  simp [State.live, h]

theorem State.live_awake {s : State} (h : s.dev.sec.inReset = false) (f : Device → Device) :
    s.live f = .next ({ s with dev := f s.dev } : State).settle := by
  simp [State.live, h]

theorem State.port_awake {s : State} (h : s.dev.sec.inReset = false) {p : Fin 8} (hp : s.dev.portPresent p = true)
    (f : Device → Device) : s.port p f = .next ({ s with dev := (f s.dev).afterLink p } : State).settle := by
  simp [State.port, State.live_awake h, hp]

theorem State.lane_awake {s : State} (h : s.dev.sec.inReset = false) {l : Fin 16} (hl : s.dev.lanePresent l = true)
    (f : Device → Device) : s.lane l f = .next ({ s with dev := (f s.dev).afterLane l } : State).settle := by
  simp [State.lane, State.live_awake h, hl]

theorem State.emit_awake {s : State} (h : s.dev.sec.inReset = false) {p : Fin 8} (hp : s.dev.portPresent p = true)
    (he : s.dev.emitPresent p = true) (f : Device → Device) :
    s.emit p f = .next ({ s with dev := (f s.dev).afterLink p } : State).settle := by
  simp [State.emit, State.port_awake h hp, he]

/-! ### What a row that acts on the device does, from what its meaning makes of the device -/

theorem State.does_of_live {s : State} {i : Instr} {f : Device → Device} {d : Device} (hx : exec i s = s.live f) (h : s.awake)
    (hd : f s.dev = d) : s.does i d := by
  unfold State.does
  rw [hx, State.live_awake h, hd]

theorem State.laneDoes_of {s : State} {l : Fin 16} {i : Instr} {f : Device → Device} {d : Device} (hx : exec i s = s.lane l f)
    (h : s.awake) (hl : s.dev.lanePresent l = true) (hd : f s.dev = d) : s.laneDoes l i d := by
  unfold State.laneDoes State.does
  rw [hx, State.lane_awake h hl, hd]

theorem State.portDoes_of {s : State} {p : Fin 8} {i : Instr} {f : Device → Device} {d : Device} (hx : exec i s = s.port p f)
    (h : s.awake) (hp : s.dev.portPresent p = true) (hd : f s.dev = d) : s.portDoes p i d := by
  unfold State.portDoes State.does
  rw [hx, State.port_awake h hp, hd]

theorem State.emitDoes_of {s : State} {p : Fin 8} {i : Instr} {f : Device → Device} {d : Device} (hx : exec i s = s.emit p f)
    (h : s.awake) (hp : s.dev.portPresent p = true) (he : s.dev.emitPresent p = true) (hd : f s.dev = d) : s.portDoes p i d := by
  unfold State.portDoes State.does
  rw [hx, State.emit_awake h hp he, hd]

theorem State.does_of_resets {s : State} {i : Instr} {f : Device → Device} {d : Device} (hx : exec i s = s.resets f)
    (hd : f s.dev = d) : s.does i d := by
  unfold State.does
  rw [hx, ← hd]
  rfl

/-- A row that does not raise READY acts like any other. -/
theorem State.does_of_liveReady {s : State} {i : Instr} {f : Device → Device} {d : Device} (hx : exec i s = s.liveReady f)
    (h : s.awake) (hr : s.dev.ready = true ∨ d.ready = false) (hd : f s.dev = d) : s.does i d := by
  unfold State.does
  rw [hx, State.liveReady]
  beta_reduce
  rw [if_pos, State.live_awake h, hd]
  rw [hd]
  rcases hr with hr | hr <;> simp [hr]

/-- All that a write-back can change: host memory. -/
theorem Device.writeBack_changes (d : Device) (q : Nat) : ∃ m, d.writeBack q = { d with hostMem := m } := by
  unfold Device.writeBack
  simp only
  by_cases h : (d.ctx q).wb = 0
  · exact ⟨d.hostMem, by rw [if_pos h]⟩
  · exact ⟨_, by rw [if_neg h]; rfl⟩

/-- All that taking an entry off its command queue can change: the queue contexts, and a write-back area in host memory. -/
theorem Device.takeCommand_changes (d : Device) (e : Entry) :
    ∃ cs m, d.takeCommand e = { d with dlv := { d.dlv with ctxs := cs }, hostMem := m } := by
  unfold Device.takeCommand
  split
  · exact ⟨d.dlv.ctxs, d.hostMem, rfl⟩
  · rename_i k _
    simp only
    by_cases h : (d.ctx (2 * k.val)).kind ≠ 1 ∨ (d.ctx (2 * k.val)).error = true
    · exact ⟨d.dlv.ctxs, d.hostMem, by rw [if_pos h]⟩
    · rw [if_neg h]
      unfold Device.taken
      simp only
      obtain ⟨m, hm⟩ := Device.writeBack_changes (((d.setCtx _ _).setCtx _ _) : Device) (2 * k.val)
      exact ⟨_, m, hm⟩

@[simp] theorem Device.takeCommand_regs (d : Device) (e : Entry) : (d.takeCommand e).regs = d.regs := by
  obtain ⟨_, _, h⟩ := d.takeCommand_changes e
  rw [h]

@[simp] theorem Device.takeCommand_hbm (d : Device) (e : Entry) : (d.takeCommand e).hbm = d.hbm := by
  obtain ⟨_, _, h⟩ := d.takeCommand_changes e
  rw [h]

@[simp] theorem Device.takeCommand_ctl (d : Device) (e : Entry) : (d.takeCommand e).ctl = d.ctl := by
  obtain ⟨_, _, h⟩ := d.takeCommand_changes e
  rw [h]

@[simp] theorem Device.takeCommand_tim (d : Device) (e : Entry) : (d.takeCommand e).tim = d.tim := by
  obtain ⟨_, _, h⟩ := d.takeCommand_changes e
  rw [h]

@[simp] theorem Device.takeCommand_prt (d : Device) (e : Entry) : (d.takeCommand e).prt = d.prt := by
  obtain ⟨_, _, h⟩ := d.takeCommand_changes e
  rw [h]

@[simp] theorem Device.takeCommand_mot (d : Device) (e : Entry) : (d.takeCommand e).mot = d.mot := by
  obtain ⟨_, _, h⟩ := d.takeCommand_changes e
  rw [h]

@[simp] theorem Device.takeCommand_sec (d : Device) (e : Entry) : (d.takeCommand e).sec = d.sec := by
  obtain ⟨_, _, h⟩ := d.takeCommand_changes e
  rw [h]

@[simp] theorem Device.takeCommand_hst (d : Device) (e : Entry) : (d.takeCommand e).hst = d.hst := by
  obtain ⟨_, _, h⟩ := d.takeCommand_changes e
  rw [h]

@[simp] theorem Device.takeCommand_pow (d : Device) (e : Entry) : (d.takeCommand e).pow = d.pow := by
  obtain ⟨_, _, h⟩ := d.takeCommand_changes e
  rw [h]

@[simp] theorem Device.takeCommand_chans (d : Device) (e : Entry) : (d.takeCommand e).dlv.chans = d.dlv.chans := by
  obtain ⟨_, _, h⟩ := d.takeCommand_changes e
  rw [h]

theorem Device.takeCommand_outOfSequence (d : Device) (e : Entry) : (d.takeCommand e).outOfSequence e = d.outOfSequence e := by
  simp [Device.outOfSequence, Device.mbox]

/-- A mailbox entry that firmware takes is answered with what its body replies. -/
theorem State.command_takes {s : State} {i : Instr} {c : CmdSpec} {e : Entry} {present : Bool} {body : Device → Reply}
    (h : s.takes c e present) :
    s.command i c e present body
      = .next ({ s with dev := Device.answer c e ((body (s.dev.entered e)).waking (c.wakes e)) } : State).settle := by
  obtain ⟨h1, h2, h3, h4, h5, h6⟩ := h
  have h6' : ((((s.dev.placeInput e).takeCommand e).advanceSeq e).entryCheck c e present) = 0 := h6
  simp only [State.awake] at h1
  simp [State.command, h1, h2, h3, Device.runCommand, h4, h5, h6', Device.entered, Device.takeCommand_outOfSequence]

/-! ### What every way of running can do -/

/-- The input of every waiting entry has been placed in its window. -/
def State.inputsPlaced (s : State) : Prop := ∀ i ∈ s.waiting, inputPlaced i = true

theorem State.Inv.inputsPlaced {s : State} (h : s.Inv) : s.inputsPlaced := fun i hi => (h i hi).2

theorem State.inputsPlaced_settle {s : State} (h : s.inputsPlaced) : s.settle.inputsPlaced := fun i hi =>
  h i (s.settle_waiting i hi).1

/-- The outcome is a next state with the same queue, and what waits in it is as it should be if it was before. -/
def State.runsOn (s : State) (r : Result) : Prop :=
  ∃ t, r = .next t ∧ t.pending = s.pending ∧ (s.Inv → t.Inv) ∧ (s.inputsPlaced → t.inputsPlaced)

theorem State.runsOn_self (s : State) : s.runsOn (.next s) := ⟨s, rfl, rfl, id, id⟩

/-- Serving after a change that adds nothing to what waits. -/
theorem State.runsOn_settle {s t : State} (hp : t.pending = s.pending) (hw : ∀ i ∈ t.waiting, i ∈ s.waiting) :
    s.runsOn (.next t.settle) :=
  ⟨_, rfl, t.settle_pending.trans hp, fun h => t.settle_inv (fun i hi => (h i (hw i hi)).2),
    fun h => State.inputsPlaced_settle (fun i hi => h i (hw i hi))⟩

theorem State.live_runsOn (s : State) (f : Device → Device) : s.runsOn (s.live f) := by
  unfold State.live
  split
  · exact s.runsOn_self
  · exact State.runsOn_settle rfl (fun _ h => h)

theorem State.lane_runsOn (s : State) (l : Fin 16) (f : Device → Device) : s.runsOn (s.lane l f) := s.live_runsOn _

theorem State.port_runsOn (s : State) (p : Fin 8) (f : Device → Device) : s.runsOn (s.port p f) := s.live_runsOn _

theorem State.emit_runsOn (s : State) (p : Fin 8) (f : Device → Device) : s.runsOn (s.emit p f) := s.port_runsOn p _

theorem State.resets_runsOn (s : State) (f : Device → Device) : s.runsOn (s.resets f) := State.runsOn_settle rfl (fun _ h => h)

theorem State.liveReady_runsOn (s : State) (f : Device → Device) : s.runsOn (s.liveReady f) := by
  unfold State.liveReady
  simp only
  split
  · exact s.live_runsOn f
  · exact State.runsOn_settle rfl (fun _ hi => List.mem_of_mem_filter hi)

/-- A mailbox entry that has to wait is put among the waiting ones with its input placed. -/
theorem State.command_runsOn (s : State) {i : Instr} (c : CmdSpec) (e : Entry) (present : Bool) (body : Device → Reply)
    (hi : inputPlaced i = true) : s.runsOn (s.command i c e present body) := by
  unfold State.command
  split
  · exact s.runsOn_self
  · split
    · have k : s.inputsPlaced → ({ s with dev := s.dev.placeInput e, waiting := s.waiting ++ [i] } : State).inputsPlaced := by
        intro h j hj
        rcases List.mem_append.1 hj with hj | hj
        · exact h j hj
        · rw [List.mem_singleton.1 hj]
          exact hi
      exact ⟨_, rfl, by rw [State.settle_pending], fun h => State.settle_inv _ (k h.inputsPlaced), fun h => State.inputsPlaced_settle (k h)⟩
    · exact State.runsOn_settle rfl (fun _ h => h)

/-- On a device that is held in reset a mailbox entry does nothing. -/
theorem State.command_held {s : State} (h : s.dev.sec.inReset = true) (i : Instr) (c : CmdSpec) (e : Entry) (present : Bool)
    (body : Device → Reply) : s.command i c e present body = .next s := by
  simp [State.command, h]

theorem State.liveReady_held {s : State} (h : s.dev.sec.inReset = true) (f : Device → Device) : s.liveReady f = .next s := by
  simp [State.liveReady, State.live, h]

/-- Firmware's look at the queues changes neither the queue of commands nor what waits. -/
@[simp] theorem State.fetch_pending (s : State) : s.fetch.pending = s.pending := by
  simp only [State.fetch]

@[simp] theorem State.fetch_waiting (s : State) : s.fetch.waiting = s.waiting := by
  simp only [State.fetch]

end Sys2Proof.Machine
end

