-- ==== Sys2Proof/Laws/Mailbox.lean ====
section
/-! SUPPORT. What follows from an entry that firmware takes, and how a mailbox command's outcome is read off its body. -/

namespace Sys2Proof.Machine

/-- A chain of tests that ends in OK has passed its first test. -/
theorem ite_ok {c : Prop} [Decidable c] {a b : Nat} (ha : a ≠ 0) (h : (if c then a else b) = 0) : ¬ c ∧ b = 0 := by
  by_cases hc : c
  · rw [if_pos hc] at h
    exact absurd h ha
  · rw [if_neg hc] at h
    exact ⟨hc, h⟩

/-- An entry that passes the checks of R60 meets every one of them. -/
theorem Device.entryCheck_ok {d : Device} {c : CmdSpec} {e : Entry} {present : Bool} (h : d.entryCheck c e present = stOK) :
    present = true ∧ c.modes.contains d.mode = true ∧ ¬ (c.principal = true ∧ (!e.via.principal) = true)
      ∧ ¬ ((c.needsIn = true ∧ (!e.hostBuf) = true) ∨ (c.needsOut = true ∧ (!e.outBuf) = true)) := by
  unfold Device.entryCheck at h
  obtain ⟨_, h⟩ := ite_ok (by decide) h
  obtain ⟨_, h⟩ := ite_ok (by decide) h
  obtain ⟨h3, h⟩ := ite_ok (by decide) h
  obtain ⟨h4, h⟩ := ite_ok (by decide) h
  obtain ⟨_, h⟩ := ite_ok (by decide) h
  obtain ⟨_, h⟩ := ite_ok (by decide) h
  obtain ⟨_, h⟩ := ite_ok (by decide) h
  obtain ⟨_, h⟩ := ite_ok (by decide) h
  obtain ⟨_, h⟩ := ite_ok (by decide) h
  obtain ⟨_, h⟩ := ite_ok (by decide) h
  obtain ⟨h11, h⟩ := ite_ok (by decide) h
  obtain ⟨h12, h⟩ := ite_ok (by decide) h
  refine ⟨?_, ?_, h12, h4⟩
  · cases hp : present
    · rw [hp] at h3
      exact absurd rfl h3
    · rfl
  · cases hm : c.modes.contains d.mode
    · rw [hm] at h11
      exact absurd rfl h11
    · rfl

theorem State.takes_mode {s : State} {c : CmdSpec} {e : Entry} {present : Bool} (h : s.takes c e present) :
    c.modes.contains (s.dev.entered e).mode = true := (Device.entryCheck_ok h.2.2.2.2.2).2.1

theorem State.takes_present {s : State} {c : CmdSpec} {e : Entry} {present : Bool} (h : s.takes c e present) :
    present = true := (Device.entryCheck_ok h.2.2.2.2.2).1

/-- A row that is a mailbox entry runs as one; what waits of it is the same entry with its input placed. -/
theorem exec_command {i : Instr} {c : CmdSpec} {e : Entry} (s : State) (h : mailCommand i = some (c, e)) :
    ∃ j body, exec i s = s.command j c e (unitThere i s.dev) body ∧ mailCommand j = some (c, { e with inbuf := [] }) := by
  cases i <;> first | (cases h; exact ⟨_, _, rfl, rfl⟩) | cases h

/-- The outcome of a mailbox command is read off its body. -/
theorem State.gives_of {s : State} {i j : Instr} {c : CmdSpec} {e : Entry} {present : Bool} {body : Device → Reply}
    {P : Device → Reply → Prop} (hx : exec i s = s.command j c e present body)
    (h : s.takes c e present → P (s.dev.entered e) (body (s.dev.entered e))) : s.gives i c e present P := fun ht =>
  ⟨_, hx.trans (State.command_takes ht), h ht⟩

/-- A configuration change that can be taken up is taken up. -/
theorem Device.stageCmd_carries {d : Device} {e : Entry} {txn : Nat} {acc : Bool} {job : AloneJob}
    (h : d.takesChange e txn job.writes = true) : d.carries e txn acc job (d.stageCmd e txn acc job) := by
  unfold Device.takesChange at h
  unfold Device.carries Device.stageCmd
  by_cases ht : txn = 0
  · simp only [if_pos ht, decide_eq_true_eq] at h ⊢
    rw [if_neg (by rw [h]; decide)]
    cases acc <;> exact ⟨rfl, rfl, rfl, rfl⟩
  · simp only [if_neg ht, decide_eq_true_eq] at h ⊢
    rw [if_neg (by rw [h.1]; decide), if_neg (by rw [h.2.1]; decide), if_neg (by rw [h.2.2]; decide)]
    exact ⟨rfl, rfl, rfl, rfl⟩

/-- What is taken up has status OK or ACCEPTED. -/
theorem Device.carries_status {d : Device} {e : Entry} {txn : Nat} {acc : Bool} {job : AloneJob} {r : Reply}
    (h : d.carries e txn acc job r) : r.status = (if txn = 0 ∧ acc = true then stACCEPTED else stOK) := by
  unfold Device.carries at h
  by_cases ht : txn = 0
  · rw [if_pos ht] at h
    rw [h.1]
    cases acc <;> simp [ht]
  · rw [if_neg ht] at h
    rw [h.1, if_neg (fun a => ht a.1)]

/-- The same for a command with WAIT. -/
theorem Device.stageWait_carries {d : Device} {e : Entry} {txn scope : Nat} {wait : Bool} {key next : List Nat} {job : AloneJob}
    (h : d.takesChange e txn job.writes = true) :
    d.carriesWait e txn wait key next job (d.stageWait e txn wait key next scope job) := by
  have hc := Device.stageCmd_carries (acc := wait) (job := { job with next := if wait then next else [] }) h
  refine ⟨_, hc, ?_⟩
  have hs := Device.carries_status hc
  unfold Device.stageWait
  by_cases hw : txn ≠ 0 ∧ wait = true
  · rw [if_pos hw]
    have hs : _ = stOK := hs.trans (if_neg (fun a => hw.1 a.1))
    simp only []
    rw [if_pos ⟨hw.1, hw.2, hs⟩]
    exact ⟨rfl, rfl, rfl⟩
  · rw [if_neg hw]
    simp only []
    rw [if_neg (fun a => hw ⟨a.1, a.2.1⟩)]

/-- The same for a command that tells what the adoption leaves. -/
theorem Device.stageShow_carries {d : Device} {e : Entry} {txn : Nat} {job : AloneJob} (h : d.takesChange e txn job.writes = true) :
    d.carriesShow e txn job (d.stageShow e txn job) := by
  have hc := Device.stageCmd_carries (acc := false) h
  refine ⟨_, hc, ?_⟩
  have hs := Device.carries_status hc
  unfold Device.stageShow
  by_cases ht : txn = 0
  · simp [ht]
  · rw [if_neg ht]
    simp only []
    rw [if_neg (fun a => ht a.1)] at hs
    rw [if_pos ⟨ht, hs⟩]

/-! ### Placing the input and moving the sequence number on change host memory and the mailbox alone -/

@[simp] theorem Device.advanceSeq_regs (d : Device) (e : Entry) : (d.advanceSeq e).regs = d.regs := by
  unfold Device.advanceSeq
  split <;> rfl

@[simp] theorem Device.advanceSeq_hbm (d : Device) (e : Entry) : (d.advanceSeq e).hbm = d.hbm := by
  unfold Device.advanceSeq
  split <;> rfl

@[simp] theorem Device.advanceSeq_tim (d : Device) (e : Entry) : (d.advanceSeq e).tim = d.tim := by
  unfold Device.advanceSeq
  split <;> rfl

@[simp] theorem Device.advanceSeq_prt (d : Device) (e : Entry) : (d.advanceSeq e).prt = d.prt := by
  unfold Device.advanceSeq
  split <;> rfl

@[simp] theorem Device.advanceSeq_mot (d : Device) (e : Entry) : (d.advanceSeq e).mot = d.mot := by
  unfold Device.advanceSeq
  split <;> rfl

@[simp] theorem Device.advanceSeq_sec (d : Device) (e : Entry) : (d.advanceSeq e).sec = d.sec := by
  unfold Device.advanceSeq
  split <;> rfl

@[simp] theorem Device.advanceSeq_hst (d : Device) (e : Entry) : (d.advanceSeq e).hst = d.hst := by
  unfold Device.advanceSeq
  split <;> rfl

@[simp] theorem Device.advanceSeq_pow (d : Device) (e : Entry) : (d.advanceSeq e).pow = d.pow := by
  unfold Device.advanceSeq
  split <;> rfl

@[simp] theorem Device.advanceSeq_dlv (d : Device) (e : Entry) : (d.advanceSeq e).dlv = d.dlv := by
  unfold Device.advanceSeq
  split <;> rfl

@[simp] theorem Device.placeInput_regs (d : Device) (e : Entry) : (d.placeInput e).regs = d.regs := by
  unfold Device.placeInput
  split <;> rfl

@[simp] theorem Device.placeInput_hbm (d : Device) (e : Entry) : (d.placeInput e).hbm = d.hbm := by
  unfold Device.placeInput
  split <;> rfl

@[simp] theorem Device.placeInput_tim (d : Device) (e : Entry) : (d.placeInput e).tim = d.tim := by
  unfold Device.placeInput
  split <;> rfl

@[simp] theorem Device.placeInput_prt (d : Device) (e : Entry) : (d.placeInput e).prt = d.prt := by
  unfold Device.placeInput
  split <;> rfl

@[simp] theorem Device.placeInput_mot (d : Device) (e : Entry) : (d.placeInput e).mot = d.mot := by
  unfold Device.placeInput
  split <;> rfl

@[simp] theorem Device.placeInput_sec (d : Device) (e : Entry) : (d.placeInput e).sec = d.sec := by
  unfold Device.placeInput
  split <;> rfl

@[simp] theorem Device.placeInput_hst (d : Device) (e : Entry) : (d.placeInput e).hst = d.hst := by
  unfold Device.placeInput
  split <;> rfl

@[simp] theorem Device.placeInput_pow (d : Device) (e : Entry) : (d.placeInput e).pow = d.pow := by
  unfold Device.placeInput
  split <;> rfl

@[simp] theorem Device.placeInput_ctl (d : Device) (e : Entry) : (d.placeInput e).ctl = d.ctl := by
  unfold Device.placeInput
  split <;> rfl

@[simp] theorem Device.placeInput_dlv (d : Device) (e : Entry) : (d.placeInput e).dlv = d.dlv := by
  unfold Device.placeInput
  split <;> rfl

@[simp] theorem Device.advanceSeq_allocs (d : Device) (e : Entry) : (d.advanceSeq e).ctl.allocs = d.ctl.allocs := by
  unfold Device.advanceSeq
  split <;> rfl

@[simp] theorem Device.entered_regs (d : Device) (e : Entry) : (d.entered e).regs = d.regs := by
  unfold Device.entered
  simp

@[simp] theorem Device.entered_get (d : Device) (e : Entry) (f : Fld) (ix : List Nat) : (d.entered e).get f ix = d.get f ix := by
  simp [Device.get, Device.rd]

@[simp] theorem Device.entered_rd (d : Device) (e : Entry) (r : Reg) (ix : List Nat) : (d.entered e).rd r ix = d.rd r ix := by
  simp [Device.rd]

@[simp] theorem Device.entered_hbm (d : Device) (e : Entry) : (d.entered e).hbm = d.hbm := by
  unfold Device.entered
  simp

@[simp] theorem Device.entered_tim (d : Device) (e : Entry) : (d.entered e).tim = d.tim := by
  unfold Device.entered
  simp

@[simp] theorem Device.entered_prt (d : Device) (e : Entry) : (d.entered e).prt = d.prt := by
  unfold Device.entered
  simp

@[simp] theorem Device.entered_mot (d : Device) (e : Entry) : (d.entered e).mot = d.mot := by
  unfold Device.entered
  simp

@[simp] theorem Device.entered_sec (d : Device) (e : Entry) : (d.entered e).sec = d.sec := by
  unfold Device.entered
  simp

@[simp] theorem Device.entered_hst (d : Device) (e : Entry) : (d.entered e).hst = d.hst := by
  unfold Device.entered
  simp

@[simp] theorem Device.entered_pow (d : Device) (e : Entry) : (d.entered e).pow = d.pow := by
  unfold Device.entered
  simp

@[simp] theorem Device.entered_allocs (d : Device) (e : Entry) : (d.entered e).ctl.allocs = d.ctl.allocs := by
  unfold Device.entered
  simp

@[simp] theorem Device.entered_chans (d : Device) (e : Entry) : (d.entered e).dlv.chans = d.dlv.chans := by
  unfold Device.entered
  simp

/-! ### Fields of a laid out payload -/

theorem leBytes_length (n v : Nat) : (leBytes n v).length = n := by
  induction n generalizing v with
  | zero => rfl
  | succ n ih => simp [leBytes, ih]

theorem ofLE_leBytes (n v : Nat) : ofLE (leBytes n v) = v % 256 ^ n := by
  induction n generalizing v with
  | zero => simp [leBytes, ofLE, Nat.mod_one]
  | succ n ih =>
    simp only [leBytes, ofLE, ih, BitVec.toNat_ofNat]
    rw [show 256 ^ (n + 1) = 256 * 256 ^ n from by rw [pow_succ, Nat.mul_comm], Nat.mod_mul]

/-- The first field of a payload that begins with `n` little-endian bytes. -/
theorem fieldAt_head (n v : Nat) (bs : List Byte) : fieldAt (leBytes n v ++ bs) 0 n = v % 256 ^ n := by
  have h : fit n (leBytes n v ++ bs) = leBytes n v := by
    unfold fit
    rw [List.append_assoc, List.take_append_of_le_length (by simp [leBytes_length])]
    exact List.take_of_length_le (by simp [leBytes_length])
  simp [fieldAt, h, ofLE_leBytes]

/-- A later field lies where the bytes before it end. -/
theorem fieldAt_tail (m v off n : Nat) (bs : List Byte) : fieldAt (leBytes m v ++ bs) (m + off) n = fieldAt bs off n := by
  have : List.drop (m + off) (leBytes m v ++ bs) = List.drop off bs := by
    rw [List.drop_append, List.drop_of_length_le (by simp [leBytes_length])]
    simp [leBytes_length]
  simp [fieldAt, this]

end Sys2Proof.Machine
end

