-- ==== Sys2Proof/Laws/Queues.lean ====
section
/-! SUPPORT. Queue contexts and ownership: what a store of a context and a claim change, and what they leave alone. -/

namespace Sys2Proof.Machine

@[simp] theorem Device.ctx_put (d : Device) (f : Fld) (ix : List Nat) (v k : Nat) : (d.put f ix v).ctx k = d.ctx k := rfl
@[simp] theorem Device.ctx_wr (d : Device) (r : Reg) (ix : List Nat) (v : Word) (k : Nat) : (d.wr r ix v).ctx k = d.ctx k := rfl
@[simp] theorem Device.ctx_setCtl (d : Device) (c : ControlX) (k : Nat) : (d.setCtl c).ctx k = d.ctx k := rfl
@[simp] theorem Device.ctx_setMbox (d : Device) (j : Nat) (m : Mailbox) (k : Nat) : (d.setMbox j m).ctx k = d.ctx k := rfl

@[simp] theorem Device.ctx_setCtx_same (d : Device) (k : Nat) (c : QCtx) : (d.setCtx k c).ctx k = c := by
  simp [Device.ctx, Device.setCtx]

theorem Device.ctx_setCtx_ne (d : Device) {k j : Nat} (c : QCtx) (h : j ≠ k) : (d.setCtx k c).ctx j = d.ctx j := by
  simp [Device.ctx, Device.setCtx, Sparse.get_put_ne _ _ _ h]

@[simp] theorem Device.ctx_touch (d : Device) (q k : Nat) : (d.touch q).ctx k = d.ctx k := by
  unfold Device.touch Device.ctx
  split <;> rfl

@[simp] theorem Device.touch_ctl (d : Device) (q : Nat) : (d.touch q).ctl = d.ctl := by
  unfold Device.touch
  split <;> rfl

theorem Device.storeCtx_same (d : Device) (q : Nat) (c : QCtx) (h : ctxRefused q c = false) :
    (d.storeCtx q c).ctx q = { c with pin := c.pin && (decide (d.pinned < 4096) || (d.ctx q).pin) } := by
  simp [Device.storeCtx, h]

theorem Device.storeCtx_ne (d : Device) {q j : Nat} (c : QCtx) (hj : j ≠ q) : (d.storeCtx q c).ctx j = d.ctx j := by
  unfold Device.storeCtx
  split
  · rfl
  · simp [Device.ctx_setCtx_ne _ _ hj]

@[simp] theorem Device.storeCtx_ctl (d : Device) (q : Nat) (c : QCtx) : (d.storeCtx q c).ctl = d.ctl := by
  unfold Device.storeCtx
  split
  · rfl
  · exact d.touch_ctl q

/-! ### Ownership (R57) -/

@[simp] theorem Device.own_regs (d : Device) (v : Via) (r : Res) : (d.own v r).regs = d.regs := by unfold Device.own; split <;> rfl
@[simp] theorem Device.own_get (d : Device) (v : Via) (r : Res) (f : Fld) (ix : List Nat) : (d.own v r).get f ix = d.get f ix := by
  unfold Device.own; split <;> rfl
@[simp] theorem Device.own_rd (d : Device) (v : Via) (r : Res) (q : Reg) (ix : List Nat) : (d.own v r).rd q ix = d.rd q ix := by
  unfold Device.own; split <;> rfl
@[simp] theorem Device.own_ctx (d : Device) (v : Via) (r : Res) (k : Nat) : (d.own v r).ctx k = d.ctx k := by
  unfold Device.own; split <;> rfl
@[simp] theorem Device.own_mbox (d : Device) (v : Via) (r : Res) (k : Nat) : (d.own v r).mbox k = d.mbox k := by
  unfold Device.own; split <;> rfl
@[simp] theorem Device.own_allocs (d : Device) (v : Via) (r : Res) : (d.own v r).ctl.allocs = d.ctl.allocs := by
  unfold Device.own; split <;> rfl
@[simp] theorem Device.own_txs (d : Device) (v : Via) (r : Res) : (d.own v r).ctl.txs = d.ctl.txs := by
  unfold Device.own; split <;> rfl
@[simp] theorem Device.own_tim (d : Device) (v : Via) (r : Res) : (d.own v r).tim = d.tim := by unfold Device.own; split <;> rfl
@[simp] theorem Device.own_prt (d : Device) (v : Via) (r : Res) : (d.own v r).prt = d.prt := by unfold Device.own; split <;> rfl
@[simp] theorem Device.own_hbm (d : Device) (v : Via) (r : Res) : (d.own v r).hbm = d.hbm := by unfold Device.own; split <;> rfl
@[simp] theorem Device.own_hostMem (d : Device) (v : Via) (r : Res) : (d.own v r).hostMem = d.hostMem := by
  unfold Device.own; split <;> rfl
@[simp] theorem Device.own_dlv (d : Device) (v : Via) (r : Res) : (d.own v r).dlv = d.dlv := by unfold Device.own; split <;> rfl
@[simp] theorem Device.own_hst (d : Device) (v : Via) (r : Res) : (d.own v r).hst = d.hst := by unfold Device.own; split <;> rfl
@[simp] theorem Device.own_mot (d : Device) (v : Via) (r : Res) : (d.own v r).mot = d.mot := by unfold Device.own; split <;> rfl

theorem Device.own_owner (d : Device) (v : Via) (r : Res) : ((d.own v r).ownerOf r).isSome = true := by
  unfold Device.own
  split
  · assumption
  · rename_i h
    simp only [Device.ownerOf, Option.isSome_map, Device.setCtl] at h ⊢
    simp [List.find?_append]

@[simp] theorem Device.disown_ownerOf (d : Device) (r : Res) : (d.disown r).ownerOf r = none := by
  simp [Device.disown, Device.ownerOf, Device.setCtl]

end Sys2Proof.Machine
end

