-- ==== Sys2Proof/Laws/Store.lean ====
section
/-! SUPPORT. A store of the Ringmaster that the checkpoint admits reaches its register's own meaning. -/

namespace Sys2Proof.Machine

/-- An admitted store (R131): the register exists, its booth is present, no CS field is touched and the limits hold. -/
theorem Device.storeReg_admitted (d : Device) (s : Src) (addr : Nat) (mask v : Word) (row : RegRow) (ix : List Nat) (b : Nat)
    (hf : findReg addr = some (row, ix)) (hb : boothOf addr = some b) (hp : d.fusedAddr addr = false)
    (hm : b ≠ 12 ∨ d.motionTaken = false) (hcs : mask &&& row.maskOf (fun f => decide (f.acc = .cs)) = 0)
    (hl : ∀ w : MaskedWrite, w.addr = addr → d.limitOk (d.apply w) w = true) :
    d.storeReg s addr mask v = (false, d.admitted s b row ix mask v) := by
  have hall : mask &&& ~~~ row.maskOf (fun f => decide (f.acc = .cs)) = mask := by
    apply BitVec.eq_of_getLsbD_eq
    intro i hi
    have := congrArg (fun x => BitVec.getLsbD x i) hcs
    simp only [BitVec.getLsbD_and] at this
    simp only [BitVec.getLsbD_and, BitVec.getLsbD_not, hi, decide_true, Bool.true_and]
    cases h1 : mask.getLsbD i <;> cases h2 : (row.maskOf (fun f => decide (f.acc = .cs))).getLsbD i <;> simp_all
  unfold Device.storeReg
  simp only [hf, hb, hp, hcs]
  have hm' : ¬ (b = 12 ∧ d.motionTaken = true) := by
    rintro ⟨h1, h2⟩
    rcases hm with h | h
    · exact h h1
    · rw [h] at h2; cases h2
  simp [hm', hall, hl]

/-- The same for a store of the Ringmaster. -/
theorem Device.regStore_admitted (d : Device) (addr : Nat) (mask v : Word) (row : RegRow) (ix : List Nat) (b : Nat)
    (hf : findReg addr = some (row, ix)) (hb : boothOf addr = some b) (hp : d.fusedAddr addr = false)
    (hm : b ≠ 12 ∨ d.motionTaken = false) (hcs : mask &&& row.maskOf (fun f => decide (f.acc = .cs)) = 0)
    (hl : ∀ w : MaskedWrite, w.addr = addr → d.limitOk (d.apply w) w = true) :
    d.regStore addr mask v = d.admitted .ringmaster b row ix mask v := by
  simp [Device.regStore, Device.storeReg_admitted d .ringmaster addr mask v row ix b hf hb hp hm hcs hl]

/-- No booth but the port booths is ever fused off, and none of its registers but the blocks of the sequencers CAL0 to CAL7. -/
theorem Device.fusedAddr_high (d : Device) {a b : Nat} (hb : boothOf a = some b) (h : 8 ≤ b ∧ b ≤ 14)
    (hs : b ≠ 14 ∨ a / 0x100000 % 16 ≠ 2 ∨ 0x8000 ≤ a % 0x100000) : d.fusedAddr a = false := by
  have h1 : ¬ b < 8 := by omega
  have h2 : ¬ (b = 14 ∧ a / 0x100000 % 16 = 2 ∧ a % 0x100000 < 0x8000) := by omega
  simp only [Device.fusedAddr, hb, Device.boothPresent, h1, h.2, h2]
  simp

/-- The register block of a sequencer whose booth is present is there. -/
theorem Device.fusedAddr_seq (d : Device) {a : Nat} (n : Fin 16) (hp : n.val < 8 → d.portPresent n.val = true)
    (hb : boothOf a = some 14) (hs : a % 0x100000 / 0x1000 = n.val) : d.fusedAddr a = false := by
  simp only [Device.fusedAddr, hb, Device.boothPresent, hs]
  by_cases h : n.val < 8
  · simp [hp h]
  · have h2 : ¬ a % 0x100000 < 0x8000 := by omega
    simp [h2]

/-- The registers outside the motion booth whose writes the Net limits (R131). -/
def limitedRegs : List Reg :=
  [R.LN_TX, R.LN_CTL, R.PP_CTL, R.CAP_SC_RING, R.CAP_SC_SLOT, R.SW_CX_REF, R.SW_CX_REFG, R.SW_CX_RES, R.SW_CX_RESG, R.MB_RING,
    R.MB_RINGN, R.PAL_CH_SRC, R.PAL_CH_SRCG, R.PAL_CH_LOFF, R.TRG_CTL, R.BK_WIDTH, R.BK_PERIOD, R.BK_TGT, R.BK_CTL, R.NET_WIN_BASE,
    R.NET_WIN_LIMIT, R.NET_WIN_ATTR, R.NET_AX_DRV, R.NET_AX_ACC, R.NET_AX_PMIN, R.NET_AX_PMAX, R.NET_LN, R.NET_PIN, R.NET_VCORE]

/-- The Net admits every write of a register it has no limit for. -/
theorem Device.limitOk_free (d n : Device) (w : MaskedWrite) (row : RegRow) (ix : List Nat) (hf : findReg w.addr = some (row, ix))
    (hr : ∀ r ∈ limitedRegs, row.reg ≠ r) (ha : ¬ (0x0D000000 ≤ w.addr ∧ w.addr < 0x0E000000)) : d.limitOk n w = true := by
  simp only [limitedRegs, List.forall_mem_cons, List.not_mem_nil, false_imp_iff, implies_true, and_true] at hr
  unfold Device.limitOk
  simp [hf, hr, ha]

/-- The registers of the motion booth whose writes the Net limits (R398). -/
def limitedMotion : List Reg :=
  [R.MP_VEL, R.MP_HOME_V, R.MP_ACC, R.MP_JERK, R.MP_TARGET, R.MP_HOME_POS, R.MP_PRESET, R.CD_CUR, R.CD_CTL]

/-- The same in the motion booth. -/
theorem Device.limitOk_motion (d n : Device) (w : MaskedWrite) (row : RegRow) (ix : List Nat) (hf : findReg w.addr = some (row, ix))
    (hr : ∀ r ∈ limitedRegs, row.reg ≠ r) (hr' : ∀ r ∈ limitedMotion, row.reg ≠ r) (ha : 0x0D000000 ≤ w.addr ∧ w.addr < 0x0E000000) :
    d.limitOk n w = true := by
  simp only [limitedRegs, limitedMotion, List.forall_mem_cons, List.not_mem_nil, false_imp_iff, implies_true, and_true] at hr hr'
  unfold Device.limitOk
  simp only [hf, hr, if_false, false_or, ha, and_self, if_true]
  obtain ⟨h1, h2, h3, h4, h5, h6, h7, h8, h9⟩ := hr'
  unfold Device.axisLimitsOk
  have e2 : row.reg ≠ R.MP_HOME_V_HOME_V.reg := h2
  have e3 : row.reg ≠ R.MP_ACC_ACC.reg := h3
  have e3' : row.reg ≠ R.MP_ACC_DEC.reg := h3
  have e4 : row.reg ≠ R.MP_JERK_JERK.reg := h4
  have e5 : row.reg ≠ R.MP_TARGET_TARGET.reg := h5
  have e6 : row.reg ≠ R.MP_HOME_POS_HOME_POS.reg := h6
  have e7 : row.reg ≠ R.MP_PRESET_PRESET.reg := h7
  have e8 : row.reg ≠ R.CD_CUR_I_HOLD.reg := h8
  have e8' : row.reg ≠ R.CD_CUR_I_RUN.reg := h8
  simp [h1, e2, e3, e3', e4, e5, e6, e7, e8, e8', h9]

/-- A store into a register without limits and without CS fields among the written ones reaches the register. -/
theorem Device.regStore_free (d : Device) (addr : Nat) (mask v : Word) (row : RegRow) (ix : List Nat) (b : Nat)
    (hf : findReg addr = some (row, ix)) (hb : boothOf addr = some b) (hp : d.fusedAddr addr = false)
    (hm : b ≠ 12) (hcs : mask &&& row.maskOf (fun f => decide (f.acc = .cs)) = 0) (hr : ∀ r ∈ limitedRegs, row.reg ≠ r) :
    d.regStore addr mask v = d.admitted .ringmaster b row ix mask v := by
  refine d.regStore_admitted addr mask v row ix b hf hb hp (Or.inl hm) hcs (fun w hw => ?_)
  subst hw
  refine Device.limitOk_free _ _ _ row ix hf hr ?_
  rintro ⟨h1, h2⟩
  simp only [boothOf] at hb
  split at hb
  · simp only [Option.some.injEq] at hb
    omega
  · cases hb

/-- The same for the fields a command of the Ringmaster writes: `m` the bits they cover, `w` what stands in them. -/
theorem Device.strike_free (d : Device) (ix : List Nat) (f : Fld) (v : Nat) (fs : List (Fld × Nat)) (row : RegRow) (b : Nat)
    (m w : Word) (hM : ((f, v) :: fs).foldl (fun m f => m ||| f.1.mask) 0 = m)
    (hW : ((f, v) :: fs).foldl (fun v f => v ||| BitVec.ofNat 64 (f.2 % 2 ^ f.1.width * 2 ^ f.1.lo)) 0 = w)
    (hf : findReg (f.reg.addr ix) = some (row, ix)) (hb : boothOf (f.reg.addr ix) = some b) (hp : d.fusedAddr (f.reg.addr ix) = false)
    (hm : b ≠ 12) (hcs : m &&& row.maskOf (fun f => decide (f.acc = .cs)) = 0) (hr : ∀ r ∈ limitedRegs, row.reg ≠ r) :
    d.strike ix ((f, v) :: fs) = d.admitted .ringmaster b row ix m w := by
  subst hM hW
  exact d.regStore_free _ _ _ row ix b hf hb hp hm hcs hr

/-- A command of the Ringmaster writes fields of a register of the motion booth, which the motion supervisor has not taken. -/
theorem Device.strike_motion (d : Device) (ix : List Nat) (f : Fld) (v : Nat) (fs : List (Fld × Nat)) (row : RegRow)
    (m w : Word) (hM : ((f, v) :: fs).foldl (fun m f => m ||| f.1.mask) 0 = m)
    (hW : ((f, v) :: fs).foldl (fun v f => v ||| BitVec.ofNat 64 (f.2 % 2 ^ f.1.width * 2 ^ f.1.lo)) 0 = w)
    (hf : findReg (f.reg.addr ix) = some (row, ix)) (hb : boothOf (f.reg.addr ix) = some 12) (ht : d.motionTaken = false)
    (hcs : m &&& row.maskOf (fun f => decide (f.acc = .cs)) = 0) (hr : ∀ r ∈ limitedRegs, row.reg ≠ r)
    (hr' : ∀ r ∈ limitedMotion, row.reg ≠ r) : d.strike ix ((f, v) :: fs) = d.admitted .ringmaster 12 row ix m w := by
  subst hM hW
  refine d.regStore_admitted _ _ _ row ix 12 hf hb (Device.fusedAddr_high d hb (by decide) (Or.inl (by decide))) (Or.inr ht) hcs (fun w hw => ?_)
  have ha : 0x0D000000 ≤ w.addr ∧ w.addr < 0x0E000000 := by
    rw [show w.addr = f.reg.addr ix from hw]
    simp only [boothOf] at hb
    split at hb
    · simp only [Option.some.injEq] at hb
      omega
    · cases hb
  exact Device.limitOk_motion _ _ _ row ix (by rw [hw]; exact hf) hr hr' ha

/-! ### Port booths -/

/-- A register of a present port booth outside its lanes and its Palette is there. -/
theorem Device.fusedAddr_port (d : Device) {a : Nat} (p : Fin 8) (hp : d.portPresent p.val = true) (hb : boothOf a = some p.val)
    (hs : a / 0x100000 % 16 = 3 ∨ a / 0x100000 % 16 = 4) : d.fusedAddr a = false := by
  have h := p.isLt
  rcases hs with hs | hs <;> simp [Device.fusedAddr, hb, Device.boothPresent, h, hp, hs]

/-- A register of a present lane is there. -/
theorem Device.fusedAddr_lane (d : Device) {a : Nat} (l : Fin 16) (hp : d.portPresent (l.val / 2) = true)
    (hl : d.lanePresent l.val = true) (hb : boothOf a = some (l.val / 2)) (hs : a / 0x100000 % 16 = 1 + l.val % 2) :
    d.fusedAddr a = false := by
  have h : l.val / 2 < 8 := by omega
  have h2 : 2 * (l.val / 2) + l.val % 2 = l.val := by omega
  have h7 : ¬ 1 + l.val % 2 = 7 := by omega
  have h14 : ¬ l.val / 2 = 14 := by omega
  simp [Device.fusedAddr, hb, Device.boothPresent, h, hp, hs, h2, h7, h14, hl]

/-- An admitted store into a port booth or the seal booth. -/
theorem Device.admitted_port (d : Device) (s : Src) (b : Nat) (row : RegRow) (ix : List Nat) (m v : Word) (h : b < 8 ∨ b = 13) :
    d.admitted s b row ix m v = (d.wake b).portStore row ix m v := by
  simp only [Device.admitted]
  rw [if_neg (by omega), if_neg (by omega), if_neg (by omega)]

/-! ### What a plain write leaves -/

/-- A write that reaches no RW bit and clears no W1C bit leaves the register as it is. -/
theorem Device.plainWrite_none (d : Device) (row : RegRow) (ix : List Nat) (m v : Word)
    (h1 : row.maskOf (fun f => decide (f.acc = .rw)) &&& m = 0) (h2 : row.maskOf (fun f => decide (f.acc = .w1c)) &&& m &&& v = 0) :
    d.plainWrite row ix m v = d.wr row.reg ix (d.rd row.reg ix) := by
  have h : ∀ x : Word, x &&& 18446744073709551615#64 = x := fun x => BitVec.and_allOnes
  simp [Device.plainWrite, h1, h2, h]

/-- Writing a register's own value back changes no read. -/
theorem Device.rd_wr_self (d : Device) (r : Reg) (ix : List Nat) (q : Reg) (jx : List Nat)
    (h : q.addr jx = r.addr ix → q.reset = r.reset) : (d.wr r ix (d.rd r ix)).rd q jx = d.rd q jx := by
  by_cases ha : q.addr jx = r.addr ix
  · have hq := h ha
    simp [Device.rd, Device.wr, ha, hq]
  · exact Device.rd_wr_ne d _ ha

theorem Device.get_wr_self (d : Device) (r : Reg) (ix : List Nat) (f : Fld) (jx : List Nat)
    (h : f.reg.addr jx = r.addr ix → f.reg.reset = r.reset) : (d.wr r ix (d.rd r ix)).get f jx = d.get f jx := by
  simp [Device.get, Device.rd_wr_self d r ix _ jx h]

/-! ### Fields of a word put together from fields -/

theorem Fld.of_or (f : Fld) (a b : Word) : f.of (a ||| b) = f.of a ||| f.of b := by
  apply Nat.eq_of_testBit_eq
  intro n
  simp only [Fld.of_testBit, Nat.testBit_or, BitVec.getLsbD_or]
  cases decide (n < f.width) <;> simp

theorem Fld.of_zero (f : Fld) : f.of 0 = 0 := by simp [Fld.of, bits]

theorem Fld.into_zero (f : Fld) (v : Nat) : f.into 0 v = BitVec.ofNat 64 (v % 2 ^ f.width * 2 ^ f.lo) := by simp [Fld.into]

/-- The word that holds a value in one field reads as the value there, -/
theorem Fld.of_ofNat_same (f : Fld) (v : Nat) (h : f.fits = true) :
    f.of (BitVec.ofNat 64 (v % 2 ^ f.width * 2 ^ f.lo)) = v % 2 ^ f.width := by
  rw [← Fld.into_zero, Fld.of_into_same f _ v h]

/-- and as 0 in every field apart from it. -/
theorem Fld.of_ofNat_apart (f g : Fld) (v : Nat) (h : f.fits = true) (ha : f.apart g = true) :
    g.of (BitVec.ofNat 64 (v % 2 ^ f.width * 2 ^ f.lo)) = 0 := by
  rw [← Fld.into_zero, Fld.of_into_apart f g _ v h ha, Fld.of_zero]

/-- A write that does not reach a bit does not set it. -/
theorem set1_apart {f : Fld} {m : Word} (v : Word) (h : f.mask &&& m = 0) : set1 f m v = false := by simp [set1, h]

/-- A field the write covers reads in the merged word as written. -/
theorem Device.of_merged (d : Device) (row : RegRow) (ix : List Nat) (m v : Word) (f : Fld) (h : m &&& f.mask = f.mask)
    (hf : f.fits = true) : f.of (d.merged row ix m v) = f.of v := by
  apply Nat.eq_of_testBit_eq
  intro n
  rw [Fld.of_testBit, Fld.of_testBit]
  by_cases hn : n < f.width
  · have hm := congrArg (fun x => BitVec.getLsbD x (f.lo + n)) h
    have hk : f.mask.getLsbD (f.lo + n) = true := by rw [Fld.mask_getLsbD f _ hf]; simp [hn]
    simp only [BitVec.getLsbD_and, hk, Bool.and_true] at hm
    have : f.lo + n < 64 := by simp only [Fld.fits, decide_eq_true_eq] at hf; omega
    rw [BitVec.getLsbD_eq_getElem this] at hm
    simp [Device.merged, hm, this]
  · simp [hn]

/-- A write that covers exactly one RW field, whatever W1S and WO bits beside it, is a write of that field. -/
theorem Device.plainWrite_field (d : Device) (row : RegRow) (ix : List Nat) (m v : Word) (f : Fld) (x : Nat) (hreg : f.reg = row.reg)
    (h1 : row.maskOf (fun f => decide (f.acc = .rw)) &&& m = f.mask)
    (h2 : row.maskOf (fun f => decide (f.acc = .w1c)) &&& m &&& v = 0)
    (hv : v &&& f.mask = BitVec.ofNat 64 (x % 2 ^ f.width * 2 ^ f.lo)) : d.plainWrite row ix m v = d.put f ix x := by
  have h : ∀ x : Word, x &&& 18446744073709551615#64 = x := fun x => BitVec.and_allOnes
  simp only [Device.plainWrite, h1, h2, hv, Device.put, Fld.into, hreg]
  simp [h]

end Sys2Proof.Machine
end

