-- ==== Sys2Proof/Laws/Struck.lean ====
section
/-! SUPPORT. For each row that writes a register of its own: the store reaches the unit the register belongs to. -/

namespace Sys2Proof.Machine

section

set_option Elab.async false

theorem dma_ctl_found (e : Fin 32) (c : Fin 16) : findReg (R.DMA_CH_CTL.addr [e.val, c.val])
    = some (⟨R.DMA_CH_CTL, [R.DMA_CH_CTL_ARM, R.DMA_CH_CTL_DISARM, R.DMA_CH_CTL_PAUSE]⟩, [e.val, c.val]) := by
  revert e c
  decide +kernel


theorem Device.struck_calLoadGo (d : Device) (n : Fin 16) :
    d.strike [] [(R.CAL_LD_CTL_SEQ, n.val), (R.CAL_LD_CTL_GO, 1)] =
      ((d.wake 14).put R.CAL_LD_CTL_SEQ [] n.val).loadGo := by
  have hf : findReg (R.CAL_LD_CTL_SEQ.reg.addr []) = some (⟨R.CAL_LD_CTL, [R.CAL_LD_CTL_SEQ, R.CAL_LD_CTL_GO, R.CAL_LD_CTL_BUSY, R.CAL_LD_CTL_DONE, R.CAL_LD_CTL_ERR, R.CAL_LD_CTL_ERR_CODE, R.CAL_LD_CTL_ERR_INDEX, R.CAL_LD_CTL_ERR_IN_WORD]⟩, []) := by decide +kernel
  have hb : boothOf (R.CAL_LD_CTL_SEQ.reg.addr []) = some 14 := by decide +kernel
  have hs : (14 : Nat) ≠ 14 ∨ (R.CAL_LD_CTL_SEQ.reg.addr []) / 0x100000 % 16 ≠ 2 ∨ 0x8000 ≤ (R.CAL_LD_CTL_SEQ.reg.addr []) % 0x100000 := by decide +kernel
  rw [d.strike_free [] R.CAL_LD_CTL_SEQ n.val [(R.CAL_LD_CTL_GO, 1)] ⟨R.CAL_LD_CTL, [R.CAL_LD_CTL_SEQ, R.CAL_LD_CTL_GO, R.CAL_LD_CTL_BUSY, R.CAL_LD_CTL_DONE, R.CAL_LD_CTL_ERR, R.CAL_LD_CTL_ERR_CODE, R.CAL_LD_CTL_ERR_INDEX, R.CAL_LD_CTL_ERR_IN_WORD]⟩ 14
    31 _ (by show (0 : Word) ||| R.CAL_LD_CTL_SEQ.mask ||| R.CAL_LD_CTL_GO.mask = _; decide) rfl
    hf hb (Device.fusedAddr_high d hb (by decide) hs) (by decide) (by decide) (by decide)]
  simp (decide := true) only [Device.admitted, Device.controlStore, Device.on, if_true, if_false]
  rw [Device.plainWrite_field _ _ _ _ _ R.CAL_LD_CTL_SEQ n.val rfl (by decide) (by revert n; decide) (by revert n; decide)]
  rw [if_pos (by revert n; decide)]

theorem Device.struck_calHalt (d : Device) (n : Fin 16) (hp : n.val < 8 → d.portPresent n.val = true) :
    d.strike [n.val] [(R.CAL_CMD_HALT, 1)] =
      (d.wake 14).calHalt n.val := by
  have hf : ∀ n : Fin 16, findReg (R.CAL_CMD_HALT.reg.addr [n.val]) = some (⟨R.CAL_CMD, [R.CAL_CMD_HALT, R.CAL_CMD_RESUME, R.CAL_CMD_CLEAR]⟩, [n.val]) := by decide +kernel
  have hb : ∀ n : Fin 16, boothOf (R.CAL_CMD_HALT.reg.addr [n.val]) = some 14 := by decide +kernel
  have hs : ∀ n : Fin 16, (R.CAL_CMD_HALT.reg.addr [n.val]) % 0x100000 / 0x1000 = n.val := by decide +kernel
  rw [d.strike_free [n.val] R.CAL_CMD_HALT 1 [] ⟨R.CAL_CMD, [R.CAL_CMD_HALT, R.CAL_CMD_RESUME, R.CAL_CMD_CLEAR]⟩ 14
    1 1 (by show (0 : Word) ||| R.CAL_CMD_HALT.mask = _; decide) (by decide)
    (hf n) (hb n) (d.fusedAddr_seq n hp (hb n) (hs n)) (by decide) (by decide) (by decide)]
  simp (decide := true) only [Device.admitted, Device.controlStore, Device.on, if_true, if_false]
  rfl

theorem Device.struck_calResume (d : Device) (n : Fin 16) (hp : n.val < 8 → d.portPresent n.val = true) :
    d.strike [n.val] [(R.CAL_CMD_RESUME, 1)] =
      (d.wake 14).calResume n.val := by
  have hf : ∀ n : Fin 16, findReg (R.CAL_CMD_RESUME.reg.addr [n.val]) = some (⟨R.CAL_CMD, [R.CAL_CMD_HALT, R.CAL_CMD_RESUME, R.CAL_CMD_CLEAR]⟩, [n.val]) := by decide +kernel
  have hb : ∀ n : Fin 16, boothOf (R.CAL_CMD_RESUME.reg.addr [n.val]) = some 14 := by decide +kernel
  have hs : ∀ n : Fin 16, (R.CAL_CMD_RESUME.reg.addr [n.val]) % 0x100000 / 0x1000 = n.val := by decide +kernel
  rw [d.strike_free [n.val] R.CAL_CMD_RESUME 1 [] ⟨R.CAL_CMD, [R.CAL_CMD_HALT, R.CAL_CMD_RESUME, R.CAL_CMD_CLEAR]⟩ 14
    2 2 (by show (0 : Word) ||| R.CAL_CMD_RESUME.mask = _; decide) (by decide)
    (hf n) (hb n) (d.fusedAddr_seq n hp (hb n) (hs n)) (by decide) (by decide) (by decide)]
  simp (decide := true) only [Device.admitted, Device.controlStore, Device.on, if_true, if_false]
  rfl

theorem Device.struck_calClear (d : Device) (n : Fin 16) (hp : n.val < 8 → d.portPresent n.val = true) :
    d.strike [n.val] [(R.CAL_CMD_CLEAR, 1)] =
      (d.wake 14).calClear n.val := by
  have hf : ∀ n : Fin 16, findReg (R.CAL_CMD_CLEAR.reg.addr [n.val]) = some (⟨R.CAL_CMD, [R.CAL_CMD_HALT, R.CAL_CMD_RESUME, R.CAL_CMD_CLEAR]⟩, [n.val]) := by decide +kernel
  have hb : ∀ n : Fin 16, boothOf (R.CAL_CMD_CLEAR.reg.addr [n.val]) = some 14 := by decide +kernel
  have hs : ∀ n : Fin 16, (R.CAL_CMD_CLEAR.reg.addr [n.val]) % 0x100000 / 0x1000 = n.val := by decide +kernel
  rw [d.strike_free [n.val] R.CAL_CMD_CLEAR 1 [] ⟨R.CAL_CMD, [R.CAL_CMD_HALT, R.CAL_CMD_RESUME, R.CAL_CMD_CLEAR]⟩ 14
    4 4 (by show (0 : Word) ||| R.CAL_CMD_CLEAR.mask = _; decide) (by decide)
    (hf n) (hb n) (d.fusedAddr_seq n hp (hb n) (hs n)) (by decide) (by decide) (by decide)]
  simp (decide := true) only [Device.admitted, Device.controlStore, Device.on, if_true, if_false]
  rfl

theorem Device.struck_calAttach (d : Device) (n : Fin 16) (booths home : Nat) (hp : n.val < 8 → d.portPresent n.val = true) :
    d.strike [n.val] [(R.CAL_ATTACH_BOOTHS, booths), (R.CAL_ATTACH_HOME, home)] =
      (d.wake 14).calAttach n.val (booths % 2 ^ 15) (home % 2 ^ 4) := by
  have hf : ∀ n : Fin 16, findReg (R.CAL_ATTACH_BOOTHS.reg.addr [n.val]) = some (⟨R.CAL_ATTACH, [R.CAL_ATTACH_BOOTHS, R.CAL_ATTACH_HOME]⟩, [n.val]) := by decide +kernel
  have hb : ∀ n : Fin 16, boothOf (R.CAL_ATTACH_BOOTHS.reg.addr [n.val]) = some 14 := by decide +kernel
  have hs : ∀ n : Fin 16, (R.CAL_ATTACH_BOOTHS.reg.addr [n.val]) % 0x100000 / 0x1000 = n.val := by decide +kernel
  rw [d.strike_free [n.val] R.CAL_ATTACH_BOOTHS booths [(R.CAL_ATTACH_HOME, home)] ⟨R.CAL_ATTACH, [R.CAL_ATTACH_BOOTHS, R.CAL_ATTACH_HOME]⟩ 14
    1015807 _ (by show (0 : Word) ||| R.CAL_ATTACH_BOOTHS.mask ||| R.CAL_ATTACH_HOME.mask = _; decide) rfl
    (hf n) (hb n) (d.fusedAddr_seq n hp (hb n) (hs n)) (by decide) (by decide) (by decide)]
  simp (decide := true) only [Device.admitted, Device.controlStore, Device.on, if_true, if_false]
  simp (disch := decide) only [List.foldl, Fld.of_or, Fld.of_zero, Fld.of_ofNat_same, Fld.of_ofNat_apart, Nat.zero_or, Nat.or_zero]
  rfl

theorem Device.struck_lfDiag (d : Device) (p : Fin 8) (k : Fin 64) (hp : d.portPresent p.val = true) :
    d.strike [p.val] [(R.CAP_LF_DIAG_FIFO, k.val), (R.CAP_LF_DIAG_POP, 1)] =
      ((d.wake p.val).put R.CAP_LF_DIAG_FIFO [p.val] k.val).diagPop p.val := by
  have hf : ∀ p : Fin 8, findReg (R.CAP_LF_DIAG_FIFO.reg.addr [p.val]) = some (⟨R.CAP_LF_DIAG, [R.CAP_LF_DIAG_FIFO, R.CAP_LF_DIAG_POP, R.CAP_LF_DIAG_DENIED]⟩, [p.val]) := by decide +kernel
  have hb : ∀ p : Fin 8, boothOf (R.CAP_LF_DIAG_FIFO.reg.addr [p.val]) = some p.val := by decide +kernel
  have hs : ∀ p : Fin 8, (R.CAP_LF_DIAG_FIFO.reg.addr [p.val]) / 0x100000 % 16 = 3 ∨ (R.CAP_LF_DIAG_FIFO.reg.addr [p.val]) / 0x100000 % 16 = 4 := by decide +kernel
  rw [d.strike_free [p.val] R.CAP_LF_DIAG_FIFO k.val [(R.CAP_LF_DIAG_POP, 1)] ⟨R.CAP_LF_DIAG, [R.CAP_LF_DIAG_FIFO, R.CAP_LF_DIAG_POP, R.CAP_LF_DIAG_DENIED]⟩ p.val
    319 _ (by show (0 : Word) ||| R.CAP_LF_DIAG_FIFO.mask ||| R.CAP_LF_DIAG_POP.mask = _; decide) rfl
    (hf p) (hb p) (d.fusedAddr_port p hp (hb p) (hs p)) (by omega) (by decide) (by decide)]
  rw [Device.admitted_port _ _ _ _ _ _ _ (by omega)]
  simp (decide := true) only [Device.portStore, Device.on, if_true, if_false]
  rw [Device.plainWrite_field _ _ _ _ _ R.CAP_LF_DIAG_FIFO k.val rfl (by decide) (by revert k; decide) (by revert k; decide)]
  rw [if_pos (by revert k; decide)]
  rfl

theorem Device.struck_capOpen (d : Device) (p : Fin 8) (k : Fin 64) (hp : d.portPresent p.val = true) :
    d.strike [p.val] [(R.CAP_CMD_STREAM, k.val), (R.CAP_CMD_OP, 1)] =
      (d.wake p.val).capCmd p.val k.val 1 := by
  have hf : ∀ p : Fin 8, findReg (R.CAP_CMD_STREAM.reg.addr [p.val]) = some (⟨R.CAP_CMD, [R.CAP_CMD_STREAM, R.CAP_CMD_OP]⟩, [p.val]) := by decide +kernel
  have hb : ∀ p : Fin 8, boothOf (R.CAP_CMD_STREAM.reg.addr [p.val]) = some p.val := by decide +kernel
  have hs : ∀ p : Fin 8, (R.CAP_CMD_STREAM.reg.addr [p.val]) / 0x100000 % 16 = 3 ∨ (R.CAP_CMD_STREAM.reg.addr [p.val]) / 0x100000 % 16 = 4 := by decide +kernel
  rw [d.strike_free [p.val] R.CAP_CMD_STREAM k.val [(R.CAP_CMD_OP, 1)] ⟨R.CAP_CMD, [R.CAP_CMD_STREAM, R.CAP_CMD_OP]⟩ p.val
    1855 _ (by show (0 : Word) ||| R.CAP_CMD_STREAM.mask ||| R.CAP_CMD_OP.mask = _; decide) rfl
    (hf p) (hb p) (d.fusedAddr_port p hp (hb p) (hs p)) (by omega) (by decide) (by decide)]
  rw [Device.admitted_port _ _ _ _ _ _ _ (by omega)]
  simp (decide := true) only [Device.portStore, Device.on, if_true, if_false]
  simp (disch := decide) only [List.foldl, Fld.of_or, Fld.of_zero, Fld.of_ofNat_same, Fld.of_ofNat_apart, Nat.zero_or, Nat.or_zero]
  rw [Nat.mod_eq_of_lt (show k.val < 2 ^ R.CAP_CMD_STREAM.width from k.isLt)]
  rfl

theorem Device.struck_capClose (d : Device) (p : Fin 8) (k : Fin 64) (hp : d.portPresent p.val = true) :
    d.strike [p.val] [(R.CAP_CMD_STREAM, k.val), (R.CAP_CMD_OP, 2)] =
      (d.wake p.val).capCmd p.val k.val 2 := by
  have hf : ∀ p : Fin 8, findReg (R.CAP_CMD_STREAM.reg.addr [p.val]) = some (⟨R.CAP_CMD, [R.CAP_CMD_STREAM, R.CAP_CMD_OP]⟩, [p.val]) := by decide +kernel
  have hb : ∀ p : Fin 8, boothOf (R.CAP_CMD_STREAM.reg.addr [p.val]) = some p.val := by decide +kernel
  have hs : ∀ p : Fin 8, (R.CAP_CMD_STREAM.reg.addr [p.val]) / 0x100000 % 16 = 3 ∨ (R.CAP_CMD_STREAM.reg.addr [p.val]) / 0x100000 % 16 = 4 := by decide +kernel
  rw [d.strike_free [p.val] R.CAP_CMD_STREAM k.val [(R.CAP_CMD_OP, 2)] ⟨R.CAP_CMD, [R.CAP_CMD_STREAM, R.CAP_CMD_OP]⟩ p.val
    1855 _ (by show (0 : Word) ||| R.CAP_CMD_STREAM.mask ||| R.CAP_CMD_OP.mask = _; decide) rfl
    (hf p) (hb p) (d.fusedAddr_port p hp (hb p) (hs p)) (by omega) (by decide) (by decide)]
  rw [Device.admitted_port _ _ _ _ _ _ _ (by omega)]
  simp (decide := true) only [Device.portStore, Device.on, if_true, if_false]
  simp (disch := decide) only [List.foldl, Fld.of_or, Fld.of_zero, Fld.of_ofNat_same, Fld.of_ofNat_apart, Nat.zero_or, Nat.or_zero]
  rw [Nat.mod_eq_of_lt (show k.val < 2 ^ R.CAP_CMD_STREAM.width from k.isLt)]
  rfl

theorem Device.struck_capTruncate (d : Device) (p : Fin 8) (k : Fin 64) (hp : d.portPresent p.val = true) :
    d.strike [p.val] [(R.CAP_CMD_STREAM, k.val), (R.CAP_CMD_OP, 3)] =
      (d.wake p.val).capCmd p.val k.val 3 := by
  have hf : ∀ p : Fin 8, findReg (R.CAP_CMD_STREAM.reg.addr [p.val]) = some (⟨R.CAP_CMD, [R.CAP_CMD_STREAM, R.CAP_CMD_OP]⟩, [p.val]) := by decide +kernel
  have hb : ∀ p : Fin 8, boothOf (R.CAP_CMD_STREAM.reg.addr [p.val]) = some p.val := by decide +kernel
  have hs : ∀ p : Fin 8, (R.CAP_CMD_STREAM.reg.addr [p.val]) / 0x100000 % 16 = 3 ∨ (R.CAP_CMD_STREAM.reg.addr [p.val]) / 0x100000 % 16 = 4 := by decide +kernel
  rw [d.strike_free [p.val] R.CAP_CMD_STREAM k.val [(R.CAP_CMD_OP, 3)] ⟨R.CAP_CMD, [R.CAP_CMD_STREAM, R.CAP_CMD_OP]⟩ p.val
    1855 _ (by show (0 : Word) ||| R.CAP_CMD_STREAM.mask ||| R.CAP_CMD_OP.mask = _; decide) rfl
    (hf p) (hb p) (d.fusedAddr_port p hp (hb p) (hs p)) (by omega) (by decide) (by decide)]
  rw [Device.admitted_port _ _ _ _ _ _ _ (by omega)]
  simp (decide := true) only [Device.portStore, Device.on, if_true, if_false]
  simp (disch := decide) only [List.foldl, Fld.of_or, Fld.of_zero, Fld.of_ofNat_same, Fld.of_ofNat_apart, Nat.zero_or, Nat.or_zero]
  rw [Nat.mod_eq_of_lt (show k.val < 2 ^ R.CAP_CMD_STREAM.width from k.isLt)]
  rfl

theorem Device.struck_capRelease (d : Device) (p : Fin 8) (k : Fin 64) (gen : Bool) (slot : Nat) (hp : d.portPresent p.val = true) :
    d.strike [p.val] [(R.CAP_REL_STREAM, k.val), (R.CAP_REL_GEN, b2n gen), (R.CAP_REL_SLOT, slot)] =
      (d.wake p.val).capRelease p.val k.val gen (slot % 2 ^ 10) := by
  have hf : ∀ p : Fin 8, findReg (R.CAP_REL_STREAM.reg.addr [p.val]) = some (⟨R.CAP_REL, [R.CAP_REL_STREAM, R.CAP_REL_GEN, R.CAP_REL_SLOT]⟩, [p.val]) := by decide +kernel
  have hb : ∀ p : Fin 8, boothOf (R.CAP_REL_STREAM.reg.addr [p.val]) = some p.val := by decide +kernel
  have hs : ∀ p : Fin 8, (R.CAP_REL_STREAM.reg.addr [p.val]) / 0x100000 % 16 = 3 ∨ (R.CAP_REL_STREAM.reg.addr [p.val]) / 0x100000 % 16 = 4 := by decide +kernel
  rw [d.strike_free [p.val] R.CAP_REL_STREAM k.val [(R.CAP_REL_GEN, b2n gen), (R.CAP_REL_SLOT, slot)] ⟨R.CAP_REL, [R.CAP_REL_STREAM, R.CAP_REL_GEN, R.CAP_REL_SLOT]⟩ p.val
    67043647 _ (by show (0 : Word) ||| R.CAP_REL_STREAM.mask ||| R.CAP_REL_GEN.mask ||| R.CAP_REL_SLOT.mask = _; decide) rfl
    (hf p) (hb p) (d.fusedAddr_port p hp (hb p) (hs p)) (by omega) (by decide) (by decide)]
  rw [Device.admitted_port _ _ _ _ _ _ _ (by omega)]
  simp (decide := true) only [Device.portStore, Device.on, if_true, if_false]
  simp (disch := decide) only [List.foldl, Fld.of_or, Fld.of_zero, Fld.of_ofNat_same, Fld.of_ofNat_apart, Nat.zero_or, Nat.or_zero]
  rw [Nat.mod_eq_of_lt (show k.val < 2 ^ R.CAP_REL_STREAM.width from k.isLt)]
  cases gen <;> rfl

theorem Device.struck_mbFlush (d : Device) :
    d.strike [] [(R.MB_CTL_FLUSH, 1)] =
      ((d.wake 13).wr R.MB_CTL [] ((d.wake 13).rd R.MB_CTL [])).mbFlush := by
  have hf : findReg (R.MB_CTL_FLUSH.reg.addr []) = some (⟨R.MB_CTL, [R.MB_CTL_EN, R.MB_CTL_MAX_ENTRIES, R.MB_CTL_EMPTY_SKIP, R.MB_CTL_FLUSH]⟩, []) := by decide +kernel
  have hb : boothOf (R.MB_CTL_FLUSH.reg.addr []) = some 13 := by decide +kernel
  rw [d.strike_free [] R.MB_CTL_FLUSH 1 [] ⟨R.MB_CTL, [R.MB_CTL_EN, R.MB_CTL_MAX_ENTRIES, R.MB_CTL_EMPTY_SKIP, R.MB_CTL_FLUSH]⟩ 13
    65536 65536 (by show (0 : Word) ||| R.MB_CTL_FLUSH.mask = _; decide) (by decide)
    hf hb (Device.fusedAddr_high d hb (by decide) (Or.inl (by decide))) (by decide) (by decide) (by decide)]
  simp (decide := true) only [Device.admitted, Device.portStore, Device.on, if_true, if_false]
  rw [Device.plainWrite_none _ _ _ _ _ (by decide) (by decide)]

theorem Device.struck_mbRelease (d : Device) (slot : Nat) :
    d.strike [] [(R.MB_REL_SLOT, slot)] =
      (d.wake 13).mbRelease (slot % 2 ^ 6) := by
  have hf : findReg (R.MB_REL_SLOT.reg.addr []) = some (⟨R.MB_REL, [R.MB_REL_SLOT]⟩, []) := by decide +kernel
  have hb : boothOf (R.MB_REL_SLOT.reg.addr []) = some 13 := by decide +kernel
  rw [d.strike_free [] R.MB_REL_SLOT slot [] ⟨R.MB_REL, [R.MB_REL_SLOT]⟩ 13
    63 _ (by show (0 : Word) ||| R.MB_REL_SLOT.mask = _; decide) rfl
    hf hb (Device.fusedAddr_high d hb (by decide) (Or.inl (by decide))) (by decide) (by decide) (by decide)]
  simp (decide := true) only [Device.admitted, Device.portStore, Device.on, if_true, if_false]
  simp (disch := decide) only [List.foldl, Fld.of_or, Fld.of_zero, Fld.of_ofNat_same, Nat.zero_or]
  rfl

theorem Device.struck_txOpen (d : Device) (n : Fin 16) :
    d.strike [n.val] [(R.CUR_TX_CTL_OPEN, 1)] =
      if (d.wake 14).txCtlOpen n.val then ((d.wake 14).wr R.CUR_TX_CTL [n.val] ((d.wake 14).rd R.CUR_TX_CTL [n.val])).txOpen n.val else d.wake 14 := by
  have hf : ∀ n : Fin 16, findReg (R.CUR_TX_CTL_OPEN.reg.addr [n.val]) = some (⟨R.CUR_TX_CTL, [R.CUR_TX_CTL_OPEN, R.CUR_TX_CTL_COMMIT, R.CUR_TX_CTL_CANCEL, R.CUR_TX_CTL_MODE, R.CUR_TX_CTL_DL_EN, R.CUR_TX_CTL_ADOPT_EV_EN, R.CUR_TX_CTL_ABORT_EV_EN, R.CUR_TX_CTL_ADOPT_EV, R.CUR_TX_CTL_ABORT_EV, R.CUR_TX_CTL_TRIG]⟩, [n.val]) := by decide +kernel
  have hb : ∀ n : Fin 16, boothOf (R.CUR_TX_CTL_OPEN.reg.addr [n.val]) = some 14 := by decide +kernel
  have hs : ∀ n : Fin 16, (14 : Nat) ≠ 14 ∨ (R.CUR_TX_CTL_OPEN.reg.addr [n.val]) / 0x100000 % 16 ≠ 2 ∨ 0x8000 ≤ (R.CUR_TX_CTL_OPEN.reg.addr [n.val]) % 0x100000 := by decide +kernel
  rw [d.strike_free [n.val] R.CUR_TX_CTL_OPEN 1 [] ⟨R.CUR_TX_CTL, [R.CUR_TX_CTL_OPEN, R.CUR_TX_CTL_COMMIT, R.CUR_TX_CTL_CANCEL, R.CUR_TX_CTL_MODE, R.CUR_TX_CTL_DL_EN, R.CUR_TX_CTL_ADOPT_EV_EN, R.CUR_TX_CTL_ABORT_EV_EN, R.CUR_TX_CTL_ADOPT_EV, R.CUR_TX_CTL_ABORT_EV, R.CUR_TX_CTL_TRIG]⟩ 14
    1 1 (by show (0 : Word) ||| R.CUR_TX_CTL_OPEN.mask = _; decide) (by decide)
    (hf n) (hb n) (Device.fusedAddr_high d (hb n) (by decide) (hs n)) (by decide) (by decide) (by decide)]
  simp (decide := true) only [Device.admitted, Device.controlStore, Device.on, if_true, if_false]
  have hk : (1 : Word) &&& ~~~ R.CUR_TX_CTL_MODE.mask = 1 := by decide
  simp only [List.headD_cons, hk, ite_self]
  rw [Device.plainWrite_none _ _ _ _ _ (by decide) (by decide)]
  cases (d.wake 14).txCtlOpen n.val <;> rfl

theorem Device.struck_txCommit (d : Device) (n : Fin 16) :
    d.strike [n.val] [(R.CUR_TX_CTL_COMMIT, 1)] =
      if (d.wake 14).txCtlOpen n.val then ((d.wake 14).wr R.CUR_TX_CTL [n.val] ((d.wake 14).rd R.CUR_TX_CTL [n.val])).txCommit n.val 1 else d.wake 14 := by
  have hf : ∀ n : Fin 16, findReg (R.CUR_TX_CTL_COMMIT.reg.addr [n.val]) = some (⟨R.CUR_TX_CTL, [R.CUR_TX_CTL_OPEN, R.CUR_TX_CTL_COMMIT, R.CUR_TX_CTL_CANCEL, R.CUR_TX_CTL_MODE, R.CUR_TX_CTL_DL_EN, R.CUR_TX_CTL_ADOPT_EV_EN, R.CUR_TX_CTL_ABORT_EV_EN, R.CUR_TX_CTL_ADOPT_EV, R.CUR_TX_CTL_ABORT_EV, R.CUR_TX_CTL_TRIG]⟩, [n.val]) := by decide +kernel
  have hb : ∀ n : Fin 16, boothOf (R.CUR_TX_CTL_COMMIT.reg.addr [n.val]) = some 14 := by decide +kernel
  have hs : ∀ n : Fin 16, (14 : Nat) ≠ 14 ∨ (R.CUR_TX_CTL_COMMIT.reg.addr [n.val]) / 0x100000 % 16 ≠ 2 ∨ 0x8000 ≤ (R.CUR_TX_CTL_COMMIT.reg.addr [n.val]) % 0x100000 := by decide +kernel
  rw [d.strike_free [n.val] R.CUR_TX_CTL_COMMIT 1 [] ⟨R.CUR_TX_CTL, [R.CUR_TX_CTL_OPEN, R.CUR_TX_CTL_COMMIT, R.CUR_TX_CTL_CANCEL, R.CUR_TX_CTL_MODE, R.CUR_TX_CTL_DL_EN, R.CUR_TX_CTL_ADOPT_EV_EN, R.CUR_TX_CTL_ABORT_EV_EN, R.CUR_TX_CTL_ADOPT_EV, R.CUR_TX_CTL_ABORT_EV, R.CUR_TX_CTL_TRIG]⟩ 14
    2 2 (by show (0 : Word) ||| R.CUR_TX_CTL_COMMIT.mask = _; decide) (by decide)
    (hf n) (hb n) (Device.fusedAddr_high d (hb n) (by decide) (hs n)) (by decide) (by decide) (by decide)]
  simp (decide := true) only [Device.admitted, Device.controlStore, Device.on, if_true, if_false]
  have hk : (2 : Word) &&& ~~~ R.CUR_TX_CTL_MODE.mask = 2 := by decide
  simp only [List.headD_cons, hk, ite_self]
  rw [Device.plainWrite_none _ _ _ _ _ (by decide) (by decide)]
  cases (d.wake 14).txCtlOpen n.val <;> rfl

theorem Device.struck_txCancel (d : Device) (n : Fin 16) :
    d.strike [n.val] [(R.CUR_TX_CTL_CANCEL, 1)] =
      if (d.wake 14).txCtlOpen n.val then ((d.wake 14).wr R.CUR_TX_CTL [n.val] ((d.wake 14).rd R.CUR_TX_CTL [n.val])).txCancel n.val else d.wake 14 := by
  have hf : ∀ n : Fin 16, findReg (R.CUR_TX_CTL_CANCEL.reg.addr [n.val]) = some (⟨R.CUR_TX_CTL, [R.CUR_TX_CTL_OPEN, R.CUR_TX_CTL_COMMIT, R.CUR_TX_CTL_CANCEL, R.CUR_TX_CTL_MODE, R.CUR_TX_CTL_DL_EN, R.CUR_TX_CTL_ADOPT_EV_EN, R.CUR_TX_CTL_ABORT_EV_EN, R.CUR_TX_CTL_ADOPT_EV, R.CUR_TX_CTL_ABORT_EV, R.CUR_TX_CTL_TRIG]⟩, [n.val]) := by decide +kernel
  have hb : ∀ n : Fin 16, boothOf (R.CUR_TX_CTL_CANCEL.reg.addr [n.val]) = some 14 := by decide +kernel
  have hs : ∀ n : Fin 16, (14 : Nat) ≠ 14 ∨ (R.CUR_TX_CTL_CANCEL.reg.addr [n.val]) / 0x100000 % 16 ≠ 2 ∨ 0x8000 ≤ (R.CUR_TX_CTL_CANCEL.reg.addr [n.val]) % 0x100000 := by decide +kernel
  rw [d.strike_free [n.val] R.CUR_TX_CTL_CANCEL 1 [] ⟨R.CUR_TX_CTL, [R.CUR_TX_CTL_OPEN, R.CUR_TX_CTL_COMMIT, R.CUR_TX_CTL_CANCEL, R.CUR_TX_CTL_MODE, R.CUR_TX_CTL_DL_EN, R.CUR_TX_CTL_ADOPT_EV_EN, R.CUR_TX_CTL_ABORT_EV_EN, R.CUR_TX_CTL_ADOPT_EV, R.CUR_TX_CTL_ABORT_EV, R.CUR_TX_CTL_TRIG]⟩ 14
    4 4 (by show (0 : Word) ||| R.CUR_TX_CTL_CANCEL.mask = _; decide) (by decide)
    (hf n) (hb n) (Device.fusedAddr_high d (hb n) (by decide) (hs n)) (by decide) (by decide) (by decide)]
  simp (decide := true) only [Device.admitted, Device.controlStore, Device.on, if_true, if_false]
  have hk : (4 : Word) &&& ~~~ R.CUR_TX_CTL_MODE.mask = 4 := by decide
  simp only [List.headD_cons, hk, ite_self]
  rw [Device.plainWrite_none _ _ _ _ _ (by decide) (by decide)]
  cases (d.wake 14).txCtlOpen n.val <;> rfl

theorem Device.struck_ctxLoad (d : Device) :
    d.strike [] [(R.CAR_CTX_CMD_LOAD, 1)] =
      ((d.wake 8).wr R.CAR_CTX_CMD [] ((d.wake 8).rd R.CAR_CTX_CMD [])).ctxLoad := by
  have hf : findReg (R.CAR_CTX_CMD_LOAD.reg.addr []) = some (⟨R.CAR_CTX_CMD, [R.CAR_CTX_CMD_LOAD, R.CAR_CTX_CMD_STORE, R.CAR_CTX_CMD_BUSY, R.CAR_CTX_CMD_ERR]⟩, []) := by decide +kernel
  have hb : boothOf (R.CAR_CTX_CMD_LOAD.reg.addr []) = some 8 := by decide +kernel
  rw [d.strike_free [] R.CAR_CTX_CMD_LOAD 1 [] ⟨R.CAR_CTX_CMD, [R.CAR_CTX_CMD_LOAD, R.CAR_CTX_CMD_STORE, R.CAR_CTX_CMD_BUSY, R.CAR_CTX_CMD_ERR]⟩ 8
    1 1 (by show (0 : Word) ||| R.CAR_CTX_CMD_LOAD.mask = _; decide) (by decide)
    hf hb (Device.fusedAddr_high d hb (by decide) (Or.inl (by decide))) (by decide) (by decide) (by decide)]
  simp (decide := true) only [Device.admitted, Device.deliveryStore, Device.on, if_true, if_false]
  rw [Device.plainWrite_none _ _ _ _ _ (by decide) (by decide)]

theorem Device.struck_ctxStore (d : Device) :
    d.strike [] [(R.CAR_CTX_CMD_STORE, 1)] =
      ((d.wake 8).wr R.CAR_CTX_CMD [] ((d.wake 8).rd R.CAR_CTX_CMD [])).ctxStore := by
  have hf : findReg (R.CAR_CTX_CMD_STORE.reg.addr []) = some (⟨R.CAR_CTX_CMD, [R.CAR_CTX_CMD_LOAD, R.CAR_CTX_CMD_STORE, R.CAR_CTX_CMD_BUSY, R.CAR_CTX_CMD_ERR]⟩, []) := by decide +kernel
  have hb : boothOf (R.CAR_CTX_CMD_STORE.reg.addr []) = some 8 := by decide +kernel
  rw [d.strike_free [] R.CAR_CTX_CMD_STORE 1 [] ⟨R.CAR_CTX_CMD, [R.CAR_CTX_CMD_LOAD, R.CAR_CTX_CMD_STORE, R.CAR_CTX_CMD_BUSY, R.CAR_CTX_CMD_ERR]⟩ 8
    2 2 (by show (0 : Word) ||| R.CAR_CTX_CMD_STORE.mask = _; decide) (by decide)
    hf hb (Device.fusedAddr_high d hb (by decide) (Or.inl (by decide))) (by decide) (by decide) (by decide)]
  simp (decide := true) only [Device.admitted, Device.deliveryStore, Device.on, if_true, if_false]
  rw [Device.plainWrite_none _ _ _ _ _ (by decide) (by decide)]

theorem Device.struck_carTake (d : Device) :
    d.strike [] [(R.CAR_TAKE_CMD_TAKE, 1)] =
      (d.wake 8).carTake := by
  have hf : findReg (R.CAR_TAKE_CMD_TAKE.reg.addr []) = some (⟨R.CAR_TAKE_CMD, [R.CAR_TAKE_CMD_TAKE, R.CAR_TAKE_CMD_RESULT]⟩, []) := by decide +kernel
  have hb : boothOf (R.CAR_TAKE_CMD_TAKE.reg.addr []) = some 8 := by decide +kernel
  rw [d.strike_free [] R.CAR_TAKE_CMD_TAKE 1 [] ⟨R.CAR_TAKE_CMD, [R.CAR_TAKE_CMD_TAKE, R.CAR_TAKE_CMD_RESULT]⟩ 8
    1 1 (by show (0 : Word) ||| R.CAR_TAKE_CMD_TAKE.mask = _; decide) (by decide)
    hf hb (Device.fusedAddr_high d hb (by decide) (Or.inl (by decide))) (by decide) (by decide) (by decide)]
  simp (decide := true) only [Device.admitted, Device.deliveryStore, Device.on, if_true, if_false]

theorem Device.struck_dmaArm (d : Device) (e : Fin 32) (c : Fin 16) :
    d.strike [e.val, c.val] [(R.DMA_CH_CTL_ARM, 1)] =
      (d.wake 8).dmaArm e.val c.val := by
  have hf := dma_ctl_found e c
  have hb : ∀ e : Fin 32, ∀ c : Fin 16, boothOf (R.DMA_CH_CTL_ARM.reg.addr [e.val, c.val]) = some 8 := by decide +kernel
  rw [d.strike_free [e.val, c.val] R.DMA_CH_CTL_ARM 1 [] ⟨R.DMA_CH_CTL, [R.DMA_CH_CTL_ARM, R.DMA_CH_CTL_DISARM, R.DMA_CH_CTL_PAUSE]⟩ 8
    1 1 (by show (0 : Word) ||| R.DMA_CH_CTL_ARM.mask = _; decide) (by decide)
    hf (hb e c) (Device.fusedAddr_high d (hb e c) (by decide) (Or.inl (by decide))) (by decide) (by decide) (by decide)]
  simp (decide := true) only [Device.admitted, Device.deliveryStore, Device.on, if_true, if_false]
  rfl

theorem Device.struck_dmaDisarm (d : Device) (e : Fin 32) (c : Fin 16) :
    d.strike [e.val, c.val] [(R.DMA_CH_CTL_DISARM, 1)] =
      (d.wake 8).dmaDisarm e.val c.val := by
  have hf := dma_ctl_found e c
  have hb : ∀ e : Fin 32, ∀ c : Fin 16, boothOf (R.DMA_CH_CTL_DISARM.reg.addr [e.val, c.val]) = some 8 := by decide +kernel
  rw [d.strike_free [e.val, c.val] R.DMA_CH_CTL_DISARM 1 [] ⟨R.DMA_CH_CTL, [R.DMA_CH_CTL_ARM, R.DMA_CH_CTL_DISARM, R.DMA_CH_CTL_PAUSE]⟩ 8
    2 2 (by show (0 : Word) ||| R.DMA_CH_CTL_DISARM.mask = _; decide) (by decide)
    hf (hb e c) (Device.fusedAddr_high d (hb e c) (by decide) (Or.inl (by decide))) (by decide) (by decide) (by decide)]
  simp (decide := true) only [Device.admitted, Device.deliveryStore, Device.on, if_true, if_false]
  rfl

theorem Device.struck_dmaPause (d : Device) (e : Fin 32) (c : Fin 16) (on : Bool) :
    d.strike [e.val, c.val] [(R.DMA_CH_CTL_PAUSE, b2n on)] =
      (d.wake 8).dmaPause e.val c.val on := by
  have hf := dma_ctl_found e c
  have hb : ∀ e : Fin 32, ∀ c : Fin 16, boothOf (R.DMA_CH_CTL_PAUSE.reg.addr [e.val, c.val]) = some 8 := by decide +kernel
  rw [d.strike_free [e.val, c.val] R.DMA_CH_CTL_PAUSE (b2n on) [] ⟨R.DMA_CH_CTL, [R.DMA_CH_CTL_ARM, R.DMA_CH_CTL_DISARM, R.DMA_CH_CTL_PAUSE]⟩ 8
    4 _ (by show (0 : Word) ||| R.DMA_CH_CTL_PAUSE.mask = _; decide) rfl
    hf (hb e c) (Device.fusedAddr_high d (hb e c) (by decide) (Or.inl (by decide))) (by decide) (by decide) (by decide)]
  simp (decide := true) only [Device.admitted, Device.deliveryStore, Device.on, if_true, if_false]
  cases on <;> rfl

theorem Device.struck_trainStart (d : Device) (l : Fin 16) (hp : d.portPresent (l.val / 2) = true) (hl : d.lanePresent l.val = true) :
    d.strike (lx l.val) [(R.LN_TRAIN_CTL_START, 1)] =
      if (d.wake (l.val / 2)).training l.val then d.wake (l.val / 2) else ((d.wake (l.val / 2)).wr R.LN_TRAIN_CTL (lx l.val) ((d.wake (l.val / 2)).rd R.LN_TRAIN_CTL (lx l.val))).trainStart l.val := by
  have hf : ∀ l : Fin 16, findReg (R.LN_TRAIN_CTL_START.reg.addr (lx l.val)) = some (⟨R.LN_TRAIN_CTL, [R.LN_TRAIN_CTL_START, R.LN_TRAIN_CTL_ABORT, R.LN_TRAIN_CTL_AUTO, R.LN_TRAIN_CTL_FAR_PRESET, R.LN_TRAIN_CTL_LOCAL_PRESET, R.LN_TRAIN_CTL_PRECODE_REQ, R.LN_TRAIN_CTL_TIMEOUT]⟩, (lx l.val)) := by decide +kernel
  have hb : ∀ l : Fin 16, boothOf (R.LN_TRAIN_CTL_START.reg.addr (lx l.val)) = some (l.val / 2) := by decide +kernel
  have hs : ∀ l : Fin 16, (R.LN_TRAIN_CTL_START.reg.addr (lx l.val)) / 0x100000 % 16 = 1 + l.val % 2 := by decide +kernel
  rw [d.strike_free (lx l.val) R.LN_TRAIN_CTL_START 1 [] ⟨R.LN_TRAIN_CTL, [R.LN_TRAIN_CTL_START, R.LN_TRAIN_CTL_ABORT, R.LN_TRAIN_CTL_AUTO, R.LN_TRAIN_CTL_FAR_PRESET, R.LN_TRAIN_CTL_LOCAL_PRESET, R.LN_TRAIN_CTL_PRECODE_REQ, R.LN_TRAIN_CTL_TIMEOUT]⟩ (l.val / 2)
    1 1 (by show (0 : Word) ||| R.LN_TRAIN_CTL_START.mask = _; decide) (by decide)
    (hf l) (hb l) (d.fusedAddr_lane l hp hl (hb l) (hs l)) (by omega) (by decide) (by decide)]
  rw [Device.admitted_port _ _ _ _ _ _ _ (by omega)]
  have hx : 2 * (lx l.val).headD 0 + (lx l.val).getD 1 0 = l.val := by simp only [lx, List.headD_cons, List.getD_cons_succ, List.getD_cons_zero]; omega
  simp (decide := true) only [Device.portStore, Device.on, if_true, if_false, hx]
  rw [Device.plainWrite_none _ _ _ _ _ (by decide) (by decide)]

theorem Device.struck_trainAbort (d : Device) (l : Fin 16) (hp : d.portPresent (l.val / 2) = true) (hl : d.lanePresent l.val = true) :
    d.strike (lx l.val) [(R.LN_TRAIN_CTL_ABORT, 1)] =
      (d.wake (l.val / 2)).trainAbort l.val := by
  have hf : ∀ l : Fin 16, findReg (R.LN_TRAIN_CTL_ABORT.reg.addr (lx l.val)) = some (⟨R.LN_TRAIN_CTL, [R.LN_TRAIN_CTL_START, R.LN_TRAIN_CTL_ABORT, R.LN_TRAIN_CTL_AUTO, R.LN_TRAIN_CTL_FAR_PRESET, R.LN_TRAIN_CTL_LOCAL_PRESET, R.LN_TRAIN_CTL_PRECODE_REQ, R.LN_TRAIN_CTL_TIMEOUT]⟩, (lx l.val)) := by decide +kernel
  have hb : ∀ l : Fin 16, boothOf (R.LN_TRAIN_CTL_ABORT.reg.addr (lx l.val)) = some (l.val / 2) := by decide +kernel
  have hs : ∀ l : Fin 16, (R.LN_TRAIN_CTL_ABORT.reg.addr (lx l.val)) / 0x100000 % 16 = 1 + l.val % 2 := by decide +kernel
  rw [d.strike_free (lx l.val) R.LN_TRAIN_CTL_ABORT 1 [] ⟨R.LN_TRAIN_CTL, [R.LN_TRAIN_CTL_START, R.LN_TRAIN_CTL_ABORT, R.LN_TRAIN_CTL_AUTO, R.LN_TRAIN_CTL_FAR_PRESET, R.LN_TRAIN_CTL_LOCAL_PRESET, R.LN_TRAIN_CTL_PRECODE_REQ, R.LN_TRAIN_CTL_TIMEOUT]⟩ (l.val / 2)
    2 2 (by show (0 : Word) ||| R.LN_TRAIN_CTL_ABORT.mask = _; decide) (by decide)
    (hf l) (hb l) (d.fusedAddr_lane l hp hl (hb l) (hs l)) (by omega) (by decide) (by decide)]
  rw [Device.admitted_port _ _ _ _ _ _ _ (by omega)]
  have hx : 2 * (lx l.val).headD 0 + (lx l.val).getD 1 0 = l.val := by simp only [lx, List.headD_cons, List.getD_cons_succ, List.getD_cons_zero]; omega
  simp (decide := true) only [Device.portStore, Device.on, if_true, if_false, hx]

theorem Device.struck_trainReq (d : Device) (l : Fin 16) (request : BitVec 16) (hp : d.portPresent (l.val / 2) = true) (hl : d.lanePresent l.val = true) :
    d.strike (lx l.val) [(R.LN_TRAIN_REQ_REQ, request.toNat)] =
      (d.wake (l.val / 2)).trainReqWrite l.val request.toNat := by
  have hf : ∀ l : Fin 16, findReg (R.LN_TRAIN_REQ_REQ.reg.addr (lx l.val)) = some (⟨R.LN_TRAIN_REQ, [R.LN_TRAIN_REQ_REQ, R.LN_TRAIN_REQ_DONE]⟩, (lx l.val)) := by decide +kernel
  have hb : ∀ l : Fin 16, boothOf (R.LN_TRAIN_REQ_REQ.reg.addr (lx l.val)) = some (l.val / 2) := by decide +kernel
  have hs : ∀ l : Fin 16, (R.LN_TRAIN_REQ_REQ.reg.addr (lx l.val)) / 0x100000 % 16 = 1 + l.val % 2 := by decide +kernel
  rw [d.strike_free (lx l.val) R.LN_TRAIN_REQ_REQ request.toNat [] ⟨R.LN_TRAIN_REQ, [R.LN_TRAIN_REQ_REQ, R.LN_TRAIN_REQ_DONE]⟩ (l.val / 2)
    65535 _ (by show (0 : Word) ||| R.LN_TRAIN_REQ_REQ.mask = _; decide) rfl
    (hf l) (hb l) (d.fusedAddr_lane l hp hl (hb l) (hs l)) (by omega) (by decide) (by decide)]
  rw [Device.admitted_port _ _ _ _ _ _ _ (by omega)]
  have hx : 2 * (lx l.val).headD 0 + (lx l.val).getD 1 0 = l.val := by simp only [lx, List.headD_cons, List.getD_cons_succ, List.getD_cons_zero]; omega
  simp (decide := true) only [Device.portStore, Device.on, if_true, if_false, hx]
  rw [set1_apart _ (by decide)]
  simp (disch := decide) only [List.foldl, Fld.of_or, Fld.of_zero, Fld.of_ofNat_same, Nat.zero_or]
  rw [Nat.mod_eq_of_lt (show request.toNat < 2 ^ R.LN_TRAIN_REQ_REQ.width from request.isLt)]
  rfl

theorem Device.struck_trainDone (d : Device) (l : Fin 16) (hp : d.portPresent (l.val / 2) = true) (hl : d.lanePresent l.val = true) :
    d.strike (lx l.val) [(R.LN_TRAIN_REQ_DONE, 1)] =
      (d.wake (l.val / 2)).trainDoneWrite l.val := by
  have hf : ∀ l : Fin 16, findReg (R.LN_TRAIN_REQ_DONE.reg.addr (lx l.val)) = some (⟨R.LN_TRAIN_REQ, [R.LN_TRAIN_REQ_REQ, R.LN_TRAIN_REQ_DONE]⟩, (lx l.val)) := by decide +kernel
  have hb : ∀ l : Fin 16, boothOf (R.LN_TRAIN_REQ_DONE.reg.addr (lx l.val)) = some (l.val / 2) := by decide +kernel
  have hs : ∀ l : Fin 16, (R.LN_TRAIN_REQ_DONE.reg.addr (lx l.val)) / 0x100000 % 16 = 1 + l.val % 2 := by decide +kernel
  rw [d.strike_free (lx l.val) R.LN_TRAIN_REQ_DONE 1 [] ⟨R.LN_TRAIN_REQ, [R.LN_TRAIN_REQ_REQ, R.LN_TRAIN_REQ_DONE]⟩ (l.val / 2)
    65536 65536 (by show (0 : Word) ||| R.LN_TRAIN_REQ_DONE.mask = _; decide) (by decide)
    (hf l) (hb l) (d.fusedAddr_lane l hp hl (hb l) (hs l)) (by omega) (by decide) (by decide)]
  rw [Device.admitted_port _ _ _ _ _ _ _ (by omega)]
  have hx : 2 * (lx l.val).headD 0 + (lx l.val).getD 1 0 = l.val := by simp only [lx, List.headD_cons, List.getD_cons_succ, List.getD_cons_zero]; omega
  simp (decide := true) only [Device.portStore, Device.on, if_true, if_false, hx]

theorem Device.struck_slip (d : Device) (l : Fin 16) (hp : d.portPresent (l.val / 2) = true) (hl : d.lanePresent l.val = true) :
    d.strike (lx l.val) [(R.LN_ALIGN_CTL_SLIP, 1)] =
      ((d.wake (l.val / 2)).wr R.LN_ALIGN_CTL (lx l.val) ((d.wake (l.val / 2)).rd R.LN_ALIGN_CTL (lx l.val))).laneSlip l.val := by
  have hf : ∀ l : Fin 16, findReg (R.LN_ALIGN_CTL_SLIP.reg.addr (lx l.val)) = some (⟨R.LN_ALIGN_CTL, [R.LN_ALIGN_CTL_SLIP, R.LN_ALIGN_CTL_SLIP_BUSY, R.LN_ALIGN_CTL_ENABLE, R.LN_ALIGN_CTL_PERIOD, R.LN_ALIGN_CTL_CONFIRM, R.LN_ALIGN_CTL_LOSE]⟩, (lx l.val)) := by decide +kernel
  have hb : ∀ l : Fin 16, boothOf (R.LN_ALIGN_CTL_SLIP.reg.addr (lx l.val)) = some (l.val / 2) := by decide +kernel
  have hs : ∀ l : Fin 16, (R.LN_ALIGN_CTL_SLIP.reg.addr (lx l.val)) / 0x100000 % 16 = 1 + l.val % 2 := by decide +kernel
  rw [d.strike_free (lx l.val) R.LN_ALIGN_CTL_SLIP 1 [] ⟨R.LN_ALIGN_CTL, [R.LN_ALIGN_CTL_SLIP, R.LN_ALIGN_CTL_SLIP_BUSY, R.LN_ALIGN_CTL_ENABLE, R.LN_ALIGN_CTL_PERIOD, R.LN_ALIGN_CTL_CONFIRM, R.LN_ALIGN_CTL_LOSE]⟩ (l.val / 2)
    1 1 (by show (0 : Word) ||| R.LN_ALIGN_CTL_SLIP.mask = _; decide) (by decide)
    (hf l) (hb l) (d.fusedAddr_lane l hp hl (hb l) (hs l)) (by omega) (by decide) (by decide)]
  rw [Device.admitted_port _ _ _ _ _ _ _ (by omega)]
  have hx : 2 * (lx l.val).headD 0 + (lx l.val).getD 1 0 = l.val := by simp only [lx, List.headD_cons, List.getD_cons_succ, List.getD_cons_zero]; omega
  simp (decide := true) only [Device.portStore, Device.on, if_true, if_false, hx]
  rw [Device.plainWrite_none _ _ _ _ _ (by decide) (by decide), Device.plainWrite_none _ _ _ _ _ (by decide) (by decide), ite_self,
    if_neg (by
    simp only [Device.flag]
    rw [Device.get_wr_self _ R.LN_ALIGN_CTL _ R.LN_ALIGN_CTL_ENABLE _ (fun _ => rfl)]
    simp)]

theorem Device.struck_hist (d : Device) (l : Fin 16) (hp : d.portPresent (l.val / 2) = true) (hl : d.lanePresent l.val = true) :
    d.strike (lx l.val) [(R.LN_HIST_CTL_START, 1)] =
      ((d.wake (l.val / 2)).wr R.LN_HIST_CTL (lx l.val) ((d.wake (l.val / 2)).rd R.LN_HIST_CTL (lx l.val))).histStart l.val := by
  have hf : ∀ l : Fin 16, findReg (R.LN_HIST_CTL_START.reg.addr (lx l.val)) = some (⟨R.LN_HIST_CTL, [R.LN_HIST_CTL_START, R.LN_HIST_CTL_BUSY, R.LN_HIST_CTL_WIN]⟩, (lx l.val)) := by decide +kernel
  have hb : ∀ l : Fin 16, boothOf (R.LN_HIST_CTL_START.reg.addr (lx l.val)) = some (l.val / 2) := by decide +kernel
  have hs : ∀ l : Fin 16, (R.LN_HIST_CTL_START.reg.addr (lx l.val)) / 0x100000 % 16 = 1 + l.val % 2 := by decide +kernel
  rw [d.strike_free (lx l.val) R.LN_HIST_CTL_START 1 [] ⟨R.LN_HIST_CTL, [R.LN_HIST_CTL_START, R.LN_HIST_CTL_BUSY, R.LN_HIST_CTL_WIN]⟩ (l.val / 2)
    1 1 (by show (0 : Word) ||| R.LN_HIST_CTL_START.mask = _; decide) (by decide)
    (hf l) (hb l) (d.fusedAddr_lane l hp hl (hb l) (hs l)) (by omega) (by decide) (by decide)]
  rw [Device.admitted_port _ _ _ _ _ _ _ (by omega)]
  have hx : 2 * (lx l.val).headD 0 + (lx l.val).getD 1 0 = l.val := by simp only [lx, List.headD_cons, List.getD_cons_succ, List.getD_cons_zero]; omega
  simp (decide := true) only [Device.portStore, Device.on, if_true, if_false, hx]
  rw [Device.plainWrite_none _ _ _ _ _ (by decide) (by decide)]

theorem Device.struck_modeWrite (d : Device) (mode : Fin 4) :
    d.strike [] [(R.HM_MODE_MODE, mode.val)] =
      (d.wake 14).modeWrite mode.val := by
  have hf : findReg (R.HM_MODE_MODE.reg.addr []) = some (⟨R.HM_MODE, [R.HM_MODE_MODE]⟩, []) := by decide +kernel
  have hb : boothOf (R.HM_MODE_MODE.reg.addr []) = some 14 := by decide +kernel
  have hs : (14 : Nat) ≠ 14 ∨ (R.HM_MODE_MODE.reg.addr []) / 0x100000 % 16 ≠ 2 ∨ 0x8000 ≤ (R.HM_MODE_MODE.reg.addr []) % 0x100000 := by decide +kernel
  rw [d.strike_free [] R.HM_MODE_MODE mode.val [] ⟨R.HM_MODE, [R.HM_MODE_MODE]⟩ 14
    3 _ (by show (0 : Word) ||| R.HM_MODE_MODE.mask = _; decide) rfl
    hf hb (Device.fusedAddr_high d hb (by decide) hs) (by decide) (by decide) (by decide)]
  simp (decide := true) only [Device.admitted, Device.controlStore, Device.on, if_true, if_false]
  simp (disch := decide) only [List.foldl, Fld.of_or, Fld.of_zero, Fld.of_ofNat_same, Nat.zero_or]
  rw [Nat.mod_eq_of_lt (show mode.val < 2 ^ R.HM_MODE_MODE.width from mode.isLt)]

theorem Device.struck_svnRequest (d : Device) (target : Nat) :
    d.strike [] [(R.SEC_SVN_REQ_TARGET, target)] =
      ((d.wake 14).wr R.SEC_SVN_REQ [] ((d.wake 14).rd R.SEC_SVN_REQ [])).svnRequest (target % 2 ^ 13) := by
  have hf : findReg (R.SEC_SVN_REQ_TARGET.reg.addr []) = some (⟨R.SEC_SVN_REQ, [R.SEC_SVN_REQ_TARGET, R.SEC_SVN_REQ_BUSY, R.SEC_SVN_REQ_CAPPED]⟩, []) := by decide +kernel
  have hb : boothOf (R.SEC_SVN_REQ_TARGET.reg.addr []) = some 14 := by decide +kernel
  have hs : (14 : Nat) ≠ 14 ∨ (R.SEC_SVN_REQ_TARGET.reg.addr []) / 0x100000 % 16 ≠ 2 ∨ 0x8000 ≤ (R.SEC_SVN_REQ_TARGET.reg.addr []) % 0x100000 := by decide +kernel
  rw [d.strike_free [] R.SEC_SVN_REQ_TARGET target [] ⟨R.SEC_SVN_REQ, [R.SEC_SVN_REQ_TARGET, R.SEC_SVN_REQ_BUSY, R.SEC_SVN_REQ_CAPPED]⟩ 14
    8191 _ (by show (0 : Word) ||| R.SEC_SVN_REQ_TARGET.mask = _; decide) rfl
    hf hb (Device.fusedAddr_high d hb (by decide) hs) (by decide) (by decide) (by decide)]
  simp (decide := true) only [Device.admitted, Device.controlStore, Device.on, if_true, if_false]
  have hw : RegRow.maskOf ⟨R.SEC_SVN_REQ, [R.SEC_SVN_REQ_TARGET, R.SEC_SVN_REQ_BUSY, R.SEC_SVN_REQ_CAPPED]⟩ (fun f => decide (f.acc = .w1c))
      &&& (8191 : Word) = 0 := by decide
  rw [Device.plainWrite_none _ _ _ _ _ (by decide) (by rw [hw]; simp)]
  simp (disch := decide) only [List.foldl, Fld.of_or, Fld.of_zero, Fld.of_ofNat_same, Nat.zero_or]
  rfl

theorem Device.struck_requestGo (d : Device) :
    d.strike [] [(R.SEC_REQ_CTL_GO, 1)] =
      ((d.wake 14).wr R.SEC_REQ_CTL [] ((d.wake 14).rd R.SEC_REQ_CTL [])).requestGo := by
  have hf : findReg (R.SEC_REQ_CTL_GO.reg.addr []) = some (⟨R.SEC_REQ_CTL, [R.SEC_REQ_CTL_LEN, R.SEC_REQ_CTL_GO, R.SEC_REQ_CTL_BUSY, R.SEC_REQ_CTL_DONE, R.SEC_REQ_CTL_RESULT]⟩, []) := by decide +kernel
  have hb : boothOf (R.SEC_REQ_CTL_GO.reg.addr []) = some 14 := by decide +kernel
  have hs : (14 : Nat) ≠ 14 ∨ (R.SEC_REQ_CTL_GO.reg.addr []) / 0x100000 % 16 ≠ 2 ∨ 0x8000 ≤ (R.SEC_REQ_CTL_GO.reg.addr []) % 0x100000 := by decide +kernel
  rw [d.strike_free [] R.SEC_REQ_CTL_GO 1 [] ⟨R.SEC_REQ_CTL, [R.SEC_REQ_CTL_LEN, R.SEC_REQ_CTL_GO, R.SEC_REQ_CTL_BUSY, R.SEC_REQ_CTL_DONE, R.SEC_REQ_CTL_RESULT]⟩ 14
    65536 65536 (by show (0 : Word) ||| R.SEC_REQ_CTL_GO.mask = _; decide) (by decide)
    hf hb (Device.fusedAddr_high d hb (by decide) hs) (by decide) (by decide) (by decide)]
  simp (decide := true) only [Device.admitted, Device.controlStore, Device.on, if_true, if_false]
  rw [Device.plainWrite_none _ _ _ _ _ (by decide) (by decide)]

theorem Device.struck_quoteGo (d : Device) :
    d.strike [] [(R.SEC_Q_CTL_GO, 1)] =
      ((d.wake 14).wr R.SEC_Q_CTL [] ((d.wake 14).rd R.SEC_Q_CTL [])).quoteGo := by
  have hf : findReg (R.SEC_Q_CTL_GO.reg.addr []) = some (⟨R.SEC_Q_CTL, [R.SEC_Q_CTL_GO, R.SEC_Q_CTL_BUSY, R.SEC_Q_CTL_DONE, R.SEC_Q_CTL_REFUSED]⟩, []) := by decide +kernel
  have hb : boothOf (R.SEC_Q_CTL_GO.reg.addr []) = some 14 := by decide +kernel
  have hs : (14 : Nat) ≠ 14 ∨ (R.SEC_Q_CTL_GO.reg.addr []) / 0x100000 % 16 ≠ 2 ∨ 0x8000 ≤ (R.SEC_Q_CTL_GO.reg.addr []) % 0x100000 := by decide +kernel
  rw [d.strike_free [] R.SEC_Q_CTL_GO 1 [] ⟨R.SEC_Q_CTL, [R.SEC_Q_CTL_GO, R.SEC_Q_CTL_BUSY, R.SEC_Q_CTL_DONE, R.SEC_Q_CTL_REFUSED]⟩ 14
    1 1 (by show (0 : Word) ||| R.SEC_Q_CTL_GO.mask = _; decide) (by decide)
    hf hb (Device.fusedAddr_high d hb (by decide) hs) (by decide) (by decide) (by decide)]
  simp (decide := true) only [Device.admitted, Device.controlStore, Device.on, if_true, if_false]
  rw [Device.plainWrite_none _ _ _ _ _ (by decide) (by decide)]

theorem Device.struck_newChallenge (d : Device) :
    d.strike [] [(R.SEC_DBG_CTL_NEW_CHAL, 1)] =
      (d.wake 14).newChallenge := by
  have hf : findReg (R.SEC_DBG_CTL_NEW_CHAL.reg.addr []) = some (⟨R.SEC_DBG_CTL, [R.SEC_DBG_CTL_NEW_CHAL, R.SEC_DBG_CTL_CHAL_VALID]⟩, []) := by decide +kernel
  have hb : boothOf (R.SEC_DBG_CTL_NEW_CHAL.reg.addr []) = some 14 := by decide +kernel
  have hs : (14 : Nat) ≠ 14 ∨ (R.SEC_DBG_CTL_NEW_CHAL.reg.addr []) / 0x100000 % 16 ≠ 2 ∨ 0x8000 ≤ (R.SEC_DBG_CTL_NEW_CHAL.reg.addr []) % 0x100000 := by decide +kernel
  rw [d.strike_free [] R.SEC_DBG_CTL_NEW_CHAL 1 [] ⟨R.SEC_DBG_CTL, [R.SEC_DBG_CTL_NEW_CHAL, R.SEC_DBG_CTL_CHAL_VALID]⟩ 14
    1 1 (by show (0 : Word) ||| R.SEC_DBG_CTL_NEW_CHAL.mask = _; decide) (by decide)
    hf hb (Device.fusedAddr_high d hb (by decide) hs) (by decide) (by decide) (by decide)]
  simp (decide := true) only [Device.admitted, Device.controlStore, Device.on, if_true, if_false]

theorem Device.struck_sdnWrite (d : Device) (sdn : Nat) :
    d.strike [] [(R.SEC_SDN_SDN, sdn)] =
      (d.wake 14).sdnWrite (sdn % 2 ^ 16) := by
  have hf : findReg (R.SEC_SDN_SDN.reg.addr []) = some (⟨R.SEC_SDN, [R.SEC_SDN_SDN]⟩, []) := by decide +kernel
  have hb : boothOf (R.SEC_SDN_SDN.reg.addr []) = some 14 := by decide +kernel
  have hs : (14 : Nat) ≠ 14 ∨ (R.SEC_SDN_SDN.reg.addr []) / 0x100000 % 16 ≠ 2 ∨ 0x8000 ≤ (R.SEC_SDN_SDN.reg.addr []) % 0x100000 := by decide +kernel
  rw [d.strike_free [] R.SEC_SDN_SDN sdn [] ⟨R.SEC_SDN, [R.SEC_SDN_SDN]⟩ 14
    65535 _ (by show (0 : Word) ||| R.SEC_SDN_SDN.mask = _; decide) rfl
    hf hb (Device.fusedAddr_high d hb (by decide) hs) (by decide) (by decide) (by decide)]
  simp (decide := true) only [Device.admitted, Device.controlStore, Device.on, if_true, if_false]
  simp (disch := decide) only [List.foldl, Device.of_merged, Fld.of_or, Fld.of_zero, Fld.of_ofNat_same, Nat.zero_or]
  rfl

theorem Device.struck_wdtTimeout (d : Device) (timeout : Nat) :
    d.strike [] [(R.RM_WDT_CTL_TIMEOUT, timeout)] =
      (d.wake 14).wdtWrite (timeout % 2 ^ 14) false := by
  have hf : findReg (R.RM_WDT_CTL_TIMEOUT.reg.addr []) = some (⟨R.RM_WDT_CTL, [R.RM_WDT_CTL_TIMEOUT, R.RM_WDT_CTL_LOCK]⟩, []) := by decide +kernel
  have hb : boothOf (R.RM_WDT_CTL_TIMEOUT.reg.addr []) = some 14 := by decide +kernel
  have hs : (14 : Nat) ≠ 14 ∨ (R.RM_WDT_CTL_TIMEOUT.reg.addr []) / 0x100000 % 16 ≠ 2 ∨ 0x8000 ≤ (R.RM_WDT_CTL_TIMEOUT.reg.addr []) % 0x100000 := by decide +kernel
  rw [d.strike_free [] R.RM_WDT_CTL_TIMEOUT timeout [] ⟨R.RM_WDT_CTL, [R.RM_WDT_CTL_TIMEOUT, R.RM_WDT_CTL_LOCK]⟩ 14
    16383 _ (by show (0 : Word) ||| R.RM_WDT_CTL_TIMEOUT.mask = _; decide) rfl
    hf hb (Device.fusedAddr_high d hb (by decide) hs) (by decide) (by decide) (by decide)]
  simp (decide := true) only [Device.admitted, Device.controlStore, Device.on, if_true, if_false]
  rw [set1_apart _ (by decide)]
  simp (disch := decide) only [List.foldl, Device.of_merged, Fld.of_or, Fld.of_zero, Fld.of_ofNat_same, Nat.zero_or]
  rfl

theorem Device.struck_wdtLock (d : Device) :
    d.strike [] [(R.RM_WDT_CTL_LOCK, 1)] =
      (d.wake 14).wdtWrite ((d.wake 14).get R.RM_WDT_CTL_TIMEOUT []) true := by
  have hf : findReg (R.RM_WDT_CTL_LOCK.reg.addr []) = some (⟨R.RM_WDT_CTL, [R.RM_WDT_CTL_TIMEOUT, R.RM_WDT_CTL_LOCK]⟩, []) := by decide +kernel
  have hb : boothOf (R.RM_WDT_CTL_LOCK.reg.addr []) = some 14 := by decide +kernel
  have hs : (14 : Nat) ≠ 14 ∨ (R.RM_WDT_CTL_LOCK.reg.addr []) / 0x100000 % 16 ≠ 2 ∨ 0x8000 ≤ (R.RM_WDT_CTL_LOCK.reg.addr []) % 0x100000 := by decide +kernel
  rw [d.strike_free [] R.RM_WDT_CTL_LOCK 1 [] ⟨R.RM_WDT_CTL, [R.RM_WDT_CTL_TIMEOUT, R.RM_WDT_CTL_LOCK]⟩ 14
    16384 16384 (by show (0 : Word) ||| R.RM_WDT_CTL_LOCK.mask = _; decide) (by decide)
    hf hb (Device.fusedAddr_high d hb (by decide) hs) (by decide) (by decide) (by decide)]
  simp (decide := true) only [Device.admitted, Device.controlStore, Device.on, if_true, if_false]
  rfl

theorem Device.struck_wdtKick (d : Device) (key : Byte) :
    d.strike [] [(R.RM_WDT_KICK_KEY, key.toNat)] =
      (d.wake 14).wdtKick key.toNat := by
  have hf : findReg (R.RM_WDT_KICK_KEY.reg.addr []) = some (⟨R.RM_WDT_KICK, [R.RM_WDT_KICK_KEY]⟩, []) := by decide +kernel
  have hb : boothOf (R.RM_WDT_KICK_KEY.reg.addr []) = some 14 := by decide +kernel
  have hs : (14 : Nat) ≠ 14 ∨ (R.RM_WDT_KICK_KEY.reg.addr []) / 0x100000 % 16 ≠ 2 ∨ 0x8000 ≤ (R.RM_WDT_KICK_KEY.reg.addr []) % 0x100000 := by decide +kernel
  rw [d.strike_free [] R.RM_WDT_KICK_KEY key.toNat [] ⟨R.RM_WDT_KICK, [R.RM_WDT_KICK_KEY]⟩ 14
    255 _ (by show (0 : Word) ||| R.RM_WDT_KICK_KEY.mask = _; decide) rfl
    hf hb (Device.fusedAddr_high d hb (by decide) hs) (by decide) (by decide) (by decide)]
  simp (decide := true) only [Device.admitted, Device.controlStore, Device.on, if_true, if_false]
  simp (disch := decide) only [List.foldl, Fld.of_or, Fld.of_zero, Fld.of_ofNat_same, Nat.zero_or]
  rw [Nat.mod_eq_of_lt (show key.toNat < 2 ^ R.RM_WDT_KICK_KEY.width from key.isLt)]

theorem Device.struck_bmbComplete (d : Device) (n : Fin 8) :
    d.strike [] [(R.RM_BMB_DONE_DONE, 2 ^ n.val)] =
      (d.wake 14).bmbComplete n.val := by
  have hf : findReg (R.RM_BMB_DONE_DONE.reg.addr []) = some (⟨R.RM_BMB_DONE, [R.RM_BMB_DONE_DONE]⟩, []) := by decide +kernel
  have hb : boothOf (R.RM_BMB_DONE_DONE.reg.addr []) = some 14 := by decide +kernel
  have hs : (14 : Nat) ≠ 14 ∨ (R.RM_BMB_DONE_DONE.reg.addr []) / 0x100000 % 16 ≠ 2 ∨ 0x8000 ≤ (R.RM_BMB_DONE_DONE.reg.addr []) % 0x100000 := by decide +kernel
  rw [d.strike_free [] R.RM_BMB_DONE_DONE (2 ^ n.val) [] ⟨R.RM_BMB_DONE, [R.RM_BMB_DONE_DONE]⟩ 14
    255 _ (by show (0 : Word) ||| R.RM_BMB_DONE_DONE.mask = _; decide) rfl
    hf hb (Device.fusedAddr_high d hb (by decide) hs) (by decide) (by decide) (by decide)]
  simp (decide := true) only [Device.admitted, Device.controlStore, Device.on, if_true, if_false]
  fin_cases n <;> rfl

theorem Device.struck_incr (d : Device) (incr : BitVec 40) :
    d.strike [] [(R.TB_INCR_INCR, incr.toNat)] =
      (d.wake 11).setIncr incr.toNat := by
  have hf : findReg (R.TB_INCR_INCR.reg.addr []) = some (⟨R.TB_INCR, [R.TB_INCR_INCR]⟩, []) := by decide +kernel
  have hb : boothOf (R.TB_INCR_INCR.reg.addr []) = some 11 := by decide +kernel
  rw [d.strike_free [] R.TB_INCR_INCR incr.toNat [] ⟨R.TB_INCR, [R.TB_INCR_INCR]⟩ 11
    1099511627775 _ (by show (0 : Word) ||| R.TB_INCR_INCR.mask = _; decide) rfl
    hf hb (Device.fusedAddr_high d hb (by decide) (Or.inl (by decide))) (by decide) (by decide) (by decide)]
  simp (decide := true) only [Device.admitted, Device.timingStore, Device.on, if_true, if_false]
  simp (disch := decide) only [List.foldl, Device.of_merged, Fld.of_or, Fld.of_zero, Fld.of_ofNat_same, Nat.zero_or]
  rw [Nat.mod_eq_of_lt (show incr.toNat < 2 ^ R.TB_INCR_INCR.width from incr.isLt)]

theorem Device.struck_stepGo (d : Device) :
    d.strike [] [(R.TB_STEP_CTL_GO, 1)] =
      ((d.wake 11).wr R.TB_STEP_CTL [] ((d.wake 11).rd R.TB_STEP_CTL [])).stepGo := by
  have hf : findReg (R.TB_STEP_CTL_GO.reg.addr []) = some (⟨R.TB_STEP_CTL, [R.TB_STEP_CTL_GO, R.TB_STEP_CTL_BOTH, R.TB_STEP_CTL_LOAD, R.TB_STEP_CTL_AT, R.TB_STEP_CTL_BUSY]⟩, []) := by decide +kernel
  have hb : boothOf (R.TB_STEP_CTL_GO.reg.addr []) = some 11 := by decide +kernel
  rw [d.strike_free [] R.TB_STEP_CTL_GO 1 [] ⟨R.TB_STEP_CTL, [R.TB_STEP_CTL_GO, R.TB_STEP_CTL_BOTH, R.TB_STEP_CTL_LOAD, R.TB_STEP_CTL_AT, R.TB_STEP_CTL_BUSY]⟩ 11
    1 1 (by show (0 : Word) ||| R.TB_STEP_CTL_GO.mask = _; decide) (by decide)
    hf hb (Device.fusedAddr_high d hb (by decide) (Or.inl (by decide))) (by decide) (by decide) (by decide)]
  simp (decide := true) only [Device.admitted, Device.timingStore, Device.on, if_true, if_false]
  rw [Device.plainWrite_none _ _ _ _ _ (by decide) (by decide)]

theorem Device.struck_slewAbort (d : Device) :
    d.strike [] [(R.TB_SLEW_CTL_ABORT, 1)] =
      ((d.wake 11).wr R.TB_SLEW_CTL [] ((d.wake 11).rd R.TB_SLEW_CTL [])).slewAbort := by
  have hf : findReg (R.TB_SLEW_CTL_ABORT.reg.addr []) = some (⟨R.TB_SLEW_CTL, [R.TB_SLEW_CTL_RATE, R.TB_SLEW_CTL_GO, R.TB_SLEW_CTL_BOTH, R.TB_SLEW_CTL_ABORT]⟩, []) := by decide +kernel
  have hb : boothOf (R.TB_SLEW_CTL_ABORT.reg.addr []) = some 11 := by decide +kernel
  rw [d.strike_free [] R.TB_SLEW_CTL_ABORT 1 [] ⟨R.TB_SLEW_CTL, [R.TB_SLEW_CTL_RATE, R.TB_SLEW_CTL_GO, R.TB_SLEW_CTL_BOTH, R.TB_SLEW_CTL_ABORT]⟩ 11
    17179869184 17179869184 (by show (0 : Word) ||| R.TB_SLEW_CTL_ABORT.mask = _; decide) (by decide)
    hf hb (Device.fusedAddr_high d hb (by decide) (Or.inl (by decide))) (by decide) (by decide) (by decide)]
  simp (decide := true) only [Device.admitted, Device.timingStore, Device.on, if_true, if_false]
  rw [Device.plainWrite_none _ _ _ _ _ (by decide) (by decide)]

theorem Device.struck_snapshot (d : Device) :
    d.strike [] [(R.TB_SNAP_CTL_GO, 1)] =
      ((d.wake 11).wr R.TB_SNAP_CTL [] ((d.wake 11).rd R.TB_SNAP_CTL [])).snapshot := by
  have hf : findReg (R.TB_SNAP_CTL_GO.reg.addr []) = some (⟨R.TB_SNAP_CTL, [R.TB_SNAP_CTL_GO, R.TB_SNAP_CTL_DONE, R.TB_SNAP_CTL_EV, R.TB_SNAP_CTL_EV_EN]⟩, []) := by decide +kernel
  have hb : boothOf (R.TB_SNAP_CTL_GO.reg.addr []) = some 11 := by decide +kernel
  rw [d.strike_free [] R.TB_SNAP_CTL_GO 1 [] ⟨R.TB_SNAP_CTL, [R.TB_SNAP_CTL_GO, R.TB_SNAP_CTL_DONE, R.TB_SNAP_CTL_EV, R.TB_SNAP_CTL_EV_EN]⟩ 11
    1 1 (by show (0 : Word) ||| R.TB_SNAP_CTL_GO.mask = _; decide) (by decide)
    hf hb (Device.fusedAddr_high d hb (by decide) (Or.inl (by decide))) (by decide) (by decide) (by decide)]
  simp (decide := true) only [Device.admitted, Device.timingStore, Device.on, if_true, if_false]
  rw [Device.plainWrite_none _ _ _ _ _ (by decide) (by decide)]

theorem Device.struck_ptmStart (d : Device) :
    d.strike [] [(R.PTM_CTL_GO, 1)] =
      ((d.wake 10).wr R.PTM_CTL [] ((d.wake 10).rd R.PTM_CTL [])).ptmStart := by
  have hf : findReg (R.PTM_CTL_GO.reg.addr []) = some (⟨R.PTM_CTL, [R.PTM_CTL_GO, R.PTM_CTL_AUTO, R.PTM_CTL_PERIOD_MS]⟩, []) := by decide +kernel
  have hb : boothOf (R.PTM_CTL_GO.reg.addr []) = some 10 := by decide +kernel
  rw [d.strike_free [] R.PTM_CTL_GO 1 [] ⟨R.PTM_CTL, [R.PTM_CTL_GO, R.PTM_CTL_AUTO, R.PTM_CTL_PERIOD_MS]⟩ 10
    1 1 (by show (0 : Word) ||| R.PTM_CTL_GO.mask = _; decide) (by decide)
    hf hb (Device.fusedAddr_high d hb (by decide) (Or.inl (by decide))) (by decide) (by decide) (by decide)]
  simp (decide := true) only [Device.admitted, Device.deliveryStore, Device.on, if_true, if_false]
  rw [Device.plainWrite_none _ _ _ _ _ (by decide) (by decide)]

theorem Device.struck_mwFire (d : Device) (c : Fin 256) :
    d.strike [] [(R.MW_FIRE_CH, c.val)] =
      (d.wake 11).mwFire .ringmaster c.val := by
  have hf : findReg (R.MW_FIRE_CH.reg.addr []) = some (⟨R.MW_FIRE, [R.MW_FIRE_CH]⟩, []) := by decide +kernel
  have hb : boothOf (R.MW_FIRE_CH.reg.addr []) = some 11 := by decide +kernel
  rw [d.strike_free [] R.MW_FIRE_CH c.val [] ⟨R.MW_FIRE, [R.MW_FIRE_CH]⟩ 11
    255 _ (by show (0 : Word) ||| R.MW_FIRE_CH.mask = _; decide) rfl
    hf hb (Device.fusedAddr_high d hb (by decide) (Or.inl (by decide))) (by decide) (by decide) (by decide)]
  simp (decide := true) only [Device.admitted, Device.timingStore, Device.on, if_true, if_false]
  simp (disch := decide) only [List.foldl, Fld.of_or, Fld.of_zero, Fld.of_ofNat_same, Nat.zero_or]
  rw [Nat.mod_eq_of_lt (show c.val < 2 ^ R.MW_FIRE_CH.width from c.isLt)]

theorem Device.struck_stampPop (d : Device) (n : Fin 16) :
    d.strike [n.val] [(R.TRG_IN_POP, 1)] =
      (d.wake 11).stampPop n.val := by
  have hf : ∀ n : Fin 16, findReg (R.TRG_IN_POP.reg.addr [n.val]) = some (⟨R.TRG_IN, [R.TRG_IN_COUNT, R.TRG_IN_POP, R.TRG_IN_HEAD_RISE, R.TRG_IN_OVERRUN]⟩, [n.val]) := by decide +kernel
  have hb : ∀ n : Fin 16, boothOf (R.TRG_IN_POP.reg.addr [n.val]) = some 11 := by decide +kernel
  rw [d.strike_free [n.val] R.TRG_IN_POP 1 [] ⟨R.TRG_IN, [R.TRG_IN_COUNT, R.TRG_IN_POP, R.TRG_IN_HEAD_RISE, R.TRG_IN_OVERRUN]⟩ 11
    256 256 (by show (0 : Word) ||| R.TRG_IN_POP.mask = _; decide) (by decide)
    (hf n) (hb n) (Device.fusedAddr_high d (hb n) (by decide) (Or.inl (by decide))) (by decide) (by decide) (by decide)]
  simp (decide := true) only [Device.admitted, Device.timingStore, Device.on, if_true, if_false]
  rfl

theorem Device.struck_actionPop (d : Device) :
    d.strike [] [(R.BK_ACT_POP_POP, 1)] =
      ((d.wake 11).wr R.BK_ACT_POP [] ((d.wake 11).rd R.BK_ACT_POP [])).actionPop := by
  have hf : findReg (R.BK_ACT_POP_POP.reg.addr []) = some (⟨R.BK_ACT_POP, [R.BK_ACT_POP_POP, R.BK_ACT_POP_COUNT, R.BK_ACT_POP_OVF]⟩, []) := by decide +kernel
  have hb : boothOf (R.BK_ACT_POP_POP.reg.addr []) = some 11 := by decide +kernel
  rw [d.strike_free [] R.BK_ACT_POP_POP 1 [] ⟨R.BK_ACT_POP, [R.BK_ACT_POP_POP, R.BK_ACT_POP_COUNT, R.BK_ACT_POP_OVF]⟩ 11
    1 1 (by show (0 : Word) ||| R.BK_ACT_POP_POP.mask = _; decide) (by decide)
    hf hb (Device.fusedAddr_high d hb (by decide) (Or.inl (by decide))) (by decide) (by decide) (by decide)]
  simp (decide := true) only [Device.admitted, Device.timingStore, Device.on, if_true, if_false]
  rw [Device.plainWrite_none _ _ _ _ _ (by decide) (by decide)]

theorem Device.struck_fbSetPos (d : Device) (f : Fin 4) (ht : d.motionTaken = false) :
    d.strike [f.val] [(R.FB_CMD_SET_POS, 1)] =
      (d.wake 12).fbSetPos f.val := by
  have hf : ∀ f : Fin 4, findReg (R.FB_CMD_SET_POS.reg.addr [f.val]) = some (⟨R.FB_CMD, [R.FB_CMD_SET_POS]⟩, [f.val]) := by decide +kernel
  have hb : ∀ f : Fin 4, boothOf (R.FB_CMD_SET_POS.reg.addr [f.val]) = some 12 := by decide +kernel
  rw [d.strike_motion [f.val] R.FB_CMD_SET_POS 1 [] ⟨R.FB_CMD, [R.FB_CMD_SET_POS]⟩
    1 1 (by show (0 : Word) ||| R.FB_CMD_SET_POS.mask = _; decide) (by decide)
    (hf f) (hb f) ht (by decide) (by decide) (by decide)]
  simp (decide := true) only [Device.admitted, Device.timingStore, Device.on, if_true, if_false]
  rfl

theorem Device.struck_latchArm (d : Device) (f : Fin 4) (ht : d.motionTaken = false) :
    d.strike [f.val] [(R.FB_LATCH_ARM, 1)] =
      (d.wake 12).latchArm f.val := by
  have hf : ∀ f : Fin 4, findReg (R.FB_LATCH_ARM.reg.addr [f.val]) = some (⟨R.FB_LATCH, [R.FB_LATCH_LATCH_SRC, R.FB_LATCH_LATCH_EDGE, R.FB_LATCH_ARM, R.FB_LATCH_CHATTER_CNT]⟩, [f.val]) := by decide +kernel
  have hb : ∀ f : Fin 4, boothOf (R.FB_LATCH_ARM.reg.addr [f.val]) = some 12 := by decide +kernel
  rw [d.strike_motion [f.val] R.FB_LATCH_ARM 1 [] ⟨R.FB_LATCH, [R.FB_LATCH_LATCH_SRC, R.FB_LATCH_LATCH_EDGE, R.FB_LATCH_ARM, R.FB_LATCH_CHATTER_CNT]⟩
    16 16 (by show (0 : Word) ||| R.FB_LATCH_ARM.mask = _; decide) (by decide)
    (hf f) (hb f) ht (by decide) (by decide) (by decide)]
  simp (decide := true) only [Device.admitted, Device.timingStore, Device.on, if_true, if_false]
  rfl

theorem Device.struck_mpGoReq (d : Device) (a : Fin 4) (ht : d.motionTaken = false) :
    d.strike [a.val] [(R.MP_CTL_GO, 1)] =
      (d.wake 12).setAxis a.val { (d.wake 12).axis a.val with goReq := true } := by
  have hf : ∀ a : Fin 4, findReg (R.MP_CTL_GO.reg.addr [a.val]) = some (⟨R.MP_CTL, [R.MP_CTL_MODE, R.MP_CTL_SCURVE, R.MP_CTL_START_EV_EN, R.MP_CTL_GO, R.MP_CTL_STOP, R.MP_CTL_SET_POS]⟩, [a.val]) := by decide +kernel
  have hb : ∀ a : Fin 4, boothOf (R.MP_CTL_GO.reg.addr [a.val]) = some 12 := by decide +kernel
  rw [d.strike_motion [a.val] R.MP_CTL_GO 1 [] ⟨R.MP_CTL, [R.MP_CTL_MODE, R.MP_CTL_SCURVE, R.MP_CTL_START_EV_EN, R.MP_CTL_GO, R.MP_CTL_STOP, R.MP_CTL_SET_POS]⟩
    16 16 (by show (0 : Word) ||| R.MP_CTL_GO.mask = _; decide) (by decide)
    (hf a) (hb a) ht (by decide) (by decide) (by decide)]
  simp (decide := true) only [Device.admitted, Device.timingStore, Device.on, if_true, if_false]
  simp only [List.headD_cons, show set1 R.MP_CTL_GO 16 16 = true by decide, show set1 R.MP_CTL_STOP 16 16 = false by decide, show set1 R.MP_CTL_SET_POS 16 16 = false by decide, Bool.or_true, Bool.or_false]

theorem Device.struck_mpStopReq (d : Device) (a : Fin 4) (ht : d.motionTaken = false) :
    d.strike [a.val] [(R.MP_CTL_STOP, 1)] =
      (d.wake 12).setAxis a.val { (d.wake 12).axis a.val with stopReq := true } := by
  have hf : ∀ a : Fin 4, findReg (R.MP_CTL_STOP.reg.addr [a.val]) = some (⟨R.MP_CTL, [R.MP_CTL_MODE, R.MP_CTL_SCURVE, R.MP_CTL_START_EV_EN, R.MP_CTL_GO, R.MP_CTL_STOP, R.MP_CTL_SET_POS]⟩, [a.val]) := by decide +kernel
  have hb : ∀ a : Fin 4, boothOf (R.MP_CTL_STOP.reg.addr [a.val]) = some 12 := by decide +kernel
  rw [d.strike_motion [a.val] R.MP_CTL_STOP 1 [] ⟨R.MP_CTL, [R.MP_CTL_MODE, R.MP_CTL_SCURVE, R.MP_CTL_START_EV_EN, R.MP_CTL_GO, R.MP_CTL_STOP, R.MP_CTL_SET_POS]⟩
    32 32 (by show (0 : Word) ||| R.MP_CTL_STOP.mask = _; decide) (by decide)
    (hf a) (hb a) ht (by decide) (by decide) (by decide)]
  simp (decide := true) only [Device.admitted, Device.timingStore, Device.on, if_true, if_false]
  simp only [List.headD_cons, show set1 R.MP_CTL_GO 32 32 = false by decide, show set1 R.MP_CTL_STOP 32 32 = true by decide, show set1 R.MP_CTL_SET_POS 32 32 = false by decide, Bool.or_true, Bool.or_false]

theorem Device.struck_mpSetReq (d : Device) (a : Fin 4) (ht : d.motionTaken = false) :
    d.strike [a.val] [(R.MP_CTL_SET_POS, 1)] =
      (d.wake 12).setAxis a.val { (d.wake 12).axis a.val with setReq := true } := by
  have hf : ∀ a : Fin 4, findReg (R.MP_CTL_SET_POS.reg.addr [a.val]) = some (⟨R.MP_CTL, [R.MP_CTL_MODE, R.MP_CTL_SCURVE, R.MP_CTL_START_EV_EN, R.MP_CTL_GO, R.MP_CTL_STOP, R.MP_CTL_SET_POS]⟩, [a.val]) := by decide +kernel
  have hb : ∀ a : Fin 4, boothOf (R.MP_CTL_SET_POS.reg.addr [a.val]) = some 12 := by decide +kernel
  rw [d.strike_motion [a.val] R.MP_CTL_SET_POS 1 [] ⟨R.MP_CTL, [R.MP_CTL_MODE, R.MP_CTL_SCURVE, R.MP_CTL_START_EV_EN, R.MP_CTL_GO, R.MP_CTL_STOP, R.MP_CTL_SET_POS]⟩
    64 64 (by show (0 : Word) ||| R.MP_CTL_SET_POS.mask = _; decide) (by decide)
    (hf a) (hb a) ht (by decide) (by decide) (by decide)]
  simp (decide := true) only [Device.admitted, Device.timingStore, Device.on, if_true, if_false]
  simp only [List.headD_cons, show set1 R.MP_CTL_GO 64 64 = false by decide, show set1 R.MP_CTL_STOP 64 64 = false by decide, show set1 R.MP_CTL_SET_POS 64 64 = true by decide, Bool.or_true, Bool.or_false]

theorem Device.struck_mpHome (d : Device) (a : Fin 4) (ht : d.motionTaken = false) :
    d.strike [a.val] [(R.MP_HOME_GO, 1)] =
      (d.wake 12).setAxis a.val { (d.wake 12).axis a.val with homeReq := true } := by
  have hf : ∀ a : Fin 4, findReg (R.MP_HOME_GO.reg.addr [a.val]) = some (⟨R.MP_HOME, [R.MP_HOME_GO, R.MP_HOME_HOME_DIR]⟩, [a.val]) := by decide +kernel
  have hb : ∀ a : Fin 4, boothOf (R.MP_HOME_GO.reg.addr [a.val]) = some 12 := by decide +kernel
  rw [d.strike_motion [a.val] R.MP_HOME_GO 1 [] ⟨R.MP_HOME, [R.MP_HOME_GO, R.MP_HOME_HOME_DIR]⟩
    1 1 (by show (0 : Word) ||| R.MP_HOME_GO.mask = _; decide) (by decide)
    (hf a) (hb a) ht (by decide) (by decide) (by decide)]
  simp (decide := true) only [Device.admitted, Device.timingStore, Device.on, if_true, if_false]
  simp only [List.headD_cons, show set1 R.MP_HOME_GO 1 1 = true by decide, Bool.or_true]

end

end Sys2Proof.Machine
end

