-- ==== Sys2Proof/WellFormed.lean ====
section
/-! DEFINITION. What it is for a command to be well formed: operands inside the ranges and lengths the spec gives them. -/

namespace Sys2Proof

open Sys2Proof.Machine

/-- An entry: at most 52 bytes of payload, an input buffer of at most 16 MiB (R58). -/
def Machine.Entry.wf (e : Entry) : Bool := decide (e.payload.length ≤ 52 ∧ e.inbuf.length ≤ 2 ^ 24)

/-- The command's operands are of the forms the spec gives them. -/
def Instr.wf : Instr → Bool
  | .nop e => e.wf
  | .identify e => e.wf
  | .setSdn e => e.wf
  | .memAlloc e => e.wf
  | .memFree e => e.wf
  | .openMailbox e => e.wf
  | .closeMailbox e => e.wf
  | .reserveQueues e => e.wf
  | .setMode e => e.wf
  | .recover e => e.wf
  | .openSystemQueue e => e.wf
  | .memQuery e => e.wf
  | .linkQuery e => e.wf
  | .calQuery e => e.wf
  | .calLoad e => e.wf
  | .calSwap e => e.wf
  | .calHalt e => e.wf
  | .calResume e => e.wf
  | .calClear e => e.wf
  | .calAttach e => e.wf
  | .calRelease e => e.wf
  | .txnOpen e => e.wf
  | .txnStage e => e.wf
  | .txnCommit e => e.wf
  | .txnCancel e => e.wf
  | .txnQuery e => e.wf
  | .epochQuery e => e.wf
  | .laneQuery e => e.wf
  | .laneConfig e => e.wf
  | .laneTrain e => e.wf
  | .laneAlign e => e.wf
  | .laneIdle e => e.wf
  | .laneLoop e => e.wf
  | .lanePrbs e => e.wf
  | .laneHist e => e.wf
  | .laneCounters e => e.wf
  | .portQuery e => e.wf
  | .portOpen e => e.wf
  | .portClose e => e.wf
  | .portLink e => e.wf
  | .streamRx e => e.wf
  | .vxlCalibrate e => e.wf
  | .vxlReg e => e.wf
  | .ptpConfig e => e.wf
  | .portCounters e => e.wf
  | .capQuery e => e.wf
  | .capStream e => e.wf
  | .capEnable e => e.wf
  | .capRelease e => e.wf
  | .capCounters e => e.wf
  | .swConfig e => e.wf
  | .swReference e => e.wf
  | .swRegion e => e.wf
  | .swResult e => e.wf
  | .mdConfig e => e.wf
  | .mdFlush e => e.wf
  | .mdStatement e => e.wf
  | .mdQuery e => e.wf
  | .palQuery e => e.wf
  | .palConfig e => e.wf
  | .palEnable e => e.wf
  | .palInject e => e.wf
  | .palSkew e => e.wf
  | .palGvcpImage e => e.wf
  | .palCounters e => e.wf
  | .qOpen e => e.wf
  | .qClose e => e.wf
  | .qQuery e => e.wf
  | .qReset e => e.wf
  | .dmaChannel e => e.wf
  | .dmaSubmit e => e.wf
  | .dmaPause e => e.wf
  | .dmaQuery e => e.wf
  | .timeQuery e => e.wf
  | .timeStep e => e.wf
  | .timeSlew e => e.wf
  | .timeIncr e => e.wf
  | .ptpServo e => e.wf
  | .ptpStatus e => e.wf
  | .timingPins e => e.wf
  | .timePtm e => e.wf
  | .mwChannel e => e.wf
  | .mwFire e => e.wf
  | .mwWatch e => e.wf
  | .mwGate e => e.wf
  | .bkProgram e => e.wf
  | .bkArm e => e.wf
  | .bkQuery e => e.wf
  | .trgPin e => e.wf
  | .trgStamps e => e.wf
  | .bkAction e => e.wf
  | .fbQuery e => e.wf
  | .fbConfig e => e.wf
  | .fbSetPos e => e.wf
  | .fbLatch e => e.wf
  | .fbCompare e => e.wf
  | .fbCounters e => e.wf
  | .axQuery e => e.wf
  | .axConfig e => e.wf
  | .axEnable e => e.wf
  | .axMove e => e.wf
  | .axStop e => e.wf
  | .axHome e => e.wf
  | .axSetPos e => e.wf
  | .axCounters e => e.wf
  | .secQuery e => e.wf
  | .attest e => e.wf
  | .idCert e => e.wf
  | .secRequest e => e.wf
  | .svnCommit e => e.wf
  | .fwStage e => e.wf
  | .fwActivate e => e.wf
  | .debugChallenge e => e.wf
  | .debugOpen e => e.wf
  | .healthQuery e => e.wf
  | .healthLimits e => e.wf
  | .paceConfig e _ => e.wf
  | .healthSensors e => e.wf
  | .healthCounters e => e.wf
  | .registerWrite _ addr _ _ _ => decide (addr % 8 = 0)
  | .wdtCtlWrite timeout => decide (timeout < 2 ^ 14)
  | .wdtKickWrite _ => true
  | .bmbRing _ _ => true
  | .bmbDoneClear _ => true
  | .bmbComplete _ => true
  | .memAllocFillDone handle => decide (handle < 2 ^ 32)
  | .recoverDone scope index => decide (scope < 3 ∧ index < 32)
  | .calLoadGo _ => true
  | .calHaltWrite _ => true
  | .calResumeWrite _ => true
  | .calClearWrite _ => true
  | .calAttachWrite _ booths home => decide (booths < 2 ^ 15 ∧ home < 2 ^ 4)
  | .calTrelWrite _ _ _ => true
  | .calliopeStepEntry _ => true
  | .calTimeWaitExpire _ => true
  | .calTimeout _ => true
  | .curtainStage _ _ => true
  | .stageDataLowWrite _ => true
  | .curTxOpen _ => true
  | .curTxCommit _ => true
  | .curTxCancel _ => true
  | .curtainCheckDone _ => true
  | .curtainDeadlinePass _ => true
  | .curtainFinalSample _ => true
  | .curtainAdopt _ => true
  | .netPortStage _ _ => true
  | .netPortDataLowWrite _ => true
  | .laneCtlWrite _ _ => true
  | .laneTxWrite _ _ => true
  | .laneFfeWrite _ _ => true
  | .lnTrainStart _ => true
  | .lnTrainAbort _ => true
  | .lnTrainReqWrite _ _ => true
  | .lnTrainDoneWrite _ => true
  | .trainFrameRx _ _ _ _ _ => true
  | .txpllLock _ => true
  | .cdrLock _ => true
  | .losAssert _ _ _ => true
  | .losDeassert _ _ _ => true
  | .lnSlip _ => true
  | .lnHistStart _ => true
  | .portCtlWrite _ _ => true
  | .ethBlockLock _ => true
  | .ethFrameRx _ frame _ _ => decide (0 < frame.length)
  | .packetTransmit _ frame _ => decide (0 < frame.length)
  | .txtsPop _ => true
  | .vxlMarkerRx _ _ _ _ => true
  | .vxlLinkInfoRx _ block => decide (block.length = 32)
  | .vxlCodewordRx _ message parity =>
    decide (message.length = 258 ∧ parity.length = 14) && (message ++ parity).all (decide <| · < 1024)
  | .vxlLineStartRx _ block _ => decide (block.length = 32)
  | .vxlDataBlockRx _ _ data => decide (data.length = 32)
  | .vxlTriggerRx _ block _ => decide (block.length = 32)
  | .vxlTriggerFire _ => true
  | .vxlTriggerTx _ _ => true
  | .vxlEchoGo _ _ _ => true
  | .vxlEchoReqRx _ _ block _ _ => decide (block.length = 32)
  | .vxlEchoRspRx _ _ block _ => decide (block.length = 32)
  | .vxlCtrlRx _ block => decide (block.length = 32)
  | .ctrlTxQueue _ _ => true
  | .ctrlRxPop _ => true
  | .lineWordEnter _ _ _ _ bytes _ => decide (0 < bytes.length ∧ bytes.length ≤ 64)
  | .storeStageTake _ => true
  | .capFrameStart _ _ _ _ => true
  | .capOpen _ _ => true
  | .capClose _ _ => true
  | .capTruncate _ _ => true
  | .capRelWrite _ _ _ slot => decide (slot < 2 ^ 10)
  | .linescanTimeClose _ _ => true
  | .capFrameEvent _ _ => true
  | .mbRelWrite slot => decide (slot < 2 ^ 6)
  | .palFrameStart _ _ => true
  | .palLinePrefetch _ _ _ => true
  | .palLineSend _ _ _ => true
  | .doorbellProdWrite _ _ => true
  | .doorbellConsWrite _ _ => true
  | .dbWmRead _ => true
  | .dbRearm _ => true
  | .carAppend _ => true
  | .coalesceTimeout _ => true
  | .dmaArmWrite _ _ => true
  | .dmaDisarmWrite _ _ => true
  | .dmaPauseWrite _ _ _ => true
  | .dmaTransferEnd _ => true
  | .tbIncrWrite _ => true
  | .tbPllLock _ => true
  | .ppsInEdge _ _ => true
  | .tenMhzInEdge _ => true
  | .ptmDialogueDone _ _ _ _ => true
  | .mwFireWrite _ _ => true
  | .barkerTimeFire _ => true
  | .barkerActCommit _ _ => true
  | .barkerAct _ _ => true
  | .barkerFireRecord _ => true
  | .trgPulseLead _ => true
  | .trgPulseTrail _ => true
  | .trgInputEdge _ _ _ => true
  | .trgInPop _ => true
  | .encoderEdge _ _ _ _ => true
  | .hallStateChange _ _ _ => true
  | .ssiReadStart _ _ _ => true
  | .ssiReadingDone _ _ => true
  | .switchEdge _ _ _ _ => true
  | .indexEdge _ _ _ _ => true
  | .fbSetPosWrite _ => true
  | .fbLatchArm _ => true
  | .servoPeriodBoundary _ _ _ => true
  | .mpGoWrite _ => true
  | .mpStopWrite _ => true
  | .mpSetPosWrite _ => true
  | .mpHomeGo _ => true
  | .stepInputEdge _ _ => true
  | .limitSwitch _ _ => true
  | .axisFaultInput _ => true
  | .bar4Read _ len => decide (0 < len)
  | .bar4Write _ bytes _ => decide (0 < bytes.length)
  | .hostApBaseWrite base => decide (base < 2 ^ 11)
  | .busMasterChange _ => true
  | .hbmWipeDone _ => true
  | .configReady _ _ _ => true
  | .hmModeWrite _ => true
  | .secSvnReqWrite target => decide (target < 2 ^ 13)
  | .secSdnWrite sdn => decide (sdn < 2 ^ 16)
  | .healthSample temps hbmTemps => decide (temps.length = 32 ∧ hbmTemps.length = 2)
  | .railSample mv => decide (mv.length = 11)
  | .ringmasterEccError _ => true
  | .linkLossTimeout _ => true
  | .fifoParityError _ => true
  | .boothSramUecc booth => decide (booth.val < 15)
  | .hbmUncorrectableError _ _ _ off => decide (off % 8 = 0 ∧ off < 24 * 2 ^ 30)
  | .hbmCorrectedError _ _ _ off => decide (off % 8 = 0 ∧ off < 24 * 2 ^ 30)
  | .laneTrainTimeout _ => true
  | .wakeBurstDone _ => true
  | .laneWakeRx _ => true
  | .adaptOk _ ctle dfe => decide (ctle < 32 ∧ dfe.length = 12)
  | .lolAssert _ _ _ => true
  | .laneSlipDone _ => true
  | .alignLost _ => true
  | .laneHistDone _ _ inner _ => decide (inner.length = 2)
  | .prbsCheckerLock _ symbols => symbols.all (decide <| · < 4)
  | .mergeHoldExpire _ _ => true
  | .portAlignLossTimeout _ => true
  | .portHelloTimeout _ => true
  | .vxlEchoTimeout _ => true
  | .ctrlRetryTimeout _ tag => decide (tag < 2 ^ 8)
  | .vxlCalibratePeriodic _ => true
  | .lineFifoDiagPop _ _ => true
  | .palPacketRelease _ _ _ => true
  | .gvcpRequestRx _ => true
  | .dmaPauseDone _ _ => true
  | .dmaReadCompletionError _ => true
  | .speedTimeout _ => true
  | .axisPowerDown _ => true
  | .axisWakeHoldDone _ => true
  | .patrolScrub off _ _ => decide (off % 8 = 0 ∧ off < 24 * 2 ^ 30)
  | .jtagDebugRequest _ => true
  | .jtagProvision hashes => decide (hashes.length ≤ 4) && hashes.all (fun h => decide (h.length = 48))
  | .boothPaceUpdate booth _ => decide (booth.val < 15)
  | .pacePeriod _ => true
  | .ethLockLoss _ => true
  | .trainingLosFail _ => true
  | .containedSramUecc engine n => engine || decide (n.val < 8)
  | .queueReadCompletionError _ cmd => match cmd with | some (op, e) => decide (op < 2 ^ 16) && e.wf | none => true
  | .linkTlpError _ => true
  | .endLimitRelease _ _ => true
  | .axisFaultRelease _ => true
  | .alignSearchTimer _ => true
  | .portLinkTimeLimit _ => true
  | .ptpMessageTimer kind _ => decide (kind < 3)
  | .slowPathPacketRx _ => true
  | .jtagDebugAccess _ => true
  | .wdtLock => true
  | .watchdogEarly => true
  | .watchdogExpiry => true
  | .rollLoadDone => true
  | .configDigestExtend => true
  | .netHashUpdate => true
  | .netPortUnlock => true
  | .netPortOpen => true
  | .netPortCommit => true
  | .netPortCancel => true
  | .netPortLock => true
  | .faultLogDrain => true
  | .firmwareCounterSample => true
  | .ptpAnnounceTimeout => true
  | .sealAccept => true
  | .manifestIntervalClose => true
  | .mbFlush => true
  | .manifestSigned => true
  | .manifestWriteRetry => true
  | .carCtxLoad => true
  | .carCtxStore => true
  | .carTake => true
  | .msixPendingSend => true
  | .tbStepGo => true
  | .tbStepApply => true
  | .tbSlewGo => true
  | .tbSlewAbort => true
  | .slewDone => true
  | .tbSnapGo => true
  | .ttWrap => true
  | .refclkLost => true
  | .refclkRelock => true
  | .ppsOutEdge => true
  | .ptmGo => true
  | .ptmAutoPeriod => true
  | .midwayDeliver => true
  | .bkActPop => true
  | .actionCmdSend => true
  | .motionUecc => true
  | .barBadAccess => true
  | .d3hotEntry => true
  | .linkReset => true
  | .perstAssert => true
  | .powerOnReset => true
  | .brownOut => true
  | .resetRelease => true
  | .sramWipeDone => true
  | .identityKeyReady => true
  | .bootImageLoad => true
  | .hmReadySet => true
  | .svnProgramDone => true
  | .secRequestGo => true
  | .secRequestCheckDone => true
  | .lifecycleReset => true
  | .secQuoteGo => true
  | .quoteDone => true
  | .secNewChallenge => true
  | .debugChallengeExpire => true
  | .jtagNewChallenge => true
  | .jtagScrap => true
  | .paceCeiling => true
  | .healthLimitExpire => true
  | .tbLockTimeout => true
  | .hbmPhyTrained => true
  | .flashWriteDone => true

end Sys2Proof
end

