-- ==== Sys2Proof/Tests/Slice0.lean ====
section
/-! SUPPORT. Tests: each check of well-formedness refuses an ill-formed term, small steps on small states, and for every
statement with hypotheses a state and operands that meet them. -/

namespace Sys2Proof.Tests

open Sys2Proof Sys2Proof.Machine

/-- An entry of the bootstrap mailbox `n` with a payload. -/
def boot (n : Fin 8) (payload : List Byte) : Entry :=
  { via := .boot n, tag := 7, length := BitVec.ofNat 16 payload.length, flags := 0, seq := 0, payload := payload, inbuf := [] }

/-- An entry of queue mailbox `k` with a payload. -/
def queued (k : Fin 256) (seq : Nat) (payload : List Byte) : Entry :=
  { via := .queue k, tag := 7, length := BitVec.ofNat 16 payload.length, flags := 0, seq := BitVec.ofNat 32 seq, payload := payload
    inbuf := [] }

/-- A device out of reset, firmware running, in operating mode `m`, every unit present. -/
def up (m : Nat) : Device :=
  let d : Device := {}
  let d := { d with sec := { d.sec with inReset := false } }
  (d.setFlag R.DEV_STATUS_READY [] true).put R.HM_MODE_MODE [] m

/-- An entry of bootstrap mailbox 0 with an input buffer of these bytes and an output buffer of `out` bytes. -/
def buffered (bs : List Byte) (out : Nat) : Entry :=
  { via := .boot 0, tag := 7, length := 32, flags := BitVec.ofNat 16 (b2n (!bs.isEmpty) + 2 * b2n (decide (out ≠ 0))), seq := 0
    payload := layout [(8, 4096), (4, bs.length), (8, 2 ^ 20), (4, out)], inbuf := bs }

/-- The same, changed by `f`, with a command of opcode `op` rung in bootstrap mailbox 0. -/
def rung (m op : Nat) (payload : List Byte) (f : Device → Device := fun d => d) : State :=
  { dev := ((f (up m)).setSlot 0 ((boot 0 payload).bytes op)).setFlag R.BMB_CTL_RING [0] true }

/-- A device in mode `m`, changed by `f`, with the entry `e` of opcode `op` rung in bootstrap mailbox 0. -/
def rungWith (m op : Nat) (e : Entry) (f : Device → Device := fun d => d) : State :=
  { dev := ((f (up m)).setSlot 0 (e.bytes op)).setFlag R.BMB_CTL_RING [0] true }

/-- The state of a device that is up in SERVICE, changed by `f`. -/
def running (f : Device → Device := fun d => d) : State := { dev := f (up 1) }

/-- The link up, the device configured and its memory space on, so that the host reaches BAR0. -/
def hosted (d : Device) : Device :=
  { d with hst := { d.hst with linkUp := true, configReady := true, memSpace := true, busMaster := true } }

/-- The same `t` units of 1/65,536 ns later, nothing else having happened. -/
def later (t : Nat) (d : Device) : Device :=
  { d with tim := { d.tim with time := { d.tim.time with acc := BitVec.ofNat 80 (t * 65536) } } }

/-- An Ethernet frame without its FCS: from and to MAC address 0, IPv4 from and to 0.0.0.0, UDP to a port. -/
def udp4Frame (port : Nat) (data : List Byte) : List Byte :=
  let h := fun (s : Nat) => [0x45, 0] ++ beBytes 2 (data.length + 28) ++ zeros 4 ++ [64, 17] ++ beBytes 2 s ++ zeros 8
  zeros 12 ++ [8, 0] ++ h (onesCheck (wordSum (h 0))) ++ zeros 2 ++ beBytes 2 port ++ beBytes 2 (data.length + 8) ++ zeros 2 ++ data

/-- A frame with its FCS. -/
def framed (f : List Byte) : List Byte := f ++ leBytes 4 (crc32 f)

/-- Port 7 is UP in 10GBASE-R. -/
def ethUp (d : Device) : Device := (d.put R.PP_CTL_MODE [7] 1).put R.PP_STAT_STATE [7] 4

/-- Port 7 is UP in a Voxent Link mode of two lanes. -/
def linkUp (d : Device) : Device := (d.put R.PP_CTL_MODE [7] 7).put R.PP_STAT_STATE [7] 4

/-- An open frame without a slot, a line on its way, and a word of none. -/
def aFrame : FrameX :=
  { no := 0, epoch := 0, cfg := ({} : Device).capCfg 0 0, slot := none, gen := false, status := 0, firstTT := 0, wireFrame := 0
    trigId := 0, after := 0 }

def aLine : LineX := { hdr := {}, stamp := 0, serial := 0, index := 0, frame := none }

def aWord : FifoWord := { sol := true, eol := false, offset := 0, line := 0, data := [1], frame := none, serial := 0, stamp := 0, length := 1 }

/-- A seal, and the manifest builder enabled. -/
def aSeal : SealX := { stream := 0, frame := 0, epoch := 0, status := 0, hash := [], digest := [] }

def sealOn (d : Device) : Device := d.setFlag R.MB_CTL_EN [] true

/-- A load of the time base waiting. -/
def aLoad : StepReq := { load := true, both := true, atTT := none, amt := 0, sec := 1, ns := 2, frac := 3 }

/-- A feedback channel as it stood before an adoption at TT 0. -/
def aPrior : FbPrior :=
  { ttc := 0, regs := [], cmpTgt := 0, cmpDead := false, hall := none, ssiLast := none, mode := false, size := false, speed := false
    tgt := false, setPos := false }

/-- An action record whose ACTION_CMD goes to `dst`. -/
def sending (dst : Nat) : Device :=
  let d := up 1
  { d with tim := { d.tim with actions := [{ tt := 0, prog := 1, target := 2, fires := 1 }], actionCmds := [(6, { port := 7, dst := dst })] } }

def loading : Device := (up 1).setTime { (up 1).tim.time with step := some aLoad }

/-- A roll of one step that does nothing, with its CRC; and the buffer that loads it into CAL15. -/
def aRoll : List Byte :=
  let im := fit 272 (layout [(2, 1), (2, 1)])
  patch im 252 (leBytes 4 (crc32c im))

def aLoadOf : List Byte := leBytes 8 15 ++ aRoll

/-- The one allocation, of a kind, at the bottom of the general region; and a pixel format. -/
def anAlloc (kind : Nat) : Alloc := { handle := 1, off := genBase, size := 2 ^ 30, kind := kind }

def aPixFmt : Nat := 0x01080001

/-- TRG_STAMPS of pin 0 through the output buffer at 0x1000, 16 stamps. -/
def stamping : Entry :=
  { via := .boot 0, tag := 7, length := 32, flags := 2, seq := 0, inbuf := []
    payload := layout [(1, 0), (1, 16), (6, 0), (4, 0), (8, 4096), (4, 256)] }

/-- Palette channel 3 of port 7 enabled; and one line of it on its way out. -/
def palOn (d : Device) : Device := d.setFlag R.PAL_CH_CTL_EN [7, 3] true

/-- PAL_CONFIG's buffer for channel 3 of port 7: a generator over the Voxent Link. -/
def palBytes : List Byte :=
  fit 256 (layout [(1, 7), (1, 3), (6, 0), (8, 0)]
    ++ leBytes 8 (stageFields R.PAL_CH_CTL [7, 3] [(R.PAL_CH_CTL_SRC, 1), (R.PAL_CH_CTL_KIND, 3)]).value.toNat)

def outFrame : PalFrame := { no := 0, s := 0, epoch := 0, trigId := 0, rtp := 0, prbs := 1 }

def palOut (d : Device) : Device :=
  let d := ((palOn d).setFlag R.PP_CTL_EMIT [7] true).put R.PAL_CH_GEOM_LINES [7, 3] 1
  (d.put R.PAL_CH_CTL_TIMING [7, 3] 1).setPal 7 3 { frames := [outFrame] }

/-- Window 0 opens host memory below 1 TiB, window 1 the general region of HBM, for every client they can have. -/
def windows (d : Device) : Device :=
  let d := (d.put R.NET_WIN_LIMIT_LIMIT [0] (2 ^ 40 - 1)).setFlag R.NET_WIN_ATTR_VALID [0] true
  let d := ((d.setFlag R.NET_WIN_ATTR_RD [0] true).setFlag R.NET_WIN_ATTR_WR [0] true).setFlag R.NET_WIN_ATTR_DMA [0] true
  let d := (d.setFlag R.NET_WIN_ATTR_QUEUE [0] true).put R.NET_WIN_BASE_BASE [1] genBase
  let d := (d.put R.NET_WIN_LIMIT_LIMIT [1] (hbmSize - 1)).setFlag R.NET_WIN_ATTR_VALID [1] true
  let d := ((d.setFlag R.NET_WIN_ATTR_SPACE [1] true).setFlag R.NET_WIN_ATTR_RD [1] true).setFlag R.NET_WIN_ATTR_WR [1] true
  ((d.setFlag R.NET_WIN_ATTR_DMA [1] true).setFlag R.NET_WIN_ATTR_PORT [1] true).setFlag R.NET_WIN_ATTR_BAR4 [1] true

/-- The same with queue mailbox 2 open, its queues 64 entries long, and the sequence number `x` expected. -/
def opened (m : Nat) (x : Option Nat) : Device :=
  ((up m).setMbox 2 { isOpen := true, expected := x }).setCtx 5
    { ring := 4096, log2 := 6, kind := 2, esize := 64 }

/-! ### Well-formedness -/

theorem test_payload_too_long : (Instr.nop (boot 0 (List.replicate 53 0))).wf = false := by decide

theorem test_payload_of_52 : (Instr.nop (boot 0 (List.replicate 52 0))).wf = true := by decide

theorem test_input_too_long (bs : List Byte) (h : bs.length = 2 ^ 24 + 1) :
    (Instr.nop { boot 0 [] with inbuf := bs }).wf = false := by
  simp [Instr.wf, Entry.wf, h]

/-- Every mailbox command is checked by its entry. -/
theorem test_entry_checked (i : Instr) (c : CmdSpec) (e : Entry) (h : mailCommand i = some (c, e)) : i.wf = e.wf := by
  cases i <;> first
    | (cases h; rfl)
    | cases h

theorem test_ill_formed_1 : ([Instr.registerWrite false 4 .full 0 false,
    Instr.wdtCtlWrite (2 ^ 14),
    Instr.memAllocFillDone (2 ^ 32),
    Instr.recoverDone 3 0,
    Instr.recoverDone 0 32,
    Instr.calAttachWrite 0 (2 ^ 15) 0,
    Instr.calAttachWrite 0 0 16] : List Instr).all (fun i => !i.wf) = true := by decide

theorem test_ill_formed_2 : ([Instr.ethFrameRx 0 [] 0 [],
    Instr.packetTransmit 0 [] 0,
    Instr.vxlCodewordRx 0 (List.replicate 258 0) (List.replicate 13 0),
    Instr.vxlCodewordRx 0 (1024 :: List.replicate 257 0) (List.replicate 14 0),
    Instr.vxlLinkInfoRx 0 (List.replicate 31 0),
    Instr.vxlLineStartRx 0 (List.replicate 31 0) 0,
    Instr.vxlDataBlockRx 0 0 (List.replicate 31 0),
    Instr.vxlTriggerRx 0 (List.replicate 31 0) 0] : List Instr).all (fun i => !i.wf) = true := by decide +kernel

theorem test_ill_formed_3 : ([Instr.vxlEchoReqRx 0 0 (List.replicate 31 0) 0 0,
    Instr.vxlEchoRspRx 0 0 (List.replicate 31 0) 0,
    Instr.vxlCtrlRx 0 (List.replicate 31 0),
    Instr.lineWordEnter 0 0 true true [] 0,
    Instr.lineWordEnter 0 0 true true (List.replicate 65 0) 0,
    Instr.capRelWrite 0 0 false 1024,
    Instr.mbRelWrite 64,
    Instr.bar4Read 0 0] : List Instr).all (fun i => !i.wf) = true := by decide

theorem test_ill_formed_4 : ([Instr.bar4Write 0 [] false,
    Instr.hostApBaseWrite 2048,
    Instr.secSvnReqWrite 8192,
    Instr.secSdnWrite 65536,
    Instr.healthSample [] [0, 0],
    Instr.healthSample (List.replicate 32 0) [],
    Instr.railSample [],
    Instr.boothSramUecc 15] : List Instr).all (fun i => !i.wf) = true := by decide

theorem test_ill_formed_5 : ([Instr.hbmUncorrectableError 0 0 0 4,
    Instr.hbmUncorrectableError 0 0 0 (24 * 2 ^ 30),
    Instr.hbmCorrectedError 0 0 0 4,
    Instr.hbmCorrectedError 0 0 0 (24 * 2 ^ 30),
    Instr.adaptOk 0 256 (List.replicate 12 0),
    Instr.adaptOk 0 0 (List.replicate 11 0),
    Instr.laneHistDone 0 [] [[]] [],
    Instr.prbsCheckerLock 0 [4]] : List Instr).all (fun i => !i.wf) = true := by decide

theorem test_ill_formed_6 : ([Instr.ctrlRetryTimeout 0 256,
    Instr.patrolScrub 4 false false,
    Instr.patrolScrub (24 * 2 ^ 30) false false,
    Instr.jtagProvision [[], [], [], [], []],
    Instr.jtagProvision [[]],
    Instr.boothPaceUpdate 15 0,
    Instr.containedSramUecc false 8,
    Instr.ptpMessageTimer 3 0] : List Instr).all (fun i => !i.wf) = true := by decide

/-! ### For every statement with hypotheses, a state and operands that meet them -/

section
set_option Elab.async false

theorem wit_StepRunsFrontCommand : ∃ (s : State) (i : Instr) (rest : List Instr), s.pending = i :: rest :=
  ⟨{ State.reset with pending := [.nop (boot 0 []), .powerOnReset] }, _, _, rfl⟩

/-- A device in SERVICE whose host link is up, with queue mailbox 2 open, expecting sequence number 5. -/
def awaiting : Device := hosted (opened 1 (some 5))

set_option maxRecDepth 100000 in
theorem wit_EmptyQueueStep :
    (∃ s : State, s.pending = [] ∧ s.dev.sec.inReset = true)
    ∧ (∃ (s : State) (i : Instr), s.pending = [] ∧ s.awake ∧ State.startable s.settle.fetch.dev [] s.settle.fetch.waiting = some i)
    ∧ (∃ s : State, s.pending = [] ∧ s.awake ∧ State.startable s.settle.fetch.dev [] s.settle.fetch.waiting = none) :=
  ⟨⟨State.reset, rfl, rfl⟩,
    ⟨{ dev := awaiting, waiting := [.nop (queued 2 5 [])] }, .nop (queued 2 5 []), rfl, rfl, by decide +kernel⟩,
    ⟨running, rfl, rfl, by decide +kernel⟩⟩

/-- Two entries of queue mailbox 2 while firmware is not up: one waits, the other is submitted. -/
def notYet : State :=
  { dev := (opened 1 none).setFlag R.DEV_STATUS_READY [] false, pending := [.nop (queued 2 1 [])], waiting := [.nop (queued 2 0 [])] }

theorem wit_StepKeepsInvariant : ∃ s t : State, s.Inv ∧ step s = .next t := by
  refine ⟨notYet, ({ notYet with pending := [], waiting := notYet.waiting ++ [.nop (queued 2 1 [])] } : State).settle,
    (by unfold State.Inv; decide +kernel), ?_⟩
  change execNop (queued 2 1 []) { notYet with pending := [] } = _
  unfold execNop State.command
  rw [if_neg (by decide +kernel), if_pos (by decide +kernel)]
  rfl

theorem wit_ResetHoldsTheDevice : ∃ (i : Instr) (s : State), s.dev.sec.inReset = true ∧ entersReset i = false :=
  ⟨.nop (boot 0 []), State.reset, by decide +kernel, by decide⟩

set_option maxRecDepth 100000 in
theorem running_owesNothing : running.dev.owesNothing := by
  refine ⟨by decide +kernel, by decide +kernel, by decide +kernel, fun k _ _ _ => ?_, by decide +kernel⟩
  have h : running.dev.ctx (2 * k) = {} := by simp [running, up, Device.ctx]; rfl
  rw [h]
  decide

theorem wit_NothingOwedNothingServed :
    (∃ s : State, s.awake ∧ s.waiting = [] ∧ s.dev.fwRuns = false) ∧ (∃ s : State, s.awake ∧ s.waiting = [] ∧ s.dev.owesNothing) :=
  ⟨⟨running (fun d => d.setFlag R.DEV_STATUS_READY [] false), rfl, rfl, by decide +kernel⟩, ⟨running, rfl, rfl, running_owesNothing⟩⟩

theorem wit_MailboxCommandWaits :
    (∃ (i : Instr) (s : State) (c : CmdSpec) (e : Entry), mailCommand i = some (c, e) ∧ s.awake ∧ s.dev.mustWait c e = true)
    ∧ (∃ (i : Instr) (s : State) (c : CmdSpec) (e : Entry), mailCommand i = some (c, e) ∧ s.awake ∧ s.behind e.via = true) :=
  ⟨⟨.nop (queued 2 0 []), { dev := (opened 1 none).setFlag R.DEV_STATUS_READY [] false }, _, _, rfl, rfl, by decide +kernel⟩,
    ⟨.nop (queued 2 6 []), { dev := awaiting, waiting := [.nop (queued 2 5 [])] }, _, _, rfl, rfl, by decide +kernel⟩⟩

theorem wit_MailboxOutOfSequence :
    (∃ (d : Device) (e : Entry) (k : Fin 256), e.via = .queue k ∧ (d.mbox k.val).expected = none)
    ∧ (∃ (e : Entry) (k : Fin 256), e.via = .queue k)
    ∧ (∃ (i : Instr) (s : State) (c : CmdSpec) (e : Entry) (k : Fin 256) (x : Nat), mailCommand i = some (c, e) ∧ s.awake
      ∧ s.dev.mustWait c e = false ∧ s.behind e.via = false ∧ e.via = .queue k ∧ (s.dev.placeInput e).holds c.opcode e = true
      ∧ (s.dev.mbox k.val).expected = some x ∧ x ≠ e.seq.toNat) :=
  ⟨⟨opened 1 none, queued 2 0xFFFFFFFF [], 2, rfl, rfl⟩, ⟨queued 255 0xFFFFFFFF [], 255, rfl⟩,
    ⟨.nop (queued 2 6 []), { dev := awaiting }, _, _, 2, 5, rfl, rfl, by decide +kernel, rfl, rfl, by decide +kernel, rfl, by decide⟩⟩

theorem wit_MailboxEntryRefused :
    (∃ (i : Instr) (s : State) (c : CmdSpec) (e : Entry), mailCommand i = some (c, e) ∧ s.awake ∧ s.dev.mustWait c e = false
      ∧ s.behind e.via = false ∧ (s.dev.placeInput e).holds c.opcode e = true ∧ (s.dev.placeInput e).outOfSequence e = none
      ∧ (s.dev.entered e).entryCheck c e (unitThere i s.dev) ≠ stOK)
    ∧ (∃ e : Entry, 8 ≤ e.flags.toNat)
    ∧ (∃ e : Entry, e.flags.toNat < 8 ∧ e.tailZero = true ∧ 52 < e.length.toNat)
    ∧ (∃ e : Entry, e.flags.toNat = 0 ∧ e.tailZero = true ∧ e.length.toNat ≤ 52)
    ∧ (∃ (d : Device) (c : CmdSpec) (e : Entry), e.flags.toNat = 0 ∧ e.tailZero = true ∧ c.minLen ≤ e.length.toNat
      ∧ e.length.toNat ≤ c.maxLen ∧ c.maxLen ≤ 52 ∧ c.needsIn = false ∧ c.needsOut = false ∧ c.modes.contains d.mode = false)
    ∧ (∃ (c : CmdSpec) (e : Entry), e.flags.toNat = 0 ∧ e.tailZero = true ∧ e.length.toNat ≤ 52 ∧ c.needsIn = false ∧ c.needsOut = false
      ∧ (e.length.toNat < c.minLen ∨ c.maxLen < e.length.toNat)) :=
  ⟨⟨.identify (queued 2 5 [1]), { dev := awaiting }, _, _, rfl, rfl, by decide +kernel, rfl, by decide +kernel, by decide +kernel, by decide +kernel⟩,
    ⟨{ boot 0 [] with flags := 8 }, by decide⟩, ⟨{ boot 0 [] with flags := 7, length := 53 }, by decide, by decide, by decide⟩,
    ⟨{ boot 0 [] with length := 52 }, by decide, by decide, by decide⟩,
    ⟨up 0, axEnableSpec, boot 0 [0, 1, 0, 0], by decide, by decide, by decide, by decide, by decide, by decide, by decide, by decide +kernel⟩,
    ⟨axStopSpec, boot 0 [0, 1, 0], by decide, by decide, by decide, by decide, by decide, by decide⟩⟩

theorem wit_RegisterFieldsReadBack :
    (∃ f : Fld, f.lo + f.width ≤ 64)
    ∧ (∃ f g : Fld, f.lo + f.width ≤ 64 ∧ g.reg = f.reg ∧ (f.lo + f.width ≤ g.lo ∨ g.lo + g.width ≤ f.lo))
    ∧ (∃ (f : Fld) (r : Reg) (ix jx : List Nat), r.addr jx ≠ f.reg.addr ix) :=
  ⟨⟨R.MP_TARGET_TARGET, by decide⟩, ⟨R.HM_TLIM_T_WARN, R.HM_TLIM_T_LIMIT, by decide, rfl, by decide⟩,
    ⟨R.MP_TARGET_TARGET, R.MP_TARGET, [3], [2], by decide⟩⟩

theorem wit_MemoriesReadBack :
    (∃ (i : Nat) (bs : List Byte), i < bs.length) ∧ (∃ (a b : Nat) (bs : List Byte), b < a ∨ a + bs.length ≤ b)
    ∧ (∃ (m src : Sparse Byte) (fill : Byte), Sparse.wf fill m = true ∧ Sparse.wf fill src = true)
    ∧ (∃ (src : Sparse Byte) (fill : Byte) (n k : Nat), Sparse.wf fill src = true ∧ k < n) :=
  ⟨⟨1, [1, 2], by decide⟩, ⟨4, 6, [1, 2], by decide⟩, ⟨[(3, 1)], [(7, 2)], 0, by decide, by decide⟩, ⟨[(7, 2)], 255, 4, 3, by decide, by decide⟩⟩

theorem wit_BootstrapRing :
    (∃ (s : State) (n : Fin 8), s.awake ∧ s.dev.hostReach = true ∧ s.dev.flag R.BMB_CTL_RING [n.val] = true)
    ∧ (∃ (s : State) (n : Fin 8), s.awake ∧ s.dev.hostReach = true ∧ s.dev.flag R.BMB_CTL_DONE [n.val] = true)
    ∧ (∃ (s : State) (n : Fin 8), s.awake ∧ s.dev.hostReach = true ∧ s.dev.flag R.BMB_CTL_RING [n.val] = false
      ∧ s.dev.flag R.BMB_CTL_DONE [n.val] = false)
    ∧ (∃ (d : Device) (n : Fin 8), d.flag R.BMB_CTL_RING [n.val] = true) :=
  ⟨⟨running (fun d => hosted (d.setFlag R.BMB_CTL_RING [7] true)), 7, rfl, by decide +kernel, by decide +kernel⟩,
    ⟨running (fun d => hosted (d.setFlag R.BMB_CTL_DONE [7] true)), 7, rfl, by decide +kernel, by decide +kernel⟩,
    ⟨running hosted, 7, rfl, by decide +kernel, by decide +kernel, by decide +kernel⟩,
    ⟨(up 1).setFlag R.BMB_CTL_RING [7] true, 7, by decide +kernel⟩⟩

theorem wit_SystemCommands :
    (∃ (s : State) (e : Entry), s.takes nopSpec e true)
    ∧ (∃ (s : State) (e : Entry), s.takes identifySpec e true)
    ∧ (∃ (s : State) (e : Entry), s.takes setSdnSpec e true)
    ∧ (∃ (s : State) (e : Entry) (off : Nat), s.takes memAllocSpec e true
      ∧ firstFit (roundUp (e.u 12 8) 65536) (2 ^ e.u 20 1) genBase s.dev.ctl.allocs = some off
      ∧ e.u 12 8 ≠ 0
      ∧ 16 ≤ e.u 20 1
      ∧ e.u 20 1 ≤ 30
      ∧ e.u 21 1 ≤ 3
      ∧ e.u 22 1 ≤ 1
      ∧ e.u 23 41 = 0)
    ∧ (∃ (s : State) (e : Entry), s.takes memAllocSpec e true
      ∧ firstFit (roundUp (e.u 12 8) 65536) (2 ^ e.u 20 1) genBase s.dev.ctl.allocs = none
      ∧ e.u 12 8 ≠ 0
      ∧ 16 ≤ e.u 20 1
      ∧ e.u 20 1 ≤ 30
      ∧ e.u 21 1 ≤ 3
      ∧ e.u 22 1 ≤ 1
      ∧ e.u 23 41 = 0)
    ∧ (∃ (s : State) (e : Entry) (x : Alloc), s.takes memFreeSpec e true
      ∧ s.dev.alloc (e.u 12 4) = some x
      ∧ e.u 16 48 = 0
      ∧ (s.dev.entered e).mayAct e.via (.alloc x.handle) = true
      ∧ (s.dev.entered e).referred x = false)
    ∧ (∃ (s : State) (e : Entry), s.takes memQuerySpec e true)
    ∧ (∃ (s : State) (e : Entry), s.takes linkQuerySpec e true)
    ∧ (∃ (s : State) (e : Entry), s.takes openMailboxSpec e true
      ∧ 1 ≤ e.u 12 2
      ∧ e.u 12 2 ≤ 255
      ∧ 4 ≤ e.u 14 1
      ∧ e.u 14 1 ≤ 12
      ∧ e.u 15 1 = 0
      ∧ e.u 16 8 % 4096 = 0
      ∧ e.u 24 8 % 4096 = 0
      ∧ vectorFits (e.u 32 2) = true
      ∧ e.u 34 30 = 0
      ∧ ((e.u 12 2 = 1 → ∃ n, e.via = .boot n))
      ∧ ((s.dev.entered e).mbox (e.u 12 2)).isOpen = false
      ∧ ((s.dev.entered e).ctx (2 * e.u 12 2)).kind = 0
      ∧ ((s.dev.entered e).ctx (2 * e.u 12 2 + 1)).kind = 0
      ∧ (s.dev.entered e).queueWindow (e.u 16 8) (2 ^ e.u 14 1 * 64) = true
      ∧ (s.dev.entered e).queueWindow (e.u 24 8) (2 ^ e.u 14 1 * 64) = true)
    ∧ (∃ (s : State) (e : Entry), s.takes closeMailboxSpec e true
      ∧ 1 ≤ e.u 12 2
      ∧ e.u 12 2 ≤ 255
      ∧ ((∀ k, e.via = .queue k → k.val ≠ e.u 12 2))
      ∧ ((s.dev.entered e).mbox (e.u 12 2)).isOpen = true
      ∧ e.u 14 50 = 0
      ∧ (s.dev.entered e).mayAct e.via (.queue (2 * e.u 12 2)) = true)
    ∧ (∃ (s : State) (e : Entry), s.takes reserveQueuesSpec e true
      ∧ 1024 ≤ e.u 12 4
      ∧ e.u 12 4 + e.u 16 4 ≤ 1048576
      ∧ e.u 16 4 ≠ 0
      ∧ e.u 20 1 = 0
      ∧ e.u 21 43 = 0
      ∧ ((∀ x ∈ (s.dev.entered e).ctl.reserved, overlaps x.1 x.2.1 (e.u 12 4) (e.u 16 4) = true → x.2.2 = e.via.owner)))
    ∧ (∃ (s : State) (e : Entry), s.takes setModeSpec e true
      ∧ e.u 12 1 ≤ 3
      ∧ e.u 13 51 = 0
      ∧ modeAllowed s.dev.mode (e.u 12 1) = true
      ∧ ((s.dev.mode = 3 → ∀ b, b < 15 → s.dev.boothPresent b = true → s.dev.boothDown b = false))
      ∧ ((∀ n, n < 16 → s.dev.txState n = 0 ∨ 3 < s.dev.txState n)))
    ∧ (∃ (s : State) (e : Entry), s.takes recoverSpec e true
      ∧ e.u 12 1 = 2
      ∧ e.u 14 50 = 0
      ∧ (s.dev.entered e).unconsumed 3 14 0 = false
      ∧ e.via.principal = true)
    ∧ (∃ (s : State) (e : Entry), s.takes recoverSpec e true
      ∧ e.u 12 1 = 0
      ∧ e.u 13 1 ≤ 7
      ∧ e.u 14 50 = 0
      ∧ s.dev.lent (e.u 13 1) = false
      ∧ s.dev.portPresent (e.u 13 1) = true
      ∧ (s.dev.entered e).mayPort e.via (e.u 13 1) = true
      ∧ (s.dev.entered e).unconsumed 2 (e.u 13 1) 0 = false)
    ∧ (∃ (s : State) (e : Entry), s.takes openSystemQueueSpec e true
      ∧ e.u 12 1 ≤ 1
      ∧ 4 ≤ e.u 13 1
      ∧ e.u 13 1 ≤ 24
      ∧ vectorFits (e.u 14 2) = true
      ∧ e.u 16 8 % 4096 = 0
      ∧ e.u 24 8 % 64 = 0
      ∧ e.u 37 1 = 0
      ∧ e.u 40 24 = 0
      ∧ ((s.dev.entered e).ctx (e.u 12 1)).kind = 0
      ∧ (s.dev.entered e).netAdmits false true .queue (e.u 16 8) (2 ^ e.u 13 1 * (if e.u 12 1 = 0 then 128 else 64)) = true
      ∧ ((e.u 24 8 ≠ 0 → (s.dev.entered e).netAdmits false true .queue (e.u 24 8) 16 = true))) :=
  ⟨⟨rung 1 0 (layout [(2,5)]), boot 0 (layout [(2,5)]), by unfold State.takes State.awake; decide +kernel⟩,
    ⟨rung 1 1 (layout []), boot 0 (layout []), by unfold State.takes State.awake; decide +kernel⟩,
    ⟨rung 0 2 (layout [(2,65535)]), boot 0 (layout [(2,65535)]), by unfold State.takes State.awake; decide +kernel⟩,
    ⟨rung 1 3 (layout [(8,65536),(1,16),(1,3),(1,1)]), boot 0 (layout [(8,65536),(1,16),(1,3),(1,1)]), genBase,
        by unfold State.takes State.awake; decide +kernel⟩,
    ⟨rung 1 3 (layout [(8,0x7000000000000000),(1,30),(1,0),(1,0)]), boot 0 (layout [(8,0x7000000000000000),(1,30),(1,0),(1,0)]),
        by unfold State.takes State.awake; decide +kernel⟩,
    ⟨rung 1 4 (layout [(4,1)]) (fun d => d.setCtl { d.ctl with allocs := [{ handle := 1, off := genBase, size := 65536, kind := 0 }] }),
        boot 0 (layout [(4,1)]), { handle := 1, off := genBase, size := 65536, kind := 0 }, by unfold State.takes State.awake; decide +kernel⟩,
    ⟨rung 1 10 (layout []), boot 0 (layout []), by unfold State.takes State.awake; decide +kernel⟩,
    ⟨rung 1 11 (layout []), boot 0 (layout []), by unfold State.takes State.awake; decide +kernel⟩,
    ⟨rung 1 5 (layout [(2,255),(1,4),(1,0),(8,4096),(8,8192),(2,0xFFFF)]) (windows),
        boot 0 (layout [(2,255),(1,4),(1,0),(8,4096),(8,8192),(2,0xFFFF)]), by unfold State.takes State.awake; decide +kernel⟩,
    ⟨rung 1 6 (layout [(2,1)]) (fun d => d.setMbox 1 { isOpen := true }), boot 0 (layout [(2,1)]), by unfold State.takes State.awake; decide +kernel⟩,
    ⟨rung 1 7 (layout [(4,1024),(4,1047552),(1,0)]), boot 0 (layout [(4,1024),(4,1047552),(1,0)]), by unfold State.takes State.awake; decide +kernel⟩,
    ⟨rung 0 8 (layout [(1,1)]), boot 0 (layout [(1,1)]), by unfold State.takes State.awake; decide +kernel⟩,
    ⟨rung 3 9 (layout [(1,2),(1,0)]), boot 0 (layout [(1,2),(1,0)]), by unfold State.takes State.awake; decide +kernel⟩,
    ⟨rung 3 9 (layout [(1,0),(1,7)]) (fun d => d.put R.ID_PRESENT_PORT [] 255), boot 0 (layout [(1,0),(1,7)]),
        by unfold State.takes State.awake; decide +kernel⟩,
    ⟨rung 1 12 (layout [(1,1),(1,24),(2,2047),(8,4096),(8,64),(4,0),(1,0),(1,0),(2,0)]) (windows),
        boot 0 (layout [(1,1),(1,24),(2,2047),(8,4096),(8,64),(4,0),(1,0),(1,0),(2,0)]), by unfold State.takes State.awake; decide +kernel⟩⟩

theorem wit_RingmasterRows :
    (∃ (s : State) (_ : Nat), s.awake
      ∧ s.dev.flag R.RM_WDT_CTL_LOCK [] = false)
    ∧ (∃ (s : State) (_ : Nat), s.awake
      ∧ s.dev.flag R.RM_WDT_CTL_LOCK [] = true)
    ∧ (∃ s : State, s.awake
      ∧ s.dev.ctl.kickHalf = true
      ∧ 10 * s.dev.ctl.wdtNs < 11 * s.dev.wdtSpan)
    ∧ (∃ (s : State) (key : Byte), s.awake
      ∧ key ≠ 0x5A
      ∧ ((key ≠ 0xA5 ∨ s.dev.ctl.kickHalf = false)))
    ∧ (∃ s : State, s.awake
      ∧ s.dev.ctl.wdtHalf = false
      ∧ 9 * s.dev.wdtSpan ≤ 20 * s.dev.ctl.wdtNs)
    ∧ (∃ s : State, s.awake
      ∧ 9 * s.dev.wdtSpan ≤ 10 * s.dev.ctl.wdtNs)
    ∧ (∃ (s : State) (_ : Nat) (_ : Half) (_ : Word), s.awake
      ∧ s.dev.ready = true)
    ∧ (∃ (s : State) (_ : Fin 16) (_ : Word), s.awake
      ∧ s.dev.ready = true)
    ∧ (∃ (s : State) (_ : Nat) (_ : Half) (_ : Word), s.awake
      ∧ s.dev.ready = true
      ∧ s.dev.hostReach = false)
    ∧ (∃ (s : State) (n : Fin 8), s.awake
      ∧ s.dev.flag R.BMB_CTL_RING [n.val] = true
      ∧ s.dev.boothState 14 ≠ 0)
    ∧ (∃ (s : State) (h : Nat) (x : Alloc), s.awake
      ∧ s.dev.working 0x0003 [h] = true
      ∧ s.dev.alloc h = some x)
    ∧ (∃ (s : State) (i : Nat), s.awake
      ∧ s.dev.working 0x0009 [0, i] = true)
    ∧ (∃ (s : State) (i : Nat), s.awake
      ∧ s.dev.working 0x0009 [1, i] = true)
    ∧ (∃ s : State, s.awake
      ∧ s.dev.working 0x0009 [2, 0] = true
      ∧ s.dev.mordantFlush.2 = true
      ∧ ¬ (s.dev.mordantFlush.1.boothState 12 = 1 ∧ s.dev.mordantFlush.1.flag R.MSV_STAT_TAKEN [] = true))
    ∧ (∃ (s : State) (r : LogRec) (rest : List LogRec), s.awake
      ∧ s.dev.ctl.logger.log = r :: rest
      ∧ (s.dev.ctx 0).kind = 6
      ∧ (s.dev.ctx 0).error = false
      ∧ r.parts.length ≤ s.dev.roomLeft 0)
    ∧ (∃ s : State, s.awake
      ∧ s.dev.fwRuns = true) :=
  ⟨⟨running, 0, by unfold State.awake; decide +kernel⟩,
    ⟨running (fun d => d.setFlag R.RM_WDT_CTL_LOCK [] true), 0, by unfold State.awake; decide +kernel⟩,
    ⟨running (fun d => d.setCtl { d.ctl with kickHalf := true }), by unfold State.awake; decide +kernel⟩,
    ⟨running, 0xA5, by unfold State.awake; decide +kernel⟩,
    ⟨running (fun d => d.setCtl { d.ctl with wdtNs := 900000000 }), by unfold State.awake; decide +kernel⟩,
    ⟨running (fun d => d.setCtl { d.ctl with wdtNs := 1800000000 }), by unfold State.awake; decide +kernel⟩,
    ⟨running, 0, .full, 0, by unfold State.awake; decide +kernel⟩,
    ⟨running, 15, 1, by unfold State.awake; decide +kernel⟩,
    ⟨running, 0, .full, 0, by unfold State.awake; decide +kernel⟩,
    ⟨running (fun d => (d.setFlag R.BMB_CTL_RING [7] true).put R.BOOTH_STATE_STATE [14] 1), 7, by unfold State.awake; decide +kernel⟩,
    ⟨running (fun d => d.setCtl { d.ctl with allocs := [{ handle := 1, off := genBase, size := 65536, kind := 0 }], works := [{ via := .boot 0, opcode := 3, tag := 0, seq := 0, key := [1] }] }),
        1, { handle := 1, off := genBase, size := 65536, kind := 0 }, by unfold State.awake; decide +kernel⟩,
    ⟨running (fun d => d.setCtl { d.ctl with works := [{ via := .boot 0, opcode := 9, tag := 0, seq := 0, key := [0, 7] }] }), 7,
        by unfold State.awake; decide +kernel⟩,
    ⟨running (fun d => d.setCtl { d.ctl with works := [{ via := .boot 0, opcode := 9, tag := 0, seq := 0, key := [1, 31] }] }), 31,
        by unfold State.awake; decide +kernel⟩,
    ⟨running (fun d => d.setCtl { d.ctl with works := [{ via := .boot 0, opcode := 9, tag := 0, seq := 0, key := [2, 0] }] }),
        by unfold State.awake; decide +kernel⟩,
    ⟨running (fun d => (d.setCtx 0 { kind := 6, log2 := 4 }).logRecord (d.newRecord 3 2 14 0 false [])), (up 1).newRecord 3 2 14 0 false [], [],
        by unfold State.awake; decide +kernel⟩,
    ⟨running, by unfold State.awake; decide +kernel⟩⟩

theorem wit_CalliopeRows :
    (∃ (s : State) (n : Fin 16) (d : Device), s.awake
      ∧ (s.dev.wake 14).put R.CAL_LD_CTL_SEQ [] n.val = d
      ∧ d.flag R.CAL_LD_CTL_BUSY [] = false
      ∧ d.swapPending n.val = false
      ∧ d.seqFused n.val = false
      ∧ d.imageInside (d.get R.CAL_LD_ADDR_ADDR []) = true)
    ∧ (∃ (s : State) (n : Fin 16) (d : Device), s.awake
      ∧ (s.dev.wake 14).put R.CAL_LD_CTL_SEQ [] n.val = d
      ∧ d.flag R.CAL_LD_CTL_BUSY [] = false)
    ∧ (∃ (s : State) (n a : Nat) (bank : Bool), s.awake
      ∧ s.dev.ctl.load = some (n, a, bank))
    ∧ (∃ (s : State) (n : Fin 16), s.awake
      ∧ ((n.val < 8 → s.dev.portPresent n.val = true))
      ∧ (((s.dev.wake 14).seqState n.val = 1 ∨ (s.dev.wake 14).seqState n.val = 2)))
    ∧ (∃ (s : State) (n : Fin 16), s.awake
      ∧ ((n.val < 8 → s.dev.portPresent n.val = true))
      ∧ (s.dev.wake 14).seqState n.val = 3)
    ∧ (∃ (s : State) (n : Fin 16), s.awake
      ∧ ((n.val < 8 → s.dev.portPresent n.val = true))
      ∧ (((s.dev.wake 14).seqState n.val = 3 ∨ (s.dev.wake 14).seqState n.val = 4)))
    ∧ (∃ (s : State) (n : Fin 16) (booths home : Nat), s.awake
      ∧ 12 ≤ n.val
      ∧ booths < 2 ^ 15
      ∧ home < 16
      ∧ (((s.dev.wake 14).seqState n.val = 0 ∨ (s.dev.wake 14).seqState n.val = 3))
      ∧ ((booths ≠ 0 → bit booths home = true)))
    ∧ (∃ (s : State) (n : Fin 16) (_ _ : Nat), s.awake
      ∧ n.val < 12
      ∧ ((n.val < 8 → s.dev.portPresent n.val = true)))
    ∧ (∃ (s : State) (n : Fin 16) (_ : Fin 4) (_ : Word), s.awake
      ∧ ((n.val < 8 → s.dev.portPresent n.val = true)))
    ∧ (∃ (s : State) (n : Fin 16) (st : Step), s.awake
      ∧ s.dev.seqState n.val = 1
      ∧ s.dev.seqStep n.val = some st
      ∧ st.swap = false)
    ∧ (∃ (s : State) (n : Fin 16) (st : Step), s.awake
      ∧ s.dev.seqState n.val = 2
      ∧ s.dev.seqStep n.val = some st
      ∧ st.wkind = 3
      ∧ s.dev.waitHolds n.val st = true)
    ∧ (∃ (s : State) (n : Fin 16) (st : Step), s.awake
      ∧ s.dev.seqState n.val = 2
      ∧ s.dev.seqStep n.val = some st
      ∧ st.tout = true
      ∧ ttGe s.dev.tt (s.dev.waitTarget n.val st) = true) :=
  ⟨⟨running (fun d => d.put R.CAL_LD_ADDR_ADDR [] rmBase), 12,
      (((running (fun d => d.put R.CAL_LD_ADDR_ADDR [] rmBase)).dev.wake 14).put R.CAL_LD_CTL_SEQ [] 12), by unfold State.awake; decide +kernel⟩,
    ⟨running, 12, ((running.dev.wake 14).put R.CAL_LD_CTL_SEQ [] 12), by unfold State.awake; decide +kernel⟩,
    ⟨running (fun d => d.setCtl { d.ctl with load := some (0, 0, false) }), 0, 0, false, by unfold State.awake; decide +kernel⟩,
    ⟨running (fun d => d.put R.CAL_STAT_STATE [15] 2), 15, by unfold State.awake; decide +kernel⟩,
    ⟨running (fun d => d.put R.CAL_STAT_STATE [7] 3), 7, by unfold State.awake; decide +kernel⟩,
    ⟨running (fun d => d.put R.CAL_STAT_STATE [0] 4), 0, by unfold State.awake; decide +kernel⟩,
    ⟨running, 15, 0x7FFF, 14, by unfold State.awake; decide +kernel⟩,
    ⟨running, 11, 0, 0, by unfold State.awake; decide +kernel⟩,
    ⟨running, 15, 3, 5, by unfold State.awake; decide +kernel⟩,
    ⟨running (fun d => (d.put R.CAL_STAT_STATE [3] 1).setRoll 3 false { steps := [0] }), 3, ⟨0⟩, by unfold State.awake; decide +kernel⟩,
    ⟨running (fun d => (d.put R.CAL_STAT_STATE [3] 2).setRoll 3 false { steps := [3 * 2 ^ 59] }), 3, ⟨3 * 2 ^ 59⟩,
        by unfold State.awake; decide +kernel⟩,
    ⟨running (fun d => (d.put R.CAL_STAT_STATE [3] 2).setRoll 3 false { steps := [2 ^ 86] }), 3, ⟨2 ^ 86⟩, by unfold State.awake; decide +kernel⟩⟩

theorem wit_CurtainRows :
    (∃ (s : State) (n : Nat) (w : MaskedWrite) (v : Word), s.awake
      ∧ s.dev.get R.CUR_STG_ADDR_TX [] = n
      ∧ w = { addr := s.dev.get R.CUR_STG_ADDR_ADDR [], mask := s.dev.rd R.CUR_STG_MASK [], value := v }
      ∧ s.dev.stageResult n w false = 0)
    ∧ (∃ (s : State) (n : Nat) (w : MaskedWrite) (v : Word), s.awake
      ∧ s.dev.get R.CUR_STG_ADDR_TX [] = n
      ∧ w = { addr := s.dev.get R.CUR_STG_ADDR_ADDR [], mask := s.dev.rd R.CUR_STG_MASK [], value := v.extractLsb' 32 32 ++ BitVec.ofNat 32 s.dev.ctl.stageLow }
      ∧ s.dev.stageResult n w false = 0)
    ∧ (∃ (s : State) (r : Nat) (v : Word), s.awake
      ∧ s.dev.stageResult (s.dev.get R.CUR_STG_ADDR_TX []) { addr := s.dev.get R.CUR_STG_ADDR_ADDR [], mask := s.dev.rd R.CUR_STG_MASK [], value := v } false = r
      ∧ (r = 1 ∨ r = 2 ∨ r = 3))
    ∧ (∃ (s : State) (n : Fin 16) (d : Device), s.awake
      ∧ n ≠ 15
      ∧ (s.dev.wake 14).wr R.CUR_TX_CTL [n.val] ((s.dev.wake 14).rd R.CUR_TX_CTL [n.val]) = d
      ∧ (d.txState n.val = 0 ∨ d.txState n.val = 4 ∨ d.txState n.val = 5))
    ∧ (∃ (s : State) (n : Fin 16) (d : Device), s.awake
      ∧ n ≠ 15
      ∧ (s.dev.wake 14).wr R.CUR_TX_CTL [n.val] ((s.dev.wake 14).rd R.CUR_TX_CTL [n.val]) = d
      ∧ d.txState n.val = 1)
    ∧ (∃ (s : State) (n : Fin 16) (d : Device), s.awake
      ∧ n ≠ 15
      ∧ (s.dev.wake 14).wr R.CUR_TX_CTL [n.val] ((s.dev.wake 14).rd R.CUR_TX_CTL [n.val]) = d)
    ∧ (∃ s : State, s.awake
      ∧ s.dev.ctl.bootPath = false)
    ∧ (∃ (s : State) (n : Fin 16) (d : Device) (i r : Nat) (w : MaskedWrite) (b : Nat), s.awake
      ∧ Device.judgeMany n.val (s.dev.tx n.val).entries.length s.dev = d
      ∧ d.txState n.val = 2
      ∧ (d.tx n.val).failed = some (i, r)
      ∧ (d.tx n.val).entries[i]? = some w
      ∧ boothOf w.addr = some b)
    ∧ (∃ (s : State) (n : Fin 16) (d : Device), s.awake
      ∧ Device.judgeMany n.val (s.dev.tx n.val).entries.length s.dev = d
      ∧ d.txState n.val = 2
      ∧ (d.tx n.val).failed = none
      ∧ (d.adopting (d.tx n.val).entries).forbiddenCycle = none
      ∧ d.txMode n.val = 0)
    ∧ (∃ (s : State) (n : Fin 16), s.awake
      ∧ s.dev.txState n.val = 3
      ∧ s.dev.txMode n.val = 2
      ∧ (s.dev.tx n.val).fired = false
      ∧ s.dev.flag R.CUR_TX_CTL_DL_EN [n.val] = true)
    ∧ (∃ (s : State) (n : Fin 16) (after : Device), s.awake
      ∧ s.dev.txFixed n.val = true
      ∧ (s.dev.tx n.val).sampled = false
      ∧ ttGe (s.dev.tt + leadTime) (s.dev.tx n.val).ttc = true
      ∧ s.dev.adopting (s.dev.tx n.val).entries = after)
    ∧ (∃ (s : State) (n : Fin 16), s.awake
      ∧ s.dev.txFixed n.val = true
      ∧ (s.dev.tx n.val).sampled = true
      ∧ ttGe s.dev.tt (s.dev.tx n.val).ttc = true
      ∧ ((∀ m, m < 16 → s.dev.adoptsFirst m n.val = false)))
    ∧ (∃ (s : State) (e : Nat) (ws : List MaskedWrite) (rest : List (Nat × List MaskedWrite)), s.awake
      ∧ s.dev.sec.extend = (e, ws) :: rest)
    ∧ (∃ s : State, s.awake
      ∧ s.dev.sec.extend = []) :=
  ⟨⟨running (fun d => (d.put R.CUR_TX_STAT_STATE [13] 1).put R.CUR_STG_ADDR_TX [] 13 |>.put R.CUR_STG_ADDR_ADDR [] (R.CAL_CNT.addr [0])), 13,
      { addr := R.CAL_CNT.addr [0], mask := 0, value := 5 }, 5, by unfold State.awake; decide +kernel⟩,
    ⟨running (fun d => (d.put R.CUR_TX_STAT_STATE [13] 1).put R.CUR_STG_ADDR_TX [] 13 |>.put R.CUR_STG_ADDR_ADDR [] (R.CAL_CNT.addr [0])), 13,
        { addr := R.CAL_CNT.addr [0], mask := 0, value := 0 }, 5, by unfold State.awake; decide +kernel⟩,
    ⟨running, 3, 0, by unfold State.awake; decide +kernel⟩,
    ⟨running, 0, ((running.dev.wake 14).wr R.CUR_TX_CTL [0] ((running.dev.wake 14).rd R.CUR_TX_CTL [0])), by unfold State.awake; decide +kernel⟩,
    ⟨running (fun d => d.put R.CUR_TX_STAT_STATE [13] 1), 13,
        (((running (fun d => d.put R.CUR_TX_STAT_STATE [13] 1)).dev.wake 14).wr R.CUR_TX_CTL [13] (((running (fun d => d.put R.CUR_TX_STAT_STATE [13] 1)).dev.wake 14).rd R.CUR_TX_CTL [13])),
        by unfold State.awake; decide +kernel⟩,
    ⟨running, 14, ((running.dev.wake 14).wr R.CUR_TX_CTL [14] ((running.dev.wake 14).rd R.CUR_TX_CTL [14])), by unfold State.awake; decide +kernel⟩,
    ⟨running (fun d => d.setCtl { d.ctl with bootPath := false }), by unfold State.awake; decide +kernel⟩,
    ⟨running (fun d => (d.put R.CUR_TX_STAT_STATE [2] 2).setTx 2 { entries := [{ addr := R.CAL_CNT.addr [0], mask := 1, value := 5 }], failed := some (0, 3) }),
        2,
        Device.judgeMany 2 1 (running (fun d => (d.put R.CUR_TX_STAT_STATE [2] 2).setTx 2 { entries := [{ addr := R.CAL_CNT.addr [0], mask := 1, value := 5 }], failed := some (0, 3) })).dev,
        0, 3, { addr := R.CAL_CNT.addr [0], mask := 1, value := 5 }, 14, by unfold State.awake; decide +kernel⟩,
    ⟨running (fun d => d.put R.CUR_TX_STAT_STATE [15] 2), 15, (running (fun d => d.put R.CUR_TX_STAT_STATE [15] 2)).dev,
        by unfold State.awake; decide +kernel⟩,
    ⟨running (fun d => ((d.put R.CUR_TX_STAT_STATE [1] 3).put R.CUR_TX_CTL_MODE [1] 2).setFlag R.CUR_TX_CTL_DL_EN [1] true), 1,
        by unfold State.awake; decide +kernel⟩,
    ⟨running (fun d => d.put R.CUR_TX_STAT_STATE [1] 3), 1, (running (fun d => d.put R.CUR_TX_STAT_STATE [1] 3)).dev.adopting [],
        by unfold State.awake; decide +kernel⟩,
    ⟨running (fun d => (d.put R.CUR_TX_STAT_STATE [15] 3).setTx 15 { sampled := true }), 15, by unfold State.awake; decide +kernel⟩,
    ⟨running (fun d => { d with sec := { d.sec with extend := [(1, [])] } }), 1, [], [], by unfold State.awake; decide +kernel⟩,
    ⟨running, by unfold State.awake; decide +kernel⟩⟩

theorem wit_NetPortRows :
    (∃ s : State, s.awake
      ∧ s.dev.hostReach = true
      ∧ s.dev.get R.NET_PORT_STAT_KEY_FAIL [] < 8)
    ∧ (∃ s : State, s.awake
      ∧ s.dev.hostReach = true
      ∧ 8 ≤ s.dev.get R.NET_PORT_STAT_KEY_FAIL [])
    ∧ (∃ s : State, s.awake
      ∧ s.dev.hostReach = true
      ∧ s.dev.flag R.NET_PORT_STAT_UNLOCKED [] = false)
    ∧ (∃ s : State, s.awake
      ∧ s.dev.hostReach = true
      ∧ s.dev.flag R.NET_PORT_STAT_UNLOCKED [] = true)
    ∧ (∃ s : State, s.awake
      ∧ s.dev.hostReach = true)
    ∧ (∃ (s : State) (w : MaskedWrite) (v : Word), s.awake
      ∧ s.dev.hostReach = true
      ∧ s.dev.flag R.NET_PORT_STAT_UNLOCKED [] = true
      ∧ w = { addr := 0x0F700000 + s.dev.get R.NET_PORT_ADDR_OFFSET [] * 8, mask := s.dev.rd R.NET_PORT_MASK [], value := v }
      ∧ s.dev.stageResult 15 w true = 0)
    ∧ (∃ (s : State) (w : MaskedWrite) (v : Word), s.awake
      ∧ s.dev.hostReach = true
      ∧ s.dev.flag R.NET_PORT_STAT_UNLOCKED [] = true
      ∧ w = { addr := 0x0F700000 + s.dev.get R.NET_PORT_ADDR_OFFSET [] * 8, mask := s.dev.rd R.NET_PORT_MASK [], value := v.extractLsb' 32 32 ++ BitVec.ofNat 32 s.dev.ctl.netLow }
      ∧ s.dev.stageResult 15 w true = 0)
    ∧ (∃ (s : State) (_ : BitVec 32), s.awake
      ∧ s.dev.hostReach = true)
    ∧ (∃ s : State, s.awake
      ∧ s.dev.hostReach = false)
    ∧ (∃ s : State, s.awake
      ∧ s.dev.sec.netHashDue = true)
    ∧ (∃ s : State, s.awake
      ∧ s.dev.sec.netHashDue = false) :=
  ⟨⟨running hosted, by unfold State.awake; decide +kernel⟩,
    ⟨running (fun d => hosted (d.put R.NET_PORT_STAT_KEY_FAIL [] 8)), by unfold State.awake; decide +kernel⟩,
    ⟨running (fun d => hosted (d.setFlag R.NET_PORT_STAT_UNLOCKED [] false)), by unfold State.awake; decide +kernel⟩,
    ⟨running (fun d => hosted (d.setFlag R.NET_PORT_STAT_UNLOCKED [] true)), by unfold State.awake; decide +kernel⟩,
    ⟨running hosted, by unfold State.awake; decide +kernel⟩,
    ⟨running (fun d => hosted (((d.setFlag R.NET_PORT_STAT_UNLOCKED [] true).put R.CUR_TX_STAT_STATE [15] 1).put R.NET_PORT_ADDR_OFFSET [] 0x20)),
        { addr := 0x0F700100, mask := 0, value := 7 }, 7, by unfold State.awake; decide +kernel⟩,
    ⟨running (fun d => hosted (((d.setFlag R.NET_PORT_STAT_UNLOCKED [] true).put R.CUR_TX_STAT_STATE [15] 1).put R.NET_PORT_ADDR_OFFSET [] 0x20)),
        { addr := 0x0F700100, mask := 0, value := 0 }, 7, by unfold State.awake; decide +kernel⟩,
    ⟨running hosted, 0, by unfold State.awake; decide +kernel⟩,
    ⟨running, by unfold State.awake; decide +kernel⟩,
    ⟨running (fun d => { d with sec := { d.sec with netHashDue := true } }), by unfold State.awake; decide +kernel⟩,
    ⟨running, by unfold State.awake; decide +kernel⟩⟩

theorem wit_LaneTrainingRows :
    (∃ (s : State) (l : Fin 16) (v : Word), s.awake
      ∧ s.dev.portPresent (l.val / 2) = true
      ∧ s.dev.lanePresent l.val = true
      ∧ R.LN_CTL_LOOP.of v ≠ 3)
    ∧ (∃ (d : Device) (l : Fin 16) (v : Word), R.LN_CTL_RATE.of v ≠ d.get R.LN_CTL_RATE (lx l.val))
    ∧ (∃ (s : State) (l : Fin 16) (v : Word), s.awake
      ∧ s.dev.portPresent (l.val / 2) = true
      ∧ s.dev.lanePresent l.val = true
      ∧ R.LN_TX_SWING.of v ≤ s.dev.get R.NET_LN_SWING_MAX [l.val])
    ∧ (∃ (s : State) (l : Fin 16) (v : Word), s.awake
      ∧ s.dev.portPresent (l.val / 2) = true
      ∧ s.dev.lanePresent l.val = true
      ∧ s.dev.get R.NET_LN_SWING_MAX [l.val] < R.LN_TX_SWING.of v)
    ∧ (∃ (s : State) (l : Fin 16) (v : Word) (t : List Int) (d : Device), s.awake
      ∧ s.dev.portPresent (l.val / 2) = true
      ∧ s.dev.lanePresent l.val = true
      ∧ (List.range 5).map (fun i => sgn 8 (bits v.toNat (8 * i) 8)) = t
      ∧ s.dev.wake (l.val / 2) = d)
    ∧ (∃ (s : State) (l : Fin 16) (d : Device), s.awake
      ∧ s.dev.portPresent (l.val / 2) = true
      ∧ s.dev.lanePresent l.val = true
      ∧ (s.dev.wake (l.val / 2)).training l.val = false
      ∧ (s.dev.wake (l.val / 2)).wr R.LN_TRAIN_CTL (lx l.val) ((s.dev.wake (l.val / 2)).rd R.LN_TRAIN_CTL (lx l.val)) = d
      ∧ (d.flag R.LN_TX_TX_IDLE (lx l.val) = false ∨ (d.txAdmitted l.val = true ∧ (d.lane l.val).cut = false)))
    ∧ (∃ (s : State) (l : Fin 16) (d : Device), s.awake
      ∧ s.dev.portPresent (l.val / 2) = true
      ∧ s.dev.lanePresent l.val = true
      ∧ (s.dev.wake (l.val / 2)).training l.val = false
      ∧ (s.dev.wake (l.val / 2)).wr R.LN_TRAIN_CTL (lx l.val) ((s.dev.wake (l.val / 2)).rd R.LN_TRAIN_CTL (lx l.val)) = d
      ∧ d.flag R.LN_TX_TX_IDLE (lx l.val) = true
      ∧ ((d.txAdmitted l.val = false ∨ (d.lane l.val).cut = true)))
    ∧ (∃ (s : State) (l : Fin 16), s.awake
      ∧ s.dev.portPresent (l.val / 2) = true
      ∧ s.dev.lanePresent l.val = true)
    ∧ (∃ (s : State) (l : Fin 16) (_ : BitVec 16), s.awake
      ∧ s.dev.portPresent (l.val / 2) = true
      ∧ s.dev.lanePresent l.val = true)
    ∧ (∃ (s : State) (l : Fin 16), s.awake
      ∧ s.dev.portPresent (l.val / 2) = true
      ∧ s.dev.lanePresent l.val = true
      ∧ (s.dev.wake (l.val / 2)).flag R.LN_TRAIN_CTL_AUTO (lx l.val) = false
      ∧ (s.dev.wake (l.val / 2)).trainState l.val = 2)
    ∧ (∃ (s : State) (l : Fin 16) (w c : Word) (_ v : Nat), s.awake
      ∧ s.dev.lanePresent l.val = true
      ∧ s.dev.trainState l.val = 2
      ∧ word2Of w.toNat c.toNat (s.dev.lane l.val).word2 = some v)
    ∧ (∃ (s : State) (l : Fin 16) (h : BitVec 128) (_ _ : Word) (_ : Nat), s.awake
      ∧ s.dev.lanePresent l.val = true
      ∧ (s.dev.training l.val = false ∨ h ≠ ~~~ trainPat ++ trainPat))
    ∧ (∃ (s : State) (l : Fin 16), s.awake
      ∧ s.dev.lanePresent l.val = true
      ∧ s.dev.training l.val = true)
    ∧ (∃ (s : State) (l : Fin 16) (t : TT), s.awake
      ∧ s.dev.lanePresent l.val = true
      ∧ s.dev.training l.val = true
      ∧ (s.dev.lane l.val).losSince = some t) :=
  ⟨⟨running, 15, 0, by unfold State.awake; decide +kernel⟩,
    ⟨(up 1), 0, 5, by decide +kernel⟩,
    ⟨running (fun d => d.put R.NET_LN_SWING_MAX [15] 1200), 15, 0, by unfold State.awake; decide +kernel⟩,
    ⟨running, 0, 1, by unfold State.awake; decide +kernel⟩,
    ⟨running, 15, 0x0000400000, [0, 0, 64, 0, 0], ((up 1).wake 7), by unfold State.awake; decide +kernel⟩,
    ⟨running (fun d => d.setFlag R.NET_LN_TX_EN [3] true |>.put R.NET_LN_SWING_MAX [3] 1200), 3,
        (((running (fun d => d.setFlag R.NET_LN_TX_EN [3] true |>.put R.NET_LN_SWING_MAX [3] 1200)).dev.wake 1).wr R.LN_TRAIN_CTL [1,
        1] (((running (fun d => d.setFlag R.NET_LN_TX_EN [3] true |>.put R.NET_LN_SWING_MAX [3] 1200)).dev.wake 1).rd R.LN_TRAIN_CTL [1, 1])),
        by unfold State.awake; decide +kernel⟩,
    ⟨running, 0, (((up 1).wake 0).wr R.LN_TRAIN_CTL [0, 0] (((up 1).wake 0).rd R.LN_TRAIN_CTL [0, 0])), by unfold State.awake; decide +kernel⟩,
    ⟨running, 0, by unfold State.awake; decide +kernel⟩,
    ⟨running, 15, 0, by unfold State.awake; decide +kernel⟩,
    ⟨running (fun d => (d.setFlag R.LN_TRAIN_CTL_AUTO [0, 0] false).put R.LN_TRAIN_STAT_STATE [0, 0] 2), 0, by unfold State.awake; decide +kernel⟩,
    ⟨running (fun d => (d.put R.LN_TRAIN_STAT_STATE [7, 1] 2).setLane 15 { word2 := some 0x4000 }), 15, 1, 1, 0, 0x4000,
        by unfold State.awake; decide +kernel⟩,
    ⟨running, 2, 0, 0, 0, 0, by unfold State.awake; decide +kernel⟩,
    ⟨running (fun d => d.put R.LN_TRAIN_STAT_STATE [0, 1] 1), 1, by unfold State.awake; decide +kernel⟩,
    ⟨running (fun d => (d.put R.LN_TRAIN_STAT_STATE [0, 1] 3).setLane 1 { losSince := some 0 }), 1, 0, by unfold State.awake; decide +kernel⟩⟩

theorem wit_LaneReceiverRows :
    (∃ (s : State) (l : Fin 16), s.awake
      ∧ s.dev.lanePresent l.val = true
      ∧ s.dev.flag R.LN_CTL_TX_ON (lx l.val) = true
      ∧ s.dev.get R.LN_CTL_RATE (lx l.val) ≠ 0)
    ∧ (∃ (s : State) (l : Fin 16), s.awake
      ∧ s.dev.lanePresent l.val = true
      ∧ (s.dev.flag R.LN_CTL_TX_ON (lx l.val) = false ∨ s.dev.get R.LN_CTL_RATE (lx l.val) = 0))
    ∧ (∃ (s : State) (l : Fin 16), s.awake
      ∧ s.dev.lanePresent l.val = true
      ∧ s.dev.flag R.LN_CTL_RX_EN (lx l.val) = true
      ∧ s.dev.get R.LN_CTL_RATE (lx l.val) ≠ 0
      ∧ s.dev.flag R.LN_STAT_LOS (lx l.val) = false)
    ∧ (∃ (s : State) (l : Fin 16), s.awake
      ∧ s.dev.lanePresent l.val = true
      ∧ s.dev.flag R.LN_STAT_LOS (lx l.val) = true)
    ∧ (∃ (s : State) (l : Fin 16) (mv ns : Nat), s.awake
      ∧ s.dev.lanePresent l.val = true
      ∧ mv < s.dev.get R.LN_LOS_CFG_THRESH (lx l.val) * 10
      ∧ max 16 (s.dev.get R.LN_LOS_CFG_ASSERT_NS (lx l.val)) ≤ ns
      ∧ s.dev.flag R.LN_STAT_LOS (lx l.val) = false)
    ∧ (∃ (s : State) (l : Fin 16) (mv ns : Nat), s.awake
      ∧ s.dev.lanePresent l.val = true
      ∧ (s.dev.get R.LN_LOS_CFG_THRESH (lx l.val) * 10 ≤ mv ∨ ns < 16))
    ∧ (∃ (s : State) (l : Fin 16) (mv ns : Nat), s.awake
      ∧ s.dev.lanePresent l.val = true
      ∧ (s.dev.get R.LN_LOS_CFG_THRESH (lx l.val) + s.dev.get R.LN_LOS_CFG_HYST (lx l.val)) * 10 < mv
      ∧ 16 ≤ ns)
    ∧ (∃ (s : State) (l : Fin 16) (ppm words : Nat), s.awake
      ∧ s.dev.lanePresent l.val = true
      ∧ (500 < ppm ∨ 64 ≤ words)
      ∧ s.dev.flag R.LN_CTL_RX_EN (lx l.val) = true)
    ∧ (∃ (s : State) (l : Fin 16) (ppm words : Nat), s.awake
      ∧ s.dev.lanePresent l.val = true
      ∧ ppm ≤ 500
      ∧ words < 64)
    ∧ (∃ (s : State) (l : Fin 16), s.awake
      ∧ s.dev.lanePresent l.val = true
      ∧ s.dev.flag R.LN_CTL_RX_EN (lx l.val) = true
      ∧ s.dev.flag R.LN_STAT_RX_HOLD (lx l.val) = false)
    ∧ (∃ (s : State) (l : Fin 16), s.awake
      ∧ s.dev.lanePresent l.val = true
      ∧ s.dev.flag R.LN_CTL_RX_EN (lx l.val) = false)
    ∧ (∃ (s : State) (l : Fin 16), s.awake
      ∧ s.dev.lanePresent l.val = true
      ∧ s.dev.flag R.LN_STAT_WAKE (lx l.val) = true)
    ∧ (∃ (s : State) (l : Fin 16), s.awake
      ∧ s.dev.portPresent (l.val / 2) = true
      ∧ s.dev.lanePresent l.val = true
      ∧ (s.dev.wake (l.val / 2)).flag R.LN_ALIGN_CTL_SLIP_BUSY (lx l.val) = false)
    ∧ (∃ (s : State) (l : Fin 16), s.awake
      ∧ s.dev.lanePresent l.val = true
      ∧ s.dev.flag R.LN_ALIGN_CTL_SLIP_BUSY (lx l.val) = true)
    ∧ (∃ (s : State) (l : Fin 16) (d : Device), s.awake
      ∧ s.dev.lanePresent l.val = true
      ∧ s.dev.countMisses l.val = d
      ∧ d.flag R.LN_ALIGN_STAT_FOUND (lx l.val) = true)
    ∧ (∃ (s : State) (l : Fin 16) (x : Search), s.awake
      ∧ s.dev.lanePresent l.val = true
      ∧ (s.dev.lane l.val).search = some x)
    ∧ (∃ (s : State) (l : Fin 16), s.awake
      ∧ s.dev.lanePresent l.val = true
      ∧ (s.dev.lane l.val).search = none)
    ∧ (∃ (s : State) (l : Fin 16) (_ : Nat) (_ : List Byte), s.awake
      ∧ s.dev.lanePresent l.val = true
      ∧ s.dev.flag R.LN_STAT_CDR_LOCK (lx l.val) = true)
    ∧ (∃ (s : State) (l : Fin 16), s.awake
      ∧ s.dev.portPresent (l.val / 2) = true
      ∧ s.dev.lanePresent l.val = true
      ∧ (s.dev.wake (l.val / 2)).flag R.LN_HIST_CTL_BUSY (lx l.val) = false)
    ∧ (∃ (s : State) (l : Fin 16) (low high : List (BitVec 32)) (inner : List (List (BitVec 32))), s.awake
      ∧ s.dev.lanePresent l.val = true
      ∧ s.dev.flag R.LN_HIST_CTL_BUSY (lx l.val) = true
      ∧ s.dev.pam4 l.val = false
      ∧ s.dev.worksOf 0x0407 [l.val] = []
      ∧ low.length = 64
      ∧ high.length = 64
      ∧ inner = [[], []]
      ∧ ((List.range 64).map (fun b => (low.getD b 0).toNat + (high.getD b 0).toNat)).sum = 2 ^ s.dev.get R.LN_HIST_CTL_WIN (lx l.val))
    ∧ (∃ (s : State) (l : Fin 16) (vs : List Nat) (r : List Bool × Nat) (c : PrbsChk), s.awake
      ∧ s.dev.lanePresent l.val = true
      ∧ s.dev.flag R.LN_PRBS_CHK (lx l.val) = true
      ∧ 1 ≤ s.dev.get R.LN_PRBS_POLY (lx l.val)
      ∧ s.dev.get R.LN_PRBS_POLY (lx l.val) ≤ 5
      ∧ s.dev.rxTake l.val (List.replicate (if s.dev.pam4 l.val then 2 * vs.length else vs.length) false) vs = r
      ∧ r.1.foldl (PrbsChk.step (s.dev.get R.LN_PRBS_POLY (lx l.val))) (s.dev.lane l.val).prbs = c) :=
  ⟨⟨running (fun d => (d.setFlag R.LN_CTL_TX_ON [7, 1] true).put R.LN_CTL_RATE [7, 1] 5), 15, by unfold State.awake; decide +kernel⟩,
    ⟨running, 0, by unfold State.awake; decide +kernel⟩,
    ⟨running (fun d => (d.setFlag R.LN_CTL_RX_EN [0, 0] true).put R.LN_CTL_RATE [0, 0] 1 |>.setFlag R.LN_STAT_LOS [0, 0] false), 0,
        by unfold State.awake; decide +kernel⟩,
    ⟨running (fun d => d.setFlag R.LN_STAT_LOS [0, 1] true), 1, by unfold State.awake; decide +kernel⟩,
    ⟨running (fun d => (d.setFlag R.LN_STAT_LOS [0, 1] false).put R.LN_LOS_CFG_THRESH [0, 1] 1), 1, 9, 65535, by unfold State.awake; decide +kernel⟩,
    ⟨running, 0, 0, 15, by unfold State.awake; decide +kernel⟩,
    ⟨running, 0, 100000, 16, by unfold State.awake; decide +kernel⟩,
    ⟨running (fun d => d.setFlag R.LN_CTL_RX_EN [0, 0] true), 0, 501, 0, by unfold State.awake; decide +kernel⟩,
    ⟨running, 0, 500, 63, by unfold State.awake; decide +kernel⟩,
    ⟨running (fun d => (d.setFlag R.LN_CTL_RX_EN [0, 0] true).setFlag R.LN_STAT_RX_HOLD [0, 0] false), 0, by unfold State.awake; decide +kernel⟩,
    ⟨running, 0, by unfold State.awake; decide +kernel⟩,
    ⟨running (fun d => d.setFlag R.LN_STAT_WAKE [3, 1] true), 7, by unfold State.awake; decide +kernel⟩,
    ⟨running, 15, by unfold State.awake; decide +kernel⟩,
    ⟨running (fun d => d.setFlag R.LN_ALIGN_CTL_SLIP_BUSY [3, 1] true), 7, by unfold State.awake; decide +kernel⟩,
    ⟨running (fun d => d.setFlag R.LN_ALIGN_STAT_FOUND [3, 1] true), 7, (running (fun d => d.setFlag R.LN_ALIGN_STAT_FOUND [3,
        1] true)).dev.countMisses 7, by unfold State.awake; decide +kernel⟩,
    ⟨running (fun d => d.setLane 15 { search := some { since := 0, start := 0, limitUs := 0, offset := 0 } }), 15,
        { since := 0, start := 0, limitUs := 0, offset := 0 }, by unfold State.awake; decide +kernel⟩,
    ⟨running, 0, by unfold State.awake; decide +kernel⟩,
    ⟨running (fun d => d.setFlag R.LN_STAT_CDR_LOCK [3, 1] true), 7, 15, [], by unfold State.awake; decide +kernel⟩,
    ⟨running, 0, by unfold State.awake; decide +kernel⟩,
    ⟨running (fun d => (d.setFlag R.LN_HIST_CTL_BUSY [0, 0] true).put R.LN_HIST_CTL_WIN [0, 0] 10), 0, (List.replicate 63 0 ++ [512]),
        (512 :: List.replicate 63 0), [[], []], by unfold State.awake; decide +kernel⟩,
    ⟨running (fun d => (d.setFlag R.LN_PRBS_CHK [0, 0] true).put R.LN_PRBS_POLY [0, 0] 5), 0, [0, 1], (running (fun d => (d.setFlag R.LN_PRBS_CHK [0,
        0] true).put R.LN_PRBS_POLY [0, 0] 5)).dev.rxTake 0 [false, false] [0, 1], ((running (fun d => (d.setFlag R.LN_PRBS_CHK [0,
        0] true).put R.LN_PRBS_POLY [0, 0] 5)).dev.rxTake 0 [false, false] [0, 1]).1.foldl (PrbsChk.step 5) {},
        by unfold State.awake; decide +kernel⟩⟩

set_option maxRecDepth 100000 in
theorem wit_PortLinkRows :
    (∃ (s : State) (p : Fin 8) (v : Word), s.awake
      ∧ s.dev.portPresent p.val = true
      ∧ R.PP_CTL_EMIT.of v = 0)
    ∧ (∃ (s : State) (p : Fin 8) (v : Word), s.awake
      ∧ s.dev.portPresent p.val = true
      ∧ R.PP_CTL_EMIT.of v = 1)
    ∧ (∃ (s : State) (e : EthLock), s.awake
      ∧ s.dev.portPresent e.port.val = true
      ∧ modeEth (s.dev.pmode e.port.val) = true
      ∧ s.dev.pstate e.port.val = 2
      ∧ s.dev.lanesLocked e.port.val = true
      ∧ ((s.dev.pmode e.port.val = 5 → e.skewNs ≤ 180)))
    ∧ (∃ (s : State) (e : EthLock), s.awake
      ∧ s.dev.portPresent e.port.val = true
      ∧ s.dev.pmode e.port.val = 5
      ∧ 180 < e.skewNs)
    ∧ (∃ (s : State) (p : Fin 8), s.awake
      ∧ s.dev.portPresent p.val = true
      ∧ modeEth (s.dev.pmode p.val) = true
      ∧ (s.dev.pstate p.val = 4 ∨ s.dev.pstate p.val = 2))
    ∧ (∃ (s : State) (p : Fin 8) (k : LinkX), s.awake
      ∧ s.dev.portPresent p.val = true
      ∧ (s.dev.prtx p.val).link = some k)
    ∧ (∃ (s : State) (p : Fin 8) (l : Nat) (t : TT), s.awake
      ∧ s.dev.portPresent p.val = true
      ∧ modeVxl (s.dev.pmode p.val) = true
      ∧ 2 ≤ s.dev.pstate p.val
      ∧ s.dev.pstate p.val ≤ 4
      ∧ l ∈ s.dev.portLanes p.val
      ∧ s.dev.flag R.LN_ALIGN_STAT_FOUND (lx l) = false
      ∧ (s.dev.lane l).unfoundSince = some t
      ∧ 65536000 ≤ ttDiff s.dev.tt t)
    ∧ (∃ (s : State) (p : Fin 8), s.awake
      ∧ s.dev.portPresent p.val = true
      ∧ (∀ l ∈ s.dev.portLanes p.val, s.dev.flag R.LN_ALIGN_STAT_FOUND (lx l) = true))
    ∧ (∃ (s : State) (p : Fin 8), s.awake
      ∧ s.dev.portPresent p.val = true
      ∧ modeVxl (s.dev.pmode p.val) = true
      ∧ s.dev.pstate p.val = 3
      ∧ 65536000000 ≤ ttDiff s.dev.tt (s.dev.prtx p.val).helloSince)
    ∧ (∃ (s : State) (p : Fin 8), s.awake
      ∧ s.dev.portPresent p.val = true
      ∧ s.dev.pstate p.val ≠ 3)
    ∧ (∃ (s : State) (l : Fin 16) (word p : Nat) (w1 : Word) (d : Device), s.awake
      ∧ s.dev.lanePresent l.val = true
      ∧ s.dev.portOfLane l.val = p
      ∧ modeVxl (s.dev.pmode p) = true
      ∧ s.dev.trainState l.val = 4
      ∧ crc16 (leBytes 6 w1.toNat) = bits w1.toNat 48 16
      ∧ ((s.dev.compareWord l.val word markerPat).linkEval p).setLane l.val { ((s.dev.compareWord l.val word markerPat).linkEval p).lane l.val with marker := some (bits w1.toNat 0 32, word, bits w1.toNat 32 2, bits w1.toNat 34 2) } = d)
    ∧ (∃ (s : State) (l : Fin 16) (_ : Nat) (_ _ : Word), s.awake
      ∧ s.dev.lanePresent l.val = true
      ∧ (modeVxl (s.dev.pmode (s.dev.portOfLane l.val)) = false ∨ s.dev.trainState l.val ≠ 4))
    ∧ (∃ (s : State) (p : Fin 8) (b : List Byte) (d : Device), s.awake
      ∧ s.dev.portPresent p.val = true
      ∧ modeVxl (s.dev.pmode p.val) = true
      ∧ s.dev.pstate p.val = 3
      ∧ b.length = 32
      ∧ crc16 (b.take 30) = fieldAt b 30 2
      ∧ fieldAt b 0 1 = 0x3C
      ∧ ((s.dev.put R.PP_VXL_INFO_ROLE [p.val] (fieldAt b 1 1)).put R.PP_VXL_INFO_VERSION [p.val] (fieldAt b 2 1) |>.put R.PP_VXL_INFO_LANES [p.val] (fieldAt b 3 1)).put R.PP_VXL_INFO_TRIG_LAT [p.val] (fieldAt b 4 4) = d)
    ∧ (∃ (s : State) (p : Fin 8) (b : List Byte), s.awake
      ∧ s.dev.portPresent p.val = true
      ∧ modeVxl (s.dev.pmode p.val) = true
      ∧ s.dev.pstate p.val = 3
      ∧ b.length = 32
      ∧ crc16 (b.take 30) ≠ fieldAt b 30 2)
    ∧ (∃ (s : State) (l : Fin 16) (m par msg : List Nat) (n : Nat), s.awake
      ∧ s.dev.lanePresent l.val = true
      ∧ modeVxl (s.dev.pmode (s.dev.portOfLane l.val)) = true
      ∧ 2 ≤ s.dev.pstate (s.dev.portOfLane l.val)
      ∧ rsDecode (m ++ par) = some (msg, n))
    ∧ (∃ (s : State) (l : Fin 16) (m par : List Nat), s.awake
      ∧ s.dev.lanePresent l.val = true
      ∧ modeVxl (s.dev.pmode (s.dev.portOfLane l.val)) = true
      ∧ 2 ≤ s.dev.pstate (s.dev.portOfLane l.val)
      ∧ rsDecode (m ++ par) = none)
    ∧ (∃ (s : State) (p : Fin 8), s.awake
      ∧ s.dev.portPresent p.val = true) :=
  ⟨⟨running, 7, 1, by unfold State.awake; decide +kernel⟩,
    ⟨running, 7, R.PP_CTL_EMIT.mask, by unfold State.awake; decide +kernel⟩,
    ⟨running (fun d => (d.put R.PP_CTL_MODE [3] 5).put R.PP_STAT_STATE [3] 2 |>.setFlag R.LN_STAT_CDR_LOCK [3,
        0] true |>.setFlag R.LN_STAT_CDR_LOCK [3, 1] true), { port := 3, skewNs := 180 }, by unfold State.awake; decide +kernel⟩,
    ⟨running (fun d => d.put R.PP_CTL_MODE [3] 5), { port := 3, skewNs := 181 }, by unfold State.awake; decide +kernel⟩,
    ⟨running (fun d => (d.put R.PP_CTL_MODE [7] 5).put R.PP_STAT_STATE [7] 4), 7, by unfold State.awake; decide +kernel⟩,
    ⟨running (fun d => d.setPrt 7 { link := some { start := 0, limitMs := 0, phase := 0 } }), 7, { start := 0, limitMs := 0, phase := 0 },
        by unfold State.awake; decide +kernel⟩,
    ⟨running (fun d => (later 65536000 ((d.put R.PP_CTL_MODE [7] 7).put R.PP_STAT_STATE [7] 2)).setLane 15 { unfoundSince := some 0 }), 7, 15, 0,
        by unfold State.awake; decide +kernel⟩,
    ⟨running, 7, by unfold State.awake; decide +kernel⟩,
    ⟨running (fun d => later 65536000000 ((d.put R.PP_CTL_MODE [7] 7).put R.PP_STAT_STATE [7] 3)), 7, by unfold State.awake; decide +kernel⟩,
    ⟨running, 7, by unfold State.awake; decide +kernel⟩,
    ⟨running (fun d => (d.put R.PP_CTL_MODE [7] 7).put R.LN_TRAIN_STAT_STATE [7, 1] 4), 15, 0, 7, (BitVec.ofNat 64 (crcWord 5)),
        (((((up 1).put R.PP_CTL_MODE [7] 7).put R.LN_TRAIN_STAT_STATE [7,
        1] 4).compareWord 15 0 markerPat).linkEval 7).setLane 15 { (((((up 1).put R.PP_CTL_MODE [7] 7).put R.LN_TRAIN_STAT_STATE [7, 1] 4).compareWord 15 0 markerPat).linkEval 7).lane 15 with marker := some (5, 0, 0, 0) },
        by unfold State.awake; decide +kernel⟩,
    ⟨running, 15, 0, 0, 0, by unfold State.awake; decide +kernel⟩,
    ⟨running (fun d => (d.put R.PP_CTL_MODE [7] 7).put R.PP_STAT_STATE [7] 3), 7, ctrlBlock 0x3C [1, 1],
        ((((up 1).put R.PP_CTL_MODE [7] 7).put R.PP_STAT_STATE [7] 3).put R.PP_VXL_INFO_ROLE [7] 1 |>.put R.PP_VXL_INFO_VERSION [7] 1 |>.put R.PP_VXL_INFO_LANES [7] 0).put R.PP_VXL_INFO_TRIG_LAT [7] 0,
        by unfold State.awake; decide +kernel⟩,
    ⟨running (fun d => (d.put R.PP_CTL_MODE [7] 7).put R.PP_STAT_STATE [7] 3), 7, (List.replicate 31 0 ++ [1]),
        by unfold State.awake; decide +kernel⟩,
    ⟨running (fun d => (d.put R.PP_CTL_MODE [7] 7).put R.PP_STAT_STATE [7] 2), 15, List.replicate 258 0, List.replicate 14 0, List.replicate 258 0, 0,
        by unfold State.awake; decide +kernel⟩,
    ⟨running (fun d => (d.put R.PP_CTL_MODE [7] 7).put R.PP_STAT_STATE [7] 2), 15, List.replicate 258 1, List.replicate 14 0,
        by unfold State.awake; decide +kernel⟩,
    ⟨running, 7, by unfold State.awake; decide +kernel⟩⟩

theorem wit_PacketRows :
    (∃ (s : State) (p : Fin 8) (f : List Byte) (_ : TT), s.awake
      ∧ s.dev.portPresent p.val = true
      ∧ modeEth (s.dev.pmode p.val) = true
      ∧ s.dev.up p.val = true
      ∧ s.dev.boothDown p.val = false
      ∧ (f.length < 64 ∨ 9600 < f.length ∨ crc32 (f.take (f.length - 4)) ≠ ofLE (f.drop (f.length - 4))))
    ∧ (∃ (s : State) (p : Fin 8) (f : List Byte) (_ : TT) (e : EthPkt), s.awake
      ∧ s.dev.portPresent p.val = true
      ∧ modeEth (s.dev.pmode p.val) = true
      ∧ s.dev.up p.val = true
      ∧ s.dev.boothDown p.val = false
      ∧ 64 ≤ f.length
      ∧ f.length ≤ 9600
      ∧ crc32 (f.take (f.length - 4)) = ofLE (f.drop (f.length - 4))
      ∧ parseEth (f.take (f.length - 4)) = some e
      ∧ e.etype = 0x8808)
    ∧ (∃ (s : State) (p : Fin 8) (f : List Byte) (t : TT) (e : EthPkt) (u : UdpPkt) (k : Nat) (d : Device), s.awake
      ∧ s.dev.portPresent p.val = true
      ∧ modeEth (s.dev.pmode p.val) = true
      ∧ s.dev.up p.val = true
      ∧ s.dev.boothDown p.val = false
      ∧ 64 ≤ f.length
      ∧ f.length ≤ 9600
      ∧ crc32 (f.take (f.length - 4)) = ofLE (f.drop (f.length - 4))
      ∧ parseEth (f.take (f.length - 4)) = some e
      ∧ e.etype ≠ 0x8808
      ∧ (s.dev.streamBoundary p.val t).macAccepts p.val e.dst = true
      ∧ e.ip = .udp u
      ∧ (s.dev.streamBoundary p.val t).count R.PP_CNT_RX_PKTS [p.val] = d
      ∧ d.classify p.val e.vlan u = some k)
    ∧ (∃ (s : State) (p : Fin 8) (_ : List Byte) (_ : TT), s.awake
      ∧ s.dev.portPresent p.val = true
      ∧ (modeEth (s.dev.pmode p.val) = false ∨ s.dev.up p.val = false))
    ∧ (∃ (s : State) (p : Fin 8) (f : List Byte) (_ : TT) (e : EthPkt) (d : Device), s.awake
      ∧ s.dev.portPresent p.val = true
      ∧ modeEth (s.dev.pmode p.val) = true
      ∧ s.dev.up p.val = true
      ∧ s.dev.boothDown p.val = false
      ∧ parseEth f = some e
      ∧ s.dev.count R.PP_CNT_TX_PKTS [p.val] = d)
    ∧ (∃ (s : State) (p : Fin 8) (q m : Nat) (t : TT) (rest : List (Nat × Nat × TT)), s.awake
      ∧ s.dev.portPresent p.val = true
      ∧ (s.dev.prtx p.val).txts = (q, m, t) :: rest)
    ∧ (∃ (s : State) (p : Fin 8), s.awake
      ∧ s.dev.portPresent p.val = true
      ∧ (s.dev.prtx p.val).txts = [])
    ∧ (∃ (s : State) (p : Fin 8) (f : List Byte) (x : Option TT) (rest : List (List Byte × Option TT)), s.awake
      ∧ s.dev.portPresent p.val = true
      ∧ (s.dev.prtx p.val).slow = (f, x) :: rest
      ∧ isGvcp f = false)
    ∧ (∃ (s : State) (p : Fin 8), s.awake
      ∧ s.dev.portPresent p.val = true
      ∧ (s.dev.prtx p.val).slow = []
      ∧ s.dev.ready = true)
    ∧ (∃ (s : State) (p : Fin 8) (f m ack : List Byte) (x : Option TT) (rest : List (List Byte × Option TT)) (mac ip port c : Nat) (d : Device),
        s.awake
      ∧ s.dev.portPresent p.val = true
      ∧ s.dev.ready = true
      ∧ (s.dev.prtx p.val).slow = (f, x) :: rest
      ∧ isGvcp f = true
      ∧ gvcpRequest f = some (mac, ip, port, m)
      ∧ s.dev.setPrt p.val { s.dev.prtx p.val with slow := rest } = d
      ∧ d.gvcpChannel p.val = some c
      ∧ (d.gvcpAnswer p.val c m).1 = some ack)
    ∧ (∃ (s : State) (p : Fin 8) (k : Fin 64) (t : TT), s.awake
      ∧ s.dev.portPresent p.val = true
      ∧ (s.dev.pkt p.val k.val).holdSince = some t)
    ∧ (∃ (s : State) (_ : TT), s.awake
      ∧ s.dev.ready = true
      ∧ s.dev.servo.state = 6
      ∧ logInterval s.dev.servo.syncLog ≤ ttDiff s.dev.tt s.dev.servo.sentSync)
    ∧ (∃ (s : State) (_ : TT), s.awake
      ∧ s.dev.ready = true
      ∧ s.dev.servo.state = 6
      ∧ logInterval s.dev.servo.announceLog ≤ ttDiff s.dev.tt s.dev.servo.sentAnnounce)
    ∧ (∃ (s : State) (_ : TT), s.awake
      ∧ s.dev.ready = true
      ∧ 1 ≤ s.dev.servo.state
      ∧ s.dev.servo.state ≤ 5
      ∧ logInterval s.dev.servo.delayLog ≤ ttDiff s.dev.tt s.dev.servo.sentDelay)
    ∧ (∃ (s : State) (k : Nat) (_ : TT), s.awake
      ∧ (s.dev.ready = false ∨ s.dev.servo.state = 0 ∨ 3 ≤ k))
    ∧ (∃ s : State, s.awake
      ∧ s.dev.ready = true
      ∧ 3 * logInterval s.dev.servo.announceLog ≤ ttDiff s.dev.tt s.dev.servo.lastSync)
    ∧ (∃ s : State, s.awake
      ∧ ttDiff s.dev.tt s.dev.servo.lastSync < 3 * logInterval s.dev.servo.announceLog) :=
  ⟨⟨running ethUp, 7, [], 0, by unfold State.awake; decide +kernel⟩,
    ⟨running ethUp, 7, framed (zeros 12 ++ [0x88, 0x08] ++ zeros 46), 0, { dst := 0, vlan := none, etype := 0x8808, body := zeros 46 },
        by unfold State.awake; decide +kernel⟩,
    ⟨running (fun d => ethUp (d.setFlag R.PP_SM_CTL_VALID [7, 63] true)), 7, framed (udp4Frame 0 (zeros 18)), 0,
        { dst := 0, vlan := none, etype := 0x0800, body := (udp4Frame 0 (zeros 18)).drop 14 },
        { v6 := false, src := 0, dst := 0, sport := 0, dport := 0, data := zeros 18 }, 63, (((ethUp ((up 1).setFlag R.PP_SM_CTL_VALID [7,
        63] true)).streamBoundary 7 0).count R.PP_CNT_RX_PKTS [7]), by unfold State.awake; decide +kernel⟩,
    ⟨running, 0, [], 0, by unfold State.awake; decide +kernel⟩,
    ⟨running ethUp, 7, udp4Frame 0 (zeros 18), 0, { dst := 0, vlan := none, etype := 0x0800, body := (udp4Frame 0 (zeros 18)).drop 14 },
        (ethUp (up 1)).count R.PP_CNT_TX_PKTS [7], by unfold State.awake; decide +kernel⟩,
    ⟨running (fun d => d.setPrt 7 { txts := [(1, 2, 3)] }), 7, 1, 2, 3, [], by unfold State.awake; decide +kernel⟩,
    ⟨running, 7, by unfold State.awake; decide +kernel⟩,
    ⟨running (fun d => d.setPrt 7 { slow := [([], none)] }), 7, [], none, [], by unfold State.awake; decide +kernel⟩,
    ⟨running, 7, by unfold State.awake; decide +kernel⟩,
    ⟨running (fun d => ((d.setPrt 7 { slow := [(udp4Frame 3956 [0x42, 1, 0, 2, 0, 0, 0, 9], none)] }).put R.PAL_CH_CTL_KIND [7,
        0] 2).setPal 7 0 { image := [1] }), 7, udp4Frame 3956 [0x42, 1, 0, 2, 0, 0, 0, 9], [0x42, 1, 0, 2, 0, 0, 0, 9], gvcpAck 0 3 9 (fit 248 [1]),
        none, [], 0, 0, 0, 0, ((((up 1).setPrt 7 { slow := [(udp4Frame 3956 [0x42, 1, 0, 2, 0, 0, 0, 9], none)] }).put R.PAL_CH_CTL_KIND [7,
        0] 2).setPal 7 0 { image := [1] }).setPrt 7 { slow := [] }, by unfold State.awake; decide +kernel⟩,
    ⟨running (fun d => d.setPkt 7 63 { holdSince := some 0 }), 7, 63, 0, by unfold State.awake; decide +kernel⟩,
    ⟨running (fun d => later (2 ^ 62) (d.setServo { state := 6 })), 0, by unfold State.awake; decide +kernel⟩,
    ⟨running (fun d => later (2 ^ 62) (d.setServo { state := 6 })), 0, by unfold State.awake; decide +kernel⟩,
    ⟨running (fun d => later (2 ^ 62) (d.setServo { state := 5 })), 0, by unfold State.awake; decide +kernel⟩,
    ⟨running, 0, 0, by unfold State.awake; decide +kernel⟩,
    ⟨running (fun d => later (2 ^ 62) (d.setServo { state := 1, role := 1 })), by unfold State.awake; decide +kernel⟩,
    ⟨running, by unfold State.awake; decide +kernel⟩⟩

theorem wit_VoxentRows :
    (∃ (s : State) (p : Fin 8) (b : List Byte) (t : TT) (k : Nat) (d e : Device), s.awake
      ∧ s.dev.portPresent p.val = true
      ∧ modeVxl (s.dev.pmode p.val) = true
      ∧ s.dev.up p.val = true
      ∧ s.dev.boothDown p.val = false
      ∧ b.length = 32
      ∧ crc16 (b.take 30) = fieldAt b 30 2
      ∧ fieldAt b 0 1 = 0x2D
      ∧ fieldAt b 1 1 % 64 = k
      ∧ ((s.dev.endCur p.val).streamBoundary p.val t).count R.PP_CNT_RX_PKTS [p.val] = d
      ∧ d.vxlEntry p.val k = true
      ∧ (lineStartHdr b).length ≠ 0
      ∧ d.beginLine p.val k (lineStartHdr b) t = e)
    ∧ (∃ (s : State) (p : Fin 8) (b : List Byte) (t : TT) (k : Nat) (d : Device), s.awake
      ∧ s.dev.portPresent p.val = true
      ∧ modeVxl (s.dev.pmode p.val) = true
      ∧ s.dev.up p.val = true
      ∧ s.dev.boothDown p.val = false
      ∧ b.length = 32
      ∧ crc16 (b.take 30) = fieldAt b 30 2
      ∧ fieldAt b 0 1 = 0x2D
      ∧ fieldAt b 1 1 % 64 = k
      ∧ ((s.dev.endCur p.val).streamBoundary p.val t).count R.PP_CNT_RX_PKTS [p.val] = d
      ∧ d.vxlEntry p.val k = false)
    ∧ (∃ (s : State) (p : Fin 8) (n : Nat) (bs : List Byte) (k len : Nat) (d : Device), s.awake
      ∧ s.dev.portPresent p.val = true
      ∧ s.dev.vxlUp p.val = true
      ∧ s.dev.boothDown p.val = false
      ∧ (s.dev.prtx p.val).cur = some { stream := some k, length := len }
      ∧ s.dev.lineBytes p.val k (32 * n) ((fit 32 bs).take (len - 32 * n)) = d
      ∧ 32 * n < len)
    ∧ (∃ (s : State) (p : Fin 8) (_ : Nat) (_ : List Byte), s.awake
      ∧ s.dev.portPresent p.val = true
      ∧ s.dev.vxlUp p.val = true
      ∧ s.dev.boothDown p.val = false
      ∧ (s.dev.prtx p.val).cur = none)
    ∧ (∃ (s : State) (p : Fin 8) (b : List Byte) (_ : TT), s.awake
      ∧ s.dev.portPresent p.val = true
      ∧ modeVxl (s.dev.pmode p.val) = true
      ∧ s.dev.up p.val = true
      ∧ s.dev.hostRole p.val = false
      ∧ b.length = 32
      ∧ crc16 (b.take 30) = fieldAt b 30 2
      ∧ fieldAt b 0 1 = 0x4B)
    ∧ (∃ (s : State) (p : Fin 8) (b : List Byte) (_ : TT), s.awake
      ∧ s.dev.portPresent p.val = true
      ∧ s.dev.hostRole p.val = true
      ∧ b.length = 32
      ∧ crc16 (b.take 30) = fieldAt b 30 2
      ∧ fieldAt b 0 1 = 0x4B)
    ∧ (∃ (s : State) (p : Fin 8) (a : TT) (id : Nat) (rest : List (TT × Nat)), s.awake
      ∧ s.dev.portPresent p.val = true
      ∧ (s.dev.prtx p.val).fires = (a, id) :: rest
      ∧ ttGe s.dev.tt a = true)
    ∧ (∃ (s : State) (p : Fin 8), s.awake
      ∧ s.dev.portPresent p.val = true
      ∧ (∀ f ∈ (s.dev.prtx p.val).fires, ttGe s.dev.tt f.1 = false))
    ∧ (∃ (s : State) (p : Fin 8) (slots : List (Nat × TT)) (g : TrigOut) (l : Nat) (t : TT) (d : Device), s.awake
      ∧ s.dev.portPresent p.val = true
      ∧ s.dev.vxlUp p.val = true
      ∧ s.dev.hostRole p.val = true
      ∧ s.dev.boothDown p.val = false
      ∧ (s.dev.prtx p.val).trigs = [g]
      ∧ s.dev.bestSlot p.val g slots = some (l, t)
      ∧ s.dev.setPrt p.val { s.dev.prtx p.val with trigs := [] } = d)
    ∧ (∃ (s : State) (p : Fin 8) (_ : List (Nat × TT)), s.awake
      ∧ s.dev.portPresent p.val = true
      ∧ (s.dev.hostRole p.val = false ∨ (s.dev.prtx p.val).trigs = []))
    ∧ (∃ (s : State) (p : Fin 8) (_ : Fin 4) (_ : TT), s.awake
      ∧ s.dev.portPresent p.val = true
      ∧ (s.dev.prtx p.val).echo = none
      ∧ s.dev.hostRole p.val = true
      ∧ modeVxl (s.dev.pmode p.val) = true
      ∧ s.dev.boothDown p.val = false)
    ∧ (∃ (s : State) (p : Fin 8) (_ : Fin 4) (_ : TT), s.awake
      ∧ s.dev.portPresent p.val = true
      ∧ ((s.dev.prtx p.val).echo.isSome = true ∨ s.dev.hostRole p.val = false))
    ∧ (∃ (s : State) (p : Fin 8) (_ : Fin 4) (b : List Byte) (_ _ : TT), s.awake
      ∧ s.dev.portPresent p.val = true
      ∧ modeVxl (s.dev.pmode p.val) = true
      ∧ s.dev.up p.val = true
      ∧ s.dev.hostRole p.val = false
      ∧ s.dev.boothDown p.val = false
      ∧ b.length = 32
      ∧ crc16 (b.take 30) = fieldAt b 30 2
      ∧ fieldAt b 0 1 = 0x66)
    ∧ (∃ (s : State) (p : Fin 8) (l : Fin 4) (b : List Byte) (_ : TT) (e : EchoX), s.awake
      ∧ s.dev.portPresent p.val = true
      ∧ modeVxl (s.dev.pmode p.val) = true
      ∧ s.dev.up p.val = true
      ∧ b.length = 32
      ∧ crc16 (b.take 30) = fieldAt b 30 2
      ∧ fieldAt b 0 1 = 0x78
      ∧ (s.dev.prtx p.val).echo = some e
      ∧ e.lane = l.val
      ∧ fieldAt b 1 1 = l.val
      ∧ fieldAt b 2 2 = e.id
      ∧ (s.dev.prtx p.val).cal = none)
    ∧ (∃ (s : State) (p : Fin 8) (e : EchoX), s.awake
      ∧ s.dev.portPresent p.val = true
      ∧ (s.dev.prtx p.val).echo = some e)
    ∧ (∃ (s : State) (p : Fin 8) (b : List Byte), s.awake
      ∧ s.dev.portPresent p.val = true
      ∧ modeVxl (s.dev.pmode p.val) = true
      ∧ s.dev.up p.val = true
      ∧ b.length = 32
      ∧ crc16 (b.take 30) = fieldAt b 30 2
      ∧ fieldAt b 0 1 = 0x55)
    ∧ (∃ (s : State) (p : Fin 8) (_ : Word), s.awake
      ∧ s.dev.portPresent p.val = true)
    ∧ (∃ (s : State) (p : Fin 8) (b : List Byte) (rest : List (List Byte)) (d : Device), s.awake
      ∧ s.dev.portPresent p.val = true
      ∧ (s.dev.prtx p.val).ccRx = b :: rest
      ∧ (s.dev.setPrt p.val { s.dev.prtx p.val with ccRx := rest }).showCc p.val = d)
    ∧ (∃ (s : State) (p : Fin 8), s.awake
      ∧ s.dev.portPresent p.val = true
      ∧ (s.dev.prtx p.val).ccRx = [])
    ∧ (∃ (s : State) (p : Fin 8) (tag : Nat) (r : CcReq), s.awake
      ∧ s.dev.portPresent p.val = true
      ∧ s.dev.ready = true
      ∧ tag < 16
      ∧ (s.dev.prtx p.val).ccReqs.find? (fun r => decide (r.tag = tag)) = some r)
    ∧ (∃ (s : State) (p : Fin 8) (tag : Nat) (r : CcReq) (d : Device), s.awake
      ∧ s.dev.portPresent p.val = true
      ∧ s.dev.ready = true
      ∧ (s.dev.prtx p.val).ccReqs = [r]
      ∧ r.tag = tag
      ∧ tag < 16
      ∧ r.tries < 3
      ∧ 131072000000 ≤ ttDiff s.dev.tt r.sent
      ∧ s.dev.setPrt p.val { s.dev.prtx p.val with ccReqs := [{ r with tries := r.tries + 1, sent := s.dev.tt }] } = d)
    ∧ (∃ (s : State) (p : Fin 8), s.awake
      ∧ s.dev.portPresent p.val = true
      ∧ s.dev.ready = true
      ∧ s.dev.vxlUp p.val = true
      ∧ s.dev.hostRole p.val = true
      ∧ (s.dev.prtx p.val).cal = none
      ∧ 65536000000000 ≤ ttDiff s.dev.tt (s.dev.prtx p.val).calibrated)
    ∧ (∃ (s : State) (p : Fin 8), s.awake
      ∧ s.dev.portPresent p.val = true
      ∧ (s.dev.hostRole p.val = false ∨ (s.dev.prtx p.val).cal.isSome = true)) :=
  ⟨⟨running (fun d => (linkUp d).setFlag R.PP_SM_CTL_VALID [7, 5] true |>.put R.PP_SM_CTL_KIND [7, 5] 3), 7, ctrlBlock 0x2D (layout [(1, 0x45), (14,
      0), (4, 64)]), 0, 5, ((((linkUp (up 1)).setFlag R.PP_SM_CTL_VALID [7, 5] true |>.put R.PP_SM_CTL_KIND [7,
      5] 3).endCur 7).streamBoundary 7 0).count R.PP_CNT_RX_PKTS [7], (((((linkUp (up 1)).setFlag R.PP_SM_CTL_VALID [7,
      5] true |>.put R.PP_SM_CTL_KIND [7,
      5] 3).endCur 7).streamBoundary 7 0).count R.PP_CNT_RX_PKTS [7]).beginLine 7 5 (lineStartHdr (ctrlBlock 0x2D (layout [(1, 0x45), (14, 0), (4,
      64)]))) 0, by unfold State.awake; decide +kernel⟩,
    ⟨running linkUp, 7, ctrlBlock 0x2D (layout [(1, 0x45), (14, 0), (4, 64)]), 0, 5,
        (((linkUp (up 1)).endCur 7).streamBoundary 7 0).count R.PP_CNT_RX_PKTS [7], by unfold State.awake; decide +kernel⟩,
    ⟨running (fun d => (linkUp d).setPrt 7 { cur := some { stream := some 0, length := 64 } }), 7, 1, [], 0, 64,
        ((linkUp (up 1)).setPrt 7 { cur := some { stream := some 0, length := 64 } }).lineBytes 7 0 32 ((fit 32 []).take 32),
        by unfold State.awake; decide +kernel⟩,
    ⟨running linkUp, 7, 0, [], by unfold State.awake; decide +kernel⟩,
    ⟨running (fun d => (linkUp d).setFlag R.PP_CTL_ROLE [7] true), 7, ctrlBlock 0x4B [], 0, by unfold State.awake; decide +kernel⟩,
    ⟨running linkUp, 7, ctrlBlock 0x4B [], 0, by unfold State.awake; decide +kernel⟩,
    ⟨running (fun d => d.setPrt 7 { fires := [(0, 3)] }), 7, 0, 3, [], by unfold State.awake; decide +kernel⟩,
    ⟨running, 7, by unfold State.awake; decide +kernel⟩,
    ⟨running (fun d => (linkUp d).setPrt 7 { trigs := [{ target := 0, prog := 0, count := 0, tgt := 0, trigId := 1, width := 1, level := true }] }),
        7, [(0, 2 ^ 40)], { target := 0, prog := 0, count := 0, tgt := 0, trigId := 1, width := 1, level := true }, 0, 2 ^ 40,
        ((linkUp (up 1)).setPrt 7 { trigs := [] }), by unfold State.awake; decide +kernel⟩,
    ⟨running, 7, [], by unfold State.awake; decide +kernel⟩,
    ⟨running linkUp, 7, 1, 0, by unfold State.awake; decide +kernel⟩,
    ⟨running (fun d => d.setFlag R.PP_CTL_ROLE [7] true), 7, 3, 0, by unfold State.awake; decide +kernel⟩,
    ⟨running (fun d => (linkUp d).setFlag R.PP_CTL_ROLE [7] true), 7, 3, ctrlBlock 0x66 [], 0, 0, by unfold State.awake; decide +kernel⟩,
    ⟨running (fun d => (linkUp d).setPrt 7 { echo := some { lane := 1, id := 2, t1 := 0, own := false } }), 7, 1, ctrlBlock 0x78 (layout [(1, 1), (2,
        2), (4, 9)]), 0, { lane := 1, id := 2, t1 := 0, own := false }, by unfold State.awake; decide +kernel⟩,
    ⟨running (fun d => d.setPrt 7 { echo := some { lane := 1, id := 2, t1 := 0, own := false } }), 7, { lane := 1, id := 2, t1 := 0, own := false },
        by unfold State.awake; decide +kernel⟩,
    ⟨running linkUp, 7, ctrlBlock 0x55 [], by unfold State.awake; decide +kernel⟩,
    ⟨running, 7, 0, by unfold State.awake; decide +kernel⟩,
    ⟨running (fun d => d.setPrt 7 { ccRx := [[]] }), 7, [], [], ((up 1).setPrt 7 { ccRx := [] }).showCc 7, by unfold State.awake; decide +kernel⟩,
    ⟨running, 7, by unfold State.awake; decide +kernel⟩,
    ⟨running (fun d => d.setPrt 7 { ccReqs := [{ tag := 15, block := [], sent := 0, tries := 0, purpose := 0, serial := 0 }] }), 7, 15,
        { tag := 15, block := [], sent := 0, tries := 0, purpose := 0, serial := 0 }, by unfold State.awake; decide +kernel⟩,
    ⟨running (fun d => later 131072000000 (d.setPrt 7 { ccReqs := [{ tag := 15, block := [], sent := 0, tries := 0, purpose := 0, serial := 0 }] })),
        7, 15, { tag := 15, block := [], sent := 0, tries := 0, purpose := 0, serial := 0 },
        (later 131072000000 ((up 1).setPrt 7 { ccReqs := [{ tag := 15, block := [], sent := 131072000000, tries := 1, purpose := 0, serial := 0 }] })),
        by unfold State.awake; decide +kernel⟩,
    ⟨running (fun d => later 65536000000000 (linkUp d)), 7, by unfold State.awake; decide +kernel⟩,
    ⟨running (fun d => d.setFlag R.PP_CTL_ROLE [7] true), 7, by unfold State.awake; decide +kernel⟩⟩

theorem wit_CaptureRows :
    (∃ (s : State) (p : Fin 8) (_ : Fin 64) (_ _ : Bool) (_ : List Byte) (_ : TT) (_ : LineHdr), s.awake
      ∧ s.dev.portPresent p.val = true
      ∧ (s.dev.up p.val = false ∨ s.dev.boothDown p.val = true))
    ∧ (∃ (s : State) (p : Fin 8) (k : Fin 64) (_ : List Byte) (_ : TT) (x : LineX), s.awake
      ∧ s.dev.portPresent p.val = true
      ∧ s.dev.up p.val = true
      ∧ s.dev.boothDown p.val = false
      ∧ s.dev.pmode p.val ≠ 9
      ∧ (s.dev.cap p.val k.val).line = some x)
    ∧ (∃ (s : State) (p : Fin 8) (k : Fin 64) (_ : List Byte) (t : TT) (f : FrameX) (d : Device) (x : LineX), s.awake
      ∧ s.dev.portPresent p.val = true
      ∧ s.dev.up p.val = true
      ∧ s.dev.boothDown p.val = false
      ∧ s.dev.pmode p.val ≠ 9
      ∧ (s.dev.cap p.val k.val).openFrame = some f
      ∧ s.dev.beginLine p.val k.val { wireFrame := f.wireFrame } t = d
      ∧ (d.cap p.val k.val).line = some x)
    ∧ (∃ (s : State) (p : Fin 8) (_ _ : Bool) (_ : List Byte) (_ : TT), s.awake
      ∧ s.dev.portPresent p.val = true
      ∧ s.dev.up p.val = true
      ∧ s.dev.boothDown p.val = false
      ∧ s.dev.pmode p.val = 9)
    ∧ (∃ (s : State) (p : Fin 8) (_ : Fin 64) (_ : LineHdr) (_ : TT), s.awake
      ∧ s.dev.portPresent p.val = true
      ∧ s.dev.up p.val = true
      ∧ s.dev.boothDown p.val = false)
    ∧ (∃ (s : State) (p : Fin 8) (k : Nat) (w : FifoWord) (rest : List FifoWord) (d : Device), s.awake
      ∧ s.dev.portPresent p.val = true
      ∧ s.dev.nextFifo p.val = some k
      ∧ (s.dev.cap p.val k).fifo = w :: rest
      ∧ (s.dev.setBth p.val { s.dev.bth p.val with lastFifo := k }).setCap p.val k { s.dev.cap p.val k with fifo := rest, owesDamaged := false, owesLostEol := false } = d)
    ∧ (∃ (s : State) (p : Fin 8), s.awake
      ∧ s.dev.portPresent p.val = true
      ∧ s.dev.nextFifo p.val = none)
    ∧ (∃ (s : State) (p : Fin 8) (k : Fin 64) (d : Device), s.awake
      ∧ s.dev.portPresent p.val = true
      ∧ s.dev.wake p.val = d
      ∧ d.get R.CAP_SC_CTL_FRAMING [p.val, k.val] = 1)
    ∧ (∃ (s : State) (p : Fin 8) (k : Fin 64) (d : Device), s.awake
      ∧ s.dev.portPresent p.val = true
      ∧ s.dev.wake p.val = d
      ∧ d.get R.CAP_SC_CTL_FRAMING [p.val, k.val] ≠ 1)
    ∧ (∃ (s : State) (p : Fin 8) (_ : Fin 64) (_ : Bool) (slot : Nat) (d : Device), s.awake
      ∧ s.dev.portPresent p.val = true
      ∧ s.dev.wake p.val = d
      ∧ slot < 1024)
    ∧ (∃ (s : State) (p : Fin 8) (k : Fin 64) (f : FrameX), s.awake
      ∧ s.dev.portPresent p.val = true
      ∧ (s.dev.cap p.val k.val).openFrame = some f)
    ∧ (∃ (s : State) (p : Fin 8) (k : Fin 64), s.awake
      ∧ s.dev.portPresent p.val = true
      ∧ (s.dev.cap p.val k.val).openFrame = none)
    ∧ (∃ (s : State) (p : Fin 8) (k : Fin 64) (f : FrameX) (d : Device), s.awake
      ∧ s.dev.portPresent p.val = true
      ∧ (s.dev.cap p.val k.val).frames.find? (fun f => !f.evented) = some f
      ∧ s.dev.modFrames p.val k.val (fun x => decide (x.no = f.no)) (fun x => { x with evented := true, handed := f.cfg.direct || f.slot.isNone }) = d)
    ∧ (∃ (s : State) (p : Fin 8) (k : Fin 64), s.awake
      ∧ s.dev.portPresent p.val = true
      ∧ (∀ f ∈ (s.dev.cap p.val k.val).frames, f.evented = true))
    ∧ (∃ (s : State) (p : Fin 8) (k : Fin 64) (d : Device), s.awake
      ∧ s.dev.portPresent p.val = true
      ∧ (s.dev.wake p.val).put R.CAP_LF_DIAG_FIFO [p.val] k.val = d)
    ∧ (∃ (s : State) (p : Fin 8) (k : Fin 64) (w : FifoWord) (rest : List FifoWord) (d : Device), s.awake
      ∧ s.dev.portPresent p.val = true
      ∧ (s.dev.wake p.val).put R.CAP_LF_DIAG_FIFO [p.val] k.val = d
      ∧ d.flag R.CAP_SC_CTL_EN [p.val, k.val] = false
      ∧ (d.cap p.val k.val).fifo = w :: rest
      ∧ (d.cap p.val k.val).owesDamaged = false
      ∧ (d.cap p.val k.val).owesLostEol = false)
    ∧ (∃ (s : State) (p : Fin 8), s.awake
      ∧ s.dev.portPresent p.val = true) :=
  ⟨⟨running, 0, 0, true, true, [], 0, {}, by unfold State.awake; decide +kernel⟩,
    ⟨running (fun d => (ethUp d).setCap 7 63 { line := some aLine }), 7, 63, [1], 0, aLine, by unfold State.awake; decide +kernel⟩,
    ⟨running (fun d => (ethUp d).setFlag R.CAP_SC_CTL_EN [7, 63] true |>.setCap 7 63 { frames := [aFrame] }), 7, 63, [1], 0, aFrame,
        (((ethUp (up 1)).setFlag R.CAP_SC_CTL_EN [7, 63] true |>.setCap 7 63 { frames := [aFrame] }).beginLine 7 63 {} 0),
        (((((ethUp (up 1)).setFlag R.CAP_SC_CTL_EN [7,
        63] true |>.setCap 7 63 { frames := [aFrame] }).beginLine 7 63 {} 0).cap 7 63).line).getD aLine, by unfold State.awake; decide +kernel⟩,
    ⟨running (fun d => (ethUp d).put R.PP_CTL_MODE [7] 9), 7, true, true, [], 0, by unfold State.awake; decide +kernel⟩,
    ⟨running ethUp, 7, 63, {}, 0, by unfold State.awake; decide +kernel⟩,
    ⟨running (fun d => d.setCap 7 63 { fifo := [aWord] }), 7, 63, aWord, [],
        (((up 1).setCap 7 63 { fifo := [aWord] }).setBth 7 { ((up 1).setCap 7 63 { fifo := [aWord] }).bth 7 with lastFifo := 63 }).setCap 7 63 {},
        by unfold State.awake; decide +kernel⟩,
    ⟨running, 7, by unfold State.awake; decide +kernel⟩,
    ⟨running (fun d => d.put R.CAP_SC_CTL_FRAMING [7, 63] 1), 7, 63, ((up 1).put R.CAP_SC_CTL_FRAMING [7, 63] 1).wake 7,
        by unfold State.awake; decide +kernel⟩,
    ⟨running (fun d => d.put R.CAP_SC_CTL_FRAMING [7, 63] 2), 7, 63, ((up 1).put R.CAP_SC_CTL_FRAMING [7, 63] 2).wake 7,
        by unfold State.awake; decide +kernel⟩,
    ⟨running, 7, 63, true, 1023, (up 1).wake 7, by unfold State.awake; decide +kernel⟩,
    ⟨running (fun d => d.setCap 7 63 { frames := [aFrame] }), 7, 63, aFrame, by unfold State.awake; decide +kernel⟩,
    ⟨running, 7, 63, by unfold State.awake; decide +kernel⟩,
    ⟨running (fun d => d.setCap 7 63 { frames := [aFrame] }), 7, 63, aFrame,
        ((up 1).setCap 7 63 { frames := [aFrame] }).modFrames 7 63 (fun x => decide (x.no = 0)) (fun x => { x with evented := true, handed := aFrame.cfg.direct || aFrame.slot.isNone }),
        by unfold State.awake; decide +kernel⟩,
    ⟨running, 7, 63, by unfold State.awake; decide +kernel⟩,
    ⟨running, 7, 63, ((up 1).wake 7).put R.CAP_LF_DIAG_FIFO [7] 63, by unfold State.awake; decide +kernel⟩,
    ⟨running (fun d => d.setCap 7 63 { fifo := [aWord] }), 7, 63, aWord, [],
        (((up 1).setCap 7 63 { fifo := [aWord] }).wake 7).put R.CAP_LF_DIAG_FIFO [7] 63, by unfold State.awake; decide +kernel⟩,
    ⟨running, 7, by unfold State.awake; decide +kernel⟩⟩

set_option maxRecDepth 100000 in
theorem wit_ManifestRows :
    (∃ (s : State) (p : Nat) (x : SealX) (rest : List SealX), s.awake
      ∧ s.dev.nextSeal = some p
      ∧ (s.dev.bth p).seals = x :: rest
      ∧ s.dev.sealUp = true
      ∧ s.dev.flag R.MB_CTL_EN [] = true
      ∧ s.dev.mb.waiting = none
      ∧ s.dev.mb.signing = none
      ∧ s.dev.mb.open_.entries.length + 1 < s.dev.maxEntries)
    ∧ (∃ (s : State) (p : Nat) (x : SealX) (rest : List SealX) (d : Device), s.awake
      ∧ s.dev.nextSeal = some p
      ∧ (s.dev.bth p).seals = x :: rest
      ∧ s.dev.sealUp = true
      ∧ s.dev.flag R.MB_CTL_EN [] = true
      ∧ s.dev.sealsRefused = true
      ∧ (s.dev.setBth p { s.dev.bth p with seals := rest }).put R.MS_STAT_WAITING [p] rest.length = d)
    ∧ (∃ s : State, s.awake
      ∧ (s.dev.nextSeal = none ∨ s.dev.sealUp = false ∨ s.dev.flag R.MB_CTL_EN [] = false))
    ∧ (∃ s : State, s.awake
      ∧ s.dev.sealUp = true
      ∧ s.dev.flag R.MB_CTL_EN [] = true
      ∧ s.dev.mb.deferred = none
      ∧ (clamp 1000 4000000 (s.dev.get R.MB_INTERVAL_US []) * 1000 * 65536 : Nat) ≤ ttDiff s.dev.tt s.dev.mb.open_.openTT
      ∧ (s.dev.mb.open_.entries ≠ [] ∨ s.dev.flag R.MB_CTL_EMPTY_SKIP [] = false))
    ∧ (∃ s : State, s.awake
      ∧ (s.dev.flag R.MB_CTL_EN [] = false ∨ s.dev.mb.deferred.isSome = true))
    ∧ (∃ (s : State) (d : Device), s.awake
      ∧ (s.dev.wake 13).wr R.MB_CTL [] ((s.dev.wake 13).rd R.MB_CTL []) = d)
    ∧ (∃ (s : State) (m : ManX) (d : Device), s.awake
      ∧ s.dev.mb.signing = some m
      ∧ s.dev.sealUp = true
      ∧ s.dev.mb.held = none
      ∧ (s.dev.signBytes m).2 = d)
    ∧ (∃ s : State, s.awake
      ∧ (s.dev.mb.signing = none ∨ s.dev.mb.held.isSome = true))
    ∧ (∃ s : State, s.awake
      ∧ s.dev.mb.held.isSome = true
      ∧ s.dev.mayRetry = true)
    ∧ (∃ s : State, s.awake
      ∧ (s.dev.mb.held = none ∨ s.dev.mayRetry = false))
    ∧ (∃ (s : State) (slot : Nat), s.awake
      ∧ slot < 64) :=
  ⟨⟨running (fun d => sealOn (d.setBth 7 { seals := [aSeal] })), 7, aSeal, [], by unfold State.awake; decide +kernel⟩,
    ⟨running (fun d => sealOn ((d.setBth 7 { seals := [aSeal] }).setMb { open_ := { entries := List.replicate 8192 [] }, waiting := some {}, held := some ({}, []) })),
        7, aSeal, [],
        (((sealOn (((up 1).setBth 7 { seals := [aSeal] }).setMb { open_ := { entries := List.replicate 8192 [] }, waiting := some {}, held := some ({}, []) })).setBth 7 {}).put R.MS_STAT_WAITING [7] 0),
        by unfold State.awake; decide +kernel⟩,
    ⟨running, by unfold State.awake; decide +kernel⟩,
    ⟨running (fun d => later (2 ^ 60) (sealOn d)), by unfold State.awake; decide +kernel⟩,
    ⟨running, by unfold State.awake; decide +kernel⟩,
    ⟨running, (((up 1).wake 13).wr R.MB_CTL [] (((up 1).wake 13).rd R.MB_CTL [])), by unfold State.awake; decide +kernel⟩,
    ⟨running (fun d => sealOn (d.setMb { signing := some {} })), {}, ((sealOn ((up 1).setMb { signing := some {} })).signBytes {}).2,
        by unfold State.awake; decide +kernel⟩,
    ⟨running, by unfold State.awake; decide +kernel⟩,
    ⟨running (fun d => d.setMb { held := some ({}, []) }), by unfold State.awake; decide +kernel⟩,
    ⟨running, by unfold State.awake; decide +kernel⟩,
    ⟨running, 63, by unfold State.awake; decide +kernel⟩⟩

theorem wit_PaletteRows :
    (∃ (s : State) (p : Fin 8) (c : Fin 4), s.awake
      ∧ s.dev.portPresent p.val = true
      ∧ s.dev.emitPresent p.val = true
      ∧ s.dev.palStartDue p.val c.val = none)
    ∧ (∃ (s : State) (p : Fin 8) (c : Fin 4) (t : TT) (d e : Device), s.awake
      ∧ s.dev.portPresent p.val = true
      ∧ s.dev.emitPresent p.val = true
      ∧ s.dev.palStartDue p.val c.val = some t
      ∧ s.dev.settleAt t (palAddr p.val c.val) = d
      ∧ d.setPal p.val c.val { d.pal p.val c.val with frames := (d.pal p.val c.val).frames.map (fun fr => fr.keep (s.dev.wordsAt ((s.dev.palPending p.val c.val t).map (·.1)))) } = e)
    ∧ (∃ (s : State) (p : Fin 8) (_ : Fin 4) (_ : Nat), s.awake
      ∧ s.dev.portPresent p.val = true
      ∧ s.dev.emitPresent p.val = true
      ∧ (s.dev.flag R.PP_CTL_EMIT [p.val] = false ∨ s.dev.palIdle p.val = true))
    ∧ (∃ (s : State) (p : Fin 8) (c : Fin 4) (i : Nat) (fr : PalFrame) (rest : List PalFrame), s.awake
      ∧ s.dev.portPresent p.val = true
      ∧ s.dev.emitPresent p.val = true
      ∧ s.dev.flag R.PP_CTL_EMIT [p.val] = true
      ∧ s.dev.palIdle p.val = false
      ∧ (s.dev.pal p.val c.val).frames = fr :: rest
      ∧ (s.dev.seenBy fr).palFetchable p.val c.val fr i = true)
    ∧ (∃ (s : State) (p : Fin 8) (c : Fin 4) (_ : Nat), s.awake
      ∧ s.dev.portPresent p.val = true
      ∧ s.dev.emitPresent p.val = true
      ∧ (s.dev.palNext p.val c.val = none ∨ s.dev.palIdle p.val = true))
    ∧ (∃ (s : State) (p : Fin 8) (c : Fin 4) (_ : Nat) (fr : PalFrame) (t : TT), s.awake
      ∧ s.dev.portPresent p.val = true
      ∧ s.dev.emitPresent p.val = true
      ∧ s.dev.palNext p.val c.val = some (fr, t)
      ∧ (ttGe s.dev.tt t = false ∨ s.dev.palYields p.val c.val t = true))
    ∧ (∃ (s : State) (p : Fin 8) (c : Fin 4) (w : Nat) (fr : PalFrame) (t : TT) (e : Device), s.awake
      ∧ s.dev.portPresent p.val = true
      ∧ s.dev.emitPresent p.val = true
      ∧ s.dev.palNext p.val c.val = some (fr, t)
      ∧ s.dev.palIdle p.val = false
      ∧ ttGe s.dev.tt t = true
      ∧ s.dev.palYields p.val c.val t = false
      ∧ (s.dev.seenBy fr).palEdge p.val c.val fr = false
      ∧ (s.dev.seenBy fr).palPaced p.val c.val = false
      ∧ s.dev.under fr (fun d => d.palLineGo p.val c.val w fr ((d.palPlan p.val c.val fr).getD t)) = e
      ∧ ((e.pal p.val c.val).frames ≠ [] ∨ e.flag R.PAL_CH_CTL_EN [p.val, c.val] = true))
    ∧ (∃ (s : State) (p : Fin 8) (c : Fin 4) (w : Nat) (fr : PalFrame) (t : TT) (e : Device), s.awake
      ∧ s.dev.portPresent p.val = true
      ∧ s.dev.emitPresent p.val = true
      ∧ s.dev.palNext p.val c.val = some (fr, t)
      ∧ s.dev.palIdle p.val = false
      ∧ ttGe s.dev.tt t = true
      ∧ s.dev.palYields p.val c.val t = false
      ∧ (s.dev.seenBy fr).palEdge p.val c.val fr = true
      ∧ s.dev.under fr (fun d => d.palEdgeGo p.val c.val w fr ((d.palPlan p.val c.val fr).getD t)) = e
      ∧ ((e.pal p.val c.val).frames ≠ [] ∨ e.flag R.PAL_CH_CTL_EN [p.val, c.val] = true))
    ∧ (∃ (s : State) (p : Fin 8) (c : Fin 4) (w : Nat) (fr : PalFrame) (t : TT) (e : Device), s.awake
      ∧ s.dev.portPresent p.val = true
      ∧ s.dev.emitPresent p.val = true
      ∧ s.dev.palNext p.val c.val = some (fr, t)
      ∧ s.dev.palIdle p.val = false
      ∧ ttGe s.dev.tt t = true
      ∧ s.dev.palYields p.val c.val t = false
      ∧ (s.dev.seenBy fr).palEdge p.val c.val fr = false
      ∧ (s.dev.seenBy fr).palPaced p.val c.val = true
      ∧ s.dev.under fr (fun d => d.palPacketGo p.val c.val w fr ((d.palPlan p.val c.val fr).getD t)) = e
      ∧ ((e.pal p.val c.val).frames ≠ [] ∨ e.flag R.PAL_CH_CTL_EN [p.val, c.val] = true)) :=
  ⟨⟨running, 7, 3, by unfold State.awake; decide +kernel⟩,
    ⟨running palOn, 7, 3, 0, ((palOn (up 1)).settleAt 0 (palAddr 7 3)),
        (((palOn (up 1)).settleAt 0 (palAddr 7 3)).setPal 7 3 { (((palOn (up 1)).settleAt 0 (palAddr 7 3)).pal 7 3) with frames := [] }),
        by unfold State.awake; decide +kernel⟩,
    ⟨running, 7, 3, 0, by unfold State.awake; decide +kernel⟩,
    ⟨running palOut, 7, 3, 0, outFrame, [], by unfold State.awake; decide +kernel⟩,
    ⟨running, 7, 3, 0, by unfold State.awake; decide +kernel⟩,
    ⟨running (fun d => palOut d |>.setPal 7 3 { frames := [{ outFrame with s := 2 ^ 62 }] }), 7, 3, 0, { outFrame with s := 2 ^ 62 }, 2 ^ 62,
        by unfold State.awake; decide +kernel⟩,
    ⟨running palOut, 7, 3, 0, outFrame, 0, ((palOut (up 1)).under outFrame (fun d => d.palLineGo 7 3 0 outFrame ((d.palPlan 7 3 outFrame).getD 0))),
        by unfold State.awake; decide +kernel⟩,
    ⟨running (fun d => palOut d |>.setPal 7 3 { frames := [{ outFrame with lead := true }] }), 7, 3, 0, { outFrame with lead := true }, 0,
        (((palOut (up 1)).setPal 7 3 { frames := [{ outFrame with lead := true }] }).under { outFrame with lead := true } (fun d => d.palEdgeGo 7 3 0 { outFrame with lead := true } ((d.palPlan 7 3 { outFrame with lead := true }).getD 0))),
        by unfold State.awake; decide +kernel⟩,
    ⟨running (fun d => ((palOut d).put R.PAL_CH_CTL_PACE [7, 3] 2).put R.PAL_CH_PKT_NPKT [7, 3] 2), 7, 3, 0, outFrame, 0,
        ((((palOut (up 1)).put R.PAL_CH_CTL_PACE [7, 3] 2).put R.PAL_CH_PKT_NPKT [7,
        3] 2).under outFrame (fun d => d.palPacketGo 7 3 0 outFrame ((d.palPlan 7 3 outFrame).getD 0))), by unfold State.awake; decide +kernel⟩⟩

theorem wit_QueueRows :
    (∃ (s : State) (q : Fin 1048576) (prod : BitVec 32) (c : QCtx), s.awake
      ∧ s.dev.hostReach = true
      ∧ s.dev.doorbellOpen q.val = true
      ∧ s.dev.ctx q.val = c
      ∧ c.kind = 1
      ∧ seq32Ge prod c.prod = true
      ∧ (prod - c.cons).toInt ≤ (2 ^ c.log2 : Nat))
    ∧ (∃ (s : State) (q : Fin 1048576) (prod : BitVec 32) (c : QCtx), s.awake
      ∧ s.dev.hostReach = true
      ∧ s.dev.doorbellOpen q.val = true
      ∧ s.dev.ctx q.val = c
      ∧ c.kind = 1
      ∧ (seq32Ge prod c.prod = false ∨ (2 ^ c.log2 : Nat) < (prod - c.cons).toInt))
    ∧ (∃ (s : State) (q : Fin 1048576) (_ : BitVec 32), s.awake
      ∧ (s.dev.hostReach = false ∨ s.dev.doorbellOpen q.val = false ∨ (s.dev.ctx q.val).kind ≠ 1))
    ∧ (∃ (s : State) (q : Fin 1048576) (cons : BitVec 32) (c : QCtx), s.awake
      ∧ s.dev.hostReach = true
      ∧ s.dev.doorbellOpen q.val = true
      ∧ s.dev.ctx q.val = c
      ∧ 2 ≤ c.kind
      ∧ seq32Ge cons c.cons = true
      ∧ seq32Ge c.prod cons = true)
    ∧ (∃ (s : State) (q : Fin 1048576) (cons : BitVec 32) (c : QCtx), s.awake
      ∧ s.dev.hostReach = true
      ∧ s.dev.doorbellOpen q.val = true
      ∧ s.dev.ctx q.val = c
      ∧ 2 ≤ c.kind
      ∧ (seq32Ge cons c.cons = false ∨ seq32Ge c.prod cons = false))
    ∧ (∃ (s : State) (q : Fin 1048576) (_ : BitVec 32), s.awake
      ∧ (s.dev.hostReach = false ∨ s.dev.doorbellOpen q.val = false ∨ (s.dev.ctx q.val).kind ≤ 1))
    ∧ (∃ (s : State) (q : Fin 1048576) (c : QCtx), s.awake
      ∧ s.dev.hostReach = true
      ∧ s.dev.ctx q.val = c
      ∧ c.kind ≠ 0)
    ∧ (∃ (s : State) (q : Fin 1048576), s.awake
      ∧ s.dev.hostReach = true
      ∧ (s.dev.ctx q.val).kind = 0)
    ∧ (∃ (s : State) (q : Fin 1048576), s.awake
      ∧ s.dev.hostReach = true
      ∧ s.dev.doorbellOpen q.val = true
      ∧ (s.dev.ctx q.val).level = 0)
    ∧ (∃ (s : State) (q : Fin 1048576), s.awake
      ∧ s.dev.hostReach = true
      ∧ s.dev.doorbellOpen q.val = true
      ∧ 0 < (s.dev.ctx q.val).level
      ∧ (s.dev.ctx q.val).vector ≠ 0xFFFF)
    ∧ (∃ (s : State) (q : Nat), s.awake
      ∧ s.dev.get R.CAR_CTX_SEL_QUEUE [] = q)
    ∧ (∃ (s : State) (q : Nat) (c : QCtx), s.awake
      ∧ s.dev.get R.CAR_CTX_SEL_QUEUE [] = q
      ∧ QCtx.ofBytes s.dev.ctxPortBytes = c
      ∧ ctxRefused q c = false)
    ∧ (∃ (s : State) (q : Nat) (c : QCtx), s.awake
      ∧ s.dev.get R.CAR_CTX_SEL_QUEUE [] = q
      ∧ QCtx.ofBytes s.dev.ctxPortBytes = c
      ∧ ctxRefused q c = true)
    ∧ (∃ (s : State) (v : Word) (q n : Nat) (d : Device), s.awake
      ∧ s.dev.get R.CAR_APP_Q_QUEUE [] = q
      ∧ esizeBytes (s.dev.ctx q).esize / 8 - 1 = n
      ∧ s.dev.wr R.CAR_APP_DATA [n] v = d)
    ∧ (∃ (s : State) (v : Word) (q n : Nat) (d e : Device) (bs : List Byte) (r : Append), s.awake
      ∧ s.dev.get R.CAR_APP_Q_QUEUE [] = q
      ∧ esizeBytes (s.dev.ctx q).esize / 8 - 1 = n
      ∧ s.dev.wr R.CAR_APP_DATA [n] v = d
      ∧ ((s.dev.ctx q).kind = 2 ∨ (s.dev.ctx q).kind = 5)
      ∧ d.appendsStopped q = false
      ∧ ((List.range 16).flatMap (fun k => leBytes 8 (d.rd R.CAR_APP_DATA [k]).toNat)).take (esizeBytes (s.dev.ctx q).esize) = bs
      ∧ d.append q (s.dev.ctx q).kind bs = (r, e))
    ∧ (∃ (s : State) (q : Nat) (_ : List Byte) (_ e : Device), s.awake
      ∧ s.dev.wake 8 = e
      ∧ e.get R.CAR_TAKE_Q_QUEUE [] = q)
    ∧ (∃ (s : State) (q : Nat) (c : QCtx), s.awake
      ∧ s.dev.get R.CAR_TAKE_Q_QUEUE [] = q
      ∧ s.dev.linkFree = true
      ∧ s.dev.ctx q = c
      ∧ c.kind = 1
      ∧ c.error = false
      ∧ c.level ≠ 0
      ∧ s.dev.takeAdmitted q = true)
    ∧ (∃ (s : State) (q : Fin 1048576) (c : QCtx), s.awake
      ∧ s.dev.ctx q.val = c
      ∧ c.irqArmed = true
      ∧ c.vector ≠ 0xFFFF
      ∧ 0 < c.unsig
      ∧ (max 1 c.coalN ≤ c.unsig ∨ 0 < c.coalUs ∧ (c.coalUs * 1000 * 65536 : Int) ≤ ttDiff s.dev.tt c.oldest))
    ∧ (∃ (s : State) (q : Fin 1048576) (c : QCtx), s.awake
      ∧ s.dev.ctx q.val = c
      ∧ (c.irqArmed = false ∨ c.vector = 0xFFFF ∨ c.unsig = 0 ∨ c.unsig < max 1 c.coalN ∧ (c.coalUs = 0 ∨ ttDiff s.dev.tt c.oldest < (c.coalUs * 1000 * 65536 : Int))))
    ∧ (∃ (s : State), s.awake) :=
  ⟨⟨running (fun d => (hosted d).setCtx 2 { kind := 1, log2 := 4 }), 2, 16, { kind := 1, log2 := 4 }, by unfold State.awake; decide +kernel⟩,
    ⟨running (fun d => (hosted d).setCtx 2 { kind := 1, log2 := 4 }), 2, 17, { kind := 1, log2 := 4 }, by unfold State.awake; decide +kernel⟩,
    ⟨running, 2, 1, by unfold State.awake; decide +kernel⟩,
    ⟨running (fun d => (hosted d).setCtx 3 { kind := 2, log2 := 4, prod := 1 }), 3, 1, { kind := 2, log2 := 4, prod := 1 },
        by unfold State.awake; decide +kernel⟩,
    ⟨running (fun d => (hosted d).setCtx 3 { kind := 2, log2 := 4, prod := 1 }), 3, 2, { kind := 2, log2 := 4, prod := 1 },
        by unfold State.awake; decide +kernel⟩,
    ⟨running, 3, 1, by unfold State.awake; decide +kernel⟩,
    ⟨running (fun d => (hosted d).setCtx 3 { kind := 2, log2 := 4, prod := 1 }), 3, { kind := 2, log2 := 4, prod := 1 },
        by unfold State.awake; decide +kernel⟩,
    ⟨running hosted, 3, by unfold State.awake; decide +kernel⟩,
    ⟨running (fun d => (hosted d).setCtx 3 { kind := 2, log2 := 4 }), 3, by unfold State.awake; decide +kernel⟩,
    ⟨running (fun d => (hosted d).setCtx 3 { kind := 2, log2 := 4, prod := 1 }), 3, by unfold State.awake; decide +kernel⟩,
    ⟨running, 0, by unfold State.awake; decide +kernel⟩,
    ⟨running (fun d => (d.put R.CAR_CTX_SEL_QUEUE [] 1024).wr R.CAR_CTX_DATA [5] 0x0000000404000000), 1024,
        (QCtx.ofBytes ((((up 1).put R.CAR_CTX_SEL_QUEUE [] 1024).wr R.CAR_CTX_DATA [5] 0x0000000404000000)).ctxPortBytes),
        by unfold State.awake; decide +kernel⟩,
    ⟨running (fun d => d.wr R.CAR_CTX_DATA [5] 0x0000000204000000), 0, (QCtx.ofBytes ((up 1).wr R.CAR_CTX_DATA [5] 0x0000000204000000).ctxPortBytes),
        by unfold State.awake; decide +kernel⟩,
    ⟨running, 0, 0, 3, ((up 1).wr R.CAR_APP_DATA [3] 0), by unfold State.awake; decide +kernel⟩,
    ⟨running (fun d => (hosted d).setCtx 0 { kind := 5, log2 := 4 }), 0, 0, 3,
        (((hosted (up 1)).setCtx 0 { kind := 5, log2 := 4 }).wr R.CAR_APP_DATA [3] 0),
        ((((hosted (up 1)).setCtx 0 { kind := 5, log2 := 4 }).wr R.CAR_APP_DATA [3] 0).append 0 5 (zeros 32)).2, (zeros 32),
        ((((hosted (up 1)).setCtx 0 { kind := 5, log2 := 4 }).wr R.CAR_APP_DATA [3] 0).append 0 5 (zeros 32)).1,
        by unfold State.awake; decide +kernel⟩,
    ⟨running, 0, [], (up 1), ((up 1).wake 8), by unfold State.awake; decide +kernel⟩,
    ⟨running (fun d => windows (hosted d) |>.setCtx 0 { kind := 1, log2 := 4, prod := 1 }), 0, { kind := 1, log2 := 4, prod := 1 },
        by unfold State.awake; decide +kernel⟩,
    ⟨running (fun d => d.setCtx 1024 { kind := 4, unsig := 1, irqArmed := true }), 1024, { kind := 4, unsig := 1, irqArmed := true },
        by unfold State.awake; decide +kernel⟩,
    ⟨running, 0, {}, by unfold State.awake; decide +kernel⟩,
    ⟨running, by unfold State.awake; decide +kernel⟩⟩

theorem wit_DmaRows :
    (∃ (s : State) (_ : Fin 32) (_ : Fin 16) (d : Device), s.awake
      ∧ s.dev.wake 8 = d)
    ∧ (∃ (s : State) (e : Fin 32) (c : Fin 16) (d : Device), s.awake
      ∧ (s.dev.wake 8).setFlag R.DMA_CH_CTL_PAUSE [e.val, c.val] true = d)
    ∧ (∃ (s : State) (e : Fin 32) (c : Fin 16) (d : Device), s.awake
      ∧ (s.dev.wake 8).setFlag R.DMA_CH_CTL_PAUSE [e.val, c.val] false = d)
    ∧ (∃ (s : State) (e : Fin 32) (n c : Nat) (d : Device), s.awake
      ∧ s.dev.runningChan e.val = some c
      ∧ s.dev.flag R.DMA_CH_CTL_PAUSE [e.val, c] = true
      ∧ n < s.dev.get R.DMA_CH_A_LEN_LEN [e.val, c]
      ∧ s.dev.bucketLets e.val c n = true
      ∧ s.dev.progress e.val c n = d)
    ∧ (∃ (s : State) (e : Fin 32) (_ : Nat), s.awake
      ∧ s.dev.runningChan e.val = none)
    ∧ (∃ (s : State) (e : Fin 32) (n c : Nat), s.awake
      ∧ s.dev.runningChan e.val = some c
      ∧ (s.dev.flag R.DMA_CH_CTL_PAUSE [e.val, c] = false ∨ s.dev.get R.DMA_CH_A_LEN_LEN [e.val, c] ≤ n ∨ s.dev.bucketLets e.val c n = false))
    ∧ (∃ (s : State) (e : Fin 32) (n c : Nat) (d : Device), s.awake
      ∧ s.dev.runningChan e.val = some c
      ∧ s.dev.get R.DMA_CH_A_LEN_LEN [e.val, c] = n
      ∧ s.dev.dmaStalled e.val c = false
      ∧ s.dev.bucketLets e.val c n = true
      ∧ s.dev.badSource e.val c = none
      ∧ (s.dev.progress e.val c n).setFlag R.DMA_ENG_STAT_BUSY [e.val] false = d)
    ∧ (∃ (s : State) (e : Fin 32) (n c w : Nat), s.awake
      ∧ s.dev.runningChan e.val = some c
      ∧ s.dev.get R.DMA_CH_A_LEN_LEN [e.val, c] = n
      ∧ s.dev.dmaStalled e.val c = false
      ∧ s.dev.bucketLets e.val c n = true
      ∧ s.dev.badSource e.val c = some w)
    ∧ (∃ (s : State) (e : Fin 32) (n c : Nat), s.awake
      ∧ s.dev.runningChan e.val = some c
      ∧ s.dev.get R.DMA_CH_A_LEN_LEN [e.val, c] = n
      ∧ (s.dev.dmaStalled e.val c = true ∨ s.dev.bucketLets e.val c n = false))
    ∧ (∃ (s : State) (r : EngineRead) (c : Nat), s.awake
      ∧ s.dev.runningChan r.engine.val = some c
      ∧ s.dev.flag R.DMA_CH_A_OPT_SRC_SPACE [r.engine.val, c] = false
      ∧ s.dev.readFails r.kind = true)
    ∧ (∃ (s : State) (r : RingRead), s.awake
      ∧ s.dev.readFails r.kind = true
      ∧ (s.dev.ctx r.queue.val).kind = 1
      ∧ (s.dev.ctx r.queue.val).error = false)
    ∧ (∃ (s : State) (r : RingRead) (_ : Nat) (e : Entry), s.awake
      ∧ s.dev.readFails r.kind = true
      ∧ e.hostBuf = true)
    ∧ (∃ (s : State) (r : RingRead) (_ : Option (Nat × Entry)), s.awake
      ∧ s.dev.readFails r.kind = false) :=
  ⟨⟨running, 0, 0, ((up 1).wake 8), by unfold State.awake; decide +kernel⟩,
    ⟨running, 0, 0, (((up 1).wake 8).setFlag R.DMA_CH_CTL_PAUSE [0, 0] true), by unfold State.awake; decide +kernel⟩,
    ⟨running, 0, 0, (((up 1).wake 8).setFlag R.DMA_CH_CTL_PAUSE [0, 0] false), by unfold State.awake; decide +kernel⟩,
    ⟨running (fun d => ((hosted d).put R.DMA_CH_A_LEN_LEN [31,
        15] 128 |>.put R.DMA_ENG_STAT_CUR [31] 15 |>.setFlag R.DMA_ENG_STAT_BUSY [31] true |>.setChState 31 15 2).setFlag R.DMA_CH_CTL_PAUSE [31,
        15] true), 31, 64, 15, (((hosted (up 1)).put R.DMA_CH_A_LEN_LEN [31,
        15] 128 |>.put R.DMA_ENG_STAT_CUR [31] 15 |>.setFlag R.DMA_ENG_STAT_BUSY [31] true |>.setChState 31 15 2).setFlag R.DMA_CH_CTL_PAUSE [31,
        15] true |>.progress 31 15 64), by unfold State.awake; decide +kernel⟩,
    ⟨running, 31, 0, by unfold State.awake; decide +kernel⟩,
    ⟨running (fun d => (d.put R.DMA_ENG_STAT_CUR [31] 15).setFlag R.DMA_ENG_STAT_BUSY [31] true |>.setChState 31 15 2), 31, 0, 15,
        by unfold State.awake; decide +kernel⟩,
    ⟨running (fun d => ((hosted d).put R.DMA_ENG_STAT_CUR [31] 15).setFlag R.DMA_ENG_STAT_BUSY [31] true |>.setChState 31 15 2), 31, 0, 15,
        (((((hosted (up 1)).put R.DMA_ENG_STAT_CUR [31] 15).setFlag R.DMA_ENG_STAT_BUSY [31] true |>.setChState 31 15 2).progress 31 15 0).setFlag R.DMA_ENG_STAT_BUSY [31] false),
        by unfold State.awake; decide +kernel⟩,
    ⟨running (fun d => ((((hosted d).markBad 64).setFlag R.DMA_CH_A_OPT_SRC_SPACE [31,
        15] true).setChan 31 15 { fullSrc := 64, fullLen := 64 } |>.put R.DMA_ENG_STAT_CUR [31] 15).setFlag R.DMA_ENG_STAT_BUSY [31] true |>.setChState 31 15 2),
        31, 0, 15, 64, by unfold State.awake; decide +kernel⟩,
    ⟨running (fun d => (d.put R.DMA_ENG_STAT_CUR [31] 15).setFlag R.DMA_ENG_STAT_BUSY [31] true |>.setChState 31 15 2), 31, 0, 15,
        by unfold State.awake; decide +kernel⟩,
    ⟨running (fun d => ((hosted d).put R.DMA_ENG_STAT_CUR [31] 15).setFlag R.DMA_ENG_STAT_BUSY [31] true |>.setChState 31 15 2),
        { engine := 31, kind := .poisoned }, 15, by unfold State.awake; decide +kernel⟩,
    ⟨running (fun d => d.setCtx 1048575 { kind := 1 }), { queue := 1048575, kind := .abort }, by unfold State.awake; decide +kernel⟩,
    ⟨running, { queue := 0, kind := .timeout }, 0, { boot 0 [] with flags := 1 }, by unfold State.awake; decide +kernel⟩,
    ⟨running, { queue := 0, kind := .ecrc }, none, by unfold State.awake; decide +kernel⟩⟩

theorem wit_TimeBaseRows :
    (∃ (s : State) (v : BitVec 40), s.awake
      ∧ incrMin ≤ v.toNat
      ∧ v.toNat ≤ incrMax)
    ∧ (∃ (s : State) (v : BitVec 40), s.awake
      ∧ (v.toNat < incrMin ∨ incrMax < v.toNat))
    ∧ (∃ (s : State), s.awake
      ∧ (s.dev.tim.time.step.isSome = true ∨ s.dev.flag R.TB_STEP_CTL_LOAD [] = true ∧ s.dev.flag R.TB_STEP_CTL_AT [] = false))
    ∧ (∃ (s : State), s.awake
      ∧ s.dev.tim.time.step = none
      ∧ (s.dev.flag R.TB_STEP_CTL_LOAD [] = false ∨ s.dev.flag R.TB_STEP_CTL_AT [] = true))
    ∧ (∃ (s : State), s.awake
      ∧ s.dev.stepDue = false)
    ∧ (∃ (s : State) (r : StepReq) (d e : Device), s.awake
      ∧ s.dev.tim.time.step = some r
      ∧ s.dev.stepDue = true
      ∧ r.load = false
      ∧ (if r.both then (s.dev.moveWall r.amt).moveTT r.amt else s.dev.moveWall r.amt) = d
      ∧ (d.setTime { d.tim.time with step := none }).showTime = e)
    ∧ (∃ (s : State) (r : StepReq) (e f : Device), s.awake
      ∧ s.dev.tim.time.step = some r
      ∧ s.dev.stepDue = true
      ∧ r.load = true
      ∧ ((s.dev.loadTime r).setTime { (s.dev.loadTime r).tim.time with step := none }).showTime = e
      ∧ ((e.wr R.TB_STEP_TT [] e.tt).setFlag R.TB_STEP_CTL_BUSY [] false).setFlag R.TB_STAT_STEP_PEND [] false = f)
    ∧ (∃ (s : State) (rem : Int), s.awake
      ∧ (if s.dev.tim.time.slewing then s.dev.tim.time.slewRem else 0) + (s.dev.rd R.TB_SLEW_AMT []).toInt * 65536 = rem
      ∧ rem ≠ 0)
    ∧ (∃ (s : State), s.awake
      ∧ (if s.dev.tim.time.slewing then s.dev.tim.time.slewRem else 0) + (s.dev.rd R.TB_SLEW_AMT []).toInt * 65536 = 0)
    ∧ (∃ (s : State), s.awake
      ∧ s.dev.tim.time.slewing = true)
    ∧ (∃ (s : State), s.awake
      ∧ s.dev.tim.time.slewing = false)
    ∧ (∃ (s : State), s.awake)
    ∧ (∃ (s : State), s.awake)
    ∧ (∃ (s : State), s.awake)
    ∧ (∃ (s : State) (_ : Bool), s.awake
      ∧ s.dev.flag R.TB_STAT_PLL_LOCK [] = false
      ∧ s.dev.clockRuns = false)
    ∧ (∃ (s : State) (_ : Bool), s.awake
      ∧ (s.dev.flag R.TB_STAT_PLL_LOCK [] = true ∨ s.dev.clockRuns = true))
    ∧ (∃ (s : State), s.awake
      ∧ s.dev.clockRuns = false)
    ∧ (∃ (s : State), s.awake
      ∧ s.dev.clockRuns = true)
    ∧ (∃ (s : State), s.awake)
    ∧ (∃ (s : State), s.awake
      ∧ s.dev.flag R.TB_STAT_REF_LOST [] = true)
    ∧ (∃ (s : State), s.awake
      ∧ s.dev.flag R.TB_STAT_REF_LOST [] = false) :=
  ⟨⟨running, (BitVec.ofNat 40 incrMax), by unfold State.awake; decide +kernel⟩,
    ⟨running, 0, by unfold State.awake; decide +kernel⟩,
    ⟨running (fun d => d.setFlag R.TB_STEP_CTL_LOAD [] true), by unfold State.awake; decide +kernel⟩,
    ⟨running, by unfold State.awake; decide +kernel⟩,
    ⟨running, by unfold State.awake; decide +kernel⟩,
    ⟨running (fun d => d.setTime { d.tim.time with step := some { load := false, both := true, atTT := none, amt := 5, sec := 0, ns := 0, frac := 0 } }),
        { load := false, both := true, atTT := none, amt := 5, sec := 0, ns := 0, frac := 0 },
        ((((up 1).setTime { (up 1).tim.time with step := some { load := false, both := true, atTT := none, amt := 5, sec := 0, ns := 0, frac := 0 } }).moveWall 5).moveTT 5),
        (((((up 1).setTime { (up 1).tim.time with step := some { load := false, both := true, atTT := none, amt := 5, sec := 0, ns := 0, frac := 0 } }).moveWall 5).moveTT 5).setTime { ((((up 1).setTime { (up 1).tim.time with step := some { load := false, both := true, atTT := none, amt := 5, sec := 0, ns := 0, frac := 0 } }).moveWall 5).moveTT 5).tim.time with step := none }).showTime,
        by unfold State.awake; decide +kernel⟩,
    ⟨running (fun d => d.setTime { d.tim.time with step := some aLoad }), aLoad,
        ((loading.loadTime aLoad).setTime { (loading.loadTime aLoad).tim.time with step := none }).showTime,
        ((((((loading.loadTime aLoad).setTime { (loading.loadTime aLoad).tim.time with step := none }).showTime).wr R.TB_STEP_TT [] (((loading.loadTime aLoad).setTime { (loading.loadTime aLoad).tim.time with step := none }).showTime).tt).setFlag R.TB_STEP_CTL_BUSY [] false).setFlag R.TB_STAT_STEP_PEND [] false),
        by unfold State.awake; decide +kernel⟩,
    ⟨running (fun d => d.wr R.TB_SLEW_AMT [] 5), 327680, by unfold State.awake; decide +kernel⟩,
    ⟨running, by unfold State.awake; decide +kernel⟩,
    ⟨running (fun d => d.setTime { d.tim.time with slewing := true }), by unfold State.awake; decide +kernel⟩,
    ⟨running, by unfold State.awake; decide +kernel⟩,
    ⟨running, by unfold State.awake; decide +kernel⟩,
    ⟨running, by unfold State.awake; decide +kernel⟩,
    ⟨running, by unfold State.awake; decide +kernel⟩,
    ⟨running (fun d => d.setTime { d.tim.time with running := false }), true, by unfold State.awake; decide +kernel⟩,
    ⟨running (fun d => d.setFlag R.TB_STAT_PLL_LOCK [] true), true, by unfold State.awake; decide +kernel⟩,
    ⟨running (fun d => d.setTime { d.tim.time with running := false }), by unfold State.awake; decide +kernel⟩,
    ⟨running (fun d => d.setTime { d.tim.time with running := true }), by unfold State.awake; decide +kernel⟩,
    ⟨running, by unfold State.awake; decide +kernel⟩,
    ⟨running (fun d => d.setFlag R.TB_STAT_REF_LOST [] true), by unfold State.awake; decide +kernel⟩,
    ⟨running, by unfold State.awake; decide +kernel⟩⟩

theorem wit_TimeReferenceRows :
    (∃ (s : State) (_ : TT) (rising : Bool), s.awake
      ∧ (s.dev.flag R.TP_CTL_PPS_IN_EN [] = false ∨ rising = s.dev.flag R.TP_CTL_PPS_IN_FALL []))
    ∧ (∃ (s : State) (_ : TT) (rising : Bool), s.awake
      ∧ s.dev.flag R.TP_CTL_PPS_IN_EN [] = true
      ∧ rising ≠ s.dev.flag R.TP_CTL_PPS_IN_FALL [])
    ∧ (∃ (s : State) (t : TT), s.awake
      ∧ s.dev.flag R.TP_CTL_M10_IN_EN [] = true
      ∧ s.dev.tim.time.m10Wait = true
      ∧ ttGe (stamp128 t) (s.dev.rd R.TP_PPS_IN []) = true)
    ∧ (∃ (s : State) (t : TT), s.awake
      ∧ (s.dev.flag R.TP_CTL_M10_IN_EN [] = false ∨ s.dev.tim.time.m10Wait = false ∨ ttGe (stamp128 t) (s.dev.rd R.TP_PPS_IN []) = false))
    ∧ (∃ (s : State), s.awake
      ∧ s.dev.tim.time.ppsOut = true)
    ∧ (∃ (s : State), s.awake
      ∧ s.dev.tim.time.ppsOut = false
      ∧ s.dev.tim.time.ppsDue = true)
    ∧ (∃ (s : State), s.awake
      ∧ s.dev.tim.time.ppsOut = false
      ∧ s.dev.tim.time.ppsDue = false)
    ∧ (∃ (s : State), s.awake
      ∧ s.dev.hst.ptmEnable = true
      ∧ s.dev.tim.time.ptmBusy = false)
    ∧ (∃ (s : State), s.awake
      ∧ (s.dev.hst.ptmEnable = false ∨ s.dev.tim.time.ptmBusy = true))
    ∧ (∃ (s : State) (ms : Nat), s.awake
      ∧ max 1 (s.dev.get R.PTM_CTL_PERIOD_MS []) = ms)
    ∧ (∃ (s : State) (_ : TT) (_ : Word) (_ : BitVec 32), s.awake
      ∧ s.dev.tim.time.ptmBusy = true)
    ∧ (∃ (s : State) (_ : TT) (_ : Word) (_ : BitVec 32), s.awake
      ∧ s.dev.tim.time.ptmBusy = true)
    ∧ (∃ (s : State) (_ : Bool) (_ : TT) (_ : Word) (_ : BitVec 32), s.awake
      ∧ s.dev.tim.time.ptmBusy = false) :=
  ⟨⟨running, 0, true, by unfold State.awake; decide +kernel⟩,
    ⟨running (fun d => d.setFlag R.TP_CTL_PPS_IN_EN [] true), 0, true, by unfold State.awake; decide +kernel⟩,
    ⟨running (fun d => (d.setFlag R.TP_CTL_M10_IN_EN [] true).setTime { d.tim.time with m10Wait := true }), 0, by unfold State.awake; decide +kernel⟩,
    ⟨running, 0, by unfold State.awake; decide +kernel⟩,
    ⟨running (fun d => d.setTime { d.tim.time with ppsOut := true }), by unfold State.awake; decide +kernel⟩,
    ⟨running (fun d => d.setTime { d.tim.time with ppsDue := true }), by unfold State.awake; decide +kernel⟩,
    ⟨running, by unfold State.awake; decide +kernel⟩,
    ⟨running (fun d => { d with hst := { d.hst with ptmEnable := true } }), by unfold State.awake; decide +kernel⟩,
    ⟨running, by unfold State.awake; decide +kernel⟩,
    ⟨running, 1, by unfold State.awake; decide +kernel⟩,
    ⟨running (fun d => d.setTime { d.tim.time with ptmBusy := true }), 0, 0, 0, by unfold State.awake; decide +kernel⟩,
    ⟨running (fun d => d.setTime { d.tim.time with ptmBusy := true }), 0, 0, 0, by unfold State.awake; decide +kernel⟩,
    ⟨running, true, 0, 0, 0, by unfold State.awake; decide +kernel⟩⟩

theorem wit_MidwayBarkerRows :
    (∃ (s : State) (src : Src) (c : Fin 256) (d : Device), s.awake
      ∧ src ≠ .host
      ∧ s.dev.wake 11 = d
      ∧ d.ownsChannel src c.val = true
      ∧ d.chMode c.val = 1)
    ∧ (∃ (s : State) (src : Src) (c : Fin 256) (d : Device), s.awake
      ∧ src ≠ .host
      ∧ s.dev.wake 11 = d
      ∧ (d.ownsChannel src c.val = false ∨ d.chMode c.val ≠ 1))
    ∧ (∃ (s : State) (f : Firing) (d : Device), s.awake
      ∧ s.dev.tim.midway.flight.find? s.dev.deliverable = some f
      ∧ (s.dev.setMidway { s.dev.tim.midway with flight := s.dev.tim.midway.flight.erase f }).forwardFiring f.ch = d)
    ∧ (∃ (s : State), s.awake
      ∧ (∀ f ∈ s.dev.tim.midway.flight, s.dev.deliverable f = false))
    ∧ (∃ (s : State) (p : Fin 32) (k : Nat) (d : Device), s.awake
      ∧ s.dev.timeDue p.val = true
      ∧ (s.dev.prog p.val).nextK = k
      ∧ s.dev.makeFire p.val { fireAt (s.dev.schedule p.val k) with index := k } = d)
    ∧ (∃ (s : State) (p : Fin 32), s.awake
      ∧ s.dev.timeDue p.val = false)
    ∧ (∃ (s : State) (p : Fin 32) (t : Fin 4) (f : Fire) (a : Act), s.awake
      ∧ (s.dev.prog p.val).fires = [f]
      ∧ f.acts[t.val]? = some a
      ∧ a.committed = false
      ∧ ttGe s.dev.tt (a.time - s.dev.advance a.kind a.index) = true)
    ∧ (∃ (s : State) (p : Fin 32) (t : Fin 4), s.awake
      ∧ ((∀ f ∈ (s.dev.prog p.val).fires, ∀ a,
          f.acts[t.val]? = some a → a.committed = true ∨ ttGe s.dev.tt (a.time - s.dev.advance a.kind a.index) = false)))
    ∧ (∃ (s : State) (p : Fin 32) (t : Fin 4) (f : Fire) (a : Act) (d : Device), s.awake
      ∧ (s.dev.prog p.val).fires = [f]
      ∧ f.acts[t.val]? = some a
      ∧ a.committed = true
      ∧ a.done = false
      ∧ s.dev.onFire p.val f.count (fun f => { f with acts := f.acts.modify t.val (fun a => { a with done := true }) }) = d)
    ∧ (∃ (s : State) (p : Fin 32) (f : Fire) (d : Device), s.awake
      ∧ (s.dev.prog p.val).fires = [f]
      ∧ f.crossed = true
      ∧ f.recorded = false
      ∧ (ttGe s.dev.tt f.t = true ∨ s.dev.get R.BK_CTL_SRC [p.val] = 1)
      ∧ s.dev.setProg p.val { s.dev.prog p.val with hist := (s.dev.fireRecord p.val f :: (s.dev.prog p.val).hist).take 16 } = d)
    ∧ (∃ (s : State) (p : Fin 32), s.awake
      ∧ ((∀ f ∈ (s.dev.prog p.val).fires, f.crossed = false ∨ f.recorded = true ∨ ttGe s.dev.tt f.t = false ∧ s.dev.get R.BK_CTL_SRC [p.val] ≠ 1)))
    ∧ (∃ (s : State) (r : ActionRec) (rest : List ActionRec) (a : ActionCmd) (d e : Device), s.awake
      ∧ s.dev.ready = true
      ∧ s.dev.tim.actions = r :: rest
      ∧ s.dev.actionPop = d
      ∧ d.tim.actionCmds.find? (fun e => decide (e.1 = r.prog * 4 + r.target)) = some (r.prog * 4 + r.target, a)
      ∧ a.dst = 0
      ∧ d.packetTx a.port (d.udp4 a.port 0xFFFFFFFFFFFF 0xFFFFFFFF 3956 (d.actionCmd a r.tt)) d.tt = e)
    ∧ (∃ (s : State) (r : ActionRec) (rest : List ActionRec) (a : ActionCmd) (d g e : Device), s.awake
      ∧ s.dev.ready = true
      ∧ s.dev.tim.actions = r :: rest
      ∧ s.dev.actionPop = d
      ∧ d.tim.actionCmds.find? (fun e => decide (e.1 = r.prog * 4 + r.target)) = some (r.prog * 4 + r.target, a)
      ∧ a.dst ≠ 0
      ∧ d.draw.2 = g
      ∧ g.packetTx a.port (g.udp4 a.port (ofBE ((List.range 6).map (Config.openByte d.draw.1))) a.dst 3956 (g.actionCmd a r.tt)) g.tt = e)
    ∧ (∃ (s : State) (r : ActionRec) (rest : List ActionRec) (d : Device), s.awake
      ∧ s.dev.ready = true
      ∧ s.dev.tim.actions = r :: rest
      ∧ s.dev.actionPop = d
      ∧ (∀ e ∈ d.tim.actionCmds, e.1 ≠ r.prog * 4 + r.target))
    ∧ (∃ (s : State), s.awake
      ∧ (s.dev.tim.actions = [] ∨ s.dev.ready = false)) :=
  ⟨⟨running (fun d => d.put R.MW_CH_CFG_SWMODE [9] 1), .ringmaster, 9, (((up 1).put R.MW_CH_CFG_SWMODE [9] 1).wake 11),
      by unfold State.awake; decide +kernel⟩,
    ⟨running, .ringmaster, 255, ((up 1).wake 11), by unfold State.awake; decide +kernel⟩,
    ⟨running (fun d => d.setMidway { d.tim.midway with flight := [{ ch := 5, tick := 0, tt := 0, resync := false, stamp := none }] }),
        { ch := 5, tick := 0, tt := 0, resync := false, stamp := none },
        ((up 1).setMidway { ((up 1).setMidway { (up 1).tim.midway with flight := [{ ch := 5, tick := 0, tt := 0, resync := false, stamp := none }] }).tim.midway with flight := [] }).forwardFiring 5,
        by unfold State.awake; decide +kernel⟩,
    ⟨running, by unfold State.awake; decide +kernel⟩,
    ⟨running (fun d => d.setProg 31 { armed := true }), 31, 0,
        ((up 1).setProg 31 { armed := true }).makeFire 31 { fireAt (((up 1).setProg 31 { armed := true }).schedule 31 0) with index := 0 },
        by unfold State.awake; decide +kernel⟩,
    ⟨running, 31, by unfold State.awake; decide +kernel⟩,
    ⟨running (fun d => d.setProg 31 { fires := [{ fireAt 0 with acts := [{ kind := 1 }] }] }), 31, 0, { fireAt 0 with acts := [{ kind := 1 }] },
        { kind := 1 }, by unfold State.awake; decide +kernel⟩,
    ⟨running, 31, 3, by unfold State.awake; decide +kernel⟩,
    ⟨running (fun d => d.setProg 31 { fires := [{ fireAt 0 with acts := [{ kind := 4, committed := true }] }] }), 31, 0,
        { fireAt 0 with acts := [{ kind := 4, committed := true }] }, { kind := 4, committed := true },
        (((up 1).setProg 31 { fires := [{ fireAt 0 with acts := [{ kind := 4, committed := true }] }] }).onFire 31 0 (fun f => { f with acts := f.acts.modify 0 (fun a => { a with done := true }) })),
        by unfold State.awake; decide +kernel⟩,
    ⟨running (fun d => d.setProg 31 { fires := [fireAt 0] }), 31, fireAt 0,
        (((up 1).setProg 31 { fires := [fireAt 0] }).setProg 31 { ((up 1).setProg 31 { fires := [fireAt 0] }).prog 31 with hist := (((up 1).setProg 31 { fires := [fireAt 0] }).fireRecord 31 (fireAt 0) :: []).take 16 }),
        by unfold State.awake; decide +kernel⟩,
    ⟨running, 31, by unfold State.awake; decide +kernel⟩,
    ⟨running (fun _ => sending 0), { tt := 0, prog := 1, target := 2, fires := 1 }, [], { port := 7, dst := 0 }, (sending 0).actionPop,
        (sending 0).actionPop.packetTx 7 ((sending 0).actionPop.udp4 7 0xFFFFFFFFFFFF 0xFFFFFFFF 3956 ((sending 0).actionPop.actionCmd { port := 7, dst := 0 } 0)) 0,
        by unfold State.awake; decide +kernel⟩,
    ⟨running (fun _ => sending 1), { tt := 0, prog := 1, target := 2, fires := 1 }, [], { port := 7, dst := 1 }, (sending 1).actionPop,
        (sending 1).actionPop.draw.2,
        ((sending 1).actionPop.draw.2.packetTx 7 ((sending 1).actionPop.draw.2.udp4 7 (ofBE ((List.range 6).map (Config.openByte (sending 1).actionPop.draw.1))) 1 3956 ((sending 1).actionPop.draw.2.actionCmd { port := 7, dst := 1 } 0)) 0),
        by unfold State.awake; decide +kernel⟩,
    ⟨running (fun d => { d with tim := { d.tim with actions := [{ tt := 0, prog := 1, target := 2, fires := 1 }] } }),
        { tt := 0, prog := 1, target := 2, fires := 1 }, [],
        ({ (up 1) with tim := { (up 1).tim with actions := [{ tt := 0, prog := 1, target := 2, fires := 1 }] } } : Device).actionPop,
        by unfold State.awake; decide +kernel⟩,
    ⟨running, by unfold State.awake; decide +kernel⟩⟩

theorem wit_PinRows :
    (∃ (s : State) (n : Fin 16), s.awake
      ∧ ((∀ u ∈ (s.dev.pin n.val).pulses, u.started = true ∨ ttGe s.dev.tt u.lead = false)))
    ∧ (∃ (s : State) (n : Fin 16) (u : Pulse) (x : PinX), s.awake
      ∧ s.dev.pin n.val = x
      ∧ x.pulses = [u]
      ∧ u.started = false
      ∧ ttGe s.dev.tt u.lead = true)
    ∧ (∃ (s : State) (n : Fin 16) (u v : Pulse) (x : PinX), s.awake
      ∧ s.dev.pin n.val = x
      ∧ x.pulses = [v, u]
      ∧ v.started = true
      ∧ u.started = false
      ∧ ttGe s.dev.tt u.lead = true
      ∧ 0 ≤ ttDiff v.trail u.lead)
    ∧ (∃ (s : State) (n : Fin 16) (x : PinX), s.awake
      ∧ s.dev.pin n.val = x
      ∧ (∃ u ∈ x.pulses, u.started = true ∧ ttGe s.dev.tt u.trail = true))
    ∧ (∃ (s : State) (n : Fin 16), s.awake
      ∧ ((∀ u ∈ (s.dev.pin n.val).pulses, u.started = false ∨ ttGe s.dev.tt u.trail = false)))
    ∧ (∃ (s : State) (n : Fin 16) (_ : TT) (_ : Bool), s.awake
      ∧ s.dev.flag R.TRG_CTL_DIR [n.val] = true)
    ∧ (∃ (s : State) (n : Fin 16) (_ : TT) (rising : Bool), s.awake
      ∧ s.dev.flag R.TRG_CTL_DIR [n.val] = false
      ∧ bit (s.dev.get R.TRG_CTL_IN_EDGE [n.val]) (if rising then 0 else 1) = false)
    ∧ (∃ (s : State) (n : Fin 16) (t st : TT) (rising : Bool) (d : Device), s.awake
      ∧ s.dev.flag R.TRG_CTL_DIR [n.val] = false
      ∧ bit (s.dev.get R.TRG_CTL_IN_EDGE [n.val]) (if rising then 0 else 1) = true
      ∧ (s.dev.setPin n.val { s.dev.pin n.val with filtered := rising, level := rising }).setFlag R.TRG_STAT_LEVEL [n.val] rising = d
      ∧ stamp128 t - BitVec.ofInt 64 (sgn 16 (s.dev.get R.TRG_ADJ_IN_ADJ [n.val]) * 512) = st) :=
  ⟨⟨running, 15, by unfold State.awake; decide +kernel⟩,
    ⟨running (fun d => d.setPin 15 { pulses := [{ lead := 0, trail := 0, prog := 0, count := 0, started := false }] }), 15,
        { lead := 0, trail := 0, prog := 0, count := 0, started := false },
        { pulses := [{ lead := 0, trail := 0, prog := 0, count := 0, started := false }] }, by unfold State.awake; decide +kernel⟩,
    ⟨running (fun d => d.setPin 15 { pulses := [{ lead := 0, trail := 0, prog := 0, count := 0, started := true }, { lead := 0, trail := 0, prog := 0, count := 1, started := false }] }),
        15, { lead := 0, trail := 0, prog := 0, count := 1, started := false }, { lead := 0, trail := 0, prog := 0, count := 0, started := true },
        { pulses := [{ lead := 0, trail := 0, prog := 0, count := 0, started := true }, { lead := 0, trail := 0, prog := 0, count := 1, started := false }] },
        by unfold State.awake; decide +kernel⟩,
    ⟨running (fun d => d.setPin 15 { pulses := [{ lead := 0, trail := 0, prog := 0, count := 0, started := true }] }), 15,
        { pulses := [{ lead := 0, trail := 0, prog := 0, count := 0, started := true }] }, by unfold State.awake; decide +kernel⟩,
    ⟨running, 15, by unfold State.awake; decide +kernel⟩,
    ⟨running (fun d => d.setFlag R.TRG_CTL_DIR [15] true), 15, 0, true, by unfold State.awake; decide +kernel⟩,
    ⟨running, 15, 0, true, by unfold State.awake; decide +kernel⟩,
    ⟨running (fun d => d.put R.TRG_CTL_IN_EDGE [15] 2), 15, 0, 0, false,
        ((((up 1).put R.TRG_CTL_IN_EDGE [15] 2).setPin 15 { ((up 1).put R.TRG_CTL_IN_EDGE [15] 2).pin 15 with filtered := false, level := false }).setFlag R.TRG_STAT_LEVEL [15] false),
        by unfold State.awake; decide +kernel⟩⟩

theorem wit_FeedbackRows :
    (∃ (s : State) (f : Fin 4) (a b : Bool) (_ : TT) (x : FbX) (d : Device), s.awake
      ∧ s.dev.fb f.val = x
      ∧ x.prior = none
      ∧ s.dev.setFb f.val { x with a := a, b := b } = d)
    ∧ (∃ (s : State) (f : Fin 4) (a b back : Bool) (_ : TT) (x : FbX) (d : Device), s.awake
      ∧ s.dev.fb f.val = x
      ∧ x.prior = none
      ∧ s.dev.setFb f.val { x with a := a, b := b } = d
      ∧ d.fbMode f.val = 1
      ∧ (a = x.a ↔ b ≠ x.b)
      ∧ xor (!decide (quadPhase a b = (quadPhase x.a x.b + 1) % 4)) (d.flag R.FB_CTL_INVERT [f.val]) = back)
    ∧ (∃ (s : State) (f : Fin 4) (n : Fin 8) (_ : TT) (x : FbX) (d : Device), s.awake
      ∧ s.dev.fb f.val = x
      ∧ x.prior = none
      ∧ s.dev.put R.FB_STAT_HALL [f.val] n.val = d)
    ∧ (∃ (s : State) (f : Fin 4) (n : Fin 8) (h k : Nat) (_ : TT) (x : FbX) (d : Device), s.awake
      ∧ s.dev.fb f.val = x
      ∧ x.prior = none
      ∧ s.dev.fbMode f.val = 2
      ∧ n ≠ 0
      ∧ n ≠ 7
      ∧ x.hall = some h
      ∧ (s.dev.put R.FB_STAT_HALL [f.val] n.val).setFb f.val { x with hall := some n.val } = d
      ∧ (hallPlace n.val + 6 - hallPlace h) % 6 = k)
    ∧ (∃ (s : State) (f : Fin 4) (st : TT) (p : FbPrior), s.awake
      ∧ (s.dev.fb f.val).prior = some p
      ∧ (s.dev.fb f.val).ssiRun = some st)
    ∧ (∃ (s : State) (f : Fin 4) (_ : Bool) (_ : TT) (x : FbX), s.awake
      ∧ s.dev.fb f.val = x
      ∧ x.ssiWant = true
      ∧ s.dev.get R.FB_SSI_PERIOD_US [f.val] = 0
      ∧ s.dev.fbMode f.val = 3)
    ∧ (∃ (s : State) (f : Fin 4) (_ : TT) (x : FbX) (per : Nat), s.awake
      ∧ s.dev.fb f.val = x
      ∧ s.dev.get R.FB_SSI_PERIOD_US [f.val] = per
      ∧ per ≠ 0
      ∧ (per * 1000 * 65536 : Nat) ≤ ttDiff s.dev.tt x.ssiSince
      ∧ s.dev.fbMode f.val = 3
      ∧ s.dev.ssiBusy f.val = false)
    ∧ (∃ (s : State) (f : Fin 4) (_ : Bool) (_ : TT), s.awake
      ∧ (s.dev.fbMode f.val ≠ 3 ∨ (s.dev.fb f.val).ssiWant = false ∧ (s.dev.get R.FB_SSI_PERIOD_US [f.val] = 0 ∨ ttDiff s.dev.tt (s.dev.fb f.val).ssiSince < (s.dev.get R.FB_SSI_PERIOD_US [f.val] * 1000 * 65536 : Nat))))
    ∧ (∃ (s : State) (f : Fin 4) (n raw m : Nat) (x : FbX) (st : TT), s.awake
      ∧ s.dev.fb f.val = x
      ∧ x.prior = none
      ∧ x.ssiRun = some st
      ∧ x.ssiLast = none
      ∧ 2 ^ s.dev.ssiBits f.val = m
      ∧ s.dev.get R.FB_SSI_BITS [f.val] ≤ 32
      ∧ (if s.dev.flag R.FB_SSI_GRAY [f.val] then grayDecode (s.dev.get R.FB_SSI_BITS [f.val]) (n % 2 ^ s.dev.get R.FB_SSI_BITS [f.val]) else n) % 2 ^ s.dev.get R.FB_SSI_BITS [f.val] = raw)
    ∧ (∃ (s : State) (f : Fin 4) (_ : Nat) (st : TT), s.awake
      ∧ (s.dev.fb f.val).ssiRun = some st
      ∧ (s.dev.fb f.val).prior = none)
    ∧ (∃ (s : State) (f : Fin 4) (_ : Nat), s.awake
      ∧ (s.dev.fb f.val).ssiRun = none)
    ∧ (∃ (s : State) (f : Fin 4) (rising : Bool) (t : TT) (since : Int) (src : Nat) (i : Instr) (d _ : Device), s.awake
      ∧ ((src = 0 ∧ i = .switchEdge f rising t since ∧ d = s.dev.setFb f.val { s.dev.fb f.val with sw := rising }) ∨ (src = 1 ∧ s.dev.fbMode f.val = 1 ∧ i = .indexEdge f rising t since ∧ d = s.dev.setFb f.val { s.dev.fb f.val with z := rising })))
    ∧ (∃ (s : State) (f : Fin 4) (_ : Bool) (_ : TT) (_ : Int), s.awake
      ∧ s.dev.fbMode f.val ≠ 1)
    ∧ (∃ (s : State) (_ : Fin 4), s.awake)
    ∧ (∃ (s : State) (f : Fin 4) (d : Device), s.awake
      ∧ s.dev.motionTaken = false
      ∧ s.dev.wake 12 = d
      ∧ d.fbMode f.val ≠ 3)
    ∧ (∃ (s : State) (f : Fin 4) (d e : Device) (m raw : Nat), s.awake
      ∧ s.dev.motionTaken = false
      ∧ s.dev.wake 12 = d
      ∧ d.fbMode f.val = 3
      ∧ 2 ^ d.ssiBits f.val = m
      ∧ d.get R.FB_SSI_RAW_RAW [f.val] = raw
      ∧ ((d.put R.FB_SSI_OFS_OFS [f.val] ((s.dev.get R.FB_PRESET_COUNT [f.val] + m - raw % m) % m)).put R.FB_SSI_OFS_ROFS [f.val] (s.dev.get R.FB_PRESET_REV [f.val] + 2 ^ 32 - raw / m)).speedLost f.val = e)
    ∧ (∃ (s : State) (_ : Fin 4), s.awake
      ∧ s.dev.motionTaken = false)
    ∧ (∃ (s : State) (_ : Fin 4), s.awake
      ∧ s.dev.motionTaken = true) :=
  ⟨⟨running, 3, true, false, 0, {}, ((up 1).setFb 3 { a := true }), by unfold State.awake; decide +kernel⟩,
    ⟨running (fun d => d.put R.FB_CTL_MODE [3] 1), 3, true, false, false, 0, {}, (((up 1).put R.FB_CTL_MODE [3] 1).setFb 3 { a := true }),
        by unfold State.awake; decide +kernel⟩,
    ⟨running, 3, 7, 0, {}, ((up 1).put R.FB_STAT_HALL [3] 7), by unfold State.awake; decide +kernel⟩,
    ⟨running (fun d => (d.put R.FB_CTL_MODE [3] 2).setFb 3 { hall := some 1 }), 3, 3, 1, 1, 0, { hall := some 1 },
        ((((up 1).put R.FB_CTL_MODE [3] 2).setFb 3 { hall := some 1 }).put R.FB_STAT_HALL [3] 3).setFb 3 { hall := some 3 },
        by unfold State.awake; decide +kernel⟩,
    ⟨running (fun d => d.setFb 3 { ssiRun := some 0, prior := some aPrior }), 3, 0, aPrior, by unfold State.awake; decide +kernel⟩,
    ⟨running (fun d => (d.put R.FB_CTL_MODE [3] 3).setFb 3 { ssiWant := true }), 3, true, 0, { ssiWant := true },
        by unfold State.awake; decide +kernel⟩,
    ⟨running (fun d => later 65536000 ((d.put R.FB_CTL_MODE [3] 3).put R.FB_SSI_PERIOD_US [3] 1)), 3, 0, {}, 1,
        by unfold State.awake; decide +kernel⟩,
    ⟨running, 3, true, 0, by unfold State.awake; decide +kernel⟩,
    ⟨running (fun d => (d.put R.FB_SSI_BITS [3] 13).setFb 3 { ssiRun := some 0 }), 3, 8191, 8191, 8192, { ssiRun := some 0 }, 0,
        by unfold State.awake; decide +kernel⟩,
    ⟨running (fun d => d.setFb 3 { ssiRun := some 0 }), 3, 0, 0, by unfold State.awake; decide +kernel⟩,
    ⟨running, 3, 0, by unfold State.awake; decide +kernel⟩,
    ⟨running, 3, true, 0, 0, 0, .switchEdge 3 true 0 0, ((up 1).setFb 3 { sw := true }), (up 1), by unfold State.awake; decide +kernel⟩,
    ⟨running, 3, true, 0, 0, by unfold State.awake; decide +kernel⟩,
    ⟨running, 3, by unfold State.awake; decide +kernel⟩,
    ⟨running, 3, ((up 1).wake 12), by unfold State.awake; decide +kernel⟩,
    ⟨running (fun d => d.put R.FB_CTL_MODE [3] 3), 3, (((up 1).put R.FB_CTL_MODE [3] 3).wake 12),
        (((((up 1).put R.FB_CTL_MODE [3] 3).wake 12).put R.FB_SSI_OFS_OFS [3] ((0 + 2 ^ (((up 1).put R.FB_CTL_MODE [3] 3).wake 12).ssiBits 3 - 0 % 2 ^ (((up 1).put R.FB_CTL_MODE [3] 3).wake 12).ssiBits 3) % 2 ^ (((up 1).put R.FB_CTL_MODE [3] 3).wake 12).ssiBits 3)).put R.FB_SSI_OFS_ROFS [3] (0 + 2 ^ 32 - 0 / 2 ^ (((up 1).put R.FB_CTL_MODE [3] 3).wake 12).ssiBits 3)).speedLost 3,
        2 ^ (((up 1).put R.FB_CTL_MODE [3] 3).wake 12).ssiBits 3, 0, by unfold State.awake; decide +kernel⟩,
    ⟨running, 3, by unfold State.awake; decide +kernel⟩,
    ⟨running (fun d => d.setFlag R.MSV_STAT_TAKEN [] true), 3, by unfold State.awake; decide +kernel⟩⟩

theorem wit_MotionRows :
    (∃ (s : State) (a : Fin 4) (x : AxisX), s.awake
      ∧ s.dev.motionTaken = false
      ∧ s.dev.axis a.val = x)
    ∧ (∃ (s : State) (_ : Fin 4), s.awake
      ∧ s.dev.motionTaken = true)
    ∧ (∃ (s : State) (a : Fin 4) (_ : List (Int × Int)) (_ : Nat), s.awake
      ∧ s.dev.boundaryDue a.val = false)
    ∧ (∃ (s : State) (a : Fin 4) (samples : List (Int × Int)) (load n : Nat) (d1 d2 d3 d4 d5 d6 d7 : Device) (fst lst : Int × Int), s.awake
      ∧ s.dev.boundaryDue a.val = true
      ∧ (s.dev.settleAt s.dev.tt (axisAddr a.val)).takeRequests a.val = d1
      ∧ (d1.setAxis a.val { d1.axis a.val with bound := d1.tt }).periodDone a.val = d2
      ∧ ((d2.setAxis a.val { d2.axis a.val with prev := (d2.axis a.val).setPoint, arrived := false, trail := if (d2.axis a.val).home = 1 ∨ (d2.axis a.val).home = 2 then (d2.tt, (d2.axis a.val).setPoint) :: (d2.axis a.val).trail.take 2700 else [] }).takeEnable a.val (s.dev.enWritten a.val) = d3)
      ∧ (if d3.motionTaken then d3 else d3.serveRequests a.val) = d4
      ∧ ((d4.narrowAxis a.val).profileStep a.val).showAxis a.val = d5
      ∧ samples.head?.getD (0, 0) = fst
      ∧ samples.getLast?.getD (0, 0) = lst
      ∧ (if d5.flag R.CD_CTL_SENSE_EN [a.val] then (d5.put R.CD_ICUR_IA [a.val] (code 16 lst.1)).put R.CD_ICUR_IB [a.val] (code 16 lst.2) else d5) = d6
      ∧ (d6.judgeStrong a.val fst.1 fst.2).currentStep a.val load = d7
      ∧ max 1 (d7.get R.CD_CTL_PWM_KHZ [a.val] * d7.get R.MP_SERVO_SERVO_NS [a.val] / 1000000) = n)
    ∧ (∃ (s : State) (a : Fin 4) (dir back : Bool) (x : AxisX) (n : Nat), s.awake
      ∧ s.dev.axis a.val = x
      ∧ s.dev.get R.MP_CTL_MODE [a.val] = 3
      ∧ s.dev.motionTaken = false
      ∧ xor dir (s.dev.flag R.MP_STEPIN_DIR_INV [a.val]) = back
      ∧ x.towardLimit back = false
      ∧ s.dev.get R.MP_STEPIN_STEP_RES [a.val] = n)
    ∧ (∃ (s : State) (a : Fin 4) (dir : Bool), s.awake
      ∧ (s.dev.get R.MP_CTL_MODE [a.val] ≠ 3 ∨ s.dev.motionTaken = true ∨ (s.dev.axis a.val).towardLimit (xor dir (s.dev.flag R.MP_STEPIN_DIR_INV [a.val])) = true))
    ∧ (∃ (s : State) (a : Fin 4) (negative : Bool) (x : AxisX), s.awake
      ∧ { s.dev.axis a.val with limN := (s.dev.axis a.val).limN || negative, limP := (s.dev.axis a.val).limP || !negative } = x
      ∧ (if negative then 0 ≤ x.vel else x.vel ≤ 0))
    ∧ (∃ (s : State) (a : Fin 4) (negative : Bool) (x : AxisX) (d : Device), s.awake
      ∧ { s.dev.axis a.val with limN := (s.dev.axis a.val).limN || negative, limP := (s.dev.axis a.val).limP || !negative } = x
      ∧ (if negative then x.vel < 0 else 0 < x.vel)
      ∧ (((s.dev.setAxis a.val x).setFlag R.MP_EVT_LIMIT_HIT [a.val] true).bump R.MP_CNT_LIMITS [a.val]).fireIf R.MP_EV_LIMIT_EV_EN R.MP_EV_LIMIT_EV [a.val] = d)
    ∧ (∃ (s : State) (a : Fin 4) (x : AxisX) (d e : Device), s.awake
      ∧ s.dev.axis a.val = x
      ∧ x.flt = false
      ∧ (if s.dev.flag R.CD_STAT_EN_OUT [a.val] then s.dev.logRecord (s.dev.newRecord 4 1 12 (2 ^ a.val) false s.dev.setPoints) else s.dev) = d
      ∧ (if s.dev.flag R.CD_STAT_EN_OUT [a.val] && d.motionTaken && !x.still then d.markMotionCut else d) = e)
    ∧ (∃ (s : State) (a : Fin 4), s.awake
      ∧ (s.dev.axis a.val).flt = true)
    ∧ (∃ (s : State) (a : Fin 4) (x : AxisX), s.awake
      ∧ s.dev.axis a.val = x
      ∧ s.dev.flag R.MP_CFG_PD_EN [a.val] = true
      ∧ s.dev.get R.MP_STAT_STATE [a.val] = 1
      ∧ x.still = true
      ∧ x.pd = false
      ∧ x.wake = none
      ∧ (s.dev.get R.MP_CFG_PD_MS [a.val] * 1000000 * 65536 : Nat) ≤ ttDiff s.dev.tt x.restSince)
    ∧ (∃ (s : State) (a : Fin 4) (x : AxisX), s.awake
      ∧ s.dev.axis a.val = x
      ∧ (s.dev.flag R.MP_CFG_PD_EN [a.val] = false ∨ s.dev.get R.MP_STAT_STATE [a.val] ≠ 1 ∨ x.still = false ∨ x.pd = true ∨ x.wake ≠ none ∨ ttDiff s.dev.tt x.restSince < (s.dev.get R.MP_CFG_PD_MS [a.val] * 1000000 * 65536 : Nat)))
    ∧ (∃ (s : State) (a : Fin 4) (x : AxisX) (t : TT), s.awake
      ∧ s.dev.axis a.val = x
      ∧ x.wake = some t)
    ∧ (∃ (s : State) (a : Fin 4), s.awake
      ∧ (s.dev.axis a.val).wake = none) :=
  ⟨⟨running, 3, {}, by unfold State.awake; decide +kernel⟩,
    ⟨running (fun d => d.setFlag R.MSV_STAT_TAKEN [] true), 3, by unfold State.awake; decide +kernel⟩,
    ⟨running, 3, [], 0, by unfold State.awake; decide +kernel⟩,
    ⟨running (fun d => later (65536 * 65536 * 65536) d), 3, [(5, 6)], 0, _, _, _, _, _, _, _, _, (5, 6), (5, 6), ⟨rfl, by decide +kernel, rfl, rfl,
        rfl, rfl, rfl, rfl, rfl, rfl, rfl, rfl⟩⟩,
    ⟨running (fun d => d.put R.MP_CTL_MODE [3] 3), 3, false, false, {}, (((up 1).put R.MP_CTL_MODE [3] 3).get R.MP_STEPIN_STEP_RES [3]),
        by unfold State.awake; decide +kernel⟩,
    ⟨running, 3, false, by unfold State.awake; decide +kernel⟩,
    ⟨running, 3, true, { limN := true }, by unfold State.awake; decide +kernel⟩,
    ⟨running (fun d => d.setAxis 3 { vel := 5 }), 3, false, { vel := 5, limP := true },
        (((((up 1).setAxis 3 { vel := 5 }).setAxis 3 { vel := 5, limP := true }).setFlag R.MP_EVT_LIMIT_HIT [3] true).bump R.MP_CNT_LIMITS [3]).fireIf R.MP_EV_LIMIT_EV_EN R.MP_EV_LIMIT_EV [3],
        by unfold State.awake; decide +kernel⟩,
    ⟨running, 3, {}, (up 1), (up 1), by unfold State.awake; decide +kernel⟩,
    ⟨running (fun d => d.setAxis 3 { flt := true }), 3, by unfold State.awake; decide +kernel⟩,
    ⟨running (fun d => ((d.setFlag R.MP_CFG_PD_EN [3] true).put R.MP_STAT_STATE [3] 1).put R.MP_CFG_PD_MS [3] 0), 3, {},
        by unfold State.awake; decide +kernel⟩,
    ⟨running, 3, {}, by unfold State.awake; decide +kernel⟩,
    ⟨running (fun d => d.setAxis 3 { wake := some 0 }), 3, { wake := some 0 }, 0, by unfold State.awake; decide +kernel⟩,
    ⟨running, 3, by unfold State.awake; decide +kernel⟩⟩

theorem wit_HostLinkRows :
    (∃ (s : State) (_ _ : Nat) (_ : List Byte) (_ : Bool), s.awake
      ∧ (s.dev.hostLinked = false ∨ s.dev.flag R.WIPE_STAT_BUSY [] = true))
    ∧ (∃ (s : State) (off len : Nat), s.awake
      ∧ (2 ^ 32 < off + len ∨ len = 0))
    ∧ (∃ (s : State) (off len : Nat), s.awake
      ∧ s.dev.hostLinked = true
      ∧ off + len ≤ 2 ^ 32
      ∧ 0 < len
      ∧ s.dev.flag R.WIPE_STAT_BUSY [] = false
      ∧ s.dev.hostReach = false)
    ∧ (∃ (s : State) (off len a : Nat), s.awake
      ∧ s.dev.hostReach = true
      ∧ off + len ≤ 2 ^ 32
      ∧ 0 < len
      ∧ s.dev.flag R.WIPE_STAT_BUSY [] = false
      ∧ s.dev.get R.HOST_AP_BASE_BASE [] * 16777216 + off = a)
    ∧ (∃ (s : State) (off : Nat) (bs : List Byte) (_ : Bool), s.awake
      ∧ (2 ^ 32 < off + bs.length ∨ bs = []))
    ∧ (∃ (s : State) (off : Nat) (bs : List Byte) (_ : Bool), s.awake
      ∧ s.dev.hostLinked = true
      ∧ off + bs.length ≤ 2 ^ 32
      ∧ bs ≠ []
      ∧ s.dev.flag R.WIPE_STAT_BUSY [] = false
      ∧ s.dev.hostReach = false)
    ∧ (∃ (s : State) (off a : Nat) (bs : List Byte), s.awake
      ∧ s.dev.hostReach = true
      ∧ off + bs.length ≤ 2 ^ 32
      ∧ bs ≠ []
      ∧ s.dev.flag R.WIPE_STAT_BUSY [] = false
      ∧ s.dev.get R.HOST_AP_BASE_BASE [] * 16777216 + off = a)
    ∧ (∃ (s : State) (_ : Nat), s.awake
      ∧ s.dev.hostReach = true)
    ∧ (∃ (s : State) (_ : Nat), s.awake
      ∧ s.dev.hostReach = false)
    ∧ (∃ (s : State), s.awake
      ∧ s.dev.hostLinked = true
      ∧ s.dev.hst.d3hot = false)
    ∧ (∃ (s : State), s.awake
      ∧ (s.dev.hostLinked = false ∨ s.dev.hst.d3hot = true))
    ∧ (∃ (s : State) (c : HostCfg) (d : Device), s.awake
      ∧ s.dev.hostLinked = true
      ∧ ({ s.dev with hst := { s.dev.hst with memSpace := c.memSpace, busMaster := c.busMaster, msixEnable := c.msixEnable, functionMask := c.functionMask, ptmEnable := c.ptmEnable, mps := clamp 128 512 c.mps.toNat, mrrs := clamp 128 4096 c.mrrs.toNat, bar0 := c.bar0.toNat / 2 ^ 16 * 2 ^ 16, bar2 := c.bar2.toNat / 2 ^ 26 * 2 ^ 26, bar4 := c.bar4.toNat / 2 ^ 32 * 2 ^ 32, relaxed := c.relaxed, tags14 := c.tags14, noTimeout := c.noTimeout } } : Device).setFlag R.PTM_STAT_ENABLED [] c.ptmEnable = d)
    ∧ (∃ (s : State) (_ : HostCfg), s.awake
      ∧ s.dev.hostLinked = false)
    ∧ (∃ (s : State), s.awake
      ∧ s.dev.hostLinked = true)
    ∧ (∃ (s : State) (_ : AerKind), s.awake)
    ∧ (∃ (s : State) (_ _ : Nat) (_ : Bool), s.awake) :=
  ⟨⟨running, 0, 64, [], false, by unfold State.awake; decide +kernel⟩,
    ⟨running, 0, 0, by unfold State.awake; decide +kernel⟩,
    ⟨running (fun d => let d := (hosted d).setFlag R.WIPE_STAT_BUSY [] false; { d with hst := { d.hst with memSpace := false } }), 0, 64,
        by unfold State.awake; decide +kernel⟩,
    ⟨running (fun d => (hosted d).setFlag R.WIPE_STAT_BUSY [] false), 4294967232, 64, _, ⟨rfl, by decide +kernel, by decide +kernel,
        by decide +kernel, by decide +kernel, rfl⟩⟩,
    ⟨running, 0, [], false, by unfold State.awake; decide +kernel⟩,
    ⟨running (fun d => let d := (hosted d).setFlag R.WIPE_STAT_BUSY [] false; { d with hst := { d.hst with memSpace := false } }), 0, [1], true,
        by unfold State.awake; decide +kernel⟩,
    ⟨running (fun d => (hosted d).setFlag R.WIPE_STAT_BUSY [] false), 4294967295, _, [1], ⟨rfl, by decide +kernel, by decide +kernel,
        by decide +kernel, by decide +kernel, rfl⟩⟩,
    ⟨running hosted, 1536, by unfold State.awake; decide +kernel⟩,
    ⟨running, 0, by unfold State.awake; decide +kernel⟩,
    ⟨running hosted, by unfold State.awake; decide +kernel⟩,
    ⟨running, by unfold State.awake; decide +kernel⟩,
    ⟨running hosted,
        { memSpace := true, busMaster := true, msixEnable := true, functionMask := false, ptmEnable := true, mps := 512, mrrs := 4096, bar0 := 65536, bar2 := 0, bar4 := 0, relaxed := false, tags14 := false, noTimeout := false },
        _, ⟨rfl, by decide +kernel, rfl⟩⟩,
    ⟨running, { memSpace := true, busMaster := true, msixEnable := true, functionMask := false, ptmEnable := true, mps := 512, mrrs := 4096, bar0 := 65536, bar2 := 0, bar4 := 0, relaxed := false, tags14 := false, noTimeout := false },
        by unfold State.awake; decide +kernel⟩,
    ⟨running hosted, by unfold State.awake; decide +kernel⟩,
    ⟨running, .ecrc, by unfold State.awake; decide +kernel⟩,
    ⟨running, 6, 16, true, by unfold State.awake; decide +kernel⟩⟩

theorem wit_MemoryErrorRows :
    (∃ (s : State) (_ _ _ off : Nat), s.awake
      ∧ hbmSize ≤ off)
    ∧ (∃ (s : State) (cls booth index off : Nat) (d : Device), s.awake
      ∧ off < hbmSize
      ∧ (s.dev.memErr true cls booth index off).markBad off = d)
    ∧ (∃ (s : State) (_ _ _ off : Nat), s.awake
      ∧ off < hbmSize)
    ∧ (∃ (s : State) (off : Nat) (_ : Bool), s.awake
      ∧ off < hbmSize
      ∧ s.dev.sec.hbmWiped = true
      ∧ s.dev.flag R.MEM_SCRUB_EN [] = true
      ∧ off / 8 + 1 ≠ hbmSize / 8)
    ∧ (∃ (s : State) (off : Nat), s.awake
      ∧ s.dev.sec.hbmWiped = true
      ∧ s.dev.flag R.MEM_SCRUB_EN [] = true
      ∧ off < hbmSize
      ∧ off / 8 + 1 = hbmSize / 8
      ∧ s.dev.wordBad off = false)
    ∧ (∃ (s : State) (off : Nat) (_ _ : Bool), s.awake
      ∧ (s.dev.sec.hbmWiped = false ∨ s.dev.flag R.MEM_SCRUB_EN [] = false ∨ hbmSize ≤ off))
    ∧ (∃ (s : State) (_ : Fin 32), s.awake)
    ∧ (∃ (s : State) (_ : Fin 16), s.awake)
    ∧ (∃ (s : State) (m : Nat) (ramp : Bool) (d e f : Device), s.awake
      ∧ maskWhere 4 (fun a => s.dev.flag R.CD_STAT_EN_OUT [a]) = m
      ∧ (List.range 4).any (fun a => s.dev.flag R.CD_STAT_EN_OUT [a] && !(s.dev.axis a).still) = ramp
      ∧ (if m = 0 then s.dev else s.dev.logRecord (s.dev.newRecord 4 2 12 m false s.dev.setPoints)) = d
      ∧ (List.range 4).foldl (fun d a => (d.setFlag R.CD_CTL_EN [a] false).cutAxis a 0) d = e
      ∧ ((List.range 4).foldl (fun d f => d.setFlag R.FB_STAT_SUSPECT [f] true) e).setFlag R.MSV_STAT_UECC [] true = f)
    ∧ (∃ (s : State), s.awake
      ∧ s.dev.sec.phyTrained = false)
    ∧ (∃ (s : State), s.awake
      ∧ s.dev.sec.phyTrained = true)
    ∧ (∃ (s : State) (_ : Nat), s.awake
      ∧ s.dev.sec.phyTrained = true
      ∧ s.dev.sec.hbmWiped = false)
    ∧ (∃ (s : State) (_ : Nat), s.awake
      ∧ (s.dev.sec.phyTrained = false ∨ s.dev.sec.hbmWiped = true)) :=
  ⟨⟨running, 0, 0, 0, hbmSize, by unfold State.awake; decide +kernel⟩,
    ⟨running, 0, 7, 0, 64, _, ⟨rfl, by decide +kernel, rfl⟩⟩,
    ⟨running, 0, 7, 0, 64, by unfold State.awake; decide +kernel⟩,
    ⟨running (fun d => ({ d with sec := { d.sec with hbmWiped := true } }).setFlag R.MEM_SCRUB_EN [] true), 0, true,
        by unfold State.awake; decide +kernel⟩,
    ⟨running (fun d => ({ d with sec := { d.sec with hbmWiped := true } }).setFlag R.MEM_SCRUB_EN [] true), hbmSize - 8,
        by unfold State.awake; decide +kernel⟩,
    ⟨running, 0, true, true, by unfold State.awake; decide +kernel⟩,
    ⟨running, 31, by unfold State.awake; decide +kernel⟩,
    ⟨running, 15, by unfold State.awake; decide +kernel⟩,
    ⟨running, _, _, _, _, _, ⟨rfl, rfl, rfl, rfl, rfl, rfl⟩⟩,
    ⟨running, by unfold State.awake; decide +kernel⟩,
    ⟨running (fun d => { d with sec := { d.sec with phyTrained := true } }), by unfold State.awake; decide +kernel⟩,
    ⟨running (fun d => { d with sec := { d.sec with phyTrained := true } }), 5, by unfold State.awake; decide +kernel⟩,
    ⟨running, 5, by unfold State.awake; decide +kernel⟩⟩

set_option maxRecDepth 100000 in
theorem wit_ResetRows :
    (∃ (s : State) (c : LcChange), s.dev.sec.change = some c)
    ∧ (∃ (s : State), s.dev.sec.change = none)
    ∧ (∃ (_ : Device) (cause : Nat), cause < 8)
    ∧ (∃ (_ : Device) (cause : Nat), cause < 8)
    ∧ (∃ (s : State), s.awake)
    ∧ (∃ (s : State) (x : SecX) (d e : Device), s.dev.sec.inReset = true
      ∧ (match s.dev.sec.change with | some c => s.dev.sec.program c | none => s.dev.sec) = x
      ∧ ((s.dev.setSec { (if x.lcState = lcOWNED then x else x.revokeOwners) with inReset := false, sensed := true }).showOtp).drawNonce = d
      ∧ (if d.sec.lcState ≤ lcPROVISIONED then (d.setFlag R.SEC_STAT_DEBUG_OPEN [] true).put R.SEC_STAT_DEBUG_LEVEL [] 2 else d) = e)
    ∧ (∃ (s : State), s.awake
      ∧ (s.dev.sec.sensed = false ∨ s.dev.sec.sramWiped = true))
    ∧ (∃ (s : State) (d : Device), s.awake
      ∧ s.dev.sec.sensed = true
      ∧ s.dev.sec.sramWiped = false
      ∧ (List.range 15).foldl (fun d b => d.setFlag R.BOOTH_STATE_WIPE_BUSY [b] false) (s.dev.setSec { s.dev.sec with sramWiped := true }) = d)
    ∧ (∃ (s : State), s.awake
      ∧ s.dev.sec.change = none
      ∧ s.dev.sec.sensed = true
      ∧ s.dev.flag R.SEC_STAT_ID_READY [] = false
      ∧ lcHasKey s.dev.lifecycle = true
      ∧ (s.dev.flag R.SEC_STAT_DEBUG_OPEN [] = false ∨ s.dev.lifecycle = 1))
    ∧ (∃ (s : State), s.awake
      ∧ (s.dev.sec.change.isSome = true ∨ s.dev.sec.sensed = false ∨ s.dev.flag R.SEC_STAT_ID_READY [] = true ∨ lcHasKey s.dev.lifecycle = false ∨ s.dev.flag R.SEC_STAT_DEBUG_OPEN [] = true ∧ s.dev.lifecycle ≠ 1))
    ∧ (∃ (s : State), s.awake
      ∧ s.dev.get R.RM_STATUS_STAGE [] = 2)
    ∧ (∃ (s : State) (a b ea eb : Nat), s.awake
      ∧ s.dev.get R.RM_STATUS_STAGE [] = 0
      ∧ s.dev.sec.sramWiped = true
      ∧ s.dev.sec.hbmWiped = true
      ∧ s.dev.ctl.bootPath = true
      ∧ s.dev.txActive 15 = false
      ∧ (lcHasKey s.dev.lifecycle = false ∨ s.dev.sec.idKey.isSome = true)
      ∧ s.dev.sec.bootOrder = [a, b]
      ∧ s.dev.sec.imageError s.dev.lifecycle a = ea
      ∧ (s.dev.bootErr a ea).sec.imageError (s.dev.bootErr a ea).lifecycle b = eb)
    ∧ (∃ (s : State), s.awake
      ∧ (s.dev.get R.RM_STATUS_STAGE [] = 1 ∨ 3 ≤ s.dev.get R.RM_STATUS_STAGE [] ∨ s.dev.get R.RM_STATUS_STAGE [] = 0 ∧ (s.dev.sec.sramWiped = false ∨ s.dev.sec.hbmWiped = false ∨ s.dev.ctl.bootPath = false ∨ s.dev.txActive 15 = true ∨ lcHasKey s.dev.lifecycle = true ∧ s.dev.sec.idKey = none)))
    ∧ (∃ (s : State), s.awake
      ∧ (s.dev.get R.RM_STATUS_STAGE [] ≠ 1 ∨ s.dev.ready = true))
    ∧ (∃ (s : State), s.awake
      ∧ s.dev.get R.RM_STATUS_STAGE [] = 1
      ∧ s.dev.ready = false
      ∧ s.dev.readySet.ready = true)
    ∧ (∃ (s : State), s.awake
      ∧ s.dev.get R.RM_STATUS_STAGE [] = 1
      ∧ s.dev.ready = false
      ∧ s.dev.ctl.works = []
      ∧ s.dev.hst.stalled = []
      ∧ s.dev.hst.vectors = []
      ∧ s.dev.faultInForce = false
      ∧ s.dev.boothState 11 = 1
      ∧ s.dev.dlv.takeDue = none) :=
  ⟨⟨running (fun d => { d with sec := { d.sec with change := some { since := 0, toState := 5 } } }), { since := 0, toState := 5 }, by decide +kernel⟩,
    ⟨running, by decide +kernel⟩,
    ⟨{}, 7, by decide +kernel⟩,
    ⟨{}, 7, by decide +kernel⟩,
    ⟨running, by unfold State.awake; decide +kernel⟩,
    ⟨State.reset, _, _, _, ⟨rfl, rfl, rfl, rfl⟩⟩,
    ⟨running, by unfold State.awake; decide +kernel⟩,
    ⟨running (fun d => { d with sec := { d.sec with sensed := true } }), _, ⟨rfl, rfl, rfl, rfl⟩⟩,
    ⟨running (fun d => ({ d with sec := { d.sec with sensed := true } }).put R.SEC_STAT_LC [] 3), by unfold State.awake; decide +kernel⟩,
    ⟨running, by unfold State.awake; decide +kernel⟩,
    ⟨running (fun d => d.put R.RM_STATUS_STAGE [] 2), by unfold State.awake; decide +kernel⟩,
    ⟨running (fun d => { d with sec := { d.sec with sramWiped := true, hbmWiped := true }, ctl := { d.ctl with bootPath := true } }), 0, 1, 1, 1,
        ⟨rfl, by decide +kernel, rfl, rfl, rfl, by decide +kernel, by decide +kernel, by decide +kernel, by decide +kernel, by decide +kernel⟩⟩,
    ⟨running, by unfold State.awake; decide +kernel⟩,
    ⟨running, by unfold State.awake; decide +kernel⟩,
    ⟨running (fun d => (d.put R.RM_STATUS_STAGE [] 1).setFlag R.DEV_STATUS_READY [] false), by unfold State.awake; decide +kernel⟩,
    ⟨running (fun d => ((d.put R.RM_STATUS_STAGE [] 1).setFlag R.DEV_STATUS_READY [] false).wake 11), by unfold State.awake; decide +kernel⟩⟩

theorem wit_SecurityRows :
    (∃ (s : State) (target : Nat) (d : Device), s.awake
      ∧ target < 8192
      ∧ s.dev.wake 14 = d)
    ∧ (∃ (s : State) (d : Device), s.awake
      ∧ s.dev.flag R.SEC_SVN_REQ_BUSY [] = true
      ∧ ((s.dev.setSec { s.dev.sec with floor := max s.dev.sec.floor s.dev.sec.svnTarget, svnTarget := 0 }).setFlag R.SEC_SVN_REQ_BUSY [] false).put R.SEC_SVN_FLOOR [] (max s.dev.sec.floor s.dev.sec.svnTarget) = d)
    ∧ (∃ (s : State), s.awake
      ∧ s.dev.flag R.SEC_SVN_REQ_BUSY [] = false)
    ∧ (∃ (s : State) (n a : Nat), s.awake
      ∧ s.dev.flag R.SEC_REQ_CTL_BUSY [] = false
      ∧ s.dev.get R.SEC_REQ_CTL_LEN [] = n
      ∧ s.dev.get R.SEC_REQ_ADDR_ADDR [] = a)
    ∧ (∃ (s : State), s.awake
      ∧ s.dev.flag R.SEC_REQ_CTL_BUSY [] = true)
    ∧ (∃ (s : State), s.awake
      ∧ s.dev.flag R.SEC_REQ_CTL_BUSY [] = false)
    ∧ (∃ (s : State) (r : Nat) (d e : Device), s.awake
      ∧ s.dev.flag R.SEC_REQ_CTL_BUSY [] = true
      ∧ s.dev.requestCheck s.dev.sec.request false = r
      ∧ (if r = 0 then s.dev.requestDone s.dev.sec.request else s.dev) = d
      ∧ (((d.setSec { d.sec with request := [] }).setFlag R.SEC_REQ_CTL_BUSY [] false).setFlag R.SEC_REQ_CTL_DONE [] true).put R.SEC_REQ_CTL_RESULT [] r = e)
    ∧ (∃ (s : State), s.awake
      ∧ s.dev.flag R.SEC_Q_CTL_BUSY [] = false)
    ∧ (∃ (s : State), s.awake
      ∧ s.dev.flag R.SEC_Q_CTL_BUSY [] = true)
    ∧ (∃ (s : State), s.awake
      ∧ s.dev.flag R.SEC_Q_CTL_BUSY [] = false)
    ∧ (∃ (s : State) (key a : Nat) (d e f : Device) (sig : List Byte), s.awake
      ∧ s.dev.flag R.SEC_Q_CTL_BUSY [] = true
      ∧ s.dev.sec.idKey = some key
      ∧ s.dev.setFlag R.SEC_Q_CTL_BUSY [] false = d
      ∧ d.signWith key d.sec.quote = (sig, e)
      ∧ d.get R.SEC_Q_ADDR_ADDR [] = a
      ∧ (((if inRegion a 352 then e.hbmWrite (a - rmBase) (d.sec.quote ++ sig) else e).setFlag R.SEC_Q_CTL_DONE [] true).setSec { (if inRegion a 352 then e.hbmWrite (a - rmBase) (d.sec.quote ++ sig) else e).sec with quote := [] }) = f)
    ∧ (∃ (s : State) (d : Device), s.awake
      ∧ s.dev.flag R.SEC_Q_CTL_BUSY [] = true
      ∧ s.dev.sec.idKey = none
      ∧ (s.dev.setFlag R.SEC_Q_CTL_BUSY [] false).setFlag R.SEC_Q_CTL_REFUSED [] true = d)
    ∧ (∃ (s : State) (_ : Fin 4), s.awake)
    ∧ (∃ (s : State), s.awake)
    ∧ (∃ (s : State), s.awake
      ∧ s.dev.flag R.SEC_DBG_CTL_CHAL_VALID [] = true
      ∧ (60000000000 * 65536 : Int) ≤ ttDiff s.dev.tt s.dev.sec.chalTT)
    ∧ (∃ (s : State), s.awake
      ∧ (s.dev.flag R.SEC_DBG_CTL_CHAL_VALID [] = false ∨ ttDiff s.dev.tt s.dev.sec.chalTT < 60000000000 * 65536))
    ∧ (∃ (s : State) (_ : List Byte), s.awake)
    ∧ (∃ (s : State) (_ : List (List Byte)), s.awake)
    ∧ (∃ (s : State), s.awake)
    ∧ (∃ (s : State) (n : Nat), s.awake
      ∧ n < 65536)
    ∧ (∃ (s : State) (j : FlashJob) (rest : List FlashJob), s.awake
      ∧ s.dev.sec.jobs = j :: rest)
    ∧ (∃ (s : State), s.awake
      ∧ s.dev.sec.jobs = [])
    ∧ (∃ (s : State) (_ : Jtag), s.awake
      ∧ (s.dev.flag R.SEC_STAT_DEBUG_OPEN [] = false ∨ s.dev.get R.SEC_STAT_DEBUG_LEVEL [] = 0))
    ∧ (∃ (s : State) (_ _ : Nat) (_ : List Byte) (_ : Word) (_ : Half) (_ : Device) (_ : Option (List Byte)), s.awake
      ∧ s.dev.ready = true
      ∧ s.dev.flag R.SEC_STAT_DEBUG_OPEN [] = true
      ∧ 0 < s.dev.get R.SEC_STAT_DEBUG_LEVEL []) :=
  ⟨⟨running, 4096, _, ⟨rfl, by decide, rfl⟩⟩,
    ⟨running (fun d => d.setFlag R.SEC_SVN_REQ_BUSY [] true), _, ⟨rfl, by decide +kernel, rfl⟩⟩,
    ⟨running, by unfold State.awake; decide +kernel⟩,
    ⟨running, 0, 0, by unfold State.awake; decide +kernel⟩,
    ⟨running (fun d => d.setFlag R.SEC_REQ_CTL_BUSY [] true), by unfold State.awake; decide +kernel⟩,
    ⟨running, by unfold State.awake; decide +kernel⟩,
    ⟨running (fun d => d.setFlag R.SEC_REQ_CTL_BUSY [] true), _, _, _, ⟨rfl, by decide +kernel, rfl, rfl, rfl⟩⟩,
    ⟨running, by unfold State.awake; decide +kernel⟩,
    ⟨running (fun d => d.setFlag R.SEC_Q_CTL_BUSY [] true), by unfold State.awake; decide +kernel⟩,
    ⟨running, by unfold State.awake; decide +kernel⟩,
    ⟨running (fun d => (d.setSec { d.sec with idKey := some 1 }).setFlag R.SEC_Q_CTL_BUSY [] true), 1, _, _, _, _, _, ⟨rfl, by decide +kernel, rfl,
        rfl, rfl, rfl, rfl⟩⟩,
    ⟨running (fun d => d.setFlag R.SEC_Q_CTL_BUSY [] true), _, ⟨rfl, by decide +kernel, rfl, rfl⟩⟩,
    ⟨running, 3, by unfold State.awake; decide +kernel⟩,
    ⟨running, by unfold State.awake; decide +kernel⟩,
    ⟨running (fun d => later (60000000000 * 65536) (d.setFlag R.SEC_DBG_CTL_CHAL_VALID [] true)), by unfold State.awake; decide +kernel⟩,
    ⟨running, by unfold State.awake; decide +kernel⟩,
    ⟨running, [], by unfold State.awake; decide +kernel⟩,
    ⟨running, [], by unfold State.awake; decide +kernel⟩,
    ⟨running, by unfold State.awake; decide +kernel⟩,
    ⟨running, 65535, by unfold State.awake; decide +kernel⟩,
    ⟨running (fun d => d.setSec { d.sec with jobs := [{ opcode := 0x0E05, key := 0, addr := 0, data := [1] }] }),
        { opcode := 0x0E05, key := 0, addr := 0, data := [1] }, [], by unfold State.awake; decide +kernel⟩,
    ⟨running, by unfold State.awake; decide +kernel⟩,
    ⟨running, .halt, by unfold State.awake; decide +kernel⟩,
    ⟨running (fun d => (d.setFlag R.SEC_STAT_DEBUG_OPEN [] true).put R.SEC_STAT_DEBUG_LEVEL [] 2), 0, 0, [], 0, .full, {}, none,
        by unfold State.awake; decide +kernel⟩⟩

theorem wit_HealthRows :
    (∃ (s : State) (m : Fin 4), s.awake
      ∧ (m ≠ 0 ∨ s.dev.mode = 0))
    ∧ (∃ (s : State), s.awake
      ∧ s.dev.mode ≠ 0)
    ∧ (∃ (s : State) (b : Fin 16) (_ : BitVec 16), s.awake
      ∧ (s.dev.boothPresent b.val = false ∨ s.dev.flag R.BOOTH_STATE_WIPE_BUSY [b.val] = true))
    ∧ (∃ (s : State) (b : Fin 16) (r : BitVec 16), s.awake
      ∧ s.dev.boothPresent b.val = true
      ∧ s.dev.flag R.BOOTH_STATE_WIPE_BUSY [b.val] = false
      ∧ r.toNat < 0x1000
      ∧ s.dev.flag R.BOOTH_PACE_SHORT [b.val] = false
      ∧ 8 ≤ b.val)
    ∧ (∃ (s : State) (b : Fin 16) (r : BitVec 16), s.awake
      ∧ s.dev.boothPresent b.val = true
      ∧ s.dev.flag R.BOOTH_STATE_WIPE_BUSY [b.val] = false
      ∧ 0x1000 ≤ r.toNat
      ∧ 8 ≤ b.val)
    ∧ (∃ (s : State) (b : Fin 16) (_ : BitVec 16), s.awake
      ∧ s.dev.boothPresent b.val = true
      ∧ s.dev.flag R.BOOTH_STATE_WIPE_BUSY [b.val] = false
      ∧ b.val < 8)
    ∧ (∃ (s : State) (_ : Nat), s.awake
      ∧ s.dev.paceActive = false)
    ∧ (∃ (s : State) (_ v : Nat) (d e : Device), s.awake
      ∧ s.dev.paceActive = true
      ∧ (clampI (s.dev.get R.NET_VCORE_VMIN []) (s.dev.get R.NET_VCORE_VMAX []) s.dev.paceStep).toNat = v
      ∧ (match s.dev.leastPace with | some (m, b) => (s.dev.put R.PW_PACE_STAT_MIN_RATIO [] m).put R.PW_PACE_STAT_MIN_BOOTH [] b | none => s.dev) = d
      ∧ ({ d with pow := { d.pow with shortSeen := maskWhere 15 (fun b => d.flag R.BOOTH_PACE_SHORT [b]) } } : Device) = e)
    ∧ (∃ (s : State) (due : List Nat), s.awake
      ∧ (List.range 15).filter (fun b => heldFor b s.dev.tt 10000000 s.dev.pow.shortSince) = due)
    ∧ (∃ (s : State) (due : List Nat) (d : Device), s.awake
      ∧ s.dev.limitsDue = due
      ∧ due ≠ []
      ∧ ({ s.dev with pow := { s.dev.pow with limitSince := due.foldl (fun m k => m.put none k none) s.dev.pow.limitSince } } : Device) = d)
    ∧ (∃ (s : State), s.awake
      ∧ s.dev.limitsDue = []) :=
  ⟨⟨running, 2, by unfold State.awake; decide +kernel⟩,
    ⟨running, by unfold State.awake; decide +kernel⟩,
    ⟨running, 15, 0, by unfold State.awake; decide +kernel⟩,
    ⟨running (fun d => d.setFlag R.BOOTH_STATE_WIPE_BUSY [14] false), 14, 0xFFF, by unfold State.awake; decide +kernel⟩,
    ⟨running (fun d => d.setFlag R.BOOTH_STATE_WIPE_BUSY [14] false), 14, 0x1000, by unfold State.awake; decide +kernel⟩,
    ⟨running (fun d => d.setFlag R.BOOTH_STATE_WIPE_BUSY [7] false), 7, 0x1000, by unfold State.awake; decide +kernel⟩,
    ⟨running (fun d => d.put R.PW_PACE_CTL_EN [] 0), 0, by unfold State.awake; decide +kernel⟩,
    ⟨running (fun d => d.put R.PW_PACE_CTL_EN [] 1), 0, _, _, _, ⟨rfl, by decide +kernel, rfl, rfl, rfl⟩⟩,
    ⟨running, [], by unfold State.awake; decide +kernel⟩,
    ⟨running (fun d => { d with pow := { d.pow with limitSince := [(40, some (0 - BitVec.ofNat 64 (200000 * 65536)))] } }), [40], _, ⟨rfl,
        by decide +kernel, by decide, rfl⟩⟩,
    ⟨running, by unfold State.awake; decide +kernel⟩⟩

theorem wit_TransactionCommands :
    (∃ (s : State) (e : Entry) (n : Nat), s.takes txnOpenSpec e true
      ∧ n < 14
      ∧ s.dev.txnFree n = true
      ∧ ((∀ w ∈ (s.dev.entered e).ctl.works, w.opcode = 0x0102 → w.key.headD 0 = n → w.dead = true))
      ∧ ((∀ m, m < n → s.dev.txnFree m = false ∨ ∃ w ∈ (s.dev.entered e).ctl.works, w.opcode = 0x0102 ∧ w.key.headD 0 = m ∧ w.dead = false)))
    ∧ (∃ (s : State) (e : Entry) (b : List Byte) (txn count : Nat), s.takes txnStageSpec e true
      ∧ (if e.hostBuf then (s.dev.entered e).input e else e.body) = b
      ∧ fieldAt b 0 2 = txn
      ∧ fieldAt b 2 2 = count
      ∧ ((e.hostBuf = true → e.inLen = 8 + 24 * count ∧ fieldAt b 4 4 = 0))
      ∧ ((e.hostBuf = false → 4 + 24 * count ≤ e.length.toNat ∧ count ≤ 2))
      ∧ (s.dev.entered e).txnCheck e txn = stOK
      ∧ s.dev.txState (txn - 1) = 1)
    ∧ (∃ (s : State) (e : Entry) (txn : Nat), s.takes txnCommitSpec e true
      ∧ e.u 12 2 = txn
      ∧ e.u 14 1 ≤ 2
      ∧ e.u 15 1 ≤ 3
      ∧ e.u 17 7 = 0
      ∧ e.u 40 24 = 0
      ∧ (s.dev.entered e).txnCheck e txn = stOK
      ∧ s.dev.txState (txn - 1) = 1
      ∧ s.dev.txExcluded (txn - 1) = false)
    ∧ (∃ (s : State) (e : Entry) (n : Nat), s.takes txnCancelSpec e true
      ∧ e.u 12 2 = n + 1
      ∧ (s.dev.entered e).txnCheck e (n + 1) = stOK
      ∧ s.dev.txState n = 1)
    ∧ (∃ (s : State) (e : Entry) (n : Nat), s.takes txnCancelSpec e true
      ∧ e.u 12 2 = n + 1
      ∧ (s.dev.entered e).txnCheck e (n + 1) = stOK
      ∧ s.dev.txState n = 3
      ∧ ((s.dev.entered e).tx n).sampled = false)
    ∧ (∃ (s : State) (e : Entry) (n : Nat), s.takes txnCancelSpec e true
      ∧ e.u 12 2 = n + 1
      ∧ (s.dev.entered e).txnCheck e (n + 1) = stOK
      ∧ (s.dev.txState n = 2 ∨ (s.dev.txState n = 3 ∧ ((s.dev.entered e).tx n).sampled = true)))
    ∧ (∃ (s : State) (e : Entry) (n : Nat), s.takes txnQuerySpec e true
      ∧ e.u 12 2 = n + 1
      ∧ (s.dev.entered e).txnCheck e (n + 1) = stOK)
    ∧ (∃ (s : State) (e : Entry), s.takes epochQuerySpec e true) :=
  ⟨⟨rung 0 0x100 (layout []), boot 0 (layout []), 0, ⟨by unfold State.takes State.awake; decide +kernel, by decide, by decide +kernel,
      by decide +kernel, fun m h => absurd h (Nat.not_lt_zero m)⟩⟩,
    ⟨rung 1 0x101 (layout [(2,14),(2,1),(8,0),(8,0),(8,0)]) (fun d => d.put R.CUR_TX_STAT_STATE [13] 1),
        boot 0 (layout [(2,14),(2,1),(8,0),(8,0),(8,0)]), _, 14, 1, ⟨by unfold State.takes State.awake; decide +kernel, rfl, by decide +kernel,
        by decide +kernel, by decide +kernel, by decide +kernel, by decide +kernel, by decide +kernel⟩⟩,
    ⟨rung 1 0x102 (layout [(2,14),(1,2),(1,3),(1,0),(7,0),(8,5),(8,9)]) (fun d => d.put R.CUR_TX_STAT_STATE [13] 1),
        boot 0 (layout [(2,14),(1,2),(1,3),(1,0),(7,0),(8,5),(8,9)]), 14, by unfold State.takes State.awake; decide +kernel⟩,
    ⟨rung 3 0x103 (layout [(2,1)]) (fun d => d.put R.CUR_TX_STAT_STATE [0] 1), boot 0 (layout [(2,1)]), 0,
        by unfold State.takes State.awake; decide +kernel⟩,
    ⟨rung 1 0x103 (layout [(2,14)]) (fun d => d.put R.CUR_TX_STAT_STATE [13] 3), boot 0 (layout [(2,14)]), 13,
        by unfold State.takes State.awake; decide +kernel⟩,
    ⟨rung 1 0x103 (layout [(2,14)]) (fun d => d.put R.CUR_TX_STAT_STATE [13] 2), boot 0 (layout [(2,14)]), 13,
        by unfold State.takes State.awake; decide +kernel⟩,
    ⟨rung 0 0x104 (layout [(2,14)]), boot 0 (layout [(2,14)]), 13, by unfold State.takes State.awake; decide +kernel⟩,
    ⟨rung 0 0x105 (layout []), boot 0 (layout []), by unfold State.takes State.awake; decide +kernel⟩⟩

set_option maxRecDepth 100000 in
theorem wit_SequencerCommands :
    (∃ (s : State) (e : Entry) (n : Nat), s.takes calQuerySpec e (s.dev.seqThere (e.u 12 1))
      ∧ e.u 12 1 = n
      ∧ n ≤ 15)
    ∧ (∃ (s : State) (e : Entry) (b im : List Byte) (n : Nat), s.takes calLoadSpec e true
      ∧ (s.dev.entered e).input e = b
      ∧ b.drop 8 = im
      ∧ fieldAt b 0 1 = n
      ∧ 264 ≤ b.length
      ∧ n ≤ 15
      ∧ fieldAt b 1 7 = 0
      ∧ fwSeq n = false
      ∧ s.dev.seqFused n = false
      ∧ (s.dev.entered e).mayTake e.via (.seq n) = true
      ∧ e.inLen = 8 + rollLength im
      ∧ s.dev.flag R.CAL_LD_CTL_BUSY [] = false
      ∧ (s.dev.entered e).swapPending n = false
      ∧ (∀ w ∈ (s.dev.entered e).hst.badWords, overlaps (w * 8) 8 imageBuffer im.length = false))
    ∧ (∃ (s : State) (e : Entry) (n : Nat) (fs : List (Fld × Nat)), s.takes calSwapSpec e (s.dev.seqThere (e.u 12 1))
      ∧ e.u 12 1 = n
      ∧ e.u 13 1 ≤ 2
      ∧ e.u 14 2 < 4096
      ∧ e.u 18 46 = 0
      ∧ (s.dev.entered e).seqRefused e = 0
      ∧ s.dev.seqFused n = false
      ∧ s.dev.seqState n ≠ 4
      ∧ (s.dev.entered e).swapPending n = false
      ∧ fs = (if e.u 13 1 = 1 then [] else [(R.CAL_CTL_BANK, b2n (s.dev.standby n))]) ++ (R.CAL_CTL_ENTRY,
          e.u 14 2) :: (if e.u 13 1 = 2 then [(R.CAL_CTL_RUN, 1)] else [])
      ∧ (s.dev.entered e).takesChange e (e.u 16 2) [stageFields R.CAL_CTL [n] fs] = true)
    ∧ (∃ (s : State) (e : Entry) (n : Nat), s.takes calHaltSpec e (s.dev.seqThere (e.u 12 1))
      ∧ e.u 12 1 = n
      ∧ (s.dev.entered e).seqRefused e = 0)
    ∧ (∃ (s : State) (e : Entry) (n : Nat), s.takes calResumeSpec e (s.dev.seqThere (e.u 12 1))
      ∧ e.u 12 1 = n
      ∧ (s.dev.entered e).seqRefused e = 0
      ∧ s.dev.seqState n ≠ 4)
    ∧ (∃ (s : State) (e : Entry) (n : Nat), s.takes calResumeSpec e (s.dev.seqThere (e.u 12 1))
      ∧ e.u 12 1 = n
      ∧ (s.dev.entered e).seqRefused e = 0
      ∧ s.dev.seqState n = 4)
    ∧ (∃ (s : State) (e : Entry) (n : Nat), s.takes calClearSpec e (s.dev.seqThere (e.u 12 1))
      ∧ e.u 12 1 = n
      ∧ (s.dev.entered e).seqRefused e = 0)
    ∧ (∃ (s : State) (e : Entry), s.takes calAttachSpec e true
      ∧ e.u 12 1 = 15
      ∧ e.u 14 2 < 2 ^ 15
      ∧ e.u 16 1 ≤ 15
      ∧ e.u 13 1 = 0
      ∧ ((e.u 14 2 ≠ 0 → bit (e.u 14 2) (e.u 16 1) = true))
      ∧ ((∀ b, b < 15 → bit (e.u 14 2) b = true → s.dev.boothPresent b = true))
      ∧ (s.dev.seqState 15 = 0 ∨ s.dev.seqState 15 = 3))
    ∧ (∃ (s : State) (e : Entry), s.takes calAttachSpec e true
      ∧ 12 ≤ e.u 12 1
      ∧ e.u 12 1 ≤ 14)
    ∧ (∃ (s : State) (e : Entry) (n : Nat), s.takes calReleaseSpec e (s.dev.seqThere (e.u 12 1))
      ∧ e.u 12 1 = n
      ∧ (s.dev.entered e).seqRefused e = 0) :=
  ⟨⟨rung 0 0x200 (layout [(1,15)]), boot 0 (layout [(1,15)]), 15, by unfold State.takes State.awake; decide +kernel⟩,
    ⟨rungWith 1 0x201 (buffered aLoadOf 0) (windows), (buffered aLoadOf 0), aLoadOf, aRoll, 15, ⟨by unfold State.takes State.awake; decide +kernel,
        by decide +kernel, by decide +kernel, by decide +kernel, by decide +kernel, by decide, by decide +kernel, by decide, by decide +kernel,
        by decide +kernel, by decide +kernel, by decide +kernel, by decide +kernel, by decide +kernel⟩⟩,
    ⟨rung 1 0x202 (layout [(1,15),(1,2),(2,4095),(2,0)]) (fun d => d.own (.boot 0) (.seq 15)), boot 0 (layout [(1,15),(1,2),(2,4095),(2,0)]), 15,
        [(R.CAL_CTL_BANK, 1), (R.CAL_CTL_ENTRY, 4095), (R.CAL_CTL_RUN, 1)], by unfold State.takes State.awake; decide +kernel⟩,
    ⟨rung 1 0x203 (layout [(1,15)]), boot 0 (layout [(1,15)]), 15, by unfold State.takes State.awake; decide +kernel⟩,
    ⟨rung 1 0x204 (layout [(1,11)]), boot 0 (layout [(1,11)]), 11, by unfold State.takes State.awake; decide +kernel⟩,
    ⟨rung 1 0x204 (layout [(1,15)]) (fun d => d.put R.CAL_STAT_STATE [15] 4), boot 0 (layout [(1,15)]), 15,
        by unfold State.takes State.awake; decide +kernel⟩,
    ⟨rung 1 0x205 (layout [(1,15)]), boot 0 (layout [(1,15)]), 15, by unfold State.takes State.awake; decide +kernel⟩,
    ⟨rung 1 0x206 (layout [(1,15),(1,0),(2,0x7000),(1,14)]), boot 0 (layout [(1,15),(1,0),(2,0x7000),(1,14)]),
        by unfold State.takes State.awake; decide +kernel⟩,
    ⟨rung 1 0x206 (layout [(1,14),(1,0),(2,0),(1,0)]), boot 0 (layout [(1,14),(1,0),(2,0),(1,0)]), by unfold State.takes State.awake; decide +kernel⟩,
    ⟨rung 1 0x207 (layout [(1,8)]), boot 0 (layout [(1,8)]), 8, by unfold State.takes State.awake; decide +kernel⟩⟩

theorem wit_LaneCommands :
    (∃ (s : State) (e : Entry) (l : Nat), s.takes laneQuerySpec e (s.dev.laneThere (e.u 12 1))
      ∧ e.u 12 1 = l
      ∧ l ≤ 15)
    ∧ (∃ (s : State) (e : Entry) (l : Nat), s.takes laneConfigSpec e (s.dev.laneThere (e.u 12 1))
      ∧ e.u 12 1 = l
      ∧ l ≤ 15
      ∧ e.u 13 1 ≤ 5
      ∧ e.u 14 1 ≤ 15
      ∧ e.u 15 1 ≤ 5
      ∧ e.u 21 1 = 0
      ∧ e.u 28 24 = 0
      ∧ e.u 22 2 ≤ 1200
      ∧ 2 ≤ e.u 24 1
      ∧ e.u 24 1 ≤ 30
      ∧ e.u 25 1 ≤ 7
      ∧ e.u 26 2 ≤ 1023
      ∧ (match Device.ffeWanted e with | some t => tapsValid t | none => true) = true
      ∧ (s.dev.entered e).mayLane e.via l = true
      ∧ (s.dev.entered e).laneBusy l = false
      ∧ e.u 22 2 ≤ s.dev.get R.NET_LN_SWING_MAX [l])
    ∧ (∃ (s : State) (e : Entry) (l : Nat), s.takes laneTrainSpec e (s.dev.laneThere (e.u 12 1))
      ∧ e.u 12 1 = l
      ∧ l ≤ 15
      ∧ e.u 13 1 ≤ 4
      ∧ e.u 14 1 ≤ 4
      ∧ e.u 15 1 ≤ 1
      ∧ (s.dev.entered e).mayLane e.via l = true
      ∧ (s.dev.entered e).laneBusy l = false
      ∧ s.dev.flag R.NET_LN_TX_EN [l] = true
      ∧ (s.dev.flag R.LN_TX_TX_IDLE (lx l) = false ∨ (s.dev.txAdmitted l = true ∧ ((s.dev.entered e).lane l).cut = false)))
    ∧ (∃ (s : State) (e : Entry) (l : Nat), s.takes laneTrainSpec e (s.dev.laneThere (e.u 12 1))
      ∧ e.u 12 1 = l
      ∧ l ≤ 15
      ∧ e.u 13 1 ≤ 4
      ∧ e.u 14 1 ≤ 4
      ∧ e.u 15 1 ≤ 1
      ∧ (s.dev.entered e).mayLane e.via l = true
      ∧ (s.dev.entered e).laneBusy l = false
      ∧ s.dev.flag R.NET_LN_TX_EN [l] = true
      ∧ s.dev.flag R.LN_TX_TX_IDLE (lx l) = true
      ∧ (s.dev.txAdmitted l = false ∨ ((s.dev.entered e).lane l).cut = true))
    ∧ (∃ (s : State) (e : Entry) (l : Nat), s.takes laneAlignSpec e (s.dev.laneThere (e.u 12 1))
      ∧ e.u 12 1 = l
      ∧ l ≤ 15
      ∧ e.u 13 1 ≠ 0
      ∧ e.u 13 1 ≤ 15
      ∧ e.u 14 1 ≠ 0
      ∧ e.u 14 1 ≤ 15
      ∧ e.u 32 2 ≠ 0
      ∧ (s.dev.entered e).mayLane e.via l = true
      ∧ (s.dev.entered e).laneBusy l = false
      ∧ s.dev.flag R.LN_STAT_CDR_LOCK (lx l) = true)
    ∧ (∃ (s : State) (e : Entry) (l : Nat), s.takes laneIdleSpec e (s.dev.laneThere (e.u 12 1))
      ∧ e.u 12 1 = l
      ∧ l ≤ 15
      ∧ e.u 13 1 = 0
      ∧ (s.dev.entered e).mayLane e.via l = true)
    ∧ (∃ (s : State) (e : Entry) (l : Nat), s.takes laneIdleSpec e (s.dev.laneThere (e.u 12 1))
      ∧ e.u 12 1 = l
      ∧ l ≤ 15
      ∧ e.u 13 1 = 1
      ∧ (s.dev.entered e).mayLane e.via l = true
      ∧ s.dev.txAdmitted l = true)
    ∧ (∃ (s : State) (e : Entry) (l : Nat), s.takes laneLoopSpec e (s.dev.laneThere (e.u 12 1))
      ∧ e.u 12 1 = l
      ∧ l ≤ 15
      ∧ e.u 13 1 ≤ 3
      ∧ (s.dev.entered e).mayLane e.via l = true
      ∧ (s.dev.entered e).laneBusy l = false
      ∧ ((e.u 13 1 = 3 → s.dev.txAdmitted l = true)))
    ∧ (∃ (s : State) (e : Entry) (l : Nat), s.takes lanePrbsSpec e (s.dev.laneThere (e.u 12 1))
      ∧ e.u 12 1 = l
      ∧ l ≤ 15
      ∧ e.u 13 1 ≤ 5
      ∧ e.u 14 1 ≤ 7
      ∧ (s.dev.entered e).mayLane e.via l = true
      ∧ (s.dev.entered e).laneBusy l = false)
    ∧ (∃ (s : State) (e : Entry) (b : List Byte) (l : Nat), s.takes laneHistSpec e true
      ∧ (s.dev.entered e).input e = b
      ∧ fieldAt b 0 1 = l
      ∧ e.inLen = 2
      ∧ 264 ≤ e.outLen
      ∧ l ≤ 15
      ∧ s.dev.lanePresent l = true
      ∧ (s.dev.entered e).mayLane e.via l = true
      ∧ s.dev.flag R.LN_STAT_CDR_LOCK (lx l) = true)
    ∧ (∃ (s : State) (e : Entry) (l : Nat), s.takes laneCountersSpec e (s.dev.laneThere (e.u 12 1))
      ∧ e.u 12 1 = l
      ∧ l ≤ 15
      ∧ e.u 13 1 ≤ 1
      ∧ (s.dev.entered e).mayLane e.via l = true) :=
  ⟨⟨rung 0 0x400 (layout [(1,15)]), boot 0 (layout [(1,15)]), 15, by unfold State.takes State.awake; decide +kernel⟩,
    ⟨rung 1 0x401 (layout [(1,15),(1,5),(1,15),(1,4),(5,0),(1,0),(2,0),(1,30),(1,7),(2,1023)]) (fun d => d.put R.ID_PRESENT_PORT [] 255),
        boot 0 (layout [(1,15),(1,5),(1,15),(1,4),(5,0),(1,0),(2,0),(1,30),(1,7),(2,1023)]), 15, by unfold State.takes State.awake; decide +kernel⟩,
    ⟨rung 1 0x402 (layout [(1,15),(1,4),(1,4),(1,1),(2,0)]) (fun d => (d.put R.ID_PRESENT_PORT [] 255).setFlag R.NET_LN_TX_EN [15] true),
        boot 0 (layout [(1,15),(1,4),(1,4),(1,1),(2,0)]), 15, by unfold State.takes State.awake; decide +kernel⟩,
    ⟨rung 1 0x402 (layout [(1,0),(1,0),(1,0),(1,0),(2,0)]) (fun d => (((d.put R.ID_PRESENT_PORT [] 255).setFlag R.NET_LN_TX_EN [0] true).setFlag R.LN_TX_TX_IDLE (lx 0) true).put R.LN_TX_SWING (lx 0) 1),
        boot 0 (layout [(1,0),(1,0),(1,0),(1,0),(2,0)]), 0, by unfold State.takes State.awake; decide +kernel⟩,
    ⟨rung 2 0x403 (layout [(1,15),(1,15),(1,1),(1,0),(8,5),(8,6),(2,65535),(2,0)]) (fun d => (d.put R.ID_PRESENT_PORT [] 255).setFlag R.LN_STAT_CDR_LOCK (lx 15) true),
        boot 0 (layout [(1,15),(1,15),(1,1),(1,0),(8,5),(8,6),(2,65535),(2,0)]), 15, by unfold State.takes State.awake; decide +kernel⟩,
    ⟨rung 2 0x404 (layout [(1,15),(1,0)]) (fun d => d.put R.ID_PRESENT_PORT [] 255), boot 0 (layout [(1,15),(1,0)]), 15,
        by unfold State.takes State.awake; decide +kernel⟩,
    ⟨rung 2 0x404 (layout [(1,0),(1,1)]) (fun d => (d.put R.ID_PRESENT_PORT [] 255).setFlag R.NET_LN_TX_EN [0] true), boot 0 (layout [(1,0),(1,1)]),
        0, by unfold State.takes State.awake; decide +kernel⟩,
    ⟨rung 2 0x405 (layout [(1,15),(1,3)]) (fun d => (d.put R.ID_PRESENT_PORT [] 255).setFlag R.NET_LN_TX_EN [15] true),
        boot 0 (layout [(1,15),(1,3)]), 15, by unfold State.takes State.awake; decide +kernel⟩,
    ⟨rung 2 0x406 (layout [(1,15),(1,5),(1,7)]) (fun d => d.put R.ID_PRESENT_PORT [] 255), boot 0 (layout [(1,15),(1,5),(1,7)]), 15,
        by unfold State.takes State.awake; decide +kernel⟩,
    ⟨rungWith 0 0x407 (buffered [15, 30] 264) (fun d => ((windows d).put R.ID_PRESENT_PORT [] 255).setFlag R.LN_STAT_CDR_LOCK (lx 15) true),
        (buffered [15, 30] 264), [15, 30], 15, by unfold State.takes State.awake; decide +kernel⟩,
    ⟨rung 0 0x408 (layout [(1,15),(1,1)]) (fun d => d.put R.ID_PRESENT_PORT [] 255), boot 0 (layout [(1,15),(1,1)]), 15,
        by unfold State.takes State.awake; decide +kernel⟩⟩

theorem wit_PortCommands :
    (∃ (s : State) (e : Entry), s.takes portQuerySpec e (s.dev.portThere (e.u 12 1))
      ∧ e.u 12 1 ≤ 7
      ∧ s.dev.lent (e.u 12 1) = false)
    ∧ (∃ (s : State) (e : Entry) (p mode : Nat), s.takes portOpenSpec e (s.dev.portThere (e.u 12 1))
      ∧ e.u 12 1 = p
      ∧ e.u 13 1 = mode
      ∧ p ≤ 7
      ∧ mode ≤ 9
      ∧ e.u 14 1 ≤ 1
      ∧ e.u 15 1 ≤ 3
      ∧ bit (e.u 22 2) 15 = false
      ∧ e.u 44 20 = 0
      ∧ s.dev.lent p = false
      ∧ ((mode = 8 → p % 2 = 0 ∧ s.dev.mayBorrow p = true ∧ (s.dev.prtx (p + 1)).isOpen = false))
      ∧ (s.dev.prtx p).isOpen = false
      ∧ ((bit (e.u 15 1) 1 = true → bit (s.dev.get R.NET_PORTS_EMIT_OK []) p = true)))
    ∧ (∃ (s : State) (e : Entry) (p : Nat), s.takes portCloseSpec e (s.dev.portThere (e.u 12 1))
      ∧ e.u 12 1 = p
      ∧ (s.dev.entered e).portCheck e = stOK
      ∧ (s.dev.entered e).frameOpen p = false)
    ∧ (∃ (s : State) (e : Entry) (p m : Nat), s.takes portLinkSpec e (s.dev.portThere (e.u 12 1))
      ∧ e.u 12 1 = p
      ∧ s.dev.pmode p = m
      ∧ (s.dev.entered e).portCheck e = stOK
      ∧ m ≠ 0
      ∧ m ≤ 9
      ∧ ((modeVxl m = true → ∀ l ∈ s.dev.portLanes p, s.dev.flag R.NET_LN_TX_EN [l] = true)))
    ∧ (∃ (s : State) (e : Entry) (p k : Nat) (ws : List MaskedWrite), s.takes streamRxSpec e (s.dev.portThere (e.u 12 1))
      ∧ e.u 12 1 = p
      ∧ e.u 13 1 = k
      ∧ (s.dev.entered e).portCheck e = stOK
      ∧ k ≤ 63
      ∧ e.u 14 1 = 1
      ∧ e.u 15 1 ≤ 3
      ∧ e.u 16 1 ≤ 15
      ∧ e.u 17 1 ≤ 7
      ∧ e.u 54 1 ≤ 63
      ∧ e.u 55 1 = 0
      ∧ e.u 58 2 ≤ 4095
      ∧ e.u 60 4 = 0
      ∧ ws = [stageFields R.PP_SM_CTL [p, k] [(R.PP_SM_CTL_VALID, 1), (R.PP_SM_CTL_KIND, e.u 15 1), (R.PP_SM_CTL_SRC_MATCH, e.u 16 1 / 2 % 2),
          (R.PP_SM_CTL_VLAN_MATCH, e.u 16 1 / 4 % 2), (R.PP_SM_CTL_VID, e.u 58 2), (R.PP_SM_CTL_IPV6, e.u 16 1 % 2), (R.PP_SM_CTL_EXT_ID,
          e.u 16 1 / 8 % 2), (R.PP_SM_CTL_UDP_DST, e.u 18 2)], stageField R.PP_SM_DST_LO_DST [p, k] (e.u 20 8), stageField R.PP_SM_DST_HI_DST [p,
          k] (e.u 28 8), stageField R.PP_SM_SRC_LO_SRC [p, k] (e.u 36 8), stageField R.PP_SM_SRC_HI_SRC [p, k] (e.u 44 8),
          stageFields R.PP_SM_MERGE [p, k] [(R.PP_SM_MERGE_EN, e.u 17 1 % 2), (R.PP_SM_MERGE_SECONDARY, e.u 17 1 / 2 % 2), (R.PP_SM_MERGE_PAIR,
          e.u 17 1 / 4 % 2), (R.PP_SM_MERGE_PARTNER, e.u 54 1), (R.PP_SM_MERGE_HOLD, e.u 56 2)]]
      ∧ (s.dev.entered e).takesChange e (e.u 52 2) ws = true)
    ∧ (∃ (s : State) (e : Entry) (p k : Nat), s.takes streamRxSpec e (s.dev.portThere (e.u 12 1))
      ∧ e.u 12 1 = p
      ∧ e.u 13 1 = k
      ∧ (s.dev.entered e).portCheck e = stOK
      ∧ k ≤ 63
      ∧ e.u 14 1 = 0
      ∧ e.u 15 1 ≤ 3
      ∧ e.u 16 1 ≤ 15
      ∧ e.u 17 1 ≤ 7
      ∧ e.u 54 1 ≤ 63
      ∧ e.u 55 1 = 0
      ∧ e.u 58 2 ≤ 4095
      ∧ e.u 60 4 = 0
      ∧ (s.dev.entered e).takesChange e (e.u 52 2) [stageField R.PP_SM_CTL_VALID [p, k] 0] = true)
    ∧ (∃ (s : State) (e : Entry) (p : Nat), s.takes vxlCalibrateSpec e (s.dev.portThere (e.u 12 1))
      ∧ e.u 12 1 = p
      ∧ (s.dev.entered e).portCheck e = stOK
      ∧ s.dev.vxlUp p = true
      ∧ s.dev.hostRole p = true)
    ∧ (∃ (s : State) (e : Entry) (p : Nat), s.takes vxlRegSpec e (s.dev.portThere (e.u 12 1))
      ∧ e.u 12 1 = p
      ∧ (s.dev.entered e).portCheck e = stOK
      ∧ (e.u 13 1 = 1 ∨ e.u 13 1 = 2)
      ∧ 1 ≤ e.u 14 1
      ∧ e.u 14 1 ≤ 4
      ∧ e.u 16 8 % 4 = 0
      ∧ s.dev.vxlUp p = true)
    ∧ (∃ (s : State) (e : Entry) (p : Nat), s.takes ptpConfigSpec e (s.dev.portThere (e.u 12 1))
      ∧ e.u 12 1 = p
      ∧ (s.dev.entered e).portCheck e = stOK
      ∧ e.u 13 1 ≤ 63)
    ∧ (∃ (s : State) (e : Entry) (p : Nat), s.takes portCountersSpec e (s.dev.portThere (e.u 12 1))
      ∧ e.u 12 1 = p
      ∧ (s.dev.entered e).portCheck e = stOK
      ∧ e.u 13 1 ≤ 1)
    ∧ (∃ (s : State) (e : Entry) (p : Nat), s.takes portQuerySpec e (s.dev.portThere (e.u 12 1))
      ∧ e.u 12 1 = p
      ∧ p ≤ 7
      ∧ s.dev.lent p = true) :=
  ⟨⟨rung 0 0x500 (layout [(1,7)]) (fun d => d.put R.ID_PRESENT_PORT [] 255), boot 0 (layout [(1,7)]),
      by unfold State.takes State.awake; decide +kernel⟩,
    ⟨rung 1 0x501 (layout [(1,6),(1,8),(1,1),(1,1),(6,5),(2,0x7FFF),(4,1),(16,7)]) (fun d => (d.put R.ID_PRESENT_PORT [] 255)),
        boot 0 (layout [(1,6),(1,8),(1,1),(1,1),(6,5),(2,0x7FFF),(4,1),(16,7)]), 6, 8, by unfold State.takes State.awake; decide +kernel⟩,
    ⟨rung 1 0x502 (layout [(1,7)]) (fun d => d.put R.ID_PRESENT_PORT [] 255), boot 0 (layout [(1,7)]), 7,
        by unfold State.takes State.awake; decide +kernel⟩,
    ⟨rung 1 0x503 (layout [(1,7),(1,0),(2,65535)]) (fun d => (d.put R.ID_PRESENT_PORT [] 255).put R.PP_CTL_MODE [7] 1),
        boot 0 (layout [(1,7),(1,0),(2,65535)]), 7, 1, by unfold State.takes State.awake; decide +kernel⟩,
    ⟨rung 1 0x504 (layout [(1,7),(1,63),(1,1),(1,3),(1,15),(1,7),(2,5004),(16,1),(16,2),(2,0),(1,63),(1,0),(2,9),(2,4095)]) (fun d => d.put R.ID_PRESENT_PORT [] 255),
        boot 0 (layout [(1,7),(1,63),(1,1),(1,3),(1,15),(1,7),(2,5004),(16,1),(16,2),(2,0),(1,63),(1,0),(2,9),(2,4095)]), 7, 63, _,
        ⟨by unfold State.takes State.awake; decide +kernel, by decide +kernel, by decide +kernel, by decide +kernel, by decide, by decide +kernel,
        by decide +kernel, by decide +kernel, by decide +kernel, by decide +kernel, by decide +kernel, by decide +kernel, by decide +kernel, rfl,
        by decide +kernel⟩⟩,
    ⟨rung 1 0x504 (layout [(1,7),(1,63),(1,0),(1,3),(1,15),(1,7),(2,5004),(16,1),(16,2),(2,0),(1,63),(1,0),(2,9),(2,4095)]) (fun d => d.put R.ID_PRESENT_PORT [] 255),
        boot 0 (layout [(1,7),(1,63),(1,0),(1,3),(1,15),(1,7),(2,5004),(16,1),(16,2),(2,0),(1,63),(1,0),(2,9),(2,4095)]), 7, 63,
        by unfold State.takes State.awake; decide +kernel⟩,
    ⟨rung 1 0x505 (layout [(1,7),(1,0)]) (fun d => linkUp (d.put R.ID_PRESENT_PORT [] 255)), boot 0 (layout [(1,7),(1,0)]), 7,
        by unfold State.takes State.awake; decide +kernel⟩,
    ⟨rung 1 0x506 (layout [(1,7),(1,2),(1,4),(1,0),(8,4),(16,1)]) (fun d => linkUp (d.put R.ID_PRESENT_PORT [] 255)),
        boot 0 (layout [(1,7),(1,2),(1,4),(1,0),(8,4),(16,1)]), 7, by unfold State.takes State.awake; decide +kernel⟩,
    ⟨rung 1 0x507 (layout [(1,7),(1,63)]) (fun d => d.put R.ID_PRESENT_PORT [] 255), boot 0 (layout [(1,7),(1,63)]), 7,
        by unfold State.takes State.awake; decide +kernel⟩,
    ⟨rung 1 0x508 (layout [(1,7),(1,1)]) (fun d => d.put R.ID_PRESENT_PORT [] 255), boot 0 (layout [(1,7),(1,1)]), 7,
        by unfold State.takes State.awake; decide +kernel⟩,
    ⟨rung 1 0x500 (layout [(1,7)]) (fun d => (d.put R.ID_PRESENT_PORT [] 255).put R.PP_CTL_MODE [6] 8), boot 0 (layout [(1,7)]), 7,
        ⟨by unfold State.takes State.awake; decide +kernel, by decide +kernel, by decide, by decide +kernel⟩⟩⟩

theorem wit_CaptureCommands :
    (∃ (s : State) (e : Entry) (ix : List Nat), s.takes capQuerySpec e (s.dev.portThere (e.u 12 1))
      ∧ ix = [e.u 12 1, e.u 13 1]
      ∧ e.u 12 1 ≤ 7
      ∧ e.u 13 1 ≤ 63
      ∧ s.dev.lent (e.u 12 1) = false)
    ∧ (∃ (s : State) (e : Entry) (t : Device) (p f lines size : Nat) (x : Alloc) (ws : List MaskedWrite),
        s.takes capStreamSpec e (s.dev.portThere (e.u 12 1))
      ∧ e.u 12 1 = p
      ∧ e.u 14 1 = f
      ∧ e.u 24 4 = lines
      ∧ slotBytes (roundUp (e.u 20 4) 64) lines = size
      ∧ (s.dev.entered e).capCheck e = stOK
      ∧ f ≤ 2
      ∧ e.u 15 1 ≤ 63
      ∧ e.u 20 4 ≠ 0
      ∧ e.u 20 4 ≤ 262144
      ∧ lines ≠ 0
      ∧ lines ≤ (if f = 2 then 1048576 else 65536)
      ∧ e.u 32 2 ≠ 0
      ∧ e.u 32 2 ≤ 1024
      ∧ e.u 34 1 ≤ 31
      ∧ e.u 40 4 ≤ 4294967
      ∧ generalQueue (e.u 44 4) = true
      ∧ e.u 51 1 = 0
      ∧ (pixFmt (e.u 16 4)).isSome = true
      ∧ (s.dev.entered e).mayQueue e.via (e.u 44 4) = true
      ∧ (s.dev.entered e).allocFor e (e.u 28 4) 1 = (0, some x)
      ∧ e.u 32 2 * size ≤ x.size
      ∧ ((f = 1 → ((s.dev.entered e).seq p).hostRoll = false ∧ s.dev.flag R.CAL_LD_CTL_BUSY [] = false ∧ (s.dev.entered e).swapPending p = false))
      ∧ (if f = 1 then (s.dev.entered e).loadRoll p (captureRoll p (e.u 13 1) (e.u 50 1) lines (e.u 36 4)) else s.dev.entered e) = t
      ∧ ws = capWrites e x.off ++ (if f = 1 then [stageFields R.CAL_CTL [p] [(R.CAL_CTL_BANK, b2n (t.standby p)), (R.CAL_CTL_ENTRY, 0),
          (R.CAL_CTL_RUN, 1)]] else [])
      ∧ t.takesChange e (e.u 48 2) ws = true)
    ∧ (∃ (s : State) (e : Entry) (ws : List MaskedWrite), s.takes capEnableSpec e (s.dev.portThere (e.u 12 1))
      ∧ (s.dev.entered e).capCheck e = stOK
      ∧ e.u 14 1 ≤ 1
      ∧ ws = [stageField R.CAP_SC_CTL_EN [e.u 12 1, e.u 13 1] (e.u 14 1)]
      ∧ (s.dev.entered e).takesChange e (e.u 16 2) ws = true)
    ∧ (∃ (s : State) (e : Entry) (p k : Nat) (g : Bool), s.takes capReleaseSpec e (s.dev.portThere (e.u 12 1))
      ∧ e.u 12 1 = p
      ∧ e.u 13 1 = k
      ∧ bit (e.u 14 2) 15 = g
      ∧ (s.dev.entered e).capCheck e = stOK
      ∧ bits (e.u 14 2) 10 5 = 0
      ∧ s.dev.flag R.CAP_SC_Q_DIRECT [p, k] = true
      ∧ (s.dev.entered e).slotState p k g (e.u 14 2 % 1024) = 2)
    ∧ (∃ (s : State) (e : Entry) (p k : Nat), s.takes capCountersSpec e (s.dev.portThere (e.u 12 1))
      ∧ e.u 12 1 = p
      ∧ e.u 13 1 = k
      ∧ (s.dev.entered e).capCheck e = stOK
      ∧ e.u 14 1 ≤ 1)
    ∧ (∃ (s : State) (e : Entry), s.takes capQuerySpec e (s.dev.portThere (e.u 12 1))
      ∧ e.u 12 1 ≤ 7
      ∧ e.u 13 1 ≤ 63
      ∧ s.dev.lent (e.u 12 1) = true) :=
  ⟨⟨rung 0 0x600 (layout [(1,7),(1,63)]) (fun d => d.put R.ID_PRESENT_PORT [] 255), boot 0 (layout [(1,7),(1,63)]), [7, 63],
      by unfold State.takes State.awake; decide +kernel⟩,
    ⟨rung 1 0x601 (layout [(1,7),(1,63),(1,2),(1,63),(4,aPixFmt),(4,64),(4,1),(4,1),(2,1),(1,31),(1,0),(4,0),(4,4294967),(4,1048575),(2,0),(1,0),(1,0)]) (fun d => (d.put R.ID_PRESENT_PORT [] 255).setCtl { d.ctl with allocs := [anAlloc 1] }),
        boot 0 (layout [(1,7),(1,63),(1,2),(1,63),(4,aPixFmt),(4,64),(4,1),(4,1),(2,1),(1,31),(1,0),(4,0),(4,4294967),(4,1048575),(2,0),(1,0),(1,0)]),
        _, 7, 2, 1, 65536, anAlloc 1, _, ⟨by unfold State.takes State.awake; decide +kernel, by decide +kernel, by decide +kernel, by decide +kernel,
        by decide +kernel, by decide +kernel, by decide, by decide +kernel, by decide +kernel, by decide +kernel, by decide, by decide +kernel,
        by decide +kernel, by decide +kernel, by decide +kernel, by decide +kernel, by decide +kernel, by decide +kernel, by decide +kernel,
        by decide +kernel, by decide +kernel, by decide +kernel, by decide, rfl, rfl, by decide +kernel⟩⟩,
    ⟨rung 1 0x602 (layout [(1,7),(1,63),(1,1),(1,0),(2,0)]) (fun d => d.put R.ID_PRESENT_PORT [] 255),
        boot 0 (layout [(1,7),(1,63),(1,1),(1,0),(2,0)]), [stageField R.CAP_SC_CTL_EN [7, 63] 1], by unfold State.takes State.awake; decide +kernel⟩,
    ⟨rung 1 0x603 (layout [(1,7),(1,63),(2,0x8000)]) (fun d => ((d.put R.ID_PRESENT_PORT [] 255).setFlag R.CAP_SC_Q_DIRECT [7,
        63] true).setSlotState 7 63 true 0 2), boot 0 (layout [(1,7),(1,63),(2,0x8000)]), 7, 63, true,
        by unfold State.takes State.awake; decide +kernel⟩,
    ⟨rung 1 0x604 (layout [(1,7),(1,63),(1,1)]) (fun d => d.put R.ID_PRESENT_PORT [] 255), boot 0 (layout [(1,7),(1,63),(1,1)]), 7, 63,
        by unfold State.takes State.awake; decide +kernel⟩,
    ⟨rung 1 0x600 (layout [(1,7),(1,63)]) (fun d => (d.put R.ID_PRESENT_PORT [] 255).put R.PP_CTL_MODE [6] 8), boot 0 (layout [(1,7),(1,63)]),
        ⟨by unfold State.takes State.awake; decide +kernel, by decide +kernel, by decide +kernel, by decide +kernel⟩⟩⟩

theorem wit_SealCommands :
    (∃ (s : State) (e : Entry) (b : List Byte) (size : Nat) (x : Alloc) (ws : List MaskedWrite), s.takes swConfigSpec e true
      ∧ (s.dev.entered e).input e = b
      ∧ e.inLen = 64
      ∧ roundUp (s.dev.recordBytes (fieldAt b 0 1) (fieldAt b 2 1) (fieldAt b 4 1)) 65536 = size
      ∧ (s.dev.entered e).swCheck e (fieldAt b 0 1) (fieldAt b 1 1) = 0
      ∧ fieldAt b 2 1 ≤ 63
      ∧ fieldAt b 3 1 ≤ 31
      ∧ fieldAt b 4 1 ≤ 3
      ∧ fieldAt b 5 1 ≤ 4
      ∧ fieldAt b 14 2 ≤ 1024
      ∧ fieldAt b 28 4 < 2 ^ 24
      ∧ fieldAt b 32 8 < 2 ^ 48
      ∧ fieldAt b 40 8 < 2 ^ 48
      ∧ fieldAt b 59 1 = 0
      ∧ fieldAt b 62 2 = 0
      ∧ (s.dev.entered e).allocFor e (fieldAt b 16 4) 3 = (0, some x)
      ∧ 2 * fieldAt b 14 2 * size ≤ x.size
      ∧ ((bit (fieldAt b 3 1) 4 = true → fieldAt b 56 2 ≠ 0 ∧ (s.dev.entered e).netAdmits false true .queue (fieldAt b 48 8) (fieldAt b 56 2 * size) = true))
      ∧ ws = swWrites b x.off size
      ∧ (s.dev.entered e).takesChange e (fieldAt b 6 2) ws = true)
    ∧ (∃ (s : State) (e : Entry) (p c k : Nat) (x : Alloc) (ws : List MaskedWrite), s.takes swReferenceSpec e (s.dev.portThere (e.u 12 1))
      ∧ e.u 12 1 = p
      ∧ e.u 13 1 = c
      ∧ (s.dev.entered e).swCheck e p c = 0
      ∧ e.u 14 1 = 0
      ∧ e.u 15 1 = 0
      ∧ (s.dev.entered e).allocFor e (e.u 20 4) 2 = (0, some x)
      ∧ s.dev.get R.SW_CX_CTL_STREAM [p, c] = k
      ∧ e.u 32 4 % 64 = 0
      ∧ s.dev.get R.CAP_SC_FMT_LINE_LEN [p, k] ≤ e.u 32 4
      ∧ e.u 32 4 ≤ 262144
      ∧ e.u 36 4 ≠ 0
      ∧ e.u 36 4 ≤ 1048576
      ∧ e.u 24 8 % 64 = 0
      ∧ e.u 24 8 + e.u 32 4 * e.u 36 4 ≤ x.size
      ∧ ws = [stageField R.SW_CX_REF_REF_BASE [p, c] (x.off + e.u 24 8), stageFields R.SW_CX_REFG [p, c] [(R.SW_CX_REFG_REF_STRIDE, e.u 32 4 / 64),
          (R.SW_CX_REFG_REF_LINES, e.u 36 4)], stageField R.SW_CX_CTL_REF_VALID [p, c] 1]
      ∧ (s.dev.entered e).takesChange e (e.u 16 2) ws = true)
    ∧ (∃ (s : State) (e : Entry) (p c : Nat) (ws : List MaskedWrite), s.takes swReferenceSpec e (s.dev.portThere (e.u 12 1))
      ∧ e.u 12 1 = p
      ∧ e.u 13 1 = c
      ∧ (s.dev.entered e).swCheck e p c = 0
      ∧ e.u 14 1 = 1
      ∧ e.u 15 1 = 0
      ∧ ws = [stageField R.SW_CX_CTL_REF_VALID [p, c] 0]
      ∧ (s.dev.entered e).takesChange e (e.u 16 2) ws = true)
    ∧ (∃ (s : State) (e : Entry) (p c k m : Nat) (ws : List MaskedWrite), s.takes swRegionSpec e (s.dev.portThere (e.u 12 1))
      ∧ e.u 12 1 = p
      ∧ e.u 13 1 = c
      ∧ e.u 14 1 = k
      ∧ (s.dev.entered e).swCheck e p c = 0
      ∧ k ≤ 15
      ∧ e.u 15 1 ≤ 1
      ∧ e.u 20 4 ≤ 65535
      ∧ e.u 24 4 ≤ 65535
      ∧ m = 2 ^ (R.SW_CX_CTL_ROI_EN.lo + k)
      ∧ ws = [stageFields R.SW_CX_ROI [p, c, k] [(R.SW_CX_ROI_X0, e.u 16 2), (R.SW_CX_ROI_Y0, e.u 18 2), (R.SW_CX_ROI_W, e.u 20 4), (R.SW_CX_ROI_H,
          e.u 24 4)], { addr := R.SW_CX_CTL.addr [p, c], mask := BitVec.ofNat 64 m, value := BitVec.ofNat 64 (e.u 15 1 * m) }]
      ∧ (s.dev.entered e).takesChange e (e.u 28 2) ws = true)
    ∧ (∃ (s : State) (e : Entry) (b : List Byte) (p c k n sl : Nat) (g : Bool), s.takes swResultSpec e true
      ∧ (s.dev.entered e).input e = b
      ∧ e.inLen = 4
      ∧ fieldAt b 0 1 = p
      ∧ fieldAt b 1 1 = c
      ∧ fieldAt b 2 2 % 1024 = sl
      ∧ bit (fieldAt b 2 2) 15 = g
      ∧ bits (fieldAt b 2 2) 10 5 = 0
      ∧ (s.dev.entered e).swCheck e p c = 0
      ∧ s.dev.get R.SW_CX_CTL_STREAM [p, c] = k
      ∧ s.dev.recordBytes p k (s.dev.get R.SW_CX_CTL_MAP_SHIFT [p, c]) = n
      ∧ n ≤ e.outLen
      ∧ (s.dev.entered e).slotState p k g sl = 2)
    ∧ (∃ (s : State) (e : Entry) (p : Nat) (ws : List MaskedWrite), s.takes mdConfigSpec e true
      ∧ e.u 12 1 = p
      ∧ bit (e.u 13 1) 0 = false
      ∧ e.u 13 1 ≤ 3
      ∧ e.u 26 2 = 0
      ∧ e.u 42 2 = 0
      ∧ p ≠ 0xFF
      ∧ p ≤ 7
      ∧ s.dev.portPresent p = true
      ∧ s.dev.lent p = false
      ∧ (s.dev.entered e).mayPort e.via p = true
      ∧ ws = [stageField R.MS_SEAL_EN_EN [p] (e.u 16 8)]
      ∧ (s.dev.entered e).takesChange e (e.u 40 2) ws = true)
    ∧ (∃ (s : State) (e : Entry) (p : Nat) (x : Alloc) (ws : List MaskedWrite), s.takes mdConfigSpec e true
      ∧ e.u 12 1 = p
      ∧ bit (e.u 13 1) 0 = true
      ∧ e.u 13 1 ≤ 3
      ∧ e.u 26 2 = 0
      ∧ e.u 42 2 = 0
      ∧ ((p ≠ 0xFF → p ≤ 7 ∧ s.dev.portPresent p = true ∧ s.dev.lent p = false ∧ (s.dev.entered e).mayPort e.via p = true))
      ∧ mdForm e = true
      ∧ e.via.principal = true
      ∧ s.dev.alloc (e.u 32 4) = some x
      ∧ e.u 14 1 * manifestSlot ≤ x.size
      ∧ (s.dev.entered e).netAdmits false true .queue (e.u 44 8) (e.u 15 1 * manifestSlot) = true
      ∧ ws = mdWrites e x.off ++ (if p = 0xFF then [] else [stageField R.MS_SEAL_EN_EN [p] (e.u 16 8)])
      ∧ (s.dev.entered e).takesChange e (e.u 40 2) ws = true)
    ∧ (∃ (s : State) (e : Entry), s.takes mdFlushSpec e true
      ∧ s.dev.sealUp = true
      ∧ s.dev.flag R.MB_CTL_EN [] = true
      ∧ (s.dev.entered e).mb.deferred = none)
    ∧ (∃ (s : State) (e : Entry), s.takes mdStatementSpec e true
      ∧ 288 ≤ e.outLen
      ∧ s.dev.flag R.MB_STAT_KEY_READY [] = true)
    ∧ (∃ (s : State) (e : Entry), s.takes mdQuerySpec e true) :=
  ⟨⟨rungWith 1 0x700 (buffered (fit 64 (layout [(1, 7), (1, 7), (1, 63), (1, 17), (1, 3), (1, 4), (2, 0), (8, 0), (4, 1)] ++ zeros 28 ++ layout [(8,
      4096), (2, 1)])) 0) (fun d => ((windows d).put R.ID_PRESENT_PORT [] 255).setCtl { d.ctl with allocs := [anAlloc 3] }),
      (buffered (fit 64 (layout [(1, 7), (1, 7), (1, 63), (1, 17), (1, 3), (1, 4), (2, 0), (8, 0), (4, 1)] ++ zeros 28 ++ layout [(8, 4096), (2,
      1)])) 0), fit 64 (layout [(1, 7), (1, 7), (1, 63), (1, 17), (1, 3), (1, 4), (2, 0), (8, 0), (4, 1)] ++ zeros 28 ++ layout [(8, 4096), (2, 1)]),
      65536, anAlloc 3, swWrites (fit 64 (layout [(1, 7), (1, 7), (1, 63), (1, 17), (1, 3), (1, 4), (2, 0), (8, 0), (4,
      1)] ++ zeros 28 ++ layout [(8, 4096), (2, 1)])) genBase 65536, by unfold State.takes State.awake; decide +kernel⟩,
    ⟨rung 1 0x701 (layout [(1,7),(1,7),(1,0),(1,0),(2,0),(2,0),(4,1),(8,64),(4,64),(4,1048576)]) (fun d => (d.put R.ID_PRESENT_PORT [] 255).setCtl { d.ctl with allocs := [anAlloc 2] }),
        boot 0 (layout [(1,7),(1,7),(1,0),(1,0),(2,0),(2,0),(4,1),(8,64),(4,64),(4,1048576)]), 7, 7, 0, anAlloc 2,
        [stageField R.SW_CX_REF_REF_BASE [7, 7] (genBase + 64), stageFields R.SW_CX_REFG [7, 7] [(R.SW_CX_REFG_REF_STRIDE, 1),
        (R.SW_CX_REFG_REF_LINES, 1048576)], stageField R.SW_CX_CTL_REF_VALID [7, 7] 1], by unfold State.takes State.awake; decide +kernel⟩,
    ⟨rung 1 0x701 (layout [(1,7),(1,7),(1,1),(1,0),(2,0),(2,0),(4,1),(8,64),(4,64),(4,1048576)]) (fun d => d.put R.ID_PRESENT_PORT [] 255),
        boot 0 (layout [(1,7),(1,7),(1,1),(1,0),(2,0),(2,0),(4,1),(8,64),(4,64),(4,1048576)]), 7, 7, [stageField R.SW_CX_CTL_REF_VALID [7, 7] 0],
        by unfold State.takes State.awake; decide +kernel⟩,
    ⟨rung 1 0x702 (layout [(1,7),(1,7),(1,15),(1,1),(2,5),(2,6),(4,65535),(4,1),(2,0)]) (fun d => d.put R.ID_PRESENT_PORT [] 255),
        boot 0 (layout [(1,7),(1,7),(1,15),(1,1),(2,5),(2,6),(4,65535),(4,1),(2,0)]), 7, 7, 15, 2 ^ (R.SW_CX_CTL_ROI_EN.lo + 15),
        [stageFields R.SW_CX_ROI [7, 7, 15] [(R.SW_CX_ROI_X0, 5), (R.SW_CX_ROI_Y0, 6), (R.SW_CX_ROI_W, 65535), (R.SW_CX_ROI_H, 1)],
        { addr := R.SW_CX_CTL.addr [7, 7], mask := BitVec.ofNat 64 (2 ^ (R.SW_CX_CTL_ROI_EN.lo + 15)), value := BitVec.ofNat 64 (2 ^ (R.SW_CX_CTL_ROI_EN.lo + 15)) }],
        by unfold State.takes State.awake; decide +kernel⟩,
    ⟨rungWith 1 0x703 (buffered [7, 7, 0, 128] 65536) (fun d => ((windows d).put R.ID_PRESENT_PORT [] 255).setSlotState 7 0 true 0 2), (buffered [7,
        7, 0, 128] 65536), [7, 7, 0, 128], 7, 7, 0, 50944, 0, true, by unfold State.takes State.awake; decide +kernel⟩,
    ⟨rung 1 0x704 (layout [(1,7),(1,0),(2,0),(8,1),(8,0),(4,0),(4,0),(2,0),(2,0),(4,0),(4,0)]) (fun d => d.put R.ID_PRESENT_PORT [] 255),
        boot 0 (layout [(1,7),(1,0),(2,0),(8,1),(8,0),(4,0),(4,0),(2,0),(2,0),(4,0),(4,0)]), 7, [stageField R.MS_SEAL_EN_EN [7] 1],
        by unfold State.takes State.awake; decide +kernel⟩,
    ⟨rung 1 0x704 (layout [(1,7),(1,3),(1,64),(1,1),(8,1),(2,8192),(2,0),(4,0),(4,1),(4,1024),(2,0),(2,0),(8,4096)]) (fun d => ((windows d).put R.ID_PRESENT_PORT [] 255).setCtl { d.ctl with allocs := [anAlloc 0] }),
        boot 0 (layout [(1,7),(1,3),(1,64),(1,1),(8,1),(2,8192),(2,0),(4,0),(4,1),(4,1024),(2,0),(2,0),(8,4096)]), 7, anAlloc 0, _,
        ⟨by unfold State.takes State.awake; decide +kernel, by decide +kernel, by decide +kernel, by decide +kernel, by decide +kernel,
        by decide +kernel, by decide +kernel, by decide +kernel, by decide +kernel, by decide +kernel, by decide +kernel, by decide +kernel, rfl,
        by decide +kernel⟩⟩,
    ⟨rung 1 0x705 (layout []) (fun d => d.setFlag R.MB_CTL_EN [] true), boot 0 (layout []), by unfold State.takes State.awake; decide +kernel⟩,
    ⟨rungWith 1 0x706 (buffered [] 288) (fun d => (windows d).setFlag R.MB_STAT_KEY_READY [] true), (buffered [] 288),
        by unfold State.takes State.awake; decide +kernel⟩,
    ⟨rung 0 0x707 (layout []), boot 0 (layout []), by unfold State.takes State.awake; decide +kernel⟩⟩

theorem wit_PaletteCommands :
    (∃ (s : State) (e : Entry) (ix : List Nat), s.takes palQuerySpec e (s.dev.emitThere (e.u 12 1))
      ∧ ix = [e.u 12 1, e.u 13 1]
      ∧ e.u 12 1 ≤ 7
      ∧ e.u 13 1 ≤ 3
      ∧ s.dev.lent (e.u 12 1) = false)
    ∧ (∃ (s : State) (e : Entry) (b : List Byte) (p c : Nat) (ws : List MaskedWrite) (n : Device), s.takes palConfigSpec e true
      ∧ (s.dev.entered e).input e = b
      ∧ e.inLen = 256
      ∧ fieldAt b 0 1 = p
      ∧ fieldAt b 1 1 = c
      ∧ (s.dev.entered e).palCheck e.via p c = 0
      ∧ fieldAt b 8 8 ≤ 3
      ∧ (stageImage (R.PAL_CH_CTL.addr [p, c]) (palImage (fit 240 (b.drop 16)) (fieldAt b 8 8))).map (fun w => if w.addr = R.PAL_CH_CTL.addr [p,
          c] then { w with mask := w.mask &&& ~~~ R.PAL_CH_CTL_EN.mask, value := w.value &&& ~~~ R.PAL_CH_CTL_EN.mask } else w) = ws
      ∧ (s.dev.entered e).overlay ws = n
      ∧ ((n.get R.PAL_CH_CTL_SRC [p, c] = 0 → ∃ x, (s.dev.entered e).allocFor e (fieldAt b 4 4) 1 = (0,
          some x) ∧ x.off ≤ n.get R.PAL_CH_SRC_SRC_BASE [p, c] ∧ n.get R.PAL_CH_SRC_SRC_BASE [p, c] + (n.get R.PAL_CH_SRCG_SRC_FRAMES [p,
          c] + 1) * (n.get R.PAL_CH_SRCG_FSIZE [p, c] * 65536) ≤ x.off + x.size))
      ∧ kindMode (n.palKind p c) (s.dev.pmode p) = true
      ∧ n.palRateFits p = true
      ∧ (s.dev.entered e).takesChange e (fieldAt b 2 2) ws = true)
    ∧ (∃ (s : State) (e : Entry) (p c : Nat) (ws : List MaskedWrite), s.takes palEnableSpec e (s.dev.emitThere (e.u 12 1))
      ∧ e.u 12 1 = p
      ∧ e.u 13 1 = c
      ∧ (s.dev.entered e).palCheck e.via p c = 0
      ∧ e.u 14 1 ≤ 1
      ∧ e.u 15 1 ≤ 3
      ∧ ws = (if bit (e.u 15 1) 0 then [stageField R.PAL_CH_START_START [p, c] (e.u 24 8)] else []) ++ [stageField R.PAL_CH_CTL_EN [p, c] (e.u 14 1)]
      ∧ (s.dev.entered e).takesChange e (e.u 16 2) ws = true)
    ∧ (∃ (s : State) (e : Entry) (p c : Nat) (ws : List MaskedWrite) (n : Nat → Nat → MaskedWrite),
        s.takes palInjectSpec e (s.dev.emitThere (e.u 12 1))
      ∧ e.u 12 1 = p
      ∧ e.u 13 1 = c
      ∧ (s.dev.entered e).palCheck e.via p c = 0
      ∧ e.u 14 1 ≤ 63
      ∧ e.u 15 1 ≤ 63
      ∧ e.u 16 1 ≤ 1
      ∧ e.u 17 3 = 0
      ∧ e.u 20 4 < 2 ^ 31
      ∧ e.u 24 8 < 2 ^ 40
      ∧ e.u 56 8 = 0
      ∧ (∀ k v, n k v = stageFields R.PAL_CH_INJ [p, c, k] ((R.PAL_CH_INJ_INTERVAL, v) :: (if k = 5 then [(R.PAL_CH_INJ_LATE_NS, e.u 52 2)] else [])))
      ∧ ws = [stageFields R.PAL_CH_INJ_CTL [p, c] [(R.PAL_CH_INJ_CTL_KINDS, e.u 14 1), (R.PAL_CH_INJ_CTL_RANDOM, e.u 15 1), (R.PAL_CH_INJ_CTL_TARGET,
          e.u 16 1), (R.PAL_CH_INJ_CTL_INJ_SEED, e.u 20 4)], n 0 (e.u 24 8), n 1 (e.u 32 4), n 2 (e.u 36 4), n 3 (e.u 40 4), n 4 (e.u 44 4),
          n 5 (e.u 48 4)]
      ∧ (s.dev.entered e).takesChange e (e.u 54 2) ws = true)
    ∧ (∃ (s : State) (e : Entry) (p l : Nat) (ws : List MaskedWrite), s.takes palSkewSpec e (s.dev.emitThere (e.u 12 1))
      ∧ e.u 12 1 = p
      ∧ e.u 13 1 = l
      ∧ (s.dev.entered e).palCheck e.via p l = 0
      ∧ e.u 14 1 ≤ 64
      ∧ ws = [stageField R.PAL_SKEW_WORDS [p, l] (e.u 14 1)]
      ∧ (s.dev.entered e).takesChange e (e.u 16 2) ws = true)
    ∧ (∃ (s : State) (e : Entry) (b : List Byte) (p c : Nat), s.takes palGvcpImageSpec e true
      ∧ (s.dev.entered e).input e = b
      ∧ 9 ≤ e.inLen
      ∧ e.inLen ≤ 65544
      ∧ fieldAt b 0 1 = p
      ∧ fieldAt b 1 1 = c
      ∧ fieldAt b 2 6 = 0
      ∧ (s.dev.entered e).palCheck e.via p c = 0)
    ∧ (∃ (s : State) (e : Entry) (p c : Nat), s.takes palCountersSpec e (s.dev.emitThere (e.u 12 1))
      ∧ e.u 12 1 = p
      ∧ e.u 13 1 = c
      ∧ (s.dev.entered e).palCheck e.via p c = 0
      ∧ e.u 14 1 ≤ 1)
    ∧ (∃ (s : State) (e : Entry), s.takes palQuerySpec e (s.dev.emitThere (e.u 12 1))
      ∧ e.u 12 1 ≤ 7
      ∧ e.u 13 1 ≤ 3
      ∧ s.dev.lent (e.u 12 1) = true) :=
  ⟨⟨rung 0 0x800 (layout [(1,7),(1,3)]) (fun d => d.put R.ID_PRESENT_PORT [] 255), boot 0 (layout [(1,7),(1,3)]), [7, 3],
      by unfold State.takes State.awake; decide +kernel⟩,
    ⟨rungWith 1 0x801 (buffered palBytes 0) (fun d => linkUp ((windows d).put R.ID_PRESENT_PORT [] 255)), (buffered palBytes 0), palBytes, 7, 3, _, _,
        ⟨by unfold State.takes State.awake; decide +kernel, by decide +kernel, by decide +kernel, by decide +kernel, by decide +kernel,
        by decide +kernel, by decide +kernel, rfl, rfl, fun h => absurd h (by decide +kernel), by decide +kernel, by decide +kernel,
        by decide +kernel⟩⟩,
    ⟨rung 1 0x802 (layout [(1,7),(1,3),(1,1),(1,3),(2,0),(2,0),(4,0),(8,5),(8,9)]) (fun d => d.put R.ID_PRESENT_PORT [] 255),
        boot 0 (layout [(1,7),(1,3),(1,1),(1,3),(2,0),(2,0),(4,0),(8,5),(8,9)]), 7, 3, [stageField R.PAL_CH_START_START [7, 3] 5,
        stageField R.PAL_CH_CTL_EN [7, 3] 1], by unfold State.takes State.awake; decide +kernel⟩,
    ⟨rung 1 0x803 (layout [(1,7),(1,3),(1,63),(1,63),(1,1),(3,0),(4,0x7FFFFFFF),(8,0xFFFFFFFFFF),(4,1),(4,2),(4,3),(4,4),(4,5),(2,6),(2,0)]) (fun d => d.put R.ID_PRESENT_PORT [] 255),
        boot 0 (layout [(1,7),(1,3),(1,63),(1,63),(1,1),(3,0),(4,0x7FFFFFFF),(8,0xFFFFFFFFFF),(4,1),(4,2),(4,3),(4,4),(4,5),(2,6),(2,0)]), 7, 3, _,
        _, ⟨by unfold State.takes State.awake; decide +kernel, by decide +kernel, by decide +kernel, by decide +kernel, by decide +kernel,
        by decide +kernel, by decide +kernel, by decide +kernel, by decide +kernel, by decide +kernel, by decide +kernel, fun _ _ => rfl, rfl,
        by decide +kernel⟩⟩,
    ⟨rung 2 0x804 (layout [(1,7),(1,3),(1,64),(1,0),(2,0)]) (fun d => d.put R.ID_PRESENT_PORT [] 255),
        boot 0 (layout [(1,7),(1,3),(1,64),(1,0),(2,0)]), 7, 3, [stageField R.PAL_SKEW_WORDS [7, 3] 64],
        by unfold State.takes State.awake; decide +kernel⟩,
    ⟨rungWith 1 0x805 (buffered [7, 3, 0, 0, 0, 0, 0, 0, 9] 0) (fun d => (windows d).put R.ID_PRESENT_PORT [] 255), (buffered [7, 3, 0, 0, 0, 0, 0, 0,
        9] 0), [7, 3, 0, 0, 0, 0, 0, 0, 9], 7, 3, by unfold State.takes State.awake; decide +kernel⟩,
    ⟨rung 0 0x806 (layout [(1,7),(1,3),(1,1)]) (fun d => d.put R.ID_PRESENT_PORT [] 255), boot 0 (layout [(1,7),(1,3),(1,1)]), 7, 3,
        by unfold State.takes State.awake; decide +kernel⟩,
    ⟨rung 0 0x800 (layout [(1,7),(1,3)]) (fun d => (d.put R.ID_PRESENT_PORT [] 255).put R.PP_CTL_MODE [6] 8), boot 0 (layout [(1,7),(1,3)]),
        by unfold State.takes State.awake; decide +kernel⟩⟩

theorem wit_DeliveryCommands :
    (∃ (s : State) (e : Entry) (q : Nat), s.takes qOpenSpec e true
      ∧ e.u 12 4 = q
      ∧ generalQueue q = true
      ∧ 3 ≤ e.u 16 1
      ∧ e.u 16 1 ≤ 5
      ∧ 4 ≤ e.u 17 1
      ∧ e.u 17 1 ≤ 24
      ∧ esizeFits (e.u 16 1) (e.u 18 1) = true
      ∧ e.u 19 1 ≤ 1
      ∧ vectorFits (e.u 20 2) = true
      ∧ e.u 23 1 = 0
      ∧ e.u 30 2 = 0
      ∧ e.u 48 16 = 0
      ∧ e.u 32 8 % 4096 = 0
      ∧ e.u 40 8 % 64 = 0
      ∧ (s.dev.entered e).mayQueue e.via q = true
      ∧ ((s.dev.entered e).ctx q).kind = 0
      ∧ (s.dev.entered e).netAdmits false true .queue (e.u 32 8) (2 ^ e.u 17 1 * esizeBytes (e.u 18 1)) = true
      ∧ ((e.u 40 8 ≠ 0 → (s.dev.entered e).netAdmits false true .queue (e.u 40 8) 16 = true))
      ∧ ((e.u 19 1 = 1 → (s.dev.entered e).pinned < 4096)))
    ∧ (∃ (s : State) (e : Entry) (q : Nat), s.takes qCloseSpec e true
      ∧ e.u 12 4 = q
      ∧ generalQueue q = true
      ∧ ((s.dev.entered e).ctx q).kind ≠ 0
      ∧ (s.dev.entered e).mayQueue e.via q = true
      ∧ (s.dev.entered e).queueNamed q = false)
    ∧ (∃ (s : State) (e : Entry) (q : Nat) (c : QCtx), s.takes qQuerySpec e true
      ∧ e.u 12 4 = q
      ∧ q ≤ 1048575
      ∧ (s.dev.entered e).mayQueue e.via q = true
      ∧ (s.dev.entered e).ctx q = c)
    ∧ (∃ (s : State) (e : Entry) (q : Nat) (c : QCtx), s.takes qResetSpec e true
      ∧ e.u 12 4 = q
      ∧ q ≤ 1048575
      ∧ e.u 16 1 ≤ 1
      ∧ (s.dev.entered e).ctx q = c
      ∧ c.kind ≠ 0
      ∧ (s.dev.entered e).mayQueue e.via q = true)
    ∧ (∃ (s : State) (e : Entry) (n c : Nat) (ws : List MaskedWrite), s.takes dmaChannelSpec e true
      ∧ e.u 12 1 = n
      ∧ e.u 13 1 = c
      ∧ n ≤ 31
      ∧ c ≤ 15
      ∧ e.u 16 1 = 0
      ∧ e.u 20 4 ≤ 1048575
      ∧ e.u 24 2 ≤ 2047
      ∧ fwChannel n c = false
      ∧ (s.dev.entered e).mayTake e.via (.dma n c) = true
      ∧ (s.dev.entered e).mayQueue e.via (e.u 20 4) = true
      ∧ ws = [stageFields R.DMA_CH_CFG [n, c] [(R.DMA_CH_CFG_CQ, e.u 20 4), (R.DMA_CH_CFG_SHARE, e.u 24 2), (R.DMA_CH_CFG_BURST, e.u 26 1)]]
      ∧ (s.dev.entered e).takesChange e (e.u 14 2) ws = true)
    ∧ (∃ (s : State) (e : Entry) (n c : Nat), s.takes dmaChannelSpec e true
      ∧ e.u 12 1 = n
      ∧ e.u 13 1 = c
      ∧ n ≤ 31
      ∧ c ≤ 15
      ∧ e.u 16 1 = 1
      ∧ e.u 20 4 ≤ 1048575
      ∧ e.u 24 2 ≤ 2047
      ∧ fwChannel n c = false
      ∧ (s.dev.entered e).mayAct e.via (.dma n c) = true)
    ∧ (∃ (s : State) (e : Entry) (n c : Nat), s.takes dmaSubmitSpec e true
      ∧ e.u 12 1 = n
      ∧ e.u 13 1 = c
      ∧ e.u 14 2 = 0
      ∧ n ≤ 31
      ∧ c ≤ 15
      ∧ e.u 36 2 ≤ 511
      ∧ e.u 38 1 ≤ 1
      ∧ e.u 39 1 = 0
      ∧ e.u 48 4 < 2 ^ 17
      ∧ e.u 52 4 = 0
      ∧ (s.dev.entered e).mayChannel e.via n c = true
      ∧ s.dev.flag R.DMA_CH_CTL_ARM [n, c] = false)
    ∧ (∃ (s : State) (e : Entry) (n c txn : Nat) (ws : List MaskedWrite), s.takes dmaSubmitSpec e true
      ∧ e.u 12 1 = n
      ∧ e.u 13 1 = c
      ∧ e.u 14 2 = txn
      ∧ txn ≠ 0
      ∧ n ≤ 31
      ∧ c ≤ 15
      ∧ e.u 36 2 ≤ 511
      ∧ e.u 38 1 ≤ 1
      ∧ e.u 39 1 = 0
      ∧ e.u 48 4 < 2 ^ 17
      ∧ e.u 52 4 = 0
      ∧ (s.dev.entered e).mayChannel e.via n c = true
      ∧ ws = submitSet e ++ [stageField R.DMA_CH_CTL_ARM [n, c] 1]
      ∧ (s.dev.entered e).takesChange e txn ws = true)
    ∧ (∃ (s : State) (e : Entry) (n c : Nat), s.takes dmaPauseSpec e true
      ∧ e.u 12 1 = n
      ∧ e.u 13 1 = c
      ∧ n ≤ 31
      ∧ c ≤ 15
      ∧ e.u 14 1 ≤ 2
      ∧ (s.dev.entered e).mayChannel e.via n c = true)
    ∧ (∃ (s : State) (e : Entry) (ix : List Nat), s.takes dmaQuerySpec e true
      ∧ ix = [e.u 12 1, e.u 13 1]
      ∧ e.u 12 1 ≤ 31
      ∧ e.u 13 1 ≤ 15) :=
  ⟨⟨rung 1 0x900 (layout [(4,1048575),(1,5),(1,24),(1,1),(1,1),(2,2047),(1,3),(1,0),(4,5),(2,6),(2,0),(8,4096),(8,64)]) (windows),
      boot 0 (layout [(4,1048575),(1,5),(1,24),(1,1),(1,1),(2,2047),(1,3),(1,0),(4,5),(2,6),(2,0),(8,4096),(8,64)]), 1048575,
      by unfold State.takes State.awake; decide +kernel⟩,
    ⟨rung 1 0x901 (layout [(4,1024)]) (fun d => d.setCtx 1024 { kind := 3, esize := 2 }), boot 0 (layout [(4,1024)]), 1024,
        by unfold State.takes State.awake; decide +kernel⟩,
    ⟨rung 1 0x902 (layout [(4,1048575)]), boot 0 (layout [(4,1048575)]), 1048575, {}, by unfold State.takes State.awake; decide +kernel⟩,
    ⟨rung 1 0x903 (layout [(4,1024),(1,1)]) (fun d => d.setCtx 1024 { kind := 3, esize := 2, error := true, err := 2 }),
        boot 0 (layout [(4,1024),(1,1)]), 1024, { kind := 3, esize := 2, error := true, err := 2 },
        by unfold State.takes State.awake; decide +kernel⟩,
    ⟨rung 1 0x904 (layout [(1,31),(1,15),(2,0),(1,0),(3,0),(4,1048575),(2,2047),(1,1)]),
        boot 0 (layout [(1,31),(1,15),(2,0),(1,0),(3,0),(4,1048575),(2,2047),(1,1)]), 31, 15, [stageFields R.DMA_CH_CFG [31, 15] [(R.DMA_CH_CFG_CQ,
        1048575), (R.DMA_CH_CFG_SHARE, 2047), (R.DMA_CH_CFG_BURST, 1)]], by unfold State.takes State.awake; decide +kernel⟩,
    ⟨rung 1 0x904 (layout [(1,8),(1,0),(2,0),(1,1),(3,0),(4,0),(2,0),(1,0)]), boot 0 (layout [(1,8),(1,0),(2,0),(1,1),(3,0),(4,0),(2,0),(1,0)]), 8, 0,
        by unfold State.takes State.awake; decide +kernel⟩,
    ⟨rung 1 0x905 (layout [(1,31),(1,15),(2,0),(8,1),(8,2),(4,3),(2,511),(1,1),(1,0),(8,4),(4,131071),(4,0),(8,0)]),
        boot 0 (layout [(1,31),(1,15),(2,0),(8,1),(8,2),(4,3),(2,511),(1,1),(1,0),(8,4),(4,131071),(4,0),(8,0)]), 31, 15,
        by unfold State.takes State.awake; decide +kernel⟩,
    ⟨rung 1 0x905 (layout [(1,31),(1,15),(2,14),(8,1),(8,2),(4,3),(2,0),(1,1),(1,0),(8,4),(4,131071),(4,0),(8,0)]) (fun d => d.put R.CUR_TX_STAT_STATE [13] 1),
        boot 0 (layout [(1,31),(1,15),(2,14),(8,1),(8,2),(4,3),(2,0),(1,1),(1,0),(8,4),(4,131071),(4,0),(8,0)]), 31, 15, 14, _,
        ⟨by unfold State.takes State.awake; decide +kernel, by decide +kernel, by decide +kernel, by decide +kernel, by decide, by decide, by decide,
        by decide +kernel, by decide +kernel, by decide +kernel, by decide +kernel, by decide +kernel, by decide +kernel, rfl, by decide +kernel⟩⟩,
    ⟨rung 1 0x906 (layout [(1,31),(1,15),(1,2)]), boot 0 (layout [(1,31),(1,15),(1,2)]), 31, 15, by unfold State.takes State.awake; decide +kernel⟩,
    ⟨rung 0 0x907 (layout [(1,31),(1,15)]), boot 0 (layout [(1,31),(1,15)]), [31, 15], by unfold State.takes State.awake; decide +kernel⟩⟩

theorem wit_TimeCommands :
    (∃ (s : State) (e : Entry), s.takes timeQuerySpec e true)
    ∧ (∃ (s : State) (e : Entry) (m : Nat), s.takes timeStepSpec e true
      ∧ e.u 13 1 = m
      ∧ m ≤ 7
      ∧ ((bit m 1 = true → bit m 2 = true ∧ e.u 32 8 < 2 ^ 48 ∧ e.u 40 4 ≤ 999999999))
      ∧ s.dev.servoRuns = false
      ∧ s.dev.tim.time.step = none)
    ∧ (∃ (s : State) (e : Entry), s.takes timeSlewSpec e true
      ∧ e.u 13 1 ≤ 3
      ∧ bit (e.u 13 1) 1 = false
      ∧ s.dev.servoRuns = false)
    ∧ (∃ (s : State) (e : Entry), s.takes timeSlewSpec e true
      ∧ e.u 13 1 ≤ 3
      ∧ bit (e.u 13 1) 1 = true
      ∧ s.dev.servoRuns = false)
    ∧ (∃ (s : State) (e : Entry), s.takes timeIncrSpec e true
      ∧ s.dev.servoRuns = false)
    ∧ (∃ (s : State) (e : Entry), s.takes ptpServoSpec e true
      ∧ e.u 13 1 = 0)
    ∧ (∃ (s : State) (e : Entry) (p : Nat), s.takes ptpServoSpec e true
      ∧ e.u 13 1 = 1
      ∧ e.u 14 1 = p
      ∧ p ≤ 7
      ∧ e.u 16 1 ≤ 2
      ∧ e.u 17 1 ≠ 0
      ∧ e.u 17 1 ≤ 3
      ∧ e.u 18 1 ≤ 3
      ∧ s.dev.portPresent p = true
      ∧ (s.dev.prtx p).isOpen = true
      ∧ modeEth (s.dev.pmode p) = true
      ∧ s.dev.servoRuns = false)
    ∧ (∃ (s : State) (e : Entry), s.takes ptpStatusSpec e true
      ∧ (s.dev.entered e).noMaster = false)
    ∧ (∃ (s : State) (e : Entry), s.takes ptpStatusSpec e true
      ∧ (s.dev.entered e).noMaster = true)
    ∧ (∃ (s : State) (e : Entry) (fl : Nat), s.takes timingPinsSpec e true
      ∧ e.u 13 1 = fl
      ∧ fl ≤ 127
      ∧ 100 ≤ e.u 16 4
      ∧ e.u 16 4 ≤ 999999999)
    ∧ (∃ (s : State) (e : Entry) (t : Device), s.takes timePtmSpec e true
      ∧ e.u 13 1 ≤ 2
      ∧ e.u 14 2 ≤ 16383
      ∧ s.dev.hst.ptmEnable = true
      ∧ (if e.u 13 1 = 0 then (s.dev.entered e).ptmStart else if e.u 13 1 = 1 then ((s.dev.entered e).setFlag R.PTM_CTL_AUTO [] true).put R.PTM_CTL_PERIOD_MS [] (e.u 14 2) else (s.dev.entered e).setFlag R.PTM_CTL_AUTO [] false) = t)
    ∧ (∃ (s : State) (e : Entry) (m : Nat), s.takes timeStepSpec e true
      ∧ e.u 13 1 = m
      ∧ m ≤ 3
      ∧ ((bit m 1 = true → bit m 2 = true ∧ e.u 32 8 < 2 ^ 48 ∧ e.u 40 4 ≤ 999999999))
      ∧ s.dev.servoRuns = true) :=
  ⟨⟨rung 0 0xA00 (layout []), boot 0 (layout []), by unfold State.takes State.awake; decide +kernel⟩,
    ⟨rung 0 0xA01 (layout [(1,0),(1,7),(2,0),(8,5),(8,0xFFFFFFFFFFFFFFFF),(8,0xFFFFFFFFFFFF),(4,999999999),(2,65535)]),
        boot 0 (layout [(1,0),(1,7),(2,0),(8,5),(8,0xFFFFFFFFFFFFFFFF),(8,0xFFFFFFFFFFFF),(4,999999999),(2,65535)]), 7,
        by unfold State.takes State.awake; decide +kernel⟩,
    ⟨rung 0 0xA02 (layout [(1,0),(1,1),(2,0),(4,1),(4,0),(8,0xFFFFFFFFFFFFFFFF)]),
        boot 0 (layout [(1,0),(1,1),(2,0),(4,1),(4,0),(8,0xFFFFFFFFFFFFFFFF)]), by unfold State.takes State.awake; decide +kernel⟩,
    ⟨rung 0 0xA02 (layout [(1,0),(1,3),(2,0),(4,1),(4,0),(8,0)]), boot 0 (layout [(1,0),(1,3),(2,0),(4,1),(4,0),(8,0)]),
        by unfold State.takes State.awake; decide +kernel⟩,
    ⟨rung 0 0xA03 (layout [(4,0),(8,0xFFFFFFFFFFFFFFFF)]), boot 0 (layout [(4,0),(8,0xFFFFFFFFFFFFFFFF)]),
        by unfold State.takes State.awake; decide +kernel⟩,
    ⟨rung 0 0xA04 (layout [(12,0)]), boot 0 (layout [(12,0)]), by unfold State.takes State.awake; decide +kernel⟩,
    ⟨rung 0 0xA04 (layout [(1,0),(1,1),(1,7),(1,255),(1,2),(1,3),(1,3),(1,255),(1,0),(1,127),(1,128),(1,0)]) (fun d => let d := ethUp (d.put R.ID_PRESENT_PORT [] 255); d.setPrt 7 { d.prtx 7 with isOpen := true }),
        boot 0 (layout [(1,0),(1,1),(1,7),(1,255),(1,2),(1,3),(1,3),(1,255),(1,0),(1,127),(1,128),(1,0)]), 7,
        by unfold State.takes State.awake; decide +kernel⟩,
    ⟨rung 0 0xA05 (layout []), boot 0 (layout []), by unfold State.takes State.awake; decide +kernel⟩,
    ⟨rung 0 0xA05 (layout []) (fun d => d.setServo { d.servo with state := 5 }), boot 0 (layout []),
        by unfold State.takes State.awake; decide +kernel⟩,
    ⟨rung 0 0xA06 (layout [(1,0),(1,127),(2,0),(4,999999999),(4,0),(1,191),(1,190)]),
        boot 0 (layout [(1,0),(1,127),(2,0),(4,999999999),(4,0),(1,191),(1,190)]), 127, by unfold State.takes State.awake; decide +kernel⟩,
    ⟨rung 0 0xA07 (layout [(1,0),(1,1),(2,16383)]) (fun d => { d with hst := { d.hst with ptmEnable := true } }),
        boot 0 (layout [(1,0),(1,1),(2,16383)]), _, ⟨by unfold State.takes State.awake; decide +kernel, by decide +kernel, by decide +kernel,
        by decide +kernel, rfl⟩⟩,
    ⟨rung 0 0xA01 (layout [(1,0),(1,1),(2,0),(8,5),(8,0),(8,0),(4,0),(2,0)]) (fun d => d.setServo { d.servo with state := 2 }),
        boot 0 (layout [(1,0),(1,1),(2,0),(8,5),(8,0),(8,0),(4,0),(2,0)]), 1, by unfold State.takes State.awake; decide +kernel⟩⟩

theorem wit_TimingCommands :
    (∃ (s : State) (e : Entry) (c : Nat) (ws : List MaskedWrite), s.takes mwChannelSpec e true
      ∧ e.u 12 1 = c
      ∧ e.u 13 1 ≤ 7
      ∧ bit (e.u 13 1) 2 = false
      ∧ e.u 14 1 ≤ 2
      ∧ (s.dev.entered e).channelHeld e.via c = false
      ∧ ws = [stageFields R.MW_CH_CFG [c] [(R.MW_CH_CFG_ASYNC, e.u 13 1 % 2), (R.MW_CH_CFG_OWNER, 1), (R.MW_CH_CFG_SECURE, e.u 13 1 / 2 % 2),
          (R.MW_CH_CFG_SWMODE, e.u 14 1)]]
      ∧ (s.dev.entered e).takesChange e (e.u 16 2) ws = true)
    ∧ (∃ (s : State) (e : Entry) (c : Nat) (ws : List MaskedWrite), s.takes mwChannelSpec e true
      ∧ e.u 12 1 = c
      ∧ e.u 13 1 ≤ 7
      ∧ bit (e.u 13 1) 2 = true
      ∧ e.u 14 1 ≤ 2
      ∧ (s.dev.entered e).channelHeld e.via c = false
      ∧ (s.dev.entered e).mayAct e.via (.channel c) = true
      ∧ ws = [{ addr := R.MW_CH_CFG.addr [c], mask := 0x1FF, value := 0 }]
      ∧ (s.dev.entered e).takesChange e (e.u 16 2) ws = true)
    ∧ (∃ (s : State) (e : Entry) (c : Nat), s.takes mwFireSpec e true
      ∧ e.u 12 1 = c
      ∧ (s.dev.entered e).channelHeld e.via c = false
      ∧ (s.dev.entered e).mayAct e.via (.channel c) = true)
    ∧ (∃ (s : State) (e : Entry) (c : Nat) (seen : Word), s.takes mwWatchSpec e true
      ∧ e.u 12 1 = c
      ∧ e.u 13 1 ≤ 7
      ∧ (s.dev.entered e).mayAct e.via (.channel c) = true
      ∧ (s.dev.entered e).watchMask .ringmaster (c / 64) (s.dev.rd R.MW_WATCH [c / 64]) = seen)
    ∧ (∃ (s : State) (e : Entry) (i : Nat) (w1 w2 : List MaskedWrite), s.takes mwGateSpec e true
      ∧ e.u 12 1 ≤ 3
      ∧ e.u 16 2 = i
      ∧ ((bit (e.u 12 1) 0 = true → e.via.principal = true))
      ∧ ((bit (e.u 12 1) 1 = true → i ≤ 2047 ∧ (i < 593 ∨ 639 < i) ∧ e.u 18 1 ≤ 28 ∧ e.u 19 1 ≤ 1 ∧ (s.dev.entered e).mayTake e.via (.consumer i) = true))
      ∧ w1 = (if bit (e.u 12 1) 0 then [{ addr := R.MW_GATE.addr [], mask := BitVec.ofNat 64 (e.u 14 1), value := BitVec.ofNat 64 (e.u 13 1) &&& BitVec.ofNat 64 (e.u 14 1) }] else [])
      ∧ w2 = (if bit (e.u 12 1) 1 then [stageFields R.MW_CON [i] [(R.MW_CON_GATE, e.u 18 1), (R.MW_CON_GATE_INV, e.u 19 1), (R.MW_CON_DEAD,
          e.u 20 1)]] else [])
      ∧ (s.dev.entered e).takesChange e (e.u 22 2) (w1 ++ w2) = true)
    ∧ (∃ (s : State) (e : Entry) (b : List Byte) (p : Nat) (ws : List MaskedWrite), s.takes bkProgramSpec e true
      ∧ (s.dev.entered e).input e = b
      ∧ e.inLen = 128
      ∧ fieldAt b 0 1 = p
      ∧ p ≤ 31
      ∧ fieldAt b 1 1 ≤ 2
      ∧ fieldAt b 2 1 ≤ 3
      ∧ fieldAt b 3 1 ≤ 3
      ∧ fieldAt b 5 1 = 0
      ∧ fieldAt b 42 6 = 0
      ∧ fieldAt b 48 8 < 2 ^ 48
      ∧ fieldAt b 60 4 = 0
      ∧ ((∀ t, t < 4 → fieldAt b (64 + 16 * t) 1 ≤ 4 ∧ fieldAt b (64 + 16 * t + 1) 1 ≤ 1 ∧ fieldAt b (64 + 16 * t + 3) 1 = 0 ∧ fieldAt b (64 + 16 * t + 8) 8 = 0))
      ∧ (s.dev.entered e).mayTake e.via (.program p) = true
      ∧ ws = [stageFields R.BK_CTL [p] [(R.BK_CTL_SRC, fieldAt b 1 1), (R.BK_CTL_DIR, fieldAt b 2 1 % 2), (R.BK_CTL_INTERP, fieldAt b 2 1 / 2),
          (R.BK_CTL_POS_CH, fieldAt b 3 1), (R.BK_CTL_EV, fieldAt b 4 1)], stageField R.BK_START_START [p] (fieldAt b 8 8),
          stageField R.BK_PERIOD_PERIOD [p] (fieldAt b 16 8), stageFields R.BK_COUNT [p] [(R.BK_COUNT_COUNT, fieldAt b 24 4), (R.BK_COUNT_DELAY,
          fieldAt b 28 4)], stageFields R.BK_POS [p] [(R.BK_POS_TARGET_CNT, fieldAt b 32 4), (R.BK_POS_TARGET_REV, fieldAt b 36 4)],
          stageFields R.BK_POSF [p] [(R.BK_POSF_FRAC, fieldAt b 40 2), (R.BK_POSF_SPACING, fieldAt b 48 8)],
          stageField R.BK_WIDTH_WIDTH [p] (fieldAt b 56 4)] ++ (List.range 4).map (fun t => stageFields R.BK_TGT [p, t] [(R.BK_TGT_KIND,
          fieldAt b (64 + 16 * t) 1), (R.BK_TGT_LEVEL, fieldAt b (64 + 16 * t + 1) 1), (R.BK_TGT_INDEX, fieldAt b (64 + 16 * t + 2) 1),
          (R.BK_TGT_LEAD, fieldAt b (64 + 16 * t + 4) 4)])
      ∧ (s.dev.entered e).takesChange e (fieldAt b 6 2) ws = true)
    ∧ (∃ (s : State) (e : Entry) (p : Nat) (ws : List MaskedWrite), s.takes bkArmSpec e true
      ∧ e.u 12 1 = p
      ∧ p ≤ 31
      ∧ e.u 13 1 ≤ 1
      ∧ ((e.u 13 1 = 1 → ∀ n ∈ s.dev.vxlTargets p, (n < 8 → s.dev.portPresent n = true) ∧ s.dev.vxlUp n = true ∧ s.dev.hostRole n = true))
      ∧ (s.dev.entered e).mayAct e.via (.program p) = true
      ∧ ws = [stageField R.BK_CTL_EN [p] (e.u 13 1)]
      ∧ (s.dev.entered e).takesChange e (e.u 14 2) ws = true)
    ∧ (∃ (s : State) (e : Entry) (p : Nat) (h : List Byte), s.takes bkQuerySpec e true
      ∧ e.u 12 1 = p
      ∧ p ≤ 31
      ∧ e.u 13 1 ≤ 15
      ∧ (s.dev.prog p).hist.getD (e.u 13 1) (zeros 32) = h)
    ∧ (∃ (s : State) (e : Entry) (i : Nat) (ws : List MaskedWrite), s.takes trgPinSpec e true
      ∧ e.u 12 1 = i
      ∧ i ≤ 15
      ∧ e.u 13 1 ≤ 31
      ∧ (s.dev.entered e).mayTake e.via (.pin i) = true
      ∧ ((bit (e.u 13 1) 0 = true → s.dev.flag R.NET_PIN_OUT_OK [i] = true))
      ∧ ws = [stageFields R.TRG_CTL [i] [(R.TRG_CTL_DIR, e.u 13 1 % 2), (R.TRG_CTL_POL, e.u 13 1 / 2 % 2), (R.TRG_CTL_IN_EDGE, e.u 13 1 / 4 % 4),
          (R.TRG_CTL_IN_EV_EN, e.u 13 1 / 16), (R.TRG_CTL_IN_EV, e.u 14 1), (R.TRG_CTL_FILT, e.u 15 1)],
          stageFields R.TRG_ADJ [i] [(R.TRG_ADJ_OUT_ADJ, e.u 16 2), (R.TRG_ADJ_IN_ADJ, e.u 18 2)]]
      ∧ (s.dev.entered e).takesChange e (e.u 20 2) ws = true)
    ∧ (∃ (s : State) (e : Entry) (i n : Nat) (got : List (TT × Bool)), s.takes trgStampsSpec e true
      ∧ e.u 12 1 = i
      ∧ e.u 13 1 = n
      ∧ i ≤ 15
      ∧ n ≠ 0
      ∧ n ≤ 16
      ∧ 16 * n ≤ e.outLen
      ∧ (s.dev.entered e).mayAct e.via (.pin i) = true
      ∧ s.dev.flag R.TRG_CTL_DIR [i] = false
      ∧ (s.dev.pin i).stamps.take n = got)
    ∧ (∃ (s : State) (e : Entry) (p t : Nat), s.takes bkActionSpec e (s.dev.portThere (e.u 14 1))
      ∧ e.u 12 1 = p
      ∧ e.u 13 1 = t
      ∧ p ≤ 31
      ∧ t ≤ 3
      ∧ e.u 14 1 ≤ 7
      ∧ (s.dev.entered e).mayAct e.via (.program p) = true) :=
  ⟨⟨rung 1 0xB00 (layout [(1,191),(1,3),(1,2),(1,0),(2,0)]), boot 0 (layout [(1,191),(1,3),(1,2),(1,0),(2,0)]), 191,
      [stageFields R.MW_CH_CFG [191] [(R.MW_CH_CFG_ASYNC, 1), (R.MW_CH_CFG_OWNER, 1), (R.MW_CH_CFG_SECURE, 1), (R.MW_CH_CFG_SWMODE, 2)]],
      by unfold State.takes State.awake; decide +kernel⟩,
    ⟨rung 1 0xB00 (layout [(1,0),(1,4),(1,0),(1,0),(2,0)]), boot 0 (layout [(1,0),(1,4),(1,0),(1,0),(2,0)]), 0,
        [{ addr := R.MW_CH_CFG.addr [0], mask := 0x1FF, value := 0 }], by unfold State.takes State.awake; decide +kernel⟩,
    ⟨rung 1 0xB01 (layout [(1,191)]), boot 0 (layout [(1,191)]), 191, by unfold State.takes State.awake; decide +kernel⟩,
    ⟨rung 1 0xB02 (layout [(1,255),(1,7)]), boot 0 (layout [(1,255),(1,7)]), 255, 0, by unfold State.takes State.awake; decide +kernel⟩,
    ⟨rung 1 0xB03 (layout [(1,3),(1,255),(1,129),(1,0),(2,2047),(1,28),(1,1),(1,9),(1,0),(2,0)]),
        boot 0 (layout [(1,3),(1,255),(1,129),(1,0),(2,2047),(1,28),(1,1),(1,9),(1,0),(2,0)]), 2047,
        [{ addr := R.MW_GATE.addr [], mask := 129, value := 129 }], [stageFields R.MW_CON [2047] [(R.MW_CON_GATE, 28), (R.MW_CON_GATE_INV, 1),
        (R.MW_CON_DEAD, 9)]], by unfold State.takes State.awake; decide +kernel⟩,
    ⟨rungWith 1 0xB04 (buffered (fit 128 (layout [(1, 31), (1, 2), (1, 3), (1, 3), (1, 191)])) 0) (windows), (buffered (fit 128 (layout [(1, 31), (1,
        2), (1, 3), (1, 3), (1, 191)])) 0), fit 128 (layout [(1, 31), (1, 2), (1, 3), (1, 3), (1, 191)]), 31, _,
        ⟨by unfold State.takes State.awake; decide +kernel, by decide +kernel, by decide +kernel, by decide +kernel, by decide, by decide +kernel,
        by decide +kernel, by decide +kernel, by decide +kernel, by decide +kernel, by decide +kernel, by decide +kernel, by decide +kernel,
        by decide +kernel, rfl, by decide +kernel⟩⟩,
    ⟨rung 1 0xB05 (layout [(1,31),(1,1),(2,0)]), boot 0 (layout [(1,31),(1,1),(2,0)]), 31, [stageField R.BK_CTL_EN [31] 1],
        by unfold State.takes State.awake; decide +kernel⟩,
    ⟨rung 1 0xB06 (layout [(1,31),(1,15)]), boot 0 (layout [(1,31),(1,15)]), 31, zeros 32, by unfold State.takes State.awake; decide +kernel⟩,
    ⟨rung 1 0xB07 (layout [(1,15),(1,30),(1,191),(1,255),(2,1),(2,2),(2,0)]), boot 0 (layout [(1,15),(1,30),(1,191),(1,255),(2,1),(2,2),(2,0)]), 15,
        [stageFields R.TRG_CTL [15] [(R.TRG_CTL_DIR, 0), (R.TRG_CTL_POL, 1), (R.TRG_CTL_IN_EDGE, 3), (R.TRG_CTL_IN_EV_EN, 1), (R.TRG_CTL_IN_EV, 191),
        (R.TRG_CTL_FILT, 255)], stageFields R.TRG_ADJ [15] [(R.TRG_ADJ_OUT_ADJ, 1), (R.TRG_ADJ_IN_ADJ, 2)]],
        by unfold State.takes State.awake; decide +kernel⟩,
    ⟨rungWith 1 0xB08 (stamping) (windows), (stamping), 0, 16, [], by unfold State.takes State.awake; decide +kernel⟩,
    ⟨rung 1 0xB09 (layout [(1,31),(1,3),(1,7),(1,0),(4,1),(4,2),(4,3),(4,4)]) (fun d => d.put R.ID_PRESENT_PORT [] 255),
        boot 0 (layout [(1,31),(1,3),(1,7),(1,0),(4,1),(4,2),(4,3),(4,4)]), 31, 3, by unfold State.takes State.awake; decide +kernel⟩⟩

theorem wit_FeedbackCommands :
    (∃ (s : State) (e : Entry) (f : Nat), s.takes fbQuerySpec e true
      ∧ e.u 12 1 = f
      ∧ f ≤ 3)
    ∧ (∃ (s : State) (e : Entry) (f fl : Nat) (ws : List MaskedWrite), s.takes fbConfigSpec e true
      ∧ e.u 12 1 = f
      ∧ e.u 17 1 = fl
      ∧ f ≤ 3
      ∧ e.u 16 1 ≤ 3
      ∧ fl ≤ 31
      ∧ fl % 4 ≠ 3
      ∧ e.u 26 1 ≤ 4
      ∧ e.u 28 4 ≠ 0
      ∧ e.u 28 4 ≤ 1000000
      ∧ e.u 27 1 ≤ 63
      ∧ e.u 32 1 ≤ 63
      ∧ e.u 38 2 = 0
      ∧ e.u 46 18 = 0
      ∧ (s.dev.entered e).mayTake e.via (.fb f) = true
      ∧ ws = [stageFields R.FB_CTL [f] [(R.FB_CTL_MODE, e.u 16 1), (R.FB_CTL_DECODE, fl % 4), (R.FB_CTL_INVERT, fl / 4 % 2), (R.FB_CTL_WRAP,
          fl / 8 % 2), (R.FB_CTL_FILT, e.u 18 2), (R.FB_CTL_SW_FILT, e.u 24 2)],
          stageField R.FB_CPR_CPR [f] (if e.u 20 4 = 0 then 2 ^ 32 else e.u 20 4), stageFields R.FB_SPD_CFG [f] [(R.FB_SPD_CFG_TIMEOUT_US, e.u 28 4),
          (R.FB_SPD_CFG_AVG_SHIFT, e.u 26 1)], stageFields R.FB_SSI [f] [(R.FB_SSI_BITS, e.u 27 1), (R.FB_SSI_TURN_BITS, e.u 32 1), (R.FB_SSI_GRAY,
          fl / 16), (R.FB_SSI_DIV, e.u 33 1), (R.FB_SSI_PERIOD_US, e.u 34 2), (R.FB_SSI_MONO_US, e.u 36 2)],
          stageField R.FB_SSI2_MAX_JUMP [f] (e.u 40 4)]
      ∧ (s.dev.entered e).takesChange e (e.u 14 2) ws = true)
    ∧ (∃ (s : State) (e : Entry) (f : Nat) (ws : List MaskedWrite), s.takes fbSetPosSpec e true
      ∧ e.u 12 1 = f
      ∧ (s.dev.entered e).fbCheck e = stOK
      ∧ s.dev.fbMode f ≠ 0
      ∧ ws = [stageFields R.FB_PRESET [f] [(R.FB_PRESET_COUNT, e.u 16 4), (R.FB_PRESET_REV, e.u 20 4)], stageField R.FB_CMD_SET_POS [f] 1]
      ∧ (s.dev.entered e).takesChange e (e.u 14 2) ws = true)
    ∧ (∃ (s : State) (e : Entry) (f : Nat) (ws : List MaskedWrite), s.takes fbLatchSpec e true
      ∧ e.u 12 1 = f
      ∧ (s.dev.entered e).fbCheck e = stOK
      ∧ e.u 16 1 ≤ 2
      ∧ e.u 17 1 ≤ 3
      ∧ e.u 18 1 ≤ 3
      ∧ bit (e.u 18 1) 0 = false
      ∧ bit (e.u 18 1) 1 = true
      ∧ s.dev.fbMode f ≠ 0
      ∧ ws = [stageFields R.FB_LATCH [f] [(R.FB_LATCH_LATCH_SRC, 0), (R.FB_LATCH_LATCH_EDGE, 0)]]
      ∧ (s.dev.entered e).takesChange e (e.u 14 2) ws = true)
    ∧ (∃ (s : State) (e : Entry) (f : Nat) (ws : List MaskedWrite), s.takes fbLatchSpec e true
      ∧ e.u 12 1 = f
      ∧ (s.dev.entered e).fbCheck e = stOK
      ∧ e.u 16 1 ≤ 2
      ∧ e.u 17 1 ≤ 3
      ∧ e.u 18 1 ≤ 3
      ∧ bit (e.u 18 1) 1 = false
      ∧ s.dev.fbMode f ≠ 0
      ∧ ws = [stageFields R.FB_LATCH [f] [(R.FB_LATCH_LATCH_SRC, e.u 16 1), (R.FB_LATCH_LATCH_EDGE, e.u 17 1), (R.FB_LATCH_ARM, 1)]]
      ∧ (s.dev.entered e).takesChange e (e.u 14 2) ws = true)
    ∧ (∃ (s : State) (e : Entry) (f : Nat) (ws : List MaskedWrite), s.takes fbCompareSpec e true
      ∧ e.u 12 1 = f
      ∧ (s.dev.entered e).fbCheck e = stOK
      ∧ e.u 16 1 ≤ 3
      ∧ s.dev.fbMode f ≠ 0
      ∧ ws = [stageFields R.FB_CMP_CTL [f] [(R.FB_CMP_CTL_CMP_EN, e.u 16 1 % 2), (R.FB_CMP_CTL_CMP_DIR, e.u 16 1 / 2), (R.FB_CMP_CTL_SPACING,
          e.u 28 4)], stageFields R.FB_CMP_TGT [f] [(R.FB_CMP_TGT_TGT_COUNT, e.u 20 4), (R.FB_CMP_TGT_TGT_REV, e.u 24 4)]]
      ∧ (s.dev.entered e).takesChange e (e.u 14 2) ws = true)
    ∧ (∃ (s : State) (e : Entry) (f : Nat), s.takes fbSetPosSpec e true
      ∧ e.u 12 1 = f
      ∧ (s.dev.entered e).fbCheck e = stOK
      ∧ s.dev.fbMode f = 0)
    ∧ (∃ (s : State) (e : Entry) (f : Nat) (x : FbX), s.takes fbCountersSpec e true
      ∧ e.u 12 1 = f
      ∧ (s.dev.entered e).fbCheck e = stOK
      ∧ e.u 16 1 ≤ 1
      ∧ s.dev.fb f = x) :=
  ⟨⟨rung 0 0xC00 (layout [(1,3)]), boot 0 (layout [(1,3)]), 3, by unfold State.takes State.awake; decide +kernel⟩,
    ⟨rung 1 0xC01 (layout [(1,3),(1,0),(2,0),(1,3),(1,30),(2,1),(4,0),(2,2),(1,4),(1,63),(4,1000000),(1,63),(1,5),(2,6),(2,7),(2,0),(4,9),(1,191),(1,255)]),
        boot 0 (layout [(1,3),(1,0),(2,0),(1,3),(1,30),(2,1),(4,0),(2,2),(1,4),(1,63),(4,1000000),(1,63),(1,5),(2,6),(2,7),(2,0),(4,9),(1,191),(1,255)]),
        3, 30, _, ⟨by unfold State.takes State.awake; decide +kernel, by decide +kernel, by decide +kernel, by decide, by decide +kernel, by decide,
        by decide, by decide +kernel, by decide +kernel, by decide +kernel, by decide +kernel, by decide +kernel, by decide +kernel,
        by decide +kernel, by decide +kernel, rfl, by decide +kernel⟩⟩,
    ⟨rung 1 0xC02 (layout [(1,3),(1,0),(2,0),(4,5),(4,6)]) (fun d => d.put R.FB_CTL_MODE [3] 1), boot 0 (layout [(1,3),(1,0),(2,0),(4,5),(4,6)]), 3,
        [stageFields R.FB_PRESET [3] [(R.FB_PRESET_COUNT, 5), (R.FB_PRESET_REV, 6)], stageField R.FB_CMD_SET_POS [3] 1],
        by unfold State.takes State.awake; decide +kernel⟩,
    ⟨rung 1 0xC03 (layout [(1,3),(1,0),(2,0),(1,2),(1,3),(1,2),(1,255)]) (fun d => d.put R.FB_CTL_MODE [3] 1),
        boot 0 (layout [(1,3),(1,0),(2,0),(1,2),(1,3),(1,2),(1,255)]), 3, [stageFields R.FB_LATCH [3] [(R.FB_LATCH_LATCH_SRC, 0),
        (R.FB_LATCH_LATCH_EDGE, 0)]], by unfold State.takes State.awake; decide +kernel⟩,
    ⟨rung 1 0xC03 (layout [(1,3),(1,0),(2,0),(1,2),(1,3),(1,1),(1,255)]) (fun d => d.put R.FB_CTL_MODE [3] 1),
        boot 0 (layout [(1,3),(1,0),(2,0),(1,2),(1,3),(1,1),(1,255)]), 3, [stageFields R.FB_LATCH [3] [(R.FB_LATCH_LATCH_SRC, 2),
        (R.FB_LATCH_LATCH_EDGE, 3), (R.FB_LATCH_ARM, 1)]], by unfold State.takes State.awake; decide +kernel⟩,
    ⟨rung 1 0xC04 (layout [(1,3),(1,0),(2,0),(1,3),(1,255),(2,0),(4,5),(4,6),(4,7)]) (fun d => d.put R.FB_CTL_MODE [3] 1),
        boot 0 (layout [(1,3),(1,0),(2,0),(1,3),(1,255),(2,0),(4,5),(4,6),(4,7)]), 3, [stageFields R.FB_CMP_CTL [3] [(R.FB_CMP_CTL_CMP_EN, 1),
        (R.FB_CMP_CTL_CMP_DIR, 1), (R.FB_CMP_CTL_SPACING, 7)], stageFields R.FB_CMP_TGT [3] [(R.FB_CMP_TGT_TGT_COUNT, 5), (R.FB_CMP_TGT_TGT_REV,
        6)]], by unfold State.takes State.awake; decide +kernel⟩,
    ⟨rung 1 0xC02 (layout [(1,3),(1,0),(2,0),(4,5),(4,6)]), boot 0 (layout [(1,3),(1,0),(2,0),(4,5),(4,6)]), 3,
        by unfold State.takes State.awake; decide +kernel⟩,
    ⟨rung 1 0xC05 (layout [(1,3),(3,0),(1,1)]), boot 0 (layout [(1,3),(3,0),(1,1)]), 3, running.dev.fb 3,
        by unfold State.takes State.awake; decide +kernel⟩⟩

theorem wit_MotionCommands :
    (∃ (s : State) (e : Entry) (a : Nat), s.takes axQuerySpec e true
      ∧ e.u 12 1 = a
      ∧ a ≤ 3)
    ∧ (∃ (s : State) (e : Entry) (b : List Byte) (a : Nat) (ws : List MaskedWrite), s.takes axConfigSpec e true
      ∧ (s.dev.entered e).input e = b
      ∧ e.inLen = 128
      ∧ fieldAt b 0 1 = a
      ∧ a ≤ 3
      ∧ fieldAt b 4 1 ≤ 3
      ∧ 20 ≤ fieldAt b 6 2
      ∧ fieldAt b 6 2 ≤ 100
      ∧ 25000 ≤ fieldAt b 8 4
      ∧ fieldAt b 8 4 ≤ 1000000
      ∧ fieldAt b 36 2 ≤ 4095
      ∧ fieldAt b 38 2 ≤ 4095
      ∧ fieldAt b 40 2 ≤ 4095
      ∧ fieldAt b 43 1 ≤ 1
      ∧ fieldAt b 53 1 ≤ 1
      ∧ fieldAt b 54 2 ≠ 0
      ∧ fieldAt b 54 2 ≤ 1024
      ∧ ((2 ≤ a → bit (fieldAt b 1 1) 5 = false))
      ∧ fits48 (sgn 64 (fieldAt b 56 8)) = true
      ∧ fits48 (sgn 64 (fieldAt b 64 8)) = true
      ∧ (∀ x ∈ b.drop 78, x = 0)
      ∧ (s.dev.entered e).mayTake e.via (.axis a) = true
      ∧ s.dev.get R.MP_STAT_STATE [a] = 0
      ∧ s.dev.flag R.CD_CTL_EN [a] = false
      ∧ ws = axisWrites (fieldAt b)
      ∧ (s.dev.entered e).takesChange e (fieldAt b 2 2) ws = true)
    ∧ (∃ (s : State) (e : Entry) (a : Nat) (ws : List MaskedWrite), s.takes axEnableSpec e true
      ∧ e.u 12 1 = a
      ∧ (s.dev.entered e).axCheck e = stOK
      ∧ e.u 13 1 ≤ 1
      ∧ s.dev.boothDown 12 = false
      ∧ ((e.u 13 1 = 1 → (s.dev.axis a).flt = false))
      ∧ ws = [stageField R.CD_CTL_EN [a] (e.u 13 1)]
      ∧ (s.dev.entered e).takesChange e (e.u 14 2) ws = true)
    ∧ (∃ (s : State) (e : Entry) (a m fl : Nat) (ws : List MaskedWrite), s.takes axMoveSpec e true
      ∧ e.u 12 1 = a
      ∧ e.u 13 1 = m
      ∧ e.u 14 1 = fl
      ∧ (s.dev.entered e).axCheck e = stOK
      ∧ 1 ≤ m
      ∧ m ≤ 3
      ∧ fl ≤ 7
      ∧ e.u 18 6 = 0
      ∧ e.u 44 4 = 0
      ∧ e.u 56 8 = 0
      ∧ ((m = 1 → fits48 (e.s 24 8) = true))
      ∧ e.u 48 8 < 2 ^ 40
      ∧ s.dev.axisFaulty a = false
      ∧ ((m = 1 → s.dev.flag R.MP_CFG_HOME_REQ [a] = true → s.dev.flag R.MP_STAT_HOMED [a] = true))
      ∧ ((m ≠ 3 → (s.dev.axis a).towardLimit (if m = 1 then decide (e.s 24 8 * 65536 < (s.dev.axis a).q) else decide (e.s 32 4 < 0)) = false))
      ∧ ws = (if m = 1 then [stageField R.MP_TARGET_TARGET [a] (e.u 24 8)] else []) ++ [stageField R.MP_VEL_V [a] (e.u 32 4),
          stageFields R.MP_ACC [a] [(R.MP_ACC_ACC, e.u 36 4), (R.MP_ACC_DEC, e.u 40 4)], stageField R.MP_JERK_JERK [a] (e.u 48 8),
          stageFields R.MP_CTL [a] [(R.MP_CTL_MODE, m), (R.MP_CTL_SCURVE, fl % 2), (R.MP_CTL_START_EV_EN, fl / 2 % 2), (R.MP_CTL_GO, 1)]]
      ∧ (s.dev.entered e).takesChange e (e.u 16 2) ws = true)
    ∧ (∃ (s : State) (e : Entry) (a : Nat), s.takes axMoveSpec e true
      ∧ e.u 12 1 = a
      ∧ (s.dev.entered e).axCheck e = stOK
      ∧ 1 ≤ e.u 13 1
      ∧ e.u 13 1 ≤ 3
      ∧ e.u 14 1 ≤ 7
      ∧ e.u 18 6 = 0
      ∧ e.u 44 4 = 0
      ∧ e.u 56 8 = 0
      ∧ ((e.u 13 1 = 1 → fits48 (e.s 24 8) = true))
      ∧ e.u 48 8 < 2 ^ 40
      ∧ s.dev.axisFaulty a = true)
    ∧ (∃ (s : State) (e : Entry) (a : Nat), s.takes axMoveSpec e true
      ∧ e.u 12 1 = a
      ∧ (s.dev.entered e).axCheck e = stOK
      ∧ e.u 13 1 = 1
      ∧ e.u 14 1 ≤ 7
      ∧ e.u 18 6 = 0
      ∧ e.u 44 4 = 0
      ∧ e.u 56 8 = 0
      ∧ fits48 (e.s 24 8) = true
      ∧ e.u 48 8 < 2 ^ 40
      ∧ s.dev.axisFaulty a = false
      ∧ s.dev.flag R.MP_CFG_HOME_REQ [a] = true
      ∧ s.dev.flag R.MP_STAT_HOMED [a] = false)
    ∧ (∃ (s : State) (e : Entry) (a : Nat), s.takes axMoveSpec e true
      ∧ e.u 12 1 = a
      ∧ (s.dev.entered e).axCheck e = stOK
      ∧ e.u 13 1 = 2
      ∧ e.u 14 1 ≤ 7
      ∧ e.u 18 6 = 0
      ∧ e.u 44 4 = 0
      ∧ e.u 56 8 = 0
      ∧ e.u 48 8 < 2 ^ 40
      ∧ s.dev.axisFaulty a = false
      ∧ (s.dev.axis a).towardLimit (decide (e.s 32 4 < 0)) = true)
    ∧ (∃ (s : State) (e : Entry) (a : Nat) (ws : List MaskedWrite), s.takes axStopSpec e true
      ∧ e.u 12 1 = a
      ∧ (s.dev.entered e).axCheck e = stOK
      ∧ e.u 13 1 ≤ 1
      ∧ ws = [stageField R.MP_CTL_STOP [a] 1]
      ∧ (s.dev.entered e).takesChange e (e.u 14 2) ws = true)
    ∧ (∃ (s : State) (e : Entry) (a f : Nat) (ws : List MaskedWrite), s.takes axHomeSpec e true
      ∧ e.u 12 1 = a
      ∧ s.dev.get R.MP_CFG_FB_CH [a] = f
      ∧ (s.dev.entered e).axCheck e = stOK
      ∧ e.u 13 1 ≤ 1
      ∧ 1 ≤ e.u 14 1
      ∧ e.u 14 1 ≤ 3
      ∧ (s.dev.entered e).mayAct e.via (.fb f) = true
      ∧ s.dev.axisFaulty a = false
      ∧ ws = [stageFields R.FB_LATCH [f] [(R.FB_LATCH_LATCH_SRC, e.u 13 1), (R.FB_LATCH_LATCH_EDGE, e.u 14 1)], stageField R.MP_HOME_GO [a] 1]
      ∧ (s.dev.entered e).takesChange e (e.u 16 2) ws = true)
    ∧ (∃ (s : State) (e : Entry) (a : Nat) (ws : List MaskedWrite), s.takes axSetPosSpec e true
      ∧ e.u 12 1 = a
      ∧ (s.dev.entered e).axCheck e = stOK
      ∧ fits48 (e.s 24 8) = true
      ∧ s.dev.flag R.MP_STAT_MOVING [a] = false
      ∧ (s.dev.axis a).still = true
      ∧ ws = [stageField R.MP_PRESET_PRESET [a] (e.u 24 8), stageField R.MP_CTL_SET_POS [a] 1]
      ∧ (s.dev.entered e).takesChange e (e.u 14 2) ws = true)
    ∧ (∃ (s : State) (e : Entry) (a : Nat), s.takes axCountersSpec e true
      ∧ e.u 12 1 = a
      ∧ (s.dev.entered e).axCheck e = stOK
      ∧ e.u 13 1 ≤ 1) :=
  ⟨⟨rung 0 0xD00 (layout [(1,3)]), boot 0 (layout [(1,3)]), 3, by unfold State.takes State.awake; decide +kernel⟩,
    ⟨rungWith 1 0xD01 (buffered (fit 128 (layout [(1, 3), (1, 31), (2, 0), (1, 3), (1, 5), (2, 100), (4, 1000000)] ++ zeros 42 ++ layout [(2, 1024),
        (8, 5), (8, 6)])) 0) (windows), (buffered (fit 128 (layout [(1, 3), (1, 31), (2, 0), (1, 3), (1, 5), (2, 100), (4,
        1000000)] ++ zeros 42 ++ layout [(2, 1024), (8, 5), (8, 6)])) 0), fit 128 (layout [(1, 3), (1, 31), (2, 0), (1, 3), (1, 5), (2, 100), (4,
        1000000)] ++ zeros 42 ++ layout [(2, 1024), (8, 5), (8, 6)]), 3, axisWrites (fieldAt (fit 128 (layout [(1, 3), (1, 31), (2, 0), (1, 3), (1,
        5), (2, 100), (4, 1000000)] ++ zeros 42 ++ layout [(2, 1024), (8, 5), (8, 6)]))), by unfold State.takes State.awake; decide +kernel⟩,
    ⟨rung 1 0xD02 (layout [(1,3),(1,1),(2,0)]) (fun d => d.setAxis 3 { d.axis 3 with flt := false }), boot 0 (layout [(1,3),(1,1),(2,0)]), 3,
        [stageField R.CD_CTL_EN [3] 1], by unfold State.takes State.awake; decide +kernel⟩,
    ⟨rung 1 0xD03 (layout [(1,3),(1,1),(1,7),(1,9),(2,0),(6,0),(8,7),(4,8),(4,9),(4,10),(4,0),(8,11)]) (fun d => (d.put R.MP_STAT_HOMED [3] 1).setAxis 3 { d.axis 3 with flt := false }),
        boot 0 (layout [(1,3),(1,1),(1,7),(1,9),(2,0),(6,0),(8,7),(4,8),(4,9),(4,10),(4,0),(8,11)]), 3, 1, 7, _,
        ⟨by unfold State.takes State.awake; decide +kernel, by decide +kernel, by decide +kernel, by decide +kernel, by decide +kernel, by decide,
        by decide, by decide, by decide +kernel, by decide +kernel, by decide +kernel, by decide +kernel, by decide +kernel, by decide +kernel,
        by decide +kernel, by decide +kernel, rfl, by decide +kernel⟩⟩,
    ⟨rung 1 0xD03 (layout [(1,3),(1,3),(1,7),(1,9),(2,0),(6,0),(8,7),(4,8),(4,9),(4,10),(4,0),(8,11)]) (fun d => d.put R.MP_STAT_STATE [3] 5),
        boot 0 (layout [(1,3),(1,3),(1,7),(1,9),(2,0),(6,0),(8,7),(4,8),(4,9),(4,10),(4,0),(8,11)]), 3,
        by unfold State.takes State.awake; decide +kernel⟩,
    ⟨rung 1 0xD03 (layout [(1,3),(1,1),(1,7),(1,9),(2,0),(6,0),(8,7),(4,8),(4,9),(4,10),(4,0),(8,11)]) (fun d => (d.put R.MP_CFG_HOME_REQ [3] 1).setAxis 3 { d.axis 3 with flt := false }),
        boot 0 (layout [(1,3),(1,1),(1,7),(1,9),(2,0),(6,0),(8,7),(4,8),(4,9),(4,10),(4,0),(8,11)]), 3,
        by unfold State.takes State.awake; decide +kernel⟩,
    ⟨rung 1 0xD03 (layout [(1,3),(1,2),(1,7),(1,9),(2,0),(6,0),(8,7),(4,0xFFFFFFFF),(4,9),(4,10),(4,0),(8,11)]) (fun d => d.setAxis 3 { d.axis 3 with flt := false, limN := true }),
        boot 0 (layout [(1,3),(1,2),(1,7),(1,9),(2,0),(6,0),(8,7),(4,0xFFFFFFFF),(4,9),(4,10),(4,0),(8,11)]), 3,
        by unfold State.takes State.awake; decide +kernel⟩,
    ⟨rung 1 0xD04 (layout [(1,3),(1,1),(2,0)]), boot 0 (layout [(1,3),(1,1),(2,0)]), 3, [stageField R.MP_CTL_STOP [3] 1],
        by unfold State.takes State.awake; decide +kernel⟩,
    ⟨rung 1 0xD05 (layout [(1,3),(1,1),(1,3),(1,0),(2,0)]) (fun d => (d.put R.MP_CFG_FB_CH [3] 3).setAxis 3 { d.axis 3 with flt := false }),
        boot 0 (layout [(1,3),(1,1),(1,3),(1,0),(2,0)]), 3, 3, [stageFields R.FB_LATCH [3] [(R.FB_LATCH_LATCH_SRC, 1), (R.FB_LATCH_LATCH_EDGE, 3)],
        stageField R.MP_HOME_GO [3] 1], by unfold State.takes State.awake; decide +kernel⟩,
    ⟨rung 1 0xD06 (layout [(1,3),(1,0),(2,0),(8,0),(8,7)]), boot 0 (layout [(1,3),(1,0),(2,0),(8,0),(8,7)]), 3, [stageField R.MP_PRESET_PRESET [3] 7,
        stageField R.MP_CTL_SET_POS [3] 1], by unfold State.takes State.awake; decide +kernel⟩,
    ⟨rung 1 0xD07 (layout [(1,3),(1,1)]), boot 0 (layout [(1,3),(1,1)]), 3, by unfold State.takes State.awake; decide +kernel⟩⟩

theorem wit_SecurityCommands :
    (∃ (s : State) (e : Entry), s.takes secQuerySpec e true
      ∧ e.u 12 52 = 0)
    ∧ (∃ (s : State) (e : Entry) (b : List Byte), s.takes attestSpec e true
      ∧ (s.dev.entered e).input e = b
      ∧ e.inLen = 32
      ∧ 352 ≤ e.outLen
      ∧ s.dev.sec.idKey ≠ none)
    ∧ (∃ (s : State) (e : Entry), s.takes attestSpec e true
      ∧ e.inLen = 32
      ∧ 352 ≤ e.outLen
      ∧ s.dev.sec.idKey = none)
    ∧ (∃ (s : State) (e : Entry) (area : List Byte), s.takes idCertSpec e true
      ∧ s.dev.sec.flashRead 0x00FF0000 4096 = area
      ∧ 4096 ≤ e.outLen
      ∧ s.dev.flag R.SEC_STAT_CERT_OK [] = true)
    ∧ (∃ (s : State) (e : Entry), s.takes idCertSpec e true
      ∧ 4096 ≤ e.outLen
      ∧ s.dev.flag R.SEC_STAT_CERT_OK [] = false)
    ∧ (∃ (s : State) (e : Entry) (b : List Byte), s.takes secRequestSpec e true
      ∧ (s.dev.entered e).input e = b
      ∧ (e.inLen = 320 ∨ e.inLen = 520))
    ∧ (∃ (s : State) (e : Entry) (b : List Byte), s.takes debugOpenSpec e true
      ∧ (s.dev.entered e).input e = b
      ∧ (e.inLen = 320 ∨ e.inLen = 520)
      ∧ fieldAt b 6 1 = 5)
    ∧ (∃ (s : State) (e : Entry) (t goal : Nat), s.takes svnCommitSpec e true
      ∧ (if e.u 12 2 = 0xFFFF then s.dev.get R.SEC_BOOT_IMAGE_SVN [] else e.u 12 2) = t
      ∧ (e.u 12 2 ≤ 4096 ∨ e.u 12 2 = 0xFFFF)
      ∧ e.u 14 50 = 0
      ∧ s.dev.flag R.SEC_SVN_REQ_BUSY [] = false
      ∧ min t (s.dev.get R.SEC_BOOT_IMAGE_SVN []) = goal
      ∧ s.dev.sec.floor < goal)
    ∧ (∃ (s : State) (e : Entry) (t : Nat), s.takes svnCommitSpec e true
      ∧ (if e.u 12 2 = 0xFFFF then s.dev.get R.SEC_BOOT_IMAGE_SVN [] else e.u 12 2) = t
      ∧ (e.u 12 2 ≤ 4096 ∨ e.u 12 2 = 0xFFFF)
      ∧ e.u 14 50 = 0
      ∧ s.dev.flag R.SEC_SVN_REQ_BUSY [] = false
      ∧ min t (s.dev.get R.SEC_BOOT_IMAGE_SVN []) ≤ s.dev.sec.floor)
    ∧ (∃ (s : State) (e : Entry) (b : List Byte) (slot off : Nat), s.takes fwStageSpec e true
      ∧ (s.dev.entered e).input e = b
      ∧ fieldAt b 0 1 = slot
      ∧ fieldAt b 4 4 = off
      ∧ 8 ≤ e.inLen
      ∧ slot ≤ 1
      ∧ fieldAt b 1 3 = 0
      ∧ off % 4096 = 0
      ∧ off + (e.inLen - 8) ≤ 16777216
      ∧ slot ≠ s.dev.get R.SEC_BOOT_SLOT [])
    ∧ (∃ (s : State) (e : Entry) (b : List Byte) (slot off : Nat), s.takes fwStageSpec e true
      ∧ (s.dev.entered e).input e = b
      ∧ fieldAt b 0 1 = slot
      ∧ fieldAt b 4 4 = off
      ∧ 8 ≤ e.inLen
      ∧ slot ≤ 1
      ∧ fieldAt b 1 3 = 0
      ∧ off % 4096 = 0
      ∧ off + (e.inLen - 8) ≤ 16777216
      ∧ slot = s.dev.get R.SEC_BOOT_SLOT [])
    ∧ (∃ (s : State) (e : Entry) (slot : Nat), s.takes fwActivateSpec e true
      ∧ e.u 12 1 = slot
      ∧ slot ≤ 1
      ∧ e.u 13 51 = 0
      ∧ 1 ≤ s.dev.lifecycle
      ∧ s.dev.lifecycle ≤ 4)
    ∧ (∃ (s : State) (e : Entry), s.takes debugChallengeSpec e true
      ∧ e.u 12 52 = 0
      ∧ 2 ≤ s.dev.lifecycle
      ∧ s.dev.lifecycle ≤ 4)
    ∧ (∃ (s : State) (e : Entry), s.takes debugChallengeSpec e true
      ∧ e.u 12 52 = 0
      ∧ (s.dev.lifecycle < 2 ∨ 4 < s.dev.lifecycle)) :=
  ⟨⟨rung 0 0xE00 (layout []), boot 0 (layout []), by unfold State.takes State.awake; decide +kernel⟩,
    ⟨rungWith 0 0xE01 (buffered (zeros 32) 352) (fun d => (windows d).setSec { d.sec with idKey := some 1 }), (buffered (zeros 32) 352), zeros 32,
        by unfold State.takes State.awake; decide +kernel⟩,
    ⟨rungWith 0 0xE01 (buffered (zeros 32) 352) (windows), (buffered (zeros 32) 352), by unfold State.takes State.awake; decide +kernel⟩,
    ⟨rungWith 0 0xE02 (buffered [] 4096) (fun d => (windows d).setFlag R.SEC_STAT_CERT_OK [] true), (buffered [] 4096), _,
        ⟨by unfold State.takes State.awake; decide +kernel, rfl, by decide, by decide +kernel⟩⟩,
    ⟨rungWith 0 0xE02 (buffered [] 4096) (windows), (buffered [] 4096), by unfold State.takes State.awake; decide +kernel⟩,
    ⟨rungWith 0 0xE03 (buffered (zeros 320) 0) (windows), (buffered (zeros 320) 0), zeros 320, by unfold State.takes State.awake; decide +kernel⟩,
    ⟨rungWith 0 0xE08 (buffered (fit 320 [0, 0, 0, 0, 0, 0, 5]) 0) (windows), (buffered (fit 320 [0, 0, 0, 0, 0, 0, 5]) 0), fit 320 [0, 0, 0, 0, 0, 0,
        5], by unfold State.takes State.awake; decide +kernel⟩,
    ⟨rung 1 0xE04 (layout [(2,0xFFFF)]) (fun d => d.put R.SEC_BOOT_IMAGE_SVN [] 4095), boot 0 (layout [(2,0xFFFF)]), 4095, 4095,
        by unfold State.takes State.awake; decide +kernel⟩,
    ⟨rung 1 0xE04 (layout [(2,4096)]), boot 0 (layout [(2,4096)]), 4096, by unfold State.takes State.awake; decide +kernel⟩,
    ⟨rungWith 1 0xE05 (buffered (layout [(4, 1), (4, 4096), (1, 7)]) 0) (windows), (buffered (layout [(4, 1), (4, 4096), (1, 7)]) 0), layout [(4, 1),
        (4, 4096), (1, 7)], 1, 4096, by unfold State.takes State.awake; decide +kernel⟩,
    ⟨rungWith 1 0xE05 (buffered (layout [(4, 0), (4, 4096), (1, 7)]) 0) (windows), (buffered (layout [(4, 0), (4, 4096), (1, 7)]) 0), layout [(4, 0),
        (4, 4096), (1, 7)], 0, 4096, by unfold State.takes State.awake; decide +kernel⟩,
    ⟨rung 1 0xE06 (layout [(1,1)]) (fun d => d.put R.SEC_STAT_LC [] 4), boot 0 (layout [(1,1)]), 1,
        by unfold State.takes State.awake; decide +kernel⟩,
    ⟨rung 0 0xE07 (layout []) (fun d => d.put R.SEC_STAT_LC [] 4), boot 0 (layout []), by unfold State.takes State.awake; decide +kernel⟩,
    ⟨rung 0 0xE07 (layout []) (fun d => d.put R.SEC_STAT_LC [] 5), boot 0 (layout []), by unfold State.takes State.awake; decide +kernel⟩⟩

theorem wit_HealthCommands :
    (∃ (s : State) (e : Entry), s.takes healthQuerySpec e true
      ∧ e.u 12 52 = 0)
    ∧ (∃ (s : State) (e : Entry), s.takes healthLimitsSpec e true
      ∧ e.u 22 42 = 0
      ∧ e.u 18 1 ≤ 3
      ∧ 1440 ≤ e.s 14 2
      ∧ e.s 14 2 ≤ 1840
      ∧ e.s 12 2 < e.s 14 2)
    ∧ (∃ (s : State) (e : Entry), s.takes paceConfigSpec e true
      ∧ e.u 24 40 = 0
      ∧ e.u 12 1 ≤ 3
      ∧ e.u 13 1 ≤ 127
      ∧ -16 ≤ e.s 15 1
      ∧ e.s 15 1 ≤ 15
      ∧ 1 ≤ e.u 18 1
      ∧ e.u 18 1 ≤ 25
      ∧ 1 ≤ e.u 19 1
      ∧ e.u 19 1 ≤ 100
      ∧ 50 ≤ e.u 20 2
      ∧ e.u 20 2 ≤ 10000)
    ∧ (∃ (s : State) (e : Entry), s.takes paceConfigSpec e true
      ∧ e.u 24 40 = 0
      ∧ e.u 12 1 ≤ 3
      ∧ e.u 13 1 ≤ 127
      ∧ -16 ≤ e.s 15 1
      ∧ e.s 15 1 ≤ 15
      ∧ 1 ≤ e.u 18 1
      ∧ e.u 18 1 ≤ 25
      ∧ 1 ≤ e.u 19 1
      ∧ e.u 19 1 ≤ 100
      ∧ 50 ≤ e.u 20 2
      ∧ e.u 20 2 ≤ 10000)
    ∧ (∃ (s : State) (e : Entry), s.takes healthSensorsSpec e true
      ∧ 96 ≤ e.outLen)
    ∧ (∃ (s : State) (e : Entry) (p : PowerX), s.takes healthCountersSpec e true
      ∧ s.dev.pow = p
      ∧ e.u 12 1 ≤ 1
      ∧ e.u 13 51 = 0) :=
  ⟨⟨rung 0 0xF00 (layout []), boot 0 (layout []), by unfold State.takes State.awake; decide +kernel⟩,
    ⟨rung 1 0xF01 (layout [(2,1839),(2,1840),(2,5),(1,3),(1,255),(2,6)]), boot 0 (layout [(2,1839),(2,1840),(2,5),(1,3),(1,255),(2,6)]),
        by unfold State.takes State.awake; decide +kernel⟩,
    ⟨rung 1 0xF02 (layout [(1,3),(1,127),(1,1),(1,240),(2,5),(1,25),(1,100),(2,10000),(2,7)]),
        boot 0 (layout [(1,3),(1,127),(1,1),(1,240),(2,5),(1,25),(1,100),(2,10000),(2,7)]), by unfold State.takes State.awake; decide +kernel⟩,
    ⟨rung 1 0xF02 (layout [(1,3),(1,127),(1,1),(1,15),(2,5),(1,1),(1,1),(2,50),(2,7)]),
        boot 0 (layout [(1,3),(1,127),(1,1),(1,15),(2,5),(1,1),(1,1),(2,50),(2,7)]), by unfold State.takes State.awake; decide +kernel⟩,
    ⟨rungWith 0 0xF03 (buffered [] 96) (windows), (buffered [] 96), by unfold State.takes State.awake; decide +kernel⟩,
    ⟨rung 0 0xF04 (layout [(1,1)]), boot 0 (layout [(1,1)]), running.dev.pow, by unfold State.takes State.awake; decide +kernel⟩⟩

end

end Sys2Proof.Tests
end

section
/-! Scope: what a step, a command and a register write reach. Every command runs in one of four ways, of which the facts that
hold of all commands follow without the commands' own meanings. -/

namespace Sys2Proof.Machine

/-! ### The ways a command runs -/

/-- What `exec` can answer for command `i` in state `s`: a mailbox entry goes through its mailbox, and what waits there if it has
to is the entry `j` without its input (R62, R66); the rows of a full reset act on any device (R470 to R472); every other row acts
on one that is not held in reset, and three of those may raise READY. -/
inductive State.Way (s : State) (i : Instr) : Result → Prop where
  | entry {j : Instr} {c : CmdSpec} {e : Entry} (body : Device → Reply) (hi : mailCommand i = some (c, e))
      (hj : mailCommand j = some (c, { e with inbuf := [] })) : s.Way i (s.command j c e (unitThere i s.dev) body)
  | resets (f : Device → Device) (hi : mailCommand i = none) (hr : entersReset i = true) : s.Way i (s.resets f)
  | liveReady (f : Device → Device) (hi : mailCommand i = none) (hr : entersReset i = false) : s.Way i (s.liveReady f)
  | live (f : Device → Device) (hi : mailCommand i = none) (hr : entersReset i = false) : s.Way i (s.live f)

/-- Every command runs in one of these ways: the rows on a lane, a port or a Palette (R5) are rows on the device that look
whether their unit is present. -/
theorem exec_way (i : Instr) (s : State) : s.Way i (exec i s) := by
  unfold exec
  cases i with
  | nop | identify | setSdn | memAlloc | memFree | openMailbox | closeMailbox | reserveQueues | setMode | recover
  | openSystemQueue | memQuery | linkQuery | calQuery | calLoad | calSwap | calHalt | calResume | calClear | calAttach
  | calRelease | txnOpen | txnStage | txnCommit | txnCancel | txnQuery | epochQuery | laneQuery | laneConfig | laneTrain
  | laneAlign | laneIdle | laneLoop | lanePrbs | laneHist | laneCounters | portQuery | portOpen | portClose | portLink
  | streamRx | vxlCalibrate | vxlReg | ptpConfig | portCounters | capQuery | capStream | capEnable | capRelease
  | capCounters | swConfig | swReference | swRegion | swResult | mdConfig | mdFlush | mdStatement | mdQuery | palQuery
  | palConfig | palEnable | palInject | palSkew | palGvcpImage | palCounters | qOpen | qClose | qQuery | qReset | dmaChannel
  | dmaSubmit | dmaPause | dmaQuery | timeQuery | timeStep | timeSlew | timeIncr | ptpServo | ptpStatus | timingPins
  | timePtm | mwChannel | mwFire | mwWatch | mwGate | bkProgram | bkArm | bkQuery | trgPin | trgStamps | bkAction | fbQuery
  | fbConfig | fbSetPos | fbLatch | fbCompare | fbCounters | axQuery | axConfig | axEnable | axMove | axStop | axHome
  | axSetPos | axCounters | secQuery | attest | idCert | secRequest | svnCommit | fwStage | fwActivate | debugChallenge
  | debugOpen | healthQuery | healthLimits | paceConfig | healthSensors | healthCounters => exact .entry _ rfl rfl
  | linkReset | perstAssert | powerOnReset | brownOut | resetRelease | lifecycleReset => exact .resets _ rfl rfl
  | registerWrite | jtagDebugAccess | hmReadySet => exact .liveReady _ rfl rfl
  | _ => exact .live _ rfl rfl

/-- However a command runs, it leads to a next state and leaves the queue of commands and the invariant of what waits. -/
theorem State.Way.runsOn {s : State} {i : Instr} {r : Result} (h : s.Way i r) : s.runsOn r := by
  cases h with
  | entry body _ hj => exact s.command_runsOn _ _ _ body (by simp [inputPlaced, hj])
  | resets f => exact s.resets_runsOn f
  | liveReady f => exact s.liveReady_runsOn f
  | live f => exact s.live_runsOn f

theorem exec_runsOn (i : Instr) (s : State) : s.runsOn (exec i s) := (exec_way i s).runsOn

/-! ### Steps -/

/-- Settles O1: of the two cases of a step, a queue with a front command is the first. -/
theorem stepRunsFrontCommand : Obligations.StepRunsFrontCommand := by
  intro s i rest h
  simp only [step, h]

/-- Settles O6, from the four ways a command runs. -/
theorem commandsNeverStop : Obligations.CommandsNeverStop := by
  intro i s
  obtain ⟨t, ht, hpending, -⟩ := exec_runsOn i s
  exact ⟨t, ht, hpending⟩

/-! ### Register fields -/

/-- Settles O11: a field's bits are replaced in its register's word, and the word is all of the device that a write of a field
changes. -/
theorem registerFieldsReadBack : Obligations.RegisterFieldsReadBack := by
  refine ⟨fun d f ix v hf => ?same, fun d f g ix v hf hreg hapart => ?apart, fun d f r ix jx v haddr => ?register,
    fun d f ix v => ?rest⟩
  case same => exact d.get_put_same f ix v (decide_eq_true hf)
  case apart => exact d.get_put_apart f g ix v hreg (decide_eq_true hf) (decide_eq_true hapart)
  case register => exact d.rd_put_ne v haddr
  case rest => simp

end Sys2Proof.Machine
end

section
/-! Scope: the byte memories. A copy places the moved entries of the source over a wiped destination, so each byte of the
destination range reads as the source's byte did (R313). -/

namespace Sys2Proof.Machine

/-! ### Sparse maps with entries taken out -/

variable {α : Type}

/-- The canonical form, entry by entry. -/
theorem Sparse.wf_cons_iff [DecidableEq α] (dflt v : α) (k : Nat) (m : Sparse α) :
    Sparse.wf dflt ((k, v) :: m) = true ↔ (v ≠ dflt ∧ ∀ e ∈ m, k < e.1) ∧ Sparse.wf dflt m = true := by
  simp [Sparse.wf]

/-- A filter that keeps the entries of a key leaves what the key reads as. -/
theorem Sparse.get_filter_kept (dflt : α) (p : Nat × α → Bool) (k : Nat) (hp : ∀ v, p (k, v) = true) (m : Sparse α) :
    Sparse.get dflt k (m.filter p) = Sparse.get dflt k m := by
  induction m with
  | nil => rfl
  | cons e m ih =>
    obtain ⟨a, v⟩ := e
    by_cases ha : a = k
    · subst ha
      simp [Sparse.get, hp]
    · by_cases hav : p (a, v) <;> simp [Sparse.get, hav, ha, ih]

/-- A key that no entry lists reads as the default. -/
theorem Sparse.get_unlisted (dflt : α) (k : Nat) (m : Sparse α) (h : ∀ e ∈ m, e.1 ≠ k) : Sparse.get dflt k m = dflt := by
  induction m with
  | nil => rfl
  | cons e m ih =>
    obtain ⟨hk, hm⟩ := List.forall_mem_cons.1 h
    simp [Sparse.get, hk, ih hm]

/-- A wiped byte reads as the fill. -/
theorem wipeRange_get_inside (m : Sparse Byte) (fill : Byte) (a n b : Nat) (h : a ≤ b ∧ b < a + n) :
    Sparse.get fill b (wipeRange m a n) = fill := by
  refine Sparse.get_unlisted fill b _ (fun e he hb => ?_)
  have hout := (List.mem_filter.1 he).2
  subst hb
  simp [h] at hout

/-! ### Copies -/

/-- The entries `l` of a source range that begins at `a`, placed one by one over the memory `m` from `b` on. -/
def placeMoved (fill : Byte) (a b : Nat) (l m : Sparse Byte) : Sparse Byte :=
  l.foldl (fun m e => m.put fill (e.1 - a + b) e.2) m

@[simp] theorem placeMoved_nil (fill : Byte) (a b : Nat) (m : Sparse Byte) : placeMoved fill a b [] m = m := rfl

theorem placeMoved_cons (fill x : Byte) (a b k : Nat) (l m : Sparse Byte) :
    placeMoved fill a b ((k, x) :: l) m = placeMoved fill a b l (m.put fill (k - a + b) x) := rfl

theorem copySparse_eq_placeMoved (src dst : Sparse Byte) (fill : Byte) (a b n : Nat) :
    copySparse src dst fill a b n
      = placeMoved fill a b (src.filter (fun e => decide (a ≤ e.1 ∧ e.1 < a + n))) (wipeRange dst b n) := rfl

/-- A byte to which no entry moves stays. -/
theorem placeMoved_get_unlisted (fill : Byte) (a b k : Nat) (l m : Sparse Byte) (hlow : ∀ e ∈ l, a ≤ e.1)
    (hk : ∀ e ∈ l, e.1 ≠ a + k) : Sparse.get fill (b + k) (placeMoved fill a b l m) = Sparse.get fill (b + k) m := by
  induction l generalizing m with
  | nil => rfl
  | cons e l ih =>
    obtain ⟨c, x⟩ := e
    obtain ⟨hc, hlow⟩ := List.forall_mem_cons.1 hlow
    obtain ⟨hck, hk⟩ := List.forall_mem_cons.1 hk
    rw [placeMoved_cons, ih _ hlow hk, Sparse.get_put_ne _ _ _ (by simp only at hc hck; omega)]

/-- A byte that read as the fill reads as the moved entries have it: keys rise, so at most one of the entries moves there. -/
theorem placeMoved_get (fill : Byte) (a b k : Nat) (l m : Sparse Byte) (hwf : Sparse.wf fill l = true)
    (hlow : ∀ e ∈ l, a ≤ e.1) (hm : Sparse.get fill (b + k) m = fill) :
    Sparse.get fill (b + k) (placeMoved fill a b l m) = Sparse.get fill (a + k) l := by
  induction l generalizing m with
  | nil => exact hm
  | cons e l ih =>
    obtain ⟨c, x⟩ := e
    obtain ⟨⟨-, hrise⟩, hwf⟩ := (Sparse.wf_cons_iff fill x c l).1 hwf
    obtain ⟨hc, hrest⟩ := List.forall_mem_cons.1 hlow
    rw [placeMoved_cons]
    by_cases hck : c = a + k
    · subst hck
      rw [placeMoved_get_unlisted fill a b k l _ hrest (fun e he => (hrise e he).ne'), show a + k - a + b = b + k by omega]
      simp [Sparse.get]
    · have hne : b + k ≠ c - a + b := by simp only at hc; omega
      rw [ih _ hwf hrest (by rw [Sparse.get_put_ne _ _ _ hne, hm])]
      simp [Sparse.get, hck]

/-- A copied byte reads as its source. -/
theorem copySparse_get (src dst : Sparse Byte) (fill : Byte) (a b n k : Nat) (hwf : Sparse.wf fill src = true) (hk : k < n) :
    Sparse.get fill (b + k) (copySparse src dst fill a b n) = Sparse.get fill (a + k) src := by
  rw [copySparse_eq_placeMoved, placeMoved_get fill a b k _ _ (Sparse.wf_filter _ _ _ hwf) (fun e he => ?low)
    (wipeRange_get_inside dst fill b n _ (by omega)), Sparse.get_filter_kept _ _ _ (fun v => by simpa using hk)]
  case low => exact (of_decide_eq_true (List.mem_filter.1 he).2).1

/-! ### Writes -/

/-- A byte outside the written range stays. -/
theorem writeBytes_get_outside (m : Sparse Byte) (fill fill' : Byte) (a b : Nat) (bs : List Byte)
    (h : b < a ∨ a + bs.length ≤ b) : Sparse.get fill' b (writeBytes m fill a bs) = Sparse.get fill' b m :=
  h.elim (writeBytes_get_before m fill fill' a b bs) (writeBytes_get_after m fill fill' a b bs)

/-- Settles O12: the two memories are byte maps, and a write, a wipe and a copy of a byte map are each a sequence of single
writes and of entries taken out. -/
theorem memoriesReadBack : Obligations.MemoriesReadBack := by
  refine ⟨fun d a i bs hi => ?hbmSame, fun d a b bs hb => ?hbmElse, fun d a i bs hi => ?hostSame, fun d a b bs hb => ?hostElse,
    fun m src a b n bs fill hm => ?form, fun m src fill a b n k hsrc hk => ?copied⟩
  case hbmSame => exact writeBytes_get d.hbm hbmFill a i bs hi
  case hbmElse => exact writeBytes_get_outside d.hbm hbmFill hbmFill a b bs hb
  case hostSame => exact writeBytes_get d.hostMem hostFill a i bs hi
  case hostElse => exact writeBytes_get_outside d.hostMem hostFill hostFill a b bs hb
  case form => exact ⟨writeBytes_wf m fill a bs hm, wipeRange_wf m fill a n hm, copySparse_wf src m fill a b n hm⟩
  case copied => exact copySparse_get src m fill a b n k hsrc hk

end Sys2Proof.Machine
end

section
/-! Scope: the sequencers' rows (R69, R74, R75, R81, R84, R88 to R90). Each row is a store that reaches its unit, or an event
of the sequencer itself; what the unit then does is read off its definition once, case by case. -/

namespace Sys2Proof.Machine

/-! ### Flags, and what leaves them -/

@[simp] theorem Device.setFlag_ctl (d : Device) (f : Fld) (ix : List Nat) (b : Bool) : (d.setFlag f ix b).ctl = d.ctl := rfl

/-- A flag inside its register reads as it was set. -/
theorem Device.flag_setFlag_same (d : Device) (f : Fld) (ix : List Nat) (b : Bool) (hf : f.fits = true) (hw : 0 < f.width) :
    (d.setFlag f ix b).flag f ix = b := by
  have h1 : 1 % 2 ^ f.width = 1 := Nat.mod_eq_of_lt (Nat.one_lt_two_pow hw.ne')
  cases b <;> simp [Device.flag, Device.setFlag, Device.get_put_same d f ix _ hf, b2n, h1]

theorem Device.flag_setFlag_apart (d : Device) (f g : Fld) (ix : List Nat) (b : Bool) (hr : g.reg = f.reg) (hf : f.fits = true)
    (ha : f.apart g = true) : (d.setFlag f ix b).flag g ix = d.flag g ix := by
  simp [Device.flag, Device.setFlag, Device.get_put_apart d f g ix _ hr hf ha]

theorem Device.flag_setFlag_ne (d : Device) {f g : Fld} {ix jx : List Nat} (b : Bool) (h : g.reg.addr jx ≠ f.reg.addr ix) :
    (d.setFlag f ix b).flag g jx = d.flag g jx := by
  simp [Device.flag, Device.setFlag, Device.get_put_ne d _ h]

@[simp] theorem Device.setCtl_flag (d : Device) (c : ControlX) (f : Fld) (ix : List Nat) : (d.setCtl c).flag f ix = d.flag f ix := rfl
@[simp] theorem Device.setSeq_flag (d : Device) (n : Nat) (x : SeqX) (f : Fld) (ix : List Nat) :
    (d.setSeq n x).flag f ix = d.flag f ix := rfl
@[simp] theorem Device.setRoll_flag (d : Device) (n : Nat) (bank : Bool) (r : Roll) (f : Fld) (ix : List Nat) :
    (d.setRoll n bank r).flag f ix = d.flag f ix := rfl

/-- An awakened booth changes in its state register alone. -/
@[simp] theorem Device.wake_hbm (d : Device) (b : Nat) : (d.wake b).hbm = d.hbm := by
  unfold Device.wake
  split <;> rfl

/-- Entering a step leaves the rolls of both banks. -/
theorem Device.roll_setSeq_entered (d : Device) (n : Nat) (b : Bool) :
    (d.setSeq n { d.seq n with entered := b }).roll n = d.roll n := by
  cases hbank : d.flag R.CAL_CTL_BANK [n] <;> simp [Device.roll, hbank]

/-! ### The roll loader (R84) -/

/-- Which bank stands by is told by CAL_CTL alone. -/
@[simp] theorem Device.setCtl_standby (d : Device) (c : ControlX) (n : Nat) : (d.setCtl c).standby n = d.standby n := rfl

/-- VALID of either bank stands in CAL_STAT. -/
theorem validFld_reg (bank : Bool) : (validFld bank).reg = R.CAL_STAT := by cases bank <;> rfl

theorem validFld_fits (bank : Bool) : (validFld bank).fits = true := by cases bank <;> decide

theorem validFld_width (bank : Bool) : (validFld bank).width = 1 := by cases bank <;> rfl

/-- VALID of either bank has no bit in common with LOADING. -/
theorem validFld_apart_loading (bank : Bool) : (validFld bank).apart R.CAL_STAT_LOADING = true := by cases bank <;> decide

/-- The loader's register is none of the sequencers' own. -/
theorem ldCtl_addr_ne_stat (n : Nat) : R.CAL_LD_CTL.addr [] ≠ R.CAL_STAT.addr [n] := by
  simp only [Reg.addr, R.CAL_LD_CTL, R.CAL_STAT, strideSum]
  omega

theorem ctl_addr_ne_ldCtl (n : Nat) : R.CAL_CTL.addr [n] ≠ R.CAL_LD_CTL.addr [] := by
  simp only [Reg.addr, R.CAL_LD_CTL, R.CAL_CTL, strideSum]
  omega

theorem ctl_addr_ne_stat (n : Nat) : R.CAL_CTL.addr [n] ≠ R.CAL_STAT.addr [n] := by
  simp only [Reg.addr, R.CAL_CTL, R.CAL_STAT, strideSum]
  omega

/-- A load of sequencer `n` has begun: BUSY and LOADING are set, the address and the standby bank are held, and the standby
bank is empty and not VALID. -/
def Device.loadStarted (d : Device) (n : Nat) : Device :=
  ((((d.setFlag R.CAL_LD_CTL_BUSY [] true).setFlag R.CAL_STAT_LOADING [n] true).setCtl
    { d.ctl with load := some (n, d.get R.CAL_LD_ADDR_ADDR [], d.standby n) }).setFlag (validFld (d.standby n)) [n] false).setRoll n
      (d.standby n) {}

section

variable {d : Device} {n : Nat}

/-- GO of an idle loader, for the sequencer that SEQ names, with an image in the region starts the load. -/
theorem Device.loadGo_starts (hseq : d.get R.CAL_LD_CTL_SEQ [] = n) (hbusy : d.flag R.CAL_LD_CTL_BUSY [] = false)
    (hswap : d.swapPending n = false) (hfused : d.seqFused n = false) (him : d.imageInside (d.get R.CAL_LD_ADDR_ADDR []) = true) :
    d.loadGo = d.loadStarted n := by
  have hbank : ((d.setFlag R.CAL_LD_CTL_BUSY [] true).setFlag R.CAL_STAT_LOADING [n] true).standby n = d.standby n := by
    unfold Device.standby
    rw [Device.flag_setFlag_ne _ _ (ctl_addr_ne_stat n), Device.flag_setFlag_ne _ _ (ctl_addr_ne_ldCtl n)]
  simp [Device.loadGo, Device.loadStarted, hseq, hbusy, hswap, hfused, him, hbank]

/-- While a swap of the sequencer is pending GO is refused PENDING. -/
theorem Device.loadGo_pending (hseq : d.get R.CAL_LD_CTL_SEQ [] = n) (hbusy : d.flag R.CAL_LD_CTL_BUSY [] = false)
    (hswap : d.swapPending n = true) : d.loadGo = d.loadResult 4 0 false := by
  simp [Device.loadGo, hseq, hbusy, hswap]

/-- GO for a sequencer of a fused booth is refused NOT_PRESENT. -/
theorem Device.loadGo_notPresent (hseq : d.get R.CAL_LD_CTL_SEQ [] = n) (hbusy : d.flag R.CAL_LD_CTL_BUSY [] = false)
    (hswap : d.swapPending n = false) (hfused : d.seqFused n = true) : d.loadGo = d.loadResult 5 0 false := by
  simp [Device.loadGo, hseq, hbusy, hswap, hfused]

/-- GO with an image that does not lie in the region is refused SOURCE. -/
theorem Device.loadGo_source (hseq : d.get R.CAL_LD_CTL_SEQ [] = n) (hbusy : d.flag R.CAL_LD_CTL_BUSY [] = false)
    (hswap : d.swapPending n = false) (hfused : d.seqFused n = false) (him : d.imageInside (d.get R.CAL_LD_ADDR_ADDR []) = false) :
    d.loadGo = d.loadResult 1 0 false := by
  simp [Device.loadGo, hseq, hbusy, hswap, hfused, him]

theorem Device.loadStarted_busy (d : Device) (n : Nat) : (d.loadStarted n).flag R.CAL_LD_CTL_BUSY [] = true := by
  have hvalid : R.CAL_LD_CTL_BUSY.reg.addr [] ≠ (validFld (d.standby n)).reg.addr [n] := by
    rw [validFld_reg]
    exact ldCtl_addr_ne_stat n
  unfold Device.loadStarted
  rw [Device.setRoll_flag, Device.flag_setFlag_ne _ _ hvalid, Device.setCtl_flag, Device.flag_setFlag_ne _ _ (ldCtl_addr_ne_stat n),
    Device.flag_setFlag_same _ _ _ _ (by decide) (by decide)]

theorem Device.loadStarted_loading (d : Device) (n : Nat) : (d.loadStarted n).flag R.CAL_STAT_LOADING [n] = true := by
  unfold Device.loadStarted
  rw [Device.setRoll_flag, Device.flag_setFlag_apart _ _ _ _ _ (validFld_reg _).symm (validFld_fits _) (validFld_apart_loading _),
    Device.setCtl_flag, Device.flag_setFlag_same _ _ _ _ (by decide) (by decide)]

theorem Device.loadStarted_invalid (d : Device) (n : Nat) : (d.loadStarted n).flag (validFld (d.standby n)) [n] = false := by
  unfold Device.loadStarted
  rw [Device.setRoll_flag, Device.flag_setFlag_same _ _ _ _ (validFld_fits _) (by rw [validFld_width]; decide)]

theorem Device.loadStarted_load (d : Device) (n : Nat) :
    (d.loadStarted n).ctl.load = some (n, d.get R.CAL_LD_ADDR_ADDR [], d.standby n) := rfl

theorem Device.loadDone_of_load {a : Nat} {bank : Bool} (h : d.ctl.load = some (n, a, bank)) : d.loadDone = d.loadEnd n a bank := by
  simp [Device.loadDone, h]

/-- SEQ reads the sequencer written into it. -/
theorem Device.get_put_ldSeq (d : Device) (n : Fin 16) : (d.put R.CAL_LD_CTL_SEQ [] n.val).get R.CAL_LD_CTL_SEQ [] = n.val := by
  rw [Device.get_put_same _ _ _ _ (by decide)]
  exact Nat.mod_eq_of_lt n.isLt

/-! ### Control writes (R69, R89, R90) -/

theorem Device.calHalt_active (h : d.seqState n = 1 ∨ d.seqState n = 2) : d.calHalt n = (d.setSeqState n 3).adoptSwap n := if_pos h

theorem Device.calResume_halted (h : d.seqState n = 3) :
    d.calResume n = if (d.seq n).entered then d.beginWait n else d.setSeqState n 1 := if_neg (not_not.2 h)

/-- A halted or faulted sequencer as CLEAR leaves it: IDLE, with CAL_FAULT 0 and its step not entered. -/
theorem Device.calClear_stopped (h : d.seqState n = 3 ∨ d.seqState n = 4) :
    d.calClear n = ((d.setSeqState n 0).wr R.CAL_FAULT [n] 0).setSeq n { d.seq n with entered := false } := if_pos h

@[simp] theorem Device.setSeqState_hbm (d : Device) (n st : Nat) : (d.setSeqState n st).hbm = d.hbm := rfl

/-- Only CAL12 to CAL15 take an attachment. -/
theorem Device.calAttach_fixed (h : n < 12) (booths home : Nat) : d.calAttach n booths home = d := if_pos (.inl h)

/-- A spare sequencer in IDLE or HALTED takes a mask that is empty or holds its home booth. -/
theorem Device.calAttach_spare {booths home : Nat} (hn : 12 ≤ n) (hst : d.seqState n = 0 ∨ d.seqState n = 3) (hb : booths < 2 ^ 15)
    (hh : home < 16) (hbit : booths ≠ 0 → bit booths home = true) :
    d.calAttach n booths home = ((d.put R.CAL_ATTACH_BOOTHS [n] booths).put R.CAL_ATTACH_HOME [n] home).showAttach := by
  refine if_neg ?_
  rw [Nat.mod_eq_of_lt hb, Nat.mod_eq_of_lt hh]
  rintro (hlow | ⟨hidle, hhalted⟩ | ⟨hsome, hhome⟩)
  · omega
  · exact hst.elim hidle hhalted
  · simp [hbit hsome] at hhome

/-! ### Steps and waits (R74 to R78) -/

/-- A step without a swap point issues its words and, where the sequencer still runs after them, begins its wait. -/
theorem Device.stepEntry_running {st : Step} (hst : d.seqState n = 1) (hstep : d.seqStep n = some st) (hswap : st.swap = false)
    {t : Device} (ht : t = Device.issueWords n (d.get R.CAL_STAT_PC [n]) (((d.roll n).words.drop st.wbase).take st.wcount) 0
      (d.setSeq n { d.seq n with entered := true })) :
    d.stepEntry n = if t.seqState n = 1 then t.beginWait n else t := by
  subst ht
  simp [Device.stepEntry, hst, hstep, hswap, Device.roll_setSeq_entered]

theorem Device.timeWaitEnd_holds {st : Step} (hst : d.seqState n = 2) (hstep : d.seqStep n = some st) (hkind : st.wkind = 3)
    (hw : d.waitHolds n st = true) : d.timeWaitEnd n = d.leaveStep n st false := by
  simp [Device.timeWaitEnd, hstep, hst, hkind, hw]

theorem Device.waitTimeout_come {st : Step} (hst : d.seqState n = 2) (hstep : d.seqStep n = some st) (htout : st.tout = true)
    (hcome : ttGe d.tt (d.waitTarget n st) = true) : d.waitTimeout n = d.leaveStep n st (!d.waitHolds n st) := by
  simp [Device.waitTimeout, hstep, hst, htout, hcome]

end

/-! ### The rows -/

/-- A store of CAL_TRELk reaches the time register (R81). -/
theorem Device.poke_calTrel (d : Device) (n : Fin 16) (k : Fin 4) (v : Word) (hp : n.val < 8 → d.portPresent n.val = true) :
    d.poke R.CAL_TREL [n.val, k.val] v = (d.wake 14).calTrel n.val k.val v := by
  have hf : ∀ (n : Fin 16) (k : Fin 4), findReg (R.CAL_TREL.addr [n.val, k.val])
      = some (⟨R.CAL_TREL, [R.CAL_TREL_TIME]⟩, [n.val, k.val]) := by decide +kernel
  have hb : ∀ (n : Fin 16) (k : Fin 4), boothOf (R.CAL_TREL.addr [n.val, k.val]) = some 14 := by decide +kernel
  have hs : ∀ (n : Fin 16) (k : Fin 4), R.CAL_TREL.addr [n.val, k.val] % 0x100000 / 0x1000 = n.val := by decide +kernel
  unfold Device.poke
  rw [d.regStore_free _ _ v _ _ 14 (hf n k) (hb n k) (d.fusedAddr_seq n hp (hb n k) (hs n k)) (by decide) (by decide) (by decide)]
  simp (decide := true) only [Device.admitted, Device.controlStore, if_true, if_false]
  exact congrArg ((d.wake 14).calTrel n.val k.val) BitVec.and_allOnes

section

variable {s : State} (h : s.awake)
include h

theorem State.does_calLoadGo (n : Fin 16) : s.does (.calLoadGo n) ((s.dev.wake 14).put R.CAL_LD_CTL_SEQ [] n.val).loadGo :=
  State.does_of_live (f := (·.strike [] [(R.CAL_LD_CTL_SEQ, n.val), (R.CAL_LD_CTL_GO, 1)])) rfl h (s.dev.struck_calLoadGo n)

theorem State.does_rollLoadDone : s.does .rollLoadDone s.dev.loadDone :=
  State.does_of_live (f := Device.loadDone) rfl h rfl

theorem State.does_calliopeStepEntry (n : Fin 16) : s.does (.calliopeStepEntry n) (s.dev.stepEntry n.val) :=
  State.does_of_live (f := (·.stepEntry n.val)) rfl h rfl

theorem State.does_calTimeWaitExpire (n : Fin 16) : s.does (.calTimeWaitExpire n) (s.dev.timeWaitEnd n.val) :=
  State.does_of_live (f := (·.timeWaitEnd n.val)) rfl h rfl

theorem State.does_calTimeout (n : Fin 16) : s.does (.calTimeout n) (s.dev.waitTimeout n.val) :=
  State.does_of_live (f := (·.waitTimeout n.val)) rfl h rfl

variable {n : Fin 16} (hp : n.val < 8 → s.dev.portPresent n.val = true)
include hp

theorem State.does_calHaltWrite : s.does (.calHaltWrite n) ((s.dev.wake 14).calHalt n.val) :=
  State.does_of_live (f := (·.strike [n.val] [(R.CAL_CMD_HALT, 1)])) rfl h (s.dev.struck_calHalt n hp)

theorem State.does_calResumeWrite : s.does (.calResumeWrite n) ((s.dev.wake 14).calResume n.val) :=
  State.does_of_live (f := (·.strike [n.val] [(R.CAL_CMD_RESUME, 1)])) rfl h (s.dev.struck_calResume n hp)

theorem State.does_calClearWrite : s.does (.calClearWrite n) ((s.dev.wake 14).calClear n.val) :=
  State.does_of_live (f := (·.strike [n.val] [(R.CAL_CMD_CLEAR, 1)])) rfl h (s.dev.struck_calClear n hp)

theorem State.does_calAttachWrite (booths home : Nat) :
    s.does (.calAttachWrite n booths home) ((s.dev.wake 14).calAttach n.val (booths % 2 ^ 15) (home % 2 ^ 4)) :=
  State.does_of_live (f := (·.strike [n.val] [(R.CAL_ATTACH_BOOTHS, booths), (R.CAL_ATTACH_HOME, home)])) rfl h
    (s.dev.struck_calAttach n booths home hp)

theorem State.does_calTrelWrite (k : Fin 4) (v : Word) :
    s.does (.calTrelWrite n k v) ((s.dev.wake 14).calTrel n.val k.val v) :=
  State.does_of_live (f := (·.poke R.CAL_TREL [n.val, k.val] v)) rfl h (s.dev.poke_calTrel n k v hp)

end

/-- Settles O16: each row does what its unit does, and the hypotheses of each clause pick one case of the unit's meaning. -/
theorem calliopeRows : Obligations.CalliopeRows := by
  refine ⟨?started, ?refused, ?loaded, ?halt, ?resume, ?clear, ?attach, ?attachFixed, ?trel, ?entry, ?timeWait, ?timeout⟩
  case started =>
    rintro s n d h rfl hbusy hswap hfused him
    have hstart := Device.loadGo_starts (Device.get_put_ldSeq _ n) hbusy hswap hfused him
    exact ⟨_, hstart ▸ s.does_calLoadGo h n, Device.loadStarted_busy _ _, Device.loadStarted_loading _ _,
      Device.loadStarted_load _ _, Device.loadStarted_invalid _ _, rfl, rfl⟩
  case refused =>
    rintro s n d h rfl hbusy
    have hgo := State.does_calLoadGo h n
    have hseq := Device.get_put_ldSeq (s.dev.wake 14) n
    exact ⟨fun hswap => Device.loadGo_pending hseq hbusy hswap ▸ hgo,
      fun hswap hfused => Device.loadGo_notPresent hseq hbusy hswap hfused ▸ hgo,
      fun hswap hfused him => Device.loadGo_source hseq hbusy hswap hfused him ▸ hgo⟩
  case loaded =>
    intro s n a bank h hload
    exact Device.loadDone_of_load hload ▸ State.does_rollLoadDone h
  case halt =>
    intro s n h hp hst
    exact Device.calHalt_active hst ▸ State.does_calHaltWrite h hp
  case resume =>
    intro s n h hp hst
    exact Device.calResume_halted hst ▸ State.does_calResumeWrite h hp
  case clear =>
    intro s n h hp hst
    exact ⟨_, Device.calClear_stopped hst ▸ State.does_calClearWrite h hp, by simp, by simp, by simp⟩
  case attach =>
    intro s n booths home h hn hb hh hst hbit
    have hdoes := State.does_calAttachWrite h (n := n) (by omega) booths home
    rw [Nat.mod_eq_of_lt hb, Nat.mod_eq_of_lt (show home < 2 ^ 4 from hh)] at hdoes
    exact Device.calAttach_spare hn hst hb hh hbit ▸ hdoes
  case attachFixed =>
    intro s n booths home h hn hp
    have hdoes := State.does_calAttachWrite h hp booths home
    rwa [Device.calAttach_fixed hn] at hdoes
  case trel =>
    intro s n k v h hp
    exact State.does_calTrelWrite h hp k v
  case entry =>
    intro s n st h hst hstep hswap
    have hdoes := Device.stepEntry_running hst hstep hswap rfl ▸ State.does_calliopeStepEntry h n
    exact ⟨_, rfl, fun hrun => by rwa [if_pos hrun] at hdoes, fun hstop => by rwa [if_neg hstop] at hdoes⟩
  case timeWait =>
    intro s n st h hst hstep hkind hw
    exact Device.timeWaitEnd_holds hst hstep hkind hw ▸ State.does_calTimeWaitExpire h n
  case timeout =>
    intro s n st h hst hstep htout hcome
    exact Device.waitTimeout_come hst hstep htout hcome ▸ State.does_calTimeout h n

end Sys2Proof.Machine
end

section
/-! Scope: the mailbox interface between commands (R52, R54, R57 to R67, R322, R470): what a step does on an empty queue, what may
go on waiting, and what firmware makes of an entry before its command is looked at. -/

namespace Sys2Proof.Machine

/-! ### A step on an empty queue -/

theorem step_empty {s : State} (hp : s.pending = []) : step s = s.idle := by
  simp only [step, hp]

theorem State.idle_held {s : State} (h : s.dev.sec.inReset = true) : s.idle = .next s := if_pos h

theorem State.idle_starts {s : State} {i : Instr} (h : s.awake)
    (hi : State.startable s.settle.fetch.dev [] s.settle.fetch.waiting = some i) : s.idle = s.settle.fetch.start i := by
  have hr : ¬ s.dev.sec.inReset = true := ne_true_of_eq_false h
  simp only [State.idle, if_neg hr, hi]

theorem State.idle_ticks {s : State} (h : s.awake) (hi : State.startable s.settle.fetch.dev [] s.settle.fetch.waiting = none) :
    s.idle = .next ({ s.settle.fetch with dev := s.settle.fetch.dev.tickAll } : State).settle := by
  have hr : ¬ s.dev.sec.inReset = true := ne_true_of_eq_false h
  simp only [State.idle, if_neg hr, hi]

/-- Settles O2: the two cases of a step on an empty queue, and the two of what is startable. -/
theorem emptyQueueStep : Obligations.EmptyQueueStep := by
  refine ⟨fun s hp h => ?held, fun s i hp h hi => ?starts, fun s hp h hi => ?ticks⟩
  case held => rw [step_empty hp, State.idle_held h]
  case starts => rw [step_empty hp, State.idle_starts h hi]
  case ticks => rw [step_empty hp, State.idle_ticks h hi]

/-! ### The invariant of what waits -/

/-- The start of an entry ends in serving, before which every input that waits is placed if every one was. -/
theorem State.start_settles (s : State) (i : Instr) : ∃ u : State, s.start i = .next u.settle ∧ (s.inputsPlaced → u.inputsPlaced) := by
  obtain ⟨t, ht, -, -, hplaced⟩ := exec_runsOn i { s with waiting := s.waiting.filter (fun j => decide (viaOf j ≠ viaOf i)) }
  refine ⟨{ t with waiting := t.waiting ++ (s.waiting.filter (fun j => decide (viaOf j = viaOf i))).drop 1 }, ?_, fun h j hj => ?_⟩
  · simp only [State.start, ht]
  · have hothers := hplaced fun k hk => h k (List.mem_of_mem_filter hk)
    rcases List.mem_append.1 hj with hj | hj
    · exact hothers j hj
    · exact h j (List.mem_of_mem_filter (List.mem_of_mem_drop hj))

/-- What an awake device does by itself ends in serving, and places what was placed. -/
theorem State.idle_settles {s : State} (h : s.awake) : ∃ u : State, s.idle = .next u.settle ∧ (s.inputsPlaced → u.inputsPlaced) := by
  have hfetch : s.inputsPlaced → s.settle.fetch.inputsPlaced := fun hs j hj =>
    State.inputsPlaced_settle hs j (s.settle.fetch_waiting ▸ hj)
  cases hi : State.startable s.settle.fetch.dev [] s.settle.fetch.waiting with
  | some i =>
    obtain ⟨u, hu, hplaced⟩ := s.settle.fetch.start_settles i
    exact ⟨u, (State.idle_starts h hi).trans hu, fun hs => hplaced (hfetch hs)⟩
  | none => exact ⟨_, State.idle_ticks h hi, fun hs j hj => hfetch hs j hj⟩

/-- Settles O4: serving lets nothing but entries of open or rung mailboxes go on waiting, so only the placed inputs have to be
followed through a step. -/
theorem stepKeepsInvariant : Obligations.StepKeepsInvariant := by
  intro s t hs ht
  cases hp : s.pending with
  | nil =>
    rw [step_empty hp] at ht
    by_cases h : s.dev.sec.inReset = true
    · rw [State.idle_held h] at ht
      cases ht
      exact hs
    · obtain ⟨u, hu, hplaced⟩ := State.idle_settles (eq_false_of_ne_true h)
      rw [hu] at ht
      cases ht
      exact u.settle_inv (hplaced hs.inputsPlaced)
  | cons i rest =>
    rw [stepRunsFrontCommand s i rest hp] at ht
    obtain ⟨u, hu, -, hinv, -⟩ := exec_runsOn i { s with pending := rest }
    rw [hu] at ht
    cases ht
    exact hinv hs

/-! ### Serving when nothing is owed -/

/-- A fold whose every step leaves the start as it is. -/
theorem foldl_stays {α β : Type} {f : α → β → α} {a : α} {l : List β} (h : ∀ b ∈ l, f a b = a) : l.foldl f a = a := by
  induction l with
  | nil => rfl
  | cons b l ih =>
    obtain ⟨hb, hl⟩ := List.forall_mem_cons.1 h
    rw [List.foldl_cons, hb, ih hl]

theorem Device.serveUnknown_stays {d : Device} (h : ∀ n, n < 8 → d.unknownRung n = false) : d.serveUnknown = d :=
  foldl_stays fun n hn => by simp [Device.answerUnknown, h n (List.mem_range.1 hn)]

theorem Device.sendOwed_stays {d : Device} (h : d.ctl.owed = []) : d.sendOwed = d := by simp [Device.sendOwed, h]

theorem Device.serveDead_stays {d : Device} (h : d.ctl.works = []) : d.serveDead = d := by simp [Device.serveDead, h]

theorem Device.serveAlone_stays {d : Device} (h : d.ctl.alone = []) : d.serveAlone = d := by simp [Device.serveAlone, h]

theorem Device.serveTx_stays {d : Device} (h : d.ctl.works = []) : d.serveTx = d := by simp [Device.serveTx, h]

theorem Device.serveStaged_stays {d : Device} (h : d.ctl.works = []) : d.serveStaged = d := by simp [Device.serveStaged, h]

theorem Device.releaseQueues_stays {d : Device} (h : ∀ k, 1 ≤ k → k < 256 → (d.mbox k).isOpen = false → (d.ctx (2 * k)).kind ≠ 1) :
    d.releaseQueues = d :=
  foldl_stays fun k hk => if_neg fun ⟨hpos, hclosed, hkind, _⟩ =>
    h k hpos (List.mem_range.1 hk) (by simpa using hclosed) hkind

theorem Device.serve_stays {d : Device} (h : d.fwRuns = false ∨ d.owesNothing) : d.serve = d := by
  unfold Device.serve
  split
  case isFalse => rfl
  case isTrue hruns =>
    obtain ⟨hworks, howed, halone, hclosed, hrung⟩ := h.resolve_left (by simp [hruns])
    rw [Device.serveUnknown_stays hrung, Device.sendOwed_stays howed, Device.serveDead_stays hworks, Device.serveAlone_stays halone,
      Device.serveTx_stays hworks, Device.serveStaged_stays hworks, Device.releaseQueues_stays hclosed]

theorem State.settle_nothing_waits {s : State} (h : s.awake) (hw : s.waiting = []) : s.settle = { s with dev := s.dev.serve } := by
  have hr : ¬ s.dev.sec.inReset = true := ne_true_of_eq_false h
  simp [State.settle, hr, hw]

/-- Settles O7: each part of serving finds nothing to do. -/
theorem nothingOwedNothingServed : Obligations.NothingOwedNothingServed := by
  intro s h hw howes
  rw [State.settle_nothing_waits h hw, Device.serve_stays howes]

/-! ### An entry before its command is looked at (R60 to R63, R66) -/

/-- An entry whose turn has not come is put behind the others (R62, R63, R66). -/
theorem State.command_waits {s : State} {i : Instr} {c : CmdSpec} {e : Entry} {present : Bool} {body : Device → Reply} (h : s.awake)
    (hw : s.dev.mustWait c e = true ∨ s.behind e.via = true) :
    s.command i c e present body = .next ({ s with dev := s.dev.placeInput e, waiting := s.waiting ++ [i] } : State).settle := by
  have hr : ¬ s.dev.sec.inReset = true := ne_true_of_eq_false h
  have hw' : (s.dev.mustWait c e || s.behind e.via) = true := by simpa using hw
  rw [State.command, if_neg hr, if_pos hw']

/-- Settles O8: the first branch of a mailbox command on a device that is awake. -/
theorem mailboxCommandWaits : Obligations.MailboxCommandWaits := by
  intro i s c e hi h hw
  obtain ⟨j, body, hexec, hj⟩ := exec_command s hi
  exact ⟨j, hj, hexec.trans (State.command_waits h hw)⟩

section

variable {s : State} {i : Instr} {c : CmdSpec} {e : Entry} (hi : mailCommand i = some (c, e)) (h : s.awake)
  (hw : s.dev.mustWait c e = false) (hb : s.behind e.via = false) (hh : (s.dev.placeInput e).holds c.opcode e = true)
include hi h hw hb hh

/-- An entry that firmware comes to and that is out of sequence (R61). -/
theorem State.does_outOfSequence {x : Nat} (hx : (s.dev.placeInput e).outOfSequence e = some x) :
    s.does i (((s.dev.placeInput e).takeCommand e).respond e.via c.opcode e.tag.toNat e.seq.toNat stSEQUENCE true (leBytes 4 x)
      false 0) := by
  obtain ⟨j, body, hexec, -⟩ := exec_command s hi
  have hr : s.dev.sec.inReset = false := h
  rw [State.does, hexec]
  simp [State.command, hr, hw, hb, Device.runCommand, hh, Device.takeCommand_outOfSequence, hx]

/-- An entry that firmware takes in sequence and that fails a check of R60 is answered with that check's status. -/
theorem State.answers_refused (hs : (s.dev.placeInput e).outOfSequence e = none)
    (hc : (s.dev.entered e).entryCheck c e (unitThere i s.dev) ≠ stOK) :
    s.answers i c e ((s.dev.entered e).no ((s.dev.entered e).entryCheck c e (unitThere i s.dev))) := by
  obtain ⟨j, body, hexec, -⟩ := exec_command s hi
  have hr : s.dev.sec.inReset = false := h
  have hc' : ¬ ((((s.dev.placeInput e).takeCommand e).advanceSeq e).entryCheck c e (unitThere i s.dev)) = 0 := hc
  rw [State.answers, State.does, hexec]
  simp [State.command, hr, hw, hb, Device.runCommand, hh, Device.takeCommand_outOfSequence, hs, hc', Device.entered]

end

theorem Entry.no_buffers {e : Entry} (hf : e.flags.toNat = 0) : e.hostBuf = false ∧ e.outBuf = false := by
  simp [Entry.hostBuf, Entry.outBuf, hf]

/-- Settles O10: a check of R60 that fails ends the chain of checks, and each clause's hypotheses pass the checks before its own. -/
theorem mailboxEntryRefused : Obligations.MailboxEntryRefused := by
  refine ⟨fun i s c e hi h hw hb hh hs hc => ?refused, fun d c e p hf => ?flags, fun d c e p hf ht hl => ?long,
    fun d c e hf ht hl => ?absent, fun d c e hf ht hmin hmax hspec hin hout hm => ?mode, fun d c e hf ht hl hin hout hn => ?length⟩
  case refused => exact State.answers_refused hi h hw hb hh hs hc
  case flags =>
    have hbits : e.flags.toNat / 8 ≠ 0 := by omega
    simp [Device.entryCheck, hbits, stBAD_FIELD]
  case long =>
    have hbits : e.flags.toNat / 8 = 0 := by omega
    simp [Device.entryCheck, hbits, ht, hl, stBAD_LENGTH]
  case absent =>
    obtain ⟨hnoin, hnoout⟩ := Entry.no_buffers hf
    simp [Device.entryCheck, hf, ht, hnoin, hnoout, Nat.not_lt.2 hl, stNOT_PRESENT]
  case mode =>
    obtain ⟨hnoin, hnoout⟩ := Entry.no_buffers hf
    have hmodes : ¬ d.mode ∈ c.modes := by simpa using hm
    simp [Device.entryCheck, hf, ht, hnoin, hnoout, Nat.not_lt.2 (hmax.trans hspec), Nat.not_lt.2 hmin, Nat.not_lt.2 hmax, hin, hout, hmodes,
      stMODE]
  case length =>
    obtain ⟨hnoin, hnoout⟩ := Entry.no_buffers hf
    simp [Device.entryCheck, hf, ht, hnoin, hnoout, Nat.not_lt.2 hl, hin, hout, hn, stBAD_LENGTH]

end Sys2Proof.Machine
end

section
/-! Scope: the bootstrap mailboxes' control registers as the host writes them (R51, R52). -/

namespace Sys2Proof.Machine

/-- The control register of a bootstrap mailbox is none of the Ringmaster's own. -/
theorem bmbCtl_addr_ne_pend (n : Fin 8) : R.BMB_CTL.addr [n.val] ≠ R.RM_BMB_PEND.addr [] := by
  simp only [Reg.addr, R.BMB_CTL, R.RM_BMB_PEND, strideSum]
  omega

theorem bmbCtl_addr_ne_irq (n : Fin 8) : R.BMB_CTL.addr [n.val] ≠ R.RM_IRQ_PEND.addr [] := by
  simp only [Reg.addr, R.BMB_CTL, R.RM_IRQ_PEND, strideSum]
  omega

/-- Bootstrap mailbox `n` is rung: RING, HELD until firmware runs, and the Ringmaster's pending bit and interrupt. -/
def Device.bmbRung (d : Device) (n : Nat) : Device :=
  let t := (d.setFlag R.BMB_CTL_RING [n] true).setFlag R.BMB_CTL_HELD [n] (!d.ready)
  (t.put R.RM_BMB_PEND_PEND [] (t.get R.RM_BMB_PEND_PEND [] ||| 2 ^ n)).setFlag R.RM_IRQ_PEND_BMB [] true

theorem Device.bmbWrite_while_rung {d : Device} {n : Nat} (h : d.flag R.BMB_CTL_RING [n] = true) (ring done : Bool) :
    d.bmbWrite n ring done = d := if_pos h

theorem Device.bmbWrite_while_done {d : Device} {n : Nat} (h : d.flag R.BMB_CTL_DONE [n] = true) (ring : Bool) :
    d.bmbWrite n ring false = d := by
  simp [Device.bmbWrite, h]

theorem Device.bmbWrite_ring {d : Device} {n : Nat} (hr : d.flag R.BMB_CTL_RING [n] = false) (hd : d.flag R.BMB_CTL_DONE [n] = false) :
    d.bmbWrite n true false = d.bmbRung n := by
  simp only [Device.bmbWrite, hr, hd]
  rfl

theorem Device.bmbWrite_ring_clearing {d : Device} {n : Nat} (hr : d.flag R.BMB_CTL_RING [n] = false) :
    d.bmbWrite n true true = (d.setFlag R.BMB_CTL_DONE [n] false).bmbRung n := by
  simp only [Device.bmbWrite, hr]
  rfl

theorem Device.bmbWrite_clear {d : Device} {n : Nat} (hr : d.flag R.BMB_CTL_RING [n] = false) :
    d.bmbWrite n false true = d.setFlag R.BMB_CTL_DONE [n] false := by
  simp [Device.bmbWrite, hr]

/-- What ringing does to a flag of the mailbox's register other than RING and HELD, and to RING. -/
theorem Device.bmbRung_flag (d : Device) (n : Fin 8) (f : Fld) (hf : f.reg = R.BMB_CTL) (hh : R.BMB_CTL_HELD.apart f = true) :
    (d.bmbRung n.val).flag f [n.val] = (d.setFlag R.BMB_CTL_RING [n.val] true).flag f [n.val] := by
  have hirq : f.reg.addr [n.val] ≠ R.RM_IRQ_PEND_BMB.reg.addr [] := by
    rw [hf]
    exact bmbCtl_addr_ne_irq n
  have hpend : f.reg.addr [n.val] ≠ R.RM_BMB_PEND_PEND.reg.addr [] := by
    rw [hf]
    exact bmbCtl_addr_ne_pend n
  unfold Device.bmbRung
  rw [Device.flag_setFlag_ne _ _ hirq, Device.flag, Device.get_put_ne _ _ hpend, ← Device.flag,
    Device.flag_setFlag_apart _ _ _ _ _ hf (by decide) hh]

theorem Device.bmbRung_ring (d : Device) (n : Fin 8) : (d.bmbRung n.val).flag R.BMB_CTL_RING [n.val] = true := by
  rw [d.bmbRung_flag n _ rfl (by decide), Device.flag_setFlag_same _ _ _ _ (by decide) (by decide)]

theorem Device.bmbRung_done (d : Device) (n : Fin 8) :
    (d.bmbRung n.val).flag R.BMB_CTL_DONE [n.val] = d.flag R.BMB_CTL_DONE [n.val] := by
  rw [d.bmbRung_flag n _ rfl (by decide), d.flag_setFlag_apart R.BMB_CTL_RING R.BMB_CTL_DONE _ _ rfl (by decide) (by decide)]

theorem Device.bmbRung_interrupt (d : Device) (n : Nat) : (d.bmbRung n).flag R.RM_IRQ_PEND_BMB [] = true :=
  Device.flag_setFlag_same _ _ _ _ (by decide) (by decide)

theorem Device.bmbRung_pending (d : Device) (n : Fin 8) : bit ((d.bmbRung n.val).get R.RM_BMB_PEND_PEND []) n.val = true := by
  have hirq : R.RM_BMB_PEND_PEND.reg.addr [] ≠ R.RM_IRQ_PEND_BMB.reg.addr [] := by decide
  unfold Device.bmbRung Device.setFlag
  rw [Device.get_put_ne _ _ hirq, Device.get_put_same _ _ _ _ (by decide)]
  change bit ((_ ||| 2 ^ n.val) % 2 ^ 8) n.val = true
  simp [bit, Nat.testBit_mod_two_pow, -Nat.reducePow]

section

variable {s : State} (h : s.awake) (hreach : s.dev.hostReach = true)
include h hreach

theorem State.does_bmbRing (n : Fin 8) (done : Bool) : s.does (.bmbRing n done) (s.dev.bmbWrite n.val true done) :=
  State.does_of_live (f := fun d => d.bmbRing n done) rfl h (if_pos hreach)

theorem State.does_bmbDoneClear (n : Fin 8) : s.does (.bmbDoneClear n) (s.dev.bmbWrite n.val false true) :=
  State.does_of_live (f := fun d => d.bmbClear n) rfl h (if_pos hreach)

end

/-- Settles O13: each clause is one branch of a write of BMB_CTLn, and the fields it names are apart or in registers apart. -/
theorem bootstrapRing : Obligations.BootstrapRing := by
  refine ⟨fun s n h hreach hring => ?rung, fun s n h hreach hdone => ?done, fun s n h hreach hring => ?both,
    fun s n h hreach hring hdone => ?ring, fun s n h hreach hring => ?clear, fun d n off bs hring => ?slot⟩
  case rung =>
    exact ⟨Device.bmbWrite_while_rung hring true false ▸ State.does_bmbRing h hreach n false,
      Device.bmbWrite_while_rung hring true true ▸ State.does_bmbRing h hreach n true⟩
  case done => exact Device.bmbWrite_while_done hdone true ▸ State.does_bmbRing h hreach n false
  case both =>
    refine ⟨_, Device.bmbWrite_ring_clearing hring ▸ State.does_bmbRing h hreach n true, Device.bmbRung_ring _ n, ?_⟩
    rw [Device.bmbRung_done, Device.flag_setFlag_same _ _ _ _ (by decide) (by decide)]
  case ring =>
    exact ⟨_, Device.bmbWrite_ring hring hdone ▸ State.does_bmbRing h hreach n false, Device.bmbRung_ring _ n,
      Device.bmbRung_interrupt _ _, Device.bmbRung_pending _ n⟩
  case clear =>
    refine ⟨_, Device.bmbWrite_clear hring ▸ State.does_bmbDoneClear h hreach n,
      Device.flag_setFlag_same _ _ _ _ (by decide) (by decide), ?_⟩
    rw [Device.flag_setFlag_apart _ R.BMB_CTL_DONE R.BMB_CTL_RING _ _ rfl (by decide) (by decide), hring]
  case slot => exact if_pos ⟨rfl, hring⟩

end Sys2Proof.Machine
end

section
/-! Scope: which operations leave the mailboxes' own state (open or not, and the number expected next) alone: all but opening,
closing and the start of a command (R55, R57, R61). Followed here through a response and the violation it may raise (R302, R132,
R137). -/

namespace Sys2Proof.Machine

/-! ### Folds and choices -/

theorem Device.foldl_mailboxes {β : Type} {f : Device → β → Device} (h : ∀ d b, (f d b).ctl.mailboxes = d.ctl.mailboxes) (l : List β)
    (d : Device) : (l.foldl f d).ctl.mailboxes = d.ctl.mailboxes := by
  induction l generalizing d with
  | nil => rfl
  | cons b l ih => rw [List.foldl_cons, ih, h]

theorem Device.ite_mailboxes {p : Prop} [Decidable p] {d a b : Device} (ha : a.ctl.mailboxes = d.ctl.mailboxes)
    (hb : b.ctl.mailboxes = d.ctl.mailboxes) : (if p then a else b).ctl.mailboxes = d.ctl.mailboxes := by
  split
  · exact ha
  · exact hb

/-! ### Registers, events and the fault logger -/

@[simp] theorem Device.bump_ctl (d : Device) (f : Fld) (ix : List Nat) : (d.bump f ix).ctl = d.ctl := rfl

@[simp] theorem Device.firingMarks_ctl (d : Device) (c : Nat) : (d.firingMarks c).ctl = d.ctl := by
  unfold Device.firingMarks
  extract_lets d1 d2
  have h2 : d2.ctl = d1.ctl := by
    unfold d2
    split <;> rfl
  split
  · exact h2
  · exact h2

@[simp] theorem Device.fireStamped_ctl (d : Device) (c : Nat) (stamp : Option TT) : (d.fireStamped c stamp).ctl = d.ctl := by
  unfold Device.fireStamped
  split
  · rfl
  · exact Device.firingMarks_ctl _ c

@[simp] theorem Device.fire_ctl (d : Device) (c : Nat) : (d.fire c).ctl = d.ctl := d.fireStamped_ctl c none

@[simp] theorem Device.fireIf_ctl (d : Device) (en sel : Fld) (ix : List Nat) : (d.fireIf en sel ix).ctl = d.ctl := by
  unfold Device.fireIf
  split
  · exact d.fire_ctl _
  · rfl

@[simp] theorem Device.setLogger_mailboxes (d : Device) (l : LoggerX) : (d.setLogger l).ctl.mailboxes = d.ctl.mailboxes := rfl

@[simp] theorem Device.logRecord_mailboxes (d : Device) (r : LogRec) : (d.logRecord r).ctl.mailboxes = d.ctl.mailboxes := by
  unfold Device.logRecord
  extract_lets d1
  have h1 : d1.ctl.mailboxes = d.ctl.mailboxes := rfl
  split_ifs
  · rw [Device.fire_ctl, Device.setFlag_ctl, h1]
  · rw [Device.fire_ctl, Device.setFlag_ctl, h1]
  · exact h1

@[simp] theorem Device.repeatFault_mailboxes (d : Device) (kind booth index : Nat) :
    (d.repeatFault kind booth index).ctl.mailboxes = d.ctl.mailboxes := by
  unfold Device.repeatFault
  split <;> rfl

@[simp] theorem Device.showStorm_ctl (d : Device) : d.showStorm.ctl = d.ctl := by
  simp only [Device.showStorm, Device.put_ctl]

@[simp] theorem Device.restorm_mailboxes (d : Device) (l : LoggerX) : (d.setLogger l).showStorm.ctl.mailboxes = d.ctl.mailboxes := by
  rw [Device.showStorm_ctl, Device.setLogger_mailboxes]

/-! ### Curtain at a device fault -/

@[simp] theorem Device.showCurtain_ctl (d : Device) : d.showCurtain.ctl = d.ctl := by
  unfold Device.showCurtain
  extract_lets act pend w d1 d2 d3 d4
  have h1 : d1.ctl = d.ctl := d.wr_ctl _ _ _
  have h2 : d2.ctl = d1.ctl := d1.put_ctl _ _ _
  have h3 : d3.ctl = d2.ctl := d2.put_ctl _ _ _
  have h4 : d4.ctl = d3.ctl := d3.put_ctl _ _ _
  rw [Device.put_ctl, h4, h3, h2, h1]

@[simp] theorem Device.abortTx_ctl (d : Device) (n reason : Nat) : (d.abortTx n reason).ctl = d.ctl := by
  simp only [Device.abortTx, Device.fireIf_ctl, Device.showCurtain_ctl, Device.setFlag_ctl, Device.put_ctl]

@[simp] theorem Device.apply_ctl (d : Device) (w : MaskedWrite) : (d.apply w).ctl = d.ctl := by
  unfold Device.apply
  split <;> rfl

@[simp] theorem Device.refreshEpoch_ctl (d : Device) (b : Nat) : (d.refreshEpoch b).ctl = d.ctl := by
  simp only [Device.refreshEpoch, Device.put_ctl]

@[simp] theorem Device.refreshApplied_mailboxes (d : Device) : d.refreshApplied.ctl.mailboxes = d.ctl.mailboxes := by
  unfold Device.refreshApplied
  rw [Device.foldl_mailboxes, Device.showCurtain_ctl]
  exact fun d n => Device.ite_mailboxes (by rw [Device.setFlag_ctl]) rfl

@[simp] theorem Device.settle_mailboxes (d : Device) (sel : PendWrite → Bool) : (d.settle sel).ctl.mailboxes = d.ctl.mailboxes := by
  unfold Device.settle
  extract_lets now c d1 d2 d3
  have h2 : d2.ctl.mailboxes = d1.ctl.mailboxes := Device.foldl_mailboxes (fun d p => by rw [Device.apply_ctl]) now d1
  have h3 : d3.ctl.mailboxes = d2.ctl.mailboxes := Device.foldl_mailboxes (fun d p => by rw [Device.refreshEpoch_ctl]) now d2
  rw [Device.refreshApplied_mailboxes, h3, h2]
  rfl

@[simp] theorem Device.setTx_mailboxes (d : Device) (n : Nat) (t : TxSlot) : (d.setTx n t).ctl.mailboxes = d.ctl.mailboxes := rfl

@[simp] theorem Device.setPend_mailboxes (d : Device) (ps : List PendWrite) :
    (d.setCtl { d.ctl with pend := ps }).ctl.mailboxes = d.ctl.mailboxes := rfl

/-- The slots that a device fault aborts (R119). -/
def Device.abortOpenSlots (d : Device) : Device :=
  (List.range 16).foldl (fun d n => if d.txState n = 1 ∨ d.txState n = 2 ∨ d.txState n = 3 then d.abortTx n 6 else d) d

/-- The pending writes of the motion booth that a device fault discards (R42). -/
def Device.discardMotion (d : Device) : Device :=
  let gone := d.ctl.pend.filter (fun p => decide (p.booth = 12))
  let d := d.setCtl { d.ctl with pend := d.ctl.pend.filter (fun p => decide (p.booth ≠ 12)) }
  gone.foldl (fun (d : Device) p =>
    if (d.tx p.slot).epoch = p.epoch then d.setTx p.slot { d.tx p.slot with lost := true } else d) d

theorem Device.curtainDeviceFault_eq (d : Device) : d.curtainDeviceFault
    = ((d.abortOpenSlots.settle (fun p => decide (p.booth ≠ 12) && !isCalCtl p.write.addr)).discardMotion).refreshApplied := rfl

@[simp] theorem Device.abortOpenSlots_mailboxes (d : Device) : d.abortOpenSlots.ctl.mailboxes = d.ctl.mailboxes :=
  Device.foldl_mailboxes (fun _ _ => Device.ite_mailboxes (by rw [Device.abortTx_ctl]) rfl) _ d

@[simp] theorem Device.discardMotion_mailboxes (d : Device) : d.discardMotion.ctl.mailboxes = d.ctl.mailboxes :=
  (Device.foldl_mailboxes (fun _ _ => Device.ite_mailboxes (Device.setTx_mailboxes _ _ _) rfl) _ _).trans (d.setPend_mailboxes _)

@[simp] theorem Device.curtainDeviceFault_mailboxes (d : Device) : d.curtainDeviceFault.ctl.mailboxes = d.ctl.mailboxes := by
  rw [Device.curtainDeviceFault_eq, Device.refreshApplied_mailboxes, Device.discardMotion_mailboxes, Device.settle_mailboxes,
    Device.abortOpenSlots_mailboxes]

/-! ### The sequencers and the units at a device fault -/

@[simp] theorem Device.setSeqState_ctl (d : Device) (n st : Nat) : (d.setSeqState n st).ctl = d.ctl := by
  rw [Device.setSeqState, Device.setFlag_ctl, Device.put_ctl]

@[simp] theorem Device.setSeq_mailboxes (d : Device) (n : Nat) (x : SeqX) : (d.setSeq n x).ctl.mailboxes = d.ctl.mailboxes := rfl

@[simp] theorem Device.rebind_mailboxes (d : Device) (n : Nat) : (d.rebind n).ctl.mailboxes = d.ctl.mailboxes := by
  simp only [Device.rebind, Device.setSeq_mailboxes, Device.setFlag_ctl, Device.wr_ctl, Device.put_ctl]

@[simp] theorem Device.adoptSwap_mailboxes (d : Device) (n : Nat) : (d.adoptSwap n).ctl.mailboxes = d.ctl.mailboxes :=
  Device.ite_mailboxes (by rw [Device.rebind_mailboxes, Device.settle_mailboxes]) rfl

@[simp] theorem Device.sequencersDeviceFault_mailboxes (d : Device) : d.sequencersDeviceFault.ctl.mailboxes = d.ctl.mailboxes := by
  refine Device.foldl_mailboxes (fun d n => ?_) _ d
  extract_lets d1 d2 d3 d4 d5
  have h1 : d1.ctl.mailboxes = d.ctl.mailboxes := d.adoptSwap_mailboxes n
  have h2 : d2.ctl = d1.ctl := d1.setSeqState_ctl n 0
  have h3 : d3.ctl.mailboxes = d2.ctl.mailboxes := Device.foldl_mailboxes (fun d k => by rw [Device.wr_ctl]) _ d2
  have h4 : d4.ctl.mailboxes = d3.ctl.mailboxes := Device.foldl_mailboxes (fun d k => by rw [Device.wr_ctl]) _ d3
  rw [Device.setSeq_mailboxes, Device.wr_ctl, h4, h3, h2, h1]

@[simp] theorem Device.captureFault_ctl (d : Device) (p k : Nat) : (d.captureFault p k).ctl = d.ctl := by
  simp only [Device.captureFault, Device.setFlag_ctl, Device.wr_ctl, Device.setCap_ctl]

@[simp] theorem Device.showPal_mailboxes (d : Device) (p : Nat) : (d.showPal p).ctl.mailboxes = d.ctl.mailboxes := by
  unfold Device.showPal
  extract_lets on d1 m
  have h1 : d1.ctl.mailboxes = d.ctl.mailboxes := Device.foldl_mailboxes (fun d c => by rw [Device.setFlag_ctl]) _ d
  rw [Device.setFlag_ctl, Device.put_ctl, h1]

@[simp] theorem Device.paletteFault_mailboxes (d : Device) (p : Nat) : (d.paletteFault p).ctl.mailboxes = d.ctl.mailboxes := by
  unfold Device.paletteFault
  rw [Device.showPal_mailboxes]
  exact Device.foldl_mailboxes (fun d c => by rw [Device.setPal_ctl]) _ d

@[simp] theorem Device.boothUnitsFault_mailboxes (d : Device) (p : Nat) : (d.boothUnitsFault p).ctl.mailboxes = d.ctl.mailboxes := by
  unfold Device.boothUnitsFault
  extract_lets d1 b d2 d3 x d4
  have h1 : d1.ctl.mailboxes = d.ctl.mailboxes := Device.foldl_mailboxes (fun d e => by rw [Device.captureFault_ctl]) _ d
  have h2 : d2.ctl = d1.ctl := d1.setBth_ctl _ _
  have h3 : d3.ctl = d2.ctl := d2.put_ctl _ _ _
  have h4 : d4.ctl = d3.ctl := d3.setPrt_ctl _ _
  rw [Device.paletteFault_mailboxes, h4, h3, h2, h1]

@[simp] theorem Device.disarmFault_mailboxes (d : Device) (p : Nat) : (d.disarmFault p).ctl.mailboxes = d.ctl.mailboxes := by
  unfold Device.disarmFault
  extract_lets d1 d2 d3 owed x d4 d5
  have h1 : d1.ctl = d.ctl := d.setFlag_ctl _ _ _
  have h2 : d2.ctl = d1.ctl := d1.put_ctl _ _ _
  have h3 : d3.ctl = d2.ctl := d2.setFlag_ctl _ _ _
  have h4 : d4.ctl = d3.ctl := d3.setProg_ctl _ _
  have h5 : d5.ctl.mailboxes = d4.ctl.mailboxes := Device.foldl_mailboxes (fun d n => by rw [Device.setPrt_ctl]) _ d4
  rw [Device.foldl_mailboxes (fun d i => by rw [Device.setPin_ctl]), h5, h4, h3, h2, h1]

@[simp] theorem Device.barkerDeviceFault_mailboxes (d : Device) : d.barkerDeviceFault.ctl.mailboxes = d.ctl.mailboxes := by
  unfold Device.barkerDeviceFault
  extract_lets d1 d2
  have h1 : d1.ctl.mailboxes = d.ctl.mailboxes := Device.foldl_mailboxes Device.disarmFault_mailboxes _ d
  have h2 : d2.ctl.mailboxes = d1.ctl.mailboxes := Device.foldl_mailboxes (fun d i => Device.ite_mailboxes
    (by rw [Device.setFlag_ctl, Device.setFlag_ctl, Device.setPin_ctl]) rfl) _ d1
  rw [Device.wr_ctl, Device.wr_ctl, Device.put_ctl, h2, h1]

@[simp] theorem Device.showSlew_ctl (d : Device) : d.showSlew.ctl = d.ctl := by
  simp only [Device.showSlew, Device.setFlag_ctl, Device.wr_ctl]

@[simp] theorem Device.abortSlew_ctl (d : Device) : d.abortSlew.ctl = d.ctl := by
  rw [Device.abortSlew, Device.showSlew_ctl, Device.setTime_ctl]

@[simp] theorem Device.timeDeviceFault_mailboxes (d : Device) : d.timeDeviceFault.ctl.mailboxes = d.ctl.mailboxes := by
  unfold Device.timeDeviceFault
  extract_lets x d1 d2 d3 d4
  have h1 : d1.ctl = d.ctl := d.setTime_ctl _
  have h2 : d2.ctl = d1.ctl := d1.setFlag_ctl _ _ _
  have h3 : d3.ctl = d2.ctl := d2.setFlag_ctl _ _ _
  have h4 : d4.ctl.mailboxes = d3.ctl.mailboxes := Device.ite_mailboxes (by rw [Device.abortSlew_ctl]) rfl
  rw [h4, h3, h2, h1]

@[simp] theorem Device.dropSets_ctl (d : Device) (e c st : Nat) : (d.dropSets e c st).ctl = d.ctl := by
  simp only [Device.dropSets, Device.setChan_ctl, Device.put_ctl, Device.setFlag_ctl]

@[simp] theorem Device.enginesDeviceFault_mailboxes (d : Device) : d.enginesDeviceFault.ctl.mailboxes = d.ctl.mailboxes := by
  refine Device.foldl_mailboxes (fun d e => ?_) _ d
  extract_lets d1
  have h1 : d1.ctl.mailboxes = d.ctl.mailboxes := Device.foldl_mailboxes (fun d c => by rw [Device.dropSets_ctl]) _ d
  rw [Device.setFlag_ctl, Device.put_ctl, h1]

@[simp] theorem Device.axisOff_mailboxes (d : Device) (a : Nat) : (d.axisOff a).ctl.mailboxes = d.ctl.mailboxes :=
  Device.ite_mailboxes (by rw [Device.setFlag_ctl]) (by rw [Device.setFlag_ctl, Device.setFlag_ctl])

@[simp] theorem Device.axisFaultRest_mailboxes (d : Device) (a : Nat) : (d.axisFaultRest a).ctl.mailboxes = d.ctl.mailboxes :=
  Device.ite_mailboxes rfl (Device.ite_mailboxes (by rw [Device.put_ctl])
    (by rw [Device.axisOff_mailboxes, Device.put_ctl, Device.setFlag_ctl]))

@[simp] theorem Device.showResting_mailboxes (d : Device) : d.showResting.ctl.mailboxes = d.ctl.mailboxes :=
  Device.ite_mailboxes (by rw [Device.put_ctl, Device.put_ctl]) (by rw [Device.put_ctl])

@[simp] theorem Device.motionDeviceFault_mailboxes (d : Device) : d.motionDeviceFault.ctl.mailboxes = d.ctl.mailboxes := by
  unfold Device.motionDeviceFault
  rw [Device.showResting_mailboxes, Device.foldl_mailboxes, Device.setFlag_ctl]
  exact fun d a => Device.ite_mailboxes (by rw [Device.axisFaultRest_mailboxes, Device.setAxis_ctl, Device.setFlag_ctl])
    (by rw [Device.put_ctl, Device.setAxis_ctl, Device.setFlag_ctl])

@[simp] theorem Device.setVreq_mailboxes (d : Device) (mv : Nat) : (d.setVreq mv).ctl.mailboxes = d.ctl.mailboxes :=
  Device.ite_mailboxes rfl (by rw [Device.put_ctl])

@[simp] theorem Device.powerDeviceFault_mailboxes (d : Device) : d.powerDeviceFault.ctl.mailboxes = d.ctl.mailboxes := by
  rw [Device.powerDeviceFault]
  exact d.setVreq_mailboxes _

@[simp] theorem Device.unitsDeviceFault_mailboxes (d : Device) : d.unitsDeviceFault.ctl.mailboxes = d.ctl.mailboxes := by
  rw [Device.unitsDeviceFault, Device.powerDeviceFault_mailboxes, Device.motionDeviceFault_mailboxes,
    Device.enginesDeviceFault_mailboxes, Device.timeDeviceFault_mailboxes, Device.barkerDeviceFault_mailboxes]
  exact Device.foldl_mailboxes (fun d p => Device.ite_mailboxes (d.boothUnitsFault_mailboxes p) rfl) _ d

/-! ### The Ringmaster at a device fault -/

@[simp] theorem Device.breakFlash_mailboxes (d : Device) : d.breakFlash.ctl.mailboxes = d.ctl.mailboxes :=
  Device.ite_mailboxes rfl rfl

@[simp] theorem Device.loseAnswers_mailboxes (d : Device) : d.loseAnswers.ctl.mailboxes = d.ctl.mailboxes := rfl

@[simp] theorem Device.ringmasterRestart_mailboxes (d : Device) : d.ringmasterRestart.ctl.mailboxes = d.ctl.mailboxes := by
  unfold Device.ringmasterRestart
  extract_lets d1 c d2 d3 d4 d5 d6 d7
  have h1 : d1.ctl.mailboxes = d.ctl.mailboxes := by
    unfold d1
    rw [Device.put_ctl, Device.breakFlash_mailboxes]
  clear_value d1
  have h2 : d2.ctl.mailboxes = d1.ctl.mailboxes := rfl
  have h4 : d4.ctl = d3.ctl := d3.put_ctl _ _ _
  have h5 : d5.ctl = d4.ctl := d4.put_ctl _ _ _
  have h6 : d6.ctl = d5.ctl := (Device.setFlag_ctl _ _ _ _).trans (d5.setFlag_ctl _ _ _)
  rw [Device.setFlag_ctl, Device.setFlag_ctl, Device.loseAnswers_mailboxes, h6, h5, h4, ← h1, ← h2]

@[simp] theorem Device.boothsHalt_mailboxes (d : Device) : d.boothsHalt.ctl.mailboxes = d.ctl.mailboxes :=
  Device.foldl_mailboxes (fun d b => Device.ite_mailboxes (by rw [Device.put_ctl]) rfl) _ d

@[simp] theorem Device.setSlot_mailboxes (d : Device) (n : Nat) (bs : List Byte) :
    (d.setSlot n bs).ctl.mailboxes = d.ctl.mailboxes := rfl

@[simp] theorem Device.bmbUpdate_ctl (d : Device) (n : Nat) : (d.bmbUpdate n).ctl = d.ctl := by
  simp only [Device.bmbUpdate, Device.put_ctl, Device.setFlag_ctl]

@[simp] theorem Device.bmbDiscard_mailboxes (d : Device) : d.bmbDiscard.ctl.mailboxes = d.ctl.mailboxes := by
  unfold Device.bmbDiscard
  extract_lets d1 c
  have h1 : d1.ctl.mailboxes = d.ctl.mailboxes := Device.foldl_mailboxes (fun d n => Device.ite_mailboxes
    (by rw [Device.bmbUpdate_ctl, Device.setSlot_mailboxes]) rfl) _ d
  exact h1

/-- The record of a device fault, or the repetition of one in force (R139, R140). -/
def Device.faultLogged (d : Device) (reason : Nat) (cut : Bool) : Device :=
  if d.faultInForce then d.repeatFault 3 14 0 else d.logRecord (d.newRecord 3 reason 14 0 cut d.deviceFaultPairs)

/-- The violations counted towards a storm are forgotten (R133). -/
def Device.stormCleared (d : Device) : Device := (d.setLogger { d.ctl.logger with storm := [] }).showStorm

theorem Device.deviceFault_eq (d : Device) (reason : Nat) (cut : Bool) : d.deviceFault reason cut
    = ((((((d.faultLogged reason cut).stormCleared.bmbDiscard).curtainDeviceFault).sequencersDeviceFault).unitsDeviceFault
        ).ringmasterRestart.boothsHalt).fire 255 := rfl

@[simp] theorem Device.faultLogged_mailboxes (d : Device) (reason : Nat) (cut : Bool) :
    (d.faultLogged reason cut).ctl.mailboxes = d.ctl.mailboxes :=
  Device.ite_mailboxes (d.repeatFault_mailboxes _ _ _) (d.logRecord_mailboxes _)

@[simp] theorem Device.stormCleared_mailboxes (d : Device) : d.stormCleared.ctl.mailboxes = d.ctl.mailboxes :=
  d.restorm_mailboxes _

@[simp] theorem Device.deviceFault_mailboxes (d : Device) (reason : Nat) (cut : Bool) :
    (d.deviceFault reason cut).ctl.mailboxes = d.ctl.mailboxes := by
  rw [Device.deviceFault_eq, Device.fire_ctl, Device.boothsHalt_mailboxes, Device.ringmasterRestart_mailboxes,
    Device.unitsDeviceFault_mailboxes, Device.sequencersDeviceFault_mailboxes, Device.curtainDeviceFault_mailboxes,
    Device.bmbDiscard_mailboxes, Device.stormCleared_mailboxes, Device.faultLogged_mailboxes]

@[simp] theorem Device.violation_mailboxes (d : Device) (booth reason addr value source : Nat) :
    (d.violation booth reason addr value source).ctl.mailboxes = d.ctl.mailboxes := by
  unfold Device.violation
  extract_lets d1 off d2 d3 d4 storm x d5
  have h1 : d1.ctl = d.ctl := d.bump_ctl _ _
  have h2 : d2.ctl = d1.ctl := d1.put_ctl _ _ _
  have h3 : d3.ctl = d2.ctl := d2.put_ctl _ _ _
  have h4 : d4.ctl.mailboxes = d3.ctl.mailboxes := d3.logRecord_mailboxes _
  have h5 : d5.ctl.mailboxes = d4.ctl.mailboxes := d4.restorm_mailboxes _
  clear_value d5 d4
  rw [← h1, ← h2, ← h3, ← h4]
  refine Device.ite_mailboxes rfl ?_
  rw [← h5]
  split
  · exact Device.ite_mailboxes (d5.deviceFault_mailboxes _ _) rfl
  · rfl

end Sys2Proof.Machine
end

section
/-! Scope: an append and a response leave the mailboxes' own state alone (R55, R299 to R304), and so a command out of sequence leaves
the expected number (R61). -/

namespace Sys2Proof.Machine

/-! ### Appends -/

@[simp] theorem Device.hostWrite_ctl (d : Device) (a : Nat) (bs : List Byte) : (d.hostWrite a bs).ctl = d.ctl := rfl

@[simp] theorem Device.writeBack_ctl (d : Device) (q : Nat) : (d.writeBack q).ctl = d.ctl := by
  obtain ⟨m, hm⟩ := d.writeBack_changes q
  rw [hm]

@[simp] theorem Device.message_ctl (d : Device) (v : Nat) : (d.message v).ctl = d.ctl := by
  unfold Device.message
  split <;> rfl

@[simp] theorem Device.signal_ctl (d : Device) (q : Nat) : (d.signal q).ctl = d.ctl := by
  unfold Device.signal
  extract_lets c d1
  split
  · rfl
  · rw [Device.message_ctl, d.setCtx_ctl]

@[simp] theorem Device.signalIfDue_ctl (d : Device) (q : Nat) : (d.signalIfDue q).ctl = d.ctl := by
  unfold Device.signalIfDue
  extract_lets c due
  split
  · exact d.signal_ctl q
  · rfl

@[simp] theorem Device.putEntry_ctl (d : Device) (q : Nat) (bs : List Byte) : (d.putEntry q bs).ctl = d.ctl := by
  rw [Device.putEntry, Device.signalIfDue_ctl, Device.writeBack_ctl, Device.setCtx_ctl, Device.hostWrite_ctl]

@[simp] theorem Device.dropEvent_ctl (d : Device) (q : Nat) : (d.dropEvent q).ctl = d.ctl := by
  rw [Device.dropEvent, Device.setCtx_ctl]

@[simp] theorem Device.errorMark_ctl (d : Device) (q err : Nat) : (d.errorMark q err).ctl = d.ctl := by
  rw [Device.errorMark, Device.bump_ctl, Device.put_ctl, Device.setCtx_ctl]

@[simp] theorem Device.appendRaw_mailboxes (d : Device) (q : Nat) (bs : List Byte) :
    (d.appendRaw q bs).2.ctl.mailboxes = d.ctl.mailboxes := by
  unfold Device.appendRaw
  extract_lets d1 c x d2 d3
  have h1 : d1.ctl = d.ctl := d.touch_ctl q
  have h2 : d2.ctl = d1.ctl := d1.errorMark_ctl q 1
  have h3 : d3.ctl.mailboxes = d2.ctl.mailboxes := d2.violation_mailboxes _ _ _ _ _
  clear_value d3 d2 x c d1
  rw [← h1]
  split_ifs
  · exact d1.dropEvent_ctl q ▸ rfl
  · rfl
  · exact d1.dropEvent_ctl q ▸ rfl
  · rfl
  · rfl
  · rw [Device.putEntry_ctl]
  · rw [Device.dropEvent_ctl, h3, h2]
  · exact h3.trans (congrArg _ h2)

@[simp] theorem Device.appendEvent_mailboxes (d : Device) (q type source : Nat) (data : List Byte) :
    (d.appendEvent q type source data).ctl.mailboxes = d.ctl.mailboxes := by
  have h := d.appendRaw_mailboxes q (d.eventBytes q type source data)
  unfold Device.appendEvent
  split
  · rfl
  · split
    all_goals
      rename_i hraw
      rw [hraw] at h
      exact h

@[simp] theorem Device.appendTold_mailboxes (d : Device) (q : Nat) (bs : List Byte) :
    (d.appendTold q bs).2.ctl.mailboxes = d.ctl.mailboxes := by
  have h := d.appendRaw_mailboxes q bs
  unfold Device.appendTold
  split
  case h_1 e hraw =>
    rw [hraw] at h
    split
    · rw [Device.appendEvent_mailboxes, h]
    · exact h
  case h_2 => exact h

@[simp] theorem Device.append_mailboxes (d : Device) (q kind : Nat) (bs : List Byte) :
    (d.append q kind bs).2.ctl.mailboxes = d.ctl.mailboxes := by
  unfold Device.append
  split
  · rfl
  · exact d.appendTold_mailboxes q bs

/-! ### Responses -/

@[simp] theorem Device.deliver_mailboxes (d : Device) (r : Response) : (d.deliver r).ctl.mailboxes = d.ctl.mailboxes := by
  have h := d.append_mailboxes (2 * r.box + 1) 2 (r.bytes d)
  unfold Device.deliver
  split
  · split
    all_goals
      rename_i happend
      rw [happend] at h
      exact h
  · rfl

@[simp] theorem Device.respond_mailboxes (d : Device) (v : Via) (opcode tag seq status : Nat) (final : Bool) (payload : List Byte)
    (outWritten : Bool) (outLen : Nat) :
    (d.respond v opcode tag seq status final payload outWritten outLen).ctl.mailboxes = d.ctl.mailboxes := by
  cases v with
  | boot n => rfl
  | queue k => exact d.deliver_mailboxes _

/-! ### Sequence numbers (R61) -/

theorem Device.mbox_of_mailboxes {d t : Device} (h : t.ctl.mailboxes = d.ctl.mailboxes) (k : Nat) : t.mbox k = d.mbox k := by
  rw [Device.mbox, h, ← Device.mbox]

/-- Response bytes 32 to 63 are the inline payload (R59). -/
theorem responseBytes_payload (op tag n st sq ep fl ol : Nat) (t : TT) (payload : List Byte) :
    (responseBytes op tag n st sq ep t fl ol payload).drop 32 = fit 32 payload := by
  refine List.drop_left' ?_
  simp [layout, leBytes_length]

/-- What is shorter than the bytes it is fitted into stands at their beginning. -/
theorem take_fit {n m : Nat} {bs : List Byte} (hm : bs.length = m) (hn : m ≤ n) : (fit n bs).take m = bs := by
  subst hm
  rw [fit, List.take_take, Nat.min_eq_left hn, List.take_left']
  rfl

/-- Settles O9: the sequence check comes first, and neither taking the entry off its queue nor the response touches the expected
number. -/
theorem mailboxOutOfSequence : Obligations.MailboxOutOfSequence := by
  refine ⟨fun d e k hv hx => ?first, fun d e k hv => ?advanced, fun i s c e k x hi h hw hb hv hh hx hne => ?refused,
    fun op tag n st sq ep fl ol x t => ?payload⟩
  case first => simp [Device.outOfSequence, hv, hx]
  case advanced => simp [Device.advanceSeq, hv]
  case refused =>
    have hseq : (s.dev.placeInput e).outOfSequence e = some x := by
      simp only [Device.outOfSequence, Device.mbox, hv, Device.placeInput_ctl] at hx ⊢
      simp [hx, hne]
    refine ⟨_, State.does_outOfSequence hi h hw hb hh hseq, ?_, rfl⟩
    rw [Device.mbox_of_mailboxes (d := s.dev) (by rw [Device.respond_mailboxes, Device.takeCommand_ctl, Device.placeInput_ctl]), hx]
  case payload => rw [responseBytes_payload, take_fit (leBytes_length 4 x) (by decide)]

end Sys2Proof.Machine
end

section
/-! Scope: the system commands (R55 to R57, R68, R142, R414, R432, R457, R475): what each replies once its own checks are passed,
on the device its body finds. -/

namespace Sys2Proof.Machine

/-! ### The device a body finds (R61, R292) -/

theorem Device.entered_alloc (d : Device) (e : Entry) (h : Nat) : (d.entered e).alloc h = d.alloc h := by
  rw [Device.alloc, Device.entered_allocs, ← Device.alloc]

theorem Device.entered_mode (d : Device) (e : Entry) : (d.entered e).mode = d.mode := d.entered_get e _ _

theorem Device.entered_lent (d : Device) (e : Entry) (p : Nat) : (d.entered e).lent p = d.lent p := by
  simp [Device.lent, Device.borrows]

theorem Device.entered_portPresent (d : Device) (e : Entry) (p : Nat) : (d.entered e).portPresent p = d.portPresent p := by
  simp [Device.portPresent]

theorem Device.entered_boothPresent (d : Device) (e : Entry) (b : Nat) : (d.entered e).boothPresent b = d.boothPresent b := by
  simp [Device.boothPresent, Device.entered_portPresent]

theorem Device.entered_boothDown (d : Device) (e : Entry) (b : Nat) : (d.entered e).boothDown b = d.boothDown b := by
  unfold Device.boothDown Device.boothState
  rw [Device.entered_get]

theorem Device.entered_txState (d : Device) (e : Entry) (n : Nat) : (d.entered e).txState n = d.txState n := d.entered_get e _ _

/-! ### SET_SDN (R457) -/

theorem Device.setSdn_startup {d : Device} {e : Entry} (h : d.mode = 0) :
    Device.setSdn e d = (d.put R.SEC_SDN_SDN [] (e.u 12 2)).ok [] := by
  simp [Device.setSdn, Device.sdnWrite, h]

/-! ### Memory (R432) -/

/-- The allocation a MEM_ALLOC asks for, placed at `off` of the general region. -/
def Device.asked (d : Device) (e : Entry) (off : Nat) : Alloc :=
  { handle := d.ctl.nextHandle, off := off, size := roundUp (e.u 12 8) 65536, kind := e.u 21 1 }

/-- The device with an allocation entered for a mailbox. -/
def Device.enterAlloc (d : Device) (v : Via) (x : Alloc) : Device :=
  (d.setCtl { d.ctl with allocs := insertAlloc x d.ctl.allocs
                         nextHandle := if x.handle = 2 ^ 32 - 1 then 1 else x.handle + 1 }).own v (.alloc x.handle)

@[simp] theorem Device.enterAlloc_regs (d : Device) (v : Via) (x : Alloc) : (d.enterAlloc v x).regs = d.regs := by
  rw [Device.enterAlloc, Device.own_regs, Device.setCtl_regs]

@[simp] theorem Device.enterAlloc_hbm (d : Device) (v : Via) (x : Alloc) : (d.enterAlloc v x).hbm = d.hbm := by
  rw [Device.enterAlloc, Device.own_hbm, Device.setCtl_hbm]

@[simp] theorem Device.enterAlloc_allocs (d : Device) (v : Via) (x : Alloc) :
    (d.enterAlloc v x).ctl.allocs = insertAlloc x d.ctl.allocs := by
  rw [Device.enterAlloc, Device.own_allocs, Device.setCtl_ctl]

section

variable {d : Device} {e : Entry} (hsize : e.u 12 8 ≠ 0) (hlow : 16 ≤ e.u 20 1) (hhigh : e.u 20 1 ≤ 30) (hkind : e.u 21 1 ≤ 3)
  (hfill : e.u 22 1 ≤ 1) (hrest : e.u 23 41 = 0)
include hsize hlow hhigh hkind hfill hrest

/-- A well-formed MEM_ALLOC takes the first fit. -/
theorem Device.memAlloc_fits {off : Nat}
    (hfit : firstFit (roundUp (e.u 12 8) 65536) (2 ^ e.u 20 1) genBase d.ctl.allocs = some off) :
    Device.memAlloc e d = if e.u 22 1 = 1 then
        { (d.enterAlloc e.via (d.asked e off)).accepted [d.ctl.nextHandle] 99 with payload := allocPayload (d.asked e off) }
      else (d.enterAlloc e.via (d.asked e off)).ok (allocPayload (d.asked e off)) := by
  unfold Device.memAlloc
  simp only [hfit]
  exact if_neg (by omega)

theorem Device.memAlloc_full (hfit : firstFit (roundUp (e.u 12 8) 65536) (2 ^ e.u 20 1) genBase d.ctl.allocs = none) :
    Device.memAlloc e d = d.no stNO_SPACE := by
  unfold Device.memAlloc
  simp only [hfit]
  exact if_neg (by omega)

end

/-- An allocation that nothing refers to is taken out of the list and out of its owner's hands. -/
theorem Device.memFree_frees {d : Device} {e : Entry} {x : Alloc} (hx : d.alloc (e.u 12 4) = some x) (hrest : e.u 16 48 = 0)
    (hmay : d.mayAct e.via (.alloc x.handle) = true) (hfree : d.referred x = false) :
    Device.memFree e d
      = ((d.setCtl { d.ctl with allocs := d.ctl.allocs.filter (fun y => decide (y ≠ x)) }).disown (.alloc x.handle)).ok [] := by
  simp [Device.memFree, hx, hrest, hmay, hfree]

/-! ### The host link (R414) -/

/-- The sample of the link clears RETRAINS and no other field of the register. -/
theorem Device.sampleLink_get (d : Device) (f : Fld) (hr : f.reg = R.HOST_LINK) (ha : R.HOST_LINK_RETRAINS.apart f = true) :
    d.sampleLink.get f [] = d.get f [] :=
  Device.get_put_apart _ R.HOST_LINK_RETRAINS f [] 0 hr (by decide) ha

theorem Device.sampleLink_get_ne (d : Device) (f : Fld) (ix : List Nat) (h : f.reg.addr ix ≠ R.HOST_LINK.addr []) :
    d.sampleLink.get f ix = d.get f ix :=
  Device.get_put_ne _ (f := R.HOST_LINK_RETRAINS) 0 h

theorem Device.sampleLink_retrains (d : Device) : d.sampleLink.get R.HOST_LINK_RETRAINS [] = 0 :=
  Device.get_put_same _ R.HOST_LINK_RETRAINS [] 0 (by decide)

/-! ### Mailboxes (R55, R57) -/

/-- A context as firmware opens a queue is taken by the context port. -/
theorem openCtx_taken {q kind esize log2 ring wb vector owner : Nat} (hlow : 4 ≤ log2) (hhigh : log2 ≤ 24)
    (hfits : esizeFits kind esize = true) (hring : ring % 4096 = 0) (hwb : wb % 64 = 0) (hq : kindFits q kind = true) :
    ctxRefused q (openCtx kind esize log2 ring wb vector owner) = false := by
  simp [ctxRefused, openCtx, hlow, hhigh, hfits, hring, hwb, hq]

/-- A context that the context port takes stands there but for PIN. -/
theorem Device.storeCtx_kind_ring {d : Device} {q : Nat} {c : QCtx} (h : ctxRefused q c = false) :
    ((d.storeCtx q c).ctx q).kind = c.kind ∧ ((d.storeCtx q c).ctx q).ring = c.ring := by
  rw [d.storeCtx_same q c h]
  exact ⟨rfl, rfl⟩

/-- The two queues of mailbox `k` opened, and the mailbox with them. -/
def Device.mailboxOpened (d : Device) (e : Entry) (k : Nat) : Device :=
  (((d.storeCtx (2 * k) (openCtx 1 1 (e.u 14 1) (e.u 16 8) 0 0xFFFF e.via.owner)).storeCtx (2 * k + 1)
    (openCtx 2 1 (e.u 14 1) (e.u 24 8) 0 (e.u 32 2) e.via.owner)).setMbox k { isOpen := true, expected := none }).own e.via
      (.queue (2 * k))

theorem Device.openMailbox_opens {d : Device} {e : Entry} {k : Nat} (hk : e.u 12 2 = k) (hpos : 1 ≤ k) (hmax : k ≤ 255)
    (hlow : 4 ≤ e.u 14 1) (hhigh : e.u 14 1 ≤ 12) (hzero : e.u 15 1 = 0) (hcmd : e.u 16 8 % 4096 = 0) (hrsp : e.u 24 8 % 4096 = 0)
    (hvec : vectorFits (e.u 32 2) = true) (hrest : e.u 34 30 = 0) (hboot : k = 1 → ∃ n, e.via = .boot n)
    (hopen : (d.mbox k).isOpen = false) (hc : (d.ctx (2 * k)).kind = 0) (hr : (d.ctx (2 * k + 1)).kind = 0)
    (hwc : d.queueWindow (e.u 16 8) (2 ^ e.u 14 1 * 64) = true) (hwr : d.queueWindow (e.u 24 8) (2 ^ e.u 14 1 * 64) = true) :
    Device.openMailbox e d = (d.mailboxOpened e k).ok (layout [(4, 2 * k), (4, 2 * k + 1), (8, 128 * k)]) := by
  subst hk
  unfold Device.openMailbox
  simp only [hzero, hcmd, hrsp, hvec, hrest, hopen, hc, hr, hwc, hwr]
  rw [if_neg (by simp; omega), if_neg ?boot, if_neg (by simp), if_neg (by simp)]
  · rfl
  case boot =>
    rintro ⟨hone, hqueue⟩
    obtain ⟨n, hn⟩ := hboot hone
    simp [hn] at hqueue

theorem Device.mailboxOpened_mbox (d : Device) (e : Entry) (k : Nat) :
    (d.mailboxOpened e k).mbox k = { isOpen := true, expected := none } := by
  simp [Device.mailboxOpened]

theorem Device.mailboxOpened_command {d : Device} {e : Entry} {k : Nat} (hpos : 1 ≤ k) (hmax : k ≤ 255) (hlow : 4 ≤ e.u 14 1)
    (hhigh : e.u 14 1 ≤ 12) (hcmd : e.u 16 8 % 4096 = 0) :
    ((d.mailboxOpened e k).ctx (2 * k)).kind = 1 ∧ ((d.mailboxOpened e k).ctx (2 * k)).ring = e.u 16 8 := by
  simp only [Device.mailboxOpened, Device.own_ctx, Device.ctx_setMbox]
  rw [Device.storeCtx_ne _ _ (by omega)]
  exact Device.storeCtx_kind_ring (openCtx_taken hlow (by omega) rfl hcmd rfl (by simp [kindFits]; omega))

theorem Device.mailboxOpened_response {d : Device} {e : Entry} {k : Nat} (hpos : 1 ≤ k) (hmax : k ≤ 255) (hlow : 4 ≤ e.u 14 1)
    (hhigh : e.u 14 1 ≤ 12) (hrsp : e.u 24 8 % 4096 = 0) :
    ((d.mailboxOpened e k).ctx (2 * k + 1)).kind = 2 ∧ ((d.mailboxOpened e k).ctx (2 * k + 1)).ring = e.u 24 8 := by
  simp only [Device.mailboxOpened, Device.own_ctx, Device.ctx_setMbox]
  exact Device.storeCtx_kind_ring (openCtx_taken hlow (by omega) rfl hrsp rfl (by simp [kindFits]; omega))

theorem Device.closeMailbox_closes {d : Device} {e : Entry} {k : Nat} (hk : e.u 12 2 = k) (hpos : 1 ≤ k) (hmax : k ≤ 255)
    (hother : ∀ j, e.via = .queue j → j.val ≠ k) (hopen : (d.mbox k).isOpen = true) (hrest : e.u 14 50 = 0)
    (hmay : d.mayAct e.via (.queue (2 * k)) = true) :
    ∃ t : Device, Device.closeMailbox e d = t.ok [] ∧ (t.mbox k).isOpen = false ∧ t.regs = d.regs ∧ t.hbm = d.hbm := by
  subst hk
  unfold Device.closeMailbox
  simp only [hopen, hrest, hmay]
  rw [if_neg ?formed, if_neg (by simp)]
  case formed =>
    cases hv : e.via with
    | boot n => simp; omega
    | queue j => simp [hother j hv]; omega
  refine ⟨_, rfl, ?_, rfl, rfl⟩
  simp [Device.mbox, Device.setMbox]

/-- A range of general queues that no other mailbox has reserved is reserved. -/
theorem Device.reserveQueues_reserves {d : Device} {e : Entry} (hlow : 1024 ≤ e.u 12 4) (hhigh : e.u 12 4 + e.u 16 4 ≤ 1048576)
    (hsome : e.u 16 4 ≠ 0) (hact : e.u 20 1 = 0) (hrest : e.u 21 43 = 0)
    (hmine : ∀ x ∈ d.ctl.reserved, overlaps x.1 x.2.1 (e.u 12 4) (e.u 16 4) = true → x.2.2 = e.via.owner) :
    Device.reserveQueues e d = (d.setCtl { d.ctl with
      reserved := d.ctl.reserved.flatMap (cutRange (e.u 12 4) (e.u 16 4)) ++ [(e.u 12 4, e.u 16 4, e.via.owner)] }).ok [] := by
  unfold Device.reserveQueues
  simp only
  rw [if_neg (by omega), if_pos hact, if_neg ?free]
  case free =>
    simp only [List.any_eq_true, Bool.and_eq_true, decide_eq_true_eq, not_exists, not_and, not_not]
    exact hmine

/-- OPEN_SYSTEM_QUEUE of Q0 or Q1 stores its context (R56). -/
theorem Device.openSystemQueue_opens {d : Device} {e : Entry} {q : Nat} (hq : e.u 12 1 = q) (hmax : q ≤ 1) (hlow : 4 ≤ e.u 13 1)
    (hhigh : e.u 13 1 ≤ 24) (hvec : vectorFits (e.u 14 2) = true) (hring : e.u 16 8 % 4096 = 0) (hwb : e.u 24 8 % 64 = 0)
    (hzero : e.u 37 1 = 0) (hrest : e.u 40 24 = 0) (hc : (d.ctx q).kind = 0)
    (hwin : d.netAdmits false true .queue (e.u 16 8) (2 ^ e.u 13 1 * (if q = 0 then 128 else 64)) = true)
    (hwbwin : e.u 24 8 ≠ 0 → d.netAdmits false true .queue (e.u 24 8) 16 = true) :
    ∃ t : Device, Device.openSystemQueue e d = t.ok (leBytes 8 (64 * q)) ∧ (t.ctx q).kind = (if q = 0 then 6 else 5)
      ∧ (t.ctx q).ring = e.u 16 8 := by
  subst hq
  have hsize : esizeBytes (if e.u 12 1 = 0 then 2 else 1) = if e.u 12 1 = 0 then 128 else 64 := by split <;> rfl
  unfold Device.openSystemQueue
  simp only [hvec, hring, hwb, hzero, hrest, hc, hsize, hwin]
  rw [if_neg (by simp; omega), if_neg (by simp), if_neg (by simpa using hwbwin)]
  refine ⟨_, rfl, Device.storeCtx_kind_ring ?_⟩
  have hfits : esizeFits (if e.u 12 1 = 0 then 6 else 5) (if e.u 12 1 = 0 then 2 else 1) = true := by split <;> rfl
  have hkind : kindFits (e.u 12 1) (if e.u 12 1 = 0 then 6 else 5) = true := by split <;> simp [kindFits, *]
  exact openCtx_taken (vector := e.u 14 2) (owner := 0) hlow hhigh hfits hring hwb hkind

/-! ### The operating mode (R475) -/

@[simp] theorem Device.setVreq_ctl (d : Device) (mv : Nat) : (d.setVreq mv).ctl = d.ctl := by
  unfold Device.setVreq
  split
  · rfl
  · rfl

@[simp] theorem Device.setVreq_hbm (d : Device) (mv : Nat) : (d.setVreq mv).hbm = d.hbm := by
  unfold Device.setVreq
  split
  · rfl
  · rfl

theorem Device.setVreq_mode (d : Device) (mv : Nat) : (d.setVreq mv).mode = d.mode := by
  unfold Device.setVreq
  split
  · rfl
  · exact d.get_put_ne (f := R.PW_PACE_STAT_VREQ) mv (by decide)

/-- Narrowing the core voltage request is a request (R476). -/
theorem Device.narrowCore_eq_setVreq (d : Device) : ∃ mv, d.narrowCore = d.setVreq mv := by
  unfold Device.narrowCore
  split
  · exact ⟨_, rfl⟩
  · exact ⟨_, rfl⟩

/-- A write of HM_MODE of a mode that is not STARTUP. -/
theorem Device.modeWrite_changes {d : Device} {m : Nat} (hpos : m ≠ 0) (hmax : m ≤ 3) :
    (d.modeWrite m).mode = m ∧ (d.modeWrite m).ctl = d.ctl ∧ (d.modeWrite m).hbm = d.hbm := by
  obtain ⟨mv, hmv⟩ := ((d.put R.HM_MODE_MODE [] m).put R.DEV_STATUS_MODE [] m).narrowCore_eq_setVreq
  rw [Device.modeWrite, if_neg (by omega), hmv, Device.setVreq_mode, Device.setVreq_ctl, Device.setVreq_hbm]
  refine ⟨?_, rfl, rfl⟩
  rw [Device.mode, Device.get_put_ne _ (f := R.DEV_STATUS_MODE) m (by decide), Device.get_put_same _ _ _ _ (by decide)]
  exact Nat.mod_eq_of_lt (by change m < 4; omega)

theorem modeAllowed_ne_zero {a b : Nat} (h : modeAllowed a b = true) : b ≠ 0 := by
  rintro rfl
  simp [modeAllowed] at h

/-- One of the allowed changes of mode, with nothing in its way, is made. -/
theorem Device.setMode_changes {d : Device} {e : Entry} (hmax : e.u 12 1 ≤ 3) (hrest : e.u 13 51 = 0)
    (hallowed : modeAllowed d.mode (e.u 12 1) = true)
    (hbooths : d.mode = 3 → ∀ b, b < 15 → d.boothPresent b = true → d.boothDown b = false)
    (htx : ∀ n, n < 16 → d.txState n = 0 ∨ 3 < d.txState n) :
    ∃ t : Device, Device.setMode e d = t.ok [] ∧ t.mode = e.u 12 1 ∧ t.ctl = d.ctl ∧ t.hbm = d.hbm := by
  unfold Device.setMode
  simp only
  rw [if_neg (by omega), if_neg (by simp [hallowed]), if_neg ?booths, if_neg ?slots]
  case booths =>
    rintro ⟨hmode, hany⟩
    obtain ⟨b, hb, hdown⟩ := List.any_eq_true.1 hany
    obtain ⟨hpresent, hdown⟩ := (Bool.and_eq_true _ _).mp hdown
    rw [hbooths hmode b (List.mem_range.1 hb) hpresent] at hdown
    cases hdown
  case slots =>
    intro hany
    obtain ⟨n, hn, hbusy⟩ := List.any_eq_true.1 hany
    have hfree := htx n (List.mem_range.1 hn)
    have hbusy := of_decide_eq_true hbusy
    omega
  obtain ⟨hmode, hctl, hhbm⟩ := Device.modeWrite_changes (d := if d.pow.configured = true ∧ (e.u 12 1 = 1 ∨ e.u 12 1 = 2) then
    d.setFlag R.PW_PACE_CTL_EN [] true else d) (modeAllowed_ne_zero hallowed) hmax
  refine ⟨_, rfl, hmode, hctl.trans ?_, hhbm.trans ?_⟩
  · split <;> rfl
  · split <;> rfl

/-! ### Recovery (R142) -/

theorem Device.recover_device {d : Device} {e : Entry} (hs : e.u 12 1 = 2) (hrest : e.u 14 50 = 0)
    (hconsumed : d.unconsumed 3 14 0 = false) (hprincipal : e.via.principal = true) :
    ∃ t : Device, Device.recover e d = t.accepted [2, 0] 99 := by
  unfold Device.recover
  simp only [hs, hrest, hconsumed, hprincipal]
  exact ⟨_, rfl⟩

theorem Device.recover_port {d : Device} {e : Entry} (hs : e.u 12 1 = 0) (hp : e.u 13 1 ≤ 7) (hrest : e.u 14 50 = 0)
    (hlent : d.lent (e.u 13 1) = false) (hpresent : d.portPresent (e.u 13 1) = true) (hmay : d.mayPort e.via (e.u 13 1) = true)
    (hconsumed : d.unconsumed 2 (e.u 13 1) 0 = false) :
    Device.recover e d = ((d.recoverScope 0 (e.u 13 1)).foldl Device.beginWipe d).accepted [0, e.u 13 1] 99 := by
  simp [Device.recover, hs, hrest, hlent, hpresent, hmay, hconsumed, Nat.not_lt.2 hp]

/-! ### The group -/

/-- Settles O14: each command's body, once its checks are passed, is a few named operations, read off on the device the body
finds. -/
theorem systemCommands : Obligations.SystemCommands := by
  refine ⟨fun s e => ?nop, fun s e => ?identify, fun s e => ?setSdn,
    fun s e off hfit hsize hlow hhigh hkind hfill hrest => ?memAlloc, fun s e hfit hsize hlow hhigh hkind hfill hrest => ?memFull,
    fun s e x hx hrest hmay hfree => ?memFree, fun s e => ?memQuery, fun s e => ?linkQuery,
    fun s e hpos hmax hlow hhigh hzero hcmd hrsp hvec hrest hboot hopen hc hr hwc hwr => ?openMailbox,
    fun s e hpos hmax hother hopen hrest hmay => ?closeMailbox, fun s e hlow hhigh hsome hact hrest hmine => ?reserveQueues,
    fun s e hmax hrest hallowed hbooths htx => ?setMode, fun s e hs hrest hconsumed hprincipal => ?recoverDevice,
    fun s e hs hp hrest hlent hpresent hmay hconsumed => ?recoverPort,
    fun s e hmax hlow hhigh hvec hring hwb hzero hrest hc hwin hwbwin => ?openSystemQueue⟩
  case nop => exact State.gives_of (body := fun d => d.nopCmd e) rfl fun _ => ⟨rfl, rfl, rfl⟩
  case identify => exact State.gives_of (body := Device.identify) rfl fun _ => ⟨rfl, rfl, rfl⟩
  case setSdn =>
    refine State.gives_of (body := Device.setSdn e) rfl fun ht => ?_
    have hmode : (s.dev.entered e).mode = 0 := by simpa [setSdnSpec] using State.takes_mode ht
    rw [Device.setSdn_startup hmode]
    exact ⟨rfl, hmode, Device.get_put_same _ _ _ _ (by decide), rfl, rfl, fun q jx hq => Device.rd_put_ne _ _ hq⟩
  case memAlloc =>
    refine State.gives_of (body := Device.memAlloc e) rfl fun _ => ?_
    rw [Device.memAlloc_fits hsize hlow hhigh hkind hfill hrest ((s.dev.entered_allocs e).symm ▸ hfit)]
    by_cases hzero : e.u 22 1 = 1
    · simp only [if_pos hzero]
      exact ⟨rfl, Device.enterAlloc_regs _ _ _, Device.enterAlloc_hbm _ _ _, rfl, Device.enterAlloc_allocs _ _ _⟩
    · simp only [if_neg hzero]
      exact ⟨rfl, Device.enterAlloc_regs _ _ _, Device.enterAlloc_hbm _ _ _, rfl, Device.enterAlloc_allocs _ _ _⟩
  case memFull =>
    refine State.gives_of (body := Device.memAlloc e) rfl fun _ => ?_
    rw [Device.memAlloc_full hsize hlow hhigh hkind hfill hrest ((s.dev.entered_allocs e).symm ▸ hfit)]
  case memFree =>
    refine State.gives_of (body := Device.memFree e) rfl fun _ => ?_
    rw [Device.memFree_frees ((s.dev.entered_alloc e _).trans hx) hrest hmay hfree]
    exact ⟨rfl, rfl, Device.disown_ownerOf _ _, rfl, rfl⟩
  case memQuery => exact State.gives_of (body := Device.memQuery) rfl fun _ => ⟨rfl, rfl, rfl⟩
  case linkQuery =>
    refine State.gives_of (body := Device.linkQuery) rfl fun _ => ⟨rfl, ?_, Device.sampleLink_retrains _⟩
    have hspeed := (s.dev.entered e).sampleLink_get R.HOST_LINK_SPEED rfl (by decide)
    have hwidth := (s.dev.entered e).sampleLink_get R.HOST_LINK_WIDTH rfl (by decide)
    have hflit := (s.dev.entered e).sampleLink_get R.HOST_LINK_FLIT rfl (by decide)
    have hbase := (s.dev.entered e).sampleLink_get_ne R.HOST_AP_BASE_BASE [] (by decide)
    rw [← hspeed, ← hwidth, ← hflit, ← hbase]
    rfl
  case openMailbox =>
    refine State.gives_of (body := Device.openMailbox e) rfl fun _ => ?_
    obtain ⟨hck, hcr⟩ := Device.mailboxOpened_command (d := s.dev.entered e) hpos hmax hlow hhigh hcmd
    obtain ⟨hrk, hrr⟩ := Device.mailboxOpened_response (d := s.dev.entered e) hpos hmax hlow hhigh hrsp
    rw [Device.openMailbox_opens rfl hpos hmax hlow hhigh hzero hcmd hrsp hvec hrest hboot hopen hc hr hwc hwr]
    exact ⟨rfl, rfl, Device.mailboxOpened_mbox _ _ _, hck, hcr, hrk, hrr⟩
  case closeMailbox =>
    refine State.gives_of (body := Device.closeMailbox e) rfl fun _ => ?_
    obtain ⟨t, ht, hclosed, hregs, hhbm⟩ := Device.closeMailbox_closes rfl hpos hmax hother hopen hrest hmay
    rw [ht]
    exact ⟨rfl, hclosed, hregs, hhbm⟩
  case reserveQueues =>
    refine State.gives_of (body := Device.reserveQueues e) rfl fun _ => ?_
    rw [Device.reserveQueues_reserves hlow hhigh hsome hact hrest hmine]
    exact ⟨rfl, List.mem_append_right _ (List.mem_singleton.2 rfl), rfl, rfl⟩
  case setMode =>
    refine State.gives_of (body := Device.setMode e) rfl fun _ => ?_
    rw [← s.dev.entered_mode e] at hallowed hbooths
    obtain ⟨t, ht, hmode, hctl, hhbm⟩ := Device.setMode_changes hmax hrest hallowed
      (by simpa only [Device.entered_boothPresent, Device.entered_boothDown] using hbooths)
      (by simpa only [Device.entered_txState] using htx)
    rw [ht]
    exact ⟨rfl, hmode, hctl, hhbm⟩
  case recoverDevice =>
    refine State.gives_of (body := Device.recover e) rfl fun _ => ?_
    obtain ⟨t, ht⟩ := Device.recover_device hs hrest hconsumed hprincipal
    rw [ht]
    exact ⟨rfl, rfl⟩
  case recoverPort =>
    refine State.gives_of (body := Device.recover e) rfl fun _ => ?_
    rw [Device.recover_port hs hp hrest ((s.dev.entered_lent e _).trans hlent) ((s.dev.entered_portPresent e _).trans hpresent) hmay
      hconsumed]
    exact ⟨rfl, rfl, rfl⟩
  case openSystemQueue =>
    refine State.gives_of (body := Device.openSystemQueue e) rfl fun _ => ?_
    obtain ⟨t, ht, hkind, hring'⟩ := Device.openSystemQueue_opens rfl hmax hlow hhigh hvec hring hwb hzero hrest hc hwin hwbwin
    rw [ht]
    exact ⟨rfl, rfl, hkind, hring'⟩

end Sys2Proof.Machine
end

section
/-! Scope: the registers of the transaction slots (R96, R102, R116, R117): which operations on a slot leave which fields of which slot
as they were, and the state each leaves its slot in. -/

namespace Sys2Proof.Machine

/-! ### Values of fields -/

theorem ofLE_lt (bs : List Byte) : ofLE bs < 256 ^ bs.length := by
  induction bs with
  | nil => decide
  | cons b bs ih =>
    have hb : b.toNat < 256 := b.isLt
    simp only [ofLE, List.length_cons, pow_succ]
    omega

theorem fit_length (n : Nat) (bs : List Byte) : (fit n bs).length = n := by
  simp only [fit, zeros, List.length_take, List.length_append, List.length_replicate]
  omega

theorem Entry.u_lt (e : Entry) (off n : Nat) : e.u off n < 256 ^ n := by
  have h := ofLE_lt (fit n (e.body.drop (off - 12)))
  rwa [fit_length] at h

theorem Device.get_lt (d : Device) (f : Fld) (ix : List Nat) : d.get f ix < 2 ^ f.width :=
  Nat.mod_lt _ (Nat.two_pow_pos _)

/-- A word cut down to one field reads as 0 in every field apart from it. -/
theorem Fld.of_and_mask_apart (f g : Fld) (w : Word) (h : f.fits = true) (ha : f.apart g = true) : g.of (w &&& f.mask) = 0 := by
  apply Nat.eq_of_testBit_eq
  intro n
  simp only [Fld.apart, decide_eq_true_eq] at ha
  rw [Fld.of_testBit, BitVec.getLsbD_and, f.mask_getLsbD _ h, Nat.zero_testBit]
  by_cases hn : n < g.width
  · have hout : ¬ (f.lo ≤ g.lo + n ∧ g.lo + n < f.lo + f.width) := by omega
    simp [hout]
  · simp [hn]

/-! ### Where the registers lie -/

/-- The registers of the sixteen slots: the six of one slot lie within 64 bytes. -/
def slotRegs : List Reg := [R.CUR_TX_CTL, R.CUR_TX_STAT, R.CUR_TX_TIME, R.CUR_TX_DEADLINE, R.CUR_TX_RESULT, R.CUR_TX_ADOPT]

/-- Every register of a slot lies in the slot's own 64 bytes. -/
theorem slotReg_addr {r : Reg} (hr : r ∈ slotRegs) (n : Nat) :
    ∃ off, off < 64 ∧ r.base = 0xf301000 + off ∧ r.addr [n] = 0xf301000 + off + 64 * n := by
  simp only [slotRegs, List.mem_cons, List.not_mem_nil, or_false] at hr
  rcases hr with rfl | rfl | rfl | rfl | rfl | rfl
  · exact ⟨0, by decide, rfl, rfl⟩
  · exact ⟨8, by decide, rfl, rfl⟩
  · exact ⟨16, by decide, rfl, rfl⟩
  · exact ⟨24, by decide, rfl, rfl⟩
  · exact ⟨32, by decide, rfl, rfl⟩
  · exact ⟨40, by decide, rfl, rfl⟩

/-- Different registers of the slots lie apart, in whatever slots. -/
theorem slotReg_addr_ne {r q : Reg} (hr : r ∈ slotRegs) (hq : q ∈ slotRegs) (h : r.base ≠ q.base) (n m : Nat) : r.addr [n] ≠ q.addr [m] := by
  obtain ⟨i, hi, hri, hrn⟩ := slotReg_addr hr n
  obtain ⟨j, hj, hqj, hqm⟩ := slotReg_addr hq m
  omega

/-- The slots' registers lie between 0xF301000 and 0xF301400. -/
theorem slotReg_range {r : Reg} (hr : r ∈ slotRegs) {n : Nat} (hn : n < 16) : 0xf301000 ≤ r.addr [n] ∧ r.addr [n] < 0xf301400 := by
  obtain ⟨i, hi, hri, hrn⟩ := slotReg_addr hr n
  omega

/-! ### Frames -/

section

variable {f : Fld} (hf : f.reg ∈ slotRegs) {n : Nat} (hn : n < 16)
include hf hn

/-- What Curtain shows of its slots is shown elsewhere (R112, R129). -/
theorem Device.showCurtain_get (d : Device) : d.showCurtain.get f [n] = d.get f [n] := by
  have hrange := slotReg_range hf hn
  have hstat : f.reg.addr [n] ≠ R.CUR_STAT.addr [] := by
    change _ ≠ 0xf300008
    omega
  have hport : f.reg.addr [n] ≠ R.NET_PORT_STAT.addr [] := by
    change _ ≠ 0x1000000001008
    omega
  unfold Device.showCurtain
  rw [Device.get_put_ne _ (f := R.NET_PORT_STAT_ERR_INDEX) _ hport, Device.get_put_ne _ (f := R.NET_PORT_STAT_COUNT) _ hport,
    Device.get_put_ne _ (f := R.NET_PORT_STAT_REASON) _ hport, Device.get_put_ne _ (f := R.NET_PORT_STAT_STATE) _ hport,
    Device.get_wr_ne _ _ hstat]

theorem Device.irq_get (d : Device) (g : Fld) (hg : g.reg = R.RM_IRQ_PEND) (b : Bool) :
    (d.setFlag g [] b).get f [n] = d.get f [n] := by
  have hrange := slotReg_range hf hn
  refine Device.get_put_ne _ _ ?_
  rw [hg]
  change _ ≠ 0xf100028
  omega

/-- A firing marks Midway's registers and the Ringmaster's interrupt. -/
theorem Device.fire_get (d : Device) {c : Nat} (hc : c < 256) : (d.fire c).get f [n] = d.get f [n] := by
  have hrange := slotReg_range hf hn
  have hcnt : f.reg.addr [n] ≠ R.MW_CH_CNT.addr [c] := by
    simp only [R.MW_CH_CNT, Reg.addr, strideSum] at hrange ⊢
    omega
  have hwatch : f.reg.addr [n] ≠ R.MW_WATCH.addr [c / 64] := by
    simp only [R.MW_WATCH, Reg.addr, strideSum] at hrange ⊢
    omega
  have hmarks : ∀ t : Device, (t.firingMarks c).get f [n] = t.get f [n] := fun t => by
    have hfires : (t.bump R.MW_CH_CNT_FIRES [c]).get f [n] = t.get f [n] :=
      Device.get_put_ne _ (f := R.MW_CH_CNT_FIRES) _ hcnt
    unfold Device.firingMarks
    simp only
    split_ifs
    · rw [Device.irq_get hf hn _ _ rfl, Device.get_wr_ne _ _ hwatch, hfires]
    · rw [Device.get_wr_ne _ _ hwatch, hfires]
    · rw [Device.irq_get hf hn _ _ rfl, hfires]
    · exact hfires
  unfold Device.fire Device.fireStamped
  split
  · exact Device.get_put_ne _ (f := R.MW_CH_CNT_COLL) _ hcnt
  · exact hmarks _

end

@[simp] theorem Device.showCurtain_tx (d : Device) (n : Nat) : d.showCurtain.tx n = d.tx n := by
  rw [Device.tx, Device.showCurtain_ctl, ← Device.tx]

@[simp] theorem Device.showCurtain_hbm (d : Device) : d.showCurtain.hbm = d.hbm := by
  unfold Device.showCurtain
  extract_lets act pend w d1 d2 d3 d4
  have h1 : d1.hbm = d.hbm := d.wr_hbm _ _ _
  have h2 : d2.hbm = d1.hbm := d1.put_hbm _ _ _
  have h3 : d3.hbm = d2.hbm := d2.put_hbm _ _ _
  have h4 : d4.hbm = d3.hbm := d3.put_hbm _ _ _
  rw [Device.put_hbm, h4, h3, h2, h1]

theorem Device.showCurtain_txState (d : Device) {n : Nat} (hn : n < 16) : d.showCurtain.txState n = d.txState n :=
  Device.showCurtain_get (f := R.CUR_TX_STAT_STATE) (by decide) hn d

/-! ### The state of a slot -/

theorem Device.txState_put (d : Device) (n st : Nat) : (d.put R.CUR_TX_STAT_STATE [n] st).txState n = st % 8 :=
  Device.get_put_same _ _ _ _ (by decide)

/-- OPEN of a free slot leaves it OPEN (R96). -/
theorem Device.txOpen_txState {d : Device} {n : Nat} (hn : n < 16) (h : d.txnFree n = true) : (d.txOpen n).txState n = 1 := by
  have hstat : R.CUR_TX_STAT ∈ slotRegs := by decide
  have hresult : R.CUR_TX_STAT.addr [n] ≠ R.CUR_TX_RESULT.addr [n] := slotReg_addr_ne hstat (by decide) (by decide) n n
  have hadopt : R.CUR_TX_STAT.addr [n] ≠ R.CUR_TX_ADOPT.addr [n] := slotReg_addr_ne hstat (by decide) (by decide) n n
  rw [Device.txOpen, if_pos (of_decide_eq_true h), Device.showCurtain_txState _ hn, Device.txState,
    Device.get_wr_ne _ (f := R.CUR_TX_STAT_STATE) _ hadopt, Device.get_wr_ne _ (f := R.CUR_TX_STAT_STATE) _ hresult]
  exact Device.txState_put _ n 1

/-- OPEN of a free slot clears its entries. -/
theorem Device.txOpen_tx {d : Device} {n : Nat} (h : d.txnFree n = true) : (d.txOpen n).tx n = {} := by
  rw [Device.txOpen, if_pos (of_decide_eq_true h), Device.showCurtain_tx]
  exact Device.setTx_same d n {}

@[simp] theorem Device.txOpen_hbm (d : Device) (n : Nat) : (d.txOpen n).hbm = d.hbm := by
  unfold Device.txOpen
  simp only
  split
  · exact Device.showCurtain_hbm _
  · rfl

/-- CANCEL of an OPEN slot leaves it FREE (R117), -/
theorem Device.txCancel_open_txState {d : Device} {n : Nat} (hn : n < 16) (h : d.txState n = 1) : (d.txCancel n).txState n = 0 := by
  have hcut : R.CUR_TX_STAT_CANCEL_LATE.apart R.CUR_TX_STAT_STATE = true := by decide
  rw [Device.txCancel, if_pos h, Device.showCurtain_txState _ hn]
  simp only [Device.txState, Device.clearStat, Device.get]
  rw [show R.CUR_TX_STAT_STATE.reg = R.CUR_TX_STAT from rfl, Device.rd_wr_same]
  exact Fld.of_and_mask_apart _ _ _ (by decide) hcut

/-- and clears its entries. -/
theorem Device.txCancel_open_tx {d : Device} {n : Nat} (h : d.txState n = 1) : (d.txCancel n).tx n = {} := by
  rw [Device.txCancel, if_pos h, Device.showCurtain_tx]
  exact Device.setTx_same d n {}

/-- An aborted slot is ABORTED (R116). -/
theorem Device.abortTx_txState (d : Device) {n : Nat} (hn : n < 16) (reason : Nat) : (d.abortTx n reason).txState n = 5 := by
  have hreg : R.CUR_TX_STAT_STATE.reg ∈ slotRegs := by decide
  have hfire : ∀ t : Device, (t.fireIf R.CUR_TX_CTL_ABORT_EV_EN R.CUR_TX_CTL_ABORT_EV [n]).txState n = t.txState n := fun t => by
    unfold Device.fireIf
    split
    · exact Device.fire_get hreg hn t (t.get_lt R.CUR_TX_CTL_ABORT_EV [n])
    · rfl
  unfold Device.abortTx
  rw [hfire, Device.showCurtain_txState _ hn, Device.txState, Device.irq_get hreg hn _ _ rfl,
    Device.get_put_apart _ R.CUR_TX_STAT_REASON R.CUR_TX_STAT_STATE _ _ rfl (by decide) (by decide)]
  exact d.txState_put n 5

/-- COMMIT of an OPEN slot that TX15 does not exclude starts its check (R102). -/
theorem Device.txCommit_checks {d : Device} {n src : Nat} (h : d.txState n = 1) (hx : d.txExcluded n = false) :
    d.txCommit n src = ((d.setTx n { d.tx n with src := src, sampled := false, fired := false, passed := 0, failed := none }).put
      R.CUR_TX_STAT_STATE [n] 2).showCurtain := by
  simp [Device.txCommit, h, hx]

end Sys2Proof.Machine
end

section
/-! Scope: the transaction commands (R57, R64, R98 to R100, R108, R117), group 0x01, over the operations on a slot. -/

namespace Sys2Proof.Machine

/-! ### TXN_OPEN -/

theorem Device.entered_txnFree (d : Device) (e : Entry) (n : Nat) : (d.entered e).txnFree n = d.txnFree n := by
  simp only [Device.txnFree, Device.entered_txState]

/-- The commit of slot `n` is still to be answered. -/
def Device.commitOwed (d : Device) (n : Nat) : Bool :=
  d.ctl.works.any (fun w => decide (w.opcode = 0x0102 ∧ w.key.headD 0 = n) && !w.dead)

theorem Device.commitOwed_iff (d : Device) (n : Nat) :
    d.commitOwed n = true ↔ ∃ w ∈ d.ctl.works, w.opcode = 0x0102 ∧ w.key.headD 0 = n ∧ w.dead = false := by
  simp [Device.commitOwed, and_assoc]

/-- The lowest free slot whose commit is not owed is the one that opens (log entry 49). -/
theorem Device.txnOpen_opens {d : Device} {e : Entry} {n : Nat} (hn : n < 14) (hfree : d.txnFree n = true) (howed : d.commitOwed n = false)
    (hlow : ∀ m, m < n → d.txnFree m = false ∨ d.commitOwed m = true) :
    d.txnOpen e = (((d.txOpen n).disown (.txn n)).own e.via (.txn n)).ok (leBytes 2 (n + 1)) := by
  have hfind : ((List.range 14).filter d.txnFree).find? (fun m => !d.commitOwed m) = some n := by
    rw [List.find?_filter, List.find?_range_eq_some]
    refine ⟨by simp [hfree, howed], List.mem_range.2 hn, fun m hm => ?_⟩
    rcases hlow m hm with h | h <;> simp [h]
  unfold Device.commitOwed at hfind
  simp only [Device.txnOpen, hfind, Option.some_or]

/-- A resource without an owner goes to the mailbox that claims it (R57). -/
theorem Device.own_ownerOf {d : Device} (v : Via) {r : Res} (h : d.ownerOf r = none) : (d.own v r).ownerOf r = some v.owner := by
  have hfind : d.ctl.owners.find? (fun o => decide (o.1 = r)) = none := by simpa [Device.ownerOf] using h
  rw [Device.own, if_neg (by simp [h]), Device.ownerOf, Device.setCtl_ctl]
  simp [List.find?_append, hfind]

@[simp] theorem Device.disown_tx (d : Device) (r : Res) (n : Nat) : (d.disown r).tx n = d.tx n := rfl
@[simp] theorem Device.own_tx (d : Device) (v : Via) (r : Res) (n : Nat) : (d.own v r).tx n = d.tx n := by
  rw [Device.tx, Device.own_txs, ← Device.tx]

/-! ### TXN_STAGE (R99) -/

/-- Only a staged entry answers OK. -/
theorem stageStatus_ok {r : Nat} (h : stageStatus r = stOK) : r = 0 := by
  unfold stageStatus at h
  split at h
  · assumption
  · split_ifs at h <;> cases h

/-- Entries that all stage are all counted. -/
theorem Device.stageList_count (n : Nat) (ws : List MaskedWrite) (k : Nat) (d : Device) (h : (Device.stageList n ws k d).2.1 = stOK) :
    (Device.stageList n ws k d).1 = k + ws.length := by
  induction ws generalizing k d with
  | nil => rfl
  | cons w ws ih =>
    rw [Device.stageList] at h ⊢
    by_cases hnet : netField w.addr = true
    · rw [if_pos hnet] at h
      cases h
    · rw [if_neg hnet] at h ⊢
      by_cases hr : (d.stageInto n w false).1 = 0
      · simp only [hr, if_true] at h ⊢
        rw [ih _ _ h, List.length_cons]
        omega
      · simp only [hr, if_false] at h
        exact absurd (stageStatus_ok h) hr

theorem entriesOf_length (bs : List Byte) (n : Nat) : (entriesOf bs n).length = n := by simp [entriesOf]

/-- A well-formed TXN_STAGE of an OPEN transaction of its mailbox stages its entries in order. -/
theorem Device.txnStage_stages {d : Device} {e : Entry} {b : List Byte} {txn count : Nat} {r : Nat × Nat × Device}
    (hb : (if e.hostBuf then d.input e else e.body) = b)
    (htxn : fieldAt b 0 2 = txn) (hcount : fieldAt b 2 2 = count)
    (hbuf : e.hostBuf = true → e.inLen = 8 + 24 * count ∧ fieldAt b 4 4 = 0)
    (hinline : e.hostBuf = false → 4 + 24 * count ≤ e.length.toNat ∧ count ≤ 2) (hcheck : d.txnCheck e txn = stOK)
    (hst : d.txState (txn - 1) = 1)
    (hr : Device.stageList (txn - 1) (entriesOf (b.drop (if e.hostBuf then 8 else 4)) count) 0 d = r) :
    Device.txnStage e d = { status := r.2.1, dev := r.2.2
                            payload := layout [(2, r.1), (2, (r.2.2.tx (txn - 1)).entries.length), (1, 0),
                              (1, if r.2.1 = stCURTAIN_ABORTED then 4 else 0)] } := by
  subst hr
  have hcheck' : ¬ d.txnCheck e txn ≠ 0 := not_not.2 hcheck
  unfold Device.txnStage
  simp only [hb, htxn, hcount]
  rw [if_neg ?length, if_neg ?form, if_neg hcheck', if_neg (not_not.2 hst)]
  case length =>
    rintro (⟨hhost, hlen⟩ | ⟨hhost, hlen, -⟩)
    · exact hlen (hbuf hhost).1
    · exact absurd (hinline (by simpa using hhost)).1 (Nat.not_le.2 hlen)
  case form =>
    rintro (⟨hhost, hzero⟩ | ⟨hhost, hmany⟩)
    · exact hzero (hbuf hhost).2
    · exact absurd (hinline (by simpa using hhost)).2 (Nat.not_le.2 hmany)

/-! ### TXN_COMMIT (R101, R102) -/

/-- The control, time and deadline registers of slot `n` as a TXN_COMMIT writes them. -/
def Device.commitSet (d : Device) (e : Entry) (n : Nat) : Device :=
  let d := (d.put R.CUR_TX_CTL_MODE [n] (e.u 14 1)).put R.CUR_TX_CTL_DL_EN [n] (e.u 15 1 % 2)
  let d := d.put R.CUR_TX_CTL_TRIG [n] (e.u 16 1)
  let d := d.put R.CUR_TX_TIME_TIME [n] (e.u 24 8)
  d.put R.CUR_TX_DEADLINE_DEADLINE [n] (e.u 32 8)

theorem Device.commitSet_txState (d : Device) (e : Entry) (n m : Nat) : (d.commitSet e n).txState m = d.txState m := by
  have hstat : R.CUR_TX_STAT ∈ slotRegs := by decide
  have hctl : R.CUR_TX_STAT.addr [m] ≠ R.CUR_TX_CTL.addr [n] := slotReg_addr_ne hstat (by decide) (by decide) m n
  have htime : R.CUR_TX_STAT.addr [m] ≠ R.CUR_TX_TIME.addr [n] := slotReg_addr_ne hstat (by decide) (by decide) m n
  have hdeadline : R.CUR_TX_STAT.addr [m] ≠ R.CUR_TX_DEADLINE.addr [n] := slotReg_addr_ne hstat (by decide) (by decide) m n
  unfold Device.commitSet Device.txState
  rw [Device.get_put_ne _ (f := R.CUR_TX_DEADLINE_DEADLINE) _ hdeadline, Device.get_put_ne _ (f := R.CUR_TX_TIME_TIME) _ htime,
    Device.get_put_ne _ (f := R.CUR_TX_CTL_TRIG) _ hctl, Device.get_put_ne _ (f := R.CUR_TX_CTL_DL_EN) _ hctl,
    Device.get_put_ne _ (f := R.CUR_TX_CTL_MODE) _ hctl]

/-- Which slots exclude one another is read off the slots' states. -/
theorem Device.txExcluded_of_txState {d d' : Device} (h : ∀ m, d'.txState m = d.txState m) (n : Nat) :
    d'.txExcluded n = d.txExcluded n := by
  have hactive : d'.txActive = d.txActive := funext fun m => by simp only [Device.txActive, h]
  simp only [Device.txExcluded, hactive]

theorem Device.commitSet_mode {d : Device} {e : Entry} (n : Nat) (h : e.u 14 1 ≤ 2) :
    (d.commitSet e n).get R.CUR_TX_CTL_MODE [n] = e.u 14 1 := by
  have hctl : R.CUR_TX_CTL ∈ slotRegs := by decide
  have htime : R.CUR_TX_CTL.addr [n] ≠ R.CUR_TX_TIME.addr [n] := slotReg_addr_ne hctl (by decide) (by decide) n n
  have hdeadline : R.CUR_TX_CTL.addr [n] ≠ R.CUR_TX_DEADLINE.addr [n] := slotReg_addr_ne hctl (by decide) (by decide) n n
  unfold Device.commitSet
  rw [Device.get_put_ne _ (f := R.CUR_TX_DEADLINE_DEADLINE) _ hdeadline, Device.get_put_ne _ (f := R.CUR_TX_TIME_TIME) _ htime,
    Device.get_put_apart _ R.CUR_TX_CTL_TRIG R.CUR_TX_CTL_MODE _ _ rfl (by decide) (by decide),
    Device.get_put_apart _ R.CUR_TX_CTL_DL_EN R.CUR_TX_CTL_MODE _ _ rfl (by decide) (by decide),
    Device.get_put_same _ _ _ _ (by decide)]
  exact Nat.mod_eq_of_lt (by change _ < 4; omega)

theorem Device.commitSet_deadlineOn (d : Device) (e : Entry) (n : Nat) :
    (d.commitSet e n).get R.CUR_TX_CTL_DL_EN [n] = e.u 15 1 % 2 := by
  have hctl : R.CUR_TX_CTL ∈ slotRegs := by decide
  have htime : R.CUR_TX_CTL.addr [n] ≠ R.CUR_TX_TIME.addr [n] := slotReg_addr_ne hctl (by decide) (by decide) n n
  have hdeadline : R.CUR_TX_CTL.addr [n] ≠ R.CUR_TX_DEADLINE.addr [n] := slotReg_addr_ne hctl (by decide) (by decide) n n
  unfold Device.commitSet
  rw [Device.get_put_ne _ (f := R.CUR_TX_DEADLINE_DEADLINE) _ hdeadline, Device.get_put_ne _ (f := R.CUR_TX_TIME_TIME) _ htime,
    Device.get_put_apart _ R.CUR_TX_CTL_TRIG R.CUR_TX_CTL_DL_EN _ _ rfl (by decide) (by decide),
    Device.get_put_same _ _ _ _ (by decide)]
  exact Nat.mod_mod _ 2

theorem Device.commitSet_time (d : Device) (e : Entry) (n : Nat) : (d.commitSet e n).get R.CUR_TX_TIME_TIME [n] = e.u 24 8 := by
  have hdeadline : R.CUR_TX_TIME.addr [n] ≠ R.CUR_TX_DEADLINE.addr [n] := slotReg_addr_ne (by decide) (by decide) (by decide) n n
  unfold Device.commitSet
  rw [Device.get_put_ne _ (f := R.CUR_TX_DEADLINE_DEADLINE) _ hdeadline, Device.get_put_same _ _ _ _ (by decide)]
  exact Nat.mod_eq_of_lt (e.u_lt 24 8)

theorem Device.commitSet_deadline (d : Device) (e : Entry) (n : Nat) :
    (d.commitSet e n).get R.CUR_TX_DEADLINE_DEADLINE [n] = e.u 32 8 := by
  unfold Device.commitSet
  rw [Device.get_put_same _ _ _ _ (by decide)]
  exact Nat.mod_eq_of_lt (e.u_lt 32 8)

/-- A field of another register of the slots than CUR_TXn_STAT reads after a commit as before it. -/
theorem Device.txCommit_get {d : Device} {n src : Nat} (hn : n < 16) (h : d.txState n = 1) (hx : d.txExcluded n = false) {f : Fld}
    (hf : f.reg ∈ slotRegs) (hne : f.reg.base ≠ R.CUR_TX_STAT.base) : (d.txCommit n src).get f [n] = d.get f [n] := by
  rw [Device.txCommit_checks h hx, Device.showCurtain_get hf hn,
    Device.get_put_ne _ (f := R.CUR_TX_STAT_STATE) _ (slotReg_addr_ne hf (by decide) hne n n), Device.setTx_get]

theorem Device.txCommit_txState {d : Device} {n src : Nat} (hn : n < 16) (h : d.txState n = 1) (hx : d.txExcluded n = false) :
    (d.txCommit n src).txState n = 2 := by
  rw [Device.txCommit_checks h hx, Device.showCurtain_txState _ hn]
  exact Device.txState_put _ n 2

theorem Device.txCommit_entries {d : Device} {n src : Nat} (h : d.txState n = 1) (hx : d.txExcluded n = false) :
    ((d.txCommit n src).tx n).entries = (d.tx n).entries := by
  rw [Device.txCommit_checks h hx, Device.showCurtain_tx]
  change ((d.setTx n _).tx n).entries = _
  rw [Device.setTx_same]

theorem Device.txCommit_hbm {d : Device} {n src : Nat} (h : d.txState n = 1) (hx : d.txExcluded n = false) :
    (d.txCommit n src).hbm = d.hbm := by
  rw [Device.txCommit_checks h hx, Device.showCurtain_hbm, Device.put_hbm, Device.setTx_hbm]

/-- A mailbox that may use a transaction names one of TX0 to TX13. -/
theorem Device.txnCheck_range {d : Device} {e : Entry} {txn : Nat} (h : d.txnCheck e txn = stOK) : 1 ≤ txn ∧ txn ≤ 14 := by
  unfold Device.txnCheck at h
  obtain ⟨hrange, -⟩ := ite_ok (by decide) h
  omega

theorem Device.txnCommit_commits {d : Device} {e : Entry} {txn : Nat} (htxn : e.u 12 2 = txn) (hmode : e.u 14 1 ≤ 2)
    (hflags : e.u 15 1 ≤ 3) (hzero : e.u 17 7 = 0) (hrest : e.u 40 24 = 0) (hcheck : d.txnCheck e txn = stOK)
    (hst : d.txState (txn - 1) = 1) :
    Device.txnCommit e d = ((d.commitSet e (txn - 1)).txCommit (txn - 1) 0).accepted [txn - 1, e.u 15 1 / 2] 99 := by
  subst htxn
  have hcheck' : ¬ d.txnCheck e (e.u 12 2) ≠ 0 := not_not.2 hcheck
  unfold Device.txnCommit
  simp only
  rw [if_neg (by omega), if_neg hcheck', if_neg (not_not.2 hst)]
  rfl

/-! ### TXN_CANCEL (R117) -/

section

variable {d : Device} {e : Entry} {n : Nat} (htxn : e.u 12 2 = n + 1) (hcheck : d.txnCheck e (n + 1) = stOK)
include htxn hcheck

theorem Device.txnCancel_open (hst : d.txState n = 1) : Device.txnCancel e d = ((d.txCancel n).disown (.txn n)).ok [] := by
  have hn := (Device.txnCheck_range hcheck).2
  have hcheck' : d.txnCheck e (n + 1) = 0 := hcheck
  simp [Device.txnCancel, htxn, hcheck', Device.txnFree, hst, Device.txCancel_open_txState (show n < 16 by omega) hst]

theorem Device.txnCancel_armed (hst : d.txState n = 3) (hs : (d.tx n).sampled = false) :
    Device.txnCancel e d = (d.abortTx n 7).ok [] := by
  have hn := (Device.txnCheck_range hcheck).2
  have hcheck' : d.txnCheck e (n + 1) = 0 := hcheck
  have habort : d.txCancel n = d.abortTx n 7 := by simp [Device.txCancel, hst, hs]
  simp [Device.txnCancel, htxn, hcheck', Device.txnFree, hst, hs, habort, d.abortTx_txState (show n < 16 by omega) 7]

theorem Device.txnCancel_late (hst : d.txState n = 2 ∨ (d.txState n = 3 ∧ (d.tx n).sampled = true)) :
    Device.txnCancel e d = (d.setFlag R.CUR_TX_STAT_CANCEL_LATE [n] true).no stBUSY := by
  have hcheck' : d.txnCheck e (n + 1) = 0 := hcheck
  rcases hst with hst | ⟨hst, hs⟩
  · simp [Device.txnCancel, htxn, hcheck', Device.txnFree, hst, Device.txCancel]
  · simp [Device.txnCancel, htxn, hcheck', Device.txnFree, hst, hs, Device.txCancel]

end

/-- TXN_QUERY reports the registers of the slot. -/
theorem Device.txnQuery_reports {d : Device} {e : Entry} {n : Nat} (htxn : e.u 12 2 = n + 1) (hcheck : d.txnCheck e (n + 1) = stOK) :
    Device.txnQuery e d = d.ok (layout [(1, d.txState n), (1, d.get R.CUR_TX_STAT_REASON [n]), (2, d.get R.CUR_TX_STAT_COUNT [n]),
      (4, d.get R.CUR_TX_RESULT_EPOCH [n]), (8, d.get R.CUR_TX_ADOPT_TT [n])]) := by
  have hcheck' : ¬ d.txnCheck e (n + 1) ≠ 0 := not_not.2 hcheck
  unfold Device.txnQuery
  simp only [htxn, Nat.add_sub_cancel]
  rw [if_neg hcheck']

/-! ### The group -/

/-- Settles O40: each command is one operation on a slot once its own checks are passed. -/
theorem transactionCommands : Obligations.TransactionCommands := by
  refine ⟨fun s e n hn hfree howed hlow => ?txnOpen, fun s e b txn count hb htxn hcount hbuf hinline hcheck hst => ?txnStage,
    fun s e txn htxn hmode hflags hzero hrest hcheck hst hx => ?txnCommit, fun s e n htxn hcheck hst => ?cancelOpen,
    fun s e n htxn hcheck hst hs => ?cancelArmed, fun s e n htxn hcheck hst => ?cancelLate, fun s e n htxn hcheck => ?txnQuery,
    fun s e => ?epochQuery⟩
  case txnOpen =>
    refine State.gives_of (body := fun d => d.txnOpen e) rfl fun _ => ?_
    have hfree' := (s.dev.entered_txnFree e n).trans hfree
    have hn16 : n < 16 := by omega
    rw [Device.txnOpen_opens hn hfree' ?notOwed fun m hm => ?lower]
    case notOwed =>
      refine Bool.eq_false_iff.2 fun h => ?_
      obtain ⟨w, hw, hop, hkey, hdead⟩ := (Device.commitOwed_iff _ _).1 h
      rw [howed w hw hop hkey] at hdead
      cases hdead
    case lower => exact (hlow m hm).imp ((s.dev.entered_txnFree e m).trans ·) (Device.commitOwed_iff _ _).2
    refine ⟨rfl, rfl, ?_, ?_, Device.own_ownerOf _ (Device.disown_ownerOf _ _), ?_⟩
    · exact (Device.own_get _ _ _ _ _).trans (Device.txOpen_txState hn16 hfree')
    · change (((((s.dev.entered e).txOpen n).disown (.txn n)).own e.via (.txn n)).tx n).entries = []
      rw [Device.own_tx, Device.disown_tx, Device.txOpen_tx hfree']
    · exact (Device.own_hbm _ _ _).trans (Device.txOpen_hbm _ _)
  case txnStage =>
    refine State.gives_of (body := Device.txnStage e) rfl fun _ => ?_
    rw [Device.txnStage_stages hb htxn hcount hbuf hinline hcheck ((s.dev.entered_txState e _).trans hst) rfl]
    refine ⟨_, _, _, rfl, rfl, rfl, fun hok => ?_, rfl⟩
    rw [Device.stageList_count _ _ _ _ hok, entriesOf_length, Nat.zero_add]
  case txnCommit =>
    refine State.gives_of (body := Device.txnCommit e) rfl fun _ => ?_
    have hst' := (s.dev.entered_txState e (txn - 1)).trans hst
    have hrange := Device.txnCheck_range hcheck
    have hn : txn - 1 < 16 := by omega
    have hopen := ((s.dev.entered e).commitSet_txState e (txn - 1) (txn - 1)).trans hst'
    have hx' : ((s.dev.entered e).commitSet e (txn - 1)).txExcluded (txn - 1) = false := by
      rw [Device.txExcluded_of_txState (Device.commitSet_txState _ e _), Device.txExcluded_of_txState (s.dev.entered_txState e), hx]
    rw [Device.txnCommit_commits htxn hmode hflags hzero hrest hcheck hst']
    refine ⟨rfl, rfl, Device.txCommit_txState hn hopen hx', ?_, ?_, ?_, ?_, Device.txCommit_entries hopen hx',
      Device.txCommit_hbm hopen hx'⟩
    · exact (Device.txCommit_get hn hopen hx' (by decide) (by decide)).trans (Device.commitSet_mode _ hmode)
    · exact (Device.txCommit_get hn hopen hx' (by decide) (by decide)).trans (Device.commitSet_deadlineOn _ _ _)
    · exact (Device.txCommit_get hn hopen hx' (by decide) (by decide)).trans (Device.commitSet_time _ _ _)
    · exact (Device.txCommit_get hn hopen hx' (by decide) (by decide)).trans (Device.commitSet_deadline _ _ _)
  case cancelOpen =>
    refine State.gives_of (body := Device.txnCancel e) rfl fun _ => ?_
    have hst' := (s.dev.entered_txState e n).trans hst
    have hrange := Device.txnCheck_range hcheck
    rw [Device.txnCancel_open htxn hcheck hst']
    refine ⟨rfl, Device.txCancel_open_txState (by omega) hst', ?_, Device.disown_ownerOf _ _⟩
    change (((s.dev.entered e).txCancel n).tx n).entries = []
    rw [Device.txCancel_open_tx hst']
  case cancelArmed =>
    exact State.gives_of (body := Device.txnCancel e) rfl fun _ =>
      Device.txnCancel_armed htxn hcheck ((s.dev.entered_txState e n).trans hst) hs
  case cancelLate =>
    refine State.gives_of (body := Device.txnCancel e) rfl fun _ => Device.txnCancel_late htxn hcheck ?_
    rwa [s.dev.entered_txState e n]
  case txnQuery =>
    refine State.gives_of (body := Device.txnQuery e) rfl fun _ => ?_
    rw [Device.txnQuery_reports htxn hcheck]
    exact ⟨rfl, rfl, rfl⟩
  case epochQuery => exact State.gives_of (body := Device.epochQuery) rfl fun _ => ⟨rfl, rfl, rfl⟩

end Sys2Proof.Machine
end

section
/-! Scope: the BAR0 port of the Net table (R98, R117, R129, R130), each bit of NET_PORT_CTL and each write of NET_PORT_DATA being an
access of the host that reaches BAR0 (R419); and the digest of the table (R122). -/

namespace Sys2Proof.Machine

/-! ### An access of the host -/

section

variable {s : State} {i : Instr} {f : Device → Device} (hx : exec i s = s.live (fun d => d.hostDoes f)) (h : s.awake)
include hx h

theorem State.does_of_hostReach {d : Device} (hreach : s.dev.hostReach = true) (hd : f s.dev = d) : s.does i d :=
  State.does_of_live hx h ((if_pos hreach).trans hd)

theorem State.does_of_noReach (hreach : s.dev.hostReach = false) : s.does i s.dev :=
  State.does_of_live hx h (if_neg (ne_true_of_eq_false hreach))

end

/-! ### UNLOCK -/

theorem Device.netUnlock_match {d : Device} (hfail : d.get R.NET_PORT_STAT_KEY_FAIL [] < 8)
    (hkey : sha384 d.hostKey = fit 48 d.sec.hkeyHash) : d.netUnlock = d.setFlag R.NET_PORT_STAT_UNLOCKED [] true := by
  rw [Device.netUnlock, if_neg (Nat.not_le.2 hfail), if_pos hkey]

theorem Device.netUnlock_mismatch {d : Device} (hfail : d.get R.NET_PORT_STAT_KEY_FAIL [] < 8)
    (hkey : sha384 d.hostKey ≠ fit 48 d.sec.hkeyHash) :
    d.netUnlock = d.put R.NET_PORT_STAT_KEY_FAIL [] (d.get R.NET_PORT_STAT_KEY_FAIL [] + 1) := by
  rw [Device.netUnlock, if_neg (Nat.not_le.2 hfail), if_neg hkey]

theorem Device.netUnlock_exhausted {d : Device} (hfail : 8 ≤ d.get R.NET_PORT_STAT_KEY_FAIL []) : d.netUnlock = d := if_pos hfail

/-! ### OPEN and COMMIT -/

section

variable {d : Device}

theorem Device.netOpen_unlocked (h : d.netUnlocked = true) : d.netOpen = d.txOpen 15 := if_pos h
theorem Device.netOpen_locked (h : d.netUnlocked = false) : d.netOpen = d := if_neg (ne_true_of_eq_false h)
theorem Device.netCommit_unlocked (h : d.netUnlocked = true) : d.netCommit = d.txCommit 15 2 := by rw [Device.netCommit, if_pos h]
theorem Device.netCommit_locked (h : d.netUnlocked = false) : d.netCommit = d := by
  rw [Device.netCommit, if_neg (ne_true_of_eq_false h)]

end

/-! ### Staging (R98 to R100, R129) -/

/-- Slot `n` with the entry `w` added or merged, and counted. -/
def Device.withEntry (d : Device) (n : Nat) (w : MaskedWrite) : Device :=
  let es := mergeEntry w (d.tx n).entries
  ((d.setTx n { d.tx n with entries := es }).put R.CUR_TX_STAT_COUNT [n] es.length).showCurtain

theorem Device.stageInto_staged {d : Device} {n : Nat} {w : MaskedWrite} {fromPort : Bool} (h : d.stageResult n w fromPort = 0) :
    d.stageInto n w fromPort = (0, d.withEntry n w) := if_pos h

@[simp] theorem Device.put_tx (d : Device) (f : Fld) (ix : List Nat) (v n : Nat) : (d.put f ix v).tx n = d.tx n := rfl

theorem Device.withEntry_entries (d : Device) (n : Nat) (w : MaskedWrite) :
    ((d.withEntry n w).tx n).entries = mergeEntry w (d.tx n).entries := by
  rw [Device.withEntry, Device.showCurtain_tx, Device.put_tx, Device.setTx_same]

@[simp] theorem Device.withEntry_hbm (d : Device) (n : Nat) (w : MaskedWrite) : (d.withEntry n w).hbm = d.hbm :=
  Device.showCurtain_hbm _

/-- The half that NET_PORT_DATA holds has no part in what a slot takes. -/
theorem Device.stageResult_netLow (d : Device) (low n : Nat) (w : MaskedWrite) (fromPort : Bool) :
    (d.setCtl { d.ctl with netLow := low }).stageResult n w fromPort = d.stageResult n w fromPort := rfl

theorem Device.netLow_tx (d : Device) (low n : Nat) : (d.setCtl { d.ctl with netLow := low }).tx n = d.tx n := rfl

/-- The value that a write of NET_PORT_DATA stages: whole, or its upper half over the lower half held before. -/
def Device.netValue (d : Device) (half : Bool) (v : Word) : Word :=
  if half then v.extractLsb' 32 32 ++ BitVec.ofNat 32 d.ctl.netLow else v

theorem Device.netValue_whole (d : Device) (v : Word) : d.netValue false v = v := rfl

theorem Device.netValue_upper (d : Device) (v : Word) :
    d.netValue true v = v.extractLsb' 32 32 ++ BitVec.ofNat 32 d.ctl.netLow := rfl

theorem Device.netStage_locked {d : Device} (h : d.flag R.NET_PORT_STAT_UNLOCKED [] = false) (half : Bool) (v : Word) :
    d.netStage half v = d := by
  simp [Device.netStage, Device.netUnlocked, h]

theorem Device.netStage_stages {d : Device} {half : Bool} {v : Word} {w : MaskedWrite}
    (h : d.flag R.NET_PORT_STAT_UNLOCKED [] = true)
    (hw : w = { addr := 0x0F700000 + d.get R.NET_PORT_ADDR_OFFSET [] * 8, mask := d.rd R.NET_PORT_MASK [], value := d.netValue half v })
    (hr : d.stageResult 15 w true = 0) :
    d.netStage half v = ((d.setCtl { d.ctl with netLow := 0 }).withEntry 15 w).put R.NET_PORT_STAT_STG_RESULT [] 0 := by
  have hlocked : ¬ (!d.netUnlocked) = true := by simp [Device.netUnlocked, h]
  have hstaged := Device.stageInto_staged ((d.stageResult_netLow 0 15 w true).trans hr)
  subst hw
  rw [Device.netStage, if_neg hlocked]
  simp only [Device.setCtl_get, Device.setCtl_rd]
  rw [← Device.netValue, hstaged]

/-- What the host finds after an entry of TX15 has been staged through the port. -/
theorem State.does_netPortStage {s : State} {half : Bool} {v : Word} {w : MaskedWrite} (h : s.awake) (hreach : s.dev.hostReach = true)
    (hun : s.dev.flag R.NET_PORT_STAT_UNLOCKED [] = true)
    (hw : w = { addr := 0x0F700000 + s.dev.get R.NET_PORT_ADDR_OFFSET [] * 8, mask := s.dev.rd R.NET_PORT_MASK []
                value := s.dev.netValue half v })
    (hr : s.dev.stageResult 15 w true = 0) :
    ∃ d, s.does (.netPortStage half v) d ∧ (d.tx 15).entries = mergeEntry w (s.dev.tx 15).entries
      ∧ d.get R.NET_PORT_STAT_STG_RESULT [] = 0 ∧ d.hbm = s.dev.hbm := by
  refine ⟨_, State.does_of_hostReach (f := fun d => d.netStage half v) rfl h hreach (Device.netStage_stages hun hw hr), ?_, ?_, ?_⟩
  · rw [Device.put_tx, Device.withEntry_entries, Device.netLow_tx]
  · exact Device.get_put_same _ _ _ _ (by decide)
  · rw [Device.put_hbm, Device.withEntry_hbm, Device.setCtl_hbm]

/-! ### The digest (R122) -/

/-- Writing the first `n` registers of an array changes the register file alone, -/
theorem Device.foldl_wr_rest {γ : Type} (d : Device) (r : Reg) (v : Nat → Word) (n : Nat) (g : Device → γ)
    (hg : ∀ (t : Device) k, g (t.wr r [k] (v k)) = g t) : g ((List.range n).foldl (fun d k => d.wr r [k] (v k)) d) = g d := by
  induction n with
  | zero => rfl
  | succ n ih => rw [List.range_succ, List.foldl_append, List.foldl_cons, List.foldl_nil, hg, ih]

/-- and each of them, where they lie apart, reads as written. -/
theorem Device.foldl_wr_rd (d : Device) (r : Reg) (v : Nat → Word) {k n : Nat} (hk : k < n)
    (hr : ∀ j, j < n → j ≠ k → r.addr [k] ≠ r.addr [j]) :
    ((List.range n).foldl (fun d k => d.wr r [k] (v k)) d).rd r [k] = v k := by
  induction n with
  | zero => omega
  | succ n ih =>
    rw [List.range_succ, List.foldl_append, List.foldl_cons, List.foldl_nil]
    by_cases hn : k = n
    · subst hn
      exact Device.rd_wr_same _ _ _ _
    · rw [Device.rd_wr_ne _ _ (hr n (by omega) (Ne.symm hn)), ih (by omega) fun j hj => hr j (by omega)]

theorem netHash_addr_ne {j k : Nat} (h : j ≠ k) : R.NET_HASH.addr [k] ≠ R.NET_HASH.addr [j] := by
  simp only [Reg.addr, R.NET_HASH, strideSum]
  omega

/-- Word `k` of the digest of the table. -/
def Device.netDigest (d : Device) (k : Nat) : Word := BitVec.ofNat 64 (fieldAt (sha384 d.netImage) (8 * k) 8)

theorem Device.netHashUpdate_idle {d : Device} (h : d.sec.netHashDue = false) : d.netHashUpdate = d := by
  simp [Device.netHashUpdate, h]

/-- The digest written. -/
def Device.hashWritten (d : Device) : Device := (List.range 6).foldl (fun t k => t.wr R.NET_HASH [k] (d.netDigest k)) d

theorem Device.netHashUpdate_due {d : Device} (h : d.sec.netHashDue = true) :
    d.netHashUpdate = d.hashWritten.setSec { d.hashWritten.sec with netHashDue := false } := by
  have hdue : ¬ (!d.sec.netHashDue) = true := by simp [h]
  rw [Device.netHashUpdate, if_neg hdue]
  rfl

@[simp] theorem Device.hashWritten_sec (d : Device) : d.hashWritten.sec = d.sec :=
  d.foldl_wr_rest R.NET_HASH d.netDigest 6 Device.sec fun t _ => t.wr_sec _ _ _

@[simp] theorem Device.hashWritten_hbm (d : Device) : d.hashWritten.hbm = d.hbm :=
  d.foldl_wr_rest R.NET_HASH d.netDigest 6 Device.hbm fun t _ => t.wr_hbm _ _ _

theorem Device.hashWritten_rd (d : Device) {k : Nat} (hk : k < 6) : d.hashWritten.rd R.NET_HASH [k] = d.netDigest k :=
  d.foldl_wr_rd R.NET_HASH d.netDigest hk fun _ _ hj => netHash_addr_ne hj

/-! ### The rows -/

/-- Settles O18: each row is one operation of the port, taken where the host reaches BAR0, or the digest of the table. -/
theorem netPortRows : Obligations.NetPortRows := by
  refine ⟨fun s h hreach hfail => ?unlock, fun s h hreach hfail => ?exhausted, fun s h hreach hun high v => ?locked,
    fun s h hreach hun => ?unlocked, fun s h hreach => ?always, fun s w v h hreach hun hw hr => ?whole,
    fun s w v h hreach hun hw hr => ?upper, fun s v h hreach => ?lower, fun s h hreach high v w => ?noReach, fun s h hdue => ?digest,
    fun s h hdue => ?noDigest⟩
  case unlock =>
    exact ⟨fun hkey => State.does_of_hostReach rfl h hreach (Device.netUnlock_match hfail hkey),
      fun hkey => State.does_of_hostReach rfl h hreach (Device.netUnlock_mismatch hfail hkey)⟩
  case exhausted => exact State.does_of_hostReach rfl h hreach (Device.netUnlock_exhausted hfail)
  case locked =>
    exact ⟨State.does_of_hostReach rfl h hreach (Device.netOpen_locked hun),
      State.does_of_hostReach rfl h hreach (Device.netCommit_locked hun),
      State.does_of_hostReach rfl h hreach (Device.netStage_locked hun high v)⟩
  case unlocked =>
    exact ⟨State.does_of_hostReach rfl h hreach (Device.netOpen_unlocked hun),
      State.does_of_hostReach rfl h hreach (Device.netCommit_unlocked hun)⟩
  case always => exact ⟨State.does_of_hostReach rfl h hreach rfl, State.does_of_hostReach rfl h hreach rfl⟩
  case whole => exact State.does_netPortStage (half := false) h hreach hun (by rw [hw, Device.netValue_whole]) hr
  case upper => exact State.does_netPortStage (half := true) h hreach hun (by rw [hw, Device.netValue_upper]) hr
  case lower => exact State.does_of_hostReach rfl h hreach rfl
  case noReach =>
    exact ⟨State.does_of_noReach rfl h hreach, State.does_of_noReach rfl h hreach, State.does_of_noReach rfl h hreach,
      State.does_of_noReach rfl h hreach, State.does_of_noReach rfl h hreach, State.does_of_noReach rfl h hreach,
      State.does_of_noReach rfl h hreach⟩
  case digest =>
    refine ⟨_, State.does_of_live rfl h (Device.netHashUpdate_due hdue), ?_, fun k hk => ?_, ?_⟩
    · rw [Device.setSec_sec, Device.hashWritten_sec]
    · rw [Device.setSec_rd, Device.hashWritten_rd _ hk, Device.netDigest]
    · rw [Device.setSec_hbm, Device.hashWritten_hbm]
  case noDigest => exact State.does_of_live rfl h (Device.netHashUpdate_idle hdue)

end Sys2Proof.Machine
end

section
/-! Scope: errors of HBM and of the booths' SRAM, the patrol scrub, and the training and the wipe of HBM (R135, R138, R433, R434,
R436). -/

namespace Sys2Proof.Machine

/-! ### What the memory booth logs (R433) -/

/-- The registers in which an error of HBM is counted and logged. -/
def eccRegs : List Reg := [R.ECC_CNT, R.ECC_LAST_ADDR, R.ECC_LAST_INFO, R.ECC_LAST_TT]

/-- No other register changes when an error is logged. -/
theorem Device.memErr_get (d : Device) (uncorr : Bool) (cls booth index off : Nat) {f : Fld} {ix : List Nat}
    (h : ∀ r ∈ eccRegs, f.reg.addr ix ≠ r.addr []) : (d.memErr uncorr cls booth index off).get f ix = d.get f ix := by
  simp only [eccRegs, List.forall_mem_cons, List.not_mem_nil, false_imp_iff, implies_true, and_true] at h
  obtain ⟨hcnt, haddr, hinfo, htt⟩ := h
  have hcount : (if uncorr then d.bump R.ECC_CNT_UNCORR [] else d.bump R.ECC_CNT_CORR []).get f ix = d.get f ix := by
    cases uncorr
    · exact Device.get_put_ne _ (f := R.ECC_CNT_CORR) _ hcnt
    · exact Device.get_put_ne _ (f := R.ECC_CNT_UNCORR) _ hcnt
  unfold Device.memErr Device.setFlag
  rw [Device.get_put_ne _ (f := R.ECC_LAST_TT_TT) _ htt, Device.get_put_ne _ (f := R.ECC_LAST_INFO_INDEX) _ hinfo,
    Device.get_put_ne _ (f := R.ECC_LAST_INFO_BOOTH) _ hinfo, Device.get_put_ne _ (f := R.ECC_LAST_INFO_CLASS) _ hinfo,
    Device.get_put_ne _ (f := R.ECC_LAST_INFO_UNCORR) _ hinfo, Device.get_put_ne _ (f := R.ECC_LAST_ADDR_ADDR) _ haddr]
  exact hcount

@[simp] theorem Device.markBad_get (d : Device) (off : Nat) (f : Fld) (ix : List Nat) : (d.markBad off).get f ix = d.get f ix := by
  unfold Device.markBad
  split <;> rfl

/-- The uncorrectable word at `off` has been logged and is kept bad. -/
def Device.uncorrLogged (d : Device) (cls booth index off : Nat) : Device := (d.memErr true cls booth index off).markBad off

theorem Device.uncorrLogged_portPresent (d : Device) (cls booth index off p : Nat) :
    (d.uncorrLogged cls booth index off).portPresent p = d.portPresent p := by
  rw [Device.portPresent, Device.uncorrLogged, Device.markBad_get, Device.memErr_get _ _ _ _ _ _ (by decide), ← Device.portPresent]

/-! ### The requester of the word (R433) -/

/-- What an uncorrectable word does to its requester, once it has been logged. -/
def Device.requesterHit (d : Device) (cls booth index : Nat) : Device :=
  if cls = 0 ∧ d.portPresent booth = true then d.portFault booth 2
  else if cls = 1 ∧ index < 32 then d.engineFault index 2
  else if cls = 2 ∨ cls = 3 then d.deviceFault 3 false
  else if cls = 6 then d.sealUecc
  else d

section

variable (d : Device) {cls booth index : Nat}

theorem Device.requesterHit_port (hc : cls = 0) (h : d.portPresent booth = true) :
    d.requesterHit cls booth index = d.portFault booth 2 := by
  rw [Device.requesterHit, if_pos ⟨hc, h⟩]

theorem Device.requesterHit_engine (hc : cls = 1) (h : index < 32) : d.requesterHit cls booth index = d.engineFault index 2 := by
  rw [Device.requesterHit, if_neg (by omega), if_pos ⟨hc, h⟩]

theorem Device.requesterHit_control (hc : cls = 2 ∨ cls = 3) : d.requesterHit cls booth index = d.deviceFault 3 false := by
  rw [Device.requesterHit, if_neg (by omega), if_neg (by omega), if_pos hc]

theorem Device.requesterHit_seal (hc : cls = 6) : d.requesterHit cls booth index = d.sealUecc := by
  rw [Device.requesterHit, if_neg (by omega), if_neg (by omega), if_neg (by omega), if_pos hc]

theorem Device.requesterHit_absent (hc : cls = 0) (h : d.portPresent booth = false) : d.requesterHit cls booth index = d := by
  rw [Device.requesterHit, if_neg (fun hp => ne_true_of_eq_false h hp.2), if_neg (by omega), if_neg (by omega), if_neg (by omega)]

/-- The classes whose requester has no fault of its own. -/
theorem Device.requesterHit_other (h0 : cls ≠ 0) (h1 : cls ≠ 1) (h2 : cls ≠ 2) (h3 : cls ≠ 3) (h6 : cls ≠ 6) :
    d.requesterHit cls booth index = d := by
  simp [Device.requesterHit, h0, h1, h2, h3, h6]

end

section

variable {d : Device} {off : Nat}

theorem Device.hbmUncorr_outside (hoff : hbmSize ≤ off) (cls booth index : Nat) : d.hbmUncorr cls booth index off = d :=
  if_pos (.inr hoff)

theorem Device.hbmCorr_outside (hoff : hbmSize ≤ off) (cls booth index : Nat) : d.hbmCorr cls booth index off = d :=
  if_pos (.inr hoff)

variable (h : d.sec.inReset = false)
include h

theorem Device.hbmUncorr_inside (hoff : off < hbmSize) (cls booth index : Nat) :
    d.hbmUncorr cls booth index off = (d.uncorrLogged cls booth index off).requesterHit cls booth index := by
  rw [Device.hbmUncorr, if_neg (by simp [h, hoff])]
  extract_lets e
  change _ = e.requesterHit cls booth index
  split
  case h_6 h0 h1 h2 h3 h6 => exact (e.requesterHit_other h0 h1 h2 h3 h6).symm
  all_goals simp [Device.requesterHit]

theorem Device.hbmCorr_inside (hoff : off < hbmSize) (cls booth index : Nat) :
    d.hbmCorr cls booth index off = (d.memErr false cls booth index off).eccWarn := if_neg (by simp [h, hoff])

end

/-! ### The patrol scrub (R434) -/

/-- The scrub has read the word at `off`. -/
def Device.scrubWord (d : Device) (off : Nat) (found uncorr : Bool) : Device :=
  if uncorr || d.wordBad off then d.uncorrLogged 5 9 0 off else if found then (d.memErr false 5 9 0 off).eccWarn else d

theorem Device.scrubWord_bad {d : Device} {off : Nat} {found uncorr : Bool} (h : uncorr = true ∨ d.wordBad off = true) :
    d.scrubWord off found uncorr = d.uncorrLogged 5 9 0 off := if_pos (by simpa using h)

theorem Device.scrubWord_corrected {d : Device} {off : Nat} (h : d.wordBad off = false) :
    d.scrubWord off true false = (d.memErr false 5 9 0 off).eccWarn := by simp [Device.scrubWord, h]

theorem Device.scrubWord_good {d : Device} {off : Nat} (h : d.wordBad off = false) : d.scrubWord off false false = d := by
  simp [Device.scrubWord, h]

theorem Device.patrolScrub_idle {d : Device} {off : Nat}
    (h : d.sec.hbmWiped = false ∨ d.flag R.MEM_SCRUB_EN [] = false ∨ hbmSize ≤ off) (found uncorr : Bool) :
    d.patrolScrub off found uncorr = d := if_pos (.inr (by simpa using h))

section

variable {d : Device} (h : d.sec.inReset = false) (hwiped : d.sec.hbmWiped = true) (hen : d.flag R.MEM_SCRUB_EN [] = true) {off : Nat}
  (hoff : off < hbmSize) (found uncorr : Bool)
include h hwiped hen hoff

theorem Device.patrolScrub_word (hnext : off / 8 + 1 ≠ hbmSize / 8) : d.patrolScrub off found uncorr = d.scrubWord off found uncorr := by
  rw [Device.patrolScrub, if_neg (by simp [h, hwiped, hen, hoff]), if_neg hnext]
  rfl

theorem Device.patrolScrub_last (hlast : off / 8 + 1 = hbmSize / 8) :
    d.patrolScrub off found uncorr = (d.scrubWord off found uncorr).count R.MEM_SCRUB_PASSES [] := by
  rw [Device.patrolScrub, if_neg (by simp [h, hwiped, hen, hoff]), if_pos hlast]
  rfl

end

/-! ### SRAM of the booths and the engines (R135, R138) -/

theorem Device.containedUecc_absent {d : Device} {n : Nat} (hp : d.portPresent n = false) : d.containedUecc false n = d := by
  simp [Device.containedUecc, hp]

section

variable {d : Device} (h : d.sec.inReset = false)
include h

theorem Device.containedUecc_engine (n : Fin 32) : d.containedUecc true n.val = d.engineFault n.val 2 := by
  simp [Device.containedUecc, h]

theorem Device.containedUecc_present {n : Nat} (hp : d.portPresent n = true) : d.containedUecc false n = d.portFault n 2 := by
  simp [Device.containedUecc, h, hp]

theorem Device.boothUecc_motion : d.boothUecc 12 = d.motionUecc := by simp [Device.boothUecc, h]

theorem Device.boothUecc_unique {b : Nat} (hb : b = 8 ∨ b = 9 ∨ b = 10 ∨ b = 11 ∨ b = 13) :
    d.boothUecc b = d.deviceFault 6 false := by
  rw [Device.boothUecc, if_neg (ne_true_of_eq_false h), if_neg (by omega), if_pos hb]

theorem Device.boothUecc_other {b : Nat} (hb : b < 8 ∨ 14 ≤ b) : d.boothUecc b = d := by
  rw [Device.boothUecc, if_neg (ne_true_of_eq_false h), if_neg (by omega), if_neg (by omega)]

end

/-- The axes' outputs as an uncorrectable error in the motion booth finds them, in one mask, -/
def Device.axesOut (d : Device) : Nat := maskWhere 4 (fun a => d.flag R.CD_STAT_EN_OUT [a])

/-- and whether one of them is moving. -/
def Device.axesRamp (d : Device) : Bool := (List.range 4).any (fun a => d.flag R.CD_STAT_EN_OUT [a] && !(d.axis a).still)

/-- The motion booth taken off at an uncorrectable error: the note, the axes, the positions and MSV_STAT (R138, R385). -/
def Device.motionOff (d : Device) : Device :=
  let d := if d.axesOut = 0 then d else d.logRecord (d.newRecord 4 2 12 d.axesOut false d.setPoints)
  let d := (List.range 4).foldl (fun d a => (d.setFlag R.CD_CTL_EN [a] false).cutAxis a 0) d
  ((List.range 4).foldl (fun d f => d.setFlag R.FB_STAT_SUSPECT [f] true) d).setFlag R.MSV_STAT_UECC [] true

theorem Device.motionUecc_eq (d : Device) : d.motionUecc
    = if d.motionOff.faultInForce then (if d.axesRamp then d.motionOff.markMotionCut else d.motionOff)
      else d.motionOff.deviceFault 6 d.axesRamp := rfl

/-! ### Training and wipe (R436) -/

/-- Stack `k` is trained, all its channels good. -/
def Device.stackTrained (d : Device) (k : Nat) : Device := (d.setFlag R.HBM_STAT_TRAINED [k] true).put R.HBM_STAT_CHAN_OK [k] 0xFFFF

theorem Device.stackTrained_trained (d : Device) (k : Nat) : (d.stackTrained k).flag R.HBM_STAT_TRAINED [k] = true := by
  rw [Device.stackTrained, Device.flag, Device.get_put_apart _ R.HBM_STAT_CHAN_OK R.HBM_STAT_TRAINED _ _ rfl (by decide) (by decide),
    ← Device.flag, Device.flag_setFlag_same _ _ _ _ (by decide) (by decide)]

theorem Device.stackTrained_channels (d : Device) (k : Nat) : (d.stackTrained k).get R.HBM_STAT_CHAN_OK [k] = 0xFFFF :=
  Device.get_put_same _ _ _ _ (by decide)

/-- The stacks' registers lie apart. -/
theorem Device.stackTrained_ne (d : Device) {j k : Nat} (h : j ≠ k) (f : Fld) (hf : f.reg = R.HBM_STAT) :
    (d.stackTrained k).get f [j] = d.get f [j] := by
  have haddr : f.reg.addr [j] ≠ R.HBM_STAT.addr [k] := by
    rw [hf]
    simp only [Reg.addr, R.HBM_STAT, strideSum]
    omega
  rw [Device.stackTrained, Device.setFlag, Device.get_put_ne _ (f := R.HBM_STAT_CHAN_OK) _ haddr,
    Device.get_put_ne _ (f := R.HBM_STAT_TRAINED) _ haddr]

/-- Both stacks are trained. -/
def Device.stacksTrained (d : Device) : Device := ((d.setSec { d.sec with phyTrained := true }).stackTrained 0).stackTrained 1

theorem Device.stacksTrained_shows (d : Device) (k : Fin 2) :
    d.stacksTrained.flag R.HBM_STAT_TRAINED [k.val] = true ∧ d.stacksTrained.get R.HBM_STAT_CHAN_OK [k.val] = 0xFFFF := by
  fin_cases k
  · refine ⟨?_, (Device.stackTrained_ne _ (by decide) _ rfl).trans (Device.stackTrained_channels _ 0)⟩
    rw [Device.flag, Device.stacksTrained, Device.stackTrained_ne _ (by decide) _ rfl]
    exact Device.stackTrained_trained _ 0
  · exact ⟨Device.stackTrained_trained _ 1, Device.stackTrained_channels _ 1⟩

section

variable {d : Device}

theorem Device.hbmTrained_starts (h : d.sec.inReset = false) (ht : d.sec.phyTrained = false) : d.hbmTrained = d.stacksTrained :=
  if_neg (by simp [h, ht])

theorem Device.hbmTrained_again (ht : d.sec.phyTrained = true) : d.hbmTrained = d := if_pos (.inr ht)

/-- HBM holds zeros and no bad word. -/
def Device.hbmZeroed (d : Device) : Device :=
  { d with hbm := [], hst := { d.hst with badWords := [] }, sec := { d.sec with hbmWiped := true } }

theorem Device.hbmWipeDone_ends (h : d.sec.inReset = false) (ht : d.sec.phyTrained = true) (hw : d.sec.hbmWiped = false) (us : Nat) :
    d.hbmWipeDone us = (d.hbmZeroed.setFlag R.WIPE_STAT_BUSY [] false).put R.WIPE_STAT_LAST_US [] us := if_neg (by simp [h, ht, hw])

theorem Device.hbmWipeDone_idle (h : d.sec.phyTrained = false ∨ d.sec.hbmWiped = true) (us : Nat) : d.hbmWipeDone us = d :=
  if_pos (.inr (by simpa using h))

end

/-! ### The rows -/

theorem State.does_congr {s : State} {i : Instr} {d e : Device} (hd : s.does i d) (he : d = e) : s.does i e := he ▸ hd

section

variable {s : State} (h : s.awake)
include h

theorem State.does_hbmUncorrectableError (cls booth index off : Nat) :
    s.does (.hbmUncorrectableError cls booth index off) (s.dev.hbmUncorr cls booth index off) :=
  State.does_of_live (f := fun d => d.hbmUncorr cls booth index off) rfl h rfl

theorem State.does_hbmCorrectedError (cls booth index off : Nat) :
    s.does (.hbmCorrectedError cls booth index off) (s.dev.hbmCorr cls booth index off) :=
  State.does_of_live (f := fun d => d.hbmCorr cls booth index off) rfl h rfl

theorem State.does_patrolScrub (off : Nat) (found uncorr : Bool) :
    s.does (.patrolScrub off found uncorr) (s.dev.patrolScrub off found uncorr) :=
  State.does_of_live (f := fun d => d.patrolScrub off found uncorr) rfl h rfl

theorem State.does_containedSramUecc (engine : Bool) (n : Fin 32) :
    s.does (.containedSramUecc engine n) (s.dev.containedUecc engine n.val) :=
  State.does_of_live (f := fun d => d.containedUecc engine n.val) rfl h rfl

theorem State.does_boothSramUecc (b : Fin 16) : s.does (.boothSramUecc b) (s.dev.boothUecc b.val) :=
  State.does_of_live (f := fun d => d.boothUecc b.val) rfl h rfl

theorem State.does_motionUecc : s.does .motionUecc s.dev.motionUecc := State.does_of_live (f := Device.motionUecc) rfl h rfl

theorem State.does_hbmPhyTrained : s.does .hbmPhyTrained s.dev.hbmTrained := State.does_of_live (f := Device.hbmTrained) rfl h rfl

theorem State.does_hbmWipeDone (us : Nat) : s.does (.hbmWipeDone us) (s.dev.hbmWipeDone us) :=
  State.does_of_live (f := fun d => d.hbmWipeDone us) rfl h rfl

end

/-- Settles O36: each row is one error, or one end of training or wiping, and its branches are told apart by the requester, by the
booth, and by what the device is doing. -/
theorem memoryErrorRows : Obligations.MemoryErrorRows := by
  refine ⟨fun s cls booth index off h hoff => ?outside, fun s cls booth index off d h hoff hd => ?uncorrectable,
    fun s cls booth index off h hoff => ?corrected, fun s off found h hoff hwiped hen hnext => ?scrub,
    fun s off h hwiped hen hoff hlast hgood => ?pass, fun s off found uncorr h hidle => ?scrubIdle, fun s n h => ?contained,
    fun s b h => ?booth, fun s m ramp d e f h hm hramp hd he hf => ?motion, fun s h ht => ?training, fun s h ht => ?trained,
    fun s us h ht hw => ?wipe, fun s us h hidle => ?wipeIdle⟩
  case outside =>
    exact ⟨State.does_congr (State.does_hbmUncorrectableError h cls booth index off) (Device.hbmUncorr_outside hoff cls booth index),
      State.does_congr (State.does_hbmCorrectedError h cls booth index off) (Device.hbmCorr_outside hoff cls booth index)⟩
  case uncorrectable =>
    have hdoes := State.does_congr (State.does_hbmUncorrectableError h cls booth index off) (Device.hbmUncorr_inside h hoff cls booth index)
    have hpresent := s.dev.uncorrLogged_portPresent cls booth index off booth
    rw [show s.dev.uncorrLogged cls booth index off = d from hd] at hdoes hpresent
    refine ⟨fun hc hp => ?_, fun hc hp => ?_, fun hc hi => ?_, fun hc => ?_, fun hc => ?_, fun hc => ?_⟩
    · exact State.does_congr hdoes (d.requesterHit_port hc (hpresent.trans hp))
    · exact State.does_congr hdoes (d.requesterHit_absent hc (hpresent.trans hp))
    · exact State.does_congr hdoes (d.requesterHit_engine hc hi)
    · exact State.does_congr hdoes (d.requesterHit_control hc)
    · exact State.does_congr hdoes (d.requesterHit_seal hc)
    · exact State.does_congr hdoes (d.requesterHit_other (by omega) (by omega) (by omega) (by omega) (by omega))
  case corrected =>
    exact State.does_congr (State.does_hbmCorrectedError h cls booth index off) (Device.hbmCorr_inside h hoff cls booth index)
  case scrub =>
    have hdoes : ∀ found uncorr, s.does (.patrolScrub off found uncorr) (s.dev.scrubWord off found uncorr) := fun found uncorr =>
      State.does_congr (State.does_patrolScrub h off found uncorr) (Device.patrolScrub_word h hwiped hen hoff found uncorr hnext)
    exact ⟨State.does_congr (hdoes found true) (Device.scrubWord_bad (.inl rfl)),
      fun hbad => State.does_congr (hdoes found false) (Device.scrubWord_bad (.inr hbad)),
      fun hgood => State.does_congr (hdoes true false) (Device.scrubWord_corrected hgood),
      fun hgood => State.does_congr (hdoes false false) (Device.scrubWord_good hgood)⟩
  case pass =>
    have hpass := Device.patrolScrub_last h hwiped hen hoff false false hlast
    rw [Device.scrubWord_good hgood] at hpass
    exact ⟨_, State.does_congr (State.does_patrolScrub h off false false) hpass, Device.get_put_same _ _ _ _ (by decide), rfl⟩
  case scrubIdle =>
    exact State.does_congr (State.does_patrolScrub h off found uncorr) (Device.patrolScrub_idle hidle found uncorr)
  case contained =>
    exact ⟨State.does_congr (State.does_containedSramUecc h true n) (Device.containedUecc_engine h n),
      fun hp => State.does_congr (State.does_containedSramUecc h false n) (Device.containedUecc_present h hp),
      fun hp => State.does_congr (State.does_containedSramUecc h false n) (Device.containedUecc_absent hp)⟩
  case booth =>
    refine ⟨fun hb => State.does_congr (State.does_boothSramUecc h b) (Device.boothUecc_unique h ?_),
      fun hb => State.does_congr (State.does_boothSramUecc h b) (Device.boothUecc_other h hb)⟩
    rcases hb with rfl | rfl | rfl | rfl | rfl <;> decide
  case motion =>
    have hoff : s.dev.motionOff = f := by
      subst hm hd he
      exact hf
    have heq := s.dev.motionUecc_eq
    rw [hoff, show s.dev.axesRamp = ramp from hramp] at heq
    have hdoes : ∀ t, s.dev.motionUecc = t → s.does .motionUecc t ∧ s.does (.boothSramUecc 12) t := fun t ht =>
      ⟨State.does_congr (State.does_motionUecc h) ht,
        State.does_congr (State.does_boothSramUecc h 12) ((Device.boothUecc_motion h).trans ht)⟩
    refine ⟨fun hin => hdoes _ ?_, fun hin hr => hdoes _ ?_, fun hin hr => hdoes _ ?_⟩
    · rw [heq, if_neg (ne_true_of_eq_false hin)]
    · rw [heq, if_pos hin, if_pos hr]
    · rw [heq, if_pos hin, if_neg (ne_true_of_eq_false hr)]
  case training =>
    exact ⟨_, State.does_congr (State.does_hbmPhyTrained h) (Device.hbmTrained_starts h ht), rfl, s.dev.stacksTrained_shows, rfl⟩
  case trained => exact State.does_congr (State.does_hbmPhyTrained h) (Device.hbmTrained_again ht)
  case wipe =>
    refine ⟨_, State.does_congr (State.does_hbmWipeDone h us) (Device.hbmWipeDone_ends h ht hw us), rfl, rfl, rfl, ?_,
      Device.get_put_same _ _ _ _ (by decide)⟩
    rw [Device.flag, Device.get_put_apart _ R.WIPE_STAT_LAST_US R.WIPE_STAT_BUSY _ _ rfl (by decide) (by decide), ← Device.flag,
      Device.flag_setFlag_same _ _ _ _ (by decide) (by decide)]
  case wipeIdle => exact State.does_congr (State.does_hbmWipeDone h us) (Device.hbmWipeDone_idle hidle us)

end Sys2Proof.Machine
end

section
/-! Scope: capture's rows (R208, R214, R215, R218, R219, R222, R225, R226, R229, R232) and a parity error of a line FIFO (R135). What
each row makes of the device is read off its operation, case by case. -/

namespace Sys2Proof.Machine

/-! ### Words and lines that arrive (R208, R214, R215, R222) -/

section

variable {d : Device} {p k : Nat}

theorem Device.lineWord_down (h : d.up p = false ∨ d.boothDown p = true) (sol eol : Bool) (bs : List Byte) (t : TT) :
    d.lineWord p k sol eol bs t = d := by
  rw [Device.lineWord, if_pos (by simpa using h)]

theorem Device.lineGate_down (h : d.up p = false ∨ d.boothDown p = true) (f : Device → Device) : d.lineGate p f = d := by
  rw [Device.lineGate, if_pos (by simpa using h)]

variable (hup : d.up p = true) (hrun : d.boothDown p = false)
include hup hrun

theorem Device.lineGate_up (f : Device → Device) : d.lineGate p f = f d := by
  rw [Device.lineGate, if_neg (by simp [hup, hrun])]

/-- A raw port cuts the words of its lanes into lines itself. -/
theorem Device.lineWord_raw (hmode : d.pmode p = 9) (sol eol : Bool) (bs : List Byte) (t : TT) :
    d.lineWord p 0 sol eol bs t = d.rawWord p bs t := by
  rw [Device.lineWord, if_neg (by simp [hup, hrun]), if_pos hmode, if_pos rfl]

variable (hmode : d.pmode p ≠ 9)
include hmode

/-- A word within its line. -/
theorem Device.lineWord_inside {x : LineX} (hline : (d.cap p k).line = some x) (bs : List Byte) (t : TT) :
    d.lineWord p k false false bs t = d.lineBytes p k x.got (bs.take 64) := by
  simp [Device.lineWord, hup, hrun, hmode, hline]

/-- The last word of a line brings the end-of-line mark. -/
theorem Device.lineWord_last {x : LineX} (hline : (d.cap p k).line = some x) (bs : List Byte) (t : TT) :
    d.lineWord p k false true bs t = (d.lineBytes p k x.got (bs.take 64)).endLine p k := by
  simp [Device.lineWord, hup, hrun, hmode, hline]

/-- The first word of a line of the open frame begins the line. -/
theorem Device.lineWord_first {f : FrameX} {e : Device} {x : LineX} {t : TT} (hframe : (d.cap p k).openFrame = some f)
    (hbegin : d.beginLine p k { wireFrame := f.wireFrame } t = e) (hline : (e.cap p k).line = some x) (bs : List Byte) :
    d.lineWord p k true false bs t = e.lineBytes p k x.got (bs.take 64) := by
  simp [Device.lineWord, hup, hrun, hmode, hframe, hbegin, hline]

end

/-! ### The store stage (R226) -/

/-- The word with the damage its FIFO owes it. -/
def CapX.owing (c : CapX) (w : FifoWord) : FifoWord :=
  { w with damaged := w.damaged || c.owesDamaged, lostEol := w.lostEol || c.owesLostEol }

theorem Device.storeTake_none {d : Device} {p : Nat} (h : d.nextFifo p = none) : d.storeTake p = d := by
  simp only [Device.storeTake, h]

theorem Device.storeTake_word {d e : Device} {p k : Nat} {w : FifoWord} {rest : List FifoWord} (hnext : d.nextFifo p = some k)
    (hfifo : (d.cap p k).fifo = w :: rest)
    (he : (d.setBth p { d.bth p with lastFifo := k }).setCap p k
      { d.cap p k with fifo := rest, owesDamaged := false, owesLostEol := false } = e) :
    d.storeTake p = ((e.storeWord p k ((d.cap p k).owing w)).finishReady p k).showCap p k := by
  simp only [Device.storeTake, hnext, hfifo, he, CapX.owing]

/-! ### CAP_CMD (R218) -/

/-- The commands by their OP; any other is ignored. -/
theorem Device.capCmd_eq (d : Device) (p k op : Nat) :
    d.capCmd p k op = if op = 1 then d.capOpen p k else if op = 2 then d.capEnd p k false else if op = 3 then d.capEnd p k true
      else d.cmdBad p := by
  unfold Device.capCmd
  split
  case h_4 h1 h2 h3 => rw [if_neg h1, if_neg h2, if_neg h3]
  all_goals simp

section

variable {d : Device} {p k : Nat}

/-- OPEN is ignored, and counted, on a stream of another FRAMING and on one that is armed or has a frame open. -/
theorem Device.capOpen_bad
    (h : d.get R.CAP_SC_CTL_FRAMING [p, k] ≠ 1 ∨ (d.cap p k).armed = true ∨ (d.cap p k).isOpen = true) :
    d.capOpen p k = d.bump R.CAP_STAT_CMD_BAD [p] := by
  rw [Device.capOpen, if_pos h, Device.cmdBad]

theorem Device.capEnd_bad
    (h : d.get R.CAP_SC_CTL_FRAMING [p, k] ≠ 1 ∨ ((d.cap p k).armed = false ∧ (d.cap p k).isOpen = false)) (truncate : Bool) :
    d.capEnd p k truncate = d.bump R.CAP_STAT_CMD_BAD [p] := by
  rw [Device.capEnd, if_pos (by simpa using h), Device.cmdBad]

variable (hf : d.get R.CAP_SC_CTL_FRAMING [p, k] = 1)
include hf

theorem Device.capOpen_arms (ha : (d.cap p k).armed = false) (ho : (d.cap p k).isOpen = false) :
    d.capOpen p k = (d.setCap p k { d.cap p k with armed := true }).showCap p k := by
  rw [Device.capOpen, if_neg (by simp [hf, ha, ho])]

theorem Device.capEnd_frame (ho : (d.cap p k).isOpen = true) (truncate : Bool) :
    d.capEnd p k truncate = d.closeFrame p k 3 (if truncate then 2 else 0) := by
  rw [Device.capEnd, if_neg (by simp [hf, ho]), if_pos ho]

theorem Device.capEnd_empty (ha : (d.cap p k).armed = true) (ho : (d.cap p k).isOpen = false) (truncate : Bool) :
    d.capEnd p k truncate = d.closeEmpty p k := by
  rw [Device.capEnd, if_neg (by simp [hf, ha]), if_neg (by simp [ho])]

end

/-! ### Releases, closure by time and frame events (R219, R229, R232) -/

section

variable {d : Device} {p k : Nat}

theorem Device.capRelease_closed {gen : Bool} {slot : Nat} (h : d.slotState p k gen slot = 2) :
    d.capRelease p k gen slot = d.setSlotState p k gen slot 0 := by rw [Device.capRelease, if_pos h]

theorem Device.capRelease_bad {gen : Bool} {slot : Nat} (h : d.slotState p k gen slot ≠ 2) :
    d.capRelease p k gen slot = d.bump R.CAP_STAT_REL_BAD [p] := by rw [Device.capRelease, if_neg h]

theorem Device.blockTime_noFrame (h : (d.cap p k).openFrame = none) : d.blockTime p k = d := by simp only [Device.blockTime, h]

theorem Device.blockTime_due {f : FrameX} (h : (d.cap p k).openFrame = some f) (hen : d.flag R.CAP_SC_CTL_CLOSE_TIME [p, k] = true)
    (hdue : (d.get R.CAP_SC_TIME_BLOCK_NS [p, k] * 65536 : Nat) ≤ ttDiff d.tt f.firstTT) :
    d.blockTime p k = d.blockClose p k 1 := by
  simp only [Device.blockTime, h]
  rw [if_pos ⟨hen, hdue⟩]

theorem Device.blockTime_off {f : FrameX} (h : (d.cap p k).openFrame = some f) (hen : d.flag R.CAP_SC_CTL_CLOSE_TIME [p, k] = false) :
    d.blockTime p k = d := by
  simp only [Device.blockTime, h]
  rw [if_neg (by simp [hen])]

theorem Device.frameEvent_none (h : ∀ f ∈ (d.cap p k).frames, f.evented = true) : d.frameEvent p k = d := by
  have hfind : (d.cap p k).frames.find? (fun f => !f.evented) = none := by simpa using h
  simp only [Device.frameEvent, hfind]

section

variable {f : FrameX} (hfind : (d.cap p k).frames.find? (fun f => !f.evented) = some f)
include hfind

/-- A frame whose tag is not made yet, or whose seal is not settled. -/
theorem Device.frameEvent_early (h : f.tag = [] ∨ f.sealSt = 1) : d.frameEvent p k = d := by
  simp only [Device.frameEvent, hfind]
  rw [if_pos h]

/-- A finished frame is handed over, its result copied and its event fired, before the tags go on. -/
theorem Device.frameEvent_finished {e : Device} (htag : f.tag ≠ []) (hseal : f.sealSt ≠ 1)
    (he : d.modFrames p k (fun x => decide (x.no = f.no))
      (fun x => { x with evented := true, handed := f.cfg.direct || f.slot.isNone }) = e) :
    d.frameEvent p k
      = (if f.cfg.frameEvEn then (e.deliverResult p f).fire f.cfg.frameEv else e.deliverResult p f).pushTags p k := by
  simp only [Device.frameEvent, hfind]
  rw [if_neg (by simp [htag, hseal]), he]

end

/-! ### Diagnostics of a line FIFO (R225) -/

theorem Device.get_put_diagFifo (d : Device) (p : Nat) (k : Fin 64) :
    (d.put R.CAP_LF_DIAG_FIFO [p] k.val).get R.CAP_LF_DIAG_FIFO [p] = k.val :=
  (Device.get_put_same _ _ _ _ (by decide)).trans (Nat.mod_eq_of_lt k.isLt)

section

variable (hk : d.get R.CAP_LF_DIAG_FIFO [p] = k)
include hk

theorem Device.diagPop_denied (hen : d.flag R.CAP_SC_CTL_EN [p, k] = true) :
    d.diagPop p = (d.put R.CAP_LF_HDR_HDR [p] 0).setFlag R.CAP_LF_DIAG_DENIED [p] true := by
  simp only [Device.diagPop, hk, hen, if_true]

theorem Device.diagPop_empty (hen : d.flag R.CAP_SC_CTL_EN [p, k] = false) (hfifo : (d.cap p k).fifo = []) :
    d.diagPop p = d.put R.CAP_LF_HDR_HDR [p] 0 := by
  simp only [Device.diagPop, hk, hen, hfifo, Bool.false_eq_true, if_false]

/-- A word to which its FIFO owes no damage is shown as it stands. -/
theorem Device.diagPop_word (hen : d.flag R.CAP_SC_CTL_EN [p, k] = false) {w : FifoWord} {rest : List FifoWord}
    (hfifo : (d.cap p k).fifo = w :: rest) (hdam : (d.cap p k).owesDamaged = false) (heol : (d.cap p k).owesLostEol = false) :
    d.diagPop p = (((List.range 8).foldl (fun (d : Device) j => d.wr R.CAP_LF_DATA [p, j] (BitVec.ofNat 64 (fieldAt w.data (8 * j) 8)))
      ((d.setCap p k { d.cap p k with fifo := rest }).put R.CAP_LF_HDR_HDR [p] w.header)).finishReady p k).showCap p k := by
  simp only [Device.diagPop, hk, hen, hfifo, hdam, heol, Bool.or_false, Bool.false_eq_true, if_false]

end

end

theorem Device.fifoParity_present {d : Device} {p : Nat} (h : d.sec.inReset = false) (hp : d.portPresent p = true) :
    d.fifoParity p = d.portFault p 3 := by
  rw [Device.fifoParity, if_neg (by simp [h, hp])]

/-! ### The rows -/

theorem State.portDoes_congr {s : State} {p : Fin 8} {i : Instr} {d e : Device} (hd : s.portDoes p i d) (he : d = e) :
    s.portDoes p i e := he ▸ hd

section

variable {s : State} {p : Fin 8} (h : s.awake) (hp : s.dev.portPresent p.val = true)
include h hp

theorem State.portDoes_lineWordEnter (k : Fin 64) (sol eol : Bool) (bs : List Byte) (t : TT) :
    s.portDoes p (.lineWordEnter p k sol eol bs t) (s.dev.lineWord p.val k.val sol eol bs t) :=
  State.portDoes_of (f := fun d => d.lineWord p.val k.val sol eol bs t) rfl h hp rfl

theorem State.portDoes_capFrameStart (k : Fin 64) (l : LineHdr) (t : TT) :
    s.portDoes p (.capFrameStart p k l t) (s.dev.lineGate p.val fun d => d.beginLine p.val k.val { l with frameStart := true } t) :=
  State.portDoes_of (f := fun d => d.lineGate p.val fun d => d.beginLine p.val k.val { l with frameStart := true } t) rfl h hp rfl

theorem State.portDoes_storeStageTake : s.portDoes p (.storeStageTake p) (s.dev.storeTake p.val) :=
  State.portDoes_of (f := fun d => d.storeTake p.val) rfl h hp rfl

theorem State.portDoes_capOpen (k : Fin 64) : s.portDoes p (.capOpen p k) ((s.dev.wake p.val).capOpen p.val k.val) :=
  State.portDoes_of (f := fun d => d.strike [p.val] [(R.CAP_CMD_STREAM, k.val), (R.CAP_CMD_OP, 1)]) rfl h hp
    ((s.dev.struck_capOpen p k hp).trans (by rw [Device.capCmd_eq, if_pos rfl]))

theorem State.portDoes_capClose (k : Fin 64) : s.portDoes p (.capClose p k) ((s.dev.wake p.val).capEnd p.val k.val false) :=
  State.portDoes_of (f := fun d => d.strike [p.val] [(R.CAP_CMD_STREAM, k.val), (R.CAP_CMD_OP, 2)]) rfl h hp
    ((s.dev.struck_capClose p k hp).trans (by rw [Device.capCmd_eq, if_neg (by decide), if_pos rfl]))

theorem State.portDoes_capTruncate (k : Fin 64) : s.portDoes p (.capTruncate p k) ((s.dev.wake p.val).capEnd p.val k.val true) :=
  State.portDoes_of (f := fun d => d.strike [p.val] [(R.CAP_CMD_STREAM, k.val), (R.CAP_CMD_OP, 3)]) rfl h hp
    ((s.dev.struck_capTruncate p k hp).trans (by rw [Device.capCmd_eq, if_neg (by decide), if_neg (by decide), if_pos rfl]))

theorem State.portDoes_capRelWrite (k : Fin 64) (gen : Bool) {slot : Nat} (hslot : slot < 1024) :
    s.portDoes p (.capRelWrite p k gen slot) ((s.dev.wake p.val).capRelease p.val k.val gen slot) :=
  State.portDoes_of (f := fun d => d.strike [p.val] [(R.CAP_REL_STREAM, k.val), (R.CAP_REL_GEN, b2n gen), (R.CAP_REL_SLOT, slot)]) rfl h hp
    ((s.dev.struck_capRelease p k gen slot hp).trans (by rw [Nat.mod_eq_of_lt (show slot < 2 ^ 10 from hslot)]))

theorem State.portDoes_linescanTimeClose (k : Fin 64) : s.portDoes p (.linescanTimeClose p k) (s.dev.blockTime p.val k.val) :=
  State.portDoes_of (f := fun d => d.blockTime p.val k.val) rfl h hp rfl

theorem State.portDoes_capFrameEvent (k : Fin 64) : s.portDoes p (.capFrameEvent p k) (s.dev.frameEvent p.val k.val) :=
  State.portDoes_of (f := fun d => d.frameEvent p.val k.val) rfl h hp rfl

theorem State.portDoes_lineFifoDiagPop (k : Fin 64) :
    s.portDoes p (.lineFifoDiagPop p k) (((s.dev.wake p.val).put R.CAP_LF_DIAG_FIFO [p.val] k.val).diagPop p.val) :=
  State.portDoes_of (f := fun d => d.strike [p.val] [(R.CAP_LF_DIAG_FIFO, k.val), (R.CAP_LF_DIAG_POP, 1)]) rfl h hp
    (s.dev.struck_lfDiag p k hp)

theorem State.does_fifoParityError : s.does (.fifoParityError p) (s.dev.portFault p.val 3) :=
  State.does_of_live (f := fun d => d.fifoParity p.val) rfl h (Device.fifoParity_present h hp)

end

/-- Settles O24: each row is one operation of the assembler or one store that reaches it, and each clause one of its cases. -/
theorem captureRows : Obligations.CaptureRows := by
  refine ⟨fun s p k sol eol bs t l h hp hdown => ?down, fun s p k bs t x h hp hup hrun hmode hline => ?within,
    fun s p k bs t f d x h hp hup hrun hmode hframe hbegin hline => ?first, fun s p sol eol bs t h hp hup hrun hmode => ?raw,
    fun s p k l t h hp hup hrun => ?frameStart, fun s p k w rest d h hp hnext hfifo hd => ?store, fun s p h hp hnext => ?storeIdle,
    fun s p k d h hp hd hf => ?command, fun s p k d h hp hd hf => ?notCommand, fun s p k gen slot d h hp hd hslot => ?release,
    fun s p k f h hp hframe => ?blockTime, fun s p k h hp hframe => ?noBlock, fun s p k f d h hp hfind hd => ?event,
    fun s p k h hp hall => ?noEvent, fun s p k d h hp hd => ?diag, fun s p k w rest d h hp hd hen hfifo hdam heol => ?diagWord,
    fun s p h hp => State.does_fifoParityError h hp⟩
  case down =>
    exact ⟨State.portDoes_congr (State.portDoes_lineWordEnter h hp k sol eol bs t) (Device.lineWord_down hdown sol eol bs t),
      State.portDoes_congr (State.portDoes_capFrameStart h hp k l t) (Device.lineGate_down hdown _)⟩
  case within =>
    exact ⟨State.portDoes_congr (State.portDoes_lineWordEnter h hp k false false bs t) (Device.lineWord_inside hup hrun hmode hline bs t),
      State.portDoes_congr (State.portDoes_lineWordEnter h hp k false true bs t) (Device.lineWord_last hup hrun hmode hline bs t)⟩
  case first =>
    exact State.portDoes_congr (State.portDoes_lineWordEnter h hp k true false bs t)
      (Device.lineWord_first hup hrun hmode hframe hbegin hline bs)
  case raw =>
    exact State.portDoes_congr (State.portDoes_lineWordEnter h hp 0 sol eol bs t) (Device.lineWord_raw hup hrun hmode sol eol bs t)
  case frameStart => exact State.portDoes_congr (State.portDoes_capFrameStart h hp k l t) (Device.lineGate_up hup hrun _)
  case store => exact State.portDoes_congr (State.portDoes_storeStageTake h hp) (Device.storeTake_word hnext hfifo hd)
  case storeIdle => exact State.portDoes_congr (State.portDoes_storeStageTake h hp) (Device.storeTake_none hnext)
  case command =>
    subst hd
    have hopen := State.portDoes_capOpen h hp k
    have hclose := State.portDoes_capClose h hp k
    have htruncate := State.portDoes_capTruncate h hp k
    refine ⟨fun ha ho => ?idle, fun ho => ?frame, fun ha ho => ?armed⟩
    case idle =>
      exact ⟨State.portDoes_congr hopen (Device.capOpen_arms hf ha ho),
        State.portDoes_congr hclose (Device.capEnd_bad (.inr ⟨ha, ho⟩) false),
        State.portDoes_congr htruncate (Device.capEnd_bad (.inr ⟨ha, ho⟩) true)⟩
    case frame =>
      exact ⟨State.portDoes_congr hopen (Device.capOpen_bad (.inr (.inr ho))),
        State.portDoes_congr hclose (Device.capEnd_frame hf ho false),
        State.portDoes_congr htruncate (Device.capEnd_frame hf ho true)⟩
    case armed =>
      exact ⟨State.portDoes_congr hclose (Device.capEnd_empty hf ha ho false),
        State.portDoes_congr htruncate (Device.capEnd_empty hf ha ho true)⟩
  case notCommand =>
    subst hd
    exact ⟨State.portDoes_congr (State.portDoes_capOpen h hp k) (Device.capOpen_bad (.inl hf)),
      State.portDoes_congr (State.portDoes_capClose h hp k) (Device.capEnd_bad (.inl hf) false),
      State.portDoes_congr (State.portDoes_capTruncate h hp k) (Device.capEnd_bad (.inl hf) true)⟩
  case release =>
    subst hd
    have hdoes := State.portDoes_capRelWrite h hp k gen hslot
    exact ⟨fun hclosed => State.portDoes_congr hdoes (Device.capRelease_closed hclosed),
      fun hbad => State.portDoes_congr hdoes (Device.capRelease_bad hbad)⟩
  case blockTime =>
    have hdoes := State.portDoes_linescanTimeClose h hp k
    exact ⟨fun hen hdue => State.portDoes_congr hdoes (Device.blockTime_due hframe hen hdue),
      fun hen => State.portDoes_congr hdoes (Device.blockTime_off hframe hen)⟩
  case noBlock => exact State.portDoes_congr (State.portDoes_linescanTimeClose h hp k) (Device.blockTime_noFrame hframe)
  case event =>
    have hdoes := State.portDoes_capFrameEvent h hp k
    refine ⟨fun hearly => State.portDoes_congr hdoes (Device.frameEvent_early hfind hearly), fun htag hseal hev => ?quiet,
      fun htag hseal hev => ?fires⟩
    case quiet =>
      refine State.portDoes_congr hdoes ((Device.frameEvent_finished hfind htag hseal hd).trans ?_)
      rw [if_neg (ne_true_of_eq_false hev)]
    case fires =>
      refine State.portDoes_congr hdoes ((Device.frameEvent_finished hfind htag hseal hd).trans ?_)
      rw [if_pos hev]
  case noEvent => exact State.portDoes_congr (State.portDoes_capFrameEvent h hp k) (Device.frameEvent_none hall)
  case diag =>
    have hdoes := State.portDoes_lineFifoDiagPop h hp k
    have hfifoNo := (s.dev.wake p.val).get_put_diagFifo p.val k
    rw [hd] at hdoes hfifoNo
    exact ⟨fun hen => State.portDoes_congr hdoes (Device.diagPop_denied hfifoNo hen),
      fun hen hfifo => State.portDoes_congr hdoes (Device.diagPop_empty hfifoNo hen hfifo)⟩
  case diagWord =>
    have hdoes := State.portDoes_lineFifoDiagPop h hp k
    have hfifoNo := (s.dev.wake p.val).get_put_diagFifo p.val k
    rw [hd] at hdoes hfifoNo
    exact State.portDoes_congr hdoes (Device.diagPop_word hfifoNo hen hfifo hdam heol)

end Sys2Proof.Machine
end

section
/-! Scope: the operations of a lane (R149, R150, R153, R154, R158, R161, R162, R165, R166): which registers each leaves, and what it
writes. -/

namespace Sys2Proof.Machine

/-! ### Registers that stand beside each other -/

/-- Two registers of one shape of array that stand at different addresses at every index. -/
def Reg.beside (r q : Reg) : Bool := decide (r.strides = q.strides ∧ r.base ≠ q.base)

theorem Reg.addr_ne_of_beside {r q : Reg} (h : r.beside q = true) (ix : List Nat) : r.addr ix ≠ q.addr ix := by
  simp only [Reg.beside, decide_eq_true_eq] at h
  obtain ⟨hs, hb⟩ := h
  simp only [Reg.addr, hs]
  omega

theorem Device.get_of_rd {d t : Device} {f : Fld} {ix : List Nat} (h : t.rd f.reg ix = d.rd f.reg ix) : t.get f ix = d.get f ix :=
  congrArg f.of h

theorem Device.rd_setFlag_ne (d : Device) {r : Reg} {f : Fld} {ix jx : List Nat} (b : Bool) (h : r.addr jx ≠ f.reg.addr ix) :
    (d.setFlag f ix b).rd r jx = d.rd r jx := d.rd_put_ne _ h

theorem Device.rd_wr_beside (d : Device) {r q : Reg} (ix : List Nat) (v : Word) (h : r.beside q = true) :
    (d.wr q ix v).rd r ix = d.rd r ix := d.rd_wr_ne v (Reg.addr_ne_of_beside h ix)

theorem Device.rd_put_beside (d : Device) {r : Reg} {f : Fld} (ix : List Nat) (v : Nat) (h : r.beside f.reg = true) :
    (d.put f ix v).rd r ix = d.rd r ix := d.rd_wr_beside ix _ h

/-- Two fields that share no bit at any index: of registers beside each other, or apart in one register. -/
def Fld.beside (g f : Fld) : Bool := g.reg.beside f.reg || (decide (g.reg = f.reg) && f.fits && f.apart g)

theorem Device.get_put_beside (d : Device) {f g : Fld} (ix : List Nat) (v : Nat) (h : g.beside f = true) :
    (d.put f ix v).get g ix = d.get g ix := by
  simp only [Fld.beside, Bool.or_eq_true, Bool.and_eq_true, decide_eq_true_eq] at h
  rcases h with hr | ⟨⟨hreg, hfit⟩, hap⟩
  · exact Device.get_of_rd (d.rd_put_beside ix v hr)
  · exact d.get_put_apart f g ix v hreg hfit hap

/-- A value that fits its field reads as it was written. -/
theorem Device.get_put_fit (d : Device) {f : Fld} (ix : List Nat) {v : Nat} (hf : f.fits = true) (hv : v < 2 ^ f.width) :
    (d.put f ix v).get f ix = v := by
  rw [d.get_put_same f ix v hf, Nat.mod_eq_of_lt hv]

/-- A value below the bound of its field reads as it was written. -/
theorem Device.get_put_lt (d : Device) {f : Fld} (ix : List Nat) {v n : Nat} (hf : f.fits = true) (hn : 2 ^ f.width = n) (hv : v < n) :
    (d.put f ix v).get f ix = v := d.get_put_fit ix hf (hn ▸ hv)

theorem Device.get_ite (p : Prop) {_ : Decidable p} (a b : Device) (f : Fld) (ix : List Nat) :
    (if p then a else b).get f ix = if p then a.get f ix else b.get f ix := by split <;> rfl

theorem Device.rd_ite (p : Prop) {_ : Decidable p} (a b : Device) (r : Reg) (ix : List Nat) :
    (if p then a else b).rd r ix = if p then a.rd r ix else b.rd r ix := by split <;> rfl

theorem Device.lane_ite (p : Prop) {_ : Decidable p} (a b : Device) (l : Nat) :
    (if p then a else b).lane l = if p then a.lane l else b.lane l := by split <;> rfl

theorem Device.tt_ite (p : Prop) {_ : Decidable p} (a b : Device) : (if p then a else b).tt = if p then a.tt else b.tt := by
  split <;> rfl

/-! The proofs of what follows go by `congrArg`, for a `simp` step by one of them to be a rewriting step to the kernel, not the
comparison of two devices. -/

@[simp] theorem Device.wr_lane (d : Device) (r : Reg) (ix : List Nat) (v : Word) (l : Nat) : (d.wr r ix v).lane l = d.lane l :=
  congrArg (fun p => p.lanes.get {} l) (d.wr_prt r ix v)

@[simp] theorem Device.put_lane (d : Device) (f : Fld) (ix : List Nat) (v l : Nat) : (d.put f ix v).lane l = d.lane l :=
  congrArg (fun p => p.lanes.get {} l) (d.put_prt f ix v)

@[simp] theorem Device.setFlag_lane (d : Device) (f : Fld) (ix : List Nat) (b : Bool) (l : Nat) :
    (d.setFlag f ix b).lane l = d.lane l := d.put_lane f ix (b2n b) l

@[simp] theorem Device.wr_tt (d : Device) (r : Reg) (ix : List Nat) (v : Word) : (d.wr r ix v).tt = d.tt :=
  congrArg (fun t => t.time.acc.extractLsb' 16 64) (d.wr_tim r ix v)

@[simp] theorem Device.put_tt (d : Device) (f : Fld) (ix : List Nat) (v : Nat) : (d.put f ix v).tt = d.tt :=
  congrArg (fun t => t.time.acc.extractLsb' 16 64) (d.put_tim f ix v)

@[simp] theorem Device.setFlag_tt (d : Device) (f : Fld) (ix : List Nat) (b : Bool) : (d.setFlag f ix b).tt = d.tt :=
  d.put_tt f ix (b2n b)

@[simp] theorem Device.setLane_tt (d : Device) (l : Nat) (x : LaneX) : (d.setLane l x).tt = d.tt :=
  congrArg (fun t => t.time.acc.extractLsb' 16 64) (d.setLane_tim l x)

theorem Device.rd_setLane (d : Device) (l : Nat) (x : LaneX) (r : Reg) (ix : List Nat) : (d.setLane l x).rd r ix = d.rd r ix :=
  congrArg (fun m => m.get (BitVec.ofNat 64 r.reset) (r.addr ix)) (d.setLane_regs l x)

theorem Device.get_setLane (d : Device) (l : Nat) (x : LaneX) (f : Fld) (ix : List Nat) : (d.setLane l x).get f ix = d.get f ix :=
  Device.get_of_rd (d.rd_setLane l x f.reg ix)

/-! ### What the lane's operations leave of the registers -/

section
variable {r : Reg} {jx : List Nat} (d : Device) (l : Nat)

theorem Device.showTx_rd (h : r.addr jx ≠ R.LN_STAT.addr (lx l)) : (d.showTx l).rd r jx = d.rd r jx := by
  simp only [Device.showTx, Device.rd_setFlag_ne _ (f := R.LN_STAT_TX_ACTIVE) _ h, Device.rd_setFlag_ne _ (f := R.LN_STAT_WAKE) _ h,
    Device.rd_ite, ite_self]

theorem Device.showLat_rd (h : r.addr jx ≠ R.LN_LAT.addr (lx l)) : (d.showLat l).rd r jx = d.rd r jx := by
  simp only [Device.showLat, Device.rd_put_ne _ (f := R.LN_LAT_TX_LAT) _ h, Device.rd_put_ne _ (f := R.LN_LAT_RX_LAT) _ h]

theorem Device.beginBurst_rd (h : r.addr jx ≠ R.LN_STAT.addr (lx l)) : (d.beginBurst l).rd r jx = d.rd r jx :=
  (d.setLane l _).rd_setFlag_ne _ h

theorem Device.loseLock_rd (h : r.addr jx ≠ R.LN_STAT.addr (lx l)) : (d.loseLock l).rd r jx = d.rd r jx := by
  simp only [Device.loseLock]
  split <;> exact d.rd_setFlag_ne _ h

theorem Device.setDfe_rd (taps : List Byte) (h : r.addr jx ≠ R.LN_RX_EQ.addr (lx l)) : (d.setDfe l taps).rd r jx = d.rd r jx :=
  (d.setLane l _).rd_put_ne _ h

theorem Device.resetEq_rd (h : r.addr jx ≠ R.LN_RX_EQ.addr (lx l)) : (d.resetEq l).rd r jx = d.rd r jx := by
  simp only [Device.resetEq, Device.rd_setFlag_ne _ (f := R.LN_RX_EQ_ADAPT_OK) _ h, Device.rd_put_ne _ (f := R.LN_RX_EQ_CTLE) _ h,
    Device.setDfe_rd _ _ _ h, Device.rd_ite, ite_self]

theorem Device.clearFound_rd (h : r.addr jx ≠ R.LN_ALIGN_STAT.addr (lx l)) : (d.clearFound l).rd r jx = d.rd r jx :=
  d.rd_setFlag_ne false h

theorem Device.sampleLane_rd (hcw : r.addr jx ≠ R.LN_FEC_CW.addr (lx l)) (hsym : r.addr jx ≠ R.LN_FEC_SYM.addr (lx l))
    (hevt : r.addr jx ≠ R.LN_EVT.addr (lx l)) : (d.sampleLane l).rd r jx = d.rd r jx := by
  simp only [Device.sampleLane, List.foldl, Device.rd_setFlag_ne _ (f := R.LN_EVT_LOS_SEEN) _ hevt,
    Device.rd_setFlag_ne _ (f := R.LN_EVT_LOL_SEEN) _ hevt, Device.rd_setFlag_ne _ (f := R.LN_EVT_ALIGN_LOST) _ hevt,
    Device.rd_put_ne _ (f := R.LN_FEC_SYM_SYM) _ hsym, Device.rd_wr_ne _ _ hcw, Device.rd_setLane]

end

section
variable (d : Device) (l : Nat) {f : Fld}

theorem Device.showTx_get (h : f.reg.beside R.LN_STAT = true) : (d.showTx l).get f (lx l) = d.get f (lx l) :=
  Device.get_of_rd (d.showTx_rd l (Reg.addr_ne_of_beside h _))

theorem Device.beginBurst_get (h : f.reg.beside R.LN_STAT = true) : (d.beginBurst l).get f (lx l) = d.get f (lx l) :=
  Device.get_of_rd (d.beginBurst_rd l (Reg.addr_ne_of_beside h _))

theorem Device.clearFound_get (h : f.reg.beside R.LN_ALIGN_STAT = true) : (d.clearFound l).get f (lx l) = d.get f (lx l) :=
  Device.get_of_rd (d.clearFound_rd l (Reg.addr_ne_of_beside h _))

theorem Device.sampleLane_get (hcw : f.reg.beside R.LN_FEC_CW = true) (hsym : f.reg.beside R.LN_FEC_SYM = true)
    (hevt : f.reg.beside R.LN_EVT = true) : (d.sampleLane l).get f (lx l) = d.get f (lx l) :=
  Device.get_of_rd (d.sampleLane_rd l (Reg.addr_ne_of_beside hcw _) (Reg.addr_ne_of_beside hsym _) (Reg.addr_ne_of_beside hevt _))

end

@[simp] theorem Device.showTx_lane (d : Device) (l : Nat) : (d.showTx l).lane l = d.lane l := by
  simp only [Device.showTx, Device.lane_ite, Device.setFlag_lane, ite_self]

@[simp] theorem Device.beginBurst_lane (d : Device) (l : Nat) : (d.beginBurst l).lane l = { d.lane l with burstAt := d.tt } :=
  d.setLane_same l _

@[simp] theorem Device.resetEq_cut (d : Device) (l : Nat) : ((d.resetEq l).lane l).cut = (d.lane l).cut := by
  simp only [Device.resetEq, Device.setFlag_lane, Device.lane_ite, Device.setDfe, Device.put_lane, Device.setLane_same, ite_self,
    apply_ite LaneX.cut]

@[simp] theorem Device.resetEq_tt (d : Device) (l : Nat) : (d.resetEq l).tt = d.tt := by
  simp only [Device.resetEq, Device.setDfe, Device.setFlag_tt, Device.tt_ite, Device.put_tt, Device.setLane_tt, ite_self]

/-! ### Sampling -/

theorem Device.sampleLane_totals (d : Device) (l : Nat) :
    ((d.sampleLane l).lane l).totCorr = (d.lane l).totCorr + d.get R.LN_FEC_CW_CORR (lx l)
    ∧ ((d.sampleLane l).lane l).totUncorr = (d.lane l).totUncorr + d.get R.LN_FEC_CW_UNCORR (lx l)
    ∧ ((d.sampleLane l).lane l).totSym = (d.lane l).totSym + d.get R.LN_FEC_SYM_SYM (lx l) := by
  simp only [Device.sampleLane, List.foldl, Device.setFlag_lane, Device.put_lane, Device.wr_lane, Device.setLane_same, and_self]

theorem Device.sampleLane_events (d : Device) (l : Nat) :
    ((d.sampleLane l).lane l).losEvents = (d.lane l).losEvents + b2n (d.flag R.LN_EVT_LOS_SEEN (lx l))
    ∧ ((d.sampleLane l).lane l).lolEvents = (d.lane l).lolEvents + b2n (d.flag R.LN_EVT_LOL_SEEN (lx l))
    ∧ ((d.sampleLane l).lane l).alignEvents = (d.lane l).alignEvents + b2n (d.flag R.LN_EVT_ALIGN_LOST (lx l)) := by
  simp only [Device.sampleLane, List.foldl, Device.setFlag_lane, Device.put_lane, Device.wr_lane, Device.setLane_same, and_self]

/-- The codeword counters are read and cleared. -/
theorem Device.sampleLane_fecCw (d : Device) (l : Nat) : (d.sampleLane l).rd R.LN_FEC_CW (lx l) = 0 := by
  have h1 : R.LN_FEC_CW.addr (lx l) ≠ R.LN_EVT.addr (lx l) := Reg.addr_ne_of_beside (by decide) _
  have h2 : R.LN_FEC_CW.addr (lx l) ≠ R.LN_FEC_SYM.addr (lx l) := Reg.addr_ne_of_beside (by decide) _
  simp only [Device.sampleLane, List.foldl, Device.rd_setFlag_ne _ (f := R.LN_EVT_LOS_SEEN) _ h1,
    Device.rd_setFlag_ne _ (f := R.LN_EVT_LOL_SEEN) _ h1, Device.rd_setFlag_ne _ (f := R.LN_EVT_ALIGN_LOST) _ h1,
    Device.rd_put_ne _ (f := R.LN_FEC_SYM_SYM) _ h2, Device.rd_wr_same]

/-- The report of LANE_QUERY (R173). -/
def Device.laneReport (d : Device) (l : Nat) : List Byte :=
  layout [(1, d.get R.LN_CTL_RATE (lx l)), (1, (d.rd R.LN_STAT (lx l)).toNat),
    (1, d.get R.LN_TRAIN_STAT_STATE (lx l) + 8 * d.get R.LN_TRAIN_STAT_RESULT (lx l)),
    (1, d.get R.LN_ALIGN_STAT_FOUND (lx l) + 2 * d.get R.LN_ALIGN_STAT_OFFSET (lx l)), (2, d.get R.LN_TX_SWING (lx l)),
    (5, (d.rd R.LN_FFE (lx l)).toNat), (1, d.get R.LN_RX_EQ_CTLE (lx l)),
    (4, (d.lane l).totCorr + d.get R.LN_FEC_CW_CORR (lx l)), (4, (d.lane l).totUncorr + d.get R.LN_FEC_CW_UNCORR (lx l)),
    (4, (d.lane l).totSym + d.get R.LN_FEC_SYM_SYM (lx l)),
    (1, d.get R.LN_CTL_PRE_TX (lx l) + 2 * d.get R.LN_CTL_PRE_RX (lx l) + 4 * d.get R.LN_CTL_RX_INV (lx l)
      + 8 * d.get R.LN_CTL_TX_INV (lx l) + 16 * d.get R.LN_CTL_LOOP (lx l))]

theorem Device.laneQuery_eq (d : Device) (e : Entry) (l : Nat) (he : e.u 12 1 = l) (hl : l ≤ 15) :
    d.laneQuery e = (d.sampleLane l).ok (d.laneReport l) := by
  subst he
  obtain ⟨hcorr, huncorr, hsym⟩ := d.sampleLane_totals (e.u 12 1)
  have hst : (d.sampleLane (e.u 12 1)).rd R.LN_STAT (lx (e.u 12 1)) = d.rd R.LN_STAT (lx (e.u 12 1)) :=
    d.sampleLane_rd _ (Reg.addr_ne_of_beside (by decide) _) (Reg.addr_ne_of_beside (by decide) _) (Reg.addr_ne_of_beside (by decide) _)
  have hffe : (d.sampleLane (e.u 12 1)).rd R.LN_FFE (lx (e.u 12 1)) = d.rd R.LN_FFE (lx (e.u 12 1)) :=
    d.sampleLane_rd _ (Reg.addr_ne_of_beside (by decide) _) (Reg.addr_ne_of_beside (by decide) _) (Reg.addr_ne_of_beside (by decide) _)
  simp (disch := decide) only [Device.laneQuery, if_neg (Nat.not_lt.mpr hl), Device.laneReport, Device.sampleLane_get, hcorr, huncorr,
    hsym, hst, hffe]

/-- The report of LANE_COUNTERS (R173). -/
def Device.laneCounts (d : Device) (l : Nat) : List Byte :=
  layout [(4, (d.lane l).totCorr + d.get R.LN_FEC_CW_CORR (lx l)), (4, (d.lane l).totUncorr + d.get R.LN_FEC_CW_UNCORR (lx l)),
    (8, (d.lane l).totSym + d.get R.LN_FEC_SYM_SYM (lx l)), (2, (d.lane l).losEvents + b2n (d.flag R.LN_EVT_LOS_SEEN (lx l))),
    (2, (d.lane l).lolEvents + b2n (d.flag R.LN_EVT_LOL_SEEN (lx l))),
    (2, (d.lane l).alignEvents + b2n (d.flag R.LN_EVT_ALIGN_LOST (lx l)))]

/-- The totals clear on request. -/
def Device.clearTotals (d : Device) (l : Nat) : Device :=
  d.setLane l { d.lane l with totCorr := 0, totUncorr := 0, totSym := 0, losEvents := 0, lolEvents := 0, alignEvents := 0 }

theorem Device.laneCounters_eq (d : Device) (e : Entry) (l : Nat) (he : e.u 12 1 = l) (hl : l ≤ 15) (hf : e.u 13 1 ≤ 1)
    (hm : d.mayLane e.via l = true) :
    d.laneCounters e = (if e.u 13 1 = 1 then (d.sampleLane l).clearTotals l else d.sampleLane l).ok (d.laneCounts l) := by
  subst he
  obtain ⟨hcorr, huncorr, hsym⟩ := d.sampleLane_totals (e.u 12 1)
  obtain ⟨hlos, hlol, halign⟩ := d.sampleLane_events (e.u 12 1)
  simp only [Device.laneCounters, if_neg (show ¬ (15 < e.u 12 1 ∨ 1 < e.u 13 1) by omega), hm, Bool.not_true, if_neg Bool.false_ne_true,
    Device.laneCounts, Device.clearTotals, hcorr, huncorr, hsym, hlos, hlol, halign]

/-! ### The transmitter and training -/

/-- The taps that are given are set; where none are, they stay. -/
def Device.tapsSet (d : Device) (l : Nat) (o : Option (List Int)) : Device :=
  match o with
  | some t => d.setTaps l t
  | none => d

theorem Device.tapsSet_rd (d : Device) (l : Nat) (o : Option (List Int)) {r : Reg} {jx : List Nat}
    (h : r.addr jx ≠ R.LN_FFE.addr (lx l)) : (d.tapsSet l o).rd r jx = d.rd r jx := by
  cases o with
  | none => rfl
  | some t => exact d.rd_wr_ne _ h

@[simp] theorem Device.tapsSet_lane (d : Device) (l : Nat) (o : Option (List Int)) : (d.tapsSet l o).lane l = d.lane l := by
  cases o with
  | none => rfl
  | some t => exact d.wr_lane _ _ _ _

@[simp] theorem Device.tapsSet_tt (d : Device) (l : Nat) (o : Option (List Int)) : (d.tapsSet l o).tt = d.tt := by
  cases o with
  | none => rfl
  | some t => exact d.wr_tt _ _ _

/-- A lane on which no training runs: what START leaves before the transmitter is asked for (R154). -/
def Device.trainArmed (d : Device) (l : Nat) : Device :=
  let ix := lx l
  let d := d.tapsSet l (preset (d.get R.LN_TRAIN_CTL_LOCAL_PRESET ix))
  let d := d.put R.LN_TRAIN_STAT_REQS ix 0
  let d := d.setFlag R.LN_TRAIN_STAT_FAR_READY ix false
  let d := d.resetEq l
  let d := d.setLane l { d.lane l with trainStart := d.tt, resp := 0, req := 0, manual := false, eyes := [], accepted := 0
                                       localDone := false, word2 := none, frameAt := none, countdown := none, ownGone := false
                                       farGone := false, patBits := 0 }
  d.put R.LN_TRAIN_STAT_STATE ix 1

/-- START on a lane on which no training runs (R154). -/
theorem Device.trainStart_eq (d : Device) (l : Nat) (h : d.training l = false) :
    d.trainStart l = if (d.trainArmed l).flag R.LN_TX_TX_IDLE (lx l) ∧ (!(d.trainArmed l).txAdmitted l ∨ ((d.trainArmed l).lane l).cut)
      then (d.trainArmed l).trainFail l 5
      else (((d.trainArmed l).setFlag R.LN_TX_TX_IDLE (lx l) false).beginBurst l).showTx l := by
  rw [Device.trainStart, if_neg (by rw [h]; decide)]
  rfl

theorem Device.trainArmed_rd (d : Device) (l : Nat) {r : Reg} {jx : List Nat} (hffe : r.addr jx ≠ R.LN_FFE.addr (lx l))
    (hst : r.addr jx ≠ R.LN_TRAIN_STAT.addr (lx l)) (heq : r.addr jx ≠ R.LN_RX_EQ.addr (lx l)) :
    (d.trainArmed l).rd r jx = d.rd r jx := by
  simp only [Device.trainArmed, Device.rd_put_ne _ (f := R.LN_TRAIN_STAT_STATE) _ hst, Device.rd_setLane, Device.resetEq_rd _ _ heq,
    Device.rd_setFlag_ne _ (f := R.LN_TRAIN_STAT_FAR_READY) _ hst, Device.rd_put_ne _ (f := R.LN_TRAIN_STAT_REQS) _ hst,
    Device.tapsSet_rd _ _ _ hffe]

theorem Device.trainArmed_get (d : Device) (l : Nat) {f : Fld} (hffe : f.reg.beside R.LN_FFE = true)
    (hst : f.reg.beside R.LN_TRAIN_STAT = true) (heq : f.reg.beside R.LN_RX_EQ = true) :
    (d.trainArmed l).get f (lx l) = d.get f (lx l) :=
  Device.get_of_rd (d.trainArmed_rd l (Reg.addr_ne_of_beside hffe _) (Reg.addr_ne_of_beside hst _) (Reg.addr_ne_of_beside heq _))

/-- START puts the lane into WAIT. -/
theorem Device.trainArmed_state (d : Device) (l : Nat) : (d.trainArmed l).trainState l = 1 :=
  Device.get_put_fit _ _ (by decide) (by decide)

theorem Device.trainArmed_training (d : Device) (l : Nat) : (d.trainArmed l).training l = true := by
  simp only [Device.training, d.trainArmed_state l]
  decide

theorem Device.trainArmed_lane (d : Device) (l : Nat) :
    ((d.trainArmed l).lane l).trainStart = d.tt ∧ ((d.trainArmed l).lane l).cut = (d.lane l).cut := by
  simp only [Device.trainArmed, Device.put_lane, Device.setLane_same, Device.resetEq_tt, Device.setFlag_tt, Device.put_tt,
    Device.resetEq_cut, Device.setFlag_lane, Device.tapsSet_lane, Device.tapsSet_tt, and_self]

/-- A lane's registers lie below the Net table. -/
theorem netLn_addr_ne {q : Reg} {l : Nat} (hs : q.strides = [(0x1000000, 8), (0x100000, 2)]) (hb : q.base < 0x1200000) (hl : l ≤ 15) :
    R.NET_LN.addr [l] ≠ q.addr (lx l) := by
  have hq : q.addr (lx l) = q.base + (0x1000000 * (l / 2) + (0x100000 * (l % 2) + 0)) := by rw [Reg.addr, hs]; rfl
  have hn : R.NET_LN.addr [l] = 0xf700a00 + (0x8 * l + 0) := rfl
  omega

theorem Device.trainArmed_txAdmitted (d : Device) (l : Nat) (hl : l ≤ 15) : (d.trainArmed l).txAdmitted l = d.txAdmitted l := by
  have hn : (d.trainArmed l).rd R.NET_LN [l] = d.rd R.NET_LN [l] :=
    d.trainArmed_rd l (netLn_addr_ne rfl (by decide) hl) (netLn_addr_ne rfl (by decide) hl) (netLn_addr_ne rfl (by decide) hl)
  have htx : (d.trainArmed l).get R.LN_TX_SWING (lx l) = d.get R.LN_TX_SWING (lx l) :=
    d.trainArmed_get l (by decide) (by decide) (by decide)
  have hen : (d.trainArmed l).get R.NET_LN_TX_EN [l] = d.get R.NET_LN_TX_EN [l] := Device.get_of_rd hn
  have hmax : (d.trainArmed l).get R.NET_LN_SWING_MAX [l] = d.get R.NET_LN_SWING_MAX [l] := Device.get_of_rd hn
  simp only [Device.txAdmitted, Device.flag, htx, hen, hmax]

/-- Where the output is on, or may be switched on, START turns it on (R154). -/
theorem Device.trainStart_goes (d : Device) (l : Nat) (hl : l ≤ 15) (h : d.training l = false)
    (htx : d.flag R.LN_TX_TX_IDLE (lx l) = false ∨ (d.txAdmitted l = true ∧ (d.lane l).cut = false)) :
    d.trainStart l = (((d.trainArmed l).setFlag R.LN_TX_TX_IDLE (lx l) false).beginBurst l).showTx l := by
  have hidle : (d.trainArmed l).flag R.LN_TX_TX_IDLE (lx l) = d.flag R.LN_TX_TX_IDLE (lx l) :=
    congrArg (fun n => decide (n ≠ 0)) (d.trainArmed_get l (by decide) (by decide) (by decide))
  rw [d.trainStart_eq l h, hidle, d.trainArmed_txAdmitted l hl, (d.trainArmed_lane l).2, if_neg]
  rintro ⟨hon, hoff⟩
  rcases htx with hf | ⟨ha, hc⟩
  · rw [hf] at hon; exact absurd hon (by decide)
  · rw [ha, hc] at hoff; exact absurd hoff (by decide)

/-- Where the output is idle and may not be switched on, START fails with NO_TX (R154). -/
theorem Device.trainStart_fails (d : Device) (l : Nat) (hl : l ≤ 15) (h : d.training l = false)
    (hidle : d.flag R.LN_TX_TX_IDLE (lx l) = true) (htx : d.txAdmitted l = false ∨ (d.lane l).cut = true) :
    d.trainStart l = (d.trainArmed l).trainEnd l 5 5 := by
  have hi : (d.trainArmed l).flag R.LN_TX_TX_IDLE (lx l) = d.flag R.LN_TX_TX_IDLE (lx l) :=
    congrArg (fun n => decide (n ≠ 0)) (d.trainArmed_get l (by decide) (by decide) (by decide))
  rw [d.trainStart_eq l h, hi, d.trainArmed_txAdmitted l hl, (d.trainArmed_lane l).2, if_pos, Device.trainFail,
    if_pos (d.trainArmed_training l)]
  refine ⟨hidle, htx.imp (fun ha => ?_) id⟩
  rw [ha]; rfl

/-! ### The end of training -/

/-- The lane as training leaves it, before the LANE_TRAIN that waits for the end is answered (R154). -/
def Device.trainEnded (d : Device) (l st result : Nat) : Device :=
  let ix := lx l
  let d := d.put R.LN_TRAIN_STAT_STATE ix st
  let d := d.put R.LN_TRAIN_STAT_RESULT ix result
  let d := d.setFlag R.LN_EVT_TRAIN_END ix true
  d.setLane l { d.lane l with frameAt := none, countdown := none, rxLast := 0 }

theorem Device.trainEnd_eq (d : Device) (l st result : Nat) :
    d.trainEnd l st result = (d.trainEnded l st result).finish 0x0402 [l] (if st = 4 then 0 else 0x0410)
      ((d.trainEnded l st result).trainReply l) := rfl

theorem Device.finish_idle (d : Device) (opcode : Nat) (key : List Nat) (status : Nat) (payload : List Byte)
    (h : d.working opcode key = false) : d.finish opcode key status payload = d := by
  have hnone : d.ctl.works.filter (fun w => decide (w.opcode = opcode ∧ w.key = key) && !w.dead) = [] :=
    List.filter_eq_nil_iff.mpr (List.any_eq_false.mp h)
  rw [Device.finish, hnone, List.foldl_nil]

/-- Where no LANE_TRAIN waits, training ends without an answer. -/
theorem Device.trainEnd_alone (d : Device) (l st result : Nat) (h : (d.trainEnded l st result).working 0x0402 [l] = false) :
    d.trainEnd l st result = d.trainEnded l st result := by
  rw [d.trainEnd_eq l st result, Device.finish_idle _ _ _ _ _ h]

theorem Device.trainEnded_state (d : Device) (l st result : Nat) (h : st < 8) : (d.trainEnded l st result).trainState l = st := by
  simp (disch := decide) only [Device.trainEnded, Device.trainState, Device.get_setLane, Device.setFlag, Device.get_put_beside]
  exact d.get_put_fit _ (by decide) h

theorem Device.trainEnded_get (d : Device) (l st result : Nat) {f : Fld} (hst : f.reg.beside R.LN_TRAIN_STAT = true)
    (hevt : f.reg.beside R.LN_EVT = true) : (d.trainEnded l st result).get f (lx l) = d.get f (lx l) := by
  have hs := Reg.addr_ne_of_beside hst (lx l)
  have he := Reg.addr_ne_of_beside hevt (lx l)
  simp only [Device.trainEnded, Device.get_setLane, Device.setFlag, Device.get_put_ne _ (f := R.LN_EVT_TRAIN_END) _ he,
    Device.get_put_ne _ (f := R.LN_TRAIN_STAT_RESULT) _ hs, Device.get_put_ne _ (f := R.LN_TRAIN_STAT_STATE) _ hs]

/-! ### A write of LN_TX -/

/-- LN_TX.SWING written, and the cut lifted where it is within the limit again (R149). -/
def Device.swingSet (d : Device) (l : Nat) (v : Word) : Device :=
  let d := d.put R.LN_TX_SWING (lx l) (R.LN_TX_SWING.of v)
  let cut := (d.lane l).cut && decide (d.get R.NET_LN_SWING_MAX [l] < R.LN_TX_SWING.of v)
  d.setLane l { d.lane l with cut := cut, cutSince := if cut then (d.lane l).cutSince else none }

/-- The transmitter idled by a write of LN_TX, before training fails. -/
def Device.txIdled (d : Device) (l : Nat) (v : Word) : Device := ((d.swingSet l v).setFlag R.LN_TX_TX_IDLE (lx l) true).showTx l

theorem Device.laneTxWrite_idle (d : Device) (l : Nat) (v : Word) (h : R.LN_TX_TX_IDLE.of v = 1) :
    d.laneTxWrite l v = (d.txIdled l v).trainFail l 6 := by
  rw [Device.laneTxWrite, if_pos h]
  rfl

theorem Device.laneTxWrite_wake (d : Device) (l : Nat) (v : Word) (h : R.LN_TX_TX_IDLE.of v ≠ 1) :
    d.laneTxWrite l v = (d.swingSet l v).wakeTx l := by
  rw [Device.laneTxWrite, if_neg h]
  rfl

theorem Device.swingSet_swing (d : Device) (l : Nat) (v : Word) : (d.swingSet l v).get R.LN_TX_SWING (lx l) = R.LN_TX_SWING.of v :=
  d.get_put_fit _ (by decide) (Nat.mod_lt _ (by decide))

theorem Device.txIdled_tx (d : Device) (l : Nat) (v : Word) :
    (d.txIdled l v).get R.LN_TX_SWING (lx l) = R.LN_TX_SWING.of v ∧ (d.txIdled l v).get R.LN_TX_TX_IDLE (lx l) = 1 := by
  simp (disch := decide) only [Device.txIdled, Device.showTx_get, Device.setFlag, Device.get_put_beside, Device.swingSet_swing,
    Device.get_put_fit, b2n, if_true, and_self]

theorem Device.wakeTx_tx (d : Device) (l : Nat) :
    (d.wakeTx l).get R.LN_TX_SWING (lx l) = d.get R.LN_TX_SWING (lx l) ∧ (d.wakeTx l).get R.LN_TX_TX_IDLE (lx l) = 0 := by
  simp (disch := decide) only [Device.wakeTx, Device.showTx_get, Device.get_ite, Device.beginBurst_get, ite_self, Device.setFlag,
    Device.get_put_beside, Device.get_put_fit, b2n, Bool.false_eq_true, if_false, and_self]

theorem Device.txIdle_into_swing (d : Device) (l v : Nat) :
    R.LN_TX_SWING.of (R.LN_TX_TX_IDLE.into (d.rd R.LN_TX (lx l)) v) = d.get R.LN_TX_SWING (lx l) :=
  Fld.of_into_apart _ _ _ _ (by decide) (by decide)

theorem txIdle_into_self (w : Word) {v : Nat} (h : v < 2) : R.LN_TX_TX_IDLE.of (R.LN_TX_TX_IDLE.into w v) = v :=
  (Fld.of_into_same _ _ _ (by decide)).trans (Nat.mod_eq_of_lt h)

/-! ### A write of LN_CTL -/

/-- LN_CTL.RATE after a write (R161, R169). -/
def Device.rateSet (d : Device) (l : Nat) (v : Word) : Device :=
  if R.LN_CTL_RATE.of v = d.get R.LN_CTL_RATE (lx l) then d
  else if d.flag R.LN_CTL_RX_EN (lx l) || d.flag R.LN_CTL_TX_ON (lx l) then d.setFlag R.LN_EVT_CFG_BAD (lx l) true
  else if 5 < R.LN_CTL_RATE.of v then d
  else d.put R.LN_CTL_RATE (lx l) (R.LN_CTL_RATE.of v)

/-- The fields of LN_CTL after a write. -/
def Device.ctlSet (d : Device) (l : Nat) (v : Word) : Device :=
  let ix := lx l
  let d := d.rateSet l v
  let d := (d.setFlag R.LN_CTL_RX_EN ix (decide (R.LN_CTL_RX_EN.of v = 1))).setFlag R.LN_CTL_TX_ON ix (decide (R.LN_CTL_TX_ON.of v = 1))
  let d := d.put R.LN_CTL_RX_INV ix (R.LN_CTL_RX_INV.of v)
  let d := d.put R.LN_CTL_TX_INV ix (R.LN_CTL_TX_INV.of v)
  let d := d.put R.LN_CTL_PRE_TX ix (R.LN_CTL_PRE_TX.of v)
  let d := d.put R.LN_CTL_PRE_RX ix (R.LN_CTL_PRE_RX.of v)
  if 3 < R.LN_CTL_LOOP.of v then d else d.put R.LN_CTL_LOOP ix (R.LN_CTL_LOOP.of v)

/-- What follows from the enables and a change of LOOP: lock bits, adaptation, activity and latency. -/
def Device.ctlFollow (d : Device) (l : Nat) (rx tx : Bool) (looped : Prop) [Decidable looped] : Device :=
  let ix := lx l
  let d := if !rx then
      let d := (d.setFlag R.LN_STAT_CDR_LOCK ix false).setFlag R.LN_RX_EQ_ADAPT_OK ix false
      (d.setFlag R.LN_STAT_RX_HOLD ix false).setLane l { d.lane l with wasLocked := false }
    else if looped then d.loseLock l else d
  let d := if tx then d else d.setFlag R.LN_STAT_TXPLL_LOCK ix false
  (d.showTx l).showLat l

theorem Device.laneCtlWrite_eq (d : Device) (l : Nat) (v : Word) :
    d.laneCtlWrite l v = (d.ctlSet l v).ctlFollow l (decide (R.LN_CTL_RX_EN.of v = 1)) (decide (R.LN_CTL_TX_ON.of v = 1))
      (R.LN_CTL_LOOP.of v ≤ 3 ∧ R.LN_CTL_LOOP.of v ≠ d.get R.LN_CTL_LOOP (lx l)) := rfl

theorem Device.ctlFollow_rd (d : Device) (l : Nat) (rx tx : Bool) (looped : Prop) [Decidable looped] {r : Reg} {jx : List Nat}
    (hst : r.addr jx ≠ R.LN_STAT.addr (lx l)) (heq : r.addr jx ≠ R.LN_RX_EQ.addr (lx l)) (hlat : r.addr jx ≠ R.LN_LAT.addr (lx l)) :
    (d.ctlFollow l rx tx looped).rd r jx = d.rd r jx := by
  simp only [Device.ctlFollow, Device.showLat_rd _ _ hlat, Device.showTx_rd _ _ hst, Device.rd_ite, Device.loseLock_rd _ _ hst,
    Device.rd_setFlag_ne _ (f := R.LN_STAT_TXPLL_LOCK) _ hst, Device.rd_setFlag_ne _ (f := R.LN_STAT_RX_HOLD) _ hst,
    Device.rd_setFlag_ne _ (f := R.LN_RX_EQ_ADAPT_OK) _ heq, Device.rd_setFlag_ne _ (f := R.LN_STAT_CDR_LOCK) _ hst,
    Device.rd_setLane, ite_self]

theorem Device.laneCtlWrite_ctl (d : Device) (l : Nat) (v : Word) {f : Fld} (h : f.reg = R.LN_CTL) :
    (d.laneCtlWrite l v).get f (lx l) = (d.ctlSet l v).get f (lx l) := by
  have hrd : (d.laneCtlWrite l v).rd R.LN_CTL (lx l) = (d.ctlSet l v).rd R.LN_CTL (lx l) :=
    Device.ctlFollow_rd _ l _ _ _ (Reg.addr_ne_of_beside (by decide) _) (Reg.addr_ne_of_beside (by decide) _)
      (Reg.addr_ne_of_beside (by decide) _)
  exact Device.get_of_rd (h ▸ hrd)

theorem Device.rateSet_rd (d : Device) (l : Nat) (v : Word) {r : Reg} {jx : List Nat} (hctl : r.addr jx ≠ R.LN_CTL.addr (lx l))
    (hevt : r.addr jx ≠ R.LN_EVT.addr (lx l)) : (d.rateSet l v).rd r jx = d.rd r jx := by
  simp only [Device.rateSet, Device.rd_ite, Device.rd_setFlag_ne _ (f := R.LN_EVT_CFG_BAD) _ hevt,
    Device.rd_put_ne _ (f := R.LN_CTL_RATE) _ hctl, ite_self]

theorem Device.ctlSet_rd (d : Device) (l : Nat) (v : Word) {r : Reg} {jx : List Nat} (hctl : r.addr jx ≠ R.LN_CTL.addr (lx l))
    (hevt : r.addr jx ≠ R.LN_EVT.addr (lx l)) : (d.ctlSet l v).rd r jx = d.rd r jx := by
  simp only [Device.ctlSet, Device.rd_ite, Device.rd_put_ne _ (f := R.LN_CTL_LOOP) _ hctl,
    Device.rd_put_ne _ (f := R.LN_CTL_PRE_RX) _ hctl, Device.rd_put_ne _ (f := R.LN_CTL_PRE_TX) _ hctl,
    Device.rd_put_ne _ (f := R.LN_CTL_TX_INV) _ hctl, Device.rd_put_ne _ (f := R.LN_CTL_RX_INV) _ hctl,
    Device.rd_setFlag_ne _ (f := R.LN_CTL_TX_ON) _ hctl, Device.rd_setFlag_ne _ (f := R.LN_CTL_RX_EN) _ hctl,
    Device.rateSet_rd _ _ _ hctl hevt, ite_self]

/-- A write of LN_CTL leaves every register but LN_CTL, LN_EVT, LN_STAT, LN_RX_EQ and LN_LAT. -/
theorem Device.laneCtlWrite_rd (d : Device) (l : Nat) (v : Word) {r : Reg} {jx : List Nat} (hctl : r.addr jx ≠ R.LN_CTL.addr (lx l))
    (hevt : r.addr jx ≠ R.LN_EVT.addr (lx l)) (hst : r.addr jx ≠ R.LN_STAT.addr (lx l))
    (heq : r.addr jx ≠ R.LN_RX_EQ.addr (lx l)) (hlat : r.addr jx ≠ R.LN_LAT.addr (lx l)) :
    (d.laneCtlWrite l v).rd r jx = d.rd r jx := by
  rw [d.laneCtlWrite_eq l v, Device.ctlFollow_rd _ l _ _ _ hst heq hlat, d.ctlSet_rd l v hctl hevt]

theorem b2n_bit {n : Nat} (h : n < 2) : b2n (decide (n = 1)) = n := by
  rcases Nat.lt_succ_iff_lt_or_eq.mp h with h0 | h1
  · obtain rfl : n = 0 := Nat.lt_one_iff.mp h0
    rfl
  · rw [h1]; rfl

theorem Fld.of_lt (f : Fld) (w : Word) : f.of w < 2 ^ f.width := Nat.mod_lt _ (Nat.two_pow_pos _)

section
variable (d : Device) (l : Nat) (v : Word)

theorem Device.laneCtlWrite_rxEn : (d.laneCtlWrite l v).get R.LN_CTL_RX_EN (lx l) = R.LN_CTL_RX_EN.of v := by
  rw [d.laneCtlWrite_ctl l v rfl]
  simp (disch := decide) only [Device.ctlSet, Device.get_ite, Device.setFlag, Device.get_put_beside, ite_self]
  rw [b2n_bit (Fld.of_lt _ _), Device.get_put_fit _ _ (by decide) (Fld.of_lt _ _)]

theorem Device.laneCtlWrite_txOn : (d.laneCtlWrite l v).get R.LN_CTL_TX_ON (lx l) = R.LN_CTL_TX_ON.of v := by
  rw [d.laneCtlWrite_ctl l v rfl]
  simp (disch := decide) only [Device.ctlSet, Device.get_ite, Device.setFlag, Device.get_put_beside, ite_self]
  rw [b2n_bit (Fld.of_lt R.LN_CTL_TX_ON _), Device.get_put_fit _ _ (by decide) (Fld.of_lt _ _)]

theorem Device.laneCtlWrite_rxInv : (d.laneCtlWrite l v).get R.LN_CTL_RX_INV (lx l) = R.LN_CTL_RX_INV.of v := by
  rw [d.laneCtlWrite_ctl l v rfl]
  simp (disch := decide) only [Device.ctlSet, Device.get_ite, Device.get_put_beside, ite_self]
  exact Device.get_put_fit _ _ (by decide) (Fld.of_lt _ _)

theorem Device.laneCtlWrite_txInv : (d.laneCtlWrite l v).get R.LN_CTL_TX_INV (lx l) = R.LN_CTL_TX_INV.of v := by
  rw [d.laneCtlWrite_ctl l v rfl]
  simp (disch := decide) only [Device.ctlSet, Device.get_ite, Device.get_put_beside, ite_self]
  exact Device.get_put_fit _ _ (by decide) (Fld.of_lt _ _)

theorem Device.laneCtlWrite_loop (h : R.LN_CTL_LOOP.of v ≤ 3) :
    (d.laneCtlWrite l v).get R.LN_CTL_LOOP (lx l) = R.LN_CTL_LOOP.of v := by
  rw [d.laneCtlWrite_ctl l v rfl]
  simp only [Device.ctlSet, if_neg (Nat.not_lt.mpr h)]
  exact Device.get_put_fit _ _ (by decide) (Fld.of_lt _ _)

theorem Device.laneCtlWrite_rate : (d.laneCtlWrite l v).get R.LN_CTL_RATE (lx l) = (d.rateSet l v).get R.LN_CTL_RATE (lx l) := by
  rw [d.laneCtlWrite_ctl l v rfl]
  simp (disch := decide) only [Device.ctlSet, Device.get_ite, Device.setFlag, Device.get_put_beside, ite_self]

/-- RATE stays where the write asks for no other. -/
theorem Device.laneCtlWrite_rate_kept (h : R.LN_CTL_RATE.of v = d.get R.LN_CTL_RATE (lx l)) :
    (d.laneCtlWrite l v).get R.LN_CTL_RATE (lx l) = R.LN_CTL_RATE.of v := by
  rw [d.laneCtlWrite_rate l v, Device.rateSet, if_pos h, h]

/-- RATE is taken while the lane is off (R169). -/
theorem Device.laneCtlWrite_rate_off (hrx : d.get R.LN_CTL_RX_EN (lx l) = 0) (htx : d.get R.LN_CTL_TX_ON (lx l) = 0)
    (hne : R.LN_CTL_RATE.of v ≠ d.get R.LN_CTL_RATE (lx l)) (h5 : R.LN_CTL_RATE.of v ≤ 5) :
    (d.laneCtlWrite l v).get R.LN_CTL_RATE (lx l) = R.LN_CTL_RATE.of v := by
  have hoff : ¬ (d.flag R.LN_CTL_RX_EN (lx l) || d.flag R.LN_CTL_TX_ON (lx l)) = true := by
    simp only [Device.flag, hrx, htx]; decide
  rw [d.laneCtlWrite_rate l v, Device.rateSet, if_neg hne, if_neg hoff, if_neg (Nat.not_lt.mpr h5)]
  exact d.get_put_fit _ (by decide) (Fld.of_lt _ _)

end

/-! ### The word of LN_CTL -/

theorem laneCtlWord_toNat {rate rx tx rxInv txInv preTx preRx loop : Nat} (hrate : rate < 8) (hrx : rx < 2) (htx : tx < 2)
    (hri : rxInv < 2) (hti : txInv < 2) (hpt : preTx < 2) (hpr : preRx < 2) (hl : loop < 8) :
    (laneCtlWord rate rx tx rxInv txInv preTx preRx loop).toNat
      = rate + 8 * rx + 16 * tx + 32 * rxInv + 64 * txInv + 128 * preTx + 256 * preRx + 512 * loop := by
  rw [laneCtlWord, BitVec.toNat_ofNat, Nat.mod_eq_of_lt (by omega)]

/-- The fields of the word that LANE_CONFIG writes to LN_CTL. -/
theorem Device.laneCtlWith_of (d : Device) (l : Nat) {rate rx tx rxInv txInv : Nat} (hrate : rate < 8) (hrx : rx < 2) (htx : tx < 2)
    (hri : rxInv < 2) (hti : txInv < 2) :
    R.LN_CTL_RATE.of (d.laneCtlWith l rate rx tx rxInv txInv) = rate ∧ R.LN_CTL_RX_EN.of (d.laneCtlWith l rate rx tx rxInv txInv) = rx
    ∧ R.LN_CTL_TX_ON.of (d.laneCtlWith l rate rx tx rxInv txInv) = tx
    ∧ R.LN_CTL_RX_INV.of (d.laneCtlWith l rate rx tx rxInv txInv) = rxInv
    ∧ R.LN_CTL_TX_INV.of (d.laneCtlWith l rate rx tx rxInv txInv) = txInv := by
  have hw := laneCtlWord_toNat hrate hrx htx hri hti (d.get_lt R.LN_CTL_PRE_TX (lx l)) (d.get_lt R.LN_CTL_PRE_RX (lx l))
    (d.get_lt R.LN_CTL_LOOP (lx l))
  simp only [Device.laneCtlWith, Fld.of, bits, hw, R.LN_CTL_RATE, R.LN_CTL_RX_EN, R.LN_CTL_TX_ON, R.LN_CTL_RX_INV, R.LN_CTL_TX_INV]
  omega

end Sys2Proof.Machine
end

section
/-! Scope: the lane commands of mailbox group 0x04 (R173, R149, R150, R153, R154, R158, R161, R162, R165, R68). -/

namespace Sys2Proof.Machine

/-! ### LANE_CONFIG -/

theorem Device.trainFail_idle (d : Device) (l result : Nat) (h : d.training l = false) : d.trainFail l result = d := by
  rw [Device.trainFail, if_neg (by rw [h]; decide)]

theorem Device.txIdled_rd (d : Device) (l : Nat) (v : Word) {r : Reg} {jx : List Nat} (htx : r.addr jx ≠ R.LN_TX.addr (lx l))
    (hst : r.addr jx ≠ R.LN_STAT.addr (lx l)) : (d.txIdled l v).rd r jx = d.rd r jx := by
  simp only [Device.txIdled, Device.showTx_rd _ _ hst, Device.rd_setFlag_ne _ (f := R.LN_TX_TX_IDLE) _ htx, Device.swingSet,
    Device.rd_setLane, Device.rd_put_ne _ (f := R.LN_TX_SWING) _ htx]

theorem Device.txIdled_training (d : Device) (l : Nat) (v : Word) : (d.txIdled l v).training l = d.training l := by
  have hst : (d.txIdled l v).trainState l = d.trainState l :=
    Device.get_of_rd (d.txIdled_rd l v (Reg.addr_ne_of_beside (by decide) _) (Reg.addr_ne_of_beside (by decide) _))
  simp only [Device.training, hst]

/-- LANE_CONFIG switches a lane off whose RATE is to change. -/
def Device.laneOff (d : Device) (l : Nat) : Device :=
  let d := d.laneTxWrite l (R.LN_TX_TX_IDLE.into (d.rd R.LN_TX (lx l)) 1)
  d.laneCtlWrite l (d.laneCtlWith l (d.get R.LN_CTL_RATE (lx l)) 0 0 (d.get R.LN_CTL_RX_INV (lx l)) (d.get R.LN_CTL_TX_INV (lx l)))

/-- LANE_CONFIG changes RATE while the lane is off. -/
def Device.rateTo (d : Device) (l rate : Nat) : Device :=
  let d := if rate = d.get R.LN_CTL_RATE (lx l) then d else d.laneOff l
  if rate = d.get R.LN_CTL_RATE (lx l) then d
  else d.laneCtlWrite l (d.laneCtlWith l rate 0 0 (d.get R.LN_CTL_RX_INV (lx l)) (d.get R.LN_CTL_TX_INV (lx l)))

/-- Where no training runs, a lane switched off keeps its RATE, its taps and its inversions. -/
theorem Device.laneOff_off (d : Device) (l : Nat) (h : d.training l = false) :
    (d.laneOff l).get R.LN_CTL_RATE (lx l) = d.get R.LN_CTL_RATE (lx l) ∧ (d.laneOff l).get R.LN_CTL_RX_EN (lx l) = 0
    ∧ (d.laneOff l).get R.LN_CTL_TX_ON (lx l) = 0 ∧ (d.laneOff l).rd R.LN_FFE (lx l) = d.rd R.LN_FFE (lx l) := by
  have hidle : d.laneTxWrite l (R.LN_TX_TX_IDLE.into (d.rd R.LN_TX (lx l)) 1)
      = d.txIdled l (R.LN_TX_TX_IDLE.into (d.rd R.LN_TX (lx l)) 1) := by
    rw [d.laneTxWrite_idle l _ (txIdle_into_self _ (by decide)), Device.trainFail_idle _ _ _ ((d.txIdled_training l _).trans h)]
  simp only [Device.laneOff, hidle]
  generalize hv : R.LN_TX_TX_IDLE.into (d.rd R.LN_TX (lx l)) 1 = v
  have hrate : (d.txIdled l v).get R.LN_CTL_RATE (lx l) = d.get R.LN_CTL_RATE (lx l) :=
    Device.get_of_rd (d.txIdled_rd l v (Reg.addr_ne_of_beside (by decide) _) (Reg.addr_ne_of_beside (by decide) _))
  have hffe : (d.txIdled l v).rd R.LN_FFE (lx l) = d.rd R.LN_FFE (lx l) :=
    d.txIdled_rd l v (Reg.addr_ne_of_beside (by decide) _) (Reg.addr_ne_of_beside (by decide) _)
  obtain ⟨hr, hrx, htx, -, -⟩ := (d.txIdled l v).laneCtlWith_of l ((d.txIdled l v).get_lt R.LN_CTL_RATE (lx l)) (rx := 0) (tx := 0)
    (by decide) (by decide) ((d.txIdled l v).get_lt R.LN_CTL_RX_INV (lx l)) ((d.txIdled l v).get_lt R.LN_CTL_TX_INV (lx l))
  refine ⟨?_, ?_, ?_, ?_⟩
  · rw [Device.laneCtlWrite_rate_kept _ _ _ hr, hr, hrate]
  · rw [Device.laneCtlWrite_rxEn, hrx]
  · rw [Device.laneCtlWrite_txOn, htx]
  · rw [Device.laneCtlWrite_rd _ l _ (Reg.addr_ne_of_beside (by decide) _) (Reg.addr_ne_of_beside (by decide) _)
      (Reg.addr_ne_of_beside (by decide) _) (Reg.addr_ne_of_beside (by decide) _) (Reg.addr_ne_of_beside (by decide) _), hffe]

/-- RATE is what LANE_CONFIG asks for, and the taps stay. -/
theorem Device.rateTo_rate (d : Device) (l rate : Nat) (h : d.training l = false) (h5 : rate ≤ 5) :
    (d.rateTo l rate).get R.LN_CTL_RATE (lx l) = rate ∧ (d.rateTo l rate).rd R.LN_FFE (lx l) = d.rd R.LN_FFE (lx l) := by
  by_cases hr : rate = d.get R.LN_CTL_RATE (lx l)
  · simp only [Device.rateTo, if_pos hr]
    exact ⟨hr.symm, trivial⟩
  · obtain ⟨hor, horx, hotx, hoffe⟩ := d.laneOff_off l h
    obtain ⟨hw, -, -, -, -⟩ := (d.laneOff l).laneCtlWith_of l (show rate < 8 by omega) (rx := 0) (tx := 0) (by decide) (by decide)
      ((d.laneOff l).get_lt R.LN_CTL_RX_INV (lx l)) ((d.laneOff l).get_lt R.LN_CTL_TX_INV (lx l))
    simp only [Device.rateTo, if_neg hr, hor]
    refine ⟨?_, ?_⟩
    · rw [Device.laneCtlWrite_rate_off _ l _ horx hotx (by rw [hw, hor]; exact hr) (by rw [hw]; exact h5), hw]
    · rw [Device.laneCtlWrite_rd _ l _ (Reg.addr_ne_of_beside (by decide) _) (Reg.addr_ne_of_beside (by decide) _)
        (Reg.addr_ne_of_beside (by decide) _) (Reg.addr_ne_of_beside (by decide) _) (Reg.addr_ne_of_beside (by decide) _), hoffe]

/-- LANE_CONFIG's enables, inversions, taps, swing and thresholds, RATE being what it asks for. -/
def Device.laneSettings (d : Device) (e : Entry) (l : Nat) : Device :=
  let ix := lx l
  let d := d.laneCtlWrite l (d.laneCtlWith l (e.u 13 1) (e.u 14 1 % 2) (e.u 14 1 / 2 % 2) (e.u 14 1 / 4 % 2) (e.u 14 1 / 8 % 2))
  let d := d.tapsSet l (Device.ffeWanted e)
  let d := d.put R.LN_TX_SWING ix (e.u 22 2)
  let d := d.setLane l { d.lane l with cut := false }
  let d := d.put R.LN_LOS_CFG_THRESH ix (e.u 24 1)
  let d := (d.put R.LN_LOS_CFG_HYST ix (e.u 25 1)).put R.LN_LOS_CFG_ASSERT_NS ix (e.u 26 2)
  d.showTx l

/-- The taps that FFE_MODE asks for, if any, are a valid set. -/
def Device.ffeValid (e : Entry) : Bool :=
  match Device.ffeWanted e with
  | some t => tapsValid t
  | none => true

theorem Device.laneConfig_eq (d : Device) (e : Entry) (l : Nat) (hl : e.u 12 1 = l) (h15 : l ≤ 15) (hr : e.u 13 1 ≤ 5)
    (hf : e.u 14 1 ≤ 15) (hm : e.u 15 1 ≤ 5)
    (hz : e.u 21 1 = 0) (hz2 : e.u 28 24 = 0) (hs : e.u 22 2 ≤ 1200) (ht : 2 ≤ e.u 24 1) (ht2 : e.u 24 1 ≤ 30)
    (hh : e.u 25 1 ≤ 7) (ha : e.u 26 2 ≤ 1023) (hw : Device.ffeValid e = true)
    (hmay : d.mayLane e.via l = true) (hbusy : d.laneBusy l = false) (hmax : e.u 22 2 ≤ d.get R.NET_LN_SWING_MAX [l]) :
    d.laneConfig e = ((d.rateTo l (e.u 13 1)).laneSettings e l).ok [] := by
  subst hl
  rw [Device.laneConfig, if_neg, if_neg (by rw [hmay]; decide), if_neg (by rw [hbusy]; decide), if_neg (Nat.not_lt.mpr hmax)]
  · rfl
  · rintro (hb | hb | hb | hb | hb | hb | hb | hb | hb | hb | hb | hb)
    any_goals omega
    exact absurd ((congrArg not hw).symm.trans hb) (by decide)

/-- What LANE_CONFIG leaves in LN_CTL, where RATE is what it asks for already. -/
theorem Device.laneSettings_ctl (d : Device) (e : Entry) (l : Nat) {f : Fld} (h : f.reg = R.LN_CTL) :
    (d.laneSettings e l).get f (lx l)
      = (d.laneCtlWrite l (d.laneCtlWith l (e.u 13 1) (e.u 14 1 % 2) (e.u 14 1 / 2 % 2) (e.u 14 1 / 4 % 2) (e.u 14 1 / 8 % 2))).get f
          (lx l) := by
  have hst : R.LN_CTL.addr (lx l) ≠ R.LN_STAT.addr (lx l) := Reg.addr_ne_of_beside (by decide) _
  refine Device.get_of_rd ?_
  rw [h]
  simp (disch := decide) only [Device.laneSettings, Device.showTx_rd _ _ hst, Device.rd_put_beside, Device.rd_setLane]
  exact Device.tapsSet_rd _ l _ (Reg.addr_ne_of_beside (by decide) _)

theorem Device.laneSettings_fields (d : Device) (e : Entry) (l : Nat) (hr : e.u 13 1 ≤ 5)
    (hrate : d.get R.LN_CTL_RATE (lx l) = e.u 13 1) :
    (d.laneSettings e l).get R.LN_CTL_RATE (lx l) = e.u 13 1 ∧ (d.laneSettings e l).get R.LN_CTL_RX_EN (lx l) = e.u 14 1 % 2
    ∧ (d.laneSettings e l).get R.LN_CTL_TX_ON (lx l) = e.u 14 1 / 2 % 2
    ∧ (d.laneSettings e l).get R.LN_CTL_RX_INV (lx l) = e.u 14 1 / 4 % 2
    ∧ (d.laneSettings e l).get R.LN_CTL_TX_INV (lx l) = e.u 14 1 / 8 % 2 := by
  obtain ⟨hwr, hwrx, hwtx, hwri, hwti⟩ := d.laneCtlWith_of l (show e.u 13 1 < 8 by omega) (rx := e.u 14 1 % 2) (tx := e.u 14 1 / 2 % 2)
    (rxInv := e.u 14 1 / 4 % 2) (txInv := e.u 14 1 / 8 % 2) (by omega) (by omega) (by omega) (by omega)
  refine ⟨?_, ?_, ?_, ?_, ?_⟩
  · rw [d.laneSettings_ctl e l rfl, d.laneCtlWrite_rate_kept l _ (hwr.trans hrate.symm), hwr]
  · rw [d.laneSettings_ctl e l rfl, d.laneCtlWrite_rxEn l, hwrx]
  · rw [d.laneSettings_ctl e l rfl, d.laneCtlWrite_txOn l, hwtx]
  · rw [d.laneSettings_ctl e l rfl, d.laneCtlWrite_rxInv l, hwri]
  · rw [d.laneSettings_ctl e l rfl, d.laneCtlWrite_txInv l, hwti]

/-- LN_FFE with the taps that FFE_MODE asks for in place of `w`. -/
def Device.ffeAsked (e : Entry) (w : Word) : Word :=
  match Device.ffeWanted e with
  | some t => tapsWord t
  | none => w

/-- The taps that LANE_CONFIG leaves. -/
theorem Device.laneSettings_ffe (d : Device) (e : Entry) (l : Nat) :
    (d.laneSettings e l).rd R.LN_FFE (lx l) = Device.ffeAsked e (d.rd R.LN_FFE (lx l)) := by
  have hst : R.LN_FFE.addr (lx l) ≠ R.LN_STAT.addr (lx l) := Reg.addr_ne_of_beside (by decide) _
  simp (disch := decide) only [Device.laneSettings, Device.showTx_rd _ _ hst, Device.rd_put_beside, Device.rd_setLane, Device.ffeAsked]
  cases Device.ffeWanted e with
  | some t => exact Device.rd_wr_same _ _ _ _
  | none =>
    exact d.laneCtlWrite_rd l _ (Reg.addr_ne_of_beside (by decide) _) (Reg.addr_ne_of_beside (by decide) _) hst
      (Reg.addr_ne_of_beside (by decide) _) (Reg.addr_ne_of_beside (by decide) _)

/-- Swing, cut and thresholds as LANE_CONFIG leaves them. -/
theorem Device.laneSettings_levels (d : Device) (e : Entry) (l : Nat) (hs : e.u 22 2 ≤ 1200) (ht : e.u 24 1 ≤ 30) (hh : e.u 25 1 ≤ 7)
    (ha : e.u 26 2 ≤ 1023) :
    (d.laneSettings e l).get R.LN_TX_SWING (lx l) = e.u 22 2 ∧ ((d.laneSettings e l).lane l).cut = false
    ∧ (d.laneSettings e l).get R.LN_LOS_CFG_THRESH (lx l) = e.u 24 1 ∧ (d.laneSettings e l).get R.LN_LOS_CFG_HYST (lx l) = e.u 25 1
    ∧ (d.laneSettings e l).get R.LN_LOS_CFG_ASSERT_NS (lx l) = e.u 26 2 := by
  simp (disch := decide) only [Device.laneSettings, Device.showTx_get, Device.get_put_beside, Device.get_setLane, Device.showTx_lane,
    Device.put_lane, Device.setLane_same, true_and]
  refine ⟨?_, ?_, ?_, ?_⟩
  · exact Device.get_put_lt _ _ (by decide) (n := 4096) (by decide) (by omega)
  · exact Device.get_put_lt _ _ (by decide) (n := 32) (by decide) (by omega)
  · exact Device.get_put_lt _ _ (by decide) (n := 8) (by decide) (by omega)
  · exact Device.get_put_lt _ _ (by decide) (n := 1024) (by decide) (by omega)

/-- Training does not run on a lane that is not busy. -/
theorem Device.laneBusy_training {d : Device} {l : Nat} (h : d.laneBusy l = false) : d.training l = false := by
  simp only [Device.laneBusy, Bool.or_eq_false_iff] at h
  exact h.1.2

/-! ### LANE_ALIGN -/

theorem Device.startSearch_settings (d : Device) (l confirm lose pat mask period limitUs : Nat) (hc : confirm < 16) (hlo : lose < 16)
    (hp : period < 65536) :
    (d.startSearch l confirm lose pat mask period limitUs).get R.LN_ALIGN_CTL_PERIOD (lx l) = period
    ∧ (d.startSearch l confirm lose pat mask period limitUs).get R.LN_ALIGN_CTL_CONFIRM (lx l) = confirm
    ∧ (d.startSearch l confirm lose pat mask period limitUs).get R.LN_ALIGN_CTL_LOSE (lx l) = lose
    ∧ (d.startSearch l confirm lose pat mask period limitUs).flag R.LN_ALIGN_CTL_ENABLE (lx l) = true := by
  simp (disch := decide) only [Device.startSearch, Device.flag, Device.get_setLane, Device.clearFound_get, Device.setFlag,
    Device.get_put_beside]
  refine ⟨?_, ?_, ?_, ?_⟩
  · exact Device.get_put_lt _ _ (by decide) (by decide) hp
  · exact Device.get_put_lt _ _ (by decide) (by decide) hc
  · exact Device.get_put_lt _ _ (by decide) (by decide) hlo
  · rw [Device.get_put_fit _ _ (by decide) (by decide)]; rfl

/-- The comparator's pattern and mask. -/
theorem Device.startSearch_marker (d : Device) (l confirm lose pat mask period limitUs : Nat) :
    (d.startSearch l confirm lose pat mask period limitUs).rd R.LN_ALIGN_PAT (lx l) = BitVec.ofNat 64 pat
    ∧ (d.startSearch l confirm lose pat mask period limitUs).rd R.LN_ALIGN_MASK (lx l) = BitVec.ofNat 64 mask := by
  have hp : R.LN_ALIGN_PAT.addr (lx l) ≠ R.LN_ALIGN_STAT.addr (lx l) := Reg.addr_ne_of_beside (by decide) _
  have hm : R.LN_ALIGN_MASK.addr (lx l) ≠ R.LN_ALIGN_STAT.addr (lx l) := Reg.addr_ne_of_beside (by decide) _
  simp (disch := decide) only [Device.startSearch, Device.rd_setLane, Device.clearFound_rd _ _ hp, Device.clearFound_rd _ _ hm,
    Device.setFlag, Device.rd_put_beside, Device.rd_wr_same, Device.rd_wr_beside, and_self]

theorem Device.startSearch_found (d : Device) (l confirm lose pat mask period limitUs : Nat) :
    (d.startSearch l confirm lose pat mask period limitUs).flag R.LN_ALIGN_STAT_FOUND (lx l) = false := by
  simp only [Device.startSearch, Device.flag, Device.clearFound, Device.get_setLane]
  exact Device.flag_setFlag_same _ _ _ _ (by decide) (by decide)

theorem Device.clearFound_tt (d : Device) (l : Nat) : (d.clearFound l).tt = d.tt := by
  simp only [Device.clearFound, Device.setLane_tt, Device.setFlag_tt]

theorem Device.startSearch_search (d : Device) (l confirm lose pat mask period limitUs : Nat) :
    ((d.startSearch l confirm lose pat mask period limitUs).lane l).search
      = some { offset := 0, since := d.tt, start := d.tt, limitUs := limitUs } := by
  simp only [Device.startSearch, Device.setLane_same, Device.clearFound_tt, Device.setFlag_tt, Device.put_tt, Device.wr_tt]

/-! ### LANE_PRBS -/

theorem Device.prbsReset_get (d : Device) (l : Nat) {f : Fld} (h : f.beside R.LN_PRBS_LOCK = true) :
    (d.prbsReset l).get f (lx l) = d.get f (lx l) := (d.setLane l _).get_put_beside _ _ h

theorem Device.setPrbs_settings (d : Device) (l poly gen chk : Nat) (hp : poly < 8) (hg : gen < 2) (hc : chk < 2) :
    (d.setPrbs l poly gen chk).get R.LN_PRBS_POLY (lx l) = poly ∧ (d.setPrbs l poly gen chk).get R.LN_PRBS_GEN (lx l) = gen
    ∧ (d.setPrbs l poly gen chk).get R.LN_PRBS_CHK (lx l) = chk
    ∧ (d.setPrbs l poly gen chk).get R.LN_PRBS_ERR (lx l) = d.get R.LN_PRBS_ERR (lx l) := by
  simp (disch := decide) only [Device.setPrbs, Device.get_ite, Device.prbsReset_get, Device.get_put_beside, ite_self, and_true]
  refine ⟨?_, ?_, ?_⟩
  · exact Device.get_put_lt _ _ (by decide) (by decide) hp
  · exact Device.get_put_lt _ _ (by decide) (by decide) hg
  · exact Device.get_put_lt _ _ (by decide) (by decide) hc

theorem Device.setPrbs_total (d : Device) (l poly gen chk : Nat) :
    ((d.setPrbs l poly gen chk).lane l).prbsTotal = (d.lane l).prbsTotal := by
  simp only [Device.setPrbs, Device.lane_ite, Device.prbsReset, Device.setFlag_lane, Device.setLane_same, Device.put_lane, ite_self,
    apply_ite LaneX.prbsTotal]

/-- LANE_PRBS takes the error count into the total, cleared where it is asked to, and sets the pattern. -/
def Device.prbsSet (d : Device) (e : Entry) (l : Nat) : Device :=
  let total := (d.lane l).prbsTotal + d.get R.LN_PRBS_ERR (lx l)
  let d := d.put R.LN_PRBS_ERR (lx l) 0
  let d := d.setLane l { d.lane l with prbsTotal := if bit (e.u 14 1) 2 then 0 else total }
  d.setPrbs l (e.u 13 1) (e.u 14 1 % 2) (e.u 14 1 / 2 % 2)

theorem Device.lanePrbs_eq (d : Device) (e : Entry) (l : Nat) (hl : e.u 12 1 = l) (h15 : l ≤ 15) (hp : e.u 13 1 ≤ 5)
    (hf : e.u 14 1 ≤ 7) (hmay : d.mayLane e.via l = true) (hbusy : d.laneBusy l = false) :
    d.lanePrbs e = (d.prbsSet e l).ok (layout [(1, (d.prbsSet e l).get R.LN_PRBS_LOCK (lx l)), (7, 0),
      (8, (d.lane l).prbsTotal + d.get R.LN_PRBS_ERR (lx l))]) := by
  subst hl
  rw [Device.lanePrbs, if_neg (by omega), if_neg (by rw [hmay]; decide), if_neg (by rw [hbusy]; decide)]
  rfl

theorem Device.prbsSet_fields (d : Device) (e : Entry) (l : Nat) (hp : e.u 13 1 ≤ 5) :
    (d.prbsSet e l).get R.LN_PRBS_POLY (lx l) = e.u 13 1 ∧ (d.prbsSet e l).get R.LN_PRBS_GEN (lx l) = e.u 14 1 % 2
    ∧ (d.prbsSet e l).get R.LN_PRBS_CHK (lx l) = e.u 14 1 / 2 % 2 ∧ (d.prbsSet e l).get R.LN_PRBS_ERR (lx l) = 0
    ∧ ((d.prbsSet e l).lane l).prbsTotal = (if bit (e.u 14 1) 2 then 0 else (d.lane l).prbsTotal + d.get R.LN_PRBS_ERR (lx l)) := by
  simp only [Device.prbsSet]
  obtain ⟨hpoly, hgen, hchk, herr⟩ := Device.setPrbs_settings ((d.put R.LN_PRBS_ERR (lx l) 0).setLane l _) l (e.u 13 1)
    (e.u 14 1 % 2) (e.u 14 1 / 2 % 2) (by omega) (by omega) (by omega)
  refine ⟨hpoly, hgen, hchk, herr.trans ?_, ?_⟩
  · rw [Device.get_setLane]
    exact d.get_put_fit _ (by decide) (by decide)
  · rw [Device.setPrbs_total, Device.setLane_same]

/-! ### LANE_HIST -/

theorem clamp_clamp {lo hi v : Nat} (h : lo ≤ hi) : clamp lo hi (clamp lo hi v) = clamp lo hi v := by
  simp only [clamp]
  omega

/-- A window of bounded length begins (R165). -/
theorem Device.histStart_fields (d : Device) (l : Nat) (h : d.flag R.LN_HIST_CTL_BUSY (lx l) = false) :
    (d.histStart l).flag R.LN_HIST_CTL_BUSY (lx l) = true
    ∧ (d.histStart l).get R.LN_HIST_CTL_WIN (lx l) = clamp 10 30 (d.get R.LN_HIST_CTL_WIN (lx l)) := by
  rw [Device.histStart, if_neg (by rw [h]; decide)]
  refine ⟨Device.flag_setFlag_same _ _ _ _ (by decide) (by decide), ?_⟩
  simp (disch := decide) only [Device.setFlag, Device.get_put_beside]
  exact d.get_put_lt _ (by decide) (n := 32) (by decide) (by simp only [clamp]; omega)

/-- LANE_HIST's window, unless one is being taken. -/
def Device.histFor (d : Device) (l win : Nat) : Device :=
  if d.flag R.LN_HIST_CTL_BUSY (lx l) then d else (d.put R.LN_HIST_CTL_WIN (lx l) (clamp 10 30 win)).histStart l

theorem Device.histFor_fields (d : Device) (l win : Nat) :
    (d.histFor l win).flag R.LN_HIST_CTL_BUSY (lx l) = true
    ∧ (d.flag R.LN_HIST_CTL_BUSY (lx l) = false → (d.histFor l win).get R.LN_HIST_CTL_WIN (lx l) = clamp 10 30 win) := by
  by_cases hb : d.flag R.LN_HIST_CTL_BUSY (lx l) = true
  · rw [Device.histFor, if_pos hb]
    exact ⟨hb, fun hn => absurd (hb.symm.trans hn) (by decide)⟩
  · have hoff : (d.put R.LN_HIST_CTL_WIN (lx l) (clamp 10 30 win)).flag R.LN_HIST_CTL_BUSY (lx l) = false := by
      simp (disch := decide) only [Device.flag, Device.get_put_beside]
      simpa [Device.flag] using hb
    obtain ⟨hbusy, hwin⟩ := Device.histStart_fields _ l hoff
    rw [Device.histFor, if_neg hb]
    refine ⟨hbusy, fun _ => hwin.trans ?_⟩
    rw [d.get_put_lt (f := R.LN_HIST_CTL_WIN) _ (by decide) (n := 32) (by decide) (by simp only [clamp]; omega), clamp_clamp (by decide)]

/-! ### Answers of LANE_TRAIN that an end of training gives first -/

/-- The reply to a command during which firmware gave another command its final answer first, told of the device `t` before that
answer; `done` is the device after both. -/
def Reply.before (status : Nat) (payload : List Byte) (t done : Device) : Reply :=
  { status := status, payload := payload, dev := t, held := true, act := fun _ => done }

theorem Device.answer_before (c : CmdSpec) (e : Entry) (status : Nat) (payload : List Byte) (t done : Device) (bs : List Nat) :
    Device.answer c e ((Reply.before status payload t done).waking bs) = done := by
  rw [Reply.waking]
  split <;> exact if_pos (Or.inr rfl)

/-- The outcome of a command may also be told of the device before the answer it gives to another command first. -/
theorem State.gives_of_before {s : State} {i j : Instr} {c : CmdSpec} {e : Entry} {present : Bool} {body : Device → Reply}
    {P : Device → Reply → Prop} (status : Nat) (payload : List Byte) (t : Device) (hx : exec i s = s.command j c e present body)
    (h : P (s.dev.entered e)
      (Reply.before status payload t (Device.answer c e ((body (s.dev.entered e)).waking (c.wakes e))))) :
    s.gives i c e present P := by
  intro ht
  refine ⟨_, ?_, h⟩
  rw [State.answers, Device.answer_before]
  exact hx.trans (State.command_takes ht)

/-! ### LANE_TRAIN -/

/-- The parameters of training, before it starts (R173). -/
def Device.trainParams (d : Device) (l localP farP timeout : Nat) (precode : Bool) : Device :=
  let ix := lx l
  let d := (d.put R.LN_TRAIN_CTL_LOCAL_PRESET ix localP).put R.LN_TRAIN_CTL_FAR_PRESET ix farP
  let d := (d.setFlag R.LN_TRAIN_CTL_PRECODE_REQ ix precode).put R.LN_TRAIN_CTL_TIMEOUT ix timeout
  d.setFlag R.LN_TRAIN_CTL_AUTO ix true

section
variable (d : Device) (l localP farP timeout : Nat) (precode : Bool)

theorem Device.trainParams_rd {r : Reg} {jx : List Nat} (h : r.addr jx ≠ R.LN_TRAIN_CTL.addr (lx l)) :
    (d.trainParams l localP farP timeout precode).rd r jx = d.rd r jx := by
  simp only [Device.trainParams, Device.rd_setFlag_ne _ (f := R.LN_TRAIN_CTL_AUTO) _ h,
    Device.rd_put_ne _ (f := R.LN_TRAIN_CTL_TIMEOUT) _ h, Device.rd_setFlag_ne _ (f := R.LN_TRAIN_CTL_PRECODE_REQ) _ h,
    Device.rd_put_ne _ (f := R.LN_TRAIN_CTL_FAR_PRESET) _ h, Device.rd_put_ne _ (f := R.LN_TRAIN_CTL_LOCAL_PRESET) _ h]

theorem Device.trainParams_get {f : Fld} (h : f.reg.beside R.LN_TRAIN_CTL = true) :
    (d.trainParams l localP farP timeout precode).get f (lx l) = d.get f (lx l) :=
  Device.get_of_rd (d.trainParams_rd l _ _ _ _ (Reg.addr_ne_of_beside h _))

theorem Device.trainParams_lane : (d.trainParams l localP farP timeout precode).lane l = d.lane l := by
  simp only [Device.trainParams, Device.setFlag_lane, Device.put_lane]

theorem Device.trainParams_tt : (d.trainParams l localP farP timeout precode).tt = d.tt := by
  simp only [Device.trainParams, Device.setFlag_tt, Device.put_tt]

theorem Device.trainParams_training : (d.trainParams l localP farP timeout precode).training l = d.training l := by
  have h : (d.trainParams l localP farP timeout precode).trainState l = d.trainState l := d.trainParams_get l _ _ _ _ (by decide)
  simp only [Device.training, h]

theorem Device.trainParams_idle :
    (d.trainParams l localP farP timeout precode).flag R.LN_TX_TX_IDLE (lx l) = d.flag R.LN_TX_TX_IDLE (lx l) := by
  simp (disch := decide) only [Device.flag, Device.trainParams_get]

theorem Device.trainParams_txAdmitted (hl : l ≤ 15) :
    (d.trainParams l localP farP timeout precode).txAdmitted l = d.txAdmitted l := by
  have hn := d.trainParams_rd l localP farP timeout precode (netLn_addr_ne (q := R.LN_TRAIN_CTL) rfl (by decide) hl)
  simp (disch := decide) only [Device.txAdmitted, Device.flag, Device.trainParams_get, Device.get_of_rd (f := R.NET_LN_TX_EN) hn,
    Device.get_of_rd (f := R.NET_LN_SWING_MAX) hn]

theorem Device.trainParams_ctl (hlp : localP < 8) (hfp : farP < 8) :
    (d.trainParams l localP farP timeout precode).get R.LN_TRAIN_CTL_LOCAL_PRESET (lx l) = localP
    ∧ (d.trainParams l localP farP timeout precode).get R.LN_TRAIN_CTL_FAR_PRESET (lx l) = farP
    ∧ (d.trainParams l localP farP timeout precode).flag R.LN_TRAIN_CTL_PRECODE_REQ (lx l) = precode := by
  simp (disch := decide) only [Device.trainParams, Device.flag, Device.setFlag, Device.get_put_beside]
  refine ⟨?_, ?_, ?_⟩
  · exact Device.get_put_lt _ _ (by decide) (by decide) hlp
  · exact Device.get_put_lt _ _ (by decide) (by decide) hfp
  · exact Device.flag_setFlag_same _ _ _ _ (by decide) (by decide)

end

/-- What a parameter of 0 stands for. -/
def orDefault (v x : Nat) : Nat := if v = 0 then x else v

/-- The parameters that LANE_TRAIN sets. -/
def Device.trainAsked (d : Device) (e : Entry) (l : Nat) : Device :=
  d.trainParams l (orDefault (e.u 13 1) 1) (orDefault (e.u 14 1) 3) (orDefault (e.u 16 2) 500) (decide (e.u 15 1 = 0))

theorem Device.laneTrain_eq (d : Device) (e : Entry) (l : Nat) (hl : e.u 12 1 = l) (h15 : l ≤ 15) (h1 : e.u 13 1 ≤ 4)
    (h2 : e.u 14 1 ≤ 4) (h3 : e.u 15 1 ≤ 1) (hmay : d.mayLane e.via l = true)
    (hbusy : d.laneBusy l = false) (hen : d.flag R.NET_LN_TX_EN [l] = true) :
    d.laneTrain e = if ((d.trainAsked e l).trainStart l).trainState l = 5
      then { status := 0x0410, payload := ((d.trainAsked e l).trainStart l).trainReply l, dev := (d.trainAsked e l).trainStart l }
      else ((d.trainAsked e l).trainStart l).accepted [l] (((d.trainAsked e l).trainStart l).portOfLane l) := by
  subst hl
  rw [Device.laneTrain, if_neg (by omega), if_neg (by rw [hmay]; decide), if_neg (by rw [hbusy]; decide), if_neg (by rw [hen]; decide)]
  rfl

/-- The device after START on a lane whose output is on, or may be. -/
def Device.trainWaits (d : Device) (l : Nat) : Device :=
  (((d.trainArmed l).setFlag R.LN_TX_TX_IDLE (lx l) false).beginBurst l).showTx l

theorem Device.trainWaits_fields (d : Device) (l : Nat) :
    (d.trainWaits l).trainState l = 1 ∧ (d.trainWaits l).flag R.LN_TX_TX_IDLE (lx l) = false
    ∧ ((d.trainWaits l).lane l).trainStart = d.tt := by
  refine ⟨?_, ?_, ?_⟩
  · simp (disch := decide) only [Device.trainState, Device.trainWaits, Device.showTx_get, Device.beginBurst_get, Device.setFlag,
      Device.get_put_beside]
    exact d.trainArmed_state l
  · simp (disch := decide) only [Device.flag, Device.trainWaits, Device.showTx_get, Device.beginBurst_get]
    exact Device.flag_setFlag_same _ _ _ _ (by decide) (by decide)
  · simp only [Device.trainWaits, Device.showTx_lane, Device.beginBurst_lane, Device.setFlag_lane, (d.trainArmed_lane l).1]

/-- Training leaves its parameters. -/
theorem Device.trainWaits_ctl (d : Device) (l : Nat) {f : Fld} (h : f.reg = R.LN_TRAIN_CTL) :
    (d.trainWaits l).get f (lx l) = d.get f (lx l) := by
  have hst : f.reg.beside R.LN_STAT = true := by rw [h]; decide
  have htx : R.LN_TRAIN_CTL.addr (lx l) ≠ R.LN_TX.addr (lx l) := Reg.addr_ne_of_beside (by decide) _
  rw [Device.trainWaits, Device.showTx_get _ _ hst, Device.beginBurst_get _ _ hst,
    Device.get_of_rd (Device.rd_setFlag_ne _ (f := R.LN_TX_TX_IDLE) _ (h ▸ htx)),
    d.trainArmed_get l (by rw [h]; decide) (by rw [h]; decide) (by rw [h]; decide)]

/-! ### What each command gives -/

/-- The lane stands in the Net of the entered device as in that of the device. -/
theorem Device.entered_txAdmitted (d : Device) (e : Entry) (l : Nat) : (d.entered e).txAdmitted l = d.txAdmitted l := by
  simp only [Device.txAdmitted, Device.flag, Device.entered_get]

theorem Device.entered_flag (d : Device) (e : Entry) (f : Fld) (ix : List Nat) : (d.entered e).flag f ix = d.flag f ix := by
  simp only [Device.flag, Device.entered_get]

theorem Device.entered_lanePresent (d : Device) (e : Entry) (l : Nat) : (d.entered e).lanePresent l = d.lanePresent l := by
  simp only [Device.lanePresent, Device.entered_get]

/-- An eight-byte value stands in a register as it is. -/
theorem Entry.u_word (e : Entry) (off : Nat) : (BitVec.ofNat 64 (e.u off 8)).toNat = e.u off 8 := by
  have h := e.u_lt off 8
  rw [BitVec.toNat_ofNat, Nat.mod_eq_of_lt (by omega)]

section
variable {e : Entry} {l : Nat}

/-- LANE_TRAIN on a lane whose output is on, or may be: training waits for the far end. -/
theorem laneTrain_goes (hl : e.u 12 1 = l) (h15 : l ≤ 15) (h1 : e.u 13 1 ≤ 4) (h2 : e.u 14 1 ≤ 4) (h3 : e.u 15 1 ≤ 1)
    {d : Device} (hmay : d.mayLane e.via l = true) (hbusy : d.laneBusy l = false) (hen : d.flag R.NET_LN_TX_EN [l] = true)
    (htx : d.flag R.LN_TX_TX_IDLE (lx l) = false ∨ (d.txAdmitted l = true ∧ (d.lane l).cut = false)) :
    d.laneTrain e = ((d.trainAsked e l).trainWaits l).accepted [l] (((d.trainAsked e l).trainWaits l).portOfLane l) := by
  have hgo : (d.trainAsked e l).trainStart l = (d.trainAsked e l).trainWaits l := by
    refine Device.trainStart_goes _ l h15 ?_ ?_
    · rw [Device.trainAsked, Device.trainParams_training]
      exact Device.laneBusy_training hbusy
    · rw [Device.trainAsked, Device.trainParams_idle, Device.trainParams_txAdmitted _ _ _ _ _ _ h15, Device.trainParams_lane]
      exact htx
  rw [d.laneTrain_eq e l hl h15 h1 h2 h3 hmay hbusy hen, hgo, if_neg]
  rw [((d.trainAsked e l).trainWaits_fields l).1]
  decide

/-- LANE_TRAIN on an idle lane that may not transmit: training fails. -/
theorem laneTrain_noTx (hl : e.u 12 1 = l) (h15 : l ≤ 15) (h1 : e.u 13 1 ≤ 4) (h2 : e.u 14 1 ≤ 4) (h3 : e.u 15 1 ≤ 1)
    {d : Device} (hmay : d.mayLane e.via l = true) (hbusy : d.laneBusy l = false) (hen : d.flag R.NET_LN_TX_EN [l] = true)
    (hidle : d.flag R.LN_TX_TX_IDLE (lx l) = true) (htx : d.txAdmitted l = false ∨ (d.lane l).cut = true)
    (hw : (((d.trainAsked e l).trainArmed l).trainEnded l 5 5).working 0x0402 [l] = false) :
    d.laneTrain e = { status := 0x0410, payload := (((d.trainAsked e l).trainArmed l).trainEnded l 5 5).trainReply l,
                      dev := ((d.trainAsked e l).trainArmed l).trainEnded l 5 5 } := by
  have hfail : (d.trainAsked e l).trainStart l = ((d.trainAsked e l).trainArmed l).trainEnded l 5 5 := by
    rw [← Device.trainEnd_alone _ l 5 5 hw]
    refine Device.trainStart_fails _ l h15 ?_ ?_ ?_
    · rw [Device.trainAsked, Device.trainParams_training]
      exact Device.laneBusy_training hbusy
    · rw [Device.trainAsked, Device.trainParams_idle]
      exact hidle
    · rw [Device.trainAsked, Device.trainParams_txAdmitted _ _ _ _ _ _ h15, Device.trainParams_lane]
      exact htx
  rw [d.laneTrain_eq e l hl h15 h1 h2 h3 hmay hbusy hen, hfail, if_pos (Device.trainEnded_state _ l 5 5 (by decide))]

/-- LANE_IDLE with its second parameter 0. -/
theorem laneIdle_idles (hl : e.u 12 1 = l) (h15 : l ≤ 15) (h0 : e.u 13 1 = 0) {d : Device} (hmay : d.mayLane e.via l = true) :
    d.laneIdle e = ((d.txIdled l (R.LN_TX_TX_IDLE.into (d.rd R.LN_TX (lx l)) 1)).trainFail l 6).ok [] := by
  subst hl
  rw [Device.laneIdle, if_neg (by omega), if_neg (by rw [hmay]; decide), if_pos h0,
    Device.laneTxWrite_idle _ _ _ (txIdle_into_self _ (by decide))]

/-- LANE_IDLE with its second parameter 1, the transmitter being admitted. -/
theorem laneIdle_wakes (hl : e.u 12 1 = l) (h15 : l ≤ 15) (h1 : e.u 13 1 = 1) {d : Device} (hmay : d.mayLane e.via l = true)
    (htx : d.txAdmitted l = true) :
    d.laneIdle e = ((d.swingSet l (R.LN_TX_TX_IDLE.into (d.rd R.LN_TX (lx l)) 0)).wakeTx l).ok [] := by
  subst hl
  have hoff : R.LN_TX_TX_IDLE.of (R.LN_TX_TX_IDLE.into (d.rd R.LN_TX (lx (e.u 12 1))) 0) ≠ 1 := by
    rw [txIdle_into_self _ (by decide)]; decide
  rw [Device.laneIdle, if_neg (by omega), if_neg (by rw [hmay]; decide), if_neg (by omega), if_neg (by rw [htx]; decide),
    Device.laneTxWrite_wake _ _ _ hoff]

theorem laneLoop_writes (hl : e.u 12 1 = l) (h15 : l ≤ 15) (h3 : e.u 13 1 ≤ 3) {d : Device} (hmay : d.mayLane e.via l = true)
    (hbusy : d.laneBusy l = false) (htx : e.u 13 1 = 3 → d.txAdmitted l = true) :
    d.laneLoop e = (d.laneCtlWrite l (R.LN_CTL_LOOP.into (d.rd R.LN_CTL (lx l)) (e.u 13 1))).ok [] := by
  subst hl
  rw [Device.laneLoop, if_neg (by omega), if_neg (by rw [hmay]; decide), if_neg (by rw [hbusy]; decide), if_neg]
  rintro ⟨hloop, hno⟩
  rw [htx hloop] at hno
  exact absurd hno (by decide)

theorem laneAlign_starts (hl : e.u 12 1 = l) (h15 : l ≤ 15) (hc0 : e.u 13 1 ≠ 0) (hc : e.u 13 1 ≤ 15) (ho0 : e.u 14 1 ≠ 0)
    (ho : e.u 14 1 ≤ 15) (hp : e.u 32 2 ≠ 0) {d : Device} (hmay : d.mayLane e.via l = true) (hbusy : d.laneBusy l = false)
    (hlock : d.flag R.LN_STAT_CDR_LOCK (lx l) = true) :
    d.laneAlign e = (d.startSearch l (e.u 13 1) (e.u 14 1) (e.u 16 8) (e.u 24 8) (e.u 32 2)
      (if e.u 34 2 = 0 then 10000 else e.u 34 2)).accepted [l] (d.portOfLane l) := by
  subst hl
  rw [Device.laneAlign, if_neg (by omega), if_neg (by rw [hmay]; decide), if_neg (by rw [hbusy]; decide),
    if_neg (by rw [hlock]; decide)]

theorem laneHist_starts {d : Device} (hl : fieldAt (d.input e) 0 1 = l) (hin : e.inLen = 2) (hout : 264 ≤ e.outLen) (h15 : l ≤ 15)
    (hthere : d.lanePresent l = true) (hmay : d.mayLane e.via l = true) (hlock : d.flag R.LN_STAT_CDR_LOCK (lx l) = true) :
    d.laneHist e = (d.histFor l (fieldAt (d.input e) 1 1)).accepted [l] ((d.histFor l (fieldAt (d.input e) 1 1)).portOfLane l) := by
  subst hl
  rw [Device.laneHist, if_neg (by omega), if_neg (by omega), if_neg (by rw [hthere]; decide), if_neg (by rw [hmay]; decide),
    if_neg (by rw [hlock]; decide)]
  rfl

/-! What the operations leave that these commands carry out. -/

variable (d : Device)

theorem Device.txIdled_flags (v : Nat) :
    (d.txIdled l (R.LN_TX_TX_IDLE.into (d.rd R.LN_TX (lx l)) v)).flag R.LN_TX_TX_IDLE (lx l) = true
    ∧ (d.txIdled l (R.LN_TX_TX_IDLE.into (d.rd R.LN_TX (lx l)) v)).get R.LN_TX_SWING (lx l) = d.get R.LN_TX_SWING (lx l) := by
  obtain ⟨hswing, hidle⟩ := d.txIdled_tx l (R.LN_TX_TX_IDLE.into (d.rd R.LN_TX (lx l)) v)
  exact ⟨by rw [Device.flag, hidle]; rfl, hswing.trans (d.txIdle_into_swing l v)⟩

theorem Device.txWoken_flags (v : Nat) :
    ((d.swingSet l (R.LN_TX_TX_IDLE.into (d.rd R.LN_TX (lx l)) v)).wakeTx l).flag R.LN_TX_TX_IDLE (lx l) = false
    ∧ ((d.swingSet l (R.LN_TX_TX_IDLE.into (d.rd R.LN_TX (lx l)) v)).wakeTx l).get R.LN_TX_SWING (lx l)
      = d.get R.LN_TX_SWING (lx l) := by
  obtain ⟨hswing, hidle⟩ := (d.swingSet l (R.LN_TX_TX_IDLE.into (d.rd R.LN_TX (lx l)) v)).wakeTx_tx l
  exact ⟨by rw [Device.flag, hidle]; rfl, hswing.trans ((d.swingSet_swing l _).trans (d.txIdle_into_swing l v))⟩

/-- LN_CTL written back with another LOOP. -/
theorem Device.loopWrite_fields {v : Nat} (h : v ≤ 3) :
    (d.laneCtlWrite l (R.LN_CTL_LOOP.into (d.rd R.LN_CTL (lx l)) v)).get R.LN_CTL_LOOP (lx l) = v
    ∧ (d.laneCtlWrite l (R.LN_CTL_LOOP.into (d.rd R.LN_CTL (lx l)) v)).get R.LN_CTL_RATE (lx l) = d.get R.LN_CTL_RATE (lx l)
    ∧ (d.laneCtlWrite l (R.LN_CTL_LOOP.into (d.rd R.LN_CTL (lx l)) v)).get R.LN_CTL_RX_EN (lx l) = d.get R.LN_CTL_RX_EN (lx l) := by
  have hloop : R.LN_CTL_LOOP.of (R.LN_CTL_LOOP.into (d.rd R.LN_CTL (lx l)) v) = v :=
    (Fld.of_into_same _ _ _ (by decide)).trans (Nat.mod_eq_of_lt (show v < 8 by omega))
  have hrate : R.LN_CTL_RATE.of (R.LN_CTL_LOOP.into (d.rd R.LN_CTL (lx l)) v) = d.get R.LN_CTL_RATE (lx l) :=
    Fld.of_into_apart _ _ _ _ (by decide) (by decide)
  have hrx : R.LN_CTL_RX_EN.of (R.LN_CTL_LOOP.into (d.rd R.LN_CTL (lx l)) v) = d.get R.LN_CTL_RX_EN (lx l) :=
    Fld.of_into_apart _ _ _ _ (by decide) (by decide)
  refine ⟨(d.laneCtlWrite_loop l _ (by rw [hloop]; exact h)).trans hloop, ?_, (d.laneCtlWrite_rxEn l _).trans hrx⟩
  exact (d.laneCtlWrite_rate_kept l _ hrate).trans hrate

theorem Device.clearTotals_totals : ((d.clearTotals l).lane l).totCorr = 0 ∧ ((d.clearTotals l).lane l).totUncorr = 0
    ∧ ((d.clearTotals l).lane l).totSym = 0 := by
  simp only [Device.clearTotals, Device.setLane_same, and_self]

/-- Training that ends leaves LN_TX. -/
theorem Device.trainEnded_tx (st result : Nat) :
    (d.trainEnded l st result).flag R.LN_TX_TX_IDLE (lx l) = d.flag R.LN_TX_TX_IDLE (lx l)
    ∧ (d.trainEnded l st result).get R.LN_TX_SWING (lx l) = d.get R.LN_TX_SWING (lx l) := by
  simp (disch := decide) only [Device.flag, Device.trainEnded_get, and_self]

end

/-- Settles O42, command by command: each is taken down to the operation it carries out, and what that operation writes is read off
its own lemmas. Ending training answers a LANE_TRAIN that waits for it first; where one waits, the reply is told of the lane as
training leaves it, before that answer. -/
theorem laneCommands : Obligations.LaneCommands := by
  unfold Obligations.LaneCommands
  refine ⟨?_, ?_, ?_, ?_, ?_, ?_, ?_, ?_, ?_, ?_, ?_⟩
  · intro s e l hl h15
    refine State.gives_of (body := Device.laneQuery e) rfl fun _ => ?_
    rw [Device.laneQuery_eq _ e l hl h15]
    exact ⟨rfl, rfl, rfl⟩
  · intro s e l hl h15 hr hf hm hz hz2 hs ht ht2 hh ha hw hmay hbusy hmax
    refine State.gives_of (body := Device.laneConfig e) rfl fun _ => ?_
    rw [Device.laneConfig_eq _ e l hl h15 hr hf hm hz hz2 hs ht ht2 hh ha hw hmay hbusy (by rw [Device.entered_get]; exact hmax)]
    obtain ⟨hrate, hffe⟩ := (s.dev.entered e).rateTo_rate l (e.u 13 1) (Device.laneBusy_training hbusy) hr
    obtain ⟨h1, h2, h3, h4, h5⟩ := Device.laneSettings_fields _ e l hr hrate
    refine ⟨rfl, h1, h2, h3, h4, h5, ?_, Device.laneSettings_levels _ e l hs ht2 hh ha⟩
    exact (Device.laneSettings_ffe _ e l).trans (congrArg (Device.ffeAsked e) hffe)
  · intro s e l hl h15 h1 h2 h3 hmay hbusy hen htx
    refine State.gives_of (body := Device.laneTrain e) rfl fun _ => ?_
    rw [laneTrain_goes hl h15 h1 h2 h3 hmay hbusy (by rw [Device.entered_flag]; exact hen)
      (by rw [Device.entered_flag, Device.entered_txAdmitted]; exact htx)]
    obtain ⟨hst, hidle, hat⟩ := ((s.dev.entered e).trainAsked e l).trainWaits_fields l
    obtain ⟨hlp, hfp, hpre⟩ := (s.dev.entered e).trainParams_ctl l (orDefault (e.u 13 1) 1) (orDefault (e.u 14 1) 3)
      (orDefault (e.u 16 2) 500) (decide (e.u 15 1 = 0)) (by unfold orDefault; split <;> omega) (by unfold orDefault; split <;> omega)
    refine ⟨rfl, rfl, hst, hidle, hat.trans (Device.trainParams_tt _ _ _ _ _ _), ?_, ?_, ?_⟩
    · exact (Device.trainWaits_ctl _ l rfl).trans hlp
    · exact (Device.trainWaits_ctl _ l rfl).trans hfp
    · exact (congrArg (fun n => decide (n ≠ 0)) (Device.trainWaits_ctl _ l rfl)).trans hpre
  · intro s e l hl h15 h1 h2 h3 hmay hbusy hen hidle htx
    generalize ht : (((s.dev.entered e).trainAsked e l).trainArmed l).trainEnded l 5 5 = t
    have hst : t.trainState l = 5 := ht ▸ Device.trainEnded_state _ l 5 5 (by decide)
    by_cases hw : t.working 0x0402 [l] = false
    · refine State.gives_of (body := Device.laneTrain e) rfl fun _ => ?_
      rw [laneTrain_noTx hl h15 h1 h2 h3 hmay hbusy (by rw [Device.entered_flag]; exact hen) (by rw [Device.entered_flag]; exact hidle)
        (by rw [Device.entered_txAdmitted]; exact htx) (by rw [ht]; exact hw), ht]
      exact ⟨rfl, hst, rfl⟩
    · exact State.gives_of_before (body := Device.laneTrain e) 0x0410 (t.trainReply l) t rfl ⟨rfl, hst, rfl⟩
  · intro s e l hl h15 hc0 hc ho0 ho hp hmay hbusy hlock
    refine State.gives_of (body := Device.laneAlign e) rfl fun _ => ?_
    rw [laneAlign_starts hl h15 hc0 hc ho0 ho hp hmay hbusy (by rw [Device.entered_flag]; exact hlock)]
    generalize (if e.u 34 2 = 0 then 10000 else e.u 34 2) = us
    obtain ⟨hpat, hmask⟩ := (s.dev.entered e).startSearch_marker l (e.u 13 1) (e.u 14 1) (e.u 16 8) (e.u 24 8) (e.u 32 2) us
    obtain ⟨h1, h2, h3, h4⟩ := (s.dev.entered e).startSearch_settings l (e.u 13 1) (e.u 14 1) (e.u 16 8) (e.u 24 8) (e.u 32 2)
      us (by omega) (by omega) (by have h := e.u_lt 32 2; omega)
    exact ⟨rfl, rfl, (congrArg BitVec.toNat hpat).trans (e.u_word 16), (congrArg BitVec.toNat hmask).trans (e.u_word 24), h1, h2, h3, h4,
      Device.startSearch_found _ l _ _ _ _ _ us, Device.startSearch_search _ l _ _ _ _ _ us⟩
  · intro s e l hl h15 h0 hmay
    generalize ht : (s.dev.entered e).txIdled l (R.LN_TX_TX_IDLE.into ((s.dev.entered e).rd R.LN_TX (lx l)) 1) = t
    obtain ⟨hidle, hswing⟩ := (s.dev.entered e).txIdled_flags (l := l) 1
    rw [ht] at hidle hswing
    obtain ⟨heidle, heswing⟩ := t.trainEnded_tx (l := l) 5 6
    by_cases htr : t.training l = true ∧ (t.trainEnded l 5 6).working 0x0402 [l] = true
    · exact State.gives_of_before (body := Device.laneIdle e) stOK [] (t.trainEnded l 5 6) rfl
        ⟨rfl, heidle.trans hidle, heswing.trans hswing⟩
    · refine State.gives_of (body := Device.laneIdle e) rfl fun _ => ?_
      rw [laneIdle_idles hl h15 h0 hmay, ht]
      by_cases hrun : t.training l = true
      · rw [Device.trainFail, if_pos hrun, t.trainEnd_alone l 5 6 (Bool.eq_false_iff.mpr fun hw => htr ⟨hrun, hw⟩)]
        exact ⟨rfl, heidle.trans hidle, heswing.trans hswing⟩
      · rw [t.trainFail_idle l 6 (Bool.eq_false_iff.mpr hrun)]
        exact ⟨rfl, hidle, hswing⟩
  · intro s e l hl h15 h1 hmay htx
    refine State.gives_of (body := Device.laneIdle e) rfl fun _ => ?_
    rw [laneIdle_wakes hl h15 h1 hmay (by rw [Device.entered_txAdmitted]; exact htx)]
    exact ⟨rfl, (s.dev.entered e).txWoken_flags 0⟩
  · intro s e l hl h15 h3 hmay hbusy htx
    refine State.gives_of (body := Device.laneLoop e) rfl fun _ => ?_
    rw [laneLoop_writes hl h15 h3 hmay hbusy (fun h => by rw [Device.entered_txAdmitted]; exact htx h)]
    exact ⟨rfl, (s.dev.entered e).loopWrite_fields h3⟩
  · intro s e l hl h15 hp hf hmay hbusy
    refine State.gives_of (body := Device.lanePrbs e) rfl fun _ => ?_
    rw [Device.lanePrbs_eq _ e l hl h15 hp hf hmay hbusy]
    obtain ⟨hpoly, hgen, hchk, herr, htot⟩ := (s.dev.entered e).prbsSet_fields e l hp
    exact ⟨rfl, rfl, herr, hpoly, hgen, hchk, htot⟩
  · intro s e b l hb hl hin hout h15 hthere hmay hlock
    subst hb
    refine State.gives_of (body := Device.laneHist e) rfl fun _ => ?_
    rw [laneHist_starts hl hin hout h15 (by rw [Device.entered_lanePresent]; exact hthere) hmay
      (by rw [Device.entered_flag]; exact hlock)]
    exact ⟨rfl, rfl, Device.histFor_fields _ l _⟩
  · intro s e l hl h15 h1 hmay
    refine State.gives_of (body := Device.laneCounters e) rfl fun _ => ?_
    rw [Device.laneCounters_eq _ e l hl h15 h1 hmay]
    refine ⟨rfl, rfl, fun hc => ?_, ?_⟩
    · rw [if_pos hc]
      exact Device.clearTotals_totals _
    · refine Eq.trans ?_ ((s.dev.entered e).sampleLane_fecCw l)
      refine (Device.rd_ite _ _ _ _ _).trans ?_
      rw [Device.clearTotals, Device.rd_setLane, ite_self]

end Sys2Proof.Machine
end

section
/-! Scope: what an answer (R55, R302), PORT_LINK (R196, R202) and the port's state leave of LN_TRAIN_STAT on lane 0: they leave it as it
is, or show that they did not. -/

namespace Sys2Proof.Machine

/-! ### Registers that come after another in the map -/

/-- `r` lies after the first of `q`, whatever its index. -/
def Reg.before (q r : Reg) : Bool := decide (q.base < r.base)

theorem Reg.addr_ne_of_before {q r : Reg} {jx : List Nat} (h : q.before r = true) (hq : q.addr jx = q.base) (ix : List Nat) :
    r.addr ix ≠ q.addr jx := by
  simp only [Reg.before, decide_eq_true_eq] at h
  rw [hq, Reg.addr]
  omega

/-! ### What an operation leaves of lane 0 and port 0 -/

/-- LN_TRAIN_STAT of lane 0 shows `a`, port 0 is out of UP since `b`, the time is `c`, and the responses `o` are owed. -/
structure Device.Keeps (a : Word) (b c : TT) (o : List Response) (d : Device) : Prop where
  stat : d.rd R.LN_TRAIN_STAT [0, 0] = a
  since : (d.prtx 0).downSince = b
  now : d.tt = c
  owed : d.ctl.owed = o

namespace Device.Keeps
variable {a : Word} {b c : TT} {o : List Response} {d : Device} (h : d.Keeps a b c o)
include h

theorem wr {r : Reg} {ix : List Nat} {v : Word} (hr : R.LN_TRAIN_STAT.before r = true) : (d.wr r ix v).Keeps a b c o :=
  ⟨(d.rd_wr_ne v (Reg.addr_ne_of_before (jx := [0, 0]) hr (by decide) ix).symm).trans h.stat, h.since, h.now, h.owed⟩

theorem put {f : Fld} {ix : List Nat} {v : Nat} (hr : R.LN_TRAIN_STAT.before f.reg = true) : (d.put f ix v).Keeps a b c o := h.wr hr

theorem setFlag {f : Fld} {ix : List Nat} {v : Bool} (hr : R.LN_TRAIN_STAT.before f.reg = true) : (d.setFlag f ix v).Keeps a b c o :=
  h.wr hr

theorem bump {f : Fld} {ix : List Nat} (hr : R.LN_TRAIN_STAT.before f.reg = true) : (d.bump f ix).Keeps a b c o := h.wr hr

theorem setCtx {q : Nat} {x : QCtx} : (d.setCtx q x).Keeps a b c o := ⟨h.stat, h.since, h.now, h.owed⟩

theorem setLane {l : Nat} {x : LaneX} : (d.setLane l x).Keeps a b c o := ⟨h.stat, h.since, h.now, h.owed⟩

theorem hostWrite {n : Nat} {bs : List Byte} : (d.hostWrite n bs).Keeps a b c o := ⟨h.stat, h.since, h.now, h.owed⟩

theorem setMidway {m : MidwayX} : (d.setMidway m).Keeps a b c o := ⟨h.stat, h.since, h.now, h.owed⟩

theorem setLogger {x : LoggerX} : (d.setLogger x).Keeps a b c o := ⟨h.stat, h.since, h.now, h.owed⟩

theorem setPrt {x : PortX} (hx : x.downSince = (d.prtx 0).downSince) : (d.setPrt 0 x).Keeps a b c o :=
  ⟨h.stat, by rw [Device.setPrt_same]; exact hx.trans h.since, h.now, h.owed⟩

omit h in
theorem ite {p : Prop} [Decidable p] {x y : Device} (hx : x.Keeps a b c o) (hy : y.Keeps a b c o) :
    (if p then x else y).Keeps a b c o := by
  split
  · exact hx
  · exact hy

/-! The control channel of port 0, and the marker search. -/

theorem showCc : (d.showCc 0).Keeps a b c o :=
  List.foldlRecOn _ _ ((h.put (by decide)).put (by decide)) fun _ hd _ _ => hd.wr (by decide)

theorem dealBlock {control : Bool} {bs : List Byte} : (d.dealBlock 0 control bs).Keeps a b c o := (h.setPrt (by rfl)).setLane.setPrt (by rfl)

theorem ccDrain : (d.ccDrain 0).Keeps a b c o := by
  unfold Device.ccDrain
  refine ite h (showCc ?_)
  exact List.foldlRecOn _ _ (h.setPrt (by rfl)) fun _ hd _ _ => hd.dealBlock

theorem ccQueue {bs : List Byte} : (d.ccQueue 0 bs).Keeps a b c o := by
  unfold Device.ccQueue
  exact ite h (h.setPrt (by rfl)).showCc.ccDrain

theorem ccIssue : (d.ccIssue 0).Keeps a b c o := by
  unfold Device.ccIssue
  split
  · exact ite h (h.setPrt (by rfl)).ccQueue
  · exact h

theorem ccRequest {op len addr purpose : Nat} {data : List Byte} : (d.ccRequest 0 op len addr purpose data).Keeps a b c o :=
  (h.setPrt (by rfl)).ccIssue

theorem clearFound {l : Nat} : (d.clearFound l).Keeps a b c o := (h.setFlag (by decide)).setLane

theorem linkSearch {l : Nat} : (d.linkSearch l).Keeps a b c o := by
  unfold Device.linkSearch Device.startSearch
  exact (((((((h.wr (by decide)).wr (by decide)).put (by decide)).put (by decide)).put (by decide)).setFlag (by decide)).clearFound).setLane

/-! Events and the fault logger. -/

theorem firingMarks {n : Nat} : (d.firingMarks n).Keeps a b c o := by
  unfold Device.firingMarks
  extract_lets d1 d2
  have h1 : d1.Keeps a b c o := h.bump (by decide)
  have h2 : d2.Keeps a b c o := ite (h1.wr (by decide)) h1
  exact ite (h2.setFlag (by decide)) h2

theorem fire {n : Nat} : (d.fire n).Keeps a b c o := by
  unfold Device.fire Device.fireStamped
  exact ite (h.bump (by decide)) h.setMidway.firingMarks

theorem logRecord {r : LogRec} : (d.logRecord r).Keeps a b c o := by
  unfold Device.logRecord
  exact ite (h.setLogger.setFlag (by decide)).fire (ite (h.setLogger.setFlag (by decide)).fire h.setLogger)

theorem showStorm : d.showStorm.Keeps a b c o := h.put (by decide)

/-! Appends that go into the ring or are dropped. -/

theorem dropEvent {q : Nat} : (d.dropEvent q).Keeps a b c o := h.setCtx

theorem touch {q : Nat} : (d.touch q).Keeps a b c o := by
  have hc : ∀ cs : List Nat, ({ d with dlv := { d.dlv with cache := cs } } : Device).Keeps a b c o := fun _ =>
    ⟨h.stat, h.since, h.now, h.owed⟩
  unfold Device.touch
  exact ite ((hc _).bump (by decide)) (((hc _).bump (by decide)).put (by decide))

theorem message {v : Nat} : (d.message v).Keeps a b c o := by
  have hh : ∀ (d : Device) (x : HostX), d.Keeps a b c o → ({ d with hst := x } : Device).Keeps a b c o := fun _ _ h =>
    ⟨h.stat, h.since, h.now, h.owed⟩
  unfold Device.message
  exact ite (hh _ _ h) (hh _ _ h.hostWrite)

theorem signalIfDue {q : Nat} : (d.signalIfDue q).Keeps a b c o := by
  unfold Device.signalIfDue Device.signal
  exact ite (ite h.setCtx h.setCtx.message) h

theorem writeBack {q : Nat} : (d.writeBack q).Keeps a b c o := by
  unfold Device.writeBack
  exact ite h h.hostWrite

theorem putEntry {q : Nat} {bs : List Byte} : (d.putEntry q bs).Keeps a b c o := h.hostWrite.setCtx.writeBack.signalIfDue

theorem errorMark {q err : Nat} : (d.errorMark q err).Keeps a b c o := (h.setCtx.put (by decide)).bump (by decide)

end Device.Keeps

/-! ### Responses -/

/-- The device is as it was there, or a device fault has lost every answer. -/
def Device.KeepsOrLost (a : Word) (b c : TT) (o : List Response) (d : Device) : Prop := d.Keeps a b c o ∨ d.ctl.owed = []

theorem Device.deviceFault_owed (d : Device) (reason : Nat) (cut : Bool) : (d.deviceFault reason cut).ctl.owed = [] := by
  rw [Device.deviceFault_eq, Device.fire_ctl]
  refine List.foldlRecOn (motive := fun d : Device => d.ctl.owed = []) _ _ rfl fun d hd b _ => ?_
  split
  · exact hd
  · exact hd

namespace Device.KeepsOrLost
variable {a : Word} {b c : TT} {o : List Response} {d : Device}

/-- A violation is shown and logged, or brings on a device fault. -/
theorem violation_of {booth reason addr value source : Nat} (h : d.Keeps a b c o) :
    (d.violation booth reason addr value source).KeepsOrLost a b c o := by
  unfold Device.violation
  extract_lets d1 off d2 d3 d4 storm x d5
  have h4 : d4.Keeps a b c o := (((h.bump (by decide)).put (by decide)).put (by decide)).logRecord
  have h5 : d5.Keeps a b c o := h4.setLogger.showStorm
  split
  · exact Or.inl h4
  · split
    · split
      · exact Or.inr (d5.deviceFault_owed _ _)
      · exact Or.inl h5
    · exact Or.inl h5

theorem ite {p : Prop} [Decidable p] {x y : Device} (hx : x.KeepsOrLost a b c o) (hy : y.KeepsOrLost a b c o) :
    (if p then x else y).KeepsOrLost a b c o := by
  split
  · exact hx
  · exact hy

theorem setCtx {q : Nat} {x : QCtx} (h : d.KeepsOrLost a b c o) : (d.setCtx q x).KeepsOrLost a b c o := h.imp (fun h => h.setCtx) id

theorem appendRaw_of {q : Nat} {bs : List Byte} (h : d.Keeps a b c o) : (d.appendRaw q bs).2.KeepsOrLost a b c o := by
  unfold Device.appendRaw
  extract_lets d1 cx
  have h1 : d1.Keeps a b c o := h.touch
  have hv : ∀ n v, ((d1.errorMark q 1).violation 8 1 n v (6 * 4096)).KeepsOrLost a b c o := fun _ _ => violation_of h1.errorMark
  split_ifs
  · exact Or.inl h1.dropEvent
  · exact Or.inl h1
  · exact Or.inl h1.dropEvent
  · exact Or.inl h1
  · exact Or.inl ⟨h1.stat, h1.since, h1.now, h1.owed⟩
  · exact Or.inl h1.putEntry
  · exact (hv _ _).setCtx
  · exact hv _ _

/-- What leaves such a device so, and an empty list of answers empty, leaves either. -/
theorem bind {t : Device} (h : d.KeepsOrLost a b c o) (hk : d.Keeps a b c o → t.KeepsOrLost a b c o)
    (hl : d.ctl.owed = [] → t.ctl.owed = []) : t.KeepsOrLost a b c o := h.elim hk fun h0 => Or.inr (hl h0)

end Device.KeepsOrLost

/-- An append loses every answer, or leaves the answers owed. -/
theorem Device.appendRaw_owed (d : Device) (q : Nat) (bs : List Byte) :
    (d.appendRaw q bs).2.ctl.owed = d.ctl.owed ∨ (d.appendRaw q bs).2.ctl.owed = [] :=
  (Device.KeepsOrLost.appendRaw_of ⟨rfl, rfl, rfl, rfl⟩).imp (fun h => h.owed) id

theorem Device.KeepsOrLost.appendRaw {a : Word} {b c : TT} {o : List Response} {d : Device} {q : Nat} {bs : List Byte}
    (h : d.KeepsOrLost a b c o) : (d.appendRaw q bs).2.KeepsOrLost a b c o := by
  refine h.bind Device.KeepsOrLost.appendRaw_of fun h0 => ?_
  rcases d.appendRaw_owed q bs with hs | hs
  · exact hs.trans h0
  · exact hs

theorem Device.KeepsOrLost.appendEvent {a : Word} {b c : TT} {o : List Response} {d : Device} {q type source : Nat} {data : List Byte}
    (h : d.KeepsOrLost a b c o) : (d.appendEvent q type source data).KeepsOrLost a b c o := by
  unfold Device.appendEvent
  have hr := h.appendRaw (q := q) (bs := d.eventBytes q type source data)
  refine ite h ?_
  split
  · next e => rw [e] at hr; exact hr.setCtx
  · next e => rw [e] at hr; exact hr.setCtx
  · next e => rw [e] at hr; exact hr

theorem Device.KeepsOrLost.append_of {a : Word} {b c : TT} {o : List Response} {d : Device} {q kind : Nat} {bs : List Byte}
    (h : d.Keeps a b c o) : (d.append q kind bs).2.KeepsOrLost a b c o := by
  have hr := Device.KeepsOrLost.appendRaw_of (q := q) (bs := bs) h
  unfold Device.append Device.appendTold
  split
  · exact Or.inl h
  · split
    · next e =>
      rw [e] at hr
      split
      · exact hr.appendEvent
      · exact hr
    · exact hr

theorem Device.append_owed (d : Device) (q kind : Nat) (bs : List Byte) :
    (d.append q kind bs).2.ctl.owed = d.ctl.owed ∨ (d.append q kind bs).2.ctl.owed = [] :=
  (Device.KeepsOrLost.append_of ⟨rfl, rfl, rfl, rfl⟩).imp (fun h => h.owed) id

/-! ### The answers that PORT_LINK gives as it ends -/

/-- The device is as it was there, or what it owes are answers of PORT_LINK alone. -/
def Device.KeepsOrLinks (a : Word) (b c : TT) (d : Device) : Prop :=
  (∃ o, d.Keeps a b c o) ∨ ∀ r ∈ d.ctl.owed, r.opcode = 0x0503

theorem Device.KeepsOrLinks.deliver {a : Word} {b c : TT} {d : Device} {r : Response} (hr : r.opcode = 0x0503)
    (h : d.KeepsOrLinks a b c) : (d.deliver r).KeepsOrLinks a b c := by
  have howe : ∀ t : Device, t.KeepsOrLinks a b c → (t.owe r).KeepsOrLinks a b c := by
    rintro t (⟨o, ht⟩ | ht)
    · exact Or.inl ⟨o ++ [r], ht.stat, ht.since, ht.now, congrArg (· ++ [r]) ht.owed⟩
    · refine Or.inr fun x hx => ?_
      rcases List.mem_append.mp hx with hx | hx
      · exact ht x hx
      · rw [List.mem_singleton.mp hx, hr]
  have happ : ∀ q kind bs, (d.append q kind bs).2.KeepsOrLinks a b c := by
    intro q kind bs
    rcases h with ⟨o, h⟩ | h
    · rcases Device.KeepsOrLost.append_of (q := q) (kind := kind) (bs := bs) h with hk | hl
      · exact Or.inl ⟨o, hk⟩
      · exact Or.inr fun x hx => by rw [hl] at hx; exact absurd hx List.not_mem_nil
    · refine Or.inr fun x hx => ?_
      rcases d.append_owed q kind bs with hk | hl
      · exact h x (hk ▸ hx)
      · rw [hl] at hx; exact absurd hx List.not_mem_nil
  unfold Device.deliver
  split
  · have ha := happ (2 * r.box + 1) 2 (r.bytes d)
    split
    · next e => rw [e] at ha; exact ha
    · next e => rw [e] at ha; exact ha
    · next e => rw [e] at ha; exact howe _ ha
  · exact howe _ h

theorem Device.KeepsOrLinks.finishWork {a : Word} {b c : TT} {d : Device} {w : Work} {status : Nat} {payload : List Byte}
    (hw : w.opcode = 0x0503) (h : d.KeepsOrLinks a b c) : (d.finishWork w status payload).KeepsOrLinks a b c := by
  have hdrop : (d.dropWork w).KeepsOrLinks a b c := h.imp (fun ⟨o, h⟩ => ⟨o, h.stat, h.since, h.now, h.owed⟩) id
  unfold Device.finishWork Device.respond
  split
  · exact hdrop.imp (fun ⟨o, h⟩ => ⟨o, h.stat, h.since, h.now, h.owed⟩) id
  · exact hdrop.deliver hw

theorem Device.KeepsOrLinks.finish {a : Word} {b c : TT} {d : Device} {key : List Nat} {status : Nat} {payload : List Byte}
    (h : d.KeepsOrLinks a b c) : (d.finish 0x0503 key status payload).KeepsOrLinks a b c := by
  refine List.foldlRecOn _ _ h fun t ht w hw => ht.finishWork ?_
  have hm := (List.mem_filter.mp hw).2
  simp only [Bool.and_eq_true, decide_eq_true_eq] at hm
  exact hm.1.1

/-- PORT_LINK going on leaves LN_TRAIN_STAT of lane 0, or ends and leaves only its own answers owed. -/
theorem Device.KeepsOrLinks.linkPoll {a : Word} {b c : TT} {o : List Response} {d : Device} (h : d.Keeps a b c o) :
    (d.linkPoll 0).KeepsOrLinks a b c := by
  have hdone : ∀ status, (d.linkDone 0 status).KeepsOrLinks a b c := fun _ => KeepsOrLinks.finish (Or.inl ⟨o, h.setPrt rfl⟩)
  have hkeep : ∀ t : Device, t.Keeps a b c o → t.KeepsOrLinks a b c := fun _ ht => Or.inl ⟨o, ht⟩
  unfold Device.linkPoll
  split
  · exact hkeep _ h
  · extract_lets ls vxl
    split_ifs
    · exact hdone _
    · exact hdone _
    · exact hkeep _ (Device.Keeps.setPrt (List.foldlRecOn _ _ h fun _ hd _ _ => hd.linkSearch) rfl)
    · exact hkeep _ h
    · exact hdone _
    · exact hkeep _ h
    · exact hkeep _ (h.setPrt (by rfl)).ccRequest
    · exact hdone _
    · exact hkeep _ h

/-! ### The port's state following its lanes -/

/-- The ports' and the time base's own state are those of `d`. -/
def Device.SameUnits (d t : Device) : Prop := t.prt = d.prt ∧ t.tim = d.tim

namespace Device.SameUnits
variable {d t : Device} (h : d.SameUnits t)
include h

theorem wr {r : Reg} {ix : List Nat} {v : Word} : d.SameUnits (t.wr r ix v) := ⟨(t.wr_prt _ _ _).trans h.1, (t.wr_tim _ _ _).trans h.2⟩

theorem put {f : Fld} {ix : List Nat} {v : Nat} : d.SameUnits (t.put f ix v) := h.wr

theorem setFlag {f : Fld} {ix : List Nat} {v : Bool} : d.SameUnits (t.setFlag f ix v) := h.wr

theorem showCurtain : d.SameUnits t.showCurtain := by
  unfold Device.showCurtain
  exact h.wr.put.put.put.put

theorem apply {w : MaskedWrite} : d.SameUnits (t.apply w) := by
  unfold Device.apply
  split
  · exact h.wr
  · exact h

theorem refreshApplied : d.SameUnits t.refreshApplied := by
  refine List.foldlRecOn _ _ h.showCurtain fun t ht n _ => ?_
  split
  · exact ht.setFlag
  · exact ht

/-- Whatever is applied of the writes that are pending, the units' own state stays. -/
theorem settle {sel : PendWrite → Bool} : d.SameUnits (t.settle sel) := by
  unfold Device.settle
  refine refreshApplied (List.foldlRecOn _ _ (List.foldlRecOn _ _ ⟨h.1, h.2⟩ fun t ht w _ => ?_) fun t ht w _ => ?_)
  · exact ht.apply
  · exact ht.put

theorem prtx {p : Nat} : t.prtx p = d.prtx p := congrArg (fun u => (u.booths.get {} p).port) h.1

theorem tt : t.tt = d.tt := congrArg (fun u => u.time.acc.extractLsb' 16 64) h.2

end Device.SameUnits

theorem Device.setPrt_tt (d : Device) (p : Nat) (x : PortX) : (d.setPrt p x).tt = d.tt := rfl

/-- A port that goes out of UP now shows it, whatever is then applied of the writes that are pending. -/
theorem Device.downNow_settle (d : Device) (sel : PendWrite → Bool) (x : PortX) (hx : x.downSince = d.tt) :
    (((d.setPrt 0 x).settle sel).prtx 0).downSince = ((d.setPrt 0 x).settle sel).tt := by
  have hs : (d.setPrt 0 x).SameUnits ((d.setPrt 0 x).settle sel) := Device.SameUnits.settle ⟨rfl, rfl⟩
  rw [hs.prtx, hs.tt, Device.setPrt_same, Device.setPrt_tt, hx]

/-- A change of the port's state leaves LN_TRAIN_STAT of lane 0, or the port has just gone out of UP. -/
theorem Device.setLink_stat (d : Device) (st : Nat) : (d.setLink 0 st).rd R.LN_TRAIN_STAT [0, 0] = d.rd R.LN_TRAIN_STAT [0, 0]
    ∨ (d.pstate 0 = 4 ∧ ((d.setLink 0 st).prtx 0).downSince = (d.setLink 0 st).tt) := by
  have hk : d.Keeps (d.rd R.LN_TRAIN_STAT [0, 0]) (d.prtx 0).downSince d.tt d.ctl.owed := ⟨rfl, rfl, rfl, rfl⟩
  unfold Device.setLink
  extract_lets old d1 d2 d3 d4
  have h1 : d1.Keeps _ _ _ _ := hk.put (by decide)
  have h2 : d2.Keeps _ _ _ _ := Device.Keeps.ite (h1.setFlag (by decide)) h1
  have h3 : d3.Keeps _ _ _ _ := Device.Keeps.ite (h2.put (by decide)) h2
  clear_value d4
  split
  · exact Or.inl h1.stat
  · split
    · next hold => exact Or.inr ⟨hold, d4.downNow_settle _ _ rfl⟩
    · exact Or.inl h3.stat

/-- So does what a lane event leads to at its port, before PORT_LINK. -/
theorem Device.linkEval_stat (d : Device) : (d.linkEval 0).rd R.LN_TRAIN_STAT [0, 0] = d.rd R.LN_TRAIN_STAT [0, 0]
    ∨ ((d.linkEval 0).prtx 0).downSince = (d.linkEval 0).tt := by
  have hset : ∀ (t : Device) st, t.rd R.LN_TRAIN_STAT [0, 0] = d.rd R.LN_TRAIN_STAT [0, 0] →
      (t.setLink 0 st).rd R.LN_TRAIN_STAT [0, 0] = d.rd R.LN_TRAIN_STAT [0, 0]
      ∨ ((t.setLink 0 st).prtx 0).downSince = (t.setLink 0 st).tt := fun t st ht =>
    (t.setLink_stat st).imp (fun h => h.trans ht) (fun h => h.2)
  unfold Device.linkEval
  extract_lets m d1 st d2
  have h1 : d1.rd R.LN_TRAIN_STAT [0, 0] = d.rd R.LN_TRAIN_STAT [0, 0] := by
    unfold d1
    split
    · next h0 => exact (d.setLink_stat 1).resolve_right fun h4 => absurd (h0.symm.trans h4.1) (by decide)
    · rfl
  have h2 : d2.rd R.LN_TRAIN_STAT [0, 0] = d.rd R.LN_TRAIN_STAT [0, 0] :=
    List.foldlRecOn (motive := fun t : Device => t.rd R.LN_TRAIN_STAT [0, 0] = d.rd R.LN_TRAIN_STAT [0, 0]) _ _ h1 fun _ ht _ _ => ht
  split_ifs
  · exact hset _ _ rfl
  · exact hset _ _ h1
  · exact hset _ _ h2
  · exact Or.inl h1
  · exact hset _ _ h1
  · exact hset _ _ h1
  · exact Or.inl h1
  · exact hset _ _ h1
  · exact hset _ _ h1

end Sys2Proof.Machine
end

section
/-! Scope: what a device fault (R137) does where one write of LN_TRAIN_STAT stands pending: every part of it leaves lane 0 and port 0
alone but Curtain's, which applies the write (R119). -/

namespace Sys2Proof.Machine

/-! ### What firmware leaves as it has served -/

/-- Mailbox 255 is closed, all its commands are answered, and its command queue is still open. -/
structure Device.Unreleased (d : Device) : Prop where
  closed : (d.mbox 255).isOpen = false
  queue : (d.ctx 510).kind = 1
  idle : d.ctl.works = []
  answered : d.owes 255 = false

/-- Firmware gives the queues of such a mailbox back. -/
theorem Device.releaseQueues_releases (d : Device) : ¬ d.releaseQueues.Unreleased := by
  rw [Device.releaseQueues, List.range_succ, List.foldl_append]
  generalize (List.range 255).foldl _ d = t
  intro h
  simp only [List.foldl_cons, List.foldl_nil] at h
  split at h
  · have hq : ((((t.setCtx 510 {}).setCtx 511 {}).disown (.queue 510)).ctx 510).kind = 0 := by
      simp [Device.ctx, Device.setCtx, Device.disown, Sparse.get_put_ne]
    exact absurd (hq.symm.trans h.queue) (by decide)
  · next hc =>
    refine hc ⟨by decide, by rw [h.closed]; rfl, h.queue, ?_, by rw [h.answered]; rfl⟩
    rw [h.idle]
    rfl

/-- Where such a mailbox stands, firmware has not served. -/
theorem Device.serve_unserved {d : Device} (h : d.serve.Unreleased) : d.serve = d := by
  by_cases hr : d.fwRuns = true
  · rw [Device.serve, if_pos hr] at h
    exact absurd h (Device.releaseQueues_releases _)
  · rw [Device.serve, if_neg hr]

/-- So the device is as the command left it. -/
theorem State.settle_unserved {s : State} (hw : s.waiting = []) (h : s.settle.dev.Unreleased) : s.settle.dev = s.dev := by
  by_cases hr : s.dev.sec.inReset = true
  · rw [State.settle_held s hr]
  · rw [State.settle_nothing_waits (Bool.eq_false_iff.mpr hr) hw] at h ⊢
    exact Device.serve_unserved h

/-! ### A device fault and lane 0 -/

/-- LN_TRAIN_STAT.RESULT of lane 0 is `n`; port 0 is disabled, out of UP since the time 0 and without a PORT_LINK; the time is 1;
no command runs, and none stalls; the responses `o` are owed; Q510 is open for commands and Q1 closed; the writes `ps` are pending; the
Ringmaster is halted over JTAG. -/
structure Device.Struck (n : Nat) (o : List Response) (ps : List PendWrite) (d : Device) : Prop where
  result : d.get R.LN_TRAIN_STAT_RESULT [0, 0] = n
  off : d.get R.PP_CTL_ENABLE [0] = 0
  down : d.get R.PP_STAT_STATE [0] = 0
  link : (d.prtx 0).link = none
  since : (d.prtx 0).downSince = 0
  now : d.tt = 1
  idle : d.ctl.works = []
  owed : d.ctl.owed = o
  free : d.hst.stalled = []
  queue : (d.ctx 510).kind = 1 ∧ (d.ctx 1).kind = 0
  pend : d.ctl.pend = ps
  halted : d.sec.jtagHalted = true

/-- A register beyond PP_STAT of port 0 is none of those above. -/
theorem Reg.before_lane0 {r : Reg} (h : R.PP_STAT.before r = true) (ix : List Nat) :
    R.LN_TRAIN_STAT.addr [0, 0] ≠ r.addr ix ∧ R.PP_CTL.addr [0] ≠ r.addr ix ∧ R.PP_STAT.addr [0] ≠ r.addr ix := by
  simp only [Reg.before, decide_eq_true_eq] at h
  have h1 : R.LN_TRAIN_STAT.addr [0, 0] < R.PP_STAT.base := by decide
  have h2 : R.PP_CTL.addr [0] < R.PP_STAT.base := by decide
  have h3 : R.PP_STAT.addr [0] = R.PP_STAT.base := by decide
  simp only [Reg.addr] at h1 h2 h3 ⊢
  omega

namespace Device.Struck
variable {n : Nat} {o : List Response} {ps : List PendWrite} {d : Device} (h : d.Struck n o ps)
include h

theorem wrNe {r : Reg} {ix : List Nat} {v : Word} (h1 : R.LN_TRAIN_STAT.addr [0, 0] ≠ r.addr ix) (h2 : R.PP_CTL.addr [0] ≠ r.addr ix)
    (h3 : R.PP_STAT.addr [0] ≠ r.addr ix) : (d.wr r ix v).Struck n o ps :=
  ⟨(d.get_wr_ne v h1).trans h.result, (d.get_wr_ne v h2).trans h.off, (d.get_wr_ne v h3).trans h.down, h.link, h.since, h.now, h.idle,
    h.owed, h.free, h.queue, h.pend, h.halted⟩

theorem wr {r : Reg} {ix : List Nat} {v : Word} (hr : R.PP_STAT.before r = true) : (d.wr r ix v).Struck n o ps :=
  h.wrNe (Reg.before_lane0 hr ix).1 (Reg.before_lane0 hr ix).2.1 (Reg.before_lane0 hr ix).2.2

theorem put {f : Fld} {ix : List Nat} {v : Nat} (hr : R.PP_STAT.before f.reg = true) : (d.put f ix v).Struck n o ps := h.wr hr

theorem setFlag {f : Fld} {ix : List Nat} {v : Bool} (hr : R.PP_STAT.before f.reg = true) : (d.setFlag f ix v).Struck n o ps := h.wr hr

theorem bump {f : Fld} {ix : List Nat} (hr : R.PP_STAT.before f.reg = true) : (d.bump f ix).Struck n o ps := h.wr hr

/-- A booth's state is shown in a register of its own. -/
theorem putBooth {f : Fld} {b v : Nat} (hf : f.reg = R.BOOTH_STATE) : (d.put f [b] v).Struck n o ps := by
  have hb : R.BOOTH_STATE.addr [b] = 0x1000008 + (0x1000000 * b + 0) := rfl
  have h1 : R.LN_TRAIN_STAT.addr [0, 0] = 0x1100030 := by decide
  have h2 : R.PP_CTL.addr [0] = 0x1300000 := by decide
  have h3 : R.PP_STAT.addr [0] = 0x1300008 := by decide
  refine h.wrNe ?_ ?_ ?_ <;> rw [hf, hb] <;> omega

/-- The writes and answers of `d`, and its works, stand in another control state. -/
theorem setCtl {c : ControlX} (hw : c.works = d.ctl.works) (ho : c.owed = d.ctl.owed)
    (hp : c.pend = d.ctl.pend) : (d.setCtl c).Struck n o ps :=
  ⟨h.result, h.off, h.down, h.link, h.since, h.now, hw.trans h.idle, ho.trans h.owed, h.free, h.queue, hp.trans h.pend, h.halted⟩

theorem setBth {p : Nat} {x : BoothX} (hl : x.port.link = none ∨ x.port.link = (d.prtx p).link)
    (hs : x.port.downSince = (d.prtx p).downSince) : (d.setBth p x).Struck n o ps := by
  have hp : ((d.setBth p x).prtx 0).link = none ∧ ((d.setBth p x).prtx 0).downSince = 0 := by
    by_cases h0 : p = 0
    · subst h0
      have hx : (d.setBth 0 x).prtx 0 = x.port := by simp [Device.prtx, Device.setBth, Device.bth]
      rw [hx]
      exact ⟨hl.elim id fun hl => hl.trans h.link, hs.trans h.since⟩
    · have hx : (d.setBth p x).prtx 0 = d.prtx 0 := by simp [Device.prtx, Device.setBth, Device.bth, Sparse.get_put_ne _ _ _ (Ne.symm h0)]
      rw [hx]
      exact ⟨h.link, h.since⟩
  exact ⟨h.result, h.off, h.down, hp.1, hp.2, h.now, h.idle, h.owed, h.free, h.queue, h.pend, h.halted⟩

theorem setPrt {p : Nat} {x : PortX} (hl : x.link = none ∨ x.link = (d.prtx p).link)
    (hs : x.downSince = (d.prtx p).downSince) : (d.setPrt p x).Struck n o ps := h.setBth hl hs

theorem setTim {x : TimingX} (ht : x.time.acc = d.tim.time.acc) : ({ d with tim := x } : Device).Struck n o ps :=
  ⟨h.result, h.off, h.down, h.link, h.since, (congrArg (fun a => a.extractLsb' 16 64) ht).trans h.now, h.idle, h.owed, h.free, h.queue,
    h.pend, h.halted⟩

theorem setMot {x : MotionX} : ({ d with mot := x } : Device).Struck n o ps :=
  ⟨h.result, h.off, h.down, h.link, h.since, h.now, h.idle, h.owed, h.free, h.queue, h.pend, h.halted⟩

theorem setPow {x : PowerX} : ({ d with pow := x } : Device).Struck n o ps :=
  ⟨h.result, h.off, h.down, h.link, h.since, h.now, h.idle, h.owed, h.free, h.queue, h.pend, h.halted⟩

theorem setSec {x : SecX} (hx : x.jtagHalted = true) : ({ d with sec := x } : Device).Struck n o ps :=
  ⟨h.result, h.off, h.down, h.link, h.since, h.now, h.idle, h.owed, h.free, h.queue, h.pend, hx⟩

theorem setHbm {x : Sparse Byte} : ({ d with hbm := x } : Device).Struck n o ps :=
  ⟨h.result, h.off, h.down, h.link, h.since, h.now, h.idle, h.owed, h.free, h.queue, h.pend, h.halted⟩

theorem setChan {e c : Nat} {x : DmaX} : (d.setChan e c x).Struck n o ps :=
  ⟨h.result, h.off, h.down, h.link, h.since, h.now, h.idle, h.owed, h.free, h.queue, h.pend, h.halted⟩

omit h in
theorem ite {p : Prop} [Decidable p] {x y : Device} (hx : x.Struck n o ps) (hy : y.Struck n o ps) : (if p then x else y).Struck n o ps := by
  split
  · exact hx
  · exact hy

/-! Events, the fault logger and the bootstrap mailboxes. -/

theorem firingMarks {c : Nat} : (d.firingMarks c).Struck n o ps := by
  unfold Device.firingMarks
  extract_lets d1 d2
  have h1 : d1.Struck n o ps := h.bump (by decide)
  have h2 : d2.Struck n o ps := ite (h1.wr (by decide)) h1
  exact ite (h2.setFlag (by decide)) h2

theorem fire {c : Nat} : (d.fire c).Struck n o ps := by
  unfold Device.fire Device.fireStamped
  exact ite (h.bump (by decide)) (h.setTim (by rfl)).firingMarks

theorem fireIf {en sel : Fld} {ix : List Nat} : (d.fireIf en sel ix).Struck n o ps := by
  unfold Device.fireIf
  exact ite h.fire h

theorem showStorm : d.showStorm.Struck n o ps := h.put (by decide)

theorem faultLogged {reason : Nat} {cut : Bool} : (d.faultLogged reason cut).Struck n o ps := by
  unfold Device.faultLogged Device.repeatFault
  refine ite ?_ (h.setCtl (by rfl) (by rfl) (by rfl))
  split
  · exact h.setCtl (by rfl) (by rfl) (by rfl)
  · exact h.bump (by decide)

theorem stormCleared : d.stormCleared.Struck n o ps := (h.setCtl (by rfl) (by rfl) (by rfl)).showStorm

theorem bmbUpdate {k : Nat} : (d.bmbUpdate k).Struck n o ps :=
  (((((h.put (by decide)).put (by decide)).setFlag (by decide)).setFlag (by decide)).setFlag (by decide)).put (by decide)

theorem bmbDiscard : d.bmbDiscard.Struck n o ps := by
  unfold Device.bmbDiscard
  extract_lets d1
  have h1 : d1.Struck n o ps := List.foldlRecOn _ _ h fun t ht k _ => ite (ht.setCtl (by rfl) (by rfl) (by rfl)).bmbUpdate ht
  exact h1.setCtl (by rw [h1.idle]; rfl) rfl rfl

/-! Curtain. -/

theorem showCurtain : d.showCurtain.Struck n o ps := by
  unfold Device.showCurtain
  exact ((((h.wr (by decide)).put (by decide)).put (by decide)).put (by decide)).put (by decide)

theorem abortTx {k reason : Nat} : (d.abortTx k reason).Struck n o ps :=
  (((h.put (by decide)).put (by decide)).setFlag (by decide)).showCurtain.fireIf

theorem abortOpenSlots : d.abortOpenSlots.Struck n o ps := List.foldlRecOn _ _ h fun _ ht _ _ => ite ht.abortTx ht

theorem refreshApplied : d.refreshApplied.Struck n o ps :=
  List.foldlRecOn _ _ h.showCurtain fun _ ht _ _ => ite (ht.setFlag (by decide)) ht

/-! The units, where nothing is pending. -/

theorem setSeqState {k st : Nat} : (d.setSeqState k st).Struck n o ps := (h.put (by decide)).setFlag (by decide)

theorem captureFault {p k : Nat} : (d.captureFault p k).Struck n o ps := ((h.setBth (Or.inr (by rfl)) (by rfl)).wr (by decide)).setFlag (by decide)

/-- EMITTING stands in PP_STAT beside the state. -/
theorem showEmitting {p : Nat} {b : Bool} : (d.setFlag R.PP_STAT_EMITTING [p] b).Struck n o ps := by
  have hp : R.PP_STAT.addr [p] = 0x1300008 + (0x1000000 * p + 0) := rfl
  have h1 : R.LN_TRAIN_STAT.addr [0, 0] ≠ R.PP_STAT.addr [p] := by rw [hp, show R.LN_TRAIN_STAT.addr [0, 0] = 0x1100030 by decide]; omega
  have h2 : R.PP_CTL.addr [0] ≠ R.PP_STAT.addr [p] := by rw [hp, show R.PP_CTL.addr [0] = 0x1300000 by decide]; omega
  have h3 : (d.setFlag R.PP_STAT_EMITTING [p] b).get R.PP_STAT_STATE [0] = d.get R.PP_STAT_STATE [0] := by
    by_cases h0 : p = 0
    · subst h0
      exact d.get_put_beside _ _ (by decide)
    · refine d.get_put_ne _ ?_
      show R.PP_STAT.addr [0] ≠ R.PP_STAT.addr [p]
      rw [hp, show R.PP_STAT.addr [0] = 0x1300008 by decide]
      omega
  exact ⟨(d.get_put_ne _ h1).trans h.result, (d.get_put_ne _ h2).trans h.off, h3.trans h.down, h.link, h.since, h.now, h.idle, h.owed,
    h.free, h.queue, h.pend, h.halted⟩

theorem showPal {p : Nat} : (d.showPal p).Struck n o ps := by
  unfold Device.showPal
  exact (put (List.foldlRecOn _ _ h fun _ ht _ _ => ht.setFlag (by decide)) (by decide)).showEmitting

theorem paletteFault {p : Nat} : (d.paletteFault p).Struck n o ps := by
  unfold Device.paletteFault
  exact showPal (List.foldlRecOn _ _ h fun _ ht _ _ => ht.setBth (Or.inr (by rfl)) (by rfl))

theorem boothUnitsFault {p : Nat} : (d.boothUnitsFault p).Struck n o ps := by
  unfold Device.boothUnitsFault
  extract_lets d1 x d2 d3 y d4
  have h1 : d1.Struck n o ps := List.foldlRecOn _ _ h fun _ ht _ _ => ht.captureFault
  have h2 : d2.Struck n o ps := h1.setBth (Or.inr (by rfl)) (by rfl)
  have h3 : d3.Struck n o ps := h2.put (by decide)
  have h4 : d4.Struck n o ps := h3.setPrt (Or.inl rfl) rfl
  exact h4.paletteFault

theorem disarmFault {p : Nat} : (d.disarmFault p).Struck n o ps := by
  unfold Device.disarmFault
  refine List.foldlRecOn _ _ (List.foldlRecOn _ _ ?_ fun _ ht _ _ => ht.setPrt (Or.inr (by rfl)) (by rfl)) fun _ ht _ _ => ht.setTim (by rfl)
  exact (((h.setFlag (by decide)).put (by decide)).setFlag (by decide)).setTim (by rfl)

theorem barkerDeviceFault : d.barkerDeviceFault.Struck n o ps := by
  unfold Device.barkerDeviceFault
  refine wr (wr (put (setTim ?_ (by rfl)) (by decide)) (by decide)) (by decide)
  refine List.foldlRecOn _ _ (List.foldlRecOn _ _ h fun _ ht _ _ => ht.disarmFault) fun _ ht _ _ => ?_
  exact ite (((ht.setTim (by rfl)).setFlag (by decide)).setFlag (by decide)) ht

theorem abortSlew : d.abortSlew.Struck n o ps := ((h.setTim (by rfl)).wr (by decide)).setFlag (by decide)

theorem timeDeviceFault : d.timeDeviceFault.Struck n o ps := by
  unfold Device.timeDeviceFault
  extract_lets x d1 d2 d3 d4
  have h1 : d1.Struck n o ps := h.setTim (by rfl)
  have h2 : d2.Struck n o ps := h1.setFlag (by decide)
  have h3 : d3.Struck n o ps := h2.setFlag (by decide)
  have h4 : d4.Struck n o ps := ite h3.abortSlew h3
  exact h4.setTim (by rfl)

theorem dropSets {e c st : Nat} : (d.dropSets e c st).Struck n o ps :=
  (((h.setFlag (by decide)).put (by decide)).put (by decide)).setChan

theorem enginesDeviceFault : d.enginesDeviceFault.Struck n o ps :=
  List.foldlRecOn _ _ h fun _ ht _ _ =>
    setFlag (put (List.foldlRecOn _ _ ht fun _ hu _ _ => hu.dropSets) (by decide)) (by decide)

theorem axisOff {k : Nat} : (d.axisOff k).Struck n o ps := by
  unfold Device.axisOff
  exact ite (h.setFlag (by decide)) ((h.setFlag (by decide)).setFlag (by decide))

theorem axisFaultRest {k : Nat} : (d.axisFaultRest k).Struck n o ps := by
  unfold Device.axisFaultRest
  exact ite h (ite (h.put (by decide)) ((h.setFlag (by decide)).put (by decide)).axisOff)

theorem showResting : d.showResting.Struck n o ps := by
  unfold Device.showResting
  exact ite ((h.put (by decide)).putBooth rfl) (h.put (by decide))

theorem motionDeviceFault : d.motionDeviceFault.Struck n o ps := by
  unfold Device.motionDeviceFault
  refine showResting (List.foldlRecOn _ _ (h.setFlag (by decide)) fun _ ht _ _ => ?_)
  exact ite (ht.setFlag (by decide)).setMot.axisFaultRest ((ht.setFlag (by decide)).setMot.put (by decide))

theorem powerDeviceFault : d.powerDeviceFault.Struck n o ps := by
  unfold Device.powerDeviceFault Device.setVreq
  exact setPow (ite h (h.put (by decide)).setPow)

theorem unitsDeviceFault : d.unitsDeviceFault.Struck n o ps := by
  unfold Device.unitsDeviceFault
  refine powerDeviceFault (motionDeviceFault (enginesDeviceFault (timeDeviceFault (barkerDeviceFault ?_))))
  exact List.foldlRecOn _ _ h fun _ ht _ _ => ite ht.boothUnitsFault ht

theorem boothsHalt : d.boothsHalt.Struck n o ps := List.foldlRecOn _ _ h fun _ ht _ _ => ite (ht.putBooth rfl) ht

end Device.Struck

/-! ### The write that stands pending -/

/-- A pending write of 0 to LN_TRAIN_STAT.RESULT of lane 0. No command stages one, for the field is not a staged one (R97). -/
def strayWrite : PendWrite :=
  { write := { addr := R.LN_TRAIN_STAT.addr [0, 0], mask := R.LN_TRAIN_STAT_RESULT.mask, value := 0 }, ttc := 0, epoch := 0, slot := 0 }

theorem Device.wrMasked_zero (d : Device) (f : Fld) (ix : List Nat) : d.wrMasked f.reg ix f.mask 0 = d.put f ix 0 := by
  simp [Device.wrMasked, Device.put, Fld.into]

theorem Device.apply_strayWrite (d : Device) : d.apply strayWrite.write = d.put R.LN_TRAIN_STAT_RESULT [0, 0] 0 := by
  have hf : (findReg strayWrite.write.addr).map (fun u => (u.1.reg, u.2)) = some (R.LN_TRAIN_STAT, [0, 0]) := by decide +kernel
  obtain ⟨u, hu, hx⟩ := Option.map_eq_some_iff.mp hf
  obtain ⟨hreg, hix⟩ := Prod.mk.injEq _ _ _ _ ▸ hx
  rw [Device.apply, hu]
  show d.wrMasked u.1.reg u.2 R.LN_TRAIN_STAT_RESULT.mask 0 = _
  rw [hreg, hix]
  exact d.wrMasked_zero R.LN_TRAIN_STAT_RESULT [0, 0]

namespace Device.Struck
variable {n : Nat} {o : List Response} {d : Device}

/-- The stray write is applied. -/
theorem settle (h : d.Struck n o [strayWrite]) {sel : PendWrite → Bool} (hs : sel strayWrite = true) : (d.settle sel).Struck 0 o [] := by
  have hin : d.ctl.pend.filter sel = [strayWrite] := by rw [h.pend]; simp [hs]
  have hout : d.ctl.pend.filter (fun p => !sel p) = [] := by rw [h.pend]; simp [hs]
  unfold Device.settle
  rw [hin, hout]
  simp only [List.foldl_cons, List.foldl_nil, Device.apply_strayWrite]
  have hput : ((d.setCtl { d.ctl with pend := [] }).put R.LN_TRAIN_STAT_RESULT [0, 0] 0).Struck 0 o [] :=
    ⟨Device.get_put_same _ _ _ _ (by decide), (Device.get_put_ne _ _ (by decide)).trans h.off,
      (Device.get_put_ne _ _ (by decide)).trans h.down, h.link, h.since, h.now, h.idle, h.owed, h.free, h.queue, rfl, h.halted⟩
  exact (hput.put (by decide)).refreshApplied

theorem discardMotion (h : d.Struck n o []) : d.discardMotion.Struck n o [] := by
  unfold Device.discardMotion
  rw [h.pend]
  exact h.setCtl rfl rfl (by rw [h.pend]; rfl)

theorem curtainDeviceFault (h : d.Struck n o [strayWrite]) : d.curtainDeviceFault.Struck 0 o [] := by
  rw [Device.curtainDeviceFault_eq]
  exact (h.abortOpenSlots.settle (by decide +kernel)).discardMotion.refreshApplied

theorem adoptSwap (h : d.Struck n o []) {k : Nat} : d.adoptSwap k = d := by
  have hno : d.swapPending k = false := by rw [Device.swapPending, h.pend]; rfl
  rw [Device.adoptSwap, hno]
  rfl

theorem sequencersDeviceFault (h : d.Struck n o []) : d.sequencersDeviceFault.Struck n o [] := by
  refine List.foldlRecOn _ _ h fun t ht k _ => ?_
  rw [ht.adoptSwap]
  refine setCtl (wr (List.foldlRecOn _ _ (List.foldlRecOn _ _ ht.setSeqState fun _ hu _ _ => ?_) fun _ hu _ _ => ?_) (by decide)) (by rfl) (by rfl) (by rfl)
  · exact hu.wr (by decide)
  · exact hu.wr (by decide)

theorem breakFlash {ps : List PendWrite} (h : d.Struck n o ps) : d.breakFlash.Struck n o ps := by
  unfold Device.breakFlash
  exact setSec (ite h (h.setCtl (by rfl) (by rfl) (by rfl))) h.halted

theorem loseAnswers {ps : List PendWrite} (h : d.Struck n [] ps) : d.loseAnswers.Struck n [] ps := by
  have hw : d.loseAnswers.ctl.works = [] := by
    simp only [Device.loseAnswers, h.idle, h.owed, h.free]
    rfl
  have hst : d.loseAnswers.hst.stalled = [] := by
    simp only [Device.loseAnswers, Device.setCtl, h.free]
    rfl
  exact ⟨h.result, h.off, h.down, h.link, h.since, h.now, hw, rfl, hst, h.queue, h.pend, h.halted⟩

theorem ringmasterRestart {ps : List PendWrite} (h : d.Struck n [] ps) : d.ringmasterRestart.Struck n [] ps := by
  unfold Device.ringmasterRestart
  extract_lets d1 c d2 d3 d4 d5 d6 d7
  have h1 : d1.Struck n [] ps := h.breakFlash.put (by decide)
  have h2 : d2.Struck n [] ps := h1.setCtl (by rfl) (by rfl) (by rfl)
  have h3 : d3.Struck n [] ps := h2.setHbm
  have h4 : d4.Struck n [] ps := h3.put (by decide)
  have h5 : d5.Struck n [] ps := h4.put (by decide)
  have h6 : d6.Struck n [] ps := (h5.setFlag (by decide)).setFlag (by decide)
  have h7 : d7.Struck n [] ps := h6.loseAnswers
  exact (h7.setFlag (by decide)).setFlag (by decide)

/-- Taking a device fault settles Curtain's pending writes, the stray one among them. -/
theorem deviceFault (h : d.Struck n [] [strayWrite]) {reason : Nat} {cut : Bool} : (d.deviceFault reason cut).Struck 0 [] [] := by
  rw [Device.deviceFault_eq]
  exact (h.faultLogged.stormCleared.bmbDiscard.curtainDeviceFault.sequencersDeviceFault.unitsDeviceFault.ringmasterRestart.boothsHalt).fire

end Device.Struck

end Sys2Proof.Machine
end

section
/-! Scope: lane transmit control and training (R154): a state in which ABORT does not leave RESULT ABORT. -/

namespace Sys2Proof.Machine

/-! ### Appends that a storm follows -/

/-- A violation of REASON 1 counted, shown and logged (R132, R133). -/
def Device.violationCounted (d : Device) (booth addr value source : Nat) : Device :=
  let d := d.bump R.NET_CP_CNT_COUNT [booth]
  let d := d.put R.NET_CP_LAST_OFFSET [booth] 0
  let d := d.put R.NET_CP_LAST_SOURCE [booth] source
  let d := d.logRecord (d.newRecord 1 1 booth 0 false [addr, value, source])
  (d.setLogger { d.ctl.logger with storm := (d.tt :: d.ctl.logger.storm).take 16 }).showStorm

/-- The sixteenth violation within 1 ms is a device fault (R133). -/
theorem Device.violation_storms (d : Device) {booth addr value source : Nat} {t : TT} (hs : source / 4096 ≠ 5)
    (hst : (d.violationCounted booth addr value source).ctl.logger.storm[15]? = some t)
    (ht : ttDiff (d.violationCounted booth addr value source).tt t ≤ 1000000 * 65536) :
    d.violation booth 1 addr value source = (d.violationCounted booth addr value source).deviceFault 4 false := by
  unfold Device.violation
  extract_lets d1 off d2 d3 d4 storm x d5
  have hd : d5 = d.violationCounted booth addr value source := rfl
  have hstorm : storm[15]? = some t := hst
  have htt : ttDiff d4.tt t ≤ 1000000 * 65536 := ht
  rw [if_neg hs, hstorm]
  simp only [hd]
  exact if_pos ht

/-- An append into a ring that the Net does not admit is a violation (R302). -/
theorem Device.appendRaw_refused (d : Device) (q : Nat) (bs : List Byte) (he : ((d.touch q).ctx q).error = false)
    (hr : (d.touch q).roomLeft q ≠ 0) (hl : (d.touch q).linkFree = true) (hn : (d.touch q).ringAdmitted q = false)
    (hk : ((d.touch q).ctx q).kind ≠ 5) : d.appendRaw q bs = (.error, ((d.touch q).errorMark q 1).violation 8 1
      (((d.touch q).ctx q).entryAddr ((d.touch q).ctx q).prod) (esizeBytes ((d.touch q).ctx q).esize) (6 * 4096)) := by
  unfold Device.appendRaw
  simp only [he, hl, hn, if_neg hr, if_neg hk, Bool.not_true, Bool.false_eq_true, if_false]

theorem Device.appendEvent_closed (d : Device) {q type source : Nat} {data : List Byte} (h : (d.ctx q).kind ≠ 5) :
    d.appendEvent q type source data = d := if_pos (Or.inl h)

/-- A response whose append ends in a queue error waits (R63). -/
theorem Device.deliver_error (d t : Device) (r : Response) (ho : d.owes r.box = false) (hr : d.takesResponse r.box = true)
    (ha : d.append (2 * r.box + 1) 2 (r.bytes d) = (.error, t)) : d.deliver r = t.owe r := by
  unfold Device.deliver
  rw [ho, hr, ha]
  rfl

/-! ### A state in which ABORT does not show -/

/-- A LANE_TRAIN of mailbox 1 that waits for its answer on lane 0. -/
def strayWork : Work := { via := .queue 1, opcode := 0x0402, tag := 0, seq := 0, key := [0] }

/-- Lane 0 is in WAIT, a LANE_TRAIN waits for its end, its response queue lies where the Net admits nothing, fifteen violations
count towards a storm, and the stray write is pending. -/
def strayState : State :=
  let d : Device := {}
  let d := { d with sec := { d.sec with inReset := false, jtagHalted := true }, hst := { d.hst with busMaster := true }
                    tim := { d.tim with time := { d.tim.time with acc := 65536 } } }
  let d := d.setCtl { d.ctl with works := [strayWork], pend := [strayWrite], logger := { d.ctl.logger with storm := List.replicate 15 0 } }
  let d := (d.setCtx 3 { kind := 2, log2 := 4, esize := 1 }).setCtx 510 { kind := 1 }
  { dev := d.put R.LN_TRAIN_STAT_STATE [0, 0] 1 }

/-- The lane as its training has ended with ABORT. -/
def strayEnded : Device := (strayState.dev.wake 0).trainEnded 0 5 4

/-- The final answer of the LANE_TRAIN. -/
def strayResponse : Response :=
  { box := 1, opcode := 0x0402, tag := 0, seq := 0, status := 0x0410, final := true, payload := strayEnded.trainReply 0
    outWritten := false, outLen := 0 }

/-- The device as it gives that answer. -/
def strayAnswering : Device := strayEnded.dropWork strayWork

/-- The violation that the append of the answer is, counted. -/
def strayViolated : Device :=
  ((strayAnswering.touch 3).errorMark 3 1).violationCounted 8
    (((strayAnswering.touch 3).ctx 3).entryAddr ((strayAnswering.touch 3).ctx 3).prod) (esizeBytes ((strayAnswering.touch 3).ctx 3).esize)
    (6 * 4096)

/-- The device after the device fault. -/
def strayFaulted : Device := strayViolated.deviceFault 4 false

theorem strayViolated_struck : strayViolated.Struck 4 [] [strayWrite] := by
  refine ⟨?_, ?_, ?_, ?_, ?_, ?_, ?_, ?_, ?_, ?_, ?_, ?_⟩ <;> decide +kernel

theorem strayFaulted_struck : strayFaulted.Struck 0 [] [] := strayViolated_struck.deviceFault

theorem strayAnswering_append (bs : List Byte) : strayAnswering.append 3 2 bs = (.error, strayFaulted) := by
  have hstorm : ((strayAnswering.touch 3).errorMark 3 1).violation 8 1
      (((strayAnswering.touch 3).ctx 3).entryAddr ((strayAnswering.touch 3).ctx 3).prod)
      (esizeBytes ((strayAnswering.touch 3).ctx 3).esize) (6 * 4096) = strayFaulted :=
    Device.violation_storms _ (t := 0) (by decide) (by decide +kernel) (by decide +kernel)
  have hraw : strayAnswering.appendRaw 3 bs = (.error, strayFaulted) := by
    rw [strayAnswering.appendRaw_refused 3 bs (by decide +kernel) (by decide +kernel) (by decide +kernel) (by decide +kernel)
      (by decide +kernel), hstorm]
  have hopen : ¬ ((strayAnswering.ctx 3).kind ≠ 2 ∨ strayAnswering.appendsStopped 3 = true) := by decide +kernel
  have hclosed : (strayFaulted.ctx 1).kind ≠ 5 := by rw [strayFaulted_struck.queue.2]; decide
  rw [Device.append, if_neg hopen, Device.appendTold, hraw]
  simp only [strayFaulted.appendEvent_closed hclosed, ite_self]

/-- The answer waits, the queue being in error. -/
theorem strayEnded_finish :
    strayEnded.finish 0x0402 [0] 0x0410 (strayEnded.trainReply 0) = strayFaulted.owe strayResponse := by
  have hworks : strayEnded.ctl.works.filter (fun w => decide (w.opcode = 0x0402 ∧ w.key = [0]) && !w.dead) = [strayWork] := by
    decide +kernel
  rw [Device.finish, hworks, List.foldl_cons, List.foldl_nil]
  exact strayAnswering.deliver_error strayFaulted strayResponse (by decide +kernel) (by decide +kernel) (strayAnswering_append _)

/-- The device after ABORT. -/
def strayDone : Device := (strayFaulted.owe strayResponse).put R.LN_TRAIN_STAT_STATE [0, 0] 0

theorem strayState_abort : (strayState.dev.wake 0).trainAbort 0 = strayDone := by
  have htrain : (strayState.dev.wake 0).training 0 = true := by decide +kernel
  rw [Device.trainAbort, Device.trainFail, if_pos htrain, Device.trainEnd_eq]
  exact congrArg (fun d : Device => d.put R.LN_TRAIN_STAT_STATE [0, 0] 0) strayEnded_finish

/-- The answer is owed, and the lane goes to OFF. -/
theorem Device.Struck.answered {n : Nat} {ps : List PendWrite} {d : Device} (h : d.Struck n [] ps) (r : Response) :
    ((d.owe r).put R.LN_TRAIN_STAT_STATE [0, 0] 0).Struck n [r] ps :=
  ⟨(Device.get_put_beside _ _ _ (by decide)).trans h.result, (Device.get_put_ne _ _ (by decide)).trans h.off,
    (Device.get_put_ne _ _ (by decide)).trans h.down, h.link, h.since, h.now, h.idle, congrArg (· ++ [r]) h.owed, h.free, h.queue,
    h.pend, h.halted⟩

theorem strayDone_struck : strayDone.Struck 0 [strayResponse] [] := strayFaulted_struck.answered strayResponse

theorem Device.owe_mbox (d : Device) (r : Response) (f : Fld) (ix : List Nat) (v k : Nat) : ((d.owe r).put f ix v).mbox k = d.mbox k := rfl

theorem strayDone_closed : (strayDone.mbox 255).isOpen = false := by
  rw [strayDone, Device.owe_mbox, strayFaulted, Device.mbox, Device.deviceFault_mailboxes]
  decide +kernel

/-! What follows at the port, and what firmware serves: nothing. -/

theorem Device.portOfLane_zero (d : Device) : d.portOfLane 0 = 0 := rfl

/-- On a disabled port without a PORT_LINK a lane event leads to nothing. -/
theorem Device.Struck.afterLane {n : Nat} {o : List Response} {ps : List PendWrite} {d : Device} (h : d.Struck n o ps) :
    d.afterLane 0 = d.put R.PP_STAT_STATE [0] 0 := by
  have heval : d.linkEval 0 = d.put R.PP_STAT_STATE [0] 0 := by
    have hoff : d.flag R.PP_CTL_ENABLE [0] = false := by rw [Device.flag, h.off]; rfl
    have hdown : d.pstate 0 = 0 := h.down
    unfold Device.linkEval
    rw [if_pos (Or.inl (by rw [hoff]; rfl)), Device.setLink, if_pos hdown]
  have hlink : ((d.put R.PP_STAT_STATE [0] 0).prtx 0).link = none := h.link
  rw [Device.afterLane, Device.portOfLane_zero, Device.afterLink, heval, Device.linkPoll, hlink]

/-- The device as it stands after ABORT and what it leads to. -/
def strayFinal : Device := strayDone.put R.PP_STAT_STATE [0] 0

theorem Device.Struck.putDown {n : Nat} {o : List Response} {ps : List PendWrite} {d : Device} (h : d.Struck n o ps) :
    (d.put R.PP_STAT_STATE [0] 0).Struck n o ps :=
  ⟨(Device.get_put_ne _ _ (by decide)).trans h.result, (Device.get_put_ne _ _ (by decide)).trans h.off,
    Device.get_put_same _ _ _ _ (by decide), h.link, h.since, h.now, h.idle, h.owed, h.free, h.queue, h.pend, h.halted⟩

theorem strayFinal_struck : strayFinal.Struck 0 [strayResponse] [] := strayDone_struck.putDown

theorem Device.put_mbox (d : Device) (f : Fld) (ix : List Nat) (v k : Nat) : (d.put f ix v).mbox k = d.mbox k := rfl

theorem strayFinal_unreleased : strayFinal.Unreleased where
  closed := by rw [strayFinal, Device.put_mbox, strayDone_closed]
  queue := strayFinal_struck.queue.1
  idle := strayFinal_struck.idle
  answered := by
    rw [Device.owes, strayFinal_struck.owed]
    rfl

/-- Firmware that is halted serves nothing. -/
theorem State.settle_halted {s : State} (hw : s.waiting = []) (hh : s.dev.sec.jtagHalted = true) : s.settle.dev = s.dev := by
  have hf : s.dev.fwRuns = false := by simp only [Device.fwRuns, hh, Bool.not_true, Bool.and_false]
  by_cases hr : s.dev.sec.inReset = true
  · rw [State.settle_held s hr]
  · rw [State.settle_nothing_waits (Bool.eq_false_iff.mpr hr) hw]
    exact Device.serve_stays (Or.inl hf)

/-- ABORT on lane 0 in that state. -/
theorem strayState_laneDoes : strayState.laneDoes 0 (.lnTrainAbort 0) strayDone :=
  State.laneDoes_of (f := fun d => d.strike (lx 0) [(R.LN_TRAIN_CTL_ABORT, 1)]) rfl
    (show strayState.dev.sec.inReset = false by decide +kernel) (by decide +kernel)
    ((strayState.dev.struck_trainAbort 0 (by decide +kernel) (by decide +kernel)).trans strayState_abort)

/-- No device that shows RESULT ABORT on lane 0 is what ABORT leaves there, its port and firmware having followed it. -/
theorem strayState_result {t : Device} (h : strayState.laneDoes 0 (.lnTrainAbort 0) t) : t.get R.LN_TRAIN_STAT_RESULT [0, 0] ≠ 4 := by
  have hsame : ({ strayState with dev := t.afterLane 0 } : State).settle
      = ({ strayState with dev := strayDone.afterLane 0 } : State).settle := by
    injection (Eq.symm h).trans strayState_laneDoes
  have hfinal : ({ strayState with dev := strayDone.afterLane 0 } : State).settle.dev = strayFinal := by
    rw [strayDone_struck.afterLane]
    exact State.settle_halted rfl strayFinal_struck.halted
  have hafter : t.afterLane 0 = strayFinal := by
    have hd : ({ strayState with dev := t.afterLane 0 } : State).settle.dev = strayFinal := by rw [hsame, hfinal]
    rw [← hd]
    exact (State.settle_unserved (s := { strayState with dev := t.afterLane 0 }) rfl (hd ▸ strayFinal_unreleased)).symm
  have hpoll : (t.linkEval 0).linkPoll 0 = strayFinal := hafter
  have hlinks := Device.KeepsOrLinks.linkPoll (d := t.linkEval 0) ⟨rfl, rfl, rfl, rfl⟩
  rw [hpoll] at hlinks
  rcases hlinks with ⟨o, hkeeps⟩ | hlinks
  · have hstat : (t.linkEval 0).rd R.LN_TRAIN_STAT [0, 0] = t.rd R.LN_TRAIN_STAT [0, 0] := by
      refine t.linkEval_stat.resolve_right fun hdown => ?_
      rw [← hkeeps.since, ← hkeeps.now, strayFinal_struck.since, strayFinal_struck.now] at hdown
      exact absurd hdown (by decide)
    have hzero : t.get R.LN_TRAIN_STAT_RESULT [0, 0] = 0 :=
      (congrArg R.LN_TRAIN_STAT_RESULT.of (hkeeps.stat.trans hstat)).symm.trans strayFinal_struck.result
    rw [hzero]
    decide
  · have hop := hlinks strayResponse (by rw [strayFinal_struck.owed]; exact List.mem_singleton_self _)
    exact absurd hop (by decide)

/-- Refutes O19: in `strayState` ABORT does not leave RESULT ABORT. The LANE_TRAIN that waits is answered as training fails; the append of
its answer is the sixteenth violation of a storm, and the device fault that follows applies the write that is pending on LN_TRAIN_STAT.
The state is none that a run from reset reaches, for no command stages a write of that register (R97): the clause needs the hypothesis
that no pending write stands on the lane's registers. -/
theorem not_laneTrainingRows : ¬ Obligations.LaneTrainingRows := by
  unfold Obligations.LaneTrainingRows
  rintro ⟨-, -, -, -, -, -, -, habort, -⟩
  obtain ⟨t, hdoes, -, hresult⟩ := habort strayState 0 (show strayState.dev.sec.inReset = false by decide +kernel) (by decide +kernel)
    (by decide +kernel)
  exact strayState_result hdoes (hresult (by decide +kernel))

end Sys2Proof.Machine
end

section
/-! Scope: the capture commands of mailbox group 0x06 (R213, R224, R227, R229, R237, R68): what each replies once its own checks are
passed. -/

namespace Sys2Proof.Machine

/-! ### Port booths and register writes -/

@[simp] theorem Device.wr_bth (d : Device) (r : Reg) (ix : List Nat) (v : Word) (p : Nat) : (d.wr r ix v).bth p = d.bth p :=
  congrArg (fun u => u.booths.get {} p) (d.wr_prt r ix v)

@[simp] theorem Device.put_bth (d : Device) (f : Fld) (ix : List Nat) (v p : Nat) : (d.put f ix v).bth p = d.bth p :=
  congrArg (fun u => u.booths.get {} p) (d.put_prt f ix v)

/-- A stream is part of its port's booth. -/
theorem Device.cap_of_bth {d t : Device} {p : Nat} (h : t.bth p = d.bth p) (k : Nat) : t.cap p k = d.cap p k :=
  congrArg (fun b => b.caps.get {} k) h

theorem Device.setCap_bth (d : Device) (p k : Nat) (x : CapX) :
    (d.setCap p k x).bth p = { d.bth p with caps := (d.bth p).caps.put {} k x } := d.setBth_same p _

/-! ### What every command of the group checks first (R213) -/

/-- A lent port is busy to the capture commands. -/
theorem Device.capCheck_lent {d : Device} {e : Entry} (hp : e.u 12 1 ≤ 7) (hk : e.u 13 1 ≤ 63) (hl : d.lent (e.u 12 1) = true) :
    d.capCheck e = stBUSY := by
  unfold Device.capCheck Device.portCheck
  simp only
  rw [if_neg (Nat.not_lt.2 hk), if_neg (Nat.not_lt.2 hp), if_pos hl]

section
variable {d : Device} {e : Entry} {st : Nat} (hcheck : d.capCheck e = st) (hst : st ≠ 0)
include hcheck hst

/-! What the check refuses, the commands answer with its status. -/

theorem Device.capStream_refused : d.capStream e = d.no st := by
  unfold Device.capStream
  simp only [hcheck]
  rw [if_pos hst]

theorem Device.capEnable_refused : d.capEnable e = d.no st := by
  unfold Device.capEnable
  simp only [hcheck]
  rw [if_pos hst]

theorem Device.capReleaseCmd_refused : d.capReleaseCmd e = d.no st := by
  unfold Device.capReleaseCmd
  simp only [hcheck]
  rw [if_pos hst]

theorem Device.capCounters_refused : d.capCounters e = d.no st := by
  unfold Device.capCounters
  simp only [hcheck]
  rw [if_pos hst]

end

/-! ### CAP_QUERY (R231) -/

theorem Device.capQuery_lent {d : Device} {e : Entry} (hp : e.u 12 1 ≤ 7) (hk : e.u 13 1 ≤ 63) (hl : d.lent (e.u 12 1) = true) :
    d.capQuery e = d.no stBUSY := by
  unfold Device.capQuery
  simp only
  rw [if_neg (by omega), if_pos hl]

/-- CAP_QUERY's payload. -/
def Device.streamReport (d : Device) (ix : List Nat) : List Byte :=
  layout [(1, d.get R.CAP_SC_CTL_EN ix + 2 * d.get R.CAP_SC_STAT_FRAME_OPEN ix + 4 * d.get R.CAP_SC_STAT_RETIRING ix
      + 8 * d.get R.CAP_SC_STAT_GEN ix + 16 * d.get R.CAP_SC_Q_DIRECT ix), (1, d.get R.CAP_SC_CTL_FRAMING ix),
    (2, d.get R.CAP_SC_STAT_FREE ix), (2, d.get R.CAP_SC_STAT_NEXT_SLOT ix), (2, 0), (8, d.get R.CAP_SC_FRAME_NEXT ix),
    (1, d.get R.CAP_LF_WORDS ix), (1, d.get R.CAP_LF_LINES ix), (2, 0), (4, d.get R.CAP_SC_GEOM_STRIDE ix * 64),
    (8, d.get R.CAP_SC_SLOT_SLOT_SIZE ix * 65536)]

theorem Device.capQuery_reports {d : Device} {e : Entry} (hp : e.u 12 1 ≤ 7) (hk : e.u 13 1 ≤ 63) (hl : d.lent (e.u 12 1) = false) :
    d.capQuery e = d.ok (d.streamReport [e.u 12 1, e.u 13 1]) := by
  unfold Device.capQuery
  simp only
  rw [if_neg (by omega), if_neg (by rw [hl]; decide)]
  rfl

/-! ### CAP_STREAM (R214, R227) -/

/-- The fields of a CAP_STREAM lie in their ranges. -/
structure Entry.StreamForm (e : Entry) : Prop where
  framing : e.u 14 1 ≤ 2
  flags : e.u 15 1 ≤ 63
  lineLen : e.u 20 4 ≠ 0 ∧ e.u 20 4 ≤ 262144
  lines : e.u 24 4 ≠ 0 ∧ e.u 24 4 ≤ (if e.u 14 1 = 2 then 1048576 else 65536)
  slots : e.u 32 2 ≠ 0 ∧ e.u 32 2 ≤ 1024
  program : e.u 34 1 ≤ 31
  blockTime : e.u 40 4 ≤ 4294967
  queue : generalQueue (e.u 44 4) = true
  reserved : e.u 51 1 = 0

/-- SLOT_SIZE in bytes of the stream that a CAP_STREAM configures. -/
def Entry.streamSlot (e : Entry) : Nat := slotBytes (roundUp (e.u 20 4) 64) (e.u 24 4)

/-- The device with the port's roll loaded where FRAMING asks for one. -/
def Device.rollLoaded (d : Device) (e : Entry) : Device :=
  if e.u 14 1 = 1 then d.loadRoll (e.u 12 1) (captureRoll (e.u 12 1) (e.u 13 1) (e.u 50 1) (e.u 24 4) (e.u 36 4)) else d

/-- The writes that start the port's roll where FRAMING asks for one. -/
def Device.streamRoll (d : Device) (e : Entry) : List MaskedWrite :=
  if e.u 14 1 = 1 then
    [stageFields R.CAL_CTL [e.u 12 1] [(R.CAL_CTL_BANK, b2n (d.standby (e.u 12 1))), (R.CAL_CTL_ENTRY, 0), (R.CAL_CTL_RUN, 1)]]
  else []

/-- The change that CAP_STREAM stages, its ring at `base`, with STRIDE and SLOT_SIZE to answer. -/
def Device.streamJob (d : Device) (e : Entry) (base : Nat) : AloneJob where
  opcode := 0x0601
  key := []
  writes := capWrites e base ++ d.streamRoll e
  payload := layout [(4, roundUp (e.u 20 4) 64), (4, 0), (8, e.streamSlot)]

/-- A well-formed CAP_STREAM over an allocation of its mailbox that holds the slots loads the roll it needs, then stages. -/
theorem Device.capStream_stages {d : Device} {e : Entry} {x : Alloc} (hcheck : d.capCheck e = stOK) (hform : e.StreamForm)
    (hfmt : (pixFmt (e.u 16 4)).isSome = true) (hqueue : d.mayQueue e.via (e.u 44 4) = true)
    (halloc : d.allocFor e (e.u 28 4) 1 = (0, some x)) (hsize : e.u 32 2 * e.streamSlot ≤ x.size)
    (hroll : e.u 14 1 = 1 →
      (d.seq (e.u 12 1)).hostRoll = false ∧ d.flag R.CAL_LD_CTL_BUSY [] = false ∧ d.swapPending (e.u 12 1) = false) :
    d.capStream e = (d.rollLoaded e).stageCmd e (e.u 48 2) false ((d.rollLoaded e).streamJob e x.off) := by
  have hcheck' : ¬ d.capCheck e ≠ 0 := not_not.2 hcheck
  have hroom : e.u 32 2 * slotBytes (roundUp (e.u 20 4) 64) (e.u 24 4) ≤ x.size := hsize
  obtain ⟨hframing, hflags, hlen, hlines, hslots, hprogram, htime, hgeneral, hreserved⟩ := hform
  unfold Device.capStream
  simp only [halloc]
  rw [if_neg hcheck', if_neg ?form, if_neg (by simp [Option.isNone_iff_eq_none, Option.isSome_iff_ne_none.1 hfmt]),
    if_neg (by rw [hqueue]; decide), if_neg (by decide), if_neg (Nat.not_lt.2 hroom), if_neg ?held, if_neg ?busy]
  · rfl
  case form =>
    rintro (h | h | h | h | h | h | h | h | h | h | h | h)
    any_goals omega
    rw [hgeneral] at h
    exact absurd h (by decide)
  case held => exact fun h => absurd ((hroll h.1).1.symm.trans h.2) (by decide)
  case busy =>
    rintro ⟨h1, hbusy | hswap⟩
    · exact absurd ((hroll h1).2.1.symm.trans hbusy) (by decide)
    · exact absurd ((hroll h1).2.2.symm.trans hswap) (by decide)

/-! ### CAP_ENABLE and CAP_RELEASE (R229, R237) -/

theorem Device.capEnable_stages {d : Device} {e : Entry} (hcheck : d.capCheck e = stOK) (h1 : e.u 14 1 ≤ 1) :
    d.capEnable e = d.stageCmd e (e.u 16 2) false
      { opcode := 0x0602, key := [], writes := [stageField R.CAP_SC_CTL_EN [e.u 12 1, e.u 13 1] (e.u 14 1)] } := by
  have hcheck' : ¬ d.capCheck e ≠ 0 := not_not.2 hcheck
  unfold Device.capEnable
  simp only
  rw [if_neg hcheck', if_neg (Nat.not_lt.2 h1)]

theorem Device.capReleaseCmd_frees {d : Device} {e : Entry} (hcheck : d.capCheck e = stOK) (hzero : bits (e.u 14 2) 10 5 = 0)
    (hdirect : d.flag R.CAP_SC_Q_DIRECT [e.u 12 1, e.u 13 1] = true)
    (hclosed : d.slotState (e.u 12 1) (e.u 13 1) (bit (e.u 14 2) 15) (e.u 14 2 % 1024) = 2) :
    d.capReleaseCmd e = (d.setSlotState (e.u 12 1) (e.u 13 1) (bit (e.u 14 2) 15) (e.u 14 2 % 1024) 0).ok [] := by
  have hcheck' : ¬ d.capCheck e ≠ 0 := not_not.2 hcheck
  unfold Device.capReleaseCmd
  simp only
  rw [if_neg hcheck', if_neg ?form, Device.capRelease, if_pos hclosed]
  rintro (h | h | h)
  · exact h hzero
  · rw [hdirect] at h
    exact absurd h (by decide)
  · exact h hclosed

/-! ### CAP_COUNTERS (R224) -/

section
variable (d : Device) (p k : Nat)

/-- A sample takes the stream's counts into its totals. -/
theorem Device.sampleCap_cap : (d.sampleCap p k).cap p k =
    { d.cap p k with
      totLost := (d.cap p k).totLost + d.get R.CAP_SC_LOST_LOST_WORDS [p, k]
      totDamaged := (d.cap p k).totDamaged + d.get R.CAP_SC_LOST_DAMAGED_LINES [p, k]
      totOrphan := (d.cap p k).totOrphan + d.get R.CAP_SC_DROP_ORPHAN [p, k]
      totThrottled := (d.cap p k).totThrottled + d.get R.CAP_SC_DROP_THROTTLED [p, k]
      totNoBuffer := (d.cap p k).totNoBuffer + d.get R.CAP_SC_DROP_NO_BUFFER [p, k] } := by
  unfold Device.sampleCap
  extract_lets x ix b d1 d2 d3
  refine (Device.cap_of_bth (d := d2) (by rw [Device.put_bth, Device.put_bth, Device.wr_bth, Device.wr_bth]) k).trans ?_
  exact d1.setCap_same p k _

/-- A sample takes the booth's counts into its totals. -/
theorem Device.sampleCap_bth : ((d.sampleCap p k).bth p).totCmdBad = (d.bth p).totCmdBad + d.get R.CAP_STAT_CMD_BAD [p]
    ∧ ((d.sampleCap p k).bth p).totRelBad = (d.bth p).totRelBad + d.get R.CAP_STAT_REL_BAD [p] := by
  unfold Device.sampleCap
  extract_lets x ix b d1 d2 d3
  have hbth : ((d3.put R.CAP_STAT_CMD_BAD [p] 0).put R.CAP_STAT_REL_BAD [p] 0).bth p = d2.bth p := by
    rw [Device.put_bth, Device.put_bth, Device.wr_bth, Device.wr_bth]
  have hcap : d2.bth p = _ := d1.setCap_bth p k _
  rw [hbth, hcap, d.setBth_same p]
  exact ⟨rfl, rfl⟩

/-- The counts of a stream lie above the booth's CAP_STAT. -/
theorem capCounts_addr_ne {r : Reg} (hr : r.strides = R.CAP_SC_LOST.strides ∧ R.CAP_STAT.base < r.base) :
    r.addr [p, k] ≠ R.CAP_STAT.addr [p] := by
  obtain ⟨hstrides, hbase⟩ := hr
  simp only [Reg.addr, hstrides, R.CAP_SC_LOST, R.CAP_STAT, strideSum] at hbase ⊢
  omega

/-- A sample leaves the stream's counts at 0. -/
theorem Device.sampleCap_counts : (d.sampleCap p k).rd R.CAP_SC_LOST [p, k] = 0 ∧ (d.sampleCap p k).rd R.CAP_SC_DROP [p, k] = 0 := by
  have hlost := capCounts_addr_ne p k (r := R.CAP_SC_LOST) (by decide)
  have hdrop := capCounts_addr_ne p k (r := R.CAP_SC_DROP) (by decide)
  unfold Device.sampleCap
  simp only [Device.rd_put_ne _ (f := R.CAP_STAT_REL_BAD) _ hlost, Device.rd_put_ne _ (f := R.CAP_STAT_CMD_BAD) _ hlost,
    Device.rd_put_ne _ (f := R.CAP_STAT_REL_BAD) _ hdrop, Device.rd_put_ne _ (f := R.CAP_STAT_CMD_BAD) _ hdrop,
    Device.rd_wr_same, and_true]
  rw [Device.rd_wr_beside _ _ _ (by decide), Device.rd_wr_same]

/-- CAP_COUNTERS takes the totals of the stream and of its booth away. -/
def Device.clearCapTotals : Device :=
  (d.setBth p { d.bth p with totCmdBad := 0, totRelBad := 0 }).setCap p k
    { d.cap p k with totLost := 0, totDamaged := 0, totOrphan := 0, totThrottled := 0, totNoBuffer := 0 }

/-- CAP_COUNTERS's payload. -/
def Device.capTotals : List Byte :=
  layout [(8, (d.cap p k).totLost), (4, (d.cap p k).totDamaged), (4, (d.cap p k).totOrphan), (4, (d.cap p k).totThrottled),
    (4, (d.cap p k).totNoBuffer), (2, (d.bth p).totCmdBad), (2, (d.bth p).totRelBad), (4, 0)]

/-- What CAP_COUNTERS leaves. -/
def Device.capSampled (clear : Nat) : Device := if clear = 1 then (d.sampleCap p k).clearCapTotals p k else d.sampleCap p k

theorem Device.capSampled_rd (clear : Nat) (r : Reg) (ix : List Nat) :
    (d.capSampled p k clear).rd r ix = (d.sampleCap p k).rd r ix := by
  unfold Device.capSampled
  split <;> rfl

theorem Device.clearCapTotals_cap : (d.clearCapTotals p k).cap p k =
    { d.cap p k with totLost := 0, totDamaged := 0, totOrphan := 0, totThrottled := 0, totNoBuffer := 0 } := Device.setCap_same _ p k _

end

theorem Device.capCounters_eq {d : Device} {e : Entry} (hcheck : d.capCheck e = stOK) (h1 : e.u 14 1 ≤ 1) :
    d.capCounters e = (d.capSampled (e.u 12 1) (e.u 13 1) (e.u 14 1)).ok
      ((d.sampleCap (e.u 12 1) (e.u 13 1)).capTotals (e.u 12 1) (e.u 13 1)) := by
  have hcheck' : ¬ d.capCheck e ≠ 0 := not_not.2 hcheck
  unfold Device.capCounters
  simp only
  rw [if_neg hcheck', if_neg (Nat.not_lt.2 h1)]
  rfl

/-! ### The group -/

/-- Settles O44: each command is one operation once its own checks are passed. -/
theorem captureCommands : Obligations.CaptureCommands := by
  unfold Obligations.CaptureCommands
  refine ⟨fun s e ix hix hp hk hl => ?query, ?stream, fun s e ws hcheck h1 hws htakes => ?enable, ?release,
    fun s e p k hp hk hcheck h1 => ?counters, fun s e hp hk hl => ?lent⟩
  case query =>
    subst hix
    refine State.gives_of (body := Device.capQuery e) rfl fun _ => ?_
    rw [Device.capQuery_reports hp hk ((s.dev.entered_lent e _).trans hl)]
    exact ⟨rfl, rfl, rfl⟩
  case stream =>
    intro s e t p f lines size x ws hp hf hlines hsize hcheck hframing hflags hlen hlen' hl hl' hsl hsl' hprog htime hq hres hfmt hmay
      halloc hroom hroll ht hws htakes
    subst hp hf hlines hsize
    have hform : e.StreamForm := ⟨hframing, hflags, ⟨hlen, hlen'⟩, ⟨hl, hl'⟩, ⟨hsl, hsl'⟩, hprog, htime, hq, hres⟩
    refine State.gives_of (body := Device.capStream e) rfl fun _ => ?_
    rw [Device.capStream_stages hcheck hform hfmt hmay halloc hroom (by rw [Device.entered_flag]; exact hroll)]
    subst hws ht
    exact Device.stageCmd_carries htakes
  case enable =>
    subst hws
    refine State.gives_of (body := Device.capEnable e) rfl fun _ => ?_
    rw [Device.capEnable_stages hcheck h1]
    exact Device.stageCmd_carries htakes
  case release =>
    intro s e p k g hp hk hg hcheck hzero hdirect hclosed
    subst hp hk hg
    refine State.gives_of (body := Device.capReleaseCmd e) rfl fun _ => ?_
    rw [Device.capReleaseCmd_frees hcheck hzero (by rw [Device.entered_flag]; exact hdirect) hclosed]
    exact ⟨rfl, rfl⟩
  case counters =>
    subst hp hk
    refine State.gives_of (body := Device.capCounters e) rfl fun _ => ?_
    rw [Device.capCounters_eq hcheck h1]
    generalize s.dev.entered e = d
    obtain ⟨hcmd, hrel⟩ := d.sampleCap_bth (e.u 12 1) (e.u 13 1)
    obtain ⟨hlost, hdrop⟩ := d.sampleCap_counts (e.u 12 1) (e.u 13 1)
    refine ⟨rfl, ?_, (d.capSampled_rd _ _ _ _ _).trans hlost, (d.capSampled_rd _ _ _ _ _).trans hdrop, fun hclear => ?_⟩
    · simp only [Device.ok, Device.capTotals, Device.sampleCap_cap, hcmd, hrel]
    · simp only [Device.ok, Device.capSampled, if_pos hclear, Device.clearCapTotals_cap, and_self]
  case lent =>
    have hl' := (s.dev.entered_lent e _).trans hl
    have hcheck := Device.capCheck_lent hp hk hl'
    have hbusy : stBUSY ≠ 0 := by decide
    exact ⟨State.gives_of (body := Device.capQuery e) rfl fun _ => Device.capQuery_lent hp hk hl',
      State.gives_of (body := Device.capStream e) rfl fun _ => Device.capStream_refused hcheck hbusy,
      State.gives_of (body := Device.capEnable e) rfl fun _ => Device.capEnable_refused hcheck hbusy,
      State.gives_of (body := Device.capReleaseCmd e) rfl fun _ => Device.capReleaseCmd_refused hcheck hbusy,
      State.gives_of (body := Device.capCounters e) rfl fun _ => Device.capCounters_refused hcheck hbusy⟩

end Sys2Proof.Machine
end

section
/-! Scope: Ethernet packets in and out of a port, the slow path, GVCP and the merge hold (R178 to R183, R187, R190), and the PTP
messages of the servo (R339, R340). -/

namespace Sys2Proof.Machine

/-! ### Ports that run an Ethernet mode -/

/-- The port is out of Ethernet: in another mode or not UP. -/
theorem Device.eth_stopped {d : Device} {p : Nat} (h : modeEth (d.pmode p) = false ∨ d.up p = false) :
    (!modeEth (d.pmode p)) = true ∨ (!d.up p) = true ∨ d.boothDown p = true :=
  h.imp (fun hm => by rw [hm]; rfl) (fun hu => Or.inl (by rw [hu]; rfl))

theorem Device.eth_runs {d : Device} {p : Nat} (hm : modeEth (d.pmode p) = true) (hu : d.up p = true) (hb : d.boothDown p = false) :
    ¬ ((!modeEth (d.pmode p)) = true ∨ (!d.up p) = true ∨ d.boothDown p = true) := by
  rw [hm, hu, hb]
  decide

/-! ### Received frames (R179, R183) -/

theorem Device.fecCount_nil (d : Device) (p : Nat) : d.fecCount p [] = d := by
  unfold Device.fecCount
  split <;> rfl

theorem Device.ethFrame_stopped {d : Device} {p : Nat} (f : List Byte) (t : TT) (fec : List (Nat × Option Nat))
    (h : modeEth (d.pmode p) = false ∨ d.up p = false) : d.ethFrame p f t fec = d := by
  unfold Device.ethFrame
  rw [if_pos (Device.eth_stopped h)]

section
variable {d : Device} {p : Nat} (hm : modeEth (d.pmode p) = true) (hu : d.up p = true) (hb : d.boothDown p = false)
include hm hu hb

theorem Device.ethFrame_damaged {f : List Byte} (t : TT)
    (hbad : f.length < 64 ∨ 9600 < f.length ∨ crc32 (f.take (f.length - 4)) ≠ ofLE (f.drop (f.length - 4))) :
    d.ethFrame p f t [] = d.bump R.PP_CNT_ERR_RX_ERR [p] := by
  unfold Device.ethFrame
  rw [if_neg (Device.eth_runs hm hu hb), Device.fecCount_nil]
  exact if_pos hbad

variable {f : List Byte} {e : EthPkt} (h64 : 64 ≤ f.length) (h9600 : f.length ≤ 9600)
  (hcrc : crc32 (f.take (f.length - 4)) = ofLE (f.drop (f.length - 4))) (hparse : parseEth (f.take (f.length - 4)) = some e)
include h64 h9600 hcrc hparse

theorem Device.ethFrame_control (t : TT) (hctl : e.etype = 0x8808) : d.ethFrame p f t [] = d.count R.PP_CNT_RX_PKTS [p] := by
  unfold Device.ethFrame
  simp only [Device.fecCount_nil, hparse]
  rw [if_neg (Device.eth_runs hm hu hb), if_neg (by rw [hcrc]; omega), if_pos hctl]

/-- The device that the stream table's boundary leaves, and the one that classifies, are given by equations, for the kernel to
compare them by name and not to search their tables. -/
theorem Device.ethFrame_stream {d₁ d₂ : Device} {t : TT} {u : UdpPkt} {k : Nat} (hctl : e.etype ≠ 0x8808)
    (hd₁ : d.streamBoundary p t = d₁) (hmac : d₁.macAccepts p e.dst = true) (hip : e.ip = .udp u)
    (hd₂ : d₁.count R.PP_CNT_RX_PKTS [p] = d₂) (hk : d₂.classify p e.vlan u = some k) :
    d.ethFrame p f t [] = d₂.streamIn p k u.data t := by
  unfold Device.ethFrame
  rw [if_neg (Device.eth_runs hm hu hb), Device.fecCount_nil]
  simp only [hparse, hd₁, hd₂]
  rw [if_neg (by rw [hcrc]; omega), if_neg hctl, if_neg (by rw [hmac]; decide), hip]
  simp only [hk]

end

/-! ### Transmitted packets (R179, R182) -/

theorem Device.packetTx_stopped {d : Device} {p : Nat} (f : List Byte) (t : TT)
    (h : modeEth (d.pmode p) = false ∨ d.up p = false) : d.packetTx p f t = d := by
  unfold Device.packetTx
  rw [if_pos (Device.eth_stopped h)]

section
variable {d : Device} {p : Nat} {f : List Byte} {e : EthPkt} (hm : modeEth (d.pmode p) = true) (hu : d.up p = true)
  (hb : d.boothDown p = false) (hparse : parseEth f = some e)
include hm hu hb hparse

theorem Device.packetTx_plain (t : TT) (hptp : ptpIn e = none) :
    d.packetTx p f t = (d.count R.PP_CNT_TX_PKTS [p]).putWire p 0 ((d.count R.PP_CNT_TX_PKTS [p]).wireFrame p f) := by
  unfold Device.packetTx
  simp only [hparse, hptp]
  rw [if_neg (Device.eth_runs hm hu hb)]

/-- A PTP event message of an encapsulation that ENCAPS has, where time stamps are taken and not written into Sync. -/
theorem Device.packetTx_stamped {t : TT} {enc : Nat} {m : List Byte} (hptp : ptpIn e = some (enc, m))
    (henc : bit ((d.count R.PP_CNT_TX_PKTS [p]).get R.PP_PTP_ENCAPS [p]) enc = true) (hevent : ptpEvent m = true)
    (hone : (d.count R.PP_CNT_TX_PKTS [p]).flag R.PP_PTP_ONE_STEP_EN [p] = false)
    (hstamp : (d.count R.PP_CNT_TX_PKTS [p]).flag R.PP_PTP_TX_STAMP_EN [p] = true) :
    d.packetTx p f t
      = (((d.count R.PP_CNT_TX_PKTS [p]).putWire p 0 ((d.count R.PP_CNT_TX_PKTS [p]).wireFrame p f)).txStamp p m t).showTxts p := by
  unfold Device.packetTx
  simp only [hparse, hptp, henc, hevent, hone, Bool.and_self, Bool.and_false, Bool.false_and, Bool.false_eq_true, if_false]
  rw [if_neg (Device.eth_runs hm hu hb), if_pos ⟨trivial, hstamp⟩]

end

/-! ### The stamp FIFO (R182) -/

theorem Device.prtx_of_bth {d t : Device} {p : Nat} (h : t.bth p = d.bth p) : t.prtx p = d.prtx p := congrArg (fun b => b.port) h

theorem Device.showTxts_bth (d : Device) (p q : Nat) : (d.showTxts p).bth q = d.bth q := by
  unfold Device.showTxts
  split
  · exact d.wr_bth _ _ _ _
  · simp only [Device.setFlag, Device.put_bth]

theorem Device.showTxts_rd (d : Device) (p : Nat) {r : Reg} (h : r.beside R.PP_TXTS = true) :
    (d.showTxts p).rd r [p] = d.rd r [p] := by
  unfold Device.showTxts
  split
  · exact d.rd_wr_beside _ _ h
  · rw [Device.setFlag, Device.rd_put_beside _ _ _ h, Device.rd_put_beside _ _ _ h, Device.rd_put_beside _ _ _ h]

theorem Device.txtsPop_empty {d : Device} {p : Nat} (h : (d.prtx p).txts = []) : d.txtsPop p = d := by
  unfold Device.txtsPop
  rw [h]

/-- A pop takes the head entry and shows its stamp. -/
theorem Device.txtsPop_head {d : Device} {p q m : Nat} {t : TT} {rest : List (Nat × Nat × TT)}
    (h : (d.prtx p).txts = (q, m, t) :: rest) :
    (d.txtsPop p).rd R.PP_TXTS_TIME [p] = t ∧ ((d.txtsPop p).prtx p).txts = rest := by
  unfold Device.txtsPop
  rw [h]
  refine ⟨?_, ?_⟩
  · exact (Device.showTxts_rd _ p (by decide)).trans (Device.rd_wr_same _ _ _ _)
  · rw [Device.prtx_of_bth ((Device.showTxts_bth _ p p).trans (Device.wr_bth _ _ _ _ p)), Device.setPrt_same]

/-! ### The slow path and GVCP (R181, R190) -/

theorem Device.slowServe_empty {d : Device} {p : Nat} (h : (d.prtx p).slow = []) (hr : d.ready = true) : d.slowServe p = d.gvcpAsk p := by
  unfold Device.slowServe
  rw [h]
  exact if_pos hr

theorem Device.gvcpTake_empty {d : Device} {p : Nat} (h : (d.prtx p).slow = []) : d.gvcpTake p = d := by
  unfold Device.gvcpTake
  rw [h]

theorem beBytes_length (n v : Nat) : (beBytes n v).length = n := by rw [beBytes, List.length_reverse, leBytes_length]

section
variable {d : Device} {p : Nat} {f : List Byte} {x : Option TT} {rest : List (List Byte × Option TT)}
  (hslow : (d.prtx p).slow = (f, x) :: rest)
include hslow

theorem Device.slowTake_ready (hr : d.ready = true) :
    d.slowTake p = (d.setPrt p { d.prtx p with slow := rest }).slowAnswer p f := by
  unfold Device.slowTake
  rw [hslow]
  exact if_pos hr

theorem Device.slowTake_unready (hr : d.ready = false) : d.slowTake p = d := by
  unfold Device.slowTake
  rw [hslow]
  exact if_neg (by rw [hr]; decide)

theorem Device.slowServe_plain (hg : isGvcp f = false) : d.slowServe p = d.slowTake p := by
  unfold Device.slowServe
  rw [hslow]
  exact if_neg (by rw [hg]; decide)

theorem Device.gvcpTake_plain (hg : isGvcp f = false) : d.gvcpTake p = d := by
  unfold Device.gvcpTake
  rw [hslow]
  exact if_pos (Or.inr (by rw [hg]; rfl))

/-- The answer goes out behind 42 bytes of Ethernet, IPv4 and UDP headers. -/
theorem Device.gvcpTake_answers {d' : Device} {m ack : List Byte} {mac ip port c : Nat} (hr : d.ready = true) (hg : isGvcp f = true)
    (hreq : gvcpRequest f = some (mac, ip, port, m)) (hd : d.setPrt p { d.prtx p with slow := rest } = d')
    (hc : d'.gvcpChannel p = some c) (hack : (d'.gvcpAnswer p c m).1 = some ack) :
    ∃ g, g.drop 42 = ack ∧ d.gvcpTake p = (d'.gvcpAnswer p c m).2.packetTx p g d.tt := by
  have htt : d'.tt = d.tt := hd ▸ d.setPrt_tt p _
  unfold Device.gvcpTake
  rw [hslow, ← htt]
  simp only [hd, hreq, hc, hack]
  rw [if_neg (by rw [hr, hg]; decide)]
  refine ⟨_, ?_, rfl⟩
  simp only [← List.append_assoc]
  exact List.drop_left' (by simp [beBytes_length, zeros])

end

/-! ### The merge hold (R187) -/

section
variable {d : Device} {p k : Nat} {t : TT} (hold : (d.pkt p k).holdSince = some t)
include hold

theorem Device.mergeExpire_due (h : d.holdTime p k ≤ ttDiff d.tt t) : d.mergeExpire p k = d.mergeClose p k := by
  unfold Device.mergeExpire
  rw [hold]
  exact if_pos h

theorem Device.mergeExpire_early (h : ttDiff d.tt t < d.holdTime p k) : d.mergeExpire p k = d := by
  unfold Device.mergeExpire
  rw [hold]
  exact if_neg (Int.not_le.2 h)

end

/-! ### What sending leaves of the servo -/

theorem Device.putWire_tim (d : Device) (p l : Nat) (bs : List Byte) : (d.putWire p l bs).tim = d.tim := d.setPrt_tim p _

theorem Device.count_tim (d : Device) (f : Fld) (ix : List Nat) : (d.count f ix).tim = d.tim := d.put_tim f ix _

theorem Device.txStamp_tim (d : Device) (p : Nat) (m : List Byte) (t : TT) : (d.txStamp p m t).tim = d.tim := by
  unfold Device.txStamp
  simp only
  split
  · exact d.put_tim _ _ _
  · exact d.setPrt_tim p _

theorem Device.showTxts_tim (d : Device) (p : Nat) : (d.showTxts p).tim = d.tim := by
  unfold Device.showTxts
  split
  · exact d.wr_tim _ _ _
  · simp only [Device.setFlag, Device.put_tim]

theorem Device.txtsPop_tim (d : Device) (p : Nat) : (d.txtsPop p).tim = d.tim := by
  unfold Device.txtsPop
  split
  · rfl
  · rw [Device.showTxts_tim, Device.wr_tim, Device.setPrt_tim]

theorem Device.packetTx_tim (d : Device) (p : Nat) (f : List Byte) (t : TT) : (d.packetTx p f t).tim = d.tim := by
  unfold Device.packetTx
  split
  · rfl
  · extract_lets msg d1
    have hd1 : d1.tim = d.tim := d.count_tim _ _
    clear_value msg d1
    cases msg with
    | none => exact (d1.putWire_tim _ _ _).trans hd1
    | some x =>
      simp only
      rw [apply_ite Device.tim, Device.showTxts_tim, Device.txStamp_tim, ite_self, Device.putWire_tim, hd1]

theorem Device.ptpSend_servo (d : Device) (m : List Byte) (t : TT) : (d.ptpSend m t).servo = d.servo := by
  refine congrArg (fun u => u.servo) (?_ : (d.ptpSend m t).tim = d.tim)
  unfold Device.ptpSend
  simp only
  split
  · rw [Device.txtsPop_tim, Device.packetTx_tim]
  · exact d.packetTx_tim _ _ _

/-! ### PTP messages that fall due (R339) -/

/-- The servo sends nothing: firmware is not READY, the servo is OFF, or the message is of no kind. -/
theorem Device.ptpTimer_stays {d : Device} {k : Nat} (t : TT) (h : d.ready = false ∨ d.servo.state = 0 ∨ 3 ≤ k) :
    d.ptpTimer k t = d := by
  unfold Device.ptpTimer
  simp only
  rcases h with hr | hs | hk
  · rw [if_pos (Or.inl (by rw [hr]; rfl))]
  · rw [if_pos (Or.inr (by rw [Device.servoRuns, hs]; rfl))]
  · split
    · rfl
    · rw [if_neg (by omega), if_neg (by omega), if_neg (by omega)]

theorem Device.ptp_runs {d : Device} (hr : d.ready = true) (hs : d.servo.state ≠ 0) :
    ¬ ((!d.ready) = true ∨ (!d.servoRuns) = true) := by
  simp [hr, Device.servoRuns, hs]

section
variable {d : Device} (t : TT) (hr : d.ready = true)
include hr

theorem Device.ptpTimer_sync (hs : d.servo.state = 6) (hdue : logInterval d.servo.syncLog ≤ ttDiff d.tt d.servo.sentSync) :
    (d.ptpTimer 0 t).servo = { d.servo with seqSync := (d.servo.seqSync + 1) % 65536, sentSync := d.tt } := by
  unfold Device.ptpTimer
  simp only
  rw [if_neg (Device.ptp_runs hr (by rw [hs]; decide)), if_pos ⟨trivial, hs, decide_eq_true hdue⟩]
  split <;> simp only [Device.ptpSend_servo, Device.setServo_servo]

theorem Device.ptpTimer_announce (hs : d.servo.state = 6)
    (hdue : logInterval d.servo.announceLog ≤ ttDiff d.tt d.servo.sentAnnounce) :
    (d.ptpTimer 1 t).servo = { d.servo with seqAnnounce := (d.servo.seqAnnounce + 1) % 65536, sentAnnounce := d.tt } := by
  unfold Device.ptpTimer
  simp only
  rw [if_neg (Device.ptp_runs hr (by rw [hs]; decide)), if_neg (fun h => absurd h.1 (by decide)),
    if_pos ⟨trivial, hs, decide_eq_true hdue⟩, Device.ptpSend_servo, Device.setServo_servo]

/-- A slave's Delay_Req, whose own stamp is kept where stamps are taken. -/
theorem Device.ptpTimer_delay (h1 : 1 ≤ d.servo.state) (h5 : d.servo.state ≤ 5)
    (hdue : logInterval d.servo.delayLog ≤ ttDiff d.tt d.servo.sentDelay) :
    (d.ptpTimer 2 t).servo = { d.servo with
      seqDelay := (d.servo.seqDelay + 1) % 65536
      sentDelay := d.tt
      delayReq := if d.flag R.PP_PTP_TX_STAMP_EN [d.servo.port] then some (d.servo.seqDelay, d.wallAt t) else none } := by
  unfold Device.ptpTimer
  simp only
  rw [if_neg (Device.ptp_runs hr (by omega)), if_neg (fun h => absurd h.1 (by decide)), if_neg (fun h => absurd h.1 (by decide)),
    if_pos ⟨trivial, by omega, decide_eq_true hdue⟩, Device.ptpSend_servo, Device.setServo_servo]

end

/-! ### Sync that fails to come (R340) -/

theorem Device.announceTimeout_early {d : Device} (h : ttDiff d.tt d.servo.lastSync < 3 * logInterval d.servo.announceLog) :
    d.announceTimeout = d := by
  unfold Device.announceTimeout
  exact if_pos (Or.inr h)

section
variable {d : Device} (hr : d.ready = true) (hlate : 3 * logInterval d.servo.announceLog ≤ ttDiff d.tt d.servo.lastSync)
include hr hlate

theorem Device.announceTimeout_master (hs : d.servo.state = 1) (hrole : d.servo.role = 1) :
    d.announceTimeout = d.setServo { d.servo with state := 6, parent := none } := by
  unfold Device.announceTimeout
  simp only
  rw [if_neg (by rw [hr]; simpa using hlate), if_pos ⟨hs, hrole⟩]

theorem Device.announceTimeout_holdover (h2 : 2 ≤ d.servo.state) (h4 : d.servo.state ≤ 4) :
    d.announceTimeout = d.setServo { d.servo with state := 5, parent := none } := by
  unfold Device.announceTimeout
  simp only
  rw [if_neg (by rw [hr]; simpa using hlate), if_neg (by omega), if_pos ⟨h2, h4⟩]

end

/-! ### The rows -/

/-- Settles O22: each row is one operation of the port or of the servo, and each clause one of its cases. -/
theorem packetRows : Obligations.PacketRows := by
  unfold Obligations.PacketRows
  refine ⟨fun s p f t ha hp hm hu hb hbad => ?damaged, fun s p f t e ha hp hm hu hb h64 h9600 hcrc hparse hctl => ?control, ?stream,
    fun s p f t ha hp h => ?stopped, fun s p f t e d ha hp hm hu hb hparse hd => ?transmit, fun s p q m t rest ha hp h => ?pop,
    fun s p ha hp h => ?popEmpty, fun s p f x rest ha hp hslow hg => ?slow, fun s p ha hp hslow hr => ?slowEmpty,
    fun s p f m ack x rest mac ip port c d ha hp hr hslow hg hreq hd hc hack => ?gvcp, fun s p k t ha hp hold => ?hold,
    fun s t ha hr hs hdue => ?sync, fun s t ha hr hs hdue => ?announce, fun s t ha hr h1 h5 hdue => ?delay,
    fun s k t ha h => ?timerStays, fun s ha hr hlate => ?late, fun s ha hearly => ?early⟩
  case damaged =>
    exact State.portDoes_of (f := fun d => d.ethFrame p f t []) rfl ha hp (Device.ethFrame_damaged hm hu hb t hbad)
  case control =>
    exact State.portDoes_of (f := fun d => d.ethFrame p f t []) rfl ha hp
      (Device.ethFrame_control hm hu hb h64 h9600 hcrc hparse t hctl)
  case stream =>
    intro s p f t e u k d ha hp hm hu hb h64 h9600 hcrc hparse hctl hmac hip hd hk
    exact State.portDoes_of (f := fun d => d.ethFrame p f t []) rfl ha hp
      (Device.ethFrame_stream hm hu hb h64 h9600 hcrc hparse hctl rfl hmac hip hd hk)
  case stopped =>
    exact ⟨State.portDoes_of (f := fun d => d.ethFrame p f t []) rfl ha hp (Device.ethFrame_stopped f t [] h),
      State.portDoes_of (f := fun d => d.packetTx p f t) rfl ha hp (Device.packetTx_stopped f t h)⟩
  case transmit =>
    subst hd
    refine ⟨fun hptp => ?_, fun enc m hptp henc hevent hone hstamp => ?_⟩
    · exact State.portDoes_of (f := fun d => d.packetTx p f t) rfl ha hp (Device.packetTx_plain hm hu hb hparse t hptp)
    · exact State.portDoes_of (f := fun d => d.packetTx p f t) rfl ha hp
        (Device.packetTx_stamped hm hu hb hparse hptp henc hevent hone hstamp)
  case pop => exact ⟨_, State.portDoes_of (f := fun d => d.txtsPop p) rfl ha hp rfl, Device.txtsPop_head h⟩
  case popEmpty => exact State.portDoes_of (f := fun d => d.txtsPop p) rfl ha hp (Device.txtsPop_empty h)
  case slow =>
    have hserve := Device.slowServe_plain hslow hg
    exact ⟨fun hr => State.portDoes_of (f := fun d => d.slowServe p) rfl ha hp (hserve.trans (Device.slowTake_ready hslow hr)),
      fun hr => State.portDoes_of (f := fun d => d.slowServe p) rfl ha hp (hserve.trans (Device.slowTake_unready hslow hr)),
      State.portDoes_of (f := fun d => d.gvcpTake p) rfl ha hp (Device.gvcpTake_plain hslow hg)⟩
  case slowEmpty =>
    exact ⟨State.portDoes_of (f := fun d => d.slowServe p) rfl ha hp (Device.slowServe_empty hslow hr),
      State.portDoes_of (f := fun d => d.gvcpTake p) rfl ha hp (Device.gvcpTake_empty hslow)⟩
  case gvcp =>
    obtain ⟨g, hg42, htake⟩ := Device.gvcpTake_answers hslow hr hg hreq hd hc hack
    exact ⟨g, hg42, State.portDoes_of (f := fun d => d.gvcpTake p) rfl ha hp htake⟩
  case hold =>
    exact ⟨fun h => State.portDoes_of (f := fun d => d.mergeExpire p k) rfl ha hp (Device.mergeExpire_due hold h),
      fun h => State.portDoes_of (f := fun d => d.mergeExpire p k) rfl ha hp (Device.mergeExpire_early hold h)⟩
  case sync =>
    have hservo := Device.ptpTimer_sync t hr hs hdue
    exact ⟨_, State.does_of_live (f := fun d => d.ptpTimer 0 t) rfl ha rfl, by rw [hservo], by rw [hservo]⟩
  case announce =>
    have hservo := Device.ptpTimer_announce t hr hs hdue
    exact ⟨_, State.does_of_live (f := fun d => d.ptpTimer 1 t) rfl ha rfl, by rw [hservo], by rw [hservo]⟩
  case delay =>
    have hservo := Device.ptpTimer_delay t hr h1 h5 hdue
    exact ⟨_, State.does_of_live (f := fun d => d.ptpTimer 2 t) rfl ha rfl, by rw [hservo], by rw [hservo]⟩
  case timerStays => exact State.does_of_live (f := fun d => d.ptpTimer k t) rfl ha (Device.ptpTimer_stays t h)
  case late =>
    exact ⟨fun hs hrole => State.does_of_live (f := Device.announceTimeout) rfl ha (Device.announceTimeout_master hr hlate hs hrole),
      fun h2 h4 => State.does_of_live (f := Device.announceTimeout) rfl ha (Device.announceTimeout_holdover hr hlate h2 h4)⟩
  case early => exact State.does_of_live (f := Device.announceTimeout) rfl ha (Device.announceTimeout_early hearly)

end Sys2Proof.Machine
end

section
/-! Scope: the Swatch and Mordant commands of mailbox group 0x07 (R248, R252, R255, R256, R263, R267, R268, R68): what each replies
once its own checks are passed. -/

namespace Sys2Proof.Machine

/-! ### What the body finds as the host left it -/

theorem Device.entered_recordBytes (d : Device) (e : Entry) (p k shift : Nat) :
    (d.entered e).recordBytes p k shift = d.recordBytes p k shift := by
  simp only [Device.recordBytes, Device.entered_get]

theorem Device.entered_sealUp (d : Device) (e : Entry) : (d.entered e).sealUp = d.sealUp := by
  rw [Device.sealUp, Device.entered_boothDown, ← Device.sealUp]

/-! ### SW_CONFIG (R255, R256) -/

/-- The fields of a context's configuration `b` lie in their ranges. -/
structure ContextForm (b : List Byte) : Prop where
  stream : fieldAt b 2 1 ≤ 63
  flags : fieldAt b 3 1 ≤ 31
  mapShift : fieldAt b 4 1 ≤ 3
  model : fieldAt b 5 1 ≤ 4
  records : fieldAt b 14 2 ≤ 1024
  packets : fieldAt b 28 4 < 2 ^ 24
  lineTime : fieldAt b 32 8 < 2 ^ 48
  frameTime : fieldAt b 40 8 < 2 ^ 48
  reserved : fieldAt b 59 1 = 0 ∧ fieldAt b 62 2 = 0
  hostRecords : bit (fieldAt b 3 1) 4 = true → fieldAt b 56 2 ≠ 0

/-- RES_SIZE in bytes of the context that `b` configures. -/
def Device.contextSize (d : Device) (b : List Byte) : Nat :=
  roundUp (d.recordBytes (fieldAt b 0 1) (fieldAt b 2 1) (fieldAt b 4 1)) 65536

/-- The change that SW_CONFIG stages, its records at `base`, with RES_SIZE to answer. -/
def Device.contextJob (d : Device) (b : List Byte) (base : Nat) : AloneJob where
  opcode := 0x0700
  key := []
  writes := swWrites b base (d.contextSize b)
  payload := leBytes 8 (d.contextSize b)

/-- The deliveries to the host that were `l`, after `b` has configured its context. -/
def contextDeliveries (b : List Byte) (l : List (Nat × Nat × Nat)) : List (Nat × Nat × Nat) :=
  l.filter (fun z => decide (z.1 ≠ fieldAt b 1 1))
    ++ (if bit (fieldAt b 3 1) 4 then [(fieldAt b 1 1, fieldAt b 48 8, fieldAt b 56 2)] else [])

/-- Without delivery the context's own entry is dropped and none takes its place. -/
theorem contextDeliveries_eq (b : List Byte) (l : List (Nat × Nat × Nat)) :
    contextDeliveries b l = if bit (fieldAt b 3 1) 4
      then l.filter (fun z => decide (z.1 ≠ fieldAt b 1 1)) ++ [(fieldAt b 1 1, fieldAt b 48 8, fieldAt b 56 2)]
      else l.filter (fun z => decide (z.1 ≠ fieldAt b 1 1)) := by
  unfold contextDeliveries
  split
  · rfl
  · exact List.append_nil _

/-- Replace the deliveries of a port booth. -/
def Device.setDeliver (d : Device) (p : Nat) (l : List (Nat × Nat × Nat)) : Device := d.setBth p { d.bth p with deliver := l }

/-- A well-formed SW_CONFIG over an allocation of its mailbox that holds two sets of records stages the context and, once it is
staged, keeps or drops its delivery. -/
theorem Device.swConfig_stages {d : Device} {e : Entry} {x : Alloc} {b : List Byte} (hb : d.input e = b) (hlen : e.inLen = 64)
    (hcheck : d.swCheck e (fieldAt b 0 1) (fieldAt b 1 1) = 0) (hform : ContextForm b)
    (halloc : d.allocFor e (fieldAt b 16 4) 3 = (0, some x)) (hsize : 2 * fieldAt b 14 2 * d.contextSize b ≤ x.size)
    (hnet : bit (fieldAt b 3 1) 4 = true →
      d.netAdmits false true .queue (fieldAt b 48 8) (fieldAt b 56 2 * d.contextSize b) = true)
    {r : Reply} (hstage : d.stageCmd e (fieldAt b 6 2) false (d.contextJob b x.off) = r) (hok : r.status = 0) :
    d.swConfig e
      = { r with dev := r.dev.setDeliver (fieldAt b 0 1) (contextDeliveries b (d.bth (fieldAt b 0 1)).deliver) } := by
  obtain ⟨hstream, hflags, hshift, hmodel, hrecords, hpackets, hline, hframe, ⟨hzero, hzero'⟩, hhost⟩ := hform
  have hroom : 2 * fieldAt b 14 2 * roundUp (d.recordBytes (fieldAt b 0 1) (fieldAt b 2 1) (fieldAt b 4 1)) 65536 ≤ x.size := hsize
  subst hb
  rw [contextDeliveries_eq]
  unfold Device.swConfig
  simp only [halloc]
  rw [if_neg (not_not.2 hlen), if_neg (not_not.2 hcheck), if_neg ?ranges, if_neg (by omega), if_neg ?admitted]
  · subst hstage
    exact if_neg (not_not.2 hok)
  case ranges =>
    rintro (h | h | h | h | h | h | h | h | h | h | ⟨hdeliver, hnone⟩)
    any_goals omega
    exact hhost hdeliver hnone
  case admitted => exact fun h => ne_true_of_eq_false ((Bool.not_eq_true' _).mp h.2) (hnet h.1)

/-! ### SW_REFERENCE and SW_REGION (R248) -/

section
variable {d : Device} {e : Entry} (hcheck : d.swCheck e (e.u 12 1) (e.u 13 1) = 0)
include hcheck

/-- SW_REFERENCE with CLEAR takes REF_VALID away and needs no allocation. -/
theorem Device.swReference_invalidates (hact : e.u 14 1 = 1) (hzero : e.u 15 1 = 0) :
    d.swReference e = d.stageCmd e (e.u 16 2) false
      { opcode := 0x0701, key := [], writes := [stageField R.SW_CX_CTL_REF_VALID [e.u 12 1, e.u 13 1] 0] } := by
  unfold Device.swReference
  simp only
  rw [if_neg (not_not.2 hcheck), if_neg (by omega), if_pos hact]

/-- The writes that give the context `ix` its reference store at `base`. -/
def referenceWrites (ix : List Nat) (base stride lines : Nat) : List MaskedWrite :=
  [stageField R.SW_CX_REF_REF_BASE ix base,
    stageFields R.SW_CX_REFG ix [(R.SW_CX_REFG_REF_STRIDE, stride / 64), (R.SW_CX_REFG_REF_LINES, lines)],
    stageField R.SW_CX_CTL_REF_VALID ix 1]

/-- A reference whose lines hold those of the context's stream, inside an allocation of its mailbox, is staged and made valid. -/
theorem Device.swReference_stages {x : Alloc} (hact : e.u 14 1 = 0) (hzero : e.u 15 1 = 0)
    (halloc : d.allocFor e (e.u 20 4) 2 = (0, some x)) (hstride : e.u 32 4 % 64 = 0 ∧ e.u 32 4 ≤ 262144)
    (hline : d.get R.CAP_SC_FMT_LINE_LEN [e.u 12 1, d.get R.SW_CX_CTL_STREAM [e.u 12 1, e.u 13 1]] ≤ e.u 32 4)
    (hlines : e.u 36 4 ≠ 0 ∧ e.u 36 4 ≤ 1048576) (hbase : e.u 24 8 % 64 = 0)
    (hroom : e.u 24 8 + e.u 32 4 * e.u 36 4 ≤ x.size) :
    d.swReference e = d.stageCmd e (e.u 16 2) false
      { opcode := 0x0701, key := [],
        writes := referenceWrites [e.u 12 1, e.u 13 1] (x.off + e.u 24 8) (e.u 32 4) (e.u 36 4) } := by
  unfold Device.swReference
  simp only [halloc]
  rw [if_neg (not_not.2 hcheck), if_neg (by omega), if_neg (by omega), if_neg (by omega), if_neg (by omega)]
  rfl

/-- The writes that place region `k` of context `[p, c]` and set its enable to `on`. -/
def regionWrites (p c k on : Nat) (e : Entry) : List MaskedWrite :=
  [stageFields R.SW_CX_ROI [p, c, k]
      [(R.SW_CX_ROI_X0, e.u 16 2), (R.SW_CX_ROI_Y0, e.u 18 2), (R.SW_CX_ROI_W, e.u 20 4), (R.SW_CX_ROI_H, e.u 24 4)],
    { addr := R.SW_CX_CTL.addr [p, c], mask := BitVec.ofNat 64 (2 ^ (R.SW_CX_CTL_ROI_EN.lo + k))
      value := BitVec.ofNat 64 (on * 2 ^ (R.SW_CX_CTL_ROI_EN.lo + k)) }]

theorem Device.swRegion_stages (hk : e.u 14 1 ≤ 15) (hon : e.u 15 1 ≤ 1) (hw : e.u 20 4 ≤ 65535) (hh : e.u 24 4 ≤ 65535) :
    d.swRegion e = d.stageCmd e (e.u 28 2) false
      { opcode := 0x0702, key := [], writes := regionWrites (e.u 12 1) (e.u 13 1) (e.u 14 1) (e.u 15 1) e } := by
  unfold Device.swRegion
  simp only
  rw [if_neg (not_not.2 hcheck), if_neg (by omega)]
  rfl

end

/-! ### SW_RESULT (R256) -/

/-- The address of the record of slot `sl` in generation `g`. -/
def Device.recordAddr (d : Device) (ix : List Nat) (g : Bool) (sl : Nat) : Nat :=
  d.get R.SW_CX_RES_RES_BASE ix
    + (b2n g * d.get R.SW_CX_RESG_RES_COUNT ix + sl) * (d.get R.SW_CX_RESG_RES_SIZE ix * 65536)

/-- SW_RESULT copies the record of a slot that is closed, thus the consumer's, into an output buffer that holds it. -/
theorem Device.swResult_copies {d : Device} {e : Entry} {b : List Byte} {p c k n sl : Nat} {g : Bool} (hb : d.input e = b)
    (hlen : e.inLen = 4) (hp : fieldAt b 0 1 = p) (hc : fieldAt b 1 1 = c) (hsl : fieldAt b 2 2 % 1024 = sl)
    (hg : bit (fieldAt b 2 2) 15 = g) (hzero : bits (fieldAt b 2 2) 10 5 = 0) (hcheck : d.swCheck e p c = 0)
    (hk : d.get R.SW_CX_CTL_STREAM [p, c] = k) (hn : d.recordBytes p k (d.get R.SW_CX_CTL_MAP_SHIFT [p, c]) = n)
    (hroom : n ≤ e.outLen) (hclosed : d.slotState p k g sl = 2) :
    d.swResult e = { status := 0, out := d.hbmRead (d.recordAddr [p, c] g sl) n, dev := d } := by
  subst hb hp hc hsl hg hk hn
  unfold Device.swResult
  simp only
  rw [if_neg (not_not.2 hlen), if_neg (not_not.2 hcheck), if_neg (not_not.2 hzero), if_neg (Nat.not_lt.2 hroom),
    if_neg (not_not.2 hclosed)]
  rfl

/-! ### MD_CONFIG (R263, R268) -/

/-- What MD_CONFIG checks of the port it names; 0xFF names none. -/
def Device.sealPortCheck (d : Device) (e : Entry) : Nat :=
  if e.u 12 1 = 0xFF then 0 else if 7 < e.u 12 1 then stBAD_FIELD else if !d.portPresent (e.u 12 1) then stNOT_PRESENT
  else if d.lent (e.u 12 1) then stBUSY else if !d.mayPort e.via (e.u 12 1) then stNOT_OWNER else 0

theorem Device.sealPortCheck_ok {d : Device} {e : Entry} (h : e.u 12 1 ≠ 0xFF →
      e.u 12 1 ≤ 7 ∧ d.portPresent (e.u 12 1) = true ∧ d.lent (e.u 12 1) = false ∧ d.mayPort e.via (e.u 12 1) = true) :
    d.sealPortCheck e = 0 := by
  unfold Device.sealPortCheck
  split
  case isTrue => rfl
  case isFalse hport =>
    obtain ⟨hp, hpresent, hlent, hmay⟩ := h hport
    rw [if_neg (Nat.not_lt.2 hp), if_neg (by rw [hpresent]; decide), if_neg (by rw [hlent]; decide), if_neg (by rw [hmay]; decide)]

/-- The write of a port's seal enables; none where MD_CONFIG names no port. -/
def sealEnables (e : Entry) : List MaskedWrite :=
  if e.u 12 1 = 0xFF then [] else [stageField R.MS_SEAL_EN_EN [e.u 12 1] (e.u 16 8)]

/-- Set where the host takes its copies of the manifests, as MD_CONFIG names it. -/
def Device.setManifestHost (d : Device) (e : Entry) : Device :=
  d.setMb { d.mb with hostAddr := e.u 44 8, hostCount := e.u 15 1, queue := e.u 36 4 }

section
variable {d : Device} {e : Entry} (hport : d.sealPortCheck e = 0) (hform : e.u 13 1 ≤ 3 ∧ e.u 26 2 = 0 ∧ e.u 42 2 = 0)
include hport hform

/-- Past its common checks MD_CONFIG stages the seal enables where SET is 0. -/
theorem Device.mdConfig_seals (hset : bit (e.u 13 1) 0 = false) :
    d.mdConfig e = d.stageCmd e (e.u 40 2) false { opcode := 0x0704, key := [], writes := sealEnables e } := by
  unfold Device.mdConfig
  refine (if_neg (not_not.2 hport)).trans ((if_neg (by omega)).trans (if_pos ?_))
  rw [hset]
  rfl

/-- With SET the principal also stages the builder, over an allocation that holds its ring and a host range that the Net
admits; once they are staged the copies to the host are set. -/
theorem Device.mdConfig_builds {x : Alloc} (hset : bit (e.u 13 1) 0 = true) (hbuilder : mdForm e = true)
    (hprincipal : e.via.principal = true) (halloc : d.alloc (e.u 32 4) = some x) (hroom : e.u 14 1 * manifestSlot ≤ x.size)
    (hnet : d.netAdmits false true .queue (e.u 44 8) (e.u 15 1 * manifestSlot) = true) {r : Reply}
    (hstage : d.stageCmd e (e.u 40 2) false { opcode := 0x0704, key := [], writes := mdWrites e x.off ++ sealEnables e } = r)
    (hok : r.status = 0) :
    d.mdConfig e = { r with dev := r.dev.setManifestHost e } := by
  subst hstage
  unfold Device.mdConfig
  refine (if_neg (not_not.2 hport)).trans ((if_neg (by omega)).trans ?_)
  simp only [halloc]
  rw [if_neg (by rw [hset]; decide), if_neg (by rw [hbuilder]; decide), if_neg (by rw [hprincipal]; decide),
    if_neg (Nat.not_lt.2 hroom), if_neg (by rw [hnet]; decide)]
  exact if_neg (not_not.2 hok)

end

/-! ### MD_FLUSH, MD_STATEMENT and MD_QUERY (R263, R267) -/

/-- FLUSH of an enabled builder with no close deferred closes the open manifest. -/
theorem Device.mbFlush_closes {d : Device} (hup : d.sealUp = true) (hen : d.flag R.MB_CTL_EN [] = true)
    (hdeferred : d.mb.deferred = none) : d.mbFlush = d.closeManifest 2 false := by
  refine if_neg ?_
  rw [hup, hen, hdeferred]
  decide

theorem Device.mdStatement_gives {d : Device} {e : Entry} (hroom : 288 ≤ e.outLen) (hkey : d.flag R.MB_STAT_KEY_READY [] = true) :
    d.mdStatement e = { status := 0, out := fit 288 d.mb.stmt, dev := d } := by
  unfold Device.mdStatement
  rw [if_neg (Nat.not_lt.2 hroom), if_neg (by rw [hkey]; decide)]

/-! ### The group -/

/-- Settles O45: each command is one operation once its own checks are passed. -/
theorem sealCommands : Obligations.SealCommands := by
  unfold Obligations.SealCommands
  refine ⟨?context, ?reference, ?invalid, ?region, ?result, ?enables, ?builder, fun s e hup hen hdeferred => ?flush,
    fun s e hroom hkey => ?statement, fun s e => State.gives_of (body := Device.mdQuery e) rfl fun _ => ⟨rfl, rfl, rfl⟩⟩
  case context =>
    intro s e b size x ws hb hlen hsize hcheck hstream hflags hshift hmodel hrecords hpackets hline hframe hzero hzero' halloc hroom
      hdeliver hws htakes
    have hform : ContextForm b := ⟨hstream, hflags, hshift, hmodel, hrecords, hpackets, hline, hframe, ⟨hzero, hzero'⟩,
      fun h => (hdeliver h).1⟩
    have hjob : (s.dev.entered e).contextSize b = size := by rw [Device.contextSize, Device.entered_recordBytes, hsize]
    subst hws hjob
    have hcarries := Device.stageCmd_carries (acc := false) (job := (s.dev.entered e).contextJob b x.off) htakes
    refine State.gives_of (body := Device.swConfig e) rfl fun _ => ⟨_, hcarries, ?_⟩
    exact Device.swConfig_stages hb hlen hcheck hform halloc hroom (fun h => (hdeliver h).2) rfl
      ((Device.carries_status hcarries).trans (if_neg (by simp)))
  case reference =>
    intro s e p c k x ws hp hc hcheck hact hzero halloc hk hstride hline hstride' hlines hlines' hbase hroom hws htakes
    subst hp hc hk hws
    refine State.gives_of (body := Device.swReference e) rfl fun _ => ?_
    rw [Device.swReference_stages hcheck hact hzero halloc ⟨hstride, hstride'⟩ (by simpa using hline) ⟨hlines, hlines'⟩ hbase hroom]
    exact Device.stageCmd_carries htakes
  case invalid =>
    intro s e p c ws hp hc hcheck hact hzero hws htakes
    subst hp hc hws
    refine State.gives_of (body := Device.swReference e) rfl fun _ => ?_
    rw [Device.swReference_invalidates hcheck hact hzero]
    exact Device.stageCmd_carries htakes
  case region =>
    intro s e p c k m ws hp hc hk hcheck hk15 hon hw hh hm hws htakes
    subst hp hc hk hm hws
    refine State.gives_of (body := Device.swRegion e) rfl fun _ => ?_
    rw [Device.swRegion_stages hcheck hk15 hon hw hh]
    exact Device.stageCmd_carries htakes
  case result =>
    intro s e b p c k n sl g hb hlen hp hc hsl hg hzero hcheck hk hn hroom hclosed
    refine State.gives_of (body := Device.swResult e) rfl fun _ => ?_
    rw [Device.swResult_copies hb hlen hp hc hsl hg hzero hcheck ((Device.entered_get _ _ _ _).trans hk)
      ((Device.entered_recordBytes _ _ _ _ _).trans (by rw [Device.entered_get, hn])) hroom hclosed]
    exact ⟨rfl, rfl, rfl⟩
  case enables =>
    intro s e p ws hp hset hflags hzero hzero' hnamed hp7 hpresent hlent hmay hws htakes
    subst hp hws
    have hport : (s.dev.entered e).sealPortCheck e = 0 := Device.sealPortCheck_ok fun _ =>
      ⟨hp7, (s.dev.entered_portPresent e _).trans hpresent, (s.dev.entered_lent e _).trans hlent, hmay⟩
    refine State.gives_of (body := Device.mdConfig e) rfl fun _ => ?_
    rw [Device.mdConfig_seals hport ⟨hflags, hzero, hzero'⟩ hset, sealEnables, if_neg hnamed]
    exact Device.stageCmd_carries htakes
  case builder =>
    intro s e p x ws hp hset hflags hzero hzero' hnamed hform hprincipal halloc hroom hnet hws htakes
    subst hp hws
    have hport : (s.dev.entered e).sealPortCheck e = 0 := Device.sealPortCheck_ok fun h => by
      rw [Device.entered_portPresent, Device.entered_lent]
      exact hnamed h
    have hcarries := Device.stageCmd_carries (acc := false)
      (job := { opcode := 0x0704, key := [], writes := mdWrites e x.off ++ sealEnables e }) htakes
    refine State.gives_of (body := Device.mdConfig e) rfl fun _ => ⟨_, hcarries, ?_⟩
    exact Device.mdConfig_builds hport ⟨hflags, hzero, hzero'⟩ hset hform hprincipal ((s.dev.entered_alloc e _).trans halloc) hroom hnet
      rfl ((Device.carries_status hcarries).trans (if_neg (by simp)))
  case flush =>
    refine State.gives_of (body := Device.mdFlush e) rfl fun _ => ⟨rfl, rfl, ?_⟩
    exact Device.mbFlush_closes ((s.dev.entered_sealUp e).trans hup) ((s.dev.entered_flag e _ _).trans hen) hdeferred
  case statement =>
    refine State.gives_of (body := Device.mdStatement e) rfl fun _ => ?_
    rw [Device.mdStatement_gives hroom ((s.dev.entered_flag e _ _).trans hkey)]
    exact ⟨rfl, rfl, rfl⟩

end Sys2Proof.Machine
end

section
/-! Scope: what a device fault (R137) leaves of the seals that wait in the Mordant slice of port 0 (R270), and of a device with no
write pending. -/

namespace Sys2Proof.Machine

/-! ### Seals that wait in a slice -/

/-- No seal waits in the Mordant slice of port `p`. -/
def Device.Sealless (p : Nat) (d : Device) : Prop := (d.bth p).seals = []

namespace Device.Sealless
variable {p : Nat} {d : Device}

theorem ite {c : Prop} [Decidable c] {x y : Device} (hx : x.Sealless p) (hy : y.Sealless p) : (if c then x else y).Sealless p := by
  split
  · exact hx
  · exact hy

/-- The slice of port `p` has just been emptied. -/
theorem setBth_same {x : BoothX} (hx : x.seals = []) : (d.setBth p x).Sealless p := (congrArg BoothX.seals (d.setBth_same p x)).trans hx

variable (h : d.Sealless p)
include h

/-! Parts of the device that no booth is in. -/

theorem wr {r : Reg} {ix : List Nat} {v : Word} : (d.wr r ix v).Sealless p := h

theorem setCtl {x : ControlX} : ({ d with ctl := x } : Device).Sealless p := h

theorem setTim {x : TimingX} : ({ d with tim := x } : Device).Sealless p := h

theorem setChan {e c : Nat} {x : DmaX} : (d.setChan e c x).Sealless p := h

theorem setMot {x : MotionX} : ({ d with mot := x } : Device).Sealless p := h

theorem setHst {x : HostX} : ({ d with hst := x } : Device).Sealless p := h

theorem setHbm {x : Sparse Byte} : ({ d with hbm := x } : Device).Sealless p := h

theorem setSec {x : SecX} : ({ d with sec := x } : Device).Sealless p := h

theorem setPow {x : PowerX} : ({ d with pow := x } : Device).Sealless p := h

theorem put {f : Fld} {ix : List Nat} {v : Nat} : (d.put f ix v).Sealless p := h.wr

theorem setFlag {f : Fld} {ix : List Nat} {v : Bool} : (d.setFlag f ix v).Sealless p := h.put

theorem setBth {q : Nat} {x : BoothX} (hx : x.seals = [] ∨ x.seals = (d.bth q).seals) : (d.setBth q x).Sealless p := by
  by_cases hq : p = q
  · subst hq
    exact setBth_same (hx.elim id fun hx => hx.trans h)
  · have hb : (d.setBth q x).bth p = d.bth p := by simp [Device.setBth, Device.bth, Sparse.get_put_ne _ _ _ hq]
    exact (congrArg BoothX.seals hb).trans h

/-! The units of the port booths. -/

theorem captureFault {q k : Nat} : (d.captureFault q k).Sealless p := ((h.setBth (Or.inr (by rfl))).wr).setFlag

theorem paletteFault {q : Nat} : (d.paletteFault q).Sealless p := by
  unfold Device.paletteFault Device.showPal
  refine setFlag (put (List.foldlRecOn _ _ (List.foldlRecOn _ _ h fun _ ht _ _ => ?_) fun _ ht _ _ => ht.setFlag))
  exact ht.setBth (Or.inr (by rfl))

/-- What follows in a port booth once its slice has lost its seals. -/
theorem afterSeals {q : Nat} {x : PortX} : (((d.put R.MS_STAT_WAITING [q] 0).setPrt q x).paletteFault q).Sealless p :=
  (h.put.setBth (Or.inr (by rfl))).paletteFault

theorem boothUnitsFault {q : Nat} : (d.boothUnitsFault q).Sealless p := by
  unfold Device.boothUnitsFault
  exact afterSeals ((List.foldlRecOn _ _ h fun _ ht _ _ => ht.captureFault).setBth (Or.inl rfl))

/-! The other units. -/

theorem disarmFault {b : Nat} : (d.disarmFault b).Sealless p := by
  unfold Device.disarmFault
  refine List.foldlRecOn _ _ (List.foldlRecOn _ _ ?_ fun _ ht _ _ => ht.setBth (Or.inr (by rfl))) fun _ ht _ _ => ht.setTim
  exact ((h.setFlag.put).setFlag).setTim

theorem barkerDeviceFault : d.barkerDeviceFault.Sealless p := by
  unfold Device.barkerDeviceFault
  refine wr (wr (put (setTim ?_)))
  refine List.foldlRecOn _ _ (List.foldlRecOn _ _ h fun _ ht _ _ => ht.disarmFault) fun _ ht _ _ => ?_
  exact ite (ht.setTim.setFlag.setFlag) ht

theorem abortSlew : d.abortSlew.Sealless p := h.setTim.wr.setFlag

theorem timeDeviceFault : d.timeDeviceFault.Sealless p := by
  unfold Device.timeDeviceFault
  extract_lets x d1 d2 d3 d4
  have h3 : d3.Sealless p := setFlag (setFlag h.setTim)
  have h4 : d4.Sealless p := ite h3.abortSlew h3
  exact h4.setTim

theorem dropSets {e c st : Nat} : (d.dropSets e c st).Sealless p := ((h.setFlag.put).put).setChan

theorem enginesDeviceFault : d.enginesDeviceFault.Sealless p :=
  List.foldlRecOn _ _ h fun _ ht _ _ => setFlag (put (List.foldlRecOn _ _ ht fun _ hu _ _ => hu.dropSets))

theorem axisFaultRest {k : Nat} : (d.axisFaultRest k).Sealless p := by
  unfold Device.axisFaultRest Device.axisOff
  have hoff := (h.setFlag (f := R.CD_CTL_EN) (ix := [k]) (v := false)).put (f := R.MP_STAT_STATE) (ix := [k]) (v := 0)
  exact ite h (ite h.put (ite hoff.setFlag hoff.setFlag.setFlag))

theorem showResting : d.showResting.Sealless p := by
  unfold Device.showResting
  exact ite h.put.put h.put

theorem motionDeviceFault : d.motionDeviceFault.Sealless p := by
  unfold Device.motionDeviceFault
  refine showResting (List.foldlRecOn _ _ h.setFlag fun _ ht _ _ => ?_)
  exact ite ht.setFlag.setMot.axisFaultRest ht.setFlag.setMot.put

theorem powerDeviceFault : d.powerDeviceFault.Sealless p := by
  unfold Device.powerDeviceFault Device.setVreq
  exact setPow (ite h h.put.setPow)

theorem breakFlash : d.breakFlash.Sealless p := by
  unfold Device.breakFlash
  exact setSec (ite h h.setCtl)

theorem loseAnswers : d.loseAnswers.Sealless p := setHst h.setCtl

theorem ringmasterRestart : d.ringmasterRestart.Sealless p := by
  unfold Device.ringmasterRestart
  exact setFlag (setFlag (loseAnswers (setFlag (setFlag (put (put (setHbm (setCtl h.breakFlash.put))))))))

theorem boothsHalt : d.boothsHalt.Sealless p := List.foldlRecOn _ _ h fun _ ht _ _ => ite ht.put ht

theorem fire {c : Nat} : (d.fire c).Sealless p := by
  unfold Device.fire Device.fireStamped Device.firingMarks
  extract_lets m f d1 d2
  have h1 : d1.Sealless p := put h.setTim
  have h2 : d2.Sealless p := ite h1.wr h1
  exact ite h.put (ite h2.setFlag h2)

end Device.Sealless

/-- A port booth's units at a fault, the slice among them. -/
theorem Device.boothUnitsFault_sealless (d : Device) (p : Nat) : (d.boothUnitsFault p).Sealless p := by
  unfold Device.boothUnitsFault
  exact (Device.Sealless.setBth_same rfl).afterSeals

/-- Port 0 is the first whose units take their share. -/
theorem Device.unitsDeviceFault_sealless {d : Device} (hp : d.portPresent 0 = true) : d.unitsDeviceFault.Sealless 0 := by
  have hports : ((List.range 8).foldl (fun (d : Device) p => if d.portPresent p then d.boothUnitsFault p else d) d).Sealless 0 := by
    rw [List.range_succ_eq_map, List.foldl_cons, if_pos hp]
    exact List.foldlRecOn _ _ (d.boothUnitsFault_sealless 0) fun _ ht _ _ => Device.Sealless.ite ht.boothUnitsFault ht
  exact hports.barkerDeviceFault.timeDeviceFault.enginesDeviceFault.motionDeviceFault.powerDeviceFault

/-- The device at a device fault, before its units take their share (R137). -/
def Device.faultTaken (d : Device) (reason : Nat) (cut : Bool) : Device :=
  (d.faultLogged reason cut).stormCleared.bmbDiscard.curtainDeviceFault.sequencersDeviceFault

/-- A device fault takes the seals that wait in the slice of port 0, where that is present. -/
theorem Device.deviceFault_sealless {d : Device} {reason : Nat} {cut : Bool} (hp : (d.faultTaken reason cut).portPresent 0 = true) :
    (d.deviceFault reason cut).Sealless 0 := by
  rw [Device.deviceFault_eq]
  exact (Device.unitsDeviceFault_sealless hp).ringmasterRestart.boothsHalt.fire

/-! ### A device with no write pending -/

namespace Device.Struck
variable {n : Nat} {o : List Response} {d : Device}

theorem settle_nothing (h : d.Struck n o []) {sel : PendWrite → Bool} : (d.settle sel).Struck n o [] := by
  unfold Device.settle
  rw [h.pend]
  simp only [List.filter_nil, List.foldl_nil]
  exact (h.setCtl (by rfl) (by rfl) h.pend.symm).refreshApplied

theorem deviceFault_nothing (h : d.Struck n [] []) {reason : Nat} {cut : Bool} : (d.deviceFault reason cut).Struck n [] [] := by
  have hcurtain : (d.faultLogged reason cut).stormCleared.bmbDiscard.curtainDeviceFault.Struck n [] [] := by
    rw [Device.curtainDeviceFault_eq]
    exact h.faultLogged.stormCleared.bmbDiscard.abortOpenSlots.settle_nothing.discardMotion.refreshApplied
  rw [Device.deviceFault_eq]
  exact hcurtain.sequencersDeviceFault.unitsDeviceFault.ringmasterRestart.boothsHalt.fire

/-- The seal booth's own state is none of what a device is struck in. -/
theorem setMb {ps : List PendWrite} (h : d.Struck n o ps) {b : SealBooth} : (d.setMb b).Struck n o ps := by
  have hb : ({ d with prt := { d.prt with mordant := b } } : Device).Struck n o ps :=
    ⟨h.result, h.off, h.down, h.link, h.since, h.now, h.idle, h.owed, h.free, h.queue, h.pend, h.halted⟩
  unfold Device.setMb Device.showMb
  exact ((((((hb.put (by decide)).put (by decide)).setFlag (by decide)).setFlag (by decide)).setFlag (by decide)).wr (by decide)).wr
    (by decide)

end Device.Struck

end Sys2Proof.Machine
end

section
/-! Scope: the manifest builder (R261 to R263, R232): a state in which taking a seal takes the seals behind it as well. -/

namespace Sys2Proof.Machine

/-! ### The seal that the builder takes -/

/-- The seal `x` at the head of port `p`'s slice numbered and put into the open manifest, `rest` waiting on (R262, R263). -/
def Device.sealNumbered (d : Device) (p : Nat) (x : SealX) (rest : List SealX) : Device :=
  let d := (d.setBth p { d.bth p with seals := rest }).put R.MS_STAT_WAITING [p] rest.length
  let no := skipEntry d.mb.entry
  let o := { d.mb.open_ with first := if d.mb.open_.entries = [] then no else d.mb.open_.first
                             entries := d.mb.open_.entries ++ [sealEntry no p x] }
  d.setMb { d.mb with open_ := o, entry := no + 1, freshAt := d.tt, fresh := if d.mb.freshAt = d.tt then d.mb.fresh + 1 else 1 }

/-- With the waiting place free an enabled builder numbers the next seal, writes its frame's tag again, and closes the manifest by
COUNT where that fills it. -/
theorem Device.sealAccept_takes {d t : Device} {p : Nat} {x : SealX} {rest : List SealX} (hnext : d.nextSeal = some p)
    (hseals : (d.bth p).seals = x :: rest) (hup : d.sealUp = true) (hen : d.flag R.MB_CTL_EN [] = true) (hwait : d.mb.waiting = none)
    (ht : (d.sealNumbered p x rest).sealTagWrite p x (skipEntry d.mb.entry % 2 ^ 32) = t) :
    d.sealAccept = t.closeManifest 0 false ∨ d.sealAccept = t.countCloses := by
  have hroom : d.manifestFull = false := by rw [Device.manifestFull, hwait]; rfl
  have hrefuse : ((d.setBth p { d.bth p with seals := rest }).put R.MS_STAT_WAITING [p] rest.length).sealsRefused = false := by
    show (d.mb.waiting.isSome && _ && _) = false
    rw [hwait]
    rfl
  subst ht
  unfold Device.sealAccept
  simp only [hnext, hseals, hrefuse]
  rw [if_neg (by rw [hup, hen, hroom]; simp), if_neg (by decide)]
  exact ite_eq_or_eq _ _ _

/-- The tag with SEALED and SEAL_INDEX (R232, R261). -/
def sealedTag (tag : List Byte) (index : Nat) : List Byte :=
  let st := fieldAt tag 72 4
  patch (patch tag 72 (leBytes 4 (if bit st 15 then st else st + 0x8000))) 88 (leBytes 4 index)

/-- The frame of the seal keeps its new tag. -/
def Device.sealMarked (d : Device) (p : Nat) (x : SealX) (tag : List Byte) : Device :=
  d.modFrames p x.stream (fun f => decide (f.no = x.frame)) (fun f => { f with tag := tag, sealSt := 2 })

/-- A tag that the Net refuses beside its payload is a violation (R132, R239). -/
theorem Device.sealTagWrite_refused {d : Device} {p index : Nat} {x : SealX} {f : FrameX} {tag : List Byte}
    (hframe : (d.cap p x.stream).frame x.frame = some f) (hslot : f.slot.isSome = true) (htag : sealedTag f.tag index = tag)
    (hsome : tag ≠ []) (hnet : (d.sealMarked p x tag).netAdmits true true .port (f.base + f.cfg.tagOffset) tag.length = false) :
    d.sealTagWrite p x index
      = (d.sealMarked p x tag).violation p 1 (f.base + f.cfg.tagOffset) tag.length (4 * 4096 + p) := by
  subst htag
  unfold Device.sealTagWrite
  simp only [hframe]
  refine (if_pos hslot).trans ?_
  exact congrArg Prod.snd ((if_neg hsome).trans (if_neg (ne_true_of_eq_false hnet)))

theorem State.does_sealAccept {s : State} (h : s.awake) : s.does .sealAccept s.dev.sealAccept :=
  State.does_of_live (f := Device.sealAccept) rfl h rfl

/-- Where firmware is halted and gives no queues back, a command leaves one device and no other. -/
theorem State.does_unique {s : State} {i : Instr} {d t : Device} (hw : s.waiting = []) (hh : d.sec.jtagHalted = true)
    (hu : d.Unreleased) (hd : s.does i d) (ht : s.does i t) : t = d := by
  have hsame : ({ s with dev := t } : State).settle = ({ s with dev := d } : State).settle := by injection (Eq.symm ht).trans hd
  have hfinal : ({ s with dev := t } : State).settle.dev = d := by
    rw [hsame]
    exact State.settle_halted (s := { s with dev := d }) hw hh
  exact (State.settle_unserved (s := { s with dev := t }) hw (hfinal ▸ hu)).symm.trans hfinal

/-! ### A state in which the seals behind the one taken are lost -/

/-- A seal of the frame below. -/
def stormSeal : SealX := { stream := 0, frame := 0, epoch := 0, status := 0, hash := [], digest := [] }

/-- The seals behind it: that of the next frame. -/
def stormRest : List SealX := [{ stormSeal with frame := 1 }]

/-- A stored frame whose slot lies at offset 0. -/
def stormFrame : FrameX :=
  { no := 0, epoch := 0, cfg := {}, slot := some 0, gen := false, status := 0, firstTT := 0, wireFrame := 0, trigId := 0, after := 0
    closed := true, tag := zeros 128, sealSt := 1 }

/-- Two seals wait in the slice of port 0 for the enabled builder; no window of the Net is open, and fifteen violations count towards
a storm. -/
def stormState : State :=
  let d : Device := {}
  let d := { d with sec := { d.sec with inReset := false, jtagHalted := true }
                    tim := { d.tim with time := { d.tim.time with acc := 65536 } } }
  let d := d.setCtl { d.ctl with logger := { d.ctl.logger with storm := List.replicate 15 0 } }
  let d := (d.setCtx 510 { kind := 1 }).setFlag R.MB_CTL_EN [] true
  { dev := d.setBth 0 { seals := stormSeal :: stormRest, caps := [(0, { frames := [stormFrame] })] } }

/-- The device as the tag of the first seal's frame is to be written. -/
def stormMarked : Device := (stormState.dev.sealNumbered 0 stormSeal stormRest).sealMarked 0 stormSeal (sealedTag stormFrame.tag 0)

/-- The refused write of the tag, counted. -/
def stormViolated : Device := stormMarked.violationCounted 0 (stormFrame.base + stormFrame.cfg.tagOffset) 128 (4 * 4096 + 0)

theorem stormState_tagWrite :
    (stormState.dev.sealNumbered 0 stormSeal stormRest).sealTagWrite 0 stormSeal (skipEntry stormState.dev.mb.entry % 2 ^ 32)
      = stormViolated.deviceFault 4 false := by
  have hlen : (sealedTag stormFrame.tag 0).length = 128 := by decide +kernel
  refine (Device.sealTagWrite_refused (f := stormFrame) (tag := sealedTag stormFrame.tag 0) (by decide +kernel) (by decide)
    (by decide +kernel) (by decide +kernel) (by decide +kernel)).trans ?_
  rw [hlen]
  exact Device.violation_storms _ (t := 0) (by decide) (by decide +kernel) (by decide +kernel)

/-- Firmware is halted with nothing to do, a mailbox's queues stand unreleased, and no seal waits in the slice of port 0. -/
structure Device.Bereft (d : Device) : Prop where
  struck : d.Struck 0 [] []
  closed : (d.mbox 255).isOpen = false
  seals : d.Sealless 0

namespace Device.Bereft
variable {d : Device} (h : d.Bereft)
include h

theorem unreleased : d.Unreleased where
  closed := h.closed
  queue := h.struck.queue.1
  idle := h.struck.idle
  answered := by
    rw [Device.owes, h.struck.owed]
    rfl

/-! Whether the manifest closes, only the seal booth's own state changes. -/

theorem setMb {b : SealBooth} : (d.setMb b).Bereft := ⟨h.struck.setMb, h.closed, h.seals⟩

theorem signNext : d.signNext.Bereft := by
  unfold Device.signNext
  simp only
  split
  · exact h.setMb
  · exact h

theorem closeManifest {reason : Nat} {deferred : Bool} : (d.closeManifest reason deferred).Bereft := by
  unfold Device.closeManifest
  simp only
  split
  · split
    · exact h
    · exact h.setMb
  · exact h.setMb.signNext

theorem countCloses : d.countCloses.Bereft := by
  unfold Device.countCloses
  simp only
  split
  · split
    · exact h.setMb
    · exact h
  · split
    · exact h.setMb
    · exact h
  · exact h

end Device.Bereft

theorem stormViolated_struck : stormViolated.Struck 0 [] [] := by
  refine ⟨?_, ?_, ?_, ?_, ?_, ?_, ?_, ?_, ?_, ?_, ?_, ?_⟩ <;> decide +kernel

theorem stormFaulted_bereft : (stormViolated.deviceFault 4 false).Bereft where
  struck := stormViolated_struck.deviceFault_nothing
  closed := by
    rw [Device.mbox, Device.deviceFault_mailboxes]
    decide +kernel
  seals := Device.deviceFault_sealless (by decide +kernel)

/-- The device once the builder has taken the first seal. -/
def stormDone : Device := stormState.dev.sealAccept

theorem stormDone_bereft : stormDone.Bereft := by
  unfold stormDone
  rcases Device.sealAccept_takes (p := 0) (x := stormSeal) (rest := stormRest) (by decide +kernel) (by decide +kernel)
    (by decide +kernel) (by decide +kernel) (by decide +kernel) stormState_tagWrite with hclose | hcount
  · rw [hclose]
    exact stormFaulted_bereft.closeManifest
  · rw [hcount]
    exact stormFaulted_bereft.countCloses

theorem stormState_awake : stormState.awake := by
  unfold State.awake
  decide +kernel

theorem stormState_waiting : stormState.waiting = [] := by decide +kernel

/-- Refutes O25: in `stormState` the builder takes the first of two seals, and the other, which the clause on the seal taken has wait
on, is lost. The Net refuses the tag that is written again as SEALED; that violation is the sixteenth of a storm, and the device fault
that follows empties the slices (R133, R137, R270). The clause needs the hypothesis that writing the tag brings on no device fault. The
Ringmaster is halted over JTAG only for nothing to follow the seal. -/
theorem not_manifestRows : ¬ Obligations.ManifestRows := by
  unfold Obligations.ManifestRows
  rintro ⟨htake, -⟩
  obtain ⟨t, hdoes, hrest, -⟩ := htake stormState 0 stormSeal stormRest stormState_awake (by decide +kernel) (by decide +kernel)
    (by decide +kernel) (by decide +kernel) (by decide +kernel) (by decide +kernel) (by decide +kernel)
  have ht : t = stormDone := State.does_unique stormState_waiting stormDone_bereft.struck.halted stormDone_bereft.unreleased
    (State.does_sealAccept stormState_awake) hdoes
  rw [ht, stormDone_bereft.seals] at hrest
  exact absurd hrest (by decide)

end Sys2Proof.Machine
end

section
/-! Scope: the Palette's rows (R275 to R277, R280, R282, R283, R286): when a frame starts and under which configuration, which line is
fetched, and which unit goes out. -/

namespace Sys2Proof.Machine

section

variable {d e : Device} {p c : Nat} {t : TT}

/-! ### Frame starts (R275, R286) -/

theorem Device.palFrameStart_notDue (h : d.palStartDue p c = none) : d.palFrameStart p c = d := by
  simp only [Device.palFrameStart, h]

/-- The channel at S of a frame: its pending writes applied, the frames under way keeping the words they run under. -/
def Device.palConfigured (d : Device) (p c : Nat) (t : TT) : Device :=
  let n := d.settleAt t (palAddr p c)
  n.setPal p c { n.pal p c with frames := (n.pal p c).frames.map fun fr => fr.keep (d.wordsAt ((d.palPending p c t).map (·.1))) }

section
variable (hdue : d.palStartDue p c = some t) (hconf : d.palConfigured p c t = e)
include hdue hconf

theorem Device.palFrameStart_enabled (hen : e.flag R.PAL_CH_CTL_EN [p, c] = true) : d.palFrameStart p c = e.palBegin d p c t := by
  subst hconf
  simp only [Device.palFrameStart, hdue]
  exact if_pos hen

/-- After an adopted EN = 0 no frame starts (R288). -/
theorem Device.palFrameStart_disabled (hen : e.flag R.PAL_CH_CTL_EN [p, c] = false) :
    d.palFrameStart p c = e.setPal p c { e.pal p c with due := none } := by
  subst hconf
  simp only [Device.palFrameStart, hdue]
  exact if_neg (ne_true_of_eq_false hen)

end

/-! ### Lines fetched ahead (R282) -/

theorem Device.palPrefetch_stopped (h : d.flag R.PP_CTL_EMIT [p] = false ∨ d.palIdle p = true) (i : Nat) : d.palPrefetch p c i = d :=
  if_pos (h.imp (fun h => by rw [h]; rfl) id)

/-- The oldest frame in progress comes first among those that the line can be fetched for. -/
theorem Device.palPrefetch_oldest {fr : PalFrame} {rest : List PalFrame} {i : Nat} (hemit : d.flag R.PP_CTL_EMIT [p] = true)
    (hidle : d.palIdle p = false) (hframes : (d.pal p c).frames = fr :: rest) (hline : (d.seenBy fr).palFetchable p c fr i = true) :
    d.palPrefetch p c i = d.under fr fun d => d.palFetch p c fr i := by
  have hfind : ((d.pal p c).frames ++ (d.palComing p c).toList).find? (fun fr => (d.seenBy fr).palFetchable p c fr i) = some fr := by
    rw [hframes]
    exact List.find?_cons_of_pos hline
  unfold Device.palPrefetch
  rw [if_neg (by rw [hemit, hidle]; decide), hfind]

/-! ### The unit of a frame that goes next (R276, R280) -/

theorem Device.palEdge_iff {fr : PalFrame} : d.palEdge p c fr = true ↔ fr.lead = true ∨ d.palLinesDone p c fr = true :=
  Bool.or_eq_true_iff

/-- The frame's next unit goes out of a device that shows the frame's configuration. -/
def Device.palUnitGo (d : Device) (p c defer : Nat) (fr : PalFrame) (t : TT) : Device :=
  let plan := (d.palPlan p c fr).getD t
  if fr.lead ∨ d.palLinesDone p c fr then d.palEdgeGo p c defer fr plan
  else if d.palPaced p c then d.palPacketGo p c defer fr plan
  else d.palLineGo p c defer fr plan

section
variable {defer : Nat} {fr : PalFrame}

theorem Device.palUnitGo_edge (hedge : d.palEdge p c fr = true) :
    d.palUnitGo p c defer fr t = d.palEdgeGo p c defer fr ((d.palPlan p c fr).getD t) := if_pos (Device.palEdge_iff.1 hedge)

theorem Device.palUnitGo_packet (hedge : d.palEdge p c fr = false) (hpaced : d.palPaced p c = true) :
    d.palUnitGo p c defer fr t = d.palPacketGo p c defer fr ((d.palPlan p c fr).getD t) :=
  (if_neg (mt Device.palEdge_iff.2 (ne_true_of_eq_false hedge))).trans (if_pos hpaced)

theorem Device.palUnitGo_line (hedge : d.palEdge p c fr = false) (hpaced : d.palPaced p c = false) :
    d.palUnitGo p c defer fr t = d.palLineGo p c defer fr ((d.palPlan p c fr).getD t) :=
  (if_neg (mt Device.palEdge_iff.2 (ne_true_of_eq_false hedge))).trans (if_neg (ne_true_of_eq_false hpaced))

/-- What is done under a frame's configuration rests on the device as the frame sees it. -/
theorem Device.under_congr {f g : Device → Device} (h : f (d.seenBy fr) = g (d.seenBy fr)) : d.under fr f = d.under fr g := by
  unfold Device.under
  rw [h]

/-! ### When a unit goes out (R276, R283) -/

variable {sel : Device → PalFrame → Bool}

theorem Device.palServe_idle (h : d.palNext p c = none ∨ d.palIdle p = true) : d.palServe p c defer sel = d := by
  unfold Device.palServe
  rcases h with hnone | hidle
  · rw [hnone]
  · split
    · rfl
    · exact if_pos (.inl hidle)

variable (hnext : d.palNext p c = some (fr, t))
include hnext

/-- A unit waits before its time, for another row, and for the lower channel that goes first. -/
theorem Device.palServe_waits (h : sel (d.seenBy fr) fr = false ∨ ttGe d.tt t = false ∨ d.palYields p c t = true) :
    d.palServe p c defer sel = d := by
  unfold Device.palServe
  rw [hnext]
  refine if_pos (.inr ?_)
  rcases h with hsel | hearly | hyields
  · exact .inl (by rw [hsel]; rfl)
  · exact .inr (.inl (by rw [hearly]; rfl))
  · exact .inr (.inr hyields)

/-- A unit that is due goes out under its frame's configuration, after which EMIT may fall (R177). -/
theorem Device.palServe_goes {f : Device → Device} (hidle : d.palIdle p = false) (hdue : ttGe d.tt t = true)
    (hfirst : d.palYields p c t = false) (hsel : sel (d.seenBy fr) fr = true)
    (hunit : (d.seenBy fr).palUnitGo p c defer fr t = f (d.seenBy fr)) (hgone : d.under fr f = e)
    (hrun : (e.pal p c).frames ≠ [] ∨ e.flag R.PAL_CH_CTL_EN [p, c] = true) : d.palServe p c defer sel = e.emitNet p := by
  have hgoes : d.under fr (fun x => x.palUnitGo p c defer fr t) = e := (Device.under_congr hunit).trans hgone
  have hstays : ¬ ((e.pal p c).frames.isEmpty = true ∧ (!e.flag R.PAL_CH_CTL_EN [p, c]) = true) := by
    rintro ⟨hempty, hoff⟩
    rcases hrun with hframes | hen
    · exact hframes (List.isEmpty_iff.1 hempty)
    · rw [hen] at hoff
      exact absurd hoff (by decide)
  subst hgoes
  unfold Device.palServe
  rw [hnext]
  refine (if_neg (by rw [hidle, hsel, hdue, hfirst]; decide)).trans ?_
  exact congrArg (Device.emitNet · p) (if_neg hstays)

end

end

/-! ### The rows -/

section

variable {s : State} {p : Fin 8} (h : s.awake) (hp : s.dev.portPresent p.val = true) (he : s.dev.emitPresent p.val = true)
include h hp he

theorem State.portDoes_palFrameStart (c : Fin 4) : s.portDoes p (.palFrameStart p c) (s.dev.palFrameStart p.val c.val) :=
  State.emitDoes_of (f := fun d => d.palFrameStart p.val c.val) rfl h hp he rfl

theorem State.portDoes_palLinePrefetch (c : Fin 4) (i : Nat) : s.portDoes p (.palLinePrefetch p c i) (s.dev.palPrefetch p.val c.val i) :=
  State.emitDoes_of (f := fun d => d.palPrefetch p.val c.val i) rfl h hp he rfl

theorem State.portDoes_palLineSend (c : Fin 4) (defer : Nat) :
    s.portDoes p (.palLineSend p c defer) (s.dev.palLineSend p.val c.val defer) :=
  State.emitDoes_of (f := fun d => d.palLineSend p.val c.val defer) rfl h hp he rfl

theorem State.portDoes_palPacketRelease (c : Fin 4) (defer : Nat) :
    s.portDoes p (.palPacketRelease p c defer) (s.dev.palPacketRelease p.val c.val defer) :=
  State.emitDoes_of (f := fun d => d.palPacketRelease p.val c.val defer) rfl h hp he rfl

end

/-- Settles O26: PAL_LINE_SEND and PAL_PACKET_RELEASE serve the channel's next unit, each the units of its own kind. -/
theorem paletteRows : Obligations.PaletteRows := by
  refine ⟨fun s p c h hp he hdue => ?notDue, fun s p c t d e h hp he hdue hd hconf => ?starts, fun s p c i h hp he hstop => ?noFetch,
    fun s p c i fr rest h hp he hemit hidle hframes hline => ?fetch, fun s p c w h hp he hnone => ?idle,
    fun s p c w fr t h hp he hnext hwait => ?waits, fun s p c w fr t e h hp he hnext hidle hdue hfirst hedge hpaced hgone hrun => ?line,
    fun s p c w fr t e h hp he hnext hidle hdue hfirst hedge hgone hrun => ?edge,
    fun s p c w fr t e h hp he hnext hidle hdue hfirst hedge hpaced hgone hrun => ?packet⟩
  case notDue => exact State.portDoes_congr (State.portDoes_palFrameStart h hp he c) (Device.palFrameStart_notDue hdue)
  case starts =>
    subst hd
    have hdoes := State.portDoes_palFrameStart h hp he c
    exact ⟨fun hen => State.portDoes_congr hdoes (Device.palFrameStart_enabled hdue hconf hen),
      fun hen => State.portDoes_congr hdoes (Device.palFrameStart_disabled hdue hconf hen)⟩
  case noFetch => exact State.portDoes_congr (State.portDoes_palLinePrefetch h hp he c i) (Device.palPrefetch_stopped hstop i)
  case fetch =>
    exact State.portDoes_congr (State.portDoes_palLinePrefetch h hp he c i) (Device.palPrefetch_oldest hemit hidle hframes hline)
  case idle =>
    exact ⟨State.portDoes_congr (State.portDoes_palLineSend h hp he c w) (Device.palServe_idle hnone),
      State.portDoes_congr (State.portDoes_palPacketRelease h hp he c w) (Device.palServe_idle hnone)⟩
  case waits =>
    exact ⟨State.portDoes_congr (State.portDoes_palLineSend h hp he c w) (Device.palServe_waits hnext (.inr hwait)),
      State.portDoes_congr (State.portDoes_palPacketRelease h hp he c w) (Device.palServe_waits hnext (.inr hwait))⟩
  case line =>
    exact ⟨State.portDoes_congr (State.portDoes_palLineSend h hp he c w)
        (Device.palServe_goes hnext hidle hdue hfirst (by rw [hedge, hpaced]; rfl) (Device.palUnitGo_line hedge hpaced) hgone hrun),
      State.portDoes_congr (State.portDoes_palPacketRelease h hp he c w)
        (Device.palServe_waits hnext (.inl (by rw [hedge, hpaced]; rfl)))⟩
  case edge =>
    exact ⟨State.portDoes_congr (State.portDoes_palLineSend h hp he c w)
        (Device.palServe_goes hnext hidle hdue hfirst (by rw [hedge]; rfl) (Device.palUnitGo_edge hedge) hgone hrun),
      State.portDoes_congr (State.portDoes_palPacketRelease h hp he c w) (Device.palServe_waits hnext (.inl (by rw [hedge]; rfl)))⟩
  case packet =>
    exact ⟨State.portDoes_congr (State.portDoes_palPacketRelease h hp he c w)
        (Device.palServe_goes hnext hidle hdue hfirst (by rw [hedge, hpaced]; rfl) (Device.palUnitGo_packet hedge hpaced) hgone hrun),
      State.portDoes_congr (State.portDoes_palLineSend h hp he c w)
        (Device.palServe_waits hnext (.inl (by rw [hedge, hpaced]; rfl)))⟩

end Sys2Proof.Machine
end

section
/-! Scope: the Palette commands of mailbox group 0x08 (R68, R190, R276, R277, R278, R282, R284, R285, R287): what each replies once its
own checks are passed. -/

namespace Sys2Proof.Machine

theorem Device.entered_pmode (d : Device) (e : Entry) (p : Nat) : (d.entered e).pmode p = d.pmode p := d.entered_get e _ _

/-! ### PAL_QUERY (R277) -/

/-- PAL_QUERY's payload. -/
def Device.channelReport (d : Device) (ix : List Nat) : List Byte :=
  layout [(1, d.get R.PAL_CH_CTL_EN ix + 2 * d.get R.PAL_CH_STAT_EMITTING ix), (7, 0), (8, d.get R.PAL_CH_FRAME_NEXT ix),
    (8, d.get R.PAL_CH_NEXT_TT_S ix), (4, d.get R.PAL_CH_STAT_EPOCH ix)]

section
variable {d : Device} {e : Entry} (hp : e.u 12 1 ≤ 7) (hc : e.u 13 1 ≤ 3)
include hp hc

theorem Device.palQuery_reports (hl : d.lent (e.u 12 1) = false) :
    Device.palQuery e d = d.ok (d.channelReport [e.u 12 1, e.u 13 1]) :=
  (if_neg (by omega)).trans (if_neg (ne_true_of_eq_false hl))

theorem Device.palQuery_lent (hl : d.lent (e.u 12 1) = true) : Device.palQuery e d = d.no stBUSY :=
  (if_neg (by omega)).trans (if_pos hl)

end

/-! ### PAL_CONFIG (R276, R278, R287) -/

/-- The writes that PAL_CONFIG stages of its input buffer: the registers of the image, EN left out. -/
def palConfigWrites (b : List Byte) (p c : Nat) : List MaskedWrite :=
  (stageImage (R.PAL_CH_CTL.addr [p, c]) (palImage (fit 240 (b.drop 16)) (fieldAt b 8 8))).map fun w =>
    if w.addr = R.PAL_CH_CTL.addr [p, c] then
      { w with mask := w.mask &&& ~~~ R.PAL_CH_CTL_EN.mask, value := w.value &&& ~~~ R.PAL_CH_CTL_EN.mask }
    else w

/-- The allocation holds the whole store of the channel (R278). -/
def Device.storeInside (d : Device) (p c : Nat) (x : Alloc) : Prop :=
  x.off ≤ d.get R.PAL_CH_SRC_SRC_BASE [p, c]
    ∧ d.get R.PAL_CH_SRC_SRC_BASE [p, c] + (d.get R.PAL_CH_SRCG_SRC_FRAMES [p, c] + 1) * (d.get R.PAL_CH_SRCG_FSIZE [p, c] * 65536)
      ≤ x.off + x.size

/-- An image is staged if it reads no store or one inside an allocation of kind 1, and suits the port in kind and rate. -/
theorem Device.palConfig_stages {d n : Device} {e : Entry} {b : List Byte} {p c : Nat} (hb : d.input e = b) (hlen : e.inLen = 256)
    (hp : fieldAt b 0 1 = p) (hc : fieldAt b 1 1 = c) (hcheck : d.palCheck e.via p c = 0) (hflags : fieldAt b 8 8 ≤ 3)
    (hn : d.overlay (palConfigWrites b p c) = n)
    (hstore : n.get R.PAL_CH_CTL_SRC [p, c] = 0 → ∃ x, d.allocFor e (fieldAt b 4 4) 1 = (0, some x) ∧ n.storeInside p c x)
    (hkind : kindMode (n.palKind p c) (d.pmode p) = true) (hrate : n.palRateFits p = true) :
    Device.palConfig e d = d.stageCmd e (fieldAt b 2 2) false { opcode := 0x0801, key := [], writes := palConfigWrites b p c } := by
  subst hb hp hc hn
  unfold Device.palConfig
  simp only
  rw [if_neg (not_not.2 hlen), if_neg (not_not.2 hcheck), if_neg (Nat.not_lt.2 hflags), if_neg ?taken, if_neg ?inside,
    if_neg ?kind, if_neg ?rate]
  · rfl
  case taken =>
    rintro ⟨hsrc, hrefused⟩
    obtain ⟨x, halloc, -⟩ := hstore (of_decide_eq_true hsrc)
    exact hrefused (congrArg Prod.fst halloc)
  case inside =>
    rintro ⟨hsrc, houtside⟩
    obtain ⟨x, halloc, hin⟩ := hstore (of_decide_eq_true hsrc)
    rw [halloc] at houtside
    refine ne_true_of_eq_false (congrArg not (decide_eq_true ?_)) houtside
    exact hin
  case kind => exact ne_true_of_eq_false (congrArg not hkind)
  case rate => exact ne_true_of_eq_false (congrArg not hrate)

/-! ### PAL_ENABLE, PAL_INJECT, PAL_SKEW and PAL_GVCP_IMAGE (R190, R277, R284, R285) -/

/-- The change that PAL_ENABLE stages. -/
def palEnableJob (e : Entry) : AloneJob where
  opcode := 0x0802
  key := []
  writes := (if bit (e.u 15 1) 0 then [stageField R.PAL_CH_START_START [e.u 12 1, e.u 13 1] (e.u 24 8)] else [])
    ++ [stageField R.PAL_CH_CTL_EN [e.u 12 1, e.u 13 1] (e.u 14 1)]
  payload := if e.u 16 2 = 0 then [BitVec.ofNat 8 (e.u 12 1), BitVec.ofNat 8 (e.u 13 1)] else []
  deadline := if bit (e.u 15 1) 1 then some (BitVec.ofNat 64 (e.u 32 8)) else none

/-- The write that PAL_INJECT stages of kind `k` (R284). -/
def injectWrite (e : Entry) (k v : Nat) : MaskedWrite :=
  stageFields R.PAL_CH_INJ [e.u 12 1, e.u 13 1, k]
    ((R.PAL_CH_INJ_INTERVAL, v) :: (if k = 5 then [(R.PAL_CH_INJ_LATE_NS, e.u 52 2)] else []))

/-- The writes that PAL_INJECT stages. -/
def injectWrites (e : Entry) : List MaskedWrite :=
  [stageFields R.PAL_CH_INJ_CTL [e.u 12 1, e.u 13 1] [(R.PAL_CH_INJ_CTL_KINDS, e.u 14 1), (R.PAL_CH_INJ_CTL_RANDOM, e.u 15 1),
      (R.PAL_CH_INJ_CTL_TARGET, e.u 16 1), (R.PAL_CH_INJ_CTL_INJ_SEED, e.u 20 4)],
    injectWrite e 0 (e.u 24 8), injectWrite e 1 (e.u 32 4), injectWrite e 2 (e.u 36 4), injectWrite e 3 (e.u 40 4),
    injectWrite e 4 (e.u 44 4), injectWrite e 5 (e.u 48 4)]

/-- The fields of a PAL_INJECT lie in their ranges. -/
structure Entry.InjectForm (e : Entry) : Prop where
  kinds : e.u 14 1 ≤ 63
  random : e.u 15 1 ≤ 63
  target : e.u 16 1 ≤ 1
  reserved : e.u 17 3 = 0
  seed : e.u 20 4 < 2 ^ 31
  bitInterval : e.u 24 8 < 2 ^ 40
  reservedEnd : e.u 56 8 = 0

section
variable {d : Device} {e : Entry}

theorem Device.palGvcpImage_keeps {b : List Byte} {p c : Nat} (hb : d.input e = b) (hmin : 9 ≤ e.inLen) (hmax : e.inLen ≤ 65544)
    (hp : fieldAt b 0 1 = p) (hc : fieldAt b 1 1 = c) (hzero : fieldAt b 2 6 = 0) (hcheck : d.palCheck e.via p c = 0) :
    Device.palGvcpImage e d = (d.setPal p c { d.pal p c with image := b.drop 8 }).ok [] := by
  subst hb hp hc
  unfold Device.palGvcpImage
  simp only
  rw [if_neg (by omega), if_neg (not_not.2 hcheck), if_neg (not_not.2 hzero)]

variable (hcheck : d.palCheck e.via (e.u 12 1) (e.u 13 1) = 0)
include hcheck

theorem Device.palEnable_stages (hen : e.u 14 1 ≤ 1) (hflags : e.u 15 1 ≤ 3) :
    Device.palEnable e d = d.stageCmd e (e.u 16 2) false (palEnableJob e) := by
  unfold Device.palEnable
  simp only
  rw [if_neg (not_not.2 hcheck), if_neg (by omega)]
  rfl

theorem Device.palInject_stages (hform : e.InjectForm) :
    Device.palInject e d = d.stageCmd e (e.u 54 2) false { opcode := 0x0803, key := [], writes := injectWrites e } := by
  obtain ⟨hkinds, hrandom, htarget, hreserved, hseed, hinterval, hend⟩ := hform
  unfold Device.palInject
  simp only
  rw [if_neg (not_not.2 hcheck), if_neg (by omega)]
  rfl

theorem Device.palSkew_stages (hwords : e.u 14 1 ≤ 64) :
    Device.palSkew e d = d.stageCmd e (e.u 16 2) false
      { opcode := 0x0804, key := [], writes := [stageField R.PAL_SKEW_WORDS [e.u 12 1, e.u 13 1] (e.u 14 1)] } := by
  unfold Device.palSkew
  simp only
  rw [if_neg (not_not.2 hcheck), if_neg (Nat.not_lt.2 hwords)]

end

/-! ### PAL_COUNTERS (R282) -/

/-- A list of zeros reads as no list at all. -/
theorem getD_dropZeros (l : List Nat) (i : Nat) : (if l.all (fun v => decide (v = 0)) then [] else l).getD i 0 = l.getD i 0 := by
  split
  case isFalse => rfl
  case isTrue h =>
    have hzero : ∀ v ∈ l, v = 0 := by simpa using h
    rw [List.getD_eq_getElem?_getD, List.getD_eq_getElem?_getD, List.getElem?_nil]
    cases hi : l[i]? with
    | none => rfl
    | some v => exact (hzero v (List.mem_of_getElem? hi)).symm

section
variable (d : Device) (p c : Nat)

/-- A channel's totals with its counts taken in. -/
def Device.palTotals : List Nat :=
  let t := fun (i : Nat) => (d.pal p c).totals.getD i 0
  [t 0 + d.get R.PAL_CH_CNT_LATE [p, c], t 1 + d.get R.PAL_CH_CNT_SUPPRESSED [p, c], t 2 + d.get R.PAL_CH_CNT2_TRIG_BUSY [p, c],
      t 3 + d.get R.PAL_CH_CNT2_REFUSED [p, c], max (t 4) (d.get R.PAL_CH_CNT2_MAX_DEFER [p, c])]
    ++ (List.range 6).map (fun k => satAdd 16 (t (5 + k)) (bits (d.get R.PAL_CH_INJCNT_COUNT [p, c]) (10 * k) 10))

@[simp] theorem Device.wr_pal (r : Reg) (ix : List Nat) (v : Word) : (d.wr r ix v).pal p c = d.pal p c :=
  congrArg (fun b => b.pals.get {} c) (d.wr_bth r ix v p)

/-- A sample takes the channel's counts into its totals. -/
theorem Device.samplePal_total (i : Nat) : ((d.samplePal p c).pal p c).totals.getD i 0 = (d.palTotals p c).getD i 0 := by
  unfold Device.samplePal
  simp only [Device.wr_pal, Device.setPal_same]
  exact getD_dropZeros (d.palTotals p c) i

/-- A sample leaves the channel's counts at 0. -/
theorem Device.samplePal_counts : (d.samplePal p c).rd R.PAL_CH_CNT [p, c] = 0 ∧ (d.samplePal p c).rd R.PAL_CH_CNT2 [p, c] = 0
    ∧ (d.samplePal p c).rd R.PAL_CH_INJCNT [p, c] = 0 := by
  unfold Device.samplePal
  refine ⟨?late, ?trig, Device.rd_wr_same _ _ _ _⟩
  case late => rw [Device.rd_wr_beside _ _ _ (by decide), Device.rd_wr_beside _ _ _ (by decide), Device.rd_wr_same]
  case trig => rw [Device.rd_wr_beside _ _ _ (by decide), Device.rd_wr_same]

/-- PAL_COUNTERS's payload. -/
def Device.palCounts : List Byte :=
  layout ((List.range 5).map (fun i => (4, (d.pal p c).totals.getD i 0))
    ++ (List.range 6).map (fun k => (2, (d.pal p c).totals.getD (5 + k) 0)))

/-- What PAL_COUNTERS leaves. -/
def Device.palSampled (clear : Nat) : Device :=
  if clear = 1 then (d.samplePal p c).setPal p c { (d.samplePal p c).pal p c with totals := [] } else d.samplePal p c

theorem Device.palSampled_rd (clear : Nat) (r : Reg) (ix : List Nat) : (d.palSampled p c clear).rd r ix = (d.samplePal p c).rd r ix := by
  unfold Device.palSampled
  split <;> rfl

theorem Device.palSampled_cleared : ((d.palSampled p c 1).pal p c).totals = [] := congrArg PalX.totals (Device.setPal_same _ p c _)

end

theorem Device.palCounters_eq {d : Device} {e : Entry} (hcheck : d.palCheck e.via (e.u 12 1) (e.u 13 1) = 0) (h1 : e.u 14 1 ≤ 1) :
    Device.palCounters e d = (d.palSampled (e.u 12 1) (e.u 13 1) (e.u 14 1)).ok
      ((d.samplePal (e.u 12 1) (e.u 13 1)).palCounts (e.u 12 1) (e.u 13 1)) := by
  unfold Device.palCounters
  simp only
  rw [if_neg (not_not.2 hcheck), if_neg (Nat.not_lt.2 h1)]
  rfl

/-! ### The group -/

/-- Settles O46: each command is one operation once its own checks are passed. -/
theorem paletteCommands : Obligations.PaletteCommands := by
  unfold Obligations.PaletteCommands
  refine ⟨fun s e ix hix hp hc hl => ?query, ?config, ?enable, ?inject, ?skew, ?image, fun s e p c hp hc hcheck h1 => ?counters,
    fun s e hp hc hl => ?lent⟩
  case query =>
    subst hix
    refine State.gives_of (body := Device.palQuery e) rfl fun _ => ?_
    rw [Device.palQuery_reports hp hc ((s.dev.entered_lent e _).trans hl)]
    exact ⟨rfl, rfl, rfl⟩
  case config =>
    intro s e b p c ws n hb hlen hp hc hcheck hflags hws hn hstore hkind hrate htakes
    subst hws
    refine State.gives_of (body := Device.palConfig e) rfl fun _ => ?_
    rw [Device.palConfig_stages hb hlen hp hc hcheck hflags hn hstore ((s.dev.entered_pmode e p).symm ▸ hkind) hrate]
    exact Device.stageCmd_carries htakes
  case enable =>
    intro s e p c ws hp hc hcheck hen hflags hws htakes
    subst hp hc hws
    refine State.gives_of (body := Device.palEnable e) rfl fun _ => ?_
    rw [Device.palEnable_stages hcheck hen hflags]
    exact Device.stageCmd_carries htakes
  case inject =>
    intro s e p c ws n hp hc hcheck hkinds hrandom htarget hreserved hseed hinterval hend hn hws htakes
    subst hp hc
    have hjob : ws = injectWrites e := by
      simp only [hws, hn]
      rfl
    subst hjob
    refine State.gives_of (body := Device.palInject e) rfl fun _ => ?_
    rw [Device.palInject_stages hcheck ⟨hkinds, hrandom, htarget, hreserved, hseed, hinterval, hend⟩]
    exact Device.stageCmd_carries htakes
  case skew =>
    intro s e p l ws hp hl hcheck hwords hws htakes
    subst hp hl hws
    refine State.gives_of (body := Device.palSkew e) rfl fun _ => ?_
    rw [Device.palSkew_stages hcheck hwords]
    exact Device.stageCmd_carries htakes
  case image =>
    intro s e b p c hb hmin hmax hp hc hzero hcheck
    refine State.gives_of (body := Device.palGvcpImage e) rfl fun _ => ?_
    rw [Device.palGvcpImage_keeps hb hmin hmax hp hc hzero hcheck]
    have hpal := (s.dev.entered e).setPal_same p c { (s.dev.entered e).pal p c with image := b.drop 8 }
    have hframes := congrArg PalX.frames hpal
    exact ⟨rfl, congrArg PalX.image hpal, rfl, rfl, hframes⟩
  case counters =>
    subst hp hc
    refine State.gives_of (body := Device.palCounters e) rfl fun _ => ?_
    rw [Device.palCounters_eq hcheck h1]
    generalize s.dev.entered e = d
    obtain ⟨hcnt, hcnt2, hinj⟩ := d.samplePal_counts (e.u 12 1) (e.u 13 1)
    refine ⟨rfl, rfl, d.samplePal_total _ _ 0, d.samplePal_total _ _ 4, fun hclear => ?_, (d.palSampled_rd _ _ _ _ _).trans hcnt,
      (d.palSampled_rd _ _ _ _ _).trans hcnt2, (d.palSampled_rd _ _ _ _ _).trans hinj⟩
    rw [hclear]
    exact d.palSampled_cleared _ _
  case lent =>
    exact State.gives_of (body := Device.palQuery e) rfl fun _ => Device.palQuery_lent hp hc ((s.dev.entered_lent e _).trans hl)

end Sys2Proof.Machine
end

section
/-! Scope: the DMA channels' rows (R305, R306, R308 to R310, R312) and the reads of host memory that fail (R302, R428, R433): what each
operation of a channel or an engine does in each of its cases. -/

namespace Sys2Proof.Machine

/-! ### What waking the delivery booth leaves -/

/-- The booth's state register lies before the booth's own registers. -/
theorem Device.wakeDelivery_rd (d : Device) {r : Reg} (ix : List Nat) (h : R.BOOTH_STATE.addr [8] < r.base) :
    (d.wake 8).rd r ix = d.rd r ix := by
  have hne : r.addr ix ≠ R.BOOTH_STATE.addr [8] := by
    unfold Reg.addr at *
    omega
  unfold Device.wake
  split
  · exact d.rd_put_ne (f := R.BOOTH_STATE_STATE) _ hne
  · rfl

theorem Device.wakeDelivery_get (d : Device) {f : Fld} (ix : List Nat) (h : R.BOOTH_STATE.addr [8] < f.reg.base) :
    (d.wake 8).get f ix = d.get f ix := Device.get_of_rd (d.wakeDelivery_rd ix h)

theorem Device.flag_of_get {d t : Device} {f : Fld} {ix : List Nat} (h : t.get f ix = d.get f ix) : t.flag f ix = d.flag f ix := by
  rw [Device.flag, h, Device.flag]

/-! ### ARM and PAUSE (R305, R306, R310) -/

/-- The registers of an engine and those of its channels lie apart. -/
theorem dmaEngStat_addr_ne_chCtl (e c : Nat) : R.DMA_ENG_STAT.addr [e] ≠ R.DMA_CH_CTL.addr [e, c] := by
  simp only [Reg.addr, R.DMA_ENG_STAT, R.DMA_CH_CTL, strideSum]
  omega

section

variable {d : Device} {e c : Nat}

/-- ARM has no part in whether the channel takes hand-overs. -/
theorem Device.setArm_mayHandover (b : Bool) : (d.setFlag R.DMA_CH_CTL_ARM [e, c] b).mayHandover e c = d.mayHandover e c := by
  have hup : (d.setFlag R.DMA_CH_CTL_ARM [e, c] b).engineUp e = d.engineUp e :=
    congrArg (fun st => decide (st = 0)) (d.get_put_ne (f := R.DMA_CH_CTL_ARM) _ (dmaEngStat_addr_ne_chCtl e c))
  have hpause : (d.setFlag R.DMA_CH_CTL_ARM [e, c] b).flag R.DMA_CH_CTL_PAUSE [e, c] = d.flag R.DMA_CH_CTL_PAUSE [e, c] :=
    Device.flag_of_get (d.get_put_beside _ _ (by decide))
  have hstate : (d.setFlag R.DMA_CH_CTL_ARM [e, c] b).chState e c = d.chState e c := d.get_put_beside _ _ (by decide)
  rw [Device.mayHandover, hup, hpause, hstate, Device.mayHandover]

theorem Device.setArm_busy (b : Bool) :
    (d.setFlag R.DMA_CH_CTL_ARM [e, c] b).flag R.DMA_ENG_STAT_BUSY [e] = d.flag R.DMA_ENG_STAT_BUSY [e] :=
  Device.flag_setFlag_ne _ _ (dmaEngStat_addr_ne_chCtl e c)

theorem Device.engineTake_busy (h : d.flag R.DMA_ENG_STAT_BUSY [e] = true) : d.engineTake e = d := if_pos (.inr h)

theorem Device.dmaArm_again (h : d.flag R.DMA_CH_CTL_ARM [e, c] = true) : d.dmaArm e c = d.bump R.DMA_CH_STAT_ARM_IGNORED [e, c] :=
  if_pos h

theorem Device.dmaArm_arms (h : d.flag R.DMA_CH_CTL_ARM [e, c] = false) :
    d.dmaArm e c = (d.setFlag R.DMA_CH_CTL_ARM [e, c] true).channelRuns e c := if_neg (ne_true_of_eq_false h)

/-- A channel at a hand-over point takes the armed set over. -/
theorem Device.dmaArm_handsOver (h : d.flag R.DMA_CH_CTL_ARM [e, c] = false) (hmay : d.mayHandover e c = true) :
    d.dmaArm e c = ((d.setFlag R.DMA_CH_CTL_ARM [e, c] true).handover e c).engineTake e := by
  rw [Device.dmaArm_arms h, Device.channelRuns, if_pos ((Device.setArm_mayHandover true).trans hmay)]

/-- The armed set of any other channel of a busy engine waits. -/
theorem Device.dmaArm_waits (h : d.flag R.DMA_CH_CTL_ARM [e, c] = false) (hmay : d.mayHandover e c = false)
    (hbusy : d.flag R.DMA_ENG_STAT_BUSY [e] = true) : d.dmaArm e c = d.setFlag R.DMA_CH_CTL_ARM [e, c] true := by
  rw [Device.dmaArm_arms h, Device.channelRuns, if_neg (ne_true_of_eq_false ((Device.setArm_mayHandover true).trans hmay)),
    Device.engineTake_busy ((Device.setArm_busy true).trans hbusy)]

theorem Device.dmaPause_active {t : Device} (ht : d.setFlag R.DMA_CH_CTL_PAUSE [e, c] true = t) (h : t.chState e c = 1) :
    d.dmaPause e c true = t.setChState e c 3 := by
  subst ht
  exact if_pos h

theorem Device.dmaPause_inactive {t : Device} (ht : d.setFlag R.DMA_CH_CTL_PAUSE [e, c] true = t) (h : t.chState e c ≠ 1) :
    d.dmaPause e c true = t := by
  subst ht
  exact if_neg h

theorem Device.dmaPause_notPaused (h : d.flag R.DMA_CH_CTL_PAUSE [e, c] = false) :
    d.dmaPause e c false = d.setFlag R.DMA_CH_CTL_PAUSE [e, c] false := by
  simp [Device.dmaPause, h]

theorem Device.dmaPause_resumes {t : Device} (ht : d.setFlag R.DMA_CH_CTL_PAUSE [e, c] false = t)
    (h : d.flag R.DMA_CH_CTL_PAUSE [e, c] = true) (hstate : t.chState e c = 3) :
    d.dmaPause e c false = (t.setChState e c 1).engineTake e := by
  subst ht
  simp [Device.dmaPause, h, hstate]

theorem Device.dmaPause_runs {t : Device} (ht : d.setFlag R.DMA_CH_CTL_PAUSE [e, c] false = t)
    (h : d.flag R.DMA_CH_CTL_PAUSE [e, c] = true) (hstate : t.chState e c ≠ 3) : d.dmaPause e c false = t.channelRuns e c := by
  subst ht
  simp [Device.dmaPause, h, hstate]

end

/-! ### A running transfer pauses or ends (R308 to R310, R312, R433) -/

section

variable {d : Device} {e : Nat}

theorem Device.dmaPauseDone_idle (h : d.runningChan e = none) (n : Nat) : d.dmaPauseDone e n = d := by rw [Device.dmaPauseDone, h]

theorem Device.dmaEnd_idle (h : d.runningChan e = none) : d.dmaEnd e = d := by rw [Device.dmaEnd, h]

variable {c : Nat} (h : d.runningChan e = some c)
include h

theorem Device.dmaPauseDone_stops {n : Nat} (hpause : d.flag R.DMA_CH_CTL_PAUSE [e, c] = true)
    (hn : n < d.get R.DMA_CH_A_LEN_LEN [e, c]) (hlets : d.bucketLets e c n = true) {t : Device} (ht : d.progress e c n = t) :
    d.dmaPauseDone e n = (((t.setChan e c { t.chan e c with paused := true }).setChState e c 3).setFlag
      R.DMA_ENG_STAT_BUSY [e] false).engineTake e := by
  subst ht
  rw [Device.dmaPauseDone, h]
  exact if_neg (by simp [hpause, hlets, hn])

theorem Device.dmaPauseDone_early {n : Nat} (hnot : d.flag R.DMA_CH_CTL_PAUSE [e, c] = false ∨ d.get R.DMA_CH_A_LEN_LEN [e, c] ≤ n
    ∨ d.bucketLets e c n = false) : d.dmaPauseDone e n = d := by
  rw [Device.dmaPauseDone, h]
  exact if_pos (by simpa using hnot)

variable {n : Nat} (hn : d.get R.DMA_CH_A_LEN_LEN [e, c] = n)
include hn

theorem Device.dmaEnd_waits (hwait : d.dmaStalled e c = true ∨ d.bucketLets e c n = false) : d.dmaEnd e = d := by
  subst hn
  rw [Device.dmaEnd, h]
  exact if_pos (by simpa using hwait)

variable (hfree : d.dmaStalled e c = false) (hlets : d.bucketLets e c n = true)
include hfree hlets

theorem Device.dmaEnd_bad {w : Nat} (hbad : d.badSource e c = some w) : d.dmaEnd e = (d.memErr true 1 8 e w).engineFault e 2 := by
  subst hn
  rw [Device.dmaEnd, h]
  simp only [hbad]
  exact if_neg (by simp [hfree, hlets])

/-- The last bytes of a good transfer move, and its record is tried. -/
theorem Device.dmaEnd_moves (hgood : d.badSource e c = none) {t : Device}
    (ht : (d.progress e c n).setFlag R.DMA_ENG_STAT_BUSY [e] false = t) :
    d.dmaEnd e = (if (t.emitRecord e c).1 then ((t.emitRecord e c).2.setChState e c 0).channelRuns e c
      else (t.emitRecord e c).2).engineTake e := by
  subst hn ht
  rw [Device.dmaEnd, h]
  simp only [hgood]
  exact if_neg (by simp [hfree, hlets])

end

/-! ### Reads of host memory that fail (R302, R428) -/

section

variable {d : Device} {k : AerKind}

theorem Device.dmaReadError_faults {e c : Nat} (h : d.runningChan e = some c) (hhost : d.flag R.DMA_CH_A_OPT_SRC_SPACE [e, c] = false)
    (hfails : d.readFails k = true) : d.dmaReadError e k = (d.aerLog k).engineFault e 4 := by
  rw [Device.dmaReadError, h]
  exact if_neg (by simp [hhost, hfails])

theorem Device.dmaReadError_none {e : Nat}
    (h : ∀ c, d.runningChan e = some c → d.flag R.DMA_CH_A_OPT_SRC_SPACE [e, c] = true ∨ d.readFails k = false) :
    d.dmaReadError e k = d := by
  unfold Device.dmaReadError
  cases hrun : d.runningChan e with
  | none => rfl
  | some c => exact if_pos (by simpa using h c hrun)

theorem Device.queueReadError_ring {q : Nat} (hfails : d.readFails k = true) (hkind : (d.ctx q).kind = 1)
    (hgood : (d.ctx q).error = false) : d.queueReadError q none k = (d.aerLog k).queueError q 3 :=
  if_neg (by simp [hfails, hkind, hgood])

theorem Device.queueReadError_input {q op : Nat} {e : Entry} (hfails : d.readFails k = true) (hbuf : e.hostBuf = true) :
    d.queueReadError q (some (op, e)) k
      = (d.aerLog k).runCommand { opcode := op, needsIn := true } e true (fun d => d.no stDISCARDED) :=
  if_neg (by simp [hfails, hbuf])

theorem Device.queueReadError_none (q : Nat) (x : Option (Nat × Entry)) (hgood : d.readFails k = false) :
    d.queueReadError q x k = d := by
  cases x with
  | none => exact if_pos (by simp [hgood])
  | some x => exact if_pos (by simp [hgood])

end

/-! ### The rows -/

section

variable {s : State} (h : s.awake)
include h

theorem State.does_dmaArmWrite (e : Fin 32) (c : Fin 16) : s.does (.dmaArmWrite e c) ((s.dev.wake 8).dmaArm e.val c.val) :=
  State.does_of_live (f := fun d => d.strike [e.val, c.val] [(R.DMA_CH_CTL_ARM, 1)]) rfl h (s.dev.struck_dmaArm e c)

theorem State.does_dmaDisarmWrite (e : Fin 32) (c : Fin 16) : s.does (.dmaDisarmWrite e c) ((s.dev.wake 8).dmaDisarm e.val c.val) :=
  State.does_of_live (f := fun d => d.strike [e.val, c.val] [(R.DMA_CH_CTL_DISARM, 1)]) rfl h (s.dev.struck_dmaDisarm e c)

theorem State.does_dmaPauseWrite (e : Fin 32) (c : Fin 16) (on : Bool) :
    s.does (.dmaPauseWrite e c on) ((s.dev.wake 8).dmaPause e.val c.val on) :=
  State.does_of_live (f := fun d => d.strike [e.val, c.val] [(R.DMA_CH_CTL_PAUSE, b2n on)]) rfl h (s.dev.struck_dmaPause e c on)

theorem State.does_dmaPauseDone (e : Fin 32) (n : Nat) : s.does (.dmaPauseDone e n) (s.dev.dmaPauseDone e.val n) :=
  State.does_of_live (f := fun d => d.dmaPauseDone e.val n) rfl h rfl

theorem State.does_dmaTransferEnd (e : Fin 32) : s.does (.dmaTransferEnd e) (s.dev.dmaEnd e.val) :=
  State.does_of_live (f := fun d => d.dmaEnd e.val) rfl h rfl

theorem State.does_dmaReadCompletionError (r : EngineRead) :
    s.does (.dmaReadCompletionError r) (s.dev.dmaReadError r.engine.val r.kind) :=
  State.does_of_live (f := fun d => d.dmaReadError r.engine.val r.kind) rfl h rfl

theorem State.does_queueReadCompletionError (r : RingRead) (x : Option (Nat × Entry)) :
    s.does (.queueReadCompletionError r x) (s.dev.queueReadError r.queue.val x r.kind) :=
  State.does_of_live (f := fun d => d.queueReadError r.queue.val x r.kind) rfl h rfl

end

/-- Settles O28: each row is one operation of a channel, an engine or a queue, and each clause one of its cases. -/
theorem dmaRows : Obligations.DmaRows := by
  unfold Obligations.DmaRows
  refine ⟨fun s e c d h hd => ?arm, fun s e c h => State.does_dmaDisarmWrite h e c, fun s e c d h hd => ?pause,
    fun s e c d h hd => ?resume, fun s e n c d h hrun hpause hn hlets hd => ?paused, fun s e n h hrun => ?idle,
    fun s e n c h hrun hnot => ?running, fun s e n c d h hrun hn hfree hlets hgood hd => ?ends,
    fun s e n c w h hrun hn hfree hlets hbad => ?bad, fun s e n c h hrun hn hwait => ?waits,
    fun s r c h hrun hhost hfails => ?readFails, fun s r h hnone => ?readGood, fun s r h hfails hkind hgood => ?ring,
    fun s r op e h hfails hbuf => ?input, fun s r x h hgood => ?queueGood⟩
  case arm =>
    subst hd
    have hdoes := State.does_dmaArmWrite h e c
    exact ⟨fun harm => State.does_congr hdoes (Device.dmaArm_again harm),
      fun harm hmay => State.does_congr hdoes (Device.dmaArm_handsOver harm hmay),
      fun harm hmay hbusy => State.does_congr hdoes (Device.dmaArm_waits harm hmay hbusy)⟩
  case pause =>
    have hdoes := State.does_dmaPauseWrite h e c true
    exact ⟨fun hstate => State.does_congr hdoes (Device.dmaPause_active hd hstate),
      fun hstate => State.does_congr hdoes (Device.dmaPause_inactive hd hstate)⟩
  case resume =>
    have hdoes := State.does_dmaPauseWrite h e c false
    have hwas : (s.dev.wake 8).flag R.DMA_CH_CTL_PAUSE [e.val, c.val] = s.dev.flag R.DMA_CH_CTL_PAUSE [e.val, c.val] :=
      Device.flag_of_get (s.dev.wakeDelivery_get _ (by decide))
    exact ⟨fun hp => State.does_congr hdoes ((Device.dmaPause_notPaused (hwas.trans hp)).trans hd),
      fun hp hstate => State.does_congr hdoes (Device.dmaPause_resumes hd (hwas.trans hp) hstate),
      fun hp hstate => State.does_congr hdoes (Device.dmaPause_runs hd (hwas.trans hp) hstate)⟩
  case paused => exact State.does_congr (State.does_dmaPauseDone h e n) (Device.dmaPauseDone_stops hrun hpause hn hlets hd)
  case idle =>
    exact ⟨State.does_congr (State.does_dmaPauseDone h e n) (Device.dmaPauseDone_idle hrun n),
      State.does_congr (State.does_dmaTransferEnd h e) (Device.dmaEnd_idle hrun)⟩
  case running => exact State.does_congr (State.does_dmaPauseDone h e n) (Device.dmaPauseDone_early hrun hnot)
  case ends =>
    have hdoes := State.does_congr (State.does_dmaTransferEnd h e) (Device.dmaEnd_moves hrun hn hfree hlets hgood hd)
    exact ⟨fun hr => by rwa [if_pos hr] at hdoes, fun hr => by rwa [if_neg (ne_true_of_eq_false hr)] at hdoes⟩
  case bad => exact State.does_congr (State.does_dmaTransferEnd h e) (Device.dmaEnd_bad hrun hn hfree hlets hbad)
  case waits => exact State.does_congr (State.does_dmaTransferEnd h e) (Device.dmaEnd_waits hrun hn hwait)
  case readFails =>
    exact State.does_congr (State.does_dmaReadCompletionError h r) (Device.dmaReadError_faults hrun hhost hfails)
  case readGood => exact State.does_congr (State.does_dmaReadCompletionError h r) (Device.dmaReadError_none hnone)
  case ring =>
    exact State.does_congr (State.does_queueReadCompletionError h r none) (Device.queueReadError_ring hfails hkind hgood)
  case input => exact State.does_congr (State.does_queueReadCompletionError h r _) (Device.queueReadError_input hfails hbuf)
  case queueGood => exact State.does_congr (State.does_queueReadCompletionError h r x) (Device.queueReadError_none _ x hgood)

end Sys2Proof.Machine
end

section
/-! Scope: the queue and DMA commands of mailbox group 0x09 (R64, R68, R294, R302, R303, R305, R307, R310): what each replies once its own
checks are passed. -/

namespace Sys2Proof.Machine

/-! ### Q_OPEN, Q_CLOSE, Q_QUERY and Q_RESET (R294, R302) -/

/-- The fields of a Q_OPEN lie in their ranges. -/
structure Entry.QueueForm (e : Entry) : Prop where
  general : generalQueue (e.u 12 4) = true
  kindLow : 3 ≤ e.u 16 1
  kindHigh : e.u 16 1 ≤ 5
  sizeLow : 4 ≤ e.u 17 1
  sizeHigh : e.u 17 1 ≤ 24
  esize : esizeFits (e.u 16 1) (e.u 18 1) = true
  pin : e.u 19 1 ≤ 1
  vector : vectorFits (e.u 20 2) = true
  reserved : e.u 23 1 = 0
  reservedMid : e.u 30 2 = 0
  reservedEnd : e.u 48 16 = 0
  ring : e.u 32 8 % 4096 = 0
  writeBack : e.u 40 8 % 64 = 0

/-- The context that Q_OPEN stores. -/
def Device.askedCtx (d : Device) (e : Entry) : QCtx :=
  { openCtx (e.u 16 1) (e.u 18 1) (e.u 17 1) (e.u 32 8) (e.u 40 8) (e.u 20 2) ((d.reserverOf (e.u 12 4)).getD e.via.owner) with
    pin := decide (e.u 19 1 = 1), wmark := e.u 24 4, coalN := e.u 22 1, coalUs := e.u 28 2 }

/-- Q_QUERY's payload for a context. -/
def QCtx.report (c : QCtx) : List Byte :=
  layout [(4, c.prod.toNat), (4, c.cons.toNat), (4, c.count.toNat), (4, c.peak), (4, c.drops), (1, c.kind), (1, c.log2)]
    ++ (c.bytes.drop 46).take 1 ++ layout [(1, c.err)]

section

variable {d : Device} {e : Entry}

theorem Device.qOpen_opens (hform : e.QueueForm) (hmay : d.mayQueue e.via (e.u 12 4) = true) (hclosed : (d.ctx (e.u 12 4)).kind = 0)
    (hring : d.netAdmits false true .queue (e.u 32 8) (2 ^ e.u 17 1 * esizeBytes (e.u 18 1)) = true)
    (hwb : e.u 40 8 ≠ 0 → d.netAdmits false true .queue (e.u 40 8) 16 = true) (hpinned : e.u 19 1 = 1 → d.pinned < 4096) :
    Device.qOpen e d = ((d.storeCtx (e.u 12 4) (d.askedCtx e)).queueFlows (e.u 12 4)).ok (leBytes 8 (64 * e.u 12 4)) := by
  obtain ⟨hgeneral, hkindLow, hkindHigh, hsizeLow, hsizeHigh, hesize, hpin, hvector, hres, hresMid, hresEnd, hringAt, hwbAt⟩ := hform
  unfold Device.qOpen
  simp only
  rw [if_neg (by simp [hgeneral, hesize, hvector, hres, hresMid, hresEnd, hringAt, hwbAt]; omega), if_neg (by simp [hmay]),
    if_neg (not_not.2 hclosed), if_neg (by simpa [hring] using hwb),
    if_neg (fun hfull => Nat.not_le.2 (hpinned hfull.1) hfull.2)]
  rfl

theorem Device.qClose_closes (hgeneral : generalQueue (e.u 12 4) = true) (hopen : (d.ctx (e.u 12 4)).kind ≠ 0)
    (hmay : d.mayQueue e.via (e.u 12 4) = true) (hnamed : d.queueNamed (e.u 12 4) = false) :
    Device.qClose e d = (d.storeCtx (e.u 12 4) {}).ok [] := by
  unfold Device.qClose
  simp only
  rw [if_neg (by simp [hgeneral, hopen]), if_neg (by simp [hmay]), if_neg (ne_true_of_eq_false hnamed)]

theorem Device.qQuery_reports (hmax : e.u 12 4 ≤ 1048575) (hmay : d.mayQueue e.via (e.u 12 4) = true) :
    Device.qQuery e d = (d.touch (e.u 12 4)).ok (d.ctx (e.u 12 4)).report := by
  unfold Device.qQuery
  simp only
  rw [if_neg (Nat.not_lt.2 hmax), if_neg (by simp [hmay]), Device.ctx_touch]
  rfl

/-- The context of a queue that Q_RESET leaves. -/
def QCtx.cleared (c : QCtx) (drop : Bool) : QCtx := { c with error := false, err := 0, cons := if drop then c.prod else c.cons }

theorem Device.qReset_clears (hmax : e.u 12 4 ≤ 1048575) (hdrop : e.u 16 1 ≤ 1) (hopen : (d.ctx (e.u 12 4)).kind ≠ 0)
    (hmay : d.mayQueue e.via (e.u 12 4) = true) :
    Device.qReset e d = ((d.storeCtx (e.u 12 4) ((d.ctx (e.u 12 4)).cleared (decide (e.u 16 1 = 1)))).queueFlows (e.u 12 4)).ok [] := by
  unfold Device.qReset
  simp only
  rw [if_neg (by omega), if_neg (by simp [hmay])]
  simp only [QCtx.cleared, decide_eq_true_eq]

end

/-! ### DMA_CHANNEL (R309) -/

/-- The fields of a DMA_CHANNEL lie in their ranges, and the channel is none that firmware keeps. -/
structure Entry.ChannelForm (e : Entry) : Prop where
  engine : e.u 12 1 ≤ 31
  channel : e.u 13 1 ≤ 15
  queue : e.u 20 4 ≤ 1048575
  share : e.u 24 2 ≤ 2047
  free : fwChannel (e.u 12 1) (e.u 13 1) = false

/-- The change that DMA_CHANNEL stages for a channel it claims. -/
def channelJob (e : Entry) : AloneJob where
  opcode := 0x0904
  key := []
  claims := [.dma (e.u 12 1) (e.u 13 1)]
  writes := [stageFields R.DMA_CH_CFG [e.u 12 1, e.u 13 1]
    [(R.DMA_CH_CFG_CQ, e.u 20 4), (R.DMA_CH_CFG_SHARE, e.u 24 2), (R.DMA_CH_CFG_BURST, e.u 26 1)]]

section

variable {d : Device} {e : Entry} (hform : e.ChannelForm)
include hform

theorem Device.dmaChannel_claims (hclaim : e.u 16 1 = 0) (htake : d.mayTake e.via (.dma (e.u 12 1) (e.u 13 1)) = true)
    (hqueue : d.mayQueue e.via (e.u 20 4) = true) : Device.dmaChannel e d = d.stageCmd e (e.u 14 2) false (channelJob e) := by
  obtain ⟨hengine, hchannel, hcq, hshare, hfree⟩ := hform
  unfold Device.dmaChannel
  simp only
  rw [if_neg (by omega), if_neg (ne_true_of_eq_false hfree), if_neg (by omega), if_neg (by simp [htake, hqueue])]
  rfl

theorem Device.dmaChannel_releases (hrelease : e.u 16 1 = 1) (hmay : d.mayAct e.via (.dma (e.u 12 1) (e.u 13 1)) = true) :
    Device.dmaChannel e d = (d.disown (.dma (e.u 12 1) (e.u 13 1))).ok [] := by
  obtain ⟨hengine, hchannel, hcq, hshare, hfree⟩ := hform
  unfold Device.dmaChannel
  simp only
  rw [if_neg (by omega), if_neg (ne_true_of_eq_false hfree), if_pos hrelease, if_neg (by simp [hmay])]

end

/-! ### DMA_SUBMIT (R303, R305, R307) -/

/-- The fields of a DMA_SUBMIT lie in their ranges. -/
structure Entry.SubmitForm (e : Entry) : Prop where
  engine : e.u 12 1 ≤ 31
  channel : e.u 13 1 ≤ 15
  options : e.u 36 2 ≤ 511
  wait : e.u 38 1 ≤ 1
  reserved : e.u 39 1 = 0
  tag : e.u 48 4 < 2 ^ 17
  reservedEnd : e.u 52 4 = 0

/-- The reply to a DMA_SUBMIT with WAIT: the channel is armed once the command stands recorded, its work under the generation that the
set will have. -/
def Device.submitAccepted (d : Device) (e : Entry) : Reply :=
  let t := d.overlay (submitSet e)
  { t.accepted [e.u 12 1, e.u 13 1, (t.get R.DMA_CH_STAT_GEN [e.u 12 1, e.u 13 1] + 1) % 65536] (16 + e.u 12 1) with
    act := fun t => t.dmaArm (e.u 12 1) (e.u 13 1) }

/-- The change that DMA_SUBMIT stages into a transaction: the shadow set and ARM. -/
def submitJob (e : Entry) : AloneJob where
  opcode := 0x0905
  key := []
  writes := submitSet e ++ [stageField R.DMA_CH_CTL_ARM [e.u 12 1, e.u 13 1] 1]

section

variable {d : Device} {e : Entry} (hform : e.SubmitForm) (hmay : d.mayChannel e.via (e.u 12 1) (e.u 13 1) = true)
include hform hmay

/-- Past its checks a DMA_SUBMIT arms at once or stages. -/
theorem Device.dmaSubmit_admitted : Device.dmaSubmit e d =
    if e.u 14 2 = 0 then
      if d.flag R.DMA_CH_CTL_ARM [e.u 12 1, e.u 13 1] then d.no 0x0911
      else if e.u 38 1 = 1 then d.submitAccepted e
      else ((d.overlay (submitSet e)).dmaArm (e.u 12 1) (e.u 13 1)).ok []
    else d.stageWait e (e.u 14 2) (decide (e.u 38 1 = 1)) [e.u 12 1, e.u 13 1] [] (16 + e.u 12 1) (submitJob e) := by
  obtain ⟨hengine, hchannel, hoptions, hwait, hres, htag, hresEnd⟩ := hform
  unfold Device.dmaSubmit
  simp only [decide_eq_true_eq]
  rw [if_neg (by omega), if_neg (by simp [hmay])]
  rfl

theorem Device.dmaSubmit_stages (htxn : e.u 14 2 ≠ 0) : Device.dmaSubmit e d
    = d.stageWait e (e.u 14 2) (decide (e.u 38 1 = 1)) [e.u 12 1, e.u 13 1] [] (16 + e.u 12 1) (submitJob e) :=
  (Device.dmaSubmit_admitted hform hmay).trans (if_neg htxn)

variable (hnow : e.u 14 2 = 0) (harm : d.flag R.DMA_CH_CTL_ARM [e.u 12 1, e.u 13 1] = false)
include hnow harm

theorem Device.dmaSubmit_arms (hwait : e.u 38 1 = 0) :
    Device.dmaSubmit e d = ((d.overlay (submitSet e)).dmaArm (e.u 12 1) (e.u 13 1)).ok [] := by
  rw [Device.dmaSubmit_admitted hform hmay, if_pos hnow, if_neg (ne_true_of_eq_false harm), if_neg (by omega)]

theorem Device.dmaSubmit_accepts (hwait : e.u 38 1 = 1) : Device.dmaSubmit e d = d.submitAccepted e := by
  rw [Device.dmaSubmit_admitted hform hmay, if_pos hnow, if_neg (ne_true_of_eq_false harm), if_pos hwait]

end

/-! ### DMA_PAUSE and DMA_QUERY (R305, R310) -/

/-- A DMA_PAUSE that disarms a channel: a set that goes so gives no record, and its submitter is told DISCARDED. -/
def Device.disarmed (d : Device) (n c : Nat) : Device :=
  if d.flag R.DMA_CH_CTL_ARM [n, c] then
    (d.dmaDisarm n c).finish 0x0905 [n, c, (d.get R.DMA_CH_STAT_GEN [n, c] + 1) % 65536] stDISCARDED []
  else d

/-- DMA_QUERY's payload. -/
def Device.dmaReport (d : Device) (ix : List Nat) : List Byte :=
  layout [(1, d.get R.DMA_CH_STAT_STATE ix), (1, d.get R.DMA_CH_CTL_ARM ix), (2, d.get R.DMA_CH_STAT_GEN ix),
    (4, d.get R.DMA_CH_A_LEN_LEN ix), (4, d.get R.DMA_CH_CFG_CQ ix), (2, d.get R.DMA_CH_CFG_SHARE ix)]

section

variable {d : Device} {e : Entry} (hengine : e.u 12 1 ≤ 31) (hchannel : e.u 13 1 ≤ 15)
include hengine hchannel

theorem Device.dmaQuery_reports : Device.dmaQuery e d = d.ok (d.dmaReport [e.u 12 1, e.u 13 1]) := if_neg (by omega)

theorem Device.dmaPauseCmd_replies (hact : e.u 14 1 ≤ 2) (hmay : d.mayChannel e.via (e.u 12 1) (e.u 13 1) = true) {t : Device}
    (ht : (if e.u 14 1 = 2 then d.disarmed (e.u 12 1) (e.u 13 1)
      else d.dmaPause (e.u 12 1) (e.u 13 1) (decide (e.u 14 1 = 1))) = t) :
    Device.dmaPauseCmd e d = t.ok [BitVec.ofNat 8 (t.chState (e.u 12 1) (e.u 13 1))] := by
  subst ht
  unfold Device.dmaPauseCmd
  simp only
  rw [if_neg (by omega), if_neg (by simp [hmay])]
  rfl

end

/-! ### The group -/

/-- Settles O47: each command is one operation once its own checks are passed. -/
theorem deliveryCommands : Obligations.DeliveryCommands := by
  unfold Obligations.DeliveryCommands
  refine ⟨?qOpen, fun s e q hq hgeneral hopen hmay hnamed => ?qClose, fun s e q c hq hmax hmay hc => ?qQuery,
    fun s e q c hq hmax hdrop hc hopen hmay => ?qReset, ?claim, ?release, ?submit, ?stage,
    fun s e n c hn hc hengine hchannel hact hmay => ?pause, fun s e ix hix hengine hchannel => ?query⟩
  case qOpen =>
    intro s e q hq hgeneral hkindLow hkindHigh hsizeLow hsizeHigh hesize hpin hvector hres hresMid hresEnd hringAt hwbAt hmay hclosed
      hring hwb hpinned
    subst hq
    refine State.gives_of (body := Device.qOpen e) rfl fun _ => ?_
    rw [Device.qOpen_opens ⟨hgeneral, hkindLow, hkindHigh, hsizeLow, hsizeHigh, hesize, hpin, hvector, hres, hresMid, hresEnd, hringAt,
      hwbAt⟩ hmay hclosed hring hwb hpinned]
    exact ⟨rfl, rfl, (s.dev.entered e).askedCtx e, rfl, rfl, rfl, rfl, rfl, rfl, rfl, rfl, rfl, rfl, rfl, rfl, rfl, rfl⟩
  case qClose =>
    subst hq
    refine State.gives_of (body := Device.qClose e) rfl fun _ => ?_
    rw [Device.qClose_closes hgeneral hopen hmay hnamed]
    exact ⟨rfl, rfl⟩
  case qQuery =>
    subst hq hc
    refine State.gives_of (body := Device.qQuery e) rfl fun _ => ?_
    rw [Device.qQuery_reports hmax hmay]
    exact ⟨rfl, rfl, rfl⟩
  case qReset =>
    subst hq hc
    refine State.gives_of (body := Device.qReset e) rfl fun _ => ?_
    rw [Device.qReset_clears hmax hdrop hopen hmay]
    simp only [QCtx.cleared, decide_eq_true_eq]
    exact ⟨rfl, rfl⟩
  case claim =>
    intro s e n c ws hn hc hengine hchannel hclaim hcq hshare hfree htake hqueue hws htakes
    subst hn hc hws
    refine State.gives_of (body := Device.dmaChannel e) rfl fun _ => ?_
    rw [Device.dmaChannel_claims ⟨hengine, hchannel, hcq, hshare, hfree⟩ hclaim htake hqueue]
    exact Device.stageCmd_carries htakes
  case release =>
    intro s e n c hn hc hengine hchannel hrelease hcq hshare hfree hmay
    subst hn hc
    refine State.gives_of (body := Device.dmaChannel e) rfl fun _ => ?_
    rw [Device.dmaChannel_releases ⟨hengine, hchannel, hcq, hshare, hfree⟩ hrelease hmay]
    exact ⟨rfl, Device.disown_ownerOf _ _, rfl, rfl, rfl⟩
  case submit =>
    intro s e n c hn hc hnow hengine hchannel hoptions hwait hres htag hresEnd hmay harm
    subst hn hc
    have hform : e.SubmitForm := ⟨hengine, hchannel, hoptions, hwait, hres, htag, hresEnd⟩
    have harm' := (s.dev.entered_flag e _ _).trans harm
    refine State.gives_of (body := Device.dmaSubmit e) rfl fun _ => ⟨fun hno => ?_, fun hyes => ?_⟩
    · rw [Device.dmaSubmit_arms hform hmay hnow harm' hno]
      exact ⟨rfl, rfl⟩
    · rw [Device.dmaSubmit_accepts hform hmay hnow harm' hyes]
      exact ⟨rfl, rfl, rfl, fun _ => rfl⟩
  case stage =>
    intro s e n c txn ws hn hc htxn hsome hengine hchannel hoptions hwait hres htag hresEnd hmay hws htakes
    subst hn hc htxn hws
    refine State.gives_of (body := Device.dmaSubmit e) rfl fun _ => ?_
    rw [Device.dmaSubmit_stages ⟨hengine, hchannel, hoptions, hwait, hres, htag, hresEnd⟩ hmay hsome]
    exact Device.stageWait_carries htakes
  case pause =>
    subst hn hc
    refine State.gives_of (body := Device.dmaPauseCmd e) rfl fun _ => ?_
    rw [Device.dmaPauseCmd_replies hengine hchannel hact hmay rfl]
    refine ⟨rfl, rfl, fun hle => if_neg (by omega), fun htwo harm => ?_, fun htwo harm => ?_⟩
    · exact (if_pos htwo).trans (if_pos harm)
    · exact (if_pos htwo).trans (if_neg (ne_true_of_eq_false harm))
  case query =>
    subst hix
    refine State.gives_of (body := Device.dmaQuery e) rfl fun _ => ?_
    rw [Device.dmaQuery_reports hengine hchannel]
    exact ⟨rfl, rfl, rfl⟩

end Sys2Proof.Machine
end

section
/-! Scope: the Carousel's rows (R294, R298 to R301, R427): the doorbells, the context, append and take ports, coalescing, and the
messages that wait. -/

namespace Sys2Proof.Machine

/-! ### What waking the booth and using a context leave -/

@[simp] theorem Device.wake_dlv (d : Device) (b : Nat) : (d.wake b).dlv = d.dlv := by
  unfold Device.wake
  split <;> rfl

@[simp] theorem Device.wake_hst (d : Device) (b : Nat) : (d.wake b).hst = d.hst := by
  unfold Device.wake
  split <;> rfl

@[simp] theorem Device.wake_hostMem (d : Device) (b : Nat) : (d.wake b).hostMem = d.hostMem := by
  unfold Device.wake
  split <;> rfl

@[simp] theorem Device.wake_ctx (d : Device) (b q : Nat) : (d.wake b).ctx q = d.ctx q := by
  rw [Device.ctx, Device.wake_dlv, ← Device.ctx]

@[simp] theorem Device.touch_hostMem (d : Device) (q : Nat) : (d.touch q).hostMem = d.hostMem := by
  unfold Device.touch
  split <;> rfl

@[simp] theorem Device.touch_hbm (d : Device) (q : Nat) : (d.touch q).hbm = d.hbm := by
  unfold Device.touch
  split <;> rfl

/-- A use of a context is counted in the cache's own registers, the first of the booth (R295). -/
theorem Device.touch_rd (d : Device) (q : Nat) {r : Reg} (ix : List Nat) (h : R.CAR_CACHE.before r = true) :
    (d.touch q).rd r ix = d.rd r ix := by
  have hcache : r.addr ix ≠ R.CAR_CACHE.addr [] := Reg.addr_ne_of_before h rfl ix
  have hfirst : R.CAR_STAT.base < R.CAR_CACHE.base := by decide
  have hstat : r.addr ix ≠ R.CAR_STAT.addr [] :=
    Reg.addr_ne_of_before (decide_eq_true (hfirst.trans (of_decide_eq_true h))) rfl ix
  unfold Device.touch
  split
  · exact Device.rd_put_ne _ (f := R.CAR_CACHE_HITS) _ hcache
  · exact (Device.rd_put_ne _ (f := R.CAR_STAT_CACHED) _ hstat).trans (Device.rd_put_ne _ (f := R.CAR_CACHE_MISSES) _ hcache)

/-! ### Doorbells (R298, R300, R301) -/

section

variable {d : Device} {q : Nat}

theorem Device.doorbellSubmit_ignored (h : d.hostReach = false ∨ d.doorbellOpen q = false ∨ (d.ctx q).kind ≠ 1) (p : BitVec 32) :
    d.doorbellSubmit q p = d := by
  unfold Device.doorbellSubmit Device.doorbellProd
  split
  case isFalse => rfl
  case isTrue hreach =>
    have hstop : d.doorbellOpen q = false ∨ (d.ctx q).kind ≠ 1 := h.resolve_left (by simp [hreach])
    exact if_pos (by simpa using hstop)

theorem Device.doorbellCons_ignored (h : d.hostReach = false ∨ d.doorbellOpen q = false ∨ (d.ctx q).kind ≤ 1) (x : BitVec 32) :
    d.doorbellCons q x = d := if_pos (by simpa using h)

theorem Device.watermarkRead_closed (hreach : d.hostReach = true) (h : (d.ctx q).kind = 0) :
    d.watermarkRead q = d.completeRead 0 (zeros 8) := by
  unfold Device.watermarkRead
  rw [if_neg (by simp [hreach]), if_pos h]

theorem Device.watermarkRead_latches (hreach : d.hostReach = true) (h : (d.ctx q).kind ≠ 0) :
    d.watermarkRead q = ((d.touch q).setCtx q { d.ctx q with wmHit := false, peak := (d.ctx q).level }).completeRead 0
      (layout [(4, b2n (d.ctx q).wmHit), (4, (d.ctx q).peak)]) := by
  unfold Device.watermarkRead
  rw [if_neg (by simp [hreach]), if_neg h]
  simp only [Device.ctx_touch]

/-- An empty queue has nothing to signal at once. -/
theorem Device.rearm_empty (h : (d.ctx q).level = 0) : d.rearm q = d.setCtx q { d.ctx q with irqArmed := true } := by
  have hlevel : ¬ 0 < ({ d.ctx q with irqArmed := true } : QCtx).level := Nat.not_lt.2 h.le
  unfold Device.rearm
  simp only [Device.ctx_setCtx_same]
  exact if_neg fun hdue => hlevel hdue.1

theorem Device.rearm_signals (h : 0 < (d.ctx q).level) (hvec : (d.ctx q).vector ≠ 0xFFFF) :
    d.rearm q = (d.setCtx q { d.ctx q with irqArmed := true }).signal q := by
  unfold Device.rearm
  simp only [Device.ctx_setCtx_same]
  exact if_pos ⟨h, hvec⟩

variable (hreach : d.hostReach = true) (hopen : d.doorbellOpen q = true)
include hreach hopen

theorem Device.doorbellRearm_rearms : d.doorbellRearm q = (d.touch q).rearm q := if_neg (by simp [hreach, hopen])

section

variable (hkind : (d.ctx q).kind = 1)
include hkind

theorem Device.doorbellSubmit_tests (p : BitVec 32) : d.doorbellSubmit q p =
    if seq32Ge p (d.ctx q).prod && decide ((p - (d.ctx q).cons).toInt ≤ (2 ^ (d.ctx q).log2 : Nat)) then
      ((d.touch q).setCtx q ({ d.ctx q with prod := p } : QCtx).watermark).setFlag R.RM_IRQ_PEND_MBOX [] true
    else (d.touch q).queueError q 2 := by
  unfold Device.doorbellSubmit Device.doorbellProd
  rw [if_pos hreach, if_neg (by simp [hopen, hkind])]
  simp only [Device.ctx_touch]

theorem Device.doorbellSubmit_adopts {p : BitVec 32} (hge : seq32Ge p (d.ctx q).prod = true)
    (hroom : (p - (d.ctx q).cons).toInt ≤ (2 ^ (d.ctx q).log2 : Nat)) : d.doorbellSubmit q p =
      ((d.touch q).setCtx q ({ d.ctx q with prod := p } : QCtx).watermark).setFlag R.RM_IRQ_PEND_MBOX [] true := by
  rw [Device.doorbellSubmit_tests hreach hopen hkind, if_pos (by simp only [hge, Bool.true_and, decide_eq_true hroom])]

theorem Device.doorbellSubmit_errors {p : BitVec 32}
    (hout : seq32Ge p (d.ctx q).prod = false ∨ (2 ^ (d.ctx q).log2 : Nat) < (p - (d.ctx q).cons).toInt) :
    d.doorbellSubmit q p = (d.touch q).queueError q 2 := by
  rw [Device.doorbellSubmit_tests hreach hopen hkind, if_neg ?_]
  rw [Bool.and_eq_true, decide_eq_true_eq, not_and_or, Bool.not_eq_true, Int.not_le]
  exact hout

end

variable (hkind : 2 ≤ (d.ctx q).kind)
include hkind

theorem Device.doorbellCons_tests (x : BitVec 32) : d.doorbellCons q x =
    if seq32Ge x (d.ctx q).cons && seq32Ge (d.ctx q).prod x then
      (((d.touch q).setCtx q ({ d.ctx q with cons := x } : QCtx).watermark).rearm q).queueFlows q
    else (d.touch q).queueError q 2 := by
  unfold Device.doorbellCons
  rw [if_neg (by simp [hreach, hopen]; omega)]
  simp only [Device.ctx_touch]

theorem Device.doorbellCons_adopts {x : BitVec 32} (hge : seq32Ge x (d.ctx q).cons = true) (hle : seq32Ge (d.ctx q).prod x = true) :
    d.doorbellCons q x = (((d.touch q).setCtx q ({ d.ctx q with cons := x } : QCtx).watermark).rearm q).queueFlows q := by
  rw [Device.doorbellCons_tests hreach hopen hkind, if_pos (by rw [hge, hle]; rfl)]

theorem Device.doorbellCons_errors {x : BitVec 32}
    (hout : seq32Ge x (d.ctx q).cons = false ∨ seq32Ge (d.ctx q).prod x = false) :
    d.doorbellCons q x = (d.touch q).queueError q 2 := by
  rw [Device.doorbellCons_tests hreach hopen hkind, if_neg ?_]
  rw [Bool.and_eq_true, not_and_or, Bool.not_eq_true, Bool.not_eq_true]
  exact hout

end

/-! ### The context port (R294) -/

/-- The device as a command of the context port finds it. -/
def Device.portWoken (d : Device) : Device := (d.wake 8).wr R.CAR_CTX_CMD [] ((d.wake 8).rd R.CAR_CTX_CMD [])

section

variable (d : Device)

theorem Device.portWoken_rd {r : Reg} (ix : List Nat) (h : R.BOOTH_STATE.addr [8] < r.base) (hreset : r.reset = R.CAR_CTX_CMD.reset) :
    d.portWoken.rd r ix = d.rd r ix :=
  ((d.wake 8).rd_wr_self _ _ _ _ fun _ => hreset).trans (d.wakeDelivery_rd ix h)

theorem Device.portWoken_queue : d.portWoken.get R.CAR_CTX_SEL_QUEUE [] = d.get R.CAR_CTX_SEL_QUEUE [] :=
  Device.get_of_rd (d.portWoken_rd [] (by decide) rfl)

theorem Device.portWoken_ctxPortBytes : d.portWoken.ctxPortBytes = d.ctxPortBytes := by
  have hword : ∀ k, d.portWoken.rd R.CAR_CTX_DATA [k] = d.rd R.CAR_CTX_DATA [k] := fun k => d.portWoken_rd [k] (by decide) rfl
  simp only [Device.ctxPortBytes, hword]

@[simp] theorem Device.portWoken_dlv : d.portWoken.dlv = d.dlv := d.wake_dlv 8

@[simp] theorem Device.portWoken_ctx (q : Nat) : d.portWoken.ctx q = d.ctx q := d.wake_ctx 8 q

theorem Device.portWoken_pinned : d.portWoken.pinned = d.pinned := by rw [Device.pinned, Device.portWoken_dlv, ← Device.pinned]

/-- Word `k` of a context's 64 bytes. -/
def QCtx.word (c : QCtx) (k : Nat) : Word := BitVec.ofNat 64 (fieldAt c.bytes (8 * k) 8)

theorem Device.ctxLoad_eq : d.ctxLoad = (List.range 8).foldl
    (fun t k => t.wr R.CAR_CTX_DATA [k] ((d.ctx (d.get R.CAR_CTX_SEL_QUEUE [])).word k)) (d.touch (d.get R.CAR_CTX_SEL_QUEUE [])) := by
  simp only [Device.ctxLoad, Device.ctx_touch, QCtx.word]

theorem Device.ctxLoad_rd (k : Fin 8) :
    d.ctxLoad.rd R.CAR_CTX_DATA [k.val] = (d.ctx (d.get R.CAR_CTX_SEL_QUEUE [])).word k.val := by
  rw [Device.ctxLoad_eq]
  refine Device.foldl_wr_rd _ _ _ k.isLt fun j _ hj => ?_
  simp only [Reg.addr, R.CAR_CTX_DATA, strideSum]
  omega

/-- LOAD leaves all but registers and the cache. -/
theorem Device.ctxLoad_rest {γ : Type} (g : Device → γ) (hwr : ∀ (t : Device) r ix v, g (t.wr r ix v) = g t)
    (htouch : ∀ (t : Device) q, g (t.touch q) = g t) : g d.ctxLoad = g d := by
  rw [Device.ctxLoad_eq, Device.foldl_wr_rest _ _ _ _ g fun t k => hwr t _ _ _, htouch]

theorem Device.ctxLoad_ctx (q : Nat) : d.ctxLoad.ctx q = d.ctx q :=
  d.ctxLoad_rest (fun t => t.ctx q) (fun t _ _ _ => t.ctx_wr _ _ _ q) fun t j => t.ctx_touch j q

theorem Device.ctxLoad_hostMem : d.ctxLoad.hostMem = d.hostMem := d.ctxLoad_rest Device.hostMem Device.wr_hostMem Device.touch_hostMem

theorem Device.ctxLoad_hbm : d.ctxLoad.hbm = d.hbm := d.ctxLoad_rest Device.hbm Device.wr_hbm Device.touch_hbm

theorem Device.ctxStore_eq {q : Nat} {c : QCtx} (hq : d.get R.CAR_CTX_SEL_QUEUE [] = q) (hc : QCtx.ofBytes d.ctxPortBytes = c) :
    d.ctxStore = (d.storeCtx q c).queueFlows q := by rw [Device.ctxStore, hq, hc]

theorem Device.storeCtx_refused {q : Nat} {c : QCtx} (h : ctxRefused q c = true) :
    d.storeCtx q c = d.setFlag R.CAR_CTX_CMD_ERR [] true := if_pos h

end

/-! ### The append port (R291, R299) -/

/-- RESULT of an append. -/
def Append.result : Append → Nat
  | .appended => 0
  | .stalled => 0
  | .full => 1
  | .error => 2
  | .mismatch => 3

/-- The bytes in the append port's data registers. -/
def Device.appPortBytes (d : Device) : List Byte := (List.range 16).flatMap (fun k => leBytes 8 (d.rd R.CAR_APP_DATA [k]).toNat)

/-- The last word of an entry, counted from 0, ends it. -/
theorem esizeBytes_last (n : Nat) : 8 * (esizeBytes n / 8 - 1 + 1) = esizeBytes n := by
  unfold esizeBytes
  split_ifs <;> rfl

section

variable {d t : Device} {q n : Nat} (hq : d.get R.CAR_APP_Q_QUEUE [] = q) (hn : esizeBytes (d.ctx q).esize / 8 - 1 = n)
include hq hn

/-- A word of the port is no register of the queue that it appends to. -/
theorem Device.appWord_queue (v : Word) : (d.wr R.CAR_APP_DATA [n] v).get R.CAR_APP_Q_QUEUE [] = q := by
  rw [Device.get_wr_ne, hq]
  simp only [R.CAR_APP_Q_QUEUE, Reg.addr, R.CAR_APP_Q, R.CAR_APP_DATA, strideSum]
  omega

theorem Device.carAppend_last {v : Word} (ht : d.wr R.CAR_APP_DATA [n] v = t) : d.carAppend v = t.portAppend := by
  have hqueue := Device.appWord_queue hq hn v
  have hctx := d.ctx_wr R.CAR_APP_DATA [n] v q
  subst hn
  rw [ht] at hqueue hctx
  simp only [Device.carAppend, Device.appDataWrite, hq, ht, hqueue, hctx]
  exact if_pos (esizeBytes_last _)

end

section

variable {d : Device} {q : Nat} (hq : d.get R.CAR_APP_Q_QUEUE [] = q)
include hq

theorem Device.portAppend_mismatch (h2 : (d.ctx q).kind ≠ 2) (h5 : (d.ctx q).kind ≠ 5) :
    d.portAppend = d.put R.CAR_APP_STAT_RESULT [] 3 := by
  subst hq
  exact if_pos ⟨h2, h5⟩

variable (hkind : (d.ctx q).kind = 2 ∨ (d.ctx q).kind = 5)
include hkind

theorem Device.portAppend_stopped (hstop : d.appendsStopped q = true) : d.portAppend = d.put R.CAR_APP_STAT_RESULT [] 1 := by
  subst hq
  exact (if_neg (by omega)).trans (if_pos hstop)

theorem Device.portAppend_appends (hstop : d.appendsStopped q = false) {r : Append} {t : Device}
    (h : d.append q (d.ctx q).kind (d.appPortBytes.take (esizeBytes (d.ctx q).esize)) = (r, t)) :
    d.portAppend = t.put R.CAR_APP_STAT_RESULT [] r.result := by
  subst hq
  unfold Device.appPortBytes at h
  unfold Device.portAppend
  simp only
  rw [if_neg (by omega), if_neg (ne_true_of_eq_false hstop), h]
  cases r <;> rfl

end

/-! ### The take port (R292, R293, R425) -/

/-- The Net's windows alone tell what it admits. -/
theorem Device.netAdmits_of_windows {d t : Device}
    (h : ∀ r ∈ [R.NET_WIN_BASE, R.NET_WIN_LIMIT, R.NET_WIN_ATTR], ∀ w, t.rd r [w] = d.rd r [w]) (hbm write : Bool) (c : Client)
    (a len : Nat) : t.netAdmits hbm write c a len = d.netAdmits hbm write c a len := by
  have hget : ∀ f : Fld, f.reg ∈ [R.NET_WIN_BASE, R.NET_WIN_LIMIT, R.NET_WIN_ATTR] → ∀ w, t.get f [w] = d.get f [w] :=
    fun f hf w => Device.get_of_rd (h f.reg hf w)
  have hfld : c.fld.reg ∈ [R.NET_WIN_BASE, R.NET_WIN_LIMIT, R.NET_WIN_ATTR] := by cases c <;> decide
  have hwindow : ∀ w, t.windowAdmits w hbm write c a len = d.windowAdmits w hbm write c a len := fun w => by
    rw [Device.windowAdmits, Device.flag_of_get (hget R.NET_WIN_ATTR_VALID (by decide) w),
      Device.flag_of_get (hget R.NET_WIN_ATTR_SPACE (by decide) w), Device.flag_of_get (hget R.NET_WIN_ATTR_WR (by decide) w),
      Device.flag_of_get (hget R.NET_WIN_ATTR_RD (by decide) w), Device.flag_of_get (hget c.fld hfld w),
      hget R.NET_WIN_BASE_BASE (by decide) w, hget R.NET_WIN_LIMIT_LIMIT (by decide) w, Device.windowAdmits]
  simp only [Device.netAdmits, hwindow]

@[simp] theorem Device.writeBack_ctx (d : Device) (q j : Nat) : (d.writeBack q).ctx j = d.ctx j := by
  obtain ⟨m, hm⟩ := d.writeBack_changes q
  rw [hm, Device.ctx, Device.ctx]

/-- The context of a command queue after a take. -/
def QCtx.next (c : QCtx) : QCtx := ({ c with cons := c.cons + 1, count := c.count + 1 } : QCtx).watermark

theorem Device.taken_ctx (d : Device) (q : Nat) : (d.taken q).ctx q = (d.ctx q).next := by
  simp only [Device.taken, Device.writeBack_ctx, Device.ctx_setCtx_same, QCtx.next]

theorem Device.touchTaken_ctx (d : Device) (q : Nat) : ((d.touch q).taken q).ctx q = (d.ctx q).next := by
  rw [Device.taken_ctx, Device.ctx_touch]

theorem Device.wakeTouch_takeAdmitted (d : Device) (q : Nat) : ((d.wake 8).touch q).takeAdmitted q = d.takeAdmitted q := by
  have hrd : ∀ r ∈ [R.NET_WIN_BASE, R.NET_WIN_LIMIT, R.NET_WIN_ATTR], ∀ w, ((d.wake 8).touch q).rd r [w] = d.rd r [w] := fun r hr w => by
    have hbase : R.CAR_CACHE.base < r.base ∧ R.BOOTH_STATE.addr [8] < r.base := by revert r; decide
    rw [Device.touch_rd _ _ _ (decide_eq_true hbase.1), Device.wakeDelivery_rd _ _ hbase.2]
  simp only [Device.takeAdmitted, Device.ctx_touch, Device.wake_ctx, Device.netAdmits_of_windows hrd]

/-- Word `k` of an entry taken. -/
def entryWord (bs : List Byte) (k : Nat) : Word := BitVec.ofNat 64 (fieldAt bs (8 * k) 8)

section

variable (t : Device) (bs : List Byte)

/-- What a take shows: the entry in the data registers, RESULT 0. -/
def Device.takeShown : Device :=
  (List.range 8).foldl (fun t k => t.wr R.CAR_TAKE_DATA [k] (entryWord bs k)) (t.put R.CAR_TAKE_CMD_RESULT [] 0)

theorem Device.takeShown_result : (t.takeShown bs).get R.CAR_TAKE_CMD_RESULT [] = 0 := by
  rw [Device.takeShown, Device.foldl_wr_rest _ _ _ _ (fun u => u.get R.CAR_TAKE_CMD_RESULT []) fun u k => ?apart]
  · exact Device.get_put_same _ _ _ _ (by decide)
  case apart =>
    refine u.get_wr_ne _ ?_
    simp only [R.CAR_TAKE_CMD_RESULT, Reg.addr, R.CAR_TAKE_CMD, R.CAR_TAKE_DATA, strideSum]
    omega

theorem Device.takeShown_ctx (q : Nat) : (t.takeShown bs).ctx q = t.ctx q := by
  rw [Device.takeShown, Device.foldl_wr_rest _ _ _ _ (fun u => u.ctx q) fun u k => u.ctx_wr _ _ _ _, Device.ctx_put]

theorem Device.takeShown_rd (k : Fin 8) : (t.takeShown bs).rd R.CAR_TAKE_DATA [k.val] = entryWord bs k.val := by
  refine Device.foldl_wr_rd _ _ _ k.isLt fun j _ hj => ?_
  simp only [Reg.addr, R.CAR_TAKE_DATA, strideSum]
  omega

end

section

variable {d : Device} {q : Nat}

theorem Device.takeEntry_takes (hkind : (d.ctx q).kind = 1) (hgood : (d.ctx q).error = false) (hlevel : (d.ctx q).level ≠ 0)
    (hadmitted : (d.touch q).takeAdmitted q = true) : d.takeEntry q =
      (0, d.hostRead ((d.ctx q).entryAddr (d.ctx q).cons) 64, (d.touch q).taken q) := by
  unfold Device.takeEntry
  simp only [Device.ctx_touch]
  rw [if_neg (by simp [hkind, hgood]), if_neg hlevel, if_neg (by simp [hadmitted]), Device.hostRead, Device.touch_hostMem,
    ← Device.hostRead]

variable (hq : d.get R.CAR_TAKE_Q_QUEUE [] = q)
include hq

theorem Device.carTake_waits (hfree : d.linkFree = false) : d.carTake = { d with dlv := { d.dlv with takeDue := some q } } := by
  subst hq
  exact if_pos (by simp [hfree])

variable (hfree : d.linkFree = true) {bs : List Byte} {t : Device}
include hfree

theorem Device.carTake_none {r : Nat} (hr : r ≠ 0) (htake : d.takeEntry q = (r, bs, t)) :
    d.carTake = t.put R.CAR_TAKE_CMD_RESULT [] r := by
  subst hq
  rw [Device.carTake, if_neg (by simp [hfree]), htake]
  exact if_neg hr

theorem Device.carTake_shows (htake : d.takeEntry q = (0, bs, t)) : d.carTake = t.takeShown bs := by
  subst hq
  rw [Device.carTake, if_neg (by simp [hfree]), htake]
  exact if_pos rfl

end

/-! ### Coalescing (R301) -/

/-- The coalescing of a queue is due at a time: enough entries, or the oldest of them old enough. -/
def QCtx.due (c : QCtx) (now : TT) : Prop :=
  max 1 c.coalN ≤ c.unsig ∨ 0 < c.coalUs ∧ (c.coalUs * 1000 * 65536 : Int) ≤ ttDiff now c.oldest

section

variable {d : Device} {q : Nat}

theorem Device.signalIfDue_signals (harmed : (d.ctx q).irqArmed = true) (hvec : (d.ctx q).vector ≠ 0xFFFF) (hsome : 0 < (d.ctx q).unsig)
    (hdue : (d.ctx q).due d.tt) :
    d.signalIfDue q = (d.setCtx q { d.ctx q with unsig := 0, irqArmed := false }).message (d.ctx q).vector := by
  have hsignal : d.signalIfDue q = d.signal q := if_pos (by
    simp only [Bool.and_eq_true, Bool.or_eq_true, decide_eq_true_eq]
    exact ⟨⟨⟨harmed, hvec⟩, hsome⟩, hdue⟩)
  exact hsignal.trans (if_neg hvec)

theorem Device.signalIfDue_waits
    (h : (d.ctx q).irqArmed = false ∨ (d.ctx q).vector = 0xFFFF ∨ (d.ctx q).unsig = 0 ∨ ¬ (d.ctx q).due d.tt) : d.signalIfDue q = d := by
  refine if_neg fun hall => ?_
  simp only [Bool.and_eq_true, Bool.or_eq_true, decide_eq_true_eq] at hall
  obtain ⟨⟨⟨harmed, hvec⟩, hsome⟩, hdue⟩ := hall
  rcases h with h | h | h | h
  · exact ne_true_of_eq_false h harmed
  · exact hvec h
  · exact hsome.ne' h
  · exact h hdue

theorem QCtx.not_due {c : QCtx} {now : TT} (hfew : c.unsig < max 1 c.coalN)
    (hyoung : c.coalUs = 0 ∨ ttDiff now c.oldest < (c.coalUs * 1000 * 65536 : Int)) : ¬ c.due now := by
  rintro (hmany | ⟨hpos, hold⟩)
  · omega
  · omega

end

/-! ### Messages that wait (R427) -/

theorem Device.vec_setVec_ne (d : Device) {v w : Nat} (x : MsixVec) (h : w ≠ v) : (d.setVec v x).vec w = d.vec w := by
  simp [Device.vec, Device.setVec, Sparse.get_put_ne _ _ _ h]

/-- The message of a vector whose condition to wait has ended is sent. -/
def Device.sendIfFree (d : Device) (v : Nat) : Device :=
  if (d.vec v).pending && !d.msixHeld v then (d.setVec v { d.vec v with pending := false }).sendMessage v else d

theorem Device.sendPending_eq (d : Device) : d.sendPending = d.hst.vectors.foldl (fun t x => t.sendIfFree x.1) d := rfl

/-- `t` came from `d` by messages being sent: of every vector no more than its pending bit changes, and that only to 0. -/
structure Device.SentFrom (d t : Device) : Prop where
  held : ∀ v, t.msixHeld v = d.msixHeld v
  addr : ∀ v, (t.vec v).addr = (d.vec v).addr
  data : ∀ v, (t.vec v).data = (d.vec v).data
  masked : ∀ v, (t.vec v).masked = (d.vec v).masked
  pending : ∀ v, (t.vec v).pending = true → (d.vec v).pending = true

theorem Device.SentFrom.refl (d : Device) : d.SentFrom d := ⟨fun _ => rfl, fun _ => rfl, fun _ => rfl, fun _ => rfl, fun _ h => h⟩

theorem Device.SentFrom.trans {d t u : Device} (h : d.SentFrom t) (h' : t.SentFrom u) : d.SentFrom u :=
  ⟨fun v => (h'.held v).trans (h.held v), fun v => (h'.addr v).trans (h.addr v), fun v => (h'.data v).trans (h.data v),
    fun v => (h'.masked v).trans (h.masked v), fun v hv => h.pending v (h'.pending v hv)⟩

/-- The message of vector `v` leaves. -/
theorem Device.vec_sent (d : Device) (v w : Nat) : ((d.setVec v { d.vec v with pending := false }).sendMessage v).vec w
    = if w = v then { d.vec v with pending := false } else d.vec w := by
  change (d.setVec v { d.vec v with pending := false }).vec w = _
  split
  case isTrue h => rw [h, Device.setVec_same]
  case isFalse h => exact d.vec_setVec_ne _ h

theorem Device.sendIfFree_sentFrom (d : Device) (v : Nat) : d.SentFrom (d.sendIfFree v) := by
  unfold Device.sendIfFree
  split
  case isFalse => exact .refl d
  case isTrue =>
    have hmasked : ∀ w, (((d.setVec v { d.vec v with pending := false }).sendMessage v).vec w).masked = (d.vec w).masked := fun w => by
      rw [Device.vec_sent]
      split_ifs with hw
      · rw [hw]
      · rfl
    refine ⟨fun w => ?held, fun w => ?addr, fun w => ?data, hmasked, fun w => ?pending⟩
    case held =>
      rw [Device.msixHeld, hmasked]
      rfl
    case addr | data | pending =>
      rw [Device.vec_sent]
      split_ifs with hw
      · simp [hw]
      · simp

theorem Device.sendIfFree_pending (d : Device) (v : Nat) (h : ((d.sendIfFree v).vec v).pending = true) : d.msixHeld v = true := by
  unfold Device.sendIfFree at h
  split at h
  case isTrue => simp [Device.vec_sent] at h
  case isFalse hnot => simpa [h] using hnot

/-- Every vector that has had its turn is pending only where something holds it. -/
theorem Device.sendEach (l : List (Nat × MsixVec)) (d : Device) :
    d.SentFrom (l.foldl (fun t x => t.sendIfFree x.1) d)
      ∧ ∀ x ∈ l, ((l.foldl (fun t x => t.sendIfFree x.1) d).vec x.1).pending = true → d.msixHeld x.1 = true := by
  induction l generalizing d with
  | nil => exact ⟨.refl d, by simp⟩
  | cons x l ih =>
    obtain ⟨hsent, hheld⟩ := ih (d.sendIfFree x.1)
    have hfirst := d.sendIfFree_sentFrom x.1
    refine ⟨hfirst.trans hsent, fun y hy hpending => ?_⟩
    rcases List.mem_cons.1 hy with rfl | hy
    · exact d.sendIfFree_pending _ (hsent.pending _ hpending)
    · exact (hfirst.held _).symm.trans (hheld y hy hpending)

/-- A key that reads as something else than the default is listed. -/
theorem Sparse.mem_of_get_ne {α : Type} {dflt : α} {k : Nat} {m : Sparse α} (h : Sparse.get dflt k m ≠ dflt) : ∃ v, (k, v) ∈ m := by
  induction m with
  | nil => exact absurd rfl h
  | cons x m ih =>
    obtain ⟨a, v⟩ := x
    by_cases ha : a = k
    · exact ⟨v, by simp [ha]⟩
    · obtain ⟨w, hw⟩ := ih (by simpa [Sparse.get, ha] using h)
      exact ⟨w, List.mem_cons_of_mem _ hw⟩

theorem Device.sendPending_sentFrom (d : Device) : d.SentFrom d.sendPending := (Device.sendEach _ d).1

theorem Device.sendPending_held (d : Device) {v : Nat} (h : (d.sendPending.vec v).pending = true) : d.sendPending.msixHeld v = true := by
  have hsent := d.sendPending_sentFrom
  have hlisted : d.vec v ≠ {} := fun hnone => by
    have hp := hsent.pending v h
    rw [hnone] at hp
    exact Bool.false_ne_true hp
  obtain ⟨x, hx⟩ := Sparse.mem_of_get_ne hlisted
  exact (hsent.held v).trans ((Device.sendEach _ d).2 _ hx h)

/-! ### The rows -/

section

variable {s : State} (h : s.awake)
include h

theorem State.does_doorbellProdWrite (q : Fin 1048576) (p : BitVec 32) :
    s.does (.doorbellProdWrite q p) (s.dev.doorbellSubmit q.val p) :=
  State.does_of_live (f := fun d => d.doorbellSubmit q.val p) rfl h rfl

theorem State.does_doorbellConsWrite (q : Fin 1048576) (x : BitVec 32) : s.does (.doorbellConsWrite q x) (s.dev.doorbellCons q.val x) :=
  State.does_of_live (f := fun d => d.doorbellCons q.val x) rfl h rfl

theorem State.does_dbWmRead (q : Fin 1048576) : s.does (.dbWmRead q) (s.dev.watermarkRead q.val) :=
  State.does_of_live (f := fun d => d.watermarkRead q.val) rfl h rfl

theorem State.does_dbRearm (q : Fin 1048576) : s.does (.dbRearm q) (s.dev.doorbellRearm q.val) :=
  State.does_of_live (f := fun d => d.doorbellRearm q.val) rfl h rfl

theorem State.does_carCtxLoad : s.does .carCtxLoad s.dev.portWoken.ctxLoad :=
  State.does_of_live (f := fun d => d.strike [] [(R.CAR_CTX_CMD_LOAD, 1)]) rfl h s.dev.struck_ctxLoad

theorem State.does_carCtxStore {q : Nat} {c : QCtx} (hq : s.dev.get R.CAR_CTX_SEL_QUEUE [] = q)
    (hc : QCtx.ofBytes s.dev.ctxPortBytes = c) : s.does .carCtxStore ((s.dev.portWoken.storeCtx q c).queueFlows q) :=
  State.does_of_live (f := fun d => d.strike [] [(R.CAR_CTX_CMD_STORE, 1)]) rfl h (s.dev.struck_ctxStore.trans
    (s.dev.portWoken.ctxStore_eq (s.dev.portWoken_queue.trans hq) (s.dev.portWoken_ctxPortBytes ▸ hc)))

theorem State.does_carAppend (v : Word) : s.does (.carAppend v) (s.dev.carAppend v) :=
  State.does_of_live (f := fun d => d.carAppend v) rfl h rfl

theorem State.does_carTake : s.does .carTake (s.dev.wake 8).carTake :=
  State.does_of_live (f := fun d => d.strike [] [(R.CAR_TAKE_CMD_TAKE, 1)]) rfl h s.dev.struck_carTake

theorem State.does_coalesceTimeout (q : Fin 1048576) : s.does (.coalesceTimeout q) (s.dev.signalIfDue q.val) :=
  State.does_of_live (f := fun d => d.signalIfDue q.val) rfl h rfl

theorem State.does_msixPendingSend : s.does .msixPendingSend s.dev.sendPending :=
  State.does_of_live (f := Device.sendPending) rfl h rfl

end

/-- Settles O27: each row is one operation of a doorbell or of a port, and each clause one of its cases. -/
theorem queueRows : Obligations.QueueRows := by
  unfold Obligations.QueueRows
  refine ⟨fun s q p c h hreach hopen hc hkind hge hroom => ?prod, fun s q p c h hreach hopen hc hkind hout => ?prodOut,
    fun s q p h hstop => State.does_congr (State.does_doorbellProdWrite h q p) (Device.doorbellSubmit_ignored hstop p),
    fun s q x c h hreach hopen hc hkind hge hle => ?cons, fun s q x c h hreach hopen hc hkind hout => ?consOut,
    fun s q x h hstop => State.does_congr (State.does_doorbellConsWrite h q x) (Device.doorbellCons_ignored hstop x),
    fun s q c h hreach hc hkind => ?watermark, fun s q h hreach hkind => ?watermarkClosed, fun s q h hreach hopen hempty => ?rearmEmpty,
    fun s q h hreach hopen hlevel hvec => ?rearm, fun s q h hq => ?load, fun s q c h hq hc hfits => ?store,
    fun s q c h hq hc hrefused => ?storeRefused, fun s v q n d h hq hn hd => ?noAppend,
    fun s v q n d e bs r h hq hn hd hkind hstop hbs hr => ?append, fun s q bs d e h he hq => ?takeNone,
    fun s q c h hq hfree hc hkind hgood hlevel hadmitted => ?take, fun s q c h hc harmed hvec hsome hdue => ?signal,
    fun s q c h hc hwait => ?noSignal, fun s h => ?messages⟩
  case prod =>
    subst hc
    have hdoes := State.does_congr (State.does_doorbellProdWrite h q p) (Device.doorbellSubmit_adopts hreach hopen hkind hge hroom)
    exact ⟨_, hdoes, Device.ctx_setCtx_same _ _ _, Device.flag_setFlag_same _ _ _ _ (by decide) (by decide), s.dev.touch_hostMem q.val,
      s.dev.touch_hbm q.val⟩
  case prodOut =>
    subst hc
    exact State.does_congr (State.does_doorbellProdWrite h q p) (Device.doorbellSubmit_errors hreach hopen hkind hout)
  case cons =>
    subst hc
    exact State.does_congr (State.does_doorbellConsWrite h q x) (Device.doorbellCons_adopts hreach hopen hkind hge hle)
  case consOut =>
    subst hc
    exact State.does_congr (State.does_doorbellConsWrite h q x) (Device.doorbellCons_errors hreach hopen hkind hout)
  case watermark =>
    subst hc
    have hdoes := State.does_congr (State.does_dbWmRead h q) (Device.watermarkRead_latches hreach hkind)
    exact ⟨_, hdoes, Device.ctx_setCtx_same _ _ _, rfl, s.dev.touch_hostMem q.val⟩
  case watermarkClosed => exact State.does_congr (State.does_dbWmRead h q) (Device.watermarkRead_closed hreach hkind)
  case rearmEmpty =>
    have hctx := s.dev.ctx_touch q.val q.val
    have hempty' : ((s.dev.touch q.val).ctx q.val).level = 0 := hctx.symm ▸ hempty
    have hdoes := State.does_congr (State.does_dbRearm h q)
      ((Device.doorbellRearm_rearms hreach hopen).trans (Device.rearm_empty hempty'))
    rw [hctx] at hdoes
    exact ⟨_, hdoes, Device.ctx_setCtx_same _ _ _, s.dev.touch_hostMem q.val⟩
  case rearm =>
    have hctx := s.dev.ctx_touch q.val q.val
    have hrearm : (s.dev.touch q.val).rearm q.val = _ := Device.rearm_signals (hctx.symm ▸ hlevel) (hctx.symm ▸ hvec)
    rw [hctx] at hrearm
    exact State.does_congr (State.does_dbRearm h q) ((Device.doorbellRearm_rearms hreach hopen).trans hrearm)
  case load =>
    subst hq
    have hword := s.dev.portWoken.ctxLoad_rd
    rw [Device.portWoken_queue, Device.portWoken_ctx] at hword
    exact ⟨_, State.does_carCtxLoad h, hword, fun j => (s.dev.portWoken.ctxLoad_ctx j).trans (s.dev.portWoken_ctx j),
      s.dev.portWoken.ctxLoad_hostMem.trans (s.dev.wake_hostMem 8), s.dev.portWoken.ctxLoad_hbm.trans (s.dev.wake_hbm 8)⟩
  case store =>
    have hstored := s.dev.portWoken.storeCtx_same q c hfits
    rw [Device.portWoken_pinned, Device.portWoken_ctx] at hstored
    exact ⟨_, State.does_carCtxStore h hq hc, hstored, fun j hj => (s.dev.portWoken.storeCtx_ne c hj).trans (s.dev.portWoken_ctx j)⟩
  case storeRefused =>
    have hdoes := State.does_carCtxStore h hq hc
    rw [Device.storeCtx_refused _ hrefused] at hdoes
    exact ⟨_, hdoes, Device.flag_setFlag_same _ _ _ _ (by decide) (by decide), s.dev.portWoken_ctx⟩
  case noAppend =>
    have hdoes := State.does_congr (State.does_carAppend h v) (Device.carAppend_last hq hn hd)
    have hqueue := Device.appWord_queue hq hn v
    have hctx := s.dev.ctx_wr R.CAR_APP_DATA [n] v q
    rw [hd] at hqueue hctx
    exact ⟨fun h2 h5 => State.does_congr hdoes (Device.portAppend_mismatch hqueue (hctx.symm ▸ h2) (hctx.symm ▸ h5)),
      fun hkind hstop => State.does_congr hdoes (Device.portAppend_stopped hqueue (hctx.symm ▸ hkind) hstop)⟩
  case append =>
    have hdoes := State.does_congr (State.does_carAppend h v) (Device.carAppend_last hq hn hd)
    have hqueue := Device.appWord_queue hq hn v
    have hctx := s.dev.ctx_wr R.CAR_APP_DATA [n] v q
    rw [hd] at hqueue hctx
    rw [← hctx] at hkind hbs hr
    subst hbs
    refine State.does_congr hdoes ((Device.portAppend_appends hqueue hkind hstop hr).trans ?_)
    cases r <;> rfl
  case takeNone =>
    subst he
    have hdoes := State.does_carTake h
    exact ⟨fun hfree => State.does_congr hdoes (Device.carTake_waits hq hfree),
      fun hfree htake => State.does_congr hdoes (Device.carTake_none hq hfree (by decide) htake),
      fun hfree htake => State.does_congr hdoes (Device.carTake_none hq hfree (by decide) htake)⟩
  case take =>
    subst hc
    have hqueue := (s.dev.wakeDelivery_get (f := R.CAR_TAKE_Q_QUEUE) [] (by decide)).trans hq
    have hlink : (s.dev.wake 8).linkFree = true := by rw [Device.linkFree, Device.wake_hst, ← Device.linkFree, hfree]
    have hctx := s.dev.wake_ctx 8 q
    have htake := Device.takeEntry_takes (d := s.dev.wake 8) (hctx.symm ▸ hkind) (hctx.symm ▸ hgood) (hctx.symm ▸ hlevel)
      ((s.dev.wakeTouch_takeAdmitted q).trans hadmitted)
    have hdoes := State.does_congr (State.does_carTake h) (Device.carTake_shows hqueue hlink htake)
    rw [hctx, Device.hostRead, Device.wake_hostMem, ← Device.hostRead] at hdoes
    exact ⟨_, hdoes, Device.takeShown_result _ _,
      (Device.takeShown_ctx _ _ q).trans ((Device.touchTaken_ctx _ q).trans (congrArg QCtx.next hctx)), Device.takeShown_rd _ _⟩
  case signal =>
    subst hc
    exact State.does_congr (State.does_coalesceTimeout h q) (Device.signalIfDue_signals harmed hvec hsome hdue)
  case noSignal =>
    subst hc
    exact State.does_congr (State.does_coalesceTimeout h q)
      (Device.signalIfDue_waits (hwait.imp_right (Or.imp_right (Or.imp_right fun hno => QCtx.not_due hno.1 hno.2))))
  case messages =>
    have hsent := s.dev.sendPending_sentFrom
    exact ⟨_, State.does_msixPendingSend h, fun v => s.dev.sendPending_held, fun v => ⟨hsent.addr v, hsent.data v, hsent.masked v⟩⟩

end Sys2Proof.Machine
end

section
/-! Scope: the time base (R322 to R331, R336, R338): what each of its operations writes in each of its cases, and its rows. -/

namespace Sys2Proof.Machine

/-! ### What writes of registers leave -/

@[simp] theorem Device.setFlag_tim (d : Device) (f : Fld) (ix : List Nat) (b : Bool) : (d.setFlag f ix b).tim = d.tim := rfl

@[simp] theorem Device.setTime_tim (d : Device) (x : TimeX) : (d.setTime x).tim = { d.tim with time := x } := rfl

@[simp] theorem Device.setTime_flag (d : Device) (x : TimeX) (f : Fld) (ix : List Nat) : (d.setTime x).flag f ix = d.flag f ix := rfl

@[simp] theorem Device.wake_tim (d : Device) (b : Nat) : (d.wake b).tim = d.tim := by
  unfold Device.wake
  split <;> rfl

theorem Device.get_wr_beside (d : Device) {f : Fld} {r : Reg} (ix : List Nat) (v : Word) (h : f.reg.beside r = true) :
    (d.wr r ix v).get f ix = d.get f ix := Device.get_of_rd (d.rd_wr_beside ix v h)

theorem Device.flag_wr_beside (d : Device) {f : Fld} {r : Reg} (ix : List Nat) (v : Word) (h : f.reg.beside r = true) :
    (d.wr r ix v).flag f ix = d.flag f ix := Device.flag_of_get (d.get_wr_beside ix v h)

theorem Device.get_setFlag_beside (d : Device) {f g : Fld} (ix : List Nat) (b : Bool) (h : g.beside f = true) :
    (d.setFlag f ix b).get g ix = d.get g ix := d.get_put_beside ix _ h

theorem Device.flag_put_beside (d : Device) {f g : Fld} (ix : List Nat) (v : Nat) (h : g.beside f = true) :
    (d.put f ix v).flag g ix = d.flag g ix := Device.flag_of_get (d.get_put_beside ix v h)

theorem Device.flag_setFlag_beside (d : Device) {f g : Fld} (ix : List Nat) (b : Bool) (h : g.beside f = true) :
    (d.setFlag f ix b).flag g ix = d.flag g ix := d.flag_put_beside ix _ h

theorem Device.rd_setFlag_beside (d : Device) {r : Reg} {f : Fld} (ix : List Nat) (b : Bool) (h : r.beside f.reg = true) :
    (d.setFlag f ix b).rd r ix = d.rd r ix := d.rd_put_beside ix _ h

/-- A booth wakes in its state register alone. -/
theorem Device.wake_rd_ne (d : Device) {b : Nat} {q : Reg} {ix : List Nat} (h : q.addr ix ≠ R.BOOTH_STATE.addr [b]) :
    (d.wake b).rd q ix = d.rd q ix := by
  unfold Device.wake
  split
  · exact d.rd_put_ne (f := R.BOOTH_STATE_STATE) _ h
  · rfl

/-! ### Control registers with a GO bit -/

/-- The device as a GO of control register `r` of booth `b` finds it: the booth awake, the register written with what it held. -/
def Device.goWoken (d : Device) (b : Nat) (r : Reg) : Device := (d.wake b).wr r [] ((d.wake b).rd r [])

/-- What a read of `q` does not see: booth `b` waking, and `r` written with what it held. -/
def Reg.unmovedBy (q : Reg) (b : Nat) (r : Reg) : Bool :=
  decide (q.addr [] ≠ R.BOOTH_STATE.addr [b] ∧ (q.addr [] = r.addr [] → q.reset = r.reset))

section
variable (d : Device) {b : Nat} {r : Reg}

theorem Device.goWoken_rd {q : Reg} (h : q.unmovedBy b r = true) : (d.goWoken b r).rd q [] = d.rd q [] := by
  obtain ⟨hstate, hreset⟩ := of_decide_eq_true h
  exact ((d.wake b).rd_wr_self _ _ _ _ hreset).trans (d.wake_rd_ne hstate)

theorem Device.goWoken_get {f : Fld} (h : f.reg.unmovedBy b r = true) : (d.goWoken b r).get f [] = d.get f [] :=
  Device.get_of_rd (d.goWoken_rd h)

theorem Device.goWoken_flag {f : Fld} (h : f.reg.unmovedBy b r = true) : (d.goWoken b r).flag f [] = d.flag f [] :=
  Device.flag_of_get (d.goWoken_get h)

@[simp] theorem Device.goWoken_tim : (d.goWoken b r).tim = d.tim := d.wake_tim b

@[simp] theorem Device.goWoken_hst : (d.goWoken b r).hst = d.hst := d.wake_hst b

theorem Device.goWoken_tt : (d.goWoken b r).tt = d.tt := by rw [Device.tt, Device.goWoken_tim, ← Device.tt]

end

/-! ### INCR (R323) -/

theorem clamp_inside {lo hi v : Nat} (hlo : lo ≤ v) (hhi : v ≤ hi) : clamp lo hi v = v := by
  simp only [clamp]
  omega

theorem clamp_outside {lo hi v : Nat} (hle : lo ≤ hi) (h : v < lo ∨ hi < v) : clamp lo hi v = if v < lo then lo else hi := by
  simp only [clamp]
  split <;> omega

section
variable (d : Device) (v : Nat)

theorem incr_clamp_lt : clamp incrMin incrMax v < 2 ^ 40 := by
  simp only [clamp, incrMin, incrMax]
  omega

/-- The booth awake and INCR written with the clamped value. -/
def Device.incrSet : Device := (d.wake 11).put R.TB_INCR_INCR [] (clamp incrMin incrMax v)

theorem Device.incrSet_incr : (d.incrSet v).get R.TB_INCR_INCR [] = clamp incrMin incrMax v :=
  Device.get_put_fit _ _ (by decide) (incr_clamp_lt v)

variable {v} in
theorem Device.setIncr_within (h : clamp incrMin incrMax v = v) : d.setIncr v = d.incrSet v := if_pos h

variable {v} in
theorem Device.setIncr_clamps (h : clamp incrMin incrMax v ≠ v) : d.setIncr v = (d.incrSet v).setFlag R.TB_STAT_CLAMPED [] true :=
  if_neg h

theorem Device.setIncr_incr : (d.setIncr v).get R.TB_INCR_INCR [] = clamp incrMin incrMax v := by
  by_cases h : clamp incrMin incrMax v = v
  · rw [d.setIncr_within h, d.incrSet_incr]
  · rw [d.setIncr_clamps h, Device.get_setFlag_beside _ _ _ (by decide), d.incrSet_incr]

theorem Device.setIncr_tim : (d.setIncr v).tim = d.tim := by
  by_cases h : clamp incrMin incrMax v = v
  · rw [d.setIncr_within h]
    exact d.wake_tim 11
  · rw [d.setIncr_clamps h]
    exact d.wake_tim 11

variable {v} in
theorem Device.setIncr_keeps_clamped (h : clamp incrMin incrMax v = v) :
    (d.setIncr v).flag R.TB_STAT_CLAMPED [] = d.flag R.TB_STAT_CLAMPED [] := by
  rw [d.setIncr_within h, Device.incrSet, Device.flag_put_beside _ _ _ (by decide)]
  exact Device.flag_of_get (Device.get_of_rd (d.wake_rd_ne (by decide)))

variable {v} in
theorem Device.setIncr_clamped (h : clamp incrMin incrMax v ≠ v) : (d.setIncr v).flag R.TB_STAT_CLAMPED [] = true := by
  rw [d.setIncr_clamps h, Device.flag_setFlag_same _ _ _ _ (by decide) (by decide)]

end

/-! ### Step requests (R326, R329) -/

/-- The step that the step registers ask for. -/
def Device.stepAsked (d : Device) : StepReq where
  load := d.flag R.TB_STEP_CTL_LOAD []
  both := d.flag R.TB_STEP_CTL_BOTH []
  atTT := if d.flag R.TB_STEP_CTL_AT [] then some (d.rd R.TB_STEP_AT []) else none
  amt := (d.rd R.TB_STEP_AMT []).toInt
  sec := d.get R.TB_STEP_SEC_SEC []
  ns := d.get R.TB_STEP_NS_NS []
  frac := d.get R.TB_STEP_NS_FRAC []

/-- A step is asked for and pending. -/
def Device.stepPends (d : Device) : Device :=
  ((d.setTime { d.tim.time with step := some d.stepAsked }).setFlag R.TB_STEP_CTL_BUSY [] true).setFlag R.TB_STAT_STEP_PEND [] true

section
variable {d : Device}

theorem Device.stepGo_refused
    (h : d.tim.time.step.isSome = true ∨ d.flag R.TB_STEP_CTL_LOAD [] = true ∧ d.flag R.TB_STEP_CTL_AT [] = false) :
    d.stepGo = d.setFlag R.TB_STAT_CFG_BAD [] true := if_pos (h.imp_right fun ⟨hload, hat⟩ => ⟨hload, congrArg not hat⟩)

theorem Device.stepGo_taken (hnone : d.tim.time.step = none)
    (h : d.flag R.TB_STEP_CTL_LOAD [] = false ∨ d.flag R.TB_STEP_CTL_AT [] = true) : d.stepGo = d.stepPends := by
  refine if_neg ?_
  rintro (hsome | ⟨hload, hat⟩)
  · rw [hnone] at hsome
    exact absurd hsome (by decide)
  · rcases h with h | h
    · exact absurd (h.symm.trans hload) (by decide)
    · rw [h] at hat
      exact absurd hat (by decide)

theorem Device.goWoken_stepAsked : (d.goWoken 11 R.TB_STEP_CTL).stepAsked = d.stepAsked := by
  simp (disch := decide) only [Device.stepAsked, Device.goWoken_flag, Device.goWoken_rd, Device.goWoken_get]

theorem Device.stepPends_busy : d.stepPends.flag R.TB_STEP_CTL_BUSY [] = true := by
  rw [Device.stepPends, Device.flag_setFlag_beside _ _ _ (by decide), Device.flag_setFlag_same _ _ _ _ (by decide) (by decide)]

theorem Device.stepPends_pend : d.stepPends.flag R.TB_STAT_STEP_PEND [] = true :=
  Device.flag_setFlag_same _ _ _ _ (by decide) (by decide)

theorem Device.stepPends_time : d.stepPends.tim.time = { d.tim.time with step := some d.stepAsked } := rfl

end

/-! ### Steps (R326) -/

/-- The time after the step `r`. -/
def Device.stepMoved (d : Device) (r : StepReq) : Device :=
  if r.load then d.loadTime r else if r.both then (d.moveWall r.amt).moveTT r.amt else d.moveWall r.amt

/-- The step `r` is made, and no step is pending. -/
def Device.stepMade (d : Device) (r : StepReq) : Device :=
  ((d.stepMoved r).setTime { (d.stepMoved r).tim.time with step := none }).showTime

/-- The registers show that the step is over. -/
def Device.stepShown (d : Device) : Device :=
  ((d.wr R.TB_STEP_TT [] d.tt).setFlag R.TB_STEP_CTL_BUSY [] false).setFlag R.TB_STAT_STEP_PEND [] false

/-- The servo begins to acquire (R340). -/
def Device.acquiring (d : Device) : Device := d.setServo { d.tim.servo with state := 2, samples := 0 }

/-- The device after the step `r`, before TIME_STEP is answered. -/
def Device.stepClosed (d : Device) (r : StepReq) : Device :=
  if (d.stepMade r).stepShown.tim.servo.state = 1 ∧ r.load = true then (d.stepMade r).stepShown.acquiring
  else (d.stepMade r).stepShown

/-- TIME_STEP is answered with TT and ERA as `e` has them. -/
def Device.stepAnswered (d e : Device) : Device := d.finish 0x0A01 [] 0 (layout [(8, e.tt.toNat), (4, e.get R.TB_ERA_ERA [])])

section
variable {d : Device} {r : StepReq}

theorem Device.stepApply_waits (h : d.stepDue = false) : d.stepApply = d := by
  unfold Device.stepApply
  split
  · rfl
  · rw [if_pos (by rw [h]; rfl)]

theorem Device.stepShown_tim (e : Device) : e.stepShown.tim = e.tim := by
  rw [Device.stepShown, Device.setFlag_tim, Device.setFlag_tim, Device.wr_tim]

theorem Device.stepShown_era (e : Device) : e.stepShown.get R.TB_ERA_ERA [] = e.get R.TB_ERA_ERA [] := by
  simp (disch := decide) only [Device.stepShown, Device.get_setFlag_beside, Device.get_wr_beside]

theorem Device.stepAnswered_stepShown (f e : Device) : f.stepAnswered e.stepShown = f.stepAnswered e := by
  have htt : e.stepShown.tt = e.tt := by rw [Device.tt, Device.stepShown_tim, ← Device.tt]
  rw [Device.stepAnswered, htt, Device.stepShown_era, ← Device.stepAnswered]

theorem Device.stepAnswered_acquiring (f e : Device) : f.stepAnswered e.acquiring = f.stepAnswered e := by
  have htt : e.acquiring.tt = e.tt := rfl
  rw [Device.stepAnswered, htt, Device.acquiring, Device.setServo_get, ← Device.stepAnswered]

theorem Device.stepApply_steps (hstep : d.tim.time.step = some r) (hdue : d.stepDue = true) :
    d.stepApply = (d.stepClosed r).stepAnswered (d.stepClosed r) := by
  unfold Device.stepApply
  rw [hstep]
  simp only [hdue, Bool.not_true, Bool.false_eq_true, if_false]
  rfl

/-- A step that no listening servo waits for. -/
theorem Device.stepApply_makes (hstep : d.tim.time.step = some r) (hdue : d.stepDue = true)
    (h : ¬ ((d.stepMade r).tim.servo.state = 1 ∧ r.load = true)) :
    d.stepApply = (d.stepMade r).stepShown.stepAnswered (d.stepMade r) := by
  have hclosed : d.stepClosed r = (d.stepMade r).stepShown := if_neg (by rwa [Device.stepShown_tim])
  rw [d.stepApply_steps hstep hdue, hclosed, Device.stepAnswered_stepShown]

/-- A load that a listening servo waits for. -/
theorem Device.stepApply_acquires (hstep : d.tim.time.step = some r) (hdue : d.stepDue = true)
    (h : (d.stepMade r).tim.servo.state = 1 ∧ r.load = true) :
    d.stepApply = (d.stepMade r).stepShown.acquiring.stepAnswered (d.stepMade r) := by
  have hclosed : d.stepClosed r = (d.stepMade r).stepShown.acquiring := if_pos (by rwa [Device.stepShown_tim])
  rw [d.stepApply_steps hstep hdue, hclosed, Device.stepAnswered_acquiring, Device.stepAnswered_stepShown]

end

/-! ### Slews (R328, R329) -/

/-- What is left to slew once `amt` is added. -/
def Device.slewTotal (d : Device) (amt : Int) : Int := (if d.tim.time.slewing then d.tim.time.slewRem else 0) + amt * 65536

/-- The slew registers and the slew itself as a GO sets them. -/
def Device.slewSet (d : Device) (amt : Int) (rate : Nat) (both : Bool) : Device :=
  (((d.put R.TB_SLEW_CTL_RATE [] rate).setFlag R.TB_SLEW_CTL_BOTH [] both).setTime
    { d.tim.time with slewRem := d.slewTotal amt, slewBoth := both, slewRate := rate
                      slewing := decide (d.slewTotal amt ≠ 0) }).showSlew

section
variable {d : Device} {amt : Int} {rate : Nat} {both : Bool}

theorem Device.showSlew_slewing (d : Device) : d.showSlew.flag R.TB_STAT_SLEWING [] = d.tim.time.slewing :=
  Device.flag_setFlag_same _ _ _ _ (by decide) (by decide)

theorem Device.showSlew_rem (d : Device) : d.showSlew.rd R.TB_SLEW_REM [] = BitVec.ofInt 64 (d.tim.time.slewRem / 65536) := by
  rw [Device.showSlew, Device.rd_setFlag_beside _ _ _ (by decide), Device.rd_wr_same]

theorem Device.slewGo_goes (h : d.slewTotal amt ≠ 0) : d.slewGo amt rate both = d.slewSet amt rate both := if_neg h

theorem Device.slewGo_over (h : d.slewTotal amt = 0) : d.slewGo amt rate both = (d.slewSet amt rate both).slewReport := if_pos h

theorem Device.slewSet_time : (d.slewSet amt rate both).tim.time =
    { d.tim.time with slewRem := d.slewTotal amt, slewBoth := both, slewRate := rate, slewing := decide (d.slewTotal amt ≠ 0) } := rfl

theorem Device.slewSet_slewing : (d.slewSet amt rate both).flag R.TB_STAT_SLEWING [] = decide (d.slewTotal amt ≠ 0) :=
  Device.showSlew_slewing _

theorem Device.slewAbort_stops (h : d.tim.time.slewing = true) : d.slewAbort = d.abortSlew.slewReport := if_pos h

theorem Device.slewAbort_idle (h : d.tim.time.slewing = false) : d.slewAbort = d := if_neg (ne_true_of_eq_false h)

theorem Device.goWoken_slewTotal (d : Device) (b : Nat) (r : Reg) (amt : Int) : (d.goWoken b r).slewTotal amt = d.slewTotal amt := by
  rw [Device.slewTotal, Device.goWoken_tim, ← Device.slewTotal]

end

/-- A GO of the slew reaches the slew, which takes its amount, RATE and BOTH from their registers. -/
theorem Device.struck_slewGo (d : Device) : d.strike [] [(R.TB_SLEW_CTL_GO, 1)] = (d.goWoken 11 R.TB_SLEW_CTL).slewGo
    (d.rd R.TB_SLEW_AMT []).toInt (d.get R.TB_SLEW_CTL_RATE []) (d.flag R.TB_SLEW_CTL_BOTH []) := by
  have hf : findReg (R.TB_SLEW_CTL_GO.reg.addr []) = some (⟨R.TB_SLEW_CTL,
    [R.TB_SLEW_CTL_RATE, R.TB_SLEW_CTL_GO, R.TB_SLEW_CTL_BOTH, R.TB_SLEW_CTL_ABORT]⟩, []) := by decide +kernel
  have hb : boothOf (R.TB_SLEW_CTL_GO.reg.addr []) = some 11 := by decide +kernel
  rw [d.strike_free [] R.TB_SLEW_CTL_GO 1 [] _ 11 (2 ^ 32) (2 ^ 32) (by decide) (by decide) hf hb
    (Device.fusedAddr_high d hb (by decide) (Or.inl (by decide))) (by decide) (by decide) (by decide)]
  simp (decide := true) only [Device.admitted, Device.timingStore, Device.on, if_true, if_false]
  rw [Device.plainWrite_none _ _ _ _ _ (by decide) (by decide), ← Device.goWoken]
  simp (disch := decide) only [Device.goWoken_rd, Device.goWoken_get, Device.goWoken_flag]

/-! ### Snapshots (R331) -/

section
variable (d : Device)

theorem Device.snapshot_tt : d.snapshot.rd R.TB_SNAP_TT [] = d.tt := by
  simp (disch := decide) only [Device.snapshot, Device.rd_setFlag_beside, Device.rd_put_beside, Device.rd_wr_same]

theorem Device.snapshot_era : d.snapshot.get R.TB_SNAP_ERA_ERA [] = d.get R.TB_ERA_ERA [] % 2 ^ 32 := by
  simp (disch := decide) only [Device.snapshot, Device.get_setFlag_beside, Device.get_put_beside, Device.get_wr_beside]
  exact Device.get_put_same _ _ _ _ (by decide)

theorem Device.snapshot_sec : d.snapshot.get R.TB_SNAP_SEC_SEC [] = d.tim.time.wtSec % 2 ^ 48 := by
  simp (disch := decide) only [Device.snapshot, Device.get_setFlag_beside, Device.get_put_beside]
  exact Device.get_put_same _ _ _ _ (by decide)

theorem Device.snapshot_ns : d.snapshot.get R.TB_SNAP_NS_NS [] = d.wtNs % 2 ^ 32 := by
  simp (disch := decide) only [Device.snapshot, Device.get_setFlag_beside, Device.get_put_beside]
  exact Device.get_put_same _ _ _ _ (by decide)

theorem Device.snapshot_frac : d.snapshot.get R.TB_SNAP_NS_FRAC [] = d.wtFrac % 2 ^ 16 := by
  simp (disch := decide) only [Device.snapshot, Device.get_setFlag_beside]
  exact Device.get_put_same _ _ _ _ (by decide)

theorem Device.snapshot_tim : d.snapshot.tim = d.tim := by
  simp only [Device.snapshot, Device.setFlag_tim, Device.put_tim, Device.wr_tim]

theorem Device.snapshot_done : d.snapshot.flag R.TB_SNAP_CTL_DONE [] = true :=
  Device.flag_setFlag_same _ _ _ _ (by decide) (by decide)

end

/-! ### The clock and its reference (R336, R338, R474) -/

/-- The PLL has locked to its reference, and TT counts. -/
def Device.pllLocked (d : Device) (ref25 : Bool) : Device :=
  ((d.setFlag R.TB_STAT_PLL_LOCK [] true).setFlag R.TB_STAT_REF_SEL [] ref25).setTime { d.tim.time with running := true }

section
variable {d : Device}

theorem Device.pllLock_locks (h : d.sec.inReset = false) (hlock : d.flag R.TB_STAT_PLL_LOCK [] = false) (hrun : d.clockRuns = false)
    (ref25 : Bool) : d.pllLock ref25 = d.pllLocked ref25 := if_neg (by rw [h, hlock, hrun]; decide)

theorem Device.pllLock_idle (h : d.flag R.TB_STAT_PLL_LOCK [] = true ∨ d.clockRuns = true) (ref25 : Bool) : d.pllLock ref25 = d :=
  if_pos (.inr h)

theorem Device.pllLocked_lock (ref25 : Bool) : (d.pllLocked ref25).flag R.TB_STAT_PLL_LOCK [] = true := by
  rw [Device.pllLocked, Device.setTime_flag, Device.flag_setFlag_beside _ _ _ (by decide),
    Device.flag_setFlag_same _ _ _ _ (by decide) (by decide)]

theorem Device.pllLocked_ref (ref25 : Bool) : (d.pllLocked ref25).flag R.TB_STAT_REF_SEL [] = ref25 :=
  Device.flag_setFlag_same _ _ _ _ (by decide) (by decide)

theorem Device.lockTimeout_starts (h : d.sec.inReset = false) (hrun : d.clockRuns = false) :
    d.lockTimeout = (d.setTime { d.tim.time with running := true }).refLost := if_neg (by rw [h, hrun]; decide)

theorem Device.lockTimeout_idle (h : d.clockRuns = true) : d.lockTimeout = d := if_pos (.inr h)

theorem Device.refLost_lost (d : Device) : d.refLost.flag R.TB_STAT_REF_LOST [] = true := by
  rw [Device.refLost, Device.flag_setFlag_beside _ _ _ (by decide), Device.flag_setFlag_same _ _ _ _ (by decide) (by decide)]

theorem Device.refLost_seen (d : Device) : d.refLost.flag R.TB_STAT_REF_LOST_SEEN [] = true :=
  Device.flag_setFlag_same _ _ _ _ (by decide) (by decide)

theorem Device.refclkRelock_relocks (h : d.sec.inReset = false) (hlost : d.flag R.TB_STAT_REF_LOST [] = true) :
    d.refclkRelock = (d.setFlag R.TB_STAT_PLL_LOCK [] true).setFlag R.TB_STAT_REF_LOST [] false := if_neg (by rw [h, hlost]; decide)

theorem Device.refclkRelock_idle (h : d.flag R.TB_STAT_REF_LOST [] = false) : d.refclkRelock = d := if_pos (.inr (by rw [h]; rfl))

end

/-! ### The rows -/

section
variable {s : State} (h : s.awake)
include h

theorem State.does_tbIncrWrite (v : BitVec 40) : s.does (.tbIncrWrite v) ((s.dev.wake 11).setIncr v.toNat) :=
  State.does_of_live (f := fun d => d.strike [] [(R.TB_INCR_INCR, v.toNat)]) rfl h (s.dev.struck_incr v)

theorem State.does_tbStepGo : s.does .tbStepGo (s.dev.goWoken 11 R.TB_STEP_CTL).stepGo :=
  State.does_of_live (f := fun d => d.strike [] [(R.TB_STEP_CTL_GO, 1)]) rfl h s.dev.struck_stepGo

theorem State.does_tbStepApply : s.does .tbStepApply s.dev.stepApply := State.does_of_live (f := Device.stepApply) rfl h rfl

theorem State.does_tbSlewGo : s.does .tbSlewGo ((s.dev.goWoken 11 R.TB_SLEW_CTL).slewGo (s.dev.rd R.TB_SLEW_AMT []).toInt
    (s.dev.get R.TB_SLEW_CTL_RATE []) (s.dev.flag R.TB_SLEW_CTL_BOTH [])) :=
  State.does_of_live (f := fun d => d.strike [] [(R.TB_SLEW_CTL_GO, 1)]) rfl h s.dev.struck_slewGo

theorem State.does_tbSlewAbort : s.does .tbSlewAbort (s.dev.goWoken 11 R.TB_SLEW_CTL).slewAbort :=
  State.does_of_live (f := fun d => d.strike [] [(R.TB_SLEW_CTL_ABORT, 1)]) rfl h s.dev.struck_slewAbort

theorem State.does_slewDone : s.does .slewDone s.dev.slewDone := State.does_of_live (f := Device.slewDone) rfl h rfl

theorem State.does_ttWrap : s.does .ttWrap s.dev.ttWrap := State.does_of_live (f := Device.ttWrap) rfl h rfl

theorem State.does_tbSnapGo : s.does .tbSnapGo (s.dev.goWoken 11 R.TB_SNAP_CTL).snapshot :=
  State.does_of_live (f := fun d => d.strike [] [(R.TB_SNAP_CTL_GO, 1)]) rfl h s.dev.struck_snapshot

theorem State.does_tbPllLock (ref25 : Bool) : s.does (.tbPllLock ref25) (s.dev.pllLock ref25) :=
  State.does_of_live (f := fun d => d.pllLock ref25) rfl h rfl

theorem State.does_tbLockTimeout : s.does .tbLockTimeout s.dev.lockTimeout := State.does_of_live (f := Device.lockTimeout) rfl h rfl

theorem State.does_refclkLost : s.does .refclkLost s.dev.refLost := State.does_of_live (f := Device.refLost) rfl h rfl

theorem State.does_refclkRelock : s.does .refclkRelock s.dev.refclkRelock := State.does_of_live (f := Device.refclkRelock) rfl h rfl

end

/-- Settles O29: each row is a GO, or an event, that reaches one operation of the time base, and each clause one of its cases. -/
theorem timeBaseRows : Obligations.TimeBaseRows := by
  unfold Obligations.TimeBaseRows
  refine ⟨fun s v h hlo hhi => ?within, fun s v h hout => ?clamped, fun s h href => ?refused, fun s h hnone hat => ?taken,
    fun s h hdue => State.does_congr (State.does_tbStepApply h) (Device.stepApply_waits hdue),
    fun s r d e h hstep hdue hadd hd he => ?adds, fun s r e f h hstep hdue hload he hf => ?loads,
    fun s rem h hrem hne => ?slews, fun s h hrem => ?slewOver, fun s h hslew => ?aborts, fun s h hslew => ?abortIdle,
    fun s h => ?done, fun s h => ?wraps, fun s h => ?snapshot, fun s ref25 h hlock hrun => ?locks,
    fun s ref25 h hidle => State.does_congr (State.does_tbPllLock h ref25) (Device.pllLock_idle hidle ref25),
    fun s h hrun => ?timesOut, fun s h hrun => State.does_congr (State.does_tbLockTimeout h) (Device.lockTimeout_idle hrun),
    fun s h => ⟨_, State.does_refclkLost h, Device.refLost_lost _, Device.refLost_seen _, rfl⟩, fun s h hlost => ?relocks,
    fun s h hlost => State.does_congr (State.does_refclkRelock h) (Device.refclkRelock_idle hlost)⟩
  case within =>
    have hin := clamp_inside hlo hhi
    exact ⟨_, State.does_tbIncrWrite h v, (Device.setIncr_incr _ _).trans hin, (Device.setIncr_tim _ _).trans (s.dev.wake_tim 11),
      (Device.setIncr_keeps_clamped _ hin).trans (Device.flag_of_get (Device.get_of_rd (s.dev.wake_rd_ne (by decide))))⟩
  case clamped =>
    have hval := clamp_outside (lo := incrMin) (hi := incrMax) (by decide) hout
    have hne : clamp incrMin incrMax v.toNat ≠ v.toNat := by
      rw [hval]
      split <;> omega
    exact ⟨_, State.does_tbIncrWrite h v, (Device.setIncr_incr _ _).trans hval, Device.setIncr_clamped _ hne,
      (Device.setIncr_tim _ _).trans (s.dev.wake_tim 11)⟩
  case refused =>
    have hgo : (s.dev.goWoken 11 R.TB_STEP_CTL).stepGo = _ := Device.stepGo_refused (by
      rwa [Device.goWoken_tim, Device.goWoken_flag _ (by decide), Device.goWoken_flag _ (by decide)])
    exact ⟨_, State.does_congr (State.does_tbStepGo h) hgo, Device.flag_setFlag_same _ _ _ _ (by decide) (by decide),
      (Device.setFlag_tim _ _ _ _).trans s.dev.goWoken_tim⟩
  case taken =>
    have hgo : (s.dev.goWoken 11 R.TB_STEP_CTL).stepGo = _ := Device.stepGo_taken (by rwa [Device.goWoken_tim]) (by
      rwa [Device.goWoken_flag _ (by decide), Device.goWoken_flag _ (by decide)])
    refine ⟨_, State.does_congr (State.does_tbStepGo h) hgo, Device.stepPends_busy, Device.stepPends_pend, ?_⟩
    rw [Device.stepPends_time, Device.goWoken_tim, Device.goWoken_stepAsked, Device.stepAsked]
  case adds =>
    have hmade : s.dev.stepMade r = e := by
      rw [Device.stepMade, Device.stepMoved, if_neg (ne_true_of_eq_false hadd), hd, he]
    have happly := Device.stepApply_makes hstep hdue fun hload => absurd (hadd.symm.trans hload.2) (by decide)
    rw [hmade] at happly
    exact State.does_congr (State.does_tbStepApply h) happly
  case loads =>
    have hmade : s.dev.stepMade r = e := by rw [Device.stepMade, Device.stepMoved, if_pos hload, he]
    subst hf
    refine ⟨fun hservo => ?_, fun hservo => ?_⟩
    · have happly := Device.stepApply_makes hstep hdue fun hlisten => hservo (hmade ▸ hlisten.1)
      rw [hmade] at happly
      exact State.does_congr (State.does_tbStepApply h) happly
    · have happly := Device.stepApply_acquires hstep hdue ⟨hmade ▸ hservo, hload⟩
      rw [hmade] at happly
      exact State.does_congr (State.does_tbStepApply h) happly
  case slews =>
    have htotal : (s.dev.goWoken 11 R.TB_SLEW_CTL).slewTotal (s.dev.rd R.TB_SLEW_AMT []).toInt = rem :=
      (s.dev.goWoken_slewTotal _ _ _).trans hrem
    have hne' := decide_eq_true (htotal ▸ hne)
    refine ⟨_, State.does_congr (State.does_tbSlewGo h) (Device.slewGo_goes (htotal ▸ hne)), Device.slewSet_slewing.trans hne', ?_⟩
    rw [Device.slewSet_time, hne', htotal, Device.goWoken_tim]
  case slewOver =>
    have htotal : (s.dev.goWoken 11 R.TB_SLEW_CTL).slewTotal (s.dev.rd R.TB_SLEW_AMT []).toInt = 0 :=
      (s.dev.goWoken_slewTotal _ _ _).trans hrem
    have hover := decide_eq_false (not_not.2 htotal)
    exact ⟨_, State.does_congr (State.does_tbSlewGo h) (Device.slewGo_over htotal), Device.slewSet_slewing.trans hover,
      (congrArg TimeX.slewing Device.slewSet_time).trans hover⟩
  case aborts =>
    have hwoken : (s.dev.goWoken 11 R.TB_SLEW_CTL).tim.time = s.dev.tim.time := congrArg (·.time) s.dev.goWoken_tim
    have hstop := Device.slewAbort_stops ((congrArg TimeX.slewing hwoken).trans hslew)
    refine ⟨_, State.does_congr (State.does_tbSlewAbort h) hstop, Device.showSlew_slewing _, ?_, ?_⟩
    · exact congrArg (fun t : TimeX => { t with slewing := false }) hwoken
    · have hrem : (s.dev.goWoken 11 R.TB_SLEW_CTL).tim.time.slewRem = s.dev.tim.time.slewRem := congrArg TimeX.slewRem hwoken
      exact (Device.showSlew_rem _).trans (congrArg (fun n : Int => BitVec.ofInt 64 (n / 65536)) hrem)
  case abortIdle =>
    have hidle := Device.slewAbort_idle (d := s.dev.goWoken 11 R.TB_SLEW_CTL) (by rwa [Device.goWoken_tim])
    exact ⟨_, State.does_congr (State.does_tbSlewAbort h) hidle, s.dev.goWoken_tim, s.dev.goWoken_flag (by decide)⟩
  case done =>
    exact ⟨fun hend => State.does_congr (State.does_slewDone h) (if_pos hend),
      fun hon => State.does_congr (State.does_slewDone h) (if_neg (ne_true_of_eq_false hon))⟩
  case wraps =>
    exact ⟨fun hwrap => State.does_congr (State.does_ttWrap h) (if_pos hwrap),
      fun hno => State.does_congr (State.does_ttWrap h) (if_neg (ne_true_of_eq_false hno))⟩
  case snapshot =>
    have htime : (s.dev.goWoken 11 R.TB_SNAP_CTL).tim.time = s.dev.tim.time := congrArg (·.time) s.dev.goWoken_tim
    refine ⟨_, State.does_tbSnapGo h, (Device.snapshot_tt _).trans s.dev.goWoken_tt, ?_, ?_, ?_, ?_, Device.snapshot_done _,
      (Device.snapshot_tim _).trans s.dev.goWoken_tim⟩
    · rw [Device.snapshot_era, Device.goWoken_get _ (by decide)]
    · rw [Device.snapshot_sec, htime]
    · rw [Device.snapshot_ns, Device.wtNs, htime, ← Device.wtNs]
    · rw [Device.snapshot_frac, Device.wtFrac, htime, ← Device.wtFrac]
  case locks =>
    exact ⟨_, State.does_congr (State.does_tbPllLock h ref25) (Device.pllLock_locks h hlock hrun ref25),
      Device.pllLocked_lock ref25, Device.pllLocked_ref ref25, rfl⟩
  case timesOut =>
    exact ⟨_, State.does_congr (State.does_tbLockTimeout h) (Device.lockTimeout_starts h hrun), Device.refLost_lost _,
      Device.refLost_seen _, rfl⟩
  case relocks =>
    refine ⟨_, State.does_congr (State.does_refclkRelock h) (Device.refclkRelock_relocks h hlost),
      Device.flag_setFlag_same _ _ _ _ (by decide) (by decide), ?_, ?_, rfl⟩
    · rw [Device.flag_setFlag_beside _ _ _ (by decide), Device.flag_setFlag_same _ _ _ _ (by decide) (by decide)]
    · rw [Device.flag_setFlag_beside _ _ _ (by decide), Device.flag_setFlag_beside _ _ _ (by decide)]

end Sys2Proof.Machine
end

section
/-! Scope: the time references (R333 to R335): the timing pins and PTM, case by case, and their rows. -/

namespace Sys2Proof.Machine

/-! ### The PPS input and the 10 MHz input (R333) -/

/-- The last edge of the PPS input has not been read: it counts as an overrun. -/
def Device.ppsOverrun (d : Device) : Device := if d.flag R.TP_PPS_CNT_NEW [] then d.bump R.TP_PPS_CNT_OVERRUN [] else d

/-- An edge of the PPS input is stamped `stamp` and counted, and the next 10 MHz edge is waited for. -/
def Device.ppsTaken (d : Device) (stamp : TT) : Device :=
  let t := ((d.ppsOverrun.wr R.TP_PPS_IN [] stamp).count R.TP_PPS_CNT_EDGES []).setFlag R.TP_PPS_CNT_NEW [] true
  t.setTime { t.tim.time with m10Wait := t.flag R.TP_CTL_M10_IN_EN [] }

section
variable {d : Device}

theorem Device.ppsInEdge_ignored {rising : Bool}
    (h : d.flag R.TP_CTL_PPS_IN_EN [] = false ∨ rising = d.flag R.TP_CTL_PPS_IN_FALL []) (t : TT) : d.ppsInEdge t rising = d :=
  if_pos (h.imp_left fun hoff => congrArg not hoff)

theorem Device.ppsInEdge_taken {rising : Bool} (hen : d.flag R.TP_CTL_PPS_IN_EN [] = true)
    (hedge : rising ≠ d.flag R.TP_CTL_PPS_IN_FALL []) (t : TT) :
    d.ppsInEdge t rising = (d.ppsTaken (stamp128 t)).fireStampIf R.TP_EV_PPS_IN_EV_EN R.TP_EV_PPS_IN_EV [] (stamp128 t) :=
  if_neg (by rw [hen]; exact fun h => h.elim (by decide) hedge)

theorem Device.ppsOverrun_tim : d.ppsOverrun.tim = d.tim := by
  unfold Device.ppsOverrun
  split <;> rfl

theorem Device.ppsOverrun_get {f : Fld} (h : f.beside R.TP_PPS_CNT_OVERRUN = true) : d.ppsOverrun.get f [] = d.get f [] := by
  rw [Device.ppsOverrun, Device.get_ite, Device.bump, Device.bumpBy, Device.get_put_beside _ _ _ h, ite_self]

theorem Device.ppsTaken_stamp (stamp : TT) : (d.ppsTaken stamp).rd R.TP_PPS_IN [] = stamp := by
  simp (disch := decide) only [Device.ppsTaken, Device.setTime_rd, Device.rd_setFlag_beside, Device.count, Device.rd_put_beside,
    Device.rd_wr_same]

theorem Device.ppsTaken_new (stamp : TT) : (d.ppsTaken stamp).flag R.TP_PPS_CNT_NEW [] = true :=
  Device.flag_setFlag_same _ _ _ _ (by decide) (by decide)

theorem Device.ppsTaken_edges (stamp : TT) : (d.ppsTaken stamp).get R.TP_PPS_CNT_EDGES []
    = (d.get R.TP_PPS_CNT_EDGES [] + 1) % 2 ^ R.TP_PPS_CNT_EDGES.width := by
  simp (disch := decide) only [Device.ppsTaken, Device.setTime_get, Device.get_setFlag_beside, Device.count, Device.get_put_same,
    Device.get_wr_beside, Device.ppsOverrun_get]

theorem Device.ppsTaken_overrun (stamp : TT) : (d.ppsTaken stamp).get R.TP_PPS_CNT_OVERRUN []
    = d.ppsOverrun.get R.TP_PPS_CNT_OVERRUN [] := by
  simp (disch := decide) only [Device.ppsTaken, Device.setTime_get, Device.get_setFlag_beside, Device.count, Device.get_put_beside,
    Device.get_wr_beside]

theorem Device.ppsOverrun_read (h : d.flag R.TP_PPS_CNT_NEW [] = false) : d.ppsOverrun = d := if_neg (ne_true_of_eq_false h)

theorem Device.ppsOverrun_counts (h : d.flag R.TP_PPS_CNT_NEW [] = true) : d.ppsOverrun.get R.TP_PPS_CNT_OVERRUN []
    = min (2 ^ R.TP_PPS_CNT_OVERRUN.width - 1) (d.get R.TP_PPS_CNT_OVERRUN [] + 1) := by
  have hbump : d.ppsOverrun = d.bump R.TP_PPS_CNT_OVERRUN [] := if_pos h
  have hpos := Nat.two_pow_pos R.TP_PPS_CNT_OVERRUN.width
  rw [hbump, Device.bump, Device.bumpBy, Device.get_put_fit _ _ (by decide) (by simp only [satAdd]; omega), satAdd, min_comm]

theorem Device.ppsTaken_tim (stamp : TT) :
    (d.ppsTaken stamp).tim = { d.tim with time := { d.tim.time with m10Wait := d.flag R.TP_CTL_M10_IN_EN [] } } := by
  have hen : d.ppsOverrun.flag R.TP_CTL_M10_IN_EN [] = d.flag R.TP_CTL_M10_IN_EN [] :=
    Device.flag_of_get (Device.ppsOverrun_get (by decide))
  simp (disch := decide) only [Device.ppsTaken, Device.setTime_tim, Device.setFlag_tim, Device.count, Device.put_tim, Device.wr_tim,
    Device.ppsOverrun_tim, Device.flag_setFlag_beside, Device.flag_put_beside, Device.flag_wr_beside, hen]

theorem Device.tenMhzInEdge_held {t : TT} (hen : d.flag R.TP_CTL_M10_IN_EN [] = true) (hwait : d.tim.time.m10Wait = true)
    (hge : ttGe (stamp128 t) (d.rd R.TP_PPS_IN []) = true) :
    d.tenMhzInEdge t = (d.wr R.TP_10M_PHASE [] (stamp128 t)).setTime { d.tim.time with m10Wait := false } :=
  if_pos ⟨hen, hwait, hge⟩

theorem Device.tenMhzInEdge_ignored {t : TT} (h : d.flag R.TP_CTL_M10_IN_EN [] = false ∨ d.tim.time.m10Wait = false
    ∨ ttGe (stamp128 t) (d.rd R.TP_PPS_IN []) = false) : d.tenMhzInEdge t = d := by
  refine if_neg ?_
  rintro ⟨hen, hwait, hge⟩
  rcases h with h | h | h
  · exact ne_true_of_eq_false h hen
  · exact ne_true_of_eq_false h hwait
  · exact ne_true_of_eq_false h hge

end

/-! ### The PPS output (R334) -/

section
variable {d : Device}

theorem Device.ppsOutEdge_falls (hout : d.tim.time.ppsOut = true) (hover : ttGe d.tt d.tim.time.ppsFall = true) :
    d.ppsOutEdge = d.setTime { d.tim.time with ppsOut := false, ppsDue := false } := (if_pos hout).trans (if_pos hover)

theorem Device.ppsOutEdge_holds (hout : d.tim.time.ppsOut = true) (hon : ttGe d.tt d.tim.time.ppsFall = false) :
    d.ppsOutEdge = d := (if_pos hout).trans (if_neg (ne_true_of_eq_false hon))

theorem Device.ppsOutEdge_rises (hlow : d.tim.time.ppsOut = false) (hdue : d.tim.time.ppsDue = true)
    (hen : d.flag R.TP_CTL_PPS_OUT_EN [] = true) : d.ppsOutEdge =
      (d.setTime { d.tim.time with ppsOut := true, ppsDue := false, ppsFall := d.tt + ttNs d.ppsWidth }).fireIf
        R.TP_EV_PPS_OUT_EV_EN R.TP_EV_PPS_OUT_EV [] :=
  (if_neg (ne_true_of_eq_false hlow)).trans ((if_pos hdue).trans (if_neg (by rw [hen]; decide)))

theorem Device.ppsOutEdge_disabled (hlow : d.tim.time.ppsOut = false) (hdue : d.tim.time.ppsDue = true)
    (hen : d.flag R.TP_CTL_PPS_OUT_EN [] = false) : d.ppsOutEdge = d.setTime { d.tim.time with ppsDue := false } :=
  (if_neg (ne_true_of_eq_false hlow)).trans ((if_pos hdue).trans (if_pos (congrArg not hen)))

theorem Device.ppsOutEdge_idle (hlow : d.tim.time.ppsOut = false) (hdue : d.tim.time.ppsDue = false) : d.ppsOutEdge = d :=
  (if_neg (ne_true_of_eq_false hlow)).trans (if_neg (ne_true_of_eq_false hdue))

end

/-! ### PTM (R335) -/

section
variable {d : Device}

theorem Device.ptmStart_starts (hen : d.hst.ptmEnable = true) (hfree : d.tim.time.ptmBusy = false) :
    d.ptmStart = d.setTime { d.tim.time with ptmBusy := true, ptmLast := d.tt } := if_pos ⟨hen, congrArg not hfree⟩

theorem Device.ptmStart_ignored (h : d.hst.ptmEnable = false ∨ d.tim.time.ptmBusy = true) : d.ptmStart = d := by
  refine if_neg ?_
  rintro ⟨hen, hfree⟩
  rcases h with h | h
  · exact ne_true_of_eq_false h hen
  · rw [h] at hfree
    exact absurd hfree (by decide)

theorem Device.ptmPeriod_over (hauto : d.flag R.PTM_CTL_AUTO [] = true)
    (hover : (max 1 (d.get R.PTM_CTL_PERIOD_MS []) * 1000000 * 65536 : Nat) ≤ ttDiff d.tt d.tim.time.ptmLast) :
    d.ptmPeriod = d.ptmStart := if_pos ⟨hauto, hover⟩

theorem Device.ptmPeriod_waits (h : d.flag R.PTM_CTL_AUTO [] = false
    ∨ ttDiff d.tt d.tim.time.ptmLast < (max 1 (d.get R.PTM_CTL_PERIOD_MS []) * 1000000 * 65536 : Nat)) : d.ptmPeriod = d := by
  refine if_neg ?_
  rintro ⟨hauto, hover⟩
  rcases h with h | h
  · exact ne_true_of_eq_false h hauto
  · exact absurd hover (not_le.2 h)

/-- Where no dialogue may start, the end of a period starts none. -/
theorem Device.ptmPeriod_of_ignored (h : d.ptmStart = d) : d.ptmPeriod = d := by
  simp only [Device.ptmPeriod, h, ite_self]

/-- No dialogue is under way any more. -/
def Device.ptmFree (d : Device) : Device := d.setTime { d.tim.time with ptmBusy := false }

/-- The record of a dialogue that went well. -/
def Device.ptmRecorded (d : Device) (t1 : TT) (master : Word) (prop : Nat) : Device :=
  ((((d.wr R.PTM_T1 [] t1).wr R.PTM_MASTER [] master).put R.PTM_PROP_NS [] prop).setFlag R.PTM_STAT_VALID [] true).count
    R.PTM_STAT_SEQ []

theorem Device.ptmDone_good (h : d.tim.time.ptmBusy = true) (t1 : TT) (master : Word) (prop : BitVec 32) :
    d.ptmDone true t1 master prop = d.ptmFree.ptmRecorded t1 master prop.toNat := if_neg (by rw [h]; decide)

theorem Device.ptmDone_bad (h : d.tim.time.ptmBusy = true) (t1 : TT) (master : Word) (prop : BitVec 32) :
    d.ptmDone false t1 master prop = d.ptmFree.setFlag R.PTM_STAT_FAILED [] true := if_neg (by rw [h]; decide)

theorem Device.ptmDone_idle (h : d.tim.time.ptmBusy = false) (good : Bool) (t1 : TT) (master : Word) (prop : BitVec 32) :
    d.ptmDone good t1 master prop = d := if_pos (congrArg not h)

variable (t1 : TT) (master : Word) (prop : Nat)

theorem Device.ptmRecorded_t1 : (d.ptmRecorded t1 master prop).rd R.PTM_T1 [] = t1 := by
  simp (disch := decide) only [Device.ptmRecorded, Device.count, Device.rd_put_beside, Device.rd_setFlag_beside,
    Device.rd_wr_beside, Device.rd_wr_same]

theorem Device.ptmRecorded_master : (d.ptmRecorded t1 master prop).rd R.PTM_MASTER [] = master := by
  simp (disch := decide) only [Device.ptmRecorded, Device.count, Device.rd_put_beside, Device.rd_setFlag_beside, Device.rd_wr_same]

theorem Device.ptmRecorded_prop (h : prop < 2 ^ 32) : (d.ptmRecorded t1 master prop).get R.PTM_PROP_NS [] = prop := by
  simp (disch := decide) only [Device.ptmRecorded, Device.count, Device.get_put_beside, Device.get_setFlag_beside]
  exact Device.get_put_fit _ _ (by decide) h

theorem Device.ptmRecorded_valid : (d.ptmRecorded t1 master prop).flag R.PTM_STAT_VALID [] = true := by
  rw [Device.ptmRecorded, Device.count, Device.flag_put_beside _ _ _ (by decide),
    Device.flag_setFlag_same _ _ _ _ (by decide) (by decide)]

theorem Device.ptmRecorded_seq : (d.ptmRecorded t1 master prop).get R.PTM_STAT_SEQ []
    = (d.get R.PTM_STAT_SEQ [] + 1) % 2 ^ R.PTM_STAT_SEQ.width := by
  simp (disch := decide) only [Device.ptmRecorded, Device.count, Device.get_put_same, Device.get_setFlag_beside, Device.get_put_beside,
    Device.get_wr_beside]

theorem Device.ptmRecorded_tim : (d.ptmRecorded t1 master prop).tim = d.tim := by
  simp only [Device.ptmRecorded, Device.count, Device.put_tim, Device.setFlag_tim, Device.wr_tim]

end

/-! ### The rows -/

section
variable {s : State} (h : s.awake)
include h

theorem State.does_ppsInEdge (t : TT) (rising : Bool) : s.does (.ppsInEdge t rising) (s.dev.ppsInEdge t rising) :=
  State.does_of_live (f := fun d => d.ppsInEdge t rising) rfl h rfl

theorem State.does_tenMhzInEdge (t : TT) : s.does (.tenMhzInEdge t) (s.dev.tenMhzInEdge t) :=
  State.does_of_live (f := fun d => d.tenMhzInEdge t) rfl h rfl

theorem State.does_ppsOutEdge : s.does .ppsOutEdge s.dev.ppsOutEdge := State.does_of_live (f := Device.ppsOutEdge) rfl h rfl

theorem State.does_ptmGo : s.does .ptmGo (s.dev.goWoken 10 R.PTM_CTL).ptmStart :=
  State.does_of_live (f := fun d => d.strike [] [(R.PTM_CTL_GO, 1)]) rfl h s.dev.struck_ptmStart

theorem State.does_ptmAutoPeriod : s.does .ptmAutoPeriod s.dev.ptmPeriod := State.does_of_live (f := Device.ptmPeriod) rfl h rfl

theorem State.does_ptmDialogueDone (good : Bool) (t1 : TT) (master : Word) (prop : BitVec 32) :
    s.does (.ptmDialogueDone good t1 master prop) (s.dev.ptmDone good t1 master prop) :=
  State.does_of_live (f := fun d => d.ptmDone good t1 master prop) rfl h rfl

end

/-- Settles O30: each row is one operation of a pin or of PTM, and each clause one of its cases. -/
theorem timeReferenceRows : Obligations.TimeReferenceRows := by
  unfold Obligations.TimeReferenceRows
  refine ⟨fun s t rising h hoff => State.does_congr (State.does_ppsInEdge h t rising) (Device.ppsInEdge_ignored hoff t),
    fun s t rising h hen hedge => ?stamped, fun s t h hen hwait hge => State.does_congr (State.does_tenMhzInEdge h t)
      (Device.tenMhzInEdge_held hen hwait hge),
    fun s t h hoff => State.does_congr (State.does_tenMhzInEdge h t) (Device.tenMhzInEdge_ignored hoff), fun s h hout => ?high,
    fun s h hlow hdue => ?due,
    fun s h hlow hdue => State.does_congr (State.does_ppsOutEdge h) (Device.ppsOutEdge_idle hlow hdue),
    fun s h hen hfree => ?ptmGo, fun s h hno => ?ptmIgnored, fun s ms h hms => ?ptmPeriod,
    fun s t1 master prop h hbusy => ?ptmGood, fun s t1 master prop h hbusy => ?ptmBad,
    fun s good t1 master prop h hfree => State.does_congr (State.does_ptmDialogueDone h good t1 master prop)
      (Device.ptmDone_idle hfree good t1 master prop)⟩
  case stamped =>
    refine ⟨_, State.does_congr (State.does_ppsInEdge h t rising) (Device.ppsInEdge_taken hen hedge t), Device.ppsTaken_stamp _,
      Device.ppsTaken_new _, Device.ppsTaken_edges _, fun hread => ?_, fun hnew => ?_, Device.ppsTaken_tim _⟩
    · rw [Device.ppsTaken_overrun, Device.ppsOverrun_read hread]
    · rw [Device.ppsTaken_overrun, Device.ppsOverrun_counts hnew]
  case high =>
    exact ⟨fun hover => State.does_congr (State.does_ppsOutEdge h) (Device.ppsOutEdge_falls hout hover),
      fun hon => State.does_congr (State.does_ppsOutEdge h) (Device.ppsOutEdge_holds hout hon)⟩
  case due =>
    exact ⟨fun hen => State.does_congr (State.does_ppsOutEdge h) (Device.ppsOutEdge_rises hlow hdue hen),
      fun hoff => State.does_congr (State.does_ppsOutEdge h) (Device.ppsOutEdge_disabled hlow hdue hoff)⟩
  case ptmGo =>
    have hstart : (s.dev.goWoken 10 R.PTM_CTL).ptmStart = _ := Device.ptmStart_starts (by rwa [Device.goWoken_hst])
      (by rwa [Device.goWoken_tim])
    refine ⟨_, State.does_congr (State.does_ptmGo h) hstart, ?_, (Device.setTime_hst _ _).trans s.dev.goWoken_hst⟩
    rw [Device.setTime_tim, Device.goWoken_tim, Device.goWoken_tt]
  case ptmIgnored =>
    have hstart : (s.dev.goWoken 10 R.PTM_CTL).ptmStart = _ := Device.ptmStart_ignored (by
      rwa [Device.goWoken_hst, Device.goWoken_tim])
    exact ⟨_, State.does_congr (State.does_ptmGo h) hstart, s.dev.goWoken_tim, s.dev.goWoken_hst⟩
  case ptmPeriod =>
    subst hms
    refine ⟨fun hauto hover hen hfree => ?_, fun hno => State.does_congr (State.does_ptmAutoPeriod h) ?_⟩
    · exact State.does_congr (State.does_ptmAutoPeriod h) ((Device.ptmPeriod_over hauto hover).trans (Device.ptmStart_starts hen hfree))
    · rcases hno with hauto | hon | hstart
      · exact Device.ptmPeriod_waits (.inl hauto)
      · exact Device.ptmPeriod_waits (.inr hon)
      · exact Device.ptmPeriod_of_ignored (Device.ptmStart_ignored hstart)
  case ptmGood =>
    exact ⟨_, State.does_congr (State.does_ptmDialogueDone h true t1 master prop) (Device.ptmDone_good hbusy t1 master prop),
      Device.ptmRecorded_t1 _ _ _, Device.ptmRecorded_master _ _ _, Device.ptmRecorded_prop _ _ _ prop.isLt,
      Device.ptmRecorded_valid _ _ _, Device.ptmRecorded_seq _ _ _, Device.ptmRecorded_tim _ _ _⟩
  case ptmBad =>
    exact ⟨_, State.does_congr (State.does_ptmDialogueDone h false t1 master prop) (Device.ptmDone_bad hbusy t1 master prop),
      Device.flag_setFlag_same _ _ _ _ (by decide) (by decide), Device.rd_setFlag_beside _ _ _ (by decide),
      Device.setFlag_tim _ _ _ _⟩

end Sys2Proof.Machine
end

section
/-! Scope: the time commands of mailbox group 0x0A (R68, R323, R325, R326, R328, R334, R335, R339, R340): what each replies once its own
checks are passed. -/

namespace Sys2Proof.Machine

/-! ### The device a body finds -/

theorem Device.entered_servoRuns (d : Device) (e : Entry) : (d.entered e).servoRuns = d.servoRuns := by
  rw [Device.servoRuns, Device.servo, Device.entered_tim, ← Device.servo, ← Device.servoRuns]

theorem Device.entered_prtx (d : Device) (e : Entry) (p : Nat) : (d.entered e).prtx p = d.prtx p := by
  rw [Device.prtx, Device.bth, Device.entered_prt, ← Device.bth, ← Device.prtx]

/-! ### TIME_STEP (R326) -/

/-- A word read as signed. -/
theorem toInt_ofNat_eq_sgn (w v : Nat) : (BitVec.ofNat w v).toInt = sgn w v := by
  rw [BitVec.toInt_eq_toNat_cond, BitVec.toNat_ofNat, sgn]

/-- A field that is its whole register. -/
theorem Fld.of_whole {f : Fld} (hlo : f.lo = 0) (hwidth : f.width = 64) (w : Word) : f.of w = w.toNat := by
  rw [Fld.of, bits, hlo, hwidth, pow_zero, Nat.div_one, Nat.mod_eq_of_lt w.isLt]

/-- Registers that stand alike read alike. -/
theorem Device.rd_of_regs {t d : Device} (h : t.regs = d.regs) (r : Reg) (ix : List Nat) : t.rd r ix = d.rd r ix :=
  congrArg (fun m => m.get (BitVec.ofNat 64 r.reset) (r.addr ix)) h

theorem Device.flag_of_regs {t d : Device} (h : t.regs = d.regs) (f : Fld) (ix : List Nat) : t.flag f ix = d.flag f ix :=
  Device.flag_of_get (Device.get_of_rd (Device.rd_of_regs h f.reg ix))

/-- The step registers as TIME_STEP writes them. -/
def Device.stepWritten (d : Device) (e : Entry) : Device :=
  let d := (d.wr R.TB_STEP_AMT [] (BitVec.ofNat 64 (e.u 24 8))).wr R.TB_STEP_AT [] (BitVec.ofNat 64 (e.u 16 8))
  let d := (d.put R.TB_STEP_SEC_SEC [] (e.u 32 8)).put R.TB_STEP_NS_NS [] (e.u 40 4)
  let d := (d.put R.TB_STEP_NS_FRAC [] (e.u 44 2)).setFlag R.TB_STEP_CTL_BOTH [] (bit (e.u 13 1) 0)
  (d.setFlag R.TB_STEP_CTL_LOAD [] (bit (e.u 13 1) 1)).setFlag R.TB_STEP_CTL_AT [] (bit (e.u 13 1) 2)

/-- The step a TIME_STEP asks for. -/
def Entry.stepAsked (e : Entry) : StepReq where
  load := bit (e.u 13 1) 1
  both := bit (e.u 13 1) 0
  atTT := if bit (e.u 13 1) 2 then some (BitVec.ofNat 64 (e.u 16 8)) else none
  amt := e.s 24 8
  sec := e.u 32 8 % 2 ^ 48
  ns := e.u 40 4
  frac := e.u 44 2

/-- A TIME_STEP whose MODE is one of the table; where it loads, it names a time to load at and a wall time. -/
def Entry.stepForm (e : Entry) : Prop :=
  e.u 13 1 ≤ 7 ∧ (bit (e.u 13 1) 1 = true → bit (e.u 13 1) 2 = true ∧ e.u 32 8 < 2 ^ 48 ∧ e.u 40 4 ≤ 999999999)

section
variable (d : Device) (e : Entry)

theorem Device.stepWritten_load : (d.stepWritten e).flag R.TB_STEP_CTL_LOAD [] = bit (e.u 13 1) 1 := by
  rw [Device.stepWritten, Device.flag_setFlag_beside _ _ _ (by decide), Device.flag_setFlag_same _ _ _ _ (by decide) (by decide)]

theorem Device.stepWritten_both : (d.stepWritten e).flag R.TB_STEP_CTL_BOTH [] = bit (e.u 13 1) 0 := by
  rw [Device.stepWritten, Device.flag_setFlag_beside _ _ _ (by decide), Device.flag_setFlag_beside _ _ _ (by decide),
    Device.flag_setFlag_same _ _ _ _ (by decide) (by decide)]

theorem Device.stepWritten_at : (d.stepWritten e).flag R.TB_STEP_CTL_AT [] = bit (e.u 13 1) 2 :=
  Device.flag_setFlag_same _ _ _ _ (by decide) (by decide)

theorem Device.stepWritten_atTT : (d.stepWritten e).rd R.TB_STEP_AT [] = BitVec.ofNat 64 (e.u 16 8) := by
  simp (disch := decide) only [Device.stepWritten, Device.rd_setFlag_beside, Device.rd_put_beside, Device.rd_wr_same]

theorem Device.stepWritten_amt : (d.stepWritten e).rd R.TB_STEP_AMT [] = BitVec.ofNat 64 (e.u 24 8) := by
  simp (disch := decide) only [Device.stepWritten, Device.rd_setFlag_beside, Device.rd_put_beside, Device.rd_wr_beside,
    Device.rd_wr_same]

theorem Device.stepWritten_sec : (d.stepWritten e).get R.TB_STEP_SEC_SEC [] = e.u 32 8 % 2 ^ 48 := by
  simp (disch := decide) only [Device.stepWritten, Device.get_setFlag_beside, Device.get_put_beside]
  exact Device.get_put_same _ _ _ _ (by decide)

theorem Device.stepWritten_ns : (d.stepWritten e).get R.TB_STEP_NS_NS [] = e.u 40 4 := by
  simp (disch := decide) only [Device.stepWritten, Device.get_setFlag_beside, Device.get_put_beside]
  exact Device.get_put_fit _ _ (by decide) (e.u_lt 40 4)

theorem Device.stepWritten_frac : (d.stepWritten e).get R.TB_STEP_NS_FRAC [] = e.u 44 2 := by
  simp (disch := decide) only [Device.stepWritten, Device.get_setFlag_beside]
  exact Device.get_put_fit _ _ (by decide) (e.u_lt 44 2)

theorem Device.stepWritten_amtField : (d.stepWritten e).get R.TB_STEP_AMT_AMT [] = e.u 24 8 := by
  have hword : (d.stepWritten e).rd R.TB_STEP_AMT_AMT.reg [] = _ := d.stepWritten_amt e
  rw [Device.get, Fld.of_whole rfl rfl, hword, e.u_word]

theorem Device.stepWritten_stepAsked : (d.stepWritten e).stepAsked = e.stepAsked := by
  simp only [Device.stepAsked, Entry.stepAsked, Device.stepWritten_load, Device.stepWritten_both, Device.stepWritten_at,
    Device.stepWritten_atTT, Device.stepWritten_amt, Device.stepWritten_sec, Device.stepWritten_ns, Device.stepWritten_frac,
    toInt_ofNat_eq_sgn, Entry.s]

/-- The step registers alone tell the step asked for. -/
theorem Device.stepAsked_congr {t d : Device} (h : t.regs = d.regs) : t.stepAsked = d.stepAsked := by
  simp only [Device.stepAsked, Device.flag_of_regs h, Device.get, Device.rd_of_regs h]

/-- On any device with the registers TIME_STEP wrote and no step pending, GO takes the step asked for. -/
theorem Device.stepGo_written {t d : Device} {e : Entry} (hregs : t.regs = (d.stepWritten e).regs) (hnone : t.tim.time.step = none)
    (hform : e.stepForm) : t.stepGo.tim.time.step = some e.stepAsked := by
  have hasked : t.stepAsked = e.stepAsked := (Device.stepAsked_congr hregs).trans (d.stepWritten_stepAsked e)
  have hload : t.flag R.TB_STEP_CTL_LOAD [] = bit (e.u 13 1) 1 := congrArg StepReq.load hasked
  have hat : t.flag R.TB_STEP_CTL_AT [] = bit (e.u 13 1) 2 := (Device.flag_of_regs hregs _ _).trans (d.stepWritten_at e)
  rw [Device.stepGo_taken hnone ?_, Device.stepPends_time, hasked]
  rw [hload, hat]
  cases hbit : bit (e.u 13 1) 1
  · exact .inl rfl
  · exact .inr (hform.2 hbit).1

variable {d e}

/-- The form check of TIME_STEP lets a well-formed one pass. -/
theorem Device.timeStep_formed (hform : e.stepForm) : d.timeStep e =
    if d.servoRuns then d.no stSERVO_ACTIVE else if d.tim.time.step.isSome then d.no stBUSY
    else { (d.stepWritten e).later [] with act := Device.stepGo } := by
  obtain ⟨hmode, hload⟩ := hform
  refine if_neg ?_
  rintro (hbig | ⟨hbit, hbad⟩)
  · omega
  · obtain ⟨hat, hsec, hns⟩ := hload hbit
    rw [hat] at hbad
    rcases hbad with hbad | hbad | hbad
    · exact absurd hbad (by decide)
    · omega
    · omega

theorem Device.timeStep_steps (hform : e.stepForm) (hservo : d.servoRuns = false) (hnone : d.tim.time.step = none) :
    d.timeStep e = { (d.stepWritten e).later [] with act := Device.stepGo } := by
  rw [Device.timeStep_formed hform, if_neg (ne_true_of_eq_false hservo), if_neg (by rw [hnone]; decide)]

theorem Device.timeStep_refused (hform : e.stepForm) (hservo : d.servoRuns = true) : d.timeStep e = d.no stSERVO_ACTIVE :=
  (Device.timeStep_formed hform).trans (if_pos hservo)

end

/-! ### TIME_SLEW (R328) -/

/-- The final response of TIME_SLEW follows at once where no slew runs. -/
def Device.slewAnswered (d : Device) : Device := if d.tim.time.slewing then d else d.slewReport

/-- What a TIME_SLEW sets going once it is answered. -/
def Entry.slewAct (e : Entry) (d : Device) : Device :=
  (if bit (e.u 13 1) 1 then d.slewAbort
    else (d.wr R.TB_SLEW_AMT [] (BitVec.ofNat 64 (e.u 24 8))).slewGo (e.s 24 8) (e.u 16 4) (bit (e.u 13 1) 0)).slewAnswered

section
variable {d : Device} {e : Entry}

theorem Device.timeSlew_accepted (hflags : e.u 13 1 ≤ 3) (hservo : d.servoRuns = false) :
    d.timeSlew e = { d.accepted [] 99 with act := e.slewAct } :=
  (if_neg (Nat.not_lt.2 hflags)).trans (if_neg (ne_true_of_eq_false hservo))

theorem Device.timeSlew_refused (hflags : e.u 13 1 ≤ 3) (hservo : d.servoRuns = true) : d.timeSlew e = d.no stSERVO_ACTIVE :=
  (if_neg (Nat.not_lt.2 hflags)).trans (if_pos hservo)

theorem Entry.slewAct_slews (h : bit (e.u 13 1) 1 = false) (t : Device) : e.slewAct t =
    ((t.wr R.TB_SLEW_AMT [] (BitVec.ofNat 64 (e.u 24 8))).slewGo (e.s 24 8) (e.u 16 4) (bit (e.u 13 1) 0)).slewAnswered :=
  congrArg Device.slewAnswered (if_neg (ne_true_of_eq_false h))

theorem Entry.slewAct_aborts (h : bit (e.u 13 1) 1 = true) (t : Device) : e.slewAct t = t.slewAbort.slewAnswered :=
  congrArg Device.slewAnswered (if_pos h)

end

/-! ### TIME_INCR (R323) -/

section
variable {d : Device} {e : Entry}

theorem Device.timeIncr_sets (hservo : d.servoRuns = false) :
    d.timeIncr e = (d.setIncr (e.u 16 8)).ok (leBytes 8 (clamp incrMin incrMax (e.u 16 8))) :=
  (if_neg (ne_true_of_eq_false hservo)).trans
    (congrArg (fun n => (d.setIncr (e.u 16 8)).ok (leBytes 8 n)) (d.setIncr_incr (e.u 16 8)))

theorem Device.timeIncr_refused (hservo : d.servoRuns = true) : d.timeIncr e = d.no stSERVO_ACTIVE := if_pos hservo

/-! ### PTP_SERVO and PTP_STATUS (R339, R340) -/

/-- The servo as PTP_SERVO starts it. -/
def Device.servoAsked (d : Device) (e : Entry) : ServoX where
  state := if e.u 16 1 = 2 then 6 else 1
  port := e.u 14 1
  domain := if e.u 15 1 = 0xFF then 127 else e.u 15 1
  role := e.u 16 1
  encaps := e.u 17 1
  flags := e.u 18 1
  priority1 := if e.u 19 1 = 0xFF then 128 else e.u 19 1
  priority2 := if e.u 20 1 = 0xFF then 128 else e.u 20 1
  syncLog := logOf (e.u 21 1) (-3)
  announceLog := logOf (e.u 22 1) (-2)
  delayLog := logOf (e.u 23 1) (-3)
  lastSync := d.tt
  sentSync := d.tt
  sentAnnounce := d.tt
  sentDelay := d.tt

theorem Device.ptpServo_stops (h : e.u 13 1 = 0) : d.ptpServo e = (d.setServo { d.servo with state := 0 }).ok [] :=
  (if_neg (by omega)).trans (if_pos h)

theorem Device.ptpServo_starts (h : e.u 13 1 = 1) (hport : e.u 14 1 ≤ 7) (hrole : e.u 16 1 ≤ 2) (hencaps : e.u 17 1 ≠ 0)
    (hencaps3 : e.u 17 1 ≤ 3) (hflags : e.u 18 1 ≤ 3) (hthere : d.portPresent (e.u 14 1) = true)
    (hopen : (d.prtx (e.u 14 1)).isOpen = true) (heth : modeEth (d.pmode (e.u 14 1)) = true) (hservo : d.servoRuns = false) :
    d.ptpServo e = (d.setServo (d.servoAsked e)).ok [] := by
  rw [Device.ptpServo, if_neg (by omega), if_neg (by omega), if_neg (by omega), if_neg (by rw [hthere]; decide),
    if_neg (by rw [hopen, heth]; decide), if_neg (ne_true_of_eq_false hservo)]
  rfl

/-- PTP_STATUS's payload. -/
def Device.servoReport (d : Device) : List Byte :=
  layout [(1, d.servo.state), (1, d.servo.port), (2, d.servo.stepsRemoved), (1, d.servo.gmPriority1), (1, d.servo.gmClass), (2, 0),
    (8, code 64 d.servo.offset), (8, code 64 d.servo.meanPath), (8, d.get R.TB_INCR_INCR [])]

theorem Device.ptpStatus_reports (h : d.noMaster = false) : d.ptpStatus = d.ok d.servoReport := if_neg (ne_true_of_eq_false h)

theorem Device.ptpStatus_noMaster (h : d.noMaster = true) : d.ptpStatus = d.no 0x0A11 := if_pos h

end

/-! ### TIMING_PINS (R333, R334) -/

/-- The pin registers as TIMING_PINS sets them. -/
def Device.pinsSet (d : Device) (e : Entry) : Device :=
  let fl := e.u 13 1
  let d := d.wr R.TP_CTL [] (BitVec.ofNat 64 (fl % 32))
  let d := (d.put R.TP_WIDTH_PPS_WIDTH [] (e.u 16 4)).put R.TP_WIDTH_PPS_OFFSET [] (e.u 20 4)
  let d := d.setFlag R.TP_EV_PPS_IN_EV_EN [] (bit fl 5)
  let d := d.setFlag R.TP_EV_PPS_OUT_EV_EN [] (bit fl 6)
  let d := if bit fl 5 then d.put R.TP_EV_PPS_IN_EV [] (e.u 24 1) else d
  if bit fl 6 then d.put R.TP_EV_PPS_OUT_EV [] (e.u 25 1) else d

section
variable (d : Device) (e : Entry)

theorem Device.pinsSet_ctl : ((d.pinsSet e).rd R.TP_CTL []).toNat = e.u 13 1 % 32 := by
  simp (disch := decide) only [Device.pinsSet, Device.rd_ite, Device.rd_put_beside, Device.rd_setFlag_beside, Device.rd_wr_same, ite_self]
  rw [BitVec.toNat_ofNat]
  omega

theorem Device.pinsSet_width (h : e.u 16 4 ≤ 999999999) : (d.pinsSet e).get R.TP_WIDTH_PPS_WIDTH [] = e.u 16 4 := by
  simp (disch := decide) only [Device.pinsSet, Device.get_ite, Device.get_put_beside, Device.get_setFlag_beside, ite_self]
  exact Device.get_put_fit _ _ (by decide) (h.trans_lt (by decide))

theorem Device.pinsSet_inEn : (d.pinsSet e).flag R.TP_EV_PPS_IN_EV_EN [] = bit (e.u 13 1) 5 := by
  simp (disch := decide) only [Device.flag, Device.pinsSet, Device.get_ite, Device.get_put_beside, Device.get_setFlag_beside, ite_self]
  exact Device.flag_setFlag_same _ _ _ _ (by decide) (by decide)

theorem Device.pinsSet_outEn : (d.pinsSet e).flag R.TP_EV_PPS_OUT_EV_EN [] = bit (e.u 13 1) 6 := by
  simp (disch := decide) only [Device.flag, Device.pinsSet, Device.get_ite, Device.get_put_beside, ite_self]
  exact Device.flag_setFlag_same _ _ _ _ (by decide) (by decide)

theorem Device.pinsSet_inEv : (d.pinsSet e).get R.TP_EV_PPS_IN_EV []
    = if bit (e.u 13 1) 5 then e.u 24 1 else d.get R.TP_EV_PPS_IN_EV [] := by
  simp (disch := decide) only [Device.pinsSet, Device.get_ite, Device.get_put_beside, Device.get_setFlag_beside, Device.get_wr_beside,
    ite_self]
  rw [Device.get_put_fit _ _ (by decide) (e.u_lt 24 1)]

theorem Device.pinsSet_outEv : (d.pinsSet e).get R.TP_EV_PPS_OUT_EV []
    = if bit (e.u 13 1) 6 then e.u 25 1 else d.get R.TP_EV_PPS_OUT_EV [] := by
  simp (disch := decide) only [Device.pinsSet, Device.get_ite, Device.get_put_beside, Device.get_setFlag_beside, Device.get_wr_beside,
    ite_self]
  rw [Device.get_put_fit _ _ (by decide) (e.u_lt 25 1)]

/-- TIMING_PINS leaves every register but TP_CTL, TP_WIDTH and TP_EV. -/
theorem Device.pinsSet_rd {r : Reg} (hctl : r.beside R.TP_CTL = true) (hwidth : r.beside R.TP_WIDTH = true)
    (hev : r.beside R.TP_EV = true) : (d.pinsSet e).rd r [] = d.rd r [] := by
  simp only [Device.pinsSet, Device.rd_ite, Device.rd_put_beside (f := R.TP_EV_PPS_OUT_EV) _ _ _ hev,
    Device.rd_put_beside (f := R.TP_EV_PPS_IN_EV) _ _ _ hev, Device.rd_setFlag_beside (f := R.TP_EV_PPS_OUT_EV_EN) _ _ _ hev,
    Device.rd_setFlag_beside (f := R.TP_EV_PPS_IN_EV_EN) _ _ _ hev, Device.rd_put_beside (f := R.TP_WIDTH_PPS_OFFSET) _ _ _ hwidth,
    Device.rd_put_beside (f := R.TP_WIDTH_PPS_WIDTH) _ _ _ hwidth, Device.rd_wr_beside _ _ _ hctl, ite_self]

theorem Device.tim_ite (p : Prop) {_ : Decidable p} (a b : Device) : (if p then a else b).tim = if p then a.tim else b.tim := by
  split <;> rfl

theorem Device.pinsSet_tim : (d.pinsSet e).tim = d.tim := by
  simp only [Device.pinsSet, Device.tim_ite, Device.put_tim, Device.setFlag_tim, Device.wr_tim, ite_self]

/-- The stamps of the last input edges. -/
def Device.pinStamps (d : Device) : List Byte := layout [(8, (d.rd R.TP_PPS_IN []).toNat), (8, (d.rd R.TP_10M_PHASE []).toNat)]

variable {d e}

theorem Device.timingPins_sets (hflags : e.u 13 1 ≤ 127) (hlo : 100 ≤ e.u 16 4) (hhi : e.u 16 4 ≤ 999999999) :
    d.timingPins e = (d.pinsSet e).ok d.pinStamps := by
  have hstamps : (d.pinsSet e).pinStamps = d.pinStamps := by
    rw [Device.pinStamps, d.pinsSet_rd e (by decide) (by decide) (by decide), d.pinsSet_rd e (by decide) (by decide) (by decide),
      ← Device.pinStamps]
  rw [← hstamps]
  exact if_neg (by omega)

end

/-! ### TIME_PTM (R335) -/

/-- What TIME_PTM does to the dialogues. -/
def Device.ptmAsked (d : Device) (e : Entry) : Device :=
  if e.u 13 1 = 0 then d.ptmStart
  else if e.u 13 1 = 1 then (d.setFlag R.PTM_CTL_AUTO [] true).put R.PTM_CTL_PERIOD_MS [] (e.u 14 2)
  else d.setFlag R.PTM_CTL_AUTO [] false

/-- The latest record of a dialogue. -/
def Device.ptmReport (d : Device) : List Byte :=
  layout [(8, (d.rd R.PTM_T1 []).toNat), (8, (d.rd R.PTM_MASTER []).toNat), (4, d.get R.PTM_PROP_NS []), (4, d.get R.PTM_STAT_SEQ [])]

section
variable {d : Device} {e : Entry}

theorem Device.ptmStart_rd (d : Device) (r : Reg) (ix : List Nat) : d.ptmStart.rd r ix = d.rd r ix := by
  rw [Device.ptmStart, Device.rd_ite, Device.setTime_rd, ite_self]

/-- TIME_PTM leaves every register but PTM_CTL. -/
theorem Device.ptmAsked_rd {r : Reg} (h : r.beside R.PTM_CTL = true) : (d.ptmAsked e).rd r [] = d.rd r [] := by
  simp only [Device.ptmAsked, Device.rd_ite, Device.ptmStart_rd, Device.rd_put_beside (f := R.PTM_CTL_PERIOD_MS) _ _ _ h,
    Device.rd_setFlag_beside (f := R.PTM_CTL_AUTO) _ _ _ h, ite_self]

theorem Device.ptmAsked_report : (d.ptmAsked e).ptmReport = d.ptmReport := by
  have hprop : (d.ptmAsked e).get R.PTM_PROP_NS [] = d.get R.PTM_PROP_NS [] := Device.get_of_rd (Device.ptmAsked_rd (by decide))
  have hseq : (d.ptmAsked e).get R.PTM_STAT_SEQ [] = d.get R.PTM_STAT_SEQ [] := Device.get_of_rd (Device.ptmAsked_rd (by decide))
  rw [Device.ptmReport, hprop, hseq, Device.ptmAsked_rd (by decide), Device.ptmAsked_rd (by decide), ← Device.ptmReport]

theorem Device.timePtm_asks (hact : e.u 13 1 ≤ 2) (hperiod : e.u 14 2 ≤ 16383) (hen : d.hst.ptmEnable = true) :
    d.timePtm e = (d.ptmAsked e).ok d.ptmReport := by
  rw [← Device.ptmAsked_report (e := e)]
  exact (if_neg (by omega)).trans (if_neg (by rw [hen]; decide))

end

/-- Settles O48, command by command: each is taken down to the operation it carries out, and what that operation writes is read off its
own lemmas. -/
theorem timeCommands : Obligations.TimeCommands := by
  unfold Obligations.TimeCommands
  refine ⟨fun s e => ?query, fun s e m hm hmode hload hservo hnone => ?step, fun s e hflags hgo hservo => ?slew,
    fun s e hflags habort hservo => ?abort, fun s e hservo => ?incr, fun s e hstop => ?servoStop,
    fun s e p hstart hp hport hrole hencaps hencaps3 hflags hthere hopen heth hservo => ?servoStart, fun s e hmaster => ?status,
    fun s e hmaster => ?noMaster, fun s e fl hfl hflags hlo hhi => ?pins, fun s e t hact hperiod hen ht => ?ptm,
    fun s e m hm hmode hload hservo => ?refused⟩
  case query => exact State.gives_of (body := Device.timeQuery) rfl fun _ => ⟨rfl, rfl, rfl⟩
  case step =>
    subst hm
    have hform : e.stepForm := ⟨hmode, hload⟩
    have hnone' : (s.dev.entered e).tim.time.step = none := by rwa [Device.entered_tim]
    refine State.gives_of (body := Device.timeStep e) rfl fun _ => ?_
    rw [Device.timeStep_steps hform (by rwa [Device.entered_servoRuns]) hnone']
    exact ⟨rfl, rfl, rfl, Device.stepWritten_amtField _ e, Device.stepWritten_load _ e,
      fun t hregs htim => Device.stepGo_written hregs (htim ▸ hnone') hform⟩
  case slew =>
    refine State.gives_of (body := Device.timeSlew e) rfl fun _ => ?_
    rw [Device.timeSlew_accepted hflags (by rwa [Device.entered_servoRuns])]
    refine ⟨rfl, rfl, fun t u hu => ?_⟩
    subst hu
    exact Entry.slewAct_slews hgo t
  case abort =>
    refine State.gives_of (body := Device.timeSlew e) rfl fun _ => ?_
    rw [Device.timeSlew_accepted hflags (by rwa [Device.entered_servoRuns])]
    exact ⟨rfl, rfl, Entry.slewAct_aborts habort⟩
  case incr =>
    refine State.gives_of (body := Device.timeIncr e) rfl fun _ => ?_
    rw [Device.timeIncr_sets (by rwa [Device.entered_servoRuns])]
    exact ⟨rfl, Device.setIncr_incr _ _, rfl, Device.setIncr_clamped _, Device.setIncr_tim _ _⟩
  case servoStop =>
    refine State.gives_of (body := Device.ptpServo e) rfl fun _ => ?_
    rw [Device.ptpServo_stops hstop]
    exact ⟨rfl, rfl, rfl⟩
  case servoStart =>
    subst hp
    refine State.gives_of (body := Device.ptpServo e) rfl fun _ => ?_
    rw [Device.ptpServo_starts hstart hport hrole hencaps hencaps3 hflags (by rwa [Device.entered_portPresent])
      (by rwa [Device.entered_prtx]) (by rwa [Device.entered_pmode]) (by rwa [Device.entered_servoRuns])]
    exact ⟨rfl, rfl, rfl, rfl, rfl, rfl, rfl, rfl, rfl, rfl, rfl, rfl⟩
  case status =>
    refine State.gives_of (body := Device.ptpStatus) rfl fun _ => ?_
    rw [Device.ptpStatus_reports hmaster]
    exact ⟨rfl, rfl, rfl⟩
  case noMaster => exact State.gives_of (body := Device.ptpStatus) rfl fun _ => Device.ptpStatus_noMaster hmaster
  case pins =>
    subst hfl
    refine State.gives_of (body := Device.timingPins e) rfl fun _ => ?_
    rw [Device.timingPins_sets hflags hlo hhi]
    exact ⟨rfl, Device.pinsSet_ctl _ e, Device.pinsSet_width _ e hhi, Device.pinsSet_inEn _ e, Device.pinsSet_outEn _ e,
      Device.pinsSet_inEv _ e, Device.pinsSet_outEv _ e, rfl, Device.pinsSet_tim _ e⟩
  case ptm =>
    subst ht
    refine State.gives_of (body := Device.timePtm e) rfl fun _ => ?_
    rw [Device.timePtm_asks hact hperiod (by rwa [Device.entered_hst])]
    exact ⟨rfl, rfl, rfl⟩
  case refused =>
    subst hm
    have hservo' : (s.dev.entered e).servoRuns = true := by rwa [Device.entered_servoRuns]
    exact ⟨State.gives_of (body := Device.timeStep e) rfl fun _ => Device.timeStep_refused ⟨by omega, hload⟩ hservo',
      State.gives_of (body := Device.timeSlew e) rfl fun _ => Device.timeSlew_refused hmode hservo',
      State.gives_of (body := Device.timeIncr e) rfl fun _ => Device.timeIncr_refused hservo'⟩

end Sys2Proof.Machine
end

section
/-! Scope: operations that write registers alone, and only some of them: a fold of such writes, however long, leaves every other
register and every other part of the device. -/

namespace Sys2Proof.Machine

/-- `t` is `d` but for registers, and of these but for such as lie at addresses in `A`. -/
structure Device.WritesIn (d : Device) (A : Nat → Prop) (t : Device) : Prop where
  rest : ∃ m, t = { d with regs := m }
  regs : ∀ (r : Reg) (ix : List Nat), ¬ A (r.addr ix) → t.rd r ix = d.rd r ix

namespace Device.WritesIn
variable {d t u : Device} {A : Nat → Prop}

theorem refl (d : Device) (A : Nat → Prop) : d.WritesIn A d := ⟨⟨d.regs, rfl⟩, fun _ _ _ => rfl⟩

theorem trans (h : d.WritesIn A t) (h' : t.WritesIn A u) : d.WritesIn A u := by
  obtain ⟨m, hm⟩ := h.rest
  obtain ⟨m', hm'⟩ := h'.rest
  exact ⟨⟨m', by rw [hm', hm]⟩, fun r ix hA => (h'.regs r ix hA).trans (h.regs r ix hA)⟩

theorem mono {B : Nat → Prop} (h : d.WritesIn A t) (hAB : ∀ a, A a → B a) : d.WritesIn B t :=
  ⟨h.rest, fun r ix hB => h.regs r ix fun hA => hB (hAB _ hA)⟩

theorem get (h : d.WritesIn A t) {f : Fld} {ix : List Nat} (hA : ¬ A (f.reg.addr ix)) : t.get f ix = d.get f ix :=
  Device.get_of_rd (h.regs f.reg ix hA)

theorem flag (h : d.WritesIn A t) {f : Fld} {ix : List Nat} (hA : ¬ A (f.reg.addr ix)) : t.flag f ix = d.flag f ix :=
  Device.flag_of_get (h.get hA)

theorem hbm (h : d.WritesIn A t) : t.hbm = d.hbm := by
  obtain ⟨m, hm⟩ := h.rest
  rw [hm]

theorem hostMem (h : d.WritesIn A t) : t.hostMem = d.hostMem := by
  obtain ⟨m, hm⟩ := h.rest
  rw [hm]

theorem ctl (h : d.WritesIn A t) : t.ctl = d.ctl := by
  obtain ⟨m, hm⟩ := h.rest
  rw [hm]

theorem dlv (h : d.WritesIn A t) : t.dlv = d.dlv := by
  obtain ⟨m, hm⟩ := h.rest
  rw [hm]

theorem tim (h : d.WritesIn A t) : t.tim = d.tim := by
  obtain ⟨m, hm⟩ := h.rest
  rw [hm]

theorem mot (h : d.WritesIn A t) : t.mot = d.mot := by
  obtain ⟨m, hm⟩ := h.rest
  rw [hm]

theorem hst (h : d.WritesIn A t) : t.hst = d.hst := by
  obtain ⟨m, hm⟩ := h.rest
  rw [hm]

theorem sec (h : d.WritesIn A t) : t.sec = d.sec := by
  obtain ⟨m, hm⟩ := h.rest
  rw [hm]

theorem pow (h : d.WritesIn A t) : t.pow = d.pow := by
  obtain ⟨m, hm⟩ := h.rest
  rw [hm]

theorem wr (h : d.WritesIn A t) {r : Reg} {ix : List Nat} (v : Word) (hA : A (r.addr ix)) : d.WritesIn A (t.wr r ix v) := by
  obtain ⟨m, hm⟩ := h.rest
  refine ⟨⟨_, by rw [hm]; rfl⟩, fun q jx hq => (Device.rd_wr_ne _ _ fun heq => hq ?_).trans (h.regs q jx hq)⟩
  rwa [heq]

theorem put (h : d.WritesIn A t) {f : Fld} {ix : List Nat} (v : Nat) (hA : A (f.reg.addr ix)) : d.WritesIn A (t.put f ix v) := h.wr _ hA

theorem setFlag (h : d.WritesIn A t) {f : Fld} {ix : List Nat} (b : Bool) (hA : A (f.reg.addr ix)) :
    d.WritesIn A (t.setFlag f ix b) := h.wr _ hA

theorem ite {p : Prop} [Decidable p] (h : d.WritesIn A t) (h' : d.WritesIn A u) : d.WritesIn A (if p then t else u) := by
  split
  · exact h
  · exact h'

theorem foldl {β : Type} {f : Device → β → Device} {l : List β} (h : d.WritesIn A t)
    (hf : ∀ x, ∀ b ∈ l, d.WritesIn A x → d.WritesIn A (f x b)) : d.WritesIn A (l.foldl f t) :=
  List.foldlRecOn l f h fun x hx b hb => hf x b hb hx

end Device.WritesIn

end Sys2Proof.Machine
end

section
/-! Scope: full resets (R34, R446, R468, R470 to R472): what every full reset leaves, the state after power-on, and a device on which a
full reset is held. -/

namespace Sys2Proof.Machine

/-! ### What a full reset leaves (R34, R470, R471) -/

/-- The addresses of the registers that R34 gives values of their own after a reset: the booth headers and the attachments. -/
def headerArea (a : Nat) : Prop := a < 0xf300000

theorem boothReg_headerArea {r : Reg} (hs : r.strides = [(0x1000000, 15)]) (hb : r.base < 0x1000100) {b : Nat} (h : b < 15) :
    headerArea (r.addr [b]) := by
  simp only [headerArea, Reg.addr, hs, strideSum]
  omega

theorem calAttach_headerArea {n : Nat} (h : n < 16) : headerArea (R.CAL_ATTACH.addr [n]) := by
  simp only [headerArea, Reg.addr, R.CAL_ATTACH, strideSum]
  omega

theorem Device.showAttach_writes (d : Device) : d.WritesIn headerArea d.showAttach :=
  (WritesIn.refl d _).foldl fun _ _ hb hx => hx.put (f := R.BOOTH_SEQ_ATTACHED) _ (boothReg_headerArea rfl (by decide) (List.mem_range.1 hb))

/-- A booth's own identification. -/
theorem Device.WritesIn.boothId {d t : Device} (h : d.WritesIn headerArea t) {b : Nat} (hb : b < 15) (n k p : Nat) :
    d.WritesIn headerArea (((t.put R.BOOTH_ID_NUM [b] n).put R.BOOTH_ID_KIND [b] k).put R.BOOTH_ID_PRESENT [b] p) :=
  have ha : headerArea (R.BOOTH_ID.addr [b]) := boothReg_headerArea rfl (by decide) hb
  ((h.put (f := R.BOOTH_ID_NUM) n ha).put (f := R.BOOTH_ID_KIND) k ha).put (f := R.BOOTH_ID_PRESENT) p ha

/-- The headers and attachments are registers, and every other register keeps its reset value. -/
theorem Device.resetHeaders_writes (d : Device) : d.WritesIn headerArea d.resetHeaders := by
  have hid := (WritesIn.refl d headerArea).foldl (l := List.range 15) (f := fun (d : Device) b =>
    if d.boothPresent b then
      ((d.put R.BOOTH_ID_NUM [b] b).put R.BOOTH_ID_KIND [b] (boothKind b)).put R.BOOTH_ID_PRESENT [b] 1 else d)
    fun _ b hb hx => (hx.boothId (List.mem_range.1 hb) _ _ _).ite hx
  have hcal := hid.foldl (l := List.range 16) (f := fun (d : Device) n =>
    (d.put R.CAL_ATTACH_BOOTHS [n] (resetAttach n).1).put R.CAL_ATTACH_HOME [n] (resetAttach n).2) fun _ n hn hx =>
      (hx.put (f := R.CAL_ATTACH_BOOTHS) _ (calAttach_headerArea (List.mem_range.1 hn))).put (f := R.CAL_ATTACH_HOME) _
        (calAttach_headerArea (List.mem_range.1 hn))
  exact hcal.trans (Device.showAttach_writes _)

/-- The device as a full reset enters it, its headers not yet set (R470, R471). -/
def Device.resetCore (d : Device) (cause : Nat) (powerOn : Bool) : Device :=
  let f : Device := { hostMem := d.hostMem, sec := d.keptSec powerOn, ctl := { draws := d.ctl.draws + 2 } }
  let f := (f.wr R.ID_DEVICE [] (d.rd R.ID_DEVICE [])).wr R.ID_PRESENT [] (d.rd R.ID_PRESENT [])
  let f := (f.put R.HM_RSTCAUSE_CAUSE [] cause).put R.HM_RSTCAUSE_COUNT [] (if powerOn then 0 else d.get R.HM_RSTCAUSE_COUNT [] + 1)
  if powerOn then f
  else
    let f := (f.wr R.PW_AVS_CFG [] (d.rd R.PW_AVS_CFG [])).put R.HM_STAT_THERMTRIP [] (d.get R.HM_STAT_THERMTRIP [])
    { f with pow := { f.pow with vout := if d.flag R.PW_AVS_CFG_VALID [] then d.voutOf 850 else d.pow.vout } }

theorem Device.fullReset_eq (d : Device) (cause : Nat) (powerOn : Bool) :
    d.fullReset cause powerOn = (d.resetCore cause powerOn).resetHeaders := rfl

section
variable (d : Device) (cause : Nat) (powerOn : Bool)

theorem Device.fullReset_writes : (d.resetCore cause powerOn).WritesIn headerArea (d.fullReset cause powerOn) :=
  Device.resetHeaders_writes _

theorem Device.fullReset_sec : (d.fullReset cause powerOn).sec = d.keptSec powerOn :=
  (d.fullReset_writes cause powerOn).sec.trans (by cases powerOn <;> rfl)

theorem Device.fullReset_hbm : (d.fullReset cause powerOn).hbm = [] :=
  (d.fullReset_writes cause powerOn).hbm.trans (by cases powerOn <;> rfl)

theorem Device.fullReset_hostMem : (d.fullReset cause powerOn).hostMem = d.hostMem :=
  (d.fullReset_writes cause powerOn).hostMem.trans (by cases powerOn <;> rfl)

theorem Device.fullReset_works : (d.fullReset cause powerOn).ctl.works = [] :=
  congrArg ControlX.works ((d.fullReset_writes cause powerOn).ctl.trans (by cases powerOn <;> rfl) : _ = { draws := d.ctl.draws + 2 })

theorem Device.fullReset_ctxs : (d.fullReset cause powerOn).dlv.ctxs = [] :=
  congrArg DeliveryX.ctxs ((d.fullReset_writes cause powerOn).dlv.trans (by cases powerOn <;> rfl) : _ = {})

theorem Device.fullReset_inReset : (d.fullReset cause powerOn).sec.inReset = true := by
  rw [Device.fullReset_sec]
  rfl

theorem Device.fullReset_get {f : Fld} (hf : f.reg = R.HM_RSTCAUSE) :
    (d.fullReset cause powerOn).get f [] = (d.resetCore cause powerOn).get f [] :=
  (d.fullReset_writes cause powerOn).get (by rw [hf]; exact (by decide : ¬ R.HM_RSTCAUSE.addr [] < 0xf300000))

end

/-- The cause and the count stand in a register that the reset of the rest leaves. -/
theorem Device.resetCore_rstcause (d : Device) (cause : Nat) (powerOn : Bool) {f : Fld} (hf : f.reg = R.HM_RSTCAUSE) :
    ∃ t : Device, (d.resetCore cause powerOn).get f [] = ((t.put R.HM_RSTCAUSE_CAUSE [] cause).put R.HM_RSTCAUSE_COUNT []
      (if powerOn then 0 else d.get R.HM_RSTCAUSE_COUNT [] + 1)).get f [] := by
  cases powerOn with
  | true => exact ⟨_, rfl⟩
  | false =>
    have hstat : f.beside R.HM_STAT_THERMTRIP = true := (Bool.or_eq_true _ _).mpr (.inl (by rw [hf]; decide))
    have havs : f.reg.beside R.PW_AVS_CFG = true := by rw [hf]; decide
    exact ⟨_, (Device.get_put_beside _ [] _ hstat).trans (Device.get_of_rd (Device.rd_wr_beside _ [] _ havs))⟩

theorem Device.fullReset_cause {d : Device} {cause : Nat} (h : cause < 8) (powerOn : Bool) :
    (d.fullReset cause powerOn).get R.HM_RSTCAUSE_CAUSE [] = cause := by
  obtain ⟨t, ht⟩ := d.resetCore_rstcause cause powerOn (f := R.HM_RSTCAUSE_CAUSE) rfl
  rw [Device.fullReset_get _ _ _ rfl, ht, Device.get_put_beside _ _ _ (by decide)]
  exact Device.get_put_fit _ _ (by decide) h

theorem Device.fullReset_count (d : Device) (cause : Nat) (powerOn : Bool) :
    (d.fullReset cause powerOn).get R.HM_RSTCAUSE_COUNT []
      = (if powerOn then 0 else d.get R.HM_RSTCAUSE_COUNT [] + 1) % 2 ^ R.HM_RSTCAUSE_COUNT.width := by
  obtain ⟨t, ht⟩ := d.resetCore_rstcause cause powerOn (f := R.HM_RSTCAUSE_COUNT) rfl
  rw [Device.fullReset_get _ _ _ rfl, ht]
  exact Device.get_put_same _ _ _ _ (by decide)

/-! ### A full reset is held -/

/-- Settles O3: power-on enters a full reset, and nothing has been sent yet. -/
theorem resetMeetsInvariant : Obligations.ResetMeetsInvariant :=
  ⟨fun _ hi => absurd hi List.not_mem_nil, rfl, rfl, Device.fullReset_inReset _ 0 true⟩

/-- Settles O5, from the four ways a command runs: three of them look whether the device is held, the fourth is that of the rows of
a full reset. -/
theorem resetHoldsTheDevice : Obligations.ResetHoldsTheDevice := by
  intro i s hheld hrow
  unfold State.idles
  have hway := exec_way i s
  generalize exec i s = r at hway ⊢
  cases hway with
  | entry body => exact State.command_held hheld _ _ _ _ body
  | resets f _ hr => exact absurd hr (ne_true_of_eq_false hrow)
  | liveReady f => exact State.liveReady_held hheld f
  | live f => exact State.live_held hheld f

end Sys2Proof.Machine
end

section
/-! Scope: start-up after a full reset (R430, R440, R442, R443, R452, R453, R468, R470 to R473): the release, the boot ROM, READY, and
the rows of the resets. -/

namespace Sys2Proof.Machine

/-! ### Life-cycle changes and the release (R452, R472) -/

section
variable {d : Device} {c : LcChange}

theorem Device.lifecycleReset_due (hc : d.sec.change = some c) (hheld : d.sec.inReset = false)
    (htime : (1000000 * 65536 : Int) ≤ ttDiff d.tt c.since) : d.lifecycleReset = d.fullReset 4 false := by
  simp only [Device.lifecycleReset, hc, hheld]
  exact if_pos ⟨rfl, htime⟩

theorem Device.lifecycleReset_waits (hc : d.sec.change = some c) (h : d.sec.inReset = true ∨ ttDiff d.tt c.since < 1000000 * 65536) :
    d.lifecycleReset = d := by
  simp only [Device.lifecycleReset, hc]
  refine if_neg fun ⟨hheld, htime⟩ => ?_
  rcases h with h | h
  · exact absurd (h ▸ hheld) (by decide)
  · omega

theorem Device.lifecycleReset_none (hc : d.sec.change = none) : d.lifecycleReset = d := by
  simp only [Device.lifecycleReset, hc]

theorem Device.linkReset_up (h : d.hst.linkUp = true) : d.linkReset = d.fullReset 3 false := if_pos h

theorem Device.linkReset_down (h : d.hst.linkUp = false) : d.linkReset = d := if_neg (ne_true_of_eq_false h)

end

/-- Writing the six words of a digest changes the register file alone. -/
theorem Device.wrDigest_sec (d : Device) (r : Reg) (h : List Byte) : (d.wrDigest r h).sec = d.sec :=
  d.foldl_wr_rest r (fun k => BitVec.ofNat 64 (fieldAt h (8 * k) 8)) 6 Device.sec fun t _ => t.wr_sec _ _ _

/-- Drawing the boot nonce changes nothing else of the security unit. -/
theorem Device.drawNonce_sec (d : Device) : d.drawNonce.sec = { d.sec with bootNonce := (d.secret 32).1 } :=
  (Device.wrDigest_sec _ _ _).trans (Device.foldl_wr_rest _ R.MB_NONCE
    (fun k => BitVec.ofNat 64 (fieldAt (d.secret 32).1 (8 * k) 8)) 4 Device.sec fun t _ => t.wr_sec _ _ _)

/-- The OTP a release senses: the waiting change's fuses programmed, the owner slots revoked outside OWNED. -/
def SecX.otpSensed (x : SecX) : SecX := { (if x.lcState = lcOWNED then x else x.revokeOwners) with inReset := false, sensed := true }

/-- JTAG stands as the life cycle gives (R460). -/
def Device.jtagBoot (d : Device) : Device :=
  if d.sec.lcState ≤ lcPROVISIONED then (d.setFlag R.SEC_STAT_DEBUG_OPEN [] true).put R.SEC_STAT_DEBUG_LEVEL [] 2 else d

/-- The wipe of the SRAM of every booth present starts. -/
def Device.wipeStarted (d : Device) : Device :=
  (List.range 15).foldl (fun (d : Device) b => if d.boothPresent b then d.setFlag R.BOOTH_STATE_WIPE_BUSY [b] true else d) d

/-- What programming the fuses of a waiting change leaves. -/
def SecX.changed (x : SecX) : SecX :=
  match x.change with
  | some c => x.program c
  | none => x

theorem Device.resetRelease_awake {d : Device} (h : d.sec.inReset = false) : d.resetRelease = d := if_pos (by rw [h]; rfl)

theorem Device.resetRelease_held {d : Device} (h : d.sec.inReset = true) :
    d.resetRelease = ((d.setSec (SecX.otpSensed d.sec.changed)).showOtp.drawNonce.jtagBoot).wipeStarted := by
  have hsec : ((d.setSec (SecX.otpSensed d.sec.changed)).showOtp.drawNonce).sec.lcState
      = (if d.sec.changed.lcState = lcOWNED then d.sec.changed else d.sec.changed.revokeOwners).lcState := by
    rw [Device.drawNonce_sec]
    rfl
  rw [Device.jtagBoot, hsec]
  exact if_neg (by rw [h]; decide)

/-! ### The boot ROM (R440, R442, R443, R453) -/

/-- Four bytes are all ones. -/
theorem flashRead_blank_iff (x : SecX) :
    (x.flashRead 0 4).all (fun b => decide (b = 255)) = true ↔ x.flashRead 0 4 = [255, 255, 255, 255] := by
  simp [SecX.flashRead, readBytes, List.range, List.range.loop]

section
variable {d : Device}

theorem Device.sramWipeDone_idle (h : d.sec.sensed = false ∨ d.sec.sramWiped = true) : d.sramWipeDone = d :=
  if_pos (.inr (h.imp (fun h => by rw [h]; rfl) id))

/-- The wipe of SRAM has ended. -/
def Device.sramWiped (d : Device) : Device :=
  (List.range 15).foldl (fun d b => d.setFlag R.BOOTH_STATE_WIPE_BUSY [b] false) (d.setSec { d.sec with sramWiped := true })

/-- The board block as the boot ROM reads it. -/
def Device.boardRead (d : Device) : Device :=
  match d.sec.boardBody d.lifecycle with
  | some body => d.boardApply body
  | none => if (d.sec.flashRead 0 4).all (fun b => decide (b = 255)) then d else d.setFlag R.SEC_STAT_BB_BAD [] true

/-- NET_PORT_STAT tells whether the board gives a key. -/
def Device.hostKeyShown (d : Device) : Device :=
  (d.setFlag R.NET_PORT_STAT_UNLOCKED [] (!d.hasHostKey)).setFlag R.NET_PORT_STAT_KEY_SET [] d.hasHostKey

theorem Device.sramWipeDone_ends (hheld : d.sec.inReset = false) (hsensed : d.sec.sensed = true) (hnot : d.sec.sramWiped = false) :
    d.sramWipeDone = if d.sramWiped.lifecycle = lcSCRAPPED then d.sramWiped.bootStop else d.sramWiped.boardRead.hostKeyShown :=
  if_neg (by rw [hheld, hsensed, hnot]; decide)

theorem Device.boardRead_good {body : List Byte} (h : d.sec.boardBody d.lifecycle = some body) : d.boardRead = d.boardApply body := by
  rw [Device.boardRead, h]

theorem Device.boardRead_blank (h : d.sec.boardBody d.lifecycle = none) (hblank : d.sec.flashRead 0 4 = [255, 255, 255, 255]) :
    d.boardRead = d := by
  rw [Device.boardRead, h]
  exact if_pos ((flashRead_blank_iff _).mpr hblank)

theorem Device.boardRead_bad (h : d.sec.boardBody d.lifecycle = none) (hbad : d.sec.flashRead 0 4 ≠ [255, 255, 255, 255]) :
    d.boardRead = d.setFlag R.SEC_STAT_BB_BAD [] true := by
  rw [Device.boardRead, h]
  exact if_neg fun hall => hbad ((flashRead_blank_iff _).mp hall)

theorem Device.identityReady_derives (hheld : d.sec.inReset = false) (hchange : d.sec.change = none) (hsensed : d.sec.sensed = true)
    (hnot : d.flag R.SEC_STAT_ID_READY [] = false) (hkey : lcHasKey d.lifecycle = true)
    (hjtag : d.flag R.SEC_STAT_DEBUG_OPEN [] = false ∨ d.lifecycle = 1) :
    d.identityReady
      = (d.setSec { d.sec with idKey := some (identityKey d.sec.seed d.sec.dieId) }).setFlag R.SEC_STAT_ID_READY [] true := by
  refine if_neg ?_
  rw [hheld, hchange, hsensed, hnot, hkey]
  rcases hjtag with h | h <;> simp [h]

theorem Device.identityReady_idle (h : d.sec.change.isSome = true ∨ d.sec.sensed = false ∨ d.flag R.SEC_STAT_ID_READY [] = true
    ∨ lcHasKey d.lifecycle = false ∨ d.flag R.SEC_STAT_DEBUG_OPEN [] = true ∧ d.lifecycle ≠ 1) : d.identityReady = d :=
  if_pos (.inr (h.imp_right (.imp (fun h => by rw [h]; rfl) (.imp_right (.imp_left fun h => by rw [h]; rfl)))))

/-- The boot ROM may load an image after a full reset: memory is wiped, the board's table committed, the identity key derived where
the life cycle has one (R453, R472). -/
structure Device.MayBoot (d : Device) : Prop where
  sram : d.sec.sramWiped = true
  hbm : d.sec.hbmWiped = true
  path : d.ctl.bootPath = true
  net : d.txActive 15 = false
  key : lcHasKey d.lifecycle = false ∨ d.sec.idKey.isSome = true

theorem Device.bootLoad_again (hheld : d.sec.inReset = false) (hstage : d.get R.RM_STATUS_STAGE [] = 2) : d.bootLoad = d.bootAgain :=
  (if_neg (ne_true_of_eq_false hheld)).trans (if_pos hstage)

theorem Device.bootAgain_loads (herr : d.sec.imageError d.lifecycle (d.get R.SEC_BOOT_SLOT []) = 0)
    (hhash : d.sec.fwHash (d.get R.SEC_BOOT_SLOT []) = d.digestOf R.SEC_FWHASH) :
    d.bootAgain = d.imageCopy (d.get R.SEC_BOOT_SLOT []) := by
  simp only [Device.bootAgain, herr, hhash, and_self, if_true]

theorem Device.bootAgain_stops (h : d.sec.imageError d.lifecycle (d.get R.SEC_BOOT_SLOT []) ≠ 0
    ∨ d.sec.fwHash (d.get R.SEC_BOOT_SLOT []) ≠ d.digestOf R.SEC_FWHASH) : d.bootAgain = d.bootStop := by
  simp only [Device.bootAgain]
  rw [if_neg fun ⟨herr, hhash⟩ => h.elim (· herr) (· hhash)]

theorem Device.bootLoad_first (hheld : d.sec.inReset = false) (hstage : d.get R.RM_STATUS_STAGE [] = 0) (h : d.MayBoot) :
    d.bootLoad = if d.lifecycle = lcSCRAPPED then d.bootStop else d.bootFirst := by
  obtain ⟨hsram, hhbm, hpath, hnet, hkey⟩ := h
  refine (if_neg (ne_true_of_eq_false hheld)).trans ((if_neg (by omega)).trans (if_pos ⟨hstage, hsram, hhbm, hpath, ?_, ?_⟩))
  · rw [hnet]
    rfl
  · exact hkey.imp_left fun h => by rw [h]; rfl

theorem Device.bootLoad_idle (h : d.get R.RM_STATUS_STAGE [] = 1 ∨ 3 ≤ d.get R.RM_STATUS_STAGE []
    ∨ d.get R.RM_STATUS_STAGE [] = 0 ∧ (d.sec.sramWiped = false ∨ d.sec.hbmWiped = false ∨ d.ctl.bootPath = false
      ∨ d.txActive 15 = true ∨ lcHasKey d.lifecycle = true ∧ d.sec.idKey = none)) : d.bootLoad = d := by
  unfold Device.bootLoad
  split
  · rfl
  · refine (if_neg (by omega)).trans (if_neg ?_)
    rintro ⟨hstage, hsram, hhbm, hpath, hnet, hkey⟩
    rcases h with h | h | ⟨-, h | h | h | h | ⟨hlc, hid⟩⟩
    · omega
    · omega
    · exact absurd hsram (ne_true_of_eq_false h)
    · exact absurd hhbm (ne_true_of_eq_false h)
    · exact absurd hpath (ne_true_of_eq_false h)
    · simp [h] at hnet
    · simp [hlc, hid] at hkey

section
variable {a b : Nat} (horder : d.sec.bootOrder = [a, b])
include horder

theorem Device.bootFirst_preferred (ha : d.sec.imageError d.lifecycle a = 0) :
    d.bootFirst = (((d.bootErr a 0).bootErr b 9).sealBoot (d.sec.fwHash a)).imageCopy a := by
  rw [Device.bootFirst, horder]
  have hsec : (d.bootErr a 0).sec = d.sec := by
    unfold Device.bootErr
    split <;> rfl
  simp only [ha, if_true, hsec]

theorem Device.bootFirst_fallback {ea eb : Nat} (ha : d.sec.imageError d.lifecycle a = ea) (hne : ea ≠ 0)
    (hb : (d.bootErr a ea).sec.imageError (d.bootErr a ea).lifecycle b = eb) :
    d.bootFirst = if eb = 0
      then ((((d.bootErr a ea).bootErr b eb).setFlag R.SEC_BOOT_FALLBACK [] true).sealBoot (d.sec.fwHash b)).imageCopy b
      else (((d.bootErr a ea).bootErr b eb).setFlag R.SEC_BOOT_FALLBACK [] true).bootStop := by
  have hsec : (((d.bootErr a ea).bootErr b eb).setFlag R.SEC_BOOT_FALLBACK [] true).sec = d.sec := by
    unfold Device.bootErr
    split <;> split <;> rfl
  rw [Device.bootFirst, horder]
  simp only [ha, hb, if_neg hne]
  rw [hsec]

end

end

end Sys2Proof.Machine
end

section
/-! Scope: READY (R54, R65, R361, R472, R473): what firmware does as it comes up on a device that nothing waits on, and the rows of the
resets and of start-up. -/

namespace Sys2Proof.Machine

/-! ### A flag of every register of an array -/

/-- Setting a flag in the first `n` registers of an array sets it in each of them, where they lie apart. -/
theorem Device.foldl_setFlag_same (d : Device) (f : Fld) (b : Bool) (hf : f.fits = true) (hw : 0 < f.width) {k n : Nat} (hk : k < n)
    (hr : ∀ j, j < n → j ≠ k → f.reg.addr [k] ≠ f.reg.addr [j]) :
    ((List.range n).foldl (fun (d : Device) k => d.setFlag f [k] b) d).flag f [k] = b := by
  induction n with
  | zero => omega
  | succ n ih =>
    rw [List.range_succ, List.foldl_append, List.foldl_cons, List.foldl_nil]
    by_cases hn : k = n
    · subst hn
      exact Device.flag_setFlag_same _ _ _ _ hf hw
    · rw [Device.flag_setFlag_ne _ _ (hr n (by omega) (Ne.symm hn)), ih (by omega) fun j hj => hr j (by omega)]

/-! ### A device on which nothing waits for READY -/

/-- Nothing is outstanding that READY would set going: no command, no append or message that waits for the link, no take. -/
structure Device.Quiet (d : Device) : Prop where
  works : d.ctl.works = []
  stalled : d.hst.stalled = []
  vectors : d.hst.vectors = []
  takeDue : d.dlv.takeDue = none

/-- Putting the empty list of stalled appends back changes nothing. -/
theorem HostX.stalled_none {x : HostX} (h : x.stalled = []) : { x with stalled := [] } = x := by
  cases x
  cases h
  rfl

theorem Device.sendPending_none {d : Device} (h : d.hst.vectors = []) : d.sendPending = d := by
  rw [Device.sendPending, h]
  rfl

theorem Device.resumeStalled_nothing {d : Device} (hstalled : d.hst.stalled = []) (hvectors : d.hst.vectors = [])
    (htake : d.dlv.takeDue = none) : d.resumeStalled = d := by
  have hsame : ({ d with hst := { d.hst with stalled := [] } } : Device) = d :=
    congrArg (fun x => { d with hst := x }) (HostX.stalled_none hstalled)
  unfold Device.resumeStalled
  split
  · rfl
  · simp only [hstalled, List.filter_nil, List.foldl_nil]
    rw [hsame, Device.sendPending_none hvectors, htake]
    rfl

/-! ### READY rises (R472, R473) -/

/-- READY rises and the bootstrap mailboxes are held no longer (R54). -/
def Device.madeReady (d : Device) : Device :=
  (List.range 8).foldl (fun (d : Device) n => d.setFlag R.BMB_CTL_HELD [n] false)
    (((d.setFlag R.HM_READY_SET [] true).setFlag R.DEV_STATUS_READY [] true).setFlag R.DEV_STATUS_HALTED [] false)

/-- The watchdog with firmware 3.x's timeout, locked (R48). -/
def Device.wdtLocked (d : Device) : Device :=
  if d.flag R.RM_WDT_CTL_LOCK [] then d else (d.put R.RM_WDT_CTL_TIMEOUT [] 50).setFlag R.RM_WDT_CTL_LOCK [] true

/-- BK_ACT_ADV is 2 ms where the timing booth takes writes (R361). -/
def Device.advanceSet (d : Device) : Device := if d.boothState 11 ≤ 1 then (d.put R.BK_ACT_ADV_NS [] 2000000).wake 11 else d

/-- RECOVERY follows a device fault. -/
def Device.faultRecovered (d : Device) : Device := if d.faultInForce then d.modeWrite 3 else d

/-- The pace loop may go on (R137). -/
def Device.paceFreed (d : Device) : Device := { d with pow := { d.pow with holdMax := false } }

/-- The registers that READY's rise writes. -/
def readyArea (a : Nat) : Prop :=
  a = R.HM_READY.addr [] ∨ a = R.DEV_STATUS.addr [] ∨ a = R.RM_WDT_CTL.addr [] ∨ (0xb200100 ≤ a ∧ a < 0xb200140)

theorem bmbCtl_readyArea {n : Nat} (h : n < 8) : readyArea (R.BMB_CTL.addr [n]) := by
  refine .inr (.inr (.inr ?_))
  simp only [Reg.addr, R.BMB_CTL, strideSum]
  omega

theorem bmbCtl_addr_ne {j k : Nat} (h : j ≠ k) : R.BMB_CTL.addr [k] ≠ R.BMB_CTL.addr [j] := by
  simp only [Reg.addr, R.BMB_CTL, strideSum]
  omega

section
variable (d : Device)

theorem Device.madeReady_writes : d.WritesIn readyArea d.madeReady := by
  have hraised := (((WritesIn.refl d readyArea).setFlag (f := R.HM_READY_SET) (ix := []) true (.inl rfl)).setFlag
    (f := R.DEV_STATUS_READY) (ix := []) true (.inr (.inl rfl))).setFlag (f := R.DEV_STATUS_HALTED) (ix := []) false (.inr (.inl rfl))
  exact hraised.foldl fun _ _ hn hx => hx.setFlag _ (bmbCtl_readyArea (List.mem_range.1 hn))

theorem Device.wdtLocked_writes : d.WritesIn readyArea d.wdtLocked :=
  (WritesIn.refl d _).ite (((WritesIn.refl d _).put (f := R.RM_WDT_CTL_TIMEOUT) (ix := []) _ (.inr (.inr (.inl rfl)))).setFlag
    (f := R.RM_WDT_CTL_LOCK) (ix := []) _ (.inr (.inr (.inl rfl))))

theorem Device.wdtRestart_rd {r : Reg} {ix : List Nat} (h : r.addr ix ≠ R.RM_WDT_STAT.addr []) : d.wdtRestart.rd r ix = d.rd r ix :=
  (Device.rd_setFlag_ne (f := R.RM_WDT_STAT_EARLY) _ _ h).trans (Device.rd_put_ne (f := R.RM_WDT_STAT_REMAIN) _ _ h)

/-- What READY's rise leaves of the mailboxes and the watchdog. -/
def Device.readyRaised : Device := d.madeReady.wdtLocked.wdtRestart

/-- A register outside what READY's rise writes. -/
theorem Device.readyRaised_rd {r : Reg} {ix : List Nat} (hA : ¬ readyArea (r.addr ix)) (hstat : r.addr ix ≠ R.RM_WDT_STAT.addr []) :
    d.readyRaised.rd r ix = d.rd r ix :=
  (Device.wdtRestart_rd _ hstat).trans ((d.madeReady_writes.trans d.madeReady.wdtLocked_writes).regs r ix hA)

/-- A register outside the watchdog's. -/
theorem Device.readyRaised_flag_madeReady {f : Fld} {ix : List Nat} (hctl : f.reg.addr ix ≠ R.RM_WDT_CTL.addr [])
    (hstat : f.reg.addr ix ≠ R.RM_WDT_STAT.addr []) : d.readyRaised.flag f ix = d.madeReady.flag f ix := by
  refine Device.flag_of_get (Device.get_of_rd ((Device.wdtRestart_rd _ hstat).trans ?_))
  unfold Device.wdtLocked
  split
  · rfl
  · rw [Device.rd_setFlag_ne (f := R.RM_WDT_CTL_LOCK) _ _ hctl, Device.rd_put_ne (f := R.RM_WDT_CTL_TIMEOUT) _ _ hctl]

/-- A register outside the bootstrap mailboxes'. -/
theorem Device.madeReady_flag {f : Fld} (h : ¬ (0xb200100 ≤ f.reg.addr [] ∧ f.reg.addr [] < 0xb200140)) : d.madeReady.flag f []
    = (((d.setFlag R.HM_READY_SET [] true).setFlag R.DEV_STATUS_READY [] true).setFlag R.DEV_STATUS_HALTED [] false).flag f [] := by
  refine ((WritesIn.refl _ fun a => 0xb200100 ≤ a ∧ a < 0xb200140).foldl fun _ n hn hx => hx.setFlag _ ?_).flag h
  have hlt := List.mem_range.1 hn
  simp only [R.BMB_CTL_HELD, Reg.addr, R.BMB_CTL, strideSum]
  omega

theorem Device.readyRaised_ready : d.readyRaised.ready = true := by
  rw [Device.ready, d.readyRaised_flag_madeReady (by decide) (by decide), d.madeReady_flag (by decide),
    Device.flag_setFlag_beside _ _ _ (by decide), Device.flag_setFlag_same _ _ _ _ (by decide) (by decide)]

theorem Device.readyRaised_set : d.readyRaised.flag R.HM_READY_SET [] = true := by
  rw [d.readyRaised_flag_madeReady (by decide) (by decide), d.madeReady_flag (by decide),
    Device.flag_setFlag_ne _ _ (by decide), Device.flag_setFlag_ne _ _ (by decide), Device.flag_setFlag_same _ _ _ _ (by decide) (by decide)]

theorem Device.readyRaised_unheld (n : Fin 8) : d.readyRaised.flag R.BMB_CTL_HELD [n.val] = false := by
  rw [d.readyRaised_flag_madeReady (by revert n; decide) (by revert n; decide)]
  exact Device.foldl_setFlag_same _ _ _ (by decide) (by decide) n.isLt fun _ _ hj => bmbCtl_addr_ne hj

theorem Device.readyRaised_locked : d.readyRaised.flag R.RM_WDT_CTL_LOCK [] = true := by
  refine (Device.flag_of_get (Device.get_of_rd (Device.wdtRestart_rd _ (by decide)))).trans ?_
  unfold Device.wdtLocked
  split
  · assumption
  · exact Device.flag_setFlag_same _ _ _ _ (by decide) (by decide)

theorem Device.readyRaised_boothState (b : Fin 15) : d.readyRaised.boothState b.val = d.boothState b.val := by
  refine Device.get_of_rd (d.readyRaised_rd ?_ (by revert b; decide))
  revert b
  unfold readyArea
  decide

theorem Device.wdtRestart_works : d.wdtRestart.ctl.works = d.ctl.works := rfl

theorem Device.readyRaised_works : d.readyRaised.ctl.works = d.ctl.works :=
  (Device.wdtRestart_works _).trans (congrArg ControlX.works (d.madeReady_writes.trans d.madeReady.wdtLocked_writes).ctl)

theorem Device.readyRaised_hst : d.readyRaised.hst = d.hst := (d.madeReady_writes.trans d.madeReady.wdtLocked_writes).hst

theorem Device.readyRaised_dlv : d.readyRaised.dlv = d.dlv := (d.madeReady_writes.trans d.madeReady.wdtLocked_writes).dlv

theorem Device.paceFreed_rd (r : Reg) (ix : List Nat) : d.paceFreed.rd r ix = d.rd r ix := rfl

theorem Device.paceFreed_get (f : Fld) (ix : List Nat) : d.paceFreed.get f ix = d.get f ix := Device.get_of_rd (d.paceFreed_rd _ _)

/-- READY has risen and BK_ACT_ADV is 2 ms (R361). -/
def Device.readyDone : Device := (d.readyRaised.put R.BK_ACT_ADV_NS [] 2000000).paceFreed

theorem Device.paceFreed_works : d.paceFreed.ctl.works = d.ctl.works := rfl

theorem Device.readyDone_works : d.readyDone.ctl.works = d.ctl.works :=
  (Device.paceFreed_works _).trans ((congrArg ControlX.works (Device.put_ctl _ _ _ _)).trans d.readyRaised_works)

variable {d}

theorem Device.readySet_idle (h : d.get R.RM_STATUS_STAGE [] ≠ 1 ∨ d.ready = true) : d.readySet = d := if_pos (.inr h)

/-- On a quiet device whose timing booth runs, and which no device fault has stopped, READY's rise is all that firmware does. -/
theorem Device.readySet_quiet (hheld : d.sec.inReset = false) (hstage : d.get R.RM_STATUS_STAGE [] = 1) (hready : d.ready = false)
    (hquiet : d.Quiet) (hfault : d.faultInForce = false) (htiming : d.boothState 11 = 1) : d.readySet = d.readyDone := by
  have hresume : d.readyRaised.resumeStalled = d.readyRaised :=
    Device.resumeStalled_nothing (by rw [Device.readyRaised_hst, hquiet.stalled]) (by rw [Device.readyRaised_hst, hquiet.vectors])
      (by rw [Device.readyRaised_dlv, hquiet.takeDue])
  have hbooth : ∀ b : Fin 15, (d.readyRaised.put R.BK_ACT_ADV_NS [] 2000000).boothState b.val = d.boothState b.val := fun b =>
    (Device.get_put_ne _ _ (by revert b; decide)).trans (d.readyRaised_boothState b)
  have hruns : d.readyRaised.boothState 11 = 1 := (d.readyRaised_boothState 11).trans htiming
  have hwake : (d.readyRaised.put R.BK_ACT_ADV_NS [] 2000000).wake 11 = d.readyRaised.put R.BK_ACT_ADV_NS [] 2000000 :=
    if_neg (by rw [show (d.readyRaised.put R.BK_ACT_ADV_NS [] 2000000).boothState 11 = 1 from (hbooth 11).trans htiming]; decide)
  have hadvance : d.readyRaised.advanceSet = d.readyRaised.put R.BK_ACT_ADV_NS [] 2000000 :=
    (if_pos (by omega : d.readyRaised.boothState 11 ≤ 1)).trans hwake
  have hunfaulted : d.readyDone.faultInForce = false :=
    (congrArg (fun n => decide (n = 3)) ((Device.paceFreed_get _ _ _).trans (hbooth 14))).trans hfault
  calc d.readySet = d.readyRaised.resumeStalled.advanceSet.paceFreed.faultRecovered.serveDead :=
        if_neg (by rw [hheld, hstage, hready]; decide)
    _ = d.readyDone.faultRecovered.serveDead := by rw [hresume, hadvance, ← Device.readyDone]
    _ = d.readyDone.serveDead := by rw [Device.faultRecovered, if_neg (ne_true_of_eq_false hunfaulted)]
    _ = d.readyDone := Device.serveDead_stays (d.readyDone_works.trans hquiet.works)

theorem Device.readyDone_flag {f : Fld} {ix : List Nat} (h : f.reg.addr ix ≠ R.BK_ACT_ADV.addr []) :
    d.readyDone.flag f ix = d.readyRaised.flag f ix := 
  Device.flag_of_get ((Device.paceFreed_get _ _ _).trans (Device.get_put_ne (f := R.BK_ACT_ADV_NS) _ _ h))

theorem Device.readyDone_advance : d.readyDone.get R.BK_ACT_ADV_NS [] = 2000000 := 
  (Device.paceFreed_get _ _ _).trans (Device.get_put_fit _ _ (by decide) (by decide))

end

/-! ### The rows -/

/-- A row that raises READY loses the queue entries that waited (R65). -/
theorem State.liveReady_raises {s : State} {f : Device → Device} (h : s.awake) (hlow : s.dev.ready = false)
    (hraise : (f s.dev).ready = true) : s.liveReady f
      = .next ({ s with dev := s.waiting.foldl Device.lose (f s.dev), waiting := s.waiting.filter fromBoot } : State).settle :=
  if_neg (by
    rw [show s.dev.sec.inReset = false from h, hlow, hraise]
    decide)

section

variable {s : State}

theorem State.does_lifecycleReset : s.does .lifecycleReset s.dev.lifecycleReset :=
  State.does_of_resets (f := Device.lifecycleReset) rfl rfl

theorem State.does_linkReset : s.does .linkReset s.dev.linkReset := State.does_of_resets (f := Device.linkReset) rfl rfl

theorem State.does_resetRelease : s.does .resetRelease s.dev.resetRelease := State.does_of_resets (f := Device.resetRelease) rfl rfl

variable (h : s.awake)
include h

theorem State.does_sramWipeDone : s.does .sramWipeDone s.dev.sramWipeDone := State.does_of_live (f := Device.sramWipeDone) rfl h rfl

theorem State.does_identityKeyReady : s.does .identityKeyReady s.dev.identityReady :=
  State.does_of_live (f := Device.identityReady) rfl h rfl

theorem State.does_bootImageLoad : s.does .bootImageLoad s.dev.bootLoad := State.does_of_live (f := Device.bootLoad) rfl h rfl

end

/-- Settles O37: each row is one operation of the reset, the boot ROM or firmware's start, and each clause one of its cases. -/
theorem resetRows : Obligations.ResetRows := by
  unfold Obligations.ResetRows
  refine ⟨fun s => ?resets, fun s => ?link, fun s c hc => ?change, fun s hc => ?noChange, fun d cause hcause => ?warm,
    fun d cause hcause => ?cold, fun s h => ?released, fun s x d e hheld hx hd he => ?release, fun s h hidle => ?wiped,
    fun s d h hsensed hnot hd => ?wipe, fun s h hchange hsensed hnot hkey hjtag => ?key, fun s h hidle => ?noKey,
    fun s h hstage => ?again, fun s a b ea eb h hstage hsram hhbm hpath hnet hkey horder hea heb => ?first, fun s h hidle => ?noBoot,
    fun s h hidle => ?notReady, fun s h hstage hlow hraise => ?ready,
    fun s h hstage hlow hworks hstalled hvectors hfault htiming htake => ?quiet⟩
  case resets =>
    exact ⟨State.does_of_resets (f := Device.perstReset) rfl rfl, State.does_of_resets (f := Device.powerOnReset) rfl rfl,
      State.does_of_resets (f := Device.brownOut) rfl rfl⟩
  case link =>
    exact ⟨fun hup => State.does_congr State.does_linkReset (Device.linkReset_up hup),
      fun hdown => State.does_congr State.does_linkReset (Device.linkReset_down hdown)⟩
  case change =>
    exact ⟨fun h htime => State.does_congr State.does_lifecycleReset (Device.lifecycleReset_due hc h htime),
      fun hwait => State.does_congr State.does_lifecycleReset (Device.lifecycleReset_waits hc hwait)⟩
  case noChange => exact State.does_congr State.does_lifecycleReset (Device.lifecycleReset_none hc)
  case warm =>
    have hsec := d.fullReset_sec cause false
    exact ⟨_, rfl, d.fullReset_inReset cause false, d.fullReset_hbm cause false, d.fullReset_hostMem cause false,
      d.fullReset_works cause false, d.fullReset_ctxs cause false, by rw [hsec]; rfl, by rw [hsec]; rfl, by rw [hsec]; rfl,
      by rw [hsec]; rfl, Device.fullReset_cause hcause false, d.fullReset_count cause false⟩
  case cold =>
    exact ⟨_, rfl, d.fullReset_inReset cause true, d.fullReset_hbm cause true, by rw [d.fullReset_sec cause true]; rfl,
      Device.fullReset_cause hcause true, d.fullReset_count cause true⟩
  case released => exact State.does_congr State.does_resetRelease (Device.resetRelease_awake h)
  case release =>
    have hx' : s.dev.sec.changed = x := hx
    subst hx' hd he
    exact State.does_congr State.does_resetRelease (Device.resetRelease_held hheld)
  case wiped => exact State.does_congr (State.does_sramWipeDone h) (Device.sramWipeDone_idle hidle)
  case wipe =>
    have hd' : s.dev.sramWiped = d := hd
    subst hd'
    have hends := Device.sramWipeDone_ends h hsensed hnot
    refine ⟨fun hscrap => State.does_congr (State.does_sramWipeDone h) (hends.trans (if_pos hscrap)), fun e hlife hboard => ?_⟩
    have he : s.dev.sramWiped.boardRead = e := by
      rcases hboard with ⟨body, hbody, rfl⟩ | ⟨hnone, hblank, rfl⟩ | ⟨hnone, hbad, rfl⟩
      · exact Device.boardRead_good hbody
      · exact Device.boardRead_blank hnone hblank
      · exact Device.boardRead_bad hnone hbad
    subst he
    exact State.does_congr (State.does_sramWipeDone h) (hends.trans (if_neg hlife))
  case key => exact State.does_congr (State.does_identityKeyReady h) (Device.identityReady_derives h hchange hsensed hnot hkey hjtag)
  case noKey => exact State.does_congr (State.does_identityKeyReady h) (Device.identityReady_idle hidle)
  case again =>
    have hdoes := State.does_congr (State.does_bootImageLoad h) (Device.bootLoad_again h hstage)
    exact ⟨fun herr hhash => State.does_congr hdoes (Device.bootAgain_loads herr hhash),
      fun hstop => State.does_congr hdoes (Device.bootAgain_stops hstop)⟩
  case first =>
    have hboot := Device.bootLoad_first h hstage ⟨hsram, hhbm, hpath, hnet, hkey⟩
    refine ⟨fun hscrap => State.does_congr (State.does_bootImageLoad h) (hboot.trans (if_pos hscrap)), fun hlife hgood => ?_,
      fun hlife hbad hgood => ?_, fun hlife hbad hbad' => ?_⟩
    all_goals refine State.does_congr (State.does_bootImageLoad h) ((hboot.trans (if_neg hlife)).trans ?_)
    · exact Device.bootFirst_preferred horder (hea.trans hgood)
    · subst hgood
      exact (Device.bootFirst_fallback horder hea hbad heb).trans (if_pos rfl)
    · exact (Device.bootFirst_fallback horder hea hbad heb).trans (if_neg hbad')
  case noBoot => exact State.does_congr (State.does_bootImageLoad h) (Device.bootLoad_idle hidle)
  case notReady =>
    have hsame : s.dev.readySet = s.dev := Device.readySet_idle hidle
    refine State.does_of_liveReady (f := Device.readySet) rfl h ?_ hsame
    cases s.dev.ready
    · exact .inr rfl
    · exact .inl rfl
  case ready => exact State.liveReady_raises (f := Device.readySet) h hlow hraise
  case quiet =>
    have hset := Device.readySet_quiet h hstage hlow ⟨hworks, hstalled, hvectors, htake⟩ hfault htiming
    have hready : s.dev.readyDone.ready = true := (Device.readyDone_flag (by decide)).trans s.dev.readyRaised_ready
    refine ⟨s.dev.readyDone, hready, (Device.readyDone_flag (by decide)).trans s.dev.readyRaised_set, Device.readyDone_advance,
      (Device.readyDone_flag (by decide)).trans s.dev.readyRaised_locked, fun n =>
        (Device.readyDone_flag (by revert n; decide)).trans (s.dev.readyRaised_unheld n), ?_⟩
    rw [← hset]
    exact State.liveReady_raises (f := Device.readySet) h hlow (hset ▸ hready)

end Sys2Proof.Machine
end

section
/-! Scope: Midway firings and the Barker programs (R342 to R345, R347, R349 to R351, R355 to R357, R361): each operation case by case,
and the rows. -/

namespace Sys2Proof.Machine

/-! ### Firing a channel (R342, R343, R349) -/

section
variable {d : Device}

/-- A channel in FIRE mode is none of the fixed ones. -/
theorem Device.fixedChannel_of_fires {c : Nat} (h : d.chMode c = 1) : fixedChannel c = false := by
  unfold Device.chMode at h
  cases hf : fixedChannel c with
  | false => rfl
  | true => simp [hf] at h

theorem Device.fire_merges {c : Nat} (h : d.firingMerges c = true) : d.fire c = d.bump R.MW_CH_CNT_COLL [c] := if_pos h

/-- The firing of channel `c` is under way. -/
def Device.fired (d : Device) (c : Nat) : Device :=
  (d.setMidway { d.tim.midway with
    flight := d.tim.midway.flight ++ [{ ch := c, tick := d.ticks, tt := d.tt, resync := !d.chAsync c, stamp := none }]
    lastTick := d.tim.midway.lastTick.put none c (some d.ticks) }).firingMarks c

theorem Device.fire_flies {c : Nat} (h : d.firingMerges c = false) : d.fire c = d.fired c := by
  have hstamp : (if d.chAsync c then none else none : Option TT) = none := ite_self _
  rw [Device.fire, Device.fireStamped, if_neg (ne_true_of_eq_false h)]
  simp only [hstamp]
  rfl

theorem Device.mwFire_fires {src : Src} {c : Nat} (howns : d.ownsChannel src c = true) (hmode : d.chMode c = 1) :
    d.mwFire src c = d.fire c := if_pos (by rw [howns, hmode]; rfl)

theorem Device.mwFire_refused {src : Src} {c : Nat} (h : d.ownsChannel src c = false ∨ d.chMode c ≠ 1) :
    d.mwFire src c = d.bump R.MW_STAT_REFUSED [] := by
  refine if_neg ?_
  rcases h with h | h <;> simp [h]

/-- A roll's word to MW_FIRE reaches Midway as its sequencer's. -/
theorem Device.storeReg_mwFire (d : Device) (n : Fin 16) (c : Fin 256) :
    (d.storeReg (.calliope n) (R.MW_FIRE.addr []) R.MW_FIRE_CH.mask (R.MW_FIRE_CH.into 0 c.val)).2
      = (d.wake 11).mwFire (.calliope n) c.val := by
  have hf : findReg (R.MW_FIRE.addr []) = some (⟨R.MW_FIRE, [R.MW_FIRE_CH]⟩, []) := by decide +kernel
  have hb : boothOf (R.MW_FIRE.addr []) = some 11 := by decide +kernel
  have hc : R.MW_FIRE_CH.of (R.MW_FIRE_CH.into 0 c.val) = c.val := by
    rw [Fld.of_into_same _ _ _ (by decide), Nat.mod_eq_of_lt (show c.val < 2 ^ R.MW_FIRE_CH.width from c.isLt)]
  rw [d.storeReg_admitted _ _ _ _ ⟨R.MW_FIRE, [R.MW_FIRE_CH]⟩ [] 11 hf hb (Device.fusedAddr_high d hb (by decide) (Or.inl (by decide)))
    (Or.inl (by decide)) (by decide) fun w hw => Device.limitOk_free _ _ w _ _ (by rw [hw]; exact hf) (by decide) (by rw [hw]; decide)]
  simp (decide := true) only [Device.admitted, Device.timingStore, if_true, if_false]
  rw [hc]

/-- A write of MW_FIRE by the Ringmaster or a roll. -/
theorem Device.fireStore_writes (d : Device) {src : Src} (h : src ≠ .host) (c : Fin 256) :
    d.fireStore src c.val = (d.wake 11).mwFire src c.val := by
  cases src with
  | ringmaster => exact d.struck_mwFire c
  | calliope n => exact d.storeReg_mwFire n c
  | host => exact absurd rfl h

/-! ### Delivery (R343) -/

theorem Device.midwayDeliver_arrives {f : Firing} (h : d.tim.midway.flight.find? d.deliverable = some f) :
    d.midwayDeliver = (List.range 2048).foldl (fun (t : Device) i => t.arriveAt f i)
      ((d.setMidway { d.tim.midway with flight := d.tim.midway.flight.erase f }).forwardFiring f.ch) := by
  rw [Device.midwayDeliver, h]

theorem Device.midwayDeliver_idle (h : ∀ f ∈ d.tim.midway.flight, d.deliverable f = false) : d.midwayDeliver = d := by
  rw [Device.midwayDeliver, List.find?_eq_none.mpr fun f hf => ne_true_of_eq_false (h f hf)]

/-! ### Fires and their acts (R351, R355 to R357) -/

section
variable {p : Nat}

theorem Device.timeFire_due (h : d.timeDue p = true) :
    d.timeFire p = (((d.makeFire p { fireAt (d.schedule p (d.prog p).nextK) with index := (d.prog p).nextK }).setProg p
      { (d.makeFire p { fireAt (d.schedule p (d.prog p).nextK) with index := (d.prog p).nextK }).prog p with
        nextK := (d.prog p).nextK + 1 }).showNext p).settleProg p := if_neg (by rw [h]; decide)

theorem Device.timeFire_idle (h : d.timeDue p = false) : d.timeFire p = d := if_pos (by rw [h]; rfl)

section
variable {t : Nat} {f : Fire} {a : Act}

theorem Device.actCommit_commits (hfires : (d.prog p).fires = [f]) (hact : f.acts[t]? = some a) (hopen : a.committed = false)
    (hdue : ttGe d.tt (a.time - d.advance a.kind a.index) = true) :
    d.actCommit p t = (d.commitAct p f.count t d.tickSlack).settleProg p := by
  simp [Device.actCommit, hfires, hact, hopen, hdue]

theorem Device.actCommit_idle (h : ∀ f ∈ (d.prog p).fires, ∀ a, f.acts[t]? = some a →
    a.committed = true ∨ ttGe d.tt (a.time - d.advance a.kind a.index) = false) : d.actCommit p t = d := by
  unfold Device.actCommit
  rw [List.find?_eq_none.mpr]
  intro f hf
  cases hact : f.acts[t]? with
  | none => exact Bool.false_ne_true
  | some a => rcases h f hf a hact with h | h <;> simp [h]

/-- The act of target `t` of the fire `f` of program `p` is done. -/
def Device.actDone (d : Device) (p t : Nat) (f : Fire) : Device :=
  d.onFire p f.count (fun f => { f with acts := f.acts.modify t (fun a => { a with done := true }) })

/-- What a committed act does as it takes place (R357). -/
def Device.actTakes (d : Device) (p t : Nat) (f : Fire) (a : Act) : Device :=
  if a.kind = 3 then d.fire (a.index % 256)
  else if a.kind = 4 then d.postAction { tt := a.time, prog := p, target := t, fires := f.count % 2 ^ 32 }
  else d

/-- The act can take place: not a pulse, which the pin begins; an action at once, any other when its time has come. -/
def Device.actReady (d : Device) (a : Act) : Bool :=
  a.committed && !a.done && decide (a.kind ≠ 1) && (decide (a.kind = 4) || ttGe d.tt a.time)

theorem Device.barkerAct_eq (hfires : (d.prog p).fires = [f]) (hact : f.acts[t]? = some a) :
    d.barkerAct p t = if d.actReady a then ((d.actDone p t f).actTakes p t f a).settleProg p else d := by
  unfold Device.barkerAct
  rw [hfires, List.find?_cons]
  simp only [hact]
  rw [← Device.actReady]
  cases d.actReady a
  · rfl
  · simp only [hact]
    rfl

theorem Device.actReady_of {n : Nat} (hkind : a.kind = n) (hone : n ≠ 1) (hcommitted : a.committed = true) (hopen : a.done = false)
    (hdue : n = 4 ∨ ttGe d.tt a.time = true) : d.actReady a = true := by
  rcases hdue with h | h <;> simp [Device.actReady, hkind, hone, hcommitted, hopen, h]

theorem Device.actReady_not (h : a.kind = 1 ∨ a.kind ≠ 4 ∧ ttGe d.tt a.time = false) : d.actReady a = false := by
  rcases h with h | ⟨h, hnot⟩ <;> simp [Device.actReady, *]

theorem Device.recordFire_records (hfires : (d.prog p).fires = [f]) (hcrossed : f.crossed = true) (hopen : f.recorded = false)
    (hdue : ttGe d.tt f.t = true ∨ d.get R.BK_CTL_SRC [p] = 1) :
    d.recordFire p = (((d.setProg p { d.prog p with hist := (d.fireRecord p f :: (d.prog p).hist).take 16 }).onFire p f.count
      (fun f => { f with recorded := true })).settleProg p) := by
  have hfind : [f].find? (fun f => f.crossed && !f.recorded && (ttGe d.tt f.t || decide (d.get R.BK_CTL_SRC [p] = 1))) = some f := by
    rcases hdue with h | h <;> simp [hcrossed, hopen, h]
  rw [Device.recordFire, hfires, hfind]

theorem Device.recordFire_idle (h : ∀ f ∈ (d.prog p).fires, f.crossed = false ∨ f.recorded = true
    ∨ ttGe d.tt f.t = false ∧ d.get R.BK_CTL_SRC [p] ≠ 1) : d.recordFire p = d := by
  rw [Device.recordFire, List.find?_eq_none.mpr]
  intro f hf
  rcases h f hf with h | h | ⟨h, hsrc⟩ <;> simp [*]

end

end

/-! ### Action records (R361) -/

section
variable (d)

theorem Device.showActions_tim : d.showActions.tim = d.tim := by
  simp only [Device.showActions]
  split <;> rfl

/-- The head record, as BK_ACT_HEAD and BK_ACT_INFO show it, leaves the other registers. -/
theorem Device.showActions_pop {f : Fld} (h : f.reg = R.BK_ACT_POP) :
    d.showActions.get f [] = (d.put R.BK_ACT_POP_COUNT [] d.tim.actions.length).get f [] := by
  have hinfo : R.BK_ACT_POP.beside R.BK_ACT_INFO = true := by decide
  have hhead : R.BK_ACT_POP.beside R.BK_ACT_HEAD = true := by decide
  refine Device.get_of_rd ?_
  rw [h]
  simp only [Device.showActions]
  split
  · rw [Device.rd_wr_beside _ _ _ hinfo, Device.rd_wr_beside _ _ _ hhead]
  · rw [Device.rd_put_beside (f := R.BK_ACT_INFO_FIRES) _ _ _ hinfo, Device.rd_put_beside (f := R.BK_ACT_INFO_TARGET) _ _ _ hinfo,
      Device.rd_put_beside (f := R.BK_ACT_INFO_PROG) _ _ _ hinfo, Device.rd_wr_beside _ _ _ hhead]

theorem Device.showActions_count :
    d.showActions.get R.BK_ACT_POP_COUNT [] = d.tim.actions.length % 2 ^ R.BK_ACT_POP_COUNT.width := by
  rw [d.showActions_pop rfl]
  exact Device.get_put_same _ _ _ _ (by decide)

/-- The time of the head record, 0 where there is none. -/
def headTime (as : List ActionRec) : TT :=
  match as with
  | [] => 0
  | r :: _ => r.tt

theorem Device.showActions_head : d.showActions.rd R.BK_ACT_HEAD [] = headTime d.tim.actions := by
  have hinfo : R.BK_ACT_HEAD.beside R.BK_ACT_INFO = true := by decide
  simp only [Device.showActions]
  split
  · next h => rw [Device.rd_wr_beside _ _ _ hinfo, Device.rd_wr_same, show d.tim.actions = _ from h, headTime]
  · next h =>
    rw [Device.rd_put_beside (f := R.BK_ACT_INFO_FIRES) _ _ _ hinfo, Device.rd_put_beside (f := R.BK_ACT_INFO_TARGET) _ _ _ hinfo,
      Device.rd_put_beside (f := R.BK_ACT_INFO_PROG) _ _ _ hinfo, Device.rd_wr_same, show d.tim.actions = _ from h, headTime]

end

/-- The ACTION_CMD of the record `r` goes out with the parameters `a`, as the device `e` that has sent it stands. -/
def Device.actionSent (e : Device) (r : ActionRec) (a : ActionCmd) (now : TT) : Device :=
  { e with tim := { e.tim with
    lateActions := e.tim.lateActions + b2n (decide (ttDiff r.tt now < 1000000 * 65536))
    actionCmds := e.tim.actionCmds.put {} (r.prog * 4 + r.target) { a with reqId := a.reqId % 65535 + 1 } } }

section
variable {r : ActionRec} {rest : List ActionRec} {a : ActionCmd} (hready : d.ready = true) (hactions : d.tim.actions = r :: rest)
include hready hactions

theorem Device.actionSend_broadcast (hcmd : d.actionPop.tim.actionCmds.find? (fun e => decide (e.1 = r.prog * 4 + r.target))
    = some (r.prog * 4 + r.target, a)) (hdst : a.dst = 0) :
    d.actionSend = (d.actionPop.packetTx a.port (d.actionPop.udp4 a.port 0xFFFFFFFFFFFF 0xFFFFFFFF 3956 (d.actionPop.actionCmd a r.tt))
      d.actionPop.tt).actionSent r a d.actionPop.tt := by
  rw [Device.actionSend, hactions]
  simp only [hready, hcmd, if_pos hdst, Bool.not_true, Bool.false_eq_true, if_false]
  rfl

theorem Device.actionSend_unicast (hcmd : d.actionPop.tim.actionCmds.find? (fun e => decide (e.1 = r.prog * 4 + r.target))
    = some (r.prog * 4 + r.target, a)) (hdst : a.dst ≠ 0) :
    d.actionSend = (d.actionPop.draw.2.packetTx a.port (d.actionPop.draw.2.udp4 a.port
      (ofBE ((List.range 6).map (Config.openByte d.actionPop.draw.1))) a.dst 3956 (d.actionPop.draw.2.actionCmd a r.tt))
      d.actionPop.draw.2.tt).actionSent r a d.actionPop.draw.2.tt := by
  rw [Device.actionSend, hactions]
  simp only [hready, hcmd, if_neg hdst, Bool.not_true, Bool.false_eq_true, if_false]
  rfl

theorem Device.actionSend_unset (hcmd : ∀ e ∈ d.actionPop.tim.actionCmds, e.1 ≠ r.prog * 4 + r.target) : d.actionSend = d.actionPop := by
  have hnone : d.actionPop.tim.actionCmds.find? (fun e => decide (e.1 = r.prog * 4 + r.target)) = none :=
    List.find?_eq_none.mpr fun e he => by simpa using hcmd e he
  rw [Device.actionSend, hactions]
  simp only [hready, hnone, Bool.not_true, Bool.false_eq_true, if_false]

end

theorem Device.actionSend_idle (h : d.tim.actions = [] ∨ d.ready = false) : d.actionSend = d := by
  unfold Device.actionSend
  split
  · rfl
  · next hactions =>
    rcases h with h | h
    · rw [h] at hactions
      cases hactions
    · exact if_pos (by rw [h]; rfl)

end

/-! ### The rows -/

section

variable {s : State} (h : s.awake)
include h

theorem State.does_mwFireWrite {src : Src} (hsrc : src ≠ .host) (c : Fin 256) :
    s.does (.mwFireWrite src c) ((s.dev.wake 11).mwFire src c.val) :=
  State.does_of_live (f := fun d => d.fireStore src c.val) rfl h (s.dev.fireStore_writes hsrc c)

theorem State.does_midwayDeliver : s.does .midwayDeliver s.dev.midwayDeliver := State.does_of_live (f := Device.midwayDeliver) rfl h rfl

theorem State.does_barkerTimeFire (p : Fin 32) : s.does (.barkerTimeFire p) (s.dev.timeFire p.val) :=
  State.does_of_live (f := fun d => d.timeFire p.val) rfl h rfl

theorem State.does_barkerActCommit (p : Fin 32) (t : Fin 4) : s.does (.barkerActCommit p t) (s.dev.actCommit p.val t.val) :=
  State.does_of_live (f := fun d => d.actCommit p.val t.val) rfl h rfl

theorem State.does_barkerAct (p : Fin 32) (t : Fin 4) : s.does (.barkerAct p t) (s.dev.barkerAct p.val t.val) :=
  State.does_of_live (f := fun d => d.barkerAct p.val t.val) rfl h rfl

theorem State.does_barkerFireRecord (p : Fin 32) : s.does (.barkerFireRecord p) (s.dev.recordFire p.val) :=
  State.does_of_live (f := fun d => d.recordFire p.val) rfl h rfl

theorem State.does_bkActPop :
    s.does .bkActPop ((s.dev.wake 11).wr R.BK_ACT_POP [] ((s.dev.wake 11).rd R.BK_ACT_POP [])).actionPop :=
  State.does_of_live (f := fun d => d.strike [] [(R.BK_ACT_POP_POP, 1)]) rfl h s.dev.struck_actionPop

theorem State.does_actionCmdSend : s.does .actionCmdSend s.dev.actionSend := State.does_of_live (f := Device.actionSend) rfl h rfl

end

/-- Settles O31: each row is one operation of Midway or of Barker, and each clause one of its cases. -/
theorem midwayBarkerRows : Obligations.MidwayBarkerRows := by
  unfold Obligations.MidwayBarkerRows
  refine ⟨fun s src c d h hsrc hd howns hmode => ?fires, fun s src c d h hsrc hd hnot => ?refused,
    fun s c h => State.does_of_live (f := fun d => d.fireStore .host c.val) rfl h rfl, fun s f d h hfind hd => ?delivers,
    fun s h hnone => ?nothing, fun s p k d h hdue hk hd => ?due, fun s p h hnot => ?notDue,
    fun s p t f a h hfires hact hopen hdue => ?commits, fun s p t h hnone => ?noCommit,
    fun s p t f a d h hfires hact hcommitted hopen hd => ?acts, fun s p f d h hfires hcrossed hopen hdue hd => ?records,
    fun s p h hnone => ?noRecord, fun s h => ?pop, fun s r rest a d e h hready hactions hd hcmd hdst he => ?broadcast,
    fun s r rest a d g e h hready hactions hd hcmd hdst hg he => ?unicast, fun s r rest d h hready hactions hd hcmd => ?unset,
    fun s h hidle => ?idle⟩
  case fires =>
    subst hd
    have hdoes := State.does_congr (State.does_mwFireWrite h hsrc c) (Device.mwFire_fires howns hmode)
    exact ⟨fun hmerge => State.does_congr hdoes (Device.fire_merges hmerge),
      fun hfree => State.does_congr hdoes (Device.fire_flies hfree)⟩
  case refused =>
    subst hd
    exact State.does_congr (State.does_mwFireWrite h hsrc c) (Device.mwFire_refused hnot)
  case delivers =>
    subst hd
    exact State.does_congr (State.does_midwayDeliver h) (Device.midwayDeliver_arrives hfind)
  case nothing => exact State.does_congr (State.does_midwayDeliver h) (Device.midwayDeliver_idle hnone)
  case due =>
    subst hk hd
    exact State.does_congr (State.does_barkerTimeFire h p) (Device.timeFire_due hdue)
  case notDue => exact State.does_congr (State.does_barkerTimeFire h p) (Device.timeFire_idle hnot)
  case commits => exact State.does_congr (State.does_barkerActCommit h p t) (Device.actCommit_commits hfires hact hopen hdue)
  case noCommit => exact State.does_congr (State.does_barkerActCommit h p t) (Device.actCommit_idle hnone)
  case acts =>
    have hd' : s.dev.actDone p.val t.val f = d := hd
    subst hd'
    have hdoes := State.does_congr (State.does_barkerAct h p t) (Device.barkerAct_eq hfires hact)
    have htakes : ∀ {n : Nat} {e : Device}, a.kind = n → n ≠ 1 → n = 4 ∨ ttGe s.dev.tt a.time = true →
        (s.dev.actDone p.val t.val f).actTakes p.val t.val f a = e → s.does (.barkerAct p t) (e.settleProg p.val) :=
      fun hkind hone hdue he => State.does_congr hdoes
        ((if_pos (Device.actReady_of hkind hone hcommitted hopen hdue)).trans (congrArg (Device.settleProg · p.val) he))
    exact ⟨fun hkind hdue => htakes hkind (by decide) (.inr hdue) (if_pos hkind),
      fun hkind => htakes hkind (by decide) (.inl rfl) ((if_neg (by omega)).trans (if_pos hkind)),
      fun h1 h3 h4 hdue => htakes rfl h1 (.inr hdue) ((if_neg h3).trans (if_neg h4)),
      fun hnot => State.does_congr hdoes (if_neg (ne_true_of_eq_false (Device.actReady_not hnot)))⟩
  case records =>
    subst hd
    exact State.does_congr (State.does_barkerFireRecord h p) (Device.recordFire_records hfires hcrossed hopen hdue)
  case noRecord => exact State.does_congr (State.does_barkerFireRecord h p) (Device.recordFire_idle hnone)
  case pop =>
    have htim : ((s.dev.wake 11).wr R.BK_ACT_POP [] ((s.dev.wake 11).rd R.BK_ACT_POP [])).tim = s.dev.tim := Device.wake_tim _ _
    refine ⟨_, State.does_bkActPop h, ?_, ?_, ?_⟩
    · rw [Device.actionPop, Device.showActions_tim, htim]
    · rw [Device.actionPop, Device.showActions_count, htim, List.length_drop]
    · rw [Device.actionPop, Device.showActions_head, htim]
      rfl
  case broadcast =>
    subst hd he
    exact State.does_congr (State.does_actionCmdSend h) (Device.actionSend_broadcast hready hactions hcmd hdst)
  case unicast =>
    subst hd hg he
    exact State.does_congr (State.does_actionCmdSend h) (Device.actionSend_unicast hready hactions hcmd hdst)
  case unset =>
    subst hd
    exact State.does_congr (State.does_actionCmdSend h) (Device.actionSend_unset hready hactions hcmd)
  case idle => exact State.does_congr (State.does_actionCmdSend h) (Device.actionSend_idle hidle)

end Sys2Proof.Machine
end

section
/-! Scope: trigger pins (R357 to R359, R363): the pulse, edge and stamp operations case by case, and the rows. -/

namespace Sys2Proof.Machine

section
variable {d : Device} {i : Nat}

/-! ### Pulses (R357, R358, R363) -/

theorem Device.pulseLead_idle (h : ∀ u ∈ (d.pin i).pulses, u.started = true ∨ ttGe d.tt u.lead = false) : d.pulseLead i = d := by
  rw [Device.pulseLead, List.find?_eq_none.mpr]
  intro u hu
  rcases h u hu with h | h <;> simp [h]

/-- The pulse `u` may not leave pin `i`: narrower than MIN_WIDTH, or closer than MIN_PERIOD to the last one. -/
def Device.pulseUnfit (d : Device) (i : Nat) (u : Pulse) : Bool :=
  decide (ttDiff u.trail u.lead < (d.get R.NET_PIN_MIN_WIDTH [i] : Int) * 512)
    || (match (d.pin i).lastLead with
      | some t => decide (ttDiff u.lead t < (d.get R.NET_PIN_MIN_PERIOD [i] : Int) * 65536)
      | none => false)

theorem Device.pulseUnfit_of {u : Pulse} (h : ttDiff u.trail u.lead < (d.get R.NET_PIN_MIN_WIDTH [i] : Int) * 512
    ∨ ∃ t, (d.pin i).lastLead = some t ∧ ttDiff u.lead t < (d.get R.NET_PIN_MIN_PERIOD [i] : Int) * 65536) :
    d.pulseUnfit i u = true := by
  rcases h with h | ⟨t, ht, h⟩ <;> simp [Device.pulseUnfit, *]

theorem Device.pulseUnfit_not {u : Pulse} (hwidth : (d.get R.NET_PIN_MIN_WIDTH [i] : Int) * 512 ≤ ttDiff u.trail u.lead)
    (hperiod : ∀ t, (d.pin i).lastLead = some t → (d.get R.NET_PIN_MIN_PERIOD [i] : Int) * 65536 ≤ ttDiff u.lead t) :
    d.pulseUnfit i u = false := by
  unfold Device.pulseUnfit
  cases hlast : (d.pin i).lastLead with
  | none => simpa using hwidth
  | some t => simpa using ⟨hwidth, hperiod t hlast⟩

section
variable {u v : Pulse} (hopen : u.started = false) (hdue : ttGe d.tt u.lead = true)
include hopen hdue

/-- A pulse alone in its pin is driven or dropped. -/
theorem Device.pulseLead_alone (hpulses : (d.pin i).pulses = [u]) :
    d.pulseLead i = if d.pulseUnfit i u then
        ((d.setPin i { d.pin i with pulses := [] }).bump R.TRG_STAT_DROP [i]).pinActDone u i true
      else ((d.setPin i { d.pin i with pulses := [{ u with started := true }], lastLead := some u.lead }).drivePin i).pinActDone
        u i false := by
  cases hlast : (d.pin i).lastLead <;> simp [Device.pulseLead, Device.pulseUnfit, hpulses, hopen, hdue, hlast]

/-- A pulse that joins one under way is driven. -/
theorem Device.pulseLead_joins (hpulses : (d.pin i).pulses = [v, u]) (hv : v.started = true) (hjoin : 0 ≤ ttDiff v.trail u.lead) :
    d.pulseLead i = ((d.setPin i { d.pin i with pulses := [v, { u with started := true }] }).drivePin i).pinActDone u i false := by
  have hne : v ≠ u := fun he => by rw [he, hopen] at hv; cases hv
  simp [Device.pulseLead, hpulses, hopen, hdue, hv, hjoin, hne]

end

theorem Device.pulseTrail_ends (h : ∃ u ∈ (d.pin i).pulses, u.started = true ∧ ttGe d.tt u.trail = true) :
    d.pulseTrail i = (d.setPin i { d.pin i with
      pulses := (d.pin i).pulses.filter (fun u => !(u.started && ttGe d.tt u.trail)) }).drivePin i := by
  refine if_pos (List.any_eq_true.mpr ?_)
  obtain ⟨u, hu, hs, ht⟩ := h
  exact ⟨u, hu, by rw [hs, ht]; rfl⟩

theorem Device.pulseTrail_idle (h : ∀ u ∈ (d.pin i).pulses, u.started = false ∨ ttGe d.tt u.trail = false) : d.pulseTrail i = d := by
  refine if_neg (ne_true_of_eq_false (List.any_eq_false.mpr ?_))
  intro u hu
  rcases h u hu with h | h <;> simp [h]

/-! ### Edges and stamps (R344, R359) -/

/-- The pin with the level of the edge past its filter. -/
def Device.edgeLevel (d : Device) (i : Nat) (rising : Bool) : Device :=
  (d.setPin i { d.pin i with filtered := rising, level := rising }).setFlag R.TRG_STAT_LEVEL [i] rising

theorem Device.edgeLevel_get {rising : Bool} {f : Fld} (h : f.beside R.TRG_STAT_LEVEL = true) :
    (d.edgeLevel i rising).get f [i] = d.get f [i] := by
  rw [Device.edgeLevel, Device.get_setFlag_beside _ _ _ h, Device.setPin_get]

theorem Device.edgeLevel_stamps {rising : Bool} : ((d.edgeLevel i rising).pin i).stamps = (d.pin i).stamps := by
  have hpin : (d.edgeLevel i rising).pin i = { d.pin i with filtered := rising, level := rising } := Device.setPin_same d i _
  rw [hpin]

theorem Device.pinEdge_output {t : TT} {rising : Bool} (h : d.flag R.TRG_CTL_DIR [i] = true) : d.pinEdge i t rising = d := if_pos h

section
variable {t : TT} {rising : Bool} (hdir : d.flag R.TRG_CTL_DIR [i] = false)
include hdir

theorem Device.pinEdge_unselected (hsel : bit (d.get R.TRG_CTL_IN_EDGE [i]) (if rising then 0 else 1) = false) :
    d.pinEdge i t rising = d.edgeLevel i rising := by
  have hedge : (d.edgeLevel i rising).get R.TRG_CTL_IN_EDGE [i] = d.get R.TRG_CTL_IN_EDGE [i] := Device.edgeLevel_get (by decide)
  rw [Device.pinEdge, if_neg (ne_true_of_eq_false hdir)]
  exact if_pos (by rw [← Device.edgeLevel, hedge, hsel]; rfl)

/-- A selected edge is stamped less IN_ADJ, kept or counted, and fires the channel of the pin. -/
theorem Device.pinEdge_selected (hsel : bit (d.get R.TRG_CTL_IN_EDGE [i]) (if rising then 0 else 1) = true) {st : TT}
    (hst : stamp128 t - BitVec.ofInt 64 (sgn 16 (d.get R.TRG_ADJ_IN_ADJ [i]) * 512) = st) :
    d.pinEdge i t rising = (if 16 ≤ (d.pin i).stamps.length then (d.edgeLevel i rising).bump R.TRG_IN_OVERRUN [i]
      else ((d.edgeLevel i rising).setPin i { (d.edgeLevel i rising).pin i with
        stamps := ((d.edgeLevel i rising).pin i).stamps ++ [(st, rising)] }).showStamps i).fireStampIf
          R.TRG_CTL_IN_EV_EN R.TRG_CTL_IN_EV [i] st := by
  have hedge : (d.edgeLevel i rising).get R.TRG_CTL_IN_EDGE [i] = d.get R.TRG_CTL_IN_EDGE [i] := Device.edgeLevel_get (by decide)
  have hadj : (d.edgeLevel i rising).get R.TRG_ADJ_IN_ADJ [i] = d.get R.TRG_ADJ_IN_ADJ [i] := Device.edgeLevel_get (by decide)
  have hlevel : (d.setPin i { d.pin i with filtered := rising, level := rising }).setFlag R.TRG_STAT_LEVEL [i] rising
      = d.edgeLevel i rising := rfl
  rw [Device.pinEdge, if_neg (ne_true_of_eq_false hdir)]
  simp only [hlevel, hedge, hadj, hsel, hst, Device.edgeLevel_stamps, Bool.not_true, Bool.false_eq_true, if_false]

end

/-- The time of the oldest stamp, 0 where there is none. -/
def headStamp (xs : List (TT × Bool)) : TT :=
  match xs with
  | [] => 0
  | x :: _ => x.1

variable (d i)

theorem Device.showStamps_pin (k : Nat) : (d.showStamps i).pin k = d.pin k := by
  simp only [Device.showStamps]
  split <;> rfl

theorem Device.showStamps_count :
    (d.showStamps i).get R.TRG_IN_COUNT [i] = (d.pin i).stamps.length % 2 ^ R.TRG_IN_COUNT.width := by
  have hcount : (d.put R.TRG_IN_COUNT [i] (d.pin i).stamps.length).get R.TRG_IN_COUNT [i]
      = (d.pin i).stamps.length % 2 ^ R.TRG_IN_COUNT.width := Device.get_put_same _ _ _ _ (by decide)
  simp only [Device.showStamps]
  split <;> rw [Device.get_setFlag_beside _ _ _ (by decide), Device.get_wr_beside _ _ _ (by decide), hcount]

theorem Device.showStamps_head : (d.showStamps i).rd R.TRG_INTT [i] = headStamp (d.pin i).stamps := by
  simp only [Device.showStamps]
  split
  · next h => rw [Device.rd_setFlag_beside _ _ _ (by decide), Device.rd_wr_same, show (d.pin i).stamps = [] from h, headStamp]
  · next h => rw [Device.rd_setFlag_beside _ _ _ (by decide), Device.rd_wr_same, show (d.pin i).stamps = _ from h, headStamp]

theorem Device.stampPop_pin : (d.stampPop i).pin i = { d.pin i with stamps := (d.pin i).stamps.drop 1 } := by
  rw [Device.stampPop, Device.showStamps_pin, Device.setPin_same]

theorem Device.stampPop_other {k : Nat} (hk : k ≠ i) : (d.stampPop i).pin k = d.pin k := by
  rw [Device.stampPop, Device.showStamps_pin]
  exact Sparse.get_put_ne ({} : PinX) {} _ hk d.tim.pins

theorem Device.stampPop_count :
    (d.stampPop i).get R.TRG_IN_COUNT [i] = ((d.pin i).stamps.length - 1) % 2 ^ R.TRG_IN_COUNT.width := by
  rw [Device.stampPop, Device.showStamps_count, Device.setPin_same, List.length_drop]

theorem Device.stampPop_head : (d.stampPop i).rd R.TRG_INTT [i] = headStamp ((d.pin i).stamps.drop 1) := by
  rw [Device.stampPop, Device.showStamps_head, Device.setPin_same]

end

/-! ### The rows -/

section
variable {s : State} (h : s.awake) (n : Fin 16)
include h

theorem State.does_trgPulseLead : s.does (.trgPulseLead n) (s.dev.pulseLead n.val) :=
  State.does_of_live (f := fun d => d.pulseLead n.val) rfl h rfl

theorem State.does_trgPulseTrail : s.does (.trgPulseTrail n) (s.dev.pulseTrail n.val) :=
  State.does_of_live (f := fun d => d.pulseTrail n.val) rfl h rfl

theorem State.does_trgInputEdge (t : TT) (rising : Bool) : s.does (.trgInputEdge n t rising) (s.dev.pinEdge n.val t rising) :=
  State.does_of_live (f := fun d => d.pinEdge n.val t rising) rfl h rfl

theorem State.does_trgInPop : s.does (.trgInPop n) ((s.dev.wake 11).stampPop n.val) :=
  State.does_of_live (f := fun d => d.strike [n.val] [(R.TRG_IN_POP, 1)]) rfl h (s.dev.struck_stampPop n)

end

/-- Settles O32: each row is one operation of a pin, and each clause one of its cases. -/
theorem pinRows : Obligations.PinRows := by
  unfold Obligations.PinRows
  refine ⟨fun s n h hnone => ?notDue, fun s n u x h hx hpulses hopen hdue => ?alone,
    fun s n u v x h hx hpulses hv hopen hdue hjoin => ?joins, fun s n x h hx hends => ?ends, fun s n h hnone => ?goesOn,
    fun s n t rising h hdir => ?output, fun s n t rising h hdir hsel => ?unselected,
    fun s n t st rising d h hdir hsel hd hst => ?selected, fun s n h => ?pop⟩
  case notDue => exact State.does_congr (State.does_trgPulseLead h n) (Device.pulseLead_idle hnone)
  case alone =>
    subst hx
    have hdoes := State.does_congr (State.does_trgPulseLead h n) (Device.pulseLead_alone hopen hdue hpulses)
    exact ⟨fun hunfit => State.does_congr hdoes (if_pos (Device.pulseUnfit_of hunfit)),
      fun hwidth hperiod => State.does_congr hdoes (if_neg (ne_true_of_eq_false (Device.pulseUnfit_not hwidth hperiod)))⟩
  case joins =>
    subst hx
    exact State.does_congr (State.does_trgPulseLead h n) (Device.pulseLead_joins hopen hdue hpulses hv hjoin)
  case ends =>
    subst hx
    exact State.does_congr (State.does_trgPulseTrail h n) (Device.pulseTrail_ends hends)
  case goesOn => exact State.does_congr (State.does_trgPulseTrail h n) (Device.pulseTrail_idle hnone)
  case output => exact State.does_congr (State.does_trgInputEdge h n t rising) (Device.pinEdge_output hdir)
  case unselected => exact State.does_congr (State.does_trgInputEdge h n t rising) (Device.pinEdge_unselected hdir hsel)
  case selected =>
    have hd' : s.dev.edgeLevel n.val rising = d := hd
    subst hd'
    have hdoes := State.does_congr (State.does_trgInputEdge h n t rising) (Device.pinEdge_selected hdir hsel hst)
    exact ⟨fun hroom => State.does_congr hdoes (congrArg (Device.fireStampIf · _ _ _ _) (if_neg (by omega))),
      fun hfull => State.does_congr hdoes (congrArg (Device.fireStampIf · _ _ _ _) (if_pos hfull))⟩
  case pop =>
    have hpin : ∀ k, (s.dev.wake 11).pin k = s.dev.pin k := fun k => congrArg (fun t => t.pins.get {} k) (Device.wake_tim _ _)
    refine ⟨_, State.does_trgInPop h n, ?_, ?_, ?_, fun k hk => ?_⟩
    · rw [Device.stampPop_pin, hpin]
    · rw [Device.stampPop_count, hpin]
    · rw [Device.stampPop_head, hpin]
      rfl
    · rw [Device.stampPop_other _ _ hk, hpin]

end Sys2Proof.Machine
end

section
/-! Scope: the Midway and Barker commands, mailbox group 0x0B (R345, R349 to R351, R353, R356, R359, R361, R368): each command past its
checks, and the group. -/

namespace Sys2Proof.Machine

section
variable {d : Device} {e : Entry}

/-! ### MW_CHANNEL and MW_FIRE (R349) -/

/-- What MW_CHANNEL stages to claim its channel. -/
def claimChannel (e : Entry) : List MaskedWrite :=
  [stageFields R.MW_CH_CFG [e.u 12 1] [(R.MW_CH_CFG_ASYNC, e.u 13 1 % 2), (R.MW_CH_CFG_OWNER, 1), (R.MW_CH_CFG_SECURE, e.u 13 1 / 2 % 2),
    (R.MW_CH_CFG_SWMODE, e.u 14 1)]]

/-- What MW_CHANNEL stages to give its channel up. -/
def clearChannel (e : Entry) : List MaskedWrite := [{ addr := R.MW_CH_CFG.addr [e.u 12 1], mask := 0x1FF, value := 0 }]

section
variable (hflags : e.u 13 1 ≤ 7) (hmode : e.u 14 1 ≤ 2) (hfree : d.channelHeld e.via (e.u 12 1) = false)
include hflags hmode hfree

theorem Device.mwChannel_claims (hclaim : bit (e.u 13 1) 2 = false) : Device.mwChannel e d = d.stageCmd e (e.u 16 2) false
    { opcode := 0x0B00, key := [], claims := [.channel (e.u 12 1)], writes := claimChannel e } := by
  rw [Device.mwChannel, if_neg (by omega), if_neg (ne_true_of_eq_false hfree), if_neg (ne_true_of_eq_false hclaim)]
  rfl

theorem Device.mwChannel_releases (hrelease : bit (e.u 13 1) 2 = true) (hmay : d.mayAct e.via (.channel (e.u 12 1)) = true) :
    Device.mwChannel e d = d.stageCmd e (e.u 16 2) false
      { opcode := 0x0B00, key := [], drops := [.channel (e.u 12 1)], writes := clearChannel e } := by
  rw [Device.mwChannel, if_neg (by omega), if_neg (ne_true_of_eq_false hfree), if_pos hrelease, if_neg (by rw [hmay]; decide)]
  rfl

end

theorem Device.mwFireCmd_fires (hfree : d.channelHeld e.via (e.u 12 1) = false) (hmay : d.mayAct e.via (.channel (e.u 12 1)) = true) :
    Device.mwFireCmd e d = (d.mwFire .ringmaster (e.u 12 1)).ok (leBytes 8 d.tt.toNat) := by
  rw [Device.mwFireCmd, if_neg (ne_true_of_eq_false hfree), if_neg (by rw [hmay]; decide)]

/-! ### MW_WATCH (R345) -/

/-- MW_WATCH's payload, the watch bits that firmware reads being `seen`. -/
def Device.watchReport (d : Device) (c : Nat) (seen : Word) : List Byte :=
  layout [(1, b2n (bit seen.toNat (c % 64))), (3, 0), (4, d.get R.MW_CH_CNT_FIRES [c])]

/-- The firings of channel `c` counted anew, its watch bit cleared where FLAGS `fl` asks. -/
def Device.watchTaken (d : Device) (c fl : Nat) (seen : Word) : Device :=
  if bit fl 0 then (d.wr R.MW_CH_CNT [c] 0).wr R.MW_WATCH [c / 64]
    ((d.wr R.MW_CH_CNT [c] 0).rd R.MW_WATCH [c / 64] &&& ~~~ (seen &&& BitVec.ofNat 64 (2 ^ (c % 64))))
  else d.wr R.MW_CH_CNT [c] 0

/-- The channels whose firings firmware forwards, as FLAGS `fl` asks for channel `c`. -/
def Device.forwardAsked (d : Device) (c fl : Nat) : Device :=
  let rest := d.tim.forwarded.filter (fun x => decide (x ≠ c))
  if bit fl 2 then { d with tim := { d.tim with forwarded := rest } }
  else if bit fl 1 then { d with tim := { d.tim with forwarded := rest ++ [c] } }
  else d

theorem Device.mwWatch_reads (hflags : e.u 13 1 ≤ 7) (hmay : d.mayAct e.via (.channel (e.u 12 1)) = true) {seen : Word}
    (hseen : d.watchMask .ringmaster (e.u 12 1 / 64) (d.rd R.MW_WATCH [e.u 12 1 / 64]) = seen) :
    Device.mwWatch e d = ((d.watchTaken (e.u 12 1) (e.u 13 1) seen).forwardAsked (e.u 12 1) (e.u 13 1)).ok
      (d.watchReport (e.u 12 1) seen) := by
  subst hseen
  rw [Device.mwWatch, if_neg (by omega), if_neg (by rw [hmay]; decide)]
  rfl

theorem Device.forwardAsked_rd (d : Device) (c fl : Nat) (r : Reg) (ix : List Nat) : (d.forwardAsked c fl).rd r ix = d.rd r ix := by
  simp only [Device.forwardAsked]
  split
  · rfl
  · split <;> rfl

theorem Device.watchTaken_tim (d : Device) (c fl : Nat) (seen : Word) : (d.watchTaken c fl seen).tim = d.tim := by
  simp only [Device.watchTaken, Device.tim_ite, Device.wr_tim, ite_self]

theorem mwChCnt_ne_mwWatch {c : Nat} (h : c < 256) : R.MW_CH_CNT.addr [c] ≠ R.MW_WATCH.addr [c / 64] :=
  (by decide +kernel : ∀ c : Fin 256, R.MW_CH_CNT.addr [c.val] ≠ R.MW_WATCH.addr [c.val / 64]) ⟨c, h⟩

section
variable (d : Device) {c : Nat} (h : c < 256) (fl : Nat) (seen : Word)
include h

theorem Device.watchTaken_count : (d.watchTaken c fl seen).rd R.MW_CH_CNT [c] = 0 := by
  rw [Device.watchTaken, Device.rd_ite, Device.rd_wr_ne _ _ (mwChCnt_ne_mwWatch h), Device.rd_wr_same, ite_self]

theorem Device.watchTaken_watch : (d.watchTaken c fl seen).rd R.MW_WATCH [c / 64] =
    if bit fl 0 then d.rd R.MW_WATCH [c / 64] &&& ~~~ (seen &&& BitVec.ofNat 64 (2 ^ (c % 64))) else d.rd R.MW_WATCH [c / 64] := by
  rw [Device.watchTaken, Device.rd_ite, Device.rd_wr_same, Device.rd_wr_ne _ _ (mwChCnt_ne_mwWatch h).symm]

end

/-! ### MW_GATE (R345, R353) -/

/-- What MW_GATE stages: the gates, and the gate of a consumer. -/
def gateWrites (e : Entry) : List MaskedWrite :=
  (if bit (e.u 12 1) 0 then
    [{ addr := R.MW_GATE.addr [], mask := BitVec.ofNat 64 (e.u 14 1), value := BitVec.ofNat 64 (e.u 13 1) &&& BitVec.ofNat 64 (e.u 14 1) }]
  else []) ++
  (if bit (e.u 12 1) 1 then [stageFields R.MW_CON [e.u 16 2] [(R.MW_CON_GATE, e.u 18 1), (R.MW_CON_GATE_INV, e.u 19 1),
    (R.MW_CON_DEAD, e.u 20 1)]]
  else [])

theorem Device.mwGate_stages (hflags : e.u 12 1 ≤ 3) (hgates : bit (e.u 12 1) 0 = true → e.via.principal = true)
    (hcon : bit (e.u 12 1) 1 = true → e.u 16 2 ≤ 2047 ∧ (e.u 16 2 < 593 ∨ 639 < e.u 16 2) ∧ e.u 18 1 ≤ 28 ∧ e.u 19 1 ≤ 1
      ∧ d.mayTake e.via (.consumer (e.u 16 2)) = true) :
    Device.mwGate e d = d.stageCmd e (e.u 22 2) false
      { opcode := 0x0B03, key := [], writes := gateWrites e, claims := if bit (e.u 12 1) 1 then [.consumer (e.u 16 2)] else [] } := by
  have hform : ¬(3 < e.u 12 1 ∨ bit (e.u 12 1) 1 = true
      ∧ (2047 < e.u 16 2 ∨ 593 ≤ e.u 16 2 ∧ e.u 16 2 ≤ 639 ∨ 28 < e.u 18 1 ∨ 1 < e.u 19 1)) := by
    rintro (hbig | ⟨hbit, hbad⟩)
    · omega
    · obtain ⟨hmax, hgap, hgate, hinv, _⟩ := hcon hbit
      omega
  have hmay : ¬(bit (e.u 12 1) 0 = true ∧ (!e.via.principal) = true
      ∨ bit (e.u 12 1) 1 = true ∧ (!d.mayTake e.via (.consumer (e.u 16 2))) = true) := by
    rintro (⟨hbit, hno⟩ | ⟨hbit, hno⟩)
    · rw [hgates hbit] at hno
      exact absurd hno (by decide)
    · obtain ⟨_, _, _, _, htake⟩ := hcon hbit
      rw [htake] at hno
      exact absurd hno (by decide)
  rw [Device.mwGate, if_neg hform, if_neg hmay]
  rfl

/-! ### BK_PROGRAM, BK_ARM and BK_QUERY (R350, R351, R356) -/

/-- The target fields of a program's buffer lie in their ranges. -/
def targetsFormed (b : List Byte) : Prop :=
  ∀ t, t < 4 → fieldAt b (64 + 16 * t) 1 ≤ 4 ∧ fieldAt b (64 + 16 * t + 1) 1 ≤ 1 ∧ fieldAt b (64 + 16 * t + 3) 1 = 0
    ∧ fieldAt b (64 + 16 * t + 8) 8 = 0

/-- The fields of a program's buffer lie in their ranges. -/
structure ProgramForm (b : List Byte) : Prop where
  program : fieldAt b 0 1 ≤ 31
  source : fieldAt b 1 1 ≤ 2
  flags : fieldAt b 2 1 ≤ 3
  channel : fieldAt b 3 1 ≤ 3
  reserved : fieldAt b 5 1 = 0
  reservedMid : fieldAt b 42 6 = 0
  spacing : fieldAt b 48 8 < 2 ^ 48
  reservedEnd : fieldAt b 60 4 = 0
  targets : targetsFormed b

/-- What BK_PROGRAM stages for program `p` from its buffer. -/
def programWrites (b : List Byte) (p : Nat) : List MaskedWrite :=
  [stageFields R.BK_CTL [p] [(R.BK_CTL_SRC, fieldAt b 1 1), (R.BK_CTL_DIR, fieldAt b 2 1 % 2), (R.BK_CTL_INTERP, fieldAt b 2 1 / 2),
      (R.BK_CTL_POS_CH, fieldAt b 3 1), (R.BK_CTL_EV, fieldAt b 4 1)], stageField R.BK_START_START [p] (fieldAt b 8 8),
    stageField R.BK_PERIOD_PERIOD [p] (fieldAt b 16 8),
    stageFields R.BK_COUNT [p] [(R.BK_COUNT_COUNT, fieldAt b 24 4), (R.BK_COUNT_DELAY, fieldAt b 28 4)],
    stageFields R.BK_POS [p] [(R.BK_POS_TARGET_CNT, fieldAt b 32 4), (R.BK_POS_TARGET_REV, fieldAt b 36 4)],
    stageFields R.BK_POSF [p] [(R.BK_POSF_FRAC, fieldAt b 40 2), (R.BK_POSF_SPACING, fieldAt b 48 8)],
    stageField R.BK_WIDTH_WIDTH [p] (fieldAt b 56 4)]
    ++ (List.range 4).map (fun t => stageFields R.BK_TGT [p, t] [(R.BK_TGT_KIND, fieldAt b (64 + 16 * t) 1),
      (R.BK_TGT_LEVEL, fieldAt b (64 + 16 * t + 1) 1), (R.BK_TGT_INDEX, fieldAt b (64 + 16 * t + 2) 1),
      (R.BK_TGT_LEAD, fieldAt b (64 + 16 * t + 4) 4)])

theorem targetsFormed_any {b : List Byte} (h : targetsFormed b) : (List.range 4).any (fun t => decide (4 < fieldAt b (64 + 16 * t) 1
    ∨ 1 < fieldAt b (64 + 16 * t + 1) 1 ∨ fieldAt b (64 + 16 * t + 3) 1 ≠ 0 ∨ fieldAt b (64 + 16 * t + 8) 8 ≠ 0)) = false := by
  refine List.any_eq_false.mpr fun t ht => ?_
  obtain ⟨hkind, hlevel, hres, hresEnd⟩ := h t (List.mem_range.1 ht)
  simpa using ⟨hkind, hlevel, hres, hresEnd⟩

theorem Device.bkProgram_stages {b : List Byte} {p : Nat} (hb : d.input e = b) (hp : fieldAt b 0 1 = p) (hlen : e.inLen = 128)
    (hform : ProgramForm b) (hmay : d.mayTake e.via (.program p) = true) :
    Device.bkProgram e d = d.stageCmd e (fieldAt b 6 2) false
      { opcode := 0x0B04, key := [], writes := programWrites b p, claims := [.program p] } := by
  obtain ⟨hprog, hsrc, hflags, hch, hres, hmid, hspacing, hend, htargets⟩ := hform
  subst hb hp
  rw [Device.bkProgram, if_neg (by omega), if_neg, if_neg (by rw [hmay]; decide)]
  · rfl
  · rw [targetsFormed_any htargets]
    rintro (h | h | h | h | h | h | h | h | h)
    any_goals omega
    exact absurd h (by decide)

theorem Device.bkArm_stages (hp : e.u 12 1 ≤ 31) (hen : e.u 13 1 ≤ 1) (hports : e.u 13 1 = 1 → ∀ n ∈ d.vxlTargets (e.u 12 1),
      (n < 8 → d.portPresent n = true) ∧ d.vxlUp n = true ∧ d.hostRole n = true)
    (hmay : d.mayAct e.via (.program (e.u 12 1)) = true) : Device.bkArm e d = d.stageCmd e (e.u 14 2) false
      { opcode := 0x0B05, key := [], writes := [stageField R.BK_CTL_EN [e.u 12 1] (e.u 13 1)], payload := leBytes 4 d.epoch } := by
  have hthere : ¬(decide (e.u 13 1 = 1) = true
      ∧ (d.vxlTargets (e.u 12 1)).any (fun n => decide (n < 8) && !d.portPresent n) = true) := by
    rintro ⟨hon, hany⟩
    obtain ⟨n, hn, hbad⟩ := List.any_eq_true.mp hany
    obtain ⟨hpresent, _, _⟩ := hports (of_decide_eq_true hon) n hn
    simp only [Bool.and_eq_true, decide_eq_true_eq, Bool.not_eq_true'] at hbad
    exact ne_true_of_eq_false hbad.2 (hpresent hbad.1)
  have hup : ¬(decide (e.u 13 1 = 1) = true ∧ (d.vxlTargets (e.u 12 1)).any (fun n => !(d.vxlUp n && d.hostRole n)) = true) := by
    rintro ⟨hon, hany⟩
    obtain ⟨n, hn, hbad⟩ := List.any_eq_true.mp hany
    obtain ⟨_, hvxl, hrole⟩ := hports (of_decide_eq_true hon) n hn
    rw [hvxl, hrole] at hbad
    exact absurd hbad (by decide)
  rw [Device.bkArm, if_neg (by omega), if_neg hthere, if_neg (by rw [hmay]; decide), if_neg hup]

/-- BK_QUERY's payload, `h` the fire record asked for. -/
def Device.programReport (d : Device) (p : Nat) (h : List Byte) : List Byte :=
  layout [(1, d.get R.BK_STAT_STATE [p]), (1, fieldAt h 24 1), (1, d.get R.BK_STAT_COMPARE_BEHIND [p]), (1, 0), (4, fieldAt h 16 4),
    (8, fieldAt h 0 8), (8, fieldAt h 8 8), (4, fieldAt h 20 4)]

theorem Device.bkQuery_reports (hp : e.u 12 1 ≤ 31) (hindex : e.u 13 1 ≤ 15) : Device.bkQuery e d
    = d.ok (d.programReport (e.u 12 1) ((d.prog (e.u 12 1)).hist.getD (e.u 13 1) (zeros 32))) := if_neg (by omega)

/-! ### TRG_PIN and TRG_STAMPS (R359) -/

/-- What TRG_PIN stages. -/
def pinWrites (e : Entry) : List MaskedWrite :=
  [stageFields R.TRG_CTL [e.u 12 1] [(R.TRG_CTL_DIR, e.u 13 1 % 2), (R.TRG_CTL_POL, e.u 13 1 / 2 % 2),
      (R.TRG_CTL_IN_EDGE, e.u 13 1 / 4 % 4), (R.TRG_CTL_IN_EV_EN, e.u 13 1 / 16), (R.TRG_CTL_IN_EV, e.u 14 1), (R.TRG_CTL_FILT, e.u 15 1)],
    stageFields R.TRG_ADJ [e.u 12 1] [(R.TRG_ADJ_OUT_ADJ, e.u 16 2), (R.TRG_ADJ_IN_ADJ, e.u 18 2)]]

theorem Device.trgPin_stages (hi : e.u 12 1 ≤ 15) (hflags : e.u 13 1 ≤ 31) (hmay : d.mayTake e.via (.pin (e.u 12 1)) = true)
    (hout : bit (e.u 13 1) 0 = true → d.flag R.NET_PIN_OUT_OK [e.u 12 1] = true) : Device.trgPin e d = d.stageCmd e (e.u 20 2) false
      { opcode := 0x0B07, key := [], writes := pinWrites e, claims := [.pin (e.u 12 1)] } := by
  have hok : ¬(bit (e.u 13 1) 0 = true ∧ (!d.flag R.NET_PIN_OUT_OK [e.u 12 1]) = true) := by
    rintro ⟨hbit, hno⟩
    rw [hout hbit] at hno
    exact absurd hno (by decide)
  rw [Device.trgPin, if_neg (by omega), if_neg (by rw [hmay]; decide), if_neg hok]
  rfl

/-- The reply of TRG_STAMPS with the stamps `got` of pin `i`. -/
def Device.stampsPopped (d : Device) (i : Nat) (got : List (TT × Bool)) : Reply where
  status := stOK
  payload := layout [(1, got.length), (1, 0), (2, (got.foldl (fun (d : Device) _ => d.stampPop i) d).get R.TRG_IN_OVERRUN [i])]
  dev := (got.foldl (fun (d : Device) _ => d.stampPop i) d).put R.TRG_IN_OVERRUN [i] 0
  out := got.flatMap (fun s => layout [(8, s.1.toNat), (1, b2n s.2), (7, 0)])

theorem Device.trgStamps_pops (hi : e.u 12 1 ≤ 15) (hsome : e.u 13 1 ≠ 0) (hmax : e.u 13 1 ≤ 16) (hout : 16 * e.u 13 1 ≤ e.outLen)
    (hmay : d.mayAct e.via (.pin (e.u 12 1)) = true) (hdir : d.flag R.TRG_CTL_DIR [e.u 12 1] = false) :
    Device.trgStamps e d = d.stampsPopped (e.u 12 1) ((d.pin (e.u 12 1)).stamps.take (e.u 13 1)) := by
  rw [Device.trgStamps, if_neg (by omega), if_neg (by omega), if_neg (by rw [hmay]; decide), if_neg (ne_true_of_eq_false hdir)]
  rfl

theorem Device.stampsPopped_count (i : Nat) (got : List (TT × Bool)) :
    (d.stampsPopped i got).payload.take 1 = leBytes 1 got.length := rfl

/-! ### BK_ACTION (R361) -/

/-- How firmware sends the ACTION_CMD of a target: what BK_ACTION names, its number going on. -/
def Device.actionAsked (d : Device) (e : Entry) : ActionCmd where
  port := e.u 14 1
  deviceKey := e.u 16 4
  groupKey := e.u 20 4
  groupMask := e.u 24 4
  dst := e.u 28 4
  reqId := (d.tim.actionCmds.get {} (e.u 12 1 * 4 + e.u 13 1)).reqId

theorem Device.bkAction_records (hp : e.u 12 1 ≤ 31) (ht : e.u 13 1 ≤ 3) (hport : e.u 14 1 ≤ 7)
    (hmay : d.mayAct e.via (.program (e.u 12 1)) = true) :
    Device.bkAction e d = ({ d with tim := { d.tim with
      actionCmds := d.tim.actionCmds.put {} (e.u 12 1 * 4 + e.u 13 1) (d.actionAsked e) } } : Device).ok [] := by
  rw [Device.bkAction, if_neg (by omega), if_neg (by rw [hmay]; decide)]
  rfl

end

theorem Device.entered_prog (d : Device) (e : Entry) (p : Nat) : (d.entered e).prog p = d.prog p := by
  rw [Device.prog, Device.entered_tim, ← Device.prog]

theorem Device.entered_pin (d : Device) (e : Entry) (i : Nat) : (d.entered e).pin i = d.pin i := by
  rw [Device.pin, Device.entered_tim, ← Device.pin]

theorem Device.entered_vxlUp (d : Device) (e : Entry) (p : Nat) : (d.entered e).vxlUp p = d.vxlUp p := by
  rw [Device.vxlUp, Device.up, Device.pstate, Device.entered_pmode, Device.entered_get, ← Device.pstate, ← Device.up, ← Device.vxlUp]

theorem Device.entered_hostRole (d : Device) (e : Entry) (p : Nat) : (d.entered e).hostRole p = d.hostRole p :=
  congrArg not (d.entered_flag e _ _)

theorem Device.entered_vxlTargets (d : Device) (e : Entry) (p : Nat) : (d.entered e).vxlTargets p = d.vxlTargets p := by
  simp only [Device.vxlTargets, Device.entered_get]

/-! ### The group -/

/-- Settles O49, command by command: each stages its writes, or does its one operation, once its own checks are passed. -/
theorem timingCommands : Obligations.TimingCommands := by
  unfold Obligations.TimingCommands
  refine ⟨fun s e c ws hc hflags hclaim hmode hfree hws htakes => ?claim,
    fun s e c ws hc hflags hrelease hmode hfree hmay hws htakes => ?release, fun s e c hc hfree hmay => ?fire,
    fun s e c seen hc hflags hmay hseen => ?watch, fun s e i w1 w2 hflags hi hgates hcon hw1 hw2 htakes => ?gate, ?program,
    fun s e p ws hp hmax hen hports hmay hws htakes => ?arm, fun s e p h hp hmax hindex hh => ?query,
    fun s e i ws hi hmax hflags hmay hout hws htakes => ?pin, fun s e i n got hi hn hmax hsome hle hroom hmay hdir hgot => ?stamps,
    fun s e p t hp ht hpmax htmax hport hmay => ?action⟩
  case claim =>
    subst hc hws
    refine State.gives_of (body := Device.mwChannel e) rfl fun _ => ?_
    rw [Device.mwChannel_claims hflags hmode hfree hclaim]
    exact Device.stageCmd_carries htakes
  case release =>
    subst hc hws
    refine State.gives_of (body := Device.mwChannel e) rfl fun _ => ?_
    rw [Device.mwChannel_releases hflags hmode hfree hrelease hmay]
    exact Device.stageCmd_carries htakes
  case fire =>
    subst hc
    refine State.gives_of (body := Device.mwFireCmd e) rfl fun _ => ?_
    rw [Device.mwFireCmd_fires hfree hmay]
    exact ⟨rfl, rfl, rfl⟩
  case watch =>
    subst hc
    refine State.gives_of (body := Device.mwWatch e) rfl fun _ => ?_
    rw [Device.mwWatch_reads hflags hmay ((congrArg _ (s.dev.entered_rd e _ _)).trans hseen)]
    have hlt : e.u 12 1 < 256 := e.u_lt 12 1
    refine ⟨rfl, rfl, (Device.forwardAsked_rd _ _ _ _ _).trans (Device.watchTaken_count _ hlt _ _),
      (Device.forwardAsked_rd _ _ _ _ _).trans (Device.watchTaken_watch _ hlt _ _), fun hno => ?_, fun hno hyes => ?_⟩
    · simp only [Device.ok, Device.forwardAsked, Device.watchTaken_tim, hno, if_true]
    · simp only [Device.ok, Device.forwardAsked, Device.watchTaken_tim, hno, hyes, Bool.false_eq_true, if_false, if_true]
  case gate =>
    subst hi hw1 hw2
    refine State.gives_of (body := Device.mwGate e) rfl fun _ => ?_
    rw [Device.mwGate_stages hflags hgates hcon]
    exact Device.stageCmd_carries htakes
  case program =>
    intro s e b p ws hb hlen hp hmax hsrc hflags hch hres hmid hspacing hend htargets hmay hws htakes
    subst hws
    refine State.gives_of (body := Device.bkProgram e) rfl fun _ => ?_
    rw [Device.bkProgram_stages hb hp hlen ⟨hp ▸ hmax, hsrc, hflags, hch, hres, hmid, hspacing, hend, htargets⟩ hmay]
    exact Device.stageCmd_carries htakes
  case arm =>
    subst hp hws
    refine State.gives_of (body := Device.bkArm e) rfl fun _ => ?_
    rw [Device.bkArm_stages hmax hen ?_ hmay]
    · exact Device.stageCmd_carries htakes
    · simpa only [Device.entered_vxlTargets, Device.entered_portPresent, Device.entered_vxlUp, Device.entered_hostRole] using hports
  case query =>
    subst hp hh
    refine State.gives_of (body := Device.bkQuery e) rfl fun _ => ?_
    rw [Device.bkQuery_reports hmax hindex, Device.entered_prog]
    exact ⟨rfl, rfl, rfl⟩
  case pin =>
    subst hi hws
    refine State.gives_of (body := Device.trgPin e) rfl fun _ => ?_
    rw [Device.trgPin_stages hmax hflags hmay fun hbit => (s.dev.entered_flag e _ _).trans (hout hbit)]
    exact Device.stageCmd_carries htakes
  case stamps =>
    subst hi hn hgot
    refine State.gives_of (body := Device.trgStamps e) rfl fun _ => ?_
    rw [Device.trgStamps_pops hmax hsome hle hroom hmay ((s.dev.entered_flag e _ _).trans hdir), Device.entered_pin]
    exact ⟨rfl, rfl, rfl, Device.stampsPopped_count _ _⟩
  case action =>
    subst hp ht
    refine State.gives_of (body := Device.bkAction e) rfl fun _ => ?_
    rw [Device.bkAction_records hpmax htmax hport hmay]
    exact ⟨rfl, rfl, rfl⟩

end Sys2Proof.Machine
end

section
/-! Scope: the position feedback commands, mailbox group 0x0C (R369, R377, R378, R380, R382): each command past its checks, and the
group. -/

namespace Sys2Proof.Machine

/-! ### What a reply that is taken up says -/

section
variable {d : Device} {e : Entry} {txn : Nat} {job : AloneJob} {r : Reply}

/-- A change taken up without WAIT is answered OK. -/
theorem Device.carries_ok (h : d.carries e txn false job r) : r.status = stOK :=
  (Device.carries_status h).trans (if_neg (by simp))

theorem Device.carriesShow_ok (h : d.carriesShow e txn job r) : r.status = stOK := by
  obtain ⟨r0, hcarries, rfl⟩ := h
  have hok : r0.status = stOK := Device.carries_ok hcarries
  split <;> exact hok

theorem Device.carriesWait_status {wait : Bool} {key next : List Nat} (h : d.carriesWait e txn wait key next job r) : r.status ≤ 1 := by
  have hle : ∀ p : Prop, ∀ _ : Decidable p, (if p then stACCEPTED else stOK) ≤ 1 := fun p _ => by split <;> decide
  obtain ⟨r0, hcarries, h⟩ := h
  split at h
  · obtain ⟨hstatus, _⟩ := h
    rw [hstatus]
    decide
  · rw [h, Device.carries_status hcarries]
    exact hle _ _

end

section
variable {d : Device} {e : Entry}

/-! ### FB_QUERY (R369) -/

/-- FB_QUERY's payload. -/
def Device.fbReport (d : Device) (f : Nat) : List Byte :=
  layout [(4, d.get R.FB_POS_COUNT [f]), (4, d.get R.FB_POS_REV [f]), (8, code 64 (sgn 48 (d.get R.FB_SPEED_SPEED [f]))),
    (1, (d.rd R.FB_STAT [f]).toNat % 32 + 32 * d.get R.FB_STAT_SUSPECT [f]), (1, (d.rd R.FB_EVT [f]).toNat % 32), (6, 0),
    (8, (d.rd R.FB_EDGE_TT [f]).toNat)]

theorem Device.fbQuery_reports (h : e.u 12 1 ≤ 3) : Device.fbQuery e d = d.ok (d.fbReport (e.u 12 1)) := if_neg (by omega)

/-! ### FB_CONFIG (R369) -/

/-- The fields of a FB_CONFIG lie in their ranges. -/
structure Entry.FeedbackForm (e : Entry) : Prop where
  channel : e.u 12 1 ≤ 3
  mode : e.u 16 1 ≤ 3
  flags : e.u 17 1 ≤ 31
  decode : e.u 17 1 % 4 ≠ 3
  average : e.u 26 1 ≤ 4
  timeout : e.u 28 4 ≠ 0
  timeoutMax : e.u 28 4 ≤ 1000000
  bits : e.u 27 1 ≤ 63
  turnBits : e.u 32 1 ≤ 63
  reserved : e.u 38 2 = 0
  reservedEnd : e.u 46 18 = 0

/-- What FB_CONFIG stages. -/
def feedbackWrites (e : Entry) : List MaskedWrite :=
  [stageFields R.FB_CTL [e.u 12 1] [(R.FB_CTL_MODE, e.u 16 1), (R.FB_CTL_DECODE, e.u 17 1 % 4), (R.FB_CTL_INVERT, e.u 17 1 / 4 % 2),
      (R.FB_CTL_WRAP, e.u 17 1 / 8 % 2), (R.FB_CTL_FILT, e.u 18 2), (R.FB_CTL_SW_FILT, e.u 24 2)],
    stageField R.FB_CPR_CPR [e.u 12 1] (if e.u 20 4 = 0 then 2 ^ 32 else e.u 20 4),
    stageFields R.FB_SPD_CFG [e.u 12 1] [(R.FB_SPD_CFG_TIMEOUT_US, e.u 28 4), (R.FB_SPD_CFG_AVG_SHIFT, e.u 26 1)],
    stageFields R.FB_SSI [e.u 12 1] [(R.FB_SSI_BITS, e.u 27 1), (R.FB_SSI_TURN_BITS, e.u 32 1), (R.FB_SSI_GRAY, e.u 17 1 / 16),
      (R.FB_SSI_DIV, e.u 33 1), (R.FB_SSI_PERIOD_US, e.u 34 2), (R.FB_SSI_MONO_US, e.u 36 2)],
    stageField R.FB_SSI2_MAX_JUMP [e.u 12 1] (e.u 40 4)]

/-- The change that FB_CONFIG stages. -/
def feedbackJob (e : Entry) : AloneJob where
  opcode := 0x0C01
  key := []
  writes := feedbackWrites e
  claims := [.fb (e.u 12 1)]

/-- The event selects of a channel, as FB_CONFIG writes them. -/
def Device.feedbackEvents (d : Device) (e : Entry) : Device :=
  (d.setEvent R.FB_EV_DIR_EV_EN R.FB_EV_DIR_EV [e.u 12 1] (e.u 44 1)).setEvent R.FB_EV_ERR_EV_EN R.FB_EV_ERR_EV [e.u 12 1] (e.u 45 1)

theorem Device.fbConfig_stages (hform : e.FeedbackForm) (hmay : d.mayTake e.via (.fb (e.u 12 1)) = true) {r : Reply}
    (hr : d.stageCmd e (e.u 14 2) false (feedbackJob e) = r) (hok : r.status = stOK) :
    Device.fbConfig e d = { r with dev := r.dev.feedbackEvents e } := by
  obtain ⟨hchannel, hmode, hflags, hdecode, haverage, htimeout, htimeoutMax, hbits, hturn, hres, hend⟩ := hform
  subst hr
  rw [Device.fbConfig, if_neg (by omega), if_neg (by rw [hmay]; decide)]
  exact if_neg (not_not.mpr hok)

/-! ### FB_SET_POS, FB_LATCH and FB_COMPARE (R377, R378, R380) -/

/-- The change that FB_SET_POS stages. -/
def presetJob (e : Entry) : AloneJob where
  opcode := 0x0C02
  key := []
  writes := [stageFields R.FB_PRESET [e.u 12 1] [(R.FB_PRESET_COUNT, e.u 16 4), (R.FB_PRESET_REV, e.u 20 4)],
    stageField R.FB_CMD_SET_POS [e.u 12 1] 1]
  payload := [BitVec.ofNat 8 (e.u 12 1)]

/-- The change that FB_LATCH stages to disarm. -/
def disarmJob (e : Entry) : AloneJob where
  opcode := 0x0C03
  key := []
  writes := [stageFields R.FB_LATCH [e.u 12 1] [(R.FB_LATCH_LATCH_SRC, 0), (R.FB_LATCH_LATCH_EDGE, 0)]]

/-- The change that FB_LATCH stages to arm. -/
def latchJob (e : Entry) : AloneJob where
  opcode := 0x0C03
  key := []
  writes := [stageFields R.FB_LATCH [e.u 12 1] [(R.FB_LATCH_LATCH_SRC, e.u 16 1), (R.FB_LATCH_LATCH_EDGE, e.u 17 1), (R.FB_LATCH_ARM, 1)]]

/-- The change that FB_COMPARE stages. -/
def compareJob (e : Entry) : AloneJob where
  opcode := 0x0C04
  key := []
  writes := [stageFields R.FB_CMP_CTL [e.u 12 1] [(R.FB_CMP_CTL_CMP_EN, e.u 16 1 % 2), (R.FB_CMP_CTL_CMP_DIR, e.u 16 1 / 2),
      (R.FB_CMP_CTL_SPACING, e.u 28 4)],
    stageFields R.FB_CMP_TGT [e.u 12 1] [(R.FB_CMP_TGT_TGT_COUNT, e.u 20 4), (R.FB_CMP_TGT_TGT_REV, e.u 24 4)]]
  payload := [BitVec.ofNat 8 (e.u 12 1)]

section
variable (hcheck : d.fbCheck e = stOK)
include hcheck

theorem Device.fbSetPosCmd_stages (hon : d.fbMode (e.u 12 1) ≠ 0) : Device.fbSetPosCmd e d = d.stageShow e (e.u 14 2) (presetJob e) := by
  rw [Device.fbSetPosCmd, hcheck, if_neg (by decide), if_neg hon]
  rfl

theorem Device.fbSetPosCmd_off (hoff : d.fbMode (e.u 12 1) = 0) : Device.fbSetPosCmd e d = d.no stCHANNEL_OFF := by
  rw [Device.fbSetPosCmd, hcheck, if_neg (by decide), if_pos hoff]

section
variable (hsource : e.u 16 1 ≤ 2) (hedge : e.u 17 1 ≤ 3) (hflags : e.u 18 1 ≤ 3)
  (hone : ¬(bit (e.u 18 1) 0 = true ∧ bit (e.u 18 1) 1 = true))
include hsource hedge hflags hone

omit hcheck in
theorem Entry.latch_formed : ¬(2 < e.u 16 1 ∨ 3 < e.u 17 1 ∨ 3 < e.u 18 1 ∨ bit (e.u 18 1) 0 = true ∧ bit (e.u 18 1) 1 = true) := by
  rintro (h | h | h | h)
  · omega
  · omega
  · omega
  · exact hone h

theorem Device.fbLatch_off (hoff : d.fbMode (e.u 12 1) = 0) : Device.fbLatch e d = d.no stCHANNEL_OFF := by
  rw [Device.fbLatch, hcheck, if_neg (by decide), if_neg (Entry.latch_formed hsource hedge hflags hone), if_pos hoff]

theorem Device.fbLatch_disarms (hon : d.fbMode (e.u 12 1) ≠ 0) (hbit : bit (e.u 18 1) 1 = true) {r : Reply}
    (hr : d.stageCmd e (e.u 14 2) false (disarmJob e) = r) (hok : r.status = stOK) :
    Device.fbLatch e d = { r with dev := r.dev.finish 0x0C03 [e.u 12 1] stDISCARDED [] } := by
  subst hr
  rw [Device.fbLatch, hcheck, if_neg (by decide), if_neg (Entry.latch_formed hsource hedge hflags hone), if_neg hon, if_pos hbit]
  exact if_pos hok

theorem Device.fbLatch_arms (hon : d.fbMode (e.u 12 1) ≠ 0) (hbit : bit (e.u 18 1) 1 = false) {r : Reply}
    (hr : d.stageWait e (e.u 14 2) (bit (e.u 18 1) 0) [e.u 12 1] [e.u 12 1] 99 (latchJob e) = r) (hok : r.status ≤ 1) :
    Device.fbLatch e d = { r with dev := r.dev.setEvent R.FB_EV_LATCH_EV_EN R.FB_EV_LATCH_EV [e.u 12 1] (e.u 19 1) } := by
  subst hr
  rw [Device.fbLatch, hcheck, if_neg (by decide), if_neg (Entry.latch_formed hsource hedge hflags hone), if_neg hon, if_neg (ne_true_of_eq_false hbit)]
  exact if_pos hok

end

section
variable (hflags : e.u 16 1 ≤ 3)
include hflags

theorem Device.fbCompare_off (hoff : d.fbMode (e.u 12 1) = 0) : Device.fbCompare e d = d.no stCHANNEL_OFF := by
  rw [Device.fbCompare, hcheck, if_neg (by decide), if_neg (by omega), if_pos hoff]

theorem Device.fbCompare_stages (hon : d.fbMode (e.u 12 1) ≠ 0) {r : Reply}
    (hr : d.stageShow e (e.u 14 2) (compareJob e) = r) (hok : r.status = stOK) :
    Device.fbCompare e d = { r with dev := r.dev.setEvent R.FB_EV_CMP_EV_EN R.FB_EV_CMP_EV [e.u 12 1] (e.u 17 1) } := by
  subst hr
  rw [Device.fbCompare, hcheck, if_neg (by decide), if_neg (by omega), if_neg hon]
  exact if_pos hok

end

end

/-! ### FB_COUNTERS (R382) -/

/-- The totals of a channel with its counters sampled. -/
def Device.fbSampled (d : Device) (f : Nat) : FbX :=
  { d.fb f with
    totQuad := satAdd 32 (d.fb f).totQuad (d.get R.FB_ERR_QUAD [f])
    totHall := satAdd 32 (d.fb f).totHall (d.get R.FB_ERR_HALL [f])
    totSsi := satAdd 32 (d.fb f).totSsi (d.get R.FB_ERR_SSI [f])
    totRev := satAdd 32 (d.fb f).totRev (d.get R.FB_ERR_REVERSALS [f])
    totHits := satAdd 32 (d.fb f).totHits (d.get R.FB_CMP_HITS_HITS [f]) }

/-- FB_COUNTERS's payload. -/
def FbX.totals (x : FbX) : List Byte := layout [(4, x.totQuad), (4, x.totHall), (4, x.totSsi), (4, x.totRev), (4, x.totHits)]

/-- A channel with its totals at zero. -/
def FbX.cleared (x : FbX) : FbX := { x with totQuad := 0, totHall := 0, totSsi := 0, totRev := 0, totHits := 0 }

/-- A channel as FB_COUNTERS leaves it. -/
def Device.fbCounted (d : Device) (f clear : Nat) : Device :=
  if clear = 1 then (d.sampleFb f).setFb f (d.fbSampled f).cleared else d.sampleFb f

theorem Device.sampleFb_fb (d : Device) (f : Nat) : (d.sampleFb f).fb f = d.fbSampled f := d.setFb_same f _

theorem Device.fbCounters_reports (hcheck : d.fbCheck e = stOK) (hclear : e.u 16 1 ≤ 1) :
    Device.fbCounters e d = (d.fbCounted (e.u 12 1) (e.u 16 1)).ok (d.fbSampled (e.u 12 1)).totals := by
  rw [Device.fbCounters, hcheck, if_neg (by decide), if_neg (by omega)]
  simp only [Device.sampleFb_fb]
  rfl

theorem Device.fbCounted_rd (d : Device) (f clear : Nat) (r : Reg) :
    (d.fbCounted f clear).rd r [f] = (d.sampleFb f).rd r [f] := by
  unfold Device.fbCounted
  split <;> rfl

theorem Device.fbCounted_err (d : Device) (f clear : Nat) : (d.fbCounted f clear).rd R.FB_ERR [f] = 0 := by
  rw [Device.fbCounted_rd, Device.sampleFb, Device.rd_wr_beside _ _ _ (by decide), Device.rd_wr_same]

theorem Device.fbCounted_hits (d : Device) (f clear : Nat) : (d.fbCounted f clear).rd R.FB_CMP_HITS [f] = 0 := by
  rw [Device.fbCounted_rd, Device.sampleFb, Device.rd_wr_same]

theorem Device.fbCounted_cleared (d : Device) (f : Nat) : (d.fbCounted f 1).fb f = (d.fbSampled f).cleared :=
  (congrArg (Device.fb · f) (if_pos rfl)).trans (Device.setFb_same _ _ _)

end

theorem Device.entered_fbMode (d : Device) (e : Entry) (f : Nat) : (d.entered e).fbMode f = d.fbMode f := d.entered_get e _ _

theorem Device.entered_fb (d : Device) (e : Entry) (f : Nat) : (d.entered e).fb f = d.fb f := by
  rw [Device.fb, Device.entered_mot, ← Device.fb]

/-! ### The group -/

/-- Settles O50, command by command: each stages its writes, or does its one operation, once its own checks are passed; the event
selects are written over the reply of a change that was taken up. -/
theorem feedbackCommands : Obligations.FeedbackCommands := by
  unfold Obligations.FeedbackCommands
  refine ⟨fun s e f hf hmax => ?query, ?config, fun s e f ws hf hcheck hon hws htakes => ?preset,
    fun s e f ws hf hcheck hsource hedge hflags hwait hbit hon hws htakes => ?disarm,
    fun s e f ws hf hcheck hsource hedge hflags hbit hon hws htakes => ?arm,
    fun s e f ws hf hcheck hflags hon hws htakes => ?compare, fun s e f hf hcheck hoff => ?off,
    fun s e f x hf hcheck hclear hx => ?counters⟩
  case query =>
    subst hf
    refine State.gives_of (body := Device.fbQuery e) rfl fun _ => ?_
    rw [Device.fbQuery_reports hmax]
    exact ⟨rfl, rfl, rfl⟩
  case config =>
    intro s e f fl ws hf hfl hmax hmode hflags hdecode haverage htimeout htimeoutMax hbits hturn hres hend hmay hws htakes
    subst hf hfl hws
    refine State.gives_of (body := Device.fbConfig e) rfl fun _ => ?_
    have hcarries := Device.stageCmd_carries (acc := false) (job := feedbackJob e) htakes
    rw [Device.fbConfig_stages ⟨hmax, hmode, hflags, hdecode, haverage, htimeout, htimeoutMax, hbits, hturn, hres, hend⟩ hmay rfl
      (Device.carries_ok hcarries)]
    exact ⟨_, hcarries, rfl⟩
  case preset =>
    subst hf hws
    refine State.gives_of (body := Device.fbSetPosCmd e) rfl fun _ => ?_
    rw [Device.fbSetPosCmd_stages hcheck (by rwa [Device.entered_fbMode])]
    exact Device.stageShow_carries htakes
  case disarm =>
    subst hf hws
    refine State.gives_of (body := Device.fbLatch e) rfl fun _ => ?_
    have hcarries := Device.stageCmd_carries (acc := false) (job := disarmJob e) htakes
    rw [Device.fbLatch_disarms hcheck hsource hedge hflags (fun hboth => ne_true_of_eq_false hwait hboth.1)
      (by rwa [Device.entered_fbMode]) hbit rfl (Device.carries_ok hcarries)]
    exact ⟨_, hcarries, rfl⟩
  case arm =>
    subst hf hws
    refine State.gives_of (body := Device.fbLatch e) rfl fun _ => ?_
    have hcarries := Device.stageWait_carries (scope := 99) (wait := bit (e.u 18 1) 0) (key := [e.u 12 1]) (next := [e.u 12 1])
      (job := latchJob e) htakes
    rw [Device.fbLatch_arms hcheck hsource hedge hflags (fun hboth => ne_true_of_eq_false hbit hboth.2)
      (by rwa [Device.entered_fbMode]) hbit rfl (Device.carriesWait_status hcarries)]
    exact ⟨_, hcarries, rfl⟩
  case compare =>
    subst hf hws
    refine State.gives_of (body := Device.fbCompare e) rfl fun _ => ?_
    have hcarries := Device.stageShow_carries (job := compareJob e) htakes
    rw [Device.fbCompare_stages hcheck hflags (by rwa [Device.entered_fbMode]) rfl (Device.carriesShow_ok hcarries)]
    exact ⟨_, hcarries, rfl⟩
  case off =>
    subst hf
    have hoff' : (s.dev.entered e).fbMode (e.u 12 1) = 0 := by rwa [Device.entered_fbMode]
    have hone : e.u 18 1 ≤ 2 → ¬(bit (e.u 18 1) 0 = true ∧ bit (e.u 18 1) 1 = true) := fun hle =>
      (by decide : ∀ n : Fin 3, ¬(bit n.val 0 = true ∧ bit n.val 1 = true)) ⟨e.u 18 1, by omega⟩
    exact ⟨State.gives_of (body := Device.fbSetPosCmd e) rfl fun _ => Device.fbSetPosCmd_off hcheck hoff',
      fun hsource hedge hflags => State.gives_of (body := Device.fbLatch e) rfl fun _ =>
        Device.fbLatch_off hcheck hsource hedge (by omega) (hone hflags) hoff',
      fun hflags => State.gives_of (body := Device.fbCompare e) rfl fun _ => Device.fbCompare_off hcheck hflags hoff'⟩
  case counters =>
    subst hf hx
    refine State.gives_of (body := Device.fbCounters e) rfl fun _ => ?_
    rw [Device.fbCounters_reports hcheck hclear, ← s.dev.entered_fb e]
    refine ⟨rfl, rfl, Device.fbCounted_err _ _ _, Device.fbCounted_hits _ _ _, fun hone => ?_⟩
    have hfb : ((s.dev.entered e).fbCounted (e.u 12 1) (e.u 16 1)).fb (e.u 12 1)
        = ((s.dev.entered e).fbSampled (e.u 12 1)).cleared := by rw [hone, Device.fbCounted_cleared]
    simp only [Device.ok, hfb, FbX.cleared, and_self]

end Sys2Proof.Machine
end

section
/-! Scope: the registers that a firing writes (R342, R349). -/

namespace Sys2Proof.Machine

/-- The registers that firing a channel writes: its counters, the watch bits, the Ringmaster's interrupts. -/
def firingArea (a : Nat) : Prop :=
  (∃ c, c < 256 ∧ a = R.MW_CH_CNT.addr [c]) ∨ (∃ k, k < 4 ∧ a = R.MW_WATCH.addr [k]) ∨ a = R.RM_IRQ_PEND.addr []

/-- Beyond Midway's registers and the interrupts there is none of them. -/
theorem not_firingArea {a : Nat} (hnear : a ≠ R.RM_IRQ_PEND.addr []) (hfar : R.MW_WATCH.addr [0] + 0x1000 ≤ a) : ¬ firingArea a := by
  rintro (⟨c, hc, ha⟩ | ⟨k, hk, ha⟩ | ha)
  · simp only [R.MW_CH_CNT, R.MW_WATCH, Reg.addr, strideSum] at ha hfar
    omega
  · simp only [R.MW_WATCH, Reg.addr, strideSum] at ha hfar
    omega
  · exact hnear ha

section
variable (d : Device) {c : Nat} (hc : c < 256)
include hc

theorem Device.firingMarks_writes : d.WritesIn firingArea (d.firingMarks c) := by
  have hcount : d.WritesIn firingArea (d.bump R.MW_CH_CNT_FIRES [c]) :=
    (Device.WritesIn.refl d _).put (f := R.MW_CH_CNT_FIRES) _ (.inl ⟨c, hc, rfl⟩)
  have hwatch := (hcount.wr (r := R.MW_WATCH) (ix := [c / 64]) ((d.bump R.MW_CH_CNT_FIRES [c]).rd R.MW_WATCH [c / 64]
    ||| BitVec.ofNat 64 (2 ^ (c % 64))) (.inr (.inl ⟨c / 64, by omega, rfl⟩))).ite (p := (d.bump R.MW_CH_CNT_FIRES [c]).chMode c = 2) hcount
  exact (hwatch.setFlag (f := R.RM_IRQ_PEND_EVENT) (ix := []) true (.inr (.inr rfl))).ite hwatch

/-- Firing a channel leaves every register but these. -/
theorem Device.fireStamped_rd (stamp : Option TT) {r : Reg} {ix : List Nat} (h : ¬ firingArea (r.addr ix)) :
    (d.fireStamped c stamp).rd r ix = d.rd r ix := by
  have hcoll : r.addr ix ≠ R.MW_CH_CNT_COLL.reg.addr [c] := fun ha => h (.inl ⟨c, hc, ha⟩)
  unfold Device.fireStamped
  split
  · exact Device.rd_put_ne _ _ hcoll
  · exact (Device.firingMarks_writes _ hc).regs r ix h

end

theorem Device.fireIf_rd (d : Device) {en sel : Fld} {ix : List Nat} (hsel : sel.width = 8) {r : Reg} {jx : List Nat}
    (h : ¬ firingArea (r.addr jx)) : (d.fireIf en sel ix).rd r jx = d.rd r jx := by
  have hlt : d.get sel ix < 256 := (d.get_lt sel ix).trans_eq (by rw [hsel]; rfl)
  unfold Device.fireIf
  split
  · exact d.fireStamped_rd hlt none h
  · rfl

end Sys2Proof.Machine
end

section
/-! Scope: the health commands, mailbox group 0x0F (R475 to R482): each command past its checks, and the group. -/

namespace Sys2Proof.Machine

section
variable {d : Device} {e : Entry}

/-! ### HEALTH_QUERY and HEALTH_SENSORS (R479, R480) -/

/-- HEALTH_QUERY's payload. -/
def Device.healthReport (d : Device) : List Byte :=
  layout [(2, d.get R.HM_TMAX_TEMP []), (1, d.get R.HM_TMAX_WHICH []), (1, (d.rd R.HM_EVT []).toNat % 64),
    (2, code 16 (d.stackTemp 0)), (2, code 16 (d.stackTemp 1)), (2, d.get R.PW_PACE_STAT_VREQ []), (2, d.get R.HM_VMON_MV [3]),
    (2, d.get R.PW_PACE_STAT_MIN_RATIO []), (1, d.get R.PW_PACE_STAT_MIN_BOOTH []), (1, d.get R.HM_STAT_THROTTLE []),
    (1, d.get R.HM_RSTCAUSE_CAUSE []), (1, d.mode)]

theorem Device.healthQuery_reports (h : e.u 12 52 = 0) : Device.healthQuery e d = d.ok d.healthReport := if_neg (not_not.mpr h)

/-- What HEALTH_SENSORS writes: the sensors, the rails, the stacks. -/
def Device.sensorBytes (d : Device) : List Byte :=
  (List.range 32).flatMap (fun k => leBytes 2 (d.get R.HM_TEMP_TEMP [k])) ++ (List.range 11).flatMap (fun k => leBytes 2 (d.get R.HM_VMON_MV [k]))
    ++ (List.range 2).flatMap (fun k => leBytes 2 (code 16 (d.stackTemp k)))

theorem Device.healthSensors_writes (h : 96 ≤ e.outLen) :
    Device.healthSensors e d = { status := stOK, out := d.sensorBytes, dev := d } := if_neg (Nat.not_lt.2 h)

/-! ### HEALTH_LIMITS (R480 to R482) -/

/-- The registers as HEALTH_LIMITS sets them. -/
def Device.limitsSet (d : Device) (e : Entry) : Device :=
  let d := ((d.put R.HM_TLIM_T_WARN [] (e.u 12 2)).put R.HM_TLIM_T_LIMIT [] (e.u 14 2)).put R.HM_TLIM_HBM_WARN [] (e.u 16 2)
  let d := (d.setFlag R.HM_CTL_THROTTLE_EN [] (bit (e.u 18 1) 0)).put R.HM_CTL_ECC_WARN [] (e.u 20 2)
  (d.setFlag R.HM_EV_CTL_EN [] (bit (e.u 18 1) 1)).put R.HM_EV_CTL_EV [] (e.u 19 1)

theorem Device.healthLimits_sets (hres : e.u 22 42 = 0) (hflags : e.u 18 1 ≤ 3) (hlo : 1440 ≤ e.s 14 2) (hhi : e.s 14 2 ≤ 1840)
    (hwarn : e.s 12 2 < e.s 14 2) : Device.healthLimits e d = (d.limitsSet e).ok [] := if_neg (by omega)

section
variable (d e)

theorem Device.limitsSet_warn : (d.limitsSet e).get R.HM_TLIM_T_WARN [] = e.u 12 2 := by
  simp (disch := decide) only [Device.limitsSet, Device.get_put_beside, Device.get_setFlag_beside]
  exact Device.get_put_fit _ _ (by decide) (e.u_lt 12 2)

theorem Device.limitsSet_limit : (d.limitsSet e).get R.HM_TLIM_T_LIMIT [] = e.u 14 2 := by
  simp (disch := decide) only [Device.limitsSet, Device.get_put_beside, Device.get_setFlag_beside]
  exact Device.get_put_fit _ _ (by decide) (e.u_lt 14 2)

theorem Device.limitsSet_hbmWarn : (d.limitsSet e).get R.HM_TLIM_HBM_WARN [] = e.u 16 2 := by
  simp (disch := decide) only [Device.limitsSet, Device.get_put_beside, Device.get_setFlag_beside]
  exact Device.get_put_fit _ _ (by decide) (e.u_lt 16 2)

theorem Device.limitsSet_throttle : (d.limitsSet e).flag R.HM_CTL_THROTTLE_EN [] = bit (e.u 18 1) 0 := by
  simp (disch := decide) only [Device.limitsSet, Device.flag_put_beside, Device.flag_setFlag_beside]
  exact Device.flag_setFlag_same _ _ _ _ (by decide) (by decide)

theorem Device.limitsSet_ecc : (d.limitsSet e).get R.HM_CTL_ECC_WARN [] = e.u 20 2 := by
  simp (disch := decide) only [Device.limitsSet, Device.get_put_beside, Device.get_setFlag_beside]
  exact Device.get_put_fit _ _ (by decide) (e.u_lt 20 2)

theorem Device.limitsSet_en : (d.limitsSet e).flag R.HM_EV_CTL_EN [] = bit (e.u 18 1) 1 := by
  simp (disch := decide) only [Device.limitsSet, Device.flag_put_beside]
  exact Device.flag_setFlag_same _ _ _ _ (by decide) (by decide)

theorem Device.limitsSet_ev : (d.limitsSet e).get R.HM_EV_CTL_EV [] = e.u 19 1 := Device.get_put_fit _ _ (by decide) (e.u_lt 19 1)

end

/-! ### PACE_CONFIG (R476 to R478) -/

/-- The fields of a PACE_CONFIG lie in their ranges. -/
structure Entry.PaceForm (e : Entry) : Prop where
  reserved : e.u 24 40 = 0
  flags : e.u 12 1 ≤ 3
  addr : e.u 13 1 ≤ 127
  expLow : -16 ≤ e.s 15 1
  expHigh : e.s 15 1 ≤ 15
  stepLow : 1 ≤ e.u 18 1
  stepHigh : e.u 18 1 ≤ 25
  jumpLow : 1 ≤ e.u 19 1
  jumpHigh : e.u 19 1 ≤ 100
  periodLow : 50 ≤ e.u 20 2
  periodHigh : e.u 20 2 ≤ 10000

/-- The registers of the AVS port and of the loop as PACE_CONFIG writes them, the loop not yet enabled. -/
def Device.paceWritten (d : Device) (e : Entry) : Device :=
  let d := (d.put R.PW_AVS_CFG_ADDR [] (e.u 13 1)).put R.PW_AVS_CFG_PAGE [] (e.u 14 1)
  let d := (d.setFlag R.PW_AVS_CFG_PAGE_EN [] (bit (e.u 12 1) 1)).put R.PW_AVS_CFG_EXP [] (code 5 (e.s 15 1))
  let d := d.setFlag R.PW_AVS_CFG_VALID [] true
  let d := (d.put R.PW_PACE_CTL_TARGET [] (e.u 16 2)).put R.PW_PACE_CTL_STEP_MV [] (e.u 18 1)
  let d := (d.put R.PW_PACE_CTL_JUMP_MV [] (e.u 19 1)).put R.PW_PACE_CTL_PERIOD_US [] (e.u 20 2)
  d.put R.PW_PACE_HYST_HYST [] (e.u 22 2)

/-- PACE_CONFIG has given the loop its EN. -/
def Device.configured (d : Device) (en : Bool) : Device := { d with pow := { d.pow with configured := en } }

/-- The loop has its configuration, and runs in an operating mode where that enables it. -/
def Device.loopEnabled (d : Device) (en : Bool) : Device :=
  (d.configured en).setFlag R.PW_PACE_CTL_EN [] (en && (decide ((d.configured en).mode = 1) || decide ((d.configured en).mode = 2)))

/-- PACE_CONFIG has set up the loop. -/
def Device.paceSet (d : Device) (e : Entry) : Device := (d.paceWritten e).loopEnabled (bit (e.u 12 1) 0)

theorem Device.loopEnabled_get (d : Device) (en : Bool) {f : Fld} (h : f.beside R.PW_PACE_CTL_EN = true) :
    (d.loopEnabled en).get f [] = d.get f [] := Device.get_setFlag_beside _ _ _ h

theorem Device.loopEnabled_en (d : Device) (en : Bool) :
    (d.loopEnabled en).flag R.PW_PACE_CTL_EN [] = (en && (decide (d.mode = 1) || decide (d.mode = 2))) :=
  Device.flag_setFlag_same _ _ _ _ (by decide) (by decide)

theorem Device.loopEnabled_pow (d : Device) (en : Bool) : (d.loopEnabled en).pow = { d.pow with configured := en } := rfl

theorem Device.paceWritten_mode (d : Device) (e : Entry) : (d.paceWritten e).mode = d.mode := by
  simp (disch := decide) only [Device.mode, Device.paceWritten, Device.get_put_beside, Device.get_setFlag_beside]

theorem Device.setFlag_pow (d : Device) (f : Fld) (ix : List Nat) (b : Bool) : (d.setFlag f ix b).pow = d.pow := rfl

theorem Device.paceWritten_pow (d : Device) (e : Entry) : (d.paceWritten e).pow = d.pow := by
  simp only [Device.paceWritten, Device.put_pow, Device.setFlag_pow]

theorem Device.paceConfig_sets (h : e.PaceForm) : Device.paceConfig true e d = (d.paceSet e).narrowCore.ok [] := by
  obtain ⟨hres, hflags, haddr, hexpLow, hexpHigh, hstepLow, hstepHigh, hjumpLow, hjumpHigh, hlow, hhigh⟩ := h
  rw [Device.paceConfig, if_neg (by omega), if_neg (by decide)]
  rfl

theorem Device.paceConfig_nak (h : e.PaceForm) : Device.paceConfig false e d = { status := 0x0F10, dev := d.avsSend 0 3 } := by
  obtain ⟨hres, hflags, haddr, hexpLow, hexpHigh, hstepLow, hstepHigh, hjumpLow, hjumpHigh, hlow, hhigh⟩ := h
  exact (if_neg (by omega)).trans (if_pos rfl)

theorem code_lt (w : Nat) (i : Int) : code w i < 2 ^ w := by
  have hpos : (0 : Int) < ((2 ^ w : Nat) : Int) := by exact_mod_cast Nat.two_pow_pos w
  have hlo := Int.emod_nonneg i hpos.ne'
  have hhi := Int.emod_lt_of_pos i hpos
  unfold code
  omega

section
variable (d)

theorem Device.paceSet_pow (e : Entry) : (d.paceSet e).pow = { d.pow with configured := bit (e.u 12 1) 0 } := by
  rw [Device.paceSet, Device.loopEnabled_pow, Device.paceWritten_pow]

theorem Device.paceSet_get (e : Entry) {f : Fld} (h : f.beside R.PW_PACE_CTL_EN = true) :
    (d.paceSet e).get f [] = (d.paceWritten e).get f [] := Device.loopEnabled_get _ _ h

theorem Device.paceSet_addr (h : e.PaceForm) : (d.paceSet e).get R.PW_AVS_CFG_ADDR [] = e.u 13 1 := by
  rw [Device.paceSet_get _ _ (by decide)]
  simp (disch := decide) only [Device.paceWritten, Device.get_put_beside, Device.get_setFlag_beside]
  exact Device.get_put_fit _ _ (by decide) (h.addr.trans_lt (by decide))

theorem Device.paceSet_page (e : Entry) : (d.paceSet e).get R.PW_AVS_CFG_PAGE [] = e.u 14 1 := by
  rw [Device.paceSet_get _ _ (by decide)]
  simp (disch := decide) only [Device.paceWritten, Device.get_put_beside, Device.get_setFlag_beside]
  exact Device.get_put_fit _ _ (by decide) (e.u_lt 14 1)

theorem Device.paceSet_pageEn (e : Entry) : (d.paceSet e).flag R.PW_AVS_CFG_PAGE_EN [] = bit (e.u 12 1) 1 := by
  rw [Device.flag_of_get (Device.paceSet_get _ _ (by decide))]
  simp (disch := decide) only [Device.paceWritten, Device.flag_put_beside, Device.flag_setFlag_beside]
  exact Device.flag_setFlag_same _ _ _ _ (by decide) (by decide)

theorem Device.paceSet_exp (e : Entry) : (d.paceSet e).get R.PW_AVS_CFG_EXP [] = code 5 (e.s 15 1) := by
  rw [Device.paceSet_get _ _ (by decide)]
  simp (disch := decide) only [Device.paceWritten, Device.get_put_beside, Device.get_setFlag_beside]
  exact Device.get_put_fit _ _ (by decide) (code_lt _ _)

theorem Device.paceSet_valid (e : Entry) : (d.paceSet e).flag R.PW_AVS_CFG_VALID [] = true := by
  rw [Device.flag_of_get (Device.paceSet_get _ _ (by decide))]
  simp (disch := decide) only [Device.paceWritten, Device.flag_put_beside]
  exact Device.flag_setFlag_same _ _ _ _ (by decide) (by decide)

theorem Device.paceSet_target (e : Entry) : (d.paceSet e).get R.PW_PACE_CTL_TARGET [] = e.u 16 2 := by
  rw [Device.paceSet_get _ _ (by decide)]
  simp (disch := decide) only [Device.paceWritten, Device.get_put_beside]
  exact Device.get_put_fit _ _ (by decide) (e.u_lt 16 2)

theorem Device.paceSet_step (e : Entry) : (d.paceSet e).get R.PW_PACE_CTL_STEP_MV [] = e.u 18 1 := by
  rw [Device.paceSet_get _ _ (by decide)]
  simp (disch := decide) only [Device.paceWritten, Device.get_put_beside]
  exact Device.get_put_fit _ _ (by decide) (e.u_lt 18 1)

theorem Device.paceSet_jump (e : Entry) : (d.paceSet e).get R.PW_PACE_CTL_JUMP_MV [] = e.u 19 1 := by
  rw [Device.paceSet_get _ _ (by decide)]
  simp (disch := decide) only [Device.paceWritten, Device.get_put_beside]
  exact Device.get_put_fit _ _ (by decide) (e.u_lt 19 1)

theorem Device.paceSet_period (e : Entry) : (d.paceSet e).get R.PW_PACE_CTL_PERIOD_US [] = e.u 20 2 := by
  rw [Device.paceSet_get _ _ (by decide)]
  simp (disch := decide) only [Device.paceWritten, Device.get_put_beside]
  exact Device.get_put_fit _ _ (by decide) (e.u_lt 20 2)

theorem Device.paceSet_hyst (e : Entry) : (d.paceSet e).get R.PW_PACE_HYST_HYST [] = e.u 22 2 := by
  rw [Device.paceSet_get _ _ (by decide)]
  exact Device.get_put_fit _ _ (by decide) (e.u_lt 22 2)

theorem Device.paceSet_en (e : Entry) : (d.paceSet e).flag R.PW_PACE_CTL_EN []
    = (bit (e.u 12 1) 0 && (decide (d.mode = 1) || decide (d.mode = 2))) := by
  rw [Device.paceSet, Device.loopEnabled_en, Device.paceWritten_mode]

end

/-- The AVS port after three tries that the regulator did not acknowledge, the warning not yet raised. -/
def Device.avsTried (d : Device) : Device :=
  ({ d.bumpBy R.PW_PACE_STAT_NAKS [] 3 with pow := { d.pow with totNaks := d.pow.totNaks + 3 } } : Device).setFlag
    R.PW_PACE_STAT_AVS_FAIL [] true

theorem Device.avsSend_fails (d : Device) (vout : Nat) : d.avsSend vout 3 = d.avsTried.warn 5 := rfl

theorem Device.warn_rd (d : Device) {r : Reg} (hevt : r.beside R.HM_EVT = true) (hirq : r.beside R.RM_IRQ_PEND = true)
    (h : ¬ firingArea (r.addr [])) : (d.warn 5).rd r [] = d.rd r [] :=
  (Device.fireIf_rd _ rfl h).trans
    ((Device.rd_setFlag_beside (f := R.RM_IRQ_PEND_HEALTH) _ _ _ hirq).trans (Device.rd_setFlag_beside (f := R.HM_EVT_AVS_FAIL) _ _ _ hevt))

theorem Device.avsSend_stat (d : Device) (vout : Nat) : (d.avsSend vout 3).rd R.PW_PACE_STAT [] = d.avsTried.rd R.PW_PACE_STAT [] := by
  rw [Device.avsSend_fails, Device.warn_rd _ (by decide) (by decide) (not_firingArea (by decide) (by decide))]

/-- A failed attempt changes the status of the loop alone among its registers. -/
theorem Device.avsSend_rd (d : Device) (vout : Nat) {r : Reg} (hevt : r.beside R.HM_EVT = true) (hirq : r.beside R.RM_IRQ_PEND = true)
    (hstat : r.beside R.PW_PACE_STAT = true) (h : ¬ firingArea (r.addr [])) : (d.avsSend vout 3).rd r [] = d.rd r [] := by
  rw [Device.avsSend_fails, Device.warn_rd _ hevt hirq h, Device.avsTried, Device.rd_setFlag_beside _ _ _ hstat]
  exact Device.rd_put_beside (f := R.PW_PACE_STAT_NAKS) _ _ _ hstat

theorem Device.avsTried_naks (d : Device) : d.avsTried.get R.PW_PACE_STAT_NAKS [] = satAdd 16 (d.get R.PW_PACE_STAT_NAKS []) 3 := by
  have hfit : satAdd 16 (d.get R.PW_PACE_STAT_NAKS []) 3 < 2 ^ 16 := by
    simp only [satAdd]
    omega
  rw [Device.avsTried, Device.get_setFlag_beside _ _ _ (by decide)]
  exact Device.get_put_fit _ _ (by decide) hfit

theorem Device.avsTried_fail (d : Device) : d.avsTried.flag R.PW_PACE_STAT_AVS_FAIL [] = true :=
  Device.flag_setFlag_same _ _ _ _ (by decide) (by decide)

/-! ### HEALTH_COUNTERS (R479 to R482) -/

/-- HEALTH_COUNTERS's payload. -/
def Device.totalsReport (d : Device) : List Byte :=
  (List.range 6).flatMap (fun k => leBytes 2 (min (d.pow.totWarn.get 0 k) 65535))
    ++ layout [(4, d.pow.totThrottleUs / 1000), (4, d.pow.totShort), (4, d.pow.totNaks),
      (2, d.get R.HM_RSTCAUSE_COUNT [] - d.pow.totResets)]

/-- HEALTH_COUNTERS with CLEAR: the totals start again. -/
def Device.totalsCleared (d : Device) : Device :=
  { d with pow := { d.pow with totWarn := [], totThrottleUs := 0, totShort := 0, totNaks := 0, totResets := d.get R.HM_RSTCAUSE_COUNT [] } }

theorem Device.healthCounters_reports (hflags : e.u 12 1 ≤ 1) (hres : e.u 13 51 = 0) :
    Device.healthCounters e d = (if e.u 12 1 = 1 then d.totalsCleared else d).ok d.totalsReport := if_neg (by omega)

end

/-! ### The group -/

/-- Settles O53, command by command: each reports, or sets its registers, once its own checks are passed. -/
theorem healthCommands : Obligations.HealthCommands := by
  unfold Obligations.HealthCommands
  refine ⟨fun s e hres => ?query, fun s e hres hflags hlo hhi hwarn => ?limits, ?pace, ?nak, fun s e hroom => ?sensors,
    fun s e p hp hflags hres => ?counters⟩
  case query =>
    refine State.gives_of (body := Device.healthQuery e) rfl fun _ => ?_
    rw [Device.healthQuery_reports hres]
    exact ⟨rfl, rfl, rfl⟩
  case limits =>
    refine State.gives_of (body := Device.healthLimits e) rfl fun _ => ?_
    rw [Device.healthLimits_sets hres hflags hlo hhi hwarn]
    exact ⟨rfl, rfl, rfl, Device.limitsSet_warn _ e, Device.limitsSet_limit _ e, Device.limitsSet_hbmWarn _ e,
      Device.limitsSet_throttle _ e, Device.limitsSet_ecc _ e, Device.limitsSet_en _ e, Device.limitsSet_ev _ e⟩
  case pace =>
    intro s e hres hflags haddr hexpLow hexpHigh hstepLow hstepHigh hjumpLow hjumpHigh hlow hhigh
    have hform : e.PaceForm := ⟨hres, hflags, haddr, hexpLow, hexpHigh, hstepLow, hstepHigh, hjumpLow, hjumpHigh, hlow, hhigh⟩
    refine State.gives_of (body := Device.paceConfig true e) rfl fun _ => ?_
    rw [Device.paceConfig_sets hform]
    exact ⟨rfl, rfl, (s.dev.entered e).paceSet e, rfl, Device.paceSet_pow _ e, Device.paceSet_addr _ hform, Device.paceSet_page _ e, Device.paceSet_pageEn _ e,
      Device.paceSet_exp _ e, Device.paceSet_valid _ e, Device.paceSet_target _ e, Device.paceSet_step _ e, Device.paceSet_jump _ e,
      Device.paceSet_period _ e, Device.paceSet_hyst _ e, Device.paceSet_en _ e⟩
  case nak =>
    intro s e hres hflags haddr hexpLow hexpHigh hstepLow hstepHigh hjumpLow hjumpHigh hlow hhigh
    refine State.gives_of (body := Device.paceConfig false e) rfl fun _ => ?_
    rw [Device.paceConfig_nak ⟨hres, hflags, haddr, hexpLow, hexpHigh, hstepLow, hstepHigh, hjumpLow, hjumpHigh, hlow, hhigh⟩]
    exact ⟨rfl, rfl, (Device.get_of_rd (Device.avsSend_stat _ 0)).trans (Device.avsTried_naks _),
      (Device.flag_of_get (Device.get_of_rd (Device.avsSend_stat _ 0))).trans (Device.avsTried_fail _),
      Device.avsSend_rd _ 0 (by decide) (by decide) (by decide) (not_firingArea (by decide) (by decide)),
      Device.avsSend_rd _ 0 (by decide) (by decide) (by decide) (not_firingArea (by decide) (by decide))⟩
  case sensors =>
    refine State.gives_of (body := Device.healthSensors e) rfl fun _ => ?_
    rw [Device.healthSensors_writes hroom]
    exact ⟨rfl, rfl, rfl⟩
  case counters =>
    subst hp
    refine State.gives_of (body := Device.healthCounters e) rfl fun _ => ?_
    rw [Device.healthCounters_reports hflags hres, ← s.dev.entered_pow e]
    exact ⟨rfl, rfl, rfl⟩

end Sys2Proof.Machine
end

section
/-! Scope: the anti-rollback floor (R446): a request for it, case by case. -/

namespace Sys2Proof.Machine

/-- A target above the running image is marked CAPPED. -/
def Device.svnCapped (d : Device) (target : Nat) : Device :=
  if d.get R.SEC_BOOT_IMAGE_SVN [] < target then d.setFlag R.SEC_SVN_REQ_CAPPED [] true else d

section
variable {d : Device} {target : Nat}

theorem Device.svnCapped_sec (d : Device) (target : Nat) : (d.svnCapped target).sec = d.sec := by
  unfold Device.svnCapped
  split <;> rfl

theorem Device.svnCapped_busy (d : Device) (target : Nat) :
    (d.svnCapped target).flag R.SEC_SVN_REQ_BUSY [] = d.flag R.SEC_SVN_REQ_BUSY [] := by
  unfold Device.svnCapped
  split
  · exact Device.flag_setFlag_beside _ _ _ (by decide)
  · rfl

theorem Device.svnCapped_capped (h : d.get R.SEC_BOOT_IMAGE_SVN [] < target) : (d.svnCapped target).flag R.SEC_SVN_REQ_CAPPED [] = true := by
  rw [Device.svnCapped, if_pos h]
  exact Device.flag_setFlag_same _ _ _ _ (by decide) (by decide)

/-- The fuses of a floor are being programmed. -/
def Device.svnAsked (d : Device) (target goal : Nat) : Device :=
  ((d.svnCapped target).setSec { d.sec with svnTarget := goal }).setFlag R.SEC_SVN_REQ_BUSY [] true

theorem Device.svnAsked_sec (goal : Nat) : (d.svnAsked target goal).sec = { d.sec with svnTarget := goal } := rfl

theorem Device.svnAsked_busy (goal : Nat) : (d.svnAsked target goal).flag R.SEC_SVN_REQ_BUSY [] = true :=
  Device.flag_setFlag_same _ _ _ _ (by decide) (by decide)

theorem Device.svnAsked_capped (h : d.get R.SEC_BOOT_IMAGE_SVN [] < target) (goal : Nat) :
    (d.svnAsked target goal).flag R.SEC_SVN_REQ_CAPPED [] = true :=
  (Device.flag_setFlag_beside _ _ _ (by decide)).trans (Device.svnCapped_capped h)

theorem Device.svnRequest_busy (h : d.flag R.SEC_SVN_REQ_BUSY [] = true) : d.svnRequest target = d := if_pos h

section
variable (hfree : d.flag R.SEC_SVN_REQ_BUSY [] = false)
include hfree

theorem Device.svnRequest_asks (h : d.sec.floor < min target (d.get R.SEC_BOOT_IMAGE_SVN [])) :
    d.svnRequest target = d.svnAsked target (min target (d.get R.SEC_BOOT_IMAGE_SVN [])) := by
  have hopen : ¬ min target (d.get R.SEC_BOOT_IMAGE_SVN []) ≤ (d.svnCapped target).sec.floor := by
    rw [Device.svnCapped_sec]
    exact Nat.not_le.2 h
  rw [Device.svnAsked, ← d.svnCapped_sec target]
  exact (if_neg (ne_true_of_eq_false hfree)).trans (if_neg hopen)

theorem Device.svnRequest_stands (h : min target (d.get R.SEC_BOOT_IMAGE_SVN []) ≤ d.sec.floor) :
    d.svnRequest target = d.svnCapped target := by
  have hmet : min target (d.get R.SEC_BOOT_IMAGE_SVN []) ≤ (d.svnCapped target).sec.floor := by rwa [Device.svnCapped_sec]
  exact (if_neg (ne_true_of_eq_false hfree)).trans (if_pos hmet)

end

end

end Sys2Proof.Machine
end

section
/-! Scope: the security commands, mailbox group 0x0E (R438, R441, R446, R447, R454, R458, R460, R463): each command past its checks, and
the group. -/

namespace Sys2Proof.Machine

section
variable {d : Device} {e : Entry}

/-! ### SEC_QUERY, ATTEST and ID_CERT (R454, R458) -/

/-- SEC_QUERY's payload. -/
def Device.secReport (d : Device) : List Byte :=
  layout [(1, d.lifecycle), (1, d.get R.SEC_STAT_LC_COUNT []), (1, bits (d.rd R.SEC_STAT []).toNat 9 7), (1, d.get R.SEC_BOOT_SLOT []),
    (2, d.sec.floor), (2, d.get R.SEC_BOOT_IMAGE_SVN []), (2, (d.rd R.SEC_SLOTS []).toNat % 65536), (6, 0), (8, d.sec.dieId),
    (4, d.sec.fwVersion)]

theorem Device.secQuery_reports (h : e.u 12 52 = 0) : Device.secQuery e d = d.ok d.secReport := if_neg (not_not.mpr h)

/-- ATTEST asks for its quote where none is under way. -/
def Device.attestAsked (d : Device) (nonce : List Byte) : Device :=
  if d.attestWork ≠ none ∨ d.flag R.SEC_Q_CTL_BUSY [] = true then d else d.quoteAsk nonce

section
variable (hlen : e.inLen = 32) (hroom : 352 ≤ e.outLen)
include hlen hroom

theorem Device.attest_holds (hkey : d.sec.idKey ≠ none) :
    Device.attest e d = (d.attestAsked (d.input e)).later ((d.input e).map (·.toNat)) := by
  have hasked : (if d.attestWork.isSome = true ∨ d.flag R.SEC_Q_CTL_BUSY [] = true then d else d.quoteAsk (d.input e))
      = d.attestAsked (d.input e) := if_congr (or_congr_left Option.isSome_iff_ne_none) rfl rfl
  rw [Device.attest, if_neg (by omega), if_neg (by simpa using hkey)]
  simp only [hasked]

theorem Device.attest_noKey (hkey : d.sec.idKey = none) : Device.attest e d = d.no 0x0E13 :=
  (if_neg (by omega)).trans (if_pos (by rw [hkey]; rfl))

end

section
variable (hroom : 4096 ≤ e.outLen)
include hroom

theorem Device.idCert_writes (h : d.flag R.SEC_STAT_CERT_OK [] = true) : Device.idCert e d =
    { status := stOK, out := (d.sec.flashRead 0x00FF0000 4096).take (certLength (d.sec.flashRead 0x00FF0000 4096)), dev := d } :=
  (if_neg (Nat.not_lt.2 hroom)).trans (if_neg (by rw [h]; decide))

theorem Device.idCert_none (h : d.flag R.SEC_STAT_CERT_OK [] = false) : Device.idCert e d = d.no 0x0E13 :=
  (if_neg (Nat.not_lt.2 hroom)).trans (if_pos (by rw [h]; rfl))

end

/-! ### SEC_REQUEST, DEBUG_OPEN and SVN_COMMIT (R446, R447, R463) -/

/-- A signed request goes to the unit where none is under check. -/
def Device.requestAsked (d : Device) (rq : List Byte) : Device :=
  if d.requestWork = none ∧ d.flag R.SEC_REQ_CTL_BUSY [] = false then d.requestSubmit rq else d

theorem Device.signedRequest_holds {debug : Bool} (hlen : e.inLen = 320 ∨ e.inLen = 520)
    (hdebug : debug = true → fieldAt (d.input e) 6 1 = 5) :
    Device.signedRequest debug e d = (d.requestAsked (d.input e)).later ((d.input e).map (·.toNat)) := by
  have hidle : (d.requestWork.isNone && !d.flag R.SEC_REQ_CTL_BUSY []) = true
      ↔ d.requestWork = none ∧ d.flag R.SEC_REQ_CTL_BUSY [] = false := by simp
  have hasked : (if (d.requestWork.isNone && !d.flag R.SEC_REQ_CTL_BUSY []) = true then d.requestSubmit (d.input e) else d)
      = d.requestAsked (d.input e) := if_congr hidle rfl rfl
  have hkind : ¬(debug = true ∧ fieldAt (d.input e) 6 1 ≠ 5) := fun h => h.2 (hdebug h.1)
  rw [Device.signedRequest, if_neg (by omega), if_neg hkind]
  simp only [hasked]

/-- The floor that SVN_COMMIT names: that of the running image, where it says so. -/
def Device.floorNamed (d : Device) (e : Entry) : Nat := if e.u 12 2 = 0xFFFF then d.get R.SEC_BOOT_IMAGE_SVN [] else e.u 12 2

section
variable (hrange : e.u 12 2 ≤ 4096 ∨ e.u 12 2 = 0xFFFF) (hres : e.u 14 50 = 0) (hfree : d.flag R.SEC_SVN_REQ_BUSY [] = false)
include hrange hres hfree

/-- Past its checks SVN_COMMIT asks, and answers at once where the floor stands already. -/
theorem Device.svnCommit_asks : Device.svnCommit e d = if (d.svnRequest (d.floorNamed e)).flag R.SEC_SVN_REQ_BUSY [] then
      (d.svnRequest (d.floorNamed e)).later []
    else (d.svnRequest (d.floorNamed e)).ok (leBytes 2 (d.svnRequest (d.floorNamed e)).sec.floor) := by
  rw [Device.svnCommit, if_neg (by omega), if_neg (ne_true_of_eq_false hfree)]
  rfl

theorem Device.svnCommit_waits (h : d.sec.floor < min (d.floorNamed e) (d.get R.SEC_BOOT_IMAGE_SVN [])) :
    Device.svnCommit e d = (d.svnAsked (d.floorNamed e) (min (d.floorNamed e) (d.get R.SEC_BOOT_IMAGE_SVN []))).later [] := by
  rw [Device.svnCommit_asks hrange hres hfree, Device.svnRequest_asks hfree h, if_pos (Device.svnAsked_busy _)]

theorem Device.svnCommit_stands (h : min (d.floorNamed e) (d.get R.SEC_BOOT_IMAGE_SVN []) ≤ d.sec.floor) :
    Device.svnCommit e d = (d.svnCapped (d.floorNamed e)).ok (leBytes 2 d.sec.floor) := by
  have hidle : (d.svnCapped (d.floorNamed e)).flag R.SEC_SVN_REQ_BUSY [] = false := (Device.svnCapped_busy _ _).trans hfree
  rw [Device.svnCommit_asks hrange hres hfree, Device.svnRequest_stands hfree h, if_neg (ne_true_of_eq_false hidle), Device.svnCapped_sec]

end

/-! ### FW_STAGE and FW_ACTIVATE (R438, R441) -/

/-- The input of a FW_STAGE lies in its ranges. -/
structure StageForm (b : List Byte) (len : Nat) : Prop where
  length : 8 ≤ len
  slot : fieldAt b 0 1 ≤ 1
  reserved : fieldAt b 1 3 = 0
  aligned : fieldAt b 4 4 % 4096 = 0
  within : fieldAt b 4 4 + (len - 8) ≤ 16777216

section
variable (h : StageForm (d.input e) e.inLen)
include h

theorem Device.fwStage_queues (hslot : fieldAt (d.input e) 0 1 ≠ d.get R.SEC_BOOT_SLOT []) : Device.fwStage e d
    = d.flashJob 0x0E05 (slotBase (fieldAt (d.input e) 0 1) + fieldAt (d.input e) 4 4) ((d.input e).drop 8) := by
  obtain ⟨hlen, hmax, hres, haligned, hwithin⟩ := h
  exact (if_neg (by omega)).trans ((if_neg (by omega)).trans (if_neg hslot))

theorem Device.fwStage_busy (hslot : fieldAt (d.input e) 0 1 = d.get R.SEC_BOOT_SLOT []) : Device.fwStage e d = d.no stBUSY := by
  obtain ⟨hlen, hmax, hres, haligned, hwithin⟩ := h
  exact (if_neg (by omega)).trans ((if_neg (by omega)).trans (if_pos hslot))

end

/-- Past its checks FW_ACTIVATE queues the boot select record, unless the image does not verify. -/
theorem Device.fwActivate_checks (hslot : e.u 12 1 ≤ 1) (hres : e.u 13 51 = 0) (hlow : 1 ≤ d.lifecycle) (hhigh : d.lifecycle ≤ 4) :
    Device.fwActivate e d = if d.sec.imageError d.lifecycle (e.u 12 1) ≠ 0 then
      { status := 0x0E15, payload := leBytes 1 (d.sec.imageError d.lifecycle (e.u 12 1)), dev := d }
    else d.flashJob 0x0E06 0x00FE0000 (bootSelect (e.u 12 1)) := by
  have hkey : lcHasKey d.lifecycle = true := decide_eq_true ⟨hlow, hhigh⟩
  rw [Device.fwActivate, if_neg (by omega), if_neg (by rw [hkey]; decide)]

/-! ### DEBUG_CHALLENGE (R460) -/

theorem Device.debugChallenge_draws (hres : e.u 12 52 = 0) (hlow : 2 ≤ d.lifecycle) (hhigh : d.lifecycle ≤ 4) :
    Device.debugChallenge e d = d.newChallenge.ok d.newChallenge.challenge := (if_neg (not_not.mpr hres)).trans (if_neg (by omega))

theorem Device.debugChallenge_refused (hres : e.u 12 52 = 0) (h : d.lifecycle < 2 ∨ 4 < d.lifecycle) :
    Device.debugChallenge e d = d.no stLIFECYCLE := (if_neg (not_not.mpr hres)).trans (if_pos h)

end

theorem Device.entered_lifecycle (d : Device) (e : Entry) : (d.entered e).lifecycle = d.lifecycle := d.entered_get e _ _

theorem Device.entered_floorNamed (d : Device) (e : Entry) : (d.entered e).floorNamed e = d.floorNamed e := by
  rw [Device.floorNamed, Device.entered_get, ← Device.floorNamed]

/-! ### The group -/

/-- Settles O52, command by command: each answers at once, or hands its work to the unit or to the flash, once its own checks are
passed. -/
theorem securityCommands : Obligations.SecurityCommands := by
  unfold Obligations.SecurityCommands
  refine ⟨fun s e hres => ?query, fun s e b hb hlen hroom hkey => ?attest, fun s e hlen hroom hkey => ?noKey,
    fun s e area harea hroom hcert => ?cert, fun s e hroom hcert => ?noCert, fun s e b hb hlen => ?request,
    fun s e b hb hlen hkind => ?debugOpen, fun s e t goal ht hrange hres hfree hgoal hlow => ?svnWaits,
    fun s e t ht hrange hres hfree hmet => ?svnStands,
    fun s e b slot off hb hslot hoff hlen hmax hres haligned hwithin hother => ?stage,
    fun s e b slot off hb hslot hoff hlen hmax hres haligned hwithin hrunning => ?stageBusy,
    fun s e slot hslot hmax hres hlow hhigh => ?activate, fun s e hres hlow hhigh => ?challenge, fun s e hres hlc => ?noChallenge⟩
  case query =>
    refine State.gives_of (body := Device.secQuery e) rfl fun _ => ?_
    rw [Device.secQuery_reports hres]
    exact ⟨rfl, rfl, rfl⟩
  case attest =>
    subst hb
    refine State.gives_of (body := Device.attest e) rfl fun _ => ?_
    rw [Device.attest_holds hlen hroom (by rwa [Device.entered_sec])]
    exact ⟨rfl, rfl, rfl, rfl⟩
  case noKey => exact State.gives_of (body := Device.attest e) rfl fun _ => Device.attest_noKey hlen hroom (by rwa [Device.entered_sec])
  case cert =>
    subst harea
    refine State.gives_of (body := Device.idCert e) rfl fun _ => ?_
    rw [Device.idCert_writes hroom ((s.dev.entered_flag e _ _).trans hcert)]
    refine ⟨rfl, rfl, ?_⟩
    rw [Device.entered_sec]
  case noCert =>
    exact State.gives_of (body := Device.idCert e) rfl fun _ => Device.idCert_none hroom ((s.dev.entered_flag e _ _).trans hcert)
  case request =>
    subst hb
    refine State.gives_of (body := Device.signedRequest false e) rfl fun _ => ?_
    rw [Device.signedRequest_holds hlen fun hdebug => absurd hdebug (by decide)]
    exact ⟨rfl, rfl, rfl, rfl⟩
  case debugOpen =>
    subst hb
    refine State.gives_of (body := Device.signedRequest true e) rfl fun _ => ?_
    rw [Device.signedRequest_holds hlen fun _ => hkind]
    exact ⟨rfl, rfl, rfl, rfl⟩
  case svnWaits =>
    have ht' : (s.dev.entered e).floorNamed e = t := (s.dev.entered_floorNamed e).trans ht
    subst hgoal
    refine State.gives_of (body := Device.svnCommit e) rfl fun _ => ?_
    rw [Device.svnCommit_waits hrange hres ((s.dev.entered_flag e _ _).trans hfree)
      (by rwa [ht', Device.entered_get, Device.entered_sec]), ht', Device.entered_get]
    exact ⟨rfl, rfl, rfl, rfl, Device.svnAsked_busy _, fun hcap => Device.svnAsked_capped (by rwa [Device.entered_get]) _⟩
  case svnStands =>
    have ht' : (s.dev.entered e).floorNamed e = t := (s.dev.entered_floorNamed e).trans ht
    refine State.gives_of (body := Device.svnCommit e) rfl fun _ => ?_
    rw [Device.svnCommit_stands hrange hres ((s.dev.entered_flag e _ _).trans hfree)
      (by rwa [ht', Device.entered_get, Device.entered_sec]), ht']
    exact ⟨rfl, rfl, Device.svnCapped_sec _ _, (Device.svnCapped_busy _ _).trans ((s.dev.entered_flag e _ _).trans hfree)⟩
  case stage =>
    subst hb hslot hoff
    refine State.gives_of (body := Device.fwStage e) rfl fun _ => ?_
    rw [Device.fwStage_queues ⟨hlen, hmax, hres, haligned, hwithin⟩ (by rwa [Device.entered_get])]
    exact ⟨rfl, rfl, rfl, rfl, rfl⟩
  case stageBusy =>
    subst hb hslot hoff
    exact State.gives_of (body := Device.fwStage e) rfl fun _ =>
      Device.fwStage_busy ⟨hlen, hmax, hres, haligned, hwithin⟩ (hrunning.trans (s.dev.entered_get e _ _).symm)
  case activate =>
    subst hslot
    refine State.gives_of (body := Device.fwActivate e) rfl fun _ => ?_
    rw [Device.fwActivate_checks hmax hres (by rwa [Device.entered_lifecycle]) (by rwa [Device.entered_lifecycle])]
    generalize (s.dev.entered e).sec.imageError (s.dev.entered e).lifecycle (e.u 12 1) = err
    by_cases hgood : err = 0
    · rw [if_neg (not_not.mpr hgood), if_pos hgood]
      exact ⟨rfl, rfl, rfl, rfl, rfl⟩
    · rw [if_pos hgood, if_neg hgood]
      exact ⟨rfl, rfl, rfl⟩
  case challenge =>
    refine State.gives_of (body := Device.debugChallenge e) rfl fun _ => ?_
    rw [Device.debugChallenge_draws hres (by rwa [Device.entered_lifecycle]) (by rwa [Device.entered_lifecycle])]
    exact ⟨rfl, rfl, rfl⟩
  case noChallenge =>
    exact State.gives_of (body := Device.debugChallenge e) rfl fun _ =>
      Device.debugChallenge_refused hres (by rwa [Device.entered_lifecycle])

end Sys2Proof.Machine
end

section
/-! Scope: the host link (R414, R417 to R419, R421, R423, R425, R426, R428, R429): the BAR4 aperture, bad accesses, the configuration
and the link, case by case, and the rows. -/

namespace Sys2Proof.Machine

section
variable {d : Device}

theorem Device.hostLinked_of_reach (h : d.hostReach = true) : d.hostLinked = true := by
  rw [Device.hostReach, Bool.and_eq_true, Bool.and_eq_true, ← Device.hostLinked] at h
  exact h.1.1

/-! ### The BAR4 aperture (R421, R422) -/

section
variable {off len : Nat}

theorem Device.bar4Read_ignored (h : d.hostLinked = false ∨ 2 ^ 32 < off + len ∨ len = 0 ∨ d.flag R.WIPE_STAT_BUSY [] = true) :
    d.bar4Read off len = d := if_pos (h.imp_left (congrArg not))

section
variable (hlinked : d.hostLinked = true) (hfits : off + len ≤ 2 ^ 32) (hsome : 0 < len) (hwiped : d.flag R.WIPE_STAT_BUSY [] = false)
include hlinked hfits hsome hwiped

theorem Device.bar4Read_taken : d.bar4Read off len = if !d.hostReach then
      (if d.hst.memSpace then d else d.aerLog .unsupported).completeRead 1 []
    else if hbmSize < d.aperture off + len ∨ !d.netAdmits true false .bar4 (d.aperture off) len then
      ((d.aerLog .unsupported).violation 10 1 (d.aperture off) len (5 * 4096)).completeRead 1 []
    else match d.badIn (d.aperture off) len with
      | some w => (d.memErr true 4 10 0 w).completeRead 2 (d.hbmRead (d.aperture off) len)
      | none => d.completeRead 0 (d.hbmRead (d.aperture off) len) := by
  have hopen : ¬((!d.hostLinked) = true ∨ 2 ^ 32 < off + len ∨ len = 0 ∨ d.flag R.WIPE_STAT_BUSY [] = true) := by
    rw [hlinked, hwiped]
    rintro (h | h | h | h)
    · exact absurd h (by decide)
    · omega
    · omega
    · exact absurd h (by decide)
  exact if_neg hopen

theorem Device.bar4Read_unreached (hreach : d.hostReach = false) :
    d.bar4Read off len = (if d.hst.memSpace then d else d.aerLog .unsupported).completeRead 1 [] :=
  (Device.bar4Read_taken hlinked hfits hsome hwiped).trans (if_pos (by rw [hreach]; rfl))

section
variable (hreach : d.hostReach = true)
include hreach

theorem Device.bar4Read_refused (h : hbmSize < d.aperture off + len ∨ d.netAdmits true false .bar4 (d.aperture off) len = false) :
    d.bar4Read off len = ((d.aerLog .unsupported).violation 10 1 (d.aperture off) len (5 * 4096)).completeRead 1 [] :=
  (Device.bar4Read_taken hlinked hfits hsome hwiped).trans
    ((if_neg (by rw [hreach]; decide)).trans (if_pos (h.imp_right (congrArg not))))

theorem Device.bar4Read_admitted (hin : d.aperture off + len ≤ hbmSize) (hnet : d.netAdmits true false .bar4 (d.aperture off) len = true) :
    d.bar4Read off len = match d.badIn (d.aperture off) len with
      | some w => (d.memErr true 4 10 0 w).completeRead 2 (d.hbmRead (d.aperture off) len)
      | none => d.completeRead 0 (d.hbmRead (d.aperture off) len) := by
  have hok : ¬(hbmSize < d.aperture off + len ∨ (!d.netAdmits true false .bar4 (d.aperture off) len) = true) := by
    rw [hnet]
    rintro (h | h)
    · exact absurd hin (Nat.not_le.2 h)
    · exact absurd h (by decide)
  exact (Device.bar4Read_taken hlinked hfits hsome hwiped).trans ((if_neg (by rw [hreach]; decide)).trans (if_neg hok))

end

end

end

section
variable {off : Nat} {bs : List Byte} {p : Bool}

theorem Device.bar4Write_ignored (h : d.hostLinked = false ∨ 2 ^ 32 < off + bs.length ∨ bs = [] ∨ d.flag R.WIPE_STAT_BUSY [] = true) :
    d.bar4Write off bs p = d := if_pos (h.imp_left (congrArg not))

section
variable (hlinked : d.hostLinked = true) (hfits : off + bs.length ≤ 2 ^ 32) (hsome : bs ≠ []) (hwiped : d.flag R.WIPE_STAT_BUSY [] = false)
include hlinked hfits hsome hwiped

theorem Device.bar4Write_taken : d.bar4Write off bs p = if !d.hostReach then if d.hst.memSpace then d else d.aerLog .unsupported
    else if p then d.aerLog .poisoned
    else if hbmSize < d.aperture off + bs.length ∨ !d.netAdmits true true .bar4 (d.aperture off) bs.length then
      (d.aerLog .unsupported).violation 10 1 (d.aperture off) bs.length (5 * 4096)
    else d.hbmWrite (d.aperture off) bs := by
  have hopen : ¬((!d.hostLinked) = true ∨ 2 ^ 32 < off + bs.length ∨ bs = [] ∨ d.flag R.WIPE_STAT_BUSY [] = true) := by
    rw [hlinked, hwiped]
    rintro (h | h | h | h)
    · exact absurd h (by decide)
    · omega
    · exact hsome h
    · exact absurd h (by decide)
  exact if_neg hopen

theorem Device.bar4Write_unreached (hreach : d.hostReach = false) :
    d.bar4Write off bs p = if d.hst.memSpace then d else d.aerLog .unsupported :=
  (Device.bar4Write_taken hlinked hfits hsome hwiped).trans (if_pos (by rw [hreach]; rfl))

section
variable (hreach : d.hostReach = true)
include hreach

theorem Device.bar4Write_poisoned : d.bar4Write off bs true = d.aerLog .poisoned :=
  (Device.bar4Write_taken hlinked hfits hsome hwiped).trans ((if_neg (by rw [hreach]; decide)).trans (if_pos rfl))

theorem Device.bar4Write_refused
    (h : hbmSize < d.aperture off + bs.length ∨ d.netAdmits true true .bar4 (d.aperture off) bs.length = false) :
    d.bar4Write off bs false = (d.aerLog .unsupported).violation 10 1 (d.aperture off) bs.length (5 * 4096) :=
  (Device.bar4Write_taken hlinked hfits hsome hwiped).trans
    ((if_neg (by rw [hreach]; decide)).trans ((if_neg (by decide)).trans (if_pos (h.imp_right (congrArg not)))))

theorem Device.bar4Write_stores (hin : d.aperture off + bs.length ≤ hbmSize)
    (hnet : d.netAdmits true true .bar4 (d.aperture off) bs.length = true) :
    d.bar4Write off bs false = d.hbmWrite (d.aperture off) bs := by
  have hok : ¬(hbmSize < d.aperture off + bs.length ∨ (!d.netAdmits true true .bar4 (d.aperture off) bs.length) = true) := by
    rw [hnet]
    rintro (h | h)
    · exact absurd hin (Nat.not_le.2 h)
    · exact absurd h (by decide)
  exact (Device.bar4Write_taken hlinked hfits hsome hwiped).trans
    ((if_neg (by rw [hreach]; decide)).trans ((if_neg (by decide)).trans (if_neg hok)))

end

end

end

/-! ### The aperture's base and bad accesses (R419, R423, R426) -/

theorem Device.apBaseWrite_takes {v : Nat} (h : v ≤ 1535) : d.apBaseWrite v = d.put R.HOST_AP_BASE_BASE [] v := by
  rw [Device.apBaseWrite, Nat.mod_eq_of_lt (by omega), if_neg (by omega)]

theorem Device.apBaseWrite_refuses {v : Nat} (hbig : 1535 < v) (hfits : v < 2048) :
    d.apBaseWrite v = d.setFlag R.DEV_STATUS_CFG_BAD [] true := by
  rw [Device.apBaseWrite, Nat.mod_eq_of_lt hfits, if_pos hbig]

theorem Device.barBad_logs (hlinked : d.hostLinked = true) (hawake : d.hst.d3hot = false) :
    d.barBad = if d.hst.memSpace then (d.bump R.HOST_LINK_BAD_ACCESS []).aerLog .unsupported else d.aerLog .unsupported :=
  if_neg (by rw [hlinked, hawake]; decide)

theorem Device.barBad_ignored (h : d.hostLinked = false ∨ d.hst.d3hot = true) : d.barBad = d := if_pos (h.imp_left (congrArg not))

/-! ### Configuration space, D3hot and link errors (R417, R425, R426, R428) -/

/-- The function as the host has configured it. -/
def Device.hostConfigured (d : Device) (c : HostCfg) : Device :=
  ({ d with hst := { d.hst with
    memSpace := c.memSpace, busMaster := c.busMaster, msixEnable := c.msixEnable, functionMask := c.functionMask,
    ptmEnable := c.ptmEnable, mps := clamp 128 512 c.mps.toNat, mrrs := clamp 128 4096 c.mrrs.toNat,
    bar0 := c.bar0.toNat / 2 ^ 16 * 2 ^ 16, bar2 := c.bar2.toNat / 2 ^ 26 * 2 ^ 26, bar4 := c.bar4.toNat / 2 ^ 32 * 2 ^ 32,
    relaxed := c.relaxed, tags14 := c.tags14, noTimeout := c.noTimeout } } : Device).setFlag R.PTM_STAT_ENABLED [] c.ptmEnable

theorem Device.busMasterChange_ignored (c : HostCfg) (h : d.hostLinked = false) : d.busMasterChange c = d := if_pos (by rw [h]; rfl)

section
variable {c : HostCfg} (hlinked : d.hostLinked = true)
include hlinked

theorem Device.busMasterChange_takes : d.busMasterChange c
    = if c.busMaster = true ∧ (!d.hst.d3hot) = true then (d.hostConfigured c).resumeStalled else (d.hostConfigured c).sendPending :=
  if_neg (by rw [hlinked]; decide)

theorem Device.busMasterChange_resumes (hmaster : c.busMaster = true) (hawake : d.hst.d3hot = false) :
    d.busMasterChange c = (d.hostConfigured c).resumeStalled :=
  (Device.busMasterChange_takes hlinked).trans (if_pos ⟨hmaster, by rw [hawake]; rfl⟩)

theorem Device.busMasterChange_sends (h : c.busMaster = false ∨ d.hst.d3hot = true) :
    d.busMasterChange c = (d.hostConfigured c).sendPending := by
  refine (Device.busMasterChange_takes hlinked).trans (if_neg ?_)
  rintro ⟨hmaster, hawake⟩
  rcases h with h | h
  · exact ne_true_of_eq_false h hmaster
  · rw [h] at hawake
    exact absurd hawake (by decide)

end

theorem Device.linkTlpError_logs {k : AerKind} (hup : d.hst.linkUp = true) (hk : k = .ecrc ∨ k = .fatal ∨ k = .correctable) :
    d.linkTlpError k = d.aerLog k := if_pos ⟨hup, hk⟩

theorem Device.linkTlpError_ignored {k : AerKind}
    (h : d.hst.linkUp = false ∨ k = .timeout ∨ k = .poisoned ∨ k = .abort ∨ k = .unsupported) : d.linkTlpError k = d := by
  refine if_neg ?_
  rintro ⟨hup, hk⟩
  rcases h with h | h
  · exact ne_true_of_eq_false h hup
  · rcases h with rfl | rfl | rfl | rfl <;> exact absurd hk (by decide)

/-! ### The link comes up (R414, R429) -/

theorem Device.get_bump_same (d : Device) {f : Fld} (ix : List Nat) (hf : f.fits = true) :
    (d.bump f ix).get f ix = min (2 ^ f.width - 1) (d.get f ix + 1) := by
  have hpos := Nat.two_pow_pos f.width
  rw [Device.bump, Device.bumpBy, Device.get_put_fit _ _ hf (by simp only [satAdd]; omega), satAdd, min_comm]

/-- A retraining is counted where the link was up. -/
def Device.retrained (d : Device) : Device := if d.hst.linkUp then d.bump R.HOST_LINK_RETRAINS [] else d

/-- The link as it has come up. -/
def Device.linkShown (d : Device) (speed width : Nat) (flit : Bool) : Device :=
  ((d.put R.HOST_LINK_SPEED [] speed).put R.HOST_LINK_WIDTH [] width).setFlag R.HOST_LINK_FLIT [] flit

/-- The link is up and the function ready for configuration. -/
def Device.linkReady (d : Device) : Device := { d with hst := { d.hst with linkUp := true, configReady := true } }

theorem Device.configReady_ready {speed width : Nat} {flit : Bool} (h : d.sec.inReset = false) :
    d.configReady speed width flit = d.retrained.linkReady.linkShown speed width flit := if_neg (ne_true_of_eq_false h)

theorem Device.retrained_hst (d : Device) : d.retrained.hst = d.hst := by
  unfold Device.retrained
  split <;> rfl

section
variable (d) (speed width : Nat) (flit : Bool)

theorem Device.linkShown_hst : (d.linkShown speed width flit).hst = d.hst := rfl

theorem Device.linkShown_speed : (d.linkShown speed width flit).get R.HOST_LINK_SPEED [] = speed % 2 ^ R.HOST_LINK_SPEED.width := by
  simp (disch := decide) only [Device.linkShown, Device.get_setFlag_beside, Device.get_put_beside, Device.get_put_same]

theorem Device.linkShown_width : (d.linkShown speed width flit).get R.HOST_LINK_WIDTH [] = width % 2 ^ R.HOST_LINK_WIDTH.width := by
  simp (disch := decide) only [Device.linkShown, Device.get_setFlag_beside, Device.get_put_same]

theorem Device.linkShown_flit : (d.linkShown speed width flit).flag R.HOST_LINK_FLIT [] = flit :=
  Device.flag_setFlag_same _ _ _ _ (by decide) (by decide)

theorem Device.linkShown_retrains : (d.linkShown speed width flit).get R.HOST_LINK_RETRAINS [] = d.get R.HOST_LINK_RETRAINS [] := by
  simp (disch := decide) only [Device.linkShown, Device.get_setFlag_beside, Device.get_put_beside]

end

theorem Device.linkReady_get (d : Device) (f : Fld) (ix : List Nat) : d.linkReady.get f ix = d.get f ix := rfl

theorem Device.linkReady_hst (d : Device) : d.linkReady.hst = { d.hst with linkUp := true, configReady := true } := rfl

end

/-! ### The rows -/

section
variable {s : State} (h : s.awake)
include h

theorem State.does_bar4Read (off len : Nat) : s.does (.bar4Read off len) (s.dev.bar4Read off len) :=
  State.does_of_live (f := fun d => d.bar4Read off len) rfl h rfl

theorem State.does_bar4Write (off : Nat) (bs : List Byte) (p : Bool) : s.does (.bar4Write off bs p) (s.dev.bar4Write off bs p) :=
  State.does_of_live (f := fun d => d.bar4Write off bs p) rfl h rfl

theorem State.does_hostApBaseWrite (v : Nat) : s.does (.hostApBaseWrite v) (if s.dev.hostReach then s.dev.apBaseWrite v else s.dev) :=
  State.does_of_live (f := fun d => d.apBaseHost v) rfl h rfl

theorem State.does_barBadAccess : s.does .barBadAccess s.dev.barBad := State.does_of_live (f := Device.barBad) rfl h rfl

theorem State.does_busMasterChange (c : HostCfg) : s.does (.busMasterChange c) (s.dev.busMasterChange c) :=
  State.does_of_live (f := fun d => d.busMasterChange c) rfl h rfl

theorem State.does_d3hotEntry :
    s.does .d3hotEntry (if s.dev.hostLinked then { s.dev with hst := { s.dev.hst with d3hot := true } } else s.dev) :=
  State.does_of_live (f := Device.d3hotEntry) rfl h rfl

theorem State.does_linkTlpError (k : AerKind) : s.does (.linkTlpError k) (s.dev.linkTlpError k) :=
  State.does_of_live (f := fun d => d.linkTlpError k) rfl h rfl

theorem State.does_configReady (speed width : Nat) (flit : Bool) :
    s.does (.configReady speed width flit) (s.dev.retrained.linkReady.linkShown speed width flit) :=
  State.does_of_live (f := fun d => d.configReady speed width flit) rfl h (Device.configReady_ready h)

end

/-- Settles O35: each row is one operation of the host link, and each clause one of its cases. -/
theorem hostLinkRows : Obligations.HostLinkRows := by
  unfold Obligations.HostLinkRows
  refine ⟨fun s off len bs p h hclosed => ?closed, fun s off len h hbad => ?readForm,
    fun s off len h hlinked hfits hsome hwiped hreach => ?readUnreached, fun s off len a h hreach hfits hsome hwiped ha => ?read,
    fun s off bs p h hbad => ?writeForm, fun s off bs p h hlinked hfits hsome hwiped hreach => ?writeUnreached,
    fun s off a bs h hreach hfits hsome hwiped ha => ?write, fun s v h hreach => ?base, fun s v h hreach => ?baseUnreached,
    fun s h hlinked hawake => ?bad, fun s h hno => State.does_congr (State.does_barBadAccess h) (Device.barBad_ignored hno),
    fun s c d h hlinked hd => ?config, fun s c h hlinked => ?unlinked, fun s h hlinked => ?d3hot, fun s k h => ?tlp,
    fun s speed width flit h => ?ready⟩
  case closed =>
    have hno : s.dev.hostLinked = false ∨ 2 ^ 32 < off + len ∨ len = 0 ∨ s.dev.flag R.WIPE_STAT_BUSY [] = true :=
      hclosed.imp_right fun hbusy => .inr (.inr hbusy)
    exact ⟨State.does_congr (State.does_bar4Read h off len) (Device.bar4Read_ignored hno),
      State.does_congr (State.does_bar4Write h off bs p)
        (Device.bar4Write_ignored (hclosed.imp_right fun hbusy => .inr (.inr hbusy)))⟩
  case readForm =>
    exact State.does_congr (State.does_bar4Read h off len) (Device.bar4Read_ignored (.inr (hbad.imp_right .inl)))
  case readUnreached =>
    have hdoes := State.does_congr (State.does_bar4Read h off len) (Device.bar4Read_unreached hlinked hfits hsome hwiped hreach)
    exact ⟨fun hmem => State.does_congr hdoes (congrArg (Device.completeRead · 1 []) (if_pos hmem)),
      fun hmem => State.does_congr hdoes (congrArg (Device.completeRead · 1 []) (if_neg (ne_true_of_eq_false hmem)))⟩
  case read =>
    have ha' : s.dev.aperture off = a := ha
    subst ha'
    have hlinked := Device.hostLinked_of_reach hreach
    refine ⟨fun hrefused => State.does_congr (State.does_bar4Read h off len)
        (Device.bar4Read_refused hlinked hfits hsome hwiped hreach hrefused), fun hin hnet hgood => ?_, fun w hin hnet hbad => ?_⟩
    · have hdoes := State.does_congr (State.does_bar4Read h off len)
        (Device.bar4Read_admitted hlinked hfits hsome hwiped hreach hin hnet)
      rw [hgood] at hdoes
      exact ⟨_, hdoes, rfl, rfl, rfl⟩
    · have hdoes := State.does_congr (State.does_bar4Read h off len)
        (Device.bar4Read_admitted hlinked hfits hsome hwiped hreach hin hnet)
      rw [hbad] at hdoes
      exact hdoes
  case writeForm =>
    exact State.does_congr (State.does_bar4Write h off bs p) (Device.bar4Write_ignored (.inr (hbad.imp_right .inl)))
  case writeUnreached =>
    have hdoes := State.does_congr (State.does_bar4Write h off bs p) (Device.bar4Write_unreached hlinked hfits hsome hwiped hreach)
    exact ⟨fun hmem => State.does_congr hdoes (if_pos hmem),
      fun hmem => State.does_congr hdoes (if_neg (ne_true_of_eq_false hmem))⟩
  case write =>
    have ha' : s.dev.aperture off = a := ha
    subst ha'
    have hlinked := Device.hostLinked_of_reach hreach
    exact ⟨State.does_congr (State.does_bar4Write h off bs true) (Device.bar4Write_poisoned hlinked hfits hsome hwiped hreach),
      fun hrefused => State.does_congr (State.does_bar4Write h off bs false)
        (Device.bar4Write_refused hlinked hfits hsome hwiped hreach hrefused),
      fun hin hnet => State.does_congr (State.does_bar4Write h off bs false)
        (Device.bar4Write_stores hlinked hfits hsome hwiped hreach hin hnet)⟩
  case base =>
    have hdoes := State.does_congr (State.does_hostApBaseWrite h v) (if_pos hreach)
    refine ⟨fun hle => ⟨_, State.does_congr hdoes (Device.apBaseWrite_takes hle), ?_, rfl⟩,
      fun hbig hfits => ⟨_, State.does_congr hdoes (Device.apBaseWrite_refuses hbig hfits), ?_, ?_⟩⟩
    · exact Device.get_put_lt _ _ (by decide) rfl (show v < 2048 by omega)
    · exact Device.flag_setFlag_same _ _ _ _ (by decide) (by decide)
    · exact Device.get_setFlag_beside _ _ _ (by decide)
  case baseUnreached => exact State.does_congr (State.does_hostApBaseWrite h v) (if_neg (ne_true_of_eq_false hreach))
  case bad =>
    have hdoes := State.does_congr (State.does_barBadAccess h) (Device.barBad_logs hlinked hawake)
    exact ⟨fun hmem => State.does_congr hdoes (if_pos hmem),
      fun hmem => State.does_congr hdoes (if_neg (ne_true_of_eq_false hmem))⟩
  case config =>
    have hd' : s.dev.hostConfigured c = d := hd
    subst hd'
    exact ⟨fun hmaster hawake => State.does_congr (State.does_busMasterChange h c) (Device.busMasterChange_resumes hlinked hmaster hawake),
      fun hno => State.does_congr (State.does_busMasterChange h c) (Device.busMasterChange_sends hlinked hno)⟩
  case unlinked =>
    exact ⟨State.does_congr (State.does_busMasterChange h c) (Device.busMasterChange_ignored c hlinked),
      State.does_congr (State.does_d3hotEntry h) (if_neg (ne_true_of_eq_false hlinked))⟩
  case d3hot => exact State.does_congr (State.does_d3hotEntry h) (if_pos hlinked)
  case tlp =>
    exact ⟨fun hup hk => State.does_congr (State.does_linkTlpError h k) (Device.linkTlpError_logs hup hk),
      fun hno => State.does_congr (State.does_linkTlpError h k) (Device.linkTlpError_ignored hno)⟩
  case ready =>
    refine ⟨_, State.does_configReady h speed width flit, ?_, Device.linkShown_speed _ _ _ _, Device.linkShown_width _ _ _ _,
      Device.linkShown_flit _ _ _ _, fun hdown => ?_, fun hup => ?_⟩
    · rw [Device.linkShown_hst, Device.linkReady_hst, Device.retrained_hst]
    · rw [Device.linkShown_retrains, Device.linkReady_get, Device.retrained, if_neg (ne_true_of_eq_false hdown)]
    · rw [Device.linkShown_retrains, Device.linkReady_get, Device.retrained, if_pos hup, Device.get_bump_same _ _ (by decide)]

end Sys2Proof.Machine
end

section
/-! Scope: the registers that a write to a booth, or to a control register with a GO bit, finds woken (R33). -/

namespace Sys2Proof.Machine

/-- A booth wakes in its state register alone. -/
theorem Device.wake_writes (d : Device) (b : Nat) : d.WritesIn (· = R.BOOTH_STATE.addr [b]) (d.wake b) := by
  have hself : d.WritesIn (· = R.BOOTH_STATE.addr [b]) d := Device.WritesIn.refl d _
  exact (hself.put (f := R.BOOTH_STATE_STATE) 1 rfl).ite hself

/-- The registers that a GO of control register `r` in booth `b` writes first. -/
def wokenArea (b : Nat) (r : Reg) (a : Nat) : Prop := a = R.BOOTH_STATE.addr [b] ∨ a = r.addr []

theorem Device.goWoken_writes (d : Device) (b : Nat) (r : Reg) : d.WritesIn (wokenArea b r) (d.goWoken b r) :=
  ((d.wake_writes b).mono fun _ ha => .inl ha).wr (r := r) (ix := []) _ (.inr rfl)

theorem Device.wake_sec (d : Device) (b : Nat) : (d.wake b).sec = d.sec := (d.wake_writes b).sec

theorem Device.wake_ctl (d : Device) (b : Nat) : (d.wake b).ctl = d.ctl := (d.wake_writes b).ctl

theorem Device.wake_tt (d : Device) (b : Nat) : (d.wake b).tt = d.tt := by rw [Device.tt, Device.wake_tim, ← Device.tt]

theorem Device.goWoken_sec (d : Device) (b : Nat) (r : Reg) : (d.goWoken b r).sec = d.sec := (d.goWoken_writes b r).sec

theorem Device.goWoken_hbm (d : Device) (b : Nat) (r : Reg) : (d.goWoken b r).hbm = d.hbm := (d.goWoken_writes b r).hbm

end Sys2Proof.Machine
end

section
/-! Scope: the security unit (R446, R448, R451, R452, R457 to R461, R463): each operation case by case, and the rows. -/

namespace Sys2Proof.Machine

section
variable {d : Device}

/-! ### The floor (R446) -/

theorem Device.svnDone_raises (h : d.flag R.SEC_SVN_REQ_BUSY [] = true) : d.svnDone =
    (((d.setSec { d.sec with floor := max d.sec.floor d.sec.svnTarget, svnTarget := 0 }).setFlag R.SEC_SVN_REQ_BUSY [] false).put
      R.SEC_SVN_FLOOR [] (max d.sec.floor d.sec.svnTarget)).finish 0x0E04 [] stOK (leBytes 2 (max d.sec.floor d.sec.svnTarget)) :=
  if_neg (by rw [h]; decide)

theorem Device.svnDone_idle (h : d.flag R.SEC_SVN_REQ_BUSY [] = false) : d.svnDone = d := if_pos (by rw [h]; rfl)

/-! ### Signed requests (R448, R463) -/

/-- A request of one of the two lengths that lies in the region at a multiple of 64 bytes is read, any other as no bytes. -/
def Device.requestRead (d : Device) : List Byte :=
  if (d.get R.SEC_REQ_CTL_LEN [] = 320 ∨ d.get R.SEC_REQ_CTL_LEN [] = 520) ∧ d.get R.SEC_REQ_ADDR_ADDR [] % 64 = 0
      ∧ inRegion (d.get R.SEC_REQ_ADDR_ADDR []) (d.get R.SEC_REQ_CTL_LEN []) then
    d.hbmRead (d.get R.SEC_REQ_ADDR_ADDR [] - rmBase) (d.get R.SEC_REQ_CTL_LEN [])
  else []

/-- The unit has taken a request. -/
def Device.requestTaken (d : Device) (rq : List Byte) : Device :=
  (d.setSec { d.sec with request := rq }).setFlag R.SEC_REQ_CTL_BUSY [] true

theorem Device.requestTaken_sec (rq : List Byte) : (d.requestTaken rq).sec = { d.sec with request := rq } := rfl

theorem Device.requestTaken_busy (rq : List Byte) : (d.requestTaken rq).flag R.SEC_REQ_CTL_BUSY [] = true :=
  Device.flag_setFlag_same _ _ _ _ (by decide) (by decide)

theorem Device.requestGo_takes (h : d.flag R.SEC_REQ_CTL_BUSY [] = false) : d.requestGo = d.requestTaken d.requestRead :=
  if_neg (ne_true_of_eq_false h)

theorem Device.requestGo_busy (h : d.flag R.SEC_REQ_CTL_BUSY [] = true) : d.requestGo = d := if_pos h

theorem Device.goWoken_requestRead (d : Device) : (d.goWoken 14 R.SEC_REQ_CTL).requestRead = d.requestRead := by
  have hread : ∀ a n, (d.goWoken 14 R.SEC_REQ_CTL).hbmRead a n = d.hbmRead a n := fun a n => by
    rw [Device.hbmRead, Device.goWoken_hbm, ← Device.hbmRead]
  simp (disch := decide) only [Device.requestRead, Device.goWoken_get, hread]

/-- The result of a check stands, and what it lets a request do is done. -/
def Device.requestJudged (d : Device) : Device :=
  let t := if d.requestCheck d.sec.request false = 0 then d.requestDone d.sec.request else d
  (((t.setSec { t.sec with request := [] }).setFlag R.SEC_REQ_CTL_BUSY [] false).setFlag R.SEC_REQ_CTL_DONE [] true).put
    R.SEC_REQ_CTL_RESULT [] (d.requestCheck d.sec.request false)

/-- The oldest request that waits goes to the unit. -/
def Device.requestNext (d : Device) : Device :=
  match d.requestWork with
  | some w => d.requestSubmit (keyBytes w.key)
  | none => d

/-- The command that asked for the check of `rq` is answered with its result `r`. -/
def Device.requestAnswered (d : Device) (rq : List Byte) (r : Nat) (w : Work) : Device :=
  d.finishWork w (requestStatus r) (if r = 0 ∧ w.opcode = 0x0E03 then
    [BitVec.ofNat 8 (d.sec.lcCount + b2n (isTransition rq && decide (fieldAt rq 17 1 ≠ lcSCRAPPED)))] else [])

theorem Device.requestEnd_idle (h : d.flag R.SEC_REQ_CTL_BUSY [] = false) : d.requestEnd = d := if_pos (by rw [h]; rfl)

section
variable (hbusy : d.flag R.SEC_REQ_CTL_BUSY [] = true)
include hbusy

theorem Device.requestEnd_unasked (h : d.requestJudged.requestWork = none) : d.requestEnd = d.requestJudged := by
  rw [Device.requestEnd, if_neg (by rw [hbusy]; decide)]
  simp only [← Device.requestJudged.eq_1, h]

theorem Device.requestEnd_other {w : Work} (h : d.requestJudged.requestWork = some w) (hkey : keyBytes w.key ≠ d.sec.request) :
    d.requestEnd = d.requestJudged.requestSubmit (keyBytes w.key) := by
  rw [Device.requestEnd, if_neg (by rw [hbusy]; decide)]
  simp only [← Device.requestJudged.eq_1, h, if_pos hkey]

theorem Device.requestEnd_asked {w : Work} (h : d.requestJudged.requestWork = some w) (hkey : keyBytes w.key = d.sec.request) :
    d.requestEnd = (d.requestJudged.requestAnswered d.sec.request (d.requestCheck d.sec.request false) w).requestNext := by
  rw [Device.requestEnd, if_neg (by rw [hbusy]; decide)]
  simp only [← Device.requestJudged.eq_1, h, if_neg (not_not.mpr hkey)]
  rfl

end

/-! ### Quotes (R458, R459, R461) -/

/-- A quote is under way. -/
def Device.quoteTaken (d : Device) : Device := (d.setSec { d.sec with quote := d.quoteBytes }).setFlag R.SEC_Q_CTL_BUSY [] true

theorem Device.quoteTaken_busy : d.quoteTaken.flag R.SEC_Q_CTL_BUSY [] = true := Device.flag_setFlag_same _ _ _ _ (by decide) (by decide)

theorem Device.quoteGo_busy (h : d.flag R.SEC_Q_CTL_BUSY [] = true) : d.quoteGo = d := if_pos h

theorem Device.quoteGo_takes (hfree : d.flag R.SEC_Q_CTL_BUSY [] = false) (hkey : d.sec.idKey.isSome = true) : d.quoteGo = d.quoteTaken := by
  have hsome : ¬ d.sec.idKey.isNone = true := by
    rw [← Option.not_isSome, hkey]
    decide
  exact (if_neg (ne_true_of_eq_false hfree)).trans (if_neg hsome)

theorem Device.quoteGo_refuses (hfree : d.flag R.SEC_Q_CTL_BUSY [] = false) (hkey : d.sec.idKey = none) :
    d.quoteGo = d.setFlag R.SEC_Q_CTL_REFUSED [] true :=
  (if_neg (ne_true_of_eq_false hfree)).trans (if_pos (by rw [hkey]; rfl))

/-- A row of registers that reads the same spells the same bytes. -/
theorem flatMap_rd_congr {t : Device} {q : Reg} {n : Nat} (h : ∀ k, k < n → t.rd q [k] = d.rd q [k]) :
    (List.range n).flatMap (fun k => leBytes 8 (t.rd q [k]).toNat) = (List.range n).flatMap (fun k => leBytes 8 (d.rd q [k]).toNat) :=
  List.flatMap_congr fun k hk => by rw [h k (List.mem_range.1 hk)]

/-- A GO of SEC_Q_CTL moves nothing that a quote tells. -/
theorem Device.goWoken_quoteBytes (d : Device) : (d.goWoken 14 R.SEC_Q_CTL).quoteBytes = d.quoteBytes := by
  have hrow : ∀ (q : Reg) (n : Nat), (∀ k : Fin n, q.addr [k.val] ≠ R.BOOTH_STATE.addr [14] ∧ q.addr [k.val] ≠ R.SEC_Q_CTL.addr []) →
      (List.range n).flatMap (fun k => leBytes 8 ((d.goWoken 14 R.SEC_Q_CTL).rd q [k]).toNat)
        = (List.range n).flatMap (fun k => leBytes 8 (d.rd q [k]).toNat) := fun q n hq =>
    flatMap_rd_congr fun k hk => (d.goWoken_writes 14 R.SEC_Q_CTL).regs q [k] (not_or.mpr (hq ⟨k, hk⟩))
  simp (disch := decide) only [Device.quoteBytes, Device.digestOf, Device.cfgDigest, Device.lifecycle, Device.sdn, Device.goWoken_get,
    Device.goWoken_sec, Device.goWoken_tt, hrow R.SEC_Q_NONCE 4 (by decide), hrow R.SEC_FWHASH 6 (by decide), hrow R.NET_HASH 6 (by decide),
    hrow R.SEC_CFG 6 (by decide)]

theorem Device.quoteDone_idle (h : d.flag R.SEC_Q_CTL_BUSY [] = false) : d.quoteDone = d := if_pos (by rw [h]; rfl)

/-- A quote is no longer under way. -/
def Device.quoteFree (d : Device) : Device := d.setFlag R.SEC_Q_CTL_BUSY [] false

/-- The signed quote is written: `r` the signature and the device that has drawn its number. -/
def Device.quoteWritten (d : Device) (r : List Byte × Device) : Device :=
  let a := d.get R.SEC_Q_ADDR_ADDR []
  let t := if inRegion a 352 then r.2.hbmWrite (a - rmBase) (d.sec.quote ++ r.1) else r.2
  (t.setFlag R.SEC_Q_CTL_DONE [] true).setSec { t.sec with quote := [] }

section
variable (hbusy : d.flag R.SEC_Q_CTL_BUSY [] = true)
include hbusy

section
variable {key : Nat} {r : List Byte × Device} (hkey : d.sec.idKey = some key) (hsign : d.quoteFree.signWith key d.quoteFree.sec.quote = r)
include hkey hsign

theorem Device.quoteDone_unasked (h : (d.quoteFree.quoteWritten r).attestWork = none) : d.quoteDone = d.quoteFree.quoteWritten r := by
  have hkey' : (d.setFlag R.SEC_Q_CTL_BUSY [] false).sec.idKey = some key := hkey
  rw [Device.quoteDone, if_neg (by rw [hbusy]; decide)]
  simp only [hkey']
  subst hsign
  simp only [← Device.quoteFree.eq_1, ← Device.quoteWritten.eq_1, h]

theorem Device.quoteDone_asked {w : Work} (h : (d.quoteFree.quoteWritten r).attestWork = some w) :
    d.quoteDone = if keyBytes w.key = (d.quoteFree.sec.quote.drop 40).take 32 then
        Device.attestNext 64 ((d.quoteFree.quoteWritten r).finishOut w stOK [] (d.quoteFree.sec.quote ++ r.1))
      else Device.attestNext 64 (d.quoteFree.quoteWritten r) := by
  have hkey' : (d.setFlag R.SEC_Q_CTL_BUSY [] false).sec.idKey = some key := hkey
  rw [Device.quoteDone, if_neg (by rw [hbusy]; decide)]
  simp only [hkey']
  subst hsign
  simp only [← Device.quoteFree.eq_1, ← Device.quoteWritten.eq_1, h]

end

/-- A quote is refused, its key gone. -/
def Device.quoteRefused (d : Device) : Device := d.quoteFree.setFlag R.SEC_Q_CTL_REFUSED [] true

section
variable (hkey : d.sec.idKey = none)
include hkey

theorem Device.quoteDone_keyGone (h : d.quoteRefused.attestWork = none) : d.quoteDone = d.quoteRefused := by
  have hkey' : (d.setFlag R.SEC_Q_CTL_BUSY [] false).sec.idKey = none := hkey
  have hwork : ((d.setFlag R.SEC_Q_CTL_BUSY [] false).setFlag R.SEC_Q_CTL_REFUSED [] true).attestWork = none := h
  rw [Device.quoteDone, if_neg (by rw [hbusy]; decide)]
  simp only [hkey', hwork]
  rfl

theorem Device.quoteDone_keyGoneAsked {w : Work} (h : d.quoteRefused.attestWork = some w) :
    d.quoteDone = Device.attestNext 64 (d.quoteRefused.finishWork w 0x0E13 []) := by
  have hkey' : (d.setFlag R.SEC_Q_CTL_BUSY [] false).sec.idKey = none := hkey
  have hwork : ((d.setFlag R.SEC_Q_CTL_BUSY [] false).setFlag R.SEC_Q_CTL_REFUSED [] true).attestWork = some w := h
  rw [Device.quoteDone, if_neg (by rw [hbusy]; decide)]
  simp only [hkey', hwork]
  rfl

end

end

end

end Sys2Proof.Machine
end

section
/-! Scope: debug access, the life cycle, SDN and the flash (R451, R452, R457, R460, R461, R438): each operation case by case, and the
rows of the security unit. -/

namespace Sys2Proof.Machine

section
variable {d : Device}

/-! ### Challenges (R460) -/

/-- The words of the live challenge, drawn anew. -/
def Device.challengeWord (d : Device) (k : Nat) : Word := BitVec.ofNat 64 (fieldAt (d.secret 32).1 (8 * k) 8)

theorem debugChallenge_addr_ne {j k : Nat} (h : j ≠ k) : R.SEC_DBG_CHAL.addr [k] ≠ R.SEC_DBG_CHAL.addr [j] := by
  simp only [R.SEC_DBG_CHAL, Reg.addr, strideSum]
  omega

theorem debugChallenge_beside_ctl (k : Fin 4) : R.SEC_DBG_CHAL.addr [k.val] ≠ R.SEC_DBG_CTL.addr [] := by revert k; decide

/-- The words of a new challenge stand in its registers. -/
def Device.challengeDrawn (d : Device) : Device :=
  (List.range 4).foldl (fun t k => t.wr R.SEC_DBG_CHAL [k] (d.challengeWord k)) (d.secret 32).2

theorem Device.newChallenge_eq (d : Device) : d.newChallenge =
    (d.challengeDrawn.setSec { d.challengeDrawn.sec with chalTT := d.challengeDrawn.tt }).setFlag R.SEC_DBG_CTL_CHAL_VALID [] true := rfl

theorem Device.challengeDrawn_sec (d : Device) : d.challengeDrawn.sec = d.sec :=
  Device.foldl_wr_rest (d.secret 32).2 R.SEC_DBG_CHAL d.challengeWord 4 Device.sec fun t _ => t.wr_sec _ _ _

theorem Device.challengeDrawn_tt (d : Device) : d.challengeDrawn.tt = d.tt :=
  Device.foldl_wr_rest (d.secret 32).2 R.SEC_DBG_CHAL d.challengeWord 4 Device.tt fun _ _ => rfl

theorem Device.challengeDrawn_rd (d : Device) (k : Fin 4) : d.challengeDrawn.rd R.SEC_DBG_CHAL [k.val] = d.challengeWord k.val :=
  Device.foldl_wr_rd (d.secret 32).2 R.SEC_DBG_CHAL d.challengeWord k.isLt fun _ _ hj => debugChallenge_addr_ne hj

theorem Device.newChallenge_sec (d : Device) : d.newChallenge.sec = { d.sec with chalTT := d.tt } := by
  have hdrawn : d.newChallenge.sec = { d.challengeDrawn.sec with chalTT := d.challengeDrawn.tt } := rfl
  rw [hdrawn, Device.challengeDrawn_sec, Device.challengeDrawn_tt]

theorem Device.newChallenge_valid (d : Device) : d.newChallenge.flag R.SEC_DBG_CTL_CHAL_VALID [] = true :=
  Device.flag_setFlag_same _ _ _ _ (by decide) (by decide)

theorem Device.newChallenge_rd (d : Device) (k : Fin 4) : d.newChallenge.rd R.SEC_DBG_CHAL [k.val] = d.challengeWord k.val := by
  rw [Device.newChallenge_eq, Device.rd_setFlag_ne _ _ (debugChallenge_beside_ctl k), Device.setSec_rd, Device.challengeDrawn_rd]

/-- What is drawn depends on the number of draws alone. -/
theorem Device.wake_challengeWord (d : Device) (b k : Nat) : (d.wake b).challengeWord k = d.challengeWord k := by
  have hdraws : ∀ t : Device, t.challengeWord k
    = BitVec.ofNat 64 (fieldAt ((List.range 32).map (Config.secretByte t.ctl.draws)) (8 * k) 8) := fun _ => rfl
  rw [hdraws, hdraws, Device.wake_ctl]

theorem Device.endChallenge_sec (d : Device) : d.endChallenge.sec = d.sec :=
  Device.foldl_wr_rest d R.SEC_DBG_CHAL (fun _ => 0) 4 Device.sec fun t _ => t.wr_sec _ _ _

theorem Device.endChallenge_dead (d : Device) : d.endChallenge.flag R.SEC_DBG_CTL_CHAL_VALID [] = false :=
  Device.flag_setFlag_same _ _ _ _ (by decide) (by decide)

theorem Device.endChallenge_rd (d : Device) (k : Fin 4) : d.endChallenge.rd R.SEC_DBG_CHAL [k.val] = 0 :=
  (Device.rd_setFlag_ne (f := R.SEC_DBG_CTL_CHAL_VALID) _ _ (debugChallenge_beside_ctl k)).trans
    (Device.foldl_wr_rd d R.SEC_DBG_CHAL (fun _ => 0) k.isLt fun _ _ hj => debugChallenge_addr_ne hj)

theorem Device.challengeExpire_ends (hvalid : d.flag R.SEC_DBG_CTL_CHAL_VALID [] = true)
    (hover : (60000000000 * 65536 : Int) ≤ ttDiff d.tt d.sec.chalTT) : d.challengeExpire = d.endChallenge := if_pos ⟨hvalid, hover⟩

theorem Device.challengeExpire_lives
    (h : d.flag R.SEC_DBG_CTL_CHAL_VALID [] = false ∨ ttDiff d.tt d.sec.chalTT < 60000000000 * 65536) : d.challengeExpire = d := by
  refine if_neg ?_
  rintro ⟨hvalid, hover⟩
  rcases h with h | h
  · exact ne_true_of_eq_false h hvalid
  · exact absurd hover (not_le.2 h)

/-! ### DEBUG requests and the life cycle through JTAG (R451, R452, R460) -/

theorem Device.jtagRequest_refused {rq : List Byte} (h : d.lifecycle = lcSCRAPPED ∨ d.requestCheck rq true ≠ 0) : d.jtagRequest rq = d := by
  unfold Device.jtagRequest
  rcases h with h | h
  · exact if_pos h
  · rw [if_neg h, ite_self]

theorem Device.jtagRequest_opens {rq : List Byte} (hlife : d.lifecycle ≠ lcSCRAPPED) (h : d.requestCheck rq true = 0) :
    d.jtagRequest rq = d.requestDone rq := (if_neg hlife).trans (if_pos h)

theorem Device.wipeKeys_sec (d : Device) : d.wipeKeys.sec = { d.sec with idKey := none, sealKey := none } := rfl

theorem Device.wipeKeys_idReady (d : Device) : d.wipeKeys.flag R.SEC_STAT_ID_READY [] = false :=
  (Device.flag_setFlag_beside (f := R.MB_STAT_KEY_READY) _ _ _ (by decide)).trans
    (Device.flag_setFlag_same _ _ _ _ (by decide) (by decide))

theorem Device.wipeKeys_keyReady (d : Device) : d.wipeKeys.flag R.MB_STAT_KEY_READY [] = false :=
  Device.flag_setFlag_same _ _ _ _ (by decide) (by decide)

/-- A change of the life cycle is accepted: the key cache is wiped. -/
def Device.lifeChanged (d : Device) (c : LcChange) : Device := (d.setSec { d.sec with change := some c }).wipeKeys

theorem Device.lifeChanged_sec (c : LcChange) : (d.lifeChanged c).sec = { d.sec with change := some c, idKey := none, sealKey := none } := rfl

/-- The change that provisions a board. -/
def Device.provisionChange (d : Device) (hs : List (List Byte)) : LcChange where
  vendor := hs.take 4
  seed := (d.secret 48).1
  toState := lcPROVISIONED
  since := d.tt

theorem Device.jtagProvision_changes {hs : List (List Byte)} (hblank : d.lifecycle = lcBLANK) (hnone : d.sec.change = none)
    (hfree : d.sec.freeRecord.isSome = true) : d.jtagProvision hs = (d.secret 48).2.lifeChanged (d.provisionChange hs) := by
  refine if_neg ?_
  rintro (h | h | h)
  · exact h hblank
  · rw [hnone] at h
    exact absurd h (by decide)
  · rw [← Option.not_isSome, hfree] at h
    exact absurd h (by decide)

theorem Device.jtagProvision_ignored {hs : List (List Byte)}
    (h : d.lifecycle ≠ lcBLANK ∨ d.sec.change.isSome = true ∨ d.sec.freeRecord = none) : d.jtagProvision hs = d :=
  if_pos (h.imp_right fun h => h.imp_right fun h => by rw [h]; rfl)

/-- The change that scraps a board. -/
def Device.scrapChange (d : Device) : LcChange := { toState := lcSCRAPPED, since := d.tt }

theorem Device.jtagScrap_changes (hlife : d.lifecycle = lcBLANK ∨ d.lifecycle = lcPROVISIONED) (hnone : d.sec.change = none) :
    d.jtagScrap = d.lifeChanged d.scrapChange := by
  refine if_neg ?_
  rintro (⟨hblank, hprov⟩ | h)
  · exact hlife.elim hblank hprov
  · rw [hnone] at h
    exact absurd h (by decide)

theorem Device.jtagScrap_ignored (h : d.lifecycle ≠ lcBLANK ∧ d.lifecycle ≠ lcPROVISIONED ∨ d.sec.change.isSome = true) :
    d.jtagScrap = d := if_pos h

/-! ### SDN (R457) and the flash (R438) -/

theorem Device.wake_mode (d : Device) : (d.wake 14).mode = d.mode := Device.get_of_rd (d.wake_rd_ne (by decide))

theorem Device.sdnWrite_startup {n : Nat} (hn : n < 65536) (h : d.mode = 0) : (d.sdnWrite n).sdn = n := by
  rw [Device.sdnWrite, if_pos h]
  exact Device.get_put_fit _ _ (by decide) hn

theorem Device.sdnWrite_later {n : Nat} (h : d.mode ≠ 0) : d.sdnWrite n = d := if_neg h

theorem Device.sdnWrite_sec (n : Nat) : (d.sdnWrite n).sec = d.sec := by
  unfold Device.sdnWrite
  split <;> rfl

theorem Device.flashDone_job {j : FlashJob} {rest : List FlashJob} (h : d.sec.jobs = j :: rest) : d.flashDone =
    (d.setSec { d.sec with flash := writeBytes d.sec.flash 255 j.addr j.data, jobs := rest }).finish j.opcode [j.key] stOK [] := by
  rw [Device.flashDone, h]

theorem Device.flashDone_idle (h : d.sec.jobs = []) : d.flashDone = d := by rw [Device.flashDone, h]

/-! ### Accesses through an open JTAG port (R460) -/

/-- The level at which the port stands open, 0 while it is closed. -/
def Device.jtagLevel (d : Device) : Nat := if d.flag R.SEC_STAT_DEBUG_OPEN [] then d.get R.SEC_STAT_DEBUG_LEVEL [] else 0

theorem Device.jtagLevel_open (h : d.flag R.SEC_STAT_DEBUG_OPEN [] = true) : d.jtagLevel = d.get R.SEC_STAT_DEBUG_LEVEL [] := if_pos h

theorem Device.jtagAccess_closed {op : Jtag} (h : d.flag R.SEC_STAT_DEBUG_OPEN [] = false ∨ d.get R.SEC_STAT_DEBUG_LEVEL [] = 0) :
    d.jtagAccess op = d := by
  have hlevel : d.jtagLevel = 0 := by
    rcases h with h | h
    · exact if_neg (ne_true_of_eq_false h)
    · rw [Device.jtagLevel, h, ite_self]
  exact if_pos (.inr hlevel)

/-- What a read of half `h` shows of a register's word. -/
def halfBytes (h : Half) (v : Word) : List Byte :=
  if h = .full then leBytes 8 v.toNat else leBytes 4 (v.toNat / (if h = .hi then 2 ^ 32 else 1))

theorem halfBytes_full (v : Word) : halfBytes .full v = leBytes 8 v.toNat := rfl

theorem halfBytes_hi (v : Word) : halfBytes .hi v = leBytes 4 (v.toNat / 2 ^ 32) := rfl

theorem halfBytes_lo (v : Word) : halfBytes .lo v = leBytes 4 v.toNat := congrArg (leBytes 4) (Nat.div_one _)

section
variable (hopen : ¬(d.sec.inReset = true ∨ d.jtagLevel = 0)) {a n : Nat}
include hopen

theorem Device.jtagAccess_halt : d.jtagAccess .halt = d.setSec { d.sec with jtagHalted := true } := if_neg hopen

theorem Device.jtagAccess_resume : d.jtagAccess .resume = d.setSec { d.sec with jtagHalted := false } := if_neg hopen

theorem Device.jtagAccess_step : d.jtagAccess .step = d := if_neg hopen

theorem Device.jtagAccess_writeReg (v : Word) : d.jtagAccess (.writeReg a v) = if inWindows a then d.ringmasterStore a .full v else d :=
  if_neg hopen

theorem Device.jtagAccess_readReg (h : Half) : d.jtagAccess (.readReg a h)
    = if inWindows a then (d.loadReg a h).2.jtagShow (some (halfBytes h (d.loadReg a h).1)) else d := if_neg hopen

theorem Device.jtagAccess_readMem :
    d.jtagAccess (.readMem a n) = if d.jtagLevel < 2 then d else (d.loadMem a (min n 4096)).2.jtagShow (d.loadMem a (min n 4096)).1 :=
  if_neg hopen

theorem Device.jtagAccess_writeMem (bs : List Byte) :
    d.jtagAccess (.writeMem a bs) = if d.jtagLevel < 2 then d else d.storeMem a bs := if_neg hopen

theorem Device.jtagAccess_reads (ha : inWindows a = true) (h : Half) {v : Word} {t : Device} (hload : d.loadReg a h = (v, t)) :
    d.jtagAccess (.readReg a h) = t.jtagShow (some (halfBytes h v)) := by
  rw [Device.jtagAccess_readReg hopen, if_pos ha, hload]

end

end

/-! ### The rows -/

section
variable {s : State} (h : s.awake)
include h

theorem State.does_secSvnReqWrite {target : Nat} (ht : target < 8192) :
    s.does (.secSvnReqWrite target) ((s.dev.goWoken 14 R.SEC_SVN_REQ).svnRequest target) :=
  State.does_of_live (f := fun d => d.strike [] [(R.SEC_SVN_REQ_TARGET, target)]) rfl h
    ((s.dev.struck_svnRequest target).trans (congrArg _ (Nat.mod_eq_of_lt ht)))

theorem State.does_svnProgramDone : s.does .svnProgramDone s.dev.svnDone := State.does_of_live (f := Device.svnDone) rfl h rfl

theorem State.does_secRequestGo : s.does .secRequestGo (s.dev.goWoken 14 R.SEC_REQ_CTL).requestGo :=
  State.does_of_live (f := fun d => d.strike [] [(R.SEC_REQ_CTL_GO, 1)]) rfl h s.dev.struck_requestGo

theorem State.does_secRequestCheckDone : s.does .secRequestCheckDone s.dev.requestEnd :=
  State.does_of_live (f := Device.requestEnd) rfl h rfl

theorem State.does_secQuoteGo : s.does .secQuoteGo (s.dev.goWoken 14 R.SEC_Q_CTL).quoteGo :=
  State.does_of_live (f := fun d => d.strike [] [(R.SEC_Q_CTL_GO, 1)]) rfl h s.dev.struck_quoteGo

theorem State.does_quoteDone : s.does .quoteDone s.dev.quoteDone := State.does_of_live (f := Device.quoteDone) rfl h rfl

theorem State.does_secNewChallenge : s.does .secNewChallenge (s.dev.wake 14).newChallenge :=
  State.does_of_live (f := fun d => d.strike [] [(R.SEC_DBG_CTL_NEW_CHAL, 1)]) rfl h s.dev.struck_newChallenge

theorem State.does_jtagNewChallenge :
    s.does .jtagNewChallenge (if s.dev.lifecycle = lcSCRAPPED then s.dev else s.dev.newChallenge) :=
  State.does_of_live (f := Device.jtagChallenge) rfl h rfl

theorem State.does_debugChallengeExpire : s.does .debugChallengeExpire s.dev.challengeExpire :=
  State.does_of_live (f := Device.challengeExpire) rfl h rfl

theorem State.does_jtagDebugRequest (rq : List Byte) : s.does (.jtagDebugRequest rq) (s.dev.jtagRequest rq) :=
  State.does_of_live (f := fun d => d.jtagRequest rq) rfl h rfl

theorem State.does_jtagProvision (hs : List (List Byte)) : s.does (.jtagProvision hs) (s.dev.jtagProvision hs) :=
  State.does_of_live (f := fun d => d.jtagProvision hs) rfl h rfl

theorem State.does_jtagScrap : s.does .jtagScrap s.dev.jtagScrap := State.does_of_live (f := Device.jtagScrap) rfl h rfl

theorem State.does_secSdnWrite {n : Nat} (hn : n < 65536) : s.does (.secSdnWrite n) ((s.dev.wake 14).sdnWrite n) :=
  State.does_of_live (f := fun d => d.strike [] [(R.SEC_SDN_SDN, n)]) rfl h
    ((s.dev.struck_sdnWrite n).trans (congrArg _ (Nat.mod_eq_of_lt hn)))

theorem State.does_flashWriteDone : s.does .flashWriteDone s.dev.flashDone := State.does_of_live (f := Device.flashDone) rfl h rfl

/-- On a device that is ready an access through JTAG is one operation. -/
theorem State.does_jtagDebugAccess (hready : s.dev.ready = true) (op : Jtag) : s.does (.jtagDebugAccess op) (s.dev.jtagAccess op) :=
  State.does_of_liveReady (f := fun d => d.jtagAccess op) rfl h (.inl hready) rfl

end

/-- Settles O38: each row is one operation of the unit, and each clause one of its cases. -/
theorem securityRows : Obligations.SecurityRows := by
  unfold Obligations.SecurityRows
  refine ⟨fun s target d h ht hd => ?svn, fun s d h hbusy hd => ?svnDone,
    fun s h hfree => State.does_congr (State.does_svnProgramDone h) (Device.svnDone_idle hfree),
    fun s n a h hfree hn ha => ?request, fun s h hbusy => ?requestBusy,
    fun s h hfree => State.does_congr (State.does_secRequestCheckDone h) (Device.requestEnd_idle hfree),
    fun s r d e h hbusy hr hd he => ?checked, fun s h hfree => ?quote, fun s h hbusy => ?quoteBusy,
    fun s h hfree => State.does_congr (State.does_quoteDone h) (Device.quoteDone_idle hfree),
    fun s key a d e f sig h hbusy hkey hd hsign ha hf => ?quoted, fun s d h hbusy hkey hd => ?keyGone, fun s k h => ?challenge,
    fun s h => ?jtagChallenge, fun s h hvalid hover => ?expires,
    fun s h hno => State.does_congr (State.does_debugChallengeExpire h) (Device.challengeExpire_lives hno),
    fun s rq h => ?debugRequest, fun s hs h => ?provision, fun s h => ?scrap, fun s n h hn => ?sdn,
    fun s j rest h hjobs => State.does_congr (State.does_flashWriteDone h) (Device.flashDone_job hjobs),
    fun s h hjobs => State.does_congr (State.does_flashWriteDone h) (Device.flashDone_idle hjobs), fun s op h hclosed => ?closed,
    fun s a n bs v half d o h hready hopen hlevel => ?access⟩
  case svn =>
    subst hd
    have hdoes := State.does_secSvnReqWrite h ht
    have hsec := s.dev.goWoken_sec 14 R.SEC_SVN_REQ
    have hself : ∀ {f : Fld}, f.reg.reset = R.SEC_SVN_REQ.reset →
        (s.dev.goWoken 14 R.SEC_SVN_REQ).get f [] = (s.dev.wake 14).get f [] := fun hf => Device.get_wr_self _ _ _ _ _ fun _ => hf
    have hbusy : (s.dev.goWoken 14 R.SEC_SVN_REQ).flag R.SEC_SVN_REQ_BUSY [] = (s.dev.wake 14).flag R.SEC_SVN_REQ_BUSY [] :=
      Device.flag_of_get (hself rfl)
    have hsvn : (s.dev.goWoken 14 R.SEC_SVN_REQ).get R.SEC_BOOT_IMAGE_SVN [] = (s.dev.wake 14).get R.SEC_BOOT_IMAGE_SVN [] := hself rfl
    rw [← hsvn, ← hbusy, ← hsec]
    exact ⟨fun hrun => ⟨_, State.does_congr hdoes (Device.svnRequest_busy hrun), rfl, hrun⟩,
      fun hfree hlow => ⟨_, State.does_congr hdoes (Device.svnRequest_asks hfree hlow), rfl, Device.svnAsked_busy _,
        fun hcap => Device.svnAsked_capped hcap _⟩,
      fun hfree hmet => ⟨_, State.does_congr hdoes (Device.svnRequest_stands hfree hmet), Device.svnCapped_sec _ _,
        (Device.svnCapped_busy _ _).trans hfree, Device.svnCapped_capped⟩⟩
  case svnDone =>
    subst hd
    exact State.does_congr (State.does_svnProgramDone h) (Device.svnDone_raises hbusy)
  case request =>
    subst hn ha
    have hfree' := (s.dev.goWoken_flag (b := 14) (r := R.SEC_REQ_CTL) (f := R.SEC_REQ_CTL_BUSY) (by decide)).trans hfree
    have hdoes := State.does_congr (State.does_secRequestGo h) (Device.requestGo_takes hfree')
    rw [Device.goWoken_requestRead] at hdoes
    refine ⟨fun hlen halign hin => ⟨_, hdoes, ?_, Device.requestTaken_busy _⟩, fun hbad => ⟨_, hdoes, ?_, Device.requestTaken_busy _⟩⟩
    · rw [Device.requestTaken_sec, Device.goWoken_sec, Device.requestRead, if_pos ⟨hlen, halign, hin⟩]
    · rw [Device.requestTaken_sec, Device.goWoken_sec, Device.requestRead, if_neg]
      rintro ⟨hlen, halign, hin⟩
      rcases hbad with ⟨h320, h520⟩ | hbad | hbad
      · exact hlen.elim h320 h520
      · exact hbad halign
      · exact ne_true_of_eq_false hbad hin
  case requestBusy =>
    have hbusy' := (s.dev.goWoken_flag (b := 14) (r := R.SEC_REQ_CTL) (f := R.SEC_REQ_CTL_BUSY) (by decide)).trans hbusy
    exact ⟨_, State.does_congr (State.does_secRequestGo h) (Device.requestGo_busy hbusy'), s.dev.goWoken_sec _ _⟩
  case checked =>
    subst hr hd
    have he' : s.dev.requestJudged = e := he
    subst he'
    refine ⟨fun hnone => State.does_congr (State.does_secRequestCheckDone h) (Device.requestEnd_unasked hbusy hnone),
      fun w hw hkey => State.does_congr (State.does_secRequestCheckDone h) (Device.requestEnd_other hbusy hw hkey),
      fun w f hw hkey hf => ?_⟩
    subst hf
    exact State.does_congr (State.does_secRequestCheckDone h) (Device.requestEnd_asked hbusy hw hkey)
  case quote =>
    have hfree' := (s.dev.goWoken_flag (b := 14) (r := R.SEC_Q_CTL) (f := R.SEC_Q_CTL_BUSY) (by decide)).trans hfree
    have hsec := s.dev.goWoken_sec 14 R.SEC_Q_CTL
    refine ⟨fun hkey => ⟨_, State.does_congr (State.does_secQuoteGo h) (Device.quoteGo_takes hfree' (by rwa [hsec])), ?_,
        Device.quoteTaken_busy⟩,
      fun hkey => ⟨_, State.does_congr (State.does_secQuoteGo h) (Device.quoteGo_refuses hfree' (by rwa [hsec])), hsec,
        Device.flag_setFlag_same _ _ _ _ (by decide) (by decide)⟩⟩
    rw [← hsec, ← s.dev.goWoken_quoteBytes]
    rfl
  case quoteBusy =>
    have hbusy' := (s.dev.goWoken_flag (b := 14) (r := R.SEC_Q_CTL) (f := R.SEC_Q_CTL_BUSY) (by decide)).trans hbusy
    exact ⟨_, State.does_congr (State.does_secQuoteGo h) (Device.quoteGo_busy hbusy'), s.dev.goWoken_sec _ _⟩
  case quoted =>
    have hd' : s.dev.quoteFree = d := hd
    subst hd' ha
    have hf' : s.dev.quoteFree.quoteWritten (sig, e) = f := hf
    subst hf'
    refine ⟨fun hnone => State.does_congr (State.does_quoteDone h) (Device.quoteDone_unasked hbusy hkey hsign hnone),
      fun w hw hasked => ?_, fun w hw hother => ?_⟩
    · exact State.does_congr (State.does_quoteDone h) ((Device.quoteDone_asked hbusy hkey hsign hw).trans (if_pos hasked))
    · exact State.does_congr (State.does_quoteDone h) ((Device.quoteDone_asked hbusy hkey hsign hw).trans (if_neg hother))
  case keyGone =>
    have hd' : s.dev.quoteRefused = d := hd
    subst hd'
    exact ⟨fun hnone => State.does_congr (State.does_quoteDone h) (Device.quoteDone_keyGone hbusy hkey hnone),
      fun w hw => State.does_congr (State.does_quoteDone h) (Device.quoteDone_keyGoneAsked hbusy hkey hw)⟩
  case challenge =>
    refine ⟨_, State.does_secNewChallenge h, ?_, Device.newChallenge_valid _, ?_⟩
    · rw [Device.newChallenge_sec, Device.wake_sec, Device.wake_tt]
    · rw [Device.newChallenge_rd, Device.wake_challengeWord, Device.challengeWord]
  case jtagChallenge =>
    exact ⟨fun hlife => State.does_congr (State.does_jtagNewChallenge h) (if_neg hlife),
      fun hlife => State.does_congr (State.does_jtagNewChallenge h) (if_pos hlife)⟩
  case expires =>
    exact ⟨_, State.does_congr (State.does_debugChallengeExpire h) (Device.challengeExpire_ends hvalid hover), Device.endChallenge_dead _,
      Device.endChallenge_sec _, Device.endChallenge_rd _⟩
  case debugRequest =>
    exact ⟨fun hno => State.does_congr (State.does_jtagDebugRequest h rq) (Device.jtagRequest_refused hno),
      fun hlife hok => State.does_congr (State.does_jtagDebugRequest h rq) (Device.jtagRequest_opens hlife hok)⟩
  case provision =>
    exact ⟨fun hblank hnone hfree => ⟨_, State.does_congr (State.does_jtagProvision h hs) (Device.jtagProvision_changes hblank hnone hfree),
        rfl, rfl, rfl, Device.wipeKeys_idReady _, Device.wipeKeys_keyReady _⟩,
      fun hno => State.does_congr (State.does_jtagProvision h hs) (Device.jtagProvision_ignored hno)⟩
  case scrap =>
    exact ⟨fun hlife hnone => ⟨_, State.does_congr (State.does_jtagScrap h) (Device.jtagScrap_changes hlife hnone), rfl, rfl, rfl,
        Device.wipeKeys_idReady _⟩,
      fun hno => State.does_congr (State.does_jtagScrap h) (Device.jtagScrap_ignored hno)⟩
  case sdn =>
    have hsec := s.dev.wake_sec 14
    refine ⟨fun hstart => ⟨_, State.does_secSdnWrite h hn, Device.sdnWrite_startup hn (s.dev.wake_mode.trans hstart),
        (Device.sdnWrite_sec n).trans hsec⟩,
      fun hlater => ⟨_, State.does_congr (State.does_secSdnWrite h hn) (Device.sdnWrite_later (by rwa [Device.wake_mode])), ?_, hsec⟩⟩
    exact Device.get_of_rd (s.dev.wake_rd_ne (by decide))
  case closed =>
    have hready : s.dev.ready = true ∨ s.dev.ready = false := by cases s.dev.ready <;> decide
    exact State.does_of_liveReady (f := fun d => d.jtagAccess op) rfl h hready (Device.jtagAccess_closed hclosed)
  case access =>
    have hat := Device.jtagLevel_open hopen
    have hlive : ¬(s.dev.sec.inReset = true ∨ s.dev.jtagLevel = 0) := by
      rw [hat]
      rintro (hreset | hzero)
      · exact ne_true_of_eq_false h hreset
      · omega
    have hdoes : ∀ {op : Jtag} {t : Device}, s.dev.jtagAccess op = t → s.does (.jtagDebugAccess op) t :=
      fun heq => State.does_congr (State.does_jtagDebugAccess h hready _) heq
    refine ⟨hdoes (Device.jtagAccess_halt hlive), hdoes (Device.jtagAccess_resume hlive), hdoes (Device.jtagAccess_step hlive),
      fun ha => hdoes ((Device.jtagAccess_writeReg hlive v).trans (if_pos ha)),
      fun ha hload => hdoes (Device.jtagAccess_reads hlive ha .full hload), fun ha hload => hdoes ?_,
      fun ha hload => hdoes (Device.jtagAccess_reads hlive ha .hi hload), fun ha => ?_, fun hone => ?_, fun htwo hload => hdoes ?_,
      fun htwo => hdoes ?_⟩
    · rw [Device.jtagAccess_reads hlive ha .lo hload, halfBytes_lo]
    · exact ⟨hdoes ((Device.jtagAccess_writeReg hlive v).trans (if_neg (ne_true_of_eq_false ha))),
        hdoes ((Device.jtagAccess_readReg hlive half).trans (if_neg (ne_true_of_eq_false ha)))⟩
    · have hlow : s.dev.jtagLevel < 2 := by omega
      exact ⟨hdoes ((Device.jtagAccess_readMem hlive).trans (if_pos hlow)),
        hdoes ((Device.jtagAccess_writeMem hlive bs).trans (if_pos hlow))⟩
    · rw [Device.jtagAccess_readMem hlive, if_neg (by omega), hload]
    · rw [Device.jtagAccess_writeMem hlive, if_neg (by omega)]

end Sys2Proof.Machine
end

section
/-! Scope: the motion axes (R42, R390, R392, R395, R397, R399, R404, R406, R407, R411, R412): requests, the servo boundary, the inputs,
power down and driver faults, case by case, and the rows. -/

namespace Sys2Proof.Machine

/-! ### Requests (R42, R411) -/

theorem Device.wake_mot (d : Device) (b : Nat) : (d.wake b).mot = d.mot := (d.wake_writes b).mot

theorem Device.wake_axis (d : Device) (b a : Nat) : (d.wake b).axis a = d.axis a := by
  rw [Device.axis, Device.wake_mot, ← Device.axis]

/-- While the motion supervisor has the booth, a write to one of its registers is ignored. -/
theorem Device.strike_taken {d : Device} {ix : List Nat} {f : Fld} {v : Nat} {fs : List (Fld × Nat)}
    (hb : boothOf (f.reg.addr ix) = some 12) (ht : d.motionTaken = true) : d.strike ix ((f, v) :: fs) = d := by
  have hstore : ∀ mask w, d.storeReg .ringmaster (f.reg.addr ix) mask w = (false, d) := fun mask w => by
    unfold Device.storeReg
    rw [hb]
    cases findReg (f.reg.addr ix) with
    | none => rfl
    | some row => exact if_pos (.inr ⟨rfl, ht⟩)
  have hreg : ∀ mask w, d.regStore (f.reg.addr ix) mask w = d := fun mask w => by
    simp only [Device.regStore, hstore, Bool.false_eq_true, if_false]
  exact hreg _ _

/-- An axis with a request that awaits its boundary. -/
def Device.axisAsked (d : Device) (a : Nat) (x : AxisX) : Device := (d.wake 12).setAxis a x

theorem Device.axisAsked_axis (d : Device) (a : Nat) (x : AxisX) : (d.axisAsked a x).axis a = x := Device.setAxis_same _ _ _

theorem Device.axisAsked_tim (d : Device) (a : Nat) (x : AxisX) : (d.axisAsked a x).tim = d.tim := (Device.setAxis_tim _ _ _).trans (d.wake_tim 12)

section
variable {d : Device} {a : Nat}

/-! ### The servo boundary (R390) -/

/-- The set-point of the period before is kept, and on the trail while a search for home runs. -/
def Device.periodBegun (d : Device) (a : Nat) : Device :=
  d.setAxis a { d.axis a with
    prev := (d.axis a).setPoint, arrived := false,
    trail := if (d.axis a).home = 1 ∨ (d.axis a).home = 2 then (d.tt, (d.axis a).setPoint) :: (d.axis a).trail.take 2700 else [] }

/-- The boundary up to the set-point it shows: pending writes, the end of the period before, EN, requests, the profile's next period. -/
def Device.boundaryProfile (d : Device) (a : Nat) : Device :=
  let d1 := (d.settleAt d.tt (axisAddr a)).takeRequests a
  let d3 := (((d1.setAxis a { d1.axis a with bound := d1.tt }).periodDone a).periodBegun a).takeEnable a (d.enWritten a)
  (((if d3.motionTaken then d3 else d3.serveRequests a).narrowAxis a).profileStep a).showAxis a

/-- The drive through the period: the sensed currents, the current regulation, and the duties of each PWM cycle. -/
def Device.boundaryDrive (d : Device) (a : Nat) (samples : List (Int × Int)) (load : Nat) : Device :=
  let last := samples.getLast?.getD (0, 0)
  let first := samples.head?.getD (0, 0)
  let d6 := if d.flag R.CD_CTL_SENSE_EN [a] then (d.put R.CD_ICUR_IA [a] (code 16 last.1)).put R.CD_ICUR_IB [a] (code 16 last.2) else d
  let d7 := (d6.judgeStrong a first.1 first.2).currentStep a load
  let n := max 1 (d7.get R.CD_CTL_PWM_KHZ [a] * d7.get R.MP_SERVO_SERVO_NS [a] / 1000000)
  (((List.range n).foldl (fun t k => t.pwmCycle a n k
    (if d.flag R.CD_CTL_SENSE_EN [a] then (samples.getD k last).1 else 0)
    (if d.flag R.CD_CTL_SENSE_EN [a] then (samples.getD k last).2 else 0)) d7).stallStep a).showAxis a

theorem Device.servoBoundary_early {samples : List (Int × Int)} {load : Nat} (h : d.boundaryDue a = false) :
    d.servoBoundary a samples load = d := if_pos (by rw [h]; rfl)

theorem Device.servoBoundary_due {samples : List (Int × Int)} {load : Nat} (h : d.boundaryDue a = true) :
    d.servoBoundary a samples load = (d.boundaryProfile a).boundaryDrive a samples load := if_neg (by rw [h]; decide)

/-! ### Step edges (R395, R397) -/

/-- The step target moved by one step of `n`, back or forth. -/
def AxisX.stepped (x : AxisX) (back : Bool) (n : Int) : AxisX := { x with steps := if back then x.steps - n else x.steps + n }

section
variable {dir : Bool}

theorem Device.stepEdge_ignored (h : d.get R.MP_CTL_MODE [a] ≠ 3 ∨ d.motionTaken = true
    ∨ (d.axis a).towardLimit (xor dir (d.flag R.MP_STEPIN_DIR_INV [a])) = true) : d.stepEdge a dir = d := if_pos h

section
variable (hmode : d.get R.MP_CTL_MODE [a] = 3) (htaken : d.motionTaken = false)
  (hlimit : (d.axis a).towardLimit (xor dir (d.flag R.MP_STEPIN_DIR_INV [a])) = false)
include hmode htaken hlimit

theorem Device.stepEdge_counted : d.stepEdge a dir =
    if (d.axis a).run ≠ 1 ∨ (d.axis a).home ≠ 0 ∨ (!d.axisOn a) = true then
      d.setAxis a { d.axis a with lostSteps := (d.axis a).lostSteps + 1 }
    else d.setAxis a ((d.axis a).stepped (xor dir (d.flag R.MP_STEPIN_DIR_INV [a]))
      (d.get R.MP_STEPIN_STEP_RES [a])) := by
  refine if_neg ?_
  rintro (h | h | h)
  · exact h hmode
  · exact ne_true_of_eq_false htaken h
  · exact ne_true_of_eq_false hlimit h

theorem Device.stepEdge_lost (h : (d.axis a).run ≠ 1 ∨ (d.axis a).home ≠ 0 ∨ d.axisOn a = false) :
    d.stepEdge a dir = d.setAxis a { d.axis a with lostSteps := (d.axis a).lostSteps + 1 } :=
  (Device.stepEdge_counted hmode htaken hlimit).trans (if_pos (h.imp_right fun h => h.imp_right (congrArg not)))

theorem Device.stepEdge_moves (hrun : (d.axis a).run = 1) (hhome : (d.axis a).home = 0) (hon : d.axisOn a = true) :
    d.stepEdge a dir = d.setAxis a ((d.axis a).stepped (xor dir (d.flag R.MP_STEPIN_DIR_INV [a]))
      (d.get R.MP_STEPIN_STEP_RES [a])) := by
  refine (Device.stepEdge_counted hmode htaken hlimit).trans (if_neg ?_)
  rintro (h | h | h)
  · exact h hrun
  · exact h hhome
  · rw [hon] at h
    exact absurd h (by decide)

end

end

/-! ### End limits (R397, R399, R412) -/

/-- The end limit on one side is active. -/
def AxisX.limited (x : AxisX) (negative : Bool) : AxisX := { x with limN := x.limN || negative, limP := x.limP || !negative }

/-- The axis moves toward the side. -/
def AxisX.moves (x : AxisX) (negative : Bool) : Prop := if negative then x.vel < 0 else 0 < x.vel

/-- A motion into an end limit is marked and counted, and fires its event. -/
def Device.limitMarked (d : Device) (a : Nat) : Device :=
  ((d.setFlag R.MP_EVT_LIMIT_HIT [a] true).bump R.MP_CNT_LIMITS [a]).fireIf R.MP_EV_LIMIT_EV_EN R.MP_EV_LIMIT_EV [a]

/-- What an end limit does to the axis `x` that moved into it. -/
def Device.limitStops (d : Device) (a : Nat) (x : AxisX) : Device :=
  if x.home = 1 then
    if x.homeTrips = 0 then d.setAxis a { x with home := 2, homeTrips := 1 }
    else (d.axisStop a 2).setFlag R.MP_EVT_HOME_LIMIT [a] true
  else if x.home = 3 then d.setAxis a { x with homeStop := true }
  else if x.run = 2 then d
  else d.axisStop a 2

theorem AxisX.limited_eq (x : AxisX) (negative : Bool) :
    (if negative then { x with limN := true } else { x with limP := true }) = x.limited negative := by
  cases negative <;> simp [AxisX.limited]

theorem AxisX.moves_iff (x : AxisX) (negative : Bool) :
    (if negative then decide (x.vel < 0) else decide (0 < x.vel)) = true ↔ x.moves negative := by
  cases negative <;> simp [AxisX.moves]

section
variable {negative : Bool} {x : AxisX} (hx : (d.axis a).limited negative = x)
include hx

theorem Device.limitTrip_passes (h : ¬ x.moves negative) : d.limitTrip a negative = d.setAxis a x := by
  subst hx
  rw [Device.limitTrip]
  simp only [AxisX.limited_eq]
  exact if_pos (by rw [eq_false_of_ne_true (mt (AxisX.moves_iff _ _).mp h)]; rfl)

theorem Device.limitTrip_hits (h : x.moves negative) :
    d.limitTrip a negative = ((d.setAxis a x).limitMarked a).limitStops a x := by
  subst hx
  rw [Device.limitTrip]
  simp only [AxisX.limited_eq]
  exact if_neg (by rw [(AxisX.moves_iff _ _).mpr h]; decide)

end

theorem Device.limitRelease_eq (negative : Bool) : d.limitRelease a negative = d.setAxis a { d.axis a with
    limN := (d.axis a).limN && !negative, limP := (d.axis a).limP && negative } := by
  cases negative <;> simp [Device.limitRelease]

/-! ### Driver faults (R138, R407) -/

/-- A fault of a driver that was enabled is recorded. -/
def Device.faultNoted (d : Device) (a : Nat) : Device :=
  if d.flag R.CD_STAT_EN_OUT [a] then d.logRecord (d.newRecord 4 1 12 (2 ^ a) false d.setPoints) else d

/-- A cut that overrides a ramp of the motion supervisor is marked: `cut`, the driver was enabled. -/
def Device.rampMarked (d : Device) (cut : Bool) (x : AxisX) : Device :=
  if cut && d.motionTaken && !x.still then d.markMotionCut else d

theorem Device.axisFault_standing (h : (d.axis a).flt = true) : d.axisFault a = d := if_pos h

theorem Device.axisFault_cuts (h : (d.axis a).flt = false) : d.axisFault a =
    (((((d.faultNoted a).rampMarked (d.flag R.CD_STAT_EN_OUT [a]) (d.axis a)).setAxis a { d.axis a with flt := true }).setFlag
      R.CD_STAT_FLT [a] true).cutAxis a 5).fireIf R.MP_EV_FAULT_EV_EN R.MP_EV_FAULT_EV [a] := by
  have hmark : (if d.flag R.CD_STAT_EN_OUT [a] = true ∧ (d.faultNoted a).motionTaken = true ∧ (!(d.axis a).still) = true then
      (d.faultNoted a).markMotionCut else d.faultNoted a) = (d.faultNoted a).rampMarked (d.flag R.CD_STAT_EN_OUT [a]) (d.axis a) :=
    if_congr (by simp [and_assoc]) rfl rfl
  rw [← hmark]
  exact if_neg (ne_true_of_eq_false h)

theorem Device.axisFaultGone_axis (d : Device) (a : Nat) : (d.axisFaultGone a).axis a = { d.axis a with flt := false } :=
  Device.setAxis_same d a _

theorem Device.axisFaultGone_flt (d : Device) (a : Nat) : (d.axisFaultGone a).flag R.CD_STAT_FLT [a] = false :=
  Device.flag_setFlag_same _ _ _ _ (by decide) (by decide)

/-! ### Power down (R406) -/

theorem Device.powerDown_sleeps (hen : d.flag R.MP_CFG_PD_EN [a] = true) (hstate : d.get R.MP_STAT_STATE [a] = 1)
    (hstill : (d.axis a).still = true) (hpd : (d.axis a).pd = false) (hwake : (d.axis a).wake = none)
    (hover : (d.get R.MP_CFG_PD_MS [a] * 1000000 * 65536 : Nat) ≤ ttDiff d.tt (d.axis a).restSince) :
    d.powerDown a = (d.setAxis a { d.axis a with pd := true }).axisOff a :=
  if_pos ⟨hen, hstate, hstill, by rw [hpd]; rfl, by rw [hwake]; rfl, hover⟩

theorem Device.powerDown_stays (h : d.flag R.MP_CFG_PD_EN [a] = false ∨ d.get R.MP_STAT_STATE [a] ≠ 1 ∨ (d.axis a).still = false
    ∨ (d.axis a).pd = true ∨ (d.axis a).wake ≠ none
    ∨ ttDiff d.tt (d.axis a).restSince < (d.get R.MP_CFG_PD_MS [a] * 1000000 * 65536 : Nat)) : d.powerDown a = d := by
  refine if_neg ?_
  rintro ⟨hen, hstate, hstill, hpd, hwake, hover⟩
  rcases h with h | h | h | h | h | h
  · exact ne_true_of_eq_false h hen
  · exact h hstate
  · exact ne_true_of_eq_false h hstill
  · rw [h] at hpd
    exact absurd hpd (by decide)
  · exact h (Option.isNone_iff_eq_none.mp hwake)
  · exact absurd hover (not_le.2 h)

theorem Device.wakeDone_woken {t : TT} (h : (d.axis a).wake = some t) : d.wakeDone a =
    if (2000000 * 65536 : Int) ≤ ttDiff d.tt t then d.setAxis a { d.axis a with goReq := true } else d := by
  have hcases : d.wakeDone a = match (d.axis a).wake with
    | some t => if (2000000 * 65536 : Int) ≤ ttDiff d.tt t then d.setAxis a { d.axis a with goReq := true } else d
    | none => d := by
    unfold Device.wakeDone
    rfl
  generalize { d.axis a with goReq := true } = x at hcases ⊢
  rw [hcases, h]

theorem Device.wakeDone_idle (h : (d.axis a).wake = none) : d.wakeDone a = d := by rw [Device.wakeDone, h]

end

/-! ### The rows -/

section
variable {s : State} (h : s.awake) (a : Fin 4)
include h

section
variable (hfree : s.dev.motionTaken = false)
include hfree

theorem State.does_mpGoWrite : s.does (.mpGoWrite a) (s.dev.axisAsked a.val { (s.dev.wake 12).axis a.val with goReq := true }) :=
  State.does_of_live (f := fun d => d.strike [a.val] [(R.MP_CTL_GO, 1)]) rfl h (s.dev.struck_mpGoReq a hfree)

theorem State.does_mpStopWrite : s.does (.mpStopWrite a) (s.dev.axisAsked a.val { (s.dev.wake 12).axis a.val with stopReq := true }) :=
  State.does_of_live (f := fun d => d.strike [a.val] [(R.MP_CTL_STOP, 1)]) rfl h (s.dev.struck_mpStopReq a hfree)

theorem State.does_mpSetPosWrite : s.does (.mpSetPosWrite a) (s.dev.axisAsked a.val { (s.dev.wake 12).axis a.val with setReq := true }) :=
  State.does_of_live (f := fun d => d.strike [a.val] [(R.MP_CTL_SET_POS, 1)]) rfl h (s.dev.struck_mpSetReq a hfree)

theorem State.does_mpHomeGo : s.does (.mpHomeGo a) (s.dev.axisAsked a.val { (s.dev.wake 12).axis a.val with homeReq := true }) :=
  State.does_of_live (f := fun d => d.strike [a.val] [(R.MP_HOME_GO, 1)]) rfl h (s.dev.struck_mpHome a hfree)

end

theorem State.does_servoPeriodBoundary (samples : List (Int × Int)) (load : Nat) :
    s.does (.servoPeriodBoundary a samples load) (s.dev.servoBoundary a.val samples load) :=
  State.does_of_live (f := fun d => d.servoBoundary a.val samples load) rfl h rfl

theorem State.does_stepInputEdge (dir : Bool) : s.does (.stepInputEdge a dir) (s.dev.stepEdge a.val dir) :=
  State.does_of_live (f := fun d => d.stepEdge a.val dir) rfl h rfl

theorem State.does_limitSwitch (negative : Bool) : s.does (.limitSwitch a negative) (s.dev.limitTrip a.val negative) :=
  State.does_of_live (f := fun d => d.limitTrip a.val negative) rfl h rfl

theorem State.does_endLimitRelease (negative : Bool) : s.does (.endLimitRelease a negative) (s.dev.limitRelease a.val negative) :=
  State.does_of_live (f := fun d => d.limitRelease a.val negative) rfl h rfl

theorem State.does_axisFaultInput : s.does (.axisFaultInput a) (s.dev.axisFault a.val) :=
  State.does_of_live (f := fun d => d.axisFault a.val) rfl h rfl

theorem State.does_axisFaultRelease : s.does (.axisFaultRelease a) (s.dev.axisFaultGone a.val) :=
  State.does_of_live (f := fun d => d.axisFaultGone a.val) rfl h rfl

theorem State.does_axisPowerDown : s.does (.axisPowerDown a) (s.dev.powerDown a.val) :=
  State.does_of_live (f := fun d => d.powerDown a.val) rfl h rfl

theorem State.does_axisWakeHoldDone : s.does (.axisWakeHoldDone a) (s.dev.wakeDone a.val) :=
  State.does_of_live (f := fun d => d.wakeDone a.val) rfl h rfl

end

/-- Settles O34: each row is one operation of an axis, and each clause one of its cases. -/
theorem motionRows : Obligations.MotionRows := by
  unfold Obligations.MotionRows
  refine ⟨fun s a x h hfree hx => ?asked, fun s a h htaken => ?taken, fun s a samples load h hearly => ?early, ?boundary,
    fun s a dir back x n h hx hmode hfree hback hlimit hn => ?step,
    fun s a dir h hno => State.does_congr (State.does_stepInputEdge h a dir) (Device.stepEdge_ignored hno),
    fun s a negative x h hx haway => ?passes, fun s a negative x d h hx htoward hd => ?hits,
    fun s a negative h => State.does_congr (State.does_endLimitRelease h a negative) (Device.limitRelease_eq negative),
    fun s a x d e h hx hflt hd he => ?faults,
    fun s a h hflt => State.does_congr (State.does_axisFaultInput h a) (Device.axisFault_standing hflt),
    fun s a h => ⟨_, State.does_axisFaultRelease h a, Device.axisFaultGone_axis _ _, Device.axisFaultGone_flt _ _⟩,
    fun s a x h hx hen hstate hstill hpd hwake hover => ?sleeps, fun s a x h hx hno => ?stays, fun s a x t h hx hwake => ?woken,
    fun s a h hwake => State.does_congr (State.does_axisWakeHoldDone h a) (Device.wakeDone_idle hwake)⟩
  case asked =>
    subst hx
    have haxis : ∀ y, (s.dev.axisAsked a.val y).axis a.val = y := fun y => s.dev.axisAsked_axis a.val y
    rw [← s.dev.wake_axis 12]
    exact ⟨⟨_, State.does_mpGoWrite h a hfree, haxis _, s.dev.axisAsked_tim _ _⟩, ⟨_, State.does_mpStopWrite h a hfree, haxis _, s.dev.axisAsked_tim _ _⟩,
      ⟨_, State.does_mpSetPosWrite h a hfree, haxis _, s.dev.axisAsked_tim _ _⟩, ⟨_, State.does_mpHomeGo h a hfree, haxis _, s.dev.axisAsked_tim _ _⟩⟩
  case taken =>
    have hctl : ∀ a : Fin 4, boothOf (R.MP_CTL.addr [a.val]) = some 12 := by decide +kernel
    have hhome : ∀ a : Fin 4, boothOf (R.MP_HOME.addr [a.val]) = some 12 := by decide +kernel
    exact ⟨State.does_of_live (f := fun d => d.strike [a.val] [(R.MP_CTL_GO, 1)]) rfl h (Device.strike_taken (hctl a) htaken),
      State.does_of_live (f := fun d => d.strike [a.val] [(R.MP_CTL_STOP, 1)]) rfl h (Device.strike_taken (hctl a) htaken),
      State.does_of_live (f := fun d => d.strike [a.val] [(R.MP_CTL_SET_POS, 1)]) rfl h (Device.strike_taken (hctl a) htaken),
      State.does_of_live (f := fun d => d.strike [a.val] [(R.MP_HOME_GO, 1)]) rfl h (Device.strike_taken (hhome a) htaken)⟩
  case early => exact State.does_congr (State.does_servoPeriodBoundary h a samples load) (Device.servoBoundary_early hearly)
  case boundary =>
    intro s a samples load n d1 d2 d3 d4 d5 d6 d7 fst lst h hdue h1 h2 h3 h4 h5 hfst hlst h6 h7 hn
    subst h1 h2 h3 h4
    have h5' : s.dev.boundaryProfile a.val = d5 := h5
    subst h5' hfst hlst h6 h7 hn
    exact State.does_congr (State.does_servoPeriodBoundary h a samples load) (Device.servoBoundary_due hdue)
  case step =>
    subst hx hback hn
    have hdoes := fun hrun hhome hon => State.does_congr (State.does_stepInputEdge h a dir)
      (Device.stepEdge_moves hmode hfree hlimit hrun hhome hon)
    refine ⟨fun hrun hhome hon hforth => ?_, fun hrun hhome hon hback => ?_,
      fun hno => State.does_congr (State.does_stepInputEdge h a dir) (Device.stepEdge_lost hmode hfree hlimit hno)⟩
    · have hmoved := hdoes hrun hhome hon
      rwa [AxisX.stepped, if_neg (ne_true_of_eq_false hforth)] at hmoved
    · have hmoved := hdoes hrun hhome hon
      rwa [AxisX.stepped, if_pos hback] at hmoved
  case passes =>
    refine State.does_congr (State.does_limitSwitch h a negative) (Device.limitTrip_passes hx ?_)
    cases negative
    · exact not_lt.2 haway
    · exact not_lt.2 haway
  case hits =>
    have hd' : (s.dev.setAxis a.val x).limitMarked a.val = d := hd
    subst hd'
    have hdoes := State.does_congr (State.does_limitSwitch h a negative) (Device.limitTrip_hits hx htoward)
    exact ⟨fun hhome htrips => State.does_congr hdoes ((if_pos hhome).trans (if_pos htrips)),
      fun hhome htrips => State.does_congr hdoes ((if_pos hhome).trans (if_neg htrips)),
      fun hhome => State.does_congr hdoes ((if_neg (by omega)).trans (if_pos hhome)),
      fun h1 h3 hrun => State.does_congr hdoes ((if_neg h1).trans ((if_neg h3).trans (if_pos hrun))),
      fun h1 h3 hrun => State.does_congr hdoes ((if_neg h1).trans ((if_neg h3).trans (if_neg hrun)))⟩
  case faults =>
    subst hx
    have hd' : s.dev.faultNoted a.val = d := hd
    subst hd'
    have he' : (s.dev.faultNoted a.val).rampMarked (s.dev.flag R.CD_STAT_EN_OUT [a.val]) (s.dev.axis a.val) = e := he
    subst he'
    exact State.does_congr (State.does_axisFaultInput h a) (Device.axisFault_cuts hflt)
  case sleeps =>
    subst hx
    exact State.does_congr (State.does_axisPowerDown h a) (Device.powerDown_sleeps hen hstate hstill hpd hwake hover)
  case stays =>
    subst hx
    exact State.does_congr (State.does_axisPowerDown h a) (Device.powerDown_stays hno)
  case woken =>
    subst hx
    have hdoes := State.does_congr (State.does_axisWakeHoldDone h a) (Device.wakeDone_woken hwake)
    exact ⟨fun hover => State.does_congr hdoes (if_pos hover), fun hwaits => State.does_congr hdoes (if_neg (not_le.2 hwaits))⟩

end Sys2Proof.Machine
end
